-- ==== Sys2Proof/Word.lean ====
section
/-! DEFINITION. The word types: bytes, byte strings, and the plainest arithmetic on them. -/

namespace Sys2Proof

/-- One byte on the wire, in host memory or in a module memory. -/
abbrev Byte := BitVec 8

/-- A byte string, lowest address or first transmitted byte first. -/
abbrev Bytes := List Byte

/-- A cell key of the object dictionary (R31): index, row, subindex. For an object that is not a TABLE the row is 0. -/
structure Key where
  idx : Nat
  row : Nat
  sub : Nat
deriving DecidableEq, Repr

/-- Ascending order of keys (R47): index, then row, then subindex. -/
def Key.lt (a b : Key) : Bool :=
  a.idx < b.idx || (a.idx == b.idx && (a.row < b.row || (a.row == b.row && a.sub < b.sub)))

end Sys2Proof
end

