-- ==== Sys2Proof/Syntax.lean ====
section
/-! DEFINITION. The commands of the block: one constructor of `Instr` per row of the opcode table, with the operands
that the environment brings (an address, a value, a frame, a measured instant). All local-clock instants in operands
are Nat, in units of 2^-16 ns since the clock's zero (R56, R58). -/

namespace Sys2Proof

/-- The channel a dictionary request arrives on (R36, Table 2.8). `image` is the image from flash at S3. -/
inductive Chan where
  | pf0
  | relay
  | pdu (port : Nat)
  | image
deriving DecidableEq, Repr

/-- The addressed cell of an access record (Table 2.4): index, subindex, row and byte offset. -/
structure Target where
  index : Nat
  sub : Nat
  row : Nat
  offset : Nat
deriving DecidableEq, Repr

/-- An access that is applied in the datapath cycle of a WRITE record (R50): another WRITE, a READ, or an occurrence of a fault
class at an instance, which can make the module's own state machines write (R357). -/
inductive SameCycle where
  | write (chan : Chan) (target : Target) (value : Bytes)
  | read (chan : Chan) (target : Target)
  | fault (cls inst : Nat)
deriving DecidableEq, Repr

/-- What a WRITE record brings: its value bytes in the channel's byte order, and the other accesses that its datapath cycle
applies (R50, R51). -/
structure WriteData where
  bytes : Bytes
  also : List SameCycle
deriving DecidableEq, Repr

/-- The frame check sequence of a frame as it arrives: good, bad, or stomped (R97). -/
inductive Fcs where
  | good
  | bad
  | stomped
deriving DecidableEq, Repr

/-- What MACsec verification at the frame's end gives: unprotected, verified, or failed (R22). -/
inductive Icv where
  | unprotected
  | verified
  | failed
deriving DecidableEq, Repr

/-- A received frame at the datapath side of its pipe: bytes from the destination address to the end of the payload
(no SecTAG, ICV or FCS), the outcome of its checks, and the local clock at the instant at which the start of the first symbol
after its SFD passed the MAC point of R24 (R59). `node` is the node ID of the PLCA opportunity that it came in; `secTag` the SCI
and the packet number of its SecTAG, where it is protected. -/
structure Frame where
  data : Bytes
  fcs : Fcs
  icv : Icv
  stamp : Nat
  node : Nat := 0
  secTag : Option (Nat × Nat) := none
deriving DecidableEq, Repr

/-- A gPTP event message with its follow-up, as they came in on a port. -/
structure PtpPair where
  event : Frame
  followUp : Frame
deriving DecidableEq, Repr

/-- A port whose MAC is free, and whether another node has collided with the frame that was in progress. -/
structure MediumFree where
  port : Nat
  collision : Bool
deriving DecidableEq, Repr

/-- A frame and the port that it came in on. -/
structure PortFrame where
  port : Nat
  frame : Frame
deriving DecidableEq, Repr

/-- Where a Kiln command comes from (R337): the PF0 Kiln mailbox, or protocol 0x0005 on a port, protected or not, with the
source address of its frames. -/
inductive KilnSource where
  | mailbox
  | port (p : Nat) (isProtected : Bool) (mac : Nat)
deriving DecidableEq, Repr

/-- An MKPDU as MKA reads it (R344): sender's SCI, its key-server priority, CKN, member identifier and message number,
the member identifiers it lists as live and as potential peers, and the distributed SAK (AN, key number and the wrapped key)
when it carries one. -/
structure Mkpdu where
  sci : Nat
  priority : Nat
  ckn : Bytes
  member : Nat
  number : Nat
  live : List Nat
  potential : List Nat := []
  sak : Option (Nat × Nat)
  wrappedSak : Bytes := []
  raw : Bytes
  /-- The EAPOL frame that carried it. -/
  frame : Frame
deriving DecidableEq, Repr

/-- A value as a task reads it from an endpoint (R201, R205): Status of Table 7.2, whether it is fresh, its age, its
verdict, the low word of its source cycle, the bytes of the PDU or entry value, the instant it became readable, and the
time base in whose cycles its age counts: a global port, or 0xFFFF for the backbone. -/
structure SourceValue where
  status : Nat
  fresh : Bool
  age : Nat
  verdict : Nat
  cycle : Nat
  isPdu : Bool
  bits : Nat
  bytes : Bytes
  arrived : Nat
  base : Nat
deriving DecidableEq, Repr

/-- A Mirror message (R292): the values the holder's task read, in read order, tagged with engine, task row and cycle. -/
structure MirrorMsg where
  engine : Nat
  row : Nat
  cycle : Nat
  values : List SourceValue
deriving DecidableEq, Repr

/-- A section view carried by a ViewForward, a snapshot or a log (R285, R311): row of the running mode, value, age,
NameHash and status (0 CLEARING, 1 WRITTEN, 2 HELD). -/
structure ViewData where
  row : Nat
  value : Bytes
  age : Nat
  hash : Nat
  status : Nat
deriving DecidableEq, Repr

/-- Views that cross the stack link (R285): the stack port that they come in on, and whether they are the writes of a member's
engines on their way to the master. -/
structure ForwardedViews where
  port : Nat
  toMaster : Bool
  views : List ViewData
deriving DecidableEq, Repr

/-- A copy of a stream's frame for a member (R286), and the stack port that it comes in on. -/
structure ForwardedFrame where
  port : Nat
  member : Nat
  frame : Frame
deriving DecidableEq, Repr

/-- A dictionary message for a member (R284); the peer half of a twin is member 1. -/
structure MemberMessage where
  member : Nat
  bytes : Bytes
deriving DecidableEq, Repr

/-- One part of a coppice snapshot (R311 step 2). -/
inductive SnapPart where
  | image (bytes : Bytes)
  | groveStore (grove offset : Nat) (bytes : Bytes)
  | engineMemory (engine offset : Nat) (bytes : Bytes)
  | transaction (grove row : Nat) (waiting : Bool) (ident tries deadline : Nat) (request : Bytes)
  | hold (grove row : Nat) (bytes : Bytes) (isPdu substituted : Bool)
  | check (grove row lastCounter sinceAccepted verdict : Nat) (started : Bool)
  | view (v : ViewData)
  | replay (sc packetNumber : Nat)
deriving DecidableEq, Repr

/-- The domain of a restart (R357 action 2). -/
inductive Domain where
  | port (p : Nat)
  | engine (e : Nat)
  | grove (g : Nat)
  | controller
deriving DecidableEq, Repr

/-- Where a memory error lies (Table 11.7 offsets 2 and 3, Table 11.8 sources 916 and 918): a grove's memory
(0 SRAM, 1 instruction, 2 data, 3 scheduler) or the commons' (0 shared buffer, 1 stream tables). -/
inductive MemoryPlace where
  | grove (g memory : Nat)
  | commons (memory : Nat)
deriving DecidableEq, Repr

/-- The commands, in the order of the opcode table. -/
inductive Instr where
  /-- R38: a write of MBXCTL with GO = 1 and the given TAG. -/
  | mailboxGo (tag : Nat)
  /-- R38: the request in progress has been served and its response written to MBXRSP. -/
  | mailboxDone
  /-- R39: a frame of protocol 0x0003 received on a port. -/
  | managementPdu (port : Nat) (frame : Frame)
  /-- R40: a dictionary message relayed by the stack master arrives on a stack port. -/
  | stackRelayRequest (stackPort : Nat) (message : MemberMessage)
  /-- R42: a READ record. -/
  | read (chan : Chan) (target : Target)
  /-- R42: a WRITE record with its value, and the other accesses of its datapath cycle (R51). -/
  | write (chan : Chan) (target : Target) (value : WriteData)
  /-- R439: a DESCRIBE record. -/
  | describe (chan : Chan) (target : Target)
  /-- R44: a READ_STAGED record. -/
  | readStaged (chan : Chan) (target : Target)
  /-- R45: Commit written 1. -/
  | commitAtBoundary (chan : Chan)
  /-- R45: Commit written 2. -/
  | commitAtModeSwitch (chan : Chan)
  /-- R45: Commit written 3. -/
  | commitDiscard (chan : Chan)
  /-- R45: the instant at which a sealed set applies. -/
  | stagingSetApply
  /-- R49: ClampLogClear written 1. -/
  | clampLogClear (chan : Chan)
  /-- R53: ImageApply written 1. -/
  | imageApply (chan : Chan)
  /-- R53: ImageApply written 2. -/
  | imageApplyAndStore (chan : Chan)
  /-- R53: ImageApply written 3. -/
  | imageStore (chan : Chan)
  /-- R64: TimeStep written with a TIME. -/
  | timeStep (chan : Chan) (time : Nat)
  /-- R57: TimeAdjust written with an offset in 2^-16 ns. -/
  | timeAdjust (chan : Chan) (offset : Int)
  /-- R64: the local cycle boundary at which a pending automatic step applies. -/
  | automaticStep
  /-- R69: one cycle length has passed since the slew term was set. -/
  | slewEnd
  /-- R65: SourceLossCycles cycles have passed without a valid measurement. -/
  | sourceLoss
  /-- R65: HOLDOVER has lasted HoldoverLimit. -/
  | holdoverLimit
  /-- R65: the 25 MHz reference stopped or left its tolerance. -/
  | referenceFault
  /-- R76: a Sync with its Follow_Up on a port: domain, origin time, correction, and the frames. -/
  | gptpSync (port domain origin : Nat) (correction : Int) (frames : PtpPair)
  /-- R76: a Pdelay_Req on a port: domain, sequence number, requester identity, and the frame. -/
  | gptpPdelayReq (port domain sequence requester : Nat) (frame : Frame)
  /-- R76: a sync interval has elapsed. -/
  | gptpSyncTimer
  /-- R76: a Pdelay interval has elapsed. -/
  | gptpPdelayTimer
  /-- R76: one second has elapsed since the last Announce. -/
  | announceTimer
  /-- R76: SyncReceiptTimeout intervals have passed without a Sync on the slave port. -/
  | syncReceiptTimeout
  /-- R79: an edge on PPSIN with its timestamp. -/
  | ppsInEdge (falling : Bool) (stamp : Nat)
  /-- R79: PpsInSeconds written. -/
  | ppsInSeconds (chan : Chan) (seconds : Nat)
  /-- R79: no PPSIN edge within 1 s + 1 ms of the last one. -/
  | ppsInMissing
  /-- R78: the local clock reaches a second boundary. -/
  | ppsOutEdge
  /-- R80: an edge on TEV pin `pin` with its timestamp. -/
  | timeEventCapture (pin : Nat) (falling : Bool) (stamp : Nat)
  /-- R80: the next pulse instant of TEV pin `pin`. -/
  | timeEventPulse (pin : Nat)
  /-- R71: an Alignment message pair on a stack port: peer's loop, own turn, origin, correction and timestamp. -/
  | alignment (stackPort : Nat) (loop turn : Int) (origin : Nat) (stamp : Nat)
  /-- R71: 50 us have elapsed since the last Alignment message. -/
  | alignmentTimer
  /-- R84: a backbone cycle boundary of the local clock. -/
  | cycleBoundary
  /-- R86: the launch instant of round frame `round`, with the measured launch errors (2^-8 ns) of its two copies. -/
  | roundFrameLaunch (round : Nat) (errEast errWest : Int)
  /-- R94: a round-frame copy arrives on a lane (global port number). -/
  | roundFrame (lane : Nat) (frame : Frame)
  /-- R98: the verification point of the oldest unverified copy that arrived on a lane. -/
  | roundFrameVerified (lane : Nat)
  /-- R111: a launched copy has not returned verified by the boundary (direction: 0 east-bound, 1 west-bound). -/
  | roundFrameMissing (round direction : Nat)
  /-- R106: RingEnable written 1. -/
  | ringEnable (chan : Chan)
  /-- R106: RingEnable written 0. -/
  | ringDisable (chan : Chan)
  /-- R107: the listen timer expires. -/
  | listenTimerExpiry
  /-- R106: RingLossCycles without a verified round frame 0. -/
  | ringLoss
  /-- R110: the admitted name has been absent for RingLossCycles cycles. -/
  | nodeLeft (name : Nat)
  /-- R112: a lane loses block lock or reports a fault. -/
  | laneLost (lane : Nat)
  /-- R112: RoundLossCycles without a verified round frame on an up lane. -/
  | roundLoss (lane : Nat)
  /-- R115: a lost lane has held lock for WrapReleaseHoldoff cycles. -/
  | wrapRestoreHoldoff (lane : Nat)
  /-- R115: the announced release boundary. -/
  | wrapRelease
  /-- R116: the boundary after 2 cycles of mismatched Direction. -/
  | lanesCrossed
  /-- R118: RequestGo written 1. -/
  | requestGo (chan : Chan)
  /-- R120: the evaluation in cycle T - 2. -/
  | modeRequestEvaluation
  /-- R120: the boundary that begins T. -/
  | modeSwitch
  /-- R121: the boundary at which an out-of-step node adopts the header's Mode. -/
  | modeAdopt
  /-- R122: the offset of cycle point `point`. -/
  | cyclePoint (point : Nat)
  /-- R143: PortEnable written 1. -/
  | portEnable (chan : Chan) (port : Nat)
  /-- R143: PortEnable written 0. -/
  | portDisable (chan : Chan) (port : Nat)
  /-- R143: the segment listen timer of a port expires. -/
  | segmentListenTimer (port : Nat)
  /-- R128: a segment cycle boundary of a port's segment view. -/
  | segmentCycleBoundary (port : Nat)
  /-- R134: the latch instant of slot row `slot` (0 to 63 of the running segment mode). -/
  | slotLatch (port slot : Nat)
  /-- R134: the action point of slot row `slot`; `collision` tells whether the medium showed a collision. -/
  | slotActionPoint (port slot : Nat) (collision : Bool)
  /-- R136: a frame received on a segment-mode port; `sender` is the node ID of the PLCA opportunity it came in. -/
  | segmentFrame (port : Nat) (sender : Nat) (frame : Frame)
  /-- R137: the end of slot row `slot`. -/
  | slotEnd (port slot : Nat)
  /-- R142: a frame of protocol 0x0002 received on a segment-mode port. -/
  | syncFrame (port : Nat) (frame : Frame)
  /-- R144: the coldstart back-off of a port expires. -/
  | coldstartBackoffExpiry (port : Nat)
  /-- R139: the end of the static part; `mediumBusyAtEnd` tells whether the medium is busy when the cycle ends. -/
  | tailStart (port : Nat) (mediumBusyAtEnd : Bool)
  /-- R145: ReintegrationCycles silent cycles of a listen-only node. -/
  | listenOnlyRelease (port node : Nat)
  /-- R148: PresenceWindow cycles without a node being heard. -/
  | presenceLeave (port node : Nat)
  /-- R146: the instant at which a port switches its segment mode. -/
  | segmentModeSwitch (port : Nat)
  /-- R149: a port's link comes up. -/
  | linkUp (port : Nat)
  /-- R149: a port's link goes down. -/
  | linkDown (port : Nat)
  /-- R161: a frame received on a port reaches its last bit. -/
  | frameReceived (port : Nat) (frame : Frame)
  /-- R161: StreamUnblock written. -/
  | streamUnblock (chan : Chan) (handle : Nat)
  /-- R163: a transmit ring hands its head frame over. -/
  | hostFrameHandover (ring : Nat)
  /-- R167: a class queue that a host frame waits for has room. -/
  | queueRoom (ring : Nat)
  /-- R184: a ring's calendar slot passes. -/
  | calendarSlot (ring : Nat)
  /-- R168: the MAC of a port is free. -/
  | macFree (medium : MediumFree)
  /-- R250: the launch time of the head frame of a class queue arrives. -/
  | launchTimeReached (port cls : Nat)
  /-- R171: a gate-list entry boundary of a port. -/
  | gateEntry (port : Nat)
  /-- R173: the take-over time of an armed gate list. -/
  | gateTakeOver (port : Nat)
  /-- R181: VerifyTime ms since the verify procedure started or last sent. -/
  | preemptionVerifyTimer (port : Nat)
  /-- R181: a respond mPacket received. -/
  | preemptionRespond (port : Nat)
  /-- R190: ResetTimeout ms without a passed frame. -/
  | recoveryResetTimeout (fn : Nat)
  /-- R191: LatentErrorPeriod has elapsed. -/
  | latentErrorTest (fn : Nat)
  /-- R191: LatentResetPeriod has elapsed. -/
  | latentReset (fn : Nat)
  /-- R194: a READ of a column of a HighWater row. -/
  | highWaterRead (chan : Chan) (queue column : Nat)
  /-- R207: cycle start + Offset of task row `task` (0 to 63) of an engine. -/
  | taskStart (engine task : Nat)
  /-- R213: the running task of an engine executes ROUTE. -/
  | route (engine : Nat)
  /-- R214: the running task of an engine executes PACK. -/
  | pack (engine : Nat)
  /-- R215: the running task of an engine executes UNPACK. -/
  | unpack (engine : Nat)
  /-- R217: the running task of an engine executes PROTECT. -/
  | protect (engine : Nat)
  /-- R218: the running task of an engine executes CHECK. -/
  | check (engine : Nat)
  /-- R219: the running task of an engine executes HOLD. -/
  | hold (engine : Nat)
  /-- R220: the running task of an engine executes TRANSACT. -/
  | transact (engine : Nat)
  /-- R221: the running task of an engine executes REPORT. -/
  | report (engine : Nat)
  /-- R208: the running task of an engine finishes after the given engine cycles. -/
  | taskFinish (engine cycles : Nat)
  /-- R209: the running task of an engine reaches its Budget. -/
  | taskBudgetExceeded (engine : Nat)
  /-- R230: the collector accepts the next waiting result of a grove. -/
  | resultAccept (grove : Nat)
  /-- R224: ImageOffset of an inbound image. -/
  | inboundImageSnapshot (image : Nat)
  /-- R227: the ReadPoint of an outbound image. -/
  | outboundImageRead (image : Nat)
  /-- R227: the read of an outbound image has completed with these stamps and entries. -/
  | outboundImageReadDone (image endStamp : Nat) (entries : Bytes) (startStamp : Nat)
  /-- R228: a message taken from the transmit ring of a channel. -/
  | hostMessageReceived (channel : Nat) (message : Bytes)
  /-- R245: a write to QTAIL (`tx`: transmit ring, else receive ring; global ring number). -/
  | doorbell (tx : Bool) (ring position : Nat)
  /-- R251: a write to the push window of a transmit ring; `whole` tells whether it was written as R251 requires. -/
  | push (ring : Nat) (window : Bytes) (whole : Bool)
  /-- R246: ring entries read by one request arrive; `covered` is the tail at the instant the request was issued. -/
  | entryFetchDone (tx : Bool) (ring position covered : Nat) (entries : List Bytes)
  /-- R248: the buffer data of the oldest transmit frame awaiting data arrives. -/
  | txBufferReadDone (ring : Nat) (data : Bytes)
  /-- R252: the oldest finished transmit frame of a ring completes. -/
  | txFrameComplete (ring : Nat)
  /-- R260: HOLDOFF us since the first unannounced completion. -/
  | ringHoldoffTimer (tx : Bool) (ring : Nat)
  /-- R257: QCTL.ENABLE written 1. -/
  | queueEnable (tx : Bool) (ring : Nat)
  /-- R257: QCTL.ENABLE written 0. -/
  | queueDisable (tx : Bool) (ring : Nat)
  /-- R257: the last ABORTED completion has been issued, or none is outstanding. -/
  | drainComplete (tx : Bool) (ring : Nat)
  /-- R259: a write of QBASELO (0x00), QBASEHI (0x04) or QCFG (0x08). -/
  | queueConfigWrite (tx : Bool) (ring offset value : Nat)
  /-- R273: ForceDisableTx written. -/
  | forceDisableTx (chan : Chan) (ring : Nat)
  /-- R273: ForceDisableRx written. -/
  | forceDisableRx (chan : Chan) (ring : Nat)
  /-- R257: a Function Level Reset of a function. -/
  | functionLevelReset (fn : Nat)
  /-- R257: Bus Master Enable of a function changes. -/
  | busMasterChanged (fn : Nat) (enable : Bool)
  /-- R257: VF Enable of PF1 is set or cleared, with NumVFs. -/
  | vfEnableChanged (enable : Bool) (numVfs : Nat)
  /-- R272: a DMA read for a ring failed or timed out. -/
  | dmaReadError (tx : Bool) (ring : Nat)
  /-- R272: a write to a function's host memory failed. -/
  | dmaWriteError (fn : Nat)
  /-- R263: a write of the head word of an event queue. -/
  | eqHeadWrite (queue head : Nat) (arm : Bool)
  /-- R265: a write of EQCFG that sets ENABLE. -/
  | eqEnable (queue : Nat)
  /-- R263: EQMOD.HOLDOFF has elapsed. -/
  | eqHoldoffTimer (queue : Nat)
  /-- R263: the host unmasks a vector. -/
  | msixUnmask (vector : Nat)
  /-- R268: a read of CLKNS by a function. -/
  | clockPageRead (fn : Nat)
  /-- R242: a write of some bytes at an offset of BAR0 of a function, to a register that has no row of its own; from 0x100000 on,
  a write to the function's configuration (DESIGN CHOICE, safe: log entry 48). -/
  | registerWrite (fn offset : Nat) (value : Bytes)
  /-- R237: a PCIe link (0 A or x8, 1 B) trains, retrains or goes down (speed 0). -/
  | pcieLinkChanged (link speed width : Nat)
  /-- R410: PERSTAN (0) or PERSTBN (1). -/
  | perst (link : Nat)
  /-- R283: a StackHello received on a stack port, with its twin header; a stack message of any type whose Version is not 1 comes
as this row too (R281). -/
  | stackHello (stackPort : Nat) (message : Bytes)
  /-- R283: the hello interval of a stack port has elapsed. -/
  | stackHelloTimer (stackPort : Nat)
  /-- R283: a stack port's link comes up. -/
  | stackLinkUp (stackPort : Nat)
  /-- R282: a stack port's link goes down. -/
  | stackLinkDown (stackPort : Nat)
  /-- R282: a member's stack link has been down for 10 ms. -/
  | stackMemberLost (member : Nat)
  /-- R285: a ViewForward received. -/
  | viewForward (views : ForwardedViews)
  /-- R286: a StreamForward received: stream handle and copy. -/
  | streamForward (handle : Nat) (copy : ForwardedFrame)
  /-- R294: the instant at which this half sends its StepRecord. -/
  | stepRecordSend
  /-- R294: a StepRecord received: epoch of the twin header and the 152 body bytes. -/
  | stepRecord (epoch : Nat) (body : Bytes)
  /-- R294: a StepRecord has not arrived 20 us after it is due. -/
  | stepRecordMissed
  /-- R292: a Mirror message received. -/
  | mirror (message : MirrorMsg)
  /-- R298: a SelfTestRequest received: grove and start boundary (cycle number). -/
  | selfTestRequest (grove start : Nat)
  /-- R298: the start boundary of a grove self-test. -/
  | groveSelfTestStart (grove : Nat)
  /-- R298: a grove self-test ends with its result. -/
  | groveSelfTestEnd (grove : Nat) (pass : Bool)
  /-- R298: the peer's SelfTestResult received. -/
  | selfTestResult (grove : Nat) (pass : Bool)
  /-- R298: the peer's result is missing at S + 200 us + one cycle. -/
  | selfTestResultTimeout (grove : Nat)
  /-- R302: a lease reaches its expiry. -/
  | leaseExpiry
  /-- R303: a boundary at which a WitnessPoll is due. -/
  | witnessPollSend
  /-- R304: a WitnessPoll frame received on a lane: epoch of the twin header, the 784 bytes after it, whether its ICV
  was verified. -/
  | witnessPoll (lane epoch : Nat) (body : Bytes) (icv : Icv)
  /-- R304: LockCycles have passed. -/
  | voteLockEnd
  /-- R303: the boundary that follows a poll. -/
  | witnessPollEvaluation
  /-- R305: the next boundary after the no-witness conditions have held for 4 leases. -/
  | noWitnessAcquire
  /-- R306: TwinSwitchover written. -/
  | twinSwitchover (chan : Chan)
  /-- R306: the boundary X + L at which a standby acquires a released lease. -/
  | releaseAcquire
  /-- R311: a CoppiceRequest received: firmware version and mode digests. -/
  | coppiceRequest (firmware : Nat) (digests : List Nat)
  /-- R311: the boundary Bs of the snapshot. -/
  | coppiceSnapshot
  /-- R311: a SnapshotChunk received; `last` marks the final one. -/
  | snapshotChunk (parts : List SnapPart) (last : Bool)
  /-- R311: a LogChunk received for a cycle: Mirror values and changed views. -/
  | logChunk (cycle : Nat) (mirrors : List MirrorMsg) (views : List ViewData)
  /-- R311: CoppiceDone, at the half that sends it (replay complete) and at the holder that receives it. -/
  | coppiceDone
  /-- R311: CoppiceTimeout has elapsed. -/
  | coppiceTimeout
  /-- R314: a background self-test step (test 0 scrub, 1 engine, 2 loopback) on a class 16 instance. -/
  | backgroundSelfTestStep (test inst : Nat) (pass fullPass : Bool)
  /-- R338: GO written in the Kiln mailbox. -/
  | kilnGo
  /-- R336: a protocol 0x0005 fragment received on a port. -/
  | kilnMessageFragment (port : Nat) (frame : Frame)
  /-- R336: PairTimeout since the first fragment of an incomplete message. -/
  | kilnFragmentTimeout (port : Nat)
  /-- R337: GetStatus. -/
  | getStatus (source : KilnSource) (tag : Nat)
  /-- R330: GetCertificate. -/
  | getCertificate (source : KilnSource) (tag index : Nat)
  /-- R349: GetChallenge. -/
  | getChallenge (source : KilnSource) (tag : Nat)
  /-- R349: 600 s since the challenge. -/
  | challengeExpiry
  /-- R339: Attest with a nonce. -/
  | attest (source : KilnSource) (tag : Nat) (nonce : Bytes)
  /-- R329: FwBegin. -/
  | fwBegin (source : KilnSource) (tag slot length : Nat)
  /-- R329: FwWrite. -/
  | fwWrite (source : KilnSource) (tag offset : Nat) (data : Bytes)
  /-- R329: FwCommit. -/
  | fwCommit (source : KilnSource) (tag : Nat)
  /-- R329: FwConfirm. -/
  | fwConfirm (source : KilnSource) (tag : Nat)
  /-- R329: FwAbort. -/
  | fwAbort (source : KilnSource) (tag : Nat)
  /-- R331: an owner command of any operation. -/
  | owner (source : KilnSource) (tag : Nat) (command : Bytes)
  /-- R332: owner operation 1. -/
  | installOwnerKey (source : KilnSource) (tag : Nat) (command : Bytes)
  /-- R332: owner operation 2. -/
  | rotateOwnerKey (source : KilnSource) (tag : Nat) (command : Bytes)
  /-- R324: owner operation 3. -/
  | restoreOwnerKey (source : KilnSource) (tag : Nat) (command : Bytes)
  /-- R333: owner operation 4. -/
  | setPolicy (source : KilnSource) (tag : Nat) (command : Bytes)
  /-- R333: owner operation 5. -/
  | burnLocks (source : KilnSource) (tag : Nat) (command : Bytes)
  /-- R334: owner operation 6. -/
  | setLockedRanges (source : KilnSource) (tag : Nat) (command : Bytes)
  /-- R346: owner operation 7. -/
  | setPeerAllowList (source : KilnSource) (tag : Nat) (command : Bytes)
  /-- R332: owner operation 8. -/
  | installCak (source : KilnSource) (tag : Nat) (command : Bytes)
  /-- R328: owner operation 9. -/
  | advanceRollback (source : KilnSource) (tag : Nat) (command : Bytes)
  /-- R349: owner operation 10. -/
  | debugUnlock (source : KilnSource) (tag : Nat) (command : Bytes)
  /-- R346: a PairInit body received on a port (0 to 255, stack ports 256 and 257) from a source MAC. -/
  | pairInit (port sourceMac : Nat) (body : Bytes)
  /-- R346: a PairResponse body received. -/
  | pairResponse (port sourceMac : Nat) (body : Bytes)
  /-- R346: a PairConfirm body received. -/
  | pairConfirm (port : Nat) (confirm : Bytes)
  /-- R346: a PairDone body received. -/
  | pairDone (port : Nat) (confirm : Bytes)
  /-- R345: PairTimeout without an answer. -/
  | pairTimeout (port : Nat)
  /-- R345: 10 s after a pairing failure. -/
  | pairingRetryTimer (port : Nat)
  /-- R344: CakLifetime of a port's paired CAK expires. -/
  | cakLifetimeExpiry (port : Nat)
  /-- R344: an MKPDU received on a port. -/
  | mkpdu (port : Nat) (pdu : Mkpdu)
  /-- R344: the MKA Hello Time of a port elapses. -/
  | mkaHelloTimer (port : Nat)
  /-- R344: a peer has been silent for the MKA Life Time. -/
  | mkaLifeTimeExpiry (port peer : Nat)
  /-- R341: the Kiln writes a SAK (AN, key number) to a pipe: a receive SA of a peer SCI, and the transmit SA. -/
  | keyPathWrite (port an key sci : Nat) (transmit : Bool)
  /-- R341: the instant at which a pending transmit SA takes effect. -/
  | txSaSwitch (port : Nat)
  /-- R343: SakHoldover without a key-path write to a pipe. -/
  | sakHoldoverExpiry (port : Nat)
  /-- R350: a Kiln fault (1 random source, 2 self-test, 3 watchdog). -/
  | kilnFault (cause : Nat)
  /-- R355: a bucket boundary of a fault class. -/
  | faultBucketBoundary (cls : Nat)
  /-- R358: a millisecond sample of a port: wire voltages in mV, pair resistance in ohm, bias currents in uA. -/
  | mdiSample (port : Nat) (wireP wireN : Int) (resistance currentP currentN : Nat)
  /-- R359: a reversed pair detected at an inter-frame gap. -/
  | polarityCorrected (port : Nat)
  /-- R360: TdrRequest written. -/
  | tdrRequest (chan : Chan) (port : Nat)
  /-- R360: the running TDR ends with kind and distance in 0.1 m. -/
  | tdrComplete (kind distance : Nat)
  /-- R361: VBN (10 mV) below 35.0 V for 100 us. -/
  | supplyWarning (vbn : Nat)
  /-- R361: VBN at or above 36.0 V for 1 ms. -/
  | supplyRecovered (vbn : Nat)
  /-- R361: VBN above 75 V for 100 us. -/
  | supplyOvervoltage (vbn : Nat)
  /-- R361: VBN below 32.0 V for 50 us. -/
  | brownOut (vbn : Nat)
  /-- R363: the sensor of the highest junction reads 105 C or more (temperature in 0.25 C). -/
  | thermalWarning (sensor : Nat) (temperature : Int)
  /-- R363: 115 C or more. -/
  | thermalThrottle (sensor : Nat) (temperature : Int)
  /-- R363: 125 C or more. -/
  | thermalShutdown (sensor : Nat) (temperature : Int)
  /-- R363: the highest junction falls below 100 C. -/
  | thermalNormal (temperature : Int)
  /-- R367: the event FIFO has room after losses. -/
  | eventFifoRoom
  /-- R370: SoftwareEvent written with a U64. -/
  | softwareEvent (chan : Chan) (value : Nat)
  /-- R380: a qualifying boundary of the counter reader. -/
  | counterSnapshot
  /-- R384: the EndStamp of the dump in progress is issued. -/
  | dumpComplete
  /-- R396: PowerRequest written 2. -/
  | powerRequestIdle (chan : Chan)
  /-- R396: the boundary, or 1 ms, at which IDLE is entered. -/
  | idleEntry
  /-- R397: PowerRequest written 1. -/
  | powerRequestDormant (chan : Chan)
  /-- R398: WAKE held low for WakePinFilter. -/
  | wakePin
  /-- R398: wake activity on a port. -/
  | portWakeActivity (port : Nat)
  /-- R398: canopy time reaches WakeAt. -/
  | wakeAt
  /-- R402: a grove falls idle. -/
  | groveIdle (grove : Nat)
  /-- R402: the scheduled wake of a gated grove. -/
  | groveScheduledWake (grove : Nat)
  /-- R21: 15 us after a grove's wake started. -/
  | groveRunning (grove : Nat)
  /-- R408: VBN rises above 36.0 V. -/
  | powerOn
  /-- R408: the rails are valid; the strap balls as sampled (STKPOS, PCIEMODE0, PCIEMODE1). -/
  | railsValid (stkpos : Nat) (pcieMode sris : Bool)
  /-- R326: stage one is running. -/
  | stageOneRunning
  /-- R408: parts 2 to 6 have been streamed and checked. -/
  | partsVerified
  /-- R408: the Commit record of the boot image has been processed. -/
  | bootImageCommitted
  /-- R408: the first boundary of S4, or 1 ms. -/
  | operational
  /-- R410: RESETN low for at least 1 us. -/
  | resetn
  /-- R410: ModuleReset written. -/
  | moduleReset (chan : Chan) (value : Nat)
  /-- R410: a scheduled reset takes effect. -/
  | moduleResetTimer
  /-- R395: VBN below 8 V. -/
  | canopyLost
  /-- R417: AUX3V3 current above the limit for 100 us. -/
  | aux3v3Overcurrent
  /-- R417: 100 ms since the last retry; `ok` tells whether the overcurrent has gone. -/
  | aux3v3Retry (ok : Bool)
  /-- R417: AUX3V3 below 3.0 V for 100 us, not in current limit. -/
  | aux3v3Undervoltage
  /-- R417: AUX3V3 in regulation for 10 ms. -/
  | aux3v3Recovered
  /-- R430: 1,024 consecutive good crystal cycles. -/
  | canopyCrystalSwitch
  /-- R430: the crystal misses 4 expected periods. -/
  | canopyCrystalFailure
  /-- R321: the running Kiln operation ends. -/
  | kilnOperationDone
  /-- R357: a restarted domain returns to service. -/
  | domainRestartComplete (domain : Domain)
  /-- R357: a memory error is detected. -/
  | memoryError (place : MemoryPlace) (correctable : Bool)
  /-- R275: an AER error is logged on a link. -/
  | pcieErrorReported (link status : Nat) (correctable : Bool)
  /-- R361: VBN at or above 35.0 V for 10 ms after a brown-out. -/
  | brownOutRecovered
  /-- R361: VBN falls to 75 V or below. -/
  | overvoltageEnded
  /-- R363: the highest junction falls below the throttle threshold less its hysteresis. -/
  | thermalThrottleEnd
  /-- R153: the PLCA status of an SG port changes. -/
  | plcaStatusChanged (port : Nat) (status : Bool)
  /-- R40: a member's response to a relayed request arrives at the stack master. -/
  | stackRelayResponse (stackPort : Nat) (message : Bytes)
  /-- R76: a Pdelay_Resp with its Follow_Up: request receipt and response origin at the peer, and the frames. -/
  | gptpPdelayResp (port domain sequence requestReceipt responseOrigin : Nat) (frames : PtpPair)
  /-- R76: an Announce received. -/
  | announceReceived (arrival : PortFrame)
  /-- R224: the EndStamp of an inbound image write is issued. -/
  | inboundImageWriteDone (image : Nat)
  /-- R395: the PLLs are locked after a wake from IDLE. -/
  | activeResumed
deriving DecidableEq, Repr

end Sys2Proof
end

