-- ==== Sys2Proof/WellFormed.lean ====
section
/-! DEFINITION. Which commands are well-formed: operands within the ranges that the manual gives ports, lanes, rings, queues,
engines, rows and messages. A command out of these ranges names nothing that exists. -/

namespace Sys2Proof

/-- A backbone lane: local index 0 of a grove (R16). -/
def okLane (p : Nat) : Bool := decide (p < 256) && p % 32 == 0

/-- A frame on the wire: at most 9,600 bytes of data, in the transmit opportunity of a node. -/
def okFrame (f : Frame) : Bool := decide (f.data.length ≤ 9600) && decide (f.node < 255)

/-- A gPTP event message and its follow-up. -/
def okPair (x : PtpPair) : Bool := okFrame x.event && okFrame x.followUp

/-- What an access record can name (Table 2.4). -/
def okTarget (t : Target) : Bool :=
  decide (t.index < 65536) && decide (t.sub < 256) && decide (t.row < 65536) && decide (t.offset < 4294967296)

/-- A channel: a management PDU comes on a port. -/
def okChan (c : Chan) : Bool :=
  match c with
  | .pdu p => decide (p < 256)
  | _ => true

/-- A source of Kiln commands: the stack ports count as ports 256 and 257. -/
def okSource (s : KilnSource) : Bool :=
  match s with
  | .port p _ _ => decide (p < 258)
  | .mailbox => true

/-- An access of a WRITE record's datapath cycle. -/
def okSameCycle (a : SameCycle) : Bool :=
  match a with
  | .write chan target value => okChan chan && okTarget target && decide (value.length ≤ 1024)
  | .read chan target => okChan chan && okTarget target
  | .fault cls inst => decide (cls < 23) && decide (inst < 8388608)

/-- A domain that can restart. -/
def okDomain (d : Domain) : Bool :=
  match d with
  | .port p => decide (p < 256)
  | .engine e => decide (e < 128)
  | .grove g => decide (g < 8)
  | .controller => true

/-- A place of memory: four memories in a grove, two in the commons. -/
def okPlace (p : MemoryPlace) : Bool :=
  match p with
  | .grove g m => decide (g < 8) && decide (m < 4)
  | .commons m => decide (m < 2)

/-- Ring entries are 32 bytes each. -/
def okEntries (es : List Bytes) : Bool := es.all fun e => e.length == 32

/-- Whether a command is well-formed. -/
def Instr.wf (i : Instr) : Bool :=
  match i with
  | .mailboxGo tag => decide (tag < 256)
  | .mailboxDone => true
  | .managementPdu port frame => decide (port < 256) && okFrame frame
  | .stackRelayRequest stackPort message => decide (stackPort < 2) && decide (message.member < 4) && decide (message.bytes.length ≤ 4112)
  | .read chan target => okChan chan && okTarget target
  | .write chan target value =>
    okChan chan && okTarget target && decide (value.bytes.length ≤ 1024) && value.also.all okSameCycle
  | .describe chan target => okChan chan && okTarget target
  | .readStaged chan target => okChan chan && okTarget target
  | .commitAtBoundary chan => okChan chan
  | .commitAtModeSwitch chan => okChan chan
  | .commitDiscard chan => okChan chan
  | .stagingSetApply => true
  | .clampLogClear chan => okChan chan
  | .imageApply chan => okChan chan
  | .imageApplyAndStore chan => okChan chan
  | .imageStore chan => okChan chan
  | .timeStep chan _ => okChan chan
  | .timeAdjust chan _ => okChan chan
  | .automaticStep => true
  | .slewEnd => true
  | .sourceLoss => true
  | .holdoverLimit => true
  | .referenceFault => true
  | .gptpSync port domain _ _ frames => decide (port < 256) && decide (domain < 256) && okPair frames
  | .gptpPdelayReq port domain sequence _ frame =>
    decide (port < 256) && decide (domain < 256) && decide (sequence < 65536) && okFrame frame
  | .gptpSyncTimer => true
  | .gptpPdelayTimer => true
  | .announceTimer => true
  | .syncReceiptTimeout => true
  | .ppsInEdge _ _ => true
  | .ppsInSeconds chan _ => okChan chan
  | .ppsInMissing => true
  | .ppsOutEdge => true
  | .timeEventCapture pin _ _ => decide (pin < 8)
  | .timeEventPulse pin => decide (pin < 8)
  | .alignment stackPort _ _ _ _ => decide (stackPort < 2)
  | .alignmentTimer => true
  | .cycleBoundary => true
  | .roundFrameLaunch round _ _ => decide (round < 16)
  | .roundFrame lane frame => okLane lane && okFrame frame
  | .roundFrameVerified lane => okLane lane
  | .roundFrameMissing round direction => decide (round < 16) && decide (direction < 2)
  | .ringEnable chan => okChan chan
  | .ringDisable chan => okChan chan
  | .listenTimerExpiry => true
  | .ringLoss => true
  | .nodeLeft name => decide (name < 18446744073709551616)
  | .laneLost lane => okLane lane
  | .roundLoss lane => okLane lane
  | .wrapRestoreHoldoff lane => okLane lane
  | .wrapRelease => true
  | .lanesCrossed => true
  | .requestGo chan => okChan chan
  | .modeRequestEvaluation => true
  | .modeSwitch => true
  | .modeAdopt => true
  | .cyclePoint point => decide (point < 16)
  | .portEnable chan port => okChan chan && decide (port < 256)
  | .portDisable chan port => okChan chan && decide (port < 256)
  | .segmentListenTimer port => decide (port < 256)
  | .segmentCycleBoundary port => decide (port < 256)
  | .slotLatch port slot => decide (port < 256) && decide (slot < 64)
  | .slotActionPoint port slot _ => decide (port < 256) && decide (slot < 64)
  | .segmentFrame port sender frame => decide (port < 256) && decide (sender < 256) && okFrame frame
  | .slotEnd port slot => decide (port < 256) && decide (slot < 64)
  | .syncFrame port frame => decide (port < 256) && okFrame frame
  | .coldstartBackoffExpiry port => decide (port < 256)
  | .tailStart port _ => decide (port < 256)
  | .listenOnlyRelease port node => decide (port < 256) && decide (node < 256)
  | .presenceLeave port node => decide (port < 256) && decide (node < 256)
  | .segmentModeSwitch port => decide (port < 256)
  | .linkUp port => decide (port < 256)
  | .linkDown port => decide (port < 256)
  | .frameReceived port frame => decide (port < 256) && okFrame frame
  | .streamUnblock chan handle => okChan chan && decide (handle < 8192)
  | .hostFrameHandover ring => decide (ring < 4096)
  | .queueRoom ring => decide (ring < 4096)
  | .calendarSlot ring => decide (ring < 4096)
  | .macFree medium => decide (medium.port < 256)
  | .launchTimeReached port cls => decide (port < 256) && decide (cls < 8)
  | .gateEntry port => decide (port < 256)
  | .gateTakeOver port => decide (port < 256)
  | .preemptionVerifyTimer port => decide (port < 256)
  | .preemptionRespond port => decide (port < 256)
  | .recoveryResetTimeout fn => decide (fn < 4096)
  | .latentErrorTest fn => decide (fn < 4096)
  | .latentReset fn => decide (fn < 4096)
  | .highWaterRead chan queue column => okChan chan && decide (queue < 2048) && decide (1 ≤ column && column ≤ 2)
  | .taskStart engine task => decide (engine < 128) && decide (task < 64)
  | .route engine => decide (engine < 128)
  | .pack engine => decide (engine < 128)
  | .unpack engine => decide (engine < 128)
  | .protect engine => decide (engine < 128)
  | .check engine => decide (engine < 128)
  | .hold engine => decide (engine < 128)
  | .transact engine => decide (engine < 128)
  | .report engine => decide (engine < 128)
  | .taskFinish engine _ => decide (engine < 128)
  | .taskBudgetExceeded engine => decide (engine < 128)
  | .resultAccept grove => decide (grove < 8)
  | .inboundImageSnapshot image => decide (image < 64)
  | .outboundImageRead image => decide (image < 64)
  | .outboundImageReadDone image _ _ _ => decide (image < 64)
  | .hostMessageReceived channel message => decide (channel < 64) && decide (message.length ≤ 4112)
  | .doorbell _ ring position => decide (ring < 4096) && decide (position < 131072)
  | .push ring window _ => decide (ring < 4096) && decide (window.length ≤ 128)
  | .entryFetchDone _ ring position covered entries => decide (ring < 4096) && decide (position < 131072) && decide (covered < 131072) && okEntries entries
  | .txBufferReadDone ring _ => decide (ring < 4096)
  | .txFrameComplete ring => decide (ring < 4096)
  | .ringHoldoffTimer _ ring => decide (ring < 4096)
  | .queueEnable _ ring => decide (ring < 4096)
  | .queueDisable _ ring => decide (ring < 4096)
  | .drainComplete _ ring => decide (ring < 4096)
  | .queueConfigWrite _ ring offset value => decide (ring < 4096) && [0, 4, 8].contains offset && decide (value < 4294967296)
  | .forceDisableTx chan ring => okChan chan && decide (ring < 4096)
  | .forceDisableRx chan ring => okChan chan && decide (ring < 4096)
  | .functionLevelReset fn => decide (fn < 66)
  | .busMasterChanged fn _ => decide (fn < 66)
  | .vfEnableChanged _ _ => true
  | .dmaReadError _ ring => decide (ring < 4096)
  | .dmaWriteError fn => decide (fn < 66)
  | .eqHeadWrite queue head _ => decide (queue < 1024) && decide (head < 131072)
  | .eqEnable queue => decide (queue < 1024)
  | .eqHoldoffTimer queue => decide (queue < 1024)
  | .msixUnmask vector => decide (vector < 2048)
  | .clockPageRead fn => decide (fn < 66)
  | .registerWrite fn offset value => decide (fn < 66) && decide (offset < 1048592) && decide (value.length ≤ 128)
  | .pcieLinkChanged link _ _ => decide (link < 2)
  | .perst link => decide (link < 2)
  | .stackHello stackPort message => decide (stackPort < 2) && decide (8 ≤ message.length) && decide (message.length ≤ 9600)
  | .stackHelloTimer stackPort => decide (stackPort < 2)
  | .stackLinkUp stackPort => decide (stackPort < 2)
  | .stackLinkDown stackPort => decide (stackPort < 2)
  | .stackMemberLost member => decide (member < 4)
  | .viewForward views => decide (views.port < 2)
  | .streamForward handle copy =>
    decide (handle < 8192) && decide (copy.port < 2) && decide (copy.member < 4) && okFrame copy.frame
  | .stepRecordSend => true
  | .stepRecord epoch body => decide (epoch < 4294967296) && body.length == 152
  | .stepRecordMissed => true
  | .mirror message => decide (message.engine < 128)
  | .selfTestRequest grove _ => decide (grove < 8)
  | .groveSelfTestStart grove => decide (grove < 8)
  | .groveSelfTestEnd grove _ => decide (grove < 8)
  | .selfTestResult grove _ => decide (grove < 8)
  | .selfTestResultTimeout grove => decide (grove < 8)
  | .leaseExpiry => true
  | .witnessPollSend => true
  | .witnessPoll lane epoch body _ => okLane lane && decide (epoch < 4294967296) && body.length == 784
  | .voteLockEnd => true
  | .witnessPollEvaluation => true
  | .noWitnessAcquire => true
  | .twinSwitchover chan => okChan chan
  | .releaseAcquire => true
  | .coppiceRequest firmware digests => decide (firmware < 4294967296) && digests.length == 8
  | .coppiceSnapshot => true
  | .snapshotChunk _ _ => true
  | .logChunk _ _ _ => true
  | .coppiceDone => true
  | .coppiceTimeout => true
  | .backgroundSelfTestStep test inst _ _ => decide (test < 3) && decide (inst < 42)
  | .kilnGo => true
  | .kilnMessageFragment port frame => decide (port < 258) && okFrame frame
  | .kilnFragmentTimeout port => decide (port < 258)
  | .getStatus source tag => okSource source && decide (tag < 65536)
  | .getCertificate source tag _ => okSource source && decide (tag < 65536)
  | .getChallenge source tag => okSource source && decide (tag < 65536)
  | .challengeExpiry => true
  | .attest source tag nonce => okSource source && decide (tag < 65536) && nonce.length == 32
  | .fwBegin source tag slot _ => okSource source && decide (tag < 65536) && decide (slot < 2)
  | .fwWrite source tag _ _ => okSource source && decide (tag < 65536)
  | .fwCommit source tag => okSource source && decide (tag < 65536)
  | .fwConfirm source tag => okSource source && decide (tag < 65536)
  | .fwAbort source tag => okSource source && decide (tag < 65536)
  | .owner source tag command => okSource source && decide (tag < 65536) && decide (command.length ≤ 12272)
  | .installOwnerKey source tag command => okSource source && decide (tag < 65536) && decide (command.length ≤ 12272)
  | .rotateOwnerKey source tag command => okSource source && decide (tag < 65536) && decide (command.length ≤ 12272)
  | .restoreOwnerKey source tag command => okSource source && decide (tag < 65536) && decide (command.length ≤ 12272)
  | .setPolicy source tag command => okSource source && decide (tag < 65536) && decide (command.length ≤ 12272)
  | .burnLocks source tag command => okSource source && decide (tag < 65536) && decide (command.length ≤ 12272)
  | .setLockedRanges source tag command => okSource source && decide (tag < 65536) && decide (command.length ≤ 12272)
  | .setPeerAllowList source tag command => okSource source && decide (tag < 65536) && decide (command.length ≤ 12272)
  | .installCak source tag command => okSource source && decide (tag < 65536) && decide (command.length ≤ 12272)
  | .advanceRollback source tag command => okSource source && decide (tag < 65536) && decide (command.length ≤ 12272)
  | .debugUnlock source tag command => okSource source && decide (tag < 65536) && decide (command.length ≤ 12272)
  | .pairInit port sourceMac body => decide (port < 258) && decide (sourceMac < 281474976710656) && decide (body.length ≤ 12272)
  | .pairResponse port sourceMac body => decide (port < 258) && decide (sourceMac < 281474976710656) && decide (body.length ≤ 12272)
  | .pairConfirm port confirm => decide (port < 258) && confirm.length == 32
  | .pairDone port confirm => decide (port < 258) && confirm.length == 32
  | .pairTimeout port => decide (port < 258)
  | .pairingRetryTimer port => decide (port < 258)
  | .cakLifetimeExpiry port => decide (port < 258)
  | .mkpdu port pdu => decide (port < 258) && okFrame pdu.frame
  | .mkaHelloTimer port => decide (port < 258)
  | .mkaLifeTimeExpiry port _ => decide (port < 258)
  | .keyPathWrite port an _ _ _ => decide (port < 258) && decide (an < 4)
  | .txSaSwitch port => decide (port < 258)
  | .sakHoldoverExpiry port => decide (port < 258)
  | .kilnFault cause => decide (cause < 4)
  | .faultBucketBoundary cls => decide (cls < 64)
  | .mdiSample port _ _ _ _ _ => decide (port < 256)
  | .polarityCorrected port => decide (port < 256)
  | .tdrRequest chan port => okChan chan && decide (port < 256)
  | .tdrComplete _ _ => true
  | .supplyWarning _ => true
  | .supplyRecovered _ => true
  | .supplyOvervoltage _ => true
  | .brownOut _ => true
  | .thermalWarning sensor _ => decide (sensor < 12)
  | .thermalThrottle sensor _ => decide (sensor < 12)
  | .thermalShutdown sensor _ => decide (sensor < 12)
  | .thermalNormal _ => true
  | .eventFifoRoom => true
  | .softwareEvent chan value => okChan chan && decide (value < 18446744073709551616)
  | .counterSnapshot => true
  | .dumpComplete => true
  | .powerRequestIdle chan => okChan chan
  | .idleEntry => true
  | .powerRequestDormant chan => okChan chan
  | .wakePin => true
  | .portWakeActivity port => decide (port < 256)
  | .wakeAt => true
  | .groveIdle grove => decide (grove < 8)
  | .groveScheduledWake grove => decide (grove < 8)
  | .groveRunning grove => decide (grove < 8)
  | .powerOn => true
  | .railsValid stkpos _ _ => decide (stkpos < 4)
  | .stageOneRunning => true
  | .partsVerified => true
  | .bootImageCommitted => true
  | .operational => true
  | .resetn => true
  | .moduleReset chan value => okChan chan && decide (value < 4294967296)
  | .moduleResetTimer => true
  | .canopyLost => true
  | .aux3v3Overcurrent => true
  | .aux3v3Retry _ => true
  | .aux3v3Undervoltage => true
  | .aux3v3Recovered => true
  | .canopyCrystalSwitch => true
  | .canopyCrystalFailure => true
  | .kilnOperationDone => true
  | .domainRestartComplete domain => okDomain domain
  | .memoryError place _ => okPlace place
  | .pcieErrorReported link _ _ => decide (link < 2)
  | .brownOutRecovered => true
  | .overvoltageEnded => true
  | .thermalThrottleEnd => true
  | .plcaStatusChanged port _ => decide (port < 256)
  | .stackRelayResponse stackPort message => decide (stackPort < 2) && decide (message.length ≤ 4112)
  | .gptpPdelayResp port domain sequence _ _ frames =>
    decide (port < 256) && decide (domain < 256) && decide (sequence < 65536) && okPair frames
  | .announceReceived arrival => decide (arrival.port < 256) && okFrame arrival.frame
  | .inboundImageWriteDone image => decide (image < 64)
  | .activeResumed => true

end Sys2Proof
end

