-- ==== Sys2Proof/Decode.lean ====
section
/-! DEFINITION. Words that spell commands. No row of the opcode table gives its command bits: the block's commands are
register writes, messages, events and instants. -/

namespace Sys2Proof

/-- The command that a word spells by the table's bits: none, for no row gives any (log entry 2). -/
def decodeTableWord (_nbits _w : Nat) : Option Instr := none

end Sys2Proof
end

