-- ==== Sys2Proof/Config.lean ====
section
/-! DEFINITION. What one module fixes (identity assigned at manufacture) and the free values: constants without a
body, so that nothing can be proved about the value the manual leaves open (log entry 5). -/

namespace Sys2Proof.Config

/-- 0x1000:04 SerialNumber, "Per module" (R55). -/
opaque serialNumber : Nat
/-- P+0:06 MacAddress of port `p`, "Assigned at manufacture" (R155). -/
opaque portMac : Nat → Nat
/-- 0x9002 column 5 MacAddress of stack port `n` (R279). -/
opaque stackMac : Nat → Nat
/-- 0x3500:06 ClockIdentity, "Per module" (R83). -/
opaque clockIdentity : Nat
/-- 0x7000:02 CatalogueVersion, fixed by the firmware (R233). -/
opaque catalogueVersion : Nat

/-- The free value number `n`: a value the manual leaves open, a fresh one at each use. -/
opaque freeValue : Nat → Nat
/-- Byte `n` of the Kiln's true random source (R323). -/
opaque randomByte : Nat → Byte
/-- Latency of the PHY of an LK or SG port from the MAC point to the reference plane, and from the reference plane to the MAC
point, in 2^-16 ns (R59): not stated. -/
opaque phyTransmitLatency : Nat → Nat
opaque phyReceiveLatency : Nat → Nat

/-- Traffic class, mod 8, in which the module's management responses and notifications leave a port (R40): not stated. -/
opaque responseClass : Nat
/-- Traffic class, mod 8, in which gPTP messages of the module leave a port (R76): not stated. -/
opaque gptpClass : Nat

/-- Bit position in the PDU of the signal of an UNPACK row (R215): not stated. By the row's place in the task, the Source of
the first row, and the row's Destination, Size and Format. -/
opaque unpackBit : Nat → Nat → Nat → Nat → Nat → Nat

/-- SHAKE256 (FIPS 202): byte `i` of the output over the message. -/
opaque shake256Byte : Bytes → Nat → Byte
/-- Pure ML-DSA verification (FIPS 204): algorithm (1 ML-DSA-65, 2 ML-DSA-87), public key, context, message, signature. -/
opaque mlDsaVerify : Nat → Bytes → Bytes → Bytes → Bytes → Bool
/-- Byte `i` of a pure ML-DSA-65 signature by the key pair of the given seed: context, message. -/
opaque deviceSignByte : Bytes → Bytes → Bytes → Nat → Byte
/-- Byte `i` of the ML-KEM-768 encapsulation key (FIPS 203) made from the given seed bytes. -/
opaque kemPublicByte : Bytes → Nat → Byte
/-- Byte `i` of the ML-KEM-768 ciphertext for an encapsulation key and random bytes. -/
opaque kemCipherByte : Bytes → Bytes → Nat → Byte
/-- Byte `i` of the shared secret that encapsulation yields for an encapsulation key and random bytes. -/
opaque kemSecretByte : Bytes → Bytes → Nat → Byte
/-- Byte `i` of the shared secret that decapsulation yields for key seed bytes and a ciphertext. -/
opaque kemDecapByte : Bytes → Bytes → Nat → Byte
/-- AES-256-GCM opening of a 48-byte wrapped CAK under a key: the CAK, or none when the tag fails (R332). -/
opaque aesGcmOpen : Bytes → Bytes → Option Bytes
/-- Byte `i` of the ML-DSA-65 public key of the key pair of the given seed (FIPS 204). -/
opaque dsaPublicByte : Bytes → Nat → Byte
/-- Byte `i` of the device certificate, X.509 v3, that binds a serial number to a device public key (R330), and its length. -/
opaque deviceCertificateByte : Nat → Bytes → Nat → Byte
opaque deviceCertificateLength : Nat → Bytes → Nat
/-- Byte `i` of the certificate number `n` (1 issuing CA, 2 root) of a certificate bundle, and its length (R330). -/
opaque bundleCertificateByte : Bytes → Nat → Nat → Byte
opaque bundleCertificateLength : Bytes → Nat → Nat
/-- Whether a DER certificate chains through the issuing CA of a certificate bundle (R346). -/
opaque certificateChains : Bytes → Bytes → Bool
/-- The serialNumber attribute of a certificate's subject, as a number (R330). -/
opaque certificateSerial : Bytes → Nat
/-- The ML-DSA-65 public key of a certificate. -/
opaque certificateKey : Bytes → Bytes
/-- CaerharKeyHash `i`, 32 bytes, written to OTP at manufacture (Table 10.2). -/
opaque caerharKeyHash : Nat → Bytes
/-- CaerharRootHash of OTP (Table 10.2). -/
opaque caerharRootHash : Bytes
/-- Whether a certificate bundle, part 6 of a package, verifies against the hash of the Caerhar root key (R326). -/
opaque bundleVerifies : Bytes → Bytes → Bool
/-- The firmware package in flash slot `i` (0 A, 1 B) at first power-on: loaded at manufacture. -/
opaque factoryPackage : Nat → Bytes
/-- Byte `i` of a key that IEEE 802.1X-2020 derives from a CAK and its CKN (R323): key 0 the ICK, 1 the KEK. -/
opaque mkaKeyByte : Nat → Bytes → Bytes → Nat → Byte
/-- Whether the ICV of an MKPDU verifies under an ICK (IEEE 802.1X-2020, R344). -/
opaque mkaIcvGood : Bytes → Bytes → Bool
/-- A SAK wrapped under a KEK, and opened again where it was wrapped under it (IEEE 802.1X-2020, R323). -/
opaque wrapSak : Bytes → Bytes → Bytes
opaque unwrapSak : Bytes → Bytes → Option Bytes
/-- HardwareUniqueKey and DeviceKeySeed of OTP as written at manufacture (Table 10.2); they never leave the Kiln. -/
opaque hardwareUniqueKey : Nat
opaque deviceKeySeed : Nat

end Sys2Proof.Config
end

