-- ==== Sys2Proof/Machine/Objects.lean ====
section
/-! DEFINITION. The object dictionary's tables, as the manual gives them: type, access, default and range of every
object (R31 to R35, R55, R83, R125, R155, R199, R233, R277, R318, R352, R374, R392, R411, R437).

One value of any type is held as one `Int`: numbers as themselves, TIME in units of 2^-16 ns, OCTETS(n) as the number
whose little-endian bytes they are (so that bit p of a port mask is bit p of the number). -/

namespace Sys2Proof.Machine

/-- Object types (Table 2.1). -/
inductive Ty where
  | bool | u8 | u16 | u32 | u64 | i8 | i16 | i32 | i64 | time | dur | name
  | octets (n : Nat)
deriving DecidableEq, Repr

/-- Access rights (Table 2.2). -/
inductive Acc where
  | const | ro | wo | rw | rws | rwc
deriving DecidableEq, Repr

/-- Ranges (R46): a numeric interval, a list of values, or an interval with extra values; `any` states none. -/
inductive Rng where
  | any
  | nums (lo hi : Int)
  | enum (values : List Int)
  | mixed (lo hi : Int) (extra : List Int)
deriving DecidableEq, Repr

/-- A cell of an object: an entry of a RECORD or ARRAY, a column of a TABLE, or the value of a single object. `acc` is
none where the cell has the access of its object. -/
structure Cell where
  ty : Ty
  dflt : Int
  rng : Rng
  acc : Option Acc

/-- The shape of an object (R32). -/
inductive Shape where
  | single | record | array | table
deriving DecidableEq, Repr

/-- One object; the cell of subindex n is the n-th of `cells` (the first for a single value). -/
structure Obj where
  idx : Nat
  shape : Shape
  rows : Nat
  acc : Acc
  cells : List Cell

/-- A cell with the access of its object. -/
def cell (ty : Ty) (d : Int := 0) (rng : Rng := .any) : Cell := ⟨ty, d, rng, none⟩
/-- A cell with an access of its own. -/
def cellAs (acc : Acc) (ty : Ty) (d : Int := 0) (rng : Rng := .any) : Cell := ⟨ty, d, rng, some acc⟩
/-- A BOOL cell. -/
def flag (d : Int := 0) : Cell := ⟨.bool, d, .enum [0, 1], none⟩
/-- A numeric cell with limits. -/
def num (ty : Ty) (d lo hi : Int) : Cell := ⟨ty, d, .nums lo hi, none⟩
/-- A single-value object. -/
def one (idx : Nat) (acc : Acc) (c : Cell) : Obj := ⟨idx, .single, 1, acc, [c]⟩
/-- A RECORD. -/
def recd (idx : Nat) (acc : Acc) (cs : List Cell) : Obj := ⟨idx, .record, 1, acc, cs⟩
/-- An ARRAY of `n` like entries. -/
def arr (idx n : Nat) (acc : Acc) (c : Cell) : Obj := ⟨idx, .array, 1, acc, List.replicate n c⟩
/-- A TABLE. -/
def tab (idx rows : Nat) (acc : Acc) (cs : List Cell) : Obj := ⟨idx, .table, rows, acc, cs⟩

/-- Local index of a port, and its type by it (R18): 0 backbone lane, 1 to 3 link, 4 to 31 segment. -/
def isBB (p : Nat) : Bool := p % 32 == 0
def isLK (p : Nat) : Bool := 1 ≤ p % 32 && p % 32 ≤ 3
def isSG (p : Nat) : Bool := 4 ≤ p % 32
/-- A global port number of this module. -/
def isPort (p : Nat) : Bool := p < 256

/-- The range of a port number that names the ports of some kinds. -/
def portsThat (kind : Nat → Bool) : Rng := .enum (((List.range 256).filter kind).map fun p => (p : Int))

def u32Max : Int := 4294967295
def u64Max : Int := 18446744073709551615

/-! ## Status codes (Table 2.7) -/

def stOk : Nat := 0x00
def stClamped : Nat := 0x01
def stSuperseded : Nat := 0x02
def stNoObject : Nat := 0x10
def stNoSubindex : Nat := 0x11
def stDenied : Nat := 0x12
def stNotReady : Nat := 0x13
def stLength : Nat := 0x14
def stState : Nat := 0x15
def stBusy : Nat := 0x16
def stAuthFailed : Nat := 0x20
def stLocked : Nat := 0x21

/-- The range of an object that holds a status. -/
def statusCodes : List Int :=
  [stOk, stClamped, stSuperseded, stNoObject, stNoSubindex, stDenied, stNotReady, stLength, stState, stBusy, stAuthFailed,
    stLocked].map fun n => (n : Int)

/-! ## The objects -/

/-- Table 2.12. -/
def objectsModule : List Obj := [
  recd 0x1000 .const [cell .u16 0x1D7A, cell .u16 0x8256, cell .u8 0x02, cell .u64 (Config.serialNumber : Int),
    cellAs .ro .u32, cellAs .ro .u8 0 (.enum [0, 1])],
  one 0x1001 .ro (num .u8 0 0 5),
  one 0x1003 .ro (num .u8 0 0 3),
  recd 0x1010 .ro [cell .u32],
  tab 0x1F80 256 .ro [cell .time, cell .u16, cell .u8, cell .u16, cell .u8, cell .u8, cell .u64, cell .u64],
  one 0x1F81 .ro (cell .u32),
  one 0x1F82 .wo (cell .bool 0 (.enum [1])),
  one 0x2001 .rws (cell .name),
  one 0x2010 .wo (cell .u8 1 (.enum [1, 2, 3])),
  recd 0x2011 .ro [num .u8 0 0 3, cell .u16, cell .u64, cell .u16],
  tab 0x2020 256 .rwc [cell .u16, cell .u8, cell .u8],
  one 0x2030 .rwc (cell (.octets 32)),
  one 0x2031 .rwc (cell (.octets 32)),
  one 0x2040 .wo (cell (.octets 1048576)),
  one 0x2041 .wo (cell .u8 1 (.nums 1 3)),
  recd 0x2042 .ro [cell .u8 0 (.enum statusCodes), cell .u32, cell .u32, cell .u32, cell .u32],
  one 0x2043 .ro (cell .u32)]

/-- Tables 13.9 and 14.13. -/
def objectsPower : List Obj := [
  tab 0x2100 8 .rwc [num .u8 1 0 2, num .dur 20000 20000 1000000, num .dur 40000 40000 100000000, flag],
  tab 0x2101 64 .ro [num .u8 0 0 2, cell .u16, cell .u16, cell .dur],
  tab 0x2102 8 .ro [num .u8 0 0 3, cell .time, cell .time],
  recd 0x2200 .ro [cell .u8 3 (.enum [2, 3]), cellAs .wo .u8 0 (.enum [1, 2]), num .u8 5 1 7, cell .time],
  one 0x2210 .wo (cell .u32 0 (.enum [0, 0x424E5253])),
  recd 0x2220 .rwc [flag 1, num .dur 50000 10000 1000000, cell .time, cell (.octets 32), flag 1],
  tab 0x2221 16 .ro [cell .time, cell .u8, cell .u16],
  recd 0x2230 .rwc [flag 1, flag, cellAs .ro .u8 1 (.nums 0 3), cellAs .ro .u16, cellAs .ro .u32],
  one 0x2240 .rwc (cell (.octets 32) (2 ^ 256 - 1)),
  recd 0x2250 .ro [cell .u8 1 (.enum [0, 1]), cell .u32]]

/-- Table 3.11. -/
def objectsTime : List Obj := [
  one 0x3000 .ro (cell .time),
  recd 0x3001 .ro [num .u8 0 0 3, num .u8 0 0 4, cell .i64, num .i64 0 (-219902325) 219902325, cell .time, cell .u32],
  one 0x3002 .wo (cell .time),
  one 0x3003 .wo (num .i64 0 (-65536000000000) 65536000000000),
  one 0x3100 .rwc (num .u8 1 0 3),
  one 0x3101 .rwc (cell .u8 0 (.enum [0, 2, 3])),
  one 0x3102 .rwc (cell .u16 1 (portsThat fun p => isBB p || isLK p)),
  recd 0x3110 .rwc [num .u8 3 1 255, num .u8 8 2 255, num .dur 20 1 100000, num .dur 1000 10 1000000,
    num .dur 1000 10 1000000000, num .u32 10000 100 200000, num .u8 8 1 64, num .dur 1000000000 1000000 3600000000000],
  recd 0x3200 .ro [cell .i64, cell .i64, ⟨.u8, 4, .nums 0 8, some .rwc⟩, ⟨.dur, 5, .nums 1 1000, some .rwc⟩, num .u8 0 0 63],
  tab 0x3201 8 .rwc [cell .i32, cell .i32],
  recd 0x3300 .ro [cell .i64, cell .i64],
  tab 0x3400 256 .ro [num .u8 0 0 2, cell .i64, cell .i64, cell .u8, cell .i64, cell .i64, cell .i64],
  tab 0x3401 256 .rwc [num .u32 25 0 1000, num .u32 1000 10 100000, num .u32 500 10 200000, num .u32 0 0 10000,
    num .u8 4 1 255],
  recd 0x3500 .rwc [flag, num .u8 0 0 127, num .i8 (-3) (-5) 0, num .i8 0 (-3) 3, num .u8 3 2 255,
    cellAs .const (.octets 8) (Config.clockIdentity : Int), num .u8 246 0 255],
  one 0x3501 .rwc (cell (.octets 32)),
  tab 0x3502 256 .ro [num .u8 0 0 2, cell .bool, cell .i64, cell .i64, cell .u32],
  recd 0x3600 .rwc [flag, num .dur 100000000 1000 500000000, cell .i32],
  recd 0x3601 .rwc [flag, cell .u8 0 (.enum [0, 1]), cell .i32, cellAs .ro .time],
  one 0x3602 .wo (cell .u64),
  tab 0x3610 8 .rwc [num .u8 0 0 5, cell .time, cell .dur 0 (.mixed 100 1000000000000 [0]), num .dur 1000 10 500000000,
    cell .i32],
  tab 0x3611 8 .ro [cell .time, cell .u32, cell .u32],
  recd 0x3700 .ro [⟨.u8, 0, .enum [0, 1], some .rws⟩, cell .dur]]

/-- Table 4.12. -/
def objectsRing : List Obj := [
  recd 0x4000 .rws [⟨.bool, 0, .enum [0, 1], some .rw⟩, cell .u16 0 (portsThat isBB), cell .u16 32 (portsThat isBB),
    num .u32 250000 25000 100000000, flag, num .u8 254 0 254,
    num .u16 4 2 1000, num .u16 2 1 1000, ⟨.u8, 8, .nums 2 255, some .rwc⟩, ⟨.u8, 2, .nums 1 255, some .rwc⟩,
    ⟨.u32, 500, .nums 100 10000, some .rwc⟩, ⟨.u16, 8, .nums 2 1000, some .rwc⟩, ⟨.u8, 2, .nums 1 255, some .rwc⟩],
  recd 0x4001 .ro [num .u8 0 0 4, num .u8 0 0 63, num .u8 0 0 64, cell .name, num .u8 0 0 7, cell .u64, num .u8 0 0 3,
    cell .u8 0xFF, cell .u64, cell .u32, cell .u32],
  recd 0x4010 .ro [⟨.u8, 0, .nums 0 7, some .rw⟩, ⟨.u8, 4, .nums 2 255, some .rw⟩, ⟨.bool, 0, .enum [1], some .wo⟩,
    num .u8 0 0 3, cell .u64, cell .u64],
  one 0x4020 .ro (cell .u8),
  arr 0x4021 8 .ro (cell .u32),
  tab 0x4110 64 .rwc [flag, cell .u32, num .u16 40 40 9128],
  tab 0x4120 8192 .rwc [cell .u16 0xFFFF (.mixed 0 4095 [0xFFFF]), num .u8 0 0 7, cell .name, num .u16 32 32 9120,
    num .u16 8 8 1016, cell .u8 0 (.enum [0, 1])],
  tab 0x4130 8192 .rwc [cell .u8, cell .u8],
  tab 0x4140 128 .rwc [flag, cell .u32, num .u8 1 0 3],
  tab 0x4300 1024 .ro [num .u8 0 0 2, cell .u8, cell .u32, cell .u32, cell .u32, cell .u32, cell .u64],
  tab 0x4310 64 .ro [cell .name, cell .bool, cell .u8, cell .u8, cell .u32, cell .u32, cell .u8]]

/-- Table 5.7, the object at offset `k` of port `p`. -/
def objectPort (p k : Nat) : Option Obj :=
  let i := 0x5000 + 16 * p + k
  match k with
  | 0 => some (recd i .rws [⟨.bool, 0, .enum [0, 1], some .rw⟩,
      cell .u8 0 (.enum (if isSG p then [0, 1, 2] else if isLK p then [0, 1] else [0])),
      cell .u8 0 (.enum (if isSG p then [0] else [0, 1])), cell .u8 0 (.enum [0, 1]),
      ⟨.u16, if isBB p then 9216 else 1522, .nums 64 (if isSG p then 2048 else 9216), some .rwc⟩, cell (.octets 6) (Config.portMac p : Int)])
  | 1 => some (recd i .ro [cell .bool, cell .bool, num .u8 0 0 5, num .u8 0 0 7, cell .u64, cell .time, cell .bool])
  | 2 => some (recd i .rws [num .u8 0 0 254, num .u8 8 1 255, num .u8 32 1 255, num .u8 0 0 255, num .u8 128 0 255])
  | 3 => some (recd i .rwc [num .u32 5000000 1000000 1000000000, num .u32 200 10 10000, num .u16 4 1 1000,
      num .u8 0 0 14, flag, num .dur 2000000 0 100000000, num .u8 4 2 255, num .u8 4 1 255, num .u8 8 1 255,
      num .u32 2000 0 10000000, num .dur 5000 1000 100000])
  | 4 => some (tab i 512 .rwc [flag, num .u8 0 0 (if isLK p then 1 else 254), cell .u32, cell .u32 800, cell .u8,
      num .u8 0 0 8])
  | 5 => some (one i .ro (cell (.octets 32)))
  | 6 => some (tab i 255 .ro [cell .bool, cell .u64, cell .u32, cell .u32, cell .bool, cell .i64, cell .u32])
  | 7 => some (tab i 64 .ro [cell .u32, cell .u32, cell .u32, cell .u32, cell .i64, cell .u64])
  | 8 => some (arr i 8 .ro (cell .u32))
  | _ => none

/-- Table 6.11. -/
def objectsTraffic : List Obj := [
  tab 0x6000 256 .rwc [num .i8 20 (-32) 63, flag, num .u8 0 0 3, cell .u8, flag 1, num .u8 10 1 128,
    cell (.octets 8) 0x0706050403020100],
  tab 0x6001 256 .ro [cell .bool, num .u8 0 0 3, num .u8 255 0 255, cell .bool],
  tab 0x6010 8192 .rwc [flag, num .u8 0 0 3, cell .u16 0xFFFF, cell (.octets 6), num .u8 2 0 2, num .u16 0 0 4095,
    cell (.octets 16), cell (.octets 16), cell .u8 0xFF, cell .u16 0xFFFF, cell .u16, cell .u16, num .u16 0 0 8191],
  tab 0x6020 8192 .rwc [flag, cell (.octets 32), num .u8 0 0 8, num .u16 0 0 9216, flag,
    cell .u16 0xFFFF (.mixed 0 4095 [0xFFFF]), num .u8 0 0 2, cell .u16 0xFFFF (.mixed 0 1023 [0xFFFF]),
    cell .u16 0xFFFF (.mixed 0 4095 [0xFFFF])],
  tab 0x6021 8192 .ro [cell .u64, cell .u64, cell .u32, cell .bool, cell .u32, cell .u32, cell .u32, cell .u16],
  one 0x6022 .wo (num .u16 0 0 8191),
  tab 0x6030 64 .rwc [flag, cell .u16 0xFFFF, cell .u16, cell .u8 0xFF (.mixed 0 7 [0xFF]),
    cell .u8 3 (.enum [0, 1, 2, 3]), cell .u16 0xFFFF (.mixed 0 4095 [0xFFFF])],
  tab 0x6031 16 .rwc [cell (.octets 6), flag],
  tab 0x6100 256 .rwc [flag, cell .u8 0xFF, cell .time, num .dur 250000 1000 100000000, num .dur 0 0 100000000,
    num .u16 0 0 1024, cell .u8 0xFF (.mixed 0 7 [0xFF]), flag],
  tab 0x6101 256 .ro [cell .time, cell .dur, cell .dur, cell .u16, cell .bool, cell .time, cell .u32, cell .dur u64Max,
    cell .dur u64Max, cell .dur u64Max, cell .dur u64Max, cell .dur u64Max, cell .dur u64Max, cell .dur u64Max,
    cell .dur u64Max],
  tab 0x6400 2048 .rwc [num .u8 0 0 2, num .u32 0 0 25000000, num .u32 16384 64 16777215,
    num .u32 65536 2048 16777216],
  tab 0x6410 2048 .ro [cell .u32, cell .u16, cell .i64, cell .u32, cell .u32, cell .u32, cell .u32],
  tab 0x6500 4096 .rwc [num .u8 0 0 2, num .u32 0 0 25000000, num .u32 0 0 16777215, cell .u32, cell .u32, flag, flag, num .u8 0 0 2, num .u8 0 0 7, num .u8 0 0 2, num .u8 0 0 7, cell (.octets 16)],
  tab 0x6510 4096 .ro [cell .u64, cell .u64, cell .u64, cell .u64, cell .i64, cell .i64],
  tab 0x6600 1024 .rwc [cell .u8 0 (.enum [0, 1]), num .u8 32 2 64, num .u16 100 1 65535, flag, flag,
    num .u32 50 1 65535, num .u16 2000 1 65535, num .u8 2 2 8, num .u32 30000 1000 3600000],
  tab 0x6601 1024 .ro [cell .u64, cell .u64, cell .u64, cell .u64, cell .u64, cell .u64, cell .u64, cell .u64, cell .u16],
  tab 0x6700 4096 .rwc [flag, num .u32 1000000 1 25000000, num .u32 16384 64 16777215],
  tab 0x6701 4096 .ro [cell .i64, cell .time, cell .u32],
  tab 0x6800 32 .rwc [num .u8 0 0 2, num .u16 4000 1 65535, num .u16 0 0 4095],
  tab 0x6810 2048 .ro [cell .u32, cell .u32]]

/-- 0x6200 + p AdminGateList and 0x6300 + p OperGateList. -/
def gateListCells : List Cell := [num .u8 0 0 2, cell .u8 0xFF, num .u32 0 0 100000000]

/-- Table 7.9, without the families by engine and grove. -/
def objectsMessages : List Obj := [
  recd 0x7000 .rw [flag, cellAs .const .u32 (Config.catalogueVersion : Int),
    ⟨.u8, 0xFF, .mixed 0 63 [0xFF], some .rwc⟩],
  tab 0x7010 1024 .rwc [flag, cell .u16 0xFFFF],
  tab 0x7011 128 .ro [num .u8 0 0 3, cell .u16, cell .u16],
  tab 0x7400 64 .rwc [flag, cell .u8 0 (.enum [0, 1]), num .u8 0 0 65, num .u32 4096 32 65536, cell .u32,
    num .u8 0 0 15],
  tab 0x7401 64 .ro [cell .u64, cell .u32, cell .u32, cell .u32, cell .u32, cell .time],
  tab 0x7402 8192 .rwc [cell .u8 0xFF (.mixed 0 63 [0xFF]), cell .u16 16],
  tab 0x7410 64 .rwc [flag, num .u8 0 0 65, num .u16 0 0 4095, num .u16 0 0 4095],
  tab 0x7411 64 .ro [cell .u64, cell .u64, cell .u32, cell .u32],
  tab 0x7420 4096 .rwc [cell .u16 0xFFFF, num .u16 0 0 511, cell (.octets 6) 0xFFFFFFFFFFFF, cell .u16 0x88B5, cell .u16]]

/-- The families 0x7100 to 0x7247 of Table 7.9. -/
def objectMessageFamily (i : Nat) : Option Obj :=
  if 0x7100 ≤ i && i < 0x7180 then
    some (tab i 512 .rwc [flag, num .u8 0 0 7, num .u32 0 0 999999999, num .u32 1000 64 16000000, num .u16 0 0 16383,
      num .u16 1 1 16384, cell .u8 1])
  else if 0x7180 ≤ i && i < 0x7200 then
    some (tab i 64 .ro [cell .u64, cell .u32, cell .u32, cell .time, cell .u32, cell .u32, cell .u8])
  else if 0x7200 ≤ i && i < 0x7208 then
    some (tab i 16384 .rwc [cell .u64, cell .u64, num .u16 1 1 4096, cell .u8])
  else if 0x7210 ≤ i && i < 0x7218 then
    some (tab i 1024 .rwc [cell .u64, cell .u64, cell .u16, cell .u8 0 (.enum [0, 1]), num .u16 0 0 4092,
      num .u16 2 0 4095, num .u16 8 8 4096, num .u8 1 1 14, num .u16 4 1 65535])
  else if 0x7218 ≤ i && i < 0x7220 then
    some (tab i 1024 .ro [cell .u8, cell .u8, cell .u32, cell .u32])
  else if 0x7220 ≤ i && i < 0x7228 then
    some (tab i 1024 .rwc [cell .u64, cell .u64, num .u8 10 1 255, cell .u8 0 (.enum [0, 1]), cell .i64])
  else if 0x7230 ≤ i && i < 0x7238 then
    some (tab i 512 .rwc [cell .u64, cell .u64, cell .u64, cell .u64, num .u16 0 0 4095, cell .u8 1 (.enum [1, 2]),
      num .u32 100000 1 4294967295, num .u8 0 0 15])
  else if 0x7238 ≤ i && i < 0x7240 then
    some (tab i 512 .ro [num .u8 0 0 1, cell .u16, cell .time, cell .u32, cell .u32, cell .u32])
  else if 0x7240 ≤ i && i < 0x7248 then
    some (tab i 1024 .rwc [cell .u64, cell .u16, cell .u8, cell .u16])
  else none

/-- Table 8.16. -/
def objectsHost : List Obj := [
  recd 0x8000 .ro [cell .u8 0 (.enum [0, 1]), num .u8 0 0 5, num .u8 0 0 8, num .u8 0 0 5, num .u8 0 0 4, ⟨.u8, 5, .nums 1 5, some .rwc⟩, cell .bool],
  recd 0x8010 .rwc [num .dur 100000000 1000000 1000000000, num .dur 1000 0 1000000, flag 1, flag],
  tab 0x8100 66 .rws [cell .u16, cell .u16, cell .u16, cell .u16, cell .u16, cell .u16, cell .u16, cell .u16],
  tab 0x8101 66 .ro [cell .bool, cell .bool, cell .u32, cell .u32],
  tab 0x8200 4096 .rwc [cell .u16 0xFFFF (.mixed 0 1023 [0xFFFD, 0xFFFF]), num .u8 0 0 7],
  tab 0x8201 4096 .ro [cell .u8, cell .u32, cell .u32, cell .u64, cell .u64, cell .u32, cell .u32, cell .u32],
  tab 0x8210 4096 .rwc [flag],
  tab 0x8211 4096 .ro [cell .u8, cell .u32, cell .u32, cell .u64, cell .u64, cell .u32, cell .u32],
  tab 0x8221 1024 .ro [cell .u64, cell .u32, cell .u32, cell .u64],
  tab 0x8230 256 .rwc [cell .u16 0xFFFF (.mixed 0 4095 [0xFFFF])],
  tab 0x8300 1024 .rwc [cell .u16 0xFFFF (.mixed 0 1023 [0xFFFF]), flag],
  one 0x8400 .rwc (cell .u8 0xFF (.mixed 0 65 [0xFF])),
  recd 0x8500 .wo [num .u16 0 0 4095, num .u16 0 0 4095]]

/-- Table 9.8. -/
def objectsTwin : List Obj := [
  recd 0x9000 .rws [num .u8 0 0 2, cellAs .ro .u8],
  tab 0x9001 2 .rw [flag],
  tab 0x9002 2 .ro [cell .bool, cell .u8, cell .name, cell .u32, cell (.octets 6)],
  arr 0x9010 2 .rw (num .u8 0 0 3),
  tab 0x9011 4 .ro [cell .bool, cell .name, cell .u8, cell .u32],
  one 0x9012 .rws (num .u32 0 0 33554432),
  tab 0x9013 8192 .rwc [cell .u8 0 (.enum [0, 2, 4, 6, 8, 10, 12, 14])],
  recd 0x9020 .rws [flag, cell .u8 0 (.enum [0, 1]), cell .name, cell .u8 0 (.enum [0, 1]),
    ⟨.dur, 1000000, .nums 100000 100000000, some .rwc⟩, ⟨.dur, 4000, .nums 1000 50000, some .rwc⟩,
    ⟨.u16, 0xFFFF, .mixed 0 0xEFF [0xFFFF], some .rwc⟩, ⟨.bool, 1, .enum [0, 1], some .rwc⟩,
    ⟨.u16, 400, .nums 16 4000, some .rwc⟩, ⟨.dur, 500000000, .nums 10000000 10000000000, some .rwc⟩],
  recd 0x9021 .ro [num .u8 6 0 6, cell .u32, cell .bool, cell .time, cell .u64, cell .u8 0xFF, cell .u8, cell .u8, cell .dur,
    num .u8 0 0 100],
  one 0x9030 .wo (cell .bool 0 (.enum [1])),
  tab 0x9032 4096 .rwc [flag],
  tab 0x9040 64 .ro [cell .time, cell .u64, cell .u8, cell .u8, cell .u8, cell .u16]]

/-- Table 10.19. -/
def objectsKiln : List Obj := [
  recd 0xA000 .ro [num .u8 0 0 4, cell .u32, num .u8 0 0 9, num .u8 0 0 64, num .u8 0 0 64],
  tab 0xA001 2 .ro [cell .bool, cell .bool, cell .bool, cell .u32, cell .u8, cell (.octets 32)],
  recd 0xA010 .ro [cell .bool, num .u8 0 0 2, cell (.octets 32), cell .u8 0xFF (.mixed 0 15 [0xFF]), cell .u32],
  one 0xA011 .ro (cell .u16),
  recd 0xA012 .ro [cell .bool, cell .bool 1, num .u8 1 0 2,
    num .dur 2592000000000000 3600000000000 31536000000000000],
  tab 0xA013 16 .ro [cell .u16, cell .u16],
  tab 0xA014 256 .ro [cell .u64],
  tab 0xA020 258 .rwc [flag, flag 1, flag 1, num .u32 0 0 1073741823, cell .u8 0 (.enum [0, 1]), num .u8 0 0 63,
    cell .u8 255],
  tab 0xA021 258 .ro [cell .bool, cell .u8, cell .u64, cell .u8, cell .bool, cell .time, cell .u16],
  tab 0xA022 64 .ro [cell (.octets 16), cell .bool, cell .time],
  one 0xA030 .rwc (cell (.octets 32)),
  one 0xA032 .rwc (num .dur 6000000000 1000000000 60000000000),
  one 0xA033 .rwc (num .dur 1000000000 10000000 10000000000)]

/-- Table 11.11. -/
def objectsFaults : List Obj := [
  tab 0xB000 64 .rwc [num .u16 1 1 65535, num .dur 1000000 1000000 3600000000000, cell .u8, flag, flag],
  tab 0xB001 64 .ro [cell .u64, cell .u16, cell .u32, cell .time],
  tab 0xB002 256 .ro [cell .u8, cell .u32, cell .time, cell .u8],
  tab 0xB010 8 .rwc [flag, cell .u16, cell (.octets 6), cell (.octets 128), cellAs .ro .u32],
  one 0xB020 .ro (cell (.octets 16)),
  one 0xB021 .ro (cell .u32),
  one 0xB022 .ro (cell .u32),
  one 0xB030 .wo (cell .u64),
  tab 0xB040 256 .rwc [flag 1, flag 1, num .u8 66 50 90],
  tab 0xB041 256 .ro [num .u8 0 0 4, cell .time, cell .i16, cell .i16, cell .u16, cell .bool],
  one 0xB050 .wo (cell .u16 0 (portsThat fun p => !isBB p)),
  tab 0xB051 256 .ro [cell .u8, cell .u16, cell .time],
  recd 0xB060 .ro [cell .u16, num .u8 0 0 2, cell .u16, cell .u16],
  arr 0xB070 12 .ro (cell .i16),
  one 0xB071 .ro (num .u8 0 0 2),
  recd 0xB080 .ro [num .u8 0 0 3, cell .time],
  one 0xB100 .ro (cell (.octets 32))]

/-- Table 12.10. -/
def objectsCounters : List Obj := [
  recd 0xC000 .rwc [flag, num .dur 100000000 1000000 10000000000, cell .u8 0xFF (.mixed 0 65 [0xFF]),
    num .u16 0x01FF 1 0x01FF, num .u16 0 0 512, num .u8 4 2 64],
  recd 0xC001 .ro [cell .u64, cell .u32],
  tab 0xC002 528 .rwc [num .u16 0 0 27599, num .u16 0 0 503],
  tab 0xC010 512 .rwc [flag, num .u8 1 1 4, cell .u16, cell .u32, num .u8 0 0 20],
  tab 0xC011 512 .ro [cell .u64, cell .u32, cell .time],
  tab 0xC020 16 .rwc [num .u8 0 0 7, cell .u16, cell .u32, num .u8 0 0 2],
  tab 0xC100 27600 .ro [cell .u64]]

/-- The object of an index in a list. -/
def findObj : List Obj → Nat → Option Obj
  | [], _ => none
  | o :: os, i => if o.idx = i then some o else findObj os i

/-- The object at an index (R54), if the module implements it. -/
def objectAt (i : Nat) : Option Obj :=
  match i / 0x1000 with
  | 1 => findObj objectsModule i
  | 2 => if 0x2100 ≤ i then findObj objectsPower i else findObj objectsModule i
  | 3 => findObj objectsTime i
  | 4 => findObj objectsRing i
  | 5 => objectPort ((i - 0x5000) / 16) (i % 16)
  | 6 =>
    if 0x6200 ≤ i && i < 0x6300 then some (tab i 1024 .rwc gateListCells)
    else if 0x6300 ≤ i && i < 0x6400 then some (tab i 1024 .ro gateListCells)
    else findObj objectsTraffic i
  | 7 => if 0x7100 ≤ i && i < 0x7400 then objectMessageFamily i else findObj objectsMessages i
  | 8 => findObj objectsHost i
  | 9 => findObj objectsTwin i
  | 10 => findObj objectsKiln i
  | 11 => findObj objectsFaults i
  | 12 => findObj objectsCounters i
  | _ => none

/-- The fault classes of Table 11.1: T, W in ns, action, allowed actions. Rows 23 to 63 are reserved (R441). -/
def faultClassRow (c : Nat) : Nat × Nat × Nat × List Int :=
  let s := 1000000000
  match c with
  | 0 => (3, s, 3, [3])
  | 1 => (3, s, 5, [5])
  | 2 => (3, 60 * s, 0, [0, 4])
  | 3 => (3, 10 * s, 1, [0, 1])
  | 4 => (1, 10 * s, 1, [0, 1])
  | 5 => (3, 10 * s, 1, [0, 1])
  | 6 => (3, 10 * s, 0, [0, 1])
  | 7 => (2, 3600 * s, 0, [0])
  | 8 => (5, 10 * s, 2, [0, 1, 2])
  | 9 => (1000, s, 0, [0, 1, 3])
  | 10 => (100, s, 0, [0, 1, 3])
  | 11 => (4, 10000000, 0, [0, 4])
  | 12 => (3, 60 * s, 0, [0, 4])
  | 13 => (10, s, 0, [0, 2, 4])
  | 14 => (100, 3600 * s, 0, [0, 2])
  | 15 => (1, 1000000, 2, [0, 2, 4])
  | 16 => (1, 1000000, 0, [0, 4])
  | 17 => (1, 1000000, 0, [0])
  | 18 => (3, s, 0, [0])
  | 19 => (3, 10 * s, 0, [0, 4])
  | 20 => (3, 60 * s, 0, [0, 4])
  | 21 => (1, 1000000, 0, [0, 4])
  | 22 => (1, 1000000, 4, [4])
  | _ => (1, 1000000, 0, [0])

/-- Defaults that differ by row: the two fixed sections of a mode (R126, Table 4.4), LengthOverhead, FunctionResources, the
MAC of a stack port, FaultClasses. -/
def rowDefault (i sub row : Nat) : Option Int :=
  if i = 0x4120 && row % 1024 < 2 then
    match row % 1024, sub with
    | 0, 1 => some 0xF00
    | 0, 5 => some 16
    | 1, 1 => some 0xF40
    | 1, 4 => some 56
    | 1, 5 => some 24
    | _, _ => none
  else if i = 0x6000 && sub = 1 then some (if isSG row then 22 else 20)
  else if i = 0x8101 && sub = 2 && row < 2 then some 1
  else if i = 0x8100 then
    match row, sub with
    | 0, 2 => some 64
    | 0, 4 => some 64
    | 0, 6 => some 16
    | 0, 8 => some 64
    | 1, 1 => some 64
    | 1, 2 => some 192
    | 1, 3 => some 64
    | 1, 4 => some 192
    | 1, 5 => some 16
    | 1, 6 => some 48
    | 1, 7 => some 64
    | 1, 8 => some 192
    | _, _ => none
  else if i = 0x9002 && sub = 5 then some (Config.stackMac row : Int)
  else if i = 0xB000 then
    match sub with
    | 1 => some ((faultClassRow row).1 : Int)
    | 2 => some ((faultClassRow row).2.1 : Int)
    | 3 => some ((faultClassRow row).2.2.1 : Int)
    | _ => none
  else none

/-- Ranges that differ by row: Action of a fault class, TimeBase of an engine (R235). -/
def rowRange (i sub row : Nat) : Option Rng :=
  if i = 0xB000 && sub = 3 then some (.enum (faultClassRow row).2.2.2)
  else if i = 0x7010 && sub = 2 then
    some (.enum (0xFFFF :: ((List.range 31).map fun i => ((32 * (row / 128) + i + 1 : Nat) : Int))))
  else none

/-- The cell of an object at a subindex: subindex 0 of a single value, subindexes from 1 on otherwise. -/
def Obj.cellAt (o : Obj) (sub : Nat) : Option Cell :=
  match o.shape with
  | .single => if sub = 0 then o.cells.head? else none
  | _ => if sub = 0 then none else o.cells[sub - 1]?

/-- The access right of a cell. -/
def Obj.accOf (o : Obj) (c : Cell) : Acc := c.acc.getD o.acc

/-- The cell of a key. -/
def cellOf (i sub : Nat) : Option Cell := (objectAt i).bind fun o => o.cellAt sub

/-- The default of a key (0 where there is no such object). -/
def defaultOf (k : Key) : Int :=
  (rowDefault k.idx k.sub k.row).getD
    (match cellOf k.idx k.sub with
     | some c => c.dflt
     | none => 0)

/-- The range of a key. -/
def rangeOf (k : Key) (c : Cell) : Rng := (rowRange k.idx k.sub k.row).getD c.rng

/-- The default channel access mask (R34): Table 2.12 and the exceptions of the chapters' object rules. -/
def defaultMask (i sub : Nat) (a : Acc) : Nat :=
  if i = 0x1F82 then 0x0A
  else if i = 0x2020 then 0x02
  else if i = 0x8100 || i = 0x8500 then 0x0F
  else if i = 0x9030 then 0x0B
  else if i = 0xB030 then 0x2A
  else if i = 0xC002 then 0x03
  else if (i = 0x2200 && sub = 2) || i = 0x2210 then 0x0A
  else match a with
    | .const | .ro => 0x15
    | .wo => 0x2A
    | .rw | .rws | .rwc => 0x3F

/-- Size in bytes of a value (Table 2.1). -/
def Ty.size : Ty → Nat
  | .bool | .u8 | .i8 => 1
  | .u16 | .i16 => 2
  | .u32 | .i32 => 4
  | .u64 | .i64 | .dur | .name => 8
  | .time => 16
  | .octets n => n

/-- Type code (Table 2.1). -/
def Ty.code : Ty → Nat
  | .bool => 0x01 | .u8 => 0x02 | .u16 => 0x03 | .u32 => 0x04 | .u64 => 0x05
  | .i8 => 0x06 | .i16 => 0x07 | .i32 => 0x08 | .i64 => 0x09
  | .time => 0x0A | .dur => 0x0B | .name => 0x0C | .octets _ => 0x0D

/-- Access code of DESCRIBE (R439). -/
def Acc.code : Acc → Nat
  | .const => 0 | .ro => 1 | .wo => 2 | .rw => 3 | .rws => 4 | .rwc => 5

/-- Whether a type is signed. -/
def Ty.signed : Ty → Bool
  | .i8 | .i16 | .i32 | .i64 => true
  | _ => false

/-- The limits of a type itself. -/
def Ty.minVal : Ty → Int
  | .i8 => -128 | .i16 => -32768 | .i32 => -2147483648 | .i64 => -9223372036854775808
  | _ => 0
def Ty.maxVal : Ty → Int
  | .bool => 1 | .u8 => 255 | .u16 => 65535 | .u32 => 4294967295
  | .u64 | .dur | .name => 18446744073709551615
  | .i8 => 127 | .i16 => 32767 | .i32 => 2147483647 | .i64 => 9223372036854775807
  | .time | .octets _ => 0

/-- Units of a TIME: 2^-16 ns. -/
def secUnits : Nat := 65536000000000

/-- The 16 bytes of a TIME in the order of its fields, each in the given byte order (R33). -/
def timeBytes (big : Bool) (t : Nat) : Bytes :=
  let enc := fun n v => if big then (List.range n).map (fun i => BitVec.ofNat 8 (v / 256 ^ (n - 1 - i)))
                        else (List.range n).map (fun i => BitVec.ofNat 8 (v / 256 ^ i))
  enc 8 (t / secUnits) ++ enc 4 (t % secUnits / 65536) ++ enc 2 (t % 65536) ++ enc 2 0

end Sys2Proof.Machine
end

