-- ==== Sys2Proof/Machine/Bytes.lean ====
section
/-! DEFINITION. Byte strings as the wire, host memory and the dictionary carry them: both byte orders, slices, padding,
and the two frame checks the manual computes (CRC-32 of R88, CRC-16 of R92). -/

namespace Sys2Proof.Machine

/-- The `n` low bytes of a number, least significant first (host memory and PCIe registers, Table 0 conventions). -/
def leBytes : Nat → Nat → Bytes
  | 0, _ => []
  | n + 1, v => BitVec.ofNat 8 v :: leBytes n (v / 256)

/-- The number whose least significant byte comes first. -/
def ofLe : Bytes → Nat
  | [] => 0
  | b :: bs => b.toNat + 256 * ofLe bs

/-- The `n` low bytes of a number, most significant first (the wire). -/
def beBytes (n v : Nat) : Bytes := (leBytes n v).reverse

/-- The number whose most significant byte comes first. -/
def ofBe (bs : Bytes) : Nat := ofLe bs.reverse

/-- An unsigned number of `n` bytes in the given order. -/
def wordBytes (big : Bool) (n v : Nat) : Bytes := if big then beBytes n v else leBytes n v

/-- The unsigned number of a byte string in the given order. -/
def wordOf (big : Bool) (bs : Bytes) : Nat := if big then ofBe bs else ofLe bs

/-- `len` bytes from offset `off`; bytes beyond the end read 0. -/
def slice (bs : Bytes) (off len : Nat) : Bytes :=
  let part := (bs.drop off).take len
  part ++ List.replicate (len - part.length) 0

/-- The big-endian number of `len` bytes at offset `off`. -/
def beAt (bs : Bytes) (off len : Nat) : Nat := ofBe (slice bs off len)

/-- The little-endian number of `len` bytes at offset `off`. -/
def leAt (bs : Bytes) (off len : Nat) : Nat := ofLe (slice bs off len)

/-- `bs` with `patch` written over it at offset `off`; nothing is written beyond the end. -/
def overwrite (bs : Bytes) (off : Nat) (patch : Bytes) : Bytes :=
  (bs.take off ++ patch ++ bs.drop (off + patch.length)).take bs.length

/-- `bs` padded with zeros to a multiple of 8 (Tables 2.4 and 2.10). -/
def padTo8 (bs : Bytes) : Bytes := bs ++ List.replicate ((8 - bs.length % 8) % 8) 0

/-- `bs` padded with zeros to at least `n` bytes. -/
def padTo (n : Nat) (bs : Bytes) : Bytes := bs ++ List.replicate (n - bs.length) 0

/-- The two's complement value of the low `n` bytes of `v`. -/
def signedOf (n v : Nat) : Int :=
  let m := 256 ^ n
  let w := v % m
  if 2 * w < m then (w : Int) else (w : Int) - (m : Int)

/-- The unsigned number of `n` bytes that carries the two's complement of `v`. -/
def unsignedOf (n : Nat) (v : Int) : Nat := (v % ((256 ^ n : Nat) : Int)).toNat

/-- Bit `i` of an OCTETS bit mask held as a little-endian number: byte ⌊i/8⌋, bit i mod 8 (Table 2.12). -/
def maskBit (mask : Int) (i : Nat) : Bool := mask.toNat.testBit i

/-- One bit of the reflected CRC-32. -/
def crc32Bit (c : Nat) : Nat := if c % 2 = 1 then (c / 2) ^^^ 0xEDB88320 else c / 2

/-- One byte into the reflected CRC-32 register. -/
def crc32Byte (c : Nat) (b : Byte) : Nat :=
  let x := c ^^^ b.toNat
  crc32Bit (crc32Bit (crc32Bit (crc32Bit (crc32Bit (crc32Bit (crc32Bit (crc32Bit x)))))))

/-- The CRC-32 of IEEE 802.3 (as the FCS). -/
def crc32 (bs : Bytes) : Nat := (bs.foldl crc32Byte 0xFFFFFFFF) ^^^ 0xFFFFFFFF

/-- One bit of the CRC-16 with polynomial 0x1021, most significant bit first. -/
def crc16Bit (c : Nat) : Nat := if c.testBit 15 then ((c * 2) % 65536) ^^^ 0x1021 else (c * 2) % 65536

/-- One byte into the CRC-16 register. -/
def crc16Byte (c : Nat) (b : Byte) : Nat :=
  let x := c ^^^ (b.toNat * 256)
  crc16Bit (crc16Bit (crc16Bit (crc16Bit (crc16Bit (crc16Bit (crc16Bit (crc16Bit x)))))))

/-- The CRC-16 with polynomial 0x1021 and initial value 0xFFFF. -/
def crc16 (bs : Bytes) : Nat := bs.foldl crc16Byte 0xFFFF

/-- ⌊a / b⌋ rounded to nearest, for a non-negative `a`, ties up. -/
def divNear (a b : Nat) : Nat := (2 * a + b) / (2 * b)

/-- The number of ones among the low `n` bits. -/
def popCount : Nat → Nat → Nat
  | 0, _ => 0
  | n + 1, v => v % 2 + popCount n (v / 2)

end Sys2Proof.Machine
end

