-- ==== Sys2Proof/Machine/Store.lean ====
section
/-! DEFINITION. Sparse stores in one canonical form: maps by number, byte memories, and the dictionary's map by key. -/

namespace Sys2Proof.Machine

/-- A sparse map from numbers, in ascending key order, at most one entry per key. -/
abbrev PMap (α : Type) := List (Nat × α)

/-- A byte memory in canonical form: addresses strictly rising, no entry equal to what an unlisted address reads as,
which is 0 in every buffer of this block. -/
abbrev Memory := List Host.Cell

/-- The entry of a key, if any. -/
def PMap.get? {α : Type} : PMap α → Nat → Option α
  | [], _ => none
  | (k, v) :: rest, n => if k = n then some v else PMap.get? rest n

/-- The entry of a key, or a default. -/
def PMap.getD {α : Type} (m : PMap α) (n : Nat) (d : α) : α := (m.get? n).getD d

/-- Writes an entry, keeping the keys strictly rising. -/
def PMap.set {α : Type} : PMap α → Nat → α → PMap α
  | [], n, a => [(n, a)]
  | (k, v) :: rest, n, a =>
    if k < n then (k, v) :: PMap.set rest n a
    else if k = n then (n, a) :: rest
    else (n, a) :: (k, v) :: rest

/-- Removes an entry. -/
def PMap.erase {α : Type} : PMap α → Nat → PMap α
  | [], _ => []
  | (k, v) :: rest, n => if k = n then rest else (k, v) :: PMap.erase rest n

/-- The canonical form: keys strictly rising. -/
def PMap.wf {α : Type} : PMap α → Bool
  | [] => true
  | [_] => true
  | (k, _) :: (k', v') :: rest => decide (k < k') && PMap.wf ((k', v') :: rest)

/-- One byte; an unlisted address reads 0. -/
def Memory.read : Memory → Nat → Byte
  | [], _ => 0
  | (k, v) :: rest, a => if k = a then v else Memory.read rest a

/-- Writes one byte, keeping the canonical form. -/
def Memory.write : Memory → Nat → Byte → Memory
  | [], a, b => if b = 0 then [] else [(a, b)]
  | (k, v) :: rest, a, b =>
    if k < a then (k, v) :: Memory.write rest a b
    else if k = a then (if b = 0 then rest else (a, b) :: rest)
    else (if b = 0 then (k, v) :: rest else (a, b) :: (k, v) :: rest)

/-- `n` bytes from address `a`. -/
def Memory.readBytes (m : Memory) (a : Nat) : Nat → Bytes
  | 0 => []
  | n + 1 => m.read a :: Memory.readBytes m (a + 1) n

/-- Writes bytes from address `a` on. -/
def Memory.writeBytes : Memory → Nat → Bytes → Memory
  | m, _, [] => m
  | m, a, b :: bs => Memory.writeBytes (m.write a b) (a + 1) bs

/-- The canonical form of a memory. -/
def Memory.wf : Memory → Bool
  | [] => true
  | [(_, v)] => decide (v ≠ 0)
  | (k, v) :: (k', v') :: rest => decide (v ≠ 0) && decide (k < k') && Memory.wf ((k', v') :: rest)

/-- The entry of a dictionary key, if any. -/
def dictGet : List (Key × Int) → Key → Option Int
  | [], _ => none
  | (k, v) :: rest, q => if k = q then some v else dictGet rest q

/-- Removes every entry of a key (a store in key order has one at most). -/
def dictErase : List (Key × Int) → Key → List (Key × Int)
  | [], _ => []
  | (k, v) :: rest, q => if k = q then dictErase rest q else (k, v) :: dictErase rest q

/-- Writes an entry in key order. -/
def dictInsert : List (Key × Int) → Key → Int → List (Key × Int)
  | [], q, x => [(q, x)]
  | (k, v) :: rest, q, x =>
    if k.lt q then (k, v) :: dictInsert rest q x
    else if k = q then (q, x) :: rest
    else (q, x) :: (k, v) :: rest

/-- Writes a value whose default is `d`: the default value is not listed. -/
def dictSet (m : List (Key × Int)) (q : Key) (d x : Int) : List (Key × Int) :=
  if x = d then dictErase m q else dictInsert m q x

/-- Whether the keys of a dictionary store strictly rise. -/
def dictSorted : List (Key × Int) → Bool
  | [] => true
  | [_] => true
  | (k, _) :: (k', v') :: rest => k.lt k' && dictSorted ((k', v') :: rest)

/-- The first entries of a list, at most `n`. -/
def capAt {α : Type} (n : Nat) (l : List α) : List α := l.take n

end Sys2Proof.Machine
end

