-- ==== Sys2Proof/Machine/State.lean ====
section
/-! DEFINITION. The state of the block: plain data, one home for every piece of state the manual names.

Every object of the dictionary (R31) has its home in `od.dict`, a sparse canonical store keyed by (index, row,
subindex), unless a typed field below holds it; `Machine/Objects.lean` gives the defaults that unlisted keys read, and
`Machine/Live.lean` the objects whose home is a typed field. Every counter (R376) has its home in `counters`. -/

namespace Sys2Proof.Machine

/-! ## Dictionary -/

/-- One staged write of an RWC object (R44). -/
structure StagedWrite where
  key : Key
  value : Int
  chan : Nat
deriving DecidableEq, Repr

/-- A sealed staging set (R45): value 1 applies it at the next boundary, 2 at the next mode switch. -/
structure Sealed where
  atModeSwitch : Bool
  writes : List StagedWrite
  /-- The cycle in which it was sealed, and the instant in `State.elapsed`. -/
  cycle : Nat
  since : Nat
deriving DecidableEq, Repr

/-- One row of 0x1F80 ClampLog (Table 2.8). -/
structure ClampRecord where
  time : Nat
  key : Key
  chan : Nat
  reason : Nat
  requested : Int
  applied : Int
deriving DecidableEq, Repr

/-- The byte-addressed buffers and memories, each sparse, in the canonical form of `Memory.wf`; an unlisted byte reads 0
(DESIGN CHOICE, unsafe: log entry 7). -/
structure Buffers where
  /-- MBXREQ and MBXRSP of the PF0 mailbox. -/
  mailboxRequest : Memory
  mailboxResponse : Memory
  /-- 0x2040:00 ImageBuffer (R53). -/
  image : Memory
  /-- Grove signal stores: address 65,536 x grove + offset (R204). -/
  stores : Memory
  /-- Inbound image buffers: address 65,536 x image + offset (R224). -/
  inbound : Memory
  /-- Accepted outbound images: address 65,536 x image + offset (R227). -/
  outbound : Memory
  /-- Engine data memories: address 65,536 x engine + offset (R9). -/
  engines : Memory
  /-- What the instruction memory of every engine holds: the engine firmware, part 3 (R9; DEDUCED, safe: log entry 50). -/
  instructions : Memory
  /-- KREQ and KRSP of the Kiln mailbox. -/
  kilnRequest : Memory
  kilnResponse : Memory
deriving DecidableEq, Repr

/-- The PF0 mailbox registers (Tables 2.5 and 2.6) and the module's own copy of the request. -/
structure Mailbox where
  tagReg : Nat
  busy : Bool
  done : Bool
  overrun : Bool
  tag : Nat
  msgStatus : Nat
  buffer : Bytes
deriving DecidableEq, Repr

structure Dictionary where
  /-- Applied values that differ from the default (R31). -/
  dict : List (Key × Int)
  /-- The open staging set (R44). -/
  staged : List StagedWrite
  /-- The sealed staging set (R45). -/
  sealedSet : Option Sealed
  /-- 0x1F80, newest first, at most 256 (R49). -/
  clampLog : List ClampRecord
  mailbox : Mailbox
  /-- An image is being applied (R53). -/
  imageBusy : Bool
  /-- The commons controller is restarting (R30). -/
  controllerDown : Bool
deriving DecidableEq, Repr

/-! ## Events -/

/-- A stamped event record (Table 11.5); `queue` names the ring's own event queue for ring events (R260). -/
structure EventRecord where
  seq : Nat
  sec : Nat
  ns : Nat
  severity : Nat
  source : Nat
  reason : Nat
  arg : Nat
  queue : Option Nat
deriving DecidableEq, Repr

/-- An event raised by the command in progress: severity, source, reason, argument, and the ring's queue. -/
structure Raised where
  severity : Nat
  source : Nat
  reason : Nat
  arg : Nat
  queue : Option Nat
deriving DecidableEq, Repr

/-- The event sequencer (R367). -/
structure Sequencer where
  /-- Raised in this datapath cycle and not stamped yet, in the order raised. -/
  raised : List Raised
  /-- Highest FIFO occupancy of this backbone cycle (R388). -/
  peak : Nat
  /-- The next sequence number. -/
  next : Nat
  /-- Records not yet delivered, oldest first. -/
  fifo : List EventRecord
  /-- Records of the last datapath cycle: the eight that the sequencer stamped in it, and those that wait in its FIFO beyond them. -/
  backlog : Nat
  /-- Events lost since event 921 was last raised. -/
  lost : Nat
  /-- The newest record (0xB020:00). -/
  newest : Option EventRecord
  /-- (source, argument) pairs already raised in this backbone cycle, for events limited to once per cycle. -/
  onceInCycle : List (Nat × Nat)
  /-- (source, argument) pairs already raised in this second. -/
  onceInSecond : List (Nat × Nat)
  /-- Notifications sent in this second, per destination row (R369). -/
  sentInSecond : List Nat
deriving DecidableEq, Repr

/-! ## Time -/

/-- The local clock (R56): seconds, nanoseconds, 48-bit fraction. -/
structure Clock where
  sec : Nat
  ns : Nat
  frac : Nat
deriving DecidableEq, Repr

/-- The servo of the local clock (R57, R65, R69). Instants are in 2^-16 ns; rates and the slew term in 2^-40. -/
structure Servo where
  sigma : Int
  /-- The slew terms of late, newest first, each with the instant from which it was in force (R69). -/
  slews : List (Nat × Int)
  /-- What TimeAdjust still has to slew, in 2^-16 ns; when the slew term was set, in the local clock. -/
  adjust : Int
  slewAt : Nat
  /-- The last rate estimates, newest first, at most 64. -/
  estimates : List Int
  rrSum : Int
  rrCount : Nat
  prev : Option (Nat × Nat)
  lockRun : Nat
  overRun : Nat
  pendingStep : Option Int
  /-- Whether the source has been valid in this cycle, and the consecutive cycles in which it has not (R65). -/
  sourceSeen : Bool
  missed : Nat
deriving DecidableEq, Repr

/-- A gPTP event message of the module's own, whose transmit timestamp is needed (R76): a Sync by its sequence number, a
Pdelay_Req, a Pdelay_Resp by its sequence number and requester. -/
inductive PtpEvent where
  | sync (sequence : Nat)
  | request
  | response (sequence requester : Nat)
deriving DecidableEq, Repr

/-- A gPTP port's peer-delay exchange (R76). -/
structure GptpPort where
  sequence : Nat
  /-- The last Pdelay_Req waits for its response; its transmit timestamp, once it has been sent. -/
  waiting : Bool
  sentAt : Option Nat
  /-- Consecutive requests without a response. -/
  lost : Nat
  lastResponse : Option (Nat × Nat)
  /-- Announce messages received (R76, Table 3.8). -/
  announces : Nat
  /-- Receive timestamp of the last Sync or Pdelay_Resp, until its follow-up. -/
  eventAt : Option Nat
  /-- Event messages sent with their transmit timestamps, whose follow-up has not been queued yet. -/
  owed : List (PtpEvent × Nat)
deriving DecidableEq, Repr

structure TimeBase where
  servo : Servo
  ppsArmed : Option Nat
  /-- Edges in an unbroken series of PPSIN edges. -/
  ppsEdges : Nat
  lastPpsOut : Option Nat
  /-- The last PPSIN edge, and the last capture of a TEV pin, in the local clock as it counts now: a step moves them (R79,
  R80). -/
  lastPpsIn : Option Nat
  lastCapture : PMap Nat
  gptp : PMap GptpPort
  syncSequence : Nat
  announceSequence : Nat
  /-- When the last Sync, Pdelay_Req and Announce were sent, and since when a Sync is expected on the slave port, in
  `State.elapsed` (R76). -/
  syncAt : Option Nat
  pdelayAt : Option Nat
  announceAt : Option Nat
  syncAwaited : Option Nat
  /-- The next pulse index of an armed TEV pin. -/
  tevIndex : PMap Nat
  stackSeeded : Bool
deriving DecidableEq, Repr

/-- The open-drain output balls (Table 14.5): FAULT and PEWAKEN driven low; and the test access port. -/
structure Pins where
  faultLow : Bool
  pewakenLow : Bool
  jtagOpen : Bool
deriving DecidableEq, Repr

/-! ## Ring -/

/-- A round-frame header (Table 4.2). `correction` is in 2^-8 ns. -/
structure RfHeader where
  version : Nat
  round : Nat
  direction : Nat
  wrapped : Bool
  leaseState : Nat
  mode : Nat
  targetMode : Nat
  modeRequest : Bool
  census : Nat
  cycleLow : Nat
  targetCycleLow : Nat
  ackMask : Nat
  masterHash : Nat
  leaseEpoch : Nat
  originOffset : Nat
  correction : Int
deriving DecidableEq, Repr

/-- A section as it stands in a copy (Table 4.3): the SectionId of the running mode at its place, and the outcome of its
checks of R91. -/
structure SectionCopy where
  id : Nat
  hash : Nat
  status : Nat
  age : Nat
  checkOk : Bool
  payload : Bytes
deriving DecidableEq, Repr

/-- A copy that has arrived and waits for its verification point (R98). `west` tells the lane of arrival. -/
structure StagedCopy where
  lane : Nat
  west : Bool
  header : RfHeader
  sections : List SectionCopy
  stamp : Nat
  good : Bool
deriving DecidableEq, Repr

/-- A committed section view (R102); status 0 CLEARING, 1 WRITTEN, 2 HELD. `serial` and `since` order its readability. -/
structure View where
  value : Bytes
  age : Nat
  hash : Nat
  status : Nat
  everHeld : Bool
  serial : Nat
  since : Nat
deriving DecidableEq, Repr

/-- What has been taken for a section in the running cycle (R100): the current value (payload, hash) and the best HELD
copy (payload, age, hash); the instant and serial of an early delivery. -/
structure Candidate where
  taken : Option (Bytes × Nat)
  held : Option (Bytes × Nat × Nat)
  early : Option (Nat × Nat)
deriving DecidableEq, Repr

/-- The outbound buffer of an owned section (R96). -/
structure OutBuffer where
  bytes : Bytes
  fresh : Bool
  engine : Option Nat
deriving DecidableEq, Repr

/-- A mode request (R118): mode, first cycle q, target cycle T. -/
structure ModeRequest where
  mode : Nat
  first : Nat
  target : Nat
deriving DecidableEq, Repr

/-- One lane of the ring pair (R112 to R115): lost (its wrap is engaged), restored flag, a verified round frame seen on
it in this cycle, the cycles running in which one was expected and none came, and whether a filtered delay exists; whether
the PCS holds block lock, and the whole cycles for which it has, none before the first boundary with it. -/
structure Lane where
  lost : Bool
  restored : Bool
  seen : Bool
  silent : Nat
  delayValid : Bool
  locked : Bool
  held : Option Nat
  /-- The lane has failed while the ring function was disabled (R112). -/
  faulted : Bool
deriving DecidableEq, Repr

/-- The ring function. Maps of sections are keyed by SectionId. -/
structure Ring where
  views : PMap View
  candidates : PMap Candidate
  staged : List StagedCopy
  outBuffers : PMap OutBuffer
  /-- Latched content of this cycle, none for a clearing; the rounds latched (R96). -/
  latched : PMap (Option Bytes)
  latchedRounds : List Nat
  /-- What this master wrote into its own sections of this cycle (R111): SectionId to payload, with status. -/
  written : PMap (Nat × Bytes)
  admitted : List Nat
  /-- Where each admitted name stood last (R109). -/
  admittedAt : PMap Nat
  admitRuns : PMap Nat
  absentRuns : PMap Nat
  heard : List Nat
  refused : List (Nat × Nat)
  /-- The master followed, and its absence in cycles. -/
  masterHash : Nat
  masterSeen : Bool
  masterAbsent : Nat
  inhibited : Bool
  /-- The whole cycles that the listen timer has counted, none before its first boundary (R107). -/
  listened : Option Nat
  /-- A verified round frame 0 in this cycle, and the cycles running without one (R106). -/
  rf0Verified : Bool
  rf0Absent : Nat
  disablePending : Bool
  stopPending : Bool
  rf0Seen : Bool
  eastPosSeen : Bool
  /-- A copy has given this node a position since it began to listen (R89). -/
  placed : Bool
  /-- Copies launched in this cycle (round, direction), and copies returned verified (round, direction, Census), the
  Census of a wrapped copy plus 128. -/
  launched : List (Nat × Nat)
  returned : List (Nat × Nat × Nat)
  ackUnion : Nat
  west : Lane
  east : Lane
  /-- The cycle at which a pending wrap release falls (R115), at the master and at a wrapped node. -/
  releaseAt : Option Nat
  crossSeen : Bool
  crossRun : Nat
  request : Option ModeRequest
  /-- The request a follower has seen in headers: mode and low byte of its target cycle. -/
  followRequest : Option (Nat × Nat)
  confirm : Option Nat
  confirmed : Option Nat
  adopt : Option Nat
  witnessEpoch : Nat
  /-- The cycle of the verified RENEWED header that set WitnessEpoch, none before the first. -/
  witnessCycle : Option Nat
  /-- WitnessEpoch and WitnessAge as fixed at the boundary for every copy of the running cycle (R93). -/
  shownEpoch : Nat
  witnessAge : Nat
  voteLock : Option (Nat × Nat)
  /-- Timestamps on round frame 0 of a cycle: (cycle, instant) (R68). -/
  westArrival : Option (Nat × Nat)
  westDeparture : Option (Nat × Nat)
  eastArrival : Option (Nat × Nat)
  eastDeparture : Option (Nat × Nat)
  turns : List (Nat × Int)
  loops : List (Nat × Int)
  /-- The west-link delay that was last reported, none before the first (R68). -/
  lastReportedDelay : Option Int
  delaySeeded : Bool
  censusStable : Nat
  answeredPolls : List (Nat × Nat)
  /-- The engine whose write filled a latched section (R295), by SectionId. -/
  fillers : PMap Nat
  /-- Passages of round frames on the lanes (R99): lane, instant of the first byte and duration; in this cycle and in the
  one before. -/
  passages : List (Nat × Nat × Nat)
  observed : List (Nat × Nat × Nat)
  /-- Verification points of early sections in the previous cycle, from the cycle's start, by SectionId (Table 13.3). -/
  earlySeen : PMap Nat
deriving DecidableEq, Repr

/-! ## Traffic -/

/-- What an MKPDU of this end says (R344): own member identifier and message number, CKN, the live and the potential peers, and
a distributed SAK with its AN and key number, wrapped. -/
structure MkpduOut where
  member : Nat
  number : Nat
  ckn : Bytes
  live : List Nat
  potential : List Nat
  sak : Option (Nat × Nat × Bytes)
deriving DecidableEq, Repr

/-- Who gave a queued frame to the port: a relayed one with its ingress port, and whether the shared frame buffer holds it
(R23). -/
inductive Origin where
  | relayed (port : Nat) (shared : Bool)
  | host (ring frame : Nat)
  | module
  | ptp (message : PtpEvent)
  /-- A fragment of a Kiln message (R336). -/
  | kiln
  /-- An MKPDU (R344). -/
  | mkpdu (message : MkpduOut)
deriving DecidableEq, Repr

/-- A frame in a class queue, or in progress (R167, R176). `sent` counts the data bytes already sent as fragments. -/
structure QueuedFrame where
  data : Bytes
  origin : Origin
  handle : Nat
  enqueued : Nat
  received : Nat
  launch : Option Nat
  sent : Nat
  cuts : Nat
  heldCounted : Bool
  /-- The instant at which the frame's first byte reached the MAC point (R59). -/
  began : Option Nat
deriving DecidableEq, Repr

/-- A credit in 2^-16 byte and the instant of its last update (R182, R184). -/
structure Credit where
  credit : Int
  at16 : Nat
deriving DecidableEq, Repr

/-- A transmit ring's rate limit (R184): credit and, while it waits, its eligible instant and lap count. -/
structure RingCredit where
  credit : Int
  at16 : Nat
  eligible : Option Nat
  laps : Nat
deriving DecidableEq, Repr

/-- The gate function of a port (R170 to R174). -/
structure Gate where
  states : Nat
  hold : Bool
  entry : Nat
  running : Bool
  armedTime : Option Nat
  armedMode : Option Nat
deriving DecidableEq, Repr

/-- The transmitter of a port: the frame in progress with its class, and the class of a frame cut (R179). -/
structure Mac where
  current : Option (Nat × QueuedFrame)
  /-- The frame in progress had been moved to the tail (R135). -/
  moved : Bool
  startedAt : Nat
  /-- Bytes of the frame after which the fragment in progress is cut (R179). -/
  cutAt : Option Nat
  verifySent : Nat
  /-- Collisions of the frame at the head, on the shared medium, and the end of the back-off after the last (R131). -/
  tries : Nat
  backoffEnd : Nat
deriving DecidableEq, Repr

/-- The token buckets of a meter, in 2^-16 byte (R186 to R188). -/
structure Meter where
  tc : Int
  te : Int
  last : Option Nat
deriving DecidableEq, Repr

/-- A sequence recovery function (R190, R191). -/
structure Recovery where
  takeAny : Bool
  sequence : Nat
  history : List Bool
  basePassed : Nat
  baseDiscarded : Nat
  /-- When it last passed a frame, tested itself, and took new base counts (R190, R191), in `State.elapsed`. -/
  passedAt : Nat
  testedAt : Nat
  rebasedAt : Nat
deriving DecidableEq, Repr

structure Traffic where
  queues : PMap (List QueuedFrame)
  shapers : PMap Credit
  ringCredits : PMap RingCredit
  gates : PMap Gate
  macs : PMap Mac
  meters : PMap Meter
  recovery : PMap Recovery
  generators : PMap Nat
  recordLost : List Nat
  /-- Depths reached in this cycle, for the threshold counters (R388): row and highest occupancy. -/
  peaks : PMap Nat
  exceeded : List Nat
deriving DecidableEq, Repr

/-! ## Segments -/

/-- PLCA on an SG port (R131, R139): the node whose transmit opportunity runs, none between rounds; whether the module may
send in it, the frames it has sent in it, and the instant at which it ends unused. -/
structure Plca where
  current : Option Nat
  isOpen : Bool
  sent : Nat
  expires : Nat
deriving DecidableEq, Repr

/-- A frame that leaves in a static slot: the instant of its last bit, and its timestamp. -/
structure LeavingFrame where
  frame : QueuedFrame
  endsAt : Nat
  stamp : Nat
deriving DecidableEq, Repr

/-- The segment function of a port in segment mode (R128 to R148), and its PLCA. -/
structure Segment where
  /-- o_s in 2^-48 ns. -/
  offset48 : Int
  cycle : Nat
  /-- Deviations used in this segment cycle and in the one before, by node ID, in 2^-16 ns. -/
  deviations : PMap Int
  previous : PMap Int
  /-- The segment cycle whose deviations `previous` holds (R74). -/
  previousCycle : Option Nat
  unsyncedRun : Nat
  accepted : Nat
  adopting : Bool
  goodCycles : Nat
  startPending : Bool
  slotsFilled : List Nat
  /-- Frames latched for own slots (R134), by row of the mode; the message layer's slot buffers (frame, fresh), by
  row of P+4. -/
  latched : PMap QueuedFrame
  outBuffers : PMap (Bytes × Bool)
  /-- The last frame accepted in a slot: payload bytes, segment cycle, serial and instant (R138); the one before it at a
  key 65,536 higher. -/
  received : PMap (Bytes × Nat × Nat × Nat)
  /-- Frames moved to the tail (R135), with their classes. -/
  overflow : List (Nat × QueuedFrame)
  /-- Frames that have started in a static slot and whose last bit has not passed, with their classes (R252). -/
  leaving : List (Nat × LeavingFrame)
  nextMode : Option Nat
  switchAt : Option Nat
  announcing : Bool
  frozen : Option (List (Key × Int))
  heard : List Nat
  silent : PMap Nat
  quiet : PMap Nat
  digestReported : List Nat
  inTail : Bool
  plca : Plca
  /-- The instant at which the listen timer or the back-off that runs expires (Table 5.3). -/
  timerEnd : Nat
deriving DecidableEq, Repr

/-! ## Message layer -/

/-- A staged write of a task (R208): its endpoint (U64) and what it carries. `whole` is a PDU, else a signal of
`bitLength` bits; `keep` leaves the entry's last value as HELD and changes its Verdict (R218); `base` is the time base of
the value's origin. -/
structure TaskWrite where
  endpoint : Nat
  value : SourceValue
  bitLength : Nat
  littleEndian : Bool
  signed : Bool
  whole : Bool
  keep : Bool
  base : Nat
deriving DecidableEq, Repr

/-- A running task (R207 to R209) with the sources as they stood at its start, in row order. -/
structure TaskRun where
  task : Nat
  mode : Nat
  startedAt : Nat
  serial : Nat
  sources : List SourceValue
  writes : List TaskWrite
  /-- Transactions whose deadline counts from the finish of this run (R220), by 1,024 x grove + row. -/
  armed : List Nat
  rows : Nat
  ran : Bool
  late : Bool
  /-- The backbone cycle of the start, and what its REPORT rows read at that cycle's boundary (R221). -/
  cycle : Nat
  reports : List Nat
deriving DecidableEq, Repr

/-- A result waiting for the collector (R229). -/
structure TaskResult where
  task : Nat
  status : Nat
  rows : Nat
  cycles : Nat
  finish : Nat
  start : Nat
  late : Bool
  mode : Nat
deriving DecidableEq, Repr

structure Engine where
  run : Option TaskRun
  result : Option TaskResult
  restarting : Bool
  /-- For each task row, the serial and the instant of its previous run. -/
  lastRuns : PMap (Nat × Nat)
  /-- For each task row, the PDU that PACK last built. -/
  packed : PMap Bytes
  /-- The engine is in the condition that event reason 5 reports (R206). -/
  unavailable : Bool
  /-- The instant at which a task of an earlier table finished after the switch (R211). -/
  oldUntil : Nat
  busyCycles : Nat
  /-- The mode whose task table the engine runs (R211). -/
  mode : Nat
deriving DecidableEq, Repr

/-- A CHECK or PROTECT row's context (R217, R218). -/
structure CheckContext where
  started : Bool
  lastCounter : Nat
  sinceAccepted : Nat
  verdict : Nat
deriving DecidableEq, Repr

/-- A HOLD row's context (R219). -/
structure HoldContext where
  bytes : Bytes
  isPdu : Bool
  substituted : Bool
deriving DecidableEq, Repr

/-- A transaction context (Table 7.7). -/
structure Transaction where
  waiting : Bool
  ident : Nat
  tries : Nat
  deadline : Nat
  request : Bytes
deriving DecidableEq, Repr

/-- A host image (R224, R227). -/
structure HostImage where
  writing : Option Nat
  reading : Bool
  lastStamp : Option Nat
  serial : Nat
  /-- The backbone cycle and the instant in which the buffer was swapped in. -/
  swapCycle : Nat
  swappedAt : Nat
deriving DecidableEq, Repr

/-- A message received from the host (R228). -/
structure HostMessage where
  kind : Nat
  verdict : Nat
  body : Bytes
  cycle : Nat
  serial : Nat
  instant : Nat
deriving DecidableEq, Repr

/-- When an entry was written: the order, the time base of its origin, the cycle of that base, the instant. -/
structure EntryMark where
  serial : Nat
  base : Nat
  cycle : Nat
  instant : Nat
deriving DecidableEq, Repr

structure Messages where
  /-- Orders readability and task runs within one local-clock instant (R205). -/
  serial : Nat
  engines : PMap Engine
  /-- Serial, origin time base (port, or 0xFFFF), cycle of that base and instant at the write of each grove store entry,
  by address. -/
  storeMarks : PMap EntryMark
  /-- The same for inbound image entries. -/
  imageMarks : PMap EntryMark
  images : PMap HostImage
  checks : PMap CheckContext
  protects : PMap Nat
  holds : PMap HoldContext
  transactions : PMap Transaction
  /-- Latest message of endpoint 65,536 x channel + ID. -/
  received : PMap HostMessage
  /-- Mirror values waiting for the standby's lagged starts (R292). -/
  mirrors : List MirrorMsg
  /-- Input and output digest records of this cycle, 16 byte strings: grove g at 2g and 2g + 1 (R293). -/
  digests : PMap Bytes
  /-- The digest records of the cycle before. -/
  pastDigests : PMap Bytes
  /-- The values that REPORT rows read at the last boundary (R221), by 1,024 x grove + row. -/
  reports : PMap Nat
deriving DecidableEq, Repr

/-! ## Host interface -/

/-- Ring states of Table 8.10. -/
inductive QueueState where
  | disabled
  | enabled
  | draining
  | drainingReenable
deriving DecidableEq, Repr

/-- Where a transmit frame stands between its entries' use and its completion (R248 to R252). -/
inductive TxPhase where
  | collecting
  | awaitingData
  | ready
  | queued
  | finished
deriving DecidableEq, Repr

/-- A transmit frame of a ring: its entries (position, entry bytes), its data and its outcome. -/
structure TxFrame where
  ident : Nat
  entries : List (Nat × Bytes)
  data : Bytes
  inlineData : Bytes
  phase : TxPhase
  launch : Option Nat
  startedTx : Bool
  pending : Nat
  status : Nat
  stamp : Nat
  port : Nat
  cls : Nat
  preempted : Bool
  usedAt : Nat
deriving DecidableEq, Repr

/-- A descriptor ring (Tables 8.10 and 8.11). Positions are 17-bit values. -/
structure HostRing where
  base : Nat
  logSize : Nat
  eager : Bool
  eq : Nat
  enableBit : Bool
  tail : Nat
  head : Nat
  /-- Next position whose entry is to be used. -/
  next : Nat
  /-- Where the reads of entries covered by a doorbell end, and where those beyond the tail do (R246). -/
  asked : Nat
  fetched : Nat
  every : Nat
  holdoff : Nat
  /-- QSTS sticky flags, bits 8 to 14 of the word. -/
  flags : Nat
  state : QueueState
  /-- Receive: entries in use, oldest first (position, entry bytes). Transmit: pushes waiting for their turn (position,
  window). -/
  buffers : List (Nat × Bytes)
  /-- Transmit: frames in ring order. -/
  frames : List TxFrame
  nextIdent : Nat
  sinceEvent : Nat
  /-- When the first completion not yet announced was written (R260). -/
  unannounced : Option Nat
  /-- R271: the ring has taken a malformed entry and what it does is undefined. -/
  undefinedNow : Bool
  waitingRoom : Bool
  /-- When the last valid doorbell or push came, in `State.elapsed` (R273). -/
  coveredAt : Option Nat
deriving DecidableEq, Repr

/-- An event queue (Table 8.12). -/
structure EventQueue where
  base : Nat
  logSize : Nat
  vector : Nat
  enabled : Bool
  head : Nat
  tail : Nat
  count : Nat
  holdoff : Nat
  overflow : Bool
  armed : Bool
  /-- Entries written and not yet signalled, and when the first of them was (R263). -/
  unsignalled : Nat
  firstAt : Nat
deriving DecidableEq, Repr

/-- An MSI-X vector (16-byte table entry). -/
structure Vector where
  address : Nat
  data : Nat
  masked : Bool
  waiting : Bool
deriving DecidableEq, Repr

/-- A PCI Express function: the configuration that its requests follow (R236, R269, R272), the registers of its function block
and the latched clock page. -/
structure Function where
  busMaster : Bool
  /-- Max Payload Size and Max Read Request Size in bytes, Enable Relaxed Ordering, and D3hot (Table 8.1). -/
  maxPayload : Nat
  maxRead : Nat
  relaxed : Bool
  d3hot : Bool
  markBase : Nat
  imageBases : PMap Nat
  dumpBase : Nat
  clockLatch : List Nat
  writesStopped : Bool
deriving DecidableEq, Repr

/-- What a Memory Read request is for: entries of a ring, buffers of a transmit ring's frame, an outbound image. -/
inductive ReadOwner where
  | entries (tx : Bool) (ring : Nat)
  | data (ring : Nat)
  | image (i : Nat)
deriving DecidableEq, Repr

/-- A Memory Read request of a function: outstanding once it is issued, else waiting for a tag (Table 8.1). -/
structure ReadRequest where
  fn : Nat
  owner : ReadOwner
  address : Nat
  length : Nat
  issued : Bool
deriving DecidableEq, Repr

/-- The host side: rings, queues, vectors, functions, the SR-IOV setting, the links, and the read requests in order of
issue. -/
structure HostSide where
  tx : PMap HostRing
  rx : PMap HostRing
  queues : PMap EventQueue
  vectors : PMap Vector
  functions : PMap Function
  numVfs : Nat
  vfEnable : Bool
  linkUpA : Bool
  linkUpB : Bool
  reads : List ReadRequest
deriving DecidableEq, Repr

/-! ## Twin and stack -/

/-- A witness poll in flight (R303): its cycle and the entries returned (hash, epoch, last renewed cycle). -/
structure Poll where
  cycle : Nat
  answers : List (Nat × Nat × Nat)
deriving DecidableEq, Repr

/-- A grove self-test (R298). -/
structure SelfTest where
  grove : Nat
  start : Nat
  own : Option Bool
  peer : Option Bool
deriving DecidableEq, Repr

/-- One row of 0x9040 MismatchLog. -/
structure MismatchRecord where
  time : Nat
  cycle : Nat
  kind : Nat
  grove : Nat
  engine : Nat
  sid : Nat
deriving DecidableEq, Repr

/-- A cycle of the coppice log (R311 step 3): the holder's Mirror values and the section views that changed. -/
structure LogCycle where
  cycle : Nat
  mirrors : List MirrorMsg
  views : List ViewData
deriving DecidableEq, Repr

/-- A coppice (R311): at the holder the boundary of the snapshot and the Mirror values of the running cycle; at the
syncing half the parts of the snapshot received, the log received and whether the snapshot has been loaded. -/
structure Coppice where
  serving : Option Nat
  /-- When the half asked for it, or the holder was asked, in `State.elapsed` (CoppiceTimeout). -/
  since : Nat
  mirrored : List MirrorMsg
  parts : List SnapPart
  log : List LogCycle
  loaded : Bool
deriving DecidableEq, Repr

/-- A stack port: the answer to its StackHello has come, and it accepted; whether the peer's StackMode forbids its use (R283);
the peer's FirmwareVersion and StackMode. -/
structure StackPort where
  answered : Bool
  accepted : Bool
  barred : Bool
  firmware : Nat
  mode : Nat
  /-- When its last StackHello and its last Alignment message left and when its link went down, in `State.elapsed`. -/
  helloAt : Option Nat
  alignedAt : Option Nat
  downAt : Nat
  /-- Departure of the last own Alignment message, arrival of the peer's last one (R71). -/
  sentAt : Nat
  arrivedAt : Nat
  /-- The consecutive measurements in which the member beyond has been within the lock threshold of the master (R283). -/
  lockRun : Nat
deriving DecidableEq, Repr

/-- A write to a standby's shadow of a RoleName section (R295): its bytes, engine and instant. -/
structure ShadowWrite where
  bytes : Bytes
  engine : Nat
  written : Nat
deriving DecidableEq, Repr

/-- A shadow comparison that waits for its latch (R295): due instant, cycle, section, and what the holder's copy carries. -/
structure ShadowCheck where
  due : Nat
  cycle : Nat
  sid : Nat
  length : Nat
  status : Nat
  age : Nat
  payload : Bytes
deriving DecidableEq, Repr

/-- The client of a relayed request (R40): the port it came on, none for the PF0 mailbox, its source address and tag; and
the member that the request went to. -/
structure RelayClient where
  port : Option Nat
  mac : Nat
  tag : Nat
  member : Nat
deriving DecidableEq, Repr

structure Twin where
  /-- Last renewal t_R as a cycle number, none before the first (R300). -/
  lastRenewal : Option Nat
  /-- The next boundary is the first after an acquisition (R302). -/
  firstBoundary : Bool
  /-- The lease was extended or acquired at the boundary that began this cycle, and the one before. -/
  extended : Bool
  extendedWas : Bool
  /-- The lease held was acquired under R305; the same of the peer, for the epoch its records show. -/
  noWitnessHeld : Bool
  peerNoWitness : Bool
  peerEpoch : Nat
  peerRank : Option Nat
  rankConflict : Bool
  /-- The latest cycle of a peer's StepRecord, and consecutive cycles of records from a lease holder. -/
  peerRecordCycle : Option Nat
  holderRun : Nat
  /-- Consecutive missed StepRecords, and the cycle of the last one missed. -/
  missedRun : Nat
  missedCycle : Option Nat
  /-- The latest cycle this half has sent its StepRecord for. -/
  sentRecord : Option Nat
  /-- R305: the latest instant of a renewal, a verified round frame 0 or a poll answer; the instant since which the
  peer's StepRecords arrive without the lease; both in `State.elapsed`. -/
  quietSince : Nat
  peerIdleSince : Option Nat
  poll : Option Poll
  /-- The boundary X of a release (R306), and whether FAILED follows it. -/
  releasing : Option Nat
  failAfter : Bool
  /-- The boundary at which the peer's release may be taken (R306). -/
  releaseSeen : Option Nat
  /-- What engines have written to the RoleName sections of a standby, newest first (R295). -/
  shadows : PMap (List ShadowWrite)
  shadowChecks : List ShadowCheck
  /-- The cycles and engines of standby tasks that were not run, for want of room in their cycle (R291). -/
  skipped : List (Nat × Nat)
  /-- The peer's digests of a cycle whose own digests are not complete yet (R295). -/
  peerDigests : Option (Nat × List Bytes)
  selfTest : Option SelfTest
  mismatchLog : List MismatchRecord
  coppice : Coppice
  stackPorts : PMap StackPort
  /-- A capacity-stack member's name of its master and the views it has been sent (R283, R285), the one before each at a key
  65,536 higher. -/
  masterName : Nat
  memberViews : PMap View
  /-- The LendBytes of each member, at the master (R286). -/
  lent : PMap Nat
  /-- Health figures (R315). -/
  lastFullPass : Nat
  healthFlags : Nat
  /-- Relayed requests that wait for their response, by the tag they carry on the stack link (R40, R284). -/
  relayTags : PMap RelayClient
deriving DecidableEq, Repr

/-! ## Kiln -/

/-- Kiln OTP (Table 10.2). Bits only rise (R322): the setters of `Machine/Ops.lean` OR into these fields. -/
structure Otp where
  hardwareUniqueKey : Nat
  deviceKeySeed : Nat
  caerharKeyHashes : List Bytes
  caerharRootHash : Bytes
  keyRevoked : Nat
  ownerSlots : List (Nat × Bytes)
  rollback : Nat
  locks : Nat
  debugOpened : Bool
deriving DecidableEq, Repr

/-- What the flash holds (Table 10.4): the two firmware slots, the boot images and the Kiln store. -/
structure Flash where
  /-- What FwWrite has put into a slot; none while it holds the package of manufacture (`Config.factoryPackage`). -/
  slotA : Option Bytes
  slotB : Option Bytes
  validA : Bool
  validB : Bool
  bootImage : Option Bytes
  previousImage : Option Bytes
  activeSlot : Nat
  trialSlot : Option Nat
  ownerKey : Option (Nat × Bytes)
  ownerSequence : Nat
  requireSigned : Bool
  /-- The HardwareUniqueKey from which the storage key of the Kiln-store records was derived (Table 10.3). -/
  storeRoot : Nat
  advanceOnConfirm : Bool
  pairingMode : Nat
  cakLifetime : Nat
  lockedRanges : List (Nat × Nat)
  allowList : List Nat
  caks : PMap (Bytes × Bytes × Nat)
  /-- 0x2043:00 ImageSequence (R53, R55). -/
  imageSequence : Nat
  bootCount : Nat
deriving DecidableEq, Repr

/-- KSTATE (Table 10.12). -/
inductive KilnState where
  | booting
  | running
  | recovery
  | fault
  | debugOpened
deriving DecidableEq, Repr

/-- A waiting or running Kiln operation (R321): rank 0 key work and pairing, 1 mailbox, 2 port message; the port, the
source address of the request and whether MACsec verified it. -/
structure KilnOp where
  rank : Nat
  port : Nat
  message : Bytes
  sourceMac : Nat
  isProtected : Bool
deriving DecidableEq, Repr

/-- A message being assembled on a port (R336): source address, version, kind, command and tag, protection, the instant of its
first fragment, the fragments that have arrived. -/
structure Assembly where
  port : Nat
  sourceMac : Nat
  header : Bytes
  isProtected : Bool
  since : Nat
  pieces : List (Nat × Bytes)
deriving DecidableEq, Repr

/-- A pairing exchange (R345, R346): the message last sent and waiting for its answer (command and body), the number of
times and when it has been sent, the bodies of the exchange, the derived keys and the confirmation expected. -/
structure Pairing where
  initiator : Bool
  command : Nat
  sent : Bytes
  attempts : Nat
  sentAt : Nat
  initBody : Bytes
  seed : Bytes
  cak : Bytes
  ckn : Bytes
  expected : Bytes
  failed : Bool
  /-- The source address of the PairInit that this end answers. -/
  peerMac : Nat
  tag : Nat
deriving DecidableEq, Repr

/-- A live peer of MKA (R344): SCI, member identifier, last message number, priority. -/
structure MkaPeer where
  sci : Nat
  member : Nat
  number : Nat
  priority : Nat
  /-- When it was last heard, in `State.elapsed`. -/
  heardAt : Nat
  /-- It has a receive SC (R341). -/
  sc : Bool
deriving DecidableEq, Repr

/-- A SAK that the Kiln holds (Table 10.3), with its AN and key number. -/
structure Sak where
  an : Nat
  number : Nat
  key : Bytes
deriving DecidableEq, Repr

/-- An MKA session (R344): its CAK, own member identifier and message number, its live and potential peers, the number of the
key server's last SAK, and the SAKs, newest first. -/
structure MkaSession where
  cak : Bytes
  ckn : Bytes
  member : Nat
  number : Nat
  peers : List MkaPeer
  potential : List Nat
  keyNumber : Nat
  saks : List Sak
  /-- The last MKPDU sent, in `State.elapsed`. -/
  helloAt : Nat
  /-- A new SAK is wanted (R342). -/
  rekey : Bool
deriving DecidableEq, Repr

/-- The MKA sessions and the pipe's SAs of a port (R341 to R344): a new session comes before the one that it runs beside. SAs
are pairs of AN and key number; receive SAs carry the peer's SCI in front. -/
structure MkaPort where
  sessions : List MkaSession
  /-- When a paired CAK expires, and whether this end initiated its pairing (R345). -/
  expires : Option Nat
  initiator : Bool
  nextAn : Nat
  txSa : Option (Nat × Nat)
  txPn : Nat
  pendingTx : Option (Nat × Nat)
  /-- The cycle in which the pending transmit SA came: it takes effect at the next boundary. -/
  pendingIn : Nat
  rxSas : List (Nat × Nat × Nat)
  /-- Receive SAs of the session before, which ends when the new one has installed its SAK (R344). -/
  oldRxSas : List (Nat × Nat × Nat)
  /-- Highest packet number accepted, by SCI (R313). -/
  windows : PMap Nat
  /-- The last key-path write, in `State.elapsed`. -/
  lastWrite : Nat
deriving DecidableEq, Repr

structure Kiln where
  state : KilnState
  busy : Bool
  done : Bool
  overrun : Bool
  msgStatus : Nat
  running : Option KilnOp
  waiting : List KilnOp
  assemblies : List Assembly
  /-- This boot: slot, trial, fallback, co-signature verified, and the slots tried so far. -/
  slot : Nat
  trial : Bool
  fallback : Bool
  coSigned : Bool
  slotsTried : List Nat
  /-- Measurements 7 and 8 (R339). -/
  configDigest : Bytes
  securityDigest : Bytes
  configCycle : Nat
  challenge : Option (Bytes × Nat)
  /-- A firmware write in progress: slot and length. -/
  fwSlot : Option (Nat × Nat)
  pairings : PMap Pairing
  mka : PMap MkaPort
  /-- Random bytes used so far. -/
  randomUsed : Nat
deriving DecidableEq, Repr

/-! ## Faults, counters, power -/

/-- A fault instance (R354, R355): occurrences per bucket number, and whether it is lasting. -/
structure FaultInstance where
  buckets : PMap Nat
  lasting : Bool
  since : Nat
  clearFrom : Nat
  actionTaken : Nat
deriving DecidableEq, Repr

/-- One port's MDI monitor (R358): consecutive samples meeting and not meeting each of conditions 1 to 4. -/
structure MdiMonitor where
  meet : List Nat
  miss : List Nat
  declared : List Nat
deriving DecidableEq, Repr

structure Faults where
  /-- Keyed by class x 2^23 + instance. -/
  instances : PMap FaultInstance
  mdi : PMap MdiMonitor
  tdr : Option Nat
  listenOnlyPorts : List Nat
deriving DecidableEq, Repr

/-- A counter view page (Table 12.8). -/
structure ViewPage where
  seq : Nat
  cycle : Nat
  time : Nat
  items : List Nat
deriving DecidableEq, Repr

structure Reader where
  nextSequence : Nat
  /-- The items as they stood before the boundary that began this cycle, until the snapshot of that boundary (R380). -/
  frozen : Option (PMap Nat)
  /-- The dump being written: function, address of its EndStamp, sequence, length. -/
  writing : Option (Nat × Nat × Nat × Nat)
  flagLost : Bool
  flagChanged : Bool
  lastSnapshot : Option Nat
  /-- The sequence of the last dump whose EndStamp was issued (DUMPLAST). -/
  lastDump : Nat
  pages : PMap ViewPage
deriving DecidableEq, Repr

/-- Power states of Table 13.1. -/
inductive Power where
  | off
  | dormant
  | idle
  | active
deriving DecidableEq, Repr

/-- One thing the block emits, in the order of issue (R269 for host writes). -/
inductive Emission where
  /-- A frame sent on a network port, its FCS good or stomped; `final` is false for a fragment that is continued. -/
  | frame (port : Nat) (data : Bytes) (stomped final : Bool)
  /-- An 802.3br control mPacket: true verify, false respond. -/
  | mPacket (port : Nat) (verify : Bool)
  /-- A PLCA BEACON. -/
  | beacon (port : Nat)
  /-- A pulse on PPSOUT (pin 0) or TEVn (pin n + 1): its leading edge in the local clock and its width in ns. -/
  | pulse (pin start width : Nat)
  /-- The FAULT ball is driven low or released (R364). -/
  | faultPin (low : Bool)
  /-- A frame sent on a stack port (R279): a stack or twin message whose layout the manual gives, or a fragment of a Kiln message. -/
  | stack (stackPort : Nat) (data : Bytes)
  /-- Stack messages, in the same envelope, whose body the manual names without giving its bytes: Alignment (own loop and turn, the instant of
  departure), Mirror, SnapshotChunk, LogChunk, ViewForward. -/
  | alignment (stackPort : Nat) (loop turn : Int) (origin : Nat)
  | mirror (stackPort epoch : Nat) (message : MirrorMsg)
  | snapshot (stackPort epoch : Nat) (parts : List SnapPart) (last : Bool)
  | log (stackPort epoch : Nat) (cycle : LogCycle)
  | views (stackPort : Nat) (toMaster : Bool) (views : List ViewData)
  /-- A dictionary message for a member (0: a response, for the master) or a stream frame, passed on over the stack link (R40, R284,
  R286). -/
  | relay (stackPort member : Nat) (message : Bytes)
  | streamForward (stackPort member handle : Nat) (data : Bytes)
  /-- A frame for a class queue of a port of a member (R19). -/
  | portForward (stackPort member port cls : Nat) (data : Bytes)
  /-- A posted Memory Write of a function, with its Relaxed Ordering bit (R269). -/
  | hostWrite (fn address : Nat) (data : Bytes) (relaxed : Bool)
  /-- A Memory Read request of a function. -/
  | hostRead (fn address length : Nat)
  /-- An MSI-X message of a vector (global number). -/
  | msix (vector : Nat)
  /-- The completion of a register read. -/
  | readCompletion (fn offset value : Nat)
  /-- The response to a dictionary record or message, on its channel (code of Table 2.8): status, type, value. -/
  | response (chan status type : Nat) (value : Bytes)
  /-- An MKPDU on a port (R344), 256 and 257 the stack ports. -/
  | mkpdu (port : Nat) (message : MkpduOut)
deriving DecidableEq, Repr

/-- A received frame that waits for its grove, with what MKA reads from it where it is an MKPDU. -/
structure HeldFrame where
  frame : Frame
  mkpdu : Option Mkpdu
deriving DecidableEq, Repr

/-- Grove power (0x2102): 0 gated, 1 waking, 2 running, 3 off. -/
structure Grove where
  state : Nat
  since : Nat
  nextWake : Option Nat
  /-- The frame that the PHY die holds for a port (R403). -/
  wakeBuffer : PMap HeldFrame
  /-- Tasks, by engine and row, that were due while it did not run (R406). -/
  owed : List (Nat × Nat)
  selfTesting : Bool
  /-- When its wake started, in `State.elapsed`; it reloads its firmware in a restart (R357). -/
  wokenAt : Nat
  restarting : Bool
deriving DecidableEq, Repr

/-- One row of 0x2221 WakeLog. -/
structure WakeRecord where
  time : Nat
  cause : Nat
  port : Nat
deriving DecidableEq, Repr

/-- What the canopy keeps through every reset except power-on (R410). -/
structure Canopy where
  /-- The canopy counter, in periods of 32.768 kHz, and what has passed of the present one, in 2^-16 ns (R81). -/
  counter : Nat
  phase : Nat
  /-- The shutdown record (R362): cause and time; whether the next S5 has to report it; the sensor and temperature of a
  thermal shutdown (event 913). -/
  shutdown : Option (Nat × Nat)
  shutdownDue : Bool
  thermalTrip : Option (Nat × Int)
  /-- The temperature at which a thermal shutdown ended (event 914). -/
  cooled : Option Int
  wakeLog : List WakeRecord
  /-- Of a twin half: the last epoch, and the canopy counter at the last renewal. -/
  lastEpoch : Nat
  lastRenewal : Option Nat
  /-- The local clock and the canopy counter at the last entry into DORMANT (R81). -/
  latched : Option (Nat × Nat)
  /-- WakeAt is still to come (R398, R412). -/
  wakeArmed : Bool
  /-- An AUX3V3 overcurrent in DORMANT (R417). -/
  auxFault : Bool
  /-- Failed self-tests and corrected memory errors since power-on (R315). -/
  selfTestFailures : Nat
  scrubCorrected : Nat
deriving DecidableEq, Repr

structure PowerSide where
  state : Power
  /-- The bring-up stage S0 to S5 (Table 13.7). -/
  stage : Nat
  groves : PMap Grove
  /-- Straps as sampled (R422): STKPOS, PCIEMODE0, PCIEMODE1. -/
  stkpos : Nat
  pcieMode : Bool
  sris : Bool
  /-- The cycle in which the stage began, and the instant in `State.elapsed`. -/
  stageCycle : Nat
  stageSince : Nat
  /-- PowerRequest 2, or 1, has been accepted and waits for its instant (R396, R397); the cycle and the instant, in
  `State.elapsed`, of its acceptance. -/
  idlePending : Bool
  dormantPending : Bool
  requestCycle : Nat
  requestSince : Nat
  /-- The instant, in `State.elapsed`, of a reset that waits for it (R410). -/
  resetDue : Option Nat
  /-- A wake from IDLE has begun (R395). -/
  wakePending : Bool
  /-- The module is down after an orderly shutdown, by brown-out or by temperature (R362). -/
  brownOut : Bool
  thermalStop : Bool
  /-- The supply warning of R361 is in force. -/
  supplyWarned : Bool
  /-- ThermalThrottle is in force (R363). -/
  throttled : Bool
  /-- A fault of AUX3V3 stands (R417); the instant, in `State.elapsed`, of its beginning or of the last retry. -/
  auxFaulty : Bool
  auxSince : Nat
  /-- A port has been isolated by a fault, and the grove policies and gPTP roles have not followed yet (R357). -/
  followDue : Bool
deriving DecidableEq, Repr

/-! ## Emissions: what the block puts on its balls, links and PCI Express -/

/-! ## The whole -/

structure State where
  /-- Commands waiting, first in, first out. -/
  pending : List Instr
  od : Dictionary
  buffers : Buffers
  counters : PMap Nat
  events : Sequencer
  clock : Clock
  time : TimeBase
  pins : Pins
  ring : Ring
  segments : PMap Segment
  traffic : Traffic
  messages : Messages
  host : HostSide
  twin : Twin
  otp : Otp
  flash : Flash
  kiln : Kiln
  faults : Faults
  reader : Reader
  canopy : Canopy
  power : PowerSide
  /-- The model's own: how many free values have been used. -/
  freeUsed : Nat
  /-- Emissions since reset, oldest first: the model's own (DESIGN CHOICE, safe: log entry 22). -/
  out : List Emission
deriving DecidableEq, Repr

/-- Why a step stops with a fault. -/
inductive Fault where
  /-- No command of this block ends in a fault: the manual gives every row an effect. Kept so that the type is
  inhabited; nothing raises it, so it is safe (log entry 17). -/
  | unreachable
deriving DecidableEq, Repr

/-- Why a step is refused. -/
inductive Refusal where
  /-- Raised by a dispatch arm whose meaning is not written yet. Safe: nothing is claimed of the command. -/
  | notModelled (mnemonic : String)
deriving DecidableEq, Repr

/-! ## Reset: the module right after power-on reset, at the start of S0 (Table 13.8, R408) -/

def Mailbox.reset : Mailbox :=
  { tagReg := 0, busy := false, done := false, overrun := false, tag := 0, msgStatus := 0, buffer := [] }

def Buffers.reset : Buffers :=
  { mailboxRequest := [], mailboxResponse := [], image := [], stores := [], inbound := [], outbound := [],
    engines := [], instructions := [], kilnRequest := [], kilnResponse := [] }

def Dictionary.reset : Dictionary :=
  { dict := [], staged := [], sealedSet := none, clampLog := [], mailbox := Mailbox.reset, imageBusy := false, controllerDown := false }

def Sequencer.reset : Sequencer :=
  { raised := [], peak := 0, next := 0, fifo := [], backlog := 0, lost := 0, newest := none, onceInCycle := [], onceInSecond := [], sentInSecond := [] }

def Clock.reset : Clock := { sec := 0, ns := 0, frac := 0 }

def Servo.reset : Servo :=
  { sigma := 0, slews := [], adjust := 0, slewAt := 0, estimates := [], rrSum := 0, rrCount := 0, prev := none, lockRun := 0,
    overRun := 0, pendingStep := none, sourceSeen := false, missed := 0 }

def TimeBase.reset : TimeBase :=
  { servo := Servo.reset, ppsArmed := none, ppsEdges := 0, lastPpsOut := none, lastPpsIn := none, lastCapture := [], gptp := [], syncSequence := 0,
    announceSequence := 0, syncAt := none, pdelayAt := none, announceAt := none, syncAwaited := none, tevIndex := [], stackSeeded := false }

def Pins.reset : Pins := { faultLow := true, pewakenLow := false, jtagOpen := false }

def Lane.reset : Lane :=
  { lost := false, restored := false, seen := false, silent := 0, delayValid := false, locked := false, held := none, faulted := false }

def Ring.reset : Ring :=
  { views := [], candidates := [], staged := [], outBuffers := [], latched := [], latchedRounds := [], written := [],
    admitted := [], admittedAt := [], admitRuns := [], absentRuns := [], heard := [], refused := [], masterHash := 0, masterSeen := false,
    masterAbsent := 0, inhibited := false, listened := none,
    rf0Verified := false, rf0Absent := 0, disablePending := false, stopPending := false,
    rf0Seen := false, eastPosSeen := false, placed := false, launched := [], returned := [], ackUnion := 0,
    west := Lane.reset, east := Lane.reset, releaseAt := none, crossSeen := false, crossRun := 0, request := none,
    followRequest := none, confirm := none, confirmed := none, adopt := none, witnessEpoch := 0, witnessCycle := none,
    shownEpoch := 0, witnessAge := 255, voteLock := none, westArrival := none, westDeparture := none, eastArrival := none,
    eastDeparture := none, turns := [], loops := [], lastReportedDelay := none, delaySeeded := false, censusStable := 0, answeredPolls := [],
    fillers := [], passages := [], observed := [], earlySeen := [] }

def Traffic.reset : Traffic :=
  { queues := [], shapers := [], ringCredits := [], gates := [], macs := [], meters := [], recovery := [],
    generators := [], recordLost := [], peaks := [], exceeded := [] }

def Messages.reset : Messages :=
  { serial := 0, engines := [], storeMarks := [], imageMarks := [],
    images := [], checks := [], protects := [], holds := [], transactions := [], received := [], mirrors := [], digests := [], pastDigests := [], reports := [] }

def HostSide.reset : HostSide :=
  { tx := [], rx := [], queues := [], vectors := [], functions := [], numVfs := 0, vfEnable := false,
    linkUpA := false, linkUpB := false, reads := [] }

def Coppice.reset : Coppice :=
  { serving := none, since := 0, mirrored := [], parts := [], log := [], loaded := false }

def Twin.reset : Twin :=
  { lastRenewal := none, firstBoundary := false, extended := false, extendedWas := false, noWitnessHeld := false,
    peerNoWitness := false, peerEpoch := 0, peerRank := none, rankConflict := false, peerRecordCycle := none,
    holderRun := 0, missedRun := 0, missedCycle := none, sentRecord := none, quietSince := 0, peerIdleSince := none, poll := none,
    releasing := none, failAfter := false, releaseSeen := none, shadows := [], shadowChecks := [], skipped := [], peerDigests := none,
    selfTest := none, mismatchLog := [], coppice := Coppice.reset, stackPorts := [], masterName := 0,
    memberViews := [], lent := [], lastFullPass := 0, healthFlags := 0,
    relayTags := [] }

def Otp.reset : Otp :=
  { hardwareUniqueKey := Config.hardwareUniqueKey, deviceKeySeed := Config.deviceKeySeed
    caerharKeyHashes := (List.range 4).map Config.caerharKeyHash, caerharRootHash := Config.caerharRootHash
    keyRevoked := 0, ownerSlots := [], rollback := 0, locks := 0, debugOpened := false }

def Flash.reset : Flash :=
  { slotA := none, slotB := none, validA := true, validB := true, bootImage := none, previousImage := none,
    activeSlot := 0, trialSlot := none, ownerKey := none, ownerSequence := 0, requireSigned := false, storeRoot := Config.hardwareUniqueKey,
    advanceOnConfirm := true, pairingMode := 1, cakLifetime := 2592000000000000, lockedRanges := [], allowList := [],
    caks := [], imageSequence := 0, bootCount := 0 }

def Kiln.reset : Kiln :=
  { state := .booting, busy := false, done := false, overrun := false, msgStatus := 0, running := none, waiting := [], assemblies := [], slot := 0, trial := false, fallback := false, coSigned := false,
    slotsTried := [], configDigest := [], securityDigest := [], configCycle := 0, challenge := none, fwSlot := none,
    pairings := [], mka := [], randomUsed := 0 }

def Faults.reset : Faults := { instances := [], mdi := [], tdr := none, listenOnlyPorts := [] }

def Reader.reset : Reader :=
  { nextSequence := 0, frozen := none, writing := none, flagLost := false, flagChanged := false, lastSnapshot := none,
    lastDump := 0, pages := [] }

def Canopy.reset : Canopy :=
  { counter := 0, phase := 0, shutdown := none, shutdownDue := false, thermalTrip := none, cooled := none, wakeLog := [⟨0, 5, 0xFFFF⟩],
    lastEpoch := 0, lastRenewal := none, latched := none, wakeArmed := false, auxFault := false,
    selfTestFailures := 0, scrubCorrected := 0 }

def PowerSide.reset : PowerSide :=
  { state := .active, stage := 0, groves := [], stkpos := 0, pcieMode := false, sris := false, stageCycle := 0,
    stageSince := 0, idlePending := false, dormantPending := false, requestCycle := 0, requestSince := 0, resetDue := none,
    wakePending := false, brownOut := false, thermalStop := false, supplyWarned := false, throttled := false, auxFaulty := false, auxSince := 0,
    followDue := false }

/-- The module right after power-on reset, at the start of S0 (Table 13.8, R408): every object at its default, no
frame, entry, view or key held, no command waiting. What the manual gives no value for is DESIGN CHOICE, unsafe: log
entry 8. -/
def State.reset : State :=
  { pending := [], od := Dictionary.reset, buffers := Buffers.reset, counters := [], events := Sequencer.reset, clock := Clock.reset,
    time := TimeBase.reset, pins := Pins.reset, ring := Ring.reset, segments := [], traffic := Traffic.reset,
    messages := Messages.reset, host := HostSide.reset, twin := Twin.reset, otp := Otp.reset, flash := Flash.reset,
    kiln := Kiln.reset, faults := Faults.reset, reader := Reader.reset, canopy := Canopy.reset,
    power := PowerSide.reset, freeUsed := 0, out := [] }

end Sys2Proof.Machine
end

