-- ==== Sys2Proof/Machine/Ops.lean ====
section
/-! DEFINITION. The named operations over the state. `Upd` lists every primitive update a command can make, each with
its own guard (the log bounds, one-way OTP bits, the canonical stores); `Eff` composes them; every meaning is an `Eff`
run on the state. `State.obj` reads an object of the dictionary. -/

namespace Sys2Proof.Machine

/-! ## Reading the state -/

/-- The applied value of a dictionary key held in `od.dict`: the listed value, else the default (R31). -/
def State.key (s : State) (k : Key) : Int := (dictGet s.od.dict k).getD (defaultOf k)

/-- Object idx:sub, row `row`, as an integer. -/
def State.obj (s : State) (idx sub : Nat) (row : Nat := 0) : Int := s.key ⟨idx, row, sub⟩

/-- Object idx:sub, row `row`, as a natural number. -/
def State.n (s : State) (idx sub : Nat) (row : Nat := 0) : Nat := (s.obj idx sub row).toNat

/-- The enabled rows of a table's flag column, ascending. -/
def State.enabledRows (s : State) (idx sub : Nat) : List Nat :=
  s.od.dict.filterMap fun e => if e.1.idx == idx && e.1.sub == sub && e.2 != 0 then some e.1.row else none

/-- A BOOL object. -/
def State.on (s : State) (idx sub : Nat) (row : Nat := 0) : Bool := s.obj idx sub row != 0

/-- The local clock in units of 2^-16 ns (R56, R58). -/
def Clock.units (c : Clock) : Nat := c.sec * secUnits + c.ns * 65536 + c.frac / 4294967296

/-- The local clock now. -/
def State.now (s : State) : Nat := s.clock.units

/-- Units of 2^-16 ns in a period of the canopy's 32.768 kHz (R81). -/
def canopyPeriod : Nat := 2000000000

/-- What timers count in: the time that the canopy has counted, which no step, slew or restart moves (DESIGN CHOICE, safe: log
entry 49). -/
def State.elapsed (s : State) : Nat := s.canopy.counter * canopyPeriod + s.canopy.phase

/-- Whether a time has elapsed since an instant of `State.elapsed`. -/
def State.after (s : State) (since units : Nat) : Bool := since + units ≤ s.elapsed

/-- The backbone cycle counter (0x4001:06). -/
def State.cycle (s : State) : Nat := s.n 0x4001 6

/-- CycleLength in ns (0x4000:04). -/
def State.cycleLength (s : State) : Nat := s.n 0x4000 4

/-- The running schedule mode (0x4001:05). -/
def State.mode (s : State) : Nat := s.n 0x4001 5

/-- The value of a counter (R376). -/
def State.counter (s : State) (item : Nat) : Nat := s.counters.getD item 0

/-- Dictionary index of object offset `k` of port `p` (R19). -/
def portIdx (p k : Nat) : Nat := 0x5000 + 16 * (p % 256) + k % 16

/-- Dictionary index of the object of grove `g` in a block of eight, of engine `e` in a block of 128, and of port `p` in a
block of 256. -/
def groveIdx (base g : Nat) : Nat := base + g % 8
def engineIdx (base e : Nat) : Nat := base + e % 128
def portTable (base p : Nat) : Nat := base + p % 256

/-- Object `k`:`sub` of a port. -/
def State.port (s : State) (p k sub : Nat) (row : Nat := 0) : Nat := s.n (portIdx p k) sub row
def State.portOn (s : State) (p k sub : Nat) (row : Nat := 0) : Bool := s.on (portIdx p k) sub row

/-- Units of 2^-16 ns in `t` ns. -/
def nsUnits (t : Nat) : Nat := t * 65536

/-- The cycle length in 2^-16 ns. -/
def State.cycleUnits (s : State) : Nat := nsUnits s.cycleLength

/-- Item numbers of the counter sets (Table 12.1). -/
def portItem (p i : Nat) : Nat := 32 * (p % 256) + i % 32
def engineItem (e i : Nat) : Nat := 8192 + 16 * (e % 128) + i % 16
def groveItem (g i : Nat) : Nat := 10240 + 64 * (g % 8) + i % 64
def commonsItem (i : Nat) : Nat := 10752 + i % 256
def wheelItem (i : Nat) : Nat := 11008 + i % 64
def pcieItem (i : Nat) : Nat := 11072 + i % 64
def kilnItem (i : Nat) : Nat := 11136 + i % 16
def twinItem (i : Nat) : Nat := 11152 + i % 32
def readerItem (i : Nat) : Nat := 11184 + i % 32
def histItem (h b : Nat) : Nat := 11216 + 32 * h + b

/-! ## Values of entries that have never been used -/

def Plca.init : Plca := { current := none, isOpen := false, sent := 0, expires := 0 }

def Segment.init : Segment :=
  { offset48 := 0, cycle := 0, deviations := [], previous := [], previousCycle := none, unsyncedRun := 0, accepted := 0, adopting := false,
    goodCycles := 0, startPending := false, slotsFilled := [], latched := [], outBuffers := [],
    received := [], overflow := [], leaving := [], nextMode := none, switchAt := none, announcing := false, frozen := none,
    heard := [], silent := [], quiet := [], digestReported := [], inTail := false,
    plca := Plca.init, timerEnd := 0 }

def Engine.init : Engine :=
  { run := none, result := none, restarting := false, lastRuns := [], packed := [], unavailable := false, oldUntil := 0,
    busyCycles := 0, mode := 0 }

def HostRing.init : HostRing :=
  { base := 0, logSize := 4, eager := false, eq := 0, enableBit := false, tail := 0, head := 0, next := 0, asked := 0, fetched := 0, every := 0,
    holdoff := 0, flags := 0, state := .disabled, buffers := [], frames := [], nextIdent := 0, sinceEvent := 0,
    unannounced := none, undefinedNow := false, waitingRoom := false, coveredAt := none }

def EventQueue.init : EventQueue :=
  { base := 0, logSize := 4, vector := 0, enabled := false, head := 0, tail := 0, count := 1, holdoff := 0,
    overflow := false, armed := false, unsignalled := 0, firstAt := 0 }

/-- A function after reset: the request sizes, the ordering and the power state are those of PCI Express (PRESUMED, unsafe: log
entry 57). -/
def Function.init : Function :=
  { busMaster := false, maxPayload := 128, maxRead := 512, relaxed := true, d3hot := false, markBase := 0, imageBases := [], dumpBase := 0, clockLatch := [], writesStopped := false }

def GptpPort.init : GptpPort :=
  { sequence := 0, waiting := false, sentAt := none, lost := 0, lastResponse := none, announces := 0, eventAt := none,
    owed := [] }

/-- A gPTP port (R76). -/
def State.gptpPort (s : State) (p : Nat) : GptpPort := s.time.gptp.getD p GptpPort.init

def Vector.init : Vector := { address := 0, data := 0, masked := true, waiting := false }

def FaultInstance.init : FaultInstance :=
  { buckets := [], lasting := false, since := 0, clearFrom := 0, actionTaken := 0 }

/-- Positions are 17-bit values: 0 to 2N - 1 with N at most 65,536 (R245, Table 8.12). -/
def position17 (p : Nat) : Nat := p % 131072

def HostRing.norm (r : HostRing) : HostRing :=
  { r with tail := position17 r.tail, head := position17 r.head, next := position17 r.next,
           asked := position17 r.asked, fetched := position17 r.fetched }

def EventQueue.norm (q : EventQueue) : EventQueue :=
  { q with head := position17 q.head, tail := position17 q.tail }

/-! ## Primitive updates -/

/-- The buffers of `Buffers`, by name. -/
inductive Buffer where
  | mailboxRequest | mailboxResponse | image | stores | inbound | outbound | engines | instructions | kilnRequest | kilnResponse
deriving DecidableEq, Repr

/-- A buffer's content. -/
def Buffers.get (x : Buffers) : Buffer → Memory
  | .mailboxRequest => x.mailboxRequest
  | .mailboxResponse => x.mailboxResponse
  | .image => x.image
  | .stores => x.stores
  | .inbound => x.inbound
  | .outbound => x.outbound
  | .engines => x.engines
  | .instructions => x.instructions
  | .kilnRequest => x.kilnRequest
  | .kilnResponse => x.kilnResponse

/-- The buffers with one of them changed. -/
def Buffers.update (x : Buffers) (b : Buffer) (f : Memory → Memory) : Buffers :=
  match b with
  | .mailboxRequest => { x with mailboxRequest := f x.mailboxRequest }
  | .mailboxResponse => { x with mailboxResponse := f x.mailboxResponse }
  | .image => { x with image := f x.image }
  | .stores => { x with stores := f x.stores }
  | .inbound => { x with inbound := f x.inbound }
  | .outbound => { x with outbound := f x.outbound }
  | .engines => { x with engines := f x.engines }
  | .instructions => { x with instructions := f x.instructions }
  | .kilnRequest => { x with kilnRequest := f x.kilnRequest }
  | .kilnResponse => { x with kilnResponse := f x.kilnResponse }

/-- The parts of the state that a primitive update can write. -/
inductive Part where
  | dict | staging | clampLog | mailbox | buffers | image | counters | events | clock | time | pins | ring | segments
  | traffic | messages | txRings | rxRings | queues | functions | twin | mismatchLog | otp | flash | kiln | faults | reader
  | canopy | power | free | out
deriving DecidableEq, Repr

/-- Every primitive update. -/
inductive Upd where
  /-- Applies a value to an object (R31). -/
  | obj (k : Key) (v : Int)
  /-- Returns the objects of the given access to their defaults. -/
  | defaults (keep : Key → Bool)
  /-- Puts a write into the open staging set, replacing one of the same key (R44). -/
  | stage (w : StagedWrite)
  | dropStaged
  /-- Seals the open staging set (R45). -/
  | seal (atModeSwitch : Bool)
  | dropSealed
  /-- Appends a clamp record; the log keeps the newest 256 (R49). -/
  | clamp (r : ClampRecord)
  | clearClamps
  | mailbox (f : Mailbox → Mailbox)
  /-- Writes bytes into a buffer. -/
  | write (b : Buffer) (off : Nat) (bs : Bytes)
  /-- Empties a buffer. -/
  | wipe (b : Buffer)
  | imageBusy (b : Bool)
  | controller (down : Bool)
  /-- Adds to a counter, modulo 2^64 (R376). -/
  | count (item n : Nat)
  /-- Clears a histogram bin (R387); other counters are never cleared. -/
  | clearBin (item : Nat)
  /-- Raises an event in this datapath cycle (R367). -/
  | raise (e : Raised)
  /-- The events raised are taken for stamping. -/
  | takeRaised
  /-- Stamps and queues an event (R367). -/
  | event (severity source reason arg : Nat) (queue : Option Nat)
  | popEvent
  | clearLost
  | once (second : Bool) (source arg : Nat)
  | clearOnce (second : Bool)
  | notified (row : Nat)
  | clearNotified
  /-- One tick of the time base: the clock and every segment view advance (R57, R58). -/
  | tick
  | setClock (units : Nat)
  | time (f : TimeBase → TimeBase)
  | pins (f : Pins → Pins)
  | ring (f : Ring → Ring)
  | segment (p : Nat) (f : Segment → Segment)
  | traffic (f : Traffic → Traffic)
  | messages (f : Messages → Messages)
  | txRing (r : Nat) (f : HostRing → HostRing)
  | rxRing (r : Nat) (f : HostRing → HostRing)
  | queue (q : Nat) (f : EventQueue → EventQueue)
  | vector (v : Nat) (f : Vector → Vector)
  | function (fn : Nat) (f : Function → Function)
  | hostLinks (numVfs : Nat) (vfEnable linkA linkB : Bool)
  | hostReads (f : List ReadRequest → List ReadRequest)
  | twin (f : Twin → Twin)
  /-- Records a mismatch; the log keeps the newest 64 (Table 9.8). -/
  | mismatch (r : MismatchRecord)
  /-- OTP bits rise and never fall (R322); the reserved ones of OwnerLocks are not written (R6). -/
  | burnRevoked (mask : Nat)
  | burnLocks (mask : Nat)
  | burnOwnerSlot (algorithm : Nat) (hash : Bytes)
  | raiseRollback (n : Nat)
  | burnDebug
  | flash (f : Flash → Flash)
  | kiln (f : Kiln → Kiln)
  | faultInstance (key : Nat) (f : FaultInstance → FaultInstance)
  | faults (f : Faults → Faults)
  | reader (f : Reader → Reader)
  | canopy (f : Canopy → Canopy)
  /-- Records a wake; the log keeps the newest 16 (Table 13.9). -/
  | wake (r : WakeRecord)
  /-- The canopy has lost its supply, or is the one of power-on (R395, R410). -/
  | canopyReset
  | power (f : PowerSide → PowerSide)
  /-- Uses the next free value. -/
  | useFree
  | emit (e : Emission)
  /-- A restart of everything below the canopy (R410): the state of reset, keeping OTP, flash, canopy and the straps as
  sampled. -/
  | restart


/-- What a restart of everything below the canopy can change (R410): all but OTP, flash, canopy and what the model keeps. -/
def restartParts : List Part :=
  [.dict, .staging, .clampLog, .mailbox, .buffers, .image, .counters, .events, .clock, .time, .pins, .ring, .segments,
   .traffic, .messages, .txRings, .rxRings, .queues, .functions, .twin, .mismatchLog, .kiln, .faults, .reader, .power]

/-- What parts of the state an update can write. -/
def Upd.touches : Upd → List Part
  | .obj _ _ | .defaults _ => [.dict]
  | .stage _ | .dropStaged | .seal _ | .dropSealed => [.staging]
  | .clamp _ | .clearClamps => [.clampLog]
  | .mailbox _ => [.mailbox]
  | .write _ _ _ | .wipe _ => [.buffers]
  | .imageBusy _ | .controller _ => [.image]
  | .count _ _ | .clearBin _ => [.counters]
  | .raise _ | .takeRaised | .event _ _ _ _ _ | .popEvent | .clearLost => [.events]
  | .once _ _ _ | .clearOnce _ | .notified _ | .clearNotified => [.events]
  | .tick => [.clock, .segments]
  | .setClock _ => [.clock]
  | .time _ => [.time]
  | .pins _ => [.pins]
  | .ring _ => [.ring]
  | .segment _ _ => [.segments]
  | .traffic _ => [.traffic]
  | .messages _ => [.messages]
  | .txRing _ _ => [.txRings]
  | .rxRing _ _ => [.rxRings]
  | .queue _ _ => [.queues]
  | .vector _ _ | .function _ _ | .hostLinks _ _ _ _ | .hostReads _ => [.functions]
  | .twin _ => [.twin]
  | .mismatch _ => [.mismatchLog]
  | .burnRevoked _ | .burnLocks _ | .burnOwnerSlot _ _ | .raiseRollback _ | .burnDebug => [.otp]
  | .flash _ => [.flash]
  | .kiln _ => [.kiln]
  | .faultInstance _ _ | .faults _ => [.faults]
  | .reader _ => [.reader]
  | .canopy _ | .wake _ | .canopyReset => [.canopy]
  | .power _ => [.power]
  | .useFree => [.free]
  | .emit _ => [.out]
  | .restart => restartParts

/-- The increment of the local clock per tick in 2^-48 ns (R57). -/
def tickIncrement (rate sigma : Int) : Nat := (2 * 281474976710656 + (rate + sigma) * 512).toNat

/-- The clock one tick later (R57). -/
def Clock.tick (c : Clock) (inc : Nat) : Clock :=
  let t := c.frac + inc
  let ns := c.ns + t / 281474976710656
  { sec := (if ns ≥ 1000000000 then c.sec + ns / 1000000000 else c.sec) % 18446744073709551616
    ns := ns % 1000000000
    frac := t % 281474976710656 }

/-- The clock at an instant in 2^-16 ns. -/
def Clock.ofUnits (t : Nat) : Clock :=
  { sec := (t / secUnits) % 18446744073709551616, ns := t % secUnits / 65536, frac := t % 65536 * 4294967296 }

/-- One tick of every segment view: o_s := o_s + 2 ns x r_s x 2^-40 (R58). -/
def tickSegments (s : State) : PMap Segment :=
  s.segments.map fun e => (e.1, { e.2 with offset48 := e.2.offset48 + s.obj 0x3400 3 e.1 * 512 })

/-- A stamped record (R365, R367). -/
def stampEvent (s : State) (severity source reason arg : Nat) (queue : Option Nat) : EventRecord :=
  { seq := s.events.next, sec := s.clock.sec % 65536, ns := s.clock.ns, severity := severity % 4,
    source := source % 1024, reason := reason % 64, arg := arg % 2147483648, queue := queue }

/-- The sequencer after an event: it stamps 8 records in a datapath cycle, and its FIFO holds 1,024 beyond them; an event that
finds it full consumes its number. -/
def pushEvent (q : Sequencer) (r : EventRecord) : Sequencer :=
  if q.backlog < 1032 then
    { q with next := (q.next + 1) % 4294967296, fifo := q.fifo ++ [r], newest := some r, backlog := q.backlog + 1
             peak := max q.peak (q.backlog + 1 - 8) }
  else { q with next := (q.next + 1) % 4294967296, lost := q.lost + 1 }

/-- The staging set with a write put in (R44). -/
def stageWrite : List StagedWrite → StagedWrite → List StagedWrite
  | [], w => [w]
  | x :: xs, w => if x.key = w.key then w :: xs else x :: stageWrite xs w

/-- Objects that outlast every reset but power-on (R410): the wake configuration, and what counts since power-on. -/
def canopyKey (k : Key) : Bool :=
  k.idx == 0x2220 || k.idx == 0x2250 || (k.idx == 0x2230 && k.sub == 5) || (k.idx == 0xB060 && 3 ≤ k.sub)

/-- The effect of one update. -/
def Upd.apply : Upd → State → State
  | .obj k v, s => { s with od := { s.od with dict := dictSet s.od.dict k (defaultOf k) v } }
  | .defaults keep, s => { s with od := { s.od with dict := s.od.dict.filter fun e => keep e.1 } }
  | .stage w, s => { s with od := { s.od with staged := stageWrite s.od.staged w } }
  | .dropStaged, s => { s with od := { s.od with staged := [] } }
  | .seal m, s => { s with od := { s.od with sealedSet := some ⟨m, s.od.staged, s.cycle, s.elapsed⟩, staged := [] } }
  | .dropSealed, s => { s with od := { s.od with sealedSet := none } }
  | .clamp r, s => { s with od := { s.od with clampLog := (r :: s.od.clampLog).take 256 } }
  | .clearClamps, s => { s with od := { s.od with clampLog := [] } }
  | .mailbox f, s => { s with od := { s.od with mailbox := f s.od.mailbox } }
  | .write b off bs, s => { s with buffers := s.buffers.update b fun m => m.writeBytes off bs }
  | .wipe b, s => { s with buffers := s.buffers.update b fun _ => [] }
  | .imageBusy b, s => { s with od := { s.od with imageBusy := b } }
  | .controller b, s => { s with od := { s.od with controllerDown := b } }
  | .count item n, s =>
    { s with counters := s.counters.set item ((s.counters.getD item 0 + n) % 18446744073709551616) }
  | .clearBin item, s => if 11216 ≤ item then { s with counters := s.counters.erase item } else s
  | .raise e, s => { s with events := { s.events with raised := s.events.raised ++ [e] } }
  | .takeRaised, s => { s with events := { s.events with raised := [], backlog := s.events.backlog - 8 } }
  | .event sev src reason arg q, s => { s with events := pushEvent s.events (stampEvent s sev src reason arg q) }
  | .popEvent, s => { s with events := { s.events with fifo := s.events.fifo.drop 1 } }
  | .clearLost, s => { s with events := { s.events with lost := 0 } }
  | .once second src arg, s =>
    if second then { s with events := { s.events with onceInSecond := (src, arg) :: s.events.onceInSecond } }
    else { s with events := { s.events with onceInCycle := (src, arg) :: s.events.onceInCycle } }
  | .clearOnce second, s =>
    if second then { s with events := { s.events with onceInSecond := [] } }
    else { s with events := { s.events with onceInCycle := [], peak := s.events.backlog - 8 } }
  | .notified row, s =>
    { s with events := { s.events with
        sentInSecond := (padRow s.events.sentInSecond row).modify row (· + 1) } }
  | .clearNotified, s => { s with events := { s.events with sentInSecond := [] } }
  | .tick, s =>
    { s with clock := s.clock.tick (tickIncrement (s.obj 0x3001 4) s.time.servo.sigma), segments := tickSegments s }
  | .setClock t, s => { s with clock := Clock.ofUnits t }
  | .time f, s => { s with time := f s.time }
  | .pins f, s => { s with pins := f s.pins }
  | .ring f, s => { s with ring := f s.ring }
  | .segment p f, s => { s with segments := s.segments.set p (f (s.segments.getD p Segment.init)) }
  | .traffic f, s => { s with traffic := f s.traffic }
  | .messages f, s => { s with messages := f s.messages }
  | .txRing r f, s =>
    { s with host := { s.host with tx := s.host.tx.set r (f (s.host.tx.getD r HostRing.init)).norm } }
  | .rxRing r f, s =>
    { s with host := { s.host with rx := s.host.rx.set r (f (s.host.rx.getD r HostRing.init)).norm } }
  | .queue q f, s =>
    { s with host := { s.host with queues := s.host.queues.set q (f (s.host.queues.getD q EventQueue.init)).norm } }
  | .vector v f, s =>
    { s with host := { s.host with vectors := s.host.vectors.set v (f (s.host.vectors.getD v Vector.init)) } }
  | .function fn f, s =>
    { s with host := { s.host with functions := s.host.functions.set fn (f (s.host.functions.getD fn Function.init)) } }
  | .hostLinks n v a b, s => { s with host := { s.host with numVfs := n, vfEnable := v, linkUpA := a, linkUpB := b } }
  | .hostReads f, s => { s with host := { s.host with reads := f s.host.reads } }
  | .twin f, s => { s with twin := { f s.twin with mismatchLog := s.twin.mismatchLog } }
  | .mismatch r, s => { s with twin := { s.twin with mismatchLog := (r :: s.twin.mismatchLog).take 64 } }
  | .burnRevoked m, s => { s with otp := { s.otp with keyRevoked := s.otp.keyRevoked ||| m } }
  | .burnLocks m, s => { s with otp := { s.otp with locks := s.otp.locks ||| (m % 128) } }
  | .burnOwnerSlot a h, s =>
    if s.otp.ownerSlots.length < 16 then { s with otp := { s.otp with ownerSlots := s.otp.ownerSlots ++ [(a, h)] } }
    else s
  | .raiseRollback n, s => { s with otp := { s.otp with rollback := max s.otp.rollback (min n 64) } }
  | .burnDebug, s => { s with otp := { s.otp with
      debugOpened := true, hardwareUniqueKey := s.otp.hardwareUniqueKey ||| (2 ^ 256 - 1)
      deviceKeySeed := s.otp.deviceKeySeed ||| (2 ^ 256 - 1) } }
  | .flash f, s => { s with flash := f s.flash }
  | .kiln f, s => { s with kiln := f s.kiln }
  | .faultInstance k f, s =>
    { s with faults := { s.faults with
        instances := s.faults.instances.set k (f (s.faults.instances.getD k FaultInstance.init)) } }
  | .faults f, s => { s with faults := { f s.faults with instances := s.faults.instances } }
  | .reader f, s => { s with reader := f s.reader }
  | .canopy f, s => { s with canopy := { f s.canopy with wakeLog := s.canopy.wakeLog } }
  | .wake r, s => { s with canopy := { s.canopy with wakeLog := (r :: s.canopy.wakeLog).take 16 } }
  | .canopyReset, s => { s with canopy := { Canopy.reset with wakeLog := [] } }
  | .power f, s => { s with power := f s.power }
  | .useFree, s => { s with freeUsed := s.freeUsed + 1 }
  | .emit e, s => { s with out := s.out ++ [e] }
  | .restart, s =>
    { State.reset with pending := s.pending, otp := s.otp, flash := s.flash, canopy := s.canopy,
                       kiln := { Kiln.reset with randomUsed := s.kiln.randomUsed },
                       freeUsed := s.freeUsed, out := s.out,
                       od := { Dictionary.reset with dict := s.od.dict.filter fun e => canopyKey e.1 },
                       power := { PowerSide.reset with stkpos := s.power.stkpos, pcieMode := s.power.pcieMode,
                                                       sris := s.power.sris } }
where
  padRow (l : List Nat) (row : Nat) : List Nat := l ++ List.replicate (row + 1 - l.length) 0

/-! ## Effects -/

/-- An effect: a sequence of primitive updates, each chosen by looking at the state as it then stands. -/
inductive Eff where
  | skip
  | upd (u : Upd)
  | seq (a b : Eff)
  | look (f : State → Eff)

/-- Running an effect. -/
def Eff.run : Eff → State → State
  | .skip, s => s
  | .upd u, s => u.apply s
  | .seq a b, s => b.run (a.run s)
  | .look f, s => (f s).run s

/-- Effects one after another. -/
def Eff.all : List Eff → Eff
  | [] => .skip
  | e :: es => .seq e (Eff.all es)

/-- An effect under a condition. -/
def Eff.when (c : Bool) (e : Eff) : Eff := if c then e else .skip

/-- An effect under a condition on the state. -/
def Eff.whenS (c : State → Bool) (e : Eff) : Eff := .look fun s => if c s then e else .skip

/-- An effect for each element of a list, in order. -/
def Eff.forEach {α : Type} (l : List α) (f : α → Eff) : Eff := Eff.all (l.map f)

/-- An effect on the value of an option. -/
def Eff.ofOption {α : Type} (o : Option α) (f : α → Eff) : Eff :=
  match o with
  | some a => f a
  | none => .skip

/-- Whether every update an effect can issue, in any state, satisfies a predicate. -/
def Eff.Only (p : Upd → Prop) : Eff → Prop
  | .skip => True
  | .upd u => p u
  | .seq a b => a.Only p ∧ b.Only p
  | .look f => ∀ s, (f s).Only p

/-! ## Shared effects -/

/-- Writes an object. -/
def setObj (idx sub : Nat) (v : Int) (row : Nat := 0) : Eff := .upd (.obj ⟨idx, row, sub⟩ v)

/-- Writes an object with a natural number. -/
def setN (idx sub v : Nat) (row : Nat := 0) : Eff := setObj idx sub (v : Int) row

/-- Writes a BOOL object. -/
def setB (idx sub : Nat) (v : Bool) (row : Nat := 0) : Eff := setObj idx sub (if v then 1 else 0) row

/-- Writes a port object. -/
def setPort (p k sub : Nat) (v : Int) (row : Nat := 0) : Eff := setObj (portIdx p k) sub v row

/-- Adds to an unsigned status object that wraps at the size of its type. -/
def bumpObj (idx sub : Nat) (row : Nat := 0) (n : Nat := 1) : Eff :=
  .look fun s =>
    let m : Int := match cellOf idx sub with
      | some c => c.ty.maxVal + 1
      | none => 1
    setObj idx sub ((s.obj idx sub row + (n : Int)) % m) row

/-- Counts one (R376). -/
def count (item : Nat) : Eff := .upd (.count item 1)

/-- Counts `n`. -/
def countN (item n : Nat) : Eff := .upd (.count item n)

/-- Raises an event: it is counted (EventsRaised) and given to the sequencer (R367). -/
def raiseFull (severity source reason arg : Nat) (queue : Option Nat) : Eff :=
  .seq (count (commonsItem 70)) (.upd (.raise ⟨severity, source, reason, arg, queue⟩))

/-- Puts an event in front of those of a higher source; those of one source keep their order. -/
def insertRaised (e : Raised) : List Raised → List Raised
  | [] => [e]
  | x :: xs => if e.source ≤ x.source then e :: x :: xs else x :: insertRaised e xs

/-- The order of one datapath cycle (R367): ascending source, and the order raised within a source. -/
def sortRaised : List Raised → List Raised
  | [] => []
  | x :: xs => insertRaised x (sortRaised xs)

/-- The sequencer stamps an event; one that finds the FIFO full is lost (R367). -/
def stampRaised (e : Raised) : Eff :=
  .look fun s => .seq (.upd (.event e.severity e.source e.reason e.arg e.queue))
    (.when (decide (1032 ≤ s.events.backlog)) (count (commonsItem 71)))

/-- The sequencer numbers the events of the datapath cycle. -/
def flushEvents : Eff :=
  .look fun s => .seq (.upd .takeRaised) (.forEach (sortRaised s.events.raised) stampRaised)

/-- The outcome of a meaning: the effect is run to its end, one datapath cycle, and its events are numbered. -/
def done (e : Eff) (s : State) : Host.Outcome State Fault Refusal := .next ((Eff.seq e flushEvents).run s)

/-- Raises an event of severity 0 without reason. -/
def raise (source : Nat) (arg : Nat := 0) : Eff := raiseFull 0 source 0 arg none

/-- Raises an event with a severity. -/
def raiseSev (severity source : Nat) (arg : Nat := 0) : Eff := raiseFull severity source 0 arg none

/-- Raises a port event with a reason (Table 5.5). -/
def raisePort (p reason : Nat) (arg : Nat := 0) : Eff := raiseFull 0 p reason arg none

/-- Raises an event at most once per backbone cycle for each argument. -/
def raiseOncePerCycle (source arg : Nat) (e : Eff) : Eff :=
  .look fun s => if s.events.onceInCycle.contains (source, arg) then .skip
    else .seq (.upd (.once false source arg)) e

/-- Raises an event at most once per second for each argument. -/
def raiseOncePerSecond (source arg : Nat) (e : Eff) : Eff :=
  .look fun s => if s.events.onceInSecond.contains (source, arg) then .skip
    else .seq (.upd (.once true source arg)) e

/-- An emission. -/
def emit (e : Emission) : Eff := .upd (.emit e)

/-- Gives the next free value to an effect: a value the manual leaves open. -/
def withFree (f : Nat → Eff) : Eff :=
  .look fun s => .seq (.upd .useFree) (f (Config.freeValue s.freeUsed))

/-- Clamps a number to an interval. -/
def clampInt (lo hi x : Int) : Int := if x < lo then lo else if hi < x then hi else x

/-- The magnitude of a signed number. -/
def absI (x : Int) : Int := if x < 0 then -x else x

/-- Division rounding toward zero's lower side, as every division here does (DESIGN CHOICE, unsafe: log entry 13). -/
def divFloor (a b : Int) : Int := if b = 0 then 0 else Int.fdiv a b

end Sys2Proof.Machine
end

