-- ==== Sys2Proof/Machine/Actions.lean ====
section
/-! DEFINITION. The operations that several chapters share: starting and stopping a port's function, twin states, the
restarts of R357, the FAULT ball, and the fault classes of R354 to R357. -/

namespace Sys2Proof.Machine

/-! ## Ports -/

/-- The MAC address of a port or stack port, as its 6 bytes. -/
def State.macBytes (s : State) (p : Nat) : Bytes :=
  leBytes 6 (if p < 256 then s.obj (portIdx p 0) 6 else s.obj 0x9002 5 (p - 256)).toNat

/-- Port states of Table 5.3 by their code. -/
def segOff : Nat := 0
def segListen : Nat := 1
def segColdstart : Nat := 2
def segBackoff : Nat := 3
def segIntegrating : Nat := 4
def segActive : Nat := 5

/-- The segment state of a port (P+1:03). -/
def State.segState (s : State) (p : Nat) : Nat := s.port p 1 3

/-- PortEnable and PortMode. -/
def State.portEnabled (s : State) (p : Nat) : Bool := s.portOn p 0 1
def State.portMode (s : State) (p : Nat) : Nat := s.port p 0 2

/-- Whether a port runs segment mode (R127). -/
def State.segmentPort (s : State) (p : Nat) : Bool :=
  !isBB p && s.portMode p == 1

/-- Whether presence is kept on the port: SG in PortMode 0 and 1, LK in PortMode 1. -/
def State.keepsPresence (s : State) (p : Nat) : Bool :=
  (isSG p && s.portMode p != 2) || (isLK p && s.portMode p == 1)

/-- Whether MDI condition 1, 2 or 3 is declared on a port (R358). -/
def State.shorted (s : State) (p : Nat) : Bool :=
  match s.faults.mdi.get? p with
  | some m => m.declared.contains 1 || m.declared.contains 2 || m.declared.contains 3
  | none => false

/-- Whether a port is kept from transmitting: action 3 of R357, or an MDI condition 1 to 3 (R358). -/
def State.portSilenced (s : State) (p : Nat) : Bool := s.faults.listenOnlyPorts.contains p || s.shorted p

/-- Whether the port has a segment view (R138, R143). -/
def State.hasView (s : State) (p : Nat) : Bool :=
  s.segState p == segColdstart || s.segState p == segIntegrating || s.segState p == segActive

/-- The time base of an engine in a mode (R206). -/
def State.timeBase (s : State) (e m : Nat) : Nat := s.n 0x7010 2 (8 * e + m)

/-- Whether the time base of an engine is available (R206). -/
def State.baseReady (s : State) (e m : Nat) : Bool :=
  let b := s.timeBase e m
  b == 0xFFFF || (s.hasView b && b / 32 == e / 16)

/-- An engine whose time base stops being available raises its event with reason 5 (R206). -/
def baseWatch (e : Nat) : Eff :=
  .look fun s =>
    let x := s.messages.engines.getD e Engine.init
    let out := s.on 0x7000 1 && s.on 0x7010 1 (8 * e + x.mode) && !s.baseReady e x.mode
    .when (x.unavailable != out)
      (.seq (.upd (.messages fun m => { m with
          engines := m.engines.set e { m.engines.getD e Engine.init with unavailable := out } }))
        (.when out (raiseFull 0 (256 + e) 5 0 none)))

/-- Changes the segment state; each change raises the segment-state event (R143), and the engines on the port's time base
follow (R206). -/
def setSegState (p new : Nat) : Eff :=
  .whenS (fun s => s.segState p != new)
    (.all [setPort p 1 3 new, raisePort p 8 new,
      .forEach ((List.range 16).map fun i => 16 * (p / 32) + i) fun e => .whenS (fun s =>
        s.timeBase e (s.messages.engines.getD e Engine.init).mode == p) (baseWatch e)])

/-! ## The ends of frames (R76, R252) -/

/-- One copy of a host frame has ended: the frame is finished after its last copy, with the status and timestamp of the
copy on its reported port (R252). -/
def TxFrame.copyEnds (f : TxFrame) (status stamp port cls : Nat) (cut : Bool) : TxFrame :=
  let g := if port = f.port then { f with status := status, stamp := stamp, cls := cls, preempted := f.preempted || cut }
           else f
  { g with pending := f.pending - 1, phase := if f.pending ≤ 1 then .finished else f.phase }

/-- A copy of a host frame has ended with a status (R252). -/
def finishHost (ring frame status stamp port cls : Nat) (cut : Bool) : Eff :=
  .upd (.txRing ring fun r => { r with
      frames := r.frames.map fun f =>
        if f.ident = frame then f.copyEnds status stamp port cls cut else f })

/-- Updates a gPTP port. -/
def gptpSet (p : Nat) (f : GptpPort → GptpPort) : Eff :=
  .upd (.time fun t => { t with gptp := t.gptp.set p (f (t.gptp.getD p GptpPort.init)) })

/-- A gPTP event message has left with its transmit timestamp (R76): a follow-up is owed for it, and a Pdelay_Req's is the
start of its exchange. -/
def ptpSent (p : Nat) (m : PtpEvent) (stamp : Nat) : Eff :=
  gptpSet p fun g => match m with
    | .request => { g with sentAt := some stamp }
    | _ => { g with owed := g.owed ++ [(m, stamp)] }

/-- The outcome of one copy of a frame for its origin. -/
def finishOrigin (o : Origin) (status stamp port cls : Nat) (cut : Bool) : Eff :=
  match o with
  | .host ring frame => finishHost ring frame status stamp port cls cut
  | .ptp m => .when (status == 1) (ptpSent port m stamp)
  | _ => .skip

/-! ## The segment configuration in use (R128, R132, R147) -/

/-- The segment function of a port. -/
def State.seg (s : State) (p : Nat) : Segment := s.segments.getD p Segment.init

/-- Updates it. -/
def segSet (p : Nat) (f : Segment → Segment) : Eff := .upd (.segment p f)

/-- A cell of P+3 or P+4 as the port uses it: the applied value, or the one before a commit that waits for the next
segment cycle boundary (R147). -/
def State.segCfg (s : State) (p k sub : Nat) (row : Nat := 0) : Nat :=
  match (s.seg p).frozen with
  | some d => ((dictGet d ⟨portIdx p k, row, sub⟩).getD (defaultOf ⟨portIdx p k, row, sub⟩)).toNat
  | none => s.port p k sub row

/-- The bit time of a port in ns (R128). -/
def State.bitTime (s : State) (p : Nat) : Nat :=
  if isSG p then 100 else if s.port p 0 3 == 1 then 10 else 1

/-- SegmentCycleLength in ns. -/
def State.segLength (s : State) (p : Nat) : Nat := s.segCfg p 3 1

/-- The running segment mode (P+1:04). -/
def State.segMode (s : State) (p : Nat) : Nat := s.port p 1 4

/-- A static slot of the running segment mode (R132); positions in bit times. -/
structure Slot where
  row : Nat
  owner : Nat
  start : Nat
  length : Nat
  sync : Bool
  toTail : Bool
  source : Nat
deriving DecidableEq, Repr

/-- Row `i` of a segment mode, if enabled. -/
def State.slotOf (s : State) (p m i : Nat) : Option Slot :=
  let r := 64 * m + i
  if i < 64 && s.segCfg p 4 1 r != 0 then
    some ⟨i, s.segCfg p 4 2 r, s.segCfg p 4 3 r, s.segCfg p 4 4 r, (s.segCfg p 4 5 r).testBit 0,
      (s.segCfg p 4 5 r).testBit 1, s.segCfg p 4 6 r⟩
  else none

/-- Whether a mode enables any row of the port (R146). -/
def State.modeUsed (s : State) (p m : Nat) : Bool := (List.range 64).any fun i => (s.slotOf p m i).isSome

/-- The segment mode that a backbone mode gives the port (R146). -/
def State.segModeFor (s : State) (p m : Nat) : Nat := if s.modeUsed p m then m else 0

/-- The listen timer of a port starts: ListenCycles x SegmentCycleLength (Table 5.3). -/
def startListenTimer (p : Nat) : Eff :=
  .look fun s => segSet p fun g => { g with timerEnd := s.now + nsUnits (s.segCfg p 3 7 * s.segLength p) }

/-- Frames of classes of a port end unsent. -/
def framesEnd (p status : Nat) (l : List (Nat × QueuedFrame)) : Eff :=
  .look fun s => .forEach l fun x => finishOrigin x.2.origin status s.now p x.1 (x.2.cuts != 0)

/-- The frames latched for a port's slots, with their classes. -/
def State.latchedFrames (s : State) (p : Nat) : List (Nat × QueuedFrame) :=
  (s.seg p).latched.map fun e => ((s.slotOf p (s.segMode p) e.1).elim 0 (·.source) - 1, e.2)

/-- The frames latched for slots end unsent. -/
def latchedEnd (p : Nat) : Eff :=
  .look fun s => .seq (segSet p fun g => { g with latched := [] }) (framesEnd p 3 (s.latchedFrames p))

/-- The frames latched for slots, moved to the tail or leaving in a slot end (R135, R252). -/
def dropMoved (p status : Nat) : Eff :=
  .look fun s => .seq (segSet p fun g => { g with latched := [], overflow := [], leaving := [] })
    (framesEnd p status (s.latchedFrames p ++ (s.seg p).overflow ++ (s.seg p).leaving.map fun e => (e.1, e.2.frame)))

/-- The entry into LISTEN: nothing known of the segment, the mode that the backbone's gives it (R146), the listen timer
started; no transmission in slots or tail (Table 5.3). -/
def segmentListen (p : Nat) : Eff :=
  .all [dropMoved p 3,
    segSet p fun g => { g with adopting := false, goodCycles := 0, startPending := false, accepted := 0, unsyncedRun := 0,
                               inTail := false, plca := Plca.init, nextMode := none, switchAt := none, announcing := false },
    .look fun s => setPort p 1 4 (s.segModeFor p s.mode),
    startListenTimer p, setN 0x3400 1 0 p, setSegState p segListen]

/-- A port's link goes down: LinkUp 0, the event and the counter (R149). -/
def linkFalls (p : Nat) : Eff :=
  .whenS (fun s => s.portOn p 1 1)
    (.all [setPort p 1 1 0, raisePort p 2, count (portItem p 27)])

/-- The frame in progress on a port ends with a stomped FCS, and its copy with LINK_DOWN. -/
def endTransmission (p : Nat) : Eff :=
  .look fun s => .ofOption ((s.traffic.macs.get? p).bind Mac.current) fun x =>
    .all [emit (.frame p (x.2.data.drop x.2.sent) true true),
      .upd (.traffic fun t => { t with
          macs := match t.macs.get? p with
            | some m => t.macs.set p { m with current := none, cutAt := none }
            | none => t.macs }),
      finishOrigin x.2.origin 9 s.now p x.1 (x.2.cuts != 0)]

/-- The frames that wait on a port end with LINK_DOWN (R252): in its class queues, latched for a slot, moved to the tail. -/
def dropQueued (p : Nat) : Eff :=
  .look fun s =>
    let waiting := (List.range 8).flatMap fun c => (s.traffic.queues.getD (8 * p + c) []).map fun f => (c, f)
    .all [.upd (.traffic fun t => { t with queues := t.queues.filter fun e => e.1 / 8 != p }),
      dropMoved p 9,
      .forEach waiting fun x => finishOrigin x.2.origin 9 s.now p x.1 (x.2.cuts != 0)]

/-! ## Groves -/

/-- The power record of a grove. -/
def State.grove (s : State) (g : Nat) : Grove :=
  s.power.groves.getD g { state := 2, since := 0, nextWake := none, wakeBuffer := [], owed := [],
                          selfTesting := false, wokenAt := 0, restarting := false }

/-- Whether a grove runs. -/
def State.groveOn (s : State) (g : Nat) : Bool := (s.grove g).state == 2

/-! ## PLCA (R131, R139) -/

/-- Whether the module is the PLCA coordinator of a port: node ID 0 in PortMode 0, always in segment mode. -/
def State.coordinates (s : State) (p : Nat) : Bool :=
  isSG p && (s.segmentPort p || (s.portMode p == 0 && s.port p 2 1 == 0))

/-- Updates the PLCA of a port. -/
def plcaSet (p : Nat) (f : Plca → Plca) : Eff := segSet p fun g => { g with plca := f g.plca }

/-- The transmit opportunity of a node begins and ends unused after ToTimer. -/
def opportunity (p node : Nat) : Eff :=
  .look fun s =>
    plcaSet p fun _ => ⟨some node, node == s.port p 2 1, 0, s.now + nsUnits (s.port p 2 3 * s.bitTime p)⟩

/-- The coordinator begins a round: a BEACON, then its own opportunity. A port whose grove does not run begins none (R10). -/
def beginRound (p : Nat) : Eff :=
  .whenS (fun s => !s.portSilenced p && s.groveOn (p / 32)) (.all [emit (.beacon p), count (portItem p 8), opportunity p 0])

/-! ## What a port loses with its link or its function -/

/-- Whether pre-emption is wanted on a port (R181): no SG port pre-empts. -/
def State.preemptionWanted (s : State) (p : Nat) : Bool := !isSG p && s.on 0x6000 2 p && s.portOn p 1 1

/-- PreemptionActive follows its conditions; each change raises event 643 (R181). -/
def showPreemption (p : Nat) : Eff :=
  .look fun s =>
    let active := s.preemptionWanted p && (!s.on 0x6000 5 p || s.n 0x6001 2 p == 2)
    .when (active != s.on 0x6001 1 p)
      (.seq (setB 0x6001 1 active p) (raise 643 (p + 1024 * (if active then 1 else 0))))


/-- asCapable takes a value; a change raises event 531. -/
def setAsCapable (p : Nat) (v : Bool) : Eff :=
  .whenS (fun s => s.on 0x3502 2 p != v) (.seq (setB 0x3502 2 v p) (raise 531))

/-- The flash is written (R351). -/
def flashSet (f : Flash → Flash) : Eff := .seq (.upd (.flash f)) (count (kilnItem 14))

/-- The exchange of a port ends. -/
def pairingEnds (p : Nat) : Eff := .upd (.kiln fun k => { k with pairings := k.pairings.erase p })


/-- A session ends and the pipe loses its SAs. -/
def mkaStop (p : Nat) : Eff := .upd (.kiln fun k => { k with mka := k.mka.erase p })


/-- A link goes down: the paired CAK ends with it (Table 10.3). -/
def linkUnsecures (p : Nat) : Eff :=
  .look fun s => .seq (pairingEnds p) (.when (s.n 0xA020 5 p == 0) (mkaStop p))

/-- The port function stops: OFF, no transmission, no link (Table 5.3, last row). A node that is listen-only stays so, and its
silent cycles count anew (R145). -/
def portStop (p : Nat) : Eff :=
  .all [endTransmission p, dropQueued p, setSegState p segOff, setN 0x3400 1 0 p, setPort p 1 7 0, linkFalls p,
    .upd (.segment p fun g => { Segment.init with quiet := g.quiet.map fun e => (e.1, 0) }),
    .upd (.traffic fun t => { t with macs := t.macs.erase p }),
    setN 0x6001 2 0 p, showPreemption p, setAsCapable p false, linkUnsecures p]

/-- Presence is kept on no port without PLCA and slots: its mask reads 0 (R148). -/
def presenceEnds (p : Nat) : Eff :=
  .seq (setN (portIdx p 5) 0 0) (.forEach (List.range 255) fun n => .whenS (fun s => s.port p 6 1 n != 0) (setPort p 6 1 0 n))

/-- The port function starts in the state that PortMode selects (Table 5.3, first row). -/
def portStart (p : Nat) : Eff :=
  .whenS (fun s => s.portEnabled p)
    (.seq (.whenS (fun s => s.segmentPort p && s.segState p == segOff) (segmentListen p))
      (.seq (.whenS (fun s => !s.keepsPresence p && s.port p 5 0 != 0) (presenceEnds p))
        (.whenS (fun s => s.coordinates p && !s.segmentPort p) (beginRound p))))

/-! ## Twin states -/

/-- A twin half (R287): StackMode 2 with TwinEnable 1. -/
def State.twinHalf (s : State) : Bool := s.n 0x9000 1 == 2 && s.on 0x9020 1

/-- TwinState codes of 0x9021:01. -/
def twAlone : Nat := 1
def twActive : Nat := 2
def twStandby : Nat := 3
def twSyncing : Nat := 4
def twFailed : Nat := 5
def twSilent : Nat := 6

/-- The twin state. -/
def State.twinState (s : State) : Nat := s.n 0x9021 1

/-- Changes the twin state; each change raises event 832, and FAILED is left by no event (R290). -/
def setTwinState (new : Nat) : Eff :=
  .whenS (fun s => s.twinState != new && s.twinState != twFailed)
    (.seq (setN 0x9021 1 new) (raise 832 new))

/-- Whether this half holds the lease. -/
def State.leaseHeld (s : State) : Bool := s.on 0x9021 3

/-- A release begins (R306): its boundary X is the next one, or the one after where the StepRecord that has to carry the
Release flag has already been sent. -/
def releaseBegin (thenFail : Bool) : Eff :=
  .look fun s => .upd (.twin fun t =>
    { t with
        releasing := some (t.releasing.getD (if t.sentRecord == some s.cycle then s.cycle + 2 else s.cycle + 1))
        failAfter := t.failAfter || thenFail })

/-- Action 4 of R357: a holder releases and then enters FAILED, another half enters FAILED at once. -/
def failOver : Eff :=
  .look fun s =>
    if !s.twinHalf then .skip
    else if s.leaseHeld then releaseBegin true
    else setTwinState twFailed

/-! ## Restarts (R357 action 2) -/

/-- An engine restarts; its grove store, HOLD, CHECK and transaction state survive. -/
def engineRestart (e : Nat) : Eff :=
  .all [.upd (.messages fun m =>
          { m with engines := (m.engines.set e { m.engines.getD e Engine.init with run := none, restarting := true }) }),
    count (engineItem e 15), raiseFull 0 (256 + e) 4 0 none]

/-- Changes a grove's power state (0x2102): the time in the old state is counted (Table 13.5), and a change between gated
and running is reported where ChangeEvents is 1 (R407). -/
def setGrove (g state : Nat) (nextWake : Option Nat) : Eff :=
  .look fun s =>
    let old := s.grove g
    .all [
      countN (groveItem g (if old.state == 0 || old.state == 3 then 20 else 21)) ((s.now - old.since) / 65536),
      .upd (.power fun w =>
        { w with groves := w.groves.set g { old with state := state, since := s.now, nextWake := nextWake
                                                     wokenAt := if state = 1 then s.elapsed else old.wokenAt
                                                     restarting := old.restarting && state == 1 } }),
      .when (s.on 0x2100 4 g && state != old.state && (state == 0 || state == 2))
        (raise (384 + 8 * g) (if state == 2 then 1 else 0))]

/-- An event that needs a gated grove wakes it at once (R403). A grove that is off serves nothing (R400). -/
def wakeGrove (g : Nat) : Eff :=
  .whenS (fun s => g < 8 && (s.grove g).state == 0) (.seq (count (groveItem g 17)) (setGrove g 1 none))

/-- A static span starts while its grove is not running (R406): it is late, with its offset in the cycle in us, and the
grove is woken. -/
def groveLate (g : Nat) : Eff :=
  .look fun s => .when (g < 8 && !s.groveOn g && (s.grove g).state != 3)
    (.all [raise (384 + 8 * g + 1) ((s.now % max 1 s.cycleUnits) / 65536000 % 256), count (groveItem g 18), wakeGrove g])

/-- Every gated grove is to run at the instant `t` (R405): it is woken WakeLead ahead of it, at once where less is left. -/
def wakeBefore (t : Nat) : Eff :=
  .forEach (List.range 8) fun g => .look fun s =>
    let lead := nsUnits (s.n 0x2100 2 g)
    .when ((s.grove g).state == 0)
      (if t < s.now + lead then setGrove g 1 none
       else .upd (.power fun w =>
         { w with groves := w.groves.set g { s.grove g with nextWake := some (min (t - lead) ((s.grove g).nextWake.getD t)) } }))

/-- What runs in a grove ends with it (R30): the frames in progress on its ports but the backbone lane, and the tasks of its
engines. -/
def groveStops (g : Nat) : Eff :=
  .seq (.forEach ((List.range 31).map (32 * g + 1 + ·)) endTransmission)
    (.forEach ((List.range 16).map (16 * g + ·)) fun e =>
      .whenS (fun s => ((s.messages.engines.get? e).bind Engine.run).isSome)
        (.upd (.messages fun m => { m with engines := m.engines.set e { m.engines.getD e Engine.init with run := none } })))

/-- A grove restart: it is gated and started again with its firmware reloaded (R357, R10). -/
def groveRestart (g cause : Nat) : Eff :=
  .all [groveStops g, setGrove g 0 none, setGrove g 1 none,
    .look fun s => .upd (.power fun w => { w with groves := w.groves.set g { s.grove g with restarting := true } }),
    raiseSev 0 (384 + 8 * g + 4) cause]

/-- A reset that takes effect after `t` ns (R410). -/
def resetIn (t : Nat) : Eff := .look fun s => .upd (.power fun w => { w with resetDue := some (s.elapsed + nsUnits t) })

/-- A restart of the commons controller (R30): the dictionary answers BUSY until it returns. -/
def controllerRestart : Eff :=
  .all [.upd (.controller true), bumpObj 0x1010 1, count (commonsItem 78),
    .look fun s => raise 919 (s.n 0x1010 1 % 256)]

/-! ## Stack messages -/

/-- The destination, source, EtherType, OUI and protocol of a module frame of the given protocol (Tables 0.3, 4.1). -/
def envelope (group protocol : Nat) (mac : Int) : Bytes :=
  beBytes 6 (0x05A73D000000 + group) ++ leBytes 6 mac.toNat ++ beBytes 2 0x88B7 ++ beBytes 3 0x04A73D ++
    beBytes 2 protocol

/-- A stack or twin message: the 8-byte twin header (type, version 1, length, epoch) and its body. -/
def twinMessage (type epoch : Nat) (body : Bytes) : Bytes :=
  beBytes 1 type ++ beBytes 1 1 ++ beBytes 2 body.length ++ beBytes 4 epoch ++ body

/-- Whether the stack function runs (R280). -/
def State.stackRuns (s : State) : Bool := s.n 0x9000 1 != 0 && (s.on 0x9001 1 0 || s.on 0x9001 1 1)

/-- Whether a stack port carries messages: the stack function runs, the port is enabled and its link is up. -/
def State.stackUsable (s : State) (port : Nat) : Bool :=
  s.stackRuns && port < 2 && s.on 0x9001 1 port && s.on 0x9002 1 port

/-- Whether a stack port with a link is out of use, because its peer reports another StackMode (R283). -/
def State.stackBarred (s : State) (port : Nat) : Bool := (s.twin.stackPorts.get? port).any StackPort.barred

/-- MACsec is configured on a port and no transmit SA is in use, or its packet numbers have run out (R252, R342). -/
def State.noSa (s : State) (p : Nat) : Bool :=
  s.on 0xA020 1 p &&
    (match s.kiln.mka.get? p with
     | some k => k.txSa.isNone || decide (0xFFFFFFFFFFFFFFFF ≤ k.txPn)
     | none => true)

/-- A port sends a frame under its transmit SA: its packet number advances, and its near and last values raise events 879
and 880 (R342). -/
def usePacketNumber (p : Nat) : Eff :=
  .look fun s =>
    match s.kiln.mka.get? p with
    | some m =>
      let pn := m.txPn + 1
      let near := pn == 0xC000000000000000
      .when (s.on 0xA020 1 p && m.txSa.isSome && decide (pn ≤ 0xFFFFFFFFFFFFFFFF))
        (.all [.upd (.kiln fun k => { k with
            mka := k.mka.set p { m with txPn := pn, sessions := m.sessions.map fun x => { x with rekey := x.rekey || near } } }),
          .when near (raise 879 p), .when (pn == 0xFFFFFFFFFFFFFFFF) (raise 880 p)])
    | none => .skip

/-- Whether a stack port's MACsec can verify what comes: it is not configured, or a receive SA is installed (Table 10.15). -/
def State.stackVerifies (s : State) (port : Nat) : Bool :=
  !s.on 0xA020 1 (256 + port) || (s.kiln.mka.get? (256 + port)).any fun k => !(k.rxSas ++ k.oldRxSas).isEmpty

/-- A message leaves on a stack port, counted in StackFramesSent. A FAILED half sends StepRecords only (Table 9.2). -/
def sendOnStack (port : Nat) (stepRecord : Bool) (e : Emission) : Eff :=
  .look fun s =>
    .when (s.stackUsable port && !s.stackBarred port && !s.noSa (256 + port) &&
        (stepRecord || !s.twinHalf || s.twinState != twFailed))
      (.all [count (twinItem 26), emit e, usePacketNumber (256 + port)])

/-- A stack message in its envelope, from the MAC address of the stack port (R279, Table 4.1). -/
def State.stackFrame (s : State) (port type : Nat) (body : Bytes) : Bytes :=
  envelope 4 4 (s.obj 0x9002 5 port) ++ twinMessage type (s.n 0x9021 2) body

/-- Sends a message whose body is given in bytes, with the twin header. -/
def sendStack (port type : Nat) (body : Bytes) : Eff :=
  .look fun s => sendOnStack port (type == 1) (.stack port (s.stackFrame port type body))

/-- The stack port that joins the twin (R280). -/
def State.twinPort (s : State) : Nat := s.n 0x9020 4

/-- The stack port toward a member or the peer: of a capacity stack port 1, or port 0 where only the closing link is up. -/
def State.portToward (s : State) : Nat := if s.twinHalf then s.twinPort else if s.stackUsable 1 then 1 else 0

/-- Whether this module is the master of a capacity stack (R282). -/
def State.stackMaster (s : State) : Bool := s.n 0x9000 1 == 1 && s.n 0x1003 0 == 0

/-- The stack port of a member toward its master: port 0, or port 1 where only the closing link is up (R280). -/
def State.portUp (s : State) : Nat := if s.stackUsable 0 then 0 else 1

/-- A position from 1 to 3 that has joined. -/
def State.memberPresent (s : State) (m : Nat) : Bool := (s.n 0x9000 2).testBit m

/-- A stack frame is discarded: StackFrameErrors and the port's Errors (R279). -/
def stackError (port : Nat) : Eff := .seq (count (twinItem 28)) (bumpObj 0x9002 4 port)

/-- A message of the twin or stack is received: counted in StackFramesReceived; one that the port's MACsec cannot verify is
discarded. -/
def stackArrives (port : Nat) (e : Eff) : Eff :=
  .look fun s => .when (s.stackUsable port && !s.stackBarred port)
    (if s.stackVerifies port then .seq (count (twinItem 27)) e else stackError port)

/-- A frame on a stack port that MACsec lets through unprotected (Table 10.15): taken where it is a good one of its protocol; any
other is discarded and counted (R279). -/
def stackOpen (port : Nat) (good : Bool) (e : Eff) : Eff :=
  .whenS (fun s => s.stackUsable port && !s.stackBarred port) (if good then .seq (count (twinItem 27)) e else stackError port)

/-! ## Twin self-test (R298) -/

/-- The standby asks for a self-test of a grove, two cycles ahead. -/
def selfTestAsk (g : Nat) : Eff :=
  .look fun s =>
    .when s.twinHalf
      (.all [.upd (.twin fun t => { t with selfTest := some ⟨g, s.cycle + 2, none, none⟩ }),
        sendStack s.twinPort 0x03 (beBytes 1 g ++ beBytes 8 (s.cycle + 2))])

/-! ## The FAULT ball (R364) -/

/-- The key of a fault instance. -/
def faultKey (cls inst : Nat) : Nat := cls * 8388608 + inst

/-- Whether FAULT is to be driven low: before S1, or a lasting instance of a class with FaultPin; it is released in
DORMANT (R421). -/
def State.faultWanted (s : State) : Bool :=
  (s.power.state == .active || s.power.state == .idle) && (s.power.stage == 0 ||
    s.faults.instances.any fun e => e.2.lasting && s.on 0xB000 4 (e.1 / 8388608))

/-- Drives or releases FAULT; a change raises event 915 with the new level. -/
def updateFaultPin : Eff :=
  .look fun s =>
    .when (s.pins.faultLow != s.faultWanted)
      (.all [.upd (.pins fun q => { q with faultLow := s.faultWanted }), emit (.faultPin s.faultWanted),
        raise 915 (if s.faultWanted then 0 else 1)])

/-! ## Fault classes -/

/-- The bucket that holds an instant, for the window of a class (R354). -/
def State.bucketAt (s : State) (cls : Nat) : Nat := (s.now / 65536) / max 1 (s.n 0xB000 2 cls / 16)

/-- The occurrences in a bucket and the 15 before it. -/
def windowCount (b : PMap Nat) (now : Nat) : Nat :=
  (b.filter fun e => now < e.1 + 16 && e.1 ≤ now).foldl (fun n e => n + e.2) 0

/-- The buckets after one more occurrence; old buckets are dropped, a bucket saturates at 65,535. -/
def bumpBucket (b : PMap Nat) (now : Nat) : PMap Nat :=
  (b.filter fun e => now < e.1 + 16).set now (min 65535 (b.getD now 0 + 1))

/-- The class and instance of a fault, packed as an event argument (R366). -/
def faultArg (cls inst : Nat) : Nat := cls % 256 + 256 * (inst % 8388608)

/-- The domain of a class's instance for action 2: a port, an engine, a grove or the commons controller. -/
def restartDomainOf (cls inst : Nat) : Eff :=
  if cls = 13 then engineRestart inst
  else if cls = 14 || cls = 15 then (if inst < 8 then groveRestart inst 1 else controllerRestart)
  else .seq (portStop inst) (portStart inst)

/-- What the action of a class does, once when an instance becomes lasting (R357). What an isolated port leaves to the grove
policies and the gPTP roles follows at the next boundary (DESIGN CHOICE, unsafe: log entry 54). -/
def actionRuns (cls inst action : Nat) : Eff :=
  match action with
  | 1 => .all [setPort inst 0 1 0, portStop inst, .upd (.power fun w => { w with followDue := true }),
      count (commonsItem 76), raiseSev 2 900 (inst % 1024 + 1024 * cls)]
  | 2 => .all [restartDomainOf cls inst, count (commonsItem 77), raiseSev 2 901 (faultArg cls inst)]
  | 3 => .when (cls != 0) (.seq (endTransmission inst)
      (.upd (.faults fun f => { f with listenOnlyPorts := inst :: f.listenOnlyPorts.erase inst })))
  | 4 => failOver
  | 5 => .all [raiseSev 2 842 inst, count (twinItem 10), selfTestAsk inst]
  | _ => .skip

/-- An instance becomes lasting (R355), and `act` is what it then does. -/
def becomeLastingBy (act : Nat → Nat → Nat → Eff) (cls inst : Nat) : Eff :=
  .look fun s =>
    let action := s.n 0xB000 3 cls
    .all [.upd (.faultInstance (faultKey cls inst) fun i =>
        { i with lasting := true, since := s.now, clearFrom := 0, actionTaken := action }),
      bumpObj 0xB001 2 cls, bumpObj 0xB001 3 cls, count (commonsItem 75),
      raiseSev 2 896 (faultArg cls inst), updateFaultPin, act cls inst action]

/-- One occurrence of a fault class; `report` raises the event that reports it, with the severity given (R354, R355), and `act` is
what an instance does that becomes lasting. -/
def faultOccurBy (act : Nat → Nat → Nat → Eff) (cls inst : Nat) (report : Nat → Eff) : Eff :=
  .look fun s =>
    let key := faultKey cls inst
    let i := s.faults.instances.getD key FaultInstance.init
    let now := s.bucketAt cls
    let buckets := bumpBucket i.buckets now
    let lasts := !i.lasting && s.n 0xB000 1 cls ≤ windowCount buckets now
    let severity := if i.lasting || lasts then 2 else 1
    .all [.upd (.faultInstance key fun j => { j with buckets := buckets }),
      count (commonsItem 74), bumpObj 0xB001 1 cls, setN 0xB001 4 s.now cls,
      report severity,
      .when (s.on 0xB000 5 cls) (raiseSev severity 899 (faultArg cls inst)),
      .when lasts (becomeLastingBy act cls inst)]

/-- Whether an action stops the port that is its instance. -/
def stopsPort (cls action : Nat) : Bool := action == 1 || (action == 2 && cls != 13 && cls != 14 && cls != 15)

/-- The action of a class. Where it takes the link of a port down, that is an occurrence of class 8 (R354), whose own action finds
the link down. -/
def faultAction (cls inst action : Nat) : Eff :=
  .look fun s => .seq (actionRuns cls inst action)
    (.when (stopsPort cls action && s.portOn inst 1 1) (faultOccurBy actionRuns 8 inst fun _ => .skip))

/-- An instance becomes lasting (R355). -/
def becomeLasting (cls inst : Nat) : Eff := becomeLastingBy faultAction cls inst

/-- One occurrence of a fault class (R354, R355). -/
def faultOccur (cls inst : Nat) (report : Nat → Eff) : Eff := faultOccurBy faultAction cls inst report

/-- A port function is switched off: a link that goes down with it is an occurrence of class 8 (R354). -/
def portHalts (p : Nat) : Eff := .look fun s => .seq (portStop p) (.when (s.portOn p 1 1) (faultOccur 8 p fun _ => .skip))

/-- An event that is itself the report of an occurrence. -/
def faultEvent (cls inst source arg : Nat) : Eff := faultOccur cls inst fun sev => raiseSev sev source arg

/-- Whether a port is listen-only by action 3 of class 9 or 10, apart from the class given (R357). -/
def State.listensBy (s : State) (but p : Nat) : Bool :=
  [9, 10].any fun c => c != but && (s.faults.instances.get? (faultKey c p)).any fun i => i.lasting && i.actionTaken == 3

/-- A lasting instance clears (R355): event 898 with severity 3; the action is not undone, but a port made listen-only
by action 3 sends again, unless the other class keeps it so (R357). -/
def faultClear (cls inst : Nat) : Eff :=
  .look fun s => .all [.upd (.faultInstance (faultKey cls inst) fun i => { i with lasting := false, buckets := [], clearFrom := 0 }),
    setN 0xB001 2 (s.n 0xB001 2 cls - 1) cls,
    raiseSev 3 898 (faultArg cls inst), updateFaultPin,
    .when ((cls == 9 || cls == 10) && !s.listensBy cls inst)
      (.upd (.faults fun f => { f with listenOnlyPorts := f.listenOnlyPorts.erase inst }))]

/-- The lasting instances of a class that clear at a bucket boundary (R355, R356). Class 0 clears when R145 releases
the node, class 22 only at module reset. -/
def State.clearable (s : State) (cls : Nat) : List Nat :=
  if cls = 0 || cls = 22 then []
  else
    let now := s.bucketAt cls
    (s.faults.instances.filter fun e =>
      e.1 / 8388608 == cls && e.2.lasting && windowCount e.2.buckets now == 0 && e.2.clearFrom ≤ s.now).map
        fun e => e.1 % 8388608

/-- The effect of a bucket boundary of a class. -/
def bucketBoundary (cls : Nat) : Eff :=
  .look fun s => .forEach (s.clearable cls) fun inst => faultClear cls inst

/-- A commit has changed W of a class (R356): instances that are lasting clear a full new window later. -/
def windowChanged (cls : Nat) : Eff :=
  .look fun s => .forEach ((s.faults.instances.filter fun e => e.1 / 8388608 == cls).map Prod.fst) fun k =>
    .upd (.faultInstance k fun i => { i with
      buckets := [], clearFrom := if i.lasting then s.now + nsUnits (s.n 0xB000 2 cls) else 0 })

/-! ## Latency histograms (R386, R387) -/

/-- The bin of a value `v` of a histogram with Base `base` ns and unit 2^step ns (R387). -/
def histBin (base step v : Nat) : Nat :=
  if v < base then 0 else min 31 (Nat.log2 ((v - base) / 2 ^ step + 1) + 1)

/-- Enters a sample of `v` ns in every enabled histogram of a kind and instance. -/
def sample (kind inst v : Nat) : Eff :=
  .look fun s => .forEach ((s.enabledRows 0xC010 1).filter fun h => s.n 0xC010 2 h == kind && s.n 0xC010 3 h == inst) fun h =>
    let bin := histBin (s.n 0xC010 4 h) (s.n 0xC010 5 h) v
    .all [count (histItem h bin), count (readerItem 5), .when (bin == 31) (count (readerItem 6)),
      bumpObj 0xC011 1 h, setN 0xC011 2 (min v 4294967295) h]

/-- Enters a sample of the time from `start` to now. -/
def sampleSince (kind inst start : Nat) : Eff := .look fun s => sample kind inst ((s.now - start) / 65536)

/-- The samples of a frame whose first byte reaches the MAC point now: its class queue, its stream, its host ring. -/
def sampleFrame (p c : Nat) (f : QueuedFrame) : Eff :=
  .look fun s => .all [
    sampleSince 1 ((8 * p + c)) f.enqueued,
    match f.origin with
    | .relayed _ _ => .when (f.handle < 8192) (sampleSince 2 f.handle f.received)
    | .host r i => .ofOption ((s.host.tx.get? r).bind fun x => x.frames.find? fun g => g.ident == i) fun g =>
        sampleSince 3 r g.usedAt
    | .module | .ptp _ | .kiln | .mkpdu _ => .skip]

/-! ## Wake from IDLE (R395, R398) -/

/-- A wake source becomes true in IDLE: recorded with its cause, and the PLLs start. -/
def idleWake (cause port : Nat) : Eff :=
  .whenS (fun s => s.power.state == .idle && !s.power.wakePending)
    (.look fun s => .seq (.upd (.wake ⟨s.now, cause, port⟩)) (.upd (.power fun w => { w with wakePending := true })))

/-! ## Peaks for the threshold counters (R388) -/

/-- The highest occupancy that a cycle has seen, by 65,536 x kind + index. -/
def notePeak (key v : Nat) : Eff :=
  .upd (.traffic fun t => { t with peaks := t.peaks.set key (max v (t.peaks.getD key 0)) })

/-- Peaks of the occupancies of Table 12.7, by 65,536 x quantity + instance; a class queue by its number. -/
def peakKey (quantity inst : Nat) : Nat := if quantity = 1 then inst else 65536 * quantity + inst

end Sys2Proof.Machine
end

