-- ==== Sys2Proof/Machine/Clock.lean ====
section
/-! DEFINITION. The time base (chapter 3): the local clock's state machine, its servo, steps and slews, PPS and the
time-event pins. gPTP messages are in `Gptp.lean`, segment views in `Segment.lean`, stack alignment in `Stack.lean`. -/

namespace Sys2Proof.Machine

/-! ## Ring state, as far as the clock needs it -/

def ringDisabled : Nat := 0
def ringListen : Nat := 1
def ringSapling : Nat := 2
def ringFollower : Nat := 3
def ringMaster : Nat := 4

/-- The ring state (0x4001:01). -/
def State.ringState (s : State) : Nat := s.n 0x4001 1

/-- Changes the ring state; each change raises event 448. -/
def setRingState (new : Nat) : Eff :=
  .whenS (fun s => s.ringState != new) (.seq (setN 0x4001 1 new) (raise 448))

/-- The functions of S4 run: the module is ACTIVE and S4 has begun (R394, R408). -/
def State.operating (s : State) : Bool :=
  s.power.state == .active && 4 ≤ s.power.stage

/-- A meaning of the running functions: nothing happens while they do not run (DEDUCED, unsafe: log entry 15). -/
def operating (e : Eff) : Eff := .whenS State.operating e

/-! ## Sources and states -/

def ckFreeRun : Nat := 0
def ckAcquiring : Nat := 1
def ckLocked : Nat := 2
def ckHoldover : Nat := 3

/-- The clock state (0x3001:01). -/
def State.clockState (s : State) : Nat := s.n 0x3001 1

/-- A member of a capacity stack other than its master (R62). -/
def State.stackMember (s : State) : Bool := s.n 0x9000 1 == 1 && s.n 0x1003 0 != 0

/-- The source that applies to the module (R62, Table 3.3). -/
def State.timeSource (s : State) : Nat :=
  if s.stackMember then 4
  else if s.ringState == ringMaster then s.n 0x3101 0
  else s.n 0x3100 0

/-- A module that never steps its clock (R64): a ring master with other nodes admitted, a stack master with members. -/
def State.neverSteps (s : State) : Bool :=
  (s.ringState == ringMaster && s.n 0x4001 9 / 2 != 0) ||
  (s.n 0x9000 1 == 1 && s.n 0x1003 0 == 0 && s.n 0x9000 2 / 2 != 0)

/-- ActiveSource (0x3001:02): the source followed, 0 while free-running. -/
def showSource : Eff := .look fun s => setN 0x3001 2 (if s.clockState = ckFreeRun then 0 else s.timeSource)

/-- Changes the clock state: event 512, StateSince, and the source followed. -/
def setClockState (new : Nat) : Eff :=
  .seq (.whenS (fun s => s.clockState != new) (.look fun s => .all [setN 0x3001 1 new, setN 0x3001 5 s.now, raise 512]))
    showSource

/-- Updates the servo. -/
def servoSet (f : Servo → Servo) : Eff := .upd (.time fun t => { t with servo := f t.servo })

/-- The limit of the rate correction (R57): ±219,902,325 units of 2^-40. -/
def rateLimit : Int := 219902325

/-- 2^40. -/
def two40 : Int := 1099511627776

/-- Sets the rate correction a, within its range. -/
def setRate (a : Int) : Eff := setObj 0x3001 4 (clampInt (-rateLimit) rateLimit a)

/-- An instant of the local clock as it reads after a step of `moved`. -/
def stepped (moved : Int) (t : Nat) : Nat := ((t : Int) + moved).toNat

/-- The first pulse of a train that is still in the future: none where there is none left (R80). -/
def nextPulse (now start period : Nat) : Option Nat :=
  if now < start then some 0
  else if period = 0 then none
  else some ((now - start) / period + 1)

/-- The period of a TEV pin's pulses: 0 in mode 4, which gives one. -/
def State.pulsePeriod (s : State) (pin : Nat) : Nat := if s.n 0x3610 1 pin = 5 then nsUnits (s.n 0x3610 3 pin) else 0

/-- Arms a TEV pin's pulses: the first one still in the future (R80). -/
def armPulses (pin : Nat) : Eff :=
  .look fun s =>
    let mode := s.n 0x3610 1 pin
    match (if mode = 4 || mode = 5 then nextPulse s.now (s.n 0x3610 2 pin) (s.pulsePeriod pin) else none) with
    | some i => .upd (.time fun x => { x with tevIndex := x.tevIndex.set pin i })
    | none => .upd (.time fun x => { x with tevIndex := x.tevIndex.erase pin })

/-- What the local clock has timed follows a step (R78 to R80): the last edges keep their distance, and armed pulses are
those of the stepped clock (DESIGN CHOICE, unsafe: log entry 39). -/
def pinsFollowStep (moved : Int) : Eff :=
  .seq (.upd (.time fun x => { x with
      lastPpsOut := x.lastPpsOut.map (stepped moved), lastPpsIn := x.lastPpsIn.map (stepped moved),
      lastCapture := x.lastCapture.map fun e => (e.1, stepped moved e.2) }))
    (.look fun s => .forEach (s.time.tevIndex.map Prod.fst) armPulses)

/-- An instant of the local clock after a step of the clock. -/
def shifted (moved : Int) (t : Nat) : Nat := ((t : Int) + moved).toNat

/-- Steps the clock by `delta` (2^-16 ns): event 515, the segment views do not step (R130), the cycle counter follows the
clock (R84), and a follower becomes a sapling (Table 4.7). -/
def stepClock (delta : Int) : Eff :=
  .look fun s =>
    let t := ((s.now : Int) + delta).toNat
    let moved : Int := (t : Int) - s.now
    .all [.upd (.setClock t),
      .forEach s.segments fun e => .upd (.segment e.1 fun g => { g with
          offset48 := g.offset48 - moved * 4294967296
          timerEnd := shifted moved g.timerEnd
          plca := { g.plca with expires := shifted moved g.plca.expires }
          leaving := g.leaving.map fun e => (e.1, { e.2 with endsAt := shifted moved e.2.endsAt }) }),
      .upd (.traffic fun t => { t with macs := t.macs.map fun m =>
        (m.1, { m.2 with startedAt := shifted moved m.2.startedAt, backoffEnd := shifted moved m.2.backoffEnd }) }),
      .upd (.time fun t => { t with gptp := t.gptp.map fun g =>
        (g.1, { g.2 with sentAt := g.2.sentAt.map (shifted moved)
                         lastResponse := g.2.lastResponse.map fun r => (r.1, shifted moved r.2) }) }),
      setN 0x4001 6 (t / s.cycleUnits), bumpObj 0x3001 6,
      servoSet (fun v => { v with prev := none, slews := [(t, v.sigma)], slewAt := stepped moved v.slewAt }), pinsFollowStep moved, raise 515,
      .whenS (fun s => s.ringState == ringFollower) (setRingState ringSapling)]

/-! ## The servo (R69) -/

/-- What sigma adds to the local clock in an interval of local time: sigma x interval x 2^-40. -/
def slewIn (sigma : Int) (interval : Int) : Int := divFloor (sigma * interval) two40

/-- What the slew terms, newest first, have added to the local clock between two of its instants. -/
def slewBetween : List (Nat × Int) → Nat → Nat → Int
  | [], _, _ => 0
  | (start, sigma) :: rest, t1, t2 => slewIn sigma (t2 - max start t1 : Nat) + slewBetween rest t1 (min t2 start)

/-- The slew term takes a value from now on; `adjust` is what TimeAdjust still has to slew. -/
def setSlew (sigma adjust : Int) : Eff :=
  .look fun s => servoSet fun w => { w with
    sigma := sigma, adjust := adjust, slewAt := s.now, slews := if sigma = w.sigma then w.slews else ((s.now, sigma) :: w.slews).take 8 }

/-- The mean of a list of rate estimates; `a` itself where none is held. -/
def meanRate (a : Int) (l : List Int) : Int :=
  if l.isEmpty then a else divFloor (l.foldl (· + ·) 0) l.length

/-- MaxSlew in 2^-40 (0x3110:06 is in parts per billion). -/
def State.maxSlew (s : State) : Int := divFloor (s.obj 0x3110 6 * two40) 1000000000

/-- The slew term that moves the clock by -offset over one cycle length. -/
def State.slewWanted (s : State) (offset : Int) : Int := divFloor (-offset * two40) s.cycleUnits

/-- That term, limited to MaxSlew. -/
def State.slewFor (s : State) (offset : Int) : Int := clampInt (-s.maxSlew) s.maxSlew (s.slewWanted offset)

/-- The rate deviation measured between two measurements, in 2^-40. -/
def rateBetween (tRx m prevT prevM : Nat) (slew : Int) : Int :=
  divFloor (((tRx : Int) - prevT - slew - ((m : Int) - prevM)) * two40) ((m : Int) - prevM)

/-- One step of the servo: rate when there is a usable previous measurement, then the slew term. -/
def servoStep (tRx m : Nat) (census : Bool) : Eff :=
  .look fun s =>
    let v := s.time.servo
    let a := s.obj 0x3001 4
    let offset : Int := (tRx : Int) - m
    let withRate : Eff := match v.prev with
      | some (pt, pm) =>
        if census && pm < m then
          let rr := rateBetween tRx m pt pm (slewBetween v.slews pt tRx)
          let n := v.rrCount + 1
          let full := s.n 0x3110 7 ≤ n
          .seq (servoSet fun w => { w with estimates := ((a - rr) :: w.estimates).take 64,
                                           rrSum := if full then 0 else w.rrSum + rr,
                                           rrCount := if full then 0 else n })
            (.when full (setRate (a - divFloor (v.rrSum + rr) n)))
        else .skip
      | none => .skip
    .all [withRate, setSlew (s.slewFor offset) 0, servoSet fun w => { w with prev := some (tRx, m) }]

/-- A measurement taken without correcting: it is the reference for the next rate. -/
def servoNote (tRx m : Nat) : Eff := servoSet fun w => { w with prev := some (tRx, m) }

/-- A valid offset measurement of the source in force (Table 3.4): local time `tRx`, source time `m`. `census` tells that
the pair with the previous measurement gives a rate. -/
def measured (tRx m : Nat) (census : Bool) : Eff :=
  .look fun s =>
    let offset : Int := (tRx : Int) - m
    let size := absI offset
    let lockAt : Int := nsUnits (s.n 0x3110 3)
    let lossAt : Int := nsUnits (s.n 0x3110 4)
    let stepAt : Int := nsUnits (s.n 0x3110 5)
    let v := s.time.servo
    .all [setObj 0x3001 3 offset, servoSet (fun w => { w with sourceSeen := true, missed := 0 }),
      if s.clockState = ckFreeRun then
         .all [servoSet (fun w => { w with lockRun := 0, overRun := 0, rrSum := 0, rrCount := 0 }), servoNote tRx m,
           setClockState ckAcquiring]
       else if s.clockState = ckAcquiring then
         if stepAt < size && !s.neverSteps then
           servoSet fun w => { w with pendingStep := some (-offset), lockRun := 0, prev := none }
         else
           let run := if size ≤ lockAt then v.lockRun + 1 else 0
           .all [servoStep tRx m census, servoSet (fun w => { w with lockRun := run, overRun := 0, pendingStep := none }),
             .when (s.n 0x3110 2 ≤ run) (setClockState ckLocked)]
       else if s.clockState = ckLocked then
         let beyond := if lossAt < size then v.overRun + 1 else 0
         .all [servoStep tRx m census, servoSet (fun w => { w with overRun := if 3 ≤ beyond then 0 else beyond, lockRun := 0 }),
           .when (3 ≤ beyond) (.seq (faultEvent 12 0 517 0) (setClockState ckAcquiring))]
       else
         .all [servoStep tRx m census, servoSet (fun w => { w with lockRun := 0, overRun := 0 }), raise 514,
           setClockState (if size ≤ lockAt then ckLocked else ckAcquiring)]]

/-- Entry into HOLDOVER: a is frozen at the mean of the last RateFilterCycles estimates (R69). -/
def freezeRate : Eff :=
  .look fun s => setRate (meanRate (s.obj 0x3001 4) (s.time.servo.estimates.take (s.n 0x3110 7)))

/-- The measurements so far no longer count: when the source is lost or another one, or the clock has been stepped, there is no
previous measurement (DESIGN CHOICE, unsafe: log entry 61). -/
def forgetSource : Eff := servoSet fun w => { w with prev := none, lockRun := 0, overRun := 0, pendingStep := none }

/-- Entry into HOLDOVER: the rate is frozen and nothing slews the clock any more (R66, Table 3.4). -/
def enterHoldover : Eff := .all [freezeRate, setSlew 0 0, forgetSource]

/-- Whether SourceLossCycles cycles have passed without a valid measurement (R65). -/
def State.sourceGone (s : State) : Bool := s.n 0x3110 1 ≤ s.time.servo.missed

/-- SourceLossCycles without a valid measurement (Table 3.4, R71). A stack member in ACQUIRING: DEDUCED, unsafe, log entry 12. -/
def sourceLost : Eff :=
  .look fun s =>
    if s.sourceGone && (s.clockState = ckAcquiring || s.clockState = ckLocked) then
      if s.timeSource = 4 then
        .all [enterHoldover, faultEvent 12 0 513 0, raise 535, setClockState ckHoldover]
      else if s.clockState = ckLocked then
        .all [enterHoldover, faultEvent 12 0 513 0, setClockState ckHoldover]
      else .all [forgetSource, faultEvent 12 0 513 0, setClockState ckFreeRun]
    else .skip

/-- A cycle boundary counts the cycles without a valid measurement (R65). Sources 2 and 3 are valid from a measurement to
their own time limit, the others cycle by cycle (Table 3.3). -/
def countSource : Eff :=
  .look fun s => servoSet fun w => { w with
    missed := if w.sourceSeen then 0 else w.missed + 1
    sourceSeen := w.sourceSeen && (s.timeSource == 2 || s.timeSource == 3) }

/-- The time limit of source 2 or 3 has passed without a measurement (Table 3.3). -/
def sourceInvalid (source : Nat) : Eff :=
  .look fun s => .when (s.timeSource == source) (servoSet fun w => { w with sourceSeen := false })

/-- HOLDOVER has lasted HoldoverLimit. -/
def holdoverEnds : Eff :=
  .whenS (fun s => s.clockState == ckHoldover && s.n 0x3001 5 + nsUnits (s.n 0x3110 8) ≤ s.now)
    (.seq (raise 516) (setClockState ckFreeRun))

/-- The reference clock faults (any state, Table 3.4). -/
def referenceFails : Eff :=
  .all [raise 519, .whenS (fun s => s.clockState != ckHoldover) enterHoldover, setClockState ckHoldover]

/-- Role of a port in the gPTP instance (R76): 0 disabled, 1 master, 2 slave (Table 3.11). -/
def State.gptpRole (s : State) (p : Nat) : Nat :=
  if !s.on 0x3500 1 then 0
  else if s.timeSource == 2 && s.n 0x3102 0 == p && !isSG p then 2
  else if !isBB p && maskBit (s.obj 0x3501 0) p then 1
  else 0

/-- A Sync is expected on the slave port from now on (R76). -/
def awaitSync : Eff := .look fun s => .upd (.time fun t => { t with syncAwaited := some s.elapsed })

/-- A port has left the gPTP instance, or its link: its peer is no longer asCapable and its exchange ends. -/
def leaveGptp (p : Nat) : Eff :=
  .seq (setAsCapable p false)
    (gptpSet p fun g => { g with waiting := false, sentAt := none, lost := 0, lastResponse := none })

/-- Shows the role of a port; a change raises event 531, and a slave port expects a Sync. -/
def showRole (p : Nat) : Eff :=
  .look fun s => .when (s.n 0x3502 1 p != s.gptpRole p)
    (.all [setN 0x3502 1 (s.gptpRole p) p, raise 531, .when (s.gptpRole p == 2) awaitSync,
      .when (s.gptpRole p == 0) (leaveGptp p)])

/-- Shows the roles of all ports. -/
def showRoles : Eff := .forEach (List.range 256) showRole

/-- The source in force has changed, by a commit (R65) or by a change between master and follower (R63), or the time base starts;
the source port's role follows it. With source 0 the clock is in FREE_RUN, after a wake from DORMANT too (DESIGN CHOICE,
unsafe: log entry 61). -/
def sourceChanged : Eff :=
  .look fun s => .all [
    servoSet fun w => { w with
      lockRun := 0, overRun := 0, prev := none, rrSum := 0, rrCount := 0, pendingStep := none, sourceSeen := false, missed := 0 },
    setClockState (if s.timeSource = 0 then ckFreeRun else ckAcquiring), showRole (s.n 0x3102 0)]

/-- A follower that does not step is pulled by slew; R64's pending automatic step at the local cycle boundary. -/
def automaticStepAct : Eff :=
  .look fun s =>
    match s.time.servo.pendingStep with
    | some d =>
      .seq (servoSet fun w => { w with pendingStep := none })
        (.when (s.clockState == ckAcquiring && !s.neverSteps) (stepClock d))
    | none => .skip

/-- One cycle length has passed since the slew term was set (R69): it ends, or TimeAdjust goes on with what remains. A term
that MaxSlew has not clamped has moved the clock by all of it. -/
def slewEnds : Eff :=
  .look fun s => .when (decide (s.time.servo.slewAt + s.cycleUnits ≤ s.now)) <|
    let v := s.time.servo
    let left := if v.adjust = 0 || v.sigma = s.slewWanted (-v.adjust) then 0 else v.adjust - slewIn v.sigma s.cycleUnits
    setSlew (s.slewFor (-left)) left

/-- Whether TimeStep may be written (0x3002:00): FREE_RUN with source 0, and not under R64. -/
def State.timeStepAllowed (s : State) : Bool := s.clockState == ckFreeRun && s.timeSource == 0 && !s.neverSteps

/-- TimeStep (R64, commanded step). -/
def timeStepAct (t : Nat) : Eff := .look fun s => stepClock ((t : Int) - s.now)

/-- Whether TimeAdjust may be written (0x3003:00): FREE_RUN with source 0. -/
def State.timeAdjustAllowed (s : State) : Bool := s.clockState == ckFreeRun && s.timeSource == 0

/-- TimeAdjust: an offset of the clock, slewed at no more than MaxSlew (R57). -/
def timeAdjustAct (offset : Int) : Eff :=
  .look fun s => setSlew (s.slewFor (-offset)) offset

/-! ## PPS and time-event pins (R78 to R80) -/

/-- The second boundary nearest to an instant (DEDUCED, unsafe: log entry 14). -/
def nearestSecond (t : Nat) : Nat := (t + secUnits / 2) / secUnits

/-- An edge on PPSIN. -/
def ppsInEdgeAct (falling : Bool) (stamp : Nat) : Eff :=
  .look fun s =>
    let t := ((stamp : Int) + s.obj 0x3601 3).toNat
    let last := if s.time.ppsEdges = 0 then none else s.time.lastPpsIn
    let early := last.any fun l => decide (t < l + secUnits - nsUnits 1000000)
    let inTime := last.any fun l => decide (t ≤ l + secUnits + nsUnits 1000000)
    if !s.on 0x3601 1 || s.on 0x3601 2 != falling then .skip
    else if early then raise 529
    else
      let second := s.time.ppsArmed.getD (nearestSecond t)
      .all [setN 0x3601 4 t,
        .upd (.time fun x => { x with
          ppsEdges := x.ppsEdges + 1, ppsArmed := x.ppsArmed.map (· + 1), lastPpsIn := some t }),
        .when (inTime && s.timeSource == 3) (measured t (second * secUnits) true)]

/-- PpsInSeconds: the seconds of the next edge. -/
def ppsInSecondsAct (seconds : Nat) : Eff := .upd (.time fun x => { x with ppsArmed := some seconds })

/-- No PPSIN edge within 1 s + 1 ms of the last one. -/
def ppsInMissingAct : Eff :=
  .whenS (fun s => s.on 0x3601 1 && s.time.ppsEdges != 0 &&
      s.time.lastPpsIn.all fun t => decide (t + secUnits + nsUnits 1000000 ≤ s.now))
    (.all [.upd (.time fun x => { x with ppsEdges := 0 }), raise 528, sourceInvalid 3])

/-- A second boundary of the local clock: PPSOUT rises, never twice within 500 ms (R78). -/
def ppsOutEdgeAct : Eff :=
  .look fun s =>
    let edge := ((nearestSecond s.now * secUnits : Nat) + s.obj 0x3600 3).toNat
    let soon := match s.time.lastPpsOut with
      | some l => decide (edge < l + nsUnits 500000000)
      | none => false
    .when (s.on 0x3600 1 && !soon)
      (.seq (.upd (.time fun x => { x with lastPpsOut := some edge })) (emit (.pulse 0 edge (s.n 0x3600 2))))

/-- An edge on a TEV pin in a capture mode (Table 3.9). -/
def captureAct (pin : Nat) (falling : Bool) (stamp : Nat) : Eff :=
  .look fun s =>
    let mode := s.n 0x3610 1 pin
    let wanted := mode == 3 || (mode == 1 && !falling) || (mode == 2 && falling)
    let t := ((stamp : Int) + s.obj 0x3610 5 pin).toNat
    if !(pin < 8) || !wanted then .skip
    else if (s.time.lastCapture.get? pin).any fun l => decide (t < l + nsUnits 40) then bumpObj 0x3611 3 pin
    else .all [setN 0x3611 1 t pin, bumpObj 0x3611 2 pin,
      .upd (.time fun x => { x with lastCapture := x.lastCapture.set pin t }), raise (520 + pin)]

/-- The next pulse of a TEV pin in mode 4 or 5. -/
def pulseAct (pin : Nat) : Eff :=
  .look fun s =>
    match s.time.tevIndex.get? pin with
    | some i =>
      let period := s.pulsePeriod pin
      let edge := ((s.n 0x3610 2 pin + i * period : Nat) + s.obj 0x3610 5 pin).toNat
      -- not before the tick of 2 ns in which the edge lies
      .when (decide (edge < s.now + 131072)) (.seq (emit (.pulse (pin + 1) edge (s.n 0x3610 4 pin)))
        (.upd (.time fun x => { x with
            tevIndex :=
              if period = 0 then x.tevIndex.erase pin else x.tevIndex.set pin (i + 1) })))
    | none => .skip

/-! ## Meanings -/

/-- AUTOMATIC_STEP (R64). -/
def execAutomaticStep (s : State) : Host.Outcome State Fault Refusal := done automaticStepAct s
/-- SLEW_END (R69). -/
def execSlewEnd (s : State) : Host.Outcome State Fault Refusal := done slewEnds s
/-- SOURCE_LOSS (R65, R71). -/
def execSourceLoss (s : State) : Host.Outcome State Fault Refusal := done sourceLost s
/-- HOLDOVER_LIMIT (R65). -/
def execHoldoverLimit (s : State) : Host.Outcome State Fault Refusal := done holdoverEnds s
/-- REFERENCE_FAULT (R65). -/
def execReferenceFault (s : State) : Host.Outcome State Fault Refusal := done referenceFails s
/-- PPS_IN_EDGE (R79). -/
def execPpsInEdge (falling : Bool) (stamp : Nat) (s : State) : Host.Outcome State Fault Refusal :=
  done (ppsInEdgeAct falling stamp) s
/-- PPS_IN_MISSING (R79). -/
def execPpsInMissing (s : State) : Host.Outcome State Fault Refusal := done ppsInMissingAct s
/-- PPS_OUT_EDGE (R78). -/
def execPpsOutEdge (s : State) : Host.Outcome State Fault Refusal := done ppsOutEdgeAct s
/-- TIME_EVENT_CAPTURE (R80). -/
def execTimeEventCapture (pin : Nat) (falling : Bool) (stamp : Nat) (s : State) :
    Host.Outcome State Fault Refusal := done (captureAct pin falling stamp) s
/-- TIME_EVENT_PULSE (R80). -/
def execTimeEventPulse (pin : Nat) (s : State) : Host.Outcome State Fault Refusal := done (pulseAct pin) s

end Sys2Proof.Machine
end

