-- ==== Sys2Proof/Machine/RingFrame.lean ====
section
/-! DEFINITION. Round frames on the wire (chapter 4): header, sections, presence sections and timing records, what a
schedule mode places where, and the Wheel's work on a copy that arrives (R94 to R99) or is launched (R86, R103). -/

namespace Sys2Proof.Machine

/-! ## Schedule modes -/

/-- A section of a schedule mode (0x4120). -/
structure SecRow where
  row : Nat
  id : Nat
  round : Nat
  owner : Nat
  offset : Nat
  length : Nat
  early : Bool
deriving DecidableEq, Repr

/-- The two fixed rows of every mode (Table 4.4). -/
def fixedSections : List SecRow :=
  [⟨0, 0xF00, 0, 0, 32, 16, false⟩, ⟨1, 0xF40, 0, 0, 56, 24, false⟩]

/-- The used rows of a mode, in row order: a row whose SectionId is not listed is unused (0xFFFF). -/
def State.sections (s : State) (m : Nat) : List SecRow :=
  fixedSections ++
    (s.od.dict.filterMap fun e =>
      let r := e.1.row
      if e.1.idx == 0x4120 && e.1.sub == 1 && r / 1024 == m && 2 ≤ r % 1024 then
        some ⟨r % 1024, e.2.toNat, s.n 0x4120 2 r, s.n 0x4120 3 r, s.n 0x4120 4 r, s.n 0x4120 5 r, s.on 0x4120 6 r⟩
      else none)

/-- The section of an identifier in a mode. -/
def State.sectionOf (s : State) (m id : Nat) : Option SecRow := (s.sections m).find? fun x => x.id == id

/-- Capacity of a mode (R92): the smallest k without presence section or timing record. -/
def State.capacity (s : State) (m : Nat) : Nat :=
  let ids := (s.sections m).map SecRow.id
  ((List.range 65).find? fun k => !(ids.contains (0xF40 + k) && ids.contains (0xFC0 + k))).getD 64

/-- A loaded mode (R117). -/
def State.loaded (s : State) (m : Nat) : Bool := s.on 0x4110 1 (8 * m)

/-- The bytes of a value in the encoding of Table 2.10, without padding. -/
def beValue (ty : Ty) (v : Int) : Bytes :=
  match ty with
  | .time => timeBytes true v.toNat
  | .octets n => leBytes n v.toNat
  | _ => beBytes ty.size (unsignedOf ty.size v)

/-- The encoded cells of a row of a TABLE. -/
def State.rowBytes (s : State) (idx row : Nat) : Bytes :=
  match objectAt idx with
  | some o => ((List.range o.cells.length).flatMap fun i =>
      match o.cells[i]? with
      | some c => beValue c.ty (s.obj idx (i + 1) row)
      | none => [])
  | none => []

/-- The first 32 bits of SHAKE256 over a message. -/
def shake32 (m : Bytes) : Nat := ofBe ((List.range 4).map fun i => Config.shake256Byte m i)

/-- The ModeDigest of a mode (R117). -/
def State.modeDigest (s : State) (m : Nat) : Nat :=
  shake32 (beBytes 8 s.cycleLength ++ (List.range 8).flatMap (fun r => s.rowBytes 0x4110 (8 * m + r)) ++
    (List.range 1024).flatMap (fun i => s.rowBytes 0x4120 (1024 * m + i)))

/-- The digest that 0x4021 shows of a mode: 0 where the mode is not loaded (R117). -/
def State.shownDigest (s : State) (m : Nat) : Nat := if s.loaded m then s.modeDigest m else 0

/-! ## Header and sections -/

/-- The 32 header bytes (Table 4.2). -/
def RfHeader.encode (h : RfHeader) : Bytes :=
  beBytes 1 (h.version % 8 * 32 + h.round % 8 * 4 + h.direction % 2 * 2 + (if h.wrapped then 1 else 0)) ++
  beBytes 1 (h.leaseState % 4 * 64 + h.mode % 8 * 8 + h.targetMode % 8) ++
  beBytes 1 ((if h.modeRequest then 128 else 0) + h.census % 128) ++
  beBytes 6 h.cycleLow ++ beBytes 1 h.targetCycleLow ++ beBytes 8 h.ackMask ++ beBytes 3 h.masterHash ++
  beBytes 4 h.leaseEpoch ++
  beBytes 7 (h.originOffset % 134217728 * 536870912 + (h.correction % 536870912).toNat)

/-- The header read from the first 32 body bytes. -/
def RfHeader.decode (b : Bytes) : RfHeader :=
  let b0 := beAt b 0 1
  let b1 := beAt b 1 1
  let b2 := beAt b 2 1
  let last := beAt b 25 7
  let c := last % 536870912
  { version := b0 / 32, round := b0 / 4 % 8, direction := b0 / 2 % 2, wrapped := b0 % 2 == 1, leaseState := b1 / 64,
    mode := b1 / 8 % 8, targetMode := b1 % 8, modeRequest := 128 ≤ b2, census := b2 % 128, cycleLow := beAt b 3 6,
    targetCycleLow := beAt b 9 1, ackMask := beAt b 10 8, masterHash := beAt b 18 3, leaseEpoch := beAt b 21 4,
    originOffset := last / 536870912, correction := if c < 268435456 then (c : Int) else (c : Int) - 536870912 }

/-- NameHash (R90). -/
def nameHash (name : Nat) : Nat := crc32 (beBytes 8 name) % 16777216

/-- The first six bytes of a section header (Table 4.3). -/
def sectionHead (hash id status age : Nat) : Bytes :=
  beBytes 3 hash ++ beBytes 2 (id % 4096 * 16 + status % 4 * 4) ++ beBytes 1 age

/-- The Check of a section (R91). -/
def sectionCheck (cycle : Nat) (head payload : Bytes) : Nat := crc16 (beBytes 4 cycle ++ head ++ payload)

/-- A whole section as the Wheel writes it. -/
def sectionBytes (cycle hash id status age : Nat) (payload : Bytes) : Bytes :=
  let head := sectionHead hash id status age
  head ++ beBytes 2 (sectionCheck cycle head payload) ++ payload

/-- A section read from a body at the place the mode gives it. -/
def readSection (cycle : Nat) (body : Bytes) (r : SecRow) : SectionCopy :=
  let head := slice body r.offset 6
  let payload := slice body (r.offset + 8) r.length
  let word := beAt head 3 2
  { id := r.id, hash := beAt head 0 3, status := word / 4 % 4, age := beAt head 5 1,
    checkOk := beAt body (r.offset + 6) 2 == sectionCheck cycle head payload && word / 4 % 4 != 3 && word / 16 == r.id,
    payload := payload }

/-- Whether a frame is of a module protocol: EtherType 0x88B7, OUI 04-A7-3D and the protocol ID (Table 0.3). -/
def isProtocol (data : Bytes) (protocol : Nat) : Bool :=
  beAt data 12 2 == 0x88B7 && beAt data 14 3 == 0x04A73D && beAt data 17 2 == protocol

/-- The body of such a frame. -/
def protocolBody (data : Bytes) : Bytes := data.drop 19

/-! ## What this node writes -/

/-- The lanes. -/
def State.westLane (s : State) : Nat := s.n 0x4000 2
def State.eastLane (s : State) : Nat := s.n 0x4000 3
def State.isLane (s : State) (lane : Nat) : Bool := lane == s.westLane || lane == s.eastLane
def State.nodeName (s : State) : Nat := s.n 0x2001 0

/-- Committed views, and what an absent one reads as. -/
def View.none : View :=
  { value := [], age := 255, hash := 0, status := 0, everHeld := false, serial := 0, since := 0 }
def State.view (s : State) (id : Nat) : View := s.ring.views.getD id View.none

/-- RingSize, from the committed census section (0x4001:03). -/
def State.ringSize (s : State) : Nat := s.n 0x4001 3

/-- The own position (0x4001:02). -/
def State.position (s : State) : Nat := s.n 0x4001 2

/-- The filtered delay of a lane's link, 0 until there is one (R95). -/
def State.laneDelay (s : State) (west : Bool) : Int :=
  if west then (if s.ring.west.delayValid then s.obj 0x3200 1 else 0)
  else (if s.ring.east.delayValid then s.obj 0x3200 2 else 0)

/-- Residence of a copy in this module from receive to transmit reference plane (R25, R29, R59, R95): 26 Wheel cells
(20.8 ns), receive PCS and SerDes (16.0 ns), transmit PCS and SerDes (12.0 ns), in 2^-16 ns, and the external PHY
latencies of 0x3201 of the two lanes. -/
def State.residence (s : State) (inLane outLane : Nat) : Int :=
  3198157 + s.obj 0x3201 2 (inLane / 32) + s.obj 0x3201 1 (outLane / 32)

/-- The nearest multiple of 2^-8 ns, in 2^-8 ns, of a value in 2^-16 ns. -/
def nearest256 (x : Int) : Int := divFloor (x + 128) 256

/-- A request that a header carries, as this node sees it. -/
def RfHeader.requested (h : RfHeader) : Option Nat := if h.modeRequest then some h.targetMode else none

/-- Whether a lane holds an installed receive SA and transmit SA (R347). -/
def State.hasSas (s : State) (p : Nat) : Bool :=
  match s.kiln.mka.get? p with
  | some k => k.txSa.isSome && !(k.rxSas ++ k.oldRxSas).isEmpty
  | none => false

/-- The restored flag of the west or the east lane: where MACsec runs, only while the lane holds its SAs (R115, R347). -/
def State.restored (s : State) (west : Bool) : Bool :=
  let p := if west then s.westLane else s.eastLane
  (if west then s.ring.west else s.ring.east).restored && (!s.on 0xA020 1 p || s.hasSas p)

/-- The presence section of this node (Table 4.6); `delayValid` as for the lane of arrival. -/
def State.presencePayload (s : State) (request : Option Nat) (delayValid : Bool) : Bytes :=
  let st := s.ringState
  let digestMode := match request with
    | some t => if (st == ringFollower || st == ringMaster) && s.loaded t then t else s.mode
    | none => s.mode
  let bit := fun (b : Bool) (n : Nat) => if b then n else 0
  let flags := bit (st == ringFollower || st == ringMaster) 1 + bit (s.clockState == ckLocked) 2 +
    bit s.ring.west.lost 4 + bit s.ring.east.lost 8 + bit (s.restored true) 16 + bit (s.restored false) 32 +
    bit s.twinHalf 64 + bit delayValid 128
  beBytes 8 s.nodeName ++ beBytes 1 (if s.on 0x4000 5 then s.n 0x4000 6 else 255) ++ beBytes 1 flags ++ beBytes 2 0 ++
    beBytes 4 (s.modeDigest digestMode) ++ beBytes 4 s.ring.shownEpoch ++ beBytes 1 (min 255 s.ring.witnessAge) ++
    beBytes 3 0

/-- The marker of a value that is not available (Table 3.5). -/
def notAvailable : Nat := 0x8000000000000000

/-- The timing record of this node (Table 3.5). -/
def State.timingPayload (s : State) : Bytes :=
  let (c, loop) := match s.ring.loops.head? with
    | some (c, l) => (c, unsignedOf 8 l)
    | none => (0, notAvailable)
  let west := if s.ring.west.delayValid then unsignedOf 8 (s.obj 0x3200 1) else notAvailable
  beBytes 4 c ++ beBytes 4 0 ++ beBytes 8 loop ++ beBytes 8 west

/-- The census section payload (Table 4.5), written by the master. -/
def State.censusPayload (s : State) : Bytes :=
  let confirm := match s.ring.confirm with
    | some m => 128 + m % 8
    | none => 0
  let (rel, flag) := match s.ring.releaseAt with
    | some c => if s.cycle < c then (c % 256, 1) else (0, 0)
    | none => (0, 0)
  beBytes 8 (s.n 0x4001 9) ++ beBytes 1 s.ringSize ++ beBytes 1 (s.n 0x4001 8) ++ beBytes 1 confirm ++
    beBytes 1 rel ++ beBytes 1 flag ++ beBytes 3 0

/-- Whether this node writes a named section (R90, R288): its own, or the role's while it launches as lease holder. -/
def State.writes (s : State) (launching : Bool) (r : SecRow) : Bool :=
  r.id < 0xF00 &&
    (r.owner == s.nodeName ||
      (launching && s.twinHalf && s.leaseHeld && s.n 0x9020 3 != 0 && r.owner == s.n 0x9020 3))

/-- Latches the owned sections of a round frame, once per cycle (R96). -/
def latchRound (launching : Bool) (round : Nat) : Eff :=
  .look fun s =>
    if s.ring.latchedRounds.contains round then .skip
    else
      let own := (s.sections s.mode).filter fun r => r.round == round && s.writes launching r
      .seq (.upd (.ring fun g => { g with latchedRounds := round :: g.latchedRounds }))
        (.forEach own fun r => .upd (.ring fun g =>
          match g.outBuffers.get? r.id with
          | some b =>
            { g with latched := g.latched.set r.id (if b.fresh then some (slice b.bytes 0 r.length) else none)
                     fillers := (match b.engine with
                       | some e => if b.fresh then g.fillers.set r.id e else g.fillers.erase r.id
                       | none => g.fillers.erase r.id)
                     outBuffers := g.outBuffers.set r.id { b with fresh := false } }
          | none => { g with latched := g.latched.set r.id none }))

/-- Status, age and payload of an owned section as latched. -/
def State.ownContent (s : State) (r : SecRow) : Nat × Bytes :=
  match s.ring.latched.get? r.id with
  | some (some b) => (1, b)
  | _ => (0, List.replicate r.length 0)

/-- A body with sections written into it. -/
def patchBody (body : Bytes) (patches : List (Nat × Bytes)) : Bytes :=
  patches.foldl (fun b p => overwrite b p.1 p.2) body

/-- The patches of the owned named sections of a round. -/
def State.ownPatches (s : State) (launching : Bool) (cycle round : Nat) : List (Nat × Bytes) :=
  ((s.sections s.mode).filter fun r => r.round == round && s.writes launching r).map fun r =>
    let (st, b) := s.ownContent r
    (r.offset, sectionBytes cycle (nameHash r.owner) r.id st 0 b)

/-- The patches of the position sections of this node at position `k` (R93). -/
def State.positionPatches (s : State) (cycle k : Nat) (request : Option Nat) (delayValid : Bool) : List (Nat × Bytes) :=
  let own := nameHash s.nodeName
  let at' := fun id payload => match s.sectionOf s.mode id with
    | some r => [(r.offset, sectionBytes cycle own id 1 0 payload)]
    | none => []
  at' (0xF40 + k) (s.presencePayload request delayValid) ++ at' (0xFC0 + k) s.timingPayload

/-- Counts the owned sections of a copy as WRITTEN or CLEARING (counters 10 and 11). -/
def countOwn (launching : Bool) (round : Nat) : Eff :=
  .look fun s => .forEach ((s.sections s.mode).filter fun r => r.round == round && s.writes launching r) fun r =>
    count (wheelItem (if (s.ownContent r).1 == 1 then 10 else 11))

/-! ## Lines -/

/-- The line rate of a port in Mb/s (P+0:03). -/
def State.lineRate (s : State) (p : Nat) : Nat :=
  if isBB p then (if s.port p 0 3 == 1 then 10000 else 25000)
  else if isLK p then (if s.port p 0 3 == 1 then 100 else 1000)
  else 10

/-- T(x) of R166 in 2^-16 ns, rounded up. -/
def State.txTime (s : State) (p bytes : Nat) : Nat :=
  let r := s.lineRate p
  (bytes * 524288000 + r - 1) / r

/-- Bytes that MACsec adds on a port: SecTAG with or without SCI, and ICV (R133, R165). -/
def State.macsecBytes (s : State) (p : Nat) : Nat :=
  if s.on 0xA020 1 p then (if s.on 0xA020 3 p then 32 else 24) else 0

/-- A round frame passes on a lane: its first byte at the MAC point, and its duration with FCS and MACsec (R99). -/
def notePassage (lane start bytes : Nat) : Eff :=
  .look fun s => .upd (.ring fun g => { g with
    passages := (lane, start, s.txTime lane (bytes + 4 + s.macsecBytes lane)) :: g.passages })

/-! ## A frame on the lane when a round frame arrives (R99) -/

/-- The instant at which the first symbol after the SFD of a frame crosses the module's balls, when the first byte of its
preamble reaches the MAC point at `t`: 8 bytes later, and the transmit PCS and SerDes (12.0 ns, R29) or the PHY on. -/
def State.ballsStamp (s : State) (p t : Nat) : Nat :=
  t + s.txTime p 8 + (if isBB p then 786432 else Config.phyTransmitLatency p)

/-- The instant at which it crosses the reference plane of Table 3.2 (R59): with the external PHY of a backbone lane. -/
def State.txStamp (s : State) (p t : Nat) : Nat :=
  ((s.ballsStamp p t : Int) + (if isBB p then s.obj 0x3201 1 (p / 32) else 0)).toNat

/-- The instant at which the point of a received frame that passes the MAC point at `stamp` has crossed the reference plane
(R59): SerDes and receive PCS (16.0 ns, R29) and the external PHY of a backbone lane, or the PHY, before it. -/
def State.rxPlane (s : State) (p stamp : Nat) : Nat :=
  if isBB p then ((stamp : Int) - 1048576 - s.obj 0x3201 2 (p / 32)).toNat else stamp - Config.phyReceiveLatency p

/-- A received frame with its timestamp of R59. -/
def State.atPlane (s : State) (p : Nat) (f : Frame) : Frame := { f with stamp := s.rxPlane p f.stamp }

/-- The status with which a host frame of a launch time ends: late beyond LateTolerance (R250). -/
def State.okStatus (s : State) (f : QueuedFrame) (stamp : Nat) : Nat :=
  match f.launch with
  | some l => if l + nsUnits (s.n 0x8010 2) < stamp then 2 else 1
  | none => 1

/-- The frame in progress on a lane is ended with a stomped FCS and not retried; event 463 (R99). -/
def endOnLane (lane : Nat) : Eff :=
  .look fun s =>
    match s.traffic.macs.get? lane with
    | some mac =>
      match mac.current with
      | some (c, f) =>
        .all [emit (.frame lane (f.data.drop f.sent) true true), count (wheelItem 22), raise 463,
          .upd (.traffic fun t => { t with macs := t.macs.set lane { mac with current := none } }),
          finishOrigin f.origin 8 s.now lane c (f.cuts != 0)]
      | none => .skip
    | none => .skip

/-! ## A copy arrives (R94) -/

/-- The position of this node that a copy gives, none where no copy has given it one and RingSize is not known (R89). -/
def State.copyPosition (s : State) (h : RfHeader) : Option Nat :=
  let known := if s.ring.placed then some s.position else none
  if h.wrapped then known
  else if h.direction == 0 then some h.census
  else if !s.ring.eastPosSeen && decide (h.census < s.ringSize) then some (s.ringSize - h.census)
  else known

/-- The copy as it leaves this node: header and, unless only listening or out of step, sections. -/
def State.forwardBody (s : State) (h : RfHeader) (body : Bytes) (west turned : Bool) (outLane inLane : Nat) : Bytes :=
  let st := s.ringState
  let writing := st == ringSapling || st == ringFollower
  let pos := s.copyPosition h
  let acks := h.modeRequest && st == ringFollower && s.loaded h.targetMode
  let delayValid := if west then s.ring.west.delayValid else s.ring.east.delayValid
  let h' := { h with
    census := if h.wrapped then h.census else h.census + 1
    wrapped := h.wrapped || turned
    ackMask := match pos with
      | some k => if acks then h.ackMask ||| 2 ^ k else h.ackMask
      | none => h.ackMask
    correction := h.correction + nearest256 (s.laneDelay west + s.residence inLane outLane) }
  let own := if writing && h.mode == s.mode then s.ownPatches false h.cycleLow h.round else []
  let position := match pos with
    | some k => if writing && h.round == 0 then s.positionPatches h.cycleLow k h.requested delayValid else []
    | none => []
  patchBody body ((0, h'.encode) :: own ++ position)

/-- Whether FCS and ICV have passed. -/
def frameSound (f : Frame) : Bool := f.fcs == .good && f.icv != .failed

/-- Whether the replay protection of a port rejects a protected frame: its packet number lies more than the replay window behind
the next one expected of its SCI (R313, Table 10.15). -/
def State.replayed (s : State) (p : Nat) (f : Frame) : Bool :=
  match f.secTag with
  | some (sci, pn) => f.icv == .verified && (s.kiln.mka.get? p).any fun k =>
      decide (pn + s.n 0xA020 4 p < (match k.windows.get? sci with
        | some highest => highest + 1
        | none => 1))
  | none => false

/-- The packet number of an accepted protected frame is noted (R313). -/
def noteNumber (p : Nat) (f : Frame) : Eff :=
  .look fun s => match f.secTag, s.kiln.mka.get? p with
    | some (sci, pn), some k => .when (f.icv == .verified && frameSound f && !s.replayed p f)
        (.upd (.kiln fun x => { x with mka := x.mka.set p { k with windows := k.windows.set sci (max pn (k.windows.getD sci 0)) } }))
    | _, _ => .skip

/-- Whether a frame on a port has passed FCS and, where MACsec is configured, ICV (R61, Table 10.15). -/
def State.sound (s : State) (p : Nat) (f : Frame) : Bool :=
  frameSound f && (f.icv == .verified || !s.on 0xA020 1 p) && !s.replayed p f

/-- A frame's check fails on arrival (R97): counted at the Wheel and the port, event 461 or 460, fault classes 9 and 10. -/
def copyChecks (lane : Nat) (f : Frame) : Eff :=
  match f.fcs with
  | .stomped => .seq (count (wheelItem 5)) (raise 461)
  | .bad => .all [count (wheelItem 4), count (portItem lane 4), faultEvent 9 lane 461 0]
  | .good => .look fun s =>
    if s.sound lane f then .seq (count (portItem lane 0)) (countN (portItem lane 1) (f.data.length + 4))
    else .all [count (wheelItem 7), count (portItem lane 5), faultEvent 10 lane 460 0]

/-- Puts a copy aside until its verification point (R98). -/
def stageCopy (lane : Nat) (f : Frame) : Eff :=
  .look fun s =>
    let body := protocolBody f.data
    let h := RfHeader.decode body
    let rows := if h.version == 1 then (s.sections s.mode).filter fun r => r.round == h.round else []
    .upd (.ring fun g => { g with
        staged := g.staged ++
          [⟨lane, lane == s.westLane, h, rows.map (readSection h.cycleLow body), f.stamp, s.sound lane f⟩] })

/-- The position that a good unwrapped copy of round frame 0 gives is taken (R89, R97). -/
def takePosition (h : RfHeader) : Eff :=
  .when (h.round == 0 && !h.wrapped)
    (if h.direction == 0 then
      .seq (setN 0x4001 2 h.census) (.upd (.ring fun g => { g with eastPosSeen := true, placed := true }))
     else .whenS (fun s => !s.ring.eastPosSeen && decide (h.census < s.ringSize)) (.look fun s =>
      .seq (setN 0x4001 2 (s.ringSize - h.census)) (.upd (.ring fun g => { g with placed := true }))))

/-- Forwards a copy, or turns it back when the exit lane is lost (R94, R97, R112). -/
def forwardCopy (lane : Nat) (f : Frame) : Eff :=
  .look fun s =>
    let body := protocolBody f.data
    let h := RfHeader.decode body
    let west := lane == s.westLane
    let exit := if west then s.eastLane else s.westLane
    let turned := if west then s.ring.east.lost else s.ring.west.lost
    let out := if turned then lane else exit
    .all [
      endOnLane out,
      .when (h.version == 1 && (s.ringState == ringSapling || s.ringState == ringFollower) && h.mode == s.mode)
        (.seq (latchRound false h.round) (countOwn false h.round)),
      .when (s.sound lane f && h.version == 1) (takePosition h),
      .look fun s =>
        let body' := if h.version == 1 then s.forwardBody h body west turned out lane else body
        let wire := envelope 1 1 (s.obj (portIdx out 0) 6) ++ body'
        .when (!s.noSa out) (.all [emit (.frame out wire (!s.sound lane f) true), usePacketNumber out,
          count (portItem out 2), countN (portItem out 3) (wire.length + 4),
          notePassage out (((f.stamp : Int) + 2411725 + s.obj 0x3201 2 (lane / 32)).toNat) wire.length,
          count (wheelItem 1), .when turned (count (wheelItem 19)), .when (!s.sound lane f) (count (wheelItem 6))])]

/-- The Wheel processes an arriving copy. -/
def copyArrives (lane : Nat) (frame : Frame) : Eff :=
  .look fun s =>
    let f := s.atPlane lane frame
    let west := lane == s.westLane
    let wrapped := if west then s.ring.west.lost else s.ring.east.lost
    if s.ringState == ringDisabled || !s.isLane lane || wrapped || !isProtocol f.data 1 then .skip
    else
      .all [count (wheelItem 0), copyChecks lane f, stageCopy lane f,
        if s.ringState == ringMaster then count (wheelItem 3) else forwardCopy lane f, noteNumber lane f]

/-! ## Launch (R86, R103) -/

/-- The mode request that a header of cycle `n` carries (R118). -/
def State.requestIn (s : State) (n : Nat) : Option ModeRequest :=
  match s.ring.request with
  | some q => if q.first ≤ n && n + 2 ≤ q.target then some q else none
  | none => none

/-- A section as the master re-injects it (R103): HELD from its view, or CLEARING with Age 255, where its NameHash is the
master's own (DESIGN CHOICE, unsafe: log entry 63). -/
def State.reinjected (s : State) (cycle : Nat) (r : SecRow) : Nat × Bytes :=
  let v := s.view r.id
  if v.everHeld then
    (r.offset, sectionBytes cycle v.hash r.id 2 (min 255 (v.age + 1)) (slice v.value 0 r.length))
  else (r.offset, sectionBytes cycle (nameHash s.nodeName) r.id 0 255 (List.replicate r.length 0))

/-- The body of a launched copy. -/
def State.launchBody (s : State) (n round direction : Nat) (err : Int) : Bytes :=
  let req := s.requestIn n
  let twin := s.n 0x9000 1 == 2
  let h : RfHeader :=
    { version := 1, round := round, direction := direction, wrapped := false,
      leaseState := if twin then (if s.twin.extended then 1 else 2) else 0, mode := s.mode,
      targetMode := (req.map ModeRequest.mode).getD 0, modeRequest := req.isSome, census := 1,
      cycleLow := n % 281474976710656, targetCycleLow := (req.map fun q => q.target % 256).getD 0,
      ackMask := if req.isSome then 1 else 0, masterHash := nameHash s.nodeName,
      leaseEpoch := if twin then s.n 0x9021 2 else 0, originOffset := s.n 0x4110 2 (8 * s.mode + round),
      correction := err }
  let rows := (s.sections s.mode).filter fun r => r.round == round
  let mine := fun (r : SecRow) => s.writes true r || r.id == 0xF00 || r.id == 0xF40 || r.id == 0xFC0
  let others := (rows.filter fun r => !mine r).map (s.reinjected n)
  let census := if round == 0 then [(32, sectionBytes n (nameHash s.nodeName) 0xF00 1 0 s.censusPayload)] else []
  let position := if round == 0 then s.positionPatches n 0 (req.map ModeRequest.mode) true else []
  patchBody (List.replicate (s.n 0x4110 3 (8 * s.mode + round)) 0)
    ((0, h.encode) :: others ++ census ++ position ++ s.ownPatches true n round)

/-- What the master writes into its own sections of a round, by identifier, with status (R111): the named sections, and in
round frame 0 census section, presence section and timing record. -/
def State.writtenOf (s : State) (round : Nat) : List (Nat × Nat × Bytes) :=
  (((s.sections s.mode).filter fun r => r.round == round && s.writes true r).map fun r =>
    let (st, b) := s.ownContent r
    (r.id, st, b)) ++
  (if round == 0 then
    [(0xF00, 1, s.censusPayload), (0xF40, 1, s.presencePayload ((s.requestIn s.cycle).map ModeRequest.mode) true),
      (0xFC0, 1, s.timingPayload)]
   else [])

/-- The start of cycle `n` (R84) in 2^-16 ns. -/
def State.cycleStart (s : State) (n : Nat) : Nat := n * s.cycleUnits

/-- One launched copy: on the lane of its direction, unless that lane is lost (R112). -/
def launchCopy (round direction : Nat) (err : Int) : Eff :=
  .look fun s =>
    let east := direction == 0
    let lane := if east then s.eastLane else s.westLane
    let lost := if east then s.ring.east.lost else s.ring.west.lost
    let depart := (((s.cycleStart s.cycle + nsUnits (s.n 0x4110 2 (8 * s.mode + round)) : Nat) : Int) + err * 256).toNat
    let wire := envelope 1 1 (s.obj (portIdx lane 0) 6) ++ s.launchBody s.cycle round direction err
    if lost || s.noSa lane then .skip
    else .all [endOnLane lane, countOwn true round, emit (.frame lane wire false true), usePacketNumber lane,
      count (portItem lane 2), countN (portItem lane 3) (wire.length + 4),
      notePassage lane depart wire.length,
      count (wheelItem 2),
      .upd (.ring fun g => { g with
        launched := (round, direction) :: g.launched
        eastDeparture := if east && round == 0 then some (s.cycle, depart) else g.eastDeparture
        westDeparture := if !east && round == 0 then some (s.cycle, depart) else g.westDeparture })]

/-- The master launches round frame `round`: the east-bound and the west-bound copy. -/
def launchRound (round : Nat) (errEast errWest : Int) : Eff :=
  .look fun s =>
    if s.ringState != ringMaster || !s.on 0x4110 1 (8 * s.mode + round) || 8 ≤ round then .skip
    else .all [latchRound true round,
      .look fun s => .forEach (s.writtenOf round) fun w =>
        .upd (.ring fun g => { g with written := g.written.set w.1 (w.2.1, w.2.2) }),
      launchCopy round 0 errEast, launchCopy round 1 errWest]

/-! ## Meanings -/

/-- ROUND_FRAME (R94). -/
def execRoundFrame (lane : Nat) (frame : Frame) (s : State) : Host.Outcome State Fault Refusal :=
  done (operating (copyArrives lane frame)) s

/-- ROUND_FRAME_LAUNCH (R86). -/
def execRoundFrameLaunch (round : Nat) (errEast errWest : Int) (s : State) : Host.Outcome State Fault Refusal :=
  done (operating (launchRound round errEast errWest)) s

end Sys2Proof.Machine
end

