-- ==== Sys2Proof/Machine/HostQueues.lean ====
section
/-! DEFINITION. Descriptor rings, event queues and MSI-X (chapter 8): positions, the use of entries, completions in
place, delivery to receive rings, ring states and the signalling of events. -/

namespace Sys2Proof.Machine

/-! ## Positions (R243, R245) -/

def HostRing.size (r : HostRing) : Nat := 2 ^ r.logSize
def EventQueue.size (q : EventQueue) : Nat := 2 ^ q.logSize

/-- x = index + N x wrap. -/
def posX (n p : Nat) : Nat := p % 65536 % n + n * (p / 65536 % 2)
/-- The 17-bit position of x modulo 2N. -/
def posOf (n x : Nat) : Nat := x % n + 65536 * (x / n % 2)
/-- A position advanced by `k`. -/
def posAdd (n p k : Nat) : Nat := posOf n (posX n p + k)
/-- (a - b) modulo 2N. -/
def posDiff (n a b : Nat) : Nat := (posX n a + 2 * n - posX n b) % (2 * n)
/-- The wrap bit. -/
def posWrap (p : Nat) : Nat := p / 65536 % 2

/-! ## Functions and their resources (R239, R240) -/

/-- A ring: transmit or receive, by its global number. -/
def State.hostRing (s : State) (tx : Bool) (r : Nat) : HostRing :=
  if tx then s.host.tx.getD r HostRing.init else s.host.rx.getD r HostRing.init
def State.queue (s : State) (q : Nat) : EventQueue := s.host.queues.getD q EventQueue.init
def State.vector (s : State) (v : Nat) : Vector := s.host.vectors.getD v Vector.init
def State.function (s : State) (fn : Nat) : Function := s.host.functions.getD fn Function.init

/-- Updates a ring. -/
def ringSet (tx : Bool) (r : Nat) (f : HostRing → HostRing) : Eff := .upd (if tx then .txRing r f else .rxRing r f)

/-- The function that owns item `x` of the resource whose First column is `sub` of 0x8100. -/
def State.owner (s : State) (sub x : Nat) : Option Nat :=
  (List.range 66).find? fun f => s.n 0x8100 sub f ≤ x && x < s.n 0x8100 sub f + s.n 0x8100 (sub + 1) f
def State.ringOwner (s : State) (tx : Bool) (r : Nat) : Option Nat := s.owner (if tx then 1 else 3) r
def State.queueOwner (s : State) (q : Nat) : Option Nat := s.owner 5 q

/-- Whether a function issues requests: Bus Master Enable set, in D0. -/
def State.masters (s : State) (fn : Nat) : Bool := (s.function fn).busMaster && !(s.function fn).d3hot

/-- A function that may write host memory: no failed write since its Bus Master Enable was set (R272). -/
def State.mayWrite (s : State) (fn : Nat) : Bool := s.masters fn && !(s.function fn).writesStopped

/-- The pieces (address, length) of a request: none is longer than `limit` or crosses a 4 KiB boundary; `fuel` bounds their
number. -/
def requestPieces (limit : Nat) : Nat → Nat → Nat → List (Nat × Nat)
  | 0, _, _ => []
  | fuel + 1, addr, len =>
    if len = 0 then []
    else
      let n := min len (min (max 1 limit) (4096 - addr % 4096))
      (addr, n) :: requestPieces limit fuel (addr + n) (len - n)

/-- A posted Memory Write of a function, in packets of at most its Max Payload Size, with Relaxed Ordering as given (R236,
R269). -/
def hostWriteAs (relaxed : Bool) (fn addr : Nat) (data : Bytes) : Eff :=
  .look fun s => .when (s.mayWrite fn)
    (.forEach (requestPieces (s.function fn).maxPayload data.length addr data.length) fun x =>
      .all [count (pcieItem 1), count (pcieItem 2), emit (.hostWrite fn x.1 (slice data (x.1 - addr) x.2) relaxed)])

/-- A posted write with Relaxed Ordering clear, as every write is but frame data (R269). -/
def hostWrite (fn addr : Nat) (data : Bytes) : Eff := hostWriteAs false fn addr data

/-- Frame data written to a receive buffer: with Relaxed Ordering where both enables are set (R269). -/
def hostWriteData (fn addr : Nat) (data : Bytes) : Eff :=
  .look fun s => hostWriteAs (s.on 0x8010 4 && (s.function fn).relaxed) fn addr data

/-- The link of a function (R237). -/
def State.linkOf (s : State) (fn : Nat) : Nat := if s.power.pcieMode && fn != 0 then 1 else 0

/-- Takes the waiting requests for which `free` tags are left as issued: the list then, and those newly issued. -/
def takeTags (mine : ReadRequest → Bool) : Nat → List ReadRequest → List ReadRequest × List ReadRequest
  | _, [] => ([], [])
  | 0, l => (l, [])
  | free + 1, r :: rs =>
    if mine r && !r.issued then
      let (l, new) := takeTags mine free rs
      ({ r with issued := true } :: l, r :: new)
    else
      let (l, new) := takeTags mine (free + 1) rs
      (r :: l, new)

/-- Issues the waiting requests of a link, oldest first, while at most 256 are outstanding on it (Table 8.1). -/
def issueReads (link : Nat) : Eff :=
  .look fun s =>
    let mine := fun (r : ReadRequest) => s.linkOf r.fn == link
    let (l, new) := takeTags mine (256 - (s.host.reads.filter fun r => mine r && r.issued).length) s.host.reads
    .seq (.upd (.hostReads fun _ => l))
      (.forEach new fun r => .all [count (pcieItem 1), count (pcieItem 3), emit (.hostRead r.fn r.address r.length)])

/-- A Memory Read of a function, in requests of at most its Max Read Request Size (R236, R270). -/
def hostRead (owner : ReadOwner) (fn addr len : Nat) : Eff :=
  .look fun s => .when (s.masters fn)
    (.seq (.upd (.hostReads fun l => l ++
        (requestPieces (s.function fn).maxRead len addr len).map fun x => ⟨fn, owner, x.1, x.2, false⟩))
      (issueReads (s.linkOf fn)))

/-- The requests of an owner with addresses in some ranges have completed: their tags are free. -/
def readsReturn (owner : ReadOwner) (fn : Nat) (ranges : List (Nat × Nat)) : Eff :=
  .look fun s => .seq
    (.upd (.hostReads fun l => l.filter fun r =>
      !(r.owner == owner && r.issued && ranges.any fun x => x.1 ≤ r.address && r.address < x.1 + x.2)))
    (issueReads (s.linkOf fn))

/-- Requests that still wait for a tag are discarded. -/
def dropWaitingReads (owner : ReadOwner) : Eff :=
  .upd (.hostReads fun l => l.filter fun r => r.issued || r.owner != owner)

/-- Every request of a function is gone: a reset, or its Bus Master Enable cleared. -/
def dropReadsOf (fn : Nat) : Eff :=
  .seq (.upd (.hostReads fun l => l.filter fun r => r.fn != fn)) (.look fun s => issueReads (s.linkOf fn))

/-- A packet of the host's arrives (Table 8.15). -/
def tlpReceived : Eff := count (pcieItem 0)

/-- Powered with its PCI Express functions alive: ACTIVE or IDLE. -/
def powered (e : Eff) : Eff :=
  .whenS (fun s => s.power.state == .active || s.power.state == .idle) e

/-- A memory request to a function takes effect in D0 only: in D3hot it is an Unsupported Request (R236: PCI Express; PRESUMED,
safe: log entry 66). -/
def inD0 (fn : State → Option Nat) (e : Eff) : Eff := .whenS (fun s => !(fn s).any fun k => (s.function k).d3hot) e

/-- The same for a register of a ring's block. -/
def atRing (tx : Bool) (r : Nat) (e : Eff) : Eff := inD0 (fun s => s.ringOwner tx r) e
/-- The same for a register of an event queue's block. -/
def atQueue (q : Nat) (e : Eff) : Eff := inD0 (fun s => s.queueOwner q) e

/-! ## Events of rings and queues (R260 to R264) -/

/-- The event queue of a ring, 0xFFFF where its function owns none. -/
def State.queueOf (s : State) (tx : Bool) (r : Nat) : Nat :=
  match s.ringOwner tx r with
  | some fn => if s.n 0x8100 6 fn = 0 then 0xFFFF else s.n 0x8100 5 fn + (s.hostRing tx r).eq
  | none => 0xFFFF

/-- A ring's event goes to the ring's own queue. -/
def ringEvent (tx : Bool) (r source arg : Nat) : Eff :=
  .look fun s => raiseFull 0 source 0 arg (some (s.queueOf tx r))

/-- The MSI-X message of a vector: a posted write of its function, which sends none where it may not write (R236, R269,
R272). -/
def sendMsix (v : Nat) : Eff :=
  .whenS (fun s => (s.owner 7 v).any s.mayWrite)
    (.all [count (pcieItem 1), count (pcieItem 2), count (pcieItem 33), emit (.msix v)])

/-- Signals the vector of an event queue, and disarms it (R263). -/
def signalQueue (q : Nat) : Eff :=
  .look fun s =>
    let v := (s.queueOwner q).map fun fn => s.n 0x8100 7 fn + (s.queue q).vector
    .all [.upd (.queue q fun e => { e with armed := false, unsignalled := 0 }), bumpObj 0x8221 4 q,
      .ofOption v fun v =>
        if (s.vector v).masked then .upd (.vector v fun x => { x with waiting := true })
        else sendMsix v]

/-- A stamped record as 16 bytes (Table 11.5), its parity bit 0. -/
def EventRecord.encode (e : EventRecord) : Bytes :=
  leBytes 4 e.seq ++ leBytes 4 (e.ns % 1073741824 + 1073741824 * (e.severity % 4)) ++ leBytes 2 e.sec ++
    leBytes 2 (e.source % 1024 + 1024 * (e.reason % 64)) ++ leBytes 4 (e.arg % 2147483648)

/-- The same record as an entry of a queue at a position (R261). -/
def EventRecord.entryAt (e : EventRecord) (pos : Nat) : Bytes :=
  e.encode.take 15 ++ [BitVec.ofNat 8 (e.arg % 2147483648 / 16777216 + 128 * (1 - posWrap pos))]

/-- An event not written to a queue. -/
def queueDrops (q : Nat) : Eff :=
  .look fun s => .all [count (pcieItem 31), bumpObj 0x8221 2 q,
    .ofOption (s.queueOwner q) fun fn => bumpObj 0x8101 4 fn]

/-- Writes an event into a queue (R261), and signals it where that is due (R263). -/
def queueWrite (q : Nat) (e : EventRecord) (immediate : Bool) : Eff :=
  .look fun s =>
    let c := s.queue q
    if !c.enabled then .skip
    else if c.overflow then queueDrops q
    else if posDiff c.size c.tail c.head = c.size then
      .all [.upd (.queue q fun x => { x with overflow := true }), count (pcieItem 32), bumpObj 0x8221 3 q, queueDrops q,
        raise 776 q]
    else .all [
      .ofOption (s.queueOwner q) fun fn => hostWrite fn (c.base + 16 * (c.tail % 65536 % c.size)) (e.entryAt c.tail),
      .upd (.queue q fun x => { x with tail := posAdd c.size c.tail 1, unsignalled := x.unsignalled + 1
                                       firstAt := if x.unsignalled = 0 then s.elapsed else x.firstAt }),
      count (pcieItem 30), bumpObj 0x8221 1 q,
      .when (c.armed && (immediate || max 1 c.count ≤ c.unsignalled + 1)) (signalQueue q)]

/-! ## Ring states (Table 8.10) -/

def QueueState.code : QueueState → Nat
  | .disabled => 0 | .enabled => 1 | .draining => 2 | .drainingReenable => 3

/-- QSTS flags. -/
def qstsDbIgnored : Nat := 0x100
def qstsDbInvalid : Nat := 0x200
def qstsMarkMismatch : Nat := 0x400
def qstsPushMalformed : Nat := 0x800
def qstsDmaError : Nat := 0x1000
def qstsWrIgnored : Nat := 0x2000
def qstsNoBuffer : Nat := 0x4000

/-- Sets a sticky flag. -/
def ringFlag (tx : Bool) (r bit : Nat) : Eff := ringSet tx r fun x => { x with flags := x.flags ||| bit }

/-- Changes a ring's state: event 771 (R257). -/
def ringState (tx : Bool) (r : Nat) (new : QueueState) : Eff :=
  .whenS (fun s => (s.hostRing tx r).state != new)
    (.seq (ringSet tx r fun x => { x with state := new }) (ringEvent tx r 771 (r + 4096 * new.code)))

/-! ## Completions (R252 to R256, R260) -/

/-- Writes a completion into its ring entry: in two writes, the mark last, or in one (R255). -/
def writeEntry (tx : Bool) (r pos : Nat) (bs : Bytes) : Eff :=
  .look fun s =>
    let ring := s.hostRing tx r
    let addr := ring.base + 32 * (pos % 65536 % ring.size)
    .ofOption (s.ringOwner tx r) fun fn =>
      if s.on 0x8010 3 then .seq (hostWrite fn addr (bs.take 31)) (hostWrite fn (addr + 31) (bs.drop 31))
      else hostWrite fn addr bs

/-- Raises event 769 where R260 asks for it; one completion raises at most one. -/
def announce (tx : Bool) (r : Nat) (flagged lastRx : Bool) : Eff :=
  .look fun s =>
    let ring := s.hostRing tx r
    let n := ring.sinceEvent + 1
    if flagged || (lastRx && ring.every == 0 && ring.holdoff != 0) || (ring.every != 0 && ring.every ≤ n) then
      .seq (ringSet tx r fun x => { x with sinceEvent := 0, unannounced := none })
        (ringEvent tx r 769 (r + 4096 * ring.head))
    else ringSet tx r fun x => { x with sinceEvent := n, unannounced := some (ring.unannounced.getD s.elapsed) }

/-- Completes the entry at a position. What a ring that has taken a malformed entry writes is not stated (R271): the
bytes are a free value, still at the ring's own addresses. -/
def completeEntry (tx : Bool) (r pos : Nat) (bs : Bytes) (flagged lastRx : Bool) : Eff :=
  .look fun s =>
    let ring := s.hostRing tx r
    .all [if ring.undefinedNow then withFree fun v => writeEntry tx r pos (leBytes 32 v) else writeEntry tx r pos bs,
      ringSet tx r fun x => { x with head := posAdd ring.size pos 1 },
      count (pcieItem (if tx then 14 else 15)), announce tx r flagged lastRx]

/-- The mark byte of an entry. -/
def entryMark (e : Bytes) : Nat := beAt e 31 1
def entryType (e : Bytes) : Nat := entryMark e % 16

/-- A completed mark: DONE 1, the other bits as given. -/
def doneMark (m : Nat) : Byte := BitVec.ofNat 8 (m ||| 64)

/-- Nanoseconds and low seconds of an instant. -/
def stampBytes (t : Nat) : Bytes := leBytes 4 (t % secUnits / 65536) ++ leBytes 4 (t / secUnits)

/-- The backbone cycle at an instant. -/
def State.cycleOf (s : State) (t : Nat) : Nat := t / max 1 s.cycleUnits

/-- The completion of a no-op: status OK and nothing else (R247). -/
def noopCompletion (tx : Bool) (e : Bytes) : Bytes :=
  List.replicate (if tx then 10 else 12) 0 ++ [1] ++ List.replicate (if tx then 9 else 7) 0 ++ slice e 20 4 ++
    List.replicate 7 0 ++ [doneMark (entryMark e)]

/-- The completion of an entry of a transmit frame (Table 8.8). -/
def State.txCompletion (s : State) (f : TxFrame) (e : Bytes) : Bytes :=
  stampBytes f.stamp ++ leBytes 2 f.data.length ++ leBytes 1 f.status ++
    leBytes 1 ((if f.preempted then 1 else 0) + (if f.launch.isSome then 2 else 0)) ++ leBytes 2 f.port ++
    leBytes 1 (f.cls % 8) ++ [0] ++ leBytes 4 (s.cycleOf f.stamp) ++ slice e 20 4 ++ List.replicate 7 0 ++
    [doneMark (entryMark e)]

/-- The counters of a finished transmit frame: Tables 8.15 and 8.16. -/
def countTx (r : Nat) (f : TxFrame) : Eff :=
  let sent := Eff.seq (bumpObj 0x8201 4 r) (bumpObj 0x8201 5 r f.data.length)
  let dropped := fun c => Eff.seq (count (pcieItem c)) (bumpObj 0x8201 8 r)
  if f.status = 1 then .seq (count (pcieItem 16)) sent
  else if f.status = 2 then .all [count (pcieItem 17), sent, bumpObj 0x8201 6 r]
  else if f.status = 3 then dropped 18
  else if f.status = 4 then dropped 19
  else if f.status = 9 then dropped 21
  else if f.status = 10 then dropped 22
  else .seq (count (pcieItem 20)) (bumpObj 0x8201 7 r)

/-- A transmit frame that is a no-op. -/
def TxFrame.noop (f : TxFrame) : Bool :=
  match f.entries with
  | [(_, e)] => entryType e == 3
  | _ => false

/-- Writes the completions of one finished frame. -/
def completeTx (r : Nat) (f : TxFrame) : Eff :=
  .seq (if f.noop then .skip else countTx r f)
    (.forEach f.entries fun x => .look fun s =>
      completeEntry true r x.1 (if f.noop && f.status == 1 then noopCompletion true x.2 else s.txCompletion f x.2)
        (!f.noop && (beAt x.2 10 1).testBit 1) false)

/-- Completes finished frames in ring order, up to the first that is not (R252). -/
def flushTx (r : Nat) : Eff :=
  .look fun s =>
    let done := (s.hostRing true r).frames.takeWhile fun f => f.phase == .finished
    .seq (ringSet true r fun x => { x with frames := x.frames.dropWhile fun f => f.phase == .finished })
      (.forEach done (completeTx r))

/-- Completes no-op entries at the head of a receive ring. -/
def flushRxNoops (r : Nat) : Eff :=
  .look fun s =>
    let ring := s.hostRing false r
    let noops := ring.buffers.takeWhile fun b => entryType b.2 == 3
    .seq (ringSet false r fun x => { x with buffers := x.buffers.dropWhile fun b => entryType b.2 == 3 })
      (.forEach noops fun b => completeEntry false r b.1 (noopCompletion false b.2) false false)

/-! ## Delivery to a receive ring (R253, R254) -/

/-- What a receive completion says of a frame. -/
structure RxInfo where
  route : Nat
  port : Nat
  handle : Nat
  stamp : Nat
  status : Nat
  rtagRemoved : Bool
  verified : Bool

/-- The part of a frame in one buffer. -/
structure RxPart where
  pos : Nat
  entry : Bytes
  data : Bytes
  noop : Bool

/-- Fills buffers in order: the parts, the bytes left over and the entries left. A frame takes at most 64 entries. -/
def fillBuffers : Nat → List (Nat × Bytes) → Bytes → List RxPart × Bytes × List (Nat × Bytes)
  | 0, bufs, data => ([], data, bufs)
  | _, [], data => ([], data, [])
  | n + 1, (pos, e) :: bufs, data =>
    if entryType e = 3 then
      let (parts, left, rest) := fillBuffers n bufs data
      (⟨pos, e, [], true⟩ :: parts, left, rest)
    else
      let len := leAt e 8 2 % 16384
      let part : RxPart := ⟨pos, e, data.take len, false⟩
      let left := data.drop len
      if left.isEmpty then ([part], [], bufs)
      else
        let (parts, left', rest) := fillBuffers n bufs left
        (part :: parts, left', rest)

/-- Whether frame data carries a VLAN tag, and its TCI. -/
def vlanTci (data : Bytes) : Option Nat := if beAt data 12 2 == 0x8100 then some (beAt data 14 2) else none

/-- The completion of a receive entry (Table 8.9). -/
def State.rxCompletion (s : State) (i : RxInfo) (p : RxPart) (len : Nat) (first last truncated : Bool)
    (vlan : Option Nat) : Bytes :=
  stampBytes i.stamp ++ leBytes 2 p.data.length ++ leBytes 2 len ++
    leBytes 1 (if truncated && last then 0x13 else i.status) ++
    leBytes 1 (i.route % 8 + (if vlan.isSome then 8 else 0) + (if i.rtagRemoved then 16 else 0) +
      (if i.verified then 32 else 0)) ++
    leBytes 2 i.port ++ leBytes 2 i.handle ++ leBytes 2 (vlan.getD 0) ++ slice p.entry 20 4 ++
    leBytes 4 (s.cycleOf i.stamp) ++ [0, 0, 0] ++
    [doneMark (entryMark p.entry / 128 * 128 + (if first then 32 else 0) + (if last then 16 else 0) + 1)]

/-- Numbers the parts of a frame: whether a part is the first, and whether it is the last. -/
def markEnds (parts : List RxPart) : List (RxPart × Bool × Bool) :=
  let real := parts.filter fun p => !p.noop
  parts.map fun p => (p, real.head?.any fun q => q.pos == p.pos, real.getLast?.any fun q => q.pos == p.pos)

/-- The counter of a receive status (Table 8.15). -/
def rxCounter (status : Nat) : Nat :=
  if status = 0x10 then 24 else if status = 0x11 then 25 else if status = 0x12 then 26 else 23

/-- Writes the parts of a frame into their buffers. -/
def writeParts (r : Nat) (parts : List RxPart) : Eff :=
  .look fun s => .ofOption (s.ringOwner false r) fun fn =>
    .forEach parts fun p => .when (!p.noop && !p.data.isEmpty) (hostWriteData fn (leAt p.entry 0 8) p.data)

/-- Frame data that was written into a ring's next buffers as it arrived, of a frame that is dropped: they are not completed,
and the next frame fills them again (R22, R253). -/
def writeAhead (r : Nat) (data : Bytes) : Eff :=
  .look fun s =>
    let ring := s.hostRing false r
    .when (r < 4096 && ring.state == .enabled) (writeParts r (fillBuffers 64 ring.buffers data).1)

/-- Delivers frame data to a receive ring: a frame's, or a message or record of the module, which comes from no port and carries
no VLAN tag. -/
def deliver (r : Nat) (data : Bytes) (i : RxInfo) : Eff :=
  .look fun s =>
    let ring := s.hostRing false r
    if ring.state != .enabled then count (pcieItem 29)
    else if ring.buffers.isEmpty then
      .all [count (pcieItem 28), ringFlag false r qstsNoBuffer, bumpObj 0x8211 6 r,
        raiseOncePerCycle 770 r (ringEvent false r 770 r)]
    else
      let (parts, left, rest) := fillBuffers 64 ring.buffers data
      let cut := !left.isEmpty
      let len := data.length - left.length
      .all [
        writeParts r parts,
        ringSet false r fun x => { x with buffers := rest },
        bumpObj 0x8211 4 r, bumpObj 0x8211 5 r len,
        if cut then .seq (count (pcieItem 27)) (bumpObj 0x8211 7 r) else count (pcieItem (rxCounter i.status)),
        .forEach (markEnds parts) fun x => .look fun s =>
          completeEntry false r x.1.pos
            (if x.1.noop then noopCompletion false x.1.entry
             else s.rxCompletion i x.1 len x.2.1 x.2.2 cut (if i.port = 0xFFFF then none else vlanTci data))
            false x.2.2,
        withFree fun v => sample 4 r (v % 4294967296), flushRxNoops r]

/-! ## Draining (R257, R258) -/

/-- Takes a host ring's frames out of the class queues and slots, where no bit of them has been sent; `kept` are the frames that
are sent in full (R258). -/
def withdrawFrames (r : Nat) (kept : List Nat) : Eff :=
  let mine := fun (f : QueuedFrame) => (match f.origin with
    | .host ring i => ring == r && f.sent == 0 && !kept.contains i
    | _ => false)
  .look fun s => .seq
    (.upd (.traffic fun t => { t with queues := t.queues.map fun q => (q.1, q.2.filter fun f => !mine f) }))
    (.forEach s.segments fun g => .upd (.segment g.1 fun x => { x with
      latched := x.latched.filter (fun e => !mine e.2), overflow := x.overflow.filter fun f => !mine f.2 }))

/-- An outstanding frame at the start of draining: one whose first bit has passed the MAC point is sent in full (R258), any other
is ABORTED, dropped already or not. -/
def abortFrame (now : Nat) (f : TxFrame) : TxFrame :=
  if f.startedTx then f
  else { f with phase := .finished, status := 8, stamp := now, port := 0xFFFF }

/-- The completion of a receive entry that is drained: ABORTED, no frame data. -/
def State.rxAborted (s : State) (e : Bytes) : Bytes :=
  s.rxCompletion ⟨0, 0xFFFF, 0xFFFF, s.now, 8, false, false⟩ ⟨0, e, [], false⟩ 0 false false false none

/-- A frame with an entry added. -/
def newFrame (ident : Nat) (now : Nat) (x : Nat × Bytes) : TxFrame :=
  { ident := ident, entries := [x], data := [], inlineData := [], phase := .collecting, launch := none, startedTx := false,
    pending := 1, status := 0, stamp := 0, port := 0xFFFF, cls := 0, preempted := false, usedAt := now }

/-- The next entry of a ring is in use: no read of it, or of one before it, is still to be issued (R246). -/
def HostRing.advance (x : HostRing) : HostRing :=
  let next := posAdd x.size x.next 1
  { x with next := next, asked := if x.asked = x.next then next else x.asked
           fetched := if x.fetched = x.next then next else x.fetched }

/-- A frame of one entry that ends ABORTED. -/
def abortedFrame (ident now : Nat) (x : Nat × Bytes) : TxFrame :=
  { newFrame ident now x with phase := .finished, status := 8, stamp := now }

/-- A doorbell or push that came in the datapath cycle of the disable is taken first: the entries that it covered and that have
not been used are completed with ABORTED (R273). What they hold has not been read: a free value. -/
def abortCovered (tx : Bool) (r : Nat) : Eff :=
  .look fun s =>
    let x := s.hostRing tx r
    let unused := if x.coveredAt = some s.elapsed then posDiff x.size x.tail x.next else 0
    .when (unused ≤ x.size) (.forEach ((List.range unused).map (posAdd x.size x.next)) fun pos =>
      withFree fun v => .look fun s =>
        let e := leBytes 31 v ++ [BitVec.ofNat 8 (128 * (1 - posWrap pos))]
        .seq (ringSet tx r HostRing.advance)
          (if tx then ringSet true r fun x => { x with
              nextIdent := x.nextIdent + 1, frames := x.frames ++ [abortedFrame x.nextIdent s.now (pos, e)] }
           else completeEntry false r pos (s.rxAborted e) false false))

/-- A hardware or software disable of an enabled ring: every outstanding entry is completed with ABORTED in ring order. -/
def drainRing (tx : Bool) (r : Nat) : Eff :=
  .seq (ringState tx r .draining)
    (if tx then
      .all [.look fun s => withdrawFrames r (((s.hostRing true r).frames.filter (·.startedTx)).map TxFrame.ident),
        .look fun s => ringSet true r fun x => { x with
          frames := x.frames.map (abortFrame s.now), buffers := [], waitingRoom := false },
        dropWaitingReads (.entries true r), dropWaitingReads (.data r), abortCovered true r, flushTx r]
     else
      .look fun s =>
        .all [ringSet false r fun x => { x with buffers := [] }, dropWaitingReads (.entries false r),
          .forEach (s.hostRing false r).buffers fun b => .look fun s => completeEntry false r b.1 (s.rxAborted b.2) false false,
          abortCovered false r])

/-- A ring stops: force-disable, a written 0, a DMA error (Table 8.10). -/
def disableRing (tx : Bool) (r : Nat) : Eff :=
  .look fun s =>
    match (s.hostRing tx r).state with
    | .enabled => drainRing tx r
    | .drainingReenable => ringState tx r .draining
    | _ => .skip

/-- The entries in use and not completed. -/
def HostRing.outstanding (x : HostRing) : Nat := posDiff x.size x.next x.head

/-- The last row of Table 8.10: DMA stops, outstanding entries are dropped without completions. -/
def resetRing (tx : Bool) (r : Nat) : Eff :=
  .look fun s =>
    .all [countN (pcieItem 43) (s.hostRing tx r).outstanding, .when tx (withdrawFrames r []),
      ringSet tx r fun x => { x with tail := 0, head := 0, next := 0, asked := 0, fetched := 0, buffers := [], frames := [], coveredAt := none,
                                     sinceEvent := 0, unannounced := none, undefinedNow := false, waitingRoom := false },
      ringState tx r .disabled]

/-- All rings of a function, by the same row. -/
def resetRingsOf (fn : Nat) : Eff :=
  .look fun s =>
    .seq (.forEach ((s.host.tx.map Prod.fst).filter fun r => s.ringOwner true r == some fn) (resetRing true))
      (.forEach ((s.host.rx.map Prod.fst).filter fun r => s.ringOwner false r == some fn) (resetRing false))

/-! ## Reading entries (R245 to R248) -/

/-- (a - b) as the signed distance nearest to N/2 beyond b: from 1 - N to N. -/
def posAhead (n a b : Nat) : Int := if posDiff n a b ≤ n then posDiff n a b else (posDiff n a b : Int) - 2 * n

/-- Reads `count` entries from a position on; a read ends at the end of the ring's memory. -/
def readEntries (tx : Bool) (r pos : Nat) (len : Nat) : Eff :=
  .look fun s =>
    let ring := s.hostRing tx r
    let at' := pos % 65536 % ring.size
    let first := min len (ring.size - at')
    .ofOption (s.ringOwner tx r) fun fn =>
      .seq (.when (first != 0) (hostRead (.entries tx r) fn (ring.base + 32 * at') (32 * first)))
        (.when (first < len) (hostRead (.entries tx r) fn ring.base (32 * (len - first))))

/-- Issues the reads of ring entries (R246): those that a doorbell covers and no read under a doorbell has asked for, and up to
16 beyond the tail that none has; never past N beyond QHEAD. An entry that was read before it was covered is read again.
Only an ACTIVE module acts on what a doorbell or push has covered (R274). -/
def fetchEntries (tx : Bool) (r : Nat) : Eff :=
  .look fun s =>
    let ring := s.hostRing tx r
    let n := ring.size
    let rel := fun p => posAhead n p ring.head
    let covered := min (rel ring.tail) n
    let beyond := min (rel ring.tail + 16) n
    let start := max (rel ring.next) (rel ring.asked)
    let more := max (max (rel ring.next) (rel ring.fetched)) covered
    let again := min covered (rel ring.fetched) - start
    let at' := fun (d : Int) => posAdd n ring.head d.toNat
    .when (ring.state == .enabled && s.power.state == .active) (.all [
      ringSet tx r fun x => { x with
        asked := if start < covered then x.tail else x.asked
        fetched := if more < beyond then at' beyond else x.fetched },
      countN (pcieItem 11) again.toNat,
      if start < covered && more == covered then readEntries tx r (at' start) (max beyond covered - start).toNat
      else .seq (.when (start < covered) (readEntries tx r (at' start) (covered - start).toNat))
        (.when (more < beyond) (readEntries tx r (at' more) (beyond - more).toNat))])

/-- Whether an entry's type may stand on the ring (R247). -/
def typeAllowed (tx pushed : Bool) (t : Nat) : Bool :=
  if pushed then t == 2 else if tx then t == 0 || t == 3 else t == 1 || t == 3

/-- The bytes that a transmit frame reads from host memory: (address, length) of each of its entries. -/
def TxFrame.reads (f : TxFrame) : List (Nat × Nat) :=
  (f.entries.map fun x => (leAt x.2 0 8, leAt x.2 8 2 % 16384)).filter fun x => x.2 != 0

/-- Inline data of a push (R251). -/
def TxFrame.inlineBytes (f : TxFrame) : Bytes :=
  match f.entries with
  | (_, e) :: _ => if entryType e == 2 then (e.drop 32).take (min 96 (beAt e 28 1)) else []
  | [] => []

/-- Closes the last frame of a ring: it waits for its data, or is ready where it reads none. -/
def closeFrame (now : Nat) (r : HostRing) : HostRing :=
  { r with
      frames := r.frames.map fun f =>
        if f.phase == .collecting then
          { f with inlineData := f.inlineBytes, data := f.inlineBytes, usedAt := now
                   phase := if f.reads.isEmpty then .ready else .awaitingData }
        else f }

/-- Uses one entry of a transmit ring, trusted as written (R271). -/
def useTx (r : Nat) (pos : Nat) (e : Bytes) (pushed : Bool) : Eff :=
  .look fun s =>
    let ring := s.hostRing true r
    let collecting := ring.frames.any fun f => f.phase == .collecting
    let m := entryMark e
    let first := m.testBit 5
    let last := m.testBit 4
    let t := entryType e
    let noop := t == 3 && !pushed
    let long := ring.frames.any fun f => f.phase == .collecting && decide (64 ≤ f.entries.length)
    let malformed := !typeAllowed true pushed t || (if noop then collecting
      else (t == 0 && leAt e 8 2 % 16384 == 0) || (first == collecting) || long || (pushed && !last))
    .seq (ringSet true r fun x => { x.advance with undefinedNow := x.undefinedNow || malformed })
      (if noop then
        .seq (ringSet true r fun x => { x with nextIdent := x.nextIdent + 1
                                               frames := x.frames ++ [{ newFrame x.nextIdent s.now (pos, e) with
                                                 phase := .finished, status := 1 }] })
          (flushTx r)
       else
        .all [
          ringSet true r fun x =>
            if collecting then
              { x with
                  frames := x.frames.map fun f =>
                    if f.phase == .collecting then { f with entries := f.entries ++ [(pos, e)] } else f }
            else { x with nextIdent := x.nextIdent + 1, frames := x.frames ++ [newFrame x.nextIdent s.now (pos, e)] },
          .when last (.look fun s =>
            .seq (.forEach ((s.hostRing true r).frames.filter fun f => f.phase == .collecting) fun f =>
                .ofOption (s.ringOwner true r) fun fn => .forEach f.reads fun x => hostRead (.data r) fn x.1 x.2)
              (ringSet true r (closeFrame s.now)))])

/-- Uses one entry of a receive ring. -/
def useRx (r : Nat) (pos : Nat) (e : Bytes) : Eff :=
  .seq (ringSet false r fun x => { x.advance with buffers := x.buffers ++ [(pos, e)]
                                                  undefinedNow := x.undefinedNow || !typeAllowed false false (entryType e) })
    (flushRxNoops r)

/-- The outstanding entries of a ring, for the threshold counters (R388). -/
def noteOutstanding (tx : Bool) (r : Nat) : Eff :=
  .look fun s => notePeak (peakKey (if tx then 4 else 5) r) (s.hostRing tx r).outstanding

/-- Uses an entry. -/
def useEntry (tx : Bool) (r pos : Nat) (e : Bytes) : Eff :=
  .seq (if tx then useTx r pos e false else useRx r pos e) (noteOutstanding tx r)

/-- Pushes whose turn has come are used. -/
def usePushes (r : Nat) : Nat → Eff
  | 0 => .skip
  | n + 1 => .look fun s =>
    let ring := s.hostRing true r
    match ring.buffers.find? fun b => b.1 == ring.next with
    | some b =>
      .all [ringSet true r fun x => { x with buffers := x.buffers.filter fun y => y.1 != b.1 }, useTx r b.1 b.2 true, noteOutstanding true r,
        usePushes r n]
    | none => .skip

/-- One entry that a read has brought (R246): `covered` is the tail at the instant the read was issued. -/
def entryArrives (tx : Bool) (r pos covered : Nat) (e : Bytes) : Eff :=
  .look fun s =>
    let ring := s.hostRing tx r
    let n := ring.size
    let m := entryMark e
    let owned := !m.testBit 6 && m / 128 == 1 - posWrap pos && typeAllowed tx false (entryType e)
    -- the tail stood at most N beyond the entry
    let ahead := posDiff n covered pos
    let below := 0 < ahead && ahead ≤ n
    if pos != ring.next || ring.outstanding = n || (tx && ring.buffers.any fun b => b.1 == pos) then .skip
    else if below then
      .seq (useEntry tx r pos e)
        (.when (!owned) (.all [count (pcieItem 13), ringFlag tx r qstsMarkMismatch,
          ringSet tx r fun x => { x with undefinedNow := true }, ringEvent tx r 774 (r + 4096 * pos)]))
    else .when (ring.eager && owned) (.seq (useEntry tx r pos e) (count (pcieItem 12)))

/-- The entries of one read arrive, in ring order. -/
def entriesArrive (tx : Bool) (r covered : Nat) : Nat → List Bytes → Eff
  | _, [] => .skip
  | pos, e :: es => .all [count (pcieItem 10), .when tx (usePushes r 16), entryArrives tx r pos covered e,
      .look fun s => entriesArrive tx r covered (posAdd (s.hostRing tx r).size pos 1) es]

/-- The read of ring entries completes (R246). -/
def entryFetch (tx : Bool) (r position covered : Nat) (entries : List Bytes) : Eff :=
  .all [tlpReceived, count (pcieItem 4),
    .look fun s =>
      let ring := s.hostRing tx r
      let at' := position % 65536 % ring.size
      let first := min entries.length (ring.size - at')
      .ofOption (s.ringOwner tx r) fun fn => readsReturn (.entries tx r) fn
        [(ring.base + 32 * at', 32 * first), (ring.base, 32 * (entries.length - first))],
    .whenS (fun s => (s.hostRing tx r).state == .enabled)
      (.seq (entriesArrive tx r covered position entries) (.when tx (usePushes r 16)))]

/-- A doorbell or push to a ring that is not ENABLED (Table 8.10). -/
def doorbellIgnored (tx : Bool) (r : Nat) : Eff :=
  .all [count (pcieItem 8), ringFlag tx r qstsDbIgnored, ringEvent tx r 772 r]

/-- An IDLE module is woken by a doorbell or push to an ENABLED ring (R274). -/
def hostWake : Eff := idleWake 4 0xFFFF

/-- A doorbell or push to a transmit ring bound to a port wakes that port's grove (R403). -/
def wakeRingGrove (tx : Bool) (r : Nat) : Eff :=
  .look fun s => .when (tx && s.n 0x8200 1 r < 256) (wakeGrove (s.n 0x8200 1 r / 32))

/-- A write to QTAIL (R245), whose differences are all taken modulo 2N: once eagerly used entries have moved QHEAD past the
tail, the bound is N beyond QHEAD. A position has an index below N (R243): any other is no valid doorbell. -/
def doorbellAct (tx : Bool) (r t : Nat) : Eff :=
  .look fun s =>
    let ring := s.hostRing tx r
    let n := ring.size
    let valid := t % 65536 < n && decide (posDiff n t ring.tail ≤ (3 * n - posDiff n ring.tail ring.head) % (2 * n))
    if ring.state != .enabled then doorbellIgnored tx r
    else if !valid then .all [count (pcieItem 9), ringFlag tx r qstsDbInvalid, ringEvent tx r 773 r]
    else .all [count (pcieItem 7), ringSet tx r fun x => { x with tail := position17 t, coveredAt := some s.elapsed },
      hostWake, wakeRingGrove tx r,
      fetchEntries tx r]

/-- A push that is discarded as malformed (R251). -/
def pushMalformed (r : Nat) : Eff :=
  .all [count (pcieItem 6), ringFlag true r qstsPushMalformed, ringEvent true r 775 r]

/-- A push (R251). On a ring that is not ENABLED it is discarded as malformed, and ignored as Table 8.10 says. -/
def pushAct (r : Nat) (window : Bytes) (whole : Bool) : Eff :=
  .look fun s =>
    let ring := s.hostRing true r
    let n := ring.size
    let at' := leAt window 24 4 % 131072
    if ring.state != .enabled then .seq (doorbellIgnored true r) (pushMalformed r)
    else if !whole || window.length != 128 || at' != ring.tail || posDiff n ring.tail ring.head = n then pushMalformed r
    else .all [count (pcieItem 5),
      ringSet true r fun x => { x with
        tail := posAdd n ring.tail 1, buffers := x.buffers ++ [(at', window)], coveredAt := some s.elapsed },
      hostWake, wakeRingGrove true r, .whenS (fun s => s.power.state == .active) (.seq (usePushes r 16) (fetchEntries true r))]

/-- The buffer data of the oldest frame that waits for it arrives (R248): its length beyond 9,216 bytes breaks the rules
of the chain. -/
def txDataArrives (r : Nat) (data : Bytes) : Eff :=
  .all [tlpReceived, count (pcieItem 4),
    .look fun s =>
      match (s.hostRing true r).frames.find? fun f => f.phase == .awaitingData with
      | some f => .seq (.ofOption (s.ringOwner true r) fun fn => readsReturn (.data r) fn f.reads) (ringSet true r fun x => { x with
          undefinedNow := x.undefinedNow || decide (9216 < f.inlineData.length + data.length)
          frames := x.frames.map fun g =>
            if g.ident = f.ident then { g with data := f.inlineData ++ data, phase := .ready } else g })
      | none => .upd (.hostReads fun l => l.filter fun q => q.owner != .data r)]

/-! ## Ring control -/

/-- QCTL.ENABLE written 1 (Table 8.10, R274). -/
def enableRing (tx : Bool) (r : Nat) : Eff :=
  .look fun s =>
    if s.power.stage < 5 then ringFlag tx r qstsWrIgnored
    else .seq (ringSet tx r fun x => { x with enableBit := true })
      (match (s.hostRing tx r).state with
       | .disabled => .seq (ringSet tx r fun x => { x with next := x.head, asked := x.head, fetched := x.head }) (.seq (ringState tx r .enabled) (fetchEntries tx r))
       | .draining => ringState tx r .drainingReenable
       | _ => .skip)

/-- QCTL.ENABLE written 0. -/
def disableByHost (tx : Bool) (r : Nat) : Eff :=
  .look fun s =>
    if s.power.stage < 5 then ringFlag tx r qstsWrIgnored
    else .seq (ringSet tx r fun x => { x with enableBit := false }) (disableRing tx r)

/-- The last ABORTED completion has been issued (Table 8.10). -/
def drainEnds (tx : Bool) (r : Nat) : Eff :=
  .look fun s =>
    let ring := s.hostRing tx r
    let empty := ring.frames.isEmpty && ring.buffers.isEmpty
    let settle := ringSet tx r fun x => { x with tail := x.head, next := x.head, asked := x.head, fetched := x.head, undefinedNow := false }
    match ring.state with
    | .draining => .when empty (.seq settle (ringState tx r .disabled))
    | .drainingReenable => .when empty (.seq settle (.seq (ringState tx r .enabled) (fetchEntries tx r)))
    | _ => .skip

/-- A write of QBASELO, QBASEHI or QCFG (R259, R242): EQ takes the nearer limit of the function's queues. -/
def configWrite (tx : Bool) (r off v : Nat) : Eff :=
  .look fun s =>
    let ring := s.hostRing tx r
    let eqs := match s.ringOwner tx r with
      | some fn => s.n 0x8100 6 fn
      | none => 0
    let home := fun (x : HostRing) => { x with head := 0, tail := 0, next := 0, asked := 0, fetched := 0 }
    if ring.state != .disabled then ringFlag tx r qstsWrIgnored
    else if off = 0x00 then
      ringSet tx r fun x => home { x with base := x.base / 4294967296 * 4294967296 + v % 4294967296 / 64 * 64 }
    else if off = 0x04 then
      ringSet tx r fun x => { x with base := x.base % 4294967296 + v % 4294967296 * 4294967296 }
    else if off = 0x08 then
      ringSet tx r fun x => home { x with logSize := min 16 (max 4 (v % 32)), eager := v.testBit 8
                                          eq := min (v / 65536 % 1024) (eqs - 1) }
    else .skip

/-- HOLDOFF us after the first completion not yet announced (R260). -/
def holdoffFires (tx : Bool) (r : Nat) : Eff :=
  .look fun s =>
    let ring := s.hostRing tx r
    .when (ring.holdoff != 0 && ring.unannounced.any fun t => s.after t (nsUnits (1000 * ring.holdoff)))
      (.seq (ringSet tx r fun x => { x with sinceEvent := 0, unannounced := none })
        (ringEvent tx r 769 (r + 4096 * ring.head)))

/-! ## Errors and functions (R257, R272) -/

/-- An AER error is logged on a link (R275, R276). -/
def pcieError (link status : Nat) (correctable : Bool) : Eff :=
  .seq (count (pcieItem (if correctable then 38 else 39)))
    (raise 778 (link % 256 + 256 * (status % 8388608)))

/-- A DMA read for a ring failed: the affected frame is ABORTED and the ring drains. -/
def dmaReadFails (tx : Bool) (r : Nat) : Eff :=
  .all [count (pcieItem 36), ringFlag tx r qstsDmaError,
    .look fun s => faultOccur 18 ((s.ringOwner tx r).getD 0) fun sev => raiseFull sev 782 0 r (some (s.queueOf tx r)),
    disableRing tx r]

/-- A write to a function's memory failed: nothing further is written there, and AER reports it, with a status that the manual
does not give (a free value, safe: log entry 66). -/
def dmaWriteFails (fn : Nat) : Eff :=
  .all [count (pcieItem 37), .upd (.function fn fun f => { f with writesStopped := true }),
    .look fun s => withFree fun v => pcieError (s.linkOf fn) v false, faultEvent 18 fn 783 fn]

/-- The event queues of a function, disabled and at their reset values. -/
def resetQueuesOf (fn : Nat) : Eff :=
  .look fun s => .forEach ((s.host.queues.map Prod.fst).filter fun q => s.queueOwner q == some fn) fun q =>
    .upd (.queue q fun _ => EventQueue.init)

/-- The MSI-X table entries of a function, masked and at their reset values. -/
def resetVectorsOf (fn : Nat) : Eff :=
  .look fun s => .forEach ((s.host.vectors.map Prod.fst).filter fun v => s.owner 7 v == some fn) fun v =>
    .upd (.vector v fun _ => Vector.init)

/-- Bus Master Enable of a function changes (R257, R272). -/
def busMaster (fn : Nat) (enable : Bool) : Eff :=
  .all [.upd (.function fn fun f => { f with busMaster := enable, writesStopped := f.writesStopped && !enable }),
    setB 0x8101 1 enable fn, .when (!enable) (.seq (resetRingsOf fn) (dropReadsOf fn)), raise 781 (fn + 256 * (if enable then 1 else 0))]

/-- VF Enable of PF1 is set or cleared (R257, R240). -/
def vfEnable (enable : Bool) (numVfs : Nat) : Eff :=
  .look fun s =>
    let n := if enable then min numVfs 64 else 0
    .all [.upd (.hostLinks n enable s.host.linkUpA s.host.linkUpB),
      .when (!enable) (.forEach (List.range 64) fun i => .seq (resetRingsOf (i + 2)) (dropReadsOf (i + 2))),
      .forEach (List.range 64) fun i => setB 0x8101 2 (i < n) (i + 2), raise 780 n]

/-- QCTL.ENABLE of a function's rings returns to its reset value, as a Function Level Reset or PERST leaves it (Table 8.11). -/
def clearEnables (fn : Nat) : Eff :=
  .look fun s =>
    .seq (.forEach ((s.host.tx.map Prod.fst).filter fun r => s.ringOwner true r == some fn) fun r =>
        ringSet true r fun x => { x with enableBit := false })
      (.forEach ((s.host.rx.map Prod.fst).filter fun r => s.ringOwner false r == some fn) fun r =>
        ringSet false r fun x => { x with enableBit := false })

/-- What a reset of a function leaves: the last row of Table 8.10, its own registers at their reset values. -/
def clearFunction (fn : Nat) : Eff :=
  .all [resetRingsOf fn, clearEnables fn, resetQueuesOf fn, resetVectorsOf fn, dropReadsOf fn, .upd (.function fn fun _ => Function.init),
    .whenS (fun s => s.on 0x8101 1 fn) (.seq (setB 0x8101 1 false fn) (raise 781 fn))]

/-- A Function Level Reset (R257). That of PF1 clears its VF Enable too (R236: PCI Express). -/
def functionReset (fn : Nat) : Eff :=
  .all [count (pcieItem 42), bumpObj 0x8101 3 fn, clearFunction fn,
    .whenS (fun s => fn == 1 && s.host.vfEnable) (vfEnable false 0), raise 779 fn]

/-! ## Event queue registers (R261 to R265) -/

/-- EQHEAD is written, with or without ARM. -/
def headWrite (q head : Nat) (arm : Bool) : Eff :=
  .seq (.upd (.queue q fun x => { x with head := position17 head, armed := x.armed || arm }))
    (.whenS (fun s => arm && (s.queue q).tail != (s.queue q).head) (signalQueue q))

/-- EQCFG.ENABLE is set: positions return to 0. -/
def enableQueue (q : Nat) : Eff :=
  .whenS (fun s => !(s.queue q).enabled)
    (.upd (.queue q fun x => { x with enabled := true, head := 0, tail := 0, unsignalled := 0 }))

/-- EQMOD.HOLDOFF has elapsed after the first entry not yet signalled. -/
def queueHoldoff (q : Nat) : Eff :=
  .whenS (fun s => (s.queue q).armed && (s.queue q).holdoff != 0 && (s.queue q).unsignalled != 0 &&
    s.after (s.queue q).firstAt (nsUnits (100 * (s.queue q).holdoff))) (signalQueue q)

/-- The host unmasks a vector: a pending message is sent. -/
def unmaskVector (v : Nat) : Eff :=
  .look fun s =>
    .seq (.upd (.vector v fun x => { x with masked := false, waiting := false }))
      (.when (s.vector v).waiting (sendMsix v))

/-! ## Meanings -/

/-- DOORBELL (R245). -/
def execDoorbell (tx : Bool) (ring position : Nat) (s : State) : Host.Outcome State Fault Refusal :=
  done (powered (.seq tlpReceived (atRing tx ring (doorbellAct tx ring position)))) s
/-- PUSH (R251). -/
def execPush (ring : Nat) (window : Bytes) (whole : Bool) (s : State) : Host.Outcome State Fault Refusal :=
  done (powered (.seq tlpReceived (atRing true ring (pushAct ring window whole)))) s
/-- ENTRY_FETCH_DONE (R246). -/
def execEntryFetchDone (tx : Bool) (ring position covered : Nat) (entries : List Bytes) (s : State) :
    Host.Outcome State Fault Refusal := done (operating (entryFetch tx ring position covered entries)) s
/-- TX_FRAME_COMPLETE (R252). -/
def execTxFrameComplete (ring : Nat) (s : State) : Host.Outcome State Fault Refusal := done (flushTx ring) s
/-- RING_HOLDOFF_TIMER (R260). -/
def execRingHoldoffTimer (tx : Bool) (ring : Nat) (s : State) : Host.Outcome State Fault Refusal :=
  done (holdoffFires tx ring) s
/-- QUEUE_ENABLE (R257). -/
def execQueueEnable (tx : Bool) (ring : Nat) (s : State) : Host.Outcome State Fault Refusal :=
  done (powered (.seq tlpReceived (atRing tx ring (enableRing tx ring)))) s
/-- QUEUE_DISABLE (R257). -/
def execQueueDisable (tx : Bool) (ring : Nat) (s : State) : Host.Outcome State Fault Refusal :=
  done (powered (.seq tlpReceived (atRing tx ring (disableByHost tx ring)))) s
/-- DRAIN_COMPLETE (R257). -/
def execDrainComplete (tx : Bool) (ring : Nat) (s : State) : Host.Outcome State Fault Refusal := done (drainEnds tx ring) s
/-- QUEUE_CONFIG_WRITE (R259). -/
def execQueueConfigWrite (tx : Bool) (ring offset value : Nat) (s : State) : Host.Outcome State Fault Refusal :=
  done (powered (.seq tlpReceived (atRing tx ring (configWrite tx ring offset value)))) s
/-- FUNCTION_LEVEL_RESET (R257). -/
def execFunctionLevelReset (fn : Nat) (s : State) : Host.Outcome State Fault Refusal := done (powered (functionReset fn)) s
/-- BUS_MASTER_CHANGED (R257). -/
def execBusMasterChanged (fn : Nat) (enable : Bool) (s : State) : Host.Outcome State Fault Refusal :=
  done (powered (busMaster fn enable)) s
/-- VF_ENABLE_CHANGED (R257). -/
def execVfEnableChanged (enable : Bool) (numVfs : Nat) (s : State) : Host.Outcome State Fault Refusal :=
  done (powered (vfEnable enable numVfs)) s
/-- DMA_READ_ERROR (R272). -/
def execDmaReadError (tx : Bool) (ring : Nat) (s : State) : Host.Outcome State Fault Refusal := done (dmaReadFails tx ring) s
/-- DMA_WRITE_ERROR (R272). -/
def execDmaWriteError (fn : Nat) (s : State) : Host.Outcome State Fault Refusal := done (dmaWriteFails fn) s
/-- EQ_HEAD_WRITE (R263). -/
def execEqHeadWrite (queue head : Nat) (arm : Bool) (s : State) : Host.Outcome State Fault Refusal :=
  done (powered (.seq tlpReceived (atQueue queue (headWrite queue head arm)))) s
/-- EQ_ENABLE (R265). -/
def execEqEnable (queue : Nat) (s : State) : Host.Outcome State Fault Refusal := done (powered (.seq tlpReceived (atQueue queue (enableQueue queue)))) s
/-- EQ_HOLDOFF_TIMER (R263). -/
def execEqHoldoffTimer (queue : Nat) (s : State) : Host.Outcome State Fault Refusal := done (queueHoldoff queue) s
/-- MSIX_UNMASK (R263). -/
def execMsixUnmask (vector : Nat) (s : State) : Host.Outcome State Fault Refusal := done (powered (.seq tlpReceived (inD0 (fun s => s.owner 7 vector) (unmaskVector vector)))) s

end Sys2Proof.Machine
end

