-- ==== Sys2Proof/Machine/PtpFrame.lean ====
section
/-! DEFINITION. The bytes of the gPTP messages that the module sends (R76). They are those of IEEE 802.1AS-2020, which the
manual names and does not repeat (PRESUMED, unsafe: log entry 10). -/

namespace Sys2Proof.Machine

/-- A timestamp as 10 bytes: seconds and nanoseconds; what is below a nanosecond goes into the correction field. -/
def ptpTime (t : Nat) : Bytes := beBytes 6 (t / secUnits) ++ beBytes 4 (t % secUnits / 65536)

/-- Identity of a port of this clock. -/
def State.portIdentity (s : State) (p : Nat) : Bytes := leBytes 8 (s.n 0x3500 6) ++ beBytes 2 (p + 1)

/-- The common header and body of a message, behind the gPTP destination address and EtherType. -/
def State.ptpFrame (s : State) (p type flags correction sequence : Nat) (interval : Int) (body : Bytes) : Bytes :=
  beBytes 6 0x0180C200000E ++ leBytes 6 (s.obj (portIdx p 0) 6).toNat ++ beBytes 2 0x88F7 ++
    beBytes 1 (16 + type) ++ beBytes 1 2 ++ beBytes 2 (34 + body.length) ++ beBytes 1 (s.n 0x3500 2) ++ [0] ++
    beBytes 2 flags ++ beBytes 8 correction ++ List.replicate 4 0 ++ s.portIdentity p ++ beBytes 2 sequence ++
    beBytes 1 (if type = 0 then 0 else if type = 8 then 2 else 5) ++ beBytes 1 (unsignedOf 1 interval) ++ body

/-- The Follow_Up information TLV. -/
def followUpTlv : Bytes := beBytes 2 3 ++ beBytes 2 28 ++ beBytes 6 0x0080C2000001 ++ List.replicate 22 0

/-- The traffic class of the module's gPTP messages: the manual names none (log entry 34). -/
def ptpClass : Nat := Config.gptpClass % 8

/-- The follow-up of an event message that left at an instant: the local clock, with StaticDelay on SG ports (R77), or a
response's own transmit timestamp. A Pdelay_Req has none. -/
def State.ptpFollowUp (s : State) (p : Nat) (m : PtpEvent) (stamp : Nat) : Option Bytes :=
  match m with
  | .sync q =>
    some (s.ptpFrame p 8 0 ((if isSG p then nsUnits (s.n 0x3401 4 p) else 0) + stamp % 65536) q (s.obj 0x3500 3)
      (ptpTime stamp ++ followUpTlv))
  | .request => none
  | .response q requester => some (s.ptpFrame p 10 0 (stamp % 65536) q 127 (ptpTime stamp ++ beBytes 10 requester))

end Sys2Proof.Machine
end

