-- ==== Sys2Proof/Machine/Ring.lean ====
section
/-! DEFINITION. The ring function (chapter 4): what becomes of a copy at its verification point, the commit of views at the
boundary, ring states, coldstart, admission, wrap and schedule modes. -/

namespace Sys2Proof.Machine

/-! ## What a twin half takes from round frames -/

/-- A renewal of epoch `e` for cycle `c` is seen (R300). -/
def renewalSeen (e c : Nat) : Eff :=
  .look fun s => .when s.twinHalf (.all [
    .when (s.n 0x9021 2 ≤ e)
      (.seq (setN 0x9021 2 e) (.upd (.canopy fun k => { k with lastEpoch := e }))),
    .when (s.twin.lastRenewal.getD 0 ≤ c) (.upd (.canopy fun k => { k with lastRenewal := some k.counter })),
    .upd (.twin fun t => { t with lastRenewal := some (max (t.lastRenewal.getD 0) c), quietSince := s.elapsed }),
    setN 0x9021 5 (max (s.n 0x9021 5) c)])

/-- A verified round frame 0 as a twin half takes it (R300, R305, Table 9.2): a renewal in its header; a standby that misses
the StepRecords of the last 2 cycles while renewals are seen falls SILENT. -/
def twinHeader (leaseState e c : Nat) : Eff :=
  .look fun s => .when s.twinHalf
    (.all [.upd (.twin fun t => { t with quietSince := s.elapsed }),
      .when (leaseState == 1) (.seq (renewalSeen e c)
        (.whenS (fun s => s.twinState == twStandby && 2 ≤ s.twin.missedRun) (setTwinState twSilent)))])

/-- A launching half yields to its peer's renewed epoch (R308): event 848, SILENT, no launch from the next boundary. -/
def yieldToPeer (peerEpoch : Nat) : Eff :=
  .all [.upd (.ring fun g => { g with stopPending := true }), raise 848 peerEpoch, count (twinItem 21),
    setB 0x9021 3 false, .upd (.twin fun t => { t with releasing := none, failAfter := false }),
    setTwinState twSilent]

/-- Whether this half yields to a peer that shows RENEWED with the given epoch (R308, R309). -/
def State.yieldsTo (s : State) (peerEpoch : Nat) (peerName : Nat) : Bool :=
  let own := s.n 0x9021 2
  let t := s.twin
  if own < peerEpoch then true
  else if own == peerEpoch then
    if t.noWitnessHeld && !t.peerNoWitness && t.peerEpoch == own then true
    else if t.noWitnessHeld == t.peerNoWitness || t.peerEpoch != own then
      if t.rankConflict then decide (peerName < s.nodeName) else s.n 0x9020 2 == 1
    else false
  else false

/-- A mismatch between the halves (R295): logged, counted, event 841, an occurrence of class 1. -/
def twinMismatch (kind grove engine sid cycle : Nat) : Eff :=
  .look fun s => .all [
    .upd (.mismatch ⟨s.now, cycle, kind, grove, engine, sid⟩),
    count (twinItem (if kind = 1 then 7 else if kind = 2 then 8 else 9)),
    faultEvent 1 grove 841 (kind % 256 + 256 * grove)]

/-! ## Sections of a verified copy (R98 to R101) -/

/-- Whether this node keeps a view of a section (R104). -/
def State.keepsView (s : State) (r : SecRow) : Bool :=
  s.on 0x4000 5 || s.twinHalf || 0xF00 ≤ r.id || s.n 0x4130 1 (1024 * s.mode + r.row) != 0

/-- Whether views go to engines and host images: not in LISTEN and SAPLING (R104). -/
def State.delivers (s : State) : Bool := s.ringState != ringListen && s.ringState != ringSapling

/-- A NameHash that a reader accepts for a named section (R90). -/
def ownerAccepted (r : SecRow) (c : SectionCopy) : Bool := 0xF00 ≤ r.id || c.hash == nameHash r.owner

/-- The candidate of a section in this cycle. -/
def State.candidate (s : State) (id : Nat) : Candidate := s.ring.candidates.getD id ⟨none, none, none⟩

/-- Replaces the candidate of a section. -/
def setCandidate (id : Nat) (c : Candidate) : Eff := .upd (.ring fun g => { g with candidates := g.candidates.set id c })

/-- The next serial of the message layer's order (R205). -/
def nextSerial : Eff := .upd (.messages fun m => { m with serial := m.serial + 1 })

/-- A section of a good copy of this cycle is taken, eliminated as a duplicate, or held in reserve (R100); an early one that
0x4130 gives to the engines is delivered with it (R101), and counted whether or not its GroveMask names a grove (DESIGN
CHOICE, unsafe: log entry 63). -/
def takeSection (r : SecRow) (c : SectionCopy) : Eff :=
  .look fun s =>
    let k := s.candidate r.id
    if !c.checkOk then .seq (count (wheelItem 12)) (bumpObj 0x4300 5 r.row)
    else if c.status = 1 then
      if !ownerAccepted r c then .seq (count (wheelItem 13)) (raise 467)
      else match k.taken with
        | some _ => .seq (count (wheelItem 14)) (bumpObj 0x4300 4 r.row)
        | none =>
          .all [count (wheelItem 9), setCandidate r.id { k with taken := some (c.payload, c.hash) },
            .when (r.early && s.delivers && (s.n 0x4130 1 (1024 * s.mode + r.row)).testBit 0)
              (.all [nextSerial, count (wheelItem 17), .look fun s =>
                setCandidate r.id { (s.candidate r.id) with early := some (s.messages.serial, s.now) }])]
    else if c.status = 2 then
      let better := match k.held with
        | some h => decide (c.age < h.2.1)
        | none => true
      .when (better && ownerAccepted r c) (setCandidate r.id { k with held := some (c.payload, c.age, c.hash) })
    else .skip

/-- The shadow that is latched at an instant (R295): the newest write since the latch one cycle before. -/
def State.shadowAt (s : State) (sid due : Nat) : Option ShadowWrite :=
  (s.twin.shadows.getD sid []).find? fun w => decide (w.written ≤ due) && decide (due < w.written + s.cycleUnits)

/-- One comparison of a RoleName section of a holder's copy with the shadow latched at its instant (R295): status, age and
payload. One that a task would have filled which had no room in its cycle is left out (R291). -/
def compareShadow (k : ShadowCheck) : Eff :=
  .look fun s =>
    let shadow := s.shadowAt k.sid k.due
    let same := match shadow with
      | some w => k.status == 1 && k.age == 0 && k.payload == slice w.bytes 0 k.length
      | none => k.status == 0 && k.age == 0
    let usual := ((s.twin.shadows.getD k.sid []).head?).map ShadowWrite.engine
    let skipped := shadow.isNone && usual.any fun e => s.twin.skipped.contains (k.cycle, e)
    .when (!skipped) (.seq (count (twinItem 6))
      (.when (!same) (twinMismatch 1 ((shadow.map fun w => w.engine / 16).getD 0)
        ((shadow.map ShadowWrite.engine).getD 0xFF) k.sid k.cycle)))

/-- The shadow comparisons whose latch instant has passed (R295). -/
def settleShadows : Eff :=
  .look fun s =>
    let due := s.twin.shadowChecks.filter fun k => k.due ≤ s.now
    .seq (.upd (.twin fun t => { t with shadowChecks := t.shadowChecks.filter fun k => s.now < k.due }))
      (.forEach due compareShadow)

/-- A section of the holder's copy that a standby compares (R295): at the later of its verification and of the shadow's
latch, the holder's latch instant shifted by MirrorLag. Only what the holder wrote for this cycle is compared. -/
def noteShadow (r : SecRow) (c : SectionCopy) : Eff :=
  .look fun s =>
    let role := s.n 0x9020 3
    if s.twinState != twStandby || role == 0 || r.owner != role || 0xF00 ≤ r.id || !c.checkOk || !ownerAccepted r c ||
        c.status == 2 || c.age != 0 then .skip
    else
      let due := s.cycleStart s.cycle + nsUnits (s.n 0x4110 2 (8 * s.mode + r.round) + s.n 0x9020 6)
      raiseOncePerCycle 841 r.id (.seq
        (.upd (.twin fun t => { t with shadowChecks := ⟨due, s.cycle, r.id, r.length, c.status, c.age, c.payload⟩ :: t.shadowChecks }))
        settleShadows)

/-- The sections of a good copy of this cycle; those of a copy out of step but for its named ones (R121). -/
def takeSections (copy : StagedCopy) : Eff :=
  .look fun s => .forEach (copy.sections.filter fun c => copy.header.mode == s.mode || 0xF00 ≤ c.id) fun c =>
    match s.sectionOf s.mode c.id with
    | some r => .when (s.keepsView r) (.seq (noteShadow r c) (takeSection r c))
    | none => .skip

/-! ## Time from a verified copy (R68, R69, R95) -/

/-- Positions whose Wheels forwarded a copy before it reached this node; none where the position, the size of the ring or the
break that turned the copy is not known. -/
def State.between (s : State) (h : RfHeader) : Option (List Nat) :=
  let pos := s.position
  let size := s.ringSize
  let brk := s.n 0x4001 8
  let span := if h.wrapped then
      (if h.direction == 0 then List.range (brk + 1) else (List.range size).filter (brk < ·))
    else if h.direction == 0 then List.range pos else (List.range size).filter (pos < ·)
  let known := s.ring.placed && (if h.wrapped then brk != 0xFF && size != 0 else h.direction == 0 || size != 0)
  if known then some (span.filter fun k => k != 0 && k != pos) else none

/-- Whether every position between shows DelayValid in a WRITTEN committed presence view (R95). -/
def State.delaysKnown (s : State) (h : RfHeader) : Bool :=
  (s.between h).any fun l => l.all fun k =>
    let v := s.view (0xF40 + k)
    v.status == 1 && 128 ≤ beAt v.value 9 1

/-- The master's time at the receive timestamp of a copy (R69). -/
def State.masterTime (s : State) (copy : StagedCopy) : Nat :=
  let h := copy.header
  (((s.cycleStart h.cycleLow + nsUnits h.originOffset : Nat) : Int) + h.correction * 256 + s.laneDelay copy.west).toNat

/-- The follower's measurement, from the first usable copy of round frame 0 in the cycle (R69). -/
def ringMeasure (copy : StagedCopy) : Eff :=
  .look fun s =>
    .when (!s.ring.rf0Seen && s.timeSource == 1 && copy.header.round == 0 && s.delaysKnown copy.header &&
        (s.ringState == ringSapling || s.ringState == ringFollower))
      (.seq (.upd (.ring fun g => { g with rf0Seen := true }))
        (measured copy.stamp (s.masterTime copy) (decide (1 ≤ s.ring.censusStable))))

/-- Pairs of timestamps on round frame 0 of one cycle give the turn and the loop (R68). -/
def pairTimes (g : Ring) : Ring :=
  let turn := match g.westDeparture, g.westArrival with
    | some (c, t3), some (c', t2) => if c = c' then some (c, (t3 : Int) - t2) else none
    | _, _ => none
  let loop := match g.eastArrival, g.eastDeparture with
    | some (c, t4), some (c', t1) => if c = c' then some (c, (t4 : Int) - t1) else none
    | _, _ => none
  { g with turns := (match turn with
              | some t => if g.turns.head? = some t then g.turns else (t :: g.turns).take 4
              | none => g.turns)
           loops := (match loop with
              | some l => if g.loops.head? = some l then g.loops else (l :: g.loops).take 4
              | none => g.loops) }

/-- Records the timestamps of an unwrapped copy of round frame 0 on its own lane (R68). -/
def recordTimes (copy : StagedCopy) : Eff :=
  .look fun s =>
    let h := copy.header
    let onward := s.ringState != ringMaster
    let leave := fun a b => ((copy.stamp : Int) + s.residence a b).toNat
    if h.round != 0 || h.wrapped then .skip
    else if copy.west && h.direction == 0 then
      .upd (.ring fun g => pairTimes { g with
        westArrival := some (h.cycleLow, copy.stamp)
        eastDeparture := if onward then some (h.cycleLow, leave s.westLane s.eastLane) else g.eastDeparture })
    else if !copy.west && h.direction == 1 then
      .upd (.ring fun g => pairTimes { g with
        eastArrival := some (h.cycleLow, copy.stamp)
        westDeparture := if onward then some (h.cycleLow, leave s.eastLane s.westLane) else g.westDeparture })
    else .upd (.ring fun g => { g with crossSeen := true })

/-! ## Ring states on a verified copy (Table 4.7) -/

/-- Enters a ring state without an event, where the row of Table 4.7 names none. -/
def enterRing (new : Nat) : Eff := setN 0x4001 1 new

/-- Follows a master. -/
def followMaster (hash : Nat) : Eff :=
  .upd (.ring fun g => { g with masterHash := hash, masterSeen := true, masterAbsent := 0,
                                followRequest := none })

/-- Round frame 0 of some master at a node that is not master. -/
def followCopy (h : RfHeader) : Eff :=
  .look fun s =>
    let st := s.ringState
    if h.round != 0 then .skip
    else if st == ringListen then
      .when (!s.ring.inhibited) (.seq (followMaster h.masterHash) (setRingState ringSapling))
    else if st == ringSapling || st == ringFollower then
      if h.masterHash == s.ring.masterHash then
        .upd (.ring fun g => { g with masterSeen := true, masterAbsent := 0 })
      else if st == ringFollower && h.leaseState == 1 && s.ring.witnessEpoch < h.leaseEpoch then
        .seq (followMaster h.masterHash) (raise 458)
      else if 2 ≤ s.ring.masterAbsent then
        .all [followMaster h.masterHash, raise 458, enterRing ringSapling]
      else .skip
    else .skip

/-- A verified RENEWED header sets the witness (Table 4.6), unless a vote lock holds its epoch (R304). -/
def witnessHeader (h : RfHeader) : Eff :=
  .look fun s =>
    let locked := match s.ring.voteLock with
      | some (e, _) => decide (h.leaseEpoch ≤ e)
      | none => false
    .when (h.leaseState == 1 && !locked)
      (.upd (.ring fun g => { g with witnessEpoch := h.leaseEpoch, witnessCycle := some s.cycle, voteLock := none }))

/-- A request in a header, as a follower sees it (R118 to R120). -/
def noteRequest (h : RfHeader) : Eff :=
  .when h.modeRequest (.upd (.ring fun g => { g with followRequest := some (h.targetMode, h.targetCycleLow) }))

/-- An out-of-step header (R121): counted, event 595, its Mode adopted at the next boundary. -/
def outOfStep (h : RfHeader) : Eff :=
  .all [count (wheelItem 20), raise 595, .upd (.ring fun g => { g with adopt := some h.mode })]

/-- Stops launching with the same name on the ring (R108). -/
def duplicateName : Eff :=
  .all [faultEvent 17 0 457 0, .upd (.ring fun g => { g with inhibited := true, listened := none }), enterRing ringListen,
    sourceChanged]

/-- A master receives another master's round frame 0 (R108). -/
def collide (rank name : Nat) : Eff :=
  .look fun s =>
    let own := s.n 0x4000 6
    let yields := Eff.upd (.ring fun g => { g with stopPending := true })
    raiseOncePerCycle 455 0 (.all [raise 455, count (wheelItem 28),
      if rank ≠ own then .when (rank < own) yields
      else .seq (faultEvent 17 0 456 0)
        (if name = s.nodeName then duplicateName else .when (name < s.nodeName) yields)])

/-- The position-0 presence section of a copy. -/
def StagedCopy.presence0 (c : StagedCopy) : Option Bytes :=
  (c.sections.find? fun x => x.id == 0xF40 && x.checkOk && x.status == 1).map SectionCopy.payload

/-- The name in whose hash a launching node writes a section: the row's owner, its own for position sections (R90, R93). -/
def State.writerOf (s : State) (id : Nat) : Nat :=
  match s.sectionOf s.mode id with
  | some r => if id < 0xF00 then r.owner else s.nodeName
  | none => s.nodeName

/-- The master compares its own sections in a returning copy with what it wrote: a difference in a section that passes the
checks of R100 is reported (R111). -/
def loopback (copy : StagedCopy) : Eff :=
  .look fun s => .forEach copy.sections fun c =>
    match s.ring.written.get? c.id with
    | some (st, b) =>
      .when (c.checkOk && (0xF00 ≤ c.id || c.hash == nameHash (s.writerOf c.id)) &&
          (c.status != st || c.age != 0 || c.payload != b))
        (.seq (raise 468) (count (wheelItem 31)))
    | none => .skip

/-- Whether round frame 0 under this master's own MasterHash is not its own: position 0 shows another name or rank than this
master wrote, or a copy is back that it has not launched in the cycle, or that has been back already (R108; DESIGN CHOICE,
unsafe: log entry 60). -/
def State.namesake (s : State) (copy : StagedCopy) (inCycle : Bool) : Bool :=
  let h := copy.header
  let shown := (s.ring.written.get? 0xF40).elim (beBytes 8 s.nodeName) fun w => w.2.take 9
  h.round == 0 && ((copy.presence0.any fun p => p.take shown.length != shown) ||
    (inCycle && (!s.ring.launched.contains (h.round, h.direction) ||
      s.ring.returned.any fun r => r.1 == h.round && r.2.1 == h.direction)))

/-- Whether the presence of a launching node is that of the other half of the twin. -/
def State.fromPeer (s : State) (presence : Bytes) : Bool := s.twinHalf && (beAt presence 9 1).testBit 6

/-- A launching half meets a round frame 0 of its peer (R308): by the epochs as they stand before the header's own is seen. -/
def peerLaunches (copy : StagedCopy) : Eff :=
  .look fun s => .ofOption copy.presence0 fun p =>
    .when (copy.header.masterHash != nameHash s.nodeName && s.fromPeer p && copy.header.leaseState == 1 &&
        s.yieldsTo copy.header.leaseEpoch (beAt p 0 8))
      (yieldToPeer copy.header.leaseEpoch)

/-- A copy terminated at a launching node (R108): its own of this cycle returns, or another master's. -/
def masterCopy (copy : StagedCopy) (inCycle : Bool) : Eff :=
  .look fun s =>
    let h := copy.header
    if h.masterHash == nameHash s.nodeName && !s.namesake copy inCycle then
      .when inCycle (.seq (loopback copy) (.upd (.ring fun g => { g with
        returned := (h.round, h.direction, h.census + (if h.wrapped then 128 else 0)) :: g.returned
        ackUnion := if h.round = 0 then g.ackUnion ||| h.ackMask else g.ackUnion })))
    else if h.round == 0 then
      match copy.presence0 with
      | some p =>
        .when (!s.fromPeer p) (collide (beAt p 8 1) (beAt p 0 8))
      | none => .skip
    else .skip

/-- Updates one lane of the pair. -/
def setLane (west : Bool) (f : Lane → Lane) : Eff :=
  .upd (.ring fun g => if west then { g with west := f g.west } else { g with east := f g.east })

/-- A verified round frame has arrived on a lane (R112). -/
def laneHeard (west : Bool) : Eff := setLane west fun l => { l with seen := true }

/-- The verification point of a copy (R98): nothing of a copy that failed its checks is used. -/
def verifyCopy (copy : StagedCopy) : Eff :=
  .look fun s =>
    let h := copy.header
    let now := s.cycle % 281474976710656
    let inCycle := h.cycleLow == now
    if !copy.good || h.version != 1 || s.ringState == ringDisabled then .skip
    else .all [
      laneHeard copy.west,
      .when (h.round == 0) (.upd (.ring fun g => { g with rf0Verified := true, rf0Absent := 0 })),
      .when (!inCycle) (count (wheelItem 21)),
      .when (h.cycleLow < now) (.seq (count (wheelItem 8)) (raise 462)),
      recordTimes copy,
      .when (s.ringState != ringMaster) (followCopy h),
      .when (h.round == 0) (.seq (.when (s.ringState == ringMaster) (peerLaunches copy)) (twinHeader h.leaseState h.leaseEpoch h.cycleLow)),
      witnessHeader h,
      .when (s.ringState != ringMaster) (.seq (noteRequest h) (.when (h.mode != s.mode) (outOfStep h))),
      .when inCycle (takeSections copy),
      .when (s.ringState == ringMaster) (masterCopy copy inCycle),
      ringMeasure copy]

/-- The oldest unverified copy of a lane reaches its verification point. -/
def verifyNext (lane : Nat) : Eff :=
  .look fun s =>
    match s.ring.staged.find? fun c => c.lane == lane with
    | some copy => .seq (.upd (.ring fun g => { g with staged := g.staged.eraseP fun c => c.lane == lane })) (verifyCopy copy)
    | none => .skip

/-! ## The boundary -/

/-- The instant at which an early delivery becomes readable: 24 datapath cycles after its verification point (R222). -/
def earlyReadable (at' : Nat) : Nat := at' + 1258291

/-- The view that a section commits (R102), and whether a HELD copy was adopted. A task that has started before an early value
was readable sees it fresh at its next run (R223). -/
def commitView (v : View) (k : Candidate) (serial now : Nat) : View × Bool :=
  match k.taken with
  | some (b, h) =>
    (match k.early with
     | some (sr, at') => ⟨b, 0, h, 1, true, sr, earlyReadable at'⟩
     | none => ⟨b, 0, h, 1, true, serial, now⟩, false)
  | none =>
    let age := min (v.age + 1) 255
    let st := fun (b : Bool) => if b then 2 else 0
    match k.held with
    | some (b, a, h) =>
      if a ≤ age then (⟨b, a, h, 2, true, serial, now⟩, true)
      else ({ v with age := age, status := st v.everHeld, serial := serial, since := now }, false)
    | none => ({ v with age := age, status := st v.everHeld, serial := serial, since := now }, false)

/-- Commits one section at the boundary that ends cycle `n`. -/
def commitSection (n : Nat) (r : SecRow) : Eff :=
  .look fun s =>
    let k := s.candidate r.id
    let (v, adopted) := commitView (s.view r.id) k s.messages.serial s.now
    .all [.upd (.ring fun g => { g with
        views := g.views.set r.id v
        earlySeen := match k.early with
          | some (_, t) => g.earlySeen.set r.id (t - s.cycleStart n)
          | none => g.earlySeen.erase r.id }),
      if k.taken.isSome then setN 0x4300 7 n r.row else .seq (count (wheelItem 15)) (bumpObj 0x4300 3 r.row),
      .when adopted (.seq (count (wheelItem 16)) (bumpObj 0x4300 6 r.row))]

/-- Every node commits its section views in one step (R102). -/
def commitViews (n : Nat) : Eff :=
  .look fun s => .all [nextSerial,
    .forEach ((s.sections s.mode).filter s.keepsView) (commitSection n),
    .upd (.ring fun g => { g with candidates := [] })]

/-- RingSize takes a value: a change restarts the delay filter, and the master raises event 454 (R110). -/
def setRingSize (new : Nat) : Eff :=
  .look fun s =>
    if s.ringSize = new then .upd (.ring fun g => { g with censusStable := g.censusStable + 1 })
    else .all [setN 0x4001 3 new, .when (s.ringState == ringMaster) (.seq (raise 454) (count (wheelItem 29))),
      .upd (.ring fun g => { g with censusStable := 0, delaySeeded := false })]

/-- BreakAfter takes a value: a change raises event 453 (R114). -/
def setBreak (new : Nat) : Eff :=
  .whenS (fun s => s.n 0x4001 8 != new) (.seq (setN 0x4001 8 new) (raise 453))

/-- Whether this node launched a copy of round frame 0 in the cycle. -/
def State.launchedZero (s : State) (direction : Nat) : Bool := s.ring.launched.contains (0, direction)

/-- The Census of a launched copy of round frame 0 that came back, 128 higher where it was wrapped. A copy that was not
launched because its lane is lost counts as returned with Census 1 (R114). -/
def State.returnedCensus (s : State) (direction : Nat) : Option Nat :=
  if s.launchedZero direction then
    (s.ring.returned.find? fun r => r.1 == 0 && r.2.1 == direction).map fun r => r.2.2
  else if (if direction == 0 then s.ring.east.lost else s.ring.west.lost) then some (1 + 128)
  else none

/-- RingSize and BreakAfter from the returning copies of round frame 0 (R89, R114): an unwrapped copy brings RingSize. -/
def locateBreak : Eff :=
  .look fun s =>
    match s.returnedCensus 0, s.returnedCensus 1 with
    | some e, some w =>
      let size := if e < 128 then e else if w < 128 then w else e % 128 + w % 128 - 1
      .seq (setRingSize size)
        (setBreak (if e < 128 then 0xFF else if !s.launchedZero 0 then 0 else if !s.launchedZero 1 then size - 1
                   else e % 128 - 1))
    | _, _ => .skip

/-- What a presence view says. -/
structure Presence where
  position : Nat
  name : Nat
  rank : Nat
  flags : Nat
  digest : Nat
  epoch : Nat
  age : Nat

/-- The presence section committed for a position, read from bytes. -/
def readPresence (k : Nat) (b : Bytes) : Presence :=
  ⟨k, beAt b 0 8, beAt b 8 1, beAt b 9 1, beAt b 12 4, beAt b 16 4, beAt b 20 1⟩

/-- The current presence sections of positions 1 to 63 after the commit. -/
def State.present (s : State) : List Presence :=
  (List.range 64).filterMap fun k =>
    if k == 0 then none
    else match s.ring.views.get? (0xF40 + k) with
      | some v => if v.status == 1 then some (readPresence k v.value) else none
      | none => none

/-- A refusal is reported when it begins. -/
def refuse (name source : Nat) (e : Eff) : Eff :=
  .whenS (fun s => !s.ring.refused.contains (name, source))
    (.seq (.upd (.ring fun g => { g with refused := (name, source) :: g.refused })) e)

/-- Where a name counts that more than one node may show (R109): nearest to where it stood last, else at the lowest position. -/
def State.namePosition (s : State) (all : List Presence) (name : Nat) : Option Nat :=
  let places := (all.filter fun q => q.name == name).map Presence.position
  let last := s.ring.admittedAt.getD name 0
  places.foldl (fun (best : Option Nat) (k : Nat) => match best with
    | some b => if absI ((k : Int) - last) < absI ((b : Int) - last) then some k else some b
    | none => some k) none

/-- Whether a name is this node's own, or counts at another position (R109). -/
def State.nameTaken (s : State) (all : List Presence) (p : Presence) : Bool :=
  p.name == s.nodeName || s.namePosition all p.name != some p.position

/-- The master looks at one presence section (R109): `run` cycles running, this one included, have brought its name. -/
def considerNode (all : List Presence) (p : Presence) : Eff :=
  .look fun s =>
    let clash := s.nameTaken all p
    let digestOk := p.digest == s.modeDigest s.mode
    let inside := decide (p.position < s.capacity s.mode)
    let run := s.ring.admitRuns.getD p.name 0 + 1
    .all [
      .when (!s.ring.heard.contains p.name)
        (.all [.upd (.ring fun g => { g with heard := p.name :: g.heard }), raise 449, count (wheelItem 23)]),
      if clash then .when (p.name == s.nodeName || s.ring.admitted.contains p.name) (refuse p.name 457 (faultEvent 17 0 457 0))
      else if s.ring.admitted.contains p.name then .upd (.ring fun g => { g with absentRuns := g.absentRuns.erase p.name })
      else .all [
        .when (!digestOk) (refuse p.name 465 (faultEvent 17 0 465 0)),
        .when (!inside) (refuse p.name 466 (faultEvent 17 0 466 0)),
        .upd (.ring fun g => { g with admitRuns := g.admitRuns.set p.name run }),
        .when (p.flags.testBit 1 && p.flags.testBit 7 && digestOk && inside && s.n 0x4000 0xD ≤ run)
          (.all [.upd (.ring fun g => { g with
              admitted := p.name :: g.admitted
              admitRuns := g.admitRuns.erase p.name
              refused := g.refused.filter fun x => x.1 != p.name }),
            raise 450, count (wheelItem 24)])]]

/-- A name heard before is no longer present: its run of admission restarts; an admitted one counts absent cycles. -/
def absentNodes (all : List Presence) : Eff :=
  .upd (.ring fun g =>
    let gone := g.admitted.filter fun n => !all.any fun p => p.name == n
    { g with absentRuns := gone.foldl (fun m n => m.set n (m.getD n 0 + 1)) g.absentRuns
             admitRuns := g.admitRuns.filter fun e => all.any fun p => p.name == e.1 })

/-- AdmittedMask of the cycle: the positions of the admitted names, the master at 0 (R109). -/
def State.admittedMask (s : State) : Nat :=
  1 + (s.present.filter fun p => s.ring.admitted.contains p.name && !s.nameTaken s.present p).foldl
    (fun m p => m ||| 2 ^ p.position) 0

/-- Whether both ends of the lost link show their restored flags (R115). -/
def State.endsRestored (s : State) : Bool :=
  let brk := s.n 0x4001 8
  let flag := fun k bit =>
    if k == 0 then s.restored (bit != 5)
    else (s.present.any fun p => p.position == k && p.flags.testBit bit)
  brk != 0xFF && flag brk 5 && flag ((brk + 1) % max 1 s.ringSize) 4

/-- The master's work at the boundary that begins cycle `c`. -/
def masterBoundary (c : Nat) : Eff :=
  .all [locateBreak,
    .look fun s => .seq (.forEach s.present (considerNode s.present)) (absentNodes s.present),
    .look fun s => .seq (setN 0x4001 9 s.admittedMask) (.upd (.ring fun g => { g with
      admittedAt := g.admitted.foldl (fun m n => match (s.namePosition s.present n).or (g.admittedAt.get? n) with
        | some k => m.set n k
        | none => m) [] })),
    .look fun s => .all [setN 0x4001 2 0, setN 0x4001 4 s.nodeName,
      .upd (.ring fun g => { g with
          releaseAt := match g.releaseAt with
            | some r => if c ≤ r then some r else (if s.endsRestored then some (c + 2) else none)
            | none => if s.endsRestored then some (c + 2) else none })],
    -- an expired confirmation, should no switch have been commanded, is dropped
    .upd (.ring fun g => match g.request with
      | some q => if q.target < c then { g with request := none, confirm := none } else g
      | none => g)]

/-- A follower reads the committed census section (Table 4.5) at the boundary that begins cycle `c`. -/
def followerBoundary (c : Nat) : Eff :=
  .look fun s =>
    let v := s.view 0xF00
    let b := v.value
    let mask := beAt b 0 8
    let confirm := beAt b 10 1
    let release := (beAt b 12 1).testBit 0
    let at' := c + (beAt b 11 1 + 256 - c % 256) % 256
    .all [
      .when (v.status == 1) (.all [setN 0x4001 9 mask, setRingSize (beAt b 8 1), setN 0x4001 8 (beAt b 9 1),
        .upd (.ring fun g => { g with
          confirmed := if confirm.testBit 7 then some (confirm % 8) else none
          releaseAt := if release then some at' else g.releaseAt.filter fun r => decide (c ≤ r) })]),
      .look fun s => .all [
        .when (s.view 0xF40).everHeld (setN 0x4001 4 (beAt (s.view 0xF40).value 0 8)),
        .when (s.ringState == ringSapling && v.status == 1 && s.ring.placed && mask.testBit s.position)
          (.all [raise 450, setRingState ringFollower])],
      .look fun s => .upd (.ring fun g => { g with masterAbsent := if s.ring.masterSeen then 0 else g.masterAbsent + 1 })]

/-- A lapsed request at a follower: event 594 at the boundary that begins T (R120). -/
def lapseAtFollower (c : Nat) : Eff :=
  .look fun s =>
    match s.ring.followRequest with
    | some (m, low) =>
      if c % 256 = low && s.ring.confirmed != some m then
        .all [raise 594, count (wheelItem 26), .upd (.ring fun g => { g with followRequest := none })]
      else .skip
    | none => .skip

/-- The link delays (R68), computed on the views committed at the boundary that begins cycle `now`. The first value of all is the reference for
event 518 and raises none (DESIGN CHOICE, unsafe: log entry 40); a later seed is held against the last report. -/
def linkDelays (now : Nat) : Eff :=
  .whenS (fun s => s.ring.placed) <| .look fun s =>
    let size := max 1 s.ringSize
    let pos := s.position
    let west := s.view (0xFC0 + (pos + size - 1) % size)
    let east := s.view (0xFC0 + (pos + 1) % size)
    let c := beAt west.value 0 4
    let loopRaw := beAt west.value 8 8
    -- the turns of the last 4 cycles, each paired once; the census has stood since the measured cycle
    let turn := s.ring.turns.find? fun t => t.1 % 4294967296 == c && now ≤ t.1 + 4 && now ≤ t.1 + s.ring.censusStable
    let westStep : Eff := match turn with
      | some (_, t) =>
        if west.status == 1 && loopRaw != notAvailable && !s.ring.west.lost then
          let raw := divFloor (signedOf 8 loopRaw - t) 2
          let old := s.obj 0x3200 1
          let new := if s.ring.delaySeeded && s.ring.west.delayValid
            then old + divFloor (raw - old) (2 ^ s.n 0x3200 3 : Nat) else raw
          let r := s.ring.lastReportedDelay
          let moved := r.any fun r => decide ((nsUnits (s.n 0x3200 4) : Int) < absI (new - r))
          .all [setObj 0x3200 1 new,
            .upd (.ring fun g => { g with west := { g.west with delayValid := true }, delaySeeded := true
                                          lastReportedDelay := if moved || r.isNone then some new else r
                                          turns := g.turns.filter fun t => t.1 % 4294967296 != c }),
            .when moved (raise 518)]
        else .skip
      | none => .skip
    let eastRaw := beAt east.value 16 8
    .all [westStep,
      .when (east.status == 1 && eastRaw != notAvailable && !s.ring.east.lost)
        (.seq (setObj 0x3200 2 (signedOf 8 eastRaw))
          (.upd (.ring fun g => { g with east := { g.east with delayValid := true } }))),
      setN 0x3200 5 pos]

/-- WitnessEpoch and WitnessAge as every copy of cycle `c` carries them (R93). -/
def fixWitness (c : Nat) : Eff :=
  .upd (.ring fun g => { g with
    shownEpoch := g.witnessEpoch
    witnessAge := match g.witnessCycle with
      | some w => min 255 (c - w)
      | none => 255 })

/-- A launching node stops at the boundary (R108, R306, R308): it follows the ring from here, with its clock unstepped. A request
of its own ends, and RequestState is 0 (DESIGN CHOICE, unsafe: log entry 63). -/
def stopLaunching : Eff :=
  .all [.whenS (fun s => s.ringState == ringMaster) (.seq (enterRing ringSapling) sourceChanged),
    .upd (.ring fun g => { g with stopPending := false, request := none, confirm := none, written := [], placed := false }),
    setN 0x4010 4 0]

/-- A lane at a boundary: a cycle in which a round frame was expected on it and none came (R112), and a whole cycle of block
lock (R115). -/
def Lane.atBoundary (l : Lane) (expected : Bool) : Lane :=
  { l with
      seen := false
      silent := if l.seen then 0 else if expected then l.silent + 1 else l.silent
      held := if l.locked then some ((l.held.map (· + 1)).getD 0) else none }

/-- Whether a round frame was expected on a lane in the cycle that ends (R112): at a launching node where it launched, at
another where one came on the other lane (DESIGN CHOICE, unsafe: log entry 41). -/
def State.copyExpected (s : State) (west : Bool) : Bool :=
  if s.ringState == ringMaster then !s.ring.launched.isEmpty
  else (s.ringState == ringSapling || s.ringState == ringFollower) && (if west then s.ring.east.seen else s.ring.west.seen)

/-- What the boundary counts: silent cycles of the lanes, cycles without round frame 0 (R106), whole cycles of the listen
timer (R107). -/
def countCycle : Eff :=
  .look fun s => .upd (.ring fun g => { g with
    west := g.west.atBoundary (s.copyExpected true), east := g.east.atBoundary (s.copyExpected false),
    rf0Absent := if g.rf0Verified then 0 else g.rf0Absent + 1
    listened := if s.ringState == ringListen then some ((g.listened.map (· + 1)).getD 0) else none })

/-- What holds for one cycle only is cleared. -/
def newCycle : Eff :=
  .upd (.ring fun g => { g with
      latchedRounds := [], latched := [], written := [], launched := [], returned := [],
      ackUnion := 0, rf0Seen := false, rf0Verified := false, eastPosSeen := false, masterSeen := false,
      observed := g.passages, passages := [],
      crossRun := if g.crossSeen then g.crossRun + 1 else 0, crossSeen := false })

/-- The ring function at the boundary that begins cycle `c` (R84, R102, R106, R109, R114). A request that is pending when the node
is disabled or loses the ring stays pending (DESIGN CHOICE, unsafe: log entry 63). -/
def ringBoundary (c : Nat) : Eff :=
  .look fun s =>
    if s.ringState == ringDisabled then .skip
    else .all [
      commitViews (c - 1),
      .look fun s => if s.ringState == ringMaster then masterBoundary c
        else .when (s.ringState == ringSapling || s.ringState == ringFollower)
          (.seq (followerBoundary c) (lapseAtFollower c)),
      linkDelays c, fixWitness c,
      .whenS (fun s => s.ring.stopPending) stopLaunching,
      .whenS (fun s => s.ring.disablePending)
        (.all [.whenS (fun s => s.ringState == ringMaster) (.seq (enterRing ringDisabled) sourceChanged),
          enterRing ringDisabled, .upd (.ring fun g => { g with disablePending := false, staged := [] })]),
      countCycle, newCycle]

/-! ## Ring control -/

/-- The listen timer starts (R107). -/
def startListening : Eff := .upd (.ring fun g => { g with listened := none, rf0Absent := 0, placed := false })

/-- RingEnable written 0: the ring function stops at the next boundary. -/
def ringDisableAct : Eff :=
  .whenS (fun s => s.ringState != ringDisabled) (.upd (.ring fun g => { g with disablePending := true }))

/-- This node becomes ring master: position 0 of a ring it drives, with its clock unstepped (R63, R106). A pending request
of the master before is cancelled (R120). A RingSize of 0 becomes 1 before a copy has returned, without event 454 (DESIGN
CHOICE, unsafe: log entry 63). -/
def becomeMaster : Eff :=
  .all [.whenS (fun s => s.ring.request.isSome || s.ring.followRequest.isSome) (.seq (raise 594) (count (wheelItem 26))),
    setRingState ringMaster, setN 0x4001 2 0,
    .look fun s => .seq (setN 0x4001 4 s.nodeName) (.when (s.ringSize == 0) (setN 0x4001 3 1)),
    .upd (.ring fun g => { g with request := none, confirm := none, followRequest := none, stopPending := false,
                                  placed := true, admitRuns := [], absentRuns := [] }),
    sourceChanged]

/-- The cycles that the listen timer runs for (R107). -/
def State.listenCycles (s : State) : Nat :=
  s.n 0x4000 7 + if s.on 0x4000 5 then s.n 0x4000 6 * s.n 0x4000 8 else 0

/-- The listen timer expires, when it has counted its cycles (R107, Table 4.7, R300). -/
def listenExpires : Eff :=
  .look fun s =>
    if s.ringState != ringListen || !(s.ring.listened.any fun n => decide (s.listenCycles ≤ n)) then .skip
    else if s.twinHalf then
      .all [startListening, .when s.twin.lastRenewal.isNone (.seq
        (.upd (.twin fun t => { t with lastRenewal := some s.cycle })) (setN 0x9021 5 s.cycle))]
    else if s.on 0x4000 5 && !s.ring.inhibited then
      .all [becomeMaster, setN 0x4001 9 1,
        .upd (.ring fun g => { g with admitted := [], admittedAt := [], heard := [], refused := [] })]
    else startListening

/-- RingLossCycles without round frame 0 (Table 4.7). -/
def ringLossAct : Eff :=
  .whenS (fun s => (s.ringState == ringSapling || s.ringState == ringFollower) && s.n 0x4000 9 ≤ s.ring.rf0Absent)
    (.all [raise 464, startListening, setRingState ringListen])

/-- An admitted name has been absent for RingLossCycles (R110). -/
def nodeLeftAct (name : Nat) : Eff :=
  .look fun s =>
    .when (s.ringState == ringMaster && s.ring.admitted.contains name && s.n 0x4000 9 ≤ s.ring.absentRuns.getD name 0)
      (.all [.upd (.ring fun g => { g with admitted := g.admitted.erase name, absentRuns := g.absentRuns.erase name,
                                           heard := g.heard.erase name }),
        raise 459, count (wheelItem 25), .look fun s => setN 0x4001 9 s.admittedMask])

/-- A launched copy has not returned by the boundary (R111). -/
def missingAct (round direction : Nat) : Eff :=
  .look fun s =>
    .when (s.ringState == ringMaster && s.ring.launched.contains (round, direction) &&
        !(s.ring.returned.any fun r => r.1 == round && r.2.1 == direction))
      (faultEvent 11 0 470 0)

/-! ## Wrap (R112 to R116) -/

/-- WrapState (0x4001:07) follows the lanes. -/
def showWrap : Eff :=
  .look fun s => setN 0x4001 7 ((if s.ring.west.lost then 1 else 0) + (if s.ring.east.lost then 2 else 0))

/-- The record of a lane of the pair. -/
def State.lane (s : State) (lane : Nat) : Lane := if lane == s.westLane then s.ring.west else s.ring.east

/-- A broken link yields no new delay values (R69): its timestamps are forgotten, the filtered values stay. -/
def forgetPairs (west : Bool) : Eff :=
  .upd (.ring fun g => if west then { g with westArrival := none, westDeparture := none, turns := [] }
    else { g with eastArrival := none, eastDeparture := none, loops := [] })

/-- A lane is lost: its wrap is engaged (R112), or will be once the ring function is enabled. A lane already wrapped only loses
its restored flag (R115). -/
def loseLane (lane : Nat) : Eff :=
  .look fun s =>
    let west := lane == s.westLane
    if !s.isLane lane then .skip
    else if s.ringState == ringDisabled then setLane west fun l => { l with faulted := true }
    else if (s.lane lane).lost then setLane west fun l => { l with restored := false }
    else .all [setLane west fun l => { l with lost := true, restored := false, silent := 0 }, forgetPairs west, showWrap,
      raise 451, count (wheelItem 18)]

/-- The PCS of a lane gains or loses block lock, or reports a fault (R112, R115): the count of whole cycles restarts. -/
def laneLock (lane : Nat) (locked : Bool) : Eff :=
  .whenS (fun s => s.isLane lane) (.look fun s => setLane (lane == s.westLane) fun l =>
    { l with locked := locked, held := none, faulted := l.faulted && !locked })

/-- A lane loses block lock or reports a fault. -/
def laneFails (lane : Nat) : Eff := .seq (laneLock lane false) (loseLane lane)

/-- RingEnable written 1 (Table 4.7, R108): the listen timer starts; any write of 1 clears the inhibition. A stack member
is no ring node (R282). Written before the boundary at which a write of 0 takes effect, it cancels that write (DESIGN CHOICE,
unsafe: log entry 63). -/
def ringEnableAct : Eff :=
  .look fun s => .all [
    .upd (.ring fun g => { g with inhibited := false, disablePending := false }),
    .when (s.ringState == ringDisabled && !s.stackMember) (.all [startListening, enterRing ringListen,
      .forEach [s.westLane, s.eastLane] fun lane => .whenS (fun s => (s.lane lane).faulted) (loseLane lane)])]

/-- A lane that stays up has brought no verified round frame in RoundLossCycles cycles that expected one. -/
def roundsLost (lane : Nat) : Eff :=
  .whenS (fun s => s.isLane lane && !(s.lane lane).lost && s.n 0x4000 0xA ≤ (s.lane lane).silent) (loseLane lane)

/-- Whether a port is a wrapped lane: all that arrives there but MKA and protocol 0x0005 is discarded, and only wrapped copies
and the Kiln's frames leave there (R113, R347). -/
def State.laneWrapped (s : State) (p : Nat) : Bool := s.isLane p && (s.lane p).lost && s.ringState != ringDisabled

/-- What a port that is no wrapped lane does. -/
def offWrap (p : Nat) (e : Eff) : Eff := .whenS (fun s => !s.laneWrapped p) e

/-- A lost lane that has held lock for WrapReleaseHoldoff whole cycles (R115), secured again where MACsec runs (R347). -/
def restoreLane (lane : Nat) : Eff :=
  .look fun s =>
    .when (s.isLane lane && (s.lane lane).lost && ((s.lane lane).held.any fun n => decide (s.n 0x4000 0xC ≤ n)) &&
        (!s.on 0xA020 1 lane || s.hasSas lane))
      (setLane (lane == s.westLane) fun l => { l with restored := true })

/-- The wrap of a lost lane that is restored is released: event 452 (R115). -/
def releaseLane (west : Bool) : Eff :=
  .whenS (fun s => (if west then s.ring.west else s.ring.east).lost && s.restored west)
    (.seq (setLane west fun l => { l with lost := false, restored := false, silent := 0 }) (raise 452))

/-- The announced release boundary (R115): a node whose lost lane is restored releases its wrap. -/
def releaseWrap : Eff :=
  .whenS (fun s => s.ring.releaseAt == some s.cycle)
    (.all [.upd (.ring fun g => { g with releaseAt := none }), releaseLane true, releaseLane false, showWrap])

/-- Two cycles of mismatched Direction (R116): the lanes exchange their roles. -/
def swapLanes : Eff :=
  .look fun s =>
    .when (2 ≤ s.ring.crossRun && (s.ringState == ringFollower || s.ringState == ringSapling))
      (.all [setN 0x4000 2 s.eastLane, setN 0x4000 3 s.westLane,
        .upd (.ring fun g => { g with crossRun := 0, west := g.east, east := g.west }),
        showWrap, raise 469, count (wheelItem 30)])

/-! ## Schedule modes (R117 to R121) -/

/-- Whether RequestGo may be written (R118). -/
def State.requestAllowed (s : State) : Bool :=
  s.ringState == ringMaster && s.ring.request.isNone && s.loaded (s.n 0x4010 1) && s.n 0x4010 1 != s.mode

/-- RequestGo (R118): first carried in this cycle while its round frame 0 has not been launched, else in the next. -/
def requestGoAct : Eff :=
  .look fun s =>
    let q := if s.ring.launched.any fun l => l.1 == 0 then s.cycle + 1 else s.cycle
    let t := q + s.n 0x4010 2
    .all [.upd (.ring fun g => { g with request := some ⟨s.n 0x4010 1, q, t⟩, confirm := none }),
      setN 0x4010 4 1, setN 0x4010 5 t, raise 592]

/-- The counted acks (R119): bit k of the union and a presence section of this cycle with the target's digest. -/
def State.countedAcks (s : State) (target : Nat) : Nat :=
  1 + ((List.range 64).filter fun k => k != 0 && s.ring.ackUnion.testBit k &&
    (match (s.candidate (0xF40 + k)).taken with
     | some (b, _) => beAt b 12 4 == s.modeDigest target
     | none => false)).foldl (fun m k => m + 2 ^ k) 0

/-- The master evaluates a pending request in cycle T - 2 (R120). -/
def evaluateRequest : Eff :=
  .look fun s =>
    match s.ring.request with
    | some q =>
      if s.ringState != ringMaster || s.cycle + 2 != q.target then .skip
      else
        let acks := s.countedAcks q.mode
        let mask := s.n 0x4001 9
        .seq (setN 0x4010 6 acks)
          (if mask &&& acks = mask then
             .seq (.upd (.ring fun g => { g with confirm := some q.mode })) (wakeBefore (s.cycleStart q.target))
           else .all [.upd (.ring fun g => { g with request := none, confirm := none }), setN 0x4010 4 3, raise 594,
             count (wheelItem 26)])
    | none => .skip

/-- The running mode becomes `m` (R105, R120, R124): views of sections that the new mode has at the same length survive,
and the per-section counts restart. -/
def switchMode (m : Nat) : Eff :=
  .look fun s =>
    let kept := s.ring.views.filter fun e =>
      match s.sectionOf s.mode e.1, s.sectionOf m e.1 with
      | some a, some b => a.length == b.length
      | _, _ => false
    .all [setN 0x4001 5 m, .upd (.defaults fun k => k.idx != 0x4300),
      .upd (.ring fun g => { g with views := kept, candidates := [], adopt := none, followRequest := none,
                                    confirmed := none, confirm := none, request := none })]

/-- The mode confirmed for the boundary that begins the present cycle, at the master and at a follower (R120). -/
def State.switchTarget (s : State) : Option Nat :=
  if s.ringState == ringMaster then
    match s.ring.request, s.ring.confirm with
    | some q, some m => if q.target == s.cycle then some m else none
    | _, _ => none
  else match s.ring.followRequest, s.ring.confirmed with
    | some (_, low), some m => if s.cycle % 256 == low then some m else none
    | none, some m => some m
    | _, none => none

/-! ## Meanings -/

/-- ROUND_FRAME_VERIFIED (R98). -/
def execRoundFrameVerified (lane : Nat) (s : State) : Host.Outcome State Fault Refusal :=
  done (operating (verifyNext lane)) s
/-- ROUND_FRAME_MISSING (R111). -/
def execRoundFrameMissing (round direction : Nat) (s : State) : Host.Outcome State Fault Refusal :=
  done (missingAct round direction) s
/-- LISTEN_TIMER_EXPIRY (R107). -/
def execListenTimerExpiry (s : State) : Host.Outcome State Fault Refusal := done listenExpires s
/-- RING_LOSS (R106). -/
def execRingLoss (s : State) : Host.Outcome State Fault Refusal := done ringLossAct s
/-- NODE_LEFT (R110). -/
def execNodeLeft (name : Nat) (s : State) : Host.Outcome State Fault Refusal := done (nodeLeftAct name) s
/-- LANE_LOST (R112). -/
def execLaneLost (lane : Nat) (s : State) : Host.Outcome State Fault Refusal := done (laneFails lane) s
/-- ROUND_LOSS (R112). -/
def execRoundLoss (lane : Nat) (s : State) : Host.Outcome State Fault Refusal := done (roundsLost lane) s
/-- WRAP_RESTORE_HOLDOFF (R115). -/
def execWrapRestoreHoldoff (lane : Nat) (s : State) : Host.Outcome State Fault Refusal := done (restoreLane lane) s
/-- WRAP_RELEASE (R115). -/
def execWrapRelease (s : State) : Host.Outcome State Fault Refusal := done releaseWrap s
/-- LANES_CROSSED (R116). -/
def execLanesCrossed (s : State) : Host.Outcome State Fault Refusal := done swapLanes s
/-- MODE_REQUEST_EVALUATION (R120). -/
def execModeRequestEvaluation (s : State) : Host.Outcome State Fault Refusal := done evaluateRequest s

end Sys2Proof.Machine
end

