-- ==== Sys2Proof/Machine/Segment.lean ====
section
/-! DEFINITION. Segments (chapter 5): slots, the segment clock (R72 to R75), sync frames, start-up and coldstart, drifting
nodes, presence, and schedule modes on a segment. What an accepted frame then does is in `Ingress.lean`. -/

namespace Sys2Proof.Machine

/-! ## Slots and the view -/

/-- The enabled slots of the running segment mode, in row order. -/
def State.slots (s : State) (p : Nat) : List Slot := (List.range 64).filterMap (s.slotOf p (s.segMode p))

/-- The end of the static part, in bit times (R132). -/
def State.staticEnd (s : State) (p : Nat) : Nat := (s.slots p).foldl (fun e x => max e (x.start + x.length)) 0

/-- Whether the module owns a sync slot of the running mode (R141). -/
def State.ownsSync (s : State) (p : Nat) : Bool := (s.slots p).any fun x => x.owner == 0 && x.sync

/-- ActionOffset in bit times, PrecisionBound in ns. -/
def State.actionOffset (s : State) (p : Nat) : Nat := s.segCfg p 3 3
def State.precision (s : State) (p : Nat) : Nat := s.segCfg p 3 2

/-- Bit times that a frame of B bytes occupies (R133): D. -/
def frameBits (p bytes : Nat) : Nat := (bytes + 8) * 8 + (if isSG p then 16 else 0)

/-- The fit rule of a static slot (R133). -/
def State.fitsSlot (s : State) (p bytes : Nat) (x : Slot) : Bool :=
  let w := (s.precision p + s.bitTime p - 1) / s.bitTime p
  s.actionOffset p + w + frameBits p bytes + 96 ≤ x.length

/-- The SegmentDigest of a mode (R146). -/
def State.segDigest (s : State) (p m : Nat) : Nat :=
  shake32 (beBytes 8 (s.segLength p) ++ beBytes 2 (s.actionOffset p) ++ beBytes 4 (s.precision p) ++
    (List.range 64).flatMap fun i =>
      let r := 64 * m + i
      beBytes 1 (s.segCfg p 4 1 r) ++ beBytes 1 (s.segCfg p 4 2 r) ++ beBytes 4 (s.segCfg p 4 3 r) ++
        beBytes 4 (s.segCfg p 4 4 r) ++ beBytes 1 (s.segCfg p 4 5 r) ++ beBytes 1 (s.segCfg p 4 6 r))

/-- Whether a node is listen-only (P+6 column 5). -/
def State.listenOnly (s : State) (p node : Nat) : Bool := s.portOn p 6 5 node

/-- ListenOnlyMask as a little-endian number (Table 5.2): the listed nodes of column 5. -/
def State.listenOnlyMask (s : State) (p : Nat) : Nat :=
  (s.od.dict.filter fun e => e.1.idx == portIdx p 6 && e.1.sub == 5 && e.2 != 0).foldl (fun m e => m ||| 2 ^ e.1.row) 0

/-- o_s in 2^-16 ns. -/
def Segment.offset (g : Segment) : Int := divFloor g.offset48 4294967296

/-- Sets o_s, given in 2^-16 ns. -/
def Segment.withOffset (g : Segment) (o : Int) : Segment := { g with offset48 := o * 4294967296 }

/-- The fixed lead H of the timestamp over the frame's start (R440), in 2^-16 ns. -/
def State.leadUnits (s : State) (p : Nat) : Nat := nsUnits ((if isSG p then 72 else 64) * s.bitTime p)

/-- The frame's start in the local clock. -/
def State.frameStart (s : State) (p stamp : Nat) : Int := (stamp : Int) - s.leadUnits p

/-- An instant's place in the segment cycle of the port's view, in 2^-16 ns from the cycle's start (R128). -/
def State.inCycle (s : State) (p : Nat) (t : Int) : Int :=
  (t + (s.seg p).offset) - ((s.seg p).cycle * nsUnits (s.segLength p) : Nat)

/-! ## Presence (R148) -/

/-- A node is heard: a frame with a good FCS attributed to its ID. The own ID is never recorded. -/
def nodeHeard (p node : Nat) : Eff :=
  .look fun s =>
    let own := if s.portMode p == 1 then 0 else s.port p 2 1
    if !s.keepsPresence p || node == own || 254 < node then .skip
    else .all [
      segSet p fun g => { g with heard := if g.heard.contains node then g.heard else node :: g.heard },
      bumpObj (portIdx p 6) 3 node, setPort p 6 2 (s.seg p).cycle node,
      .when (!(maskBit (s.obj (portIdx p 5) 0) node))
        (.all [setN (portIdx p 5) 0 (s.port p 5 0 ||| 2 ^ node), setPort p 6 1 1 node,
          segSet p fun g => { g with silent := g.silent.erase node },
          raisePort p 4 node, count (portItem p 23)])]

/-- A node leaves after PresenceWindow silent cycles. -/
def nodeLeaves (p node : Nat) : Eff :=
  .look fun s =>
    .when (maskBit (s.obj (portIdx p 5) 0) node && !s.listenOnly p node &&
        s.segCfg p 3 8 ≤ (s.seg p).silent.getD node 0)
      (.all [setN (portIdx p 5) 0 (s.port p 5 0 ^^^ 2 ^ node), setPort p 6 1 0 node,
        segSet p fun g => { g with silent := g.silent.erase node },
        raisePort p 5 node, count (portItem p 24)])

/-- Silent runs at a segment cycle boundary, or at the end of a PLCA round in PortMode 0: present nodes not heard, and
listen-only nodes without a frame. -/
def silentRuns (s : State) (p : Nat) (g : Segment) : Segment :=
  let present := (List.range 255).filter fun n => maskBit (s.obj (portIdx p 5) 0) n
  let bump := fun (m : PMap Nat) (n : Nat) => if g.heard.contains n then m.set n 0 else m.set n (m.getD n 0 + 1)
  { g with
    silent := (present.filter fun n => !s.listenOnly p n).foldl bump g.silent
    quiet := (g.quiet.map Prod.fst).foldl bump g.quiet
    heard := [] }

/-! ## Violations and listen-only (R136, R145) -/

/-- The fault instance of a node (R366). -/
def nodeInstance (p node : Nat) : Nat := p + 1024 * node

/-- A node becomes listen-only when its class 0 instance is lasting. -/
def listenOnlyEntry (p node : Nat) : Eff :=
  .look fun s =>
    let lasting := (s.faults.instances.getD (faultKey 0 (nodeInstance p node)) FaultInstance.init).lasting
    .when (lasting && !s.listenOnly p node)
      (.all [setPort p 6 5 1 node, segSet p fun g => { g with quiet := g.quiet.set node 0 },
        raisePort p 6 node, count (portItem p 25)])

/-- A slot-boundary violation attributed to a slot's owner. -/
def violation (p : Nat) (x : Slot) : Eff :=
  .all [count (portItem p 15), bumpObj (portIdx p 7) 2 x.row, bumpObj (portIdx p 6) 4 x.owner,
    faultOccur 0 (nodeInstance p x.owner) (fun _ => .skip), listenOnlyEntry p x.owner]

/-- The release of a listen-only node (R145). -/
def listenOnlyLeave (p node : Nat) : Eff :=
  .look fun s =>
    .when (s.listenOnly p node && s.segCfg p 3 9 ≤ (s.seg p).quiet.getD node 0)
      (.all [setPort p 6 5 0 node,
        segSet p fun g => { g with quiet := g.quiet.erase node, silent := g.silent.set node 0 },
        raisePort p 7 node, faultClear 0 (nodeInstance p node)])

/-! ## Attribution of a received frame (R136) -/

/-- Where a frame falls in the segment cycle. -/
inductive Placement where
  | slot (x : Slot)
  | gap
  | tail
deriving DecidableEq, Repr

/-- The slot whose span contains a start, else the static part outside every slot, else the tail. Slots of the module's
own direction are not searched on LK ports, where a partner frame outside every partner slot is ordinary traffic (R150). -/
def State.placement (s : State) (p : Nat) (at' : Int) : Placement :=
  let bt : Int := nsUnits (s.bitTime p)
  let here := (s.slots p).filter fun x => isSG p || x.owner != 0
  match here.find? fun x => decide (x.start * bt ≤ at') && decide (at' < (x.start + x.length : Nat) * bt) with
  | some x => .slot x
  | none => if isSG p && 0 ≤ at' && at' < s.staticEnd p * bt then .gap else .tail

/-- The action point of a slot, from the cycle's start, in 2^-16 ns (R132). -/
def State.actionPoint (s : State) (p : Nat) (x : Slot) : Int := nsUnits ((x.start + s.actionOffset p) * s.bitTime p)

/-- Whether a start lies in the receive window of a slot. -/
def State.inWindow (s : State) (p : Nat) (x : Slot) (at' : Int) : Bool :=
  absI (at' - s.actionPoint p x) ≤ (nsUnits (s.precision p) : Nat)

/-- Whether a frame of so many bytes that starts there ends before the slot's end. -/
def State.endsInSlot (s : State) (p : Nat) (x : Slot) (at' : Int) (bytes : Nat) : Bool :=
  at' + nsUnits (frameBits p bytes * s.bitTime p) < nsUnits ((x.start + x.length) * s.bitTime p)

/-- Bytes of a received frame from destination to FCS, SecTAG and ICV included. -/
def State.wireBytes (s : State) (p : Nat) (f : Frame) : Nat :=
  f.data.length + 4 + (if f.icv == .unprotected then 0 else s.macsecBytes p)

/-- Whether a frame's length lies from 64 bytes to MaxFrameLength. -/
def State.lengthOk (s : State) (p : Nat) (f : Frame) : Bool := 64 ≤ s.wireBytes p f && s.wireBytes p f ≤ s.port p 0 5

/-- An overrun of a slot. -/
def slotOverrun (p : Nat) (x : Slot) : Eff :=
  .all [count (portItem p 16), bumpObj (portIdx p 7) 4 x.row, raisePort p 13 x.row]

/-- A frame is accepted as a slot's frame: counted, its row and time recorded. -/
def slotAccept (p : Nat) (x : Slot) (at' : Int) : Eff :=
  .look fun s => .all [count (portItem p 12),
    segSet p fun g => { g with slotsFilled := x.row :: g.slotsFilled },
    setPort p 7 5 (at' - s.actionPoint p x) x.row, setPort p 7 6 (s.seg p).cycle x.row]

/-- A frame from a listen-only node (R145). -/
def listenOnlyDiscard (p node : Nat) : Eff :=
  .seq (bumpObj (portIdx p 6) 7 node) (segSet p fun g => { g with
    heard := if g.heard.contains node then g.heard else node :: g.heard
    quiet := g.quiet.set node 0 })

/-- The tests of R136 on a frame that falls into a slot; `accept` follows when all pass, `bad` where FCS or ICV fails, `misplaced`
on a frame discarded for its place, and `mute` on one of a listen-only owner. The owner is heard by a frame with a good FCS,
and by a violation whatever its FCS (R148). -/
def judgeSlot (p : Nat) (x : Slot) (f : Frame) (accept bad misplaced mute : Eff) : Eff :=
  .look fun s =>
    let at' := s.inCycle p (s.frameStart p f.stamp)
    if s.listenOnly p x.owner then .seq (listenOnlyDiscard p x.owner) mute
    else .seq (.when (f.fcs == .good || !s.inWindow p x at') (nodeHeard p x.owner))
      (if !s.inWindow p x at' then .seq (violation p x) misplaced
       else if !s.endsInSlot p x at' (s.wireBytes p f) then .seq (slotOverrun p x) misplaced
       else if !s.sound p f then bad
       else .seq (slotAccept p x at') accept)

/-- The frame is stored for the message layer with its slot number and segment cycle (R138); the one before it is kept
beside it, 65,536 higher, until this one is readable (R222). -/
def storeSlotFrame (p : Nat) (x : Slot) (payload : Bytes) : Eff :=
  .look fun s => .seq nextSerial (.look fun s' =>
    segSet p fun g => { g with
      received := (match g.received.get? (64 * s.segMode p + x.row) with
        | some old => g.received.set (65536 + 64 * s.segMode p + x.row) old
        | none => g.received).set (64 * s.segMode p + x.row) (payload, g.cycle, s'.messages.serial, s'.now) })

/-- The payload of a frame, after its addresses, tag and EtherType. -/
def framePayload (data : Bytes) : Bytes := if beAt data 12 2 == 0x8100 then data.drop 18 else data.drop 14

/-- A frame that lies in no static slot: as received in the tail, by its sender's transmit opportunity (R138, R145). -/
def tailFrame (p sender : Nat) (f : Frame) (ingress : Eff) : Eff :=
  .look fun s =>
    if s.segmentPort p && s.listenOnly p sender then listenOnlyDiscard p sender
    else .seq (.when (f.fcs == .good && isSG p) (nodeHeard p sender)) ingress

/-- A frame that is no sync frame on a segment-mode port (R136, R138, R150); `ingress` is what takes it, and `misplaced` follows
where its place discards it. -/
def segmentData (p sender : Nat) (f : Frame) (ingress misplaced : Eff) : Eff :=
  .look fun s =>
    if !s.segmentPort p || !s.hasView p then tailFrame p sender f ingress
    else
      match s.placement p (s.inCycle p (s.frameStart p f.stamp)) with
      | .slot x => judgeSlot p x f (.seq (storeSlotFrame p x (framePayload f.data)) ingress) ingress misplaced .skip
      | .gap => .seq (count (portItem p 15)) misplaced
      | .tail => tailFrame p sender f ingress

/-- A node is heard in its transmit opportunity: the round stands at it (R131, R139). -/
def opportunityOf (p sender : Nat) : Eff :=
  .whenS (fun s => isSG p && (s.seg p).plca.current.isSome && sender != s.port p 2 1) (opportunity p sender)

/-! ## Sync frames (R141, R142, R144) -/

/-- The 48-byte body (Table 5.2). -/
structure SyncBody where
  version : Nat
  coldstart : Bool
  modeChange : Bool
  mode : Nat
  nextMode : Nat
  sender : Nat
  viewSynced : Bool
  rank : Nat
  cycle : Nat
  digest : Nat
  mask : Nat

def SyncBody.encode (b : SyncBody) : Bytes :=
  beBytes 1 (b.version * 32 + (if b.coldstart then 16 else 0) + (if b.modeChange then 8 else 0) + b.mode % 8) ++
  beBytes 1 (b.nextMode % 8) ++ beBytes 1 b.sender ++
  beBytes 1 ((if b.viewSynced then 16 else 0) + b.rank % 16) ++ beBytes 8 b.cycle ++ beBytes 4 b.digest ++
  leBytes 32 b.mask

def SyncBody.decode (bs : Bytes) : SyncBody :=
  let b0 := beAt bs 0 1
  let b3 := beAt bs 3 1
  { version := b0 / 32, coldstart := b0.testBit 4, modeChange := b0.testBit 3, mode := b0 % 8,
    nextMode := beAt bs 1 1 % 8, sender := beAt bs 2 1, viewSynced := b3.testBit 4, rank := b3 % 16,
    cycle := beAt bs 4 8, digest := beAt bs 12 4, mask := leAt bs 16 32 }

/-- The sync frame that the module sends (R141, R145, R146). -/
def State.syncFrame (s : State) (p : Nat) : Bytes :=
  let g := s.seg p
  let body : SyncBody :=
    { version := 1, coldstart := s.segState p == segColdstart, modeChange := g.announcing, mode := s.segMode p,
      nextMode := if g.announcing then g.nextMode.getD 0 else 0, sender := 0, viewSynced := s.n 0x3400 1 p == 2,
      rank := s.segCfg p 3 4, cycle := g.cycle, digest := s.segDigest p (s.segMode p), mask := s.listenOnlyMask p }
  envelope 2 2 (s.obj (portIdx p 0) 6) ++ body.encode

/-- Adopts the segment from a frame in a slot (R144): view and counter in one step, then INTEGRATING. -/
def adoptSegment (p : Nat) (x : Slot) (j : Nat) (stamp : Nat) : Eff :=
  .look fun s =>
    let o : Int := (j * nsUnits (s.segLength p) : Nat) + s.actionPoint p x + (nsUnits (s.n 0x3401 4 p) : Nat) -
      s.frameStart p stamp
    .all [segSet p fun g => { g.withOffset o with
            cycle := j, adopting := true, goodCycles := 0, accepted := 0, unsyncedRun := 0, deviations := [],
            previous := [], previousCycle := none, startPending := false },
      setPort p 1 5 j, setN 0x3400 1 1 p, setSegState p segIntegrating]

/-- A sync frame is excluded (R142); a failed digest also counts and is reported once per node and segment cycle. -/
def excludeSync (p : Nat) (b : SyncBody) (digestBad : Bool) : Eff :=
  .look fun s => .seq (count (portItem p 21))
    (.when digestBad (.seq (count (portItem p 29))
      (.when (!(s.seg p).digestReported.contains b.sender)
        (.seq (segSet p fun g => { g with digestReported := b.sender :: g.digestReported }) (raisePort p 11 b.sender)))))

/-- A coldstart collision (Table 5.3): stop sending and back off, for ColdstartBase + SyncRank x 2 ms (R144), without a view
(R138); `node` is 255 for a physical collision. -/
def coldstartCollision (p node : Nat) : Eff :=
  .all [segSet p fun g => { g with startPending := false }, raisePort p 9 node, count (portItem p 26), setN 0x3400 1 0 p,
    .look fun s => segSet p fun g =>
      { g with timerEnd := s.now + nsUnits (s.segCfg p 3 6) + nsUnits (s.segCfg p 3 4 * 2000000) },
    setSegState p segBackoff]

/-- An accepted sync frame with a view: its deviation (R72), and what it means in COLDSTART. -/
def acceptSync (p : Nat) (x : Slot) (b : SyncBody) (f : Frame) : Eff :=
  .look fun s =>
    let at' := s.inCycle p (s.frameStart p f.stamp)
    let d := at' - (s.actionPoint p x + (nsUnits (s.n 0x3401 4 p) : Nat))
    if s.segState p == segColdstart then
      if b.coldstart then coldstartCollision p b.sender else adoptSegment p x b.cycle f.stamp
    else .all [segSet p fun g => { g with
          deviations := g.deviations.set b.sender d, accepted := g.accepted + 1 },
      setPort p 6 6 d b.sender, count (portItem p 20)]

/-- What a received sync frame does (R142): without a view the adoption of R144, else the tests in its slot. -/
def syncTaken (p : Nat) (f : Frame) : Eff :=
  .look fun s =>
    let b := SyncBody.decode (protocolBody f.data)
    let digestBad := b.digest != s.segDigest p (s.segMode p)
    let known := b.version == 1 && b.mode == s.segMode p && !digestBad
    if !s.hasView p then
      if !s.sound p f then count (portItem p 21)
      else if s.listenOnly p b.sender then .seq (listenOnlyDiscard p b.sender) (count (portItem p 21))
      else match (s.slots p).find? fun x => x.sync && x.owner == b.sender && x.owner != 0 with
        | some x => if known then adoptSegment p x b.cycle f.stamp else excludeSync p b digestBad
        | none => excludeSync p b digestBad
    else
      match s.placement p (s.inCycle p (s.frameStart p f.stamp)) with
      | .slot x =>
        judgeSlot p x f
          (if x.sync && b.sender == x.owner && known && b.cycle == (s.seg p).cycle then acceptSync p x b f
           else excludeSync p b digestBad)
          (count (portItem p 21)) .skip (count (portItem p 21))
      | .gap => count (portItem p 15)
      | .tail => if s.sound p f then excludeSync p b digestBad else count (portItem p 21)

/-! ## The segment clock (R73 to R75) -/

/-- Sorted, with k values discarded at each end, and averaged (R73); 0 for no value. -/
def trimmedMean (twoNodes : Bool) (ds : List Int) : Int :=
  let sorted := ds.mergeSort (fun a b => decide (a ≤ b))
  let n := sorted.length
  let k := if twoNodes || n ≤ 2 then 0 else if n ≤ 7 then 1 else 2
  let kept := (sorted.drop k).take (n - 2 * k)
  if kept.isEmpty then 0 else divFloor (kept.foldl (· + ·) 0) kept.length

/-- The offset and rate corrections at the boundary that ends segment cycle `j` (R73, R74). -/
def correctSegment (p j : Nat) : Eff :=
  .look fun s =>
    let g := s.seg p
    let limit := fun sub => (nsUnits (s.n 0x3401 sub p) : Int)
    let raw := trimmedMean (isLK p) (g.deviations.map Prod.snd)
    let c := clampInt (-(limit 2)) (limit 2) raw
    let o := g.offset - c
    let steer := s.clockState == ckLocked || s.ringState == ringMaster
    let e := if steer then clampInt (-(limit 1)) (limit 1) (-o) else 0
    let both := g.deviations.filterMap fun d => (g.previous.get? d.1).map fun ev =>
      divFloor ((d.2 - ev) * two40) (nsUnits (s.segLength p))
    let rl : Int := divFloor (s.obj 0x3401 3 p * two40) 1000000000
    let rraw := trimmedMean (isLK p) both
    let r := clampInt (-rl) rl rraw
    -- an odd cycle is paired with the even cycle before it, and with no other
    let odd := j % 2 == 1 && g.previousCycle == some (j - 1)
    .all [
      segSet p fun g => { g with
        offset48 := g.offset48 + (e - c) * 4294967296
        previous := g.deviations, previousCycle := some j, deviations := [] },
      setN 0x3400 4 g.deviations.length p, setObj 0x3400 5 c p, setObj 0x3400 7 e p,
      .when (c != raw) (raise 533 p),
      .when odd (.all [setObj 0x3400 3 (s.obj 0x3400 3 p - r) p, setObj 0x3400 6 r p,
        .when (r != rraw) (raise 534 p)])]

/-- SYNCED and UNSYNCED (R75). -/
def syncState (p : Nat) : Eff :=
  .look fun s =>
    let g := s.seg p
    if g.accepted != 0 then .seq (segSet p fun g => { g with unsyncedRun := 0 }) (setN 0x3400 1 2 p)
    else
      let run := g.unsyncedRun + 1
      .seq (segSet p fun g => { g with unsyncedRun := run })
        (.when (s.n 0x3401 5 p ≤ run && s.n 0x3400 1 p == 2) (.seq (setN 0x3400 1 1 p) (raise 532 p)))

/-- The tail ends with its segment cycle: its round with it, and frames moved to it that found no transmit opportunity are
dropped with NO_WINDOW (DESIGN CHOICE, unsafe: log entry 43). -/
def dropTail (p : Nat) : Eff :=
  .look fun s => .seq (segSet p fun g => { g with inTail := false, plca := Plca.init, overflow := [] })
    (.forEach (s.seg p).overflow fun x => finishOrigin x.2.origin 3 s.now p x.1 (x.2.cuts != 0))

/-- The state changes of Table 5.3 that a completed segment cycle brings. -/
def segmentProgress (p : Nat) : Eff :=
  .look fun s =>
    let g := s.seg p
    let st := s.segState p
    if st == segColdstart then
      if g.startPending then segSet p fun g => { g with startPending := false, goodCycles := 0 }
      else if 2 ≤ g.goodCycles + 1 then setSegState p segActive
      else segSet p fun g => { g with goodCycles := g.goodCycles + 1 }
    else if st == segIntegrating then
      if g.adopting then segSet p fun g => { g with adopting := false, goodCycles := 0 }
      else if g.accepted == 0 then segmentListen p
      else if 2 ≤ g.goodCycles + 1 then setSegState p segActive
      else segSet p fun g => { g with goodCycles := g.goodCycles + 1 }
    else .when (st == segActive && s.n 0x3400 1 p == 1 && !s.ownsSync p) (segmentListen p)

/-- A segment mode switch in waiting (R146): announced in the cycle that begins at the first boundary, made at the next. -/
def announceMode (p : Nat) : Eff :=
  .look fun s =>
    let g := s.seg p
    match g.nextMode, g.switchAt with
    | some _, none => segSet p fun g => { g with announcing := true, switchAt := some (g.cycle + 1) }
    | _, _ => .skip

/-- A commit that waited takes effect at the boundary (R147), and the port's mode follows it: a mode whose rows it has
enabled or disabled changes what R146 gives the port, which switches at this boundary (DESIGN CHOICE, unsafe: log entry 43). -/
def thaw (p : Nat) : Eff :=
  .look fun s =>
    .when (s.seg p).frozen.isSome (.all [
      segSet p fun g => { g with frozen := none }, setPort p 1 7 0,
      .look fun s =>
        let target := s.segModeFor p s.mode
        .when (target != s.segMode p && (s.seg p).nextMode.isNone)
          (segSet p fun g => { g with nextMode := some target, switchAt := some (g.cycle + 1) })])

/-- A segment cycle boundary of a port's view (R128): the cycle counter goes on, by the new length where a commit has changed
it; what is left of the tail ends (R139). -/
def segmentBoundary (p : Nat) : Eff :=
  .look fun s =>
    if !s.segmentPort p || !s.hasView p then .skip
    else
      let j := (s.seg p).cycle
      let view := (j + 1) * s.segLength p
      .all [
        syncState p, correctSegment p j, .look fun s => segSet p (silentRuns s p),
        thaw p, segmentProgress p, dropTail p,
        .look fun s =>
          let next := view / max 1 (s.segLength p)
          .seq (segSet p fun g => { g with
              cycle := next, switchAt := g.switchAt.map fun _ => next, accepted := 0, slotsFilled := [], digestReported := [] })
            (setPort p 1 5 next),
        announceMode p]

/-- The port's segment mode switches (R146): event reason 10, and SlotStatus restarts. -/
def segmentSwitch (p : Nat) : Eff :=
  .look fun s =>
    let g := s.seg p
    match g.nextMode, g.switchAt with
    | some m, some j =>
      if j ≤ g.cycle then
        .all [latchedEnd p, setPort p 1 4 m, .upd (.defaults fun k => k.idx != portIdx p 7),
          segSet p fun g => { g with nextMode := none, switchAt := none, announcing := false },
          raisePort p 10 m, count (portItem p 28)]
      else .skip
    | _, _ => .skip

/-- The backbone has switched to mode `m` (R146): a further switch replaces NextMode and starts the wait again. -/
def segmentFollows (p m : Nat) : Eff :=
  .look fun s =>
    let target := s.segModeFor p m
    let g := s.seg p
    if !s.segmentPort p then .skip
    else if !s.hasView p then setPort p 1 4 target
    else if target == s.segMode p then
      .when g.nextMode.isSome (segSet p fun g => { g with nextMode := none, switchAt := none, announcing := false })
    else segSet p fun g => { g with nextMode := some target, switchAt := none, announcing := false }

/-! ## Start-up (R143, R144) -/

/-- COLDSTART: o_s := 0, sync frames from the next segment cycle boundary. -/
def beginColdstart (p : Nat) : Eff :=
  .look fun s => .all [
    segSet p fun g => { g with
      offset48 := 0, cycle := s.now / nsUnits (s.segLength p), startPending := true, goodCycles := 0, accepted := 0,
      deviations := [], previous := [], previousCycle := none },
    setPort p 1 5 (s.now / nsUnits (s.segLength p) : Nat), setN 0x3400 1 1 p, setSegState p segColdstart]

/-- Whether the timer that runs on a port has reached its end. -/
def State.timerOver (s : State) (p : Nat) : Bool := decide ((s.seg p).timerEnd ≤ s.now)

/-- The listen timer expires (Table 5.3): a node that may starts the segment, any other restarts the timer. -/
def segmentListenExpires (p : Nat) : Eff :=
  .look fun s =>
    .when (s.segmentPort p && s.segState p == segListen && s.timerOver p)
      (if s.segCfg p 3 5 != 0 && s.ownsSync p then beginColdstart p else startListenTimer p)

/-- The coldstart back-off expires (Table 5.3). -/
def backoffExpires (p : Nat) : Eff :=
  .whenS (fun s => s.segState p == segBackoff && s.timerOver p) (beginColdstart p)

/-! ## Slot ends and PLCA status -/

/-- The end of a slot of another owner: a clearing if no frame was accepted (R137). -/
def slotEnds (p slot : Nat) : Eff :=
  .look fun s =>
    match s.slotOf p (s.segMode p) slot with
    | some x =>
      .when (x.owner != 0 && s.hasView p && !(s.seg p).slotsFilled.contains slot)
        (.seq (count (portItem p 14)) (bumpObj (portIdx p 7) 1 slot))
    | none => .skip

/-- The PLCA status of an SG port changes (R153 reason 3). -/
def plcaStatus (p : Nat) (status : Bool) : Eff :=
  .seq (setPort p 1 2 (if status then 1 else 0)) (raisePort p 3 (if status then 1 else 0))

/-! ## Meanings -/

/-- LISTEN_ONLY_RELEASE (R145). -/
def execListenOnlyRelease (p node : Nat) (s : State) : Host.Outcome State Fault Refusal := done (listenOnlyLeave p node) s
/-- PRESENCE_LEAVE (R148). -/
def execPresenceLeave (p node : Nat) (s : State) : Host.Outcome State Fault Refusal := done (nodeLeaves p node) s
/-- PLCA_STATUS_CHANGED (R153). -/
def execPlcaStatusChanged (p : Nat) (status : Bool) (s : State) : Host.Outcome State Fault Refusal :=
  done (plcaStatus p status) s

end Sys2Proof.Machine
end

