-- ==== Sys2Proof/Machine/Gates.lean ====
section
/-! DEFINITION. Counted length, gate control lists and the fit into a window (chapter 6, R165 to R180): when a class of a
port closes next, and the taking over of an admin list. -/

namespace Sys2Proof.Machine

/-! ## Lengths (R165, R166) -/

/-- F of a frame: destination address to FCS, padded to 60 bytes before the FCS. -/
def frameLen (data : Bytes) : Nat := max 60 data.length + 4

/-- LengthOverhead of a port. -/
def State.overhead (s : State) (p : Nat) : Int := s.obj 0x6000 1 p

/-- Counted length L = F + O, never below 0. -/
def State.counted (s : State) (p len : Nat) : Nat := ((len : Int) + s.overhead p).toNat

/-- Duration of x counted bytes. -/
def State.lasts (s : State) (p : Nat) (x : Int) : Nat := s.txTime p x.toNat

/-- MinFragment in bytes (R178). -/
def State.minFragment (s : State) (p : Nat) : Nat := 64 * (s.n 0x6000 3 p + 1)

/-- Whether pre-emption is active on a port (R181). -/
def State.preempting (s : State) (p : Nat) : Bool := s.on 0x6001 1 p

/-- Whether a class is preemptable on a port: only where pre-emption is active (R168). -/
def State.preemptable (s : State) (p c : Nat) : Bool := s.preempting p && (s.n 0x6000 4 p).testBit c

/-! ## Gate lists (R170, R171) -/

/-- One entry of a gate list. -/
structure GateEntry where
  op : Nat
  states : Nat
  interval : Nat
deriving DecidableEq, Repr

/-- The entries of a list that count: the first `len` rows, without those of interval 0. -/
def State.gateList (s : State) (idx len : Nat) : List GateEntry :=
  ((List.range (min len 1024)).map fun r => (⟨s.n idx 1 r, s.n idx 2 r, s.n idx 3 r⟩ : GateEntry)).filter fun e =>
    e.interval != 0

/-- A list with its time base, in 2^-16 ns. -/
structure GateProgram where
  entries : List GateEntry
  base : Nat
  cycle : Nat

/-- The operating list of a port. -/
def State.operGates (s : State) (p : Nat) : GateProgram :=
  ⟨s.gateList (0x6300 + p) (s.n 0x6101 4 p), s.n 0x6101 1 p, max 1 (nsUnits (s.n 0x6101 2 p))⟩

/-- The admin list of a port. -/
def State.adminGates (s : State) (p : Nat) : GateProgram :=
  ⟨s.gateList (0x6200 + p) (s.n 0x6100 6 p), s.n 0x6100 3 p, max 1 (nsUnits (s.n 0x6100 4 p))⟩

/-- The spans of one cycle, (start, end, entry): entries run in order, the last holds to the cycle's end. -/
def gateSpans (cycle : Nat) : Nat → List GateEntry → List (Nat × Nat × GateEntry)
  | _, [] => []
  | at', [e] => [(at', cycle, e)]
  | at', e :: es =>
    let stop := at' + nsUnits e.interval
    if cycle ≤ at' then [] else (at', min cycle stop, e) :: gateSpans cycle stop es

/-- The offset of an instant in a program's cycle. -/
def GateProgram.offset (g : GateProgram) (t : Nat) : Nat :=
  (((t : Int) - g.base) % (g.cycle : Int)).toNat

/-- The span in force at an instant. -/
def GateProgram.spanAt (g : GateProgram) (t : Nat) : Option (Nat × Nat × GateEntry) :=
  (gateSpans g.cycle 0 g.entries).find? fun x => x.1 ≤ g.offset t && g.offset t < x.2.1

/-- The earliest instant at or after `t` at which the program satisfies a closing condition. -/
def GateProgram.nextClose (g : GateProgram) (closed : GateEntry → Bool) (t : Nat) : Option Nat :=
  let off := g.offset t
  let spans := gateSpans g.cycle 0 g.entries
  let here := spans.filterMap fun x => if off < x.2.1 then some (max t (t - off + x.1), x.2.2) else none
  let next := spans.map fun x => (t - off + g.cycle + x.1, x.2.2)
  ((here ++ next).find? fun x => closed x.2).map Prod.fst

/-- Whether an entry closes class `c`: its gate, or for a preemptable class a hold (R172, R175). -/
def entryCloses (preemptable : Bool) (c : Nat) (e : GateEntry) : Bool :=
  !e.states.testBit c || (preemptable && e.op == 1)

/-! ## When a class closes (R175) -/

/-- The smaller of two optional instants. -/
def earlier : Option Nat → Option Nat → Option Nat
  | some a, some b => some (min a b)
  | some a, none => some a
  | none, b => b

/-- The gate function of a port. -/
def Gate.init : Gate :=
  { states := 255, hold := false, entry := 0, running := false, armedTime := none, armedMode := none }
def State.gate (s : State) (p : Nat) : Gate := s.traffic.gates.getD p Gate.init

/-- Whether gate lists act on a port: BB and LK, and SG in PortMode 0 and 2 (R170). -/
def State.gated (s : State) (p : Nat) : Bool := s.on 0x6100 1 p && !(isSG p && s.segmentPort p)

/-- The mode that the backbone is about to run: the target of a pending request, and its boundary. -/
def State.comingMode (s : State) : Option (Nat × Nat) :=
  if s.ringState == ringMaster then s.ring.request.map fun q => (q.mode, s.cycleStart q.target)
  else s.ring.followRequest.map fun q =>
    (q.1, s.cycleStart (s.cycle + (q.2 + 256 - s.cycle % 256) % 256))

/-- The take-over time that the scheduler takes: a known one, or the target boundary of a request toward the list's
mode. -/
def State.takeOverAt (s : State) (p : Nat) : Option Nat :=
  match (s.gate p).armedTime, (s.gate p).armedMode with
  | some t, _ => some t
  | none, some m => (match s.comingMode with
    | some (m', t) => if m' = m then some t else none
    | none => none)
  | none, none => none

/-- The cycle due at the last cycle start before the take-over does not start (R174): that start, where it lies less than
the extension before `tt`. -/
def State.extendedFrom (s : State) (p tt : Nat) : Option Nat :=
  let oper := s.operGates p
  let start := tt - oper.offset tt
  if start < tt && tt - start < nsUnits (s.n 0x6101 3 p) && (s.gate p).running && !oper.entries.isEmpty then some start
  else none

/-- Closing by the gate lists: the operating list up to the take-over, with the extension of R174, then the new list. -/
def State.listClose (s : State) (p c t : Nat) : Option Nat :=
  if !s.gated p then none
  else
    let pre := s.preemptable p c
    let admin := s.n 0x6100 2 p
    let closed := entryCloses pre c
    let fixed := fun (t : Nat) => if admin.testBit c then none else some t
    let oper := s.operGates p
    let old := fun (t : Nat) =>
      if !(s.gate p).running || oper.entries.isEmpty then fixed t else oper.nextClose closed t
    match s.takeOverAt p with
    | none => old t
    | some tt =>
      let new := s.adminGates p
      let after := fun (t : Nat) => if new.entries.isEmpty then fixed t else new.nextClose closed t
      let extension := s.extendedFrom p tt
      let lastOpen := match (gateSpans oper.cycle 0 oper.entries).getLast? with
        | some x => !closed x.2.2
        | none => true
      let limit := extension.getD tt
      let first := if t < limit then (match old t with
        | some x => if x < limit then some x else none
        | none => none) else none
      match first with
      | some x => some x
      | none => if extension.isSome && t < tt && !lastOpen then some (max t limit) else after (max t tt)

/-- The reserved spans of a lane around an instant (R99): the master's from its schedule, another node's from the
passages of the cycle before; this cycle and the next. -/
def State.reservations (s : State) (p : Nat) : List (Nat × Nat) :=
  if !s.isLane p || s.ringState == ringDisabled then []
  else
    let guard := nsUnits (s.n 0x4000 0xB)
    let tail := s.txTime p 12
    let widen := fun (x : Nat × Nat) => (x.1 - guard, x.1 + x.2 + tail)
    let sched := if s.ringState == ringMaster then
        ((List.range 8).filter fun r => s.on 0x4110 1 (8 * s.mode + r)).flatMap fun r =>
          [s.cycle, s.cycle + 1].map fun c =>
            (s.cycleStart c + nsUnits (s.n 0x4110 2 (8 * s.mode + r)),
              s.txTime p (s.n 0x4110 3 (8 * s.mode + r) + 23 + s.macsecBytes p))
      else []
    let seen := (s.ring.observed.filter fun x => x.1 == p).flatMap fun x =>
      [(x.2.1 + s.cycleUnits, x.2.2), (x.2.1 + 2 * s.cycleUnits, x.2.2)]
    let wrapped := s.ring.west.lost || s.ring.east.lost
    ((if s.ringState == ringMaster then sched ++ (if wrapped then seen else []) else seen)).map widen

/-- The first instant at or after `t` that lies in one of the spans. -/
def firstIn (spans : List (Nat × Nat)) (t : Nat) : Option Nat :=
  spans.foldl (fun acc x => if t < x.2 then earlier acc (some (max t x.1)) else acc) none

/-- Own static slots of a two-node segment act as closed gates, in COLDSTART those in which it sends sync frames (R150). -/
def State.slotSpans (s : State) (p t : Nat) : List (Nat × Nat) :=
  let active := s.segState p == segActive
  if !(isLK p && s.segmentPort p && (active || (s.segState p == segColdstart && !(s.seg p).startPending))) then []
  else
    let off := s.inCycle p (t : Int)
    let bit := fun (n : Nat) => nsUnits (n * s.bitTime p)
    let start := (t : Int) - off
    ((s.slots p).filter fun x => x.owner == 0 && (active || x.sync)).flatMap fun x =>
      [0, nsUnits (s.segLength p)].map fun k =>
        ((start + (bit x.start + k : Nat)).toNat, (start + (bit (x.start + x.length) + k : Nat)).toNat)

/-- The end of the running segment cycle, for the module's own tail transmissions. -/
def State.tailEnd (s : State) (p t : Nat) : Option Nat :=
  if isSG p && s.segmentPort p then
    some ((t : Int) - s.inCycle p (t : Int) + (nsUnits (s.segLength p) : Nat)).toNat
  else none

/-- The part of an interval that some spans, in any order, cover: what the first covers, and what the others cover beside
it. -/
def covered : List (Nat × Nat) → Nat → Nat → Nat
  | [], _, _ => 0
  | x :: rest, a, b =>
    if b ≤ a then 0
    else
      let lo := min b (max a x.1)
      let hi := max lo (min b x.2)
      (hi - lo) + covered rest a lo + covered rest hi b

/-- The time within an interval in which the gates of a port are closed by reservations or own slots (R99, R150, R170). -/
def State.closedWithin (s : State) (p a b : Nat) : Nat := covered (s.reservations p ++ s.slotSpans p a) a b

/-- Closing by a reservation alone. -/
def State.reservedAt (s : State) (p t : Nat) : Option Nat := firstIn (s.reservations p) t

/-- G(c, t): the earliest instant at or after `t` at which class `c` of a port closes; none while nothing closes it. -/
def State.closeTime (s : State) (p c t : Nat) : Option Nat :=
  let held := if s.preemptable p c && (s.gate p).hold then some t else none
  earlier held (earlier (s.listClose p c t) (earlier (s.reservedAt p t)
    (earlier (firstIn (s.slotSpans p t) t) (s.tailEnd p t))))

/-! ## Fitting (R176, R177, R180) -/

/-- Bytes of a queued frame on the wire, SecTAG and ICV included, that are still to be sent. -/
def State.bytesLeft (s : State) (p : Nat) (f : QueuedFrame) : Nat := frameLen f.data + s.macsecBytes p - f.sent

/-- Whether a frame is fragmentable (R176, R177). -/
def State.fragmentable (s : State) (p c : Nat) (f : QueuedFrame) : Bool :=
  s.preemptable p c && decide (2 * s.minFragment p ≤ s.bytesLeft p f)

/-- Counted bytes that the frame, or what is left of it, needs. -/
def State.needs (s : State) (p : Nat) (f : QueuedFrame) : Int :=
  (if f.sent = 0 then (frameLen f.data : Int) else s.bytesLeft p f) + s.overhead p

/-- Whether a head frame may start at `t`. -/
def State.fits (s : State) (p c t : Nat) (f : QueuedFrame) : Bool :=
  let x := if s.fragmentable p c f then (s.minFragment p : Int) + s.overhead p else s.needs p f
  match s.closeTime p c t with
  | some g => decide (t + s.lasts p x ≤ g)
  | none => true

/-- The longest run of open time of class `c` in a repeating list, none if it never closes (R180). -/
def GateProgram.maxOpen (g : GateProgram) (c : Nat) : Option Nat :=
  let spans := gateSpans g.cycle 0 g.entries
  if spans.all fun x => x.2.2.states.testBit c then none
  else
    let twice := spans ++ spans
    let run := twice.foldl (fun (acc : Nat × Nat) x =>
      let now := if x.2.2.states.testBit c then acc.1 + (x.2.1 - x.1) else 0
      (now, max acc.2 now)) (0, 0)
    some run.2

/-- MaxOpen(c) of a port as it stands in 0x6101, in 2^-16 ns; none is infinite. -/
def State.maxOpen (s : State) (p c : Nat) : Option Nat :=
  if !s.gated p || s.obj 0x6101 (8 + c) p = u64Max then none else some (nsUnits (s.n 0x6101 (8 + c) p))

/-- Whether a frame, or what is left of a cut one, can never pass: it is too long for every window of its class (R177,
R180). -/
def State.noWindow (s : State) (p c : Nat) (f : QueuedFrame) : Bool :=
  match s.maxOpen p c with
  | some m =>
    let x := if s.fragmentable p c f then (s.minFragment p : Int) + s.overhead p else s.needs p f
    decide (m < s.lasts p x)
  | none => false

/-! ## Gate states in force -/

/-- Updates the gate function of a port. -/
def gateSet (p : Nat) (f : Gate → Gate) : Eff :=
  .upd (.traffic fun t => { t with gates := t.gates.set p (f (t.gates.getD p Gate.init)) })

/-- Whether class `c` of a port is open as its gate stands. -/
def State.gateOpen (s : State) (p c : Nat) : Bool := !s.gated p || (s.gate p).states.testBit c

/-- The entry in force sets the gates, and a hold where pre-emption is active (R172). -/
def applyEntry (p : Nat) (e : GateEntry) : Eff :=
  .look fun s =>
    let hold := if !s.preempting p then (s.gate p).hold && s.preempting p
      else if e.op = 1 then true else if e.op = 2 then false else (s.gate p).hold
    .all [gateSet p fun g => { g with states := e.states, hold := hold },
      setN 0x6001 3 e.states p, setB 0x6001 4 hold p]

/-- Sets the gates of a port, and no hold. -/
def fixedStates (p states : Nat) : Eff :=
  .all [gateSet p fun g => { g with states := states, hold := false }, setN 0x6001 3 states p, setB 0x6001 4 false p]

/-- Sets the gates to AdminGateStates. -/
def adminStates (p : Nat) : Eff := .look fun s => fixedStates p (s.n 0x6100 2 p)

/-- The gates of a port as its operating list has them now: entries of R171, or AdminGateStates; all open where no list acts
(R170). -/
def gatesNow (p : Nat) : Eff :=
  .look fun s =>
    let holding := match s.takeOverAt p with
      | some tt => (match s.extendedFrom p tt with
        | some start => decide (start ≤ s.now ∧ s.now < tt)
        | none => false)
      | none => false
    if !s.gated p then fixedStates p 255
    else if holding then .skip
    else if !(s.gate p).running then adminStates p
    else match (s.operGates p).spanAt s.now with
      | some x => applyEntry p x.2.2
      | none => adminStates p

/-! ## Take-over (R173, R174) -/

/-- Shows MaxOpen of every class (R180). -/
def showMaxOpen (p : Nat) : Eff :=
  .look fun s => .forEach (List.range 8) fun c =>
    let open' := if !s.on 0x6100 1 p then none
      else if (s.operGates p).entries.isEmpty then
        (if (s.n 0x6100 2 p).testBit c then none else some 0)
      else (s.operGates p).maxOpen c
    setObj 0x6101 (8 + c) (match open' with
      | some m => ((m / 65536 : Nat) : Int)
      | none => u64Max) p

/-- The admin list becomes the operating list, and runs where GateEnable is 1: with it 0, a later enabling starts with
AdminGateStates (R171). -/
def takeOver (p : Nat) : Eff :=
  .look fun s =>
    let len := s.n 0x6100 6 p
    .all [
      .forEach (List.range (min len 1024)) fun r => .forEach [1, 2, 3] fun c =>
        setObj (portTable 0x6300 p) c (s.obj (0x6200 + p) c r) r,
      setN 0x6101 1 (s.n 0x6100 3 p) p, setN 0x6101 2 (s.n 0x6100 4 p) p, setN 0x6101 3 (s.n 0x6100 5 p) p,
      setN 0x6101 4 len p, setB 0x6101 5 false p, setB 0x6100 8 false p, bumpObj 0x6101 7 p,
      gateSet p fun g => { g with running := s.on 0x6100 1 p, hold := false, armedTime := none, armedMode := none },
      raise 642 p, showMaxOpen p, gatesNow p]

/-- The take-over time of an admin list armed at `ta` (R173). -/
def State.takeOverTime (s : State) (p ta : Nat) : Nat :=
  let g := s.adminGates p
  if ta ≤ g.base then g.base else g.base + (ta - g.base + g.cycle - 1) / g.cycle * g.cycle

/-- Arms the admin list of a port, or computes its take-over again (R173). -/
def armGates (p : Nat) : Eff :=
  .look fun s =>
    let m := s.n 0x6100 7 p
    if m = 0xFF || m = s.mode then
      let tt := s.takeOverTime p s.now
      .all [gateSet p fun g => { g with armedTime := some tt, armedMode := none }, setB 0x6101 5 true p,
        setN 0x6101 6 tt p]
    else .seq (gateSet p fun g => { g with armedTime := none, armedMode := some m }) (setB 0x6101 5 true p)

/-- PendingArm 0 disarms the list. -/
def disarmGates (p : Nat) : Eff :=
  .seq (gateSet p fun g => { g with armedTime := none, armedMode := none }) (setB 0x6101 5 false p)

end Sys2Proof.Machine
end

