-- ==== Sys2Proof/Machine/Traffic.lean ====
section
/-! DEFINITION. Class queues and the MAC of a port (chapter 6): enqueuing, credit shapers, the choice of the next frame,
cutting a preemptable frame, and the end of a transmission. -/

namespace Sys2Proof.Machine

/-! ## Queues (R167, R192) -/

def classQueue (p c : Nat) : Nat := 8 * p + c
def State.queued (s : State) (q : Nat) : List QueuedFrame := s.traffic.queues.getD q []

/-- Depth of a queue: the sum of F of its frames. -/
def State.depth (s : State) (q : Nat) : Nat := (s.queued q).foldl (fun n f => n + frameLen f.data) 0

def queueSet (q : Nat) (f : List QueuedFrame → List QueuedFrame) : Eff :=
  .upd (.traffic fun t => { t with queues := t.queues.set q (f (t.queues.getD q [])) })

/-- The grove of a port. -/
def groveOf (p : Nat) : Nat := p / 32
def groveCount (p i : Nat) : Eff := count (groveItem (groveOf p) i)

/-- The MAC of a port. -/
def Mac.init : Mac :=
  { current := none, moved := false, startedAt := 0, cutAt := none, verifySent := 0, tries := 0, backoffEnd := 0 }
def State.mac (s : State) (p : Nat) : Mac := s.traffic.macs.getD p Mac.init
def macSet (p : Nat) (f : Mac → Mac) : Eff :=
  .upd (.traffic fun t => { t with macs := t.macs.set p (f (t.macs.getD p Mac.init)) })

/-! ## Credit shapers (R182, R183) -/

/-- The credit of a port-class brought up to now, in 2^-16 byte: it stands still while the gate is closed and the class does
not transmit. -/
def State.shaperCredit (s : State) (q : Nat) : Int :=
  let p := q / 8
  let c := q % 8
  let k := s.traffic.shapers.getD q ⟨0, s.now⟩
  let mode := s.n 0x6400 1 q
  let sending := match (s.mac p).current with
    | some (c', _) => c' == c
    | none => false
  if mode = 0 then 0
  else if !s.gateOpen p c && !sending then k.credit
  else
    let open' : Int := (s.now : Int) - k.at16 - (if sending then 0 else s.closedWithin p k.at16 s.now : Nat)
    let x := k.credit + divFloor (open' * s.obj 0x6400 2 q) 8000000
    let x := if mode = 2 && (s.queued q).isEmpty then min x 0 else x
    if mode = 1 then min x (s.obj 0x6400 3 q * 65536) else x

/-- Brings a shaper up to now and takes `x` bytes from it. -/
def chargeShaper (q : Nat) (x : Int) : Eff :=
  .look fun s => .upd (.traffic fun t => { t with shapers := t.shapers.set q ⟨s.shaperCredit q - x * 65536, s.now⟩ })

/-- Brings a shaper up to now. -/
def touchShaper (q : Nat) : Eff := chargeShaper q 0

/-- All eight shapers of a port, before its gates change. -/
def touchShapers (p : Nat) : Eff := .forEach (List.range 8) fun c => touchShaper (classQueue p c)

/-- A commit has changed the mode, Rate or BurstSize of a shaper (R183): a mode change sets the credit to 0, else positive
credit is clipped to the burst. -/
def shaperCommit (q : Nat) (modeChanged : Bool) : Eff :=
  .look fun s =>
    let k := s.traffic.shapers.getD q ⟨0, s.now⟩
    let x := if modeChanged then 0 else min k.credit (s.obj 0x6400 3 q * 65536)
    .upd (.traffic fun t => { t with shapers := t.shapers.set q ⟨x, s.now⟩ })

/-- Whether the shaper lets a frame of the class start. -/
def State.shaperAllows (s : State) (q : Nat) : Bool := s.n 0x6400 1 q == 0 || decide (0 ≤ s.shaperCredit q)

/-! ## Observation in high-water mode (R192, R194) -/

/-- ObserveMode of a queue's group. -/
def State.observeMode (s : State) (q : Nat) : Nat := s.n 0x6800 1 (q / 64)

/-- Raises a high-water mark, saturating at 32 bits. -/
def raiseMark (q col v : Nat) : Eff :=
  .whenS (fun s => s.observeMode q == 2 && decide (s.n 0x6810 col q < v)) (setN 0x6810 col (min v 4294967295) q)

/-! ## Dropping -/

/-- The first queue drop on a port in each backbone cycle raises event 644 (R167). -/
def queueDrop (p c handle : Nat) : Eff :=
  .all [groveCount p 4, bumpObj 0x6410 6 (classQueue p c), .when (handle < 8192) (bumpObj 0x6021 7 handle),
    raiseOncePerCycle 644 p (raise 644 p)]

/-- Removes the head frame of a queue. -/
def popHead (q : Nat) : Eff := queueSet q fun l => l.drop 1

/-! ## Enqueuing (R162, R167) -/

/-- The frames that a segment holds outside class queues: latched for a slot, leaving in one, or moved to the tail. -/
def Segment.held (g : Segment) : List QueuedFrame :=
  g.latched.map Prod.snd ++ g.leaving.map (fun x => x.2.frame) ++ g.overflow.map Prod.snd

/-- The frames that ports hold until their last bit has been sent, each with its port: queued, in progress, or held for a
segment (R23). -/
def State.stored (s : State) : List (Nat × QueuedFrame) :=
  (s.traffic.queues.flatMap fun q => q.2.map fun f => (q.1 / 8, f)) ++
    (s.traffic.macs.filterMap fun m => m.2.current.map fun x => (m.1, x.2)) ++
    s.segments.flatMap fun g => g.2.held.map fun f => (g.1, f)

/-- What tells stored copies apart: a relayed or host frame is stored once and referenced by each queue; each other frame is
its own copy (R23, R162). -/
def storedKey (x : Nat × QueuedFrame) : Origin × Nat × Bytes × Nat :=
  match x.2.origin with
  | .relayed p sh => (.relayed p sh, x.2.received, x.2.data, 0)
  | .host r i => (.host r i, 0, x.2.data, groveOf x.1)
  | o => (o, x.2.enqueued, x.2.data, x.1)

/-- Whether a stored frame lies in the shared frame buffer, else in the SRAM of its port's grove: a relayed frame with an
egress in another grove than its ingress stays in the buffer until its last copy has been sent (R23). -/
def inShared (f : QueuedFrame) : Bool :=
  match f.origin with
  | .relayed _ sh => sh
  | _ => false

/-- Whether a stream's frames are forwarded to members of the stack (R286). -/
def State.forwards (s : State) (h : Nat) : Bool := s.stackMaster && h < 8192 && s.n 0x9013 1 h != 0

/-- The bytes of stored frames, each counted once. -/
def State.storedBytes (s : State) (which : Nat × QueuedFrame → Bool) : Nat :=
  (((s.stored.filter which).map storedKey).eraseDups).foldl (fun n k => n + frameLen k.2.2.1) 0

/-- What forwarded frames hold in the shared frame buffer and its extension (R286). -/
def State.forwardedBytes (s : State) : Nat := s.storedBytes fun x => inShared x.2 && s.forwards x.2.handle

/-- What the members present have lent (R286). -/
def State.lentBytes (s : State) (below : Nat) : Nat :=
  ((List.range below).filter s.memberPresent).foldl (fun n m => n + s.twin.lent.getD m 0) 0

/-- Lent memory in use at the master: forwarded frames take it before the shared frame buffer (R286; DESIGN CHOICE, unsafe: log
entry 51). -/
def State.lentInUse (s : State) : Nat := min (s.lentBytes 4) s.forwardedBytes

/-- The part of a member's lent memory in use: that of the lower positions goes first (DESIGN CHOICE, unsafe: log entry 51). -/
def State.lentUseOf (s : State) (m : Nat) : Nat :=
  if s.memberPresent m then min (s.twin.lent.getD m 0) (s.lentInUse - s.lentBytes m) else 0

/-- Memory that stored frames hold: in the shared frame buffer, without what lent memory takes, or in the SRAM of a grove. -/
def State.heldBytes (s : State) (shared : Bool) (g : Nat) : Nat :=
  if shared then (s.storedBytes fun x => inShared x.2) - s.lentInUse
  else s.storedBytes fun x => !inShared x.2 && groveOf x.1 == g

def sharedBufferBytes : Nat := 16777216
def groveSramBytes : Nat := 6291456

/-- Whether memory is left for a frame on a port: a copy that is stored already takes none. What a member lends leaves its groves,
and extends the master's shared frame buffer for forwarded frames (R286). -/
def State.memoryFor (s : State) (p : Nat) (f : QueuedFrame) : Bool :=
  (s.stored.any fun x => storedKey x == storedKey (p, f)) ||
    (if inShared f then decide (s.heldBytes true 0 + frameLen f.data ≤
        sharedBufferBytes + if s.forwards f.handle then s.lentBytes 4 - s.lentInUse else 0)
     else decide (s.heldBytes false (groveOf p) + frameLen f.data ≤ groveSramBytes - (if s.stackMember then s.n 0x9012 0 / 8 else 0)))

/-- Whether a frame fits below QueueLimit. -/
def State.queueRoom (s : State) (q len : Nat) : Bool := s.depth q + len ≤ s.n 0x6400 4 q

/-- A frame joins its class queue. -/
def joinQueue (p c : Nat) (f : QueuedFrame) : Eff :=
  .look fun s =>
    let q := classQueue p c
    .all [touchShaper q, queueSet q (fun l => l ++ [{ f with enqueued := s.now }]), groveCount p 0,
      .look fun s => .seq (raiseMark q 1 (s.depth q)) (notePeak q (s.depth q)),
      .look fun s => .seq (notePeak (peakKey 2 0) (s.heldBytes true 0))
        (notePeak (peakKey 3 (groveOf p)) (s.heldBytes false (groveOf p))),
      wakeGrove (groveOf p)]

/-- The port through which a relayed frame came in; for any other, the port that it leaves by. -/
def QueuedFrame.ingress (f : QueuedFrame) (p : Nat) : Nat :=
  match f.origin with
  | .relayed o _ => o
  | _ => p

/-- A relayed or module frame joins its class queue, or is dropped when the queue or memory is full (R167). Each frame dropped
for want of grove SRAM raises GroveSramExhausted (DESIGN CHOICE, unsafe: log entry 54). -/
def admitFrame (p c handle : Nat) (f : QueuedFrame) : Eff :=
  .look fun s =>
    if !s.queueRoom (classQueue p c) (frameLen f.data) then queueDrop p c handle
    else if !s.memoryFor p f then
      .all [count (if inShared f then commonsItem 22 else portItem (f.ingress p) 31), queueDrop p c handle,
        .when (!inShared f) (.seq (groveCount p 31) (raise (384 + 8 * groveOf p + 6))),
        -- lent memory is exhausted
        .when (inShared f && s.forwards f.handle)
          (.forEach ([1, 2, 3].filter fun m => s.memberPresent m && s.twin.lent.getD m 0 != 0) fun m => raise 854 m)]
    else joinQueue p c f

/-- A frame of the module's own: a gPTP message whose transmit timestamp is needed, or another. -/
def State.ownFrame (s : State) (o : Origin) (data : Bytes) : QueuedFrame :=
  { data := data, origin := o, handle := 0xFFFF, enqueued := s.now, received := s.now, launch := none, sent := 0, cuts := 0,
    heldCounted := false, began := none }

/-- The follow-ups owed for the gPTP event messages that a port has sent join their class queue (R76). -/
def queueFollowUps (p : Nat) : Eff :=
  .look fun s =>
    .when (!(s.gptpPort p).owed.isEmpty)
      (.seq (gptpSet p fun g => { g with owed := [] })
        (.forEach (s.gptpPort p).owed fun e => .ofOption (s.ptpFollowUp p e.1 e.2) fun data =>
          admitFrame p ptpClass 0xFFFF (s.ownFrame .module data)))

/-! ## The MAC (R168, R176 to R180) -/

/-- Position in the plain frame data of byte `x` of the frame on the wire. -/
def State.plainOffset (s : State) (p x : Nat) : Nat :=
  let tag := s.macsecBytes p - 16
  if x ≤ 12 then x else if x ≤ 12 + tag then 12 else x - tag

/-- Whether PLCA rules the transmissions of a port: in segment mode, and in PortMode 0 at the coordinator and at a follower
that hears beacons; without them a follower falls back to CSMA/CD (R131, R139). -/
def State.plcaRules (s : State) (p : Nat) : Bool :=
  isSG p && (s.segmentPort p || (s.portMode p == 0 && (s.coordinates p || s.portOn p 1 2)))

/-- Whether a port can send frames outside its slots at all: its grove runs (R10), it is not silenced; an SG port under PLCA only
in its own transmit opportunity, in segment mode in the tail (R131, R139, R169). -/
def State.mayTransmit (s : State) (p : Nat) : Bool :=
  s.groveOn (groveOf p) && !s.portSilenced p &&
    (!s.plcaRules p || ((s.seg p).plca.isOpen && (!s.segmentPort p || (s.seg p).inTail)))

/-- A frame of the Kiln: a fragment of a Kiln message or an MKPDU. It needs no transmit SA, and leaves on a wrapped lane too
(R347, Table 10.15). -/
def Origin.ofKiln : Origin → Bool
  | .kiln | .mkpdu _ => true
  | _ => false

/-- A frame of the module starts in its transmit opportunity, which stays open for MaxBurstCount more (R131). -/
def burstFrame (p : Nat) : Eff :=
  .whenS (fun s => s.plcaRules p)
    (.look fun s => plcaSet p fun a => { a with isOpen := decide (a.sent < s.port p 2 4), sent := a.sent + 1 })

/-- Its last bit has passed: counted, and the opportunity ends, after BurstTimer where a burst may go on (R131, R154). -/
def burstFrameEnds (p : Nat) : Eff :=
  .whenS (fun s => s.plcaRules p)
    (.look fun s => .seq (count (portItem p 10))
      (plcaSet p fun a => { a with
        expires := s.now + (if a.isOpen then nsUnits (s.port p 2 5 * s.bitTime p) else 0) }))

/-- The first bit of a host frame has passed the MAC point (R258). -/
def hostStarted (o : Origin) : Eff :=
  match o with
  | .host r i => .upd (.txRing r fun x => { x with
      frames := x.frames.map fun g => if g.ident = i then { g with startedTx := true } else g })
  | _ => .skip

/-- The MAC has a frame in progress, `moved` to the tail or from its class queue: its first byte passes now. -/
def inProgress (p c : Nat) (moved : Bool) (f : QueuedFrame) : Eff :=
  .look fun s => .seq
    (macSet p fun m => { m with
      current := some (c, { f with began := some (f.began.getD s.now) }), moved := moved, startedAt := s.now, cutAt := none })
    (hostStarted f.origin)

/-- A frame starts: charged to its shaper, counted, and in progress (R182, R192). -/
def startFrame (p c : Nat) (f : QueuedFrame) : Eff :=
  .look fun s =>
    let q := classQueue p c
    let len := frameLen f.data
    .all [
      burstFrame p,
      chargeShaper q (if f.sent = 0 then (s.counted p len : Int) else 24), popHead q,
      if f.sent = 0 then .all [raiseMark q 2 ((s.now - f.enqueued) / 65536), groveCount p 1, sampleFrame p c f]
      else groveCount p 6,
      inProgress p c false f]

/-- A frame is emitted whole, or its last fragment. An MKPDU is outside MACsec, and the manual names what it says without
its bytes (R344); another frame uses a packet number where a transmit SA is in use. -/
def sentFrame (p : Nat) (o : Origin) (data : Bytes) : Eff :=
  match o with
  | .mkpdu m => emit (.mkpdu p m)
  | _ => .seq (emit (.frame p data false true)) (usePacketNumber p)

/-- The last bit of the frame in progress, or of the fragment to which it is cut, has passed. -/
def endFrame (p : Nat) : Eff :=
  .look fun s =>
    let m := s.mac p
    match m.current with
    | none => .skip
    | some (c, f) => .seq (touchShaper (classQueue p c)) <|
      match m.cutAt with
      | some x =>
        .all [
          emit (.frame p (slice f.data (s.plainOffset p f.sent)
            (s.plainOffset p (f.sent + x) - s.plainOffset p f.sent)) false false),
          macSet p fun m => { m with current := none, cutAt := none }, groveCount p 5, bumpObj 0x6410 7 (classQueue p c),
          queueSet (classQueue p c) fun l => { f with sent := f.sent + x, cuts := f.cuts + 1 } :: l]
      | none =>
        let stamp := s.txStamp p (f.began.getD m.startedAt)
        .all [
          sentFrame p f.origin (f.data.drop (s.plainOffset p f.sent)),
          macSet p fun m => { m with current := none, tries := 0 },
          count (portItem p 2), countN (portItem p 3) (frameLen f.data),
          burstFrameEnds p,
          finishOrigin f.origin (s.okStatus f stamp) stamp p c (f.cuts != 0)]

/-- Attempts of a frame on a shared medium, and the longest back-off exponent (PRESUMED, unsafe: log entry 59). -/
def maxAttempts : Nat := 16
def maxBackoff : Nat := 10

/-- Another node has sent on the shared medium during the frame in progress (R131): the collision is counted, and the frame
returns to the head of where it came from, for a back-off whose length nothing in the manual fixes; after its last attempt it
is given up, with a status that the manual does not give (free values, safe; attempts and slot time PRESUMED, unsafe: log
entry 59). -/
def collided (p : Nat) : Eff :=
  .look fun s =>
    let m := s.mac p
    .ofOption m.current fun x => withFree fun v => .seq (count (portItem p 7))
      (if maxAttempts ≤ m.tries + 1 then
        .seq (macSet p fun m => { m with current := none, tries := 0 })
          (finishOrigin x.2.origin (v % 256) s.now p x.1 (x.2.cuts != 0))
       else .all [
        macSet p fun m => { m with
          current := none, tries := m.tries + 1
          backoffEnd := s.now + v % 2 ^ min maxBackoff (m.tries + 1) * nsUnits (512 * s.bitTime p) },
        if m.moved then segSet p fun g => { g with overflow := x :: g.overflow }
        else queueSet (classQueue p x.1) fun l => { x.2 with began := none } :: l,
        .when (s.plcaRules p) (plcaSet p fun a => { a with expires := s.now })])

/-- Head frames that can never leave are dropped: no link, no transmit SA, no window long enough (R180, R252). -/
def dropHead (p c : Nat) (f : QueuedFrame) (status : Nat) : Eff :=
  .look fun s => .seq (popHead (classQueue p c)) (finishOrigin f.origin status s.now p c (f.cuts != 0))

/-- Why a head frame is to be dropped, if it is: its completion status. -/
def State.headDoom (s : State) (p c : Nat) (f : QueuedFrame) : Option Nat :=
  if !s.portOn p 1 1 then some 9
  else if s.noSa p then some 0xA
  else if s.noWindow p c f then some 3
  else none

/-- Clears the doomed head frames of one class. -/
def clearHeads (p c : Nat) : Nat → Eff
  | 0 => .skip
  | n + 1 => .look fun s =>
    match s.queued (classQueue p c) with
    | f :: _ =>
      match s.headDoom p c f with
      | some st => .all [dropHead p c f st,
          .when (st == 3) (.all [groveCount p 3, bumpObj 0x6410 5 (classQueue p c), raise 641 (p + 1024 * c)]),
          clearHeads p c n]
      | none => .skip
    | [] => .skip

/-- The order of R168: express classes from 7 down, then preemptable ones. -/
def State.classOrder (s : State) (p : Nat) : List Nat :=
  let down := (List.range 8).reverse
  (down.filter fun c => !s.preemptable p c) ++ down.filter fun c => s.preemptable p c

/-- Whether the head frame's launch time has come: its timestamp point crosses the balls then, when its first byte passes the
MAC point now (R60, R250). -/
def State.launchReached (s : State) (p : Nat) (f : QueuedFrame) : Bool :=
  match f.launch with
  | some l => decide (l ≤ s.ballsStamp p s.now)
  | none => true

/-- Whether a class may start its head frame now (R168). -/
def State.eligible (s : State) (p c : Nat) : Bool :=
  match s.queued (classQueue p c) with
  | f :: _ => s.launchReached p f && s.gateOpen p c && s.shaperAllows (classQueue p c) && s.fits p c s.now f
  | [] => false

/-- Counts what keeps a head frame back: once per frame that a window is too short for it (R176), and each time the
shaper defers it. -/
def noteHeld (p c : Nat) : Eff :=
  .look fun s =>
    let q := classQueue p c
    match s.queued q with
    | f :: _ =>
      if !s.launchReached p f || !s.gateOpen p c then .skip
      else if !s.shaperAllows q then groveCount p 8
      else .when (!s.fits p c s.now f && !f.heldCounted)
        (.all [groveCount p 2, bumpObj 0x6410 4 q,
          .when ((s.reservedAt p s.now).isSome && s.closeTime p c s.now == s.reservedAt p s.now) (groveCount p 7),
          queueSet q fun l => match l with
            | f :: rest => { f with heldCounted := true } :: rest
            | [] => []])
    | [] => .skip

/-- The grove scheduler picks the next frame (R168). -/
def pickQueued (p : Nat) : Eff :=
  .all [queueFollowUps p, .forEach (List.range 8) fun c => clearHeads p c 64,
    .look fun s =>
      match (s.classOrder p).find? fun c => s.eligible p c with
      | some c =>
        .seq (.forEach ((s.classOrder p).takeWhile fun c' => c' != c) (noteHeld p))
          (match s.queued (classQueue p c) with
           | f :: _ => startFrame p c f
           | [] => .skip)
      | none => .forEach (s.classOrder p) (noteHeld p)]

/-- A frame that waits outside the class queues starts: no gate, shaper or fit rule holds it (R135, R139). A frame of the message
layer has no class queue. -/
def startMoved (p c : Nat) (f : QueuedFrame) : Eff :=
  .look fun s => .all [burstFrame p, segSet p fun g => { g with overflow := g.overflow.erase (c, f) },
    .when (c < 8) (.seq (raiseMark (classQueue p c) 2 ((s.now - f.enqueued) / 65536)) (sampleFrame p c f)),
    inProgress p (c % 8) true f]

/-- Whether a port sends by CSMA/CD (R131): an SG port that PLCA does not rule. -/
def State.contends (s : State) (p : Nat) : Bool := isSG p && !s.plcaRules p

/-- A port that contends for its medium acts only where no other node's frame is on it; whether one is, the manual's state
does not hold (a free value, safe: log entry 59). -/
def whereIdle (p : Nat) (e : Eff) : Eff :=
  .look fun s => if s.contends p then withFree fun busy => .when (busy % 2 == 0) e else e

/-- Frames that wait outside the class queues of a port without a transmit SA are dropped, the Kiln's own excepted (R342). -/
def movedWithoutSa (p : Nat) : Eff :=
  .whenS (fun s => s.noSa p) (.look fun s =>
    .seq (segSet p fun g => { g with overflow := g.overflow.filter fun x => x.2.origin.ofKiln })
      (.forEach ((s.seg p).overflow.filter fun x => !x.2.origin.ofKiln) fun x =>
        finishOrigin x.2.origin 0xA s.now p (x.1 % 8) (x.2.cuts != 0)))

/-- Whether no reservation of the round falls into a frame that starts now (R99). -/
def State.clearOfRound (s : State) (p : Nat) (f : QueuedFrame) : Bool :=
  (s.reservedAt p s.now).all fun t => decide (s.now + s.lasts p (s.needs p f) ≤ t)

/-- The next frame of an idle MAC: one that no class queue holds, moved to the tail (R139), a witness poll or a frame of the Kiln
that fits into the round (R304, R347), else the one that the grove scheduler picks (R168). On a wrapped lane only frames of the
Kiln leave between the copies (R113, R347). -/
def pickFrame (p : Nat) : Eff :=
  .whenS (fun s => (s.mac p).current.isNone && s.mayTransmit p && decide ((s.mac p).backoffEnd ≤ s.now))
    (.seq (movedWithoutSa p) (.look fun s => match (s.seg p).overflow.find? fun x => x.2.origin.ofKiln || !s.laneWrapped p with
      | some x => .when (s.clearOfRound p x.2) (startMoved p x.1 x.2)
      | none => .when (!s.laneWrapped p) (pickQueued p)))

/-! ## Cutting (R179) -/

/-- The byte of the frame in progress at which it is cut, if it can be: the first 8-byte boundary that leaves both parts
long enough. -/
def State.cutPoint (s : State) (p : Nat) : Option Nat :=
  let m := s.mac p
  match m.current with
  | some (_, f) =>
    -- eight bytes of preamble go before the frame's or fragment's own (R24)
    let sent := ((s.now - m.startedAt) * s.lineRate p + 524287999) / 524288000 - 8
    let left := s.bytesLeft p f
    let min' := s.minFragment p
    let x := (max sent (min' - 4) + 7) / 8 * 8
    if x + min' ≤ left then some x else none
  | none => none

/-- Cuts a preemptable frame in progress, once. -/
def cutFrame (p : Nat) : Eff :=
  .look fun s =>
    match (s.mac p).current with
    | some (c, _) =>
      .when (s.preemptable p c && !(s.mac p).moved && (s.mac p).cutAt.isNone)
        (.ofOption (s.cutPoint p) fun x => macSet p fun m => { m with cutAt := some x })
    | none => .skip

/-- Whether a class is closed now: by the operating list, a reservation, an own slot or a hold (R175). -/
def State.closedNow (s : State) (p c : Nat) : Bool :=
  !s.gateOpen p c || (s.closeTime p c s.now).any fun t => decide (t ≤ s.now)

/-- Whether R179 cuts the frame of a class in progress: an express frame is eligible, its gate closes, or a hold is
asserted. -/
def State.wantsCut (s : State) (p c : Nat) : Bool :=
  s.preemptable p c && ((s.gate p).hold || s.closedNow p c ||
    (isBB p && !(s.seg p).overflow.isEmpty) || (List.range 8).any fun d => !s.preemptable p d && s.eligible p d)

/-- Something has changed on a port: an idle MAC picks, a frame in progress is cut where R179 asks for it. -/
def kick (p : Nat) : Eff :=
  .look fun s =>
    match (s.mac p).current with
    | none => whereIdle p (pickFrame p)
    | some (c, _) => .when (s.wantsCut p c) (cutFrame p)

/-- The medium is free for a PLCA follower that hears beacons, with nothing in progress: its transmit opportunity of a round.
The round's BEACON has been received, and the round stands for a cycle in which present nodes are heard (R131, R148; DESIGN
CHOICE, unsafe: log entry 43). -/
def followerTurn (p : Nat) : Eff :=
  .whenS (fun s => s.plcaRules p && !s.coordinates p && (s.mac p).current.isNone && (s.seg p).plca.current.isNone)
    (.look fun s => .all [count (portItem p 9), segSet p (silentRuns s p), opportunity p (s.port p 2 1)])

/-- Frames whose last bit in a static slot has passed are finished (R252). -/
def slotFramesEnd (p : Nat) : Eff :=
  .look fun s => .seq (segSet p fun g => { g with leaving := g.leaving.filter fun e => s.now < e.2.endsAt })
    (.forEach ((s.seg p).leaving.filter fun e => e.2.endsAt ≤ s.now) fun e =>
      finishOrigin e.2.frame.origin (s.okStatus e.2.frame e.2.stamp) e.2.stamp p e.1 (e.2.frame.cuts != 0))

/-- The MAC of a port is free (R168): of the frame in progress, in which another node may have collided on an SG port, or the
medium for a PLCA follower. -/
def macBecomesFree (p : Nat) (collision : Bool) : Eff :=
  .seq (slotFramesEnd p) (.whenS (fun s => s.groveOn (groveOf p))
    (.all [followerTurn p, if collision && isSG p then collided p else endFrame p, pickFrame p]))

/-! ## Enqueuing (R162, R167) -/

/-- Enqueues a relayed or module frame, and the port picks. -/
def enqueueFrame (p c handle : Nat) (f : QueuedFrame) : Eff := .seq (admitFrame p c handle f) (kick p)

/-- A frame that no class queue, gate or shaper holds, of class 7 express: it goes next (R304). A sleeping grove is woken. -/
def sendUrgent (p : Nat) (o : Origin) (data : Bytes) : Eff :=
  .look fun s => .all [segSet p fun g => { g with overflow := g.overflow ++ [(15, s.ownFrame o data)] },
    wakeGrove (groveOf p), kick p]

/-- A frame of the Kiln on a port or stack port (R336, R344): it waits for the port's MAC (R99, R347) and for a grove that sleeps
(R403); a stack port sends it at once (R279). A grove that is off sends nothing. -/
def sendFromKiln (p : Nat) (o : Origin) (data : Bytes) : Eff :=
  .look fun s =>
    if 256 ≤ p then .when (s.stackUsable (p - 256)) (.seq (count (twinItem 26)) (match o with
      | .mkpdu m => emit (.mkpdu p m)
      | _ => .seq (emit (.stack (p - 256) data)) (usePacketNumber p)))
    else .when (s.portOn p 1 1 && (s.grove (groveOf p)).state != 3) (sendUrgent p o data)

/-- Enqueues a frame of the module's own in a class of a port. -/
def enqueueOrigin (p c : Nat) (o : Origin) (data : Bytes) : Eff := .look fun s => enqueueFrame p c 0xFFFF (s.ownFrame o data)

/-- The same, for a frame whose transmission needs no more. -/
def enqueueOwn (p c : Nat) (data : Bytes) : Eff := enqueueOrigin p c .module data

/-! ## Links, gates and pre-emption -/

/-- A gate-list entry boundary (R171). On a backbone lane an opening that its grove sleeps through is late (R406). -/
def gateBoundary (p : Nat) : Eff :=
  .look fun s => .all [touchShapers p, gatesNow p,
    .look fun s' => .when (isBB p && (List.range 8).any fun c => s'.gateOpen p c && !s.gateOpen p c) (groveLate (groveOf p)),
    kick p]

/-- The take-over time of an armed list (R173). -/
def gateTakesOver (p : Nat) : Eff :=
  .whenS (fun s => (s.gate p).armedTime.isSome) (.all [touchShapers p, takeOver p, kick p])

/-- Frames in progress that a gate closed by time alone cuts: a reservation or an own slot begins (R179). -/
def timedCuts : Eff :=
  .look fun s => .forEach (s.traffic.macs.filter fun m => m.2.cutAt.isNone && m.2.current.any fun x => s.wantsCut m.1 x.1)
    fun m => cutFrame m.1

/-- The shapers of the lanes at a cycle boundary: the reservations of the cycle that ends are known until then (R182). -/
def laneShapers : Eff :=
  .look fun s => .when (s.ringState != ringDisabled) (.seq (touchShapers s.westLane) (touchShapers s.eastLane))

/-- A commit has applied objects of a port's gate configuration: PendingArm arms, recomputes or disarms (R173), and
GateEnable and AdminGateStates take effect (R170, R171). -/
def gateCommit (p : Nat) : Eff :=
  .look fun s => .all [
    touchShapers p,
    if s.on 0x6100 8 p then armGates p else disarmGates p,
    .when (!s.on 0x6100 1 p) (gateSet p fun g => { g with running := false, hold := false }),
    gatesNow p, showMaxOpen p, kick p]

/-- The backbone switches to mode `m` (R173): lists bound to it are taken over. -/
def gatesFollowMode (m : Nat) : Eff :=
  .look fun s => .forEach (s.traffic.gates.filter fun g => g.2.armedMode == some m) fun g =>
    .all [setN 0x6101 6 s.now g.1, touchShapers g.1, takeOver g.1, kick g.1]

/-- A verify mPacket leaves; where the port's grove does not run, it waits for it (R10). -/
def sendVerify (p : Nat) : Eff :=
  .whenS (fun s => s.groveOn (groveOf p))
    (.seq (macSet p fun m => { m with verifySent := m.verifySent + 1 }) (emit (.mPacket p true)))

/-- The verify procedure starts: at a link-up, or when a commit asks for it. -/
def startVerify (p : Nat) : Eff :=
  .look fun s =>
    if s.preemptionWanted p && s.on 0x6000 5 p then
      .all [setN 0x6001 2 1 p, macSet p fun m => { m with verifySent := 0 }, sendVerify p, showPreemption p]
    else .seq (setN 0x6001 2 0 p) (showPreemption p)

/-- Whether the verify procedure of a port goes on, in a grove that runs (R10, R181). -/
def State.verifying (s : State) (p : Nat) : Bool := s.n 0x6001 2 p == 1 && s.groveOn (groveOf p)

/-- The grove of a port runs: a verify mPacket that has waited for it leaves (R10). -/
def verifyGoesOn (p : Nat) : Eff := .whenS (fun s => s.verifying p && (s.mac p).verifySent == 0) (sendVerify p)

/-- VerifyTime has passed without a respond mPacket: up to three are sent (R181). -/
def verifyTimer (p : Nat) : Eff :=
  .whenS (fun s => s.verifying p)
    (.look fun s =>
      if (s.mac p).verifySent < 3 then sendVerify p else .seq (setN 0x6001 2 3 p) (showPreemption p))

/-- A respond mPacket. -/
def verifyResponds (p : Nat) : Eff :=
  .whenS (fun s => s.verifying p) (.all [setN 0x6001 2 2 p, showPreemption p, kick p])

/-- A commit has changed the pre-emption settings of a port. A verify procedure that has failed stays failed until the next
link-up (R181). -/
def preemptionCommit (p : Nat) : Eff :=
  .look fun s => if s.preemptionWanted p && s.on 0x6000 5 p && s.n 0x6001 2 p == 0 then startVerify p
    else .seq (.when ((!s.preemptionWanted p || !s.on 0x6000 5 p) && s.n 0x6001 2 p != 3) (setN 0x6001 2 0 p))
      (showPreemption p)

/-- A READ of a HighWater row resets both of its columns (R194). -/
def highWaterReset (q : Nat) : Eff := .seq (setN 0x6810 1 0 q) (setN 0x6810 2 0 q)

/-! ## Meanings -/

/-- MAC_FREE (R168). -/
def execMacFree (medium : MediumFree) (s : State) : Host.Outcome State Fault Refusal :=
  done (operating (macBecomesFree medium.port medium.collision)) s
/-- LAUNCH_TIME_REACHED (R250). -/
def execLaunchTimeReached (p _c : Nat) (s : State) : Host.Outcome State Fault Refusal := done (operating (kick p)) s
/-- GATE_ENTRY (R171). -/
def execGateEntry (p : Nat) (s : State) : Host.Outcome State Fault Refusal := done (operating (gateBoundary p)) s
/-- GATE_TAKE_OVER (R173). -/
def execGateTakeOver (p : Nat) (s : State) : Host.Outcome State Fault Refusal := done (operating (gateTakesOver p)) s
/-- PREEMPTION_VERIFY_TIMER (R181). -/
def execPreemptionVerifyTimer (p : Nat) (s : State) : Host.Outcome State Fault Refusal :=
  done (operating (verifyTimer p)) s
/-- PREEMPTION_RESPOND (R181). -/
def execPreemptionRespond (p : Nat) (s : State) : Host.Outcome State Fault Refusal :=
  done (operating (verifyResponds p)) s

end Sys2Proof.Machine
end

