-- ==== Sys2Proof/Machine/Slots.lean ====
section
/-! DEFINITION. What the module sends on a segment: its static slots (R134, R135), the dynamic tail and the PLCA rounds
(R131, R139, R152). -/

namespace Sys2Proof.Machine

/-! ## Own slots (R134, R135) -/

/-- A gPTP Sync of the module's own: on an SG port in segment mode it is sent only in the tail (R77). -/
def QueuedFrame.tailOnly (f : QueuedFrame) : Bool :=
  match f.origin with
  | .ptp (.sync _) => true
  | _ => false

/-- Bytes of a queued frame on the wire, FCS and MACsec included. -/
def State.queuedBytes (s : State) (p : Nat) (f : QueuedFrame) : Nat := frameLen f.data + s.macsecBytes p

/-- The content that SlotSource names at the latch instant, in its buffer or class queue: a frame before its launch time is
not ready (R250). -/
def State.slotContent (s : State) (p : Nat) (x : Slot) : Option QueuedFrame :=
  if x.source = 0 then
    match (s.seg p).outBuffers.get? (64 * s.segMode p + x.row) with
    | some (b, true) => some (s.ownFrame .module b)
    | _ => none
  else (s.queued (classQueue p (x.source - 1))).head?.filter fun f => s.launchReached p f && !(isSG p && f.tailOnly)

/-- Removes what was latched from where it came; a class frame is dequeued. -/
def takeContent (p : Nat) (x : Slot) : Eff :=
  .look fun s =>
    if x.source = 0 then segSet p fun g => { g with
      outBuffers := match g.outBuffers.get? (64 * s.segMode p + x.row) with
        | some (b, _) => g.outBuffers.set (64 * s.segMode p + x.row) (b, false)
        | none => g.outBuffers }
    else .seq (popHead (classQueue p (x.source - 1))) (groveCount p 1)

/-- A frame latched for a slot ends unsent. -/
def unlatch (p : Nat) (x : Slot) (status : Nat) : Eff :=
  .look fun s => .ofOption ((s.seg p).latched.get? x.row) fun f =>
    .seq (segSet p fun g => { g with latched := g.latched.erase x.row })
      (finishOrigin f.origin status s.now p (x.source - 1) (f.cuts != 0))

/-- A latched frame that does not fit its slot (R135): to the tail of the segment cycle, which an SG port has, or dropped. -/
def oversize (p : Nat) (x : Slot) (f : QueuedFrame) : Eff :=
  .look fun s => .seq (bumpObj (portIdx p 7) 3 x.row)
    (if x.toTail && isSG p then
      .seq (segSet p fun g => { g with overflow := g.overflow ++ [(if x.source = 0 then 8 else x.source - 1, f)] }) (count (portItem p 18))
     else .seq (count (portItem p 17)) (finishOrigin f.origin 3 s.now p (x.source - 1) (f.cuts != 0)))

/-- The latch instant of an own slot (R134), with the fit rule of R135. What an earlier latch left unsent ends first. -/
def latchSlot (p slot : Nat) : Eff :=
  .look fun s =>
    match s.slotOf p (s.segMode p) slot with
    | some x =>
      if x.owner != 0 || x.sync || s.segState p != segActive then .skip
      else .seq (unlatch p x 3) (.ofOption (s.slotContent p x) fun f =>
        .seq (takeContent p x)
          (if s.fitsSlot p (s.queuedBytes p f) x then segSet p fun g => { g with latched := g.latched.set slot f }
           else oversize p x f))
    | none => .skip

/-- The latch instant of a slot whose grove does not run is late, and nothing is latched (R406). -/
def latchInstant (p slot : Nat) : Eff :=
  .look fun s => if s.groveOn (p / 32) then latchSlot p slot
    else .when ((s.slotOf p (s.segMode p) slot).isSome && s.segState p == segActive) (groveLate (p / 32))

/-- A frame that no class queue holds leaves on a port: on the wire, under the port's transmit SA, and counted. -/
def sendOnPort (p : Nat) (data : Bytes) : Eff :=
  .all [emit (.frame p data false true), usePacketNumber p, count (portItem p 2), countN (portItem p 3) (frameLen data)]

/-- A frame leaves in a static slot. -/
def sendInSlot (p : Nat) (data : Bytes) (collision : Bool) : Eff :=
  .all [sendOnPort p data, count (portItem p 11), .when collision (count (portItem p 7))]

/-- The latched frame of an own slot starts at its action point; a port without a transmit SA cannot send it (R342). Its
timestamp follows the start by the lead H (R440), and it is finished with its last bit (R252). -/
def sendLatched (p : Nat) (x : Slot) (collision : Bool) : Eff :=
  .look fun s =>
    match (s.seg p).latched.get? x.row with
    | some f =>
      if s.noSa p then .seq (unlatch p x 0xA) (count (portItem p 13))
      else
        let stamp := s.now + s.leadUnits p
        .all [
          .when (x.source != 0) (.seq (raiseMark (classQueue p (x.source - 1)) 2 ((s.now - f.enqueued) / 65536))
            (sampleFrame p (x.source - 1) f)),
          sendInSlot p f.data collision, hostStarted f.origin,
          segSet p fun g => { g with
            latched := g.latched.erase x.row
            leaving := g.leaving ++ [(x.source - 1,
              ⟨f, s.now + nsUnits (frameBits p (s.queuedBytes p f) * s.bitTime p), stamp⟩)] }]
    | none => count (portItem p 13)

/-- The action point of an own slot (R134, R141): a sync frame, the latched frame, or a clearing. A port that is silenced or
whose grove does not run sends nothing. -/
def slotActs (p slot : Nat) (collision : Bool) : Eff :=
  .look fun s =>
    match s.slotOf p (s.segMode p) slot with
    | some x =>
      let st := s.segState p
      let clear := s.groveOn (p / 32) && !s.portSilenced p
      if x.owner != 0 then .skip
      else if x.sync then
        .when (clear && !s.noSa p && (st == segActive || (st == segColdstart && !(s.seg p).startPending)))
          (.all [sendInSlot p (s.syncFrame p) collision, count (portItem p 19),
            .when (collision && st == segColdstart) (coldstartCollision p 255)])
      else .when (st == segActive)
        (if clear then sendLatched p x collision else .seq (unlatch p x 3) (count (portItem p 13)))
    | none => .skip

/-! ## The dynamic tail and PLCA rounds (R131, R139, R152) -/

/-- The dynamic tail begins: a BEACON, and the module's transmit opportunity. `busyAtEnd`: the medium is still busy at the end
of the segment cycle. -/
def tailBegins (p : Nat) (busyAtEnd : Bool) : Eff :=
  .look fun s =>
    if !isSG p || !s.segmentPort p || s.segState p != segActive || s.portSilenced p then .skip
    else if !s.groveOn (p / 32) then groveLate (p / 32)
    else .all [
      segSet p fun g => { g with inTail := true }, beginRound p, pickFrame p,
      .when busyAtEnd (.seq (count (portItem p 22)) (raisePort p 12))]

/-- Whether the coordinator may begin a further round: in the tail, only while TailGuard is left of the segment cycle. -/
def State.roundMayBegin (s : State) (p : Nat) : Bool :=
  s.coordinates p && (!s.segmentPort p ||
    ((s.seg p).inTail &&
      decide (s.inCycle p s.now + (nsUnits (s.segCfg p 3 10 * s.bitTime p) : Nat) ≤ (nsUnits (s.segLength p) : Nat))))

/-- A round ends. In PortMode 0 it takes the place of a segment cycle for presence (R148). -/
def roundEnds (p : Nat) : Eff :=
  .look fun s => .all [
    .when (!s.segmentPort p) (segSet p (silentRuns s p)),
    plcaSet p fun _ => Plca.init,
    .when (s.roundMayBegin p) (.seq (beginRound p) (pickFrame p))]

/-- The round goes on when a transmit opportunity has passed: to the next node below NodeCount, or to the round's end. -/
def roundGoesOn (p : Nat) : Eff :=
  .look fun s => match (s.seg p).plca.current with
    | none => .when (s.roundMayBegin p) (.seq (beginRound p) (pickFrame p))
    | some k =>
      if s.coordinates p then
        (if k + 1 < s.port p 2 2 then opportunity p (k + 1) else roundEnds p)
      else plcaSet p fun _ => Plca.init

/-- ToTimer of the opportunity has passed with nothing of the module's own in progress. While another node's frame is on the
medium, the opportunity lasts; whether one is, the manual's state does not hold (a free value, safe: log entry 59). -/
def plcaStep (p : Nat) : Eff :=
  .look fun s =>
    .when (s.groveOn (p / 32) && s.plcaRules p && (s.mac p).current.isNone && decide ((s.seg p).plca.expires ≤ s.now))
      (withFree fun busy =>
        if busy % 2 = 1 then plcaSet p fun a => { a with expires := s.now + nsUnits (s.port p 2 3 * s.bitTime p) }
        else roundGoesOn p)

/-- What time alone brings on a segment port: frames in slots end, a round goes on, and a port that contends for its medium
tries again. -/
def mediumTick (p : Nat) : Eff :=
  .all [slotFramesEnd p, .whenS (fun s => s.plcaRules p) (plcaStep p),
    .whenS (fun s => s.contends p && (s.mac p).current.isNone) (whereIdle p (pickFrame p))]

/-- The enabled ports with a segment function. -/
def State.mediumPorts (s : State) : List Nat := (s.segments.filter fun e => s.portEnabled e.1).map Prod.fst

/-! ## The segment's own clock and the shapers -/

/-- An effect that can move the static part of an LK port in time: its shapers are brought up to now first, for the class gates
are closed in own slots (R150, R182). -/
def segmentMoves (p : Nat) (e : Eff) : Eff := .seq (.when (!isSG p) (touchShapers p)) e

/-- The end of a slot: of an own one, and of another's (R137). -/
def slotPasses (p slot : Nat) : Eff := .seq (slotFramesEnd p) (slotEnds p slot)

/-! ## Meanings -/

/-- SLOT_LATCH (R134). -/
def execSlotLatch (p slot : Nat) (s : State) : Host.Outcome State Fault Refusal := done (operating (latchInstant p slot)) s
/-- SLOT_ACTION_POINT (R134). -/
def execSlotActionPoint (p slot : Nat) (collision : Bool) (s : State) : Host.Outcome State Fault Refusal :=
  done (operating (slotActs p slot collision)) s
/-- SEGMENT_LISTEN_TIMER (R143). -/
def execSegmentListenTimer (p : Nat) (s : State) : Host.Outcome State Fault Refusal :=
  done (segmentMoves p (segmentListenExpires p)) s
/-- SEGMENT_CYCLE_BOUNDARY (R128). -/
def execSegmentCycleBoundary (p : Nat) (s : State) : Host.Outcome State Fault Refusal :=
  done (segmentMoves p (segmentBoundary p)) s
/-- COLDSTART_BACKOFF_EXPIRY (R144). -/
def execColdstartBackoffExpiry (p : Nat) (s : State) : Host.Outcome State Fault Refusal :=
  done (segmentMoves p (backoffExpires p)) s
/-- SLOT_END (R137). -/
def execSlotEnd (p slot : Nat) (s : State) : Host.Outcome State Fault Refusal := done (slotPasses p slot) s
/-- TAIL_START (R139). -/
def execTailStart (p : Nat) (busyAtEnd : Bool) (s : State) : Host.Outcome State Fault Refusal :=
  done (operating (tailBegins p busyAtEnd)) s

end Sys2Proof.Machine
end

