-- ==== Sys2Proof/Machine/Streams.lean ====
section
/-! DEFINITION. Streams (chapter 6): identification, filter, meter, sequence recovery and generation, forwarding, default
steering, and the observation of queues. -/

namespace Sys2Proof.Machine

/-! ## Reading a frame (R158) -/

/-- What stream identification reads of a frame: at most one VLAN tag and one R-TAG are parsed past. -/
structure Parsed where
  dst : Nat
  src : Nat
  tci : Option Nat
  /-- Offset of the R-TAG's EtherType, if there is one. -/
  rtag : Option Nat
  etherType : Nat
  /-- Offset of the payload behind the EtherType. -/
  payload : Nat

def parseFrame (d : Bytes) : Parsed :=
  let tci := vlanTci d
  let o1 := if tci.isSome then 16 else 12
  let tagged := beAt d o1 2 == 0xF1C1
  let o2 := if tagged then o1 + 6 else o1
  { dst := leAt d 0 6, src := leAt d 6 6, tci := tci, rtag := if tagged then some o1 else none, etherType := beAt d o2 2
    payload := o2 + 2 }

/-- VID, 0 for an untagged frame. -/
def Parsed.vid (x : Parsed) : Nat := (x.tci.getD 0) % 4096
/-- PCP, 0 for an untagged frame. -/
def Parsed.pcp (x : Parsed) : Nat := (x.tci.getD 0) / 8192
/-- The sequence number of the R-TAG. -/
def rtagSequence (d : Bytes) (x : Parsed) : Option Nat := x.rtag.map fun o => beAt d (o + 4) 2

/-- An IP header: source and destination (little-endian numbers of their bytes), DSCP, protocol, and the ports where they
are to be compared. -/
structure IpKey where
  src : Nat
  dst : Nat
  dscp : Nat
  proto : Nat
  ports : Option (Nat × Nat)

/-- Protocols whose ports are compared: TCP, UDP, SCTP. -/
def hasPorts (proto : Nat) : Bool := proto == 6 || proto == 17 || proto == 132

/-- The IPv4 header of a frame. -/
def ipv4Key (d : Bytes) (x : Parsed) : Option IpKey :=
  let o := x.payload
  if x.etherType == 0x0800 && beAt d o 1 / 16 == 4 then
    let proto := beAt d (o + 9) 1
    let l4 := o + 4 * (beAt d o 1 % 16)
    let first := beAt d (o + 6) 2 % 8192 == 0
    some ⟨leAt d (o + 12) 4, leAt d (o + 16) 4, beAt d (o + 1) 1 / 4, proto,
      if hasPorts proto && first then some (beAt d l4 2, beAt d (l4 + 2) 2) else none⟩
  else none

/-- The IPv6 header of a frame. -/
def ipv6Key (d : Bytes) (x : Parsed) : Option IpKey :=
  let o := x.payload
  if x.etherType == 0x86DD && beAt d o 1 / 16 == 6 then
    let proto := beAt d (o + 6) 1
    some ⟨leAt d (o + 8) 16, leAt d (o + 24) 16, beAt d o 4 / 4194304 % 64, proto,
      if hasPorts proto then some (beAt d (o + 40) 2, beAt d (o + 42) 2) else none⟩
  else none

/-! ## Stream identification (R157, R158) -/

/-- The VLAN condition of a row. -/
def vlanMatches (mode vid : Nat) (x : Parsed) : Bool :=
  let own := x.vid
  if mode = 0 then own != 0 && own == vid else if mode = 1 then own == 0 else true

/-- The IP conditions of a row. -/
def State.ipMatches (s : State) (r : Nat) (k : IpKey) (v6 : Bool) : Bool :=
  let low := fun (n : Nat) => if v6 then n else n % 4294967296
  let src := low (s.n 0x6010 7 r)
  let sp := s.n 0x6010 11 r
  let dp := s.n 0x6010 12 r
  (src == 0 || src == k.src) && low (s.n 0x6010 8 r) == k.dst && (s.n 0x6010 9 r == 0xFF || s.n 0x6010 9 r == k.dscp) &&
    (s.n 0x6010 10 r == 0xFFFF || s.n 0x6010 10 r == k.proto) &&
    (match k.ports with
     | some (a, b) => (sp == 0 || sp == a) && (dp == 0 || dp == b)
     | none => sp == 0 && dp == 0)

/-- Whether a row matches a frame; `port` is none for a frame from a host transmit ring. -/
def State.identMatches (s : State) (r : Nat) (port : Option Nat) (d : Bytes) (x : Parsed) : Bool :=
  let ingress := s.n 0x6010 3 r
  let mac := s.n 0x6010 4 r
  let here := match port with
    | some p => ingress == 0xFFFF || ingress == p
    | none => ingress == 0xFFFE
  here && vlanMatches (s.n 0x6010 5 r) (s.n 0x6010 6 r) x &&
    (match s.n 0x6010 2 r with
     | 0 => mac == x.dst
     | 1 => mac == x.src
     | 2 => mac == x.dst && (match ipv4Key d x with
        | some k => s.ipMatches r k false
        | none => false)
     | _ => mac == x.dst && (match ipv6Key d x with
        | some k => s.ipMatches r k true
        | none => false))

/-- The rows that match a frame, lowest first. -/
def State.identRows (s : State) (port : Option Nat) (d : Bytes) (x : Parsed) : List Nat :=
  (s.enabledRows 0x6010 1).filter fun r => s.identMatches r port d x

/-- Stream lookup: counted, an overlap reported at most once per cycle; the effect continues with the handle. -/
def lookup (port : Option Nat) (d : Bytes) (x : Parsed) (found : Nat → Eff) (missed : Eff) : Eff :=
  .seq (count (commonsItem 0)) (.look fun s =>
    match s.identRows port d x with
    | [] => missed
    | r :: more =>
      .all [count (commonsItem 1),
        .when (!more.isEmpty) (.seq (count (commonsItem 5)) (raiseOncePerCycle 648 0 (raise 648 r))),
        found (s.n 0x6010 13 r)])

/-! ## Meters (R186 to R188) -/

/-- Colours. -/
inductive Colour where
  | green | yellow | red
deriving DecidableEq, Repr

/-- Rates in kb/s, sizes in bytes. -/
structure MeterParams where
  cir : Nat
  cbs : Nat
  eir : Nat
  ebs : Nat

/-- The parameters in force: native columns, or Bn4Parameters (Table 6.5). -/
def State.meterParams (s : State) (m : Nat) : MeterParams :=
  if s.n 0x6500 1 m = 2 then
    let b := leBytes 16 (s.n 0x6500 12 m)
    ⟨min 25000000 (8 * beAt b 0 4), beAt b 4 4, 0, beAt b 8 4⟩
  else ⟨s.n 0x6500 2 m, s.n 0x6500 3 m, s.n 0x6500 4 m, s.n 0x6500 5 m⟩

/-- A meter's buckets; full until its first frame. -/
def State.meterState (s : State) (m : Nat) : Meter :=
  let k := s.meterParams m
  s.traffic.meters.getD m ⟨k.cbs * 65536, k.ebs * 65536, none⟩

/-- Tokens that a rate in kb/s brings in an interval, in 2^-16 byte. -/
def tokens (rate : Nat) (dt : Int) : Int := divFloor (dt * rate) 8000000

/-- A meter's buckets at now, before the frame. -/
def State.meterRefilled (s : State) (m : Nat) : Meter :=
  let k := s.meterParams m
  let x := s.meterState m
  let dt : Int := (s.now : Int) - x.last.getD s.now
  let cbs : Int := k.cbs * 65536
  let ebs : Int := k.ebs * 65536
  if s.n 0x6500 1 m = 2 then
    let add := tokens k.cir dt
    let room := cbs - x.tc
    ⟨x.tc + min add room, min (x.te + max (add - room) 0) ebs, some s.now⟩
  else
    let tc := x.tc + tokens k.cir dt
    let te := x.te + tokens k.eir dt
    let spill := if cbs < tc && s.on 0x6500 7 m then te + (tc - cbs) else te
    ⟨min tc cbs, min spill ebs, some s.now⟩

/-- The colour of a frame of counted length `len`, and the buckets after it. -/
def State.colour (s : State) (m len : Nat) (dei : Bool) : Colour × Meter :=
  let x := s.meterRefilled m
  let l : Int := len * 65536
  let yellowIn := s.n 0x6500 1 m == 1 && s.on 0x6500 6 m && dei
  if !yellowIn && l ≤ x.tc then (.green, { x with tc := x.tc - l })
  else if l ≤ x.te then (.yellow, { x with te := x.te - l })
  else (.red, x)

/-- Rewrites the TCI of a tagged frame. -/
def setTci (d : Bytes) (f : Nat → Nat) : Bytes :=
  match vlanTci d with
  | some t => overwrite d 14 (beBytes 2 (f t))
  | none => d

/-- Action 1 sets DEI, action 2 the PCP. -/
def remark (action pcp : Nat) (d : Bytes) : Bytes :=
  if action = 1 then setTci d fun t => t ||| 0x1000
  else if action = 2 then setTci d fun t => t % 8192 + 8192 * (pcp % 8)
  else d

/-- What a meter makes of a frame: its data as remarked, or none where red frames are dropped. -/
def State.meterAction (s : State) (m : Nat) (c : Colour) (d : Bytes) : Option Bytes :=
  if s.n 0x6500 1 m = 2 then
    let flags := beAt (leBytes 16 (s.n 0x6500 12 m)) 12 1
    match c with
    | .green => some d
    | .yellow => some (if flags.testBit 0 then remark 1 0 d else d)
    | .red => if flags.testBit 1 then some (remark 1 0 d) else none
  else match c with
    | .green => some d
    | .yellow => some (remark (s.n 0x6500 8 m) (s.n 0x6500 9 m) d)
    | .red => if s.n 0x6500 10 m = 0 then none else some (remark (s.n 0x6500 10 m) (s.n 0x6500 11 m) d)

/-- A frame as a meter would leave it now. -/
def State.metered (s : State) (m len : Nat) (d : Bytes) : Bytes :=
  if s.n 0x6500 1 m = 0 then d
  else (s.meterAction m (s.colour m len ((vlanTci d).getD 0 / 4096 % 2 == 1)).1 d).getD d

/-- Applies a meter; the effect continues with the frame unless it is dropped. -/
def applyMeter (m len : Nat) (d : Bytes) (go : Bytes → Eff) (dropped : Eff) : Eff :=
  .look fun s =>
    if s.n 0x6500 1 m = 0 then .all [count (commonsItem 9), bumpObj 0x6510 1 m, go d]
    else
      let (c, x) := s.colour m len ((vlanTci d).getD 0 / 4096 % 2 == 1)
      let (item, col) := match c with
        | .green => (9, 1)
        | .yellow => (10, 2)
        | .red => (11, 3)
      .all [.upd (.traffic fun t => { t with meters := t.meters.set m x }), count (commonsItem item), bumpObj 0x6510 col m,
        match s.meterAction m c d with
        | some d' => go d'
        | none => .all [count (commonsItem 12), bumpObj 0x6510 4 m, dropped]]

/-- A commit has changed a meter's parameters (R188): its buckets, `old` before the commit, keep their tokens, clipped; a
change of mode fills both. -/
def meterCommit (m : Nat) (old : Meter) (modeChanged : Bool) : Eff :=
  .look fun s =>
    let k := s.meterParams m
    .upd (.traffic fun t => { t with
      meters := if modeChanged then t.meters.erase m
        else t.meters.set m { old with tc := min old.tc (k.cbs * 65536), te := min old.te (k.ebs * 65536) } })

/-! ## Sequence recovery and generation (R189 to R191) -/

def Recovery.init : Recovery :=
  { takeAny := true, sequence := 65535, history := [], basePassed := 0, baseDiscarded := 0, passedAt := 0,
    testedAt := 0, rebasedAt := 0 }
def State.recovery (s : State) (fn : Nat) : Recovery := s.traffic.recovery.getD fn Recovery.init
def recoverySet (fn : Nat) (f : Recovery → Recovery) : Eff :=
  .upd (.traffic fun t => { t with recovery := t.recovery.set fn (f (t.recovery.getD fn Recovery.init)) })

/-- What a recovery algorithm decides: passed, out of order, rogue, sequence numbers lost, and its state after. -/
structure Verdict where
  pass : Bool
  outOfOrder : Bool
  rogue : Bool
  lost : Nat
  after : Recovery

/-- Entry `i` of a history, and a history with one set. -/
def historyBit (h : List Bool) (i : Nat) : Bool := h.getD i false
def historySet (n : Nat) (h : List Bool) (i : Nat) : List Bool :=
  (List.range n).map fun j => if j = i then true else historyBit h j

/-- A history shifted by `k` numbers, the newest one received; the numbers that leave it unreceived are lost. -/
def historyShift (n : Nat) (h : List Bool) (k : Nat) : List Bool × Nat :=
  let keep := (List.range n).map fun j => if j = 0 then true else if j < k then false else historyBit h (j - k)
  let gone := (List.range (min k n)).foldl (fun c i => if historyBit h (n - 1 - i) then c else c + 1) 0
  (keep, gone + (k - n))

/-- The vector recovery algorithm of IEEE 802.1CB-2017 (7.4.3.4) with history length `n`. -/
def vectorRecovery (n : Nat) (r : Recovery) (seq : Nat) : Verdict :=
  let d := (seq + 65536 - r.sequence) % 65536
  if r.takeAny then ⟨true, false, false, 0, { r with takeAny := false, sequence := seq, history := historySet n [] 0 }⟩
  else if d < 32768 then
    if d = 0 then
      (if historyBit r.history 0 then ⟨false, false, false, 0, r⟩
       else ⟨true, true, false, 0, { r with history := historySet n r.history 0 }⟩)
    else if n ≤ d then ⟨false, false, true, 0, r⟩
    else
      let (h, lost) := historyShift n r.history d
      ⟨true, d != 1, false, lost, { r with sequence := seq, history := h }⟩
  else
    let back := 65536 - d
    if n ≤ back then ⟨false, false, true, 0, r⟩
    else if historyBit r.history back then ⟨false, false, false, 0, r⟩
    else ⟨true, true, false, 0, { r with history := historySet n r.history back }⟩

/-- The match recovery algorithm (7.4.3.5). -/
def matchRecovery (r : Recovery) (seq : Nat) : Verdict :=
  if r.takeAny then ⟨true, false, false, 0, { r with takeAny := false, sequence := seq }⟩
  else if seq = r.sequence then ⟨false, false, false, 0, r⟩
  else ⟨true, (seq + 65536 - r.sequence) % 65536 != 1, false, 0, { r with sequence := seq }⟩

/-- Removes the R-TAG. -/
def stripRtag (d : Bytes) : Bytes :=
  match (parseFrame d).rtag with
  | some o => d.take o ++ d.drop (o + 6)
  | none => d

/-- Gives a frame an R-TAG, replacing one it has (R189). -/
def insertRtag (seq : Nat) (d : Bytes) : Bytes :=
  let d := stripRtag d
  let o := if (vlanTci d).isSome then 16 else 12
  d.take o ++ beBytes 2 0xF1C1 ++ [0, 0] ++ beBytes 2 (seq % 65536) ++ d.drop o

/-- Sequence recovery; the effect continues with the frame without its R-TAG and the number recovery took from it, or
with the discard. -/
def recover (fn handle : Nat) (d : Bytes) (go : Bytes → Option Nat → Eff) (discarded : Eff) : Eff :=
  .look fun s =>
    let passes := Eff.all [recoverySet fn fun r => { r with passedAt := s.elapsed }, bumpObj 0x6601 1 fn, count (commonsItem 14)]
    let discards := Eff.all [bumpObj 0x6601 2 fn, count (commonsItem 15), bumpObj 0x6021 6 handle]
    match rtagSequence d (parseFrame d) with
    | none =>
      .all [bumpObj 0x6601 6 fn, count (commonsItem 19),
        if s.on 0x6600 4 fn then .seq passes (go d none) else .seq discards discarded]
    | some seq =>
      let r := s.recovery fn
      let v := if s.n 0x6600 1 fn = 1 then matchRecovery r seq else vectorRecovery (s.n 0x6600 2 fn) r seq
      .all [recoverySet fn fun _ => v.after, setN 0x6601 9 v.after.sequence fn, setN 0x6021 8 seq handle,
        .when v.outOfOrder (.seq (bumpObj 0x6601 3 fn) (count (commonsItem 16))),
        .when v.rogue (.seq (bumpObj 0x6601 4 fn) (count (commonsItem 17))),
        .when (v.lost != 0) (.seq (bumpObj 0x6601 5 fn v.lost) (countN (commonsItem 18) v.lost)),
        if v.pass then .seq passes (go (stripRtag d) (some seq)) else .seq discards discarded]

/-- ResetTimeout without a passed frame (R190); a function that waits for its first frame has nothing to reset. -/
def recoveryResets (fn : Nat) : Eff :=
  .whenS (fun s => !(s.recovery fn).takeAny && s.after (s.recovery fn).passedAt (nsUnits (1000000 * s.n 0x6600 3 fn)))
    (.all [recoverySet fn fun r => { r with takeAny := true, sequence := 65535, history := [] }, bumpObj 0x6601 7 fn,
      count (commonsItem 20), raise 645 (fn % 256)])

/-- The latent error test, every LatentErrorPeriod (R191). -/
def latentTest (fn : Nat) : Eff :=
  .look fun s =>
    let r := s.recovery fn
    let diff : Int := ((s.n 0x6601 1 fn : Int) - r.basePassed) * ((s.n 0x6600 8 fn : Int) - 1) -
      ((s.n 0x6601 2 fn : Int) - r.baseDiscarded)
    .when (s.on 0x6600 5 fn && s.after r.testedAt (nsUnits (1000000 * s.n 0x6600 7 fn)))
      (.seq (recoverySet fn fun r => { r with testedAt := s.elapsed })
        (.when ((s.n 0x6600 6 fn : Int) < absI diff) (.seq (count (commonsItem 21)) (faultEvent 2 fn 646 (fn % 256)))))

/-- New base counts, every LatentResetPeriod (R191). -/
def latentResets (fn : Nat) : Eff :=
  .whenS (fun s => s.on 0x6600 5 fn && s.after (s.recovery fn).rebasedAt (nsUnits (1000000 * s.n 0x6600 9 fn)))
    (.seq (.look fun s => recoverySet fn fun r =>
        { r with basePassed := s.n 0x6601 1 fn, baseDiscarded := s.n 0x6601 2 fn, rebasedAt := s.elapsed })
      (bumpObj 0x6601 8 fn))

/-- A stream is enabled: its generated sequence starts at 0 (R189). -/
def generatorStarts (h : Nat) : Eff :=
  .whenS (fun s => s.on 0x6020 1 h) (.upd (.traffic fun t => { t with generators := t.generators.erase h }))

/-- Sequence generation (R189): `carried` is the number recovery took. -/
def generate (h : Nat) (d : Bytes) (carried : Option Nat) (go : Bytes → Eff) : Eff :=
  .look fun s =>
    let kind := s.n 0x6020 7 h
    let fresh :=
      let seq := s.traffic.generators.getD h 0
      Eff.all [.upd (.traffic fun t => { t with generators := t.generators.set h ((seq + 1) % 65536) }),
        count (commonsItem 13), setN 0x6021 8 seq h, go (insertRtag seq d)]
    if kind = 0 then go d
    else if kind = 2 && s.n 0x6020 8 h != 0xFFFF then
      match carried with
      | some seq => .seq (count (commonsItem 13)) (go (insertRtag seq d))
      | none => fresh
    else fresh

/-! ## The stream (R161 to R163) -/

/-- The egress ports of a stream. -/
def State.egressPorts (s : State) (h : Nat) : List Nat :=
  let mask := s.obj 0x6020 2 h
  if mask = 0 then [] else (List.range 256).filter fun p => maskBit mask p

/-- The class that a stream's frames take on a port (R167). -/
def State.streamClass (s : State) (h p : Nat) (d : Bytes) : Nat :=
  let c := s.n 0x6020 3 h
  if c < 8 then c else beAt (leBytes 8 (s.n 0x6000 7 p)) ((parseFrame d).pcp) 1 % 8

/-- What the stream does with a frame before it is forwarded. `len` is its counted length for the meter; `host` tells a
frame from a host ring, which recovery leaves alone. -/
def streamFilter (h : Nat) (d : Bytes) (len : Nat) (host : Bool) (go : Bytes → Bool → Eff) (dropped duplicate : Eff) : Eff :=
  .look fun s =>
    let f := frameLen d
    let sdu := s.n 0x6020 4 h
    let metered := fun (next : Bytes → Eff) =>
      if s.n 0x6020 6 h = 0xFFFF then next d
      else applyMeter (s.n 0x6020 6 h) len d next (.seq (bumpObj 0x6021 5 h) dropped)
    let counted := fun (e : Eff) => Eff.all [bumpObj 0x6021 1 h, bumpObj 0x6021 2 h f, e]
    if !s.on 0x6020 1 h then .seq (count (commonsItem 8)) dropped
    else if s.on 0x6021 4 h then .seq (count (commonsItem 7)) dropped
    else if sdu != 0 && sdu < f then
      .all [count (commonsItem 6), bumpObj 0x6021 3 h,
        .when (s.on 0x6020 5 h) (.seq (setB 0x6021 4 true h) (raise 640 h)), dropped]
    else metered fun d =>
      if s.n 0x6020 8 h != 0xFFFF && !host then
        recover (s.n 0x6020 8 h) h d (fun d' seq => generate h d' seq fun d'' =>
          counted (go d'' ((parseFrame d).rtag.isSome && (parseFrame d'').rtag.isNone))) duplicate
      else generate h d none fun d' => counted (go d' false)

/-- A received frame of a stream goes to its host ring and its egress ports, never back out of its ingress (R161, R162). -/
def streamForward (h port stamp : Nat) (verified : Bool) (d : Bytes) (stripped : Bool) : Eff :=
  .look fun s =>
    let ring := s.n 0x6020 9 h
    let out := (s.egressPorts h).filter fun q => q != port
    if ring = 0xFFFF && out.isEmpty then count (commonsItem 25)
    else .seq
      (.when (ring != 0xFFFF) (deliver ring d ⟨0, port, h, stamp, 1, stripped, verified⟩))
      (.forEach out fun q => .look fun s =>
        enqueueFrame q (s.streamClass h q d) h
          { data := d, origin := .relayed port (out.any fun q => groveOf q != groveOf port), handle := h, enqueued := s.now, received := stamp, launch := none, sent := 0,
            cuts := 0, heldCounted := false, began := none })

/-- A frame that recovery discards still reaches a ring with DeliverDuplicates, its R-TAG kept (R254); else its data alone has
been written. -/
def deliverDuplicate (h port stamp : Nat) (verified : Bool) (d : Bytes) : Eff :=
  .look fun s =>
    let ring := s.n 0x6020 9 h
    if ring = 0xFFFF || !s.on 0x8210 1 ring then writeAhead ring d
    else (deliver ring d ⟨0, port, h, stamp, 0x12, false, verified⟩)

/-- The members of a capacity stack to which a stream's frames go (R286); `forward` sends one there. -/
def stackCopies (h : Nat) (d : Bytes) (forward : Nat → Bytes → Eff) : Eff :=
  .look fun s =>
    .when s.stackMaster
      (.forEach ([1, 2, 3].filter fun m => (s.n 0x9013 1 h).testBit m) fun m => forward m d)

/-- A frame received on a port that matched a stream (R161, R286). -/
def streamReceives (h port stamp : Nat) (verified : Bool) (d : Bytes) (forward : Nat → Bytes → Eff) : Eff :=
  .look fun s => streamFilter h d (s.counted port (frameLen d)) false
    (fun d' stripped => .seq (stackCopies h d' forward) (streamForward h port stamp verified d' stripped))
    (writeAhead (s.n 0x6020 9 h) d) (deliverDuplicate h port stamp verified d)

/-! ## Frames that match no row (R160) -/

/-- How a frame is addressed to the module: 0 own unicast, 1 broadcast, 2 group. -/
def State.addressKind (s : State) (port : Nat) (x : Parsed) : Option Nat :=
  if x.dst = s.n (portIdx port 0) 6 then some 0
  else if x.dst = 0xFFFFFFFFFFFF then some 1
  else if (List.range 16).any (fun r => s.on 0x6031 2 r && s.n 0x6031 1 r == x.dst) then some 2
  else none

/-- The row of DefaultSteering that decides the fate of a frame addressed to the module. -/
def State.steeringRow (s : State) (port kind : Nat) (x : Parsed) : Option Nat :=
  (List.range 64).find? fun r =>
    s.on 0x6030 1 r && (s.n 0x6030 2 r == 0xFFFF || s.n 0x6030 2 r == port) &&
      (s.n 0x6030 3 r == 0 || s.n 0x6030 3 r == x.etherType) && (s.n 0x6030 4 r == 0xFF || s.n 0x6030 4 r == x.pcp) &&
      (s.n 0x6030 5 r == 3 || s.n 0x6030 5 r == kind)

/-- The receive ring that the headers of a frame from a port identify, 0xFFFF for none (R253). -/
def State.headerRing (s : State) (port : Nat) (d : Bytes) : Nat :=
  let x := parseFrame d
  match (s.identRows (some port) d x).head? with
  | some r => s.n 0x6020 9 (s.n 0x6010 13 r)
  | none => (((s.addressKind port x).bind fun kind => s.steeringRow port kind x).map (s.n 0x6030 6 ·)).getD 0xFFFF

/-- Default steering. -/
def steer (port stamp : Nat) (verified : Bool) (d : Bytes) (x : Parsed) : Eff :=
  .look fun s =>
    match s.addressKind port x with
    | none => count (commonsItem 3)
    | some kind =>
      match s.steeringRow port kind x with
      | none => count (commonsItem 4)
      | some r =>
        .when (s.n 0x6030 6 r != 0xFFFF)
          (.seq (count (commonsItem 2)) (deliver (s.n 0x6030 6 r) d ⟨1, port, 0xFFFF, stamp, 1, false, verified⟩))

/-- StreamUnblock (R161). -/
def unblock (h : Nat) : Eff := setB 0x6021 4 false h

/-! ## Sampled observation (R192, R193) -/

/-- One 536-byte record of a group (Table 6.6). -/
def State.observation (s : State) (g : Nat) (lost : Bool) : Bytes :=
  let cells := (List.range 64).flatMap fun i =>
    let q := s.queued (64 * g + i)
    let age := match q.head? with
      | some f => (s.now - f.enqueued) / 65536
      | none => 0
    leBytes 4 (min 4294967295 (s.depth (64 * g + i))) ++ leBytes 4 (min 4294967295 age)
  leBytes 8 s.cycle ++ stampBytes s.now ++ leBytes 1 g ++ leBytes 1 (if lost then 1 else 0) ++ List.replicate 6 0 ++ cells

/-- Whether a receive ring has a free buffer. -/
def State.hasBuffer (s : State) (r : Nat) : Bool :=
  let ring := s.hostRing false r
  ring.state == .enabled && ring.buffers.any fun b => entryType b.2 != 3

/-- The sample of one group at a boundary. -/
def sampleGroup (g : Nat) : Eff :=
  .look fun s =>
    let ring := s.n 0x6800 3 g
    .when (s.n 0x6800 1 g == 1 && s.cycle % max 1 (s.n 0x6800 2 g) == 0)
      (if s.hasBuffer ring then
        .seq (deliver ring (s.observation g (s.traffic.recordLost.contains g)) ⟨4, 0xFFFF, 0xFFFF, s.now, 1, false, false⟩)
          (.upd (.traffic fun t => { t with recordLost := t.recordLost.erase g }))
       else .all [count (commonsItem 24), raise 647 g,
         .upd (.traffic fun t => { t with recordLost := if t.recordLost.contains g then t.recordLost else g :: t.recordLost })])

/-- Every group's sample (R193). -/
def sampleQueues : Eff := .forEach (List.range 32) sampleGroup

/-! ## Meanings -/

/-- RECOVERY_RESET_TIMEOUT (R190). -/
def execRecoveryResetTimeout (fn : Nat) (s : State) : Host.Outcome State Fault Refusal := done (operating (recoveryResets fn)) s
/-- LATENT_ERROR_TEST (R191). -/
def execLatentErrorTest (fn : Nat) (s : State) : Host.Outcome State Fault Refusal := done (operating (latentTest fn)) s
/-- LATENT_RESET (R191). -/
def execLatentReset (fn : Nat) (s : State) : Host.Outcome State Fault Refusal := done (operating (latentResets fn)) s

end Sys2Proof.Machine
end

