-- ==== Sys2Proof/Machine/Ingress.lean ====
section
/-! DEFINITION. What becomes of a frame at its last bit on a port (R22, R159, R254): the checks, the frames that their own
functions take, and stream lookup for the rest. -/

namespace Sys2Proof.Machine

/-- Frames taken before stream lookup (Table 6.2): by their own commands, or by MKA. -/
def State.takenFrame (s : State) (p : Nat) (d : Bytes) : Bool :=
  let x := parseFrame d
  let module' := x.etherType == 0x88B7 && beAt d x.payload 3 == 0x04A73D
  let protocol := beAt d (x.payload + 3) 2
  (module' && ((protocol == 1 && s.isLane p) || (protocol == 2 && s.segmentPort p) || protocol == 3 || protocol == 4 ||
      protocol == 5)) ||
    x.etherType == 0x88F7 || x.etherType == 0x888E

/-- One access record of a request. -/
structure Request where
  target : Target
  op : Nat
  length : Nat
  value : Bytes

/-- The records of a request; none where they do not lie in the message. -/
def readRequests (big : Bool) : Nat → Bytes → Option (List Request)
  | 0, _ => some []
  | n + 1, b =>
    let len := wordOf big (slice b 12 2)
    let size := 16 + (len + 7) / 8 * 8
    if b.length < size then none
    else (readRequests big n (b.drop size)).map fun rs =>
      ⟨⟨wordOf big (slice b 0 2), beAt b 2 1, wordOf big (slice b 6 2), wordOf big (slice b 8 4)⟩, beAt b 3 1, len, slice b 16 len⟩ :: rs

/-- Whether a dictionary message of protocol 0x0003 holds reads only (Table 10.15). -/
def onlyReads (m : Bytes) : Bool := ((readRequests true (beAt m 5 1) (m.drop 8)).map fun rs => rs.all fun r => r.op != 2).getD false

/-- A frame that the port's MACsec lets through (Table 10.13): protected, or on the uncontrolled port EAPOL, protocol
0x0005, and reads of protocol 0x0003. -/
def State.macsecAdmits (s : State) (p : Nat) (f : Frame) : Bool :=
  let x := parseFrame f.data
  !s.on 0xA020 1 p || f.icv == .verified || x.etherType == 0x888E ||
    (x.etherType == 0x88B7 && beAt f.data x.payload 3 == 0x04A73D &&
      (beAt f.data (x.payload + 3) 2 == 5 ||
        (beAt f.data (x.payload + 3) 2 == 3 && maskBit (s.obj 0x2031 0) p && onlyReads (f.data.drop (x.payload + 5)))))

/-- A frame that fails its FCS or ICV goes to the port's error ring (R254). -/
def errorRing (p : Nat) (f : Frame) (status : Nat) : Eff :=
  .look fun s =>
    let ring := s.n 0x8230 1 p
    .when (ring != 0xFFFF && !(isProtocol f.data 1 && s.isLane p))
      (deliver ring f.data ⟨2, p, 0xFFFF, f.stamp, status, false, false⟩)

/-- A frame for a member of the capacity stack: up the chain on stack port 1, or on port 0 where only the closing link is
up. -/
def frameToMember (e : Nat → Emission) : Eff := .look fun s => sendOnStack s.portToward false (e s.portToward)

/-- A copy of a stream's frame for a member that has joined (R286, R319). -/
def streamToMember (h member : Nat) (d : Bytes) : Eff :=
  .whenS (fun s => s.memberPresent member && s.stackUsable s.portToward)
    (.seq (count (twinItem 31)) (frameToMember fun out => .streamForward out member h d))

/-- A frame for a class queue of a member's port, global port 256 x member + port (R19). -/
def portOfMember (member port cls : Nat) (d : Bytes) : Eff := frameToMember fun out => .portForward out member port cls d

/-- A good frame: lookup, unless another function takes it. -/
def ingressFrame (p : Nat) (f : Frame) : Eff :=
  .look fun s =>
    -- a witness poll of another Version is discarded and counted (R281)
    if s.takenFrame p f.data then
      .when (isBB p && isProtocol f.data 4 && beAt (protocolBody f.data) 1 1 != 1) (count (twinItem 28))
    else
      let x := parseFrame f.data
      lookup (some p) f.data x
        (fun h => streamReceives h p f.stamp (f.icv == .verified) f.data (streamToMember h))
        (steer p f.stamp (f.icv == .verified) f.data x)

/-- Whether a frame passes FCS and, where MACsec is configured, ICV and replay protection or the uncontrolled port. -/
def State.passes (s : State) (p : Nat) (f : Frame) : Bool := frameSound f && s.macsecAdmits p f && !s.replayed p f

/-- FCS and ICV errors of a frame at a port: counters 4 and 5, fault classes 9 and 10. -/
def portFrameError (p : Nat) (f : Frame) : Eff :=
  match f.fcs with
  | .good => .seq (count (portItem p 5)) (faultOccur 10 p fun _ => .skip)
  | _ => .seq (count (portItem p 4)) (faultOccur 9 p fun _ => .skip)

/-- A frame with good FCS and ICV is counted at its port, and one of a length out of bounds; a frame with bad FCS or ICV is
counted as an error (R154). -/
def countReceived (p : Nat) (f : Frame) : Eff :=
  .look fun s => if s.passes p f then .all [count (portItem p 0), countN (portItem p 1) (s.wireBytes p f),
        .when (!s.lengthOk p f) (count (portItem p 6))]
    else portFrameError p f

/-- The data of a frame that fails its checks, as it was written on arrival. -/
def writtenAhead (p : Nat) (f : Frame) : Eff :=
  .look fun s => .when (!s.takenFrame p f.data) (writeAhead (s.headerRing p f.data) f.data)

/-- What the checks of a port make of a frame (R22, R254): `good` follows where they pass. -/
def admitReceived (p : Nat) (f : Frame) (good : Eff) : Eff :=
  .look fun s =>
    if s.passes p f then (if s.lengthOk p f then good else writtenAhead p f)
    else .seq (writtenAhead p f) (errorRing p f (if f.fcs == .good then 0x11 else 0x10))

/-- A received sync frame, on a port whose segment function runs. -/
def syncReceived (p : Nat) (f : Frame) : Eff :=
  .whenS (fun s => s.segmentPort p && s.segState p != segOff) (.all [countReceived p f, segmentMoves p (syncTaken p f), noteNumber p f])

/-- A frame that arrives on an SG or LK port whose grove does not run (R403): the PHY die holds one of up to 2,048 bytes
and the grove is woken; any other is dropped. -/
def bufferFrame (p : Nat) (h : HeldFrame) : Eff :=
  .look fun s =>
    let g := groveOf p
    .seq (if 2048 < s.wireBytes p h.frame || ((s.grove g).wakeBuffer.get? p).isSome then count (groveItem g 23)
          else .upd (.power fun w => { w with
            groves := w.groves.set g { s.grove g with wakeBuffer := (s.grove g).wakeBuffer.set p h } }))
      (wakeGrove g)

/-- A frame on a port whose grove runs goes to `e`; on a sleeping grove it is buffered. The backbone lane of a sleeping grove
carries round frames only: any other is discarded (R10). -/
def awake (p : Nat) (h : HeldFrame) (e : Eff) : Eff :=
  .whenS (fun s => s.portEnabled p) (.look fun s =>
    if s.groveOn (groveOf p) then e else .when (!isBB p) (bufferFrame p h))

/-- A frame at its last bit on a port, with its timestamp (R22, R59, R136): counted, placed in the segment cycle or the round,
and checked; `good` takes it where all pass. An MKPDU comes with what MKA reads from it. -/
def received (p : Nat) (frame : Frame) (mkpdu : Option Mkpdu) (good : Frame → Eff) : Eff :=
  .look fun s =>
    let f := s.atPlane p frame
    awake p ⟨f, mkpdu⟩ (.all [countReceived p f, opportunityOf p f.node,
      segmentData p f.node f (admitReceived p f (good f)) (writtenAhead p f), noteNumber p f])

/-- A frame on a port goes to stream lookup. -/
def frameArrives (p : Nat) (f : Frame) : Eff := offWrap p (received p f none (ingressFrame p))

/-- A frame on a segment comes in the transmit opportunity of its sender (R136). -/
def segmentFrameArrives (p sender : Nat) (f : Frame) : Eff := received p { f with node := sender } none (ingressFrame p)

/-- A sync frame (R142); one that wakes its grove gives no deviation (R403). -/
def syncFrameArrives (p : Nat) (frame : Frame) : Eff :=
  .look fun s => awake p ⟨s.atPlane p frame, none⟩ (syncReceived p (s.atPlane p frame))

/-- A frame from the PHY die's buffer, as received in the tail (R403). It carries no timestamp: where one would be
written stands a value that the manual leaves open (a free value, safe: log entry 24). -/
def bufferedFrame (p : Nat) (f : Frame) (good : Frame → Eff) : Eff :=
  .seq (countReceived p f)
    (.seq (tailFrame p f.node f (withFree fun v => admitReceived p f (good { f with stamp := v }))) (noteNumber p f))

/-- A forwarded copy (R286): at its member it is processed under the member's own row of the same handle, as from ingress port
0xFFFC, and recovery is not applied again; a copy for a member beyond passes on along the chain. -/
def forwardedStream (h : Nat) (c : ForwardedFrame) : Eff :=
  .look fun s => .when s.stackMember (stackArrives c.port (
    if c.member != s.n 0x1003 0 then sendOnStack (1 - c.port) false (.streamForward (1 - c.port) c.member h c.frame.data)
    else .when (frameSound c.frame) (streamFilter h c.frame.data (frameLen c.frame.data) true
      (fun d stripped => streamForward h 0xFFFC c.frame.stamp (c.frame.icv == .verified) d stripped) .skip .skip)))

/-! ## Meanings -/

/-- FRAME_RECEIVED (R161). -/
def execFrameReceived (p : Nat) (frame : Frame) (s : State) : Host.Outcome State Fault Refusal :=
  done (operating (frameArrives p frame)) s
/-- SEGMENT_FRAME (R136). -/
def execSegmentFrame (p sender : Nat) (frame : Frame) (s : State) : Host.Outcome State Fault Refusal :=
  done (operating (segmentFrameArrives p sender frame)) s
/-- SYNC_FRAME (R142). -/
def execSyncFrame (p : Nat) (frame : Frame) (s : State) : Host.Outcome State Fault Refusal :=
  done (operating (syncFrameArrives p frame)) s
/-- STREAM_FORWARD (R286). -/
def execStreamForward (handle : Nat) (copy : ForwardedFrame) (s : State) : Host.Outcome State Fault Refusal :=
  done (operating (forwardedStream handle copy)) s

end Sys2Proof.Machine
end

