-- ==== Sys2Proof/Machine/Endpoint.lean ====
section
/-! DEFINITION. Endpoints of the message layer (R201 to R205, R222): signals and PDUs, entries, what a source reads as, and
what becomes of a released write (R208, R212). -/

namespace Sys2Proof.Machine

/-! ## Endpoint numbers and signals -/

/-- The fields of an endpoint: Kind, Ref and Offset. -/
def epKind (ep : Nat) : Nat := ep / 72057594037927936 % 256
def epRef (ep : Nat) : Nat := ep / 65536 % 4294967296
def epOffset (ep : Nat) : Nat := ep % 65536

/-- Bit `k` of a byte string, counted from the least significant bit of its first byte. -/
def bitLe (bs : Bytes) (k : Nat) : Bool := ((bs.getD (k / 8) 0).toNat).testBit (k % 8)

/-- Bit `k` of a byte string, counted from the most significant bit of its first byte. -/
def bitBe (bs : Bytes) (k : Nat) : Bool := ((bs.getD (k / 8) 0).toNat).testBit (7 - k % 8)

/-- The `n` bits at bit position `b` as an unsigned number (R202). -/
def signalBits (little : Bool) (bs : Bytes) (b n : Nat) : Nat :=
  (List.range n).foldl (fun v i =>
    if little then v + (if bitLe bs (b + i) then 2 ^ i else 0) else 2 * v + (if bitBe bs (b + i) then 1 else 0)) 0

/-- An unsigned number of `n` bits read as signed (R202). -/
def signExtend (n v : Nat) : Int := if 2 * v < 2 ^ n then (v : Int) else (v : Int) - (2 ^ n : Nat)

/-- A byte string with bit `k` (little-endian numbering) set to a value. -/
def setBitLe (bs : Bytes) (k : Nat) (v : Bool) : Bytes :=
  bs.modify (k / 8) fun x =>
    BitVec.ofNat 8 (if v then x.toNat ||| 2 ^ (k % 8) else x.toNat &&& (255 - 2 ^ (k % 8)))

/-- The byte string with an `n`-bit number placed at bit position `b` (R202); other bits stay. -/
def placeSignal (little : Bool) (bs : Bytes) (b n v : Nat) : Bytes :=
  (List.range n).foldl (fun x i =>
    if little then setBitLe x (b + i) (v.testBit i)
    else setBitLe x ((b + i) / 8 * 8 + (7 - (b + i) % 8)) (v.testBit (n - 1 - i))) bs

/-- A number brought into the range of `n` destination bits: the nearer limit, and whether it did not fit (R203). -/
def saturate (n : Nat) (signed : Bool) (v : Int) : Int × Bool :=
  let lo : Int := if signed then -(2 ^ (n - 1) : Nat) else 0
  let hi : Int := if signed then (2 ^ (n - 1) : Nat) - 1 else (2 ^ n : Nat) - 1
  (clampInt lo hi v, decide (v < lo) || decide (hi < v))

/-! ## Entries (Table 7.2) -/

/-- An entry as it stands in a grove store or a host image. -/
def entryBytes (status age verdict : Nat) (isPdu : Bool) (length cycle : Nat) (value : Bytes) : Bytes :=
  leBytes 1 status ++ leBytes 1 (min age 255) ++ leBytes 1 verdict ++ leBytes 1 (if isPdu then 128 else 0) ++
    leBytes 2 length ++ [0, 0] ++ leBytes 4 cycle ++ [0, 0, 0, 0] ++
    (if isPdu then padTo8 (value.take length) else slice value 0 8)

/-- The bytes an entry occupies (R204). -/
def entrySize (isPdu : Bool) (length : Nat) : Nat := if isPdu then 16 + (length + 7) / 8 * 8 else 24

/-- The value of an absent source (R201). -/
def noValue : SourceValue :=
  { status := 0, fresh := false, age := 255, verdict := 0xFF, cycle := 0, isPdu := false, bits := 64,
    bytes := List.replicate 8 0, arrived := 0, base := 0xFFFF }

/-- An entry read from a memory at an address. -/
def readEntry (m : Memory) (a : Nat) : SourceValue :=
  let h := m.readBytes a 16
  let isPdu := 128 ≤ leAt h 3 1
  let length := leAt h 4 2
  { status := leAt h 0 1, fresh := leAt h 0 1 == 1, age := leAt h 1 1, verdict := leAt h 2 1, cycle := leAt h 8 4,
    isPdu := isPdu, bits := length, bytes := m.readBytes (a + 16) (if isPdu then length else 8), arrived := 0,
    base := 0xFFFF }

/-- A source value in the encoding of an entry, as the twin's messages and digests carry it (R292, R293). -/
def encodeValue (v : SourceValue) : Bytes :=
  entryBytes v.status v.age v.verdict v.isPdu v.bits v.cycle v.bytes

/-! ## Time bases -/

/-- The cycle counter of a time base: 0xFFFF the backbone, else a port's segment cycle (R206). -/
def State.baseCycle (s : State) (base : Nat) : Nat := if base = 0xFFFF then s.cycle else (s.seg base).cycle

/-- An age advanced to now. -/
def State.advanceAge (s : State) (age : Nat) (k : EntryMark) : Nat := min 255 (age + (s.baseCycle k.base - k.cycle))

/-! ## Sources -/

/-- A value that became readable at an instant with a serial: fresh where that was after the task's previous run. -/
def freshAfter (last : Option (Nat × Nat)) (serial instant : Nat) : Bool :=
  match last with
  | some (sr, t) => decide (sr < serial) || decide (t < instant)
  | none => true

/-- Whether a section is delivered to a grove (Table 7.1). -/
def State.deliveredTo (s : State) (r : SecRow) (g : Nat) : Bool :=
  (s.n 0x4130 1 (1024 * s.mode + r.row)).testBit 0 && (s.n 0x4130 2 (1024 * s.mode + r.row)).testBit g

/-- The early value of a section that is readable now (R222). -/
def State.earlyValue (s : State) (r : SecRow) : Option (Bytes × Nat × Nat) :=
  if !r.early || s.stackMember then none
  else match (s.candidate r.id).taken, (s.candidate r.id).early with
    | some (b, _), some (sr, at') => if earlyReadable at' ≤ s.now then some (b, sr, at') else none
    | _, _ => none

/-- The view of a section that a member of a capacity stack reads: the last one that has become readable (R285). -/
def State.forwardedView (s : State) (id : Nat) : View :=
  let x := s.twin.memberViews.getD id View.none
  if x.since ≤ s.now then x else s.twin.memberViews.getD (65536 + id) View.none

/-- A committed view as a source: a member reads what its master forwards (R285). -/
def State.committedView (s : State) (id : Nat) : View := if s.stackMember then s.forwardedView id else s.view id

/-- A section as a source: in LISTEN and SAPLING its value is held, with the view's Age (R104, R205). -/
def State.sectionSource (s : State) (last : Option (Nat × Nat)) (r : SecRow) : SourceValue :=
  match s.earlyValue r with
  | some (b, sr, at') =>
    { status := 1, fresh := s.delivers && freshAfter last sr (earlyReadable at'), age := 0, verdict := 0xFF,
      cycle := s.cycle % 4294967296, isPdu := true, bits := r.length, bytes := slice b 0 r.length,
      arrived := earlyReadable at', base := 0xFFFF }
  | none =>
    let v := s.committedView r.id
    if v.status = 0 then noValue
    else
      { status := if v.status = 1 && s.delivers then 1 else 2
        fresh := s.delivers && v.status == 1 && freshAfter last v.serial v.since
        age := v.age, verdict := 0xFF, cycle := (s.cycle - 1 - v.age) % 4294967296, isPdu := true, bits := r.length,
        bytes := slice v.value 0 r.length, arrived := v.since, base := 0xFFFF }

/-- A slot of the running segment mode as a source: its last accepted frame that is readable, 400 ns after its end. -/
def State.slotSource (s : State) (last : Option (Nat × Nat)) (p i : Nat) : SourceValue :=
  let g := s.seg p
  let key := 64 * s.segMode p + i
  let ready := fun (x : Bytes × Nat × Nat × Nat) => decide (x.2.2.2 + nsUnits 400 ≤ s.now)
  let found := match (s.slotOf p (s.segMode p) i).bind fun _ => g.received.get? key with
    | some x => if ready x then some x else g.received.get? (65536 + key)
    | none => none
  match found with
  | some (b, j, sr, t) =>
    { status := 1, fresh := freshAfter last sr (t + nsUnits 400), age := min 255 (g.cycle - j), verdict := 0xFF,
      cycle := j % 4294967296, isPdu := true, bits := b.length, bytes := b, arrived := t + nsUnits 400, base := p }
  | none => noValue

/-- Whether an entry of an outbound image lies between its stamps, on a multiple of 8. -/
def State.imageRoom (s : State) (image off size : Nat) : Bool :=
  off % 8 == 0 && 8 ≤ off && off + size + 8 ≤ s.n 0x7400 4 image

/-- An enabled host image of a direction. -/
def State.imageIs (s : State) (image direction : Nat) : Bool :=
  image < 64 && s.on 0x7400 1 image && s.n 0x7400 2 image == direction

/-- The record of a host image. -/
def State.image (s : State) (i : Nat) : HostImage :=
  s.messages.images.getD i ⟨none, false, none, 0, 0, 0⟩

/-- An entry of an outbound image as a source: fresh for the stamp that the last accepted read brought. -/
def State.imageSource (s : State) (last : Option (Nat × Nat)) (image off : Nat) : SourceValue :=
  let e := readEntry s.buffers.outbound (65536 * image + off)
  let k := s.image image
  if !s.imageIs image 1 || !s.imageRoom image off 24 || !s.imageRoom image off (entrySize e.isPdu e.bits) ||
      e.status = 0 then noValue
  else { e with
    fresh := freshAfter last k.serial k.swappedAt
    age := s.advanceAge e.age ⟨k.serial, 0xFFFF, k.swapCycle, k.swappedAt⟩, arrived := k.swappedAt }

/-- An entry of a grove store as a source. -/
def State.storeSource (s : State) (last : Option (Nat × Nat)) (g off : Nat) : SourceValue :=
  let a := 65536 * g + off
  match s.messages.storeMarks.get? a with
  | some k =>
    let e := readEntry s.buffers.stores a
    if off % 8 != 0 || e.status = 0 then noValue
    else { e with
      fresh := e.status == 1 && freshAfter last k.serial k.instant, age := s.advanceAge e.age k, arrived := k.instant, base := k.base }
  | none => noValue

/-- Whether a message channel exists: enabled. -/
def State.channelOn (s : State) (ch : Nat) : Bool := ch < 64 && s.on 0x7410 1 ch

/-- The latest message of an endpoint as a source; a channel that is not enabled has none (R201). -/
def State.messageSource (s : State) (last : Option (Nat × Nat)) (ref : Nat) : SourceValue :=
  match if s.channelOn (ref / 65536) then s.messages.received.get? ref else none with
  | some m =>
    let fresh := freshAfter last m.serial m.instant
    let age := min 255 (s.cycle - m.cycle)
    if m.kind = 1 then
      { status := 1, fresh := fresh, age := age, verdict := m.verdict, cycle := m.cycle % 4294967296, isPdu := false,
        bits := leAt m.body 4 2, bytes := slice m.body 16 8, arrived := m.instant, base := 0xFFFF }
    else
      { status := 1, fresh := fresh, age := age, verdict := m.verdict, cycle := m.cycle % 4294967296, isPdu := true,
        bits := m.body.length, bytes := m.body, arrived := m.instant, base := 0xFFFF }
  | none => noValue

/-- What an endpoint reads as for an engine's task (R201, R205); a value read that is not fresh is held. -/
def State.readEndpoint (s : State) (e : Nat) (last : Option (Nat × Nat)) (ep : Nat) : SourceValue :=
  let g := e / 16
  let ref := epRef ep
  let v := match epKind ep with
    | 1 => match s.sectionOf s.mode ref with
      | some r => if ref < 0xF00 && s.deliveredTo r g then s.sectionSource last r else noValue
      | none => noValue
    | 2 => if isPort (ref / 64) && ref / 64 / 32 == g then s.slotSource last (ref / 64) (ref % 64) else noValue
    | 3 => s.storeSource last g (epOffset ep)
    | 4 => s.imageSource last ref (epOffset ep)
    | 5 => s.messageSource last ref
    | _ => noValue
  if v.status = 1 && !v.fresh then { v with status := 2 } else v

/-- Whether reading an endpoint misses its early value (R223). -/
def State.missesEarly (s : State) (e ep : Nat) : Bool :=
  epKind ep == 1 && (match s.sectionOf s.mode (epRef ep) with
    | some r => r.early && !s.stackMember && s.deliveredTo r (e / 16) && (s.earlyValue r).isNone
    | none => false)

/-- Whether an endpoint is a mirrored input (R292). -/
def State.mirroredInput (s : State) (ep : Nat) : Bool :=
  epKind ep == 2 || epKind ep == 4 || epKind ep == 5 ||
    (epKind ep == 1 && (match s.sectionOf s.mode (epRef ep) with
      | some r => r.early
      | none => false))

/-! ## Destinations -/

/-- An endpoint that does not exist or may not be written (R201). -/
def endpointError (e : Nat) : Eff := count (engineItem e 12)

/-- A value that did not fit: counted, and reported at most once per backbone cycle (R203). -/
def noteSaturated (e : Nat) (sat : Bool) : Eff :=
  .when sat (.seq (count (engineItem e 10)) (raiseOncePerCycle 712 0 (raise 712 e)))

/-- The payload that a write makes of a section or slot of at most `room` bytes: the moved bytes or bits at the
destination offset, every other byte 0 (R213); none where they would run past its end (R203). `fixed` gives a section's
whole length, a slot's payload ends with what is moved. -/
def payloadOf (w : TaskWrite) (room : Nat) (fixed : Bool) : Option (Bytes × Bool) :=
  let off := epOffset w.endpoint
  if w.whole then
    if off + w.value.bytes.length ≤ room then
      some (padTo (if fixed then room else 0) (List.replicate off 0 ++ w.value.bytes), false)
    else none
  else if off + w.bitLength ≤ 8 * room then
    let size := if fixed then room else (off + w.bitLength + 7) / 8
    let (v, sat) := saturate w.bitLength w.signed
      (if w.signed then signedOf 8 (ofLe w.value.bytes) else ofLe w.value.bytes)
    some (placeSignal w.littleEndian (List.replicate size 0) off w.bitLength (v % (2 ^ w.bitLength : Nat)).toNat, sat)
  else none

/-- Writes the outbound buffer of a section: its own, the holder's RoleName section, a standby's shadow (R288, R295); a capacity-stack
member's write to its master's section is carried to the master (R285). -/
def writeSection (e : Nat) (r : SecRow) (w : TaskWrite) : Eff :=
  .look fun s =>
    let role := s.twinHalf && r.owner == s.n 0x9020 3 && r.owner != 0
    let mastersOwn := s.stackMember && r.owner == s.twin.masterName && r.owner != 0
    if 0xF00 ≤ r.id || !(r.owner == s.nodeName || role || mastersOwn) then endpointError e
    else match payloadOf w r.length true with
      | none => endpointError e
      | some (b, sat) => .all [
          noteSaturated e sat, countN (engineItem e 6) r.length,
          if role && !s.leaseHeld then
            .when (s.twinState == twStandby)
              (.seq settleShadows (.upd (.twin fun t => { t with
                shadows := t.shadows.set r.id (⟨b, e, s.now⟩ ::
                  (t.shadows.getD r.id []).filter fun w => s.now ≤ w.written + 2 * s.cycleUnits) })))
          else if mastersOwn then sendOnStack s.portUp false (.views s.portUp true [⟨r.row, b, 0, nameHash r.owner, 1⟩])
          else .upd (.ring fun g => { g with outBuffers := g.outBuffers.set r.id ⟨b, true, some e⟩ })]

/-- The header of a slot's frame (R234): the first enabled row of 0x7420 for the slot, else broadcast and 0x88B5. -/
def State.slotHeader (s : State) (p row : Nat) : Bytes :=
  let mac := leBytes 6 (s.obj (portIdx p 0) 6).toNat
  let rows := (s.od.dict.filter fun k => k.1.idx == 0x7420 && k.1.sub == 1 && k.2 == (p : Int)).map fun k => k.1.row
  match rows.find? fun r => s.n 0x7420 2 r == row with
  | some r =>
    leBytes 6 (s.obj 0x7420 3 r).toNat ++ mac ++
      (if s.n 0x7420 5 r = 0 then [] else beBytes 2 0x8100 ++ beBytes 2 (s.n 0x7420 5 r)) ++ beBytes 2 (s.n 0x7420 4 r)
  | none => List.replicate 6 255 ++ mac ++ beBytes 2 0x88B5

/-- Writes the outbound buffer of an own slot of the running segment mode with SlotSource 0 (R134, R201, R234). -/
def writeSlot (e p i : Nat) (w : TaskWrite) : Eff :=
  .look fun s =>
    let row := 64 * s.segMode p + i
    let head := s.slotHeader p row
    match if isPort p && s.segmentPort p then s.slotOf p (s.segMode p) i else none with
    | some x =>
      if x.owner != 0 || x.sync || x.source != 0 then endpointError e
      else match payloadOf w (s.port p 0 5 - head.length - 4) false with
        | none => endpointError e
        | some (b, sat) => .all [
            noteSaturated e sat, countN (engineItem e 6) b.length,
            segSet p fun g => { g with outBuffers := g.outBuffers.set row (padTo 60 (head ++ b), true) }]
    | none => endpointError e

/-- The entry a write makes, and whether its value did not fit. -/
def entryOf (w : TaskWrite) : Bytes × Bool :=
  let v := w.value
  if w.whole then (entryBytes v.status v.age v.verdict true v.bytes.length v.cycle v.bytes, false)
  else
    let (x, sat) := saturate w.bitLength w.signed (if w.signed then signedOf 8 (ofLe v.bytes) else ofLe v.bytes)
    (entryBytes v.status v.age v.verdict false w.bitLength v.cycle (leBytes 8 (unsignedOf 8 x)), sat)

/-- The entry that keeps the last value at an address as HELD, its age advanced, with a new verdict (R218). -/
def State.keptEntry (s : State) (m : Memory) (a : Nat) (k : Option EntryMark) (verdict : Nat) : Bytes :=
  let old := readEntry m a
  let age := match k with
    | some k => s.advanceAge old.age k
    | none => old.age
  entryBytes (if old.status = 0 then 0 else 2) age verdict old.isPdu old.bits old.cycle old.bytes

/-- Writes an entry into a memory, with the mark of its writing. -/
def writeEntryAt (a base : Nat) (bytes : Bytes) (store : Bool) : Eff :=
  .seq nextSerial (.look fun s =>
    let mark : EntryMark := ⟨s.messages.serial, base, s.baseCycle base, s.now⟩
    .seq (.upd (.write (if store then .stores else .inbound) a bytes))
      (.upd (.messages fun m =>
        if store then { m with storeMarks := m.storeMarks.set a mark } else { m with imageMarks := m.imageMarks.set a mark })))

/-- Writes a grove store entry or an inbound image entry; always whole (R204). -/
def writeStoreEntry (e a : Nat) (store room : Bool) (w : TaskWrite) : Eff :=
  .look fun s =>
    let mem := if store then s.buffers.stores else s.buffers.inbound
    let mark := if store then s.messages.storeMarks.get? a else s.messages.imageMarks.get? a
    let (fresh, sat) := entryOf w
    let bytes := if w.keep then s.keptEntry mem a mark w.value.verdict else fresh
    let base := if w.keep then (match mark with
      | some k => k.base
      | none => 0xFFFF) else w.base
    if !room || (w.whole && 4096 < w.value.bytes.length) then endpointError e
    else .all [noteSaturated e (sat && !w.keep), countN (engineItem e 6) bytes.length, writeEntryAt a base bytes store]

/-- The 16-byte header of a message (Table 7.8). -/
def messageHeader (kind verdict length ident cycle : Nat) : Bytes :=
  leBytes 1 kind ++ leBytes 1 verdict ++ leBytes 2 length ++ leBytes 2 ident ++ [0, 0] ++ leBytes 8 cycle

/-- Sends a message on a channel's receive ring (R228). -/
def sendMessage (ch kind verdict ident : Nat) (body : Bytes) : Eff :=
  .look fun s =>
    let ring := s.n 0x7410 4 ch
    let x := s.hostRing false ring
    if x.state != .enabled || x.buffers.isEmpty || s.ringOwner false ring != some (s.n 0x7410 2 ch) then
      .all [bumpObj 0x7411 3 ch, count (commonsItem 40), raiseOncePerCycle 711 ch (raise 711 ch)]
    else .all [bumpObj 0x7411 2 ch, count (commonsItem 39),
      deliver ring (messageHeader kind verdict body.length ident s.cycle ++ body)
        ⟨0, 0xFFFF, 0xFFFF, s.now, 1, false, false⟩]

/-- Sends a released write as a message: a PDU at the destination offset of the body (Table 7.1), a signal as a signal
entry, which is the body (R228). -/
def writeMessage (e ref : Nat) (w : TaskWrite) : Eff :=
  .look fun s =>
    let ch := ref / 65536
    let (entry, sat) := entryOf w
    let body := if w.keep then [] else if w.whole then List.replicate (epOffset w.endpoint) 0 ++ w.value.bytes else entry
    if !s.channelOn ch || 4096 < body.length then endpointError e
    else .all [noteSaturated e (sat && !w.keep), countN (engineItem e 6) (16 + body.length),
      sendMessage ch (if w.whole || w.keep then 0 else 1) w.value.verdict (ref % 65536) body]

/-- Releases one staged write to its destination (R208, R201). -/
def releaseWrite (e : Nat) (w : TaskWrite) : Eff :=
  .look fun s =>
    let ref := epRef w.endpoint
    let off := epOffset w.endpoint
    let size := if w.whole then entrySize true w.value.bytes.length else 24
    let entry := epKind w.endpoint == 3 || epKind w.endpoint == 4 || epKind w.endpoint == 5
    if w.keep && !entry then .skip
    else match epKind w.endpoint with
    | 1 => match s.sectionOf s.mode ref with
      | some r => writeSection e r w
      | none => endpointError e
    | 2 => writeSlot e (ref / 64) (ref % 64) w
    | 3 => writeStoreEntry e (65536 * (e / 16) + off) true (off % 8 == 0 && off + size ≤ 65536) w
    | 4 => writeStoreEntry e (65536 * ref + off) false (s.imageIs ref 0 && s.imageRoom ref off size) w
    | 5 => writeMessage e ref w
    | 0 => .skip
    | _ => endpointError e

end Sys2Proof.Machine
end

