-- ==== Sys2Proof/Machine/Tasks.lean ====
section
/-! DEFINITION. Tasks of the engines (R206 to R212), the function catalogue (R213 to R221) and the result collector (R229,
R230). -/

namespace Sys2Proof.Machine

/-! ## Engines and task tables -/

def State.engine (s : State) (e : Nat) : Engine := s.messages.engines.getD e Engine.init

def engineSet (e : Nat) (f : Engine → Engine) : Eff :=
  .upd (.messages fun m => { m with engines := m.engines.set e (f (m.engines.getD e Engine.init)) })

/-- Column `sub` of row 64m + i of an engine's task table (R207). -/
def State.taskCell (s : State) (e m i sub : Nat) : Nat := s.n (0x7100 + e) sub (64 * m + i)

/-- The rows of a function's table (R235). -/
def functionTableRows (fn : Nat) : Nat := if fn ≤ 2 then 16384 else if fn = 6 then 512 else 1024

/-- The parameter rows of a task. -/
def State.taskRows (s : State) (e m i : Nat) : List Nat :=
  (List.range (s.taskCell e m i 6)).map fun k => s.taskCell e m i 5 + k

/-- The parameter table of a function in a grove (Table 7.3). -/
def paramTable (fn g : Nat) : Nat :=
  if fn ≤ 2 then 0x7200 + g else if fn ≤ 4 then 0x7210 + g else if fn = 5 then 0x7220 + g
  else if fn = 6 then 0x7230 + g else 0x7240 + g

/-- The sources that a task reads, in read order. -/
def State.taskSources (s : State) (e m i : Nat) : List Nat :=
  let fn := s.taskCell e m i 2
  let t := paramTable fn (e / 16)
  let rows := s.taskRows e m i
  match fn with
  | 0 | 3 | 4 | 5 => rows.map fun r => s.n t 1 r
  | 1 => (rows.drop 1).map fun r => s.n t 1 r
  | 2 => (rows.take 1).map fun r => s.n t 1 r
  | 6 => rows.flatMap fun r => [s.n t 1 r, s.n t 3 r]
  | _ => []

/-- The start of the running cycle of a time base, in the local clock. -/
def State.baseStart (s : State) (base : Nat) : Int :=
  if base = 0xFFFF then s.cycleStart s.cycle
  else ((s.seg base).cycle * nsUnits (s.segLength base) : Nat) - (s.seg base).offset

/-- The length of a cycle of a time base in ns. -/
def State.baseLength (s : State) (base : Nat) : Nat := if base = 0xFFFF then s.cycleLength else s.segLength base

/-- MirrorLag in ns where this half is a standby (R291). -/
def State.standbyLag (s : State) : Nat := if s.twinHalf && s.twinState == twStandby then s.n 0x9020 6 else 0

/-- The instant at which a task of the running cycle is due (R207, R291). -/
def State.taskDue (s : State) (e m i : Nat) : Int :=
  s.baseStart (s.timeBase e m) + nsUnits (s.taskCell e m i 3 + s.standbyLag)

/-- Whether a standby's task would run past its cycle's end (R291). -/
def State.pastCycle (s : State) (e m i : Nat) : Bool :=
  s.standbyLag != 0 &&
    s.baseLength (s.timeBase e m) < s.taskCell e m i 3 + s.standbyLag + (5 * s.taskCell e m i 4 + 7) / 8

/-- Whether an engine can run tasks now: its grove runs, is not under self-test, it is not restarting, and no loaded
snapshot waits for its replay (R311). -/
def State.engineRuns (s : State) (e : Nat) : Bool :=
  s.groveOn (e / 16) && !(s.grove (e / 16)).selfTesting && !(s.engine e).restarting &&
    !(s.twinHalf && s.twinState == twSyncing && s.twin.coppice.loaded)

/-! ## What the twin compares (R292, R293) -/

/-- The record of a task in a digest: engine number, task row, and what was read or released. -/
def digestRecord (e row : Nat) (body : Bytes) : Bytes := beBytes 1 e ++ beBytes 2 row ++ body

/-- Adds a task's record to a grove's digest of this cycle: 0 input, 1 output. -/
def addDigest (e row which : Nat) (body : Bytes) : Eff :=
  .whenS State.twinHalf (.upd (.messages fun m =>
    { m with
        digests := m.digests.set (2 * (e / 16) + which)
          (m.digests.getD (2 * (e / 16) + which) [] ++ digestRecord e row body) }))

/-- The holder sends the mirrored inputs that a task has read (R292); while it serves a coppice they enter the log of the
cycle (R311). -/
def sendMirror (m : MirrorMsg) : Eff :=
  .look fun s => .when (s.twinHalf && s.leaseHeld && !m.values.isEmpty)
    (.all [count (twinItem 3), sendOnStack s.twinPort false (.mirror s.twinPort (s.n 0x9021 2) m),
      .when s.twin.coppice.serving.isSome
        (.upd (.twin fun t => { t with coppice := { t.coppice with mirrored := t.coppice.mirrored ++ [m] } }))])

/-- The values read, with the mirrored inputs replaced in order by those of a Mirror message. -/
def applyMirror : List (Bool × SourceValue) → List SourceValue → List SourceValue
  | [], _ => []
  | (true, _) :: xs, v :: vs => v :: applyMirror xs vs
  | (_, x) :: xs, vs => x :: applyMirror xs vs

/-! ## The start of a task -/

/-- A due task that does not run (R206, R291, R298). -/
def taskNotRun (e m i : Nat) : Eff :=
  .look fun s => .all [
    count (engineItem e 4),
    .when (s.groveOn (e / 16) && (s.engine e).run.isNone && (s.engine e).result.isNone)
      (engineSet e fun x => { x with result := some ⟨i, 2, 0, 0, s.now, s.now, false, m⟩ }),
    baseWatch e]

/-- The task starts: it reads all its sources as they stand (R208). It is late more than 16 datapath cycles after its due
instant (R210), and where a task of an earlier table kept it (R211). -/
def beginTask (e m i : Nat) : Eff :=
  .look fun s =>
    let row := 64 * m + i
    let last := (s.engine e).lastRuns.get? row
    let eps := s.taskSources e m i
    let own := eps.map fun ep => (s.mirroredInput ep, s.readEndpoint e last ep)
    let cyc := s.baseCycle (s.timeBase e m)
    let standby := s.twinHalf && (s.twinState == twStandby || s.twinState == twSyncing)
    let mirror := s.messages.mirrors.find? fun x => x.engine == e && x.row == row && x.cycle == cyc
    let reads := own.any Prod.fst
    let sources := match mirror with
      | some x => if standby then applyMirror own x.values else own.map Prod.snd
      | none => own.map Prod.snd
    let late := decide (s.taskDue e m i + 838861 < s.now) || decide (s.taskDue e m i < (s.engine e).oldUntil)
    let reports := if s.taskCell e m i 2 = 7 then
        (s.taskRows e m i).map fun k => s.messages.reports.getD (1024 * (e / 16) + k) 0xFFFFFFFFFFFFFFFF
      else []
    .all [
      .when (s.twinHalf && s.twinState == twStandby && reads && mirror.isNone) (count (twinItem 5)),
      .upd (.messages fun x => { x with
          mirrors := x.mirrors.filter fun y =>
            !(y.engine == e && y.row == row && y.cycle == cyc) }),
      sendMirror ⟨e, row, cyc, (own.filter Prod.fst).map Prod.snd⟩,
      .forEach eps fun ep => .when (s.missesEarly e ep) (count (engineItem e 9)),
      countN (engineItem e 7) (sources.filter SourceValue.fresh).length,
      countN (engineItem e 8) (sources.filter fun v => !v.fresh).length,
      addDigest e row 0 (sources.flatMap encodeValue),
      .when late (.seq (count (engineItem e 3))
        (.when ((s.taskCell e m i 7).testBit 0) (raiseFull 0 (256 + e) 2 row none))),
      engineSet e fun x => { x with
        run := some ⟨i, m, s.now, s.messages.serial, sources, [], [], (s.taskRows e m i).length, false, late, s.cycle, reports⟩
        lastRuns := x.lastRuns.set row (s.messages.serial, s.now) },
      baseWatch e, setN 0x7011 2 row e]

/-- A task is due while its grove does not run: it starts when the grove runs (R406). One in a grove that is off does not. -/
def owedTask (e i : Nat) : Eff :=
  .look fun s =>
    let g := e / 16
    .when ((s.grove g).state != 3) (.seq (groveLate g) (.look fun s => .upd (.power fun w => { w with
      groves := w.groves.set g { s.grove g with owed := (s.grove g).owed ++ [(e, i)] } })))

/-- A standby task that would run past its cycle's end is not run, and is left out of comparison (R291). -/
def taskLeftOut (e m i : Nat) : Eff :=
  .look fun s => .seq (taskNotRun e m i)
    (.upd (.twin fun t => { t with skipped := (s.cycle, e) :: t.skipped.filter fun x => s.cycle ≤ x.1 + 2 }))

/-- Task row `i` of an engine is due. The engine does not start it while a task runs or a result waits (R210). -/
def startTask (e i : Nat) : Eff :=
  .look fun s =>
    let m := (s.engine e).mode
    if !(e < 128 && i < 64 && s.on 0x7000 1 && s.on 0x7010 1 (8 * e + m) && s.taskCell e m i 1 != 0) then .skip
    else if !s.groveOn (e / 16) then owedTask e i
    else if !s.engineRuns e || !s.baseReady e m then taskNotRun e m i
    else if s.pastCycle e m i then taskLeftOut e m i
    else .when ((s.engine e).run.isNone && (s.engine e).result.isNone) (beginTask e m i)

/-! ## Staging -/

/-- Stages a write of the running task (R208). -/
def stage (e : Nat) (w : TaskWrite) : Eff :=
  engineSet e fun x => { x with run := x.run.map fun r => { r with writes := r.writes ++ [w] } }

/-- Whether an endpoint's offset counts bits or bytes of a PDU, not the place of an entry. -/
def pduOffset (ep : Nat) : Bool := epKind ep == 1 || epKind ep == 2 || epKind ep == 5

/-- The bit or byte at which an endpoint's value starts in what was read: 0 for an entry. -/
def startIn (ep : Nat) : Nat := if pduOffset ep then epOffset ep else 0

/-- A signal of `n` bits read from a value (R202); none where it runs past the PDU received. -/
def readSignal (x : SourceValue) (b n : Nat) (little signed : Bool) : Option Int :=
  if !x.isPdu then some (if signed then signedOf 8 (ofLe x.bytes) else (ofLe x.bytes : Nat))
  else if b + n ≤ 8 * x.bytes.length then
    let v := signalBits little x.bytes b n
    some (if signed then signExtend n v else (v : Int))
  else none

/-- `n` bytes of a PDU read from a value; none where they run past it. -/
def readPdu (x : SourceValue) (off n : Nat) : Option Bytes :=
  if off + n ≤ x.bytes.length then some (slice x.bytes off n) else none

/-- The Status that a destination receives of its source (R205). -/
def statusPassed (x : SourceValue) : Nat := if x.fresh then 1 else if x.status = 3 then 3 else 2

/-- A staged signal. -/
def signalWrite (dst : Nat) (x : SourceValue) (v : Int) (n : Nat) (little signed : Bool) (base : Nat) : TaskWrite :=
  ⟨dst, { x with status := statusPassed x, verdict := 0xFF, isPdu := false, bits := n, bytes := leBytes 8 (unsignedOf 8 v) },
    n, little, signed, false, false, base⟩

/-- A staged PDU. -/
def pduWrite (dst status age verdict cycle : Nat) (bytes : Bytes) (base : Nat) : TaskWrite :=
  ⟨dst, ⟨status, status == 1, age, verdict, cycle, true, bytes.length, bytes, 0, base⟩, 0, true, false, true, false, base⟩

/-- A staged verdict: the entry's last value stays, HELD (R218). -/
def verdictWrite (dst verdict : Nat) : TaskWrite :=
  ⟨dst, { noValue with verdict := verdict }, 64, true, false, false, true, 0xFFFF⟩

/-- Size of a signal row in bits: 1 to 64 (R202). -/
def signalSize (n : Nat) : Nat := max 1 (min n 64)

/-- Whether a row writes with this source: fresh, or policy 1 with something to read (R205). -/
def rowWrites (x : SourceValue) (fresh : Bool) (fmt : Nat) : Bool := fresh || (fmt / 16 % 4 == 1 && x.status != 0)

/-! ## ROUTE, PACK, UNPACK -/

/-- One row of ROUTE (R213). -/
def routeRow (e r : Nat) (x : SourceValue) : Eff :=
  .look fun s =>
    let g := e / 16
    let t := 0x7200 + g
    let src := s.n t 1 r
    let dst := s.n t 2 r
    let size := s.n t 3 r
    let fmt := s.n t 4 r
    let base := x.base
    if !rowWrites x x.fresh fmt then .skip
    else if fmt.testBit 0 then
      match readPdu x (startIn src) size with
      | some b => stage e (pduWrite dst (statusPassed x) x.age 0xFF x.cycle b base)
      | none => count (engineItem e 11)
    else
      let n := signalSize size
      match readSignal x (startIn src) n (fmt.testBit 1) (fmt.testBit 3) with
      | some v => stage e (signalWrite dst x v n (fmt.testBit 2) (fmt.testBit 3) base)
      | none => count (engineItem e 11)

def runRoute (e : Nat) (r : TaskRun) (rows : List Nat) : Eff :=
  .forEach (rows.zip r.sources) fun x => routeRow e x.1 x.2

/-- What PACK has gathered so far. -/
structure Packing where
  pdu : Bytes
  anyFresh : Bool
  allFresh : Bool
  youngest : Option (Nat × Nat × Nat)
  short : Nat
  errors : Nat
  saturated : Nat

/-- One later row of PACK: its signal at the Offset of its Destination (R214). -/
def State.packRow (s : State) (g : Nat) (p : Packing) (row : Nat × SourceValue) : Packing :=
  let t := 0x7200 + g
  let src := s.n t 1 row.1
  let n := signalSize (s.n t 3 row.1)
  let fmt := s.n t 4 row.1
  let x := row.2
  let b := epOffset (s.n t 2 row.1)
  let v := if rowWrites x x.fresh fmt then readSignal x (startIn src) n (fmt.testBit 1) (fmt.testBit 3) else none
  let missing := rowWrites x x.fresh fmt && v.isNone
  let fresh := x.fresh && !missing
  let youngest := match p.youngest with
    | some (a, c, k) => if a ≤ x.age then some (a, c, k) else some (x.age, x.cycle, x.base)
    | none => some (x.age, x.cycle, x.base)
  let q := { p with anyFresh := p.anyFresh || fresh, allFresh := p.allFresh && fresh, youngest := youngest }
  match v with
  | none => if missing then { q with short := q.short + 1 } else q
  | some v =>
    if 8 * p.pdu.length < b + n then { q with errors := q.errors + 1 }
    else
      let (y, sat) := saturate n (fmt.testBit 3) v
      { q with pdu := placeSignal (fmt.testBit 2) p.pdu b n (y % (2 ^ n : Nat)).toNat
               saturated := q.saturated + (if sat then 1 else 0) }

def runPack (e : Nat) (r : TaskRun) (rows : List Nat) : Eff :=
  .look fun s =>
    let g := e / 16
    let t := 0x7200 + g
    match rows with
    | [] => .skip
    | first :: rest =>
      let len := s.n t 3 first
      let fmt := s.n t 4 first
      let key := 64 * r.mode + r.task
      let p := (rest.zip r.sources).foldl (s.packRow g)
        ⟨slice ((s.engine e).packed.getD key []) 0 len, false, true, none, 0, 0, 0⟩
      let (age, cycle, base) := p.youngest.getD (0, s.cycle % 4294967296, 0xFFFF)
      let due := if fmt / 64 = 0 then p.anyFresh else if fmt / 64 = 1 then p.allFresh else true
      .all [
        engineSet e fun x => { x with packed := x.packed.set key p.pdu },
        countN (engineItem e 11) p.short, countN (engineItem e 12) p.errors,
        .forEach (List.range p.saturated) fun _ => noteSaturated e true,
        .when due (.seq (count (commonsItem 55))
          (stage e (pduWrite (s.n t 2 first) (if p.anyFresh then 1 else 2) age 0xFF cycle p.pdu base)))]

/-- UNPACK (R215): a PDU entry that carries a CHECK failure counts as held. The PDU starts at the byte that the first row's
Source gives; where a row's signal lies in it is not stated, and is a free value (log entry 46). -/
def runUnpack (e : Nat) (r : TaskRun) (rows : List Nat) : Eff :=
  .look fun s =>
    let t := 0x7200 + e / 16
    let src := s.n t 1 (rows.headD 0)
    let x0 := r.sources.headD noValue
    let failed := x0.isPdu && 2 ≤ x0.verdict && x0.verdict ≤ 6
    let x := { x0 with fresh := x0.fresh && !failed, bytes := if x0.isPdu then x0.bytes.drop (startIn src) else x0.bytes }
    .forEach ((List.range rows.length).zip rows) fun k =>
      let dst := s.n t 2 k.2
      let fmt := s.n t 4 k.2
      let n := signalSize (s.n t 3 k.2)
      if !rowWrites x x.fresh fmt then .skip
      else
        match readSignal x (Config.unpackBit k.1 src dst (s.n t 3 k.2) fmt) n (fmt.testBit 1) (fmt.testBit 3) with
        | some v => stage e (signalWrite dst x v n (fmt.testBit 2) (fmt.testBit 3) x.base)
        | none => count (engineItem e 11)

/-! ## PROTECT and CHECK -/

/-- A row of 0x7210: its fields. -/
structure ProtectionRow where
  source : Nat
  destination : Nat
  dataId : Nat
  crc32 : Bool
  crcOffset : Nat
  counterOffset : Nat
  length : Nat
  maxDelta : Nat
  timeoutRuns : Nat

def State.protectionRow (s : State) (g r : Nat) : ProtectionRow :=
  let c := fun k => s.n (0x7210 + g) k r
  ⟨c 1, c 2, c 3, c 4 == 1, c 5, c 6, c 7, c 8, c 9⟩

/-- Bytes of the CRC field. -/
def ProtectionRow.crcSize (r : ProtectionRow) : Nat := if r.crc32 then 4 else 2

/-- Whether the CRC field and the counter lie in the PDU. -/
def ProtectionRow.fits (r : ProtectionRow) : Bool := r.crcOffset + r.crcSize ≤ r.length && r.counterOffset < r.length

/-- The CRC of a PDU (R216): Data ID, then the PDU without the CRC field. -/
def ProtectionRow.crc (r : ProtectionRow) (pdu : Bytes) : Nat :=
  let covered := beBytes 2 r.dataId ++ pdu.take r.crcOffset ++ pdu.drop (r.crcOffset + r.crcSize)
  if r.crc32 then Machine.crc32 covered else crc16 covered

/-- The PDU with its counter and CRC written (R217). -/
def ProtectionRow.protect (r : ProtectionRow) (counter : Nat) (pdu : Bytes) : Bytes :=
  let c := beAt pdu r.counterOffset 1 / 16 * 16 + counter % 16
  let withCounter := overwrite pdu r.counterOffset (beBytes 1 c)
  overwrite withCounter r.crcOffset (beBytes r.crcSize (r.crc withCounter))

/-- One row of PROTECT (R217). -/
def protectRow (e row : Nat) (x : SourceValue) : Eff :=
  .look fun s =>
    let g := e / 16
    let r := s.protectionRow g row
    let key := 1024 * g + row
    if !x.fresh || !r.fits then .skip
    else
      match readPdu x (startIn r.source) r.length with
      | none => count (engineItem e 11)
      | some pdu =>
        let c := (s.messages.protects.getD key 0 + 1) % 16
        .seq (.upd (.messages fun m => { m with protects := m.protects.set key c }))
          (stage e (pduWrite r.destination 1 x.age 0xFF x.cycle (r.protect c pdu) x.base))

def runProtect (e : Nat) (r : TaskRun) (rows : List Nat) : Eff :=
  .forEach (rows.zip r.sources) fun x => protectRow e x.1 x.2

def CheckContext.init : CheckContext := { started := false, lastCounter := 0, sinceAccepted := 0, verdict := 0xFF }

/-- The verdict of a PDU with a good CRC (Table 7.6). -/
def goodVerdict (k : CheckContext) (counter maxDelta : Nat) : Nat :=
  if !k.started then 0x07
  else
    let d := (counter + 16 - k.lastCounter) % 16
    if d = 0 then 0x02 else if d = 1 then 0x00 else if d ≤ maxDelta then 0x01 else 0x03

/-- Whether a verdict accepts the PDU. -/
def accepting (v : Nat) : Bool := v == 0x00 || v == 0x01 || v == 0x07

/-- The context after a run with a PDU, or none where the source is held, and the run's verdict (R218, Table 7.6). -/
def CheckContext.next (k : CheckContext) (r : ProtectionRow) (pdu : Option Bytes) : CheckContext × Nat × Option Nat :=
  let seen := match pdu with
    | none => none
    | some b =>
      if beAt b r.crcOffset r.crcSize = r.crc b then
        some (goodVerdict k (beAt b r.counterOffset 1 % 16) r.maxDelta, some (beAt b r.counterOffset 1 % 16))
      else some (0x04, none)
  let v := (seen.map Prod.fst).getD 0x05
  let counter := match seen with
    | some (w, some c) => if w = 0x02 then k.lastCounter else c
    | _ => k.lastCounter
  if accepting v then (⟨true, counter, 0, v⟩, v, some v)
  else
    let since := k.sinceAccepted + 1
    let timedOut := r.timeoutRuns ≤ since
    let w := if timedOut then 0x06 else v
    (⟨k.started && !timedOut, counter, min since 65535, w⟩, w, seen.map Prod.fst)

/-- Counters of a CHECK run: what the PDU showed, and the entry into TIMEOUT. -/
def checkCounts (seen : Option Nat) (g row : Nat) : Eff :=
  match seen with
  | some v => .seq
      (count (commonsItem (if accepting v then 41 else if v = 2 then 42 else if v = 3 then 43 else 44)))
      (bumpObj (groveIdx 0x7218 g) (if accepting v then 3 else 4) row)
  | none => .skip

/-- Events of a CHECK row's transitions (R218): it fails from one of the two accepting verdicts 0x00 and 0x01. -/
def checkEvents (before after arg : Nat) : Eff :=
  .all [
    .when (before ≤ 1 && (after == 3 || after == 4)) (raise 704 arg),
    .when (before != 6 && after == 6) (.seq (raise 705 arg) (count (commonsItem 45))),
    .when (before == 6 && accepting after) (raise 706 arg)]

/-- One row of CHECK (R218). -/
def checkRow (e row : Nat) (x : SourceValue) : Eff :=
  .look fun s =>
    let g := e / 16
    let r := s.protectionRow g row
    let key := 1024 * g + row
    let k := s.messages.checks.getD key CheckContext.init
    let pdu := if x.fresh && r.fits then readPdu x (startIn r.source) r.length else none
    let (k', v, seen) := k.next r pdu
    .all [
      .when (x.fresh && r.fits && pdu.isNone) (count (engineItem e 11)),
      .upd (.messages fun m => { m with checks := m.checks.set key k' }),
      checkCounts seen g row, checkEvents k.verdict v (g + 256 * row),
      setN (groveIdx 0x7218 g) 1 v row, setN (groveIdx 0x7218 g) 2 k'.lastCounter row,
      stage e (match pdu with
        | some b => if v = 0 || v = 1 then pduWrite r.destination 1 0 v x.cycle b x.base
                    else verdictWrite r.destination v
        | none => verdictWrite r.destination v)]

def runCheck (e : Nat) (r : TaskRun) (rows : List Nat) : Eff :=
  .forEach (rows.zip r.sources) fun x => checkRow e x.1 x.2

/-! ## HOLD -/

/-- A write that carries a value on as it was read, signal or PDU. -/
def carryWrite (dst : Nat) (x : SourceValue) (status : Nat) (bytes : Bytes) (base : Nat) : TaskWrite :=
  ⟨dst, { x with status := status, verdict := 0xFF, bytes := bytes }, signalSize x.bits, true,
    !x.isPdu && decide (signedOf 8 (ofLe bytes) < 0), x.isPdu, false, base⟩

/-- One row of HOLD (R219). Where the source reads NONE, the row writes an entry of the form that it last carried. -/
def holdRow (e row : Nat) (x : SourceValue) : Eff :=
  .look fun s =>
    let g := e / 16
    let t := 0x7220 + g
    let key := 1024 * g + row
    let dst := s.n t 2 row
    let base := x.base
    let k := s.messages.holds.getD key ⟨[], false, false⟩
    let none' := x.status == 0
    let carried := if none' && k.isPdu then { x with isPdu := true, bits := k.bytes.length, bytes := k.bytes } else x
    let substitute := !x.fresh && (x.status == 0 || (s.n t 3 row < x.age && s.n t 4 row == 1))
    let value := if carried.isPdu then List.replicate carried.bytes.length 0 else leBytes 8 (unsignedOf 8 (s.obj t 5 row))
    .all [
      .upd (.messages fun m => { m with
        holds := m.holds.set key ⟨if none' then k.bytes else x.bytes, if none' then k.isPdu else x.isPdu, substitute⟩ }),
      .when (substitute && !k.substituted) (.seq (raise 707 (g + 256 * row)) (count (commonsItem 46))),
      stage e (if substitute then carryWrite dst carried 3 value base
               else carryWrite dst x (if x.fresh then 1 else 2) x.bytes base)]

def runHold (e : Nat) (r : TaskRun) (rows : List Nat) : Eff :=
  .forEach (rows.zip r.sources) fun x => holdRow e x.1 x.2

/-! ## TRANSACT -/

def Transaction.init : Transaction := { waiting := false, ident := 0, tries := 0, deadline := 0, request := [] }

/-- Replaces a transaction context; its status object follows (Table 7.9). -/
def setTransaction (g row : Nat) (t : Transaction) : Eff :=
  .all [.upd (.messages fun m => { m with transactions := m.transactions.set (1024 * g + row) t }),
    setN (groveIdx 0x7238 g) 1 (if t.waiting then 1 else 0) row, setN (groveIdx 0x7238 g) 2 t.ident row,
    setN (groveIdx 0x7238 g) 3 t.deadline row]

/-- Stages a request; its deadline counts from the finish of this run (R220). -/
def sendRequest (e g row : Nat) (t : Transaction) : Eff :=
  .look fun s => .all [
    stage e (pduWrite (s.n (0x7230 + g) 2 row) 1 0 0xFF (s.cycle % 4294967296) t.request 0xFFFF),
    engineSet e fun x => { x with run := x.run.map fun r => { r with armed := (1024 * g + row) :: r.armed } },
    setTransaction g row t]

/-- The identifier in a PDU. -/
def State.transactionId (s : State) (g row : Nat) (b : Bytes) : Nat :=
  beAt b (s.n (0x7230 + g) 5 row) (s.n (0x7230 + g) 6 row)

/-- The PDU that an endpoint names in what was read, from its byte Offset on (Table 7.1). -/
def pduAt (ep : Nat) (x : SourceValue) : Bytes := x.bytes.drop (startIn ep)

/-- The request source of a row is fresh. -/
def requestFresh (e g row : Nat) (x : SourceValue) : Eff :=
  .look fun s =>
    let t := s.messages.transactions.getD (1024 * g + row) Transaction.init
    let size := s.n (0x7230 + g) 6 row
    if t.waiting then
      .seq (stage e (verdictWrite (s.n (0x7230 + g) 4 row) 0x22)) (count (commonsItem 53))
    else
      let ident := (t.ident + 1) % 256 ^ size
      .seq (count (commonsItem 47)) (sendRequest e g row
        ⟨true, ident, 0, 0, overwrite (pduAt (s.n (0x7230 + g) 1 row) x) (s.n (0x7230 + g) 5 row) (beBytes size ident)⟩)

/-- The deadline of a waiting row has passed. -/
def deadlinePassed (e g row : Nat) : Eff :=
  .look fun s =>
    let t := s.messages.transactions.getD (1024 * g + row) Transaction.init
    if t.tries < s.n (0x7230 + g) 8 row then
      .all [count (commonsItem 49), bumpObj (groveIdx 0x7238 g) 6 row, sendRequest e g row { t with tries := t.tries + 1 }]
    else .all [stage e (verdictWrite (s.n (0x7230 + g) 4 row) 0x21), raise 708 (g + 256 * row), count (commonsItem 50),
      bumpObj (groveIdx 0x7238 g) 5 row, setTransaction g row { t with waiting := false }]

/-- One row of TRANSACT (R220, Table 7.7): the response first, then the request, then the deadline. -/
def transactRow (e row startedAt : Nat) (x y : SourceValue) : Eff :=
  .look fun s =>
    let g := e / 16
    let t := s.messages.transactions.getD (1024 * g + row) Transaction.init
    let answer := pduAt (s.n (0x7230 + g) 3 row) y
    let matching := t.waiting && y.fresh && s.transactionId g row answer == t.ident
    let inTime := matching && y.arrived ≤ t.deadline
    .all [
      .when (t.waiting && y.fresh && !matching) (count (commonsItem 51)),
      .when (matching && !inTime) (count (commonsItem 52)),
      .when inTime (.all [
        stage e (pduWrite (s.n (0x7230 + g) 4 row) 1 y.age 0x20 y.cycle answer y.base),
        count (commonsItem 48), bumpObj (groveIdx 0x7238 g) 4 row, setTransaction g row { t with waiting := false }]),
      .when x.fresh (requestFresh e g row x),
      .when (t.waiting && !inTime && t.deadline < startedAt) (deadlinePassed e g row)]

/-- Rows with their request and response values. -/
def pairUp : List Nat → List SourceValue → List (Nat × SourceValue × SourceValue)
  | r :: rs, x :: y :: vs => (r, x, y) :: pairUp rs vs
  | _, _ => []

def runTransact (e : Nat) (r : TaskRun) (rows : List Nat) : Eff :=
  .forEach (pairUp rows r.sources) fun x => transactRow e x.1 r.startedAt x.2.1 x.2.2

/-- A waiting transaction ends ABORTED: the module leaves ACTIVE, or a commit changes its row (Table 7.7). -/
def abortTransaction (g row : Nat) : Eff :=
  .look fun s =>
    let t := s.messages.transactions.getD (1024 * g + row) Transaction.init
    .when t.waiting
      (.seq (releaseWrite (16 * g) (verdictWrite (s.n (0x7230 + g) 4 row) 0x23))
        (setTransaction g row { t with waiting := false }))

/-- The module leaves ACTIVE. -/
def abortTransactions : Eff :=
  .look fun s => .forEach s.messages.transactions fun k => abortTransaction (k.1 / 1024) (k.1 % 1024)

/-- A commit has changed a Protection row (Table 7.6, INIT). -/
def checkRestarts (g row : Nat) : Eff :=
  .upd (.messages fun m => { m with
      checks := (match m.checks.get? (1024 * g + row) with
        | some k => m.checks.set (1024 * g + row) { k with started := false }
        | none => m.checks) })

/-! ## REPORT -/

/-- REPORT (R221): the values are those of the most recent backbone boundary, as the task found them at its start. -/
def runReport (e : Nat) (r : TaskRun) (rows : List Nat) : Eff :=
  .look fun s =>
    let pdu := beBytes 4 r.cycle ++ beBytes 2 r.reports.length ++ [0, 0] ++ r.reports.flatMap (beBytes 8)
    .seq (count (commonsItem 56))
      (stage e (pduWrite (s.n (0x7240 + e / 16) 1 (rows.headD 0)) 1 0 0xFF (r.cycle % 4294967296) pdu 0xFFFF))

/-! ## Running and finishing -/

/-- The function of the running task (Table 7.3). -/
def functionOf (fn e : Nat) (r : TaskRun) (rows : List Nat) : Eff :=
  match fn with
  | 0 => runRoute e r rows
  | 1 => runPack e r rows
  | 2 => runUnpack e r rows
  | 3 => runProtect e r rows
  | 4 => runCheck e r rows
  | 5 => runHold e r rows
  | 6 => runTransact e r rows
  | _ => runReport e r rows

/-- The running task of an engine executes its function, once; `only` names the function that a command calls for. -/
def runFunction (e : Nat) (only : Option Nat) : Eff :=
  .look fun s =>
    match (s.engine e).run with
    | none => .skip
    | some r =>
      let fn := s.taskCell e r.mode r.task 2
      .when (s.groveOn (e / 16) && !r.ran && (only == none || only == some fn))
        (.seq (engineSet e fun x => { x with run := x.run.map fun r => { r with ran := true } })
          (functionOf fn e r (s.taskRows e r.mode r.task)))

/-- Deadlines of the requests of a run, from the instant of its finish (R220). -/
def armDeadlines (r : TaskRun) : Eff :=
  .forEach r.armed fun k => .look fun s =>
    let t := s.messages.transactions.getD k Transaction.init
    setTransaction (k / 1024) (k % 1024)
      { t with deadline := s.now + nsUnits (1000 * s.n (0x7230 + k / 1024) 7 (k % 1024)) }

/-- The task ends with a status; its result waits for the collector (R229). -/
def endTask (e status cycles : Nat) : Eff :=
  .look fun s =>
    match (s.engine e).run with
    | none => .skip
    | some r => .seq (armDeadlines r)
        (.seq (engineSet e fun x => { x with
            run := none, busyCycles := x.busyCycles + cycles
            oldUntil := if r.mode = x.mode then x.oldUntil else s.now
            result := some ⟨r.task, status, if r.ran then r.rows else 0, cycles, s.now, r.startedAt, r.late, r.mode⟩ })
          (baseWatch e))

/-- A task reaches its Budget (R209): its staged writes are discarded. -/
def overrunTask (e : Nat) : Eff :=
  .look fun s =>
    match if s.groveOn (e / 16) then (s.engine e).run else none with
    | none => .skip
    | some r => endTask e 1 (s.taskCell e r.mode r.task 4)

/-- A task finishes after so many engine cycles (R208): its writes are released together. The engines of a grove that does
not run stand still (R10). -/
def finishTask (e cycles : Nat) : Eff :=
  .look fun s =>
    match if s.groveOn (e / 16) then (s.engine e).run else none with
    | none => .skip
    | some r =>
      if s.taskCell e r.mode r.task 4 < cycles then overrunTask e
      else .seq (runFunction e none) (.look fun s =>
        let writes := ((s.engine e).run.map TaskRun.writes).getD []
        .all [
          addDigest e (64 * r.mode + r.task) 1 (writes.flatMap fun w => beBytes 8 w.endpoint ++ encodeValue w.value),
          .forEach writes (releaseWrite e), endTask e 0 cycles])

/-! ## The collector (R229, R230) -/

/-- The 32-byte body of a task result message. -/
def resultBody (e : Nat) (x : TaskResult) : Bytes :=
  leBytes 2 e ++ leBytes 2 (64 * x.mode + x.task) ++ leBytes 1 x.status ++ [0, 0, 0] ++ leBytes 4 x.rows ++
    leBytes 4 x.cycles ++ timeBytes false x.finish

/-- Whole datapath cycles (0.8 ns) between two instants. -/
def datapathCycles (a b : Nat) : Nat := (b - a) * 10 / 524288

/-- The collector accepts the result of an engine. -/
def acceptResult (e : Nat) (x : TaskResult) : Eff :=
  .look fun s =>
    let t := engineIdx 0x7180 e
    let flags := s.taskCell e x.mode x.task 7
    let row := 64 * x.mode + x.task
    .all [
      engineSet e fun y => { y with result := none }, count (commonsItem 54),
      .when (x.status != 2) (.all [
        bumpObj t 1 x.task, setN t 4 x.start x.task, setN t 5 x.cycles x.task,
        setN t 6 (max (s.n t 6 x.task) x.cycles) x.task,
        count (engineItem e 0), countN (engineItem e 5) x.rows, countN (engineItem e 14) x.cycles,
        countN (engineItem e 13) (datapathCycles x.finish s.now - 1)]),
      .when x.late (bumpObj t 3 x.task),
      setN t 7 x.status x.task,
      .when (x.status == 0) (.seq (count (engineItem e 1)) (.when (flags.testBit 1) (raiseFull 0 (256 + e) 3 row none))),
      .when (x.status == 1) (.all [count (engineItem e 2), bumpObj t 2 x.task,
        faultOccur 13 e fun sev => .when (flags.testBit 0) (raiseFull sev (256 + e) 1 row none)]),
      .when (flags.testBit 2 && s.channelOn (s.n 0x7000 3))
        (sendMessage (s.n 0x7000 3) 2 0xFF e (resultBody e x))]

/-- The collector accepts the waiting result of the lowest engine of a grove. -/
def acceptNext (g : Nat) : Eff :=
  .look fun s =>
    match (List.range 16).find? fun i => (s.engine (16 * g + i)).result.isSome with
    | some i => match (s.engine (16 * g + i)).result with
      | some x => acceptResult (16 * g + i) x
      | none => .skip
    | none => .skip

/-! ## Mode switches (R211) and the boundary -/

/-- The engines named by a test take over the tables of a mode. -/
def enginesFollow (m : Nat) (which : State → Nat → Bool) : Eff :=
  .look fun s => .forEach ((List.range 128).filter (which s)) fun e => .seq (engineSet e fun x => { x with mode := m }) (baseWatch e)

/-- The backbone has switched to mode `m`: engines on the backbone time base switch with it, and those on a port that
makes no segment mode switch of its own (R211). -/
def enginesAtModeSwitch (m : Nat) : Eff :=
  .seq (enginesFollow m fun s e =>
      let b := s.timeBase e m
      (s.engine e).mode != m && (b == 0xFFFF || !s.hasView b || (s.seg b).nextMode.isNone))
    (raise 713 m)

/-- A port has switched its segment mode: the engines on its time base switch (R211). -/
def enginesAtSegmentSwitch (p : Nat) : Eff :=
  .look fun s => .seq (enginesFollow s.mode fun s e => s.timeBase e s.mode == p) (raise 713 s.mode)

/-- LoadPermille of the engines over the cycle that ends (Table 7.9). -/
def engineLoads : Eff :=
  .look fun s => .forEach s.messages.engines fun x =>
    .seq (setN 0x7011 3 (min 1000 (x.2.busyCycles * 625 / max 1 s.cycleLength)) x.1)
      (engineSet x.1 fun y => { y with busyCycles := 0 })

/-! ## Meanings -/

/-- TASK_START (R207). -/
def execTaskStart (engine task : Nat) (s : State) : Host.Outcome State Fault Refusal :=
  done (operating (startTask engine task)) s
/-- ROUTE (R213). -/
def execRoute (engine : Nat) (s : State) : Host.Outcome State Fault Refusal := done (runFunction engine (some 0)) s
/-- PACK (R214). -/
def execPack (engine : Nat) (s : State) : Host.Outcome State Fault Refusal := done (runFunction engine (some 1)) s
/-- UNPACK (R215). -/
def execUnpack (engine : Nat) (s : State) : Host.Outcome State Fault Refusal := done (runFunction engine (some 2)) s
/-- PROTECT (R217). -/
def execProtect (engine : Nat) (s : State) : Host.Outcome State Fault Refusal := done (runFunction engine (some 3)) s
/-- CHECK (R218). -/
def execCheck (engine : Nat) (s : State) : Host.Outcome State Fault Refusal := done (runFunction engine (some 4)) s
/-- HOLD (R219). -/
def execHold (engine : Nat) (s : State) : Host.Outcome State Fault Refusal := done (runFunction engine (some 5)) s
/-- TRANSACT (R220). -/
def execTransact (engine : Nat) (s : State) : Host.Outcome State Fault Refusal := done (runFunction engine (some 6)) s
/-- REPORT (R221). -/
def execReport (engine : Nat) (s : State) : Host.Outcome State Fault Refusal := done (runFunction engine (some 7)) s
/-- TASK_FINISH (R208). -/
def execTaskFinish (engine cycles : Nat) (s : State) : Host.Outcome State Fault Refusal := done (finishTask engine cycles) s
/-- TASK_BUDGET_EXCEEDED (R209). -/
def execTaskBudgetExceeded (engine : Nat) (s : State) : Host.Outcome State Fault Refusal := done (overrunTask engine) s
/-- RESULT_ACCEPT (R230). -/
def execResultAccept (grove : Nat) (s : State) : Host.Outcome State Fault Refusal := done (acceptNext grove) s

end Sys2Proof.Machine
end

