-- ==== Sys2Proof/Machine/HostPort.lean ====
section
/-! DEFINITION. What host rings hand to ports (R163, R167, R184, R249 to R252), host signal images (R224 to R227), host
messages (R228), cycle markers, the clock page and the PCIe links. -/

namespace Sys2Proof.Machine

/-! ## The ring rate limit (R184, R185) -/

def State.ringCredit (s : State) (r : Nat) : RingCredit := s.traffic.ringCredits.getD r ⟨0, s.now, none, 0⟩

def ringCreditSet (r : Nat) (k : RingCredit) : Eff := .upd (.traffic fun t => { t with ringCredits := t.ringCredits.set r k })

/-- The credit of a ring brought up to now, in 2^-16 byte: it grows at Rate up to RingBurst. -/
def State.creditNow (s : State) (r : Nat) : Int :=
  let k := s.ringCredit r
  min (k.credit + tokens (s.n 0x6700 2 r) ((s.now : Int) - k.at16)) (s.obj 0x6700 3 r * 65536)

/-- The next eligible time of a ring with a debt: rounded up to a multiple of 64 ns, with its laps of the wheel. -/
def State.eligibleAt (s : State) (r : Nat) (credit : Int) : Nat × Nat :=
  let wait := ((-credit).toNat * 8000000 + s.n 0x6700 2 r - 1) / max 1 (s.n 0x6700 2 r)
  let slot := nsUnits 64
  let e := (s.now + wait + slot - 1) / slot * slot
  (e, (e - s.now) / nsUnits 4194304)

/-- Brings a ring's credit up to now; a debt gets its entry in the calendar wheel. -/
def settleCredit (r : Nat) (credit : Int) : Eff :=
  .look fun s =>
    if credit < 0 then
      let (e, laps) := s.eligibleAt r credit
      ringCreditSet r ⟨credit, s.now, some e, laps⟩
    else ringCreditSet r ⟨credit, s.now, none, 0⟩

/-- Before a commit changes Rate or RingBurst: the credit is brought up at the old rate. -/
def ringRateTouch (r : Nat) : Eff := .look fun s => ringCreditSet r { s.ringCredit r with credit := s.creditNow r, at16 := s.now }

/-- After the commit: positive credit is clipped, a debt is given its new slot (R185). -/
def ringRateChanged (r : Nat) : Eff := .look fun s => settleCredit r (min (s.ringCredit r).credit (s.obj 0x6700 3 r * 65536))

/-- Whether the rate limit lets a ring hand its head frame over now. -/
def State.rateAllows (s : State) (r : Nat) : Bool :=
  !s.on 0x6700 1 r ||
    (decide (0 ≤ s.creditNow r) && (match (s.ringCredit r).eligible with
      | some e => decide (e ≤ s.now) && (s.ringCredit r).laps == 0
      | none => true))

/-- The charge for a frame handed over: F and the overhead `o` of the port concerned (R165, R184). A debt defers the ring's
next frame, counted at the ring and in the grove whose wheel holds it (R198; DESIGN CHOICE, safe: log entry 44). -/
def chargeRing (r port len : Nat) (o : Int) : Eff :=
  .whenS (fun s => s.on 0x6700 1 r) (.seq (.look fun s => settleCredit r (s.creditNow r - ((len : Int) + o).toNat * 65536))
    (.whenS (fun s => (s.ringCredit r).eligible.isSome) (.seq (bumpObj 0x6701 3 r) (groveCount (port % 256) 9))))

/-! ## Launch times (R250) -/

/-- Whether a frame's first entry carries LAUNCH. -/
def TxFrame.launches (f : TxFrame) : Bool :=
  match f.entries with
  | (_, e) :: _ => (beAt e 10 1).testBit 0
  | [] => false

/-- The instant in [now - 2^31 s, now + 2^31 s) with the entry's seconds and nanoseconds. -/
def State.launchTime (s : State) (e : Bytes) : Nat :=
  let low := leAt e 16 4
  let base := s.now / secUnits
  let d := (low + 4294967296 - base % 4294967296) % 4294967296
  let frac := nsUnits (leAt e 12 4 % 1073741824)
  let sec := if d < 2147483648 || (d == 2147483648 && frac < s.now % secUnits) then base + d else base + d - 4294967296
  sec * secUnits + frac

/-- The launch time of a frame, if it has one. -/
def State.frameLaunch (s : State) (f : TxFrame) : Option Nat :=
  match f.entries with
  | (_, e) :: _ => if f.launches then some (s.launchTime e) else none
  | [] => none

/-! ## Handing over (R163, R249) -/

/-- The frame at the head of a ring, when its data is complete. -/
def State.headFrame (s : State) (r : Nat) : Option TxFrame :=
  match (s.hostRing true r).frames.find? fun f => f.phase != .queued && f.phase != .finished with
  | some f => if f.phase == .ready then some f else none
  | none => none

/-- Updates one frame of a ring. -/
def txFrameSet (r ident : Nat) (f : TxFrame → TxFrame) : Eff :=
  ringSet true r fun x => { x with frames := x.frames.map fun g => if g.ident = ident then f g else g }

/-- A frame ends at the handing-over without reaching a queue. -/
def endHere (r ident status : Nat) : Eff :=
  .look fun s => txFrameSet r ident fun f => { f with phase := .finished, status := status, stamp := s.now }

/-- A frame that policy drops is charged to its ring, counted, and completed with POLICY_DROP (R249, R252). `port` is the one
whose overhead counts, none for 0 (R165). -/
def policyDrop (r ident len : Nat) (port : Option Nat) : Eff :=
  .look fun s => .all [chargeRing r (port.getD 0) len (port.elim 0 s.overhead), count (commonsItem 23), endHere r ident 4]

/-- The class that a copy takes on a port. -/
def State.copyClass (s : State) (r : Nat) (h : Option Nat) (p : Nat) (d : Bytes) : Nat :=
  match h with
  | some h => s.streamClass h p d
  | none => s.n 0x8200 2 r

/-- Whether frame data is too long for a port, SecTAG and ICV counted (R249). -/
def State.tooLong (s : State) (p : Nat) (d : Bytes) : Bool := s.port p 0 5 < frameLen d + s.macsecBytes p

/-- The port whose overhead counts for a frame of a ring (R165): the ring's own, else the lowest egress port that its stream
gives it. -/
def State.chargePort (s : State) (r : Nat) (ports : List Nat) : Option Nat :=
  let own := s.n 0x8200 1 r
  if own < 0x8000 then some (own % 256) else ports.head?

/-- A host frame as it stands in a class queue. -/
def State.hostFrame (s : State) (r ident : Nat) (h launch : Option Nat) (d : Bytes) : QueuedFrame :=
  { data := d, origin := .host r ident, handle := h.getD 0xFFFF, enqueued := s.now, received := s.now, launch := launch,
    sent := 0, cuts := 0, heldCounted := false, began := none }

/-- One copy joins its class queue, or goes to its port of a member over the stack (R19), or ends as too long. -/
def queueCopy (r ident : Nat) (h : Option Nat) (launch : Option Nat) (d : Bytes) (p : Nat) : Eff :=
  .look fun s =>
    let c := s.copyClass r h (p % 256) d
    if 256 ≤ p then .all [portOfMember (p / 256) (p % 256) c d, hostStarted (.host r ident), finishHost r ident 1 s.now p c false]
    else if s.tooLong p d then .seq (count (commonsItem 23)) (finishHost r ident 4 s.now p c false)
    else .seq (joinQueue p c (s.hostFrame r ident h launch d)) (kick p)

/-- The frame is handed to its ports: the reported copy is that on the ring's own port, else on the lowest (R252). -/
def queueFrame (r : Nat) (f : TxFrame) (h : Option Nat) (launch : Option Nat) (ports : List Nat) (d : Bytes) : Eff :=
  .look fun s =>
    let own := s.n 0x8200 1 r
    let reported := if ports.contains own then own else ports.headD 0xFFFF
    let charged := s.chargePort r ports
    .all [
      txFrameSet r f.ident fun g => { g with phase := .queued, launch := launch, pending := ports.length, port := reported,
                                             cls := s.copyClass r h (reported % 256) d },
      chargeRing r (charged.getD 0) (frameLen d) (charged.elim 0 s.overhead),
      .forEach ports (queueCopy r f.ident h launch d)]

/-- Bytes that a stream's sequence generation adds to a frame (R189). -/
def State.rtagGrowth (s : State) (h : Option Nat) (d : Bytes) : Nat :=
  match h with
  | some h => if s.n 0x6020 7 h != 0 && (parseFrame d).rtag.isNone then 6 else 0
  | none => 0

/-- Counted length of a host frame for its stream's meter. -/
def State.hostCounted (s : State) (r : Nat) (ports : List Nat) (d : Bytes) : Nat :=
  ((frameLen d : Int) + (s.chargePort r ports).elim 0 s.overhead).toNat

/-- A host frame of a stream as its meter leaves it. -/
def State.hostMetered (s : State) (r : Nat) (h : Option Nat) (ports : List Nat) (d : Bytes) : Bytes :=
  match h.map (s.n 0x6020 6 ·) with
  | some m => if m = 0xFFFF then d else s.metered m (s.hostCounted r ports d) d
  | none => d

/-- Whether every queue that a frame's copies take has room, memory included, for the frame as it will be queued (R167). -/
def State.roomFor (s : State) (r ident : Nat) (h : Option Nat) (ports : List Nat) (d : Bytes) : Bool :=
  let grown := s.hostMetered r h ports d ++ List.replicate (s.rtagGrowth h d) 0
  ports.all fun p => 256 ≤ p || s.tooLong p grown ||
    (s.queueRoom (classQueue p (s.copyClass r h p d)) (frameLen grown) &&
      s.memoryFor p (s.hostFrame r ident h none grown))

/-- The frame at the head of a ring takes its path (R163, R249, R250): a stream's filter, meter and sequence generation come
before the drop of a frame without egress port, or with a launch time beyond the horizon. -/
def routeFrame (r : Nat) (f : TxFrame) : Eff :=
  .look fun s =>
    let own := s.n 0x8200 1 r
    let launch := s.frameLaunch f
    let late := match launch with
      | some l => decide (s.now + nsUnits (s.n 0x8010 1) < l)
      | none => false
    let home := if own = 0xFFFF then [] else [own]
    let send := fun (h : Option Nat) (ports : List Nat) (d : Bytes) =>
      if ports.isEmpty || late then
        .seq (.when (h.isSome && ports.isEmpty) (count (commonsItem 25))) (policyDrop r f.ident (frameLen d) (s.chargePort r ports))
      else queueFrame r f h launch ports d
    let stream := (s.identRows none f.data (parseFrame f.data)).head?.map (s.n 0x6010 13 ·)
    let ports := match stream.map s.egressPorts with
      | some (p :: out) => p :: out
      | _ => home
    if !late && !s.roomFor r f.ident stream ports f.data then ringSet true r fun x => { x with waitingRoom := true }
    else
      let drop := policyDrop r f.ident (frameLen f.data) (s.chargePort r ports)
      lookup none f.data (parseFrame f.data)
        (fun h => streamFilter h f.data (s.hostCounted r ports f.data) true
          (fun d _ => .seq (stackCopies h d (streamToMember h)) (send (some h) ports d)) drop drop)
        (send none home f.data)

/-- Whether a channel joins a transmit ring of its function that is bound to the message layer (R228, R249). -/
def State.channelJoins (s : State) (ch r : Nat) : Bool :=
  s.channelOn ch && s.n 0x7410 3 ch == r && s.n 0x8200 1 r == 0xFFFD && s.ringOwner true r == some (s.n 0x7410 2 ch)

/-- The channel that a transmit ring belongs to: the lowest that joins it. -/
def State.channelOf (s : State) (r : Nat) : Option Nat := (List.range 64).find? fun ch => s.channelJoins ch r

/-- A message of a channel's transmit ring. -/
def messageArrives (ch : Nat) (m : Bytes) : Eff :=
  .look fun s =>
    if !s.channelJoins ch (s.n 0x7410 3 ch) then .skip
    else if m.length < 16 || leAt m 2 2 + 16 != m.length || 4096 < leAt m 2 2 then bumpObj 0x7411 4 ch
    else .all [
      bumpObj 0x7411 1 ch, count (commonsItem 38),
      .when (!(s.twinHalf && s.twinState == twStandby))
        (.seq nextSerial (.look fun s => .upd (.messages fun x => { x with
          received := x.received.set (65536 * ch + leAt m 4 2)
            ⟨leAt m 0 1, leAt m 1 1, m.drop 16, leAt m 8 8, s.messages.serial, s.now⟩ })))]

/-- A transmit ring hands its head frame over, if it may: a message goes to the channel that joins the ring, and is one of none
otherwise (DESIGN CHOICE, unsafe: log entry 65). -/
def handOver (r : Nat) : Eff :=
  .look fun s =>
    match s.headFrame r with
    | none => .skip
    | some f =>
      if (s.hostRing true r).state != .enabled || !s.rateAllows r then .skip
      else .seq (ringSet true r fun x => { x with waitingRoom := false })
        (if s.twinHalf && s.on 0x9032 1 r && !s.leaseHeld then policyDrop r f.ident (frameLen f.data) (s.chargePort r [])
         else if s.n 0x8200 1 r = 0xFFFD then .all [chargeRing r 0 (frameLen f.data) 0, endHere r f.ident 1,
           .ofOption (s.channelOf r) fun ch => messageArrives ch f.data]
         else routeFrame r f)

/-- A class queue that the ring's frame waits for has room (R167). -/
def roomAppears (r : Nat) : Eff := .whenS (fun s => (s.hostRing true r).waitingRoom) (handOver r)

/-- A ring's calendar slot passes (R184). -/
def calendarPasses (r : Nat) : Eff :=
  .look fun s =>
    let k := s.ringCredit r
    if k.eligible.isNone then .skip
    else if k.laps != 0 then ringCreditSet r { k with laps := k.laps - 1 }
    else .seq (settleCredit r (s.creditNow r)) (handOver r)

/-! ## Host images (R224 to R227) -/

def imageSet (i : Nat) (f : HostImage → HostImage) : Eff :=
  .look fun s => .upd (.messages fun m => { m with images := m.images.set i (f (s.image i)) })

/-- The base address of an image in its function's registers (R267). -/
def State.imageBase (s : State) (i : Nat) : Nat := (s.function (s.n 0x7400 3 i)).imageBases.getD i 0

/-- Whether the image's function can be reached: a base is set and the function may write. -/
def State.imageReachable (s : State) (i : Nat) : Bool := s.imageBase i != 0 && s.mayWrite (s.n 0x7400 3 i)

/-- ImageOffset of an inbound image (R224). -/
def inboundSnapshot (i : Nat) : Eff :=
  .look fun s =>
    let fn := s.n 0x7400 3 i
    let base := s.imageBase i
    let n := s.n 0x7400 4 i
    if !s.imageIs i 0 then .skip
    else if (s.image i).writing.isSome || !s.imageReachable i then
      .all [bumpObj 0x7401 3 i, count (commonsItem 33), raise 710 i]
    else .all [
      hostWrite fn base (leBytes 8 s.cycle),
      hostWrite fn (base + 8) (s.buffers.inbound.readBytes (65536 * i + 8) (n - 16)),
      imageSet i fun k => { k with writing := some s.cycle }]

/-- The EndStamp of an inbound image write is issued, and the write ends. -/
def inboundDone (i : Nat) : Eff :=
  .look fun s =>
    match (s.image i).writing with
    | none => .skip
    | some n => .all [
        hostWrite (s.n 0x7400 3 i) (s.imageBase i + s.n 0x7400 4 i - 8) (leBytes 8 n),
        imageSet i fun k => { k with writing := none },
        setN 0x7401 1 n i, bumpObj 0x7401 2 i, setN 0x7401 6 s.now i, count (commonsItem 32)]

/-- The ReadPoint of an outbound image: its read begins with EndStamp (R227). -/
def outboundRead (i : Nat) : Eff :=
  .look fun s =>
    let fn := s.n 0x7400 3 i
    if !s.imageIs i 1 || !s.on 0x4140 1 (16 * s.mode + s.n 0x7400 6 i) then .skip
    else if (s.image i).reading || !s.imageReachable i then .seq (bumpObj 0x7401 3 i) (count (commonsItem 37))
    else .all [count (commonsItem 34), imageSet i fun k => { k with reading := true },
      hostRead (.image i) fn (s.imageBase i + s.n 0x7400 4 i - 8) 8]

/-- The read of an outbound image has completed, its later steps issued in order; a standby discards what it reads
(R292). -/
def outboundDone (i endStamp : Nat) (entries : Bytes) (startStamp : Nat) : Eff :=
  .look fun s =>
    let fn := s.n 0x7400 3 i
    let n := s.n 0x7400 4 i
    .when (s.imageIs i 1 && (s.image i).reading)
      (.all [tlpReceived, count (pcieItem 4),
        readsReturn (.image i) fn [(s.imageBase i + n - 8, 8)],
        hostRead (.image i) fn (s.imageBase i + 8) (n - 16), hostRead (.image i) fn (s.imageBase i) 8,
        readsReturn (.image i) fn [(s.imageBase i, n)],
        imageSet i fun k => { k with reading := false },
        if s.twinHalf && s.twinState == twStandby then .skip
        else if endStamp != startStamp then .all [bumpObj 0x7401 4 i, count (commonsItem 35), raise 709 i]
        else if (s.image i).lastStamp == some endStamp then .seq (bumpObj 0x7401 5 i) (count (commonsItem 36))
        else .all [
          nextSerial,
          .upd (.write .outbound (65536 * i + 8) (slice entries 0 (n - 16))),
          .look fun s => imageSet i fun k => { k with lastStamp := some endStamp, serial := s.messages.serial
                                                      swapCycle := s.cycle, swappedAt := s.now },
          setN 0x7401 1 endStamp i, bumpObj 0x7401 2 i, setN 0x7401 6 s.now i]])

/-- Sections with Destination bit 1 are copied into their images at the boundary (R226). -/
def sectionImages : Eff :=
  .whenS State.delivers (.look fun s => .forEach (s.sections s.mode) fun r =>
    let row := 1024 * s.mode + r.row
    let image := s.n 0x7402 1 row
    let off := s.n 0x7402 2 row
    let v := s.committedView r.id
    .when ((s.n 0x4130 1 row).testBit 1 && s.imageIs image 0 && s.imageRoom image off (entrySize true r.length))
      (writeEntryAt (65536 * image + off) 0xFFFF
        (entryBytes v.status v.age 0xFF true r.length ((s.cycle - 1 - v.age) % 4294967296) (slice v.value 0 r.length)) false))

/-! ## Host messages (R228) -/

/-! ## Cycle points and markers (R122, R266) -/

/-- Whether a mode request is pending (Table 4.9): at the master until it is switched or lapses, at another node from the
header that shows it. -/
def State.requestPending (s : State) : Bool :=
  if s.ringState == ringMaster then s.n 0x4010 4 == 1 else s.ring.followRequest.isSome

/-- A cycle marker (Table 4.9). -/
def State.marker (s : State) (point : Nat) : Bytes :=
  let held := (s.sections s.mode).any fun r =>
    s.n 0x4130 1 (1024 * s.mode + r.row) != 0 && (s.view r.id).status == 2
  leBytes 8 s.cycle ++ leBytes 4 s.clock.ns ++ leBytes 4 s.clock.sec ++ leBytes 1 point ++ leBytes 1 s.mode ++
    leBytes 1 ((if s.n 0x4001 7 != 0 then 1 else 0) + (if s.requestPending then 2 else 0) +
      (if s.clockState != ckLocked then 4 else 0) + (if held then 8 else 0)) ++ [0] ++
    leBytes 4 (s.events.next + s.events.raised.length + 4294967295) ++ List.replicate 8 0

/-- Writes a marker, or skips it: event 784 at most once per second. -/
def writeMarker (point : Nat) : Eff :=
  .look fun s =>
    let fn := s.n 0x8400 0
    if fn = 0xFF || (s.function fn).markBase = 0 || !(s.function fn).busMaster then
      .seq (count (pcieItem 35)) (raiseOncePerSecond 784 0 (raise 784 point))
    else .seq (count (pcieItem 34)) (hostWrite fn ((s.function fn).markBase + 32 * point) (s.marker point))

/-- A cycle point of the running mode (R122): the event first, whose number the marker carries. -/
def cyclePointActs (point : Nat) : Eff :=
  .look fun s =>
    let row := 16 * s.mode + point
    .when (point < 16 && s.ringState != ringDisabled && s.on 0x4140 1 row)
      (.seq (.when ((s.n 0x4140 3 row).testBit 0) (raise (576 + point)))
        (.when ((s.n 0x4140 3 row).testBit 1) (writeMarker point)))

/-! ## The clock page and the links -/

/-- A read of CLKNS latches the other fields for the function (Table 8.7). -/
def clockRead (fn : Nat) : Eff :=
  .look fun s => .seq
    (.upd (.function fn fun f => { f with
      clockLatch := [s.clock.sec % 4294967296, s.clock.sec / 4294967296, s.clock.frac / 4294967296, s.cycle % 4294967296,
        s.cycle / 4294967296, s.clockState] }))
    (.all [tlpReceived, count (pcieItem 1), emit (.readCompletion fn 0x1000 s.clock.ns)])

/-- The width that a link trains to: the widest of Table 8.1 that the partner's allows, 0 for none. -/
def trainedWidth (split : Bool) (w : Nat) : Nat :=
  ([8, 4, 2, 1].find? fun x => x ≤ w && (x != 8 || !split)).getD 0

/-- A PCIe link trains, retrains or goes down (speed 0) with a partner's speed and width: the highest common speed, capped by
MaxLinkSpeed, and width (R236, R277). In x8 mode there is no link B (R237). -/
def pcieLink (link speed width : Nat) : Eff :=
  .look fun s =>
    let was := if link = 0 then s.host.linkUpA else s.host.linkUpB
    let w := trainedWidth s.power.pcieMode width
    let up := speed != 0 && w != 0
    let got := if up then min speed (s.n 0x8000 6) else 0
    let lanes := if up then w else 0
    .when (link = 0 || s.power.pcieMode) (.all [
      setN 0x8000 (2 + 2 * link) got, setN 0x8000 (3 + 2 * link) lanes,
      .upd (.hostLinks s.host.numVfs s.host.vfEnable (if link = 0 then up else s.host.linkUpA)
        (if link = 0 then s.host.linkUpB else up)),
      .when up (.upd (.pins fun q => { q with pewakenLow := false })),
      .when (was && up) (count (pcieItem 40)), .when (was && !up) (count (pcieItem 41)),
      raise 777 (link % 256 + 256 * (got % 256) + 65536 * (lanes % 256))])

/-! ## Meanings -/

/-- HOST_FRAME_HANDOVER (R163). -/
def execHostFrameHandover (ring : Nat) (s : State) : Host.Outcome State Fault Refusal := done (operating (handOver ring)) s
/-- QUEUE_ROOM (R167). -/
def execQueueRoom (ring : Nat) (s : State) : Host.Outcome State Fault Refusal := done (operating (roomAppears ring)) s
/-- CALENDAR_SLOT (R184). -/
def execCalendarSlot (ring : Nat) (s : State) : Host.Outcome State Fault Refusal := done (operating (calendarPasses ring)) s
/-- TX_BUFFER_READ_DONE (R248). -/
def execTxBufferReadDone (ring : Nat) (data : Bytes) (s : State) : Host.Outcome State Fault Refusal :=
  done (operating (txDataArrives ring data)) s
/-- INBOUND_IMAGE_SNAPSHOT (R224). -/
def execInboundImageSnapshot (image : Nat) (s : State) : Host.Outcome State Fault Refusal :=
  done (operating (inboundSnapshot image)) s
/-- INBOUND_IMAGE_WRITE_DONE (R224). -/
def execInboundImageWriteDone (image : Nat) (s : State) : Host.Outcome State Fault Refusal := done (inboundDone image) s
/-- OUTBOUND_IMAGE_READ (R227). -/
def execOutboundImageRead (image : Nat) (s : State) : Host.Outcome State Fault Refusal := done (operating (outboundRead image)) s
/-- OUTBOUND_IMAGE_READ_DONE (R227). -/
def execOutboundImageReadDone (image endStamp : Nat) (entries : Bytes) (startStamp : Nat) (s : State) :
    Host.Outcome State Fault Refusal := done (outboundDone image endStamp entries startStamp) s
/-- HOST_MESSAGE_RECEIVED (R228). -/
def execHostMessageReceived (channel : Nat) (message : Bytes) (s : State) : Host.Outcome State Fault Refusal :=
  done (operating (messageArrives channel message)) s
/-- CYCLE_POINT (R122). -/
def execCyclePoint (point : Nat) (s : State) : Host.Outcome State Fault Refusal := done (operating (cyclePointActs point)) s
/-- CLOCK_PAGE_READ (R268). -/
def execClockPageRead (fn : Nat) (s : State) : Host.Outcome State Fault Refusal := 
  done (powered (inD0 (fun _ => some fn) (clockRead fn))) s
/-- PCIE_LINK_CHANGED (R237). -/
def execPcieLinkChanged (link speed width : Nat) (s : State) : Host.Outcome State Fault Refusal :=
  done (powered (pcieLink link speed width)) s
/-- PCIE_ERROR_REPORTED (R275). -/
def execPcieErrorReported (link status : Nat) (correctable : Bool) (s : State) : Host.Outcome State Fault Refusal :=
  done (powered (pcieError link status correctable)) s

end Sys2Proof.Machine
end

