-- ==== Sys2Proof/Machine/Gptp.lean ====
section
/-! DEFINITION. The gPTP instance (R76, R77) and links that come up and go down (R149). The bytes of gPTP messages are those
of IEEE 802.1AS-2020, which the manual names and does not repeat (PRESUMED, unsafe: log entry 10). -/

namespace Sys2Proof.Machine

/-! ## Ports and roles -/

/-- The ports of the instance that a message is sent on: enabled, with a link, of the given roles. -/
def State.gptpPorts (s : State) (want : Nat → Nat → Bool) : List Nat :=
  if !s.on 0x3500 1 then [] else (List.range 256).filter fun p => s.portEnabled p && s.portOn p 1 1 && want p (s.gptpRole p)

/-- Whether a port may send and use time: an SG port runs no Pdelay (R77), any other has an asCapable peer (IEEE 802.1AS-2020:
PRESUMED, unsafe: log entry 10). -/
def State.timeCapable (s : State) (p : Nat) : Bool := isSG p || s.on 0x3502 2 p

/-- The master ports that Sync and Announce are sent on. -/
def State.masterPorts (s : State) : List Nat := s.gptpPorts fun p r => r == 1 && s.timeCapable p

/-! ## Messages -/

/-- Sync on one master port; its Follow_Up is owed when it has been sent (R77). -/
def sendSync (p : Nat) : Eff :=
  .look fun s =>
    let q := s.time.syncSequence % 65536
    enqueueOrigin p ptpClass (.ptp (.sync q)) (s.ptpFrame p 0 0x0200 0 q (s.obj 0x3500 3) (List.replicate 10 0))

/-- An interval of 2^log seconds. -/
def logInterval (log : Int) : Nat := if log < 0 then secUnits / 2 ^ (-log).toNat else secUnits * 2 ^ log.toNat

/-- Whether the instance runs and an interval has passed since a message of a kind was last sent. -/
def State.gptpDue (s : State) (sent : Option Nat) (interval : Nat) : Bool :=
  s.on 0x3500 1 && sent.all fun t => s.after t interval

/-- LogSyncInterval has elapsed. -/
def syncTimer : Eff :=
  .look fun s => .when (s.gptpDue s.time.syncAt (logInterval (s.obj 0x3500 3)))
    (.seq (.forEach s.masterPorts sendSync)
      (.upd (.time fun t => { t with syncSequence := (t.syncSequence + 1) % 65536, syncAt := some s.elapsed })))

/-- Requests that may stay without a response before a port is no longer asCapable (PRESUMED, unsafe: log entry 10). -/
def allowedLostResponses : Nat := 9

/-- A Pdelay interval has elapsed on a port: a request still waiting is lost, and the next one is sent. -/
def sendPdelayReq (p : Nat) : Eff :=
  .all [gptpSet p fun g => { g with
      sequence := (g.sequence + 1) % 65536, waiting := true, sentAt := none, lost := if g.waiting then g.lost + 1 else g.lost },
    .whenS (fun s => allowedLostResponses < (s.gptpPort p).lost) (setAsCapable p false),
    .look fun s => enqueueOrigin p ptpClass (.ptp .request)
      (s.ptpFrame p 2 0 0 (s.gptpPort p).sequence (s.obj 0x3500 4) (List.replicate 20 0))]

/-- LogPdelayInterval has elapsed: a Pdelay_Req on every BB and LK port of the instance. -/
def pdelayTimer : Eff :=
  .look fun s => .when (s.gptpDue s.time.pdelayAt (logInterval (s.obj 0x3500 4)))
    (.seq (.forEach (s.gptpPorts fun p r => r != 0 && !isSG p) sendPdelayReq)
      (.upd (.time fun t => { t with pdelayAt := some s.elapsed })))

/-- The body of an Announce: time source and priorities of this clock (IEEE 802.1AS-2020), and the path trace with it alone. -/
def State.announceBody (s : State) : Bytes :=
  List.replicate 10 0 ++ beBytes 2 0 ++ [0] ++ beBytes 1 (s.n 0x3500 7) ++ beBytes 4 0xF8FEFFFF ++
    beBytes 1 0xF8 ++ leBytes 8 (s.n 0x3500 6) ++ beBytes 2 0 ++ beBytes 1 0xA0 ++ beBytes 2 8 ++ beBytes 2 8 ++
    leBytes 8 (s.n 0x3500 6)

/-- One second since the last Announce (Table 3.8). -/
def announceTimerAct : Eff :=
  .look fun s => .when (s.gptpDue s.time.announceAt secUnits)
    (.seq (.forEach s.masterPorts fun p =>
        enqueueOwn p ptpClass (s.ptpFrame p 11 0 0 (s.time.announceSequence % 65536) 0 s.announceBody))
      (.upd (.time fun t => { t with announceSequence := (t.announceSequence + 1) % 65536, announceAt := some s.elapsed })))

/-! ## Reception -/

/-- Sync with Follow_Up on the slave port: an offset measurement for source 2 (R69's form, with the mean link delay). -/
def syncArrives (p domain origin : Nat) (correction : Int) (stamp : Nat) : Eff :=
  .look fun s =>
    .when (s.gptpRole p == 2 && s.timeCapable p && domain == s.n 0x3500 2)
      (.seq (measured stamp ((origin : Int) + correction + s.obj 0x3502 3 p).toNat true) awaitSync)

/-- A Pdelay_Req is answered with its receive timestamp; the answer's own follows when it has been sent. -/
def pdelayReqArrives (p domain sequence requester stamp : Nat) : Eff :=
  .look fun s =>
    .when (s.gptpRole p != 0 && !isSG p && domain == s.n 0x3500 2)
      (enqueueOrigin p ptpClass (.ptp (.response sequence requester))
        (s.ptpFrame p 3 0x0200 (stamp % 65536) sequence 127 (ptpTime stamp ++ beBytes 10 requester)))

/-- A Pdelay_Resp with its follow-up: neighborRateRatio from this exchange and the one before, and the mean link delay. -/
def pdelayRespArrives (p domain sequence t2 t3 t4 : Nat) : Eff :=
  .look fun s =>
    let g := s.gptpPort p
    match g.sentAt with
    | none => .skip
    | some t1 =>
      if s.gptpRole p == 0 || isSG p || domain != s.n 0x3500 2 || sequence != g.sequence then .skip
      else
        let ratio := match g.lastResponse with
          | some (o, r) =>
            if r < t4 then divFloor ((((t3 : Int) - o) - ((t4 : Int) - r)) * two40) ((t4 : Int) - r) else s.obj 0x3502 4 p
          | none => s.obj 0x3502 4 p
        let turn := (t3 : Int) - t2
        let loop := (t4 : Int) - t1
        let delay := divFloor (loop + divFloor (loop * ratio) two40 - turn) 2
        .all [setObj 0x3502 3 delay p, setObj 0x3502 4 ratio p,
          gptpSet p fun g => { g with waiting := false, sentAt := none, lost := 0, lastResponse := some (t3, t4) },
          setAsCapable p true]

/-- SyncReceiptTimeout intervals without a Sync on the slave port. -/
def syncTimedOut : Eff :=
  .look fun s =>
    let p := s.n 0x3102 0
    let patience := s.n 0x3500 5 * logInterval (s.obj 0x3500 3)
    .when (s.gptpRole p == 2 && s.time.syncAwaited.any fun t => s.after t patience)
      (.all [.upd (.time fun t => { t with syncAwaited := none }), bumpObj 0x3502 5 p, raise 530, sourceInvalid 2])

/-- An event message and its follow-up come on a port: `e` takes the event's receive timestamp where both pass their checks
(R61). -/
def pairArrives (p : Nat) (x : PtpPair) (e : Nat → Eff) : Eff :=
  offWrap p (.all [
    gptpSet p fun g => { g with eventAt := none },
    received p x.event none fun f => gptpSet p fun g => { g with eventAt := some f.stamp },
    received p x.followUp none fun _ => .look fun s => .ofOption (s.gptpPort p).eventAt e])

/-- An Announce is counted and otherwise ignored (Table 3.8). -/
def announceArrives (x : PortFrame) : Eff :=
  offWrap x.port (received x.port x.frame none fun _ => gptpSet x.port fun g => { g with announces := g.announces + 1 })

/-! ## Links (R149) -/

/-- A port's link comes up: event reason 1, and the verify procedure of R181. A lane of the ring has block lock (R115). A
port with MDI condition 1 to 3 has no link (R358). -/
def linkRises (p : Nat) : Eff :=
  .seq (laneLock p true) <| .whenS (fun s => isPort p && s.portEnabled p && !s.portOn p 1 1 && !s.shorted p)
    (.all [setPort p 1 1 1, .look fun s => setPort p 1 6 s.now, raisePort p 1, startVerify p, kick p])

/-- A port's link goes down: event reason 2, an occurrence of class 8, and the frames queued there end (R252). A lane of the
ring is lost (R112). -/
def linkDrops (p : Nat) : Eff :=
  .seq (laneFails p) <| .whenS (fun s => s.portOn p 1 1)
    (.all [linkFalls p, dropQueued p, setN 0x6001 2 0 p, showPreemption p, leaveGptp p, faultOccur 8 p fun _ => .skip])

/-! ## Meanings -/

/-- GPTP_SYNC (R76). -/
def execGptpSync (p domain origin : Nat) (correction : Int) (frames : PtpPair) (s : State) :
    Host.Outcome State Fault Refusal := done (operating (pairArrives p frames (syncArrives p domain origin correction))) s
/-- GPTP_PDELAY_REQ (R76). -/
def execGptpPdelayReq (p domain sequence requester : Nat) (frame : Frame) (s : State) : Host.Outcome State Fault Refusal :=
  done (operating (offWrap p (received p frame none fun f => pdelayReqArrives p domain sequence requester f.stamp))) s
/-- GPTP_SYNC_TIMER (R76). -/
def execGptpSyncTimer (s : State) : Host.Outcome State Fault Refusal := done (operating syncTimer) s
/-- GPTP_PDELAY_TIMER (R76). -/
def execGptpPdelayTimer (s : State) : Host.Outcome State Fault Refusal := done (operating pdelayTimer) s
/-- ANNOUNCE_TIMER (R76). -/
def execAnnounceTimer (s : State) : Host.Outcome State Fault Refusal := done (operating announceTimerAct) s
/-- SYNC_RECEIPT_TIMEOUT (R76). -/
def execSyncReceiptTimeout (s : State) : Host.Outcome State Fault Refusal := done (operating syncTimedOut) s
/-- GPTP_PDELAY_RESP (R76). -/
def execGptpPdelayResp (p domain sequence requestReceipt responseOrigin : Nat) (frames : PtpPair) (s : State) :
    Host.Outcome State Fault Refusal :=
  done (operating (pairArrives p frames (pdelayRespArrives p domain sequence requestReceipt responseOrigin))) s
/-- ANNOUNCE_RECEIVED (R76, Table 3.8): counted and otherwise ignored. -/
def execAnnounceReceived (arrival : PortFrame) (s : State) : Host.Outcome State Fault Refusal :=
  done (operating (announceArrives arrival)) s
end Sys2Proof.Machine
end

