-- ==== Sys2Proof/Machine/Stack.lean ====
section
/-! DEFINITION. The stack interface (R71, R279 to R285): stack ports, the StackHello exchange, the alignment of members, and
the forwarding of views. -/

namespace Sys2Proof.Machine

/-! ## Stack ports -/

/-- A stack port that has heard nothing yet. -/
def StackPort.init : StackPort :=
  { answered := false, accepted := false, barred := false, firmware := 0, mode := 0, helloAt := none, alignedAt := none,
    downAt := 0, sentAt := 0, arrivedAt := 0, lockRun := 0 }
/-- What is kept of a stack port. -/
def State.stackPort (s : State) (n : Nat) : StackPort := s.twin.stackPorts.getD n StackPort.init
/-- Updates what is kept of a stack port. -/
def stackPortSet (n : Nat) (f : StackPort → StackPort) : Eff :=
  .upd (.twin fun t => { t with stackPorts := t.stackPorts.set n (f (t.stackPorts.getD n StackPort.init)) })

/-- Sets or clears the bit of a member in StackMembers. -/
def setMember (m : Nat) (present : Bool) : Eff :=
  .look fun s =>
    .seq (setN 0x9000 2 (if present then s.n 0x9000 2 ||| 2 ^ m else s.n 0x9000 2 &&& (255 - 2 ^ m)))
      (setB 0x9011 1 present m)

/-! ## Responses to the clients of the dictionary (R36 to R41) -/

/-- A message header. -/
def messageHead (big : Bool) (kind tag status records : Nat) : Bytes :=
  beBytes 1 1 ++ beBytes 1 kind ++ wordBytes big 2 tag ++ beBytes 1 status ++ beBytes 1 records ++ beBytes 2 0

/-- A response stands in MBXRSP (R38): BUSY clears, DONE sets, event 768. -/
def mailboxReply (m : Bytes) : Eff :=
  .all [.upd (.wipe .mailboxResponse), .upd (.write .mailboxResponse 0 (m.take 4096)),
    .upd (.mailbox fun b => { b with busy := false, done := true, msgStatus := beAt m 4 1 }), raise 768]

/-- The traffic class of the module's management responses and notifications: the manual names none (log entry 34). -/
def pduClass : Nat := Config.responseClass % 8

/-- The response to a management PDU goes to its source, on the port of arrival. -/
def pduReply (p mac : Nat) (m : Bytes) : Eff :=
  .look fun s => enqueueOwn p pduClass
    (beBytes 6 mac ++ s.macBytes p ++ beBytes 2 0x88B7 ++ beBytes 3 0x04A73D ++ beBytes 2 3 ++ m)

/-- Whether a client's messages are big-endian (R33). -/
def RelayClient.bigEndian (c : RelayClient) : Bool := c.port.isSome

/-- The response to a relayed request goes to its client. -/
def clientReply (c : RelayClient) (m : Bytes) : Eff :=
  match c.port with
  | none => .whenS (fun s => s.od.mailbox.busy) (mailboxReply m)
  | some p => pduReply p c.mac m

/-- Relayed requests whose response can no longer come are answered BUSY (R41). -/
def relaysFail (which : RelayClient → Bool) : Eff :=
  .look fun s => .forEach (s.twin.relayTags.filter fun e => which e.2) fun e => .all [
    .upd (.twin fun t => { t with relayTags := t.relayTags.erase e.1 }), count (commonsItem 65),
    clientReply e.2 (messageHead e.2.bigEndian 2 e.2.tag stBusy 0)]

/-- A stack port has lost its link: the exchange on it is void, and requests relayed over it are answered. -/
def stackUnlinked (port : Nat) : Eff :=
  .look fun s => .all [
    setN 0x9002 1 0 port, count (twinItem 29),
    stackPortSet port fun x => { x with answered := false, accepted := false, downAt := s.elapsed },
    .when (port == s.portToward) (relaysFail fun _ => true)]

/-! ## StackHello (R283) -/

/-- The 24 body bytes of a StackHello. -/
def State.helloBody (s : State) (flags : Nat) : Bytes :=
  beBytes 8 s.nodeName ++ beBytes 1 (s.n 0x9000 1) ++ beBytes 1 (s.n 0x1003 0) ++
    beBytes 1 (if s.n 0x9000 1 == 2 then s.n 0x9020 2 else 0xFF) ++
    beBytes 1 (flags + if s.stackMaster then 4 else 0) ++ beBytes 4 (s.n 0x1000 5) ++ beBytes 8 0

/-- A StackHello leaves on a stack port with a link, in use or not, whatever the twin state. -/
def helloLeaves (port : Nat) (body : Bytes) : Eff :=
  .look fun s => .when (s.stackUsable port && !s.noSa (256 + port))
    (.all [count (twinItem 26), emit (.stack port (s.stackFrame port 0x06 body)), usePacketNumber (256 + port)])

/-- Sends a StackHello; flags 0 asks, 1 accepts, 2 refuses. -/
def sendHello (port flags : Nat) : Eff := .look fun s => helloLeaves port (s.helloBody flags)

/-- The peer reports a TwinRank (R309): event 856 when it becomes the half's own. -/
def peerRankSeen (r : Nat) : Eff :=
  .look fun s =>
    let same := r == s.n 0x9020 2
    .seq (.upd (.twin fun t => { t with peerRank := some r, rankConflict := same }))
      (.when (same && !s.twin.rankConflict) (faultEvent 17 0 856 r))

/-- The conflict follows the half's own TwinRank (R309). -/
def rankFollows : Eff :=
  .look fun s => match s.twin.peerRank with
    | some r => peerRankSeen r
    | none => .skip

/-- The master answers a hello of a would-be member, or of one that it has accepted before. A hello carries neither the stage
nor the LendBytes of its sender (free values, safe: log entry 26). -/
def answerMember (port name mode position : Nat) : Eff :=
  .look fun s =>
    let inside := decide (1 ≤ position) && decide (position ≤ 3)
    let occupied := inside && s.n 0x9011 2 position != 0 && s.n 0x9011 2 position != name
    if mode != 1 || !inside then sendHello port 2
    else if occupied then .seq (raise 853 position) (sendHello port 2)
    else .all [
      .when (s.n 0x9011 2 position != name) (.seq (setN 0x9011 2 name position) (withFree fun v =>
        .upd (.twin fun t => { t with lent := t.lent.set position (v % 33554433) }))),
      withFree (fun v => setN 0x9011 3 (v % 6) position),
      stackPortSet port fun x => { x with accepted := true, lockRun := if s.memberPresent position then x.lockRun else 0 },
      sendHello port 1]

/-- What a StackHello from another module does. One of a twin with another StackMode bars the port until one agrees. An answer
that passes down the chain and accepts sets the acceptance of the stack ports that it passes (DESIGN CHOICE, unsafe: log
entry 62). -/
def helloTaken (port : Nat) (b : Bytes) : Eff :=
  .look fun s =>
    let name := beAt b 0 8
    let mode := beAt b 8 1
    let flags := beAt b 11 1
    let answer := flags % 4 != 0
    .all [
      stackPortSet port fun x =>
        { x with
            firmware := beAt b 12 4, mode := mode, answered := x.answered || answer
            barred := s.n 0x9000 1 == 2 && mode != 2
            accepted := if s.stackMember then x.accepted || flags.testBit 0 else x.accepted },
      .when (flags.testBit 2 && s.stackMember) (.upd (.twin fun t => { t with masterName := name })),
      if s.stackMember then
        -- the exchange of the chain beyond passes unchanged; once the master accepts, both links carry alignment
        .seq (.when (answer && flags.testBit 0) (stackPortSet (1 - port) fun x => { x with accepted := true }))
          (helloLeaves (1 - port) b)
      else if s.stackMaster then .when (!answer) (answerMember port name mode (beAt b 9 1))
      else if s.n 0x9000 1 == 2 then
        .seq (.when (!answer) (if mode == 2 then sendHello port 1 else .seq (stackError port) (sendHello port 2)))
          (.when (mode == 2 && port == s.twinPort) (peerRankSeen (beAt b 10 1)))
      else .skip]

/-- Whether a stack message is a StackHello of this version, of 24 body bytes (R281, R283). -/
def isHello (m : Bytes) : Bool := m.length == 32 && beAt m 0 1 == 6 && beAt m 1 1 == 1 && beAt m 2 2 == 24

/-- A StackHello received on a stack port: its row takes position and name; the own one, come back round a closed chain, asks
for nothing. A message of another version is discarded and counted (R281), and so is one that the port's MACsec cannot verify. -/
def helloArrives (port : Nat) (m : Bytes) : Eff :=
  .whenS (fun s => s.stackUsable port) (.look fun s =>
    let b := m.drop 8
    if !isHello m || !s.stackVerifies port then stackError port
    else .all [
      count (twinItem 27), setN 0x9002 2 (beAt b 9 1) port, setN 0x9002 3 (beAt b 0 8) port,
      .when (beAt b 0 8 != s.nodeName) (helloTaken port b)])

/-- Whether the hello interval of a stack port has elapsed: 1 ms until the peer's answer has come, 100 ms after that. -/
def State.helloDue (s : State) (port : Nat) : Bool :=
  let x := s.stackPort port
  x.helloAt.all fun t => s.after t (nsUnits (if x.answered then 100000000 else 1000000))

/-- The hello interval of a stack port has elapsed. -/
def helloTimer (port : Nat) : Eff :=
  .whenS (fun s => s.stackUsable port && s.helloDue port)
    (.look fun s => .seq (stackPortSet port fun x => { x with helloAt := some s.elapsed }) (sendHello port 0))

/-- A stack port's link comes up: event 849, and the exchange begins. -/
def stackLinkRises (port : Nat) : Eff :=
  .look fun s => .when (decide (port < 2) && s.stackRuns && s.on 0x9001 1 port && !s.on 0x9002 1 port)
    (.all [setN 0x9002 1 1 port, raise 849 port,
      stackPortSet port fun _ => { StackPort.init with helloAt := some s.elapsed }, sendHello port 0])

/-- A stack port's link goes down: event 850, an occurrence of class 19. -/
def stackLinkFalls (port : Nat) : Eff :=
  .look fun s => .when (decide (port < 2) && s.on 0x9002 1 port)
    (.seq (stackUnlinked port) (faultEvent 19 port 850 port))

/-- Whether a member's stack link can have been down for 10 ms: position 1 hangs on the master's own port 1; the links of the
others are not the master's to see (R282). -/
def State.linkLost (s : State) (m : Nat) : Bool :=
  m != 1 || (!s.on 0x9002 1 1 && s.after (s.stackPort 1).downAt (nsUnits 10000000))

/-- A member's stack link has been down for 10 ms (R282). -/
def memberLost (m : Nat) : Eff :=
  .look fun s => .when (s.stackMaster && decide (1 ≤ m) && decide (m ≤ 3) && s.memberPresent m && s.linkLost m)
    (.all [raise 852 m, setMember m false, setN 0x9011 2 0 m,
      .upd (.twin fun t => { t with lent := t.lent.erase m }), relaysFail fun c => c.member == m])

/-! ## Alignment (R71) -/

/-- Every 50 us an Alignment message leaves on every active stack port of a capacity stack. -/
def alignmentTimerAct : Eff :=
  .look fun s => .when (s.n 0x9000 1 == 1) (.forEach [0, 1] fun n =>
    let x := s.stackPort n
    .when (s.stackUsable n && x.accepted && x.alignedAt.all fun t => s.after t (nsUnits 50000))
      (.seq (sendOnStack n false (.alignment n ((x.arrivedAt : Int) - x.sentAt) ((s.now : Int) - x.arrivedAt) s.now))
        (stackPortSet n fun y => { y with sentAt := s.now, alignedAt := some s.elapsed })))

/-- A member measures its delay and offset toward the master (R68, R69, R71); the first value seeds the filter. -/
def memberMeasures (loop turn : Int) (origin stamp : Nat) : Eff :=
  .look fun s =>
    let raw := divFloor (loop - turn) 2
    let old := s.obj 0x3300 2
    let delay := if s.time.stackSeeded then old + divFloor (raw - old) (2 ^ s.n 0x3200 3 : Nat) else raw
    let m := ((origin : Int) + delay).toNat
    .all [setObj 0x3300 2 delay, .upd (.time fun t => { t with stackSeeded := true }),
      setObj 0x3300 1 ((stamp : Int) - m), .when (s.timeSource == 4) (measured stamp m true)]

/-- The members that the master has accepted and that have not joined. -/
def State.joining (s : State) : List Nat := [1, 2, 3].filter fun m => s.n 0x9011 2 m != 0 && !s.memberPresent m

/-- The master sees a member's clock LOCKED by the criterion of its own (R65): as many consecutive measurements within the lock
threshold as LockCycles says. What has been accepted over the port has then joined (R283; DESIGN CHOICE, unsafe: log entry
52). -/
def memberLocks (port : Nat) (loop turn : Int) (origin stamp : Nat) : Eff :=
  .look fun s =>
    let offset := (stamp : Int) - (origin + divFloor (loop - turn) 2)
    let run := if absI offset ≤ nsUnits (s.n 0x3110 3) then (s.stackPort port).lockRun + 1 else 0
    .seq (stackPortSet port fun x => { x with lockRun := run })
      (.when (s.n 0x3110 2 ≤ run) (.forEach s.joining fun m => .seq (setMember m true) (raise 851 m)))

/-- An Alignment message pair: a member measures; the master watches the members that it has accepted. -/
def alignmentArrives (port : Nat) (loop turn : Int) (origin stamp : Nat) : Eff :=
  stackArrives port (.look fun s => .all [
    stackPortSet port fun x => { x with arrivedAt := stamp },
    .when (s.stackMember && port == s.portUp) (memberMeasures loop turn origin stamp),
    .when (s.stackMaster && (s.stackPort port).accepted) (memberLocks port loop turn origin stamp)])

/-! ## Views (R285) -/

/-- The view that a ViewForward carries. -/
def viewOf (v : ViewData) (serial now : Nat) : View := ⟨v.value, v.age, v.hash, v.status, v.status != 0, serial, now⟩

/-- A member keeps a forwarded view that a row of its 0x4130 subscribes to. It is readable at the boundary + 5 us, or when it
comes where that is later; the one before it is read until then. -/
def memberView (id row : Nat) (v : ViewData) : Eff :=
  .seq nextSerial (.look fun s =>
    let readable := max s.now (s.cycleStart s.cycle + nsUnits 5000)
    .when (s.n 0x4130 1 (1024 * s.mode + row) != 0) (.upd (.twin fun t =>
      let kept := match t.memberViews.get? id with
        | some x => t.memberViews.set (65536 + id) x
        | none => t.memberViews
      { t with memberViews := kept.set id (viewOf v s.messages.serial readable) })))

/-- The committed views of the running mode. -/
def State.viewData (s : State) : List ViewData :=
  (s.sections s.mode).filterMap fun r => (s.ring.views.get? r.id).map fun v => ⟨r.row, v.value, v.age, v.hash, v.status⟩

/-- At each boundary the master forwards to the stack the committed views to which its members subscribe. The members' 0x4130
is theirs; what it selects is a free value at the master (safe: log entry 26). -/
def forwardViews : Eff :=
  .look fun s => .when (s.stackMaster && s.n 0x9000 2 != 0)
    (.forEach [0, 1] fun n => .when (s.stackPort n).accepted (withFree fun v =>
      sendOnStack n false (.views n false (s.viewData.filter fun d => v.testBit d.row))))

/-- A write of a member's engine reaches the outbound buffer of a section that the master owns (R285). -/
def memberWrites (v : ViewData) : Eff :=
  .look fun s => .ofOption ((s.sections s.mode).find? fun r => r.row == v.row && r.id < 0xF00 && r.owner == s.nodeName) fun r =>
    .upd (.ring fun g => { g with outBuffers := g.outBuffers.set r.id ⟨slice v.value 0 r.length, true, none⟩ })

/-- Views received: at a member they are its settled sections, and pass on down the chain; what a member beyond writes passes on
up the chain, to the master's outbound buffers. -/
def viewsArrive (x : ForwardedViews) : Eff :=
  stackArrives x.port (.look fun s =>
    if s.stackMember then .seq
      (.when (!x.toMaster) (.forEach x.views fun v =>
        .ofOption ((s.sections s.mode).find? fun r => r.row == v.row && r.id < 0xF00) fun r => memberView r.id r.row v))
      (sendOnStack (1 - x.port) false (.views (1 - x.port) x.toMaster x.views))
    else .when (s.stackMaster && x.toMaster) (.forEach x.views memberWrites))

/-! ## Meanings -/

/-- STACK_HELLO (R283). -/
def execStackHello (stackPort : Nat) (message : Bytes) (s : State) : Host.Outcome State Fault Refusal :=
  done (operating (helloArrives stackPort message)) s
/-- STACK_HELLO_TIMER (R283). -/
def execStackHelloTimer (stackPort : Nat) (s : State) : Host.Outcome State Fault Refusal :=
  done (operating (helloTimer stackPort)) s
/-- STACK_MEMBER_LOST (R282). -/
def execStackMemberLost (member : Nat) (s : State) : Host.Outcome State Fault Refusal := done (operating (memberLost member)) s
/-- ALIGNMENT (R71). -/
def execAlignment (stackPort : Nat) (loop turn : Int) (origin stamp : Nat) (s : State) :
    Host.Outcome State Fault Refusal := done (operating (alignmentArrives stackPort loop turn origin stamp)) s
/-- ALIGNMENT_TIMER (R71). -/
def execAlignmentTimer (s : State) : Host.Outcome State Fault Refusal := done (operating alignmentTimerAct) s
/-- VIEW_FORWARD (R285). -/
def execViewForward (views : ForwardedViews) (s : State) : Host.Outcome State Fault Refusal :=
  done (operating (viewsArrive views)) s

end Sys2Proof.Machine
end

