-- ==== Sys2Proof/Machine/Twin.lean ====
section
/-! DEFINITION. The twin (R287 to R315): StepRecords, Mirror messages, comparison, the grove self-test, the lease and how it
is extended, acquired and released, the witness polls, and the health record. -/

namespace Sys2Proof.Machine

/-! ## Coppice, as far as the twin states need it (Table 9.2) -/

/-- The CoppiceRequest of a half that enters SYNCING (R311 step 1): its FirmwareVersion and mode digests. -/
def requestCoppice : Eff :=
  .look fun s => .all [
    .upd (.twin fun t =>
      { t with holderRun := 0, coppice := { t.coppice with since := s.elapsed, parts := [], log := [], loaded := false } }),
    setN 0x9021 0xA 0, setTwinState twSyncing,
    sendStack s.twinPort 0x20 (beBytes 4 (s.n 0x1000 5) ++ (List.range 8).flatMap fun m => beBytes 4 (s.shownDigest m))]

/-- A coppice fails at the syncing half: event 847, SILENT. -/
def coppiceFails (reason : Nat) : Eff :=
  .all [raise 847 reason, count (twinItem 24),
    .upd (.twin fun t => { t with holderRun := 0, coppice := { t.coppice with parts := [], log := [], loaded := false } }),
    setTwinState twSilent]

/-! ## StepRecords (R293, R294) -/

/-- The digest of a record: the first 8 bytes of SHAKE256. -/
def digest64 (record : Bytes) : Bytes := (List.range 8).map fun i => Config.shake256Byte record i

/-- The 16 digests of a cycle, for grove 0 to 7 input then output. -/
def cycleDigests (records : PMap Bytes) : List Bytes := (List.range 16).map fun i => digest64 (records.getD i [])

/-- The digests of cycle `n`, the running one or the one before. -/
def State.digestsOf (s : State) (n : Nat) : List Bytes :=
  cycleDigests (if n == s.cycle then s.messages.digests else s.messages.pastDigests)

/-- Whether a half is in step: ACTIVE or STANDBY. -/
def State.inStep (s : State) : Bool := s.twinState == twActive || s.twinState == twStandby

/-- The Flags byte of the StepRecord for cycle `n`. -/
def State.stepFlags (s : State) (n : Nat) : Nat :=
  let t := s.twin
  (if (if n == s.cycle then t.extended else t.extendedWas) then 1 else 0) +
    (if t.releasing == some (n + 1) then 2 else 0) + (if s.leaseHeld && t.noWitnessHeld then 4 else 0) +
    (if s.inStep then 8 else 0) + (if s.n 0x9020 2 == 1 then 16 else 0)

/-- The 152 body bytes of the StepRecord for cycle `n`. -/
def State.stepBody (s : State) (n : Nat) : Bytes :=
  beBytes 8 n ++ beBytes 1 s.twinState ++ beBytes 1 (s.stepFlags n) ++ beBytes 1 (min 255 (s.n 0x9021 7)) ++
    beBytes 1 (min 255 (s.n 0x9021 8)) ++
    beBytes 4 (match s.twin.lastRenewal with
      | some c => c
      | none => 0xFFFFFFFF) ++
    beBytes 8 0 ++ (s.digestsOf n).flatten

/-- Whether a task of a grove was left out in cycle `n` (R291). -/
def State.groveLeftOut (s : State) (n g : Nat) : Bool := s.twin.skipped.any fun x => x.1 == n && x.2 / 16 == g

/-- Compares the peer's digests of cycle `n` with the own ones (R295); a grove with a task that this half left out is not
compared. -/
def compareDigests (n : Nat) (peer : List Bytes) : Eff :=
  .look fun s =>
    .when (s.twinState == twStandby)
      (.forEach (((s.digestsOf n).zip peer).zipIdx) fun x =>
        .when (x.1.1 != x.1.2 && !s.groveLeftOut n (x.2 / 2)) (twinMismatch (if x.2 % 2 == 0 then 2 else 3) (x.2 / 2) 0xFF 0xFFFF n))

/-- The cycle whose StepRecord is sent next: the one before while it has not been sent, else the running one. -/
def State.recordCycle (s : State) : Nat :=
  match s.twin.sentRecord with
  | some n => if n + 1 < s.cycle then s.cycle - 1 else s.cycle
  | none => s.cycle - 1

/-- This half sends its StepRecord; a standby now compares the peer's digests of the same cycle, if it holds them. -/
def sendStep : Eff :=
  .look fun s => .when s.twinHalf (
    let n := s.recordCycle
    .when (s.twin.sentRecord != some n) (.all [settleShadows, .upd (.twin fun t => { t with sentRecord := some n }), count (twinItem 0),
      sendStack s.twinPort 0x01 (s.stepBody n),
      match s.twin.peerDigests with
      | some (m, ds) => .when (m ≤ n) (.seq (.upd (.twin fun t => { t with peerDigests := none }))
          (.when (m == n) (compareDigests n ds)))
      | none => .skip]))

/-- The 16 digests in a StepRecord. -/
def bodyDigests (b : Bytes) : List Bytes := (List.range 16).map fun i => slice b (24 + 8 * i) 8

/-- What the twin state does on a StepRecord that reports `state` (Table 9.2). -/
def stateOnRecord (state : Nat) : Eff :=
  .look fun s =>
    if s.twinState == twSilent && 2 ≤ s.twin.holderRun && s.power.stage == 5 then requestCoppice
    else if s.twinState == twAlone && state == twStandby then setTwinState twActive
    else if s.twinState == twActive && state != twStandby then setTwinState twAlone
    else .skip

/-- A StepRecord of the peer arrives (R294, R300, R306, R308). -/
def stepArrives (epoch : Nat) (b : Bytes) : Eff :=
  .look fun s => .when s.twinHalf (stackArrives s.twinPort (.look fun s =>
    let n := beAt b 0 8
    let state := beAt b 8 1
    let flags := beAt b 9 1
    let holding := state == twAlone || state == twActive
    let next := s.twin.peerRecordCycle == some (n - 1) && n != 0
    .all [
      count (twinItem 1), setN 0x9021 6 state,
      .when (s.twin.missedRun != 0) (raise 838 (n % 256)),
      .upd (.twin fun t =>
        { t with
            missedRun := 0, peerEpoch := epoch, peerNoWitness := flags.testBit 2, peerRecordCycle := some n
            holderRun := if holding then (if next then t.holderRun + 1 else 1) else 0
            peerIdleSince := if holding then none else some (t.peerIdleSince.getD s.elapsed)
            releaseSeen := if flags.testBit 1 && s.twinState == twStandby then some (n + 2) else t.releaseSeen }),
      peerRankSeen (flags / 16 % 2),
      .when (flags.testBit 0) (.look fun s => .seq (renewalSeen epoch n)
        (.when (s.leaseHeld && s.yieldsTo epoch (s.n 0x9002 3 s.twinPort)) (yieldToPeer epoch))),
      .when (s.twinState == twStandby)
        (if (match s.twin.sentRecord with
             | some m => decide (n ≤ m)
             | none => false) then compareDigests n (bodyDigests b)
         else .upd (.twin fun t => { t with peerDigests := some (n, bodyDigests b) })),
      stateOnRecord state]))

/-- Whether the peer's StepRecord for the cycle that has ended is missed (R294): it has not come 20 us after its latest instant,
the boundary plus MirrorLag, and has not been counted. -/
def State.recordMissed (s : State) : Bool :=
  s.cycle != 0 && s.twin.peerRecordCycle.all (fun p => decide (p + 1 < s.cycle)) &&
    s.twin.missedCycle != some (s.cycle - 1) &&
    decide (s.cycleStart s.cycle + nsUnits (s.n 0x9020 6 + 20000) ≤ s.now)

/-- A StepRecord is missed (R294, Table 9.2). The first miss raises event 837, the second has the state changes. -/
def stepMissed : Eff :=
  .look fun s => .when (s.twinHalf && s.recordMissed) (
    let run := s.twin.missedRun + 1
    let renewing := match s.twin.lastRenewal, s.twin.peerRecordCycle with
      | some r, some p => decide (p < r)
      | some _, none => true
      | none, _ => false
    .all [count (twinItem 2), .when (run == 1) (raise 837 ((s.cycle - 1) % 256)),
      .upd (.twin fun t => { t with missedRun := run, missedCycle := some (s.cycle - 1), holderRun := 0, peerIdleSince := none }),
      .when (2 ≤ run) (
        if s.twinState == twActive then setTwinState twAlone
        else if s.twinState == twSyncing then coppiceFails 5
        else .when (s.twinState == twStandby && renewing) (setTwinState twSilent))])

/-! ## Mirror (R292) -/

/-- A Mirror message waits for the lagged start of its task; older ones are dropped. -/
def mirrorArrives (m : MirrorMsg) : Eff :=
  .look fun s => .when s.twinHalf (stackArrives s.twinPort (.seq (count (twinItem 4))
    (.when (s.twinState == twStandby)
      (.upd (.messages fun x =>
        { x with mirrors := (x.mirrors.filter fun y => !(y.engine == m.engine && y.row == m.row)) ++ [m] })))))

/-! ## Grove self-test (R298, Table 9.4) -/

/-- The outcome of a self-test once both results are known: event 844 and Table 9.4. -/
def selfTestOutcome : Eff :=
  .look fun s =>
    match s.twin.selfTest with
    | some ⟨g, _, some own, some peer⟩ =>
      let bit := fun (b : Bool) => if b then 1 else 0
      .all [.upd (.twin fun t => { t with selfTest := none }), raise 844 (g % 256 + 256 * bit own + 65536 * bit peer),
        if s.leaseHeld then (if own then setTwinState twAlone else releaseBegin true)
        else if !own then setTwinState twFailed
        else .when (peer && s.twinState == twStandby) requestCoppice]
    | _ => .skip

/-- A SelfTestRequest of the peer. -/
def selfTestAsked (g start : Nat) : Eff :=
  .look fun s => .when s.twinHalf (stackArrives s.twinPort
    (.upd (.twin fun t => { t with selfTest := some ⟨g, start, none, none⟩ })))

/-- Whether grove `g` is the one of the self-test, started or due. -/
def State.selfTestOf (s : State) (g : Nat) : Bool :=
  match s.twin.selfTest with
  | some t => t.grove == g && decide (t.start ≤ s.cycle)
  | none => false

/-- Marks a grove as under self-test. -/
def selfTesting (g : Nat) (on : Bool) : Eff :=
  .look fun s => .upd (.power fun w => { w with groves := w.groves.set g { s.grove g with selfTesting := on } })

/-- The start boundary of the self-test. -/
def selfTestStarts (g : Nat) : Eff :=
  .whenS (fun s => s.twinHalf && s.selfTestOf g) (.all [selfTesting g true, raise 843 g, count (twinItem 11), count (groveItem g 29)])

/-- A self-test has failed: one more since power-on (R315). -/
def selfTestFailed : Eff := .upd (.canopy fun k => { k with selfTestFailures := k.selfTestFailures + 1 })

/-- The self-test ends with its result, which goes to the peer. -/
def selfTestEnds (g : Nat) (pass : Bool) : Eff :=
  .whenS (fun s => s.twinHalf && s.selfTestOf g && (s.grove g).selfTesting)
    (.all [selfTesting g false,
      .upd (.twin fun t => { t with selfTest := t.selfTest.map fun x => { x with own := some pass } }),
      .when (!pass) (.all [selfTestFailed, count (twinItem 12), count (groveItem g 30), raise (384 + 8 * g + 5) 3]),
      .look fun s => sendStack s.twinPort 0x04 (beBytes 1 g ++ beBytes 1 (if pass then 1 else 0)),
      selfTestOutcome])

/-- The peer's result; a missing one counts as a pass. -/
def peerResult (g : Nat) (pass : Bool) : Eff :=
  .whenS (fun s => s.twinHalf && s.selfTestOf g)
    (.seq (.upd (.twin fun t => { t with selfTest := t.selfTest.map fun x => { x with peer := some (x.peer.getD pass) } }))
      selfTestOutcome)

/-- Whether the peer's result is missing (R298): one cycle after the end of the 200 us from the start boundary. -/
def State.resultMissing (s : State) : Bool :=
  s.twin.selfTest.any fun t => t.peer.isNone && decide (s.cycleStart t.start + nsUnits 200000 + s.cycleUnits ≤ s.now)

/-! ## The lease (R299 to R309) -/

/-- Λ / L. -/
def State.leaseCycles (s : State) : Nat := max 2 (s.n 0x9020 5 / max 1 s.cycleLength)

/-- The TwinRank that counts (R309). -/
def State.effectiveRank (s : State) : Nat := if s.twin.rankConflict then 1 else s.n 0x9020 2

/-- Whether a name is one of the two halves, by the stack link or by the twin flag of its presence (Table 4.6). -/
def State.twinName (s : State) (name : Nat) : Bool :=
  name == s.nodeName || name == s.n 0x9002 3 s.twinPort ||
    (s.ring.views.any fun e => 0xF40 ≤ e.1 && e.1 < 0xF80 && e.2.everHeld && beAt e.2.value 0 8 == name &&
      (beAt e.2.value 9 1).testBit 6)

/-- The witnesses W of R302. -/
def State.witnessNames (s : State) : List Nat := s.ring.admitted.filter fun n => !s.twinName n

/-- The confirmations C of R302: presences of the cycle that ended with the holder's epoch and WitnessAge 1. -/
def State.confirming (s : State) : Nat :=
  (s.present.filter fun p => s.witnessNames.contains p.name && p.epoch == s.n 0x9021 2 && p.age == 1).length

/-- Whether the holder extends at the boundary that begins cycle `c` (R302). -/
def State.extends (s : State) (c : Nat) : Bool :=
  let w := s.witnessNames.length
  (1 ≤ w && w ≤ 2 * s.confirming) || s.twin.firstBoundary ||
    (w == 0 && s.effectiveRank == 0 &&
      (match s.twin.peerRecordCycle with
       | some p => decide (c ≤ p + 2)
       | none => false))

/-- The lease is extended, or begins, at the boundary that begins cycle `c`: LeaseExpiry c + Λ, and the half's own renewal. -/
def extendLease (c : Nat) : Eff :=
  .look fun s => .all [
    setN 0x9021 4 (s.cycleStart c + nsUnits (s.n 0x9020 5)), count (twinItem 13),
    .upd (.twin fun t => { t with extended := true, firstBoundary := false }), renewalSeen (s.n 0x9021 2) c]

/-- The holder stops (R302, R306): it follows the ring from here, without the lease. -/
def leaseEnds (next : Nat) : Eff :=
  .all [stopLaunching, setB 0x9021 3 false,
    .upd (.twin fun t => { t with extended := false, firstBoundary := false, releasing := none, failAfter := false
                                  noWitnessHeld := false, coppice := { t.coppice with serving := none, mirrored := [] } }),
    setTwinState next]

/-- The lease has expired: event 836, SILENT. -/
def leaseExpires : Eff := .look fun s => .all [raise 836 (s.n 0x9021 2), count (twinItem 17), leaseEnds twSilent]

/-- Whether the lease stands expired at the boundary of the running cycle. -/
def State.leaseExpired (s : State) : Bool := s.leaseHeld && s.n 0x9021 4 ≤ s.cycleStart s.cycle

/-- The holder's lease at the boundary that begins cycle `c` (R301, R302, R306). -/
def holderBoundary (c : Nat) : Eff :=
  .look fun s =>
    let w := s.witnessNames.length
    let k := s.confirming
    let epoch := s.n 0x9021 2
    let released := match s.twin.releasing with
      | some x => decide (x < c)
      | none => false
    if released then
      .all [raise 834 epoch, count (twinItem 16), leaseEnds (if s.twin.failAfter then twFailed else twSilent)]
    else .all [setN 0x9021 7 (min 255 w), setN 0x9021 8 (min 255 k),
      if s.extends c && s.twin.releasing != some c then extendLease c
      else .all [count (twinItem 14), .upd (.twin fun t => { t with extended := false, firstBoundary := false }),
        if s.leaseExpired then leaseExpires
        else raise 835 (k % 256 + 256 * (w % 256) + 65536 * epoch)]]

/-- The twin function at the boundary that begins cycle `c`, before any round frame of the cycle. -/
def leaseBoundary (c : Nat) : Eff :=
  .whenS State.twinHalf (.all [
    .look fun s => .upd (.twin fun t => { t with extendedWas := t.extended, extended := t.extended && s.leaseHeld }), rankFollows, settleShadows,
    .upd (.messages fun m => { m with pastDigests := m.digests, digests := [] }),
    .whenS State.leaseHeld (holderBoundary c)])

/-- The next lease epoch: it wraps from 2^32 - 1 to 1 (R299). -/
def nextEpoch (e : Nat) : Nat := if e == 4294967295 then 1 else e + 1

/-- The names that a new holder keeps admitted (R307): those of its committed census and presence views. -/
def State.admittedByView (s : State) : List Nat :=
  let mask := beAt (s.view 0xF00).value 0 8
  ((List.range 64).filterMap fun k =>
    let v := s.view (0xF40 + k)
    if mask.testBit k && v.everHeld && beAt v.value 0 8 != s.nodeName then some (beAt v.value 0 8) else none).dedup

/-- The half acquires the lease at the boundary of the running cycle by a path (0 poll, 1 release, 2 no-witness): event
833, ring master from here with the admitted names kept (R301, R307). -/
def acquireLease (path : Nat) : Eff :=
  .look fun s =>
    let epoch := nextEpoch (s.n 0x9021 2)
    let names := s.admittedByView
    let gap := match s.twin.lastRenewal with
      | some r => (s.cycle - r) * s.cycleLength
      | none => 0
    .all [setN 0x9021 2 epoch, .upd (.canopy fun k => { k with lastEpoch := epoch }), setB 0x9021 3 true, setN 0x9021 9 gap,
      .upd (.twin fun t => { t with noWitnessHeld := path == 2, poll := none, releasing := none, releaseSeen := none
                                    failAfter := false }),
      extendLease s.cycle, .upd (.twin fun t => { t with firstBoundary := true }),
      raise 833 (path + 256 * epoch), count (twinItem 15), setTwinState twAlone, becomeMaster,
      .upd (.ring fun g => { g with admitted := names, heard := names, refused := [] }),
      .look fun s => setN 0x4001 9 s.admittedMask]

/-- Whether a half may seek the lease: STANDBY or SILENT, with its ring function running. -/
def State.seeksLease (s : State) : Bool :=
  s.twinHalf && !s.leaseHeld && (s.twinState == twStandby || s.twinState == twSilent) && s.ringState != ringDisabled

/-- Whether no renewal has been seen for `k` cycles after the last one. -/
def State.unrenewed (s : State) (k : Nat) : Bool :=
  match s.twin.lastRenewal with
  | some r => decide (r + k ≤ s.cycle)
  | none => false

/-! ## Witness polls (R303, R304) -/

/-- A poll as a frame of a lane. -/
def State.pollFrame (s : State) (lane epoch : Nat) (body : Bytes) : Bytes :=
  envelope 3 4 (s.obj (portIdx lane 0) 6) ++ twinMessage 0x10 epoch body

/-- Sends a poll on a lane: class 7 express, subject only to R99. -/
def pollOnLane (lane : Nat) (epoch : Nat) (body : Bytes) : Eff := .look fun s => sendUrgent lane .module (s.pollFrame lane epoch body)

/-- The 784 bytes of a new poll. -/
def State.pollBody (s : State) : Bytes :=
  beBytes 8 s.nodeName ++ beBytes 4 s.cycle ++ beBytes 1 0 ++ beBytes 1 127 ++ beBytes 1 (s.leaseCycles + 2) ++ beBytes 1 0 ++
    List.replicate 768 0

/-- A WitnessPoll is due: no renewal since t_R + Λ + L. -/
def sendPoll : Eff :=
  .look fun s =>
    .when (s.seeksLease && s.unrenewed (s.leaseCycles + 1) && s.twin.poll.all (fun p => p.cycle != s.cycle))
      (.all [.upd (.twin fun t => { t with poll := some ⟨s.cycle, []⟩ }), raise 839 (s.cycle % 256), count (twinItem 18),
        .when (!s.ring.west.lost) (pollOnLane s.westLane (s.n 0x9021 2) s.pollBody),
        .when (!s.ring.east.lost) (pollOnLane s.eastLane (s.n 0x9021 2) s.pollBody)])

/-- The entries of a returned poll: NameHash, WitnessEpoch, LastRenewedCycle. -/
def pollEntries (b : Bytes) : List (Nat × Nat × Nat) :=
  (List.range (min 64 (beAt b 12 1))).map fun i =>
    (beAt b (16 + 12 * i) 3, beAt b (20 + 12 * i) 4, beAt b (24 + 12 * i) 4)

/-- Answers joined by name, the first one kept. -/
def joinAnswers (l : List (Nat × Nat × Nat)) : List (Nat × Nat × Nat) → List (Nat × Nat × Nat)
  | [] => l
  | e :: es => joinAnswers (if l.any fun x => x.1 == e.1 then l else l ++ [e]) es

/-- An own poll returns: its answers are used if it is the poll in flight. -/
def pollReturns (b : Bytes) : Eff :=
  .look fun s =>
    match s.twin.poll with
    | some p =>
      .when (beAt b 8 4 == p.cycle % 4294967296)
        (.upd (.twin fun t =>
          { t with
              poll := some { p with answers := joinAnswers p.answers (pollEntries b) }
              quietSince := if (pollEntries b).isEmpty then t.quietSince else s.elapsed }))
    | none => .skip

/-- A poll with this node's answer in entry Count. -/
def State.answered (s : State) (b : Bytes) : Bytes :=
  let i := beAt b 12 1
  overwrite (overwrite b (16 + 12 * i) (beBytes 3 (nameHash s.nodeName) ++ beBytes 1 0 ++ beBytes 4 s.ring.witnessEpoch ++
    beBytes 4 (match s.ring.witnessCycle with
      | some w => w
      | none => 0xFFFFFFFF))) 12 (beBytes 1 (i + 1))

/-- Having answered with an old LastRenewedCycle, the node locks its vote for LockCycles (R304). -/
def lockVote (lockCycles : Nat) : Eff :=
  .look fun s =>
    match s.ring.witnessCycle with
    | some w =>
      .when (w + (lockCycles - 2) ≤ s.cycle)
        (.upd (.ring fun g => { g with voteLock := some (g.witnessEpoch, s.cycle + lockCycles) }))
    | none => .skip

/-- A poll of another node: answered once, then forwarded on the other lane, or back where that lane is wrapped. -/
def pollPasses (lane epoch : Nat) (b : Bytes) : Eff :=
  .look fun s =>
    let key := (beAt b 0 8, beAt b 8 4)
    let first := !s.ring.answeredPolls.contains key
    let answers := first && !s.twinHalf && beAt b 12 1 < 64
    let hops := beAt b 13 1 - 1
    let sent := overwrite (if answers then s.answered b else b) 13 (beBytes 1 hops)
    let fromWest := lane == s.westLane
    let other := if fromWest then s.eastLane else s.westLane
    let lost := if fromWest then s.ring.east.lost else s.ring.west.lost
    .all [
      .when first (.upd (.ring fun g => { g with answeredPolls := key :: g.answeredPolls })),
      .when answers (.seq (count (twinItem 19)) (lockVote (beAt b 14 1))),
      .when (hops != 0) (.seq (count (twinItem 20)) (pollOnLane (if lost then lane else other) epoch sent))]

/-- A good WitnessPoll on a lane of the pair; under MACsec it counts only verified. -/
def pollTaken (lane epoch : Nat) (b : Bytes) (icv : Icv) : Eff :=
  .look fun s =>
    .when (s.isLane lane && (!s.on 0xA020 1 lane || icv == .verified) && b.length == 784)
      (if beAt b 0 8 == s.nodeName then pollReturns b else pollPasses lane epoch b)

/-- A WitnessPoll frame received on a lane, as any other frame. -/
def pollArrives (lane epoch : Nat) (b : Bytes) (icv : Icv) : Eff :=
  .look fun s => offWrap lane (received lane { data := s.pollFrame lane epoch b, fcs := .good, icv := icv, stamp := s.now } none
    fun _ => pollTaken lane epoch b icv)

/-- LockCycles have passed (R304). -/
def voteLockEnds : Eff :=
  .look fun s =>
    match s.ring.voteLock with
    | some (_, until') => .when (until' ≤ s.cycle) (.upd (.ring fun g => { g with voteLock := none }))
    | none => .skip

/-- Whether cycle number `low` (32 bits, all ones for none) lies at or before cycle `limit`. -/
def renewedBefore (low limit : Nat) : Bool :=
  low == 0xFFFFFFFF || decide ((limit % 4294967296 + 4294967296 - low) % 4294967296 < 2147483648)

/-- The non-twin nodes that the committed census admits. -/
def State.censusWitnesses (s : State) : Nat :=
  let mask := beAt (s.view 0xF00).value 0 8
  ((List.range 64).filter fun k =>
    mask.testBit k && k != s.position && !(beAt (s.view (0xF40 + k)).value 9 1).testBit 6).length

/-- The boundary that follows a poll (R303): event 840, and the lease when a majority of the witnesses has seen nothing
renewed. -/
def evaluatePoll : Eff :=
  .look fun s =>
    match s.twin.poll with
    | some p =>
      if p.cycle + 1 != s.cycle || !s.seeksLease then .when (p.cycle < s.cycle) (.upd (.twin fun t => { t with poll := none }))
      else
        let last := s.n 0x9021 2
        let w := max p.answers.length s.censusWitnesses
        let limit := s.cycle - (s.leaseCycles + 2)
        let nr := (p.answers.filter fun a => decide (a.2.1 ≤ last) && renewedBefore a.2.2 limit).length
        let higher := p.answers.foldl (fun m a => max m a.2.1) 0
        .all [.upd (.twin fun t => { t with poll := none }), setN 0x9021 7 (min 255 w), raise 840 (nr % 256 + 256 * (w % 256)),
          if last < higher then
            .all [setN 0x9021 2 higher, .upd (.canopy fun k => { k with lastEpoch := higher }),
              .upd (.twin fun t => { t with lastRenewal := some s.cycle })]
          else .when (w < 2 * nr && 1 ≤ nr && s.unrenewed (s.leaseCycles + 2)) (acquireLease 0)]
    | none => .skip

/-- The no-witness rule (R305). -/
def noWitnessAcquires : Eff :=
  .look fun s =>
    let span := nsUnits (4 * s.n 0x9020 5)
    let idle := match s.twin.peerIdleSince with
      | some i => s.after i span
      | none => false
    .when (s.seeksLease && s.effectiveRank == 0 && idle && s.after s.twin.quietSince span) (acquireLease 2)

/-- Whether TwinSwitchover may be written (R306). -/
def State.switchoverAllowed (s : State) : Bool :=
  s.twinHalf && s.leaseHeld && s.n 0x9021 6 == twStandby

/-- The boundary X + L at which a standby takes a released lease (R306). -/
def releaseTaken : Eff :=
  .look fun s =>
    match s.twin.releaseSeen with
    | some b =>
      if s.cycle < b then .skip
      else .seq (.upd (.twin fun t => { t with releaseSeen := none }))
        (.when (b == s.cycle && s.seeksLease && s.twinState == twStandby) (acquireLease 1))
    | none => .skip

/-- A lease reaches its expiry (R302): nothing where the boundary has extended it. -/
def expiryAct : Eff := .whenS (fun s => s.twinHalf && s.leaseExpired) leaseExpires

/-! ## Health and background self-test (R314, R315) -/

/-- The Flags byte of the health record. -/
def State.healthFlags (s : State) : Nat :=
  (if s.leaseHeld then 1 else 0) + (if s.inStep then 2 else 0) + (if s.on 0x9002 1 s.twinPort then 4 else 0) +
    (if s.n 0xB071 0 != 0 then 8 else 0) + (if s.power.supplyWarned then 16 else 0)

/-- Occurrences of TwinMismatch within its window, over the groves. -/
def State.mismatchesInWindow (s : State) : Nat :=
  (s.faults.instances.filter fun e => e.1 / 8388608 == 1).foldl (fun n e => n + windowCount e.2.buckets (s.bucketAt 1)) 0

/-- The number of fault classes with a lasting instance. -/
def State.lastingClasses (s : State) : Nat :=
  ((List.range 64).filter fun c => s.faults.instances.any fun e => e.1 / 8388608 == c && e.2.lasting).length

/-- The highest junction temperature in 0.25 C (R363). -/
def State.hottest (s : State) : Int := (List.range 12).foldl (fun m i => max m (s.obj 0xB070 (i + 1))) (s.obj 0xB070 1)

/-- The 32-byte health record, 0xB100. -/
def State.healthRecord (s : State) : Bytes :=
  beBytes 1 1 ++ beBytes 1 s.twinState ++ beBytes 1 (s.n 0x9021 6) ++ beBytes 1 s.healthFlags ++ beBytes 4 (s.n 0x9021 2) ++
    beBytes 4 s.twin.lastFullPass ++ beBytes 2 s.lastingClasses ++ beBytes 2 (min 65535 s.mismatchesInWindow) ++
    beBytes 2 (unsignedOf 2 s.hottest) ++ beBytes 1 (s.n 0xB060 1 / 50) ++ beBytes 1 (s.n 0x9021 7) ++
    beBytes 4 s.canopy.scrubCorrected ++ beBytes 4 s.canopy.selfTestFailures ++ beBytes 4 0

/-- At each boundary the health section is written (R315); a flag of degradation that rises raises event 855. -/
def healthBoundary : Eff :=
  .look fun s =>
    let id := s.n 0x9020 7
    let worse := (List.range 5).any fun i => (if i < 3 then s.twin.healthFlags.testBit i && !s.healthFlags.testBit i
      else s.healthFlags.testBit i && !s.twin.healthFlags.testBit i)
    .when s.twinHalf (.all [
      match s.sectionOf s.mode id with
      | some r => .when (id < 0xF00 && r.owner == s.nodeName && 32 ≤ r.length)
          (.upd (.ring fun g => { g with outBuffers := g.outBuffers.set id ⟨padTo r.length s.healthRecord, true, none⟩ }))
      | none => .skip,
      .when worse (raise 855 s.healthFlags), .upd (.twin fun t => { t with healthFlags := s.healthFlags })])

/-- The port of a lane instance of class 16: a backbone lane by its grove, an LK port by its number (Table 11.1). -/
def lanePort (inst : Nat) : Nat := if inst < 16 then 32 * (inst - 8) else 32 * ((inst - 16) / 3) + (inst - 16) % 3 + 1

/-- Whether a background test may run now (R314): no task runs on the grove's engines; the lane is disabled, or a stack lane
without a link. -/
def State.testIdle (s : State) (inst : Nat) : Bool :=
  if inst < 8 then (List.range 16).all fun i => (s.engine (16 * inst + i)).run.isNone
  else if inst < 40 then !s.portEnabled (lanePort inst)
  else !s.on 0x9002 1 (inst - 40)

/-- A step of a background self-test (R314), in the idle time of its engines or lane: a failure is an occurrence of class 16;
the grove's event names the test. -/
def backgroundStep (test inst : Nat) (pass fullPass : Bool) : Eff :=
  .look fun s => .when (s.twinHalf && s.on 0x9020 8 && !s.power.throttled && s.testIdle inst) (.all [
    .when (inst < 8) (.seq (count (groveItem inst 29)) (.when (!pass) (count (groveItem inst 30)))),
    .when (!pass) (.seq
      (faultOccur 16 inst fun sev => .when (inst < 8 && test < 2) (raiseSev sev (384 + 8 * inst + 5) (test + 1)))
      selfTestFailed),
    .when fullPass (.upd (.twin fun t => { t with lastFullPass := s.cycle }))])

/-! ## Meanings -/

/-- STEP_RECORD_SEND (R294). -/
def execStepRecordSend (s : State) : Host.Outcome State Fault Refusal := done (operating sendStep) s
/-- STEP_RECORD (R294). -/
def execStepRecord (epoch : Nat) (body : Bytes) (s : State) : Host.Outcome State Fault Refusal :=
  done (operating (stepArrives epoch body)) s
/-- STEP_RECORD_MISSED (R294). -/
def execStepRecordMissed (s : State) : Host.Outcome State Fault Refusal := done (operating stepMissed) s
/-- MIRROR (R292). -/
def execMirror (message : MirrorMsg) (s : State) : Host.Outcome State Fault Refusal := done (operating (mirrorArrives message)) s
/-- SELF_TEST_REQUEST (R298). -/
def execSelfTestRequest (grove start : Nat) (s : State) : Host.Outcome State Fault Refusal :=
  done (operating (selfTestAsked grove start)) s
/-- GROVE_SELF_TEST_START (R298). -/
def execGroveSelfTestStart (grove : Nat) (s : State) : Host.Outcome State Fault Refusal :=
  done (operating (selfTestStarts grove)) s
/-- GROVE_SELF_TEST_END (R298). -/
def execGroveSelfTestEnd (grove : Nat) (pass : Bool) (s : State) : Host.Outcome State Fault Refusal :=
  done (operating (selfTestEnds grove pass)) s
/-- SELF_TEST_RESULT (R298). -/
def execSelfTestResult (grove : Nat) (pass : Bool) (s : State) : Host.Outcome State Fault Refusal :=
  done (operating (.look fun s => stackArrives s.twinPort (peerResult grove pass))) s
/-- SELF_TEST_RESULT_TIMEOUT (R298). -/
def execSelfTestResultTimeout (grove : Nat) (s : State) : Host.Outcome State Fault Refusal :=
  done (operating (.whenS State.resultMissing (peerResult grove true))) s
/-- LEASE_EXPIRY (R302). -/
def execLeaseExpiry (s : State) : Host.Outcome State Fault Refusal := done (operating expiryAct) s
/-- WITNESS_POLL_SEND (R303). -/
def execWitnessPollSend (s : State) : Host.Outcome State Fault Refusal := done (operating sendPoll) s
/-- WITNESS_POLL (R304). -/
def execWitnessPoll (lane epoch : Nat) (body : Bytes) (icv : Icv) (s : State) : Host.Outcome State Fault Refusal :=
  done (operating (pollArrives lane epoch body icv)) s
/-- VOTE_LOCK_END (R304). -/
def execVoteLockEnd (s : State) : Host.Outcome State Fault Refusal := done (operating voteLockEnds) s
/-- WITNESS_POLL_EVALUATION (R303). -/
def execWitnessPollEvaluation (s : State) : Host.Outcome State Fault Refusal := done (operating evaluatePoll) s
/-- NO_WITNESS_ACQUIRE (R305). -/
def execNoWitnessAcquire (s : State) : Host.Outcome State Fault Refusal := done (operating noWitnessAcquires) s
/-- RELEASE_ACQUIRE (R306). -/
def execReleaseAcquire (s : State) : Host.Outcome State Fault Refusal := done (operating releaseTaken) s
/-- BACKGROUND_SELF_TEST_STEP (R314). -/
def execBackgroundSelfTestStep (test inst : Nat) (pass fullPass : Bool) (s : State) : Host.Outcome State Fault Refusal :=
  done (operating (backgroundStep test inst pass fullPass)) s

end Sys2Proof.Machine
end

