-- ==== Sys2Proof/Machine/Image.lean ====
section
/-! DEFINITION. Values, records and configuration images in bytes (R33, R52, Tables 2.9 and 2.10), and the digests taken over
the applied configuration. -/

namespace Sys2Proof.Machine

/-! ## Values in a channel's byte order (R33) -/

/-- The bytes of a value. -/
def valueBytes (big : Bool) (ty : Ty) (v : Int) : Bytes :=
  match ty with
  | .time => timeBytes big v.toNat
  | .octets n => leBytes n v.toNat
  | _ => wordBytes big ty.size (unsignedOf ty.size v)

/-- The value of a byte string, and whether its nanoseconds field has been clamped (R46). -/
def valueOf (big : Bool) (ty : Ty) (bs : Bytes) : Int × Bool :=
  match ty with
  | .time =>
    let sec := wordOf big (slice bs 0 8)
    let ns := wordOf big (slice bs 8 4)
    let frac := wordOf big (slice bs 12 2)
    (((sec * secUnits + min ns 999999999 * 65536 + frac : Nat) : Int), decide (999999999 < ns))
  | .octets _ => ((ofLe bs : Nat), false)
  | _ => (if ty.signed then signedOf ty.size (wordOf big bs) else (wordOf big bs : Nat), false)

/-! ## The applied configuration -/

/-- Indexes of Table 2.11 that the module implements. -/
def allIndexes : List Nat := ((List.range 0xC000).map (· + 0x1000)).filter fun i => (objectAt i).isSome

/-- The keys of an object's cells, in ascending order. -/
def keysOf (i : Nat) : List (Key × Cell × Acc) :=
  match objectAt i with
  | some o =>
    (List.range o.rows).flatMap fun row =>
      o.cells.zipIdx.map fun c => (⟨i, row, if o.shape == .single then 0 else c.2 + 1⟩, c.1, o.accOf c.1)
  | none => []

/-- The configuration keys: every RW, RWS and RWC cell, in ascending key. -/
def configKeys : List (Key × Cell) :=
  (allIndexes.flatMap keysOf).filterMap fun x =>
    match x.2.2 with
    | .rw | .rws | .rwc => some (x.1, x.2.1)
    | _ => none

/-- An image record (Table 2.10). -/
def imageRecord (k : Key) (ty : Ty) (v : Int) : Bytes :=
  beBytes 2 k.idx ++ beBytes 1 k.sub ++ beBytes 1 ty.code ++ beBytes 2 k.row ++ beBytes 2 ty.size ++ padTo8 (beValue ty v)

/-- The records of the applied configuration. -/
def State.configRecords (s : State) (keep : Key → Bool) : Bytes :=
  (configKeys.filter fun x => keep x.1).flatMap fun x => imageRecord x.1 x.2.ty (s.key x.1)

/-- The 32-byte SHAKE256 digest. -/
def digest32 (m : Bytes) : Bytes := (List.range 32).map fun i => Config.shake256Byte m i

/-- An unsigned image (Table 2.9) of a body. -/
def imageOf (target sequence flags records : Nat) (body : Bytes) : Bytes :=
  beBytes 4 0x424E4349 ++ beBytes 2 1 ++ beBytes 2 0x40 ++ beBytes 4 (64 + body.length) ++ beBytes 4 records ++
    beBytes 8 target ++ beBytes 4 sequence ++ beBytes 2 flags ++ beBytes 1 0 ++ beBytes 1 0 ++ digest32 body ++ body

/-- The Commit record that ends a body. -/
def commitRecord : Bytes := imageRecord ⟨0x2010, 0, 0⟩ .u8 1

/-- A configuration change has applied (R339): ConfigCycle, and the digest of measurement 7. -/
def noteConfig : Eff :=
  .look fun s => .upd (.kiln fun k => { k with configCycle := s.cycle, configDigest := digest32 (s.configRecords fun _ => true) })

/-! ## Reading an image -/

/-- One record of an image body. -/
structure ImageRecord where
  key : Key
  type : Nat
  value : Bytes
deriving DecidableEq, Repr

/-- The records that fill a body exactly; none where lengths do not fit. -/
def readRecords : Nat → Bytes → Option (List ImageRecord)
  | 0, b => if b.isEmpty then some [] else none
  | n + 1, b =>
    let len := beAt b 6 2
    let size := 8 + (len + 7) / 8 * 8
    if b.length < 8 || len == 0 || 1024 < len || b.length < size then none
    else (readRecords n (b.drop size)).map fun rs =>
      ⟨⟨beAt b 0 2, beAt b 4 2, beAt b 2 1⟩, beAt b 3 1, slice b 8 len⟩ :: rs

/-- The length of the signature block of an algorithm. -/
def signatureBlock (algorithm : Nat) : Nat := if algorithm = 1 then 3320 else if algorithm = 2 then 4640 else 0
/-- The signature bytes in a block. -/
def signatureOf (block : Bytes) : Bytes := slice block 8 (min (beAt block 0 2) (block.length - 8))

/-- The parts of an image: its flags, signature algorithm, body. -/
def imageFlags (b : Bytes) : Nat := beAt b 28 2
def imageSigned (b : Bytes) : Bool := (imageFlags b).testBit 0
def imageAlgorithm (b : Bytes) : Nat := beAt b 30 1
def imageBody (b : Bytes) : Bytes :=
  (b.drop 64).take (b.length - 64 - (if imageSigned b then signatureBlock (imageAlgorithm b) else 0))

/-- Whether the owner requires signed images: by policy or by lock (R333, Table 9.2 lets the coppice image pass, R311). -/
def State.signedOnly (s : State) : Bool := s.flash.requireSigned || s.otp.locks.testBit 1

/-- The checks of R52 in their order: the status of the first that fails, or the records. -/
def State.checkImage (s : State) (b : Bytes) (ownerCheck : Bool) : Nat ⊕ List ImageRecord :=
  let len := beAt b 8 4
  let body := imageBody b
  let target := beAt b 16 8
  let signed := imageSigned b
  let alg := imageAlgorithm b
  let structureOk := beAt b 0 4 == 0x424E4349 && beAt b 4 2 == 1 && beAt b 6 2 == 0x40 && decide (80 ≤ len) &&
    decide (len ≤ 1048576) && b.length == len &&
    (!signed || decide (64 + signatureBlock alg ≤ len))
  match structureOk, readRecords (beAt b 12 4) body with
  | true, some rs =>
    let signatureOk :=
      if signed then
        match s.flash.ownerKey with
        | some (a, key) =>
          a == alg && Config.mlDsaVerify a key [0x43, 0x46, 0x47] (b.take 64) (signatureOf (b.drop (64 + body.length)))
        | none => false
      else !(ownerCheck && s.signedOnly)
    let isCommit := fun (r : ImageRecord) => r.key.idx == 0x2010 && r.key.sub == 0
    let lastOk := match rs.getLast? with
      | some r => isCommit r && (r.value == [1] || r.value == [2])
      | none => false
    if target != 0 && s.nodeName != 0 && target != s.nodeName then .inl 0x12
    else if slice b 32 32 != digest32 body then .inl 0x20
    else if !signatureOk then .inl 0x20
    else if beAt b 24 4 < s.flash.imageSequence then .inl 0x15
    else if !lastOk || (rs.dropLast.any isCommit) then .inl 0x15
    else .inr rs
  | _, _ => .inl 0x14

end Sys2Proof.Machine
end

