-- ==== Sys2Proof/Machine/Kiln.lean ====
section
/-! DEFINITION. The Kiln (chapter 10): firmware packages, Kiln messages and their commands, the owner, attestation, pairing,
MKA and the key path, debug unlock, and the Kiln's part of bring-up. -/

namespace Sys2Proof.Machine

/-! ## Small parts -/

/-- Whether the Kiln answers commands as RUNNING. -/
def State.kilnRuns (s : State) : Bool := s.kiln.state == .running

/-- Whether a package has been booted: RUNNING, or debug-opened, which boots as well (R349). -/
def State.packageRuns (s : State) : Bool := s.kilnRuns || s.kiln.state == .debugOpened

/-- The code of KSTATE. -/
def kstateCode : KilnState → Nat
  | .booting => 0
  | .running => 1
  | .recovery => 2
  | .fault => 3
  | .debugOpened => 4

/-- KSTATE changes: event 864. -/
def setKilnState (new : KilnState) : Eff :=
  .whenS (fun s => s.kiln.state != new)
    (.seq (.upd (.kiln fun k => { k with state := new })) (raise 864 (kstateCode new)))

/-- Uses `n` bytes of the random source. -/
def withRandom (n : Nat) (f : Bytes → Eff) : Eff :=
  .look fun s => .seq (.upd (.kiln fun k => { k with randomUsed := k.randomUsed + n }))
    (f ((List.range n).map fun i => Config.randomByte (s.kiln.randomUsed + i)))

/-- `n` bytes of SHAKE256. -/
def shake (m : Bytes) (n : Nat) : Bytes := (List.range n).map fun i => Config.shake256Byte m i

/-- A verification of an ML-DSA signature is counted. -/
def countSignature (ok : Bool) : Eff := count (kilnItem (if ok then 2 else 3))

/-- The check of an image's signature is counted, where the checks of R52 have come to it with result `r`. -/
def countImage (b : Bytes) (r : Nat ⊕ List ImageRecord) : Eff :=
  .when (imageSigned b) (match r with
    | .inr _ => countSignature true
    | .inl st =>
      if st = 0x15 then countSignature true
      else .when (st == 0x20 && slice b 32 32 == digest32 (imageBody b)) (countSignature false))

/-- Verifications made one after the other up to the first that fails are counted. -/
def countChecks : List Bool → Eff
  | [] => .skip
  | ok :: rest => .seq (countSignature ok) (.when ok (countChecks rest))

/-- The seed of the device KEM key (Table 10.3): SHAKE256 over HardwareUniqueKey and "KEM". -/
def State.kemSeed (s : State) : Bytes := shake (beBytes 32 s.otp.hardwareUniqueKey ++ [0x4B, 0x45, 0x4D]) 64

/-- A signature block of the device key over a message (R325, R330). -/
def State.deviceBlock (s : State) (context message : Bytes) : Bytes :=
  beBytes 2 3309 ++ beBytes 6 0 ++
    padTo8 ((List.range 3309).map fun i => Config.deviceSignByte (beBytes 32 s.otp.deviceKeySeed) context message i)

/-! ## Firmware packages (R325 to R328) -/

/-- The package in a slot (0 A, 1 B). -/
def State.slotPackage (s : State) (slot : Nat) : Bytes :=
  ((if slot = 0 then s.flash.slotA else s.flash.slotB).getD (Config.factoryPackage slot))
/-- Whether a slot's content is valid. -/
def State.slotValid (s : State) (slot : Nat) : Bool := if slot = 0 then s.flash.validA else s.flash.validB

/-- Manifest fields. -/
def packageVersion (b : Bytes) : Nat := beAt b 8 4
def packageSecurity (b : Bytes) : Nat := beAt b 12 1
def manifestOf (b : Bytes) : Bytes := slice b 0 2752

/-- The entry of a part in the part table: offset, length, digest. -/
def partEntry (b : Bytes) (part : Nat) : Option (Nat × Nat × Bytes) :=
  match (List.range (min 16 (beAt b 6 2))).filter fun i => beAt b (32 + 48 * i) 2 == part with
  | [i] => some (beAt b (36 + 48 * i) 4, beAt b (40 + 48 * i) 4, slice b (48 + 48 * i) 32)
  | _ => none

/-- The bytes of a part. -/
def partBytes (b : Bytes) (part : Nat) : Bytes :=
  match partEntry b part with
  | some (off, len, _) => slice b off len
  | none => []

/-- Whether a part's digest holds. -/
def partGood (b : Bytes) (part : Nat) : Bool :=
  match partEntry b part with
  | some (off, len, d) => digest32 (slice b off len) == d
  | none => false

/-- The owner co-signature of a package verifies. -/
def State.coSignatureGood (s : State) (b : Bytes) : Bool :=
  match s.flash.ownerKey with
  | some (alg, key) => Config.mlDsaVerify alg key [0x46, 0x57, 0x4F] (manifestOf b) (signatureOf (slice b 6072 (signatureBlock alg)))
  | none => false

/-- Whether a part table is well-formed (R325): parts 1 to 6 once each, every offset a multiple of 4,096, and part 1 of at most
1 MiB. -/
def partTableGood (b : Bytes) : Bool :=
  ((List.range 6).all fun i => (partEntry b (i + 1)).isSome) &&
    ((List.range (min 16 (beAt b 6 2))).all fun i => beAt b (36 + 48 * i) 4 % 4096 == 0) &&
    ((partEntry b 1).any fun e => decide (e.2.1 ≤ 1048576))

/-- The checks 1 to 5 of R326 in their order: the boot error of the first that fails (Table 10.12), 0 where all pass. -/
def State.packageError (s : State) (b : Bytes) : Nat :=
  let flags := beAt b 14 1
  let key := slice b 800 1952
  let index := beAt b 13 1
  let format := beAt b 0 4 == 0x424E4657 && beAt b 4 2 == 1 && decide (6 ≤ beAt b 6 2) && decide (beAt b 6 2 ≤ 16) &&
    decide (beAt b 20 4 ≤ 25165824) && partTableGood b
  let device := beAt b 16 2 == 0x8256 && (beAt b 18 1).testBit (s.n 0x1000 3)
  let known := decide (index < 4) && digest32 key == s.otp.caerharKeyHashes.getD index [] && !s.otp.keyRevoked.testBit index
  let signed := Config.mlDsaVerify 1 key [0x46, 0x57, 0x43] (manifestOf b) (signatureOf (slice b 2752 3320))
  let present := flags.testBit 0
  let coOk := if present then s.coSignatureGood b else !s.otp.locks.testBit 0
  if !format then 1
  else if !device then 2
  else if !known then 3
  else if !signed then 4
  else if !coOk then 5
  else if packageSecurity b < s.otp.rollback then 6
  else 0

/-- The signature verifications of a package check that ended with boot error `e` are counted: Caerhar's, and the owner's
co-signature where one is present and an owner key is installed (R326, R351). -/
def countPackage (b : Bytes) (e : Nat) : Eff :=
  .look fun s =>
    let co := (beAt b 14 1).testBit 0 && s.flash.ownerKey.isSome
    .seq (.when (e == 0 || 4 ≤ e) (countSignature (e != 4)))
      (.when (co && (e == 0 || 5 ≤ e)) (countSignature (e != 5)))

/-- Whether the digests of all parts in the part table hold. -/
def allPartsGood (b : Bytes) : Bool :=
  (List.range (min 16 (beAt b 6 2))).all fun i =>
    digest32 (slice b (beAt b (36 + 48 * i) 4) (beAt b (40 + 48 * i) 4)) == slice b (48 + 48 * i) 32

/-- The error of parts 2 to 6 as stage one streams them (R326). -/
def State.partsError (s : State) (b : Bytes) : Nat :=
  if !([2, 3, 4, 5, 6].all fun i => partGood b i) then 7
  else if !Config.bundleVerifies (partBytes b 6) s.otp.caerharRootHash then 9
  else 0

/-- The verification of the certificate bundle is counted, where the parts' digests hold (R351). -/
def countBundle (e : Nat) : Eff := .when (e != 7) (countSignature (e == 0))

/-- The error of a slot at S1: its validity, the checks of R326, and part 1. -/
def State.slotError (s : State) (slot : Nat) : Nat :=
  let b := s.slotPackage slot
  if !s.slotValid slot then 1
  else if s.packageError b != 0 then s.packageError b
  else if !partGood b 1 then 7
  else 0

/-- The slots in the order of R327: a pending trial, the active slot, the other one; those tried in this boot are left out. -/
def State.slotOrder (s : State) : List Nat :=
  (((match s.flash.trialSlot with
     | some t => [t]
     | none => []) ++ [s.flash.activeSlot, 1 - s.flash.activeSlot]).eraseDups).filter fun x => !s.kiln.slotsTried.contains x

/-! ## The security objects and the boot (R326, R327, R339) -/

/-- The policy bytes as SetPolicy carries them. -/
def State.policyBytes (s : State) : Bytes :=
  [if s.flash.requireSigned then 1 else 0, if s.flash.advanceOnConfirm then 1 else 0, BitVec.ofNat 8 s.flash.pairingMode] ++
    beBytes 5 0 ++ beBytes 8 s.flash.cakLifetime

/-- The owner key slot in use. -/
def State.ownerSlot (s : State) : Nat := if s.otp.ownerSlots.isEmpty then 0xFF else s.otp.ownerSlots.length - 1
/-- The hash in the owner key slot in use. -/
def State.ownerHash (s : State) : Bytes := ((s.otp.ownerSlots.getLast?).map Prod.snd).getD (List.replicate 32 0)

/-- Measurement 8: the security objects. -/
def State.securityBytes (s : State) : Bytes :=
  s.ownerHash ++ s.policyBytes ++ beBytes 2 s.otp.locks ++
    s.flash.lockedRanges.flatMap (fun r => beBytes 2 r.1 ++ beBytes 2 r.2) ++ s.flash.allowList.flatMap (beBytes 8)

/-- Stage one runs from a slot: what the module is from now on, and the revocations of its manifest (R326). -/
def bootFrom (slot : Nat) (trial first : Bool) : Eff :=
  .look fun s =>
    let b := s.slotPackage slot
    let flags := beAt b 14 1
    let revoke := (beAt b 15 1 % 16) &&& (15 - 2 ^ (beAt b 13 1 % 4))
    .all [
      .upd (.kiln fun k =>
        { k with
            slot := slot, trial := trial, fallback := !first, coSigned := flags.testBit 0
            securityDigest := digest32 s.securityBytes }),
      .when (flags.testBit 1) (.upd (.burnRevoked revoke)),
      setN 0x1000 5 (packageVersion b), setN 0x1000 6 slot,
      .when (!first) (raise 865 (slot + 256 * s.n 0xA000 3)), setKilnState (if s.otp.debugOpened then .debugOpened else .running)]

/-- Tries slots in order; each failure is recorded as the last boot error. The pending mark is cleared before its trial. -/
def trySlots (first : Bool) : List Nat → Eff
  | [] => setKilnState .recovery
  | slot :: rest =>
    .look fun s =>
      let trial := s.flash.trialSlot == some slot
      let e := s.slotError slot
      .all [
        .when trial (flashSet fun f => { f with trialSlot := none }),
        .upd (.kiln fun k => { k with slotsTried := slot :: k.slotsTried }), countPackage (s.slotPackage slot) e,
        if e = 0 then bootFrom slot trial first else .seq (setN 0xA000 3 e) (trySlots false rest)]

/-- The Kiln store at boot (R324): records under the storage key of another HardwareUniqueKey, as a debug unlock leaves them,
fail authentication and are absent from here, each with event 884. The numbers of the records are in the order of Table 10.4,
the owner key first (DESIGN CHOICE, unsafe: log entry 58). -/
def storeLost : Eff :=
  .look fun s => .when (s.flash.storeRoot != s.otp.hardwareUniqueKey) (.all [
    .forEach ((List.range 6).filter fun r => r != 0 || s.flash.ownerKey.isSome) fun r => raise 884 r,
    flashSet fun f => { Flash.reset with
      slotA := f.slotA, slotB := f.slotB, validA := f.validA, validB := f.validB, bootImage := f.bootImage
      previousImage := f.previousImage, bootCount := f.bootCount, storeRoot := s.otp.hardwareUniqueKey }])

/-- The Kiln at S1 (R326, R327). -/
def kilnBoots : Eff := .seq storeLost (.look fun s => trySlots s.kiln.slotsTried.isEmpty s.slotOrder)

/-! ## The report (R339) -/

/-- Measurement `i` (1 to 8). -/
def State.measurement (s : State) (i : Nat) : Bytes :=
  let b := s.slotPackage s.kiln.slot
  if i ≤ 5 then (match partEntry b i with
    | some (_, _, d) => d
    | none => List.replicate 32 0)
  else if i = 6 then digest32 (manifestOf b)
  else if i = 7 then padTo 32 s.kiln.configDigest
  else padTo 32 s.kiln.securityDigest

/-- Bytes 80 to 111 of the report: what GetStatus answers. -/
def State.statusBytes (s : State) : Bytes :=
  let b := s.slotPackage s.kiln.slot
  let flags := (if s.kiln.trial then 1 else 0) + (if s.kiln.fallback then 2 else 0) + (if s.otp.debugOpened then 4 else 0) +
    (if s.flash.ownerKey.isSome then 8 else 0) + (if s.kiln.coSigned then 16 else 0)
  beBytes 4 (s.n 0x1000 5) ++ beBytes 1 s.kiln.slot ++ beBytes 1 (packageSecurity b) ++ beBytes 1 s.otp.rollback ++
    beBytes 1 flags ++ beBytes 4 s.flash.imageSequence ++ beBytes 4 s.flash.ownerSequence ++ beBytes 2 s.otp.locks ++
    beBytes 1 s.ownerSlot ++ beBytes 1 s.twinState ++ beBytes 4 s.flash.bootCount ++ beBytes 8 s.kiln.configCycle

/-- Bytes 0 to 431 of the report. -/
def State.report (s : State) (nonce : Bytes) : Bytes :=
  beBytes 4 0x424E4154 ++ beBytes 2 1 ++ beBytes 2 8 ++ beBytes 8 Config.serialNumber ++ beBytes 8 s.nodeName ++
    slice nonce 0 32 ++ timeBytes true s.now ++ beBytes 8 s.cycle ++ s.statusBytes ++
    (List.range 8).flatMap fun i => beBytes 2 (i + 1) ++ beBytes 6 0 ++ s.measurement (i + 1)

/-! ## Answers (R336 to R338) -/

/-- A Kiln message in frames for an address (R336): fragments in the envelope of Table 4.1, each with its own header and a share of
the body of at most MaxFrameLength - 40; stack ports carry frames of 9,216 bytes (DESIGN CHOICE, unsafe: log entry 28). A message of
more than 64 fragments has no form. -/
def State.kilnFrames (s : State) (p dest : Nat) (kind command tag status : Nat) (body : Bytes) : List Bytes :=
  let share := (min 9216 (if p < 256 then s.port p 0 5 else 9216) - 40) / 8 * 8
  let n := max 1 ((body.length + share - 1) / share)
  if 64 < n then [] else (List.range n).map fun i =>
    beBytes 6 dest ++ (envelope 1 5 (if p < 256 then s.obj (portIdx p 0) 6 else s.obj 0x9002 5 (p - 256))).drop 6 ++
      (beBytes 1 1 ++ beBytes 1 kind ++ beBytes 2 command ++ beBytes 2 tag ++ beBytes 1 status ++ beBytes 1 0 ++
        beBytes 4 body.length ++ beBytes 2 i ++ beBytes 2 n) ++ slice body (share * i) (min share (body.length - share * i))

/-- A Kiln message leaves on a port, to an address. -/
def sendKiln (p dest kind command tag status : Nat) (body : Bytes) : Eff :=
  .look fun s => .forEach (s.kilnFrames p dest kind command tag status body) fun b => sendFromKiln p .kiln b

/-- The group that requests of the Kiln go to: that of the envelope of Table 4.1 (DEDUCED, unsafe: log entry 28). -/
def kilnGroup : Nat := 0x05A73D000001

/-- A command's status and body, to the channel it came from; served and rejected commands are counted. -/
def kilnAnswer (src : KilnSource) (command tag status : Nat) (body : Bytes) : Eff :=
  .seq (count (kilnItem (if status = 0 then 0 else 1)))
    (match src with
     | .mailbox =>
       let m := beBytes 1 1 ++ beBytes 1 2 ++ beBytes 2 command ++ beBytes 2 tag ++ beBytes 1 status ++ beBytes 1 0 ++
         beBytes 4 body.length ++ beBytes 2 0 ++ beBytes 2 1 ++ body
       .all [.upd (.wipe .kilnResponse), .upd (.write .kilnResponse 0 m),
         .upd (.kiln fun k => { k with busy := false, done := true, msgStatus := status })]
     | .port p _ mac => sendKiln p mac 2 command tag status body)

/-- Where an operation's message came from. -/
def KilnOp.source (o : KilnOp) : KilnSource := if o.rank = 1 then .mailbox else .port o.port o.isProtected o.sourceMac

/-- The code of a command's channel in event 872 (Table 2.8's codes; the port messages of protocol 0x0005 take 3:
DEDUCED, unsafe, log entry 28). -/
def sourceCode : KilnSource → Nat
  | .mailbox => 1
  | .port _ _ _ => 3

/-- Whether the channel may carry a command (Table 10.11): open to reads, or managed. -/
def State.kilnAllowed (s : State) (src : KilnSource) (managed : Bool) : Bool :=
  match src with
  | .mailbox => true
  | .port p prot _ =>
    if managed then prot && maskBit (s.obj 0x2030 0) p
    else prot || (maskBit (s.obj 0xA030 0) p && !s.otp.locks.testBit 6)

/-- The status that stops a command before it is looked at: channel, Kiln fault, recovery, the lock on network firmware. -/
def State.kilnStops (s : State) (src : KilnSource) (command : Nat) : Option Nat :=
  let firmware := decide (0x20 ≤ command) && decide (command ≤ 0x24)
  let managed := !(command == 1 || command == 2 || command == 0x10)
  if !s.kilnAllowed src managed then some 0x12
  else match s.kiln.state with
    | .fault | .booting => some 0x15
    | .recovery =>
      if src == .mailbox && (command == 1 || command == 0x20 || command == 0x21 || command == 0x22) then none else some 0x15
    | _ => if firmware && src != .mailbox && s.otp.locks.testBit 5 then some 0x21 else none

/-- A command: answered with what stops it, else run. -/
def kilnServe (src : KilnSource) (command tag : Nat) (run : Eff) : Eff :=
  .look fun s => match s.kilnStops src command with
    | some st => kilnAnswer src command tag st []
    | none => run

/-- GetStatus. -/
def getStatusAct (src : KilnSource) (tag : Nat) : Eff :=
  kilnServe src 1 tag (.look fun s => kilnAnswer src 1 tag 0 s.statusBytes)

/-- The device public key: of the key pair that manufacture made (R330). -/
def devicePublicKey : Bytes := (List.range 1952).map fun i => Config.dsaPublicByte (beBytes 32 Config.deviceKeySeed) i

/-- The certificate bundle: part 6 of the running package (R325). -/
def State.certificateBundle (s : State) : Bytes := partBytes (s.slotPackage s.kiln.slot) 6

/-- A certificate of at most 8,192 bytes (R330): 0 the device's, which binds SerialNumber to the device key, 1 and 2 the issuing CA's
and the root's, of the certificate bundle. -/
def State.certificate (s : State) (index : Nat) : Bytes :=
  if index = 0 then
    (List.range (min 8192 (Config.deviceCertificateLength Config.serialNumber devicePublicKey))).map fun i =>
      Config.deviceCertificateByte Config.serialNumber devicePublicKey i
  else
    (List.range (min 8192 (Config.bundleCertificateLength s.certificateBundle index))).map fun i =>
      Config.bundleCertificateByte s.certificateBundle index i

/-- GetCertificate (R330). -/
def getCertificateAct (src : KilnSource) (tag index : Nat) : Eff :=
  kilnServe src 2 tag (.look fun s =>
    if index < 3 then kilnAnswer src 2 tag 0 (s.certificate index)
    else if index = 3 then
      let key := (List.range 1184).map fun i => Config.kemPublicByte s.kemSeed i
      .seq (count (kilnItem 4)) (kilnAnswer src 2 tag 0 (key ++ s.deviceBlock [0x4B, 0x45, 0x4D] key))
    else kilnAnswer src 2 tag 0x14 [])

/-- GetChallenge (R349). -/
def getChallengeAct (src : KilnSource) (tag : Nat) : Eff :=
  kilnServe src 3 tag (withRandom 32 fun r => .look fun s =>
    .seq (.upd (.kiln fun k => { k with challenge := some (r, s.elapsed) })) (kilnAnswer src 3 tag 0 r))

/-- 600 s since the challenge. -/
def challengeExpires : Eff :=
  .look fun s => match s.kiln.challenge with
    | some (_, t) => .when (s.after t (nsUnits 600000000000)) (.upd (.kiln fun k => { k with challenge := none }))
    | none => .skip

/-- Attest (R339). -/
def attestAct (src : KilnSource) (tag : Nat) (nonce : Bytes) : Eff :=
  kilnServe src 0x10 tag (.look fun s =>
    if !s.kilnRuns then kilnAnswer src 0x10 tag 0x15 []
    else if nonce.length != 32 then kilnAnswer src 0x10 tag 0x14 []
    else .all [count (kilnItem 4), count (kilnItem 5), raise 872 (sourceCode src),
      kilnAnswer src 0x10 tag 0 (s.report nonce ++ s.deviceBlock [0x41, 0x54, 0x54] (s.report nonce))])

/-! ## Firmware commands (R329) -/

/-- FwBegin. -/
def fwBeginAct (src : KilnSource) (tag slot length : Nat) : Eff :=
  kilnServe src 0x20 tag (.look fun s =>
    if 2 ≤ slot || 25165824 < length then kilnAnswer src 0x20 tag 0x14 []
    else if s.kiln.state != .recovery && (slot == s.kiln.slot || s.kiln.trial) then kilnAnswer src 0x20 tag 0x15 []
    else .seq (.upd (.kiln fun k => { k with fwSlot := some (slot, length) })) (kilnAnswer src 0x20 tag 0 []))

/-- Puts the bytes of a slot. -/
def putSlot (slot : Nat) (b : Bytes) (valid : Bool) : Eff :=
  flashSet fun f => if slot = 0 then { f with slotA := some b, validA := valid } else { f with slotB := some b, validB := valid }

/-- FwWrite: the slot's validity is erased at once. -/
def fwWriteAct (src : KilnSource) (tag offset : Nat) (data : Bytes) : Eff :=
  kilnServe src 0x21 tag (.look fun s =>
    match s.kiln.fwSlot with
    | none => kilnAnswer src 0x21 tag 0x15 []
    | some (slot, length) =>
      if data.length < 8 || 8192 < data.length || length < offset + data.length then kilnAnswer src 0x21 tag 0x14 []
      else .seq (putSlot slot (overwrite (slice (s.slotPackage slot) 0 length) offset data) false)
        (kilnAnswer src 0x21 tag 0 []))

/-- FwCommit: the package is checked, steps 1 to 5 of R326 and the digests of all parts; in RECOVERY its slot becomes active and the module resets. -/
def fwCommitAct (src : KilnSource) (tag : Nat) : Eff :=
  kilnServe src 0x22 tag (.look fun s =>
    match s.kiln.fwSlot with
    | none => kilnAnswer src 0x22 tag 0x15 [0]
    | some (slot, _) =>
      let b := s.slotPackage slot
      let e := if s.packageError b != 0 then s.packageError b else if !allPartsGood b then 7 else 0
      .seq (countPackage b e) (if e = 0 then
        .all [putSlot slot b true, .upd (.kiln fun k => { k with fwSlot := none }),
          if s.kiln.state == .recovery then
            .seq (flashSet fun f => { f with activeSlot := slot }) (resetIn 10000000)
          else .seq (flashSet fun f => { f with trialSlot := some slot }) (raise 866 slot),
          kilnAnswer src 0x22 tag 0 [0]]
      else kilnAnswer src 0x22 tag (if e = 1 || e = 2 || e = 6 then 0x15 else 0x20) (beBytes 1 e)))

/-- The rollback counter advances (R328): event 868. -/
def advanceRollbackTo (n : Nat) : Eff :=
  .whenS (fun s => s.otp.rollback < n) (.seq (.upd (.raiseRollback n)) (.look fun s => raise 868 s.otp.rollback))

/-- FwConfirm: only at S5 of a trial boot. -/
def fwConfirmAct (src : KilnSource) (tag : Nat) : Eff :=
  kilnServe src 0x23 tag (.look fun s =>
    if s.power.stage != 5 || !s.kiln.trial then kilnAnswer src 0x23 tag 0x15 []
    else .all [flashSet fun f => { f with activeSlot := s.kiln.slot }, .upd (.kiln fun k => { k with trial := false }),
      raise 867 s.kiln.slot,
      .when s.flash.advanceOnConfirm (advanceRollbackTo (packageSecurity (s.slotPackage s.kiln.slot))),
      kilnAnswer src 0x23 tag 0 []])

/-- FwAbort: a write in progress is discarded. -/
def fwAbortAct (src : KilnSource) (tag : Nat) : Eff :=
  kilnServe src 0x24 tag (.look fun s =>
    if s.kiln.fwSlot.isNone then kilnAnswer src 0x24 tag 0x15 []
    else .seq (.upd (.kiln fun k => { k with fwSlot := none })) (kilnAnswer src 0x24 tag 0 []))

/-! ## MKA and the key path (R341 to R344) -/

/-- A port without MKA. -/
def MkaPort.init : MkaPort :=
  { sessions := [], expires := none, initiator := false, nextAn := 0, txSa := none, txPn := 0, pendingTx := none, pendingIn := 0,
    rxSas := [], oldRxSas := [], windows := [], lastWrite := 0 }
/-- A session before its start. -/
def MkaSession.init : MkaSession :=
  { cak := [], ckn := [], member := 0, number := 0, peers := [], potential := [], keyNumber := 0, saks := [], helloAt := 0,
    rekey := false }
/-- The MKA side of a port. -/
def State.mkaPort (s : State) (p : Nat) : MkaPort := s.kiln.mka.getD p MkaPort.init
/-- Updates the MKA side of a port. -/
def mkaSet (p : Nat) (f : MkaPort → MkaPort) : Eff :=
  .upd (.kiln fun k => { k with mka := k.mka.set p (f (k.mka.getD p MkaPort.init)) })
/-- The session of a port under a CKN. -/
def State.session? (s : State) (p : Nat) (ckn : Bytes) : Option MkaSession := (s.mkaPort p).sessions.find? fun x => x.ckn == ckn
/-- Updates the session of a port under a CKN. -/
def sessionSet (p : Nat) (ckn : Bytes) (f : MkaSession → MkaSession) : Eff :=
  mkaSet p fun m => { m with sessions := m.sessions.map fun x => if x.ckn == ckn then f x else x }

/-- The SCI of a port: its MAC address and port identifier 1. -/
def State.sci (s : State) (p : Nat) : Nat := ofBe (s.macBytes p) * 65536 + 1

/-- Whether one participant goes before another in the election of the key server: the lower priority, ties to the lower SCI
(R344). -/
def servesBefore (a b : Nat × Nat) : Bool := a.1 < b.1 || (a.1 == b.1 && a.2 < b.2)
/-- Whether this end is key server of a session. -/
def State.keyServer (s : State) (p : Nat) (x : MkaSession) : Bool :=
  x.peers.all fun q => servesBefore (s.n 0xA020 7 p, s.sci p) (q.priority, q.sci)
/-- Whether the sender of an MKPDU is key server of a session. -/
def State.serverIs (s : State) (p : Nat) (x : MkaSession) (d : Mkpdu) : Bool :=
  servesBefore (d.priority, d.sci) (s.n 0xA020 7 p, s.sci p) &&
    x.peers.all fun q => q.sci == d.sci || servesBefore (d.priority, d.sci) (q.priority, q.sci)

/-- The keys that come with a CAK (Table 10.3): the ICK, and the KEK that wraps SAKs. -/
def MkaSession.ick (x : MkaSession) : Bytes := (List.range 32).map fun i => Config.mkaKeyByte 0 x.cak x.ckn i
def MkaSession.kek (x : MkaSession) : Bytes := (List.range 32).map fun i => Config.mkaKeyByte 1 x.cak x.ckn i

/-- What an MKPDU of a session says. A key server repeats its SAK in each (PRESUMED, safe: log entry 53). -/
def State.mkpduOut (s : State) (p : Nat) (x : MkaSession) : MkpduOut :=
  { member := x.member, number := x.number, ckn := x.ckn, live := x.peers.map MkaPeer.member, potential := x.potential
    sak := if s.keyServer p x then x.saks.head?.map fun k => (k.an, k.number, Config.wrapSak x.kek k.key) else none }

/-- An MKPDU of a session is sent: the message number advances. Its length in bytes is not stated (a free value, safe: log
entry 53). -/
def sendMkpdu (p : Nat) (ckn : Bytes) : Eff :=
  .seq (.look fun s => sessionSet p ckn fun x => { x with number := x.number + 1, helloAt := s.elapsed, rekey := false })
    (.look fun s => .ofOption (s.session? p ckn) fun x => .seq (count (kilnItem 8))
      (withFree fun v => sendFromKiln p (.mkpdu (s.mkpduOut p x)) (List.replicate (v % 1500) 0)))

/-- The key server of a session makes a new SAK from its random source under the next AN, and distributes it (R323). -/
def newSak (p : Nat) (ckn : Bytes) : Eff :=
  withRandom 32 fun key => .all [
    mkaSet p fun m => { m with nextAn := (m.nextAn + 1) % 4 },
    .look fun s => sessionSet p ckn fun x => { x with
      keyNumber := x.keyNumber + 1, saks := ⟨(s.mkaPort p).nextAn, x.keyNumber + 1, key⟩ :: x.saks },
    count (kilnItem 11), sendMkpdu p ckn]

/-- Whether MACsec is configured on a port and the Kiln lets it run (R349). -/
def State.macsecOn (s : State) (p : Nat) : Bool := s.on 0xA020 1 p && s.kilnRuns

/-- A session starts on a port under a CAK, beside the one that runs; the installed SAs stay until it has its own (R344). -/
def mkaStart (p : Nat) (cak ckn : Bytes) (expires : Option Nat) : Eff :=
  .whenS (fun s => s.macsecOn p) (withRandom 12 fun r => .seq
    (mkaSet p fun m =>
      { m with
          sessions := { MkaSession.init with cak := cak, ckn := ckn, member := ofBe r } ::
            (m.sessions.filter fun x => x.ckn != ckn).take 1
          expires := expires, rxSas := [], oldRxSas := m.rxSas ++ m.oldRxSas })
    (sendMkpdu p ckn))

/-- A port with KeySource 1 runs MKA under the pre-shared CAK of its row, if one is installed (R353). -/
def startPreshared (p : Nat) : Eff :=
  .look fun s =>
    match s.flash.caks.get? (s.n 0xA020 6 p) with
    | some (ckn, cak, _) => .when (s.n 0xA020 5 p == 1 && !s.otp.locks.testBit 3) (mkaStart p cak ckn none)
    | none => .skip

/-- The receive SCs in use (Table 10.15). -/
def State.receiveScs (s : State) : Nat :=
  s.kiln.mka.foldl (fun n e => n + ((e.2.sessions.flatMap MkaSession.peers).filter MkaPeer.sc).length) 0

/-- A peer has answered with the own member identifier: it is live from now. One for which no receive SC is free gets none, with
event 881 (R341). -/
def peerLives (p : Nat) (x : MkaSession) (d : Mkpdu) : Eff :=
  .look fun s =>
    let free := decide (s.receiveScs < 1024)
    .when (!(isSG p && p < 256 && 32 ≤ x.peers.length)) (.all [
      sessionSet p x.ckn fun x => { x with
        peers := x.peers ++ [⟨d.sci, d.member, d.number, d.priority, s.elapsed, free⟩], potential := x.potential.erase d.member },
      .when (!free) (raise 881 p), raise 876 p,
      .look fun s => .ofOption (s.session? p x.ckn) fun x => .when (s.keyServer p x) (newSak p x.ckn)])

/-- A SAK that the key server distributes is taken, once the KEK opens it (R344). -/
def takeSak (p : Nat) (x : MkaSession) (d : Mkpdu) : Eff :=
  .look fun s => .ofOption d.sak fun k => .ofOption (Config.unwrapSak x.kek d.wrappedSak) fun key =>
    .when (s.serverIs p x d && !(x.saks.any fun y => y.an == k.1 && y.number == k.2))
      (.seq (sessionSet p x.ckn fun x => { x with saks := ⟨k.1, k.2, key⟩ :: x.saks })
        (mkaSet p fun m => { m with nextAn := k.1 }))

/-- An MKPDU received on a port (R344): of a session that runs there, its ICV good and its message number new. -/
def mkpduArrives (p : Nat) (d : Mkpdu) : Eff :=
  .look fun s => .when (s.macsecOn p) (.seq (count (kilnItem 9))
    (match s.session? p d.ckn with
     | none => count (kilnItem 10)
     | some x =>
       let known := x.peers.find? fun q => q.member == d.member
       if !Config.mkaIcvGood x.ick d.raw || d.member == x.member || (known.any fun q => decide (d.number ≤ q.number)) then
         count (kilnItem 10)
       else .seq
         (if known.isSome then sessionSet p x.ckn fun x => { x with
            peers := x.peers.map fun q => if q.member == d.member
              then { q with number := d.number, priority := d.priority, heardAt := s.elapsed } else q }
          else if d.live.contains x.member || d.potential.contains x.member then peerLives p x d
          else sessionSet p x.ckn fun x => { x with potential := d.member :: x.potential.erase d.member })
         (takeSak p x d)))

/-- An MKPDU comes on a port, as any other frame, or on a stack port. -/
def mkpduReceived (p : Nat) (d : Mkpdu) : Eff :=
  if p < 256 then received p d.frame (some d) (fun _ => mkpduArrives p d)
  else stackOpen (p - 256) (frameSound d.frame && beAt d.frame.data 12 2 == 0x888E) (mkpduArrives p d)

/-- The MKA Hello Time elapses in a session: an MKPDU, with a new SAK where one is due (R342). Whether the Bounded Hello Time of
0.5 s rules in place of 2 s is left open (a free value, safe: log entry 53). -/
def mkaHello (p : Nat) : Eff :=
  .look fun s => .when (s.macsecOn p) (withFree fun v =>
    .forEach ((s.mkaPort p).sessions.filter fun x => s.after x.helloAt (nsUnits (if v % 2 = 0 then 2000000000 else 500000000)))
      fun x => if x.rekey && s.keyServer p x && !x.peers.isEmpty then newSak p x.ckn else sendMkpdu p x.ckn)

/-- A peer has been silent for the MKA Life Time of 6 s: it leaves its sessions, its SAs go, and the key server makes a new SAK for
those that stay. -/
def peerLost (p sci : Nat) : Eff :=
  .look fun s =>
    let silent := fun (x : MkaSession) => x.peers.any fun q => q.sci == sci && s.after q.heardAt (nsUnits 6000000000)
    let hit := (s.mkaPort p).sessions.filter silent
    let stays := fun (x : MkaSession) => if silent x then { x with peers := x.peers.filter fun q => q.sci != sci } else x
    .when (s.macsecOn p && !hit.isEmpty) (.all [
      mkaSet p fun m =>
        let left := m.sessions.map stays
        { m with
            sessions := left
            rxSas := if left.any fun x => x.peers.any fun q => q.sci == sci then m.rxSas else m.rxSas.filter fun x => x.1 != sci
            txSa := if left.all fun x => x.peers.isEmpty then none else m.txSa },
      raise 877 p,
      .forEach hit fun x => .look fun s => .ofOption (s.session? p x.ckn) fun y =>
        .when (!y.peers.isEmpty && s.keyServer p y) (newSak p y.ckn)])

/-- A transmit SA takes effect: packet numbers start anew, event 878. Once it is of the newest session, a session before that one
ends (R344). -/
def useTxSa (p an key : Nat) : Eff :=
  .seq (mkaSet p fun m =>
      let ends := (m.sessions.headD MkaSession.init).saks.any fun k => k.an == an && k.number == key
      { m with
          txSa := some (an, key), txPn := 0, pendingTx := none
          sessions := if ends then m.sessions.take 1 else m.sessions, oldRxSas := if ends then [] else m.oldRxSas })
    (raise 878 (p + 1024 * an))

/-- Whether the Kiln may write a SAK to a pipe: it holds it, and for a receive SA the peer has a receive SC (R341). -/
def MkaPort.mayWrite (m : MkaPort) (an key sci : Nat) (transmit : Bool) : Bool :=
  (m.sessions.any fun x => x.saks.any fun k => k.an == an && k.number == key) &&
    (transmit || !(m.sessions.any fun x => x.peers.any fun q => q.sci == sci && !q.sc))

/-- The Kiln writes a SAK to a pipe (R341). A new transmit SA of a lane that carries round frames waits for the boundary. A new
receive SA of a peer retires all but its last one before it (R343; PRESUMED, safe: log entry 53). -/
def keyWritten (p an key sci : Nat) (transmit : Bool) : Eff :=
  .look fun s => .when (s.macsecOn p && (s.mkaPort p).mayWrite an key sci transmit)
    (.all [count (kilnItem 13), count (kilnItem 12),
      mkaSet p fun m => { m with lastWrite := s.elapsed },
      if transmit then
        (if s.isLane p && p < 256 && (s.ringState == ringSapling || s.ringState == ringFollower || s.ringState == ringMaster)
         then mkaSet p fun m => { m with pendingTx := some (an, key), pendingIn := s.cycle }
         else useTxSa p an key)
      else mkaSet p fun m =>
        { m with rxSas := (sci, an, key) :: m.rxSas.filter fun x => !(x.1 == sci && (x.2.1 == an || x.2.2 + 1 < key)) }])

/-- The boundary at which a pending transmit SA takes effect. -/
def txSaSwitches (p : Nat) : Eff :=
  .look fun s => match (s.mkaPort p).pendingTx with
    | some (an, key) => .when ((s.mkaPort p).pendingIn != s.cycle) (useTxSa p an key)
    | none => .skip

/-- SakHoldover without a key-path write: the pipe deletes its SAs (R343). -/
def holdoverExpires (p : Nat) : Eff :=
  .whenS (fun s => (s.kiln.mka.get? p).isSome && s.after (s.mkaPort p).lastWrite (nsUnits (s.n 0xA032 0)))
    (mkaSet p fun m => { m with txSa := none, pendingTx := none, rxSas := [], oldRxSas := [] })

/-! ## Pairing (R345, R346) -/

/-- No pairing yet. -/
def Pairing.init : Pairing :=
  { initiator := false, command := 0, sent := [], attempts := 0, sentAt := 0, initBody := [], seed := [], cak := [], ckn := [],
    expected := [], failed := false, peerMac := 0, tag := 0 }
/-- Updates a port's pairing. -/
def pairingSet (p : Nat) (f : Pairing → Pairing) : Eff :=
  .upd (.kiln fun k => { k with pairings := k.pairings.set p (f (k.pairings.getD p Pairing.init)) })
/-- A port's pairing. -/
def State.pairing (s : State) (p : Nat) : Pairing := s.kiln.pairings.getD p Pairing.init
/-- A pairing port: BB, LK and stack ports with MacsecEnable 1 and KeySource 0. -/
def State.pairingPort (s : State) (p : Nat) : Bool :=
  p < 258 && (256 ≤ p || !isSG p) && s.on 0xA020 1 p && s.n 0xA020 5 p == 0

/-- Whether a port pairs: pairing is not off, and the module not debug-opened. -/
def State.pairs (s : State) (p : Nat) : Bool := s.pairingPort p && s.flash.pairingMode != 0 && s.kilnRuns

/-- A certificate block with the device certificate. -/
def State.certificateBlock (s : State) : Bytes := beBytes 2 (s.certificate 0).length ++ beBytes 6 0 ++ padTo8 (s.certificate 0)

/-- A pairing body is closed by the certificate block and the signature block over all before it. -/
def State.closePairing (s : State) (b : Bytes) : Bytes :=
  (b ++ s.certificateBlock) ++ s.deviceBlock [0x50, 0x41, 0x52] (b ++ s.certificateBlock)

/-- Sends a pairing message and keeps it for its retries. -/
def sendPairing (p command : Nat) (body : Bytes) : Eff :=
  .seq (.look fun s => pairingSet p fun x => { x with command := command, sent := body, attempts := 1, sentAt := s.elapsed })
    (sendKiln p kilnGroup 1 command 0 0 body)

/-- An end begins to pair: event 873, PairInit with a fresh nonce and KEM pair. -/
def startPairing (p : Nat) : Eff :=
  .whenS (fun s => s.pairs p) (withRandom 96 fun r => .look fun s =>
    let seed := r.drop 32
    let body := s.closePairing (r.take 32 ++ beBytes 8 Config.serialNumber ++ s.macBytes p ++ beBytes 2 0 ++
      (List.range 1184).map fun i => Config.kemPublicByte seed i)
    .all [pairingSet p fun _ => { Pairing.init with initiator := true, initBody := body, seed := seed }, raise 873 p,
      count (kilnItem 4), sendPairing p 0x40 body])

/-- A link-up of a pairing port: the end with the lower MacAddress initiates (R345). The other end's address is not known before
its first frame: a value that the manual leaves open (a free value, safe: log entry 53). -/
def linkPairs (p : Nat) : Eff :=
  .whenS (fun s => s.pairs p) (withFree fun v => .whenS (fun s => decide (ofBe (s.macBytes p) < v % 2 ^ 48)) (startPairing p))

/-- What a pairing body claims, from the offset of its certificate block. -/
structure PairClaim where
  serial : Nat
  mac : Bytes
  certificate : Bytes
  signedPart : Bytes
  signature : Bytes

/-- Reads the claim of a body whose nonce part ends at `nonceEnd` and whose certificate block begins at `certAt`. -/
def readClaim (b : Bytes) (serialAt certAt : Nat) : PairClaim :=
  let len := beAt b certAt 2
  let signAt := certAt + 8 + (len + 7) / 8 * 8
  ⟨beAt b serialAt 8, slice b (serialAt + 8) 6, slice b (certAt + 8) len, b.take signAt, signatureOf (b.drop signAt)⟩

/-- What the Kiln verifies in a claim, in order (R346): the certificate's chain through the issuing CA of the certificate bundle, then
the signature. -/
def State.claimChecks (s : State) (c : PairClaim) : List Bool :=
  [Config.certificateChains s.certificateBundle c.certificate,
    Config.mlDsaVerify 1 (Config.certificateKey c.certificate) [0x50, 0x41, 0x52] c.signedPart c.signature]

/-- Whether a claim is accepted (R346). -/
def State.claimGood (s : State) (c : PairClaim) (sourceMac : Nat) : Bool :=
  ((s.claimChecks c).all fun ok => ok) && Config.certificateSerial c.certificate == c.serial && ofBe c.mac == sourceMac &&
    (s.flash.pairingMode != 2 || s.flash.allowList.contains c.serial)

/-- The keys that both ends derive (R346): CAK, CKN, ConfirmI, ConfirmR. -/
def pairKeys (ss pi pr : Bytes) : Bytes × Bytes × Bytes × Bytes :=
  let th := shake (pi ++ pr) 64
  let okm := shake ([0x42, 0x4E, 0x38, 0x32, 0x35, 0x36, 0x20, 0x50, 0x41, 0x49, 0x52] ++ ss ++ th) 80
  let kconf := slice okm 48 32
  (slice okm 0 32, slice okm 32 16, shake (kconf ++ [0x49] ++ th) 32, shake (kconf ++ [0x52] ++ th) 32)

/-- A response of status only to a pairing message. -/
def pairStatus (p mac command tag status : Nat) : Eff := sendKiln p mac 2 command tag status []

/-- What a pairing request on a port that may not pair is answered with (R345, R346): DENIED where it is no pairing port, STATE
where pairing is off or the Kiln does not pair. -/
def State.pairingRefused (s : State) (p : Nat) : Option Nat :=
  if !s.pairingPort p then some 0x12 else if !s.pairs p then some 0x15 else none

/-- A pairing request on a port: answered with what refuses it, else run. -/
def pairServe (p mac command tag : Nat) (run : Eff) : Eff :=
  .look fun s => match s.pairingRefused p with
    | some st => pairStatus p mac command tag st
    | none => run

/-- A PairInit: answered with STATE where this end is the initiator, checked, and answered with PairResponse. -/
def pairInitAct (p sourceMac tag : Nat) (b : Bytes) : Eff :=
  pairServe p sourceMac 0x40 tag (.look fun s =>
    if ofBe (s.macBytes p) < sourceMac then pairStatus p sourceMac 0x40 tag 0x15
    else
      let c := readClaim b 32 1232
      .seq (countChecks (s.claimChecks c))
        (if !s.claimGood c sourceMac then .all [raise 882 p, pairingEnds p, pairStatus p sourceMac 0x40 tag 0x20]
         else withRandom 64 fun r =>
           let key := slice b 48 1184
           let ss := (List.range 32).map fun i => Config.kemSecretByte key (r.drop 32) i
           let body := s.closePairing (r.take 32 ++ shake b 32 ++ beBytes 8 Config.serialNumber ++ s.macBytes p ++ beBytes 2 0 ++
             (List.range 1088).map fun i => Config.kemCipherByte key (r.drop 32) i)
           let (cak, ckn, ci, _) := pairKeys ss b body
           .all [pairingSet p fun _ =>
               { Pairing.init with
                   initBody := b, sent := body, cak := cak, ckn := ckn, expected := ci, seed := ss, peerMac := sourceMac, tag := tag },
             count (kilnItem 4), sendKiln p sourceMac 2 0x40 tag 0 body]))

/-- A PairResponse at the initiator: checked, decapsulated, and answered with PairConfirm. -/
def pairResponseAct (p sourceMac : Nat) (b : Bytes) : Eff :=
  .look fun s =>
    let x := s.pairing p
    let c := readClaim b 64 1168
    .when (s.pairs p && x.initiator && x.command == 0x40) (.seq (countChecks (s.claimChecks c))
      (if !(s.claimGood c sourceMac && slice b 32 32 == shake x.initBody 32) then .seq (raise 882 p) (pairingEnds p)
       else
         let ss := (List.range 32).map fun i => Config.kemDecapByte x.seed (slice b 80 1088) i
         let (cak, ckn, ci, cr) := pairKeys ss x.initBody b
         .seq (pairingSet p fun y => { y with cak := cak, ckn := ckn, expected := cr }) (sendPairing p 0x41 ci)))

/-- The other end's confirmation has been checked: the CAK is installed, event 874. -/
def pairingDone (p : Nat) : Eff :=
  .look fun s =>
    let x := s.pairing p
    .all [pairingEnds p, raise 874 p, count (kilnItem 6),
      mkaStart p x.cak x.ckn (some (s.now + nsUnits s.flash.cakLifetime)), mkaSet p fun m => { m with initiator := x.initiator }]

/-- A PairConfirm at the responder: ConfirmR goes back as PairDone. -/
def pairConfirmAct (p mac tag : Nat) (confirm : Bytes) : Eff :=
  pairServe p mac 0x41 tag (.look fun s =>
    let x := s.pairing p
    let (_, _, _, cr) := pairKeys x.seed x.initBody x.sent
    .when (!x.initiator && !x.expected.isEmpty && confirm == x.expected)
      (.seq (sendKiln p mac 2 0x41 tag 0 cr) (pairingDone p)))

/-- A PairDone at the initiator. -/
def pairDoneAct (p : Nat) (confirm : Bytes) : Eff :=
  .look fun s =>
    let x := s.pairing p
    .when (s.pairs p && x.initiator && x.command == 0x41 && confirm == x.expected && !x.expected.isEmpty) (pairingDone p)

/-- PairTimeout without an answer: the message is sent again, up to 3 attempts in all; then the pairing has failed. -/
def pairTimesOut (p : Nat) : Eff :=
  .look fun s =>
    let x := s.pairing p
    if !x.initiator || x.failed || !s.after x.sentAt (nsUnits (s.n 0xA033 0)) then .skip
    else if x.attempts < 3 then
      .seq (pairingSet p fun y => { y with attempts := y.attempts + 1, sentAt := s.elapsed })
        (sendKiln p kilnGroup 1 x.command 0 0 x.sent)
    else .all [raise 875 p, count (kilnItem 7), pairingSet p fun y => { y with failed := true, sentAt := s.elapsed }]

/-- 10 s after a failure, the end tries again. -/
def pairRetry (p : Nat) : Eff :=
  .whenS (fun s => (s.pairing p).failed && s.after (s.pairing p).sentAt (nsUnits 10000000000))
    (.seq (pairingEnds p) (startPairing p))

/-- CakLifetime of a paired CAK: the end that initiated pairs again, beside the session that runs (R344, R345). -/
def cakExpires (p : Nat) : Eff :=
  .look fun s => match (s.mkaPort p).expires with
    | some t => .when (t ≤ s.now) (.seq (mkaSet p fun m => { m with expires := none })
        (.when (s.mkaPort p).initiator (startPairing p)))
    | none => .skip

/-- A secured link comes up: it pairs, or runs MKA under its pre-shared CAK. -/
def linkSecures (p : Nat) : Eff := .seq (linkPairs p) (startPreshared p)

/-- Whether the link of a port or stack port is up. -/
def State.linkUp (s : State) (p : Nat) : Bool := if p < 256 then s.portOn p 1 1 else s.on 0x9002 1 (p - 256)

/-- MACsec configuration of a port has changed: its session ends, and it is secured anew where the link is up (R340, R345). -/
def macsecFollows (p : Nat) : Eff :=
  .all [pairingEnds p, mkaStop p, .whenS (fun s => s.linkUp p && s.on 0xA020 1 p) (linkSecures p)]

/-! ## The owner (R331 to R334) -/

/-- An owner command in its parts. -/
structure OwnerCommand where
  op : Nat
  serial : Nat
  sequence : Nat
  challenge : Bytes
  argument : Bytes
  signedPart : Bytes
  blocks : List Bytes
deriving DecidableEq, Repr

/-- Cuts `n` signature blocks that fill the rest exactly. -/
def cutBlocks : Nat → Bytes → Option (List Bytes)
  | 0, b => if b.isEmpty then some [] else none
  | n + 1, b =>
    let size := 8 + (beAt b 0 2 + 7) / 8 * 8
    if b.length < size then none else (cutBlocks n (b.drop size)).map fun bs => b.take size :: bs

/-- Whether an operation's argument has its length (Table 10.8). -/
def argumentFits (op : Nat) (a : Bytes) : Bool :=
  match op with
  | 1 | 2 | 3 => a.length == 8 + (if beAt a 0 1 = 2 then 2592 else 1952) && (beAt a 0 1 == 1 || beAt a 0 1 == 2)
  | 4 => a.length == 16
  | 5 | 9 => a.length == 8
  | 6 => a.length == 8 + 8 * beAt a 0 1 && beAt a 0 1 ≤ 16
  | 7 => a.length == 8 + 8 * beAt a 0 2 && beAt a 0 2 ≤ 256
  | 8 => a.length == 1160 && beAt a 0 1 ≤ 63
  | 10 => a.isEmpty
  | _ => false

/-- Reads an owner command (Table 10.7); none where magic, lengths or signature blocks are wrong. -/
def readOwner (b : Bytes) : Option OwnerCommand :=
  let op := beAt b 4 1
  let len := beAt b 20 4
  let fin := 56 + (len + 7) / 8 * 8
  let a := slice b 56 len
  if b.length < fin || beAt b 0 4 != 0x424E4F43 || beAt b 5 1 != (if op = 2 then 2 else 1) || !argumentFits op a then none
  else (cutBlocks (beAt b 5 1) (b.drop fin)).map fun bs =>
    ⟨op, beAt b 8 8, beAt b 16 4, slice b 24 32, a, b.take fin, bs⟩

/-- The public key in an argument of operations 1 to 3. -/
def argumentKey (a : Bytes) : Nat × Bytes := (beAt a 0 1, a.drop 8)

/-- Whether the preconditions of R349 for a debug unlock hold, but for the locks. -/
def State.debugReady (s : State) (challenge : Bytes) : Bool :=
  !s.on 0x4000 1 && ((List.range 256).all fun p => !s.portEnabled p) && !s.leaseHeld &&
    (match s.kiln.challenge with
     | some (c, t) => c == challenge && !s.after t (nsUnits 600000000000)
     | none => false)

/-- Whether an operation's precondition holds (Table 10.8). -/
def State.ownerReady (s : State) (c : OwnerCommand) : Bool :=
  match c.op with
  | 1 => s.otp.ownerSlots.isEmpty
  | 2 => !s.otp.ownerSlots.isEmpty && decide (s.otp.ownerSlots.length < 16)
  | 3 => s.flash.ownerKey.isNone && !s.otp.ownerSlots.isEmpty && s.ownerHash == digest32 (argumentKey c.argument).2
  | 8 => !s.otp.ownerSlots.isEmpty && !s.otp.debugOpened
  | 9 => !s.otp.ownerSlots.isEmpty && decide (beAt c.argument 0 1 ≤ packageSecurity (s.slotPackage s.kiln.slot))
  | 10 => !s.otp.ownerSlots.isEmpty && s.debugReady c.challenge
  | _ => !s.otp.ownerSlots.isEmpty

/-- Whether a lock forbids an operation (Table 10.9). -/
def State.ownerLocked (s : State) (op : Nat) : Bool :=
  match op with
  | 4 | 6 | 7 => s.otp.locks.testBit 4
  | 8 => s.otp.locks.testBit 3
  | 10 => s.otp.locks.testBit 2
  | _ => false

/-- The keys that must have signed, in order. -/
def State.ownerSigners (s : State) (c : OwnerCommand) : Option (List (Nat × Bytes)) :=
  match c.op with
  | 1 | 3 => some [argumentKey c.argument]
  | 2 => s.flash.ownerKey.map fun k => [k, argumentKey c.argument]
  | _ => s.flash.ownerKey.map fun k => [k]

/-- The signature verifications of a command, in order, each by its key; none where a key is missing. -/
def State.ownerChecks (s : State) (c : OwnerCommand) : Option (List Bool) :=
  (s.ownerSigners c).map fun keys => (keys.zip c.blocks).map fun x => x.2.length == signatureBlock x.1.1 &&
    Config.mlDsaVerify x.1.1 x.1.2 [0x4F, 0x57, 0x4E] c.signedPart (signatureOf x.2)

/-- Whether all signatures hold. -/
def State.ownerSigned (s : State) (c : OwnerCommand) : Bool := (s.ownerChecks c).any fun l => l.all fun ok => ok

/-- The CAK that InstallCak carries: decapsulated, then opened (R332). -/
def State.wrappedCak (s : State) (a : Bytes) : Option Bytes :=
  let ss := (List.range 32).map fun i => Config.kemDecapByte s.kemSeed (slice a 24 1088) i
  Config.aesGcmOpen (shake (ss ++ [0x43, 0x41, 0x4B]) 32) (slice a 1112 48)

/-- The status of an owner command in the order of R331: 0 where it is accepted. -/
def State.ownerStatus (s : State) (c : OwnerCommand) : Nat :=
  let recordGone := s.flash.ownerKey.isNone && !s.otp.ownerSlots.isEmpty && c.op != 1 && c.op != 3
  if c.serial != Config.serialNumber then 0x12
  else if !s.ownerReady c || c.sequence ≤ s.flash.ownerSequence then 0x15
  else if s.ownerLocked c.op then 0x21
  else if recordGone || !s.ownerSigned c then 0x20
  else if c.op == 8 && (s.wrappedCak c.argument).isNone then 0x20
  else 0

/-- An owner key is installed in the next free slot: event 869. -/
def takeOwnerKey (op : Nat) (a : Bytes) : Eff :=
  .look fun s =>
    let (alg, key) := argumentKey a
    .all [.upd (.burnOwnerSlot alg (digest32 key)), flashSet fun f => { f with ownerKey := some (alg, key) },
      raise 869 (op + 256 * s.otp.ownerSlots.length)]

/-- Debug unlock (R349). What a waiting request is answered with is STATE (DESIGN CHOICE, unsafe: log
entry 27). -/
def unlockDebug : Eff :=
  .look fun s => .all [
    .upd .burnDebug, .upd (.kiln fun k => { k with challenge := none, mka := [], pairings := [] }),
    flashSet fun f => { f with caks := [] },
    .forEach (s.kiln.waiting.filter fun o => beAt o.message 1 1 == 1) fun o =>
      kilnAnswer o.source (beAt o.message 2 2) (beAt o.message 4 2) 0x15 [],
    .upd (.kiln fun k => { k with waiting := [] }), raise 886, setKilnState .debugOpened,
    .upd (.pins fun q => { q with jtagOpen := true })]

/-- A clamp of CakLifetime to its range (Table 10.19). -/
def cakLifetimeOf (v : Nat) : Nat := min 31536000000000000 (max 3600000000000 v)

/-- Lock 3 is burned: KeySource 1 is replaced by 0 but on SG ports, where 0 is no value (Table 10.9, R353). -/
def presharedEnds : Eff :=
  .look fun s => .forEach ((List.range 258).filter fun p => s.n 0xA020 5 p == 1 && !(isSG p && p < 256)) fun p =>
    .seq (setN 0xA020 5 0 p) (macsecFollows p)

/-- What an accepted operation does. -/
def ownerRun (c : OwnerCommand) : Eff :=
  let a := c.argument
  match c.op with
  | 1 | 2 => takeOwnerKey c.op a
  | 3 => flashSet fun f => { f with ownerKey := some (argumentKey a) }
  | 4 => flashSet fun f =>
      { f with
          requireSigned := beAt a 0 1 != 0, advanceOnConfirm := beAt a 1 1 != 0, pairingMode := min 2 (beAt a 2 1)
          cakLifetime := cakLifetimeOf (beAt a 8 8) }
  | 5 => .all [.upd (.burnLocks (beAt a 0 2)), raise 871 (beAt a 0 2 % 128), .when ((beAt a 0 2).testBit 3) presharedEnds]
  | 6 => flashSet fun f =>
      { f with lockedRanges := (List.range (beAt a 0 1)).map fun i => (beAt a (8 + 8 * i) 2, beAt a (10 + 8 * i) 2) }
  | 7 => flashSet fun f => { f with allowList := (List.range (beAt a 0 2)).map fun i => beAt a (8 + 8 * i) 8 }
  | 8 =>
    .look fun s => match s.wrappedCak a with
      | some cak =>
        .seq (flashSet fun f => { f with caks := f.caks.set (beAt a 0 1) (slice a 8 16, cak, s.now) })
          (.forEach ((List.range 258).filter fun p => s.n 0xA020 6 p == beAt a 0 1) startPreshared)
      | none => .skip
  | 9 => advanceRollbackTo (beAt a 0 1)
  | 10 => unlockDebug
  | _ => .skip

/-- An owner command (R331): refused with event 870, or run with OwnerSequence taking its Sequence. -/
def ownerAct (src : KilnSource) (tag : Nat) (b : Bytes) : Eff :=
  kilnServe src 0x30 tag (.look fun s =>
    match readOwner b with
    | none => .seq (raise 870 (beAt b 4 1 + 256 * 0x14)) (kilnAnswer src 0x30 tag 0x14 [])
    | some c =>
      let st := s.ownerStatus c
      .seq (.when (st == 0 || st == 0x20) (.ofOption (s.ownerChecks c) countChecks))
        (if st = 0 then
           .all [flashSet fun f => { f with ownerSequence := c.sequence }, ownerRun c,
             .look fun s => .upd (.kiln fun k => { k with securityDigest := digest32 s.securityBytes }),
             kilnAnswer src 0x30 tag 0 []]
         else .seq (raise 870 (c.op + 256 * st)) (kilnAnswer src 0x30 tag st [])))

/-- An owner command of one operation: a command of another operation is none of this row. -/
def ownerOnly (op : Nat) (src : KilnSource) (tag : Nat) (b : Bytes) : Eff :=
  .when (beAt b 4 1 == op) (ownerAct src tag b)

/-! ## Kiln messages (R321, R336, R338) -/

/-- The command of a whole message from the mailbox or a port. -/
def runMessage (o : KilnOp) : Eff :=
  let m := o.message
  let src := o.source
  let kind := beAt m 1 1
  let command := beAt m 2 2
  let tag := beAt m 4 2
  let body := (m.drop 16).take (beAt m 8 4)
  -- the mailbox carries whole requests: FragmentIndex 0 of FragmentCount 1 (R336)
  let fits := beAt m 0 1 == 1 && 16 + beAt m 8 4 ≤ m.length && (src != .mailbox || (kind == 1 && beAt m 12 4 == 1))
  if !fits then kilnAnswer src command tag 0x14 []
  else if kind == 2 then
    (if beAt m 6 1 != 0 then .when (command == 0x40) (.whenS (fun s => (s.pairing o.port).initiator) (pairingEnds o.port))
     else if command == 0x40 then pairResponseAct o.port o.sourceMac body
     else .when (command == 0x41) (pairDoneAct o.port body))
  else match command with
    | 0x0001 => getStatusAct src tag
    | 0x0002 => getCertificateAct src tag (beAt body 0 1)
    | 0x0003 => getChallengeAct src tag
    | 0x0010 => attestAct src tag body
    | 0x0020 => fwBeginAct src tag (beAt body 0 1) (beAt body 4 4)
    | 0x0021 => fwWriteAct src tag (beAt body 0 4) (body.drop 8)
    | 0x0022 => fwCommitAct src tag
    | 0x0023 => fwConfirmAct src tag
    | 0x0024 => fwAbortAct src tag
    | 0x0030 => ownerAct src tag body
    | 0x0040 => if src == .mailbox then kilnAnswer src command tag 0x12 [] else pairInitAct o.port o.sourceMac tag body
    | 0x0041 => if src == .mailbox then kilnAnswer src command tag 0x12 [] else pairConfirmAct o.port o.sourceMac tag body
    | _ => kilnAnswer src command tag 0x12 []

/-- Takes the waiting operation that ranks first (R321): lowest rank, then lowest port, then oldest. -/
def nextOp (l : List KilnOp) : Option KilnOp :=
  l.foldl (fun best o => match best with
    | some b => if o.rank < b.rank || (o.rank == b.rank && o.port < b.port) then some o else some b
    | none => some o) none

/-- Starts the next waiting operation, if none runs. -/
def startOp : Eff :=
  .look fun s => match s.kiln.running, nextOp s.kiln.waiting with
    | none, some o => .upd (.kiln fun k => { k with running := some o, waiting := k.waiting.erase o })
    | _, _ => .skip

/-- An operation comes to wait. -/
def queueOp (o : KilnOp) : Eff :=
  .seq (.upd (.kiln fun k => { k with waiting := k.waiting ++ [o] })) startOp

/-- The running operation ends with its effect and its answer; the next one starts. -/
def operationEnds : Eff :=
  .look fun s => match s.kiln.running with
    | some o => .all [.upd (.kiln fun k => { k with running := none }), runMessage o, startOp]
    | none => .skip

/-- GO in the Kiln mailbox (R338). -/
def kilnGoAct : Eff :=
  .look fun s =>
    if s.kiln.busy then .upd (.kiln fun k => { k with overrun := true })
    else
      let len := min 12272 (beAt (s.buffers.kilnRequest.readBytes 8 4) 0 4)
      .seq (.upd (.kiln fun k => { k with busy := true, done := false }))
        (queueOp ⟨1, 0, s.buffers.kilnRequest.readBytes 0 (16 + len), 0, false⟩)

/-- The rank of a port's message: pairing messages rank as hardware. -/
def messageRank (m : Bytes) : Nat := if beAt m 2 2 == 0x40 || beAt m 2 2 == 0x41 then 0 else 2

/-- A whole message on a port: at most 4 requests wait per port. -/
def portMessage (p : Nat) (a : Assembly) (m : Bytes) : Eff :=
  .look fun s =>
    let o : KilnOp := ⟨messageRank m, p, m, a.sourceMac, a.isProtected⟩
    if beAt m 1 1 == 1 && 4 ≤ (s.kiln.waiting.filter fun x => x.rank != 1 && x.port == p && beAt x.message 1 1 == 1).length then
      kilnAnswer o.source (beAt m 2 2) (beAt m 4 2) 0x16 []
    else queueOp o

/-- The shares of a message in fragment order, if all have arrived. -/
def joinPieces (count : Nat) (l : List (Nat × Bytes)) : Option Bytes :=
  if (List.range count).all fun i => l.any fun x => x.1 == i then
    some ((List.range count).flatMap fun i => ((l.find? fun x => x.1 == i).map Prod.snd).getD [])
  else none

/-- A fragment of protocol 0x0005 received on a port (R336). Messages from other sources, or under another command or tag, are
assembled apart. -/
def fragmentArrives (p : Nat) (f : Frame) : Eff :=
  .look fun s =>
    let b := protocolBody f.data
    let source := beAt f.data 6 6
    let count := beAt b 14 2
    let same := fun (a : Assembly) => a.port == p && a.sourceMac == source && a.header == b.take 6
    let old := (s.kiln.assemblies.find? same).getD ⟨p, source, b.take 6, true, s.elapsed, []⟩
    let a := { old with
      isProtected := old.isProtected && f.icv == .verified
      pieces := (beAt b 12 2, b.drop 16) :: old.pieces.filter fun x => x.1 != beAt b 12 2 }
    let rest := s.kiln.assemblies.filter fun a => !same a
    .when (frameSound f && isProtocol f.data 5 && 16 ≤ b.length && beAt b 0 1 == 1 && count != 0 && count ≤ 64)
      (match joinPieces count a.pieces with
       | some body => .seq (.upd (.kiln fun k => { k with assemblies := rest })) (portMessage p a (b.take 16 ++ body.take (beAt b 8 4)))
       | none => .upd (.kiln fun k => { k with assemblies := a :: rest }))

/-- PairTimeout since the first fragment of an incomplete message: it is discarded (R336). -/
def fragmentTimesOut (p : Nat) : Eff :=
  .look fun s => .upd (.kiln fun k => { k with
    assemblies := k.assemblies.filter fun a => !(a.port == p && s.after a.since (nsUnits (s.n 0xA033 0))) })

/-- A Kiln fault (R350): event 885 as an occurrence of class 22, KSTATE FAULT. -/
def kilnFails (cause : Nat) : Eff :=
  .all [.when (cause == 1) (count (kilnItem 15)), faultEvent 22 0 885 cause, setKilnState .fault]

/-! ## Meanings -/

/-- Whether the Kiln is powered: from S1 on, outside DORMANT and an orderly shutdown. -/
def kilnPowered (e : Eff) : Eff :=
  .whenS (fun s => 1 ≤ s.power.stage && s.power.state != .off && s.power.state != .dormant) e

/-- LINK_UP (R149, R345). -/
def execLinkUp (port : Nat) (s : State) : Host.Outcome State Fault Refusal :=
  done (operating (.whenS (fun s => s.portEnabled port && !s.portOn port 1 1) (.seq (linkRises port) (linkSecures port)))) s
/-- LINK_DOWN (R149). -/
def execLinkDown (port : Nat) (s : State) : Host.Outcome State Fault Refusal :=
  done (operating (.whenS (fun s => s.portOn port 1 1) (.seq (linkDrops port) (linkUnsecures port)))) s
/-- STACK_LINK_UP (R283, R345). -/
def execStackLinkUp (stackPort : Nat) (s : State) : Host.Outcome State Fault Refusal :=
  done (operating (.whenS (fun s => !s.on 0x9002 1 stackPort)
    (.seq (stackLinkRises stackPort) (.whenS (fun s => s.on 0x9002 1 stackPort) (linkSecures (256 + stackPort)))))) s
/-- STACK_LINK_DOWN (R282). -/
def execStackLinkDown (stackPort : Nat) (s : State) : Host.Outcome State Fault Refusal :=
  done (operating (.whenS (fun s => s.on 0x9002 1 stackPort)
    (.seq (stackLinkFalls stackPort) (linkUnsecures (256 + stackPort))))) s
/-- KILN_GO (R338). -/
def execKilnGo (s : State) : Host.Outcome State Fault Refusal :=
  done (.seq (powered tlpReceived) (kilnPowered (inD0 (fun _ => some 0) kilnGoAct))) s
/-- KILN_OPERATION_DONE (R321). -/
def execKilnOperationDone (s : State) : Host.Outcome State Fault Refusal := done (kilnPowered operationEnds) s
/-- KILN_MESSAGE_FRAGMENT (R336). -/
def execKilnMessageFragment (port : Nat) (frame : Frame) (s : State) : Host.Outcome State Fault Refusal :=
  done (operating (if port < 256 then received port frame none (fragmentArrives port)
    else stackOpen (port - 256) (frameSound frame && isProtocol frame.data 5) (fragmentArrives port frame))) s
/-- KILN_FRAGMENT_TIMEOUT (R336). -/
def execKilnFragmentTimeout (port : Nat) (s : State) : Host.Outcome State Fault Refusal := done (fragmentTimesOut port) s
/-- GET_STATUS (R337). -/
def execGetStatus (source : KilnSource) (tag : Nat) (s : State) : Host.Outcome State Fault Refusal :=
  done (kilnPowered (getStatusAct source tag)) s
/-- GET_CERTIFICATE (R330). -/
def execGetCertificate (source : KilnSource) (tag index : Nat) (s : State) : Host.Outcome State Fault Refusal :=
  done (kilnPowered (getCertificateAct source tag index)) s
/-- GET_CHALLENGE (R349). -/
def execGetChallenge (source : KilnSource) (tag : Nat) (s : State) : Host.Outcome State Fault Refusal :=
  done (kilnPowered (getChallengeAct source tag)) s
/-- CHALLENGE_EXPIRY (R349). -/
def execChallengeExpiry (s : State) : Host.Outcome State Fault Refusal := done challengeExpires s
/-- ATTEST (R339). -/
def execAttest (source : KilnSource) (tag : Nat) (nonce : Bytes) (s : State) : Host.Outcome State Fault Refusal :=
  done (kilnPowered (attestAct source tag nonce)) s
/-- FW_BEGIN (R329). -/
def execFwBegin (source : KilnSource) (tag slot length : Nat) (s : State) : Host.Outcome State Fault Refusal :=
  done (kilnPowered (fwBeginAct source tag slot length)) s
/-- FW_WRITE (R329). -/
def execFwWrite (source : KilnSource) (tag offset : Nat) (data : Bytes) (s : State) : Host.Outcome State Fault Refusal :=
  done (kilnPowered (fwWriteAct source tag offset data)) s
/-- FW_COMMIT (R329). -/
def execFwCommit (source : KilnSource) (tag : Nat) (s : State) : Host.Outcome State Fault Refusal :=
  done (kilnPowered (fwCommitAct source tag)) s
/-- FW_CONFIRM (R329). -/
def execFwConfirm (source : KilnSource) (tag : Nat) (s : State) : Host.Outcome State Fault Refusal :=
  done (kilnPowered (fwConfirmAct source tag)) s
/-- FW_ABORT (R329). -/
def execFwAbort (source : KilnSource) (tag : Nat) (s : State) : Host.Outcome State Fault Refusal :=
  done (kilnPowered (fwAbortAct source tag)) s
/-- OWNER (R331). -/
def execOwner (source : KilnSource) (tag : Nat) (command : Bytes) (s : State) : Host.Outcome State Fault Refusal :=
  done (kilnPowered (ownerAct source tag command)) s
/-- INSTALL_OWNER_KEY (R332). -/
def execInstallOwnerKey (source : KilnSource) (tag : Nat) (command : Bytes) (s : State) :
    Host.Outcome State Fault Refusal := done (kilnPowered (ownerOnly 1 source tag command)) s
/-- ROTATE_OWNER_KEY (R332). -/
def execRotateOwnerKey (source : KilnSource) (tag : Nat) (command : Bytes) (s : State) :
    Host.Outcome State Fault Refusal := done (kilnPowered (ownerOnly 2 source tag command)) s
/-- RESTORE_OWNER_KEY (R324). -/
def execRestoreOwnerKey (source : KilnSource) (tag : Nat) (command : Bytes) (s : State) :
    Host.Outcome State Fault Refusal := done (kilnPowered (ownerOnly 3 source tag command)) s
/-- SET_POLICY (R333). -/
def execSetPolicy (source : KilnSource) (tag : Nat) (command : Bytes) (s : State) :
    Host.Outcome State Fault Refusal := done (kilnPowered (ownerOnly 4 source tag command)) s
/-- BURN_LOCKS (R333). -/
def execBurnLocks (source : KilnSource) (tag : Nat) (command : Bytes) (s : State) :
    Host.Outcome State Fault Refusal := done (kilnPowered (ownerOnly 5 source tag command)) s
/-- SET_LOCKED_RANGES (R334). -/
def execSetLockedRanges (source : KilnSource) (tag : Nat) (command : Bytes) (s : State) :
    Host.Outcome State Fault Refusal := done (kilnPowered (ownerOnly 6 source tag command)) s
/-- SET_PEER_ALLOW_LIST (R346). -/
def execSetPeerAllowList (source : KilnSource) (tag : Nat) (command : Bytes) (s : State) :
    Host.Outcome State Fault Refusal := done (kilnPowered (ownerOnly 7 source tag command)) s
/-- INSTALL_CAK (R332). -/
def execInstallCak (source : KilnSource) (tag : Nat) (command : Bytes) (s : State) :
    Host.Outcome State Fault Refusal := done (kilnPowered (ownerOnly 8 source tag command)) s
/-- ADVANCE_ROLLBACK (R328). -/
def execAdvanceRollback (source : KilnSource) (tag : Nat) (command : Bytes) (s : State) :
    Host.Outcome State Fault Refusal := done (kilnPowered (ownerOnly 9 source tag command)) s
/-- DEBUG_UNLOCK (R349). -/
def execDebugUnlock (source : KilnSource) (tag : Nat) (command : Bytes) (s : State) :
    Host.Outcome State Fault Refusal := done (kilnPowered (ownerOnly 10 source tag command)) s
/-- PAIR_INIT (R346). -/
def execPairInit (port sourceMac : Nat) (body : Bytes) (s : State) : Host.Outcome State Fault Refusal :=
  done (operating (pairInitAct port sourceMac 0 body)) s
/-- PAIR_RESPONSE (R346). -/
def execPairResponse (port sourceMac : Nat) (body : Bytes) (s : State) : Host.Outcome State Fault Refusal :=
  done (operating (pairResponseAct port sourceMac body)) s
/-- PAIR_CONFIRM (R346). -/
def execPairConfirm (port : Nat) (confirm : Bytes) (s : State) : Host.Outcome State Fault Refusal :=
  done (operating (.look fun s => pairConfirmAct port (s.pairing port).peerMac 0 confirm)) s
/-- PAIR_DONE (R346). -/
def execPairDone (port : Nat) (confirm : Bytes) (s : State) : Host.Outcome State Fault Refusal :=
  done (operating (pairDoneAct port confirm)) s
/-- PAIR_TIMEOUT (R345). -/
def execPairTimeout (port : Nat) (s : State) : Host.Outcome State Fault Refusal := done (operating (pairTimesOut port)) s
/-- PAIRING_RETRY_TIMER (R345). -/
def execPairingRetryTimer (port : Nat) (s : State) : Host.Outcome State Fault Refusal := done (operating (pairRetry port)) s
/-- CAK_LIFETIME_EXPIRY (R344). -/
def execCakLifetimeExpiry (port : Nat) (s : State) : Host.Outcome State Fault Refusal := done (operating (cakExpires port)) s
/-- MKPDU (R344). -/
def execMkpdu (port : Nat) (pdu : Mkpdu) (s : State) : Host.Outcome State Fault Refusal :=
  done (operating (mkpduReceived port pdu)) s
/-- MKA_HELLO_TIMER (R344). -/
def execMkaHelloTimer (port : Nat) (s : State) : Host.Outcome State Fault Refusal := done (operating (mkaHello port)) s
/-- MKA_LIFE_TIME_EXPIRY (R344). -/
def execMkaLifeTimeExpiry (port peer : Nat) (s : State) : Host.Outcome State Fault Refusal := done (operating (peerLost port peer)) s
/-- KEY_PATH_WRITE (R341). -/
def execKeyPathWrite (port an key sci : Nat) (transmit : Bool) (s : State) : Host.Outcome State Fault Refusal :=
  done (operating (keyWritten port an key sci transmit)) s
/-- TX_SA_SWITCH (R341). -/
def execTxSaSwitch (port : Nat) (s : State) : Host.Outcome State Fault Refusal := done (operating (txSaSwitches port)) s
/-- SAK_HOLDOVER_EXPIRY (R343). -/
def execSakHoldoverExpiry (port : Nat) (s : State) : Host.Outcome State Fault Refusal := done (operating (holdoverExpires port)) s
/-- KILN_FAULT (R350). -/
def execKilnFault (cause : Nat) (s : State) : Host.Outcome State Fault Refusal := done (kilnPowered (kilnFails cause)) s

end Sys2Proof.Machine
end

