-- ==== Sys2Proof/Machine/Faults.lean ====
section
/-! DEFINITION. Faults, diagnostics, supply and temperature (chapter 11): bucket boundaries, MDI samples, polarity, TDR,
memory errors, restarted domains, the thermal states, and the end of losses of the event sequencer. The orderly shutdown
stands in `Machine/Power.lean`. -/

namespace Sys2Proof.Machine

/-! ## MDI diagnostics (R358) -/

def MdiMonitor.init : MdiMonitor := { meet := [0, 0, 0, 0], miss := [0, 0, 0, 0], declared := [] }

def State.mdi (s : State) (p : Nat) : MdiMonitor := s.faults.mdi.getD p MdiMonitor.init

def mdiSet (p : Nat) (f : MdiMonitor → MdiMonitor) : Eff :=
  .upd (.faults fun t => { t with mdi := t.mdi.set p (f (t.mdi.getD p MdiMonitor.init)) })

/-- Whether a sample meets condition `c` of Table 11.2: voltages in mV, resistance in ohm, bias currents in uA. -/
def mdiMeets (c : Nat) (wireP wireN : Int) (resistance currentP currentN : Nat) : Bool :=
  match c with
  | 1 => decide (wireP < 400) || decide (wireN < 400)
  | 2 => decide (5000 < wireP) || decide (5000 < wireN)
  | 3 => decide (resistance < 20)
  | _ => decide (10 * currentP < currentN) || decide (10 * currentN < currentP)

/-- Consecutive samples that declare a condition (Table 11.2), and that clear one. -/
def mdiSamples (c : Nat) : Nat := if c = 2 then 2 else 3
def mdiClean : Nat := 10

/-- The port while conditions 1 to 3 are declared is silent; when the last of them clears, its segment function returns to
its start-up state. -/
def mdiResume (p : Nat) : Eff :=
  .whenS (fun s => s.segmentPort p && s.portEnabled p && !s.shorted p && s.segState p != segOff) (segmentListen p)

/-- A condition is declared: one occurrence of its class, reported by event 902; a short ends the frame in
progress and takes the link down. -/
def mdiDeclare (p c : Nat) : Eff :=
  .all [mdiSet p fun m => { m with declared := c :: m.declared },
    setN 0xB041 1 c p, .look fun s => setN 0xB041 2 s.now p,
    faultEvent (2 + c) p 902 (p % 1024 + 1024 * c), .when (c != 4) (.all [endTransmission p, linkDrops p, linkUnsecures p])]

/-- A declared condition clears: event 903. -/
def mdiClear (p c : Nat) : Eff :=
  .all [mdiSet p fun m => { m with declared := m.declared.filter fun d => d != c },
    .look fun s => .seq (setN 0xB041 1 (((s.mdi p).declared.head?).getD 0) p) (setN 0xB041 2 s.now p),
    raise 903 (p % 1024 + 1024 * c), .when (c != 4) (mdiResume p)]

/-- One condition takes a sample. -/
def mdiCondition (p c : Nat) (met : Bool) : Eff :=
  .look fun s =>
    let m := s.mdi p
    let meet := if met then m.meet.getD (c - 1) 0 + 1 else 0
    let miss := if met then 0 else m.miss.getD (c - 1) 0 + 1
    .seq (mdiSet p fun x => { x with meet := x.meet.set (c - 1) (min 255 meet), miss := x.miss.set (c - 1) (min 255 miss) })
      (if !m.declared.contains c && mdiSamples c ≤ meet then mdiDeclare p c
       else .when (m.declared.contains c && mdiClean ≤ miss) (mdiClear p c))

/-- The sample of one millisecond, of which the conditions are judged while DiagEnable is 1 (R358). -/
def mdiSampled (p : Nat) (wireP wireN : Int) (resistance currentP currentN : Nat) : Eff :=
  .when (isPort p && !isBB p)
    (.all [setObj 0xB041 3 (clampInt (-32768) 32767 wireP) p, setObj 0xB041 4 (clampInt (-32768) 32767 wireN) p,
      setN 0xB041 5 (min 65535 resistance) p,
      .whenS (fun s => s.on 0xB040 1 p) (.forEach [1, 2, 3, 4] fun c =>
        mdiCondition p c (mdiMeets c wireP wireN resistance currentP currentN))])

/-! ## Polarity and TDR (R359, R360) -/

/-- A reversed pair (R359): inverted, counted and reported; with AutoPolarity 0 only reported. -/
def polarity (p : Nat) : Eff :=
  .look fun s =>
    if !isPort p || isBB p then .skip
    else if s.on 0xB040 2 p then
      .all [.look fun s => setB 0xB041 6 (!s.on 0xB041 6 p) p, count (portItem p 30), faultEvent 7 p 904 p]
    else raise 904 p

/-- Whether TdrRequest may be written for a port: disabled, and no TDR running (R360). -/
def State.tdrAllowed (s : State) (p : Nat) : Bool := !s.portEnabled p && s.faults.tdr.isNone

/-- A TDR starts. -/
def tdrStart (p : Nat) : Eff := .upd (.faults fun f => { f with tdr := some p })

/-- The running TDR ends (R360): its result, and event 905. Throttling pauses it (R363). -/
def tdrEnds (kind distance : Nat) : Eff :=
  .look fun s => match if s.power.throttled then none else s.faults.tdr with
    | some p => .all [.upd (.faults fun f => { f with tdr := none }), setN 0xB051 1 (kind % 256) p,
        setN 0xB051 2 (distance % 65536) p, setN 0xB051 3 s.now p,
        raise 905 (p % 1024 + 1024 * (kind % 256) + 262144 * (distance % 8192))]
    | none => .skip

/-! ## Memory errors and restarts (R357, R378) -/

/-- A corrected error is part of the health figures (R315). -/
def corrected : Eff := .upd (.canopy fun k => { k with scrubCorrected := k.scrubCorrected + 1 })

/-- An uncorrectable error of the commons, which carry the twin mechanism (Table 1.10): whether it is a fault of the twin function
(Table 9.2) is a free value (safe: log entry 52). -/
def twinFunctionFails : Eff := .whenS State.twinHalf (withFree fun v => .when (v % 2 == 1) failOver)

/-- A memory error (Tables 11.7 and 11.8, Table 12.2). -/
def memoryFails (place : MemoryPlace) (correctable : Bool) : Eff :=
  match place with
  | .grove g m => .when (g < 8)
      (if correctable then .all [count (groveItem g (24 + m % 4)), corrected, faultEvent 14 g (384 + 8 * g + 2) (m % 256)]
       else .seq (count (groveItem g 28)) (faultEvent 15 g (384 + 8 * g + 3) (m % 256)))
  | .commons m => if correctable then .seq corrected (faultEvent 14 8 916 (m % 256))
    else .seq (faultEvent 15 8 918 (m % 256)) twinFunctionFails

/-! ## Supply and temperature (R361, R363) -/

/-- A reading of VBN, in 10 mV, with its extremes since power-on. -/
def readVbn (v : Nat) : Eff :=
  .look fun s => .all [setN 0xB060 1 (min v 65535),
    .when (s.n 0xB060 3 == 0 || v < s.n 0xB060 3) (setN 0xB060 3 (min v 65535)),
    .when (s.n 0xB060 4 < v) (setN 0xB060 4 (min v 65535))]

/-- VBN in 0.5 V, as the supply events carry it. -/
def vbnArg (v : Nat) : Nat := v / 50 % 256

/-- Enters or leaves the supply warning, which overvoltage hides in SupplyState. -/
def setSupplyWarning (on : Bool) : Eff :=
  .seq (.upd (.power fun w => { w with supplyWarned := on }))
    (.whenS (fun s => s.n 0xB060 2 != 2) (setN 0xB060 2 (if on then 1 else 0)))

/-- VBN, in 10 mV, has been below 35.0 V: the entry into the warning state is an occurrence of class 20. -/
def supplyWarns (v : Nat) : Eff :=
  .seq (readVbn v) (.whenS (fun s => decide (v < 3500) && !s.power.supplyWarned)
    (.seq (setSupplyWarning true) (faultEvent 20 0 906 (vbnArg v))))

/-- VBN has been at or above 36.0 V again. -/
def supplyRecovers (v : Nat) : Eff :=
  .seq (readVbn v) (.whenS (fun s => decide (3600 ≤ v) && s.power.supplyWarned) (.seq (setSupplyWarning false) (raise 910 (vbnArg v))))

/-- VBN has been above 75 V. -/
def supplyOver (v : Nat) : Eff :=
  .seq (readVbn v) (.whenS (fun s => decide (7500 < v) && s.n 0xB060 2 != 2) (.seq (setN 0xB060 2 2) (raise 908 (vbnArg v))))

/-- VBN has fallen to 75 V or below. -/
def overvoltageOver : Eff :=
  .whenS (fun s => s.n 0xB060 2 == 2) (.look fun s => setN 0xB060 2 (if s.power.supplyWarned then 1 else 0))

/-- A temperature in °C as an event argument, from 0.25 °C. -/
def celsius (t : Int) : Nat := (t / 4 % 256).toNat

/-- A sensor's reading, in 0.25 °C. -/
def readSensor (sensor : Nat) (t : Int) : Eff :=
  .when (sensor < 12) (setObj 0xB070 (sensor + 1) (clampInt (-32768) 32767 t))

/-- The highest junction, in 0.25 °C, reads 105 °C or more: the entry is an occurrence of class 21. -/
def thermalWarns (sensor : Nat) (t : Int) : Eff :=
  .seq (readSensor sensor t)
    (.whenS (fun s => decide (420 ≤ t) && s.n 0xB071 0 == 0) (.seq (setN 0xB071 0 1) (faultEvent 21 0 911 (sensor % 256 + 256 * celsius t))))

/-- 115 °C or more, beyond the warning: background work pauses. -/
def thermalThrottles (sensor : Nat) (t : Int) : Eff :=
  .seq (thermalWarns sensor t) (.whenS (fun s => decide (460 ≤ t) && s.n 0xB071 0 != 2)
    (.all [setN 0xB071 0 2, .upd (.power fun w => { w with throttled := true }), raise 912 (sensor % 256 + 256 * celsius t)]))

/-- The junction has fallen below the throttle threshold less its hysteresis: the warning remains. -/
def throttleEnds : Eff :=
  .whenS (fun s => s.n 0xB071 0 == 2) (.seq (setN 0xB071 0 1) (.upd (.power fun w => { w with throttled := false })))

/-- The highest junction has fallen below 100 °C. -/
def thermalNormal (t : Int) : Eff :=
  .whenS (fun s => decide (t < 400) && s.n 0xB071 0 != 0)
    (.all [setN 0xB071 0 0, .upd (.power fun w => { w with throttled := false }), raise 914 (celsius t)])

/-! ## AUX3V3 and the canopy clock (R416, R417, R430) -/

/-- The instant at which AUX3V3 changes. -/
def auxChanges (faulty : Bool) : Eff :=
  .look fun s => .upd (.power fun w => { w with auxFaulty := faulty, auxSince := s.elapsed })

/-- A fault of AUX3V3: event 907 with its cause, counted. -/
def auxFault (cause : Nat) : Eff := .all [auxChanges true, bumpObj 0x2230 5, raise 907 cause]

/-- Overcurrent for 100 us: the output goes off, to be retried; in DORMANT it stays off until the wake, and the canopy records
it. -/
def auxOvercurrent : Eff :=
  .look fun s =>
    if s.power.state == .dormant then
      .when (s.n 0x2230 3 == 1) (.all [setN 0x2230 3 0, bumpObj 0x2230 5, .upd (.canopy fun k => { k with auxFault := true })])
    else .when (s.power.state != .off && s.n 0x2230 3 != 2 && s.n 0x2230 3 != 0) (.seq (setN 0x2230 3 2) (auxFault 1))

/-- A retry, every 100 ms while the overcurrent persists. -/
def auxRetry (ok : Bool) : Eff :=
  .whenS (fun s => s.n 0x2230 3 == 2 && s.after s.power.auxSince (nsUnits 100000000))
    (.seq (auxChanges true) (.when ok (setN 0x2230 3 1)))

/-- Output below 3.0 V for 100 us, not in current limit: it stays on. -/
def auxUndervoltage : Eff := .whenS (fun s => s.n 0x2230 3 == 1) (.seq (setN 0x2230 3 3) (auxFault 2))

/-- In regulation for 10 ms. -/
def auxRecovered : Eff :=
  .whenS (fun s => s.power.auxFaulty && (s.n 0x2230 3 == 1 || s.n 0x2230 3 == 3) &&
      s.after s.power.auxSince (nsUnits 10000000))
    (.all [auxChanges false, setN 0x2230 3 1, raise 909])

/-- 1,024 good cycles: the canopy takes its clock from the crystal (R430). -/
def crystalTaken : Eff :=
  .whenS (fun s => s.power.state != .off && s.n 0x3700 1 == 0 && s.n 0x2250 1 == 1) (setN 0x2250 1 0)

/-- The crystal misses 4 periods. -/
def crystalFails : Eff := .whenS (fun s => s.power.state != .off && s.n 0x2250 1 == 0) (.seq (setN 0x2250 1 1) (bumpObj 0x2250 2))

/-! ## Losses of the sequencer (R367) -/

/-- The FIFO has room after losses: event 921 with their number, which 0xB021 counts. -/
def lossesReported : Eff :=
  .look fun s => .when (s.events.lost != 0 && s.events.backlog < 1032)
    (.all [bumpObj 0xB021 0 0 s.events.lost, raise 921 (s.events.lost % 256), .upd .clearLost])

/-! ## Meanings -/

/-- FAULT_BUCKET_BOUNDARY (R355). -/
def execFaultBucketBoundary (cls : Nat) (s : State) : Host.Outcome State Fault Refusal := done (powered (bucketBoundary cls)) s
/-- MDI_SAMPLE (R358). -/
def execMdiSample (port : Nat) (wireP wireN : Int) (resistance currentP currentN : Nat) (s : State) :
    Host.Outcome State Fault Refusal := done (operating (mdiSampled port wireP wireN resistance currentP currentN)) s
/-- POLARITY_CORRECTED (R359). -/
def execPolarityCorrected (port : Nat) (s : State) : Host.Outcome State Fault Refusal := done (operating (polarity port)) s
/-- TDR_COMPLETE (R360). -/
def execTdrComplete (kind distance : Nat) (s : State) : Host.Outcome State Fault Refusal :=
  done (operating (tdrEnds kind distance)) s
/-- MEMORY_ERROR (R357). -/
def execMemoryError (place : MemoryPlace) (correctable : Bool) (s : State) : Host.Outcome State Fault Refusal :=
  done (powered (memoryFails place correctable)) s
/-- SUPPLY_WARNING (R361). -/
def execSupplyWarning (vbn : Nat) (s : State) : Host.Outcome State Fault Refusal := done (powered (supplyWarns vbn)) s
/-- SUPPLY_RECOVERED (R361). -/
def execSupplyRecovered (vbn : Nat) (s : State) : Host.Outcome State Fault Refusal := done (powered (supplyRecovers vbn)) s
/-- SUPPLY_OVERVOLTAGE (R361). -/
def execSupplyOvervoltage (vbn : Nat) (s : State) : Host.Outcome State Fault Refusal := done (powered (supplyOver vbn)) s
/-- OVERVOLTAGE_ENDED (R361). -/
def execOvervoltageEnded (s : State) : Host.Outcome State Fault Refusal := done (powered overvoltageOver) s
/-- THERMAL_WARNING (R363). -/
def execThermalWarning (sensor : Nat) (temperature : Int) (s : State) : Host.Outcome State Fault Refusal :=
  done (powered (thermalWarns sensor temperature)) s
/-- THERMAL_THROTTLE (R363). -/
def execThermalThrottle (sensor : Nat) (temperature : Int) (s : State) : Host.Outcome State Fault Refusal :=
  done (powered (thermalThrottles sensor temperature)) s
/-- THERMAL_THROTTLE_END (R363). -/
def execThermalThrottleEnd (s : State) : Host.Outcome State Fault Refusal := done (powered throttleEnds) s
/-- AUX3V3_OVERCURRENT (R417). -/
def execAux3v3Overcurrent (s : State) : Host.Outcome State Fault Refusal := done auxOvercurrent s
/-- AUX3V3_RETRY (R417). -/
def execAux3v3Retry (ok : Bool) (s : State) : Host.Outcome State Fault Refusal := done (powered (auxRetry ok)) s
/-- AUX3V3_UNDERVOLTAGE (R417). -/
def execAux3v3Undervoltage (s : State) : Host.Outcome State Fault Refusal := done (powered auxUndervoltage) s
/-- AUX3V3_RECOVERED (R417). -/
def execAux3v3Recovered (s : State) : Host.Outcome State Fault Refusal := done (powered auxRecovered) s
/-- CANOPY_CRYSTAL_SWITCH (R430). -/
def execCanopyCrystalSwitch (s : State) : Host.Outcome State Fault Refusal := done crystalTaken s
/-- CANOPY_CRYSTAL_FAILURE (R430). -/
def execCanopyCrystalFailure (s : State) : Host.Outcome State Fault Refusal := done crystalFails s
/-- EVENT_FIFO_ROOM (R367). -/
def execEventFifoRoom (s : State) : Host.Outcome State Fault Refusal := done lossesReported s

end Sys2Proof.Machine
end

