-- ==== Sys2Proof/Machine/Counter.lean ====
section
/-! DEFINITION. The counter reader (chapter 12): snapshots, dumps, view pages, threshold counters. -/

namespace Sys2Proof.Machine

/-! ## Values (R376 to R379) -/

/-- The value of an item now: the nanoseconds of a grove's present power state are added to what has been counted. -/
def State.item (s : State) (i : Nat) : Nat :=
  let g := (i - 10240) / 64
  let c := (i - 10240) % 64
  let grove := s.grove g
  let since := (s.now - grove.since) / 65536
  let gated := grove.state == 0 || grove.state == 3
  if 10240 ≤ i && i < 10752 && ((c == 20 && gated) || (c == 21 && !gated)) then (s.counter i + since) % 18446744073709551616
  else s.counter i

/-- Every item as it stands. -/
def State.items (s : State) : PMap Nat :=
  (List.range 8).foldl (fun m g =>
    (m.set (groveItem g 20) (s.item (groveItem g 20))).set (groveItem g 21) (s.item (groveItem g 21))) s.counters

/-- The items are frozen as they stand before a boundary (R380). -/
def freezeItems : Eff := .look fun s => .upd (.reader fun r => { r with frozen := some s.items })

/-- An item of the snapshot. -/
def State.frozenItem (s : State) (i : Nat) : Nat := (s.reader.frozen.getD []).getD i 0

/-- The sets of Table 12.1 in their order: base and length. -/
def counterSets : List (Nat × Nat) :=
  [(0, 8192), (8192, 2048), (10240, 512), (10752, 256), (11008, 64), (11072, 64), (11136, 16), (11152, 32), (11184, 32)]

/-- The sets that DumpSets selects. -/
def State.dumpSets (s : State) : List (Nat × Nat) :=
  ((List.range 9).filter fun k => (s.n 0xC000 4).testBit k).filterMap fun k => counterSets[k]?

/-- Bytes of a dump record (Table 12.5), and of its slot. -/
def State.dumpLength (s : State) : Nat :=
  64 + 8 * (s.dumpSets.foldl (fun n x => n + x.2) 0) + 256 * s.n 0xC000 5 + 8
def State.dumpStride (s : State) : Nat := (s.dumpLength + 4095) / 4096 * 4096

/-- A dump without its stamps: bytes 8 up to the EndStamp. -/
def State.dumpBody (s : State) (flags : Nat) : Bytes :=
  leBytes 4 0x424E4344 ++ leBytes 2 1 ++ leBytes 2 flags ++ leBytes 8 s.cycle ++ timeBytes false (s.cycleStart s.cycle) ++
    leBytes 2 (s.n 0xC000 4) ++ leBytes 2 (s.n 0xC000 5) ++ leBytes 4 s.dumpLength ++ List.replicate 16 0 ++
    (s.dumpSets.flatMap fun x => (List.range x.2).flatMap fun i => leBytes 8 (s.frozenItem (x.1 + i))) ++
    (List.range (32 * s.n 0xC000 5)).flatMap fun i => leBytes 8 (s.frozenItem (11216 + i))

/-- The address of the slot of dump `n`. -/
def State.dumpSlot (s : State) (n : Nat) : Nat :=
  (s.function (s.n 0xC000 3)).dumpBase + n % max 1 (s.n 0xC000 6) * s.dumpStride

/-! ## View pages (R389, R390) -/

/-- The items that a function's rows of 0xC002 grant, in row order, at most 503. -/
def State.grantedItems (s : State) (fn : Nat) : List Nat :=
  ((List.range 8).flatMap fun k =>
    (List.range (s.n 0xC002 2 (8 * fn + k))).map fun i => s.n 0xC002 1 (8 * fn + k) + i).take 503

/-- The functions that are granted something. -/
def State.grantedFunctions (s : State) : List Nat := ((s.enabledRows 0xC002 2).map (· / 8)).dedup

/-- Every granted page is updated from the snapshot. -/
def updateViews (seq : Nat) : Eff :=
  .look fun s => .forEach s.grantedFunctions fun fn =>
    .seq (.upd (.reader fun r => { r with
        pages := r.pages.set fn ⟨seq, s.cycle, s.cycleStart s.cycle, (s.grantedItems fn).map s.frozenItem⟩ }))
      (count (readerItem 7))

/-! ## Snapshots and dumps (R380 to R385) -/

/-- Whether the boundary that began this cycle qualifies for a snapshot, and has not had it. -/
def State.snapshotDue (s : State) : Bool :=
  s.reader.frozen.isSome && s.on 0xC000 1 && s.cycle % max 1 (s.n 0xC000 2 / max 1 s.cycleLength) == 0 &&
    (match s.reader.lastSnapshot with
     | some t => !s.power.throttled || decide (t + nsUnits 100000000 ≤ s.cycleStart s.cycle)
     | none => true)

/-- The dump of a snapshot starts: StartStamp in a write of its own, then the body; or it is skipped, or not written. -/
def startDump (seq : Nat) : Eff :=
  .look fun s =>
    let fn := s.n 0xC000 3
    let f := s.function fn
    let lost := Eff.upd (.reader fun r => { r with flagLost := true })
    if s.reader.writing.isSome then .all [count (readerItem 2), raise 976, lost]
    else if fn == 0xFF || f.dumpBase == 0 || !f.busMaster then
      .all [count (readerItem 3), raiseOncePerSecond 977 0 (raise 977), lost]
    else
      let flags := (if s.reader.flagLost then 1 else 0) + (if s.reader.flagChanged then 2 else 0) +
        (if s.power.throttled then 4 else 0)
      .all [hostWrite fn (s.dumpSlot seq) (leBytes 8 seq), hostWrite fn (s.dumpSlot seq + 8) (s.dumpBody flags),
        setN 0xC001 2 s.dumpLength,
        .upd (.reader fun r => { r with
          writing := some (fn, s.dumpSlot seq + s.dumpLength - 8, seq, s.dumpLength), flagLost := false })]

/-- A qualifying boundary (R380): the items frozen at it are the snapshot; the dump starts, the pages follow. -/
def snapshot : Eff :=
  .look fun s => .when s.snapshotDue
    (let seq := s.reader.nextSequence
     .all [updateViews seq, startDump seq, setN 0xC001 1 seq, count (readerItem 0),
       .upd (.reader fun r => { r with
         nextSequence := seq + 1, frozen := none, flagChanged := false, lastSnapshot := some (s.cycleStart s.cycle) })])

/-- The EndStamp of the dump in progress is issued (R384). -/
def dumpEnds : Eff :=
  .look fun s => match s.reader.writing with
    | some (fn, at', seq, length) =>
      .all [hostWrite fn at' (leBytes 8 seq), count (readerItem 1), countN (readerItem 4) length,
        .upd (.reader fun r => { r with writing := none, lastDump := seq % 4294967296 })]
    | none => .skip

/-! ## Threshold counters (R388) -/

/-- The occupancy of Table 12.7 now. -/
def State.occupancy (s : State) (quantity inst : Nat) : Nat :=
  match quantity with
  | 1 => s.depth inst
  | 2 => s.heldBytes true 0
  | 3 => s.heldBytes false inst
  | 4 => (s.hostRing true inst).outstanding
  | 5 => (s.hostRing false inst).outstanding
  | 6 => s.events.backlog - 8
  | 7 => s.n 0x7011 3 inst
  | _ => 0

/-- The highest occupancy of the cycle. -/
def State.peakOf (s : State) (quantity inst : Nat) : Nat :=
  max (s.occupancy quantity inst)
    (if quantity = 6 then s.events.peak else s.traffic.peaks.getD (peakKey quantity inst) 0)

/-- Whether a row's Level was exceeded in the cycle. -/
def State.exceeds (s : State) (i : Nat) : Bool :=
  s.n 0xC020 1 i != 0 && decide (s.n 0xC020 3 i < s.peakOf (s.n 0xC020 1 i) (s.n 0xC020 2 i))

/-- The end of a cycle: each exceeding row counts it, and raises its event as EventMode says. -/
def thresholdsEnd : Eff :=
  .look fun s =>
    let rows := s.enabledRows 0xC020 1
    .seq (.forEach (rows.filter s.exceeds) fun i =>
        .seq (count (readerItem (16 + i)))
          (.when (s.n 0xC020 4 i == 2 || (s.n 0xC020 4 i == 1 && !s.traffic.exceeded.contains i)) (raise (960 + i))))
      (.upd (.traffic fun t => { t with
        exceeded := rows.filter s.exceeds
        peaks := rows.foldl (fun m i => m.set (peakKey (s.n 0xC020 1 i) (s.n 0xC020 2 i))
          (s.occupancy (s.n 0xC020 1 i) (s.n 0xC020 2 i))) [] }))

/-- A commit has changed a row: its run restarts. -/
def thresholdRestarts (i : Nat) : Eff := .upd (.traffic fun t => { t with exceeded := t.exceeded.erase i })

/-- A commit has changed Kind, Instance, Base or LogStep of a histogram: its bins are cleared (R387). -/
def histogramClears (h : Nat) : Eff :=
  .seq (.forEach (List.range 32) fun b => .upd (.clearBin (histItem h b))) (.look fun s => setN 0xC011 3 s.now h)

/-! ## Meanings -/

/-- COUNTER_SNAPSHOT (R380). -/
def execCounterSnapshot (s : State) : Host.Outcome State Fault Refusal := done (operating snapshot) s
/-- DUMP_COMPLETE (R384). -/
def execDumpComplete (s : State) : Host.Outcome State Fault Refusal := done (operating dumpEnds) s

end Sys2Proof.Machine
end

