-- ==== Sys2Proof/Machine/Power.lean ====
section
/-! DEFINITION. Power states, wake and resets (R394 to R410), orderly shutdown (R362), grove gating and the wake plan (R400
to R406). Bring-up from S2 on stands in `Machine/Boot.lean`. -/

namespace Sys2Proof.Machine

/-! ## Ports in use -/

/-- The ports whose PortEnable is 1, ascending. -/
def State.enabledPorts (s : State) : List Nat :=
  s.od.dict.filterMap fun e =>
    if 0x5000 ≤ e.1.idx && e.1.idx < 0x6000 && e.1.idx % 16 == 0 && e.1.sub == 1 && e.2 != 0
    then some ((e.1.idx - 0x5000) / 16) else none

/-- The enabled ports of a grove with local indexes 1 to 31. -/
def State.grovePorts (s : State) (g : Nat) : List Nat := s.enabledPorts.filter fun p => groveOf p == g && !isBB p

/-! ## The wake plan (R401) -/

/-- A busy span in a time base: 0xFFFF the backbone, 0xFFFE the gate list of the grove's backbone lane, else a port. It
starts and stops at offsets from the start of the base's cycle and repeats with `period`, all in 2^-16 ns. -/
structure BusySpan where
  base : Nat
  start : Int
  stop : Int
  period : Nat
deriving DecidableEq, Repr

/-- A port that keeps its grove running always: standard PLCA, CSMA/CD or link mode (Table 13.3). -/
def State.alwaysOn (s : State) (g : Nat) : Bool := (s.grovePorts g).any fun p => !s.segmentPort p

/-- Spans of the static slots and of the tail's start of a segment-mode port, for backbone mode `m`. -/
def State.slotBusy (s : State) (m p : Nat) : List BusySpan :=
  let slots := (List.range 64).filterMap (s.slotOf p (s.segModeFor p m))
  let bit := s.bitTime p
  let period := nsUnits (s.segLength p)
  let stop := nsUnits (slots.foldl (fun e x => max e (x.start + x.length)) 0 * bit)
  slots.map (fun x =>
    (⟨p, min (s.actionPoint p x - nsUnits (s.segCfg p 3 11)) (s.actionPoint p x - nsUnits (s.precision p)),
      nsUnits ((x.start + x.length) * bit), period⟩ : BusySpan)) ++ [⟨p, stop, stop, period⟩]

/-- Spans of the tasks of an engine in a mode: Offset to Offset + ⌈Budget x 0.625⌉ ns, and 32 ns for the release. -/
def State.taskBusy (s : State) (m e : Nat) : List BusySpan :=
  let base := s.timeBase e m
  ((List.range 64).filter fun i => s.taskCell e m i 1 != 0).map fun i =>
    let start := s.taskCell e m i 3
    ⟨base, nsUnits start, nsUnits (start + (5 * s.taskCell e m i 4 + 7) / 8 + 32), nsUnits (s.baseLength base)⟩

/-- The sections of a mode that are delivered to a grove. -/
def State.groveSections (s : State) (m g : Nat) : List SecRow :=
  (s.sections m).filter fun r => (s.n 0x4130 1 (1024 * m + r.row)).testBit 0 && (s.n 0x4130 2 (1024 * m + r.row)).testBit g

/-- Spans of delivery: each boundary, and the verification points of early sections as last observed, plus 2 us. -/
def State.sectionBusy (s : State) (m g : Nat) : List BusySpan :=
  let rows := s.groveSections m g
  let span := fun x => (⟨0xFFFF, (x : Nat), (x + nsUnits 2000 : Nat), s.cycleUnits⟩ : BusySpan)
  (if rows.isEmpty then [] else [span 0]) ++
    (rows.filterMap fun r => if r.early then (s.ring.earlySeen.get? r.id).map span else none)

/-- The entries of a gate list that open a class closed in the entry before. -/
def openings : GateEntry → List (Nat × Nat × GateEntry) → List Nat
  | _, [] => []
  | last, x :: xs =>
    let opens := (List.range 8).any fun c => x.2.2.states.testBit c && !last.states.testBit c
    (if opens then [x.1] else []) ++ openings x.2.2 xs

/-- Spans of the openings on the grove's backbone lane. -/
def State.gateBusy (s : State) (g : Nat) : List BusySpan :=
  let prog := s.operGates (32 * g)
  let spans := gateSpans prog.cycle 0 prog.entries
  match spans.getLast? with
  | some x => if s.gated (32 * g) then (openings x.2.2 spans).map fun t => ⟨0xFFFE, (t : Nat), (t : Nat), prog.cycle⟩ else []
  | none => []

/-- The static spans of a grove in a mode (Table 13.3). -/
def State.busySpans (s : State) (m g : Nat) : List BusySpan :=
  ((s.grovePorts g).filter s.segmentPort).flatMap (s.slotBusy m) ++
    (List.range 16).flatMap (fun k => s.taskBusy m (16 * g + k)) ++ s.sectionBusy m g ++ s.gateBusy g

/-- The plan period of a grove in a mode, in ns. -/
def State.planPeriod (s : State) (m g : Nat) : Nat :=
  (((s.grovePorts g).filter s.segmentPort).map s.segLength ++
    (List.range 16).map (fun k => s.baseLength (s.timeBase (16 * g + k) m))).foldl Nat.lcm (max 1 s.cycleLength)

/-- The occurrences of a span in a period of `p` (2^-16 ns), its base's offset taken as 0: start and length. -/
def BusySpan.unroll (x : BusySpan) (p : Nat) : List (Nat × Nat) :=
  (List.range (p / max 1 x.period)).map fun k => (((x.start + k * x.period) % (p : Int)).toNat, (x.stop - x.start).toNat)

/-- Puts a span in front of those that start later. -/
def insertSpan (x : Nat × Nat) : List (Nat × Nat) → List (Nat × Nat)
  | [] => [x]
  | y :: ys => if x.1 ≤ y.1 then x :: y :: ys else y :: insertSpan x ys

/-- The gaps between spans in ascending order of start, up to the end of the period at `stop`; `reach` is the end of what
is busy so far. -/
def gapsFrom (stop : Nat) : Nat → List (Nat × Nat) → List Nat
  | reach, [] => [stop - reach]
  | reach, (a, n) :: rest => (a - reach) :: gapsFrom stop (max reach (a + n)) rest

/-- The gaps of a plan that are slept: longer than MinSleepGap, in 2^-16 ns. A grove without a span has one gap of the
whole period. -/
def State.planGaps (s : State) (m g : Nat) : List Nat :=
  let p := nsUnits (s.planPeriod m g)
  let spans := ((s.busySpans m g).flatMap fun x => x.unroll p).foldr insertSpan []
  let gaps := match spans with
    | [] => [p]
    | (a, n) :: rest => gapsFrom (a + p) (a + n) rest
  if s.alwaysOn g then [] else gaps.filter fun x => nsUnits (s.n 0x2100 3 g) < x

/-- A grove under policy 2 that has work: an enabled port, or an enabled task in a loaded mode (R400). -/
def State.groveHasWork (s : State) (g : Nat) : Bool :=
  !(s.grovePorts g).isEmpty ||
    ((List.range 8).any fun m => s.loaded m && (List.range 16).any fun k => !(s.taskBusy m (16 * g + k)).isEmpty)

/-- EffectivePolicy of a grove in a mode (R400, R404). -/
def State.effectivePolicy (s : State) (m g : Nat) : Nat :=
  let policy := s.n 0x2100 1 g
  if policy = 1 then (if 512 < (s.planGaps m g).length then 0 else 1)
  else if policy = 2 then (if s.groveHasWork g then 0 else 2)
  else policy

/-- PlannedGatedPermille: what is slept, less the wake ahead of each span, of the period. -/
def State.gatedPermille (s : State) (m g : Nat) : Nat :=
  let p := nsUnits (s.planPeriod m g)
  let lead := if (s.busySpans m g).isEmpty then 0 else nsUnits (s.n 0x2100 2 g)
  (s.planGaps m g).foldl (fun n x => n + (x - lead)) 0 * 1000 / p

/-- Row 8g + m of 0x2101 (R401, R404). -/
def State.planRow (s : State) (row : Nat) : List Nat :=
  let g := row / 8
  let m := row % 8
  if !s.loaded m then [s.n 0x2100 1 g, 0, 0, 0]
  else
    let e := s.effectivePolicy m g
    if e = 1 then [1, (s.planGaps m g).length, s.gatedPermille m g, s.planPeriod m g] else [e, 0, 0, s.planPeriod m g]

/-- A plan that gives way is reported at the commit that builds it (R404): a clamp record of row 8g + m, and event 897. -/
def reportPlan (chan row : Nat) : Eff :=
  .look fun s =>
    let policy := s.n 0x2100 1 (row / 8)
    .when (s.loaded (row % 8) && policy != 0 && s.effectivePolicy (row % 8) (row / 8) == 0)
      (.all [.upd (.clamp ⟨s.now, ⟨0x2101, row, 1⟩, chan, 3, policy, 0⟩), bumpObj 0x1F81 0, count (commonsItem 66),
        raise 897 chan])

/-- The policies as they apply in the running mode: a grove under policy 2 is off, one that is to run always is woken. -/
def applyPolicies : Eff :=
  .forEach (List.range 8) fun g => .look fun s =>
    let e := s.effectivePolicy s.mode g
    let state := (s.grove g).state
    if e = 2 && state != 3 then .seq (groveStops g) (setGrove g 3 none)
    else .when ((e != 2 && state == 3) || (e == 0 && state == 0)) (setGrove g 1 none)

/-- The plans are built at a commit that changes their inputs. -/
def buildPlans (chan : Nat) : Eff := .seq (.forEach (List.range 64) (reportPlan chan)) applyPolicies

/-! ## Gating at run time (R402) -/

/-- The start of a span's occurrence number `k` from the running cycle of its base, in the local clock. -/
def State.spanAt (s : State) (g : Nat) (x : BusySpan) (k : Int) : Int :=
  (if x.base = 0xFFFE then (s.now : Int) - (s.operGates (32 * g)).offset s.now else s.baseStart x.base) + x.start + k * x.period

/-- Whether a static span is in force. -/
def State.spanInForce (s : State) (g : Nat) (x : BusySpan) : Bool :=
  [0, 1].any fun k => s.spanAt g x k ≤ s.now && (s.now : Int) < s.spanAt g x k + (x.stop - x.start)

/-- The boundaries at which every grove is to run: those of a sealed set and of a confirmed mode switch (R405). -/
def State.wakingBoundaries (s : State) : List Nat :=
  (if s.od.sealedSet.any fun x => !x.atModeSwitch then [s.cycleStart (s.cycle + 1)] else []) ++
    (if s.ring.confirm.isSome || s.ring.confirmed.isSome then (s.comingMode.map Prod.snd).toList else [])

/-- The start of the next static span of a grove, or boundary at which it is to run, in the local clock. -/
def State.nextSpan (s : State) (g : Nat) : Option Nat :=
  (s.wakingBoundaries ++ (s.busySpans s.mode g).flatMap fun x =>
    (([0, 1].map fun k => s.spanAt g x k).filter fun t => (s.now : Int) < t).map Int.toNat).foldl
      (fun best t => earlier best (some t)) none

/-- Whether something that is no static span keeps a grove running (Table 13.3): a segment that is not ACTIVE, queued frames
and frames on their way, a running engine, a self-test. -/
def State.groveBusy (s : State) (g : Nat) : Bool :=
  (s.grove g).selfTesting || s.alwaysOn g ||
    ((s.grovePorts g).any fun p => s.segmentPort p && s.segState p != segActive) ||
    (s.traffic.queues.any fun e => groveOf (e.1 / 8) == g && !e.2.isEmpty) ||
    (s.traffic.macs.any fun e => groveOf e.1 == g && e.2.current.isSome) ||
    (s.messages.engines.any fun e => e.1 / 16 == g && e.2.run.isSome)

/-- A grove falls idle: it is gated where its next span lies more than MinSleepGap ahead. -/
def groveFallsIdle (g : Nat) : Eff :=
  .look fun s =>
    let next := s.nextSpan g
    let far := match next with
      | some t => decide (s.now + nsUnits (s.n 0x2100 3 g) < t)
      | none => true
    .when (g < 8 && s.groveOn g && s.effectivePolicy s.mode g == 1 && !s.groveBusy g &&
        !((s.busySpans s.mode g).any (s.spanInForce g)) && far)
      (.seq (count (groveItem g 19)) (setGrove g 0 (next.map fun t => t - nsUnits (s.n 0x2100 2 g))))

/-- The scheduled wake of a gated grove. -/
def groveWakesOnTime (g : Nat) : Eff :=
  .look fun s => .when (g < 8 && (s.grove g).state == 0 && (s.grove g).nextWake.any fun t => t ≤ s.now)
    (.seq (count (groveItem g 16)) (setGrove g 1 none))

/-! ## Resets and bring-up up to S1 -/

/-- The bring-up stage (0x1001:00). -/
def setStage (n : Nat) : Eff :=
  .look fun s => .seq (.upd (.power fun w => { w with stage := n, stageCycle := s.cycle, stageSince := s.elapsed }))
    (setN 0x1001 0 n)

/-- Drives or releases FAULT while no event can be raised. -/
def faultBall (low : Bool) : Eff :=
  .whenS (fun s => s.pins.faultLow != low) (.seq (.upd (.pins fun q => { q with faultLow := low })) (emit (.faultPin low)))

/-- The main die loses its state (R397, R410); the FAULT ball is left as it is, and an opened JTAG port stays open until power-off
(R349). -/
def restartDie : Eff :=
  .look fun s => .seq (.upd .restart) (.upd (.pins fun q => { q with faultLow := s.pins.faultLow, pewakenLow := s.pins.pewakenLow, jtagOpen := s.pins.jtagOpen }))

/-- Bring-up enters S1 (Table 13.7). -/
def enterStageOne : Eff :=
  .all [.upd (.power fun w => { w with state := .active }), setStage 1,
    .look fun s => .all [setN 0x1003 0 s.power.stkpos, setB 0x8000 1 s.power.pcieMode, setB 0x8000 7 s.power.sris],
    flashSet fun f => { f with bootCount := (f.bootCount + 1) % 4294967296 }, updateFaultPin]

/-- The local clock as the canopy keeps it while the main die is down (R81). -/
def State.canopyTime (s : State) : Nat :=
  match s.canopy.latched with
  | some (t, c) => t + (s.canopy.counter - c) * canopyPeriod
  | none => s.canopy.counter * canopyPeriod

/-- A reset of Table 13.8 that restarts at S1. -/
def resetToStageOne : Eff :=
  .look fun s => .all [.upd (.wake ⟨if s.power.state == .dormant then s.canopyTime else s.now, 6, 0xFFFF⟩), restartDie,
    enterStageOne]

/-- Whether RESETN acts: the rails are up, or can be raised. -/
def State.resettable (s : State) : Bool :=
  s.power.state != .off && !s.power.brownOut && !s.power.thermalStop && (s.power.state == .dormant || 1 ≤ s.power.stage)

/-- The functions that a PCI Express link presents (R237): all of them on the x8 link, PF0 on link A, PF1 and its VFs on B. -/
def State.linkFunctions (s : State) (link : Nat) : List Nat :=
  if !s.power.pcieMode then (if link = 0 then List.range 66 else [])
  else if link = 0 then [0] else (List.range 65).map (· + 1)

/-- PERST of a link (R410): its functions are reset, their rings and queues with them, and the link trains anew. -/
def perstAct (link : Nat) : Eff :=
  .look fun s =>
    let fns := s.linkFunctions link
    .when (!fns.isEmpty) (.all [
      .forEach fns clearFunction,
      .when (fns.contains 1 && s.host.vfEnable) (vfEnable false 0), pcieLink link 0 0])

/-! ## IDLE and DORMANT (R396, R397) -/

/-- A stack port falls silent. -/
def stopStackPort (n : Nat) : Eff :=
  .whenS (fun s => s.on 0x9002 1 n)
    (.seq (stackUnlinked n) (faultEvent 19 n 850 n))

/-- The functions of ACTIVE stop; all their state is kept (R396). -/
def stopFunctions : Eff :=
  .all [.look fun s => .forEach s.enabledPorts portHalts, .forEach [0, 1] stopStackPort,
    .whenS (fun s => s.ringState != ringDisabled) (.seq (setRingState ringDisabled) sourceChanged),
    .upd (.ring fun g => { g with staged := [], stopPending := false, disablePending := false }), abortTransactions]

/-- DORMANT is entered: the canopy latches the local clock, the rails go down (R397, R81). AUX3V3 stays on where
Aux3v3InDormant says so (R416). -/
def goDormant : Eff :=
  .look fun s => .all [
    .upd (.canopy fun k => { k with latched := some (s.now, k.counter) }), restartDie,
    .upd (.power fun w => { w with state := .dormant }),
    setN 0x2230 3 (if s.on 0x2230 2 && s.n 0x2230 3 != 2 then 1 else 0), faultBall false]

/-- The local clock, kept by the canopy in DORMANT. -/
def State.keptTime (s : State) : Nat := if s.power.state == .dormant then s.canopyTime else s.now

/-- WakeAt has been applied: it counts where it lies ahead (R412). -/
def armWake : Eff :=
  .look fun s => .upd (.canopy fun k => { k with wakeArmed := decide (s.keptTime < s.n 0x2220 3) })

/-- Whether an accepted power request takes effect: a boundary has come, or 1 ms has passed where no cycle is running. -/
def State.requestDue (s : State) : Bool :=
  (s.power.idlePending || s.power.dormantPending) &&
    if s.power.state == .active && 4 ≤ s.power.stage then s.power.requestCycle != s.cycle
    else s.after s.power.requestSince (nsUnits 1000000)

/-- The instant at which a power request takes effect. A WakeAt that has passed by then is none for the sleep. -/
def idleEnters : Eff :=
  .look fun s =>
    let deep := s.power.dormantPending
    .when ((s.power.state == .active && 4 ≤ s.power.stage || s.power.state == .idle) && s.requestDue) (.all [
      .when (s.power.state == .active) stopFunctions,
      .when (s.n 0x2220 3 ≤ s.now) (.upd (.canopy fun k => { k with wakeArmed := false })),
      .upd (.power fun w => { w with state := .idle, idlePending := false, dormantPending := false, wakePending := false }),
      setN 0x2200 1 2, .when deep goDormant])

/-- A wake source of the canopy (R398, R399): in DORMANT the rails are raised and bring-up starts at S1, with PEWAKEN low
until the link is up; in IDLE the PLLs start; an entry into DORMANT that has not lowered the rails is aborted. -/
def wakeSource (cause port : Nat) : Eff :=
  .look fun s => match s.power.state with
    | .dormant => .when (!s.power.brownOut && !s.power.thermalStop) (.all [
        .upd (.wake ⟨s.canopyTime, cause, port⟩),
        .when (s.on 0x2220 5) (.upd (.pins fun q => { q with pewakenLow := true })),
        setN 0x2230 3 1, enterStageOne])
    | .idle => .seq (.upd (.power fun w => { w with dormantPending := false })) (idleWake cause port)
    | .active => .when s.power.dormantPending (.seq (.upd (.wake ⟨s.now, cause, port⟩))
        (.upd (.power fun w => { w with dormantPending := false })))
    | .off => .skip

/-- Canopy time reaches WakeAt (R398). -/
def wakesAt : Eff :=
  .whenS (fun s => s.canopy.wakeArmed && s.n 0x2220 3 ≤ s.keptTime)
    (.seq (.upd (.canopy fun k => { k with wakeArmed := false })) (wakeSource 3 0xFFFF))

/-- Activity on an SG or LK port: a wake source where its mask bit is set, and a wake of its gated grove (R398, R403). -/
def portWakes (p : Nat) : Eff :=
  .when (isPort p && !isBB p) (.seq (.whenS (fun s => maskBit (s.obj 0x2220 4) p) (wakeSource 2 p))
    (.whenS State.operating (wakeGrove (groveOf p))))

/-- The PLLs are locked (R395): the functions start again from the states that their enable objects select, and what doorbells
and pushes have covered is acted on (R274). -/
def resumes : Eff :=
  .whenS (fun s => s.power.state == .idle && s.power.wakePending) (.all [
    .upd (.power fun w => { w with state := .active, wakePending := false }), setN 0x2200 1 3,
    .whenS (fun s => s.on 0x4000 1 && !s.stackMember) (.seq startListening (setRingState ringListen)),
    .look fun s => .forEach s.enabledPorts fun p => .seq (portStart p) (gatesNow p), applyPolicies,
    .look fun s => .seq (.forEach (s.host.tx.map Prod.fst) fun r => .seq (usePushes r 16) (fetchEntries true r))
      (.forEach (s.host.rx.map Prod.fst) (fetchEntries false))])

/-! ## Orderly shutdown and recovery (R361 to R363) -/

/-- The body of an orderly shutdown: FAULT, the canopy record, stomped frames, a twin half's last StepRecord, and the rails
go down. -/
def shutdown (cause : Nat) (mark : PowerSide → PowerSide) : Eff :=
  .look fun s => .all [
    .upd (.canopy fun k => { k with shutdown := some (cause, s.keptTime), shutdownDue := true }),
    .when (s.power.state != .dormant) (.all [
      faultBall true,
      .forEach s.traffic.macs fun e => .ofOption e.2.current fun x => emit (.frame e.1 (x.2.data.drop x.2.sent) true true),
      .when s.twinHalf (.all [setN 0x9021 1 twFailed, setB 0x9021 3 false,
        .look fun s => sendStack s.twinPort 0x01 (s.stepBody s.recordCycle)]),
      goDormant]),
    setN 0x2230 3 0, .upd (.power mark)]

/-- Brown-out: VBN, in 10 mV, below 32.0 V for 50 us. -/
def brownsOut (v : Nat) : Eff :=
  .whenS (fun s => decide (v < 3200) && s.power.state != .off && !s.power.brownOut)
    (.seq (readVbn v) (.look fun s =>
      if s.power.thermalStop then .upd (.power fun w => { w with brownOut := true })
      else shutdown 1 fun w => { w with brownOut := true }))

/-- A junction, in 0.25 °C, at 125 °C or more. -/
def overheats (sensor : Nat) (t : Int) : Eff :=
  .whenS (fun s => decide (500 ≤ t) && (s.power.state == .active || s.power.state == .idle))
    (.seq (.upd (.canopy fun k => { k with thermalTrip := some (sensor, t) }))
      (shutdown 2 fun w => { w with thermalStop := true }))

/-- Bring-up from S0 after an orderly shutdown. -/
def recoverSupply : Eff :=
  .whenS (fun s => s.power.state == .dormant && !s.power.brownOut && !s.power.thermalStop)
    (.look fun s => .all [.upd (.wake ⟨s.canopyTime, 7, 0xFFFF⟩), .upd (.power fun w => { w with state := .active }),
      setStage 0, setN 0x2230 3 1, faultBall true])

/-- VBN has been at or above 35.0 V for 10 ms. -/
def brownOutEnds : Eff :=
  .whenS (fun s => s.power.brownOut) (.seq (.upd (.power fun w => { w with brownOut := false })) recoverSupply)

/-- The highest junction falls below 100 °C: normal, or bring-up after a thermal shutdown, whose events wait for S5 (R363; event
914 as 913, DEDUCED, unsafe: log entry 54). -/
def coolsDown (t : Int) : Eff :=
  .look fun s =>
    if 400 ≤ t then .skip
    else if s.power.thermalStop then .all [.upd (.power fun w => { w with thermalStop := false }),
      .upd (.canopy fun k => { k with cooled := some t }), recoverSupply]
    else .when (s.power.state == .active || s.power.state == .idle) (thermalNormal t)

/-- VBN rises above 36.0 V: the module starts at S0 with a new canopy (R408, Table 13.8). -/
def powersOn : Eff :=
  .whenS (fun s => s.power.state == .off) (.all [
    .upd .restart, .upd .canopyReset, .upd (.defaults fun k => !canopyKey k), .upd (.wake ⟨0, 5, 0xFFFF⟩),
    .upd (.power fun w => { w with state := .active }), emit (.faultPin true)])

/-- VBN below 8 V: nothing is kept but OTP and flash. -/
def canopyGone : Eff :=
  .seq (faultBall false) (.all [.upd .restart, .upd .canopyReset, .upd (.defaults fun k => !canopyKey k),
    .upd (.power fun w => { w with state := .off }), .upd (.pins fun q => { q with faultLow := false })])

/-- The rails are valid: the straps are sampled and S1 begins (R408, R422). -/
def railsRise (stkpos : Nat) (pcieMode sris : Bool) : Eff :=
  .whenS (fun s => s.power.state == .active && s.power.stage == 0) (.seq
    (.upd (.power fun w => { w with stkpos := stkpos % 4, pcieMode := pcieMode, sris := sris })) enterStageOne)

/-- The Kiln verifies a slot and runs stage one (R326, R327), a debug-opened module's too (R349): S2, or S1 in RECOVERY. -/
def stageOneRuns : Eff :=
  .whenS (fun s => s.power.state == .active && s.power.stage == 1 && s.kiln.state == .booting)
    (.seq kilnBoots (.whenS (fun s => s.packageRuns) (setStage 2)))

/-- S5 (R362, R363, R417): what the canopy recorded is reported; after a power-on the cause is unknown. -/
def becomesOperational : Eff :=
  .whenS (fun s => s.power.state == .active && s.power.stage == 4 &&
      (s.power.stageCycle != s.cycle || s.after s.power.stageSince (nsUnits 1000000))) (.seq (setStage 5) (.look fun s => .all [
    if s.canopy.shutdownDue then raise 917 ((s.canopy.shutdown.map Prod.fst).getD 0)
    else .when ((s.canopy.wakeLog.head?.map WakeRecord.cause) == some 5) (raise 917 0),
    .ofOption s.canopy.thermalTrip fun x => raise 913 (x.1 % 256 + 256 * celsius x.2),
    .ofOption s.canopy.cooled fun t => raise 914 (celsius t),
    .when s.canopy.auxFault (raise 907 1),
    .upd (.canopy fun k => { k with shutdownDue := false, thermalTrip := none, cooled := none, auxFault := false })]))

/-! ## Meanings -/

/-- IDLE_ENTRY (R396). -/
def execIdleEntry (s : State) : Host.Outcome State Fault Refusal := done idleEnters s
/-- WAKE_PIN (R398). -/
def execWakePin (s : State) : Host.Outcome State Fault Refusal :=
  done (.whenS (fun s => s.on 0x2220 1) (wakeSource 1 0xFFFF)) s
/-- PORT_WAKE_ACTIVITY (R398). -/
def execPortWakeActivity (port : Nat) (s : State) : Host.Outcome State Fault Refusal := done (portWakes port) s
/-- WAKE_AT (R398). -/
def execWakeAt (s : State) : Host.Outcome State Fault Refusal :=
  done wakesAt s
/-- GROVE_IDLE (R402). -/
def execGroveIdle (grove : Nat) (s : State) : Host.Outcome State Fault Refusal := done (operating (groveFallsIdle grove)) s
/-- GROVE_SCHEDULED_WAKE (R402). -/
def execGroveScheduledWake (grove : Nat) (s : State) : Host.Outcome State Fault Refusal :=
  done (operating (groveWakesOnTime grove)) s
/-- POWER_ON (R408). -/
def execPowerOn (s : State) : Host.Outcome State Fault Refusal := done powersOn s
/-- RAILS_VALID (R408). -/
def execRailsValid (stkpos : Nat) (pcieMode sris : Bool) (s : State) : Host.Outcome State Fault Refusal :=
  done (railsRise stkpos pcieMode sris) s
/-- STAGE_ONE_RUNNING (R326). -/
def execStageOneRunning (s : State) : Host.Outcome State Fault Refusal := done stageOneRuns s
/-- OPERATIONAL (R408). -/
def execOperational (s : State) : Host.Outcome State Fault Refusal := done becomesOperational s
/-- RESETN (R410). -/
def execResetn (s : State) : Host.Outcome State Fault Refusal := done (.whenS State.resettable resetToStageOne) s
/-- MODULE_RESET_TIMER (R410). -/
def execModuleResetTimer (s : State) : Host.Outcome State Fault Refusal :=
  done (.whenS (fun s => s.power.resetDue.any (· ≤ s.elapsed)) resetToStageOne) s
/-- PERST (R410). -/
def execPerst (link : Nat) (s : State) : Host.Outcome State Fault Refusal := done (powered (perstAct link)) s
/-- CANOPY_LOST (R395). -/
def execCanopyLost (s : State) : Host.Outcome State Fault Refusal := done canopyGone s
/-- ACTIVE_RESUMED (R395). -/
def execActiveResumed (s : State) : Host.Outcome State Fault Refusal := done resumes s
/-- BROWN_OUT (R361, R362). -/
def execBrownOut (vbn : Nat) (s : State) : Host.Outcome State Fault Refusal := done (brownsOut vbn) s
/-- BROWN_OUT_RECOVERED (R361). -/
def execBrownOutRecovered (s : State) : Host.Outcome State Fault Refusal := done brownOutEnds s
/-- THERMAL_SHUTDOWN (R363). -/
def execThermalShutdown (sensor : Nat) (temperature : Int) (s : State) : Host.Outcome State Fault Refusal :=
  done (overheats sensor temperature) s
/-- THERMAL_NORMAL (R363). -/
def execThermalNormal (temperature : Int) (s : State) : Host.Outcome State Fault Refusal := done (coolsDown temperature) s

end Sys2Proof.Machine
end

