-- ==== Sys2Proof/Machine/Live.lean ====
section
/-! DEFINITION. What an object reads (R31, R32): the dictionary's own store, or the typed field that holds the object. -/

namespace Sys2Proof.Machine

/-- Element `n` of a list of values, 0 beyond its end. -/
def pick (l : List Int) (n : Nat) : Int := l.getD n 0

/-- A BOOL value. -/
def ofBool (b : Bool) : Int := if b then 1 else 0

/-- Row of 0x1F80 (Table 2.8). -/
def ClampRecord.columns (r : ClampRecord) : List Int :=
  [r.time, r.key.idx, r.key.sub, r.key.row, r.chan, r.reason, unsignedOf 8 r.requested, unsignedOf 8 r.applied]

/-- 0x2011:01 CommitPhase. -/
def State.commitPhase (s : State) : Nat :=
  match s.od.sealedSet with
  | some x => if x.atModeSwitch then 3 else 2
  | none => if s.od.staged.isEmpty then 0 else 1

/-- Row of 0x2102: the grove, off until S2 has started it. -/
def State.groveRow (s : State) (g : Nat) : List Int :=
  [if s.power.stage < 2 then 3 else (s.grove g).state, (s.grove g).since, ((s.grove g).nextWake.getD 0 : Nat)]

/-- Status and age of row `i` of the running mode (0x4300). -/
def State.sectionRow (s : State) (i : Nat) : List Int :=
  match (s.sections s.mode).find? fun r => r.row == i with
  | some r => [(s.view r.id).status, (s.view r.id).age]
  | none => [0, 0]

/-- Row of 0x4310: the presence section committed for a position. -/
def State.nodeRow (s : State) (k : Nat) : List Int :=
  let v := s.view (0xF40 + k)
  let p := readPresence k v.value
  if v.everHeld then
    [p.name, ofBool ((s.n 0x4001 9).testBit k), p.rank, p.flags, p.digest, p.epoch, p.age]
  else []

/-- Row of 0xA001: a firmware slot. -/
def State.slotRow (s : State) (i : Nat) : List Int :=
  let b := s.slotPackage i
  [ofBool (s.slotValid i), ofBool (s.flash.activeSlot == i), ofBool (s.flash.trialSlot == some i), packageVersion b,
    packageSecurity b, (ofLe (digest32 (manifestOf b)) : Nat)]

/-- Row of 0xA021: MACsec on a port. -/
def State.macsecRow (s : State) (p : Nat) : List Int :=
  match s.kiln.mka.get? p with
  | some k => [ofBool (s.hasSas p), ((k.txSa.map Prod.fst).getD 0 : Nat), k.txPn, (k.sessions.headD MkaSession.init).peers.length,
      ofBool (s.keyServer p (k.sessions.headD MkaSession.init)),
      (k.expires.getD 0 : Nat), (((k.rxSas ++ k.oldRxSas).map Prod.fst).dedup.length : Nat)]
  | none => []

/-- The lasting instances, newest first (0xB002). -/
def State.lastingRows (s : State) : List (List Int) :=
  let add := fun (l : List (Nat × FaultInstance)) (e : Nat × FaultInstance) =>
    (l.takeWhile fun x => e.2.since < x.2.since) ++ [e] ++ (l.dropWhile fun x => e.2.since < x.2.since)
  ((s.faults.instances.filter fun e => e.2.lasting).foldl add []).map fun e =>
    [(e.1 / 8388608 : Nat), (e.1 % 8388608 : Nat), e.2.since, e.2.actionTaken]

/-- The state of an engine as 0x7011 shows it: 0 idle, 1 running, 2 waiting for the collector, 3 restarting. -/
def State.engineState (s : State) (e : Nat) : Nat :=
  let x := s.engine e
  if x.restarting then 3 else if x.result.isSome then 2 else if x.run.isSome then 1 else 0

/-- Column `sub` of a list of columns. -/
def column (l : List Int) (sub : Nat) : Int := pick l (sub - 1)

/-- The value of an object whose home is a typed field; none for the others. P+8 SegmentDigests reads 0 for a mode without an
enabled row, and on a BB port (DESIGN CHOICE, unsafe: log entry 64). -/
def State.typed (s : State) (k : Key) : Option Int :=
  let row := k.row
  match k.idx with
  | 0x1F80 => some (match s.od.clampLog[row]? with
      | some r => column r.columns k.sub
      | none => 0)
  | 0x2011 => if k.sub = 1 then some s.commitPhase else if k.sub = 2 then some s.od.staged.length else none
  | 0x2043 => some s.flash.imageSequence
  | 0x2101 => some (column ((s.planRow row).map fun (x : Nat) => (x : Int)) k.sub)
  | 0x2102 => some (column (s.groveRow row) k.sub)
  | 0x2200 => match s.canopy.wakeLog.head? with
      | some w => if k.sub = 3 then some w.cause else if k.sub = 4 then some w.time else none
      | none => none
  | 0x2221 => some (match s.canopy.wakeLog[row]? with
      | some w => column [w.time, w.cause, w.port] k.sub
      | none => 0)
  | 0x3000 => some s.now
  | 0x3400 => if k.sub = 2 then some (s.seg row).offset else none
  | 0x4001 => if k.sub = 0xA then some s.ring.witnessEpoch else if k.sub = 0xB then some (s.shownDigest s.mode : Nat)
      else none
  | 0x4020 => some (((List.range 8).filter s.loaded).foldl (fun n m => n + 2 ^ m) 0 : Nat)
  | 0x4021 => some (s.shownDigest (k.sub - 1) : Nat)
  | 0x4300 => if k.sub ≤ 2 then some (column (s.sectionRow row) k.sub) else none
  | 0x4310 => some (column (s.nodeRow row) k.sub)
  | 0x6410 => if k.sub = 1 then some (s.depth row) else if k.sub = 2 then some (s.queued row).length
      else if k.sub = 3 then some (s.shaperCredit row) else none
  | 0x6510 => if k.sub = 5 then some (s.meterRefilled row).tc else if k.sub = 6 then some (s.meterRefilled row).te else none
  | 0x6701 => if k.sub = 1 then some (s.creditNow row)
      else if k.sub = 2 then some ((s.ringCredit row).eligible.getD 0 : Nat) else none
  | 0x7011 => if k.sub = 1 then some (s.engineState row) else none
  | 0x8201 => if k.sub ≤ 3 then some (ringColumns (s.hostRing true row) k.sub) else none
  | 0x8211 => if k.sub ≤ 3 then some (ringColumns (s.hostRing false row) k.sub) else none
  | 0x9011 => if k.sub = 4 && s.stackMaster then some (s.lentUseOf row) else none
  | 0x9040 => some (match s.twin.mismatchLog[row]? with
      | some r => column [r.time, r.cycle, r.kind, r.grove, r.engine, r.sid] k.sub
      | none => 0)
  | 0xA000 => match k.sub with
      | 1 => some (kstateCode s.kiln.state)
      | 2 => some s.flash.bootCount
      | 4 => some s.otp.rollback
      | 5 => some (if s.kiln.state == .booting || s.kiln.state == .recovery then 0 else packageSecurity (s.slotPackage s.kiln.slot) : Nat)
      | _ => none
  | 0xA001 => some (column (s.slotRow row) k.sub)
  | 0xA010 => some (column (match s.flash.ownerKey with
      | some (a, _) => [1, a, (ofLe s.ownerHash : Nat), s.ownerSlot, s.flash.ownerSequence]
      | none => [0, 0, 0, s.ownerSlot, s.flash.ownerSequence]) k.sub)
  | 0xA011 => some s.otp.locks
  | 0xA012 => some (column [ofBool s.flash.requireSigned, ofBool s.flash.advanceOnConfirm, s.flash.pairingMode,
      s.flash.cakLifetime] k.sub)
  | 0xA013 => some (match s.flash.lockedRanges[row]? with
      | some r => column [r.1, r.2] k.sub
      | none => 0)
  | 0xA014 => some (s.flash.allowList.getD row 0 : Nat)
  | 0xA021 => some (column (s.macsecRow row) k.sub)
  | 0xA022 => some (match s.flash.caks.get? row with
      | some c => column [(ofLe c.1 : Nat), 1, c.2.2] k.sub
      | none => 0)
  | 0xB002 => some (column (s.lastingRows.getD row []) k.sub)
  | 0xB020 => some (match s.events.newest with
      | some e => (ofLe e.encode : Nat)
      | none => 0)
  | 0xB022 => some (if s.events.next = 0 then 0 else s.events.next - 1 : Nat)
  | 0xB080 => some (match s.canopy.shutdown with
      | some c => column [c.1, c.2] k.sub
      | none => 0)
  | 0xB100 => some (ofLe s.healthRecord : Nat)
  | 0xC100 => some (s.item row : Nat)
  | _ => if 0x5000 ≤ k.idx && k.idx < 0x6000 && k.idx % 16 == 8 then
        some (if !isBB ((k.idx - 0x5000) / 16) && s.modeUsed ((k.idx - 0x5000) / 16) (k.sub - 1)
          then s.segDigest ((k.idx - 0x5000) / 16) (k.sub - 1) else 0 : Nat)
      else none
where
  ringColumns (r : HostRing) (sub : Nat) : Int := column [r.state.code, r.head, r.tail] sub

/-- The applied value of an object, wherever its home is. -/
def State.value (s : State) (k : Key) : Int := (s.typed k).getD (s.key k)

end Sys2Proof.Machine
end

