-- ==== Sys2Proof/Machine/Constrain.lean ====
section
/-! DEFINITION. Ranges and dependent fields (R46 to R48): what a written value becomes on its own, and the constraint that
each dependent field keeps, in ascending order of the key. -/

namespace Sys2Proof.Machine

/-! ## The range check of a written value (R46) -/

/-- A value brought into a range: the value, and the reason of Table 2.8 (0 kept, 1 range, 2 invalid enumeration). -/
def Rng.fit (r : Rng) (dflt v : Int) : Int × Nat :=
  match r with
  | .any => (v, 0)
  | .nums lo hi => let x := clampInt lo hi v; (x, if x = v then 0 else 1)
  | .enum l => if l.contains v then (v, 0) else (dflt, 2)
  | .mixed lo hi extra => if (lo ≤ v && v ≤ hi) || extra.contains v then (v, 0) else (dflt, 2)

/-- The divisors of 10^9. -/
def secondDivisors : List Nat := (List.range 10).flatMap fun a => (List.range 10).map fun b => 2 ^ a * 5 ^ b

/-- CycleLength as R85 replaces it: the largest divisor of 10^9 not above the value, and not below 25,000. -/
def fitCycleLength (v : Nat) : Nat :=
  (secondDivisors.filter fun d => d ≤ v && 25000 ≤ d).foldl max 25000

/-- SegmentCycleLength as R129 replaces it, for a backbone cycle length. -/
def fitSegmentLength (cycle v : Nat) : Nat :=
  let ok := secondDivisors.filter fun d => d % max 1 cycle == 0 && 1000000 ≤ d && d ≤ 1000000000
  match ok.filter (· ≤ v) with
  | [] => ok.foldl min 1000000000
  | l => l.foldl max 0

/-- Whether a SegmentCycleLength stands as it is (R129). -/
def segmentLengthFits (cycle v : Nat) : Bool :=
  v % max 1 cycle == 0 && 1000000 ≤ v && v ≤ 1000000000 && 1000000000 % v == 0

/-- SoftwareEvent with its source, bits 15 to 0, brought into 992 to 1,023 (R370). -/
def fitSoftwareEvent (v : Nat) : Nat := v - v % 65536 + min 1023 (max 992 (v % 65536))

/-- The range check of a write on its own (R46), with the replacements that a rule of the object states in place of the
nearer limit (R85, R129, R370). -/
def State.fitOwn (s : State) (k : Key) (c : Cell) (v : Int) : Int × Nat :=
  let r := (rangeOf k c).fit (defaultOf k) v
  if k.idx = 0x4000 && k.sub = 4 then
    let x : Int := fitCycleLength r.1.toNat
    (x, if x = v then 0 else 1)
  else if 0x5000 ≤ k.idx && k.idx < 0x6000 && k.idx % 16 = 3 && k.sub = 1 then
    let x : Int := fitSegmentLength s.cycleLength r.1.toNat
    (x, if x = v then 0 else 1)
  else if k.idx = 0xB030 then
    let x : Int := fitSoftwareEvent v.toNat
    (x, if x = v then 0 else 1)
  else r

/-! ## Dependent fields -/

/-- ⌈a / b⌉. -/
def ceilDiv (a b : Nat) : Nat := if b = 0 then 0 else (a + b - 1) / b

/-- The correction that gives a key a value, where it has another: reason 3, dependency. -/
def State.become (s : State) (k : Key) (v : Int) : List (Key × Int × Nat) := if s.key k = v then [] else [(k, v, 3)]

/-- The same for a natural number. -/
def State.becomeN (s : State) (k : Key) (v : Nat) : List (Key × Int × Nat) := s.become k (v : Int)

/-- The nearest earlier of some rows that satisfies a test. -/
def nearestBefore (row : Nat) (ok : Nat → Bool) : Option Nat := ((List.range row).reverse).find? ok

/-- The two round-frame lanes, lower and higher (R14). -/
def State.lanePair (s : State) : Nat × Nat := (min s.westLane s.eastLane, max s.westLane s.eastLane)

/-- R126: round frames. -/
def State.fixRound (s : State) (k : Key) : List (Key × Int × Nat) :=
  let m := k.row / 8
  let v := (s.key k).toNat
  match k.sub with
  | 2 =>
    let low := min v (s.cycleLength - 1)
    s.becomeN k (match nearestBefore (k.row % 8) (fun j => s.on 0x4110 1 (8 * m + j)) with
      | some j =>
        max low (s.n 0x4110 2 (8 * m + j) + ceilDiv ((s.n 0x4110 3 (8 * m + j) + 75) * 8 * 1000) (s.lineRate s.westLane))
      | none => low)
  | 3 =>
    let down := v - v % 8
    s.becomeN k (if k.row % 8 = 0 then max 88 down else down)
  | _ => []

/-- The used rows of 0x4120 before a row, of its mode, ascending: the two fixed ones, and those with a SectionId. -/
def State.usedBefore (s : State) (row : Nat) : List Nat :=
  let base := row / 1024 * 1024
  [base, base + 1] ++ (s.od.dict.filterMap fun e =>
    if e.1.idx == 0x4120 && e.1.sub == 1 && base + 2 ≤ e.1.row && e.1.row < row then some e.1.row else none)

/-- The end of a section in the body: its header of 8 bytes and its payload. -/
def State.sectionEnd (s : State) (row : Nat) : Nat := s.n 0x4120 4 row + 8 + s.n 0x4120 5 row

/-- R126: sections of a mode. A row whose SectionId is 0xFFFF is unused: it has no identifier, but its round, its place and
its length keep their constraints. -/
def State.fixSection (s : State) (k : Key) : List (Key × Int × Nat) :=
  let r := k.row
  let m := r / 1024
  let id := s.n 0x4120 1 r
  let named := id != 0xFFFF
  let round := s.n 0x4120 2 r
  let v := (s.key k).toNat
  if r % 1024 < 2 then []
  else
    match k.sub with
    | 1 => if named && (s.usedBefore r).any fun x => s.n 0x4120 1 x == id then s.become k 0xFFFF else []
    | 2 => s.becomeN k (if (named && 0xF00 ≤ id) || !s.on 0x4110 1 (8 * m + v) then 0 else v)
    | 3 => if named && 0xF00 ≤ id then s.become k 0 else []
    | 4 =>
      let up := (v + 7) / 8 * 8
      s.becomeN k (match (s.usedBefore r).reverse.find? fun x => s.n 0x4120 2 x == round with
        | some x => max up (s.sectionEnd x)
        | none => up)
    | 5 =>
      let wanted := if id = 0xF00 then 16 else if named && 0xF40 ≤ id then 24 else v
      let room := s.n 0x4110 3 (8 * m + round) - s.n 0x4120 4 r - 8
      if min wanted room < 8 then s.become ⟨0x4120, r, 1⟩ 0xFFFF
      else s.becomeN k (min wanted room)
    | _ => []

/-- R14 and R156: the objects of a port. -/
def State.fixPort (s : State) (k : Key) : List (Key × Int × Nat) :=
  let p := (k.idx - 0x5000) / 16
  let v := (s.key k).toNat
  let bit := s.bitTime p
  match k.idx % 16, k.sub with
  | 0, 3 =>
    if p = s.lanePair.2 && s.lanePair.1 ≠ p then s.becomeN k (s.port s.lanePair.1 0 3) else []
  | 2, 1 => if s.portMode p = 1 then s.become k 0 else []
  | 3, 1 => if segmentLengthFits s.cycleLength v then [] else s.becomeN k (fitSegmentLength s.cycleLength v)
  | 3, 3 => if isBB p then [] else s.becomeN k (max v (ceilDiv (s.port p 3 2) bit))
  | 4, sub =>
    let base := k.row / 64 * 64
    let i := k.row % 64
    let owner := s.port p 4 2 k.row
    let earlier := (List.range i).filter fun j => s.portOn p 4 1 (base + j)
    match sub with
    | 3 =>
      match (earlier.filter fun j => !isLK p || s.port p 4 2 (base + j) == owner).getLast? with
      | some j => s.becomeN k (max v (s.port p 4 3 (base + j) + s.port p 4 4 (base + j)))
      | none => []
    | 4 =>
      let least := s.port p 3 3 + ceilDiv (s.port p 3 2) bit + frameBits p 64 + 96
      let most := s.port p 3 1 / bit - s.port p 4 3 k.row
      if most < least then s.become ⟨k.idx, k.row, 1⟩ 0 else s.becomeN k (min most (max v least))
    | 5 =>
      let syncs := earlier.filter fun j => (s.port p 4 5 (base + j)).testBit 0
      if v.testBit 0 && (15 ≤ syncs.length || syncs.any fun j => s.port p 4 2 (base + j) == owner) then
        s.becomeN k (v - 1)
      else []
    | _ => []
  | _, _ => []

/-- R235: task rows. -/
def State.fixTask (s : State) (k : Key) : List (Key × Int × Nat) :=
  let e := k.idx - 0x7100
  let m := k.row / 64
  let row := fun (i : Nat) (sub : Nat) => s.n k.idx sub (64 * m + i)
  let v := (s.key k).toNat
  let base := s.timeBase e m
  let len := if base = 0xFFFF then s.cycleLength else s.port base 3 1
  let fn := s.n k.idx 2 k.row
  match k.sub with
  | 3 =>
    let low := min v (len - 1)
    s.becomeN k (match nearestBefore (k.row % 64) (fun j => row j 1 != 0) with
      | some j => max low (row j 3 + ceilDiv (row j 4 * 5) 8)
      | none => low)
  | 4 =>
    let b := min v ((len - s.n k.idx 3 k.row) * 8 / 5)
    s.becomeN k b ++ (if b < 64 then s.become ⟨k.idx, k.row, 1⟩ 0 else [])
  | 5 => s.becomeN k (min v (functionTableRows fn - 1))
  | 6 =>
    let most := functionTableRows fn - s.n k.idx 5 k.row
    s.becomeN k (min (min v most) (if fn = 7 then 126 else 16384))
  | _ => []

/-- The ranges of a resource of 0x8100 in the rows before `row`: start and end, of those that are not empty. -/
def State.rangesBefore (s : State) (sub row : Nat) : List (Nat × Nat) :=
  (List.range row).filterMap fun r =>
    let f := s.n 0x8100 sub r
    let n := s.n 0x8100 (sub + 1) r
    if n = 0 then none else some (f, f + n)

/-- A First moved to the end of the ranges in which it lies, until it lies in none. -/
def moveOut : Nat → List (Nat × Nat) → Nat → Nat
  | 0, _, f => f
  | fuel + 1, l, f =>
    match l.find? fun x => x.1 ≤ f && f < x.2 with
    | some x => moveOut fuel l x.2
    | none => f

/-- The total of a resource of 0x8100 by its First column: transmit rings, receive rings, event queues, vectors. -/
def resourceTotal (sub : Nat) : Nat := if sub = 5 then 1024 else if sub = 7 then 2048 else 4096

/-- R278: the resources of a function. -/
def State.fixResource (s : State) (k : Key) : List (Key × Int × Nat) :=
  let v := (s.key k).toNat
  if k.sub % 2 = 1 then
    s.becomeN k (moveOut 66 (s.rangesBefore k.sub k.row) v)
  else
    let first := s.n 0x8100 (k.sub - 1) k.row
    let above := ((s.rangesBefore (k.sub - 1) k.row).filter fun x => first < x.1).map Prod.fst
    s.becomeN k (min v (above.foldl min (resourceTotal (k.sub - 1)) - first))

/-- The highest instance of a histogram kind and of a threshold quantity (Tables 12.6 and 12.7). -/
def kindInstances (kind : Nat) : Nat := if kind = 1 then 2047 else if kind = 2 then 8191 else 4095
def quantityInstances (q : Nat) : Option Nat :=
  match q with
  | 1 => some 2047
  | 3 => some 7
  | 4 | 5 => some 4095
  | 7 => some 127
  | _ => none

/-- The corrections that the constraint of a dependent field asks for, with their reasons. -/
def State.constrain (s : State) (k : Key) : List (Key × Int × Nat) :=
  let v := s.key k
  let row := k.row
  match k.idx, k.sub with
  | 0x2100, 3 => s.become k (max v (2 * s.obj 0x2100 2 row))
  | 0x2230, 2 => if s.on 0x2230 1 then [] else s.become k 0
  | 0x3110, 4 => s.become k (max v (s.obj 0x3110 3))
  | 0x3110, 5 => s.become k (max v (s.obj 0x3110 4))
  | 0x3610, 4 => if s.obj 0x3610 3 row = 0 then [] else s.become k (min v (s.obj 0x3610 3 row - 10))
  | 0x4000, 1 => if s.stackMember then s.become k 0 else []
  | 0x4000, 3 => if s.westLane = s.eastLane then s.become k (if s.westLane = 0 then 32 else 0) else []
  | 0x4110, _ => s.fixRound k
  | 0x4120, _ => s.fixSection k
  | 0x4140, 2 => s.become k (min v (s.obj 0x4000 4 - 1))
  | 0x6000, 2 => if isSG row then s.become k 0 else []
  | 0x6100, 5 => s.become k (min v (s.obj 0x6100 4 row))
  | 0x6400, 2 => s.become k (min v (s.lineRate (row / 8) * 1000 : Nat))
  | 0x7400, 4 => s.become k (v - v % 8)
  | 0x7400, 5 => s.become k (min v (s.obj 0x4000 4 - 1))
  | 0x7402, 2 =>
    let image := s.n 0x7402 1 row
    s.become k (if image = 0xFF then v - v % 8 else min (v - v % 8) (s.obj 0x7400 4 image - 24))
  | 0x8100, _ => s.fixResource k
  | 0x8200, 1 => if 256 ≤ v && v < 1024 && !(s.stackMaster && s.memberPresent (v.toNat / 256)) then [(k, 0xFFFF, 2)] else []
  | 0x9000, 1 => if v = 2 && s.n 0x1003 0 != 0 then s.become k 0 else []
  | 0x9020, 1 => if s.n 0x9000 1 = 2 then [] else s.become k 0
  | 0x9020, 3 => if s.n 0x2001 0 = v.toNat then s.become k 0 else []
  | 0x9020, 5 => s.becomeN k (max (2 * s.cycleLength) (ceilDiv v.toNat s.cycleLength * s.cycleLength))
  | 0x9020, 6 => s.becomeN k (min v.toNat (s.cycleLength / 4))
  | 0xA020, 3 => if row % 32 = 0 || 256 ≤ row then s.become k 1 else []
  | 0xA020, 4 => if row < 256 && s.on 0x6000 2 row then s.become k (max v 64) else []
  | 0xA020, 5 =>
    if row < 256 && isSG row then (if v = 0 then [(k, 1, 2)] else [])
    else if v = 1 && s.otp.locks.testBit 3 then [(k, 0, 2)] else []
  | 0xB000, 1 => if row = 1 || row = 22 then s.become k (defaultOf k) else []
  | 0xB000, 2 => s.become k (if row = 1 || row = 22 then defaultOf k else v - v % 16)
  | 0xB010, 2 => if v < 256 && maskBit (s.obj 0x2030 0) v.toNat then [] else s.become ⟨0xB010, row, 1⟩ 0
  | 0xC000, 2 => s.becomeN k (max s.cycleLength (v.toNat - v.toNat % s.cycleLength))
  | 0xC000, 5 => s.become k (v - v % 8)
  | 0xC002, 2 =>
    let others := (List.range (row % 8)).foldl (fun n j => n + s.n 0xC002 2 (row - row % 8 + j)) 0
    s.becomeN k (min (min v.toNat (27600 - s.n 0xC002 1 row)) (503 - others))
  | 0xC010, 3 => s.becomeN k (min v.toNat (kindInstances (s.n 0xC010 2 row)))
  | 0xC020, 2 => (quantityInstances (s.n 0xC020 1 row)).elim [] fun m => s.becomeN k (min v.toNat m)
  | i, sub =>
    if 0x5000 ≤ i && i < 0x6000 then s.fixPort k
    else if 0x6200 ≤ i && i < 0x6300 && sub = 3 then
      let p := i - 0x6200
      if row < s.n 0x6100 6 p then
        let used := (List.range row).foldl (fun n j => n + s.n i 3 j) 0
        s.becomeN k (min v.toNat (s.n 0x6100 4 p - used))
      else []
    else if 0x7100 ≤ i && i < 0x7180 then s.fixTask k
    else []

/-- The keys of some columns in some rows of an object. -/
def rowKeys (idx : Nat) (rows subs : List Nat) : List Key := rows.flatMap fun r => subs.map fun sub => ⟨idx, r, sub⟩

/-- The numbers from `a` up to, not including, `b`. -/
def span (a b : Nat) : List Nat := (List.range (b - a)).map (· + a)

/-- The rows after `row` in its block of `n` rows. -/
def laterRows (row n : Nat) : List Nat := span (row + 1) (row / n * n + n)

/-- Offset and Budget of the task rows of an engine in a mode. -/
def taskKeys (e m : Nat) : List Key := rowKeys (engineIdx 0x7100 e) (span (64 * m) (64 * m + 64)) [3, 4]

/-- The engines with a task row that is not at its defaults; no task row of another breaks its constraint, whatever the cycle
length. -/
def State.taskEngines (s : State) : List Nat :=
  (s.od.dict.filterMap fun e => if 0x7100 ≤ e.1.idx && e.1.idx < 0x7180 then some (e.1.idx - 0x7100) else none).dedup

/-- LineRate of the backbone lanes. -/
def laneRates : List Key := (List.range 8).map fun g => ⟨portIdx (32 * g) 0, 0, 3⟩

/-- The dependent fields of P+0 to P+4 and elsewhere whose constraint reads a field of a port. -/
def State.portDependents (s : State) (c : Key) : List Key :=
  let p := (c.idx - 0x5000) / 16
  let slots := fun (subs : List Nat) => rowKeys (portIdx p 4) (List.range 512) subs
  let here := fun (subs : List Nat) => subs.map fun sub => (⟨c.idx, c.row, sub⟩ : Key)
  let later := fun (subs : List Nat) => rowKeys c.idx (laterRows c.row 64) subs
  match c.idx % 16, c.sub with
  | 0, 2 => [⟨portIdx p 2, 0, 1⟩]
  | 0, 3 => (if isBB p then laneRates else []) ++ [⟨portIdx p 3, 0, 3⟩] ++ slots [4] ++ rowKeys 0x6400 (span (8 * p) (8 * p + 8)) [2]
  | 3, 1 => slots [4] ++ s.taskEngines.flatMap fun e => (List.range 8).flatMap fun m => if s.timeBase e m = p then taskKeys e m else []
  | 3, 2 => [⟨c.idx, 0, 3⟩] ++ slots [4]
  | 3, 3 => slots [4]
  | 4, 1 => later [3, 5]
  | 4, 2 => here [3, 5] ++ later [3, 5]
  | 4, 3 => here [4] ++ later [3]
  | 4, 4 => later [3]
  | 4, 5 => later [5]
  | _, _ => []

/-- The later fields whose constraint reads a field (R48): every row of theirs, enabled or not, at its defaults or not. -/
def State.dependents (s : State) (c : Key) : List Key :=
  let here := fun (subs : List Nat) => subs.map fun sub => (⟨c.idx, c.row, sub⟩ : Key)
  match c.idx, c.sub with
  | 0x2001, _ => [⟨0x9020, 0, 3⟩]
  | 0x2030, _ => rowKeys 0xB010 (List.range 8) [2]
  | 0x2100, 2 | 0x3610, 3 | 0x3110, 3 | 0x3110, 4 | 0x2230, 1 | 0x6100, 4 | 0xB010, 1 | 0xC010, 2 | 0xC020, 1 | 0x7402, 1 =>
    here [c.sub + 1] ++ (if c.idx = 0x6100 then rowKeys (portTable 0x6200 c.row) (List.range (s.n 0x6100 6 c.row)) [3] else [])
  | 0x6100, 6 => rowKeys (portTable 0x6200 c.row) (List.range (s.n 0x6100 6 c.row)) [3]
  | 0x4000, 2 => [⟨0x4000, 0, 3⟩] ++ rowKeys 0x4110 (List.range 64) [2] ++ laneRates
  | 0x4000, 3 => laneRates
  | 0x4000, 4 =>
    rowKeys 0x4110 (List.range 64) [2] ++ rowKeys 0x4140 (List.range 128) [2] ++
      (List.range 256).map (fun p => ⟨portIdx p 3, 0, 1⟩) ++
      (s.taskEngines.flatMap fun e => (List.range 8).flatMap fun m => taskKeys e m) ++
      rowKeys 0x7400 (List.range 64) [5] ++ [⟨0x9020, 0, 5⟩, ⟨0x9020, 0, 6⟩, ⟨0xC000, 0, 2⟩]
  | 0x4110, sub =>
    rowKeys 0x4110 (laterRows c.row 8) [2] ++
      rowKeys 0x4120 (span (1024 * (c.row / 8)) (1024 * (c.row / 8) + 1024)) (if sub = 1 then [2] else if sub = 3 then [5] else [])
  | 0x4120, 1 => here [2, 3, 4, 5] ++ rowKeys 0x4120 (laterRows c.row 1024) [1, 4]
  | 0x4120, 2 => here [4, 5] ++ rowKeys 0x4120 (laterRows c.row 1024) [4]
  | 0x4120, 4 => here [5] ++ rowKeys 0x4120 (laterRows c.row 1024) [4]
  | 0x4120, 5 => rowKeys 0x4120 (laterRows c.row 1024) [4]
  | 0x6000, 2 => [⟨0xA020, c.row, 4⟩]
  | 0x7010, 2 => taskKeys (c.row / 8) (c.row % 8)
  | 0x7400, 4 => (s.od.dict.filter fun e => e.1.idx == 0x7402 && e.1.sub == 1 && e.2.toNat == c.row).map fun e => ⟨0x7402, e.1.row, 2⟩
  | 0x8100, sub =>
    let first := sub - (1 - sub % 2)
    (if sub % 2 = 1 then here [sub + 1] else []) ++ rowKeys 0x8100 (span (c.row + 1) 66) [first, first + 1]
  | 0x9000, 1 => [⟨0x9020, 0, 1⟩]
  | 0xC002, sub => (if sub = 1 then here [2] else []) ++ rowKeys 0xC002 (laterRows c.row 8) [2]
  | i, sub =>
    if 0x5000 ≤ i && i < 0x6000 then s.portDependents c
    else if 0x6200 ≤ i && i < 0x6300 && sub = 3 then rowKeys i (span (c.row + 1) (s.n 0x6100 6 (i - 0x6200))) [3]
    else if 0x7100 ≤ i && i < 0x7180 then
      (match sub with
        | 2 => here [5, 6]
        | 3 => here [4]
        | 5 => here [6]
        | _ => []) ++ (if sub = 1 || sub = 3 || sub = 4 then rowKeys i (laterRows c.row 64) [3] else [])
    else []

/-- Puts a key into an ascending list, once. -/
def insertKey (k : Key) : List Key → List Key
  | [] => [k]
  | x :: xs => if k = x then x :: xs else if k.lt x then k :: x :: xs else x :: insertKey k xs

/-- An ascending list of keys without repeats. -/
def sortKeys (l : List Key) : List Key := l.foldr insertKey []

/-! ## Clamps (R49) -/

/-- The code of a channel in the clamp log, bit 7 for an image; and in event 897 (Table 2.8). -/
def channelCode : Chan → Nat
  | .pf0 => 1
  | .relay => 2
  | .pdu _ => 3
  | .image => 4

/-- Whether a write came from an image: the channel code of a staged write carries it at 128. -/
def chanCode (chan : Chan) (fromImage : Bool) : Nat := channelCode chan + (if fromImage then 128 else 0)

/-- A clamp is logged and counted, and raises event 897 with the channel's code. -/
def noteClamp (k : Key) (code reason : Nat) (requested applied : Int) : Eff :=
  .look fun s => .all [
    .upd (.clamp ⟨s.now, k, code % 128, reason + (code / 128) * 128, requested, applied⟩),
    bumpObj 0x1F81 0, count (commonsItem 66), raise 897 (code % 128)]

/-- Keys, each with the channel code of the write behind it. -/
abbrev Changes := List (Key × Nat)

/-- Puts a check into an ascending list; the one that stands there for the same key stays. -/
def insertCheck (x : Key × Nat) : Changes → Changes
  | [] => [x]
  | y :: ys => if x.1 = y.1 then y :: ys else if x.1.lt y.1 then x :: y :: ys else y :: insertCheck x ys

/-- The checks that wait, with those of the fields that read some changed keys and break their constraint as it now stands
(R48). A field that a later change breaks joins at that change. -/
def State.enlist (s : State) (changed : List Key) (code : Nat) (waiting : Changes) : Changes :=
  ((changed.flatMap s.dependents).filter fun k => !(s.constrain k).isEmpty).foldr (fun k l => insertCheck (k, code) l) waiting

/-- Credits of a shaper and of a ring rate are brought up to now at the old configuration, before it changes (R183, R185). -/
def creditsUpTo (k : Key) : Eff :=
  .all [.when (k.idx == 0x6400) (touchShaper k.row), .when (k.idx == 0x6100) (touchShapers k.row),
    .when (k.idx == 0x6700) (ringRateTouch k.row)]

/-- Applies the corrections of one field. -/
def applyFixes (code : Nat) (atCommit : Bool) (l : List (Key × Int × Nat)) : Eff :=
  .forEach l fun f => .look fun s => .all [
    noteClamp f.1 code f.2.2 (s.key f.1) f.2.1,
    creditsUpTo f.1,
    .upd (.obj f.1 f.2.1),
    .when atCommit (bumpObj 0x2011 4)]

/-- The dependency pass (R47, R48): the checks that wait are made in ascending key; a field whose check corrects it calls
for the checks of those that read it. `go` continues with every change made. The fuel is more than the fields there are. -/
def checkDependents (atCommit : Bool) : Nat → Changes → Changes → (Changes → Eff) → Eff
  | 0, _, ch, go => go ch
  | _, [], ch, go => go ch
  | n + 1, (k, code) :: ks, ch, go =>
    .look fun s =>
      let fixes := s.constrain k
      .seq (applyFixes code atCommit fixes) (.look fun t =>
        checkDependents atCommit n (t.enlist (fixes.map Prod.fst) code ks) ((fixes.map fun f => (f.1, code)) ++ ch) go)

end Sys2Proof.Machine
end

