-- ==== Sys2Proof/Machine/Apply.lean ====
section
/-! DEFINITION. Values taking effect: the writes of RW and RWS objects, and the sealed set of a commit (R44, R45, R47), with
what the functions do about the objects that change. -/

namespace Sys2Proof.Machine

/-! ## What changes -/

/-- The keys among some changes whose value is another than in the state before, ascending. -/
def State.differing (s before : State) (ch : Changes) : List Key :=
  sortKeys ((ch.map Prod.fst).filter fun k => before.key k != s.key k)

/-- The rows of an object among some keys, in columns that a test picks. -/
def rowsOf (l : List Key) (idx : Nat) (col : Nat → Bool) : List Nat :=
  ((l.filter fun k => k.idx == idx && col k.sub).map Key.row).dedup

/-- Whether some keys hold one of an object, in columns that a test picks. -/
def touches (l : List Key) (idx : Nat) (col : Nat → Bool) : Bool := l.any fun k => k.idx == idx && col k.sub

/-- Any column. -/
def anyCol (_ : Nat) : Bool := true

/-- The ports whose gate configuration is among some keys: 0x6100 and 0x6200 + p. -/
def gatePorts (l : List Key) : List Nat :=
  (l.filterMap fun k =>
    if k.idx = 0x6100 then some k.row
    else if 0x6200 ≤ k.idx && k.idx < 0x6300 then some (k.idx - 0x6200) else none).dedup

/-- The ports whose segment configuration P+3 or P+4 is among some keys. -/
def segmentPorts (l : List Key) : List Nat :=
  (l.filterMap fun k =>
    if 0x5000 ≤ k.idx && k.idx < 0x6000 && (k.idx % 16 == 3 || k.idx % 16 == 4) then some ((k.idx - 0x5000) / 16) else none).dedup

/-! ## Before and after -/

/-- A commit that changes P+3 or P+4 of a port whose segment function runs: the port keeps its old values up to its next
segment cycle boundary, and PendingConfig reads 1 (R147). Without a view there is no boundary to wait for. -/
def holdSegment (before : State) (p : Nat) : Eff :=
  .whenS (fun s => s.segmentPort p) (.look fun s =>
    if s.hasView p then
      .seq (segSet p fun g => { g with
          frozen := some (g.frozen.getD (before.od.dict.filter fun e => e.1.idx == portIdx p 3 || e.1.idx == portIdx p 4)) })
        (setPort p 1 7 1)
    else setPort p 1 4 (s.segModeFor p s.mode))

/-- The ports whose PortMode P+0:02 is among some keys. -/
def modePorts (l : List Key) : List Nat :=
  (l.filterMap fun k =>
    if 0x5000 ≤ k.idx && k.idx < 0x6000 && k.idx % 16 == 0 && k.sub == 2 then some ((k.idx - 0x5000) / 16) else none).dedup

/-- Whether a plan of R401 has an input among some keys. -/
def planInputs (l : List Key) : Bool :=
  l.any fun k => k.idx == 0x2100 || k.idx == 0x4000 || k.idx == 0x4110 || k.idx == 0x4120 || k.idx == 0x4130 ||
    k.idx == 0x7010 || (0x5000 ≤ k.idx && k.idx < 0x6000 && k.idx % 16 ≤ 4) || (0x7100 ≤ k.idx && k.idx < 0x7180)

/-- The TwinEnable of a stack function that is stopped takes a value (R290). -/
def twinEnableFollows : Eff :=
  .look fun s =>
    if s.on 0x9020 1 then setTwinState twSilent
    else .seq (setTwinState 0) (setN 0x9021 3 0)

/-- What the functions do about changed objects; `written` are the keys that were written, changed or not. -/
def functionsFollow (before : State) (written diff : List Key) : Eff :=
  .look fun s => .all [
    .when (touches diff 0x3100 anyCol || touches diff 0x3101 anyCol || before.timeSource != s.timeSource) sourceChanged,
    .forEach (rowsOf written 0x3610 anyCol) armPulses,
    .when (touches diff 0x3500 anyCol || touches diff 0x3501 anyCol || touches diff 0x3102 anyCol) showRoles,
    .when (touches diff 0x4000 (· == 4)) (setN 0x4001 6 (s.now / max 1 s.cycleUnits)),
    .forEach (segmentPorts diff) (holdSegment before),
    .forEach (modePorts diff) fun p => .whenS (fun s => !s.keepsPresence p) (presenceEnds p),
    .forEach (rowsOf diff 0x6000 anyCol) preemptionCommit,
    .forEach (gatePorts written) gateCommit,
    .forEach (rowsOf diff 0x6400 (· ≤ 3)) fun q => shaperCommit q (touches (diff.filter fun k => k.row == q) 0x6400 (· == 1)),
    .forEach (rowsOf diff 0x6020 (· == 1)) generatorStarts,
    .forEach (rowsOf diff 0x6500 anyCol) fun m => meterCommit m (before.meterState m) (touches (diff.filter fun k => k.row == m) 0x6500 (· == 1)),
    .forEach (rowsOf diff 0x6700 anyCol) ringRateChanged,
    .forEach (List.range 8) fun g => .seq (.forEach (rowsOf diff (0x7210 + g) anyCol) (checkRestarts g))
      (.forEach (rowsOf diff (0x7230 + g) anyCol) (abortTransaction g)),
    .when (touches diff 0x7000 anyCol || touches diff 0x7010 anyCol) (.forEach (List.range 128) baseWatch),
    .when (touches diff 0x9000 (· == 1) && s.stackMember) (.seq (setN 0x4000 1 0) ringDisableAct),
    .when (touches diff 0x9020 (· == 1) && 4 ≤ s.power.stage) twinEnableFollows,
    .when (touches diff 0x9020 (· == 2)) rankFollows,
    .forEach (rowsOf diff 0xA020 fun c => c == 1 || c == 5 || c == 6) macsecFollows,
    .forEach (rowsOf diff 0xB000 (· == 2)) windowChanged,
    .when (touches diff 0xB000 (· == 4)) updateFaultPin,
    .when (diff.any fun k => 0xC000 ≤ k.idx && k.idx ≤ 0xC0FF) (.upd (.reader fun r => { r with flagChanged := true })),
    .when (touches diff 0xC000 (· == 2)) (.upd (.reader fun r => { r with lastSnapshot := none, frozen := none })),
    .forEach (rowsOf diff 0xC010 fun c => c != 1) histogramClears,
    .forEach (rowsOf diff 0xC020 anyCol) thresholdRestarts,
    .when (touches written 0x2220 (· == 3)) armWake,
    .when (touches diff 0x3700 (· == 1) && s.n 0x3700 1 == 1) (setN 0x2250 1 1),
    .when (touches diff 0x2230 (· == 1)) (setN 0x2230 3 (if s.on 0x2230 1 then 1 else 0))]

/-! ## Taking effect -/

/-- The checks that writes call for: of each written field, and of those that read one whose value has changed. -/
def State.firstChecks (s before : State) (written : Changes) : Changes :=
  (written.filter fun c => before.key c.1 != s.key c.1).foldl (fun l c => s.enlist [c.1] c.2 l)
    (written.foldl (fun l c => insertCheck c l) [])

/-- Values take effect together: raw first, then the dependent fields in ascending order (R47, R48), then the functions
follow. `go` continues with every change. -/
def takeEffect (atCommit : Bool) (ws : List StagedWrite) (go : Changes → Eff) : Eff :=
  .look fun before =>
    let written : Changes := ws.map fun w => (w.key, w.chan)
    let keys := written.map Prod.fst
    .all [
      .forEach keys creditsUpTo,
      .forEach ws fun w => .upd (.obj w.key w.value),
      .look fun s => checkDependents atCommit 1000000 (s.firstChecks before written) written fun ch =>
        .look fun t =>
          let diff := t.differing before ch
          .all [
            functionsFollow before (sortKeys (ch.map Prod.fst)) diff,
            .when (atCommit && planInputs diff) (buildPlans (((ch.head?.map Prod.snd).getD 1) % 128)),
            go ch]]

/-- The sealed set applies (R45): all its writes at one instant. -/
def sealedApplies : Eff :=
  .look fun s => .ofOption s.od.sealedSet fun x => .all [
    .upd .dropSealed, setN 0x2011 4 0,
    takeEffect true x.writes (fun _ => .skip),
    .look fun t => setN 0x2011 3 t.cycle, count (commonsItem 69), noteConfig]

/-- Whether a set is sealed with value 1. A set sealed for a mode switch waits for that. -/
def State.sealedForBoundary (s : State) : Bool := s.od.sealedSet.any fun x => !x.atModeSwitch

/-- Whether its boundary has come, or 1 ms has passed where no cycle is running (R45). -/
def State.sealedDue (s : State) : Bool :=
  s.od.sealedSet.any fun x => x.cycle != s.cycle || (decide (s.power.stage < 4) && s.after x.since (nsUnits 1000000))


/-! ## Functions switched by RW objects -/

/-- PortEnable is written (Table 5.3, R149, R357): 1 starts the port function and ends a listen-only of R357; 0 stops
every transmission. -/
def portSwitched (p : Nat) (enable changed : Bool) : Eff :=
  .all [
    .upd (.faults fun f => { f with listenOnlyPorts := f.listenOnlyPorts.erase p }),
    if enable then .all [portStart p, gatesNow p, showPreemption p]
    else .when changed (portHalts p),
    .when changed (.seq applyPolicies showRoles)]

/-- StackPortEnable is written (R280): a port that is switched off falls silent. -/
def stackPortSwitched (n : Nat) (enable : Bool) : Eff := .when (!enable) (stopStackPort n)

/-- What a written RW object switches, once functions run (S4). -/
def switchFunction (before : State) (k : Key) : Eff :=
  .look fun s =>
    if s.power.stage < 4 then .skip
    else if k.idx = 0x4000 && k.sub = 1 then
      (if s.on 0x4000 1 then
        (if s.stackMember then setN 0x4000 1 0 else ringEnableAct)
      else ringDisableAct)
    else if 0x5000 ≤ k.idx && k.idx < 0x6000 && k.idx % 16 = 0 && k.sub = 1 then
      portSwitched ((k.idx - 0x5000) / 16) (s.on k.idx 1) (before.on k.idx 1 != s.on k.idx 1)
    else if k.idx = 0x9001 then stackPortSwitched k.row (s.on 0x9001 1 k.row)
    else .skip

end Sys2Proof.Machine
end

