-- ==== Sys2Proof/Machine/Serve.lean ====
section
/-! DEFINITION. Serving the dictionary (R31 to R53, R439): the checks of an access record in their order, reads, writes,
commits, configuration images, and the objects whose write starts an action. -/

namespace Sys2Proof.Machine

/-! ## Finding what a record addresses (R31 to R35, R42) -/

/-- The byte order of a channel (R33): the PF0 mailbox is little-endian. -/
def bigEndian (chan : Chan) : Bool := !(chan == .pf0)

/-- What a record addresses: its key, cell, access right, and the row capacity of its object. -/
structure Access where
  key : Key
  cell : Cell
  acc : Acc
  rows : Nat

/-- The entry at subindex 0 of a RECORD, ARRAY or TABLE: its entry or column count (R32). -/
def countCell (o : Obj) : Cell := ⟨.u8, (o.cells.length : Nat), .any, some .const⟩

/-- The cell of an object at a subindex and row, the row ignored where there are none (R31, R32). -/
def Obj.access (o : Obj) (sub row : Nat) : Option Access :=
  if sub = 0 && o.shape != .single then some ⟨⟨o.idx, 0, 0⟩, countCell o, .const, o.rows⟩
  else
    match o.cellAt sub with
    | some c => if o.shape == .table then
        (if row < o.rows then some ⟨⟨o.idx, row, sub⟩, c, o.accOf c, o.rows⟩ else none)
      else some ⟨⟨o.idx, 0, sub⟩, c, o.accOf c, o.rows⟩
    | none => none

/-- The applied channel mask of a cell (R34, R35): the default mask, narrowed by the rows of 0x2020 that name it. -/
def State.appliedMask (s : State) (k : Key) (a : Acc) : Nat :=
  let rows := (s.od.dict.filter fun e => e.1.idx == 0x2020 && e.1.sub == 1 && e.2 == (k.idx : Int)).map fun e => e.1.row
  rows.foldl (fun m r => if s.n 0x2020 2 r = k.sub then m &&& s.n 0x2020 3 r else m) (defaultMask k.idx k.sub a)

/-- The mask bits of a channel: read and write. -/
def maskBits : Chan → Nat × Nat
  | .pf0 => (0, 1)
  | .relay => (2, 3)
  | .pdu _ => (4, 5)
  | .image => (6, 6)

/-- Whether a channel's mask grants an access; the image from flash is checked against no mask (R53). -/
def State.granted (s : State) (chan : Chan) (writing : Bool) (x : Access) : Bool :=
  chan == .image || (s.appliedMask x.key x.acc).testBit (if writing then (maskBits chan).2 else (maskBits chan).1)

/-- Whether the bring-up stage serves an index to a channel (R43): before S5 only identity and status, in RECOVERY only
0x1000 and 0x1001, and during S3 no write but the image's. -/
def State.stageServes (s : State) (chan : Chan) (writing : Bool) (idx : Nat) : Bool :=
  chan == .image ||
    (if s.power.stage < 5 then
      0x1000 ≤ idx && idx < 0x2000 && !(writing && s.power.stage == 3) &&
        (s.kiln.state != .recovery || (chan == .pf0 && idx ≤ 0x1001))
    else true)

/-- Whether the owner has locked an index against writes (R334). -/
def State.ownerLocks (s : State) (idx : Nat) : Bool := s.flash.lockedRanges.any fun r => r.1 ≤ idx && idx ≤ r.2

/-- The checks of R42 up to the access right, in their order; `exempt` records of a verified image pass a locked range
(R334). -/
def State.locate (s : State) (chan : Chan) (writing exempt : Bool) (t : Target) : Nat ⊕ Access :=
  if s.od.controllerDown then .inl stBusy
  else if !s.stageServes chan writing t.index then .inl stNotReady
  else if 0xF000 ≤ t.index then .inl stLocked
  else
    match objectAt t.index with
    | none => .inl stNoObject
    | some o =>
      if writing && !exempt && s.ownerLocks t.index then .inl stLocked
      else
        match o.access t.sub t.row with
        | none => .inl stNoSubindex
        | some x =>
          if !s.granted chan writing x then .inl stDenied
          else if writing && (x.acc == .const || x.acc == .ro || (t.index == 0x4120 && x.key.row % 1024 < 2)) then .inl stDenied
          else .inr x

/-! ## Reading -/

/-- A reply to a record: status, type code and value bytes. -/
abbrev Reply := Nat → Nat → Bytes → Eff

/-- An answered record; one with an error status is counted. -/
def answer (k : Reply) (status type : Nat) (value : Bytes) : Eff :=
  .seq (.when (0x10 ≤ status) (count (commonsItem 65))) (k status type value)

/-- The staged value of a key (R44): of the open staging set, else of the sealed set. -/
def State.stagedValue (s : State) (k : Key) : Option Int :=
  match s.od.staged.find? fun w => w.key == k with
  | some w => some w.value
  | none => (s.od.sealedSet.bind fun x => x.writes.find? fun w => w.key == k).map fun w => w.value

/-- The value that a READ or READ_STAGED returns. -/
def State.readValue (s : State) (staged : Bool) (x : Access) : Int :=
  if x.key.sub = 0 && x.acc == .const && x.cell.ty == .u8 && x.key.row == 0 && (objectAt x.key.idx).any (fun o => o.shape != .single)
  then x.cell.dflt
  else if staged && x.acc == .rwc then (s.stagedValue x.key).getD (s.value x.key)
  else s.value x.key

/-- Whether the Offset and Length of a read fit the type (R37); a read carries no value bytes (Table 2.4). -/
def readFits (ty : Ty) (length : Nat) (t : Target) : Bool :=
  length == 0 &&
    match ty with
    | .octets n => decide (t.offset ≤ n)
    | _ => t.offset == 0

/-- A READ or READ_STAGED record with its Length; `room` is what its value may take in the response. A READ of a HighWater
row resets its columns (R194). -/
def readRecord (chan : Chan) (staged : Bool) (room length : Nat) (t : Target) (k : Reply) : Eff :=
  .look fun s =>
    match s.locate chan false false t with
    | .inl st => answer k st 0 []
    | .inr x =>
      let type := x.cell.ty.code
      if x.acc == .wo then answer k stDenied type []
      else if !readFits x.cell.ty length t then answer k stLength type []
      else
        let bytes := ((valueBytes (bigEndian chan) x.cell.ty (s.readValue staged x)).drop t.offset).take 1024
        if room < (padTo8 bytes).length then answer k stLength type []
        else .seq (answer k stOk type bytes) (.when (t.index == 0x6810 && 1 ≤ t.sub) (highWaterReset x.key.row))

/-- The least and greatest value that a cell's range names (R439), those of a list and the extra values of an interval
among them; the limits of its type where it names none (DESIGN CHOICE, unsafe: log entry 37). -/
def rangeLimits (ty : Ty) (r : Rng) : Int × Int :=
  match r with
  | .nums lo hi => (lo, hi)
  | .enum (v :: vs) => (vs.foldl min v, vs.foldl max v)
  | .mixed lo hi extra => (extra.foldl min lo, extra.foldl max hi)
  | _ => (ty.minVal, ty.maxVal)

/-- The limits of a key: an offset in the cycle ranges up to the applied CycleLength less 1 (Tables 4.12 and 7.9). -/
def State.limitsOf (s : State) (k : Key) (c : Cell) : Int × Int :=
  if (k.idx = 0x4110 && k.sub = 2) || (k.idx = 0x4140 && k.sub = 2) || (k.idx = 0x7400 && k.sub = 5) then
    (0, (s.cycleLength : Int) - 1)
  else rangeLimits c.ty (rangeOf k c)

/-- Objects whose Default the tables give as the running firmware, the booted slot or a strap (R439, Tables 2.12 and 8.16). -/
def defaultIsLive (k : Key) : Bool :=
  (k.idx == 0x1000 && (k.sub == 5 || k.sub == 6)) || k.idx == 0x1003 || (k.idx == 0x8000 && (k.sub == 1 || k.sub == 7))

/-- Status columns that stand at another value than 0 before anything has happened, and for which the tables give no Default
(R439, Tables 6.11 and 8.16). -/
def defaultUnstated (k : Key) : Bool :=
  (k.idx == 0x6001 && k.sub == 3) || (k.idx == 0x6101 && 8 ≤ k.sub) || (k.idx == 0x8101 && k.sub == 2)

/-- The default that DESCRIBE gives (R439): the count at subindex 0 of an object of several entries; 0 where the tables give
none. -/
def State.describedDefault (s : State) (x : Access) : Int :=
  if x.acc == .const && (objectAt x.key.idx).any (fun o => o.shape != .single) && x.key.sub == 0 then x.cell.dflt
  else if defaultUnstated x.key then 0
  else if defaultIsLive x.key then s.value x.key
  else defaultOf x.key

/-- The 32 bytes that DESCRIBE returns (R439). -/
def State.describe (s : State) (chan : Chan) (x : Access) : Bytes :=
  let big := bigEndian chan
  let limits := s.limitsOf x.key x.cell
  let numbers := match x.cell.ty with
    | .time | .octets _ => [0, 0, 0]
    | _ => [s.describedDefault x, limits.1, limits.2]
  beBytes 1 x.cell.ty.code ++ beBytes 1 x.acc.code ++ beBytes 1 (s.appliedMask x.key x.acc) ++ beBytes 1 0 ++
    wordBytes big 4 x.rows ++ numbers.flatMap fun v => wordBytes big 8 (unsignedOf 8 v)

/-- A DESCRIBE record: served where the channel may read or write the object; which mask bit it needs the manual does not
say (DESIGN CHOICE, unsafe: log entry 37). -/
def describeRecord (chan : Chan) (room length : Nat) (t : Target) (k : Reply) : Eff :=
  .look fun s =>
    match s.locate chan false false t, s.locate chan true true t with
    | .inl st, .inl _ => answer k st 0 []
    | .inl _, .inr x | .inr x, _ =>
      let type := x.cell.ty.code
      if t.offset != 0 || length != 0 || room < 32 then answer k stLength type []
      else answer k stOk type (s.describe chan x)

/-! ## The state of the owning function (R42, R120, R147, R155, R240, R280) -/

/-- The mode of a pending mode request, at the master and at a follower. -/
def State.requestedMode (s : State) : Option Nat :=
  match s.ring.request with
  | some r => some r.mode
  | none => s.ring.followRequest.map Prod.fst

/-- Whether the function that owns an RWS object runs; none runs before S4. -/
def State.functionRuns (s : State) (k : Key) : Bool :=
  4 ≤ s.power.stage &&
    (if k.idx = 0x2001 || k.idx = 0x4000 then s.on 0x4000 1 || s.ringState != ringDisabled
     else if 0x5000 ≤ k.idx && k.idx < 0x6000 then s.portEnabled ((k.idx - 0x5000) / 16)
     else if k.idx = 0x8100 then (if k.row < 2 then (s.function k.row).busMaster else s.host.vfEnable)
     else if 0x9000 ≤ k.idx && k.idx < 0xA000 then s.stackRuns
     else true)

/-- Whether a write answers STATE for the function's sake. -/
def State.writeHeld (s : State) (x : Access) : Bool :=
  let k := x.key
  let perMode := if k.idx = 0x4110 then 8 else if k.idx = 0x4120 then 1024 else if k.idx = 0x4140 then 16 else 0
  (x.acc == .rws && s.functionRuns k) ||
    (perMode != 0 && (match s.requestedMode with
      | some m => k.row / perMode == s.mode || k.row / perMode == m
      | none => false)) ||
    (0x5000 ≤ k.idx && k.idx < 0x6000 && k.idx % 16 == 4 && (match (s.seg ((k.idx - 0x5000) / 16)).nextMode with
      | some m => k.row / 64 == s.segMode ((k.idx - 0x5000) / 16) || k.row / 64 == m
      | none => false))

/-! ## Commit (R45) -/

/-- Commit with value 1 or 2: the staging set is sealed, and gated groves run again at its boundary (R405). An empty set
applies nothing. -/
def commitSeals (atModeSwitch : Bool) : Eff :=
  .look fun s => .when (!s.od.staged.isEmpty)
    (.seq (.upd (.seal atModeSwitch)) (.when (!atModeSwitch) (wakeBefore (s.cycleStart (s.cycle + 1)))))

/-- Commit with value 3 discards the staging set, sealed or not. -/
def commitDiscards : Eff := .seq (.upd .dropStaged) (.upd .dropSealed)

/-- Commit written. -/
def commitAct (v : Int) : Eff :=
  if v = 3 then commitDiscards else commitSeals (v == 2)

/-! ## Objects whose write starts an action -/

/-- Whether a power request is refused (R396, R397). -/
def State.powerRefused (s : State) : Bool := s.leaseHeld || s.od.imageBusy || s.od.sealedSet.isSome

/-- The status with which a write of an action object is refused; OK where the action runs. -/
def State.actionStatus (s : State) (k : Key) (v : Int) : Nat :=
  let unless' := fun (ok : Bool) => if ok then stOk else stState
  match k.idx with
  | 0x2010 => if v != 3 && s.od.sealedSet.isSome then stBusy else stOk
  | 0x2200 => unless' (v == 0 || !s.powerRefused)
  | 0x3002 => unless' s.timeStepAllowed
  | 0x3003 => unless' s.timeAdjustAllowed
  | 0x4010 => unless' (v == 0 || s.requestAllowed)
  | 0x9030 => unless' (v == 0 || s.switchoverAllowed)
  | 0xB050 => unless' (isBB v.toNat || s.tdrAllowed v.toNat)
  | _ => stOk

/-- SoftwareEvent (R370). -/
def softwareRaises (v : Nat) : Eff := raiseFull 0 (v % 65536) 0 (v / 65536 % 2147483648) none

/-- An accepted PowerRequest (R396, R397). -/
def powerRequested (v : Int) : Eff :=
  .look fun s => .upd (.power fun w => { w with
    dormantPending := w.dormantPending || v == 1, idlePending := w.idlePending || v == 2
    requestCycle := s.cycle, requestSince := s.elapsed })

/-- What a write of an action object does. -/
def actionOf (k : Key) (v : Int) : Eff :=
  match k.idx, k.sub with
  | 0x1F82, _ => .when (v == 1) (.upd .clearClamps)
  | 0x2010, _ => commitAct v
  | 0x2200, _ => .when (v == 1 || v == 2) (powerRequested v)
  | 0x2210, _ => .when (v == 0x424E5253) (resetIn 1000000)
  | 0x3002, _ => timeStepAct v.toNat
  | 0x3003, _ => timeAdjustAct v
  | 0x3602, _ => ppsInSecondsAct v.toNat
  | 0x4010, _ => .when (v == 1) requestGoAct
  | 0x6022, _ => unblock v.toNat
  | 0x8500, 1 => disableRing true v.toNat
  | 0x8500, _ => disableRing false v.toNat
  | 0x9030, _ => .when (v == 1) (releaseBegin false)
  | 0xB030, _ => softwareRaises v.toNat
  | 0xB050, _ => .when (!isBB v.toNat) (tdrStart v.toNat)
  | _, _ => .skip

/-! ## Writing (R37, R42, R44, R46, R47) -/

/-- Whether the Offset and Length of a write fit the type: an OCTETS value of up to 1,024 bytes is written whole, a
longer one in pieces; another type has Offset 0 and its size. A piece of Length 0 does not fit (DESIGN CHOICE, unsafe: log
entry 37). -/
def writeFits (ty : Ty) (t : Target) (bs : Bytes) : Bool :=
  match ty with
  | .octets n =>
    if n ≤ 1024 then t.offset == 0 && bs.length == n
    else decide (1 ≤ bs.length) && decide (bs.length ≤ 1024) && decide (t.offset + bs.length ≤ n)
  | _ => t.offset == 0 && bs.length == ty.size

/-- The low 8 bytes of a TIME as the clamp log carries it: nanoseconds, fraction, reserved. -/
def timeLow (ns frac : Nat) : Int := ((ns * 4294967296 + frac * 65536 : Nat) : Int)

/-- The clamp of a nanoseconds field (R46). -/
def clampTime (k : Key) (code : Nat) (big : Bool) (bs : Bytes) : Eff :=
  let ns := wordOf big (slice bs 8 4)
  let frac := wordOf big (slice bs 12 2)
  .when (999999999 < ns) (noteClamp k code 1 (timeLow ns frac) (timeLow 999999999 frac))

/-- Where a write comes from: its channel, the byte order of its value, whether an image carries it, and whether that
image's signature was verified. -/
structure WriteFrom where
  chan : Chan
  big : Bool
  fromImage : Bool
  exempt : Bool

/-- The code that the clamp log and a staged write carry. -/
def WriteFrom.code (w : WriteFrom) : Nat := chanCode w.chan w.fromImage

/-- A value that has passed the checks: staged, applied at once, or an action (Table 2.2). `k` takes the status. -/
def putValue (w : WriteFrom) (x : Access) (v : Int) (clamped : Bool) (k : Nat → Eff) : Eff :=
  let status := if clamped then stClamped else stOk
  match x.acc with
  | .rwc => .seq (.upd (.stage ⟨x.key, v, w.code⟩)) (k status)
  | .wo => .seq (actionOf x.key v) (k status)
  | _ =>
    .look fun before => .all [
      takeEffect false [⟨x.key, v, w.code⟩] (fun _ => .skip),
      switchFunction before x.key,
      .look fun s => k (if clamped || s.key x.key != v then stClamped else stOk)]

/-- A written value after its own range check: the value, and the reason of Table 2.8 where it was replaced. -/
def State.fitWritten (s : State) (w : WriteFrom) (x : Access) (bs : Bytes) : Int × Nat :=
  s.fitOwn x.key x.cell (valueOf w.big x.cell.ty bs).1

/-- The checks of a write in the order of R42: status and type of the first that fails, or what the record addresses. -/
def State.admitWrite (s : State) (w : WriteFrom) (t : Target) (bs : Bytes) : (Nat × Nat) ⊕ Access :=
  match s.locate w.chan true w.exempt t with
  | .inl st => .inl (st, 0)
  | .inr x =>
    let type := x.cell.ty.code
    let action := if x.acc == .wo then s.actionStatus x.key (s.fitWritten w x bs).1 else stOk
    if s.od.imageBusy && w.chan != .image then .inl (stBusy, type)
    else if !writeFits x.cell.ty t bs then .inl (stLength, type)
    else if s.writeHeld x then .inl (stState, type)
    else if action != stOk then .inl (action, type)
    else .inr x

/-- A WRITE record. `image` runs an ImageApply and gives its status; `k` takes status and type. -/
def writeRecord (w : WriteFrom) (image : Int → (Nat → Eff) → Eff) (t : Target) (bs : Bytes) (k : Nat → Nat → Eff) : Eff :=
  .look fun s =>
    match s.admitWrite w t bs with
    | .inl st => k st.1 st.2
    | .inr x =>
      let type := x.cell.ty.code
      let v := (valueOf w.big x.cell.ty bs).1
      let cut := (valueOf w.big x.cell.ty bs).2
      let fit := s.fitWritten w x bs
      let clamps := Eff.seq (.when cut (clampTime x.key w.code w.big bs))
        (.when (fit.2 != 0) (.seq (noteClamp x.key w.code fit.2 v fit.1)
          (.when (t.index == 0xB030) (raise 920 (fit.1.toNat % 65536 % 256)))))
      if t.index = 0x2040 then .seq (.upd (.write .image t.offset bs)) (k stOk type)
      else if t.index = 0x2041 then
        .seq clamps (image fit.1 fun st => k (if st = stOk && fit.2 != 0 then stClamped else st) type)
      else .seq clamps (putValue w x fit.1 (cut || fit.2 != 0) fun st => k st type)

/-! ## Images (R52, R53, R335) -/

/-- The outcome of the records of an image so far: applied, rejected, the first rejected. -/
structure ImageTally where
  applied : Nat
  rejected : Nat
  first : Nat

/-- Counts record number `n` of an image by its status. -/
def ImageTally.add (c : ImageTally) (n status : Nat) : ImageTally :=
  if status < 0x10 then { c with applied := c.applied + 1 }
  else { c with rejected := c.rejected + 1, first := if c.first = 0 then n else c.first }

/-- The keys that stand at another value than their default: applied, or staged. -/
def State.nonDefaultKeys (s : State) : List Key := sortKeys (s.od.dict.map Prod.fst ++ s.od.staged.map StagedWrite.key)

/-- Restores the defaults of the RW, RWS and RWC objects that a test picks, as writes of the default values (Table 2.9,
Flags bit 2); a write that R42 would answer STATE, and one into a range that the owner has locked (R334), is left out
(DESIGN CHOICE, unsafe: log entry 38). -/
def restoreDefaults (w : WriteFrom) (which : Key → Bool) : Eff :=
  .look fun s => .forEach (s.nonDefaultKeys.filter which) fun k =>
    match (objectAt k.idx).bind fun o => o.access k.sub k.row with
    | some x =>
      .look fun t => .when ((x.acc == .rw || x.acc == .rws || x.acc == .rwc) && k.sub == x.key.sub && !t.writeHeld x &&
          (w.exempt || !t.ownerLocks k.idx))
        (putValue w x (defaultOf k) false fun _ => .skip)
    | none => .skip

/-- The records of an image in body order, up to its Commit record. An ImageApply inside an image answers BUSY. -/
def imageRecords (w : WriteFrom) : Nat → List ImageRecord → ImageTally → (ImageTally → Eff) → Eff
  | _, [], c, go => go c
  | n, r :: rs, c, go =>
    let next := fun (status : Nat) => imageRecords w (n + 1) rs (c.add n status) go
    let typed := (objectAt r.key.idx).bind fun o => (o.access r.key.sub r.key.row).map fun x => x.cell.ty.code
    if r.key.idx = 0x2010 && r.key.sub = 0 then go c
    else writeRecord w (fun _ k => k stBusy) ⟨r.key.idx, r.key.sub, r.key.row, 0⟩
      (if typed == some r.type || typed == none then r.value else []) fun status _ => next status

/-- The result of an image (0x2042). -/
def imageResult (status : Nat) (c : ImageTally) (clamps : Nat) : Eff :=
  .all [setN 0x2042 1 status, setN 0x2042 2 c.applied, setN 0x2042 3 c.rejected, setN 0x2042 4 c.first, setN 0x2042 5 clamps]

/-- The status of an image's Commit record: it is checked as any other (R42, R53). -/
def State.commitStatus (s : State) (w : WriteFrom) (value : Bytes) : Nat :=
  match s.admitWrite w ⟨0x2010, 0, 0, 0⟩ value with
  | .inl st => st.1
  | .inr _ => stOk

/-- An accepted image is applied: defaults where it asks for them, its records, its Commit, its sequence (R53). A Commit
record that fails a check is counted as rejected, and what the image has staged stays staged. -/
def imageTakes (chan : Chan) (b : Bytes) (rs : List ImageRecord) : Eff :=
  .look fun s =>
    let w : WriteFrom := ⟨chan, true, true, imageSigned b⟩
    .seq (.when ((imageFlags b).testBit 2) (restoreDefaults w fun _ => true))
      (imageRecords w 1 rs ⟨0, 0, 0⟩ fun c => .look fun t =>
        let status := t.commitStatus w ((rs.getLast?.map ImageRecord.value).getD [])
        let c' := c.add rs.length status
        .all [
          .when (status == stOk) (commitSeals ((imageFlags b).testBit 1)),
          flashSet fun f => { f with imageSequence := beAt b 24 4 },
          imageResult stOk c' ((t.n 0x1F81 0 + 4294967296 - s.n 0x1F81 0) % 4294967296),
          count (commonsItem 67), noteConfig])

/-- The Kiln stores an image for the next boot; the boot image becomes the previous one (R335). -/
def imageStores (b : Bytes) : Eff := flashSet fun f => { f with previousImage := f.bootImage, bootImage := some b }

/-- The image in the buffer: the bytes that its ImageLength names. -/
def State.bufferImage (s : State) : Bytes :=
  s.buffers.image.readBytes 0 (min 1048576 (max 64 (ofBe (s.buffers.image.readBytes 8 4))))

/-- ImageApply: 1 applies, 2 applies and stores, 3 stores (R53). The status of a rejected image answers the write. Value 3
checks nothing, and a Kiln in FAULT serves it as any other (DESIGN CHOICE, unsafe: log entry 38). -/
def imageAct (chan : Chan) (v : Int) (k : Nat → Eff) : Eff :=
  .look fun s =>
    let b := s.bufferImage
    if v = 3 then .seq (imageStores b) (k stOk)
    else
      .seq (countImage b (s.checkImage b true)) (match s.checkImage b true with
      | .inl st => .all [imageResult st ⟨0, 0, 0⟩ 0, count (commonsItem 68), k st]
      | .inr rs => .all [imageTakes chan b rs, .when (v == 2) (imageStores b), k stOk])

/-! ## Records as commands -/

/-- Whether a channel is served (R43): the mailbox from S1, management PDUs and the relay from S4, the image from flash in S3. -/
def State.serves (s : State) : Chan → Bool
  | .pf0 => 1 ≤ s.power.stage
  | .relay | .pdu _ => 4 ≤ s.power.stage
  | .image => s.power.stage == 3

/-- The dictionary answers a channel that is served, in ACTIVE and IDLE (R43). -/
def answering (chan : Chan) (e : Eff) : Eff :=
  .whenS (fun s => (s.power.state == .active || s.power.state == .idle) && s.serves chan) e

/-- The response of a record by itself. -/
def respond (chan : Chan) : Reply := fun status type value => emit (.response (channelCode chan) status type value)

/-- A write from a channel. -/
def plainWrite (chan : Chan) : WriteFrom := ⟨chan, bigEndian chan, false, false⟩

/-- A WRITE record as a channel sends it. -/
def serveWrite (chan : Chan) (t : Target) (bs : Bytes) (k : Reply) : Eff :=
  writeRecord (plainWrite chan) (imageAct chan) t bs fun status type => answer k status type []

/-! ## The accesses of one datapath cycle (R50, R51) -/

/-- The rank of a channel's accesses, ascending (R50): management PDUs by descending port, the relay, PF0; the image from
flash is the module's own. The module's own state machines rank above them (`hardwareWrites`); a VF reaches no object of the
dictionary, and register accesses of one datapath cycle come as commands in ascending rank (log entry 3). -/
def channelRank : Chan → Nat
  | .pdu p => 255 - p % 256
  | .relay => 256
  | .pf0 => 257
  | .image => 258

/-- The fault occurrences among the accesses of a datapath cycle. -/
def cycleFaults (l : List SameCycle) : List (Nat × Nat) :=
  l.filterMap fun a => match a with
    | .fault cls inst => some (cls, inst)
    | _ => none

/-- A write of a datapath cycle. -/
structure CycleWrite where
  chan : Chan
  target : Target
  value : Bytes

/-- The writes among the accesses of a datapath cycle, and the reads. -/
def cycleWrites (l : List SameCycle) : List CycleWrite :=
  l.filterMap fun a => match a with
    | .write c t v => some ⟨c, t, v⟩
    | _ => none
def cycleReads (l : List SameCycle) : List (Chan × Target) :=
  l.filterMap fun a => match a with
    | .read c t => some (c, t)
    | _ => none

/-- Puts a write into an order of ascending rank, after those of its rank. -/
def insertRanked (w : CycleWrite) : List CycleWrite → List CycleWrite
  | [] => [w]
  | x :: xs => if channelRank x.chan ≤ channelRank w.chan then x :: insertRanked w xs else w :: x :: xs

/-- The writes of a datapath cycle in ascending rank. -/
def sortRanked (l : List CycleWrite) : List CycleWrite := l.foldl (fun a w => insertRanked w a) []

/-- The key that a write addresses, where it passes its checks. -/
def State.cycleKey (s : State) (w : CycleWrite) : Option Key :=
  match s.admitWrite (plainWrite w.chan) w.target w.value with
  | .inl _ => none
  | .inr x => some x.key

/-- Whether a write addresses an object whose write starts an action. -/
def startsAction (w : CycleWrite) : Bool :=
  ((objectAt w.target.index).bind fun o => (o.access w.target.sub w.target.row).map Access.acc) == some .wo

/-- A write of a datapath cycle; one that a write of higher rank to the same object overwrites is applied and answered
SUPERSEDED, and an action runs once, with the value of the highest rank (R51). -/
def cycleWrite (higher : List (Option Key)) (k : Option Key) (w : CycleWrite) : Eff :=
  let beaten := k.isSome && higher.contains k
  if beaten && startsAction w then answer (respond w.chan) stSuperseded ((typeCode w.target).getD 0) []
  else serveWrite w.chan w.target w.value fun status type value =>
    respond w.chan (if beaten && status < 0x10 then stSuperseded else status) type value
where
  typeCode (t : Target) : Option Nat := (objectAt t.index).bind fun o => (o.access t.sub t.row).map fun x => x.cell.ty.code

/-- Writes in ascending rank; `hardware` are the objects that the module's own state machines write in the same cycle. -/
def cycleWritesApply (hardware : List (Option Key)) : List (Option Key × CycleWrite) → Eff
  | [] => .skip
  | w :: ws => .seq (cycleWrite (ws.map Prod.fst ++ hardware) w.1 w.2) (cycleWritesApply hardware ws)

/-- The writes that start no action, then those that do, so that they join the set that a Commit seals (R45). -/
def channelWrites (hardware : List (Option Key)) (ws : List (Option Key × CycleWrite)) : Eff :=
  .seq (cycleWritesApply hardware (ws.filter fun w => !startsAction w.2))
    (cycleWritesApply hardware (ws.filter fun w => startsAction w.2))

/-- Fault occurrences of a datapath cycle: what the module's own state machines then write (R357) ranks above every channel. -/
def hardwareWrites (l : List (Nat × Nat)) : Eff := .forEach l fun f => faultOccur f.1 f.2 fun _ => .skip

/-- The objects among some keys that the state machines write, once the channels' writes stand. -/
def State.hardwareKeys (s : State) (faults : List (Nat × Nat)) (ws : List (Option Key × CycleWrite)) : List (Option Key) :=
  let after := (channelWrites [] ws).run s
  let final := (hardwareWrites faults).run after
  (ws.map Prod.fst).filter fun k => k.any fun x => after.key x != final.key x

/-- The accesses of one datapath cycle (R50, R51): reads return what stands at its start, then writes are applied in
ascending rank, those of the module's own state machines last. -/
def serveCycle (l : List SameCycle) : Eff :=
  .seq (.forEach (cycleReads l) fun r => readRecord r.1 false 1024 0 r.2 (respond r.1))
    (.look fun s =>
      let ws := (sortRanked (cycleWrites l)).map fun w => (s.cycleKey w, w)
      .seq (channelWrites (if (cycleFaults l).isEmpty then [] else s.hardwareKeys (cycleFaults l) ws) ws)
        (hardwareWrites (cycleFaults l)))

/-- A WRITE record of a value to a single object or entry. -/
def writeObject (chan : Chan) (idx sub row : Nat) (v : Int) : Eff :=
  answering chan (match cellOf idx sub with
    | some c => serveWrite chan ⟨idx, sub, row, 0⟩ (valueBytes (bigEndian chan) c.ty v) (respond chan)
    | none => .skip)

end Sys2Proof.Machine
end

