-- ==== Sys2Proof/Machine/Message.lean ====
section
/-! DEFINITION. Dictionary messages over the three channels (R36 to R41, R284): the PF0 mailbox, management PDUs and the
stack relay; and the commands that are records by themselves. -/

namespace Sys2Proof.Machine

/-! ## Messages in bytes (Tables 2.3 and 2.4) -/

/-- A record of a response or a relayed request. -/
def recordBytes (big : Bool) (t : Target) (op status type : Nat) (value : Bytes) : Bytes :=
  wordBytes big 2 t.index ++ beBytes 1 t.sub ++ beBytes 1 op ++ beBytes 1 status ++ beBytes 1 type ++ wordBytes big 2 t.row ++
    wordBytes big 4 t.offset ++ wordBytes big 2 value.length ++ beBytes 2 0 ++ padTo8 value

/-- The tag of a message. -/
def messageTag (big : Bool) (m : Bytes) : Nat := wordOf big (slice m 2 2)

/-- The records of a request message, or the message status that answers it with no records (Table 2.3). -/
def State.parseMessage (s : State) (big : Bool) (m : Bytes) : Nat ⊕ List Request :=
  if m.length < 8 then .inl stLength
  else if beAt m 0 1 != 1 then .inl stState
  else if s.od.controllerDown then .inl stBusy
  else if beAt m 1 1 != 1 || beAt m 5 1 == 0 then .inl stLength
  else
    match readRequests big (beAt m 5 1) (m.drop 8) with
    | some rs => .inr rs
    | none => .inl stLength

/-- A message answered with a status and no records. -/
def refuseMessage (big : Bool) (m : Bytes) (status : Nat) (reply : Bytes → Eff) : Eff :=
  .seq (count (commonsItem 65)) (reply (messageHead big 2 (messageTag big m) status 0))

/-! ## Serving a message (R36, R37) -/

/-- A record whose Op is none of Table 2.4 is malformed: LENGTH, after the checks that come before it (R42). -/
def malformedRecord (chan : Chan) (t : Target) (k : Reply) : Eff :=
  .look fun s =>
    match s.locate chan false false t with
    | .inl st => answer k st 0 []
    | .inr x => answer k stLength x.cell.ty.code []

/-- One record of a request, by its Op. -/
def serveRecord (chan : Chan) (room : Nat) (r : Request) (k : Reply) : Eff :=
  if r.op = 1 then readRecord chan false room r.length r.target k
  else if r.op = 2 then serveWrite chan r.target r.value k
  else if r.op = 3 then describeRecord chan room r.length r.target k
  else if r.op = 4 then readRecord chan true room r.length r.target k
  else malformedRecord chan r.target k

/-- The records of a request in their order; `room` is what the response can still take. -/
def serveRecords (chan : Chan) : List Request → Nat → Bytes → (Bytes → Eff) → Eff
  | [], _, acc, go => go acc
  | r :: rs, room, acc, go =>
    serveRecord chan (room - 16 - 16 * rs.length) r fun status type value =>
      let b := recordBytes (bigEndian chan) r.target r.op status type value
      serveRecords chan rs (room - b.length) (acc ++ b) go

/-- A request message, answered within `limit` bytes. -/
def serveMessage (chan : Chan) (limit : Nat) (m : Bytes) (reply : Bytes → Eff) : Eff :=
  let big := bigEndian chan
  .seq (count (commonsItem 64)) (.look fun s =>
    match s.parseMessage big m with
    | .inl st => refuseMessage big m st reply
    | .inr rs => serveRecords chan rs (limit - 8) [] fun body =>
      reply (messageHead big 2 (messageTag big m) stOk rs.length ++ body))

/-! ## Relaying to a member or to the twin's peer (R40, R284) -/

/-- The member that a channel's requests go to: entry 1 of 0x9010 for the mailbox, 2 for management PDUs. -/
def State.selected (s : State) (entry : Nat) : Nat :=
  let m := s.n 0x9010 entry
  if s.stackMaster || (s.twinHalf && m == 1) then m else 0

/-- Whether a request is for 0x9010 itself, and is served here. -/
def forSelector (rs : List Request) : Bool := rs.any fun r => r.target.index == 0x9010

/-- Whether requests can be relayed to a member now. -/
def State.reaches (s : State) (m : Nat) : Bool := s.stackUsable s.portToward && (s.twinHalf || s.memberPresent m)

/-- A value of a type code in the other byte order. -/
def swapValue (type : Nat) (v : Bytes) : Bytes :=
  if type = 0x0D then v
  else if type = 0x0A then (v.take 8).reverse ++ ((v.drop 8).take 4).reverse ++ ((v.drop 12).take 2).reverse ++ v.drop 14
  else v.reverse

/-- The value of a DESCRIBE response in the other byte order. -/
def swapDescription (v : Bytes) : Bytes :=
  v.take 4 ++ ((v.drop 4).take 4).reverse ++ ((v.drop 8).take 8).reverse ++ ((v.drop 16).take 8).reverse ++
    ((v.drop 24).take 8).reverse

/-- The type code of what a record addresses. -/
def typeOf (t : Target) : Nat := ((objectAt t.index).bind fun o => (o.access t.sub t.row).map fun x => x.cell.ty.code).getD 0x0D

/-- A request as it is relayed: big-endian, under the module's own tag. -/
def relayedRequest (big : Bool) (tag : Nat) (rs : List Request) : Bytes :=
  messageHead true 1 tag 0 rs.length ++ rs.flatMap fun r =>
    recordBytes true r.target r.op 0 0 (if big then r.value else swapValue (typeOf r.target) r.value)

/-- The records of a response, with their status and type bytes. -/
def readResponses : Nat → Bytes → List (Request × Nat × Nat)
  | 0, _ => []
  | n + 1, b =>
    match readRequests true 1 b with
    | some (r :: _) => (r, beAt b 4 1, beAt b 5 1) :: readResponses n (b.drop (16 + (r.length + 7) / 8 * 8))
    | _ => []

/-- A member's response in a client's byte order, under the client's tag. -/
def returnedResponse (big : Bool) (tag : Nat) (m : Bytes) : Bytes :=
  let rs := readResponses (beAt m 5 1) (m.drop 8)
  messageHead big 2 tag (beAt m 4 1) rs.length ++ rs.flatMap fun r =>
    recordBytes big r.1.target r.1.op r.2.1 r.2.2
      (if big then r.1.value else if r.1.op = 3 then swapDescription r.1.value else swapValue r.2.2 r.1.value)

/-- The lowest tag that no relayed request uses. -/
def State.freeTag (s : State) : Nat := ((List.range 65536).find? fun t => (s.twin.relayTags.get? t).isNone).getD 0

/-- A request goes to the member that its channel selects; one that cannot be reached answers BUSY. -/
def relayRequest (member : Nat) (client : RelayClient) (big : Bool) (m : Bytes) (rs : List Request) (reply : Bytes → Eff) : Eff :=
  .look fun s =>
    let tag := s.freeTag
    if s.reaches member then
      .seq (.upd (.twin fun t => { t with relayTags := t.relayTags.set tag { client with member := member } }))
        (.seq (count (twinItem 30)) (sendOnStack s.portToward false (.relay s.portToward member (relayedRequest big tag rs))))
    else refuseMessage big m stBusy reply

/-- A request of a client that may be relayed: served here, unless its channel selects a member. -/
def serveOrRelay (chan : Chan) (entry : Nat) (client : RelayClient) (limit : Nat) (m : Bytes) (reply : Bytes → Eff) : Eff :=
  .look fun s =>
    match s.parseMessage (bigEndian chan) m with
    | .inr rs =>
      if s.selected entry != 0 && !forSelector rs then
        .seq (count (commonsItem 64)) (relayRequest (s.selected entry) client (bigEndian chan) m rs reply)
      else serveMessage chan limit m reply
    | .inl _ => serveMessage chan limit m reply

/-! ## The PF0 mailbox (R38, Tables 2.5 and 2.6) -/

/-- Whether the mailbox's request waits for a member's response. -/
def State.mailboxRelayed (s : State) : Bool := s.twin.relayTags.any fun e => e.2.port == none

/-- MBXCTL.GO: the request is taken over; a GO while BUSY sets OVERRUN. It wakes an IDLE module. -/
def mailboxGo (tag : Nat) : Eff :=
  .look fun s => .all [
    .upd (.mailbox fun b =>
      if b.busy then { b with tagReg := tag, overrun := true }
      else { b with tagReg := tag, tag := tag, busy := true, done := false, buffer := s.buffers.mailboxRequest.readBytes 0 4096 }),
    idleWake 4 0xFFFF]

/-- The request in progress is served. -/
def mailboxServed : Eff :=
  .whenS (fun s => s.od.mailbox.busy && !s.mailboxRelayed)
    (.look fun s =>
      let m := s.od.mailbox.buffer
      serveOrRelay .pf0 1 ⟨none, 0, messageTag false m, 0⟩ 4096 m mailboxReply)

/-! ## Management PDUs (R39, R40) -/

/-- Whether a management PDU is accepted: its port, and for writes a verified ICV; reads without one only on the ports of
0x2031. -/
def State.pduAccepted (s : State) (p : Nat) (icv : Icv) (rs : List Request) : Bool :=
  maskBit (s.obj 0x2030 0) p && (icv == .verified || (maskBit (s.obj 0x2031 0) p && !(rs.any fun r => r.op == 2)))

/-- A management PDU that has passed its port's checks. -/
def pduServed (p : Nat) (f : Frame) : Eff :=
  .look fun s =>
    let m := protocolBody f.data
    let mac := beAt f.data 6 6
    let rs := match s.parseMessage true m with
      | .inr rs => rs
      | .inl _ => []
    if !isProtocol f.data 3 || f.data.take 6 != s.macBytes p || beAt m 1 1 != 1 then .skip
    else if !s.pduAccepted p f.icv rs then
      .all [count (commonsItem 79), count (commonsItem 64), refuseMessage true m stAuthFailed (pduReply p mac)]
    else serveOrRelay (.pdu p) 2 ⟨some p, mac, messageTag true m, 0⟩ 1495 m (pduReply p mac)

/-- A management PDU received on a port; served from S4 (R43). -/
def pduArrives (p : Nat) (f : Frame) : Eff := offWrap p (received p f none (pduServed p))

/-! ## The relay's ends -/

/-- A relayed request at its member or at the peer half: checked against the stack-relay bits. One for a member beyond passes on
along the chain (R283, R284). -/
def relayArrives (port : Nat) (x : MemberMessage) : Eff :=
  stackArrives port (.look fun s =>
    if s.stackMember && x.member != s.n 0x1003 0 then sendOnStack (1 - port) false (.relay (1 - port) x.member x.bytes)
    else serveMessage .relay 4096 x.bytes fun r => sendOnStack port false (.relay port 0 r))

/-- A member's response comes back: to the mailbox or to the management client; at a member between, it passes on. -/
def relayReturns (port : Nat) (m : Bytes) : Eff :=
  stackArrives port (.look fun s =>
    let tag := messageTag true m
    if s.stackMember then sendOnStack (1 - port) false (.relay (1 - port) 0 m)
    else .ofOption (s.twin.relayTags.get? tag) fun c =>
      .seq (.upd (.twin fun t => { t with relayTags := t.relayTags.erase tag }))
        (clientReply c (returnedResponse c.bigEndian c.tag m)))

/-! ## The commands -/

/-- MAILBOX_GO. -/
def execMailboxGo (tag : Nat) (s : State) : Host.Outcome State Fault Refusal := 
  done (.seq (powered tlpReceived) (answering .pf0 (inD0 (fun _ => some 0) (mailboxGo (tag % 256))))) s

/-- MAILBOX_DONE. -/
def execMailboxDone (s : State) : Host.Outcome State Fault Refusal := done (answering .pf0 mailboxServed) s

/-- MANAGEMENT_PDU. -/
def execManagementPdu (port : Nat) (frame : Frame) (s : State) : Host.Outcome State Fault Refusal :=
  done (operating (.when (isPort port) (pduArrives port frame))) s

/-- STACK_RELAY_REQUEST. -/
def execStackRelayRequest (stackPort : Nat) (message : MemberMessage) (s : State) : Host.Outcome State Fault Refusal :=
  done (operating (relayArrives stackPort message)) s

/-- STACK_RELAY_RESPONSE. -/
def execStackRelayResponse (stackPort : Nat) (message : Bytes) (s : State) : Host.Outcome State Fault Refusal :=
  done (operating (relayReturns stackPort message)) s

/-- READ. -/
def execRead (chan : Chan) (target : Target) (s : State) : Host.Outcome State Fault Refusal :=
  done (answering chan (readRecord chan false 1024 0 target (respond chan))) s

/-- WRITE, with the other accesses of its datapath cycle. -/
def execWrite (chan : Chan) (target : Target) (value : WriteData) (s : State) : Host.Outcome State Fault Refusal :=
  done (answering chan (serveCycle (.write chan target value.bytes :: value.also))) s

/-- DESCRIBE. -/
def execDescribe (chan : Chan) (target : Target) (s : State) : Host.Outcome State Fault Refusal :=
  done (answering chan (describeRecord chan 1024 0 target (respond chan))) s

/-- READ_STAGED. -/
def execReadStaged (chan : Chan) (target : Target) (s : State) : Host.Outcome State Fault Refusal :=
  done (answering chan (readRecord chan true 1024 0 target (respond chan))) s

/-- COMMIT_AT_BOUNDARY. -/
def execCommitAtBoundary (chan : Chan) (s : State) : Host.Outcome State Fault Refusal := done (writeObject chan 0x2010 0 0 1) s

/-- COMMIT_AT_MODE_SWITCH. -/
def execCommitAtModeSwitch (chan : Chan) (s : State) : Host.Outcome State Fault Refusal := done (writeObject chan 0x2010 0 0 2) s

/-- COMMIT_DISCARD. -/
def execCommitDiscard (chan : Chan) (s : State) : Host.Outcome State Fault Refusal := done (writeObject chan 0x2010 0 0 3) s

/-- CLAMP_LOG_CLEAR. -/
def execClampLogClear (chan : Chan) (s : State) : Host.Outcome State Fault Refusal := done (writeObject chan 0x1F82 0 0 1) s

/-- IMAGE_APPLY. -/
def execImageApply (chan : Chan) (s : State) : Host.Outcome State Fault Refusal := done (writeObject chan 0x2041 0 0 1) s

/-- IMAGE_APPLY_AND_STORE. -/
def execImageApplyAndStore (chan : Chan) (s : State) : Host.Outcome State Fault Refusal := done (writeObject chan 0x2041 0 0 2) s

/-- IMAGE_STORE. -/
def execImageStore (chan : Chan) (s : State) : Host.Outcome State Fault Refusal := done (writeObject chan 0x2041 0 0 3) s

/-- TIME_STEP. -/
def execTimeStep (chan : Chan) (time : Nat) (s : State) : Host.Outcome State Fault Refusal := done (writeObject chan 0x3002 0 0 time) s

/-- TIME_ADJUST. -/
def execTimeAdjust (chan : Chan) (offset : Int) (s : State) : Host.Outcome State Fault Refusal :=
  done (writeObject chan 0x3003 0 0 offset) s

/-- PPS_IN_SECONDS. -/
def execPpsInSeconds (chan : Chan) (seconds : Nat) (s : State) : Host.Outcome State Fault Refusal :=
  done (writeObject chan 0x3602 0 0 seconds) s

/-- RING_ENABLE. -/
def execRingEnable (chan : Chan) (s : State) : Host.Outcome State Fault Refusal := done (writeObject chan 0x4000 1 0 1) s

/-- RING_DISABLE. -/
def execRingDisable (chan : Chan) (s : State) : Host.Outcome State Fault Refusal := done (writeObject chan 0x4000 1 0 0) s

/-- REQUEST_GO. -/
def execRequestGo (chan : Chan) (s : State) : Host.Outcome State Fault Refusal := done (writeObject chan 0x4010 3 0 1) s

/-- PORT_ENABLE. -/
def execPortEnable (chan : Chan) (port : Nat) (s : State) : Host.Outcome State Fault Refusal :=
  done (.when (isPort port) (writeObject chan (portIdx port 0) 1 0 1)) s

/-- PORT_DISABLE. -/
def execPortDisable (chan : Chan) (port : Nat) (s : State) : Host.Outcome State Fault Refusal :=
  done (.when (isPort port) (writeObject chan (portIdx port 0) 1 0 0)) s

/-- STREAM_UNBLOCK. -/
def execStreamUnblock (chan : Chan) (handle : Nat) (s : State) : Host.Outcome State Fault Refusal :=
  done (writeObject chan 0x6022 0 0 handle) s

/-- HIGH_WATER_READ. -/
def execHighWaterRead (chan : Chan) (queue column : Nat) (s : State) : Host.Outcome State Fault Refusal :=
  done (answering chan (readRecord chan false 1024 0 ⟨0x6810, column, queue, 0⟩ (respond chan))) s

/-- FORCE_DISABLE_TX. -/
def execForceDisableTx (chan : Chan) (ring : Nat) (s : State) : Host.Outcome State Fault Refusal :=
  done (writeObject chan 0x8500 1 0 ring) s

/-- FORCE_DISABLE_RX. -/
def execForceDisableRx (chan : Chan) (ring : Nat) (s : State) : Host.Outcome State Fault Refusal :=
  done (writeObject chan 0x8500 2 0 ring) s

/-- TWIN_SWITCHOVER. -/
def execTwinSwitchover (chan : Chan) (s : State) : Host.Outcome State Fault Refusal := done (writeObject chan 0x9030 0 0 1) s

/-- TDR_REQUEST. -/
def execTdrRequest (chan : Chan) (port : Nat) (s : State) : Host.Outcome State Fault Refusal :=
  done (writeObject chan 0xB050 0 0 port) s

/-- SOFTWARE_EVENT. -/
def execSoftwareEvent (chan : Chan) (value : Nat) (s : State) : Host.Outcome State Fault Refusal :=
  done (writeObject chan 0xB030 0 0 value) s

/-- POWER_REQUEST_IDLE. -/
def execPowerRequestIdle (chan : Chan) (s : State) : Host.Outcome State Fault Refusal := done (writeObject chan 0x2200 2 0 2) s

/-- POWER_REQUEST_DORMANT. -/
def execPowerRequestDormant (chan : Chan) (s : State) : Host.Outcome State Fault Refusal := done (writeObject chan 0x2200 2 0 1) s

/-- MODULE_RESET. -/
def execModuleReset (chan : Chan) (value : Nat) (s : State) : Host.Outcome State Fault Refusal :=
  done (writeObject chan 0x2210 0 0 value) s

end Sys2Proof.Machine
end

