-- ==== Sys2Proof/Machine/Registers.lean ====
section
/-! DEFINITION. What a function presents to its host: its configuration (R3, R236, R238, R239), and the registers of BAR0, written
and read (R241, R242, R259, R265 to R267, R338, R381). A register a function does not own reads 0 and ignores writes; a field
outside its range takes the nearer limit, and no clamp is logged. -/

namespace Sys2Proof.Machine

/-! ## Configuration (Tables 0.3, 8.1 and 8.2) -/

/-- A base address register: its number, 64-bit memory of a size, prefetchable or not. -/
structure Bar where
  number : Nat
  size : Nat
  prefetchable : Bool
deriving DecidableEq, Repr

/-- The SR-IOV capability of PF1 (R238). -/
structure SriovCapability where
  totalVfs : Nat
  firstVfOffset : Nat
  vfStride : Nat
  vfDevice : Nat
  bars : List Bar
deriving DecidableEq, Repr

/-- The configuration that a function presents: identity, BARs, capabilities. -/
structure FunctionConfig where
  link : Nat
  number : Nat
  vendor : Nat
  device : Nat
  revision : Nat
  classCode : Nat
  subsystemVendor : Nat
  subsystem : Nat
  interruptPin : Nat
  bars : List Bar
  serial : Nat
  msixTableSize : Nat
  sriov : Option SriovCapability
deriving DecidableEq, Repr

/-- BAR0 of 1 MiB and prefetchable BAR2 of 512 KiB, of every function. -/
def functionBars : List Bar := [⟨0, 1048576, false⟩, ⟨2, 524288, true⟩]

/-- What function `fn` presents (R3, R237 to R239). -/
def State.functionConfig (s : State) (fn : Nat) : FunctionConfig :=
  { link := s.linkOf fn
    number := if s.power.pcieMode && fn != 0 then fn - 1 else fn
    vendor := 0x1D7A, device := if fn < 2 then 0x8256 else 0x8257, revision := 0x02
    classCode := if fn = 0 then 0x088000 else 0x020000
    subsystemVendor := 0x1D7A, subsystem := 0x0001, interruptPin := 0, bars := functionBars
    serial := s.n 0x1000 4, msixTableSize := s.n 0x8100 8 fn - 1
    sriov := if fn = 1 then some ⟨64, 1, 1, 0x8257, functionBars⟩ else none }

/-- The power of two that a size field of the configuration takes: the largest of 128 up to `limit` that does not exceed it. -/
def sizeField (limit v : Nat) : Nat := (([4096, 2048, 1024, 512, 256].filter (· ≤ limit)).find? (· ≤ v)).getD 128

/-- A write to the configuration that the function's requests follow: Max Payload Size, Max Read Request Size, Enable Relaxed
Ordering, and the power state (DESIGN CHOICE, safe: log entry 48). -/
def configurationWrite (fn off v : Nat) : Eff :=
  if off = 0 then .upd (.function fn fun f => { f with maxPayload := sizeField 512 v })
  else if off = 4 then .upd (.function fn fun f => { f with maxRead := sizeField 4096 v })
  else if off = 8 then .upd (.function fn fun f => { f with relaxed := v.testBit 0 })
  else if off = 12 then .upd (.function fn fun f => { f with d3hot := v.testBit 0 })
  else .skip

/-! ## Writes -/

/-- The low half of a 64-bit register is written, its lowest `align` bits reserved. -/
def withLow (align old v : Nat) : Nat := old / 4294967296 * 4294967296 + v / 2 ^ align * 2 ^ align

/-- The high half is written. -/
def withHigh (old v : Nat) : Nat := old % 4294967296 + v * 4294967296

/-- Local item `i` of a resource (its First column of 0x8100), as a global number, where the function owns it. -/
def State.global (s : State) (sub fn i : Nat) : Option Nat :=
  if i < s.n 0x8100 (sub + 1) fn then some (s.n 0x8100 sub fn + i) else none

/-- The function block (Tables 8.4 and 12.4). -/
def functionBlockWrite (fn off v : Nat) : Eff :=
  .look fun s =>
    let image := (off - 0x100) / 8
    let base := ((s.function fn).imageBases.getD image 0)
    let put := fun b => Eff.upd (.function fn fun f => { f with imageBases := f.imageBases.set image b })
    if off = 0x20 then .upd (.function fn fun f => { f with markBase := withLow 9 f.markBase v })
    else if off = 0x24 then .upd (.function fn fun f => { f with markBase := withHigh f.markBase v })
    else if off = 0x30 then
      .when (s.n 0xC000 3 == fn) (.upd (.function fn fun f => { f with dumpBase := withLow 12 f.dumpBase v }))
    else if off = 0x34 then
      .when (s.n 0xC000 3 == fn) (.upd (.function fn fun f => { f with dumpBase := withHigh f.dumpBase v }))
    else if 0x100 ≤ off && off < 0x300 && s.n 0x7400 3 image == fn then
      if off % 8 = 0 then put (withLow 3 base v) else put (withHigh base v)
    else .skip

/-- A control word of the dictionary mailbox (Tables 2.5 and 2.6). -/
def mailboxWrite (off v : Nat) : Eff :=
  if off = 0 then
    if v.testBit 0 then mailboxGo (v / 256 % 256) else .upd (.mailbox fun b => { b with tagReg := v / 256 % 256 })
  else if off = 4 then
    .upd (.mailbox fun b => { b with done := b.done && !v.testBit 1, overrun := b.overrun && !v.testBit 2 })
  else .skip

/-- A control word of the Kiln mailbox (Table 10.12). -/
def kilnMailboxWrite (off v : Nat) : Eff :=
  if off = 0 then .when (v.testBit 0) (kilnPowered kilnGoAct)
  else if off = 4 then
    .upd (.kiln fun k => { k with done := k.done && !v.testBit 1, overrun := k.overrun && !v.testBit 2 })
  else .skip

/-- A ring's register block (Table 8.11). -/
def ringBlockWrite (tx : Bool) (r off v : Nat) : Eff :=
  if off ≤ 8 then configWrite tx r off v
  else if off = 0xC then (if v.testBit 0 then enableRing tx r else disableByHost tx r)
  else if off = 0x10 then doorbellAct tx r (position17 v)
  else if off = 0x18 then ringSet tx r fun x => { x with every := v % 65536, holdoff := v / 65536 }
  else if off = 0x1C then ringSet tx r fun x => { x with flags := x.flags - (x.flags &&& (v &&& 0x7F00)) }
  else .skip

/-- An event queue's register block (Table 8.12); `vectors` is the number its function has. -/
def queueBlockWrite (vectors q off v : Nat) : Eff :=
  if off = 0 then .whenS (fun s => !(s.queue q).enabled) (.upd (.queue q fun x => { x with base := withLow 4 x.base v }))
  else if off = 4 then .upd (.queue q fun x => { x with base := withHigh x.base v })
  else if off = 8 then
    .seq (.upd (.queue q fun x => { x with logSize := min 16 (max 4 (v % 32)), vector := min (v / 65536 % 2048) (vectors - 1) }))
      (if v.testBit 31 then enableQueue q else .upd (.queue q fun x => { x with enabled := false }))
  else if off = 0xC then headWrite q (position17 v) (v.testBit 31)
  else if off = 0x14 then .upd (.queue q fun x => { x with count := v % 65536, holdoff := v / 65536 })
  else if off = 0x18 then .when (v.testBit 0) (.upd (.queue q fun x => { x with overflow := false }))
  else .skip

/-- An entry of the MSI-X table. -/
def vectorWrite (x off v : Nat) : Eff :=
  if off = 0 then .upd (.vector x fun e => { e with address := withLow 0 e.address v })
  else if off = 4 then .upd (.vector x fun e => { e with address := withHigh e.address v })
  else if off = 8 then .upd (.vector x fun e => { e with data := v })
  else if v.testBit 0 then .upd (.vector x fun e => { e with masked := true })
  else .whenS (fun s => (s.vector x).masked) (unmaskVector x)

/-- A 32-bit write to a register block of BAR0 (Table 8.3). -/
def registerWrite32 (fn off v : Nat) : Eff :=
  .look fun s =>
    if off < 0x1000 then functionBlockWrite fn off v
    else if 0x2000 ≤ off && off < 0x3000 then .when (fn == 0) (mailboxWrite (off - 0x2000) v)
    else if 0x8000 ≤ off && off < 0x9000 then .when (fn == 0) (kilnMailboxWrite (off - 0x8000) v)
    else if 0x20000 ≤ off && off < 0x60000 then
      .ofOption (s.global 1 fn ((off - 0x20000) / 64)) fun r => ringBlockWrite true r (off % 64) v
    else if 0x60000 ≤ off && off < 0xA0000 then
      .ofOption (s.global 3 fn ((off - 0x60000) / 64)) fun r => ringBlockWrite false r (off % 64) v
    else if 0xA0000 ≤ off && off < 0xB0000 then
      .ofOption (s.global 5 fn ((off - 0xA0000) / 64)) fun q => queueBlockWrite (s.n 0x8100 8 fn) q (off % 64) v
    else if 0xB0000 ≤ off && off < 0xB8000 then
      .ofOption (s.global 7 fn ((off - 0xB0000) / 16)) fun x => vectorWrite x (off % 16) v
    else if 0x100000 ≤ off then configurationWrite fn (off - 0x100000) v
    else .skip

/-- A write of the host's to BAR0, of any size (R241): the request areas of the mailboxes store its bytes; a register takes an
aligned write of 32 bits, and any other access has no effect. A function in D3hot takes none but that of its power state. -/
def registerAct (fn off : Nat) (data : Bytes) : Eff :=
  .look fun s =>
    if 66 ≤ fn || ((s.function fn).d3hot && off != 0x10000C) then .skip
    else if 0x3000 ≤ off && off < 0x4000 then
      .when (fn == 0) (.upd (.write .mailboxRequest (off - 0x3000) (data.take (0x4000 - off))))
    else if 0x9000 ≤ off && off < 0xC000 then
      .when (fn == 0) (.upd (.write .kilnRequest (off - 0x9000) (data.take (0xC000 - off))))
    else .when (off % 4 == 0 && data.length == 4) (registerWrite32 fn off (ofLe data))

/-! ## Reads -/

/-- Four bytes of a 64-bit value: its low or its high word. -/
def halfOf (high : Bool) (v : Nat) : Nat := (if high then v / 4294967296 else v) % 4294967296

/-- Whether a bit is set, at a place of a word. -/
def bitAt (place : Nat) (b : Bool) : Nat := if b then 2 ^ place else 0

/-- The function block (Tables 8.4 and 12.4). -/
def State.functionBlock (s : State) (fn off : Nat) : Nat :=
  let f := s.function fn
  let dumps := s.n 0xC000 3 == fn
  let image := (off - 0x100) / 8
  if off = 0 then fn + 256 * s.linkOf fn
  else if off = 4 then s.n 0x8100 2 fn
  else if off = 8 then s.n 0x8100 4 fn
  else if off = 0xC then s.n 0x8100 6 fn
  else if off = 0x10 then s.n 0x8100 8 fn
  else if off = 0x14 then s.power.stage
  else if off = 0x20 || off = 0x24 then halfOf (off = 0x24) f.markBase
  else if (off = 0x30 || off = 0x34) && dumps then halfOf (off = 0x34) f.dumpBase
  else if off = 0x38 && dumps then s.reader.lastDump
  else if off = 0x3C && dumps then s.dumpStride
  else if 0x100 ≤ off && off < 0x300 && s.n 0x7400 3 image == fn then halfOf (off % 8 = 4) (f.imageBases.getD image 0)
  else 0

/-- The dictionary mailbox (Tables 2.5 and 2.6). -/
def State.mailboxBlock (s : State) (off : Nat) : Nat :=
  let b := s.od.mailbox
  if off = 0 then 256 * b.tagReg
  else if off = 4 then bitAt 0 b.busy + bitAt 1 b.done + bitAt 2 b.overrun + 256 * b.tag + 65536 * b.msgStatus
  else if 0x1000 ≤ off && off < 0x2000 then ofLe (s.buffers.mailboxRequest.readBytes (off - 0x1000) 4)
  else if 0x2000 ≤ off && off < 0x3000 then ofLe (s.buffers.mailboxResponse.readBytes (off - 0x2000) 4)
  else 0

/-- The Kiln mailbox (Table 10.12). -/
def State.kilnBlock (s : State) (off : Nat) : Nat :=
  let k := s.kiln
  if off = 4 then bitAt 0 k.busy + bitAt 1 k.done + bitAt 2 k.overrun + 256 * kstateCode k.state + 65536 * k.msgStatus
  else if off = 8 then
    k.slot + bitAt 1 k.trial + bitAt 2 k.fallback + bitAt 3 s.otp.debugOpened + bitAt 4 s.flash.ownerKey.isSome +
      256 * s.otp.rollback + 65536 * s.n 0xA000 3
  else if 0x1000 ≤ off && off < 0x4000 then ofLe (s.buffers.kilnRequest.readBytes (off - 0x1000) 4)
  else if 0x4000 ≤ off && off < 0x8000 then ofLe (s.buffers.kilnResponse.readBytes (off - 0x4000) 4)
  else 0

/-- The counter view page (Table 12.8). -/
def State.viewPage (s : State) (fn off : Nat) : Nat :=
  match s.reader.pages.get? fn with
  | none => 0
  | some p =>
    let high := off % 8 = 4
    if !s.grantedFunctions.contains fn then 0
    else if off < 8 || 0xFF8 ≤ off then halfOf high p.seq
    else if off < 0x10 then halfOf high p.cycle
    else if off = 0x10 then p.time % secUnits / 65536
    else if off = 0x14 then p.time / secUnits % 4294967296
    else if off = 0x18 then p.items.length
    else if 0x40 ≤ off then halfOf high (p.items.getD ((off - 0x40) / 8) 0)
    else 0

/-- A ring's register block (Table 8.11). -/
def HostRing.block (x : HostRing) (off : Nat) : Nat :=
  if off = 0 || off = 4 then halfOf (off = 4) x.base
  else if off = 8 then x.logSize + bitAt 8 x.eager + 65536 * x.eq
  else if off = 0xC then bitAt 0 x.enableBit
  else if off = 0x10 then x.tail
  else if off = 0x14 then x.head
  else if off = 0x18 then x.every + 65536 * x.holdoff
  else if off = 0x1C then x.state.code + x.flags
  else 0

/-- An event queue's register block (Table 8.12). -/
def EventQueue.block (x : EventQueue) (off : Nat) : Nat :=
  if off = 0 || off = 4 then halfOf (off = 4) x.base
  else if off = 8 then x.logSize + 65536 * x.vector + bitAt 31 x.enabled
  else if off = 0xC then x.head
  else if off = 0x10 then x.tail
  else if off = 0x14 then x.count + 65536 * x.holdoff
  else if off = 0x18 then bitAt 0 x.overflow + bitAt 1 x.armed
  else 0

/-- An entry of the MSI-X table. -/
def Vector.block (x : Vector) (off : Nat) : Nat :=
  if off = 0 || off = 4 then halfOf (off = 4) x.address else if off = 8 then x.data else bitAt 0 x.masked

/-- The pending bits of 32 local vectors of a function. -/
def State.pendingBits (s : State) (fn word : Nat) : Nat :=
  (List.range 32).foldl (fun v i => v + bitAt i ((s.global 7 fn (32 * word + i)).any fun x => (s.vector x).waiting)) 0

/-- What a 32-bit read at an aligned offset of BAR0 returns (Table 8.3): 0 in a region that the function does not own. The read
of CLKNS is CLOCK_PAGE_READ. -/
def State.registerRead (s : State) (fn off : Nat) : Nat :=
  let block := fun (x : Option Nat) (f : Nat → Nat) => (x.map f).getD 0
  if off < 0x1000 then s.functionBlock fn off
  else if off < 0x2000 then if off = 0x1000 then s.clock.ns else (s.function fn).clockLatch.getD ((off - 0x1004) / 4) 0
  else if off < 0x5000 then if fn = 0 then s.mailboxBlock (off - 0x2000) else 0
  else if 0x8000 ≤ off && off < 0x10000 then if fn = 0 then s.kilnBlock (off - 0x8000) else 0
  else if 0x10000 ≤ off && off < 0x11000 then s.viewPage fn (off - 0x10000)
  else if 0x20000 ≤ off && off < 0x60000 then
    block (s.global 1 fn ((off - 0x20000) / 64)) fun r => (s.hostRing true r).block (off % 64)
  else if 0x60000 ≤ off && off < 0xA0000 then
    block (s.global 3 fn ((off - 0x60000) / 64)) fun r => (s.hostRing false r).block (off % 64)
  else if 0xA0000 ≤ off && off < 0xB0000 then
    block (s.global 5 fn ((off - 0xA0000) / 64)) fun q => (s.queue q).block (off % 64)
  else if 0xB0000 ≤ off && off < 0xB8000 then
    block (s.global 7 fn ((off - 0xB0000) / 16)) fun x => (s.vector x).block (off % 16)
  else if 0xB8000 ≤ off && off < 0xB8100 then s.pendingBits fn ((off - 0xB8000) / 4)
  else 0

/-! ## Meaning -/

/-- REGISTER_WRITE (R242). -/
def execRegisterWrite (fn offset : Nat) (value : Bytes) (s : State) : Host.Outcome State Fault Refusal :=
  done (powered (.seq tlpReceived (registerAct fn offset value))) s

end Sys2Proof.Machine
end

