-- ==== Sys2Proof/Machine/Boot.lean ====
section
/-! DEFINITION. Bring-up from S2 on (R326, R335, R408, R81), and restarted domains that return to service: groves (R21, R403),
ports, engines and the commons controller (R357, R30). -/

namespace Sys2Proof.Machine

/-! ## S2 and S3 -/

/-- The image of a flash region; an empty region holds none that passes R52. -/
def flashImage (region : Option Bytes) : Bytes := region.getD []

/-- The Kiln offers the boot image and, where it is rejected, the previous one (R335); the result of the first rejection
stands where both are. -/
def offerImages : Eff :=
  .look fun s =>
    let first := flashImage s.flash.bootImage
    let second := flashImage s.flash.previousImage
    .seq (countImage first (s.checkImage first true)) (match s.checkImage first true with
      | .inr rs => imageTakes .image first rs
      | .inl st => .all [imageResult st ⟨0, 0, 0⟩ 0, count (commonsItem 68), countImage second (s.checkImage second true),
          match s.checkImage second true with
          | .inr rs => imageTakes .image second rs
          | .inl _ => .seq (count (commonsItem 68)) (raise 883 st)])

/-- Parts 2 to 6 have been streamed (R326): a part that fails sends the module back to S1 with the other slot; else the engines
hold their firmware (R9), and S3 begins and applies the boot image. -/
def partsStreamed : Eff :=
  .whenS (fun s => s.power.state == .active && s.power.stage == 2) (.look fun s =>
    let e := s.partsError (s.slotPackage s.kiln.slot)
    .seq (countBundle e) <| if e != 0 then .all [setN 0xA000 3 e, setKilnState .booting, setStage 1]
    else .all [.upd (.wipe .instructions), .upd (.write .instructions 0 ((partBytes (s.slotPackage s.kiln.slot) 3).take 65536)),
      setStage 3, .upd (.imageBusy true), offerImages])

/-! ## S4 -/

/-- The time base starts (R81, R84): from the value latched at the last entry into DORMANT and the canopy time since. The clock
enters ACQUIRING where the applied source is not 0, with event 512; LastDormantDuration counts up to here, bring-up included
(DESIGN CHOICE, unsafe: log entry 61). -/
def startTimeBase : Eff :=
  .all [
    .look fun s => .ofOption s.canopy.latched fun x => .seq (.upd (.setClock s.canopyTime))
      (setN 0x3700 2 ((s.canopy.counter - x.2) * canopyPeriod / 65536)),
    .upd (.canopy fun k => { k with latched := none }), .forEach (List.range 8) armPulses,
    sourceChanged,
    .look fun s => setN 0x4001 6 (s.now / max 1 s.cycleUnits)]

/-- What a twin half knows of its lease after a restart (R410): the last epoch, and the last renewal as a cycle, rounded
up. -/
def restoreLease : Eff :=
  .look fun s => .when s.twinHalf (.seq (setN 0x9021 2 s.canopy.lastEpoch)
    (.ofOption s.canopy.lastRenewal fun c =>
      let age := (s.canopy.counter - c) * canopyPeriod
      let cycle := (s.now - age + s.cycleUnits - 1) / max 1 s.cycleUnits
      .seq (.upd (.twin fun t => { t with lastRenewal := some cycle })) (setN 0x9021 5 cycle)))

/-- The functions that the enable objects select start (R408). -/
def startFunctions : Eff :=
  .look fun s => .all [
    .when (!s.twinHalf) (setTwinState 0),
    restoreLease,
    .when s.stackMember (setN 0x4000 1 0),
    .whenS (fun s => s.on 0x4000 1) ringEnableAct,
    .forEach s.enabledPorts fun p => .all [portStart p, gatesNow p, showPreemption p],
    showRoles, applyPolicies]

/-- S3 ends with the Commit record, or without one where no image was accepted; S4 starts the time base on the applied
source and then the functions. The sealed set finds no running cycle (R45). -/
def bootCommitted : Eff :=
  .whenS (fun s => s.power.state == .active && s.power.stage == 3)
    (.all [.upd (.imageBusy false), .whenS State.sealedForBoundary sealedApplies, setStage 4, startTimeBase,
      .look fun s => .upd (.power fun w => { w with stageCycle := s.cycle }), startFunctions])

/-! ## Domains that return to service -/

/-- What takes a held frame: MKA, the management or the Kiln service, or stream lookup. A gPTP message without its timestamp
measures nothing (DEDUCED, safe: log entry 24). -/
def heldFrameTaken (p : Nat) (h : HeldFrame) (f : Frame) : Eff :=
  match h.mkpdu with
  | some d => mkpduArrives p d
  | none =>
    if isProtocol f.data 3 then pduServed p f
    else if isProtocol f.data 5 then fragmentArrives p f
    else ingressFrame p f

/-- The frame that the PHY die has held for a port is delivered (R403). -/
def wakeFrame (g p : Nat) (h : HeldFrame) : Eff :=
  .seq (count (groveItem g 22))
    (.whenS (fun s => s.portEnabled p) (bufferedFrame p h.frame (heldFrameTaken p h)))

/-- A waking grove runs: what waits for it goes on (R21, R403, R406). -/
def groveRuns (g : Nat) : Eff :=
  .look fun s => .when (g < 8 && (s.grove g).state == 1) (.all [
    setGrove g 2 none,
    .upd (.power fun w => { w with
      groves := w.groves.set g { w.groves.getD g (s.grove g) with wakeBuffer := [], owed := [] } }),
    .forEach (s.grove g).owed fun x => startTask x.1 x.2,
    .forEach (s.grove g).wakeBuffer fun e => wakeFrame g e.1 e.2,
    .look fun t => .forEach (t.enabledPorts.filter fun p => groveOf p == g) fun p => .seq (verifyGoesOn p) (kick p)])

/-- 15 us after the start of its wake a grove runs (R21); one that reloads its firmware does not yet (R357). -/
def groveWakeEnds (g : Nat) : Eff :=
  .whenS (fun s => !(s.grove g).restarting && s.after (s.grove g).wokenAt (nsUnits 15000)) (groveRuns g)

/-- An engine runs tasks again. -/
def engineReturns (e : Nat) : Eff :=
  .whenS (fun s => (s.engine e).restarting)
    (.upd (.messages fun m =>
      { m with engines := m.engines.set e { m.engines.getD e Engine.init with restarting := false } }))

/-- A restarted domain returns to service (R357). -/
def domainReturns (d : Domain) : Eff :=
  match d with
  | .port p => .seq (portStart p) (gatesNow p)
  | .engine e => engineReturns e
  | .grove g => .whenS (fun s => (s.grove g).restarting) (groveRuns g)
  | .controller => .upd (.controller false)

/-! ## Meanings -/

/-- GROVE_RUNNING (R21). -/
def execGroveRunning (grove : Nat) (s : State) : Host.Outcome State Fault Refusal := done (operating (groveWakeEnds grove)) s
/-- PARTS_VERIFIED (R408). -/
def execPartsVerified (s : State) : Host.Outcome State Fault Refusal := done partsStreamed s
/-- BOOT_IMAGE_COMMITTED (R408). -/
def execBootImageCommitted (s : State) : Host.Outcome State Fault Refusal := done bootCommitted s
/-- DOMAIN_RESTART_COMPLETE (R357). -/
def execDomainRestartComplete (domain : Domain) (s : State) : Host.Outcome State Fault Refusal :=
  done (operating (domainReturns domain)) s

end Sys2Proof.Machine
end

