-- ==== Sys2Proof/Machine/Coppice.lean ====
section
/-! DEFINITION. The coppice (R311 to R313): request, snapshot, log, load and replay. -/

namespace Sys2Proof.Machine

/-! ## The snapshot -/

/-- Whether the configuration image of a snapshot carries an object (R311 step 2). -/
def coppiceKey (k : Key) : Bool :=
  !(k.idx == 0x2001 || (k.idx == 0x9020 && k.sub == 2) || (0x5000 ≤ k.idx && k.idx < 0x6000 && k.idx % 16 == 0 && k.sub == 6) ||
    (0xA000 ≤ k.idx && k.idx < 0xB000))

/-- The applied configuration as an unsigned image: its RW, RWS and RWC objects that differ from their defaults; those it
does not list stand at their defaults. -/
def State.coppiceImage (s : State) : Bytes :=
  let records := s.od.dict.filterMap fun e =>
    match (objectAt e.1.idx).bind fun o => o.access e.1.sub e.1.row with
    | some x => if (x.acc == .rw || x.acc == .rws || x.acc == .rwc) && coppiceKey e.1
        then some (imageRecord e.1 x.cell.ty e.2) else none
    | none => none
  imageOf 0 s.flash.imageSequence 0 (records.length + 1) (records.flatten ++ commitRecord)

/-- The runs of adjacent listed bytes of a memory, each at most `limit` bytes. -/
def memoryRuns (limit : Nat) : Memory → List (Nat × Bytes)
  | [] => []
  | (a, b) :: rest =>
    match memoryRuns limit rest with
    | (a', bs) :: more => if a + 1 = a' ∧ bs.length < limit then (a, b :: bs) :: more else (a, [b]) :: (a', bs) :: more
    | [] => [(a, [b])]

/-- Pieces of at most `n` bytes; `fuel` bounds their number. -/
def piecesOf (n : Nat) : Nat → Bytes → List Bytes
  | 0, _ => []
  | fuel + 1, b => if b.isEmpty then [] else b.take n :: piecesOf n fuel (b.drop n)

/-- What a snapshot holds (R311 step 2), as parts of at most 8,000 bytes. -/
def State.snapshotParts (s : State) : List SnapPart :=
  let m := s.messages
  (piecesOf 8000 2000 s.coppiceImage).map SnapPart.image ++
    (memoryRuns 4096 s.buffers.engines).map (fun x => .engineMemory (x.1 / 65536) (x.1 % 65536) x.2) ++
    (memoryRuns 4096 s.buffers.stores).map (fun x => .groveStore (x.1 / 65536) (x.1 % 65536) x.2) ++
    m.transactions.map (fun x => .transaction (x.1 / 1024) (x.1 % 1024) x.2.waiting x.2.ident x.2.tries x.2.deadline x.2.request) ++
    m.holds.map (fun x => .hold (x.1 / 1024) (x.1 % 1024) x.2.bytes x.2.isPdu x.2.substituted) ++
    m.checks.map (fun x => .check (x.1 / 1024) (x.1 % 1024) x.2.lastCounter x.2.sinceAccepted x.2.verdict x.2.started) ++
    s.viewData.map SnapPart.view ++
    s.kiln.mka.flatMap fun x => x.2.windows.map fun w => SnapPart.replay w.1 w.2

/-- The bytes of content in a part, as SnapshotBytesSent counts them. -/
def partLength : SnapPart → Nat
  | .image b | .groveStore _ _ b | .engineMemory _ _ b => b.length
  | .transaction _ _ _ _ _ _ b => b.length + 16
  | .hold _ _ b _ _ => b.length + 1
  | .check _ _ _ _ _ _ => 4
  | .view v => v.value.length + 8
  | .replay _ _ => 16

/-! ## At the holder -/

/-- A snapshot chunk leaves. -/
def sendChunk (parts : List SnapPart) (last : Bool) : Eff :=
  .look fun s => .seq (countN (twinItem 25) (parts.foldl (fun n p => n + partLength p) 0))
    (sendOnStack s.twinPort false (.snapshot s.twinPort (s.n 0x9021 2) parts last))

/-- A CoppiceRequest at the holder: refused, by a final chunk without content, where firmware or mode digests differ; else
the snapshot follows at the second boundary from now. -/
def coppiceAsked (firmware : Nat) (digests : List Nat) : Eff :=
  .look fun s => .when s.twinHalf (stackArrives s.twinPort (.when s.leaseHeld (
    if firmware != s.n 0x1000 5 || digests != (List.range 8).map s.shownDigest then sendChunk [] true
    else .upd (.twin fun t => { t with coppice := { t.coppice with serving := some (s.cycle + 2), since := s.elapsed, mirrored := [] } }))))

/-- The parts that fit into `room` bytes. -/
def withinBytes : Nat → List SnapPart → List SnapPart
  | _, [] => []
  | room, p :: rest => if partLength p ≤ room then p :: withinBytes (room - partLength p) rest else []

/-- The most that a snapshot holds (R311 step 3). -/
def snapshotLimit : Nat := 12582912

/-- The boundary of the snapshot: it leaves in chunks of one part each, the last one marked, within the limit. -/
def takeSnapshot : Eff :=
  .look fun s => .when (s.twinHalf && s.leaseHeld && s.twin.coppice.serving == some s.cycle)
    (let parts := withinBytes snapshotLimit s.snapshotParts
     .all [raise 845, count (twinItem 22),
      .upd (.twin fun t => { t with coppice := { t.coppice with mirrored := [] } }),
      .forEach parts.zipIdx fun p => sendChunk [p.1] (p.2 + 1 == parts.length)])

/-- The log of the cycle that the boundary beginning cycle `c` ends: its Mirror values, and the views that the boundary has
changed. -/
def sendLog (before : State) (c : Nat) : Eff :=
  .look fun s =>
    let k := s.twin.coppice
    let due := match k.serving with
      | some b => decide (b < c)
      | none => false
    .when (s.twinHalf && s.leaseHeld && due)
      (.seq (sendOnStack s.twinPort false (.log s.twinPort (s.n 0x9021 2)
          ⟨c - 1, k.mirrored, s.viewData.filter fun v => !before.viewData.contains v⟩))
        (.upd (.twin fun t => { t with coppice := { t.coppice with mirrored := [] } })))

/-! ## Loading -/

/-- Whether this half takes a coppice. -/
def State.coppiced (s : State) : Bool := s.twinHalf && s.twinState == twSyncing

/-- The image in the parts of a snapshot. -/
def imageInParts (parts : List SnapPart) : Bytes :=
  parts.flatMap fun p => match p with
    | .image b => b
    | _ => []

/-- An object that the image of a coppice puts at its default by not listing it: none of those that join the half to its peer, which
it keeps while its stack function runs (R280, R311). -/
def coppiceDefaults (rs : List ImageRecord) (k : Key) : Bool :=
  coppiceKey k && !(k.idx == 0x9000 || k.idx == 0x9001 || k.idx == 0x9012 || (k.idx == 0x9020 && k.sub ≤ 4)) &&
    !rs.any fun r => r.key == k

/-- The image is applied as one from the stack relay channel, with no owner signature required; objects it does not list
return to their defaults. -/
def loadImage (b : Bytes) : Eff :=
  .look fun s =>
    match s.checkImage b false with
    | .inr rs => .seq (restoreDefaults ⟨.relay, true, true, false⟩ (coppiceDefaults rs)) (imageTakes .relay b rs)
    | .inl st => .seq (imageResult st ⟨0, 0, 0⟩ 0) (count (commonsItem 68))

/-- One part of the state is loaded; section views wait for the replay. -/
def loadPart (p : SnapPart) : Eff :=
  match p with
  | .image _ | .view _ => .skip
  | .groveStore g off b => .upd (.write .stores (65536 * g + off) b)
  | .engineMemory e off b => .upd (.write .engines (65536 * e + off) b)
  | .transaction g row waiting ident tries deadline request => setTransaction g row ⟨waiting, ident, tries, deadline, request⟩
  | .hold g row b pdu substituted =>
    .upd (.messages fun m => { m with holds := m.holds.set (1024 * g + row) ⟨b, pdu, substituted⟩ })
  | .check g row lastCounter since verdict started =>
    .upd (.messages fun m => { m with checks := m.checks.set (1024 * g + row) ⟨started, lastCounter, since, verdict⟩ })
  | .replay sci pn => .upd (.kiln fun k => { k with
      mka := k.mka.map fun x =>
        if (x.2.rxSas ++ x.2.oldRxSas).any (fun a => a.1 == sci) then (x.1, { x.2 with windows := x.2.windows.set sci (max pn (x.2.windows.getD sci 0)) }) else x })

/-- The whole snapshot has arrived: image, then state; tasks wait for the replay. -/
def loadSnapshot (parts : List SnapPart) : Eff :=
  .all [
    loadImage (imageInParts parts),
    .upd (.wipe .stores), .upd (.wipe .engines),
    .upd (.messages fun m => { m with
      transactions := [], holds := [], checks := [], storeMarks := []
      engines := m.engines.map fun x => (x.1, { x.2 with run := none, result := none }) }),
    .forEach parts loadPart,
    .upd (.twin fun t => { t with coppice := { t.coppice with parts := parts, loaded := true } }), setN 0x9021 0xA 50]

/-- A SnapshotChunk: a final one without content, and nothing before it, is the refusal of the request. -/
def chunkArrives (parts : List SnapPart) (last : Bool) : Eff :=
  .look fun s => .when s.twinHalf (stackArrives s.twinPort (.when (s.coppiced && !s.twin.coppice.loaded) (
    let all := s.twin.coppice.parts ++ parts
    if last && all.isEmpty then
      coppiceFails (if (s.stackPort s.twinPort).firmware != s.n 0x1000 5 then 1 else 2)
    else if last then loadSnapshot all
    else .upd (.twin fun t => { t with coppice := { t.coppice with parts := all } }))))

/-- A LogChunk: a log beyond CoppiceLogCycles restarts the coppice. -/
def logArrives (x : LogCycle) : Eff :=
  .look fun s => .when s.twinHalf (stackArrives s.twinPort (.when s.coppiced (
    if s.n 0x9020 9 ≤ s.twin.coppice.log.length then .all [raise 847 4, count (twinItem 24), requestCoppice]
    else .upd (.twin fun t => { t with coppice := { t.coppice with log := t.coppice.log ++ [x] } }))))

/-! ## Replay (R311 step 5) -/

/-- A task run of a logged cycle: its due instant, engine, mode, row and the cycle number of its time base. -/
structure ReplayRun where
  due : Int
  engine : Nat
  mode : Nat
  row : Nat
  cycle : Nat
deriving DecidableEq, Repr

/-- The runs of a task row that are due in backbone cycle `n`. -/
def State.runsOf (s : State) (n e m i : Nat) : List ReplayRun :=
  let base := s.timeBase e m
  let off : Int := nsUnits (s.taskCell e m i 3)
  if base = 0xFFFF then [⟨s.cycleStart n + off, e, m, i, n⟩]
  else
    let len : Int := nsUnits (max 1 (s.segLength base))
    let first := s.baseStart base + off
    let start := (s.cycleStart n : Int) + (first - s.cycleStart n) % len
    (List.range (s.cycleUnits / len.toNat + 1)).filterMap fun j =>
      let t := start + j * len
      if t < s.cycleStart (n + 1) then some ⟨t, e, m, i, ((s.seg base).cycle + (t - first) / len).toNat⟩ else none

/-- Puts a run in front of those due later, of higher engines at the same instant. -/
def insertRun (x : ReplayRun) : List ReplayRun → List ReplayRun
  | [] => [x]
  | y :: ys => if x.due < y.due || (x.due == y.due && x.engine ≤ y.engine) then x :: y :: ys else y :: insertRun x ys

/-- The task runs of a cycle in their order. -/
def State.replayRuns (s : State) (n : Nat) : List ReplayRun :=
  ((List.range 128).flatMap fun e =>
    let m := (s.engine e).mode
    if s.on 0x7000 1 && s.on 0x7010 1 (8 * e + m) then
      ((List.range 64).filter fun i => s.taskCell e m i 1 != 0).flatMap (s.runsOf n e m)
    else []).foldr insertRun []

/-- One task of a logged cycle runs on the logged inputs. -/
def replayRun (mirrors : List MirrorMsg) (r : ReplayRun) : Eff :=
  .look fun s =>
    let cyc := s.baseCycle (s.timeBase r.engine r.mode)
    .all [
      .upd (.messages fun m => { m with
        mirrors := (mirrors.filter fun x => x.engine == r.engine && x.row == 64 * r.mode + r.row && x.cycle == r.cycle).map
          fun x => { x with cycle := cyc } }),
      nextSerial, beginTask r.engine r.mode r.row, finishTask r.engine 0,
      .look fun t => .ofOption (t.engine r.engine).result fun x => acceptResult r.engine x]

/-- Views of the snapshot or the log take the place of the own ones. -/
def replayViews (views : List ViewData) : Eff :=
  .forEach views fun v => .seq nextSerial (.look fun s =>
    .ofOption ((s.sections s.mode).find? fun r => r.row == v.row) fun r =>
      .upd (.ring fun g => { g with views := g.views.set r.id (viewOf v s.messages.serial s.now) }))

/-- The views in the parts of a snapshot. -/
def viewsInParts (parts : List SnapPart) : List ViewData :=
  parts.filterMap fun p => match p with
    | .view v => some v
    | _ => none

/-- One logged cycle: its tasks back to back, then the views of the boundary that ends it. -/
def replayCycle (x : LogCycle) : Eff :=
  .seq (.look fun s => .forEach (s.replayRuns x.cycle) (replayRun x.mirrors)) (replayViews x.views)

/-- The replay of all that is logged; the own views, and the own digests of no cycle, stand again after it. -/
def replayLog : Eff :=
  .look fun s => .all [
    replayViews (viewsInParts s.twin.coppice.parts), .forEach s.twin.coppice.log replayCycle,
    .upd (.ring fun g => { g with views := s.ring.views }),
    .upd (.messages fun m => { m with mirrors := [], digests := [], pastDigests := [] })]

/-- CoppiceDone (R311 step 6): the loaded half has replayed and joins as STANDBY; the holder that receives it becomes
ACTIVE. -/
def coppiceEnds : Eff :=
  .look fun s =>
    if s.coppiced && s.twin.coppice.loaded then .all [
      replayLog, sendStack s.twinPort 0x23 [], setN 0x9021 0xA 100,
      .upd (.twin fun t => { t with coppice := { t.coppice with parts := [], log := [], loaded := false } }), setTwinState twStandby]
    else match s.twin.coppice.serving with
      | some b => .when (s.twinHalf && s.leaseHeld) (stackArrives s.twinPort (.all [
          .upd (.twin fun t => { t with coppice := { t.coppice with serving := none, mirrored := [] } }),
          raise 846 ((s.cycle - b) % 256), count (twinItem 23), setTwinState twActive]))
      | none => .skip

/-- CoppiceTimeout has elapsed since the request: the syncing half falls SILENT, a holder stops serving. -/
def coppiceTimesOut : Eff :=
  .look fun s =>
    if !s.after s.twin.coppice.since (nsUnits (s.n 0x9020 0xA)) then .skip
    else if s.coppiced then coppiceFails 3
    else .upd (.twin fun t => { t with coppice := { t.coppice with serving := none, mirrored := [] } })

/-! ## Meanings -/

/-- COPPICE_REQUEST (R311). -/
def execCoppiceRequest (firmware : Nat) (digests : List Nat) (s : State) : Host.Outcome State Fault Refusal :=
  done (operating (coppiceAsked firmware digests)) s
/-- COPPICE_SNAPSHOT (R311). -/
def execCoppiceSnapshot (s : State) : Host.Outcome State Fault Refusal := done (operating takeSnapshot) s
/-- SNAPSHOT_CHUNK (R311). -/
def execSnapshotChunk (parts : List SnapPart) (last : Bool) (s : State) : Host.Outcome State Fault Refusal :=
  done (operating (chunkArrives parts last)) s
/-- LOG_CHUNK (R311). -/
def execLogChunk (cycle : Nat) (mirrors : List MirrorMsg) (views : List ViewData) (s : State) :
    Host.Outcome State Fault Refusal := done (operating (logArrives ⟨cycle, mirrors, views⟩)) s
/-- COPPICE_DONE (R311). -/
def execCoppiceDone (s : State) : Host.Outcome State Fault Refusal := done (operating coppiceEnds) s
/-- COPPICE_TIMEOUT (R311). -/
def execCoppiceTimeout (s : State) : Host.Outcome State Fault Refusal := done (operating coppiceTimesOut) s

end Sys2Proof.Machine
end

