-- ==== Sys2Proof/Machine/Cycle.lean ====
section
/-! DEFINITION. The backbone cycle boundary (R84) with what every function does at it, and the switches of the schedule mode
(R120, R121, R146). -/

namespace Sys2Proof.Machine

/-! ## What REPORT rows show (R221) -/

/-- The value that a REPORT row shows of an object: 8 bytes of its number, a TIME as nanoseconds since the clock's zero, all
ones where it cannot be read. -/
def State.reportValue (s : State) (idx sub row : Nat) : Nat :=
  match (objectAt idx).bind fun o => o.access sub row with
  | some x =>
    if x.acc == .wo then 0xFFFFFFFFFFFFFFFF
    else match x.cell.ty with
      | .octets _ => 0xFFFFFFFFFFFFFFFF
      | .time => (s.readValue false x).toNat / 65536 % 18446744073709551616
      | _ => unsignedOf 8 (s.readValue false x)
  | none => 0xFFFFFFFFFFFFFFFF

/-- The rows of the REPORT tables that name an object, as 1,024 x grove + row. -/
def State.reportRows (s : State) : List Nat :=
  s.od.dict.filterMap fun e =>
    if 0x7240 ≤ e.1.idx && e.1.idx < 0x7248 && e.1.sub == 2 then some (1024 * (e.1.idx - 0x7240) + e.1.row) else none

/-- The values of all rows, as read at this boundary. -/
def noteReports : Eff :=
  .look fun s => .upd (.messages fun m => { m with
    reports := s.reportRows.foldl (fun r k =>
      let t := 0x7240 + k / 1024
      let row := k % 1024
      r.set k (s.reportValue (s.n t 2 row) (s.n t 3 row) (s.n t 4 row))) [] })

/-! ## The boundary -/

/-- The end of the cycle: engine loads, threshold counters, and the marks that hold for one cycle or one second. -/
def cycleEnds (c : Nat) : Eff :=
  .look fun s => .all [freezeItems, engineLoads, thresholdsEnd, .upd (.clearOnce false),
    .when (c * s.cycleLength % 1000000000 == 0) (.seq (.upd (.clearOnce true)) (.upd .clearNotified))]

/-- Settled sections are delivered: into the host images, and to the groves, where a grove that does not run is late
(R226, R406). -/
def deliverSections : Eff :=
  .seq sectionImages (.look fun s => .forEach ((List.range 8).filter fun g => !(s.groveSections s.mode g).isEmpty) groveLate)

/-- The grove policies and the gPTP roles follow a port that a fault has isolated. -/
def isolationFollows : Eff :=
  .whenS (fun s => s.power.followDue)
    (.all [.upd (.power fun w => { w with followDue := false }), applyPolicies, showRoles])

/-- The boundary that begins cycle `c`. -/
def boundary (c : Nat) : Eff :=
  .look fun before => .all [
    cycleEnds c, laneShapers, setN 0x4001 6 c, ringBoundary c, countSource, leaseBoundary c, deliverSections, healthBoundary, forwardViews,
    sendLog before c, .whenS (fun s => !s.power.throttled) sampleQueues, noteReports,
    isolationFollows]

/-- The cycle counter advances (R84). -/
def cycleAdvances : Eff := .look fun s => boundary ((s.cycle + 1) % 18446744073709551616)

/-! ## Mode switches -/

/-- Every function follows the switch of the running mode to `m`: views, segments, engines, gate lists, grove plans, and what
REPORT tasks show of this boundary (R221). -/
def modeBecomes (m : Nat) : Eff :=
  .all [switchMode m, .look fun s => .forEach s.enabledPorts fun p => segmentFollows p m, enginesAtModeSwitch m, gatesFollowMode m,
    .forEach (List.range 8) wakeGrove, applyPolicies, noteReports]

/-- The boundary that begins T (R120): a set sealed for the mode switch applies before it. -/
def modeSwitches : Eff :=
  .look fun s =>
    match s.switchTarget with
    | some m =>
      .when (m != s.mode) (.all [
        .whenS (fun s => s.od.sealedSet.any fun x => x.atModeSwitch) sealedApplies,
        modeBecomes m, raise 593, count (wheelItem 27), .when (s.ringState == ringMaster) (setN 0x4010 4 2)])
    | none => .skip

/-- A node that is out of step takes the mode of the header (R121). It is no mode switch for a set sealed with value 2, which
stays sealed (DESIGN CHOICE, unsafe: log entry 42). -/
def modeAdopts : Eff :=
  .look fun s => .ofOption s.ring.adopt fun m =>
    .when (s.ringState != ringMaster) (if m == s.mode then .upd (.ring fun g => { g with adopt := none }) else modeBecomes m)

/-- A port switches its segment mode (R146), and the engines on its time base their tables (R211). -/
def segmentModeSwitches (p : Nat) : Eff :=
  .look fun s =>
    let g := s.seg p
    let due := match g.switchAt with
      | some j => decide (j ≤ g.cycle)
      | none => false
    .when (g.nextMode.isSome && due) (.seq (segmentMoves p (segmentSwitch p)) (enginesAtSegmentSwitch p))

/-- The boundary of a set sealed with value 1; objects are read at this boundary with its values (R45, R221). -/
def stagingApplies : Eff := .whenS (fun s => s.sealedForBoundary && s.sealedDue) (.seq sealedApplies noteReports)

/-! ## Meanings -/

/-- STAGING_SET_APPLY (R45). -/
def execStagingSetApply (s : State) : Host.Outcome State Fault Refusal := done (operating stagingApplies) s

/-- CYCLE_BOUNDARY (R84). -/
def execCycleBoundary (s : State) : Host.Outcome State Fault Refusal := done (operating cycleAdvances) s
/-- MODE_SWITCH (R120). -/
def execModeSwitch (s : State) : Host.Outcome State Fault Refusal := done (operating modeSwitches) s
/-- MODE_ADOPT (R121). -/
def execModeAdopt (s : State) : Host.Outcome State Fault Refusal := done (operating modeAdopts) s
/-- SEGMENT_MODE_SWITCH (R146). -/
def execSegmentModeSwitch (port : Nat) (s : State) : Host.Outcome State Fault Refusal :=
  done (operating (segmentModeSwitches port)) s

end Sys2Proof.Machine
end

