-- ==== Sys2Proof/Machine/Dispatch.lean ====
section
/-! DEFINITION. The dispatch of the commands to their meanings, one arm per constructor. -/

namespace Sys2Proof.Machine

def exec (i : Instr) (s : State) : Host.Outcome State Fault Refusal :=
  match i with
  | .mailboxGo tag => Sys2Proof.Machine.execMailboxGo tag s
  | .mailboxDone => Sys2Proof.Machine.execMailboxDone s
  | .managementPdu port frame => Sys2Proof.Machine.execManagementPdu port frame s
  | .stackRelayRequest stackPort message => Sys2Proof.Machine.execStackRelayRequest stackPort message s
  | .read chan target => Sys2Proof.Machine.execRead chan target s
  | .write chan target value => Sys2Proof.Machine.execWrite chan target value s
  | .describe chan target => Sys2Proof.Machine.execDescribe chan target s
  | .readStaged chan target => Sys2Proof.Machine.execReadStaged chan target s
  | .commitAtBoundary chan => Sys2Proof.Machine.execCommitAtBoundary chan s
  | .commitAtModeSwitch chan => Sys2Proof.Machine.execCommitAtModeSwitch chan s
  | .commitDiscard chan => Sys2Proof.Machine.execCommitDiscard chan s
  | .stagingSetApply => Sys2Proof.Machine.execStagingSetApply s
  | .clampLogClear chan => Sys2Proof.Machine.execClampLogClear chan s
  | .imageApply chan => Sys2Proof.Machine.execImageApply chan s
  | .imageApplyAndStore chan => Sys2Proof.Machine.execImageApplyAndStore chan s
  | .imageStore chan => Sys2Proof.Machine.execImageStore chan s
  | .timeStep chan time => Sys2Proof.Machine.execTimeStep chan time s
  | .timeAdjust chan offset => Sys2Proof.Machine.execTimeAdjust chan offset s
  | .automaticStep => Sys2Proof.Machine.execAutomaticStep s
  | .slewEnd => Sys2Proof.Machine.execSlewEnd s
  | .sourceLoss => Sys2Proof.Machine.execSourceLoss s
  | .holdoverLimit => Sys2Proof.Machine.execHoldoverLimit s
  | .referenceFault => Sys2Proof.Machine.execReferenceFault s
  | .gptpSync port domain origin correction frames => Sys2Proof.Machine.execGptpSync port domain origin correction frames s
  | .gptpPdelayReq port domain sequence requester frame => Sys2Proof.Machine.execGptpPdelayReq port domain sequence requester frame s
  | .gptpSyncTimer => Sys2Proof.Machine.execGptpSyncTimer s
  | .gptpPdelayTimer => Sys2Proof.Machine.execGptpPdelayTimer s
  | .announceTimer => Sys2Proof.Machine.execAnnounceTimer s
  | .syncReceiptTimeout => Sys2Proof.Machine.execSyncReceiptTimeout s
  | .ppsInEdge falling stamp => Sys2Proof.Machine.execPpsInEdge falling stamp s
  | .ppsInSeconds chan seconds => Sys2Proof.Machine.execPpsInSeconds chan seconds s
  | .ppsInMissing => Sys2Proof.Machine.execPpsInMissing s
  | .ppsOutEdge => Sys2Proof.Machine.execPpsOutEdge s
  | .timeEventCapture pin falling stamp => Sys2Proof.Machine.execTimeEventCapture pin falling stamp s
  | .timeEventPulse pin => Sys2Proof.Machine.execTimeEventPulse pin s
  | .alignment stackPort loop turn origin stamp => Sys2Proof.Machine.execAlignment stackPort loop turn origin stamp s
  | .alignmentTimer => Sys2Proof.Machine.execAlignmentTimer s
  | .cycleBoundary => Sys2Proof.Machine.execCycleBoundary s
  | .roundFrameLaunch round errEast errWest => Sys2Proof.Machine.execRoundFrameLaunch round errEast errWest s
  | .roundFrame lane frame => Sys2Proof.Machine.execRoundFrame lane frame s
  | .roundFrameVerified lane => Sys2Proof.Machine.execRoundFrameVerified lane s
  | .roundFrameMissing round direction => Sys2Proof.Machine.execRoundFrameMissing round direction s
  | .ringEnable chan => Sys2Proof.Machine.execRingEnable chan s
  | .ringDisable chan => Sys2Proof.Machine.execRingDisable chan s
  | .listenTimerExpiry => Sys2Proof.Machine.execListenTimerExpiry s
  | .ringLoss => Sys2Proof.Machine.execRingLoss s
  | .nodeLeft name => Sys2Proof.Machine.execNodeLeft name s
  | .laneLost lane => Sys2Proof.Machine.execLaneLost lane s
  | .roundLoss lane => Sys2Proof.Machine.execRoundLoss lane s
  | .wrapRestoreHoldoff lane => Sys2Proof.Machine.execWrapRestoreHoldoff lane s
  | .wrapRelease => Sys2Proof.Machine.execWrapRelease s
  | .lanesCrossed => Sys2Proof.Machine.execLanesCrossed s
  | .requestGo chan => Sys2Proof.Machine.execRequestGo chan s
  | .modeRequestEvaluation => Sys2Proof.Machine.execModeRequestEvaluation s
  | .modeSwitch => Sys2Proof.Machine.execModeSwitch s
  | .modeAdopt => Sys2Proof.Machine.execModeAdopt s
  | .cyclePoint point => Sys2Proof.Machine.execCyclePoint point s
  | .portEnable chan port => Sys2Proof.Machine.execPortEnable chan port s
  | .portDisable chan port => Sys2Proof.Machine.execPortDisable chan port s
  | .segmentListenTimer port => Sys2Proof.Machine.execSegmentListenTimer port s
  | .segmentCycleBoundary port => Sys2Proof.Machine.execSegmentCycleBoundary port s
  | .slotLatch port slot => Sys2Proof.Machine.execSlotLatch port slot s
  | .slotActionPoint port slot collision => Sys2Proof.Machine.execSlotActionPoint port slot collision s
  | .segmentFrame port sender frame => Sys2Proof.Machine.execSegmentFrame port sender frame s
  | .slotEnd port slot => Sys2Proof.Machine.execSlotEnd port slot s
  | .syncFrame port frame => Sys2Proof.Machine.execSyncFrame port frame s
  | .coldstartBackoffExpiry port => Sys2Proof.Machine.execColdstartBackoffExpiry port s
  | .tailStart port mediumBusyAtEnd => Sys2Proof.Machine.execTailStart port mediumBusyAtEnd s
  | .listenOnlyRelease port node => Sys2Proof.Machine.execListenOnlyRelease port node s
  | .presenceLeave port node => Sys2Proof.Machine.execPresenceLeave port node s
  | .segmentModeSwitch port => Sys2Proof.Machine.execSegmentModeSwitch port s
  | .linkUp port => Sys2Proof.Machine.execLinkUp port s
  | .linkDown port => Sys2Proof.Machine.execLinkDown port s
  | .frameReceived port frame => Sys2Proof.Machine.execFrameReceived port frame s
  | .streamUnblock chan handle => Sys2Proof.Machine.execStreamUnblock chan handle s
  | .hostFrameHandover ring => Sys2Proof.Machine.execHostFrameHandover ring s
  | .queueRoom ring => Sys2Proof.Machine.execQueueRoom ring s
  | .calendarSlot ring => Sys2Proof.Machine.execCalendarSlot ring s
  | .macFree medium => Sys2Proof.Machine.execMacFree medium s
  | .launchTimeReached port cls => Sys2Proof.Machine.execLaunchTimeReached port cls s
  | .gateEntry port => Sys2Proof.Machine.execGateEntry port s
  | .gateTakeOver port => Sys2Proof.Machine.execGateTakeOver port s
  | .preemptionVerifyTimer port => Sys2Proof.Machine.execPreemptionVerifyTimer port s
  | .preemptionRespond port => Sys2Proof.Machine.execPreemptionRespond port s
  | .recoveryResetTimeout fn => Sys2Proof.Machine.execRecoveryResetTimeout fn s
  | .latentErrorTest fn => Sys2Proof.Machine.execLatentErrorTest fn s
  | .latentReset fn => Sys2Proof.Machine.execLatentReset fn s
  | .highWaterRead chan queue column => Sys2Proof.Machine.execHighWaterRead chan queue column s
  | .taskStart engine task => Sys2Proof.Machine.execTaskStart engine task s
  | .route engine => Sys2Proof.Machine.execRoute engine s
  | .pack engine => Sys2Proof.Machine.execPack engine s
  | .unpack engine => Sys2Proof.Machine.execUnpack engine s
  | .protect engine => Sys2Proof.Machine.execProtect engine s
  | .check engine => Sys2Proof.Machine.execCheck engine s
  | .hold engine => Sys2Proof.Machine.execHold engine s
  | .transact engine => Sys2Proof.Machine.execTransact engine s
  | .report engine => Sys2Proof.Machine.execReport engine s
  | .taskFinish engine cycles => Sys2Proof.Machine.execTaskFinish engine cycles s
  | .taskBudgetExceeded engine => Sys2Proof.Machine.execTaskBudgetExceeded engine s
  | .resultAccept grove => Sys2Proof.Machine.execResultAccept grove s
  | .inboundImageSnapshot image => Sys2Proof.Machine.execInboundImageSnapshot image s
  | .outboundImageRead image => Sys2Proof.Machine.execOutboundImageRead image s
  | .outboundImageReadDone image endStamp entries startStamp => Sys2Proof.Machine.execOutboundImageReadDone image endStamp entries startStamp s
  | .hostMessageReceived channel message => Sys2Proof.Machine.execHostMessageReceived channel message s
  | .doorbell tx ring position => Sys2Proof.Machine.execDoorbell tx ring position s
  | .push ring window whole => Sys2Proof.Machine.execPush ring window whole s
  | .entryFetchDone tx ring position covered entries => Sys2Proof.Machine.execEntryFetchDone tx ring position covered entries s
  | .txBufferReadDone ring data => Sys2Proof.Machine.execTxBufferReadDone ring data s
  | .txFrameComplete ring => Sys2Proof.Machine.execTxFrameComplete ring s
  | .ringHoldoffTimer tx ring => Sys2Proof.Machine.execRingHoldoffTimer tx ring s
  | .queueEnable tx ring => Sys2Proof.Machine.execQueueEnable tx ring s
  | .queueDisable tx ring => Sys2Proof.Machine.execQueueDisable tx ring s
  | .drainComplete tx ring => Sys2Proof.Machine.execDrainComplete tx ring s
  | .queueConfigWrite tx ring offset value => Sys2Proof.Machine.execQueueConfigWrite tx ring offset value s
  | .forceDisableTx chan ring => Sys2Proof.Machine.execForceDisableTx chan ring s
  | .forceDisableRx chan ring => Sys2Proof.Machine.execForceDisableRx chan ring s
  | .functionLevelReset fn => Sys2Proof.Machine.execFunctionLevelReset fn s
  | .busMasterChanged fn enable => Sys2Proof.Machine.execBusMasterChanged fn enable s
  | .vfEnableChanged enable numVfs => Sys2Proof.Machine.execVfEnableChanged enable numVfs s
  | .dmaReadError tx ring => Sys2Proof.Machine.execDmaReadError tx ring s
  | .dmaWriteError fn => Sys2Proof.Machine.execDmaWriteError fn s
  | .eqHeadWrite queue head arm => Sys2Proof.Machine.execEqHeadWrite queue head arm s
  | .eqEnable queue => Sys2Proof.Machine.execEqEnable queue s
  | .eqHoldoffTimer queue => Sys2Proof.Machine.execEqHoldoffTimer queue s
  | .msixUnmask vector => Sys2Proof.Machine.execMsixUnmask vector s
  | .clockPageRead fn => Sys2Proof.Machine.execClockPageRead fn s
  | .registerWrite fn offset value => Sys2Proof.Machine.execRegisterWrite fn offset value s
  | .pcieLinkChanged link speed width => Sys2Proof.Machine.execPcieLinkChanged link speed width s
  | .perst link => Sys2Proof.Machine.execPerst link s
  | .stackHello stackPort message => Sys2Proof.Machine.execStackHello stackPort message s
  | .stackHelloTimer stackPort => Sys2Proof.Machine.execStackHelloTimer stackPort s
  | .stackLinkUp stackPort => Sys2Proof.Machine.execStackLinkUp stackPort s
  | .stackLinkDown stackPort => Sys2Proof.Machine.execStackLinkDown stackPort s
  | .stackMemberLost member => Sys2Proof.Machine.execStackMemberLost member s
  | .viewForward views => Sys2Proof.Machine.execViewForward views s
  | .streamForward handle copy => Sys2Proof.Machine.execStreamForward handle copy s
  | .stepRecordSend => Sys2Proof.Machine.execStepRecordSend s
  | .stepRecord epoch body => Sys2Proof.Machine.execStepRecord epoch body s
  | .stepRecordMissed => Sys2Proof.Machine.execStepRecordMissed s
  | .mirror message => Sys2Proof.Machine.execMirror message s
  | .selfTestRequest grove start => Sys2Proof.Machine.execSelfTestRequest grove start s
  | .groveSelfTestStart grove => Sys2Proof.Machine.execGroveSelfTestStart grove s
  | .groveSelfTestEnd grove pass => Sys2Proof.Machine.execGroveSelfTestEnd grove pass s
  | .selfTestResult grove pass => Sys2Proof.Machine.execSelfTestResult grove pass s
  | .selfTestResultTimeout grove => Sys2Proof.Machine.execSelfTestResultTimeout grove s
  | .leaseExpiry => Sys2Proof.Machine.execLeaseExpiry s
  | .witnessPollSend => Sys2Proof.Machine.execWitnessPollSend s
  | .witnessPoll lane epoch body icv => Sys2Proof.Machine.execWitnessPoll lane epoch body icv s
  | .voteLockEnd => Sys2Proof.Machine.execVoteLockEnd s
  | .witnessPollEvaluation => Sys2Proof.Machine.execWitnessPollEvaluation s
  | .noWitnessAcquire => Sys2Proof.Machine.execNoWitnessAcquire s
  | .twinSwitchover chan => Sys2Proof.Machine.execTwinSwitchover chan s
  | .releaseAcquire => Sys2Proof.Machine.execReleaseAcquire s
  | .coppiceRequest firmware digests => Sys2Proof.Machine.execCoppiceRequest firmware digests s
  | .coppiceSnapshot => Sys2Proof.Machine.execCoppiceSnapshot s
  | .snapshotChunk parts last => Sys2Proof.Machine.execSnapshotChunk parts last s
  | .logChunk cycle mirrors views => Sys2Proof.Machine.execLogChunk cycle mirrors views s
  | .coppiceDone => Sys2Proof.Machine.execCoppiceDone s
  | .coppiceTimeout => Sys2Proof.Machine.execCoppiceTimeout s
  | .backgroundSelfTestStep test inst pass fullPass => Sys2Proof.Machine.execBackgroundSelfTestStep test inst pass fullPass s
  | .kilnGo => Sys2Proof.Machine.execKilnGo s
  | .kilnMessageFragment port frame => Sys2Proof.Machine.execKilnMessageFragment port frame s
  | .kilnFragmentTimeout port => Sys2Proof.Machine.execKilnFragmentTimeout port s
  | .getStatus source tag => Sys2Proof.Machine.execGetStatus source tag s
  | .getCertificate source tag index => Sys2Proof.Machine.execGetCertificate source tag index s
  | .getChallenge source tag => Sys2Proof.Machine.execGetChallenge source tag s
  | .challengeExpiry => Sys2Proof.Machine.execChallengeExpiry s
  | .attest source tag nonce => Sys2Proof.Machine.execAttest source tag nonce s
  | .fwBegin source tag slot length => Sys2Proof.Machine.execFwBegin source tag slot length s
  | .fwWrite source tag offset data => Sys2Proof.Machine.execFwWrite source tag offset data s
  | .fwCommit source tag => Sys2Proof.Machine.execFwCommit source tag s
  | .fwConfirm source tag => Sys2Proof.Machine.execFwConfirm source tag s
  | .fwAbort source tag => Sys2Proof.Machine.execFwAbort source tag s
  | .owner source tag command => Sys2Proof.Machine.execOwner source tag command s
  | .installOwnerKey source tag command => Sys2Proof.Machine.execInstallOwnerKey source tag command s
  | .rotateOwnerKey source tag command => Sys2Proof.Machine.execRotateOwnerKey source tag command s
  | .restoreOwnerKey source tag command => Sys2Proof.Machine.execRestoreOwnerKey source tag command s
  | .setPolicy source tag command => Sys2Proof.Machine.execSetPolicy source tag command s
  | .burnLocks source tag command => Sys2Proof.Machine.execBurnLocks source tag command s
  | .setLockedRanges source tag command => Sys2Proof.Machine.execSetLockedRanges source tag command s
  | .setPeerAllowList source tag command => Sys2Proof.Machine.execSetPeerAllowList source tag command s
  | .installCak source tag command => Sys2Proof.Machine.execInstallCak source tag command s
  | .advanceRollback source tag command => Sys2Proof.Machine.execAdvanceRollback source tag command s
  | .debugUnlock source tag command => Sys2Proof.Machine.execDebugUnlock source tag command s
  | .pairInit port sourceMac body => Sys2Proof.Machine.execPairInit port sourceMac body s
  | .pairResponse port sourceMac body => Sys2Proof.Machine.execPairResponse port sourceMac body s
  | .pairConfirm port confirm => Sys2Proof.Machine.execPairConfirm port confirm s
  | .pairDone port confirm => Sys2Proof.Machine.execPairDone port confirm s
  | .pairTimeout port => Sys2Proof.Machine.execPairTimeout port s
  | .pairingRetryTimer port => Sys2Proof.Machine.execPairingRetryTimer port s
  | .cakLifetimeExpiry port => Sys2Proof.Machine.execCakLifetimeExpiry port s
  | .mkpdu port pdu => Sys2Proof.Machine.execMkpdu port pdu s
  | .mkaHelloTimer port => Sys2Proof.Machine.execMkaHelloTimer port s
  | .mkaLifeTimeExpiry port peer => Sys2Proof.Machine.execMkaLifeTimeExpiry port peer s
  | .keyPathWrite port an key sci transmit => Sys2Proof.Machine.execKeyPathWrite port an key sci transmit s
  | .txSaSwitch port => Sys2Proof.Machine.execTxSaSwitch port s
  | .sakHoldoverExpiry port => Sys2Proof.Machine.execSakHoldoverExpiry port s
  | .kilnFault cause => Sys2Proof.Machine.execKilnFault cause s
  | .faultBucketBoundary cls => Sys2Proof.Machine.execFaultBucketBoundary cls s
  | .mdiSample port wireP wireN resistance currentP currentN => Sys2Proof.Machine.execMdiSample port wireP wireN resistance currentP currentN s
  | .polarityCorrected port => Sys2Proof.Machine.execPolarityCorrected port s
  | .tdrRequest chan port => Sys2Proof.Machine.execTdrRequest chan port s
  | .tdrComplete kind distance => Sys2Proof.Machine.execTdrComplete kind distance s
  | .supplyWarning vbn => Sys2Proof.Machine.execSupplyWarning vbn s
  | .supplyRecovered vbn => Sys2Proof.Machine.execSupplyRecovered vbn s
  | .supplyOvervoltage vbn => Sys2Proof.Machine.execSupplyOvervoltage vbn s
  | .brownOut vbn => Sys2Proof.Machine.execBrownOut vbn s
  | .thermalWarning sensor temperature => Sys2Proof.Machine.execThermalWarning sensor temperature s
  | .thermalThrottle sensor temperature => Sys2Proof.Machine.execThermalThrottle sensor temperature s
  | .thermalShutdown sensor temperature => Sys2Proof.Machine.execThermalShutdown sensor temperature s
  | .thermalNormal temperature => Sys2Proof.Machine.execThermalNormal temperature s
  | .eventFifoRoom => Sys2Proof.Machine.execEventFifoRoom s
  | .softwareEvent chan value => Sys2Proof.Machine.execSoftwareEvent chan value s
  | .counterSnapshot => Sys2Proof.Machine.execCounterSnapshot s
  | .dumpComplete => Sys2Proof.Machine.execDumpComplete s
  | .powerRequestIdle chan => Sys2Proof.Machine.execPowerRequestIdle chan s
  | .idleEntry => Sys2Proof.Machine.execIdleEntry s
  | .powerRequestDormant chan => Sys2Proof.Machine.execPowerRequestDormant chan s
  | .wakePin => Sys2Proof.Machine.execWakePin s
  | .portWakeActivity port => Sys2Proof.Machine.execPortWakeActivity port s
  | .wakeAt => Sys2Proof.Machine.execWakeAt s
  | .groveIdle grove => Sys2Proof.Machine.execGroveIdle grove s
  | .groveScheduledWake grove => Sys2Proof.Machine.execGroveScheduledWake grove s
  | .groveRunning grove => Sys2Proof.Machine.execGroveRunning grove s
  | .powerOn => Sys2Proof.Machine.execPowerOn s
  | .railsValid stkpos pcieMode sris => Sys2Proof.Machine.execRailsValid stkpos pcieMode sris s
  | .stageOneRunning => Sys2Proof.Machine.execStageOneRunning s
  | .partsVerified => Sys2Proof.Machine.execPartsVerified s
  | .bootImageCommitted => Sys2Proof.Machine.execBootImageCommitted s
  | .operational => Sys2Proof.Machine.execOperational s
  | .resetn => Sys2Proof.Machine.execResetn s
  | .moduleReset chan value => Sys2Proof.Machine.execModuleReset chan value s
  | .moduleResetTimer => Sys2Proof.Machine.execModuleResetTimer s
  | .canopyLost => Sys2Proof.Machine.execCanopyLost s
  | .aux3v3Overcurrent => Sys2Proof.Machine.execAux3v3Overcurrent s
  | .aux3v3Retry ok => Sys2Proof.Machine.execAux3v3Retry ok s
  | .aux3v3Undervoltage => Sys2Proof.Machine.execAux3v3Undervoltage s
  | .aux3v3Recovered => Sys2Proof.Machine.execAux3v3Recovered s
  | .canopyCrystalSwitch => Sys2Proof.Machine.execCanopyCrystalSwitch s
  | .canopyCrystalFailure => Sys2Proof.Machine.execCanopyCrystalFailure s
  | .kilnOperationDone => Sys2Proof.Machine.execKilnOperationDone s
  | .domainRestartComplete domain => Sys2Proof.Machine.execDomainRestartComplete domain s
  | .memoryError place correctable => Sys2Proof.Machine.execMemoryError place correctable s
  | .pcieErrorReported link status correctable => Sys2Proof.Machine.execPcieErrorReported link status correctable s
  | .brownOutRecovered => Sys2Proof.Machine.execBrownOutRecovered s
  | .overvoltageEnded => Sys2Proof.Machine.execOvervoltageEnded s
  | .thermalThrottleEnd => Sys2Proof.Machine.execThermalThrottleEnd s
  | .plcaStatusChanged port status => Sys2Proof.Machine.execPlcaStatusChanged port status s
  | .stackRelayResponse stackPort message => Sys2Proof.Machine.execStackRelayResponse stackPort message s
  | .gptpPdelayResp port domain sequence requestReceipt responseOrigin frames => Sys2Proof.Machine.execGptpPdelayResp port domain sequence requestReceipt responseOrigin frames s
  | .announceReceived arrival => Sys2Proof.Machine.execAnnounceReceived arrival s
  | .inboundImageWriteDone image => Sys2Proof.Machine.execInboundImageWriteDone image s
  | .activeResumed => Sys2Proof.Machine.execActiveResumed s

end Sys2Proof.Machine
end

