-- ==== Sys2Proof/Machine/Idle.lean ====
section
/-! DEFINITION. What the block does by itself while no command waits: one tick of the time base (R57), and the delivery of
event records (R262, R367 to R369). -/

namespace Sys2Proof.Machine

/-! ## Delivery of events -/

/-- The management notification of a record (R369): a message of kind 3 with a READ record of 0xB020:00. -/
def notification (e : EventRecord) : Bytes :=
  messageHead true 3 0 stOk 1 ++ recordBytes true ⟨0xB020, 0, 0, 0⟩ 1 stOk 0x0D e.encode

/-- A destination's notification of a record: dropped where the port cannot send, or beyond 4,096 in a second. -/
def notify (row : Nat) (e : EventRecord) : Eff :=
  .look fun s =>
    let p := s.n 0xB010 2 row
    if !s.portOn p 1 1 || s.noSa p || 4096 ≤ s.events.sentInSecond.getD row 0 then
      .seq (count (commonsItem 73)) (bumpObj 0xB010 5 row)
    else .all [.upd (.notified row), count (commonsItem 72),
      pduReply p (ofBe (leBytes 6 (s.n 0xB010 3 row))) (notification e)]

/-- The queue of a record: the ring's own, else the one of its routing row (R260, R262). -/
def State.queueFor (s : State) (e : EventRecord) : Nat := e.queue.getD (s.n 0x8300 1 e.source)

/-- One record is delivered: to its event queue, and to the destinations whose mask has its source. An overflow event is not
routed to the queue that it reports (R261). A ring's event does not go by its row of 0x8300 (R278). -/
def deliverEvent (e : EventRecord) : Eff :=
  .look fun s =>
    let q := s.queueFor e
    .seq (.when (q < 1024 && !(e.source == 776 && e.arg == q)) (queueWrite q e (e.queue.isNone && s.on 0x8300 2 e.source)))
      (.forEach ((List.range 8).filter fun r => s.on 0xB010 1 r && maskBit (s.obj 0xB010 4 r) e.source) fun r => notify r e)

/-- Up to `n` records leave the FIFO, oldest first. -/
def deliverEvents : Nat → Eff
  | 0 => .skip
  | n + 1 => .look fun s =>
    match s.events.fifo with
    | [] => .skip
    | e :: _ => .all [.upd .popEvent, deliverEvent e, deliverEvents n]

/-! ## The tick -/

/-- Units of 2^-16 ns in a tick of 2 ns. -/
def tickUnits : Nat := 131072

/-- The canopy counter goes on with the tick, in every state but OFF (R81). -/
def canopyTick : Eff :=
  .whenS (fun s => s.power.state != .off) (.upd (.canopy fun k =>
    if k.phase + tickUnits < canopyPeriod then { k with phase := k.phase + tickUnits }
    else { k with phase := k.phase + tickUnits - canopyPeriod, counter := k.counter + 1 }))

/-- Whether the time base runs: from S4 on (R408), in ACTIVE and IDLE. -/
def State.timeRuns (s : State) : Bool := 4 ≤ s.power.stage && (s.power.state == .active || s.power.state == .idle)

/-- An idle step: up to eight records, then one tick, with the cuts and the PLCA rounds that it brings. DESIGN CHOICE, safe: log entry
1. -/
def idle : Eff :=
  .all [powered (deliverEvents 8), .whenS State.timeRuns (.upd .tick), canopyTick,
    .whenS State.timeRuns (.seq timedCuts (.look fun s => .forEach s.mediumPorts mediumTick))]

/-- What a step does on an empty queue. -/
def idleStep (s : State) : Host.Outcome State Fault Refusal := done idle s

end Sys2Proof.Machine
end

