-- ==== Sys2Proof/Safety.lean ====
section
/-! DEFINITION. What holds in every state that the block reaches, and the relations between the state before a step and the
state after it, in the terms that the statements use. -/

namespace Sys2Proof.Machine

/-- The stores and the bounded logs of the state, each in its form; every primitive update keeps it. -/
structure State.Stores (s : State) : Prop where
  /-- Every byte memory is in its canonical form. -/
  buffers : ∀ b, (s.buffers.get b).wf = true
  /-- The dictionary's store is in key order, and lists no value equal to its default (R31). -/
  dictOrder : dictSorted s.od.dict = true
  dictLean : ∀ e ∈ s.od.dict, e.2 ≠ defaultOf e.1
  /-- Counters are 64 bits wide (R376). -/
  counterOrder : s.counters.wf = true
  counterRange : ∀ e ∈ s.counters, e.2 < 18446744073709551616
  /-- 0x1F80 holds the newest 256 clamp records (R49), 0x9040 the newest 64 mismatches, 0x2221 the newest 16 wakes. -/
  clampLog : s.od.clampLog.length ≤ 256
  mismatchLog : s.twin.mismatchLog.length ≤ 64
  wakeLog : s.canopy.wakeLog.length ≤ 16
  /-- The sequencer's FIFO holds 1,024 records beyond the eight of a datapath cycle, and its peak of the backbone cycle is at least
  what it holds (R367, R388). -/
  fifo : s.events.backlog ≤ s.events.peak + 8 ∧ s.events.peak ≤ 1024
  /-- Every record fits its fields (Table 11.5). -/
  records : ∀ e ∈ s.events.fifo, e.seq < 4294967296 ∧ e.sec < 65536 ∧ e.ns < 1000000000 ∧ e.severity < 4 ∧
    e.source < 1024 ∧ e.reason < 64 ∧ e.arg < 2147483648
  sequence : s.events.next < 4294967296
  /-- The local clock: 64 bits of seconds, nanoseconds below 10^9, 48 bits of fraction (R56). -/
  clock : s.clock.sec < 18446744073709551616 ∧ s.clock.ns < 1000000000 ∧ s.clock.frac < 281474976710656
  /-- Ring and queue positions are 17-bit values (R245, Table 8.12). -/
  txRings : s.host.tx.wf = true ∧ ∀ e ∈ s.host.tx, e.2.tail < 131072 ∧ e.2.head < 131072 ∧ e.2.next < 131072
  rxRings : s.host.rx.wf = true ∧ ∀ e ∈ s.host.rx, e.2.tail < 131072 ∧ e.2.head < 131072 ∧ e.2.next < 131072
  queues : s.host.queues.wf = true ∧ ∀ e ∈ s.host.queues, e.2.head < 131072 ∧ e.2.tail < 131072
  vectors : s.host.vectors.wf = true
  functions : s.host.functions.wf = true
  segments : s.segments.wf = true
  faults : s.faults.instances.wf = true
  /-- OTP has 16 owner slots and a rollback counter of 0 to 64 (Table 10.2). -/
  ownerSlots : s.otp.ownerSlots.length ≤ 16
  rollback : s.otp.rollback ≤ 64

/-- The invariant of the block between two steps: its stores are in form, and every event raised has its number (R367). -/
structure State.Inv (s : State) : Prop where
  stores : s.Stores
  settled : s.events.raised = []

/-- OTP only rises from `a` to `b` (R322): no bit of a secret or a mask, no written slot and no count of the rollback counter is
lost, and the hashes of manufacture stay. -/
structure Otp.Rises (a b : Otp) : Prop where
  uniqueKey : ∀ i, a.hardwareUniqueKey.testBit i = true → b.hardwareUniqueKey.testBit i = true
  keySeed : ∀ i, a.deviceKeySeed.testBit i = true → b.deviceKeySeed.testBit i = true
  hashes : a.caerharKeyHashes = b.caerharKeyHashes ∧ a.caerharRootHash = b.caerharRootHash
  revoked : ∀ i, a.keyRevoked.testBit i = true → b.keyRevoked.testBit i = true
  locks : ∀ i, a.locks.testBit i = true → b.locks.testBit i = true
  slots : a.ownerSlots <+: b.ownerSlots
  rollback : a.rollback ≤ b.rollback
  debug : a.debugOpened = true → b.debugOpened = true

/-! ## Frames: what a command can change -/

/-- The class of a dictionary index: a port object counts as its offset, whatever its port (R19). -/
def objClass (idx : Nat) : Nat := if 0x5000 ≤ idx ∧ idx < 0x6000 then 0x5000 + idx % 16 else idx

/-- The class of a counter: its number in its set, whatever the port, engine or grove; histogram bins are one class. -/
def counterClass (i : Nat) : Nat :=
  if i < 8192 then i % 32
  else if i < 10240 then 100 + i % 16
  else if i < 10752 then 200 + i % 64
  else if i < 11216 then i
  else 20000

/-- Objects of the classes `lo` to `hi`: one subindex, or all. -/
structure Region where
  lo : Nat
  hi : Nat
  sub : Option Nat
deriving DecidableEq, Repr

def Region.covers (r : Region) (c sub : Nat) : Bool :=
  decide (r.lo ≤ c) && decide (c ≤ r.hi) && (match r.sub with | none => true | some x => decide (x = sub))

/-- What a command can change: parts of the state, objects, and classes of counters (from, to). -/
structure Footprint where
  parts : List Part
  objects : List Region
  counters : List (Nat × Nat)
deriving DecidableEq, Repr

def Footprint.object (fp : Footprint) (k : Key) : Bool :=
  fp.parts.contains .dict || fp.objects.any fun r => r.covers (objClass k.idx) k.sub

def Footprint.counter (fp : Footprint) (i : Nat) : Bool :=
  fp.parts.contains .counters || fp.counters.any fun r => decide (r.1 ≤ counterClass i) && decide (counterClass i ≤ r.2)

/-- The part reads the same in two states. The dictionary and the counters are compared object by object in `Frames`. -/
def Part.same : Part → State → State → Prop
  | .dict, _, _ => True
  | .staging, a, b => a.od.staged = b.od.staged ∧ a.od.sealedSet = b.od.sealedSet
  | .clampLog, a, b => a.od.clampLog = b.od.clampLog
  | .mailbox, a, b => a.od.mailbox = b.od.mailbox
  | .buffers, a, b => a.buffers = b.buffers
  | .image, a, b => a.od.imageBusy = b.od.imageBusy ∧ a.od.controllerDown = b.od.controllerDown
  | .counters, _, _ => True
  | .events, a, b => a.events = b.events
  | .clock, a, b => a.clock = b.clock
  | .time, a, b => a.time = b.time
  | .pins, a, b => a.pins = b.pins
  | .ring, a, b => a.ring = b.ring
  | .segments, a, b => a.segments = b.segments
  | .traffic, a, b => a.traffic = b.traffic
  | .messages, a, b => a.messages = b.messages
  | .txRings, a, b => a.host.tx = b.host.tx
  | .rxRings, a, b => a.host.rx = b.host.rx
  | .queues, a, b => a.host.queues = b.host.queues
  | .functions, a, b => a.host.functions = b.host.functions ∧ a.host.vectors = b.host.vectors ∧
      a.host.numVfs = b.host.numVfs ∧ a.host.vfEnable = b.host.vfEnable ∧
      a.host.linkUpA = b.host.linkUpA ∧ a.host.linkUpB = b.host.linkUpB ∧ a.host.reads = b.host.reads
  | .twin, a, b => { a.twin with mismatchLog := [] } = { b.twin with mismatchLog := [] }
  | .mismatchLog, a, b => a.twin.mismatchLog = b.twin.mismatchLog
  | .otp, a, b => a.otp = b.otp
  | .flash, a, b => a.flash = b.flash
  | .kiln, a, b => a.kiln = b.kiln
  | .faults, a, b => a.faults = b.faults
  | .reader, a, b => a.reader = b.reader
  | .canopy, a, b => a.canopy = b.canopy
  | .power, a, b => a.power = b.power
  | .free, a, b => a.freeUsed = b.freeUsed
  | .out, a, b => a.out = b.out

/-- From `s` to `t` nothing changes outside the footprint; the queue of waiting commands never changes. -/
structure Footprint.Frames (fp : Footprint) (s t : State) : Prop where
  objects : ∀ k, fp.object k = false → t.key k = s.key k
  counters : ∀ i, fp.counter i = false → t.counter i = s.counter i
  parts : ∀ p, p ∉ fp.parts → p.same s t
  pending : t.pending = s.pending

/-! ## Frames on their way -/

/-- The MAC of a port sends a frame that cannot be cut: nothing is taken from its queues now (R168, R179). -/
def State.macBusy (s : State) (p : Nat) : Prop := ∃ c f, (s.mac p).current = some (c, f) ∧ s.preemptable p c = false

/-- A class queue, and the memory that holds its frames, can take one more (R167). -/
def State.takesFrame (s : State) (p c : Nat) (f : QueuedFrame) : Prop :=
  s.queueRoom (classQueue p c) (frameLen f.data) = true ∧ s.memoryFor p f = true

/-- A class queue, and the SRAM of its port's grove, can take one more frame of the module's own of up to `len` bytes (R167). -/
def State.takesOwn (s : State) (p c len : Nat) : Prop :=
  s.queueRoom (classQueue p c) len = true ∧
    s.heldBytes false (groveOf p) + len ≤ groveSramBytes - s.n 0x9012 0 / 8

/-- From `s` to `t` a frame with these bytes has joined the class queue, behind those that stood there. -/
def State.queuedBehind (s t : State) (p c : Nat) (data : Bytes) : Prop :=
  ∃ f, f.data = data ∧ s.queued (classQueue p c) ++ [f] <+: t.queued (classQueue p c)

/-- A frame whose bytes begin so has joined the class queue, behind those that stood there. -/
def State.queuedStarting (s t : State) (p c : Nat) (head : Bytes) : Prop :=
  ∃ f, head <+: f.data ∧ s.queued (classQueue p c) ++ [f] <+: t.queued (classQueue p c)

/-- A frame whose end has no further effect on its origin: relayed, of the module, or of its Kiln. -/
def endsQuietly : Origin → Bool
  | .module => true
  | .relayed _ _ => true
  | .kiln => true
  | .host _ _ => false
  | .ptp _ => false
  | .mkpdu _ => false

/-- The ports on which frames have been sent from `s` to `t`, in their order. -/
def State.sentOn (s t : State) : List Nat :=
  (t.out.drop s.out.length).filterMap fun e => match e with
    | .frame p _ _ _ => some p
    | _ => none

/-- A stack port carries messages both ways: it is in use, its peer's mode agrees, and its MACsec can protect and verify them
(R279, R283, R342). -/
def State.stackCarries (s : State) (port : Nat) : Bool :=
  s.stackUsable port && !s.stackBarred port && s.stackVerifies port && !s.noSa (256 + port)

/-- One dictionary message has been sent on a stack port, for a member or (0) as a response, and it begins so (R40). -/
def State.relayedOne (s t : State) (port member : Nat) (head : Bytes) : Prop :=
  ∃ body, t.out = s.out ++ [.relay port member (head ++ body)]

/-! ## The dictionary -/

/-- The dictionary answers: the module is powered and at S1 or later (R43). -/
def State.answers (s : State) : Bool := (s.power.state == .active || s.power.state == .idle) && decide (1 ≤ s.power.stage)

/-- A WRITE of a channel to an object passes the checks of R42 up to its value: the dictionary answers, no image is being
applied, the object is there for the channel, and its function does not hold it. -/
def State.takesWrite (s : State) (chan : Chan) (idx sub row : Nat) : Bool :=
  s.answers && !s.od.imageBusy &&
    (match s.locate chan true false ⟨idx, sub, row, 0⟩ with
     | .inr x => !s.writeHeld x
     | .inl _ => false)

/-- What a READ or READ_STAGED of a channel returns where it is answered with OK (R37, R44): type code and bytes. -/
def State.readAnswer (s : State) (chan : Chan) (staged : Bool) (t : Target) : Option (Nat × Bytes) :=
  match s.locate chan false false t with
  | .inr x =>
    if x.acc != .wo && readFits x.cell.ty 0 t then
      some (x.cell.ty.code, ((valueBytes (bigEndian chan) x.cell.ty (s.readValue staged x)).drop t.offset).take 1024)
    else none
  | .inl _ => none

/-- The number of records of a request message that only reads (R37). -/
def State.readsOnly (s : State) (big : Bool) (m : Bytes) : Option Nat :=
  match s.parseMessage big m with
  | .inr rs => if rs.all fun r => r.op == 1 then some rs.length else none
  | .inl _ => none

/-- What a DESCRIBE of a channel returns where it may read the object (R439). -/
def State.describeAnswer (s : State) (chan : Chan) (t : Target) : Option (Nat × Bytes) :=
  match s.locate chan false false t with
  | .inr x => if t.offset = 0 then some (x.cell.ty.code, s.describe chan x) else none
  | .inl _ => none

/-- The status with which a record is refused before its value is looked at (R42). -/
def State.refusedWith (s : State) (chan : Chan) (writing : Bool) (t : Target) : Option Nat :=
  match s.locate chan writing false t with
  | .inl st => some st
  | .inr _ => none

/-- What a WRITE of a channel stages, and its type code: the object is RWC and not held, and the value fits its type and
its range (R42, R44, R46). -/
def State.staging (s : State) (chan : Chan) (t : Target) (bs : Bytes) : Option (StagedWrite × Nat) :=
  match s.locate chan true false t with
  | .inr x =>
    let v := valueOf (bigEndian chan) x.cell.ty bs
    if x.acc == .rwc && !s.writeHeld x && writeFits x.cell.ty t bs && !v.2 && (s.fitOwn x.key x.cell v.1).2 == 0 &&
        t.index != 0x2040 && t.index != 0x2041 then
      some (⟨x.key, (s.fitOwn x.key x.cell v.1).1, channelCode chan⟩, x.cell.ty.code)
    else none
  | .inl _ => none

/-- A frame at its last bit on a port passes the port's checks (R22, R154, R313, R403): the port is enabled and its grove runs, FCS
and ICV are good, MACsec lets it through and it is no replay, and its length is within the port's limits. -/
def State.hears (s : State) (p : Nat) (f : Frame) : Bool :=
  s.portEnabled p && s.groveOn (groveOf p) && f.fcs == .good && f.icv != .failed && s.macsecAdmits p f && !s.replayed p f &&
    decide (64 ≤ s.wireBytes p f) && decide (s.wireBytes p f ≤ s.port p 0 5)

/-- A frame may start on this port at any instant: the port runs no segment, and is no wrapped lane (R99, R136). -/
def State.unscheduled (s : State) (p : Nat) : Bool := !s.segmentPort p && !s.laneWrapped p

/-- The packet numbers of an event message and its follow-up rise, where both are protected by one channel (R313). -/
def pairInOrder (x : PtpPair) : Bool :=
  match x.event.secTag, x.followUp.secTag with
  | some (a, m), some (b, n) => a != b || decide (m ≤ n)
  | _, _ => true

/-- An event message and its follow-up come in on a port that carries gPTP, and pass its checks (R61, R76). -/
def State.hearsPair (s : State) (p : Nat) (x : PtpPair) : Bool :=
  s.hears p x.event && s.hears p x.followUp && s.unscheduled p && pairInOrder x

/-- The bytes before the message of a management PDU that answers one (R39). -/
def State.pduHead (s : State) (p mac : Nat) : Bytes :=
  beBytes 6 mac ++ s.macBytes p ++ beBytes 2 0x88B7 ++ beBytes 3 0x04A73D ++ beBytes 2 3

/-- Memory requests to a function, or to a register that none owns, take effect: it is in D0 (R236). -/
def State.takesMemory (s : State) (owner : Option Nat) : Bool := !owner.any fun k => (s.function k).d3hot

/-- The message of a vector leaves when it is signalled: its function may write (R263, R272). -/
def State.msixLeaves (s : State) (v : Nat) : Bool := !(s.vector v).masked && (s.owner 7 v).any s.mayWrite

/-! ## Events -/

/-- Room for `n` more events: none waits for its number, and the FIFO can take them (R367). -/
def State.room (s : State) (n : Nat) : Prop := s.events.raised = [] ∧ s.events.backlog + n ≤ 1032

/-- From `s` to `t` records have been appended to the FIFO, and one of them has this source and argument. -/
def State.records (s t : State) (source arg : Nat) : Prop :=
  ∃ new, t.events.fifo = s.events.fifo ++ new ∧ ∃ r ∈ new, r.source = source ∧ r.arg = arg

/-- From `s` to `t` a record of a port is among those appended to the FIFO, with this reason and argument (Table 5.5). -/
def State.recordsPort (s t : State) (p reason arg : Nat) : Prop :=
  ∃ new, t.events.fifo = s.events.fifo ++ new ∧ ∃ r ∈ new, r.source = p ∧ r.reason = reason ∧ r.arg = arg

/-! ## The Kiln -/

/-- The response message to a Kiln command in the mailbox (Table 10.10). -/
def kilnResponse (command tag status : Nat) (body : Bytes) : Bytes :=
  beBytes 1 1 ++ beBytes 1 2 ++ beBytes 2 command ++ beBytes 2 tag ++ beBytes 1 status ++ beBytes 1 0 ++
    beBytes 4 body.length ++ beBytes 2 0 ++ beBytes 2 1 ++ body

/-- Whether a message of the Kiln can leave a port (256 and 257 the stack ports): the stack port is in use, or the port has a link
and its grove is not off (R10, R400). -/
def State.kilnReaches (s : State) (p : Nat) : Bool :=
  if 256 ≤ p then s.stackUsable (p - 256) else s.portOn p 1 1 && (s.grove (groveOf p)).state != 3

/-- Whether the answer to a Kiln command can leave on the channel it came from. -/
def State.answersOn (s : State) : KilnSource → Bool
  | .mailbox => true
  | .port p _ _ => s.kilnReaches p

/-- The fragments of Kiln messages that a port has still to send, the one in progress first. -/
def State.kilnOut (s : State) (p : Nat) : List Bytes :=
  ((((s.mac p).current.map Prod.snd).toList ++ (s.seg p).overflow.map Prod.snd).filter fun f => f.origin == .kiln).map
    QueuedFrame.data

/-- From `s` to `t` these frames of the Kiln have left on a stack port, or stand with a port to be sent, behind those before (R336). -/
def State.kilnSent (s t : State) (p : Nat) (frames : List Bytes) : Prop :=
  if 256 ≤ p then t.out = s.out ++ frames.map (Emission.stack (p - 256)) else t.kilnOut p = s.kilnOut p ++ frames

/-- What the MKPDUs say that a port has still to send, the one in progress first. -/
def State.mkaOut (s : State) (p : Nat) : List MkpduOut :=
  (((s.mac p).current.map Prod.snd).toList ++ (s.seg p).overflow.map Prod.snd).filterMap fun f => match f.origin with
    | .mkpdu m => some m
    | _ => none

/-- From `s` to `t` this MKPDU has left on a stack port, or stands with a port to be sent, behind those before (R344). -/
def State.mkpduSent (s t : State) (p : Nat) (m : MkpduOut) : Prop :=
  if 256 ≤ p then t.out = s.out ++ [.mkpdu p m] else t.mkaOut p = s.mkaOut p ++ [m]

/-- From `s` to `t` a Kiln command has been answered on the channel it came from (R336 to R338). -/
def State.answeredKiln (s t : State) (src : KilnSource) (command tag status : Nat) (body : Bytes) : Prop :=
  match src with
  | .mailbox => t.kiln.busy = false ∧ t.kiln.done = true ∧ t.kiln.msgStatus = status ∧
      t.buffers.kilnResponse = Memory.writeBytes [] 0 (kilnResponse command tag status body)
  | .port p _ mac => s.kilnSent t p (s.kilnFrames p mac 2 command tag status body)

/-- The error of the package that a firmware write has put into a slot: steps 1 to 5 of R326 in their order, then the digests of all parts (R329);
0 where all pass. -/
def State.commitError (s : State) (slot : Nat) : Nat :=
  let b := s.slotPackage slot
  if s.packageError b ≠ 0 then s.packageError b else if allPartsGood b = false then 7 else 0

/-! ## Faults -/

/-- One more occurrence does not make the instance of a fault class lasting: it is lasting already, or its window stays below the
threshold (R354, R355). -/
def State.staysAsItIs (s : State) (cls inst : Nat) : Bool :=
  let i := s.faults.instances.getD (faultKey cls inst) FaultInstance.init
  i.lasting || decide (windowCount (bumpBucket i.buckets (s.bucketAt cls)) (s.bucketAt cls) < s.n 0xB000 1 cls)

end Sys2Proof.Machine
end

