-- ==== Sys2Proof/Footprints.lean ====
section
/-! DEFINITION. What each command can change: its footprint, and the family it belongs to. A footprint names the parts of the
state, the objects and the counter classes that any effect of the command can reach; everything else is its frame. -/

namespace Sys2Proof.Machine

/-- The families of commands, by the chapter of the manual that gives them. -/
inductive Family where
  | dictionary | time | ring | segment | traffic | messages | host | twin | kiln | faults | counters | power
deriving DecidableEq, Repr

/-- The family of a command. -/
def familyOf : Instr → Family
  | .mailboxGo .. | .mailboxDone | .managementPdu .. | .stackRelayRequest .. | .read .. | .write .. | .describe .. |
    .readStaged .. | .commitAtBoundary .. | .commitAtModeSwitch .. | .commitDiscard .. | .stagingSetApply |
    .clampLogClear .. | .imageApply .. | .imageApplyAndStore .. | .imageStore .. | .timeStep .. | .timeAdjust .. |
    .ppsInSeconds .. | .ringEnable .. | .ringDisable .. | .requestGo .. | .portEnable .. | .portDisable .. |
    .streamUnblock .. | .highWaterRead .. | .forceDisableTx .. | .forceDisableRx .. | .twinSwitchover .. |
    .tdrRequest .. | .softwareEvent .. | .powerRequestIdle .. | .powerRequestDormant .. | .moduleReset .. |
    .stackRelayResponse .. => .dictionary
  | .automaticStep | .slewEnd | .sourceLoss | .holdoverLimit | .referenceFault | .gptpSync .. | .gptpPdelayReq .. |
    .gptpSyncTimer | .gptpPdelayTimer | .announceTimer | .syncReceiptTimeout | .ppsInEdge .. | .ppsInMissing |
    .ppsOutEdge | .timeEventCapture .. | .timeEventPulse .. | .gptpPdelayResp .. | .announceReceived .. => .time
  | .alignment .. | .alignmentTimer | .stackHello .. | .stackHelloTimer .. | .stackMemberLost .. | .viewForward .. |
    .stepRecordSend | .stepRecord .. | .stepRecordMissed | .mirror .. | .selfTestRequest .. | .groveSelfTestStart .. |
    .groveSelfTestEnd .. | .selfTestResult .. | .selfTestResultTimeout .. | .leaseExpiry | .witnessPollSend |
    .witnessPoll .. | .voteLockEnd | .witnessPollEvaluation | .noWitnessAcquire | .releaseAcquire |
    .coppiceRequest .. | .coppiceSnapshot | .snapshotChunk .. | .logChunk .. | .coppiceDone | .coppiceTimeout |
    .backgroundSelfTestStep .. => .twin
  | .cycleBoundary | .roundFrameLaunch .. | .roundFrame .. | .roundFrameVerified .. | .roundFrameMissing .. |
    .listenTimerExpiry | .ringLoss | .nodeLeft .. | .laneLost .. | .roundLoss .. | .wrapRestoreHoldoff .. |
    .wrapRelease | .lanesCrossed | .modeRequestEvaluation | .modeSwitch | .modeAdopt | .segmentModeSwitch .. => .ring
  | .cyclePoint .. | .hostFrameHandover .. | .queueRoom .. | .calendarSlot .. | .inboundImageSnapshot .. |
    .outboundImageRead .. | .outboundImageReadDone .. | .hostMessageReceived .. | .doorbell .. | .push .. |
    .entryFetchDone .. | .txBufferReadDone .. | .txFrameComplete .. | .ringHoldoffTimer .. | .queueEnable .. |
    .queueDisable .. | .drainComplete .. | .queueConfigWrite .. | .functionLevelReset .. | .busMasterChanged .. |
    .vfEnableChanged .. | .dmaReadError .. | .dmaWriteError .. | .eqHeadWrite .. | .eqEnable .. | .eqHoldoffTimer .. |
    .msixUnmask .. | .clockPageRead .. | .registerWrite .. | .pcieLinkChanged .. | .pcieErrorReported .. |
    .inboundImageWriteDone .. => .host
  | .segmentListenTimer .. | .segmentCycleBoundary .. | .slotLatch .. | .slotActionPoint .. | .slotEnd .. |
    .coldstartBackoffExpiry .. | .tailStart .. | .listenOnlyRelease .. | .presenceLeave .. | .plcaStatusChanged .. => .segment
  | .segmentFrame .. | .syncFrame .. | .frameReceived .. | .macFree .. | .launchTimeReached .. | .gateEntry .. |
    .gateTakeOver .. | .preemptionVerifyTimer .. | .preemptionRespond .. | .recoveryResetTimeout .. |
    .latentErrorTest .. | .latentReset .. | .streamForward .. => .traffic
  | .linkUp .. | .linkDown .. | .stackLinkUp .. | .stackLinkDown .. | .kilnGo | .kilnMessageFragment .. |
    .kilnFragmentTimeout .. | .getStatus .. | .getCertificate .. | .getChallenge .. | .challengeExpiry | .attest .. |
    .fwBegin .. | .fwWrite .. | .fwCommit .. | .fwConfirm .. | .fwAbort .. | .owner .. | .installOwnerKey .. |
    .rotateOwnerKey .. | .restoreOwnerKey .. | .setPolicy .. | .burnLocks .. | .setLockedRanges .. |
    .setPeerAllowList .. | .installCak .. | .advanceRollback .. | .debugUnlock .. | .pairInit .. | .pairResponse .. |
    .pairConfirm .. | .pairDone .. | .pairTimeout .. | .pairingRetryTimer .. | .cakLifetimeExpiry .. | .mkpdu .. |
    .mkaHelloTimer .. | .mkaLifeTimeExpiry .. | .keyPathWrite .. | .txSaSwitch .. | .sakHoldoverExpiry .. |
    .kilnFault .. | .kilnOperationDone => .kiln
  | .taskStart .. | .route .. | .pack .. | .unpack .. | .protect .. | .check .. | .hold .. | .transact .. |
    .report .. | .taskFinish .. | .taskBudgetExceeded .. | .resultAccept .. => .messages
  | .perst .. | .brownOut .. | .thermalShutdown .. | .thermalNormal .. | .idleEntry | .wakePin |
    .portWakeActivity .. | .wakeAt | .groveIdle .. | .groveScheduledWake .. | .groveRunning .. | .powerOn |
    .railsValid .. | .stageOneRunning | .partsVerified | .bootImageCommitted | .operational | .resetn |
    .moduleResetTimer | .canopyLost | .domainRestartComplete .. | .brownOutRecovered | .activeResumed => .power
  | .faultBucketBoundary .. | .mdiSample .. | .polarityCorrected .. | .tdrComplete .. | .supplyWarning .. |
    .supplyRecovered .. | .supplyOvervoltage .. | .thermalWarning .. | .thermalThrottle .. | .eventFifoRoom |
    .aux3v3Overcurrent | .aux3v3Retry .. | .aux3v3Undervoltage | .aux3v3Recovered | .canopyCrystalSwitch |
    .canopyCrystalFailure | .memoryError .. | .overvoltageEnded | .thermalThrottleEnd => .faults
  | .counterSnapshot | .dumpComplete => .counters

/-- The footprint of a command. Every command can number events: the sequencer and the counters EventsRaised and EventsLost. -/
def footprintOf : Instr → Footprint
  | .mailboxGo .. =>
    ⟨[.mailbox, .events, .canopy, .power],
     [],
     [(10823, 10823), (11072, 11072)]⟩
  | .mailboxDone =>
    ⟨[.dict, .staging, .clampLog, .mailbox, .buffers, .image, .events, .clock, .time, .pins, .ring, .segments, .traffic,
      .messages, .txRings, .rxRings, .functions, .twin, .mismatchLog, .flash, .kiln, .faults, .reader, .canopy, .power, .free,
      .out],
     [],
     [(8, 8), (27, 27), (31, 31), (106, 106), (110, 110), (112, 112), (115, 115), (200, 263), (10774, 10774), (10791, 10792),
      (10816, 10820), (10822, 10823), (10826, 10830), (11026, 11026), (11072, 11135), (11138, 11140), (11144, 11144),
      (11150, 11150), (11158, 11162), (11178, 11178), (11181, 11182), (11189, 11190), (20000, 20000)]⟩
  | .managementPdu .. =>
    ⟨[.dict, .staging, .clampLog, .mailbox, .buffers, .image, .events, .clock, .time, .pins, .ring, .segments, .traffic,
      .messages, .txRings, .rxRings, .functions, .twin, .mismatchLog, .flash, .kiln, .faults, .reader, .canopy, .power, .free,
      .out],
     [],
     [(0, 1), (4, 6), (8, 8), (12, 12), (15, 16), (23, 23), (25, 25), (27, 27), (31, 31), (106, 106), (110, 110), (112, 112),
      (115, 115), (200, 263), (10774, 10774), (10791, 10792), (10816, 10820), (10822, 10823), (10826, 10831), (11026, 11026),
      (11072, 11135), (11138, 11140), (11144, 11144), (11150, 11150), (11158, 11162), (11178, 11178), (11181, 11182),
      (11189, 11190), (20000, 20000)]⟩
  | .stackRelayRequest .. =>
    ⟨[.dict, .staging, .clampLog, .mailbox, .buffers, .image, .events, .clock, .time, .pins, .ring, .segments, .traffic,
      .messages, .txRings, .rxRings, .functions, .twin, .mismatchLog, .flash, .kiln, .faults, .reader, .canopy, .power, .free,
      .out],
     [],
     [(8, 8), (27, 27), (31, 31), (106, 106), (110, 110), (112, 112), (115, 115), (200, 263), (10774, 10774), (10791, 10792),
      (10816, 10820), (10822, 10823), (10826, 10830), (11026, 11026), (11072, 11135), (11138, 11140), (11144, 11144),
      (11150, 11150), (11158, 11162), (11178, 11181), (11189, 11190), (20000, 20000)]⟩
  | .read .. | .readStaged .. | .highWaterRead .. =>
    ⟨[.events, .out],
     [⟨0x6810, 0x6810, some 1⟩, ⟨0x6810, 0x6810, some 2⟩],
     [(10817, 10817), (10823, 10823)]⟩
  | .write .. | .commitAtBoundary .. | .commitAtModeSwitch .. | .commitDiscard .. | .clampLogClear .. | .imageApply .. |
    .imageApplyAndStore .. | .imageStore .. | .timeStep .. | .timeAdjust .. | .ppsInSeconds .. | .ringEnable .. |
    .ringDisable .. | .requestGo .. | .portEnable .. | .portDisable .. | .streamUnblock .. | .forceDisableTx .. |
    .forceDisableRx .. | .twinSwitchover .. | .tdrRequest .. | .softwareEvent .. | .powerRequestIdle .. |
    .powerRequestDormant .. | .partsVerified | .moduleReset .. =>
    ⟨[.dict, .staging, .clampLog, .mailbox, .buffers, .image, .events, .clock, .time, .pins, .ring, .segments, .traffic,
      .messages, .txRings, .rxRings, .functions, .twin, .mismatchLog, .flash, .kiln, .faults, .reader, .canopy, .power, .free,
      .out],
     [],
     [(8, 8), (27, 27), (31, 31), (106, 106), (110, 110), (112, 112), (115, 115), (200, 263), (10774, 10774), (10791, 10792),
      (10817, 10820), (10822, 10823), (10826, 10830), (11026, 11026), (11072, 11135), (11138, 11140), (11144, 11144),
      (11150, 11150), (11158, 11162), (11178, 11178), (11181, 11181), (11189, 11190), (20000, 20000)]⟩
  | .describe .. =>
    ⟨[.events, .out],
     [],
     [(10817, 10817), (10823, 10823)]⟩
  | .stagingSetApply =>
    ⟨[.dict, .staging, .clampLog, .buffers, .image, .events, .time, .pins, .ring, .segments, .traffic, .messages, .txRings,
      .rxRings, .twin, .mismatchLog, .kiln, .faults, .reader, .canopy, .power, .free, .out],
     [],
     [(8, 8), (27, 27), (31, 31), (106, 106), (110, 110), (112, 112), (115, 115), (200, 263), (10774, 10774), (10791, 10792),
      (10818, 10818), (10821, 10823), (10826, 10830), (11072, 11135), (11140, 11140), (11144, 11144), (11158, 11162),
      (11178, 11178), (11189, 11190), (20000, 20000)]⟩
  | .automaticStep =>
    ⟨[.events, .clock, .time, .segments, .traffic],
     [⟨0x3001, 0x3001, some 6⟩, ⟨0x4001, 0x4001, some 1⟩, ⟨0x4001, 0x4001, some 6⟩],
     [(10822, 10823)]⟩
  | .slewEnd =>
    ⟨[.events, .time],
     [],
     [(10823, 10823)]⟩
  | .sourceLoss =>
    ⟨[.image, .events, .time, .pins, .segments, .traffic, .messages, .txRings, .twin, .kiln, .faults, .power, .out],
     [⟨0x1010, 0x1010, some 1⟩, ⟨0x3001, 0x3001, none⟩, ⟨0x3400, 0x3400, some 1⟩, ⟨0x3502, 0x3502, some 2⟩,
      ⟨0x5000, 0x5000, some 1⟩, ⟨0x5001, 0x5001, none⟩, ⟨0x5005, 0x5005, some 0⟩, ⟨0x5006, 0x5006, some 1⟩,
      ⟨0x6001, 0x6001, some 1⟩, ⟨0x6001, 0x6001, some 2⟩, ⟨0x9021, 0x9021, some 1⟩, ⟨0xB001, 0xB001, none⟩],
     [(8, 8), (27, 27), (115, 115), (220, 221), (10822, 10823), (10826, 10830), (11162, 11162), (11178, 11178)]⟩
  | .holdoverLimit =>
    ⟨[.events],
     [⟨0x3001, 0x3001, some 1⟩, ⟨0x3001, 0x3001, some 2⟩, ⟨0x3001, 0x3001, some 5⟩],
     [(10822, 10823)]⟩
  | .referenceFault =>
    ⟨[.events, .time],
     [⟨0x3001, 0x3001, some 1⟩, ⟨0x3001, 0x3001, some 2⟩, ⟨0x3001, 0x3001, some 4⟩, ⟨0x3001, 0x3001, some 5⟩],
     [(10822, 10823)]⟩
  | .gptpSync .. =>
    ⟨[.image, .events, .time, .pins, .segments, .traffic, .messages, .txRings, .rxRings, .twin, .kiln, .faults, .power, .free,
      .out],
     [⟨0x1010, 0x1010, none⟩, ⟨0x3001, 0x3001, none⟩, ⟨0x3400, 0x3400, none⟩, ⟨0x3502, 0x3502, none⟩, ⟨0x5000, 0x5001, none⟩,
      ⟨0x5005, 0x5007, none⟩, ⟨0x6001, 0x6001, none⟩, ⟨0x8211, 0x8211, none⟩, ⟨0x9021, 0x9021, none⟩, ⟨0xB001, 0xB001, none⟩,
      ⟨0xC011, 0xC011, none⟩],
     [(0, 1), (4, 6), (8, 8), (12, 12), (15, 16), (23, 23), (25, 25), (27, 27), (115, 115), (217, 217), (220, 221), (223, 223),
      (10822, 10823), (10826, 10830), (11072, 11135), (11162, 11162), (11178, 11178), (11189, 11190), (20000, 20000)]⟩
  | .gptpPdelayReq .. =>
    ⟨[.image, .events, .time, .pins, .segments, .traffic, .messages, .txRings, .rxRings, .twin, .kiln, .faults, .power, .free,
      .out],
     [⟨0x1010, 0x1010, none⟩, ⟨0x3400, 0x3400, none⟩, ⟨0x3502, 0x3502, none⟩, ⟨0x5000, 0x5001, none⟩, ⟨0x5005, 0x5007, none⟩,
      ⟨0x6001, 0x6001, none⟩, ⟨0x6021, 0x6021, none⟩, ⟨0x6410, 0x6410, none⟩, ⟨0x6810, 0x6810, none⟩, ⟨0x8211, 0x8211, none⟩,
      ⟨0x9021, 0x9021, none⟩, ⟨0xB001, 0xB001, none⟩, ⟨0xC011, 0xC011, none⟩],
     [(0, 1), (4, 6), (8, 8), (12, 12), (15, 16), (23, 23), (25, 25), (27, 27), (31, 31), (115, 115), (200, 263),
      (10774, 10774), (10822, 10823), (10826, 10830), (11072, 11135), (11162, 11162), (11178, 11178), (11189, 11190),
      (20000, 20000)]⟩
  | .gptpSyncTimer | .announceTimer | .launchTimeReached .. =>
    ⟨[.events, .time, .segments, .traffic, .txRings, .power, .free],
     [⟨0x6021, 0x6021, some 7⟩, ⟨0x6410, 0x6410, some 4⟩, ⟨0x6410, 0x6410, some 5⟩, ⟨0x6410, 0x6410, some 6⟩,
      ⟨0x6810, 0x6810, none⟩, ⟨0xC011, 0xC011, some 1⟩, ⟨0xC011, 0xC011, some 2⟩],
     [(31, 31), (200, 263), (10774, 10774), (10822, 10823), (11189, 11190), (20000, 20000)]⟩
  | .gptpPdelayTimer =>
    ⟨[.events, .time, .segments, .traffic, .txRings, .power, .free],
     [⟨0x3502, 0x3502, some 2⟩, ⟨0x6021, 0x6021, some 7⟩, ⟨0x6410, 0x6410, some 4⟩, ⟨0x6410, 0x6410, some 5⟩,
      ⟨0x6410, 0x6410, some 6⟩, ⟨0x6810, 0x6810, none⟩, ⟨0xC011, 0xC011, some 1⟩, ⟨0xC011, 0xC011, some 2⟩],
     [(31, 31), (200, 263), (10774, 10774), (10822, 10823), (11189, 11190), (20000, 20000)]⟩
  | .syncReceiptTimeout =>
    ⟨[.events, .time],
     [⟨0x3502, 0x3502, some 5⟩],
     [(10822, 10823)]⟩
  | .ppsInEdge .. =>
    ⟨[.image, .events, .time, .pins, .segments, .traffic, .messages, .txRings, .twin, .kiln, .faults, .power, .out],
     [⟨0x1010, 0x1010, some 1⟩, ⟨0x3001, 0x3001, none⟩, ⟨0x3400, 0x3400, some 1⟩, ⟨0x3502, 0x3502, some 2⟩,
      ⟨0x3601, 0x3601, some 4⟩, ⟨0x5000, 0x5000, some 1⟩, ⟨0x5001, 0x5001, none⟩, ⟨0x5005, 0x5005, some 0⟩,
      ⟨0x5006, 0x5006, some 1⟩, ⟨0x6001, 0x6001, some 1⟩, ⟨0x6001, 0x6001, some 2⟩, ⟨0x9021, 0x9021, some 1⟩,
      ⟨0xB001, 0xB001, none⟩],
     [(8, 8), (27, 27), (115, 115), (220, 221), (10822, 10823), (10826, 10830), (11162, 11162), (11178, 11178)]⟩
  | .ppsInMissing =>
    ⟨[.events, .time],
     [],
     [(10822, 10823)]⟩
  | .ppsOutEdge | .timeEventPulse .. =>
    ⟨[.events, .time, .out],
     [],
     [(10823, 10823)]⟩
  | .timeEventCapture .. =>
    ⟨[.events, .time],
     [⟨0x3611, 0x3611, some 1⟩, ⟨0x3611, 0x3611, some 2⟩, ⟨0x3611, 0x3611, some 3⟩],
     [(10822, 10823)]⟩
  | .alignment .. =>
    ⟨[.image, .events, .time, .pins, .segments, .traffic, .messages, .txRings, .twin, .kiln, .faults, .power, .out],
     [⟨0x1010, 0x1010, none⟩, ⟨0x3001, 0x3001, none⟩, ⟨0x3300, 0x3300, none⟩, ⟨0x3400, 0x3400, none⟩, ⟨0x3502, 0x3502, none⟩,
      ⟨0x5000, 0x5001, none⟩, ⟨0x5005, 0x5006, none⟩, ⟨0x6001, 0x6001, none⟩, ⟨0x9000, 0x9000, none⟩, ⟨0x9002, 0x9002, none⟩,
      ⟨0x9011, 0x9011, none⟩, ⟨0x9021, 0x9021, none⟩, ⟨0xB001, 0xB001, none⟩],
     [(8, 8), (27, 27), (115, 115), (220, 221), (10822, 10823), (10826, 10830), (11162, 11162), (11178, 11180)]⟩
  | .alignmentTimer | .stackHelloTimer .. =>
    ⟨[.events, .twin, .kiln, .out],
     [],
     [(10822, 10823), (11178, 11178)]⟩
  | .cycleBoundary =>
    ⟨[.buffers, .image, .events, .time, .pins, .ring, .segments, .traffic, .messages, .txRings, .rxRings, .twin, .mismatchLog,
      .kiln, .faults, .reader, .canopy, .power, .free, .out],
     [⟨0x1010, 0x1010, none⟩, ⟨0x3001, 0x3001, none⟩, ⟨0x3200, 0x3200, none⟩, ⟨0x3400, 0x3400, none⟩, ⟨0x3502, 0x3502, none⟩,
      ⟨0x4001, 0x4001, none⟩, ⟨0x4010, 0x4010, none⟩, ⟨0x4300, 0x4300, none⟩, ⟨0x5000, 0x5001, none⟩, ⟨0x5005, 0x5006, none⟩,
      ⟨0x6001, 0x6001, none⟩, ⟨0x7011, 0x7011, none⟩, ⟨0x8211, 0x8211, none⟩, ⟨0x9021, 0x9021, none⟩, ⟨0xB001, 0xB001, none⟩,
      ⟨0xC011, 0xC011, none⟩],
     [(8, 8), (27, 27), (115, 115), (217, 218), (220, 221), (10776, 10776), (10822, 10823), (10826, 10830), (11023, 11024),
      (11031, 11032), (11034, 11034), (11037, 11037), (11072, 11135), (11158, 11162), (11165, 11166), (11168, 11169),
      (11178, 11178), (11184, 11215), (20000, 20000)]⟩
  | .roundFrameLaunch .. =>
    ⟨[.events, .time, .ring, .traffic, .txRings, .kiln, .out],
     [],
     [(2, 3), (10822, 10823), (11010, 11010), (11018, 11019), (11030, 11030)]⟩
  | .roundFrame .. =>
    ⟨[.image, .events, .time, .pins, .ring, .segments, .traffic, .messages, .txRings, .twin, .kiln, .faults, .power, .out],
     [⟨0x1010, 0x1010, some 1⟩, ⟨0x3400, 0x3400, some 1⟩, ⟨0x3502, 0x3502, some 2⟩, ⟨0x4001, 0x4001, some 2⟩,
      ⟨0x5000, 0x5000, some 1⟩, ⟨0x5001, 0x5001, none⟩, ⟨0x5005, 0x5005, some 0⟩, ⟨0x5006, 0x5006, some 1⟩,
      ⟨0x6001, 0x6001, some 1⟩, ⟨0x6001, 0x6001, some 2⟩, ⟨0x9021, 0x9021, some 1⟩, ⟨0xB001, 0xB001, none⟩],
     [(0, 5), (8, 8), (27, 27), (115, 115), (220, 221), (10822, 10823), (10826, 10830), (11008, 11009), (11011, 11015),
      (11018, 11019), (11027, 11027), (11030, 11030), (11162, 11162), (11178, 11178)]⟩
  | .roundFrameVerified .. =>
    ⟨[.image, .events, .time, .pins, .ring, .segments, .traffic, .messages, .txRings, .twin, .mismatchLog, .kiln, .faults,
      .canopy, .power, .out],
     [⟨0x1010, 0x1010, none⟩, ⟨0x3001, 0x3001, none⟩, ⟨0x3400, 0x3400, none⟩, ⟨0x3502, 0x3502, none⟩, ⟨0x4001, 0x4001, none⟩,
      ⟨0x4300, 0x4300, none⟩, ⟨0x5000, 0x5001, none⟩, ⟨0x5005, 0x5006, none⟩, ⟨0x6001, 0x6001, none⟩, ⟨0x9021, 0x9021, none⟩,
      ⟨0xB001, 0xB001, none⟩],
     [(8, 8), (27, 27), (115, 115), (220, 221), (10822, 10823), (10826, 10830), (11016, 11017), (11020, 11022), (11025, 11025),
      (11028, 11029), (11036, 11036), (11039, 11039), (11158, 11162), (11173, 11173), (11178, 11178)]⟩
  | .roundFrameMissing .. =>
    ⟨[.image, .events, .time, .pins, .segments, .traffic, .messages, .txRings, .twin, .kiln, .faults, .power, .out],
     [⟨0x1010, 0x1010, some 1⟩, ⟨0x3400, 0x3400, some 1⟩, ⟨0x3502, 0x3502, some 2⟩, ⟨0x5000, 0x5000, some 1⟩,
      ⟨0x5001, 0x5001, none⟩, ⟨0x5005, 0x5005, some 0⟩, ⟨0x5006, 0x5006, some 1⟩, ⟨0x6001, 0x6001, some 1⟩,
      ⟨0x6001, 0x6001, some 2⟩, ⟨0x9021, 0x9021, some 1⟩, ⟨0xB001, 0xB001, none⟩],
     [(8, 8), (27, 27), (115, 115), (220, 221), (10822, 10823), (10826, 10830), (11162, 11162), (11178, 11178)]⟩
  | .listenTimerExpiry =>
    ⟨[.events, .time, .ring, .twin],
     [⟨0x3001, 0x3001, none⟩, ⟨0x3502, 0x3502, some 1⟩, ⟨0x3502, 0x3502, some 2⟩, ⟨0x4001, 0x4001, none⟩,
      ⟨0x9021, 0x9021, some 5⟩],
     [(10822, 10823), (11034, 11034)]⟩
  | .ringLoss =>
    ⟨[.events, .ring],
     [⟨0x4001, 0x4001, some 1⟩],
     [(10822, 10823)]⟩
  | .nodeLeft .. =>
    ⟨[.events, .ring],
     [⟨0x4001, 0x4001, some 9⟩],
     [(10822, 10823), (11033, 11033)]⟩
  | .laneLost .. | .roundLoss .. =>
    ⟨[.events, .ring],
     [⟨0x4001, 0x4001, some 7⟩],
     [(10822, 10823), (11026, 11026)]⟩
  | .wrapRestoreHoldoff .. | .voteLockEnd =>
    ⟨[.events, .ring],
     [],
     [(10823, 10823)]⟩
  | .wrapRelease =>
    ⟨[.events, .ring],
     [⟨0x4001, 0x4001, some 7⟩],
     [(10822, 10823)]⟩
  | .lanesCrossed =>
    ⟨[.events, .ring],
     [⟨0x4000, 0x4000, some 2⟩, ⟨0x4000, 0x4000, some 3⟩, ⟨0x4001, 0x4001, some 7⟩],
     [(10822, 10823), (11038, 11038)]⟩
  | .modeRequestEvaluation =>
    ⟨[.events, .ring, .power],
     [⟨0x4010, 0x4010, some 4⟩, ⟨0x4010, 0x4010, some 6⟩],
     [(220, 221), (10822, 10823), (11034, 11034)]⟩
  | .modeSwitch =>
    ⟨[.dict, .staging, .clampLog, .buffers, .image, .events, .time, .pins, .ring, .segments, .traffic, .messages, .txRings,
      .rxRings, .twin, .mismatchLog, .kiln, .faults, .reader, .canopy, .power, .free, .out],
     [],
     [(8, 8), (27, 27), (31, 31), (106, 106), (110, 110), (112, 112), (115, 115), (200, 263), (10774, 10774), (10791, 10792),
      (10818, 10818), (10821, 10823), (10826, 10830), (11035, 11035), (11072, 11135), (11140, 11140), (11144, 11144),
      (11158, 11162), (11178, 11178), (11189, 11190), (20000, 20000)]⟩
  | .modeAdopt =>
    ⟨[.dict, .events, .time, .ring, .segments, .traffic, .messages, .txRings, .power, .free, .out],
     [],
     [(31, 31), (200, 263), (10774, 10774), (10822, 10823), (11189, 11190), (20000, 20000)]⟩
  | .cyclePoint .. =>
    ⟨[.events, .out],
     [],
     [(10822, 10823), (11073, 11074), (11106, 11107)]⟩
  | .segmentListenTimer .. | .coldstartBackoffExpiry .. =>
    ⟨[.events, .segments, .traffic, .messages],
     [⟨0x3400, 0x3400, some 1⟩, ⟨0x5001, 0x5001, some 3⟩, ⟨0x5001, 0x5001, some 5⟩],
     [(10822, 10823)]⟩
  | .segmentCycleBoundary .. =>
    ⟨[.events, .time, .segments, .traffic, .messages, .txRings],
     [⟨0x3400, 0x3400, some 1⟩, ⟨0x3400, 0x3400, some 3⟩, ⟨0x3400, 0x3400, some 4⟩, ⟨0x3400, 0x3400, some 5⟩,
      ⟨0x3400, 0x3400, some 6⟩, ⟨0x3400, 0x3400, some 7⟩, ⟨0x5001, 0x5001, some 3⟩, ⟨0x5001, 0x5001, some 4⟩,
      ⟨0x5001, 0x5001, some 5⟩, ⟨0x5001, 0x5001, some 7⟩],
     [(10822, 10823)]⟩
  | .slotLatch .. =>
    ⟨[.events, .time, .segments, .traffic, .txRings, .power],
     [⟨0x5007, 0x5007, some 3⟩],
     [(17, 18), (200, 263), (10822, 10823)]⟩
  | .slotActionPoint .. =>
    ⟨[.events, .time, .segments, .messages, .txRings, .kiln, .out],
     [⟨0x3400, 0x3400, some 1⟩, ⟨0x5001, 0x5001, some 3⟩, ⟨0x6810, 0x6810, none⟩, ⟨0xC011, 0xC011, some 1⟩,
      ⟨0xC011, 0xC011, some 2⟩],
     [(2, 3), (7, 7), (11, 11), (13, 13), (19, 19), (26, 26), (10822, 10823), (11189, 11190), (20000, 20000)]⟩
  | .segmentFrame .. | .frameReceived .. =>
    ⟨[.image, .events, .time, .pins, .segments, .traffic, .messages, .txRings, .rxRings, .twin, .kiln, .faults, .power, .free,
      .out],
     [⟨0x1010, 0x1010, none⟩, ⟨0x3400, 0x3400, none⟩, ⟨0x3502, 0x3502, none⟩, ⟨0x5000, 0x5001, none⟩, ⟨0x5005, 0x5007, none⟩,
      ⟨0x6001, 0x6001, none⟩, ⟨0x6021, 0x6021, none⟩, ⟨0x6410, 0x6410, none⟩, ⟨0x6510, 0x6510, none⟩, ⟨0x6601, 0x6601, none⟩,
      ⟨0x6810, 0x6810, none⟩, ⟨0x8211, 0x8211, none⟩, ⟨0x9021, 0x9021, none⟩, ⟨0xB001, 0xB001, none⟩, ⟨0xC011, 0xC011, none⟩],
     [(0, 1), (4, 6), (8, 8), (12, 12), (15, 16), (23, 23), (25, 25), (27, 27), (31, 31), (115, 115), (200, 263),
      (10752, 11007), (11072, 11135), (11162, 11162), (11178, 11178), (11180, 11180), (11183, 11183), (11189, 11190),
      (20000, 20000)]⟩
  | .slotEnd .. =>
    ⟨[.events, .time, .segments, .txRings],
     [⟨0x5007, 0x5007, some 1⟩],
     [(14, 14), (10823, 10823)]⟩
  | .syncFrame .. =>
    ⟨[.image, .events, .time, .pins, .segments, .traffic, .messages, .txRings, .twin, .kiln, .faults, .power, .out],
     [⟨0x1010, 0x1010, none⟩, ⟨0x3400, 0x3400, none⟩, ⟨0x3502, 0x3502, none⟩, ⟨0x5000, 0x5001, none⟩, ⟨0x5005, 0x5007, none⟩,
      ⟨0x6001, 0x6001, none⟩, ⟨0x9021, 0x9021, none⟩, ⟨0xB001, 0xB001, none⟩],
     [(0, 1), (4, 6), (8, 8), (12, 12), (15, 16), (20, 21), (23, 23), (25, 27), (29, 29), (115, 115), (217, 217), (220, 221),
      (223, 223), (10822, 10823), (10826, 10830), (11162, 11162), (11178, 11178)]⟩
  | .tailStart .. =>
    ⟨[.events, .time, .segments, .traffic, .txRings, .power, .out],
     [⟨0x6021, 0x6021, some 7⟩, ⟨0x6410, 0x6410, some 4⟩, ⟨0x6410, 0x6410, some 5⟩, ⟨0x6410, 0x6410, some 6⟩,
      ⟨0x6810, 0x6810, none⟩, ⟨0xC011, 0xC011, some 1⟩, ⟨0xC011, 0xC011, some 2⟩],
     [(8, 8), (22, 22), (31, 31), (200, 263), (10774, 10774), (10822, 10823), (11189, 11190), (20000, 20000)]⟩
  | .listenOnlyRelease .. =>
    ⟨[.events, .pins, .segments, .faults, .out],
     [⟨0x5006, 0x5006, some 5⟩, ⟨0xB001, 0xB001, some 2⟩],
     [(10822, 10823)]⟩
  | .presenceLeave .. =>
    ⟨[.events, .segments],
     [⟨0x5005, 0x5005, some 0⟩, ⟨0x5006, 0x5006, some 1⟩],
     [(24, 24), (10822, 10823)]⟩
  | .segmentModeSwitch .. =>
    ⟨[.dict, .events, .time, .segments, .traffic, .messages, .txRings],
     [],
     [(28, 28), (10822, 10823)]⟩
  | .linkUp .. =>
    ⟨[.events, .time, .ring, .segments, .traffic, .txRings, .kiln, .power, .free, .out],
     [⟨0x5001, 0x5001, some 1⟩, ⟨0x5001, 0x5001, some 6⟩, ⟨0x6001, 0x6001, some 1⟩, ⟨0x6001, 0x6001, some 2⟩,
      ⟨0x6021, 0x6021, some 7⟩, ⟨0x6410, 0x6410, none⟩, ⟨0x6810, 0x6810, none⟩, ⟨0xC011, 0xC011, some 1⟩,
      ⟨0xC011, 0xC011, some 2⟩],
     [(31, 31), (200, 263), (10774, 10774), (10822, 10823), (11140, 11140), (11144, 11144), (11178, 11178), (11189, 11190),
      (20000, 20000)]⟩
  | .linkDown .. =>
    ⟨[.image, .events, .time, .pins, .ring, .segments, .traffic, .messages, .txRings, .twin, .kiln, .faults, .power, .out],
     [⟨0x1010, 0x1010, some 1⟩, ⟨0x3400, 0x3400, some 1⟩, ⟨0x3502, 0x3502, some 2⟩, ⟨0x4001, 0x4001, some 7⟩,
      ⟨0x5000, 0x5000, some 1⟩, ⟨0x5001, 0x5001, none⟩, ⟨0x5005, 0x5005, some 0⟩, ⟨0x5006, 0x5006, some 1⟩,
      ⟨0x6001, 0x6001, some 1⟩, ⟨0x6001, 0x6001, some 2⟩, ⟨0x9021, 0x9021, some 1⟩, ⟨0xB001, 0xB001, none⟩],
     [(8, 8), (27, 27), (115, 115), (220, 221), (10822, 10823), (10826, 10830), (11026, 11026), (11162, 11162), (11178, 11178)]⟩
  | .hostFrameHandover .. | .queueRoom .. | .calendarSlot .. =>
    ⟨[.events, .time, .segments, .traffic, .messages, .txRings, .rxRings, .kiln, .power, .free, .out],
     [⟨0x6021, 0x6021, none⟩, ⟨0x6410, 0x6410, none⟩, ⟨0x6510, 0x6510, none⟩, ⟨0x6601, 0x6601, none⟩, ⟨0x6701, 0x6701, none⟩,
      ⟨0x6810, 0x6810, none⟩, ⟨0x7411, 0x7411, none⟩, ⟨0xC011, 0xC011, none⟩],
     [(31, 31), (200, 263), (10752, 11007), (11178, 11178), (11183, 11183), (11189, 11190), (20000, 20000)]⟩
  | .macFree .. =>
    ⟨[.events, .time, .segments, .traffic, .txRings, .kiln, .power, .free, .out],
     [⟨0x6021, 0x6021, some 7⟩, ⟨0x6410, 0x6410, some 4⟩, ⟨0x6410, 0x6410, some 5⟩, ⟨0x6410, 0x6410, some 6⟩,
      ⟨0x6410, 0x6410, some 7⟩, ⟨0x6810, 0x6810, none⟩, ⟨0xC011, 0xC011, some 1⟩, ⟨0xC011, 0xC011, some 2⟩],
     [(2, 3), (7, 7), (9, 10), (31, 31), (200, 263), (10774, 10774), (10822, 10823), (11189, 11190), (20000, 20000)]⟩
  | .gateEntry .. =>
    ⟨[.events, .time, .segments, .traffic, .txRings, .power, .free],
     [⟨0x6001, 0x6001, some 3⟩, ⟨0x6001, 0x6001, some 4⟩, ⟨0x6021, 0x6021, some 7⟩, ⟨0x6410, 0x6410, some 4⟩,
      ⟨0x6410, 0x6410, some 5⟩, ⟨0x6410, 0x6410, some 6⟩, ⟨0x6810, 0x6810, none⟩, ⟨0xC011, 0xC011, some 1⟩,
      ⟨0xC011, 0xC011, some 2⟩],
     [(31, 31), (200, 263), (10774, 10774), (10822, 10823), (11189, 11190), (20000, 20000)]⟩
  | .gateTakeOver .. =>
    ⟨[.events, .time, .segments, .traffic, .txRings, .power, .free],
     [⟨0x6001, 0x6001, some 3⟩, ⟨0x6001, 0x6001, some 4⟩, ⟨0x6021, 0x6021, some 7⟩, ⟨0x6100, 0x6100, some 8⟩,
      ⟨0x6101, 0x6101, none⟩, ⟨0x6300, 0x63FF, none⟩, ⟨0x6410, 0x6410, none⟩, ⟨0x6810, 0x6810, none⟩, ⟨0xC011, 0xC011, some 1⟩,
      ⟨0xC011, 0xC011, some 2⟩],
     [(31, 31), (200, 263), (10774, 10774), (10822, 10823), (11189, 11190), (20000, 20000)]⟩
  | .preemptionVerifyTimer .. =>
    ⟨[.events, .traffic, .out],
     [⟨0x6001, 0x6001, some 1⟩, ⟨0x6001, 0x6001, some 2⟩],
     [(10822, 10823)]⟩
  | .preemptionRespond .. =>
    ⟨[.events, .time, .segments, .traffic, .txRings, .power, .free],
     [⟨0x6001, 0x6001, some 1⟩, ⟨0x6001, 0x6001, some 2⟩, ⟨0x6021, 0x6021, some 7⟩, ⟨0x6410, 0x6410, some 4⟩,
      ⟨0x6410, 0x6410, some 5⟩, ⟨0x6410, 0x6410, some 6⟩, ⟨0x6810, 0x6810, none⟩, ⟨0xC011, 0xC011, some 1⟩,
      ⟨0xC011, 0xC011, some 2⟩],
     [(31, 31), (200, 263), (10774, 10774), (10822, 10823), (11189, 11190), (20000, 20000)]⟩
  | .recoveryResetTimeout .. =>
    ⟨[.events, .traffic],
     [⟨0x6601, 0x6601, some 7⟩],
     [(10772, 10772), (10822, 10823)]⟩
  | .latentErrorTest .. =>
    ⟨[.image, .events, .time, .pins, .segments, .traffic, .messages, .txRings, .twin, .kiln, .faults, .power, .out],
     [⟨0x1010, 0x1010, some 1⟩, ⟨0x3400, 0x3400, some 1⟩, ⟨0x3502, 0x3502, some 2⟩, ⟨0x5000, 0x5000, some 1⟩,
      ⟨0x5001, 0x5001, none⟩, ⟨0x5005, 0x5005, some 0⟩, ⟨0x5006, 0x5006, some 1⟩, ⟨0x6001, 0x6001, some 1⟩,
      ⟨0x6001, 0x6001, some 2⟩, ⟨0x9021, 0x9021, some 1⟩, ⟨0xB001, 0xB001, none⟩],
     [(8, 8), (27, 27), (115, 115), (220, 221), (10773, 10773), (10822, 10823), (10826, 10830), (11162, 11162), (11178, 11178)]⟩
  | .latentReset .. =>
    ⟨[.events, .traffic],
     [⟨0x6601, 0x6601, some 8⟩],
     [(10823, 10823)]⟩
  | .taskStart .. =>
    ⟨[.events, .messages, .twin, .kiln, .power, .out],
     [⟨0x7011, 0x7011, some 2⟩],
     [(103, 104), (107, 109), (217, 218), (220, 221), (10822, 10823), (11155, 11155), (11157, 11157), (11178, 11178)]⟩
  | .route .. | .pack .. | .unpack .. | .protect .. | .check .. | .hold .. | .transact .. | .report .. =>
    ⟨[.events, .messages],
     [⟨0x7218, 0x721F, none⟩, ⟨0x7238, 0x723F, some 1⟩, ⟨0x7238, 0x723F, some 2⟩, ⟨0x7238, 0x723F, some 3⟩,
      ⟨0x7238, 0x723F, some 4⟩, ⟨0x7238, 0x723F, some 5⟩, ⟨0x7238, 0x723F, some 6⟩],
     [(110, 112), (10793, 10805), (10807, 10808), (10822, 10823)]⟩
  | .taskFinish .. =>
    ⟨[.buffers, .image, .events, .time, .pins, .ring, .segments, .traffic, .messages, .txRings, .rxRings, .twin, .mismatchLog,
      .kiln, .faults, .power, .free, .out],
     [⟨0x1010, 0x1010, none⟩, ⟨0x3400, 0x3400, none⟩, ⟨0x3502, 0x3502, none⟩, ⟨0x5000, 0x5001, none⟩, ⟨0x5005, 0x5006, none⟩,
      ⟨0x6001, 0x6001, none⟩, ⟨0x7218, 0x721F, none⟩, ⟨0x7238, 0x723F, none⟩, ⟨0x7411, 0x7411, none⟩, ⟨0x8211, 0x8211, none⟩,
      ⟨0x9021, 0x9021, none⟩, ⟨0xB001, 0xB001, none⟩, ⟨0xC011, 0xC011, none⟩],
     [(8, 8), (27, 27), (106, 106), (110, 112), (115, 115), (220, 221), (10791, 10805), (10807, 10808), (10822, 10823),
      (10826, 10830), (11072, 11135), (11158, 11162), (11178, 11178), (11189, 11190), (20000, 20000)]⟩
  | .taskBudgetExceeded .. =>
    ⟨[.events, .messages],
     [⟨0x7238, 0x723F, some 1⟩, ⟨0x7238, 0x723F, some 2⟩, ⟨0x7238, 0x723F, some 3⟩],
     [(10822, 10823)]⟩
  | .resultAccept .. =>
    ⟨[.image, .events, .time, .pins, .segments, .traffic, .messages, .txRings, .rxRings, .twin, .kiln, .faults, .power, .free,
      .out],
     [⟨0x1010, 0x1010, none⟩, ⟨0x3400, 0x3400, none⟩, ⟨0x3502, 0x3502, none⟩, ⟨0x5000, 0x5001, none⟩, ⟨0x5005, 0x5006, none⟩,
      ⟨0x6001, 0x6001, none⟩, ⟨0x7180, 0x71FF, none⟩, ⟨0x7411, 0x7411, none⟩, ⟨0x8211, 0x8211, none⟩, ⟨0x9021, 0x9021, none⟩,
      ⟨0xB001, 0xB001, none⟩, ⟨0xC011, 0xC011, none⟩],
     [(8, 8), (27, 27), (100, 102), (105, 105), (113, 115), (220, 221), (10791, 10792), (10806, 10806), (10822, 10823),
      (10826, 10830), (11072, 11135), (11162, 11162), (11178, 11178), (11189, 11190), (20000, 20000)]⟩
  | .inboundImageSnapshot .. =>
    ⟨[.events, .messages, .out],
     [⟨0x7401, 0x7401, some 3⟩],
     [(10785, 10785), (10822, 10823), (11073, 11074)]⟩
  | .outboundImageRead .. =>
    ⟨[.events, .messages, .functions, .out],
     [⟨0x7401, 0x7401, some 3⟩],
     [(10786, 10786), (10789, 10789), (10823, 10823), (11073, 11073), (11075, 11075)]⟩
  | .outboundImageReadDone .. =>
    ⟨[.buffers, .events, .messages, .functions, .out],
     [⟨0x7401, 0x7401, some 1⟩, ⟨0x7401, 0x7401, some 2⟩, ⟨0x7401, 0x7401, some 4⟩, ⟨0x7401, 0x7401, some 5⟩,
      ⟨0x7401, 0x7401, some 6⟩],
     [(10787, 10788), (10822, 10823), (11072, 11073), (11075, 11076)]⟩
  | .hostMessageReceived .. =>
    ⟨[.events, .messages],
     [⟨0x7411, 0x7411, some 1⟩, ⟨0x7411, 0x7411, some 4⟩],
     [(10790, 10790), (10823, 10823)]⟩
  | .doorbell .. =>
    ⟨[.events, .txRings, .rxRings, .functions, .canopy, .power, .out],
     [],
     [(217, 217), (220, 221), (10822, 10823), (11072, 11073), (11075, 11075), (11079, 11081), (11083, 11083)]⟩
  | .push .. =>
    ⟨[.events, .traffic, .txRings, .rxRings, .functions, .canopy, .power, .free, .out],
     [⟨0x8201, 0x8201, some 4⟩, ⟨0x8201, 0x8201, some 5⟩, ⟨0x8201, 0x8201, some 6⟩, ⟨0x8201, 0x8201, some 7⟩,
      ⟨0x8201, 0x8201, some 8⟩],
     [(217, 217), (220, 221), (10822, 10823), (11072, 11075), (11077, 11078), (11080, 11080), (11083, 11083), (11086, 11094)]⟩
  | .entryFetchDone .. =>
    ⟨[.events, .traffic, .txRings, .rxRings, .functions, .free, .out],
     [⟨0x8201, 0x8201, some 4⟩, ⟨0x8201, 0x8201, some 5⟩, ⟨0x8201, 0x8201, some 6⟩, ⟨0x8201, 0x8201, some 7⟩,
      ⟨0x8201, 0x8201, some 8⟩],
     [(10822, 10823), (11072, 11076), (11082, 11082), (11084, 11094)]⟩
  | .txBufferReadDone .. =>
    ⟨[.events, .txRings, .rxRings, .functions, .out],
     [],
     [(10823, 10823), (11072, 11073), (11075, 11076)]⟩
  | .txFrameComplete .. =>
    ⟨[.events, .txRings, .rxRings, .free, .out],
     [⟨0x8201, 0x8201, some 4⟩, ⟨0x8201, 0x8201, some 5⟩, ⟨0x8201, 0x8201, some 6⟩, ⟨0x8201, 0x8201, some 7⟩,
      ⟨0x8201, 0x8201, some 8⟩],
     [(10822, 10823), (11073, 11074), (11086, 11094)]⟩
  | .ringHoldoffTimer .. =>
    ⟨[.events, .txRings, .rxRings],
     [],
     [(10822, 10823)]⟩
  | .queueEnable .. =>
    ⟨[.events, .txRings, .rxRings, .functions, .out],
     [],
     [(10822, 10823), (11072, 11073), (11075, 11075), (11083, 11083)]⟩
  | .queueDisable .. =>
    ⟨[.events, .segments, .traffic, .txRings, .rxRings, .functions, .free, .out],
     [⟨0x8201, 0x8201, some 4⟩, ⟨0x8201, 0x8201, some 5⟩, ⟨0x8201, 0x8201, some 6⟩, ⟨0x8201, 0x8201, some 7⟩,
      ⟨0x8201, 0x8201, some 8⟩],
     [(10822, 10823), (11072, 11074), (11086, 11094)]⟩
  | .drainComplete .. =>
    ⟨[.events, .txRings, .rxRings, .functions, .out],
     [],
     [(10822, 10823), (11073, 11073), (11075, 11075), (11083, 11083)]⟩
  | .queueConfigWrite .. =>
    ⟨[.events, .txRings, .rxRings],
     [],
     [(10823, 10823), (11072, 11072)]⟩
  | .functionLevelReset .. =>
    ⟨[.events, .segments, .traffic, .txRings, .rxRings, .queues, .functions, .out],
     [⟨0x8101, 0x8101, some 1⟩, ⟨0x8101, 0x8101, some 2⟩, ⟨0x8101, 0x8101, some 3⟩],
     [(10822, 10823), (11073, 11073), (11075, 11075), (11114, 11115)]⟩
  | .busMasterChanged .. =>
    ⟨[.events, .segments, .traffic, .txRings, .rxRings, .functions, .out],
     [⟨0x8101, 0x8101, some 1⟩],
     [(10822, 10823), (11073, 11073), (11075, 11075), (11115, 11115)]⟩
  | .vfEnableChanged .. =>
    ⟨[.events, .segments, .traffic, .txRings, .rxRings, .functions, .out],
     [⟨0x8101, 0x8101, some 2⟩],
     [(10822, 10823), (11073, 11073), (11075, 11075), (11115, 11115)]⟩
  | .dmaReadError .. =>
    ⟨[.image, .events, .time, .pins, .segments, .traffic, .messages, .txRings, .rxRings, .functions, .twin, .kiln, .faults,
      .power, .free, .out],
     [⟨0x1010, 0x1010, some 1⟩, ⟨0x3400, 0x3400, some 1⟩, ⟨0x3502, 0x3502, some 2⟩, ⟨0x5000, 0x5000, some 1⟩,
      ⟨0x5001, 0x5001, none⟩, ⟨0x5005, 0x5005, some 0⟩, ⟨0x5006, 0x5006, some 1⟩, ⟨0x6001, 0x6001, some 1⟩,
      ⟨0x6001, 0x6001, some 2⟩, ⟨0x8201, 0x8201, none⟩, ⟨0x9021, 0x9021, some 1⟩, ⟨0xB001, 0xB001, none⟩],
     [(8, 8), (27, 27), (115, 115), (220, 221), (10822, 10823), (10826, 10830), (11073, 11074), (11086, 11094), (11108, 11108),
      (11162, 11162), (11178, 11178)]⟩
  | .dmaWriteError .. =>
    ⟨[.image, .events, .time, .pins, .segments, .traffic, .messages, .txRings, .functions, .twin, .kiln, .faults, .power,
      .free, .out],
     [⟨0x1010, 0x1010, some 1⟩, ⟨0x3400, 0x3400, some 1⟩, ⟨0x3502, 0x3502, some 2⟩, ⟨0x5000, 0x5000, some 1⟩,
      ⟨0x5001, 0x5001, none⟩, ⟨0x5005, 0x5005, some 0⟩, ⟨0x5006, 0x5006, some 1⟩, ⟨0x6001, 0x6001, some 1⟩,
      ⟨0x6001, 0x6001, some 2⟩, ⟨0x9021, 0x9021, some 1⟩, ⟨0xB001, 0xB001, none⟩],
     [(8, 8), (27, 27), (115, 115), (220, 221), (10822, 10823), (10826, 10830), (11109, 11111), (11162, 11162), (11178, 11178)]⟩
  | .eqHeadWrite .. =>
    ⟨[.events, .queues, .functions, .out],
     [⟨0x8221, 0x8221, some 4⟩],
     [(10823, 10823), (11072, 11074), (11105, 11105)]⟩
  | .eqEnable .. =>
    ⟨[.events, .queues],
     [],
     [(10823, 10823), (11072, 11072)]⟩
  | .eqHoldoffTimer .. =>
    ⟨[.events, .queues, .functions, .out],
     [⟨0x8221, 0x8221, some 4⟩],
     [(10823, 10823), (11073, 11074), (11105, 11105)]⟩
  | .msixUnmask .. =>
    ⟨[.events, .functions, .out],
     [],
     [(10823, 10823), (11072, 11074), (11105, 11105)]⟩
  | .clockPageRead .. =>
    ⟨[.events, .functions, .out],
     [],
     [(10823, 10823), (11072, 11073)]⟩
  | .registerWrite .. =>
    ⟨[.mailbox, .buffers, .events, .segments, .traffic, .txRings, .rxRings, .queues, .functions, .kiln, .canopy, .power, .free,
      .out],
     [⟨0x8201, 0x8201, some 4⟩, ⟨0x8201, 0x8201, some 5⟩, ⟨0x8201, 0x8201, some 6⟩, ⟨0x8201, 0x8201, some 7⟩,
      ⟨0x8201, 0x8201, some 8⟩, ⟨0x8221, 0x8221, some 4⟩],
     [(217, 217), (220, 221), (10822, 10823), (11072, 11075), (11079, 11081), (11083, 11083), (11086, 11094), (11105, 11105)]⟩
  | .pcieLinkChanged .. =>
    ⟨[.events, .pins, .functions],
     [⟨0x8000, 0x8000, none⟩],
     [(10822, 10823), (11112, 11113)]⟩
  | .perst .. =>
    ⟨[.events, .pins, .segments, .traffic, .txRings, .rxRings, .queues, .functions, .out],
     [⟨0x8000, 0x8000, none⟩, ⟨0x8101, 0x8101, some 1⟩, ⟨0x8101, 0x8101, some 2⟩],
     [(10822, 10823), (11073, 11073), (11075, 11075), (11112, 11113), (11115, 11115)]⟩
  | .stackHello .. =>
    ⟨[.image, .events, .time, .pins, .segments, .traffic, .messages, .txRings, .twin, .kiln, .faults, .power, .free, .out],
     [⟨0x1010, 0x1010, some 1⟩, ⟨0x3400, 0x3400, some 1⟩, ⟨0x3502, 0x3502, some 2⟩, ⟨0x5000, 0x5000, some 1⟩,
      ⟨0x5001, 0x5001, none⟩, ⟨0x5005, 0x5005, some 0⟩, ⟨0x5006, 0x5006, some 1⟩, ⟨0x6001, 0x6001, some 1⟩,
      ⟨0x6001, 0x6001, some 2⟩, ⟨0x9002, 0x9002, none⟩, ⟨0x9011, 0x9011, some 2⟩, ⟨0x9011, 0x9011, some 3⟩,
      ⟨0x9021, 0x9021, some 1⟩, ⟨0xB001, 0xB001, none⟩],
     [(8, 8), (27, 27), (115, 115), (220, 221), (10822, 10823), (10826, 10830), (11162, 11162), (11178, 11180)]⟩
  | .stackLinkUp .. =>
    ⟨[.events, .time, .segments, .traffic, .txRings, .twin, .kiln, .power, .free, .out],
     [⟨0x6021, 0x6021, some 7⟩, ⟨0x6410, 0x6410, some 4⟩, ⟨0x6410, 0x6410, some 5⟩, ⟨0x6410, 0x6410, some 6⟩,
      ⟨0x6810, 0x6810, none⟩, ⟨0x9002, 0x9002, some 1⟩, ⟨0xC011, 0xC011, some 1⟩, ⟨0xC011, 0xC011, some 2⟩],
     [(31, 31), (200, 263), (10774, 10774), (10822, 10823), (11140, 11140), (11144, 11144), (11178, 11178), (11189, 11190),
      (20000, 20000)]⟩
  | .stackLinkDown .. =>
    ⟨[.mailbox, .buffers, .image, .events, .time, .pins, .segments, .traffic, .messages, .txRings, .twin, .kiln, .faults,
      .power, .free, .out],
     [⟨0x1010, 0x1010, none⟩, ⟨0x3400, 0x3400, none⟩, ⟨0x3502, 0x3502, none⟩, ⟨0x5000, 0x5001, none⟩, ⟨0x5005, 0x5006, none⟩,
      ⟨0x6001, 0x6001, none⟩, ⟨0x6021, 0x6021, none⟩, ⟨0x6410, 0x6410, none⟩, ⟨0x6810, 0x6810, none⟩, ⟨0x9002, 0x9002, none⟩,
      ⟨0x9021, 0x9021, none⟩, ⟨0xB001, 0xB001, none⟩, ⟨0xC011, 0xC011, none⟩],
     [(8, 8), (27, 27), (31, 31), (115, 115), (200, 263), (10774, 10774), (10817, 10817), (10822, 10823), (10826, 10830),
      (11162, 11162), (11178, 11178), (11181, 11181), (11189, 11190), (20000, 20000)]⟩
  | .stackMemberLost .. =>
    ⟨[.mailbox, .buffers, .events, .time, .segments, .traffic, .txRings, .twin, .power, .free],
     [⟨0x6021, 0x6021, some 7⟩, ⟨0x6410, 0x6410, some 4⟩, ⟨0x6410, 0x6410, some 5⟩, ⟨0x6410, 0x6410, some 6⟩,
      ⟨0x6810, 0x6810, none⟩, ⟨0x9000, 0x9000, some 2⟩, ⟨0x9011, 0x9011, some 1⟩, ⟨0x9011, 0x9011, some 2⟩,
      ⟨0xC011, 0xC011, some 1⟩, ⟨0xC011, 0xC011, some 2⟩],
     [(31, 31), (200, 263), (10774, 10774), (10817, 10817), (10822, 10823), (11189, 11190), (20000, 20000)]⟩
  | .viewForward .. =>
    ⟨[.events, .ring, .messages, .twin, .kiln, .out],
     [⟨0x9002, 0x9002, some 4⟩],
     [(10822, 10823), (11178, 11180)]⟩
  | .streamForward .. =>
    ⟨[.events, .time, .segments, .traffic, .txRings, .rxRings, .kiln, .power, .free, .out],
     [⟨0x6021, 0x6021, none⟩, ⟨0x6410, 0x6410, none⟩, ⟨0x6510, 0x6510, none⟩, ⟨0x6601, 0x6601, none⟩, ⟨0x6810, 0x6810, none⟩,
      ⟨0x8211, 0x8211, none⟩, ⟨0x9002, 0x9002, none⟩, ⟨0xC011, 0xC011, none⟩],
     [(31, 31), (200, 263), (10752, 11007), (11072, 11135), (11178, 11180), (11189, 11190), (20000, 20000)]⟩
  | .stepRecordSend =>
    ⟨[.image, .events, .time, .pins, .segments, .traffic, .messages, .txRings, .twin, .mismatchLog, .kiln, .faults, .power,
      .out],
     [⟨0x1010, 0x1010, some 1⟩, ⟨0x3400, 0x3400, some 1⟩, ⟨0x3502, 0x3502, some 2⟩, ⟨0x5000, 0x5000, some 1⟩,
      ⟨0x5001, 0x5001, none⟩, ⟨0x5005, 0x5005, some 0⟩, ⟨0x5006, 0x5006, some 1⟩, ⟨0x6001, 0x6001, some 1⟩,
      ⟨0x6001, 0x6001, some 2⟩, ⟨0x9021, 0x9021, some 1⟩, ⟨0xB001, 0xB001, none⟩],
     [(8, 8), (27, 27), (115, 115), (220, 221), (10822, 10823), (10826, 10830), (11152, 11152), (11158, 11162), (11178, 11178)]⟩
  | .stepRecord .. =>
    ⟨[.image, .events, .time, .pins, .ring, .segments, .traffic, .messages, .txRings, .twin, .mismatchLog, .kiln, .faults,
      .canopy, .power, .out],
     [⟨0x1010, 0x1010, some 1⟩, ⟨0x3400, 0x3400, some 1⟩, ⟨0x3502, 0x3502, some 2⟩, ⟨0x5000, 0x5000, some 1⟩,
      ⟨0x5001, 0x5001, none⟩, ⟨0x5005, 0x5005, some 0⟩, ⟨0x5006, 0x5006, some 1⟩, ⟨0x6001, 0x6001, some 1⟩,
      ⟨0x6001, 0x6001, some 2⟩, ⟨0x9002, 0x9002, some 4⟩, ⟨0x9021, 0x9021, none⟩, ⟨0xB001, 0xB001, none⟩],
     [(8, 8), (27, 27), (115, 115), (220, 221), (10822, 10823), (10826, 10830), (11153, 11153), (11159, 11162), (11173, 11173),
      (11178, 11180)]⟩
  | .stepRecordMissed =>
    ⟨[.events, .twin],
     [⟨0x9021, 0x9021, some 1⟩],
     [(10822, 10823), (11154, 11154), (11176, 11176)]⟩
  | .mirror .. =>
    ⟨[.events, .messages],
     [⟨0x9002, 0x9002, some 4⟩],
     [(10823, 10823), (11156, 11156), (11179, 11180)]⟩
  | .selfTestRequest .. =>
    ⟨[.events, .twin],
     [⟨0x9002, 0x9002, some 4⟩],
     [(10823, 10823), (11179, 11180)]⟩
  | .groveSelfTestStart .. =>
    ⟨[.events, .power],
     [],
     [(229, 229), (10822, 10823), (11163, 11163)]⟩
  | .groveSelfTestEnd .. =>
    ⟨[.events, .twin, .kiln, .canopy, .power, .out],
     [⟨0x9021, 0x9021, some 1⟩, ⟨0x9021, 0x9021, some 10⟩],
     [(230, 230), (10822, 10823), (11164, 11164), (11178, 11178)]⟩
  | .selfTestResult .. =>
    ⟨[.events, .twin, .kiln, .out],
     [⟨0x9002, 0x9002, some 4⟩, ⟨0x9021, 0x9021, some 1⟩, ⟨0x9021, 0x9021, some 10⟩],
     [(10822, 10823), (11178, 11180)]⟩
  | .selfTestResultTimeout .. =>
    ⟨[.events, .twin, .kiln, .out],
     [⟨0x9021, 0x9021, some 1⟩, ⟨0x9021, 0x9021, some 10⟩],
     [(10822, 10823), (11178, 11178)]⟩
  | .leaseExpiry =>
    ⟨[.events, .time, .ring, .twin],
     [⟨0x3001, 0x3001, some 1⟩, ⟨0x3001, 0x3001, some 2⟩, ⟨0x3001, 0x3001, some 5⟩, ⟨0x3502, 0x3502, some 1⟩,
      ⟨0x3502, 0x3502, some 2⟩, ⟨0x4001, 0x4001, some 1⟩, ⟨0x4010, 0x4010, some 4⟩, ⟨0x9021, 0x9021, some 1⟩,
      ⟨0x9021, 0x9021, some 3⟩],
     [(10822, 10823), (11169, 11169)]⟩
  | .witnessPollSend =>
    ⟨[.events, .time, .segments, .traffic, .txRings, .twin, .power, .free],
     [⟨0x6021, 0x6021, some 7⟩, ⟨0x6410, 0x6410, some 4⟩, ⟨0x6410, 0x6410, some 5⟩, ⟨0x6410, 0x6410, some 6⟩,
      ⟨0x6810, 0x6810, none⟩, ⟨0xC011, 0xC011, some 1⟩, ⟨0xC011, 0xC011, some 2⟩],
     [(31, 31), (200, 263), (10774, 10774), (10822, 10823), (11170, 11170), (11189, 11190), (20000, 20000)]⟩
  | .witnessPoll .. =>
    ⟨[.image, .events, .time, .pins, .ring, .segments, .traffic, .messages, .txRings, .rxRings, .twin, .kiln, .faults, .power,
      .free, .out],
     [⟨0x1010, 0x1010, none⟩, ⟨0x3400, 0x3400, none⟩, ⟨0x3502, 0x3502, none⟩, ⟨0x5000, 0x5001, none⟩, ⟨0x5005, 0x5007, none⟩,
      ⟨0x6001, 0x6001, none⟩, ⟨0x6021, 0x6021, none⟩, ⟨0x6410, 0x6410, none⟩, ⟨0x6810, 0x6810, none⟩, ⟨0x8211, 0x8211, none⟩,
      ⟨0x9021, 0x9021, none⟩, ⟨0xB001, 0xB001, none⟩, ⟨0xC011, 0xC011, none⟩],
     [(0, 1), (4, 6), (8, 8), (12, 12), (15, 16), (23, 23), (25, 25), (27, 27), (31, 31), (115, 115), (200, 263),
      (10774, 10774), (10822, 10823), (10826, 10830), (11072, 11135), (11162, 11162), (11171, 11172), (11178, 11178),
      (11189, 11190), (20000, 20000)]⟩
  | .witnessPollEvaluation | .noWitnessAcquire | .releaseAcquire =>
    ⟨[.events, .time, .ring, .twin, .canopy],
     [⟨0x3001, 0x3001, none⟩, ⟨0x3502, 0x3502, some 1⟩, ⟨0x3502, 0x3502, some 2⟩, ⟨0x4001, 0x4001, none⟩,
      ⟨0x9021, 0x9021, none⟩],
     [(10822, 10823), (11034, 11034), (11165, 11165), (11167, 11167)]⟩
  | .coppiceRequest .. =>
    ⟨[.events, .twin, .kiln, .out],
     [⟨0x9002, 0x9002, some 4⟩],
     [(10822, 10823), (11177, 11180)]⟩
  | .coppiceSnapshot =>
    ⟨[.events, .twin, .kiln, .out],
     [],
     [(10822, 10823), (11174, 11174), (11177, 11178)]⟩
  | .snapshotChunk .. =>
    ⟨[.dict, .staging, .clampLog, .mailbox, .buffers, .image, .events, .clock, .time, .pins, .ring, .segments, .traffic,
      .messages, .txRings, .rxRings, .functions, .twin, .mismatchLog, .flash, .kiln, .faults, .reader, .canopy, .power, .free,
      .out],
     [],
     [(8, 8), (27, 27), (31, 31), (106, 106), (110, 110), (112, 112), (115, 115), (200, 263), (10774, 10774), (10791, 10792),
      (10817, 10820), (10822, 10823), (10826, 10830), (11026, 11026), (11072, 11135), (11140, 11140), (11144, 11144),
      (11150, 11150), (11158, 11162), (11176, 11176), (11178, 11181), (11189, 11190), (20000, 20000)]⟩
  | .logChunk .. =>
    ⟨[.events, .twin, .kiln, .out],
     [⟨0x9002, 0x9002, some 4⟩, ⟨0x9021, 0x9021, some 1⟩, ⟨0x9021, 0x9021, some 10⟩],
     [(10822, 10823), (11176, 11176), (11178, 11180)]⟩
  | .coppiceDone =>
    ⟨[.buffers, .image, .events, .time, .pins, .ring, .segments, .traffic, .messages, .txRings, .rxRings, .twin, .mismatchLog,
      .kiln, .faults, .power, .free, .out],
     [⟨0x1010, 0x1010, none⟩, ⟨0x3400, 0x3400, none⟩, ⟨0x3502, 0x3502, none⟩, ⟨0x5000, 0x5001, none⟩, ⟨0x5005, 0x5006, none⟩,
      ⟨0x6001, 0x6001, none⟩, ⟨0x7011, 0x7011, none⟩, ⟨0x7180, 0x71FF, none⟩, ⟨0x7218, 0x721F, none⟩, ⟨0x7238, 0x723F, none⟩,
      ⟨0x7411, 0x7411, none⟩, ⟨0x8211, 0x8211, none⟩, ⟨0x9002, 0x9002, none⟩, ⟨0x9021, 0x9021, none⟩, ⟨0xB001, 0xB001, none⟩,
      ⟨0xC011, 0xC011, none⟩],
     [(8, 8), (27, 27), (100, 103), (105, 115), (220, 221), (10791, 10808), (10822, 10823), (10826, 10830), (11072, 11135),
      (11155, 11155), (11157, 11162), (11175, 11175), (11178, 11180), (11189, 11190), (20000, 20000)]⟩
  | .coppiceTimeout =>
    ⟨[.events, .twin],
     [⟨0x9021, 0x9021, some 1⟩],
     [(10822, 10823), (11176, 11176)]⟩
  | .backgroundSelfTestStep .. =>
    ⟨[.image, .events, .time, .pins, .segments, .traffic, .messages, .txRings, .twin, .kiln, .faults, .canopy, .power, .out],
     [⟨0x1010, 0x1010, some 1⟩, ⟨0x3400, 0x3400, some 1⟩, ⟨0x3502, 0x3502, some 2⟩, ⟨0x5000, 0x5000, some 1⟩,
      ⟨0x5001, 0x5001, none⟩, ⟨0x5005, 0x5005, some 0⟩, ⟨0x5006, 0x5006, some 1⟩, ⟨0x6001, 0x6001, some 1⟩,
      ⟨0x6001, 0x6001, some 2⟩, ⟨0x9021, 0x9021, some 1⟩, ⟨0xB001, 0xB001, none⟩],
     [(8, 8), (27, 27), (115, 115), (220, 221), (229, 230), (10822, 10823), (10826, 10830), (11162, 11162), (11178, 11178)]⟩
  | .kilnGo =>
    ⟨[.events, .kiln],
     [],
     [(10823, 10823), (11072, 11072)]⟩
  | .kilnMessageFragment .. =>
    ⟨[.buffers, .image, .events, .time, .pins, .segments, .traffic, .messages, .txRings, .rxRings, .twin, .kiln, .faults,
      .power, .free, .out],
     [⟨0x1010, 0x1010, none⟩, ⟨0x3400, 0x3400, none⟩, ⟨0x3502, 0x3502, none⟩, ⟨0x5000, 0x5001, none⟩, ⟨0x5005, 0x5007, none⟩,
      ⟨0x6001, 0x6001, none⟩, ⟨0x6021, 0x6021, none⟩, ⟨0x6410, 0x6410, none⟩, ⟨0x6810, 0x6810, none⟩, ⟨0x8211, 0x8211, none⟩,
      ⟨0x9002, 0x9002, none⟩, ⟨0x9021, 0x9021, none⟩, ⟨0xB001, 0xB001, none⟩, ⟨0xC011, 0xC011, none⟩],
     [(0, 1), (4, 6), (8, 8), (12, 12), (15, 16), (23, 23), (25, 25), (27, 27), (31, 31), (115, 115), (200, 263),
      (10774, 10774), (10822, 10823), (10826, 10830), (11072, 11137), (11162, 11162), (11178, 11180), (11189, 11190),
      (20000, 20000)]⟩
  | .kilnFragmentTimeout .. | .challengeExpiry | .sakHoldoverExpiry .. =>
    ⟨[.events, .kiln],
     [],
     [(10823, 10823)]⟩
  | .getStatus .. | .getChallenge .. | .fwBegin .. | .fwAbort .. =>
    ⟨[.buffers, .events, .time, .segments, .traffic, .txRings, .kiln, .power, .free, .out],
     [⟨0x6021, 0x6021, some 7⟩, ⟨0x6410, 0x6410, some 4⟩, ⟨0x6410, 0x6410, some 5⟩, ⟨0x6410, 0x6410, some 6⟩,
      ⟨0x6810, 0x6810, none⟩, ⟨0xC011, 0xC011, some 1⟩, ⟨0xC011, 0xC011, some 2⟩],
     [(31, 31), (200, 263), (10774, 10774), (10822, 10823), (11136, 11137), (11178, 11178), (11189, 11190), (20000, 20000)]⟩
  | .getCertificate .. =>
    ⟨[.buffers, .events, .time, .segments, .traffic, .txRings, .kiln, .power, .free, .out],
     [⟨0x6021, 0x6021, some 7⟩, ⟨0x6410, 0x6410, some 4⟩, ⟨0x6410, 0x6410, some 5⟩, ⟨0x6410, 0x6410, some 6⟩,
      ⟨0x6810, 0x6810, none⟩, ⟨0xC011, 0xC011, some 1⟩, ⟨0xC011, 0xC011, some 2⟩],
     [(31, 31), (200, 263), (10774, 10774), (10822, 10823), (11136, 11137), (11140, 11140), (11178, 11178), (11189, 11190),
      (20000, 20000)]⟩
  | .attest .. =>
    ⟨[.buffers, .events, .time, .segments, .traffic, .txRings, .kiln, .power, .free, .out],
     [⟨0x6021, 0x6021, some 7⟩, ⟨0x6410, 0x6410, some 4⟩, ⟨0x6410, 0x6410, some 5⟩, ⟨0x6410, 0x6410, some 6⟩,
      ⟨0x6810, 0x6810, none⟩, ⟨0xC011, 0xC011, some 1⟩, ⟨0xC011, 0xC011, some 2⟩],
     [(31, 31), (200, 263), (10774, 10774), (10822, 10823), (11136, 11137), (11140, 11141), (11178, 11178), (11189, 11190),
      (20000, 20000)]⟩
  | .fwWrite .. =>
    ⟨[.buffers, .events, .time, .segments, .traffic, .txRings, .flash, .kiln, .power, .free, .out],
     [⟨0x6021, 0x6021, some 7⟩, ⟨0x6410, 0x6410, some 4⟩, ⟨0x6410, 0x6410, some 5⟩, ⟨0x6410, 0x6410, some 6⟩,
      ⟨0x6810, 0x6810, none⟩, ⟨0xC011, 0xC011, some 1⟩, ⟨0xC011, 0xC011, some 2⟩],
     [(31, 31), (200, 263), (10774, 10774), (10822, 10823), (11136, 11137), (11150, 11150), (11178, 11178), (11189, 11190),
      (20000, 20000)]⟩
  | .fwCommit .. =>
    ⟨[.buffers, .events, .time, .segments, .traffic, .txRings, .flash, .kiln, .power, .free, .out],
     [⟨0x6021, 0x6021, some 7⟩, ⟨0x6410, 0x6410, some 4⟩, ⟨0x6410, 0x6410, some 5⟩, ⟨0x6410, 0x6410, some 6⟩,
      ⟨0x6810, 0x6810, none⟩, ⟨0xC011, 0xC011, some 1⟩, ⟨0xC011, 0xC011, some 2⟩],
     [(31, 31), (200, 263), (10774, 10774), (10822, 10823), (11136, 11139), (11150, 11150), (11178, 11178), (11189, 11190),
      (20000, 20000)]⟩
  | .fwConfirm .. =>
    ⟨[.buffers, .events, .time, .segments, .traffic, .txRings, .otp, .flash, .kiln, .power, .free, .out],
     [⟨0x6021, 0x6021, some 7⟩, ⟨0x6410, 0x6410, some 4⟩, ⟨0x6410, 0x6410, some 5⟩, ⟨0x6410, 0x6410, some 6⟩,
      ⟨0x6810, 0x6810, none⟩, ⟨0xC011, 0xC011, some 1⟩, ⟨0xC011, 0xC011, some 2⟩],
     [(31, 31), (200, 263), (10774, 10774), (10822, 10823), (11136, 11137), (11150, 11150), (11178, 11178), (11189, 11190),
      (20000, 20000)]⟩
  | .owner .. | .installOwnerKey .. | .rotateOwnerKey .. | .restoreOwnerKey .. | .setPolicy .. | .burnLocks .. |
    .setLockedRanges .. | .setPeerAllowList .. | .installCak .. | .advanceRollback .. | .debugUnlock .. =>
    ⟨[.buffers, .events, .time, .pins, .segments, .traffic, .txRings, .otp, .flash, .kiln, .power, .free, .out],
     [⟨0x6021, 0x6021, some 7⟩, ⟨0x6410, 0x6410, some 4⟩, ⟨0x6410, 0x6410, some 5⟩, ⟨0x6410, 0x6410, some 6⟩,
      ⟨0x6810, 0x6810, none⟩, ⟨0xA020, 0xA020, some 5⟩, ⟨0xC011, 0xC011, some 1⟩, ⟨0xC011, 0xC011, some 2⟩],
     [(31, 31), (200, 263), (10774, 10774), (10822, 10823), (11136, 11140), (11144, 11144), (11150, 11150), (11178, 11178),
      (11189, 11190), (20000, 20000)]⟩
  | .pairInit .. =>
    ⟨[.events, .time, .segments, .traffic, .txRings, .kiln, .power, .free, .out],
     [⟨0x6021, 0x6021, some 7⟩, ⟨0x6410, 0x6410, some 4⟩, ⟨0x6410, 0x6410, some 5⟩, ⟨0x6410, 0x6410, some 6⟩,
      ⟨0x6810, 0x6810, none⟩, ⟨0xC011, 0xC011, some 1⟩, ⟨0xC011, 0xC011, some 2⟩],
     [(31, 31), (200, 263), (10774, 10774), (10822, 10823), (11138, 11140), (11178, 11178), (11189, 11190), (20000, 20000)]⟩
  | .pairResponse .. =>
    ⟨[.events, .time, .segments, .traffic, .txRings, .kiln, .power, .free, .out],
     [⟨0x6021, 0x6021, some 7⟩, ⟨0x6410, 0x6410, some 4⟩, ⟨0x6410, 0x6410, some 5⟩, ⟨0x6410, 0x6410, some 6⟩,
      ⟨0x6810, 0x6810, none⟩, ⟨0xC011, 0xC011, some 1⟩, ⟨0xC011, 0xC011, some 2⟩],
     [(31, 31), (200, 263), (10774, 10774), (10822, 10823), (11138, 11139), (11178, 11178), (11189, 11190), (20000, 20000)]⟩
  | .pairConfirm .. | .pairDone .. =>
    ⟨[.events, .time, .segments, .traffic, .txRings, .kiln, .power, .free, .out],
     [⟨0x6021, 0x6021, some 7⟩, ⟨0x6410, 0x6410, some 4⟩, ⟨0x6410, 0x6410, some 5⟩, ⟨0x6410, 0x6410, some 6⟩,
      ⟨0x6810, 0x6810, none⟩, ⟨0xC011, 0xC011, some 1⟩, ⟨0xC011, 0xC011, some 2⟩],
     [(31, 31), (200, 263), (10774, 10774), (10822, 10823), (11142, 11142), (11144, 11144), (11178, 11178), (11189, 11190),
      (20000, 20000)]⟩
  | .pairTimeout .. =>
    ⟨[.events, .time, .segments, .traffic, .txRings, .kiln, .power, .free, .out],
     [⟨0x6021, 0x6021, some 7⟩, ⟨0x6410, 0x6410, some 4⟩, ⟨0x6410, 0x6410, some 5⟩, ⟨0x6410, 0x6410, some 6⟩,
      ⟨0x6810, 0x6810, none⟩, ⟨0xC011, 0xC011, some 1⟩, ⟨0xC011, 0xC011, some 2⟩],
     [(31, 31), (200, 263), (10774, 10774), (10822, 10823), (11143, 11143), (11178, 11178), (11189, 11190), (20000, 20000)]⟩
  | .pairingRetryTimer .. | .cakLifetimeExpiry .. =>
    ⟨[.events, .time, .segments, .traffic, .txRings, .kiln, .power, .free, .out],
     [⟨0x6021, 0x6021, some 7⟩, ⟨0x6410, 0x6410, some 4⟩, ⟨0x6410, 0x6410, some 5⟩, ⟨0x6410, 0x6410, some 6⟩,
      ⟨0x6810, 0x6810, none⟩, ⟨0xC011, 0xC011, some 1⟩, ⟨0xC011, 0xC011, some 2⟩],
     [(31, 31), (200, 263), (10774, 10774), (10822, 10823), (11140, 11140), (11178, 11178), (11189, 11190), (20000, 20000)]⟩
  | .mkpdu .. =>
    ⟨[.image, .events, .time, .pins, .segments, .traffic, .messages, .txRings, .rxRings, .twin, .kiln, .faults, .power, .free,
      .out],
     [⟨0x1010, 0x1010, none⟩, ⟨0x3400, 0x3400, none⟩, ⟨0x3502, 0x3502, none⟩, ⟨0x5000, 0x5001, none⟩, ⟨0x5005, 0x5007, none⟩,
      ⟨0x6001, 0x6001, none⟩, ⟨0x6021, 0x6021, none⟩, ⟨0x6410, 0x6410, none⟩, ⟨0x6810, 0x6810, none⟩, ⟨0x8211, 0x8211, none⟩,
      ⟨0x9002, 0x9002, none⟩, ⟨0x9021, 0x9021, none⟩, ⟨0xB001, 0xB001, none⟩, ⟨0xC011, 0xC011, none⟩],
     [(0, 1), (4, 6), (8, 8), (12, 12), (15, 16), (23, 23), (25, 25), (27, 27), (31, 31), (115, 115), (200, 263),
      (10774, 10774), (10822, 10823), (10826, 10830), (11072, 11135), (11144, 11147), (11162, 11162), (11178, 11180),
      (11189, 11190), (20000, 20000)]⟩
  | .mkaHelloTimer .. | .mkaLifeTimeExpiry .. =>
    ⟨[.events, .time, .segments, .traffic, .txRings, .kiln, .power, .free, .out],
     [⟨0x6021, 0x6021, some 7⟩, ⟨0x6410, 0x6410, some 4⟩, ⟨0x6410, 0x6410, some 5⟩, ⟨0x6410, 0x6410, some 6⟩,
      ⟨0x6810, 0x6810, none⟩, ⟨0xC011, 0xC011, some 1⟩, ⟨0xC011, 0xC011, some 2⟩],
     [(31, 31), (200, 263), (10774, 10774), (10822, 10823), (11144, 11144), (11147, 11147), (11178, 11178), (11189, 11190),
      (20000, 20000)]⟩
  | .keyPathWrite .. =>
    ⟨[.events, .kiln],
     [],
     [(10822, 10823), (11148, 11149)]⟩
  | .txSaSwitch .. =>
    ⟨[.events, .kiln],
     [],
     [(10822, 10823)]⟩
  | .kilnFault .. =>
    ⟨[.image, .events, .time, .pins, .segments, .traffic, .messages, .txRings, .twin, .kiln, .faults, .power, .out],
     [⟨0x1010, 0x1010, some 1⟩, ⟨0x3400, 0x3400, some 1⟩, ⟨0x3502, 0x3502, some 2⟩, ⟨0x5000, 0x5000, some 1⟩,
      ⟨0x5001, 0x5001, none⟩, ⟨0x5005, 0x5005, some 0⟩, ⟨0x5006, 0x5006, some 1⟩, ⟨0x6001, 0x6001, some 1⟩,
      ⟨0x6001, 0x6001, some 2⟩, ⟨0x9021, 0x9021, some 1⟩, ⟨0xB001, 0xB001, none⟩],
     [(8, 8), (27, 27), (115, 115), (220, 221), (10822, 10823), (10826, 10830), (11151, 11151), (11162, 11162), (11178, 11178)]⟩
  | .faultBucketBoundary .. =>
    ⟨[.events, .pins, .faults, .out],
     [⟨0xB001, 0xB001, some 2⟩],
     [(10822, 10823)]⟩
  | .mdiSample .. =>
    ⟨[.image, .events, .time, .pins, .ring, .segments, .traffic, .messages, .txRings, .twin, .kiln, .faults, .power, .out],
     [⟨0x1010, 0x1010, some 1⟩, ⟨0x3400, 0x3400, some 1⟩, ⟨0x3502, 0x3502, some 2⟩, ⟨0x4001, 0x4001, some 7⟩,
      ⟨0x5000, 0x5000, some 1⟩, ⟨0x5001, 0x5001, none⟩, ⟨0x5005, 0x5005, some 0⟩, ⟨0x5006, 0x5006, some 1⟩,
      ⟨0x6001, 0x6001, some 1⟩, ⟨0x6001, 0x6001, some 2⟩, ⟨0x9021, 0x9021, some 1⟩, ⟨0xB001, 0xB001, none⟩,
      ⟨0xB041, 0xB041, none⟩],
     [(8, 8), (27, 27), (115, 115), (220, 221), (10822, 10823), (10826, 10830), (11026, 11026), (11162, 11162), (11178, 11178)]⟩
  | .polarityCorrected .. =>
    ⟨[.image, .events, .time, .pins, .segments, .traffic, .messages, .txRings, .twin, .kiln, .faults, .power, .out],
     [⟨0x1010, 0x1010, some 1⟩, ⟨0x3400, 0x3400, some 1⟩, ⟨0x3502, 0x3502, some 2⟩, ⟨0x5000, 0x5000, some 1⟩,
      ⟨0x5001, 0x5001, none⟩, ⟨0x5005, 0x5005, some 0⟩, ⟨0x5006, 0x5006, some 1⟩, ⟨0x6001, 0x6001, some 1⟩,
      ⟨0x6001, 0x6001, some 2⟩, ⟨0x9021, 0x9021, some 1⟩, ⟨0xB001, 0xB001, none⟩, ⟨0xB041, 0xB041, some 6⟩],
     [(8, 8), (27, 27), (30, 30), (115, 115), (220, 221), (10822, 10823), (10826, 10830), (11162, 11162), (11178, 11178)]⟩
  | .tdrComplete .. =>
    ⟨[.events, .faults],
     [⟨0xB051, 0xB051, some 1⟩, ⟨0xB051, 0xB051, some 2⟩, ⟨0xB051, 0xB051, some 3⟩],
     [(10822, 10823)]⟩
  | .supplyWarning .. =>
    ⟨[.image, .events, .time, .pins, .segments, .traffic, .messages, .txRings, .twin, .kiln, .faults, .power, .out],
     [⟨0x1010, 0x1010, some 1⟩, ⟨0x3400, 0x3400, some 1⟩, ⟨0x3502, 0x3502, some 2⟩, ⟨0x5000, 0x5000, some 1⟩,
      ⟨0x5001, 0x5001, none⟩, ⟨0x5005, 0x5005, some 0⟩, ⟨0x5006, 0x5006, some 1⟩, ⟨0x6001, 0x6001, some 1⟩,
      ⟨0x6001, 0x6001, some 2⟩, ⟨0x9021, 0x9021, some 1⟩, ⟨0xB001, 0xB001, none⟩, ⟨0xB060, 0xB060, none⟩],
     [(8, 8), (27, 27), (115, 115), (220, 221), (10822, 10823), (10826, 10830), (11162, 11162), (11178, 11178)]⟩
  | .supplyRecovered .. =>
    ⟨[.events, .power],
     [⟨0xB060, 0xB060, some 1⟩, ⟨0xB060, 0xB060, some 2⟩, ⟨0xB060, 0xB060, some 3⟩, ⟨0xB060, 0xB060, some 4⟩],
     [(10822, 10823)]⟩
  | .supplyOvervoltage .. =>
    ⟨[.events],
     [⟨0xB060, 0xB060, some 1⟩, ⟨0xB060, 0xB060, some 2⟩, ⟨0xB060, 0xB060, some 3⟩, ⟨0xB060, 0xB060, some 4⟩],
     [(10822, 10823)]⟩
  | .brownOut .. | .thermalShutdown .. | .powerOn | .canopyLost =>
    ⟨[.dict, .staging, .clampLog, .mailbox, .buffers, .image, .counters, .events, .clock, .time, .pins, .ring, .segments,
      .traffic, .messages, .txRings, .rxRings, .queues, .functions, .twin, .mismatchLog, .kiln, .faults, .reader, .canopy,
      .power, .out],
     [],
     []⟩
  | .thermalWarning .. | .thermalThrottle .. =>
    ⟨[.image, .events, .time, .pins, .segments, .traffic, .messages, .txRings, .twin, .kiln, .faults, .power, .out],
     [⟨0x1010, 0x1010, some 1⟩, ⟨0x3400, 0x3400, some 1⟩, ⟨0x3502, 0x3502, some 2⟩, ⟨0x5000, 0x5000, some 1⟩,
      ⟨0x5001, 0x5001, none⟩, ⟨0x5005, 0x5005, some 0⟩, ⟨0x5006, 0x5006, some 1⟩, ⟨0x6001, 0x6001, some 1⟩,
      ⟨0x6001, 0x6001, some 2⟩, ⟨0x9021, 0x9021, some 1⟩, ⟨0xB001, 0xB001, none⟩, ⟨0xB070, 0xB070, none⟩,
      ⟨0xB071, 0xB071, some 0⟩],
     [(8, 8), (27, 27), (115, 115), (220, 221), (10822, 10823), (10826, 10830), (11162, 11162), (11178, 11178)]⟩
  | .thermalNormal .. =>
    ⟨[.events, .pins, .canopy, .power, .out],
     [⟨0x1001, 0x1001, some 0⟩, ⟨0x2230, 0x2230, some 3⟩, ⟨0xB071, 0xB071, some 0⟩],
     [(10822, 10823)]⟩
  | .eventFifoRoom =>
    ⟨[.events],
     [⟨0xB021, 0xB021, some 0⟩],
     [(10822, 10823)]⟩
  | .counterSnapshot =>
    ⟨[.events, .reader, .out],
     [⟨0xC001, 0xC001, some 1⟩, ⟨0xC001, 0xC001, some 2⟩],
     [(10822, 10823), (11073, 11074), (11184, 11184), (11186, 11187), (11191, 11191)]⟩
  | .dumpComplete =>
    ⟨[.events, .reader, .out],
     [],
     [(10823, 10823), (11073, 11074), (11185, 11185), (11188, 11188)]⟩
  | .idleEntry =>
    ⟨[.dict, .staging, .clampLog, .mailbox, .buffers, .image, .counters, .events, .clock, .time, .pins, .ring, .segments,
      .traffic, .messages, .txRings, .rxRings, .queues, .functions, .twin, .mismatchLog, .kiln, .faults, .reader, .canopy,
      .power, .free, .out],
     [],
     []⟩
  | .wakePin | .wakeAt =>
    ⟨[.events, .pins, .flash, .canopy, .power, .out],
     [⟨0x1001, 0x1001, some 0⟩, ⟨0x1003, 0x1003, some 0⟩, ⟨0x2230, 0x2230, some 3⟩, ⟨0x8000, 0x8000, some 1⟩,
      ⟨0x8000, 0x8000, some 7⟩],
     [(10822, 10823), (11150, 11150)]⟩
  | .portWakeActivity .. =>
    ⟨[.events, .pins, .flash, .canopy, .power, .out],
     [⟨0x1001, 0x1001, some 0⟩, ⟨0x1003, 0x1003, some 0⟩, ⟨0x2230, 0x2230, some 3⟩, ⟨0x8000, 0x8000, some 1⟩,
      ⟨0x8000, 0x8000, some 7⟩],
     [(217, 217), (220, 221), (10822, 10823), (11150, 11150)]⟩
  | .groveIdle .. =>
    ⟨[.events, .power],
     [],
     [(219, 221), (10822, 10823)]⟩
  | .groveScheduledWake .. =>
    ⟨[.events, .power],
     [],
     [(216, 216), (220, 221), (10822, 10823)]⟩
  | .groveRunning .. | .domainRestartComplete .. =>
    ⟨[.dict, .staging, .clampLog, .mailbox, .buffers, .image, .events, .clock, .time, .pins, .ring, .segments, .traffic,
      .messages, .txRings, .rxRings, .functions, .twin, .mismatchLog, .flash, .kiln, .faults, .reader, .canopy, .power, .free,
      .out],
     [],
     [(0, 1), (4, 6), (8, 8), (23, 23), (27, 27), (31, 31), (103, 104), (106, 110), (112, 112), (115, 115), (200, 263),
      (10752, 11007), (11026, 11026), (11072, 11140), (11144, 11147), (11150, 11150), (11155, 11155), (11157, 11162),
      (11178, 11178), (11180, 11183), (11189, 11190), (20000, 20000)]⟩
  | .railsValid .. =>
    ⟨[.events, .pins, .flash, .power, .out],
     [⟨0x1001, 0x1001, some 0⟩, ⟨0x1003, 0x1003, some 0⟩, ⟨0x8000, 0x8000, some 1⟩, ⟨0x8000, 0x8000, some 7⟩],
     [(10822, 10823), (11150, 11150)]⟩
  | .stageOneRunning =>
    ⟨[.events, .otp, .flash, .kiln, .power],
     [⟨0x1000, 0x1000, some 5⟩, ⟨0x1000, 0x1000, some 6⟩, ⟨0x1001, 0x1001, some 0⟩, ⟨0xA000, 0xA000, some 3⟩],
     [(10822, 10823), (11138, 11139), (11150, 11150)]⟩
  | .bootImageCommitted =>
    ⟨[.dict, .staging, .clampLog, .buffers, .image, .events, .clock, .time, .pins, .ring, .segments, .traffic, .messages,
      .txRings, .rxRings, .twin, .mismatchLog, .kiln, .faults, .reader, .canopy, .power, .free, .out],
     [],
     [(8, 8), (27, 27), (31, 31), (106, 106), (110, 110), (112, 112), (115, 115), (200, 263), (10774, 10774), (10791, 10792),
      (10818, 10818), (10821, 10823), (10826, 10830), (11026, 11026), (11072, 11135), (11140, 11140), (11144, 11144),
      (11158, 11162), (11178, 11178), (11189, 11190), (20000, 20000)]⟩
  | .operational =>
    ⟨[.events, .canopy, .power],
     [⟨0x1001, 0x1001, some 0⟩],
     [(10822, 10823)]⟩
  | .resetn | .moduleResetTimer =>
    ⟨[.dict, .staging, .clampLog, .mailbox, .buffers, .image, .counters, .events, .clock, .time, .pins, .ring, .segments,
      .traffic, .messages, .txRings, .rxRings, .queues, .functions, .twin, .mismatchLog, .flash, .kiln, .faults, .reader,
      .canopy, .power, .out],
     [],
     []⟩
  | .aux3v3Overcurrent =>
    ⟨[.events, .canopy, .power],
     [⟨0x2230, 0x2230, some 3⟩, ⟨0x2230, 0x2230, some 5⟩],
     [(10822, 10823)]⟩
  | .aux3v3Retry .. =>
    ⟨[.events, .power],
     [⟨0x2230, 0x2230, some 3⟩],
     [(10823, 10823)]⟩
  | .aux3v3Undervoltage =>
    ⟨[.events, .power],
     [⟨0x2230, 0x2230, some 3⟩, ⟨0x2230, 0x2230, some 5⟩],
     [(10822, 10823)]⟩
  | .aux3v3Recovered =>
    ⟨[.events, .power],
     [⟨0x2230, 0x2230, some 3⟩],
     [(10822, 10823)]⟩
  | .canopyCrystalSwitch =>
    ⟨[.events],
     [⟨0x2250, 0x2250, some 1⟩],
     [(10823, 10823)]⟩
  | .canopyCrystalFailure =>
    ⟨[.events],
     [⟨0x2250, 0x2250, some 1⟩, ⟨0x2250, 0x2250, some 2⟩],
     [(10823, 10823)]⟩
  | .kilnOperationDone =>
    ⟨[.buffers, .events, .time, .pins, .segments, .traffic, .txRings, .otp, .flash, .kiln, .power, .free, .out],
     [⟨0x6021, 0x6021, some 7⟩, ⟨0x6410, 0x6410, some 4⟩, ⟨0x6410, 0x6410, some 5⟩, ⟨0x6410, 0x6410, some 6⟩,
      ⟨0x6810, 0x6810, none⟩, ⟨0xA020, 0xA020, some 5⟩, ⟨0xC011, 0xC011, some 1⟩, ⟨0xC011, 0xC011, some 2⟩],
     [(31, 31), (200, 263), (10774, 10774), (10822, 10823), (11136, 11142), (11144, 11144), (11150, 11150), (11178, 11178),
      (11189, 11190), (20000, 20000)]⟩
  | .memoryError .. =>
    ⟨[.image, .events, .time, .pins, .segments, .traffic, .messages, .txRings, .twin, .kiln, .faults, .canopy, .power, .free,
      .out],
     [⟨0x1010, 0x1010, some 1⟩, ⟨0x3400, 0x3400, some 1⟩, ⟨0x3502, 0x3502, some 2⟩, ⟨0x5000, 0x5000, some 1⟩,
      ⟨0x5001, 0x5001, none⟩, ⟨0x5005, 0x5005, some 0⟩, ⟨0x5006, 0x5006, some 1⟩, ⟨0x6001, 0x6001, some 1⟩,
      ⟨0x6001, 0x6001, some 2⟩, ⟨0x9021, 0x9021, some 1⟩, ⟨0xB001, 0xB001, none⟩],
     [(8, 8), (27, 27), (115, 115), (200, 263), (10822, 10823), (10826, 10830), (11162, 11162), (11178, 11178)]⟩
  | .pcieErrorReported .. =>
    ⟨[.events],
     [],
     [(10822, 10823), (11110, 11111)]⟩
  | .brownOutRecovered =>
    ⟨[.events, .pins, .canopy, .power, .out],
     [⟨0x1001, 0x1001, some 0⟩, ⟨0x2230, 0x2230, some 3⟩],
     [(10823, 10823)]⟩
  | .overvoltageEnded =>
    ⟨[.events],
     [⟨0xB060, 0xB060, some 2⟩],
     [(10823, 10823)]⟩
  | .thermalThrottleEnd =>
    ⟨[.events, .power],
     [⟨0xB071, 0xB071, some 0⟩],
     [(10823, 10823)]⟩
  | .plcaStatusChanged .. =>
    ⟨[.events],
     [⟨0x5001, 0x5001, some 2⟩],
     [(10822, 10823)]⟩
  | .stackRelayResponse .. =>
    ⟨[.mailbox, .buffers, .events, .time, .segments, .traffic, .txRings, .twin, .kiln, .power, .free, .out],
     [⟨0x6021, 0x6021, some 7⟩, ⟨0x6410, 0x6410, some 4⟩, ⟨0x6410, 0x6410, some 5⟩, ⟨0x6410, 0x6410, some 6⟩,
      ⟨0x6810, 0x6810, none⟩, ⟨0x9002, 0x9002, some 4⟩, ⟨0xC011, 0xC011, some 1⟩, ⟨0xC011, 0xC011, some 2⟩],
     [(31, 31), (200, 263), (10774, 10774), (10822, 10823), (11178, 11180), (11189, 11190), (20000, 20000)]⟩
  | .gptpPdelayResp .. | .announceReceived .. =>
    ⟨[.image, .events, .time, .pins, .segments, .traffic, .messages, .txRings, .rxRings, .twin, .kiln, .faults, .power, .free,
      .out],
     [⟨0x1010, 0x1010, none⟩, ⟨0x3400, 0x3400, none⟩, ⟨0x3502, 0x3502, none⟩, ⟨0x5000, 0x5001, none⟩, ⟨0x5005, 0x5007, none⟩,
      ⟨0x6001, 0x6001, none⟩, ⟨0x8211, 0x8211, none⟩, ⟨0x9021, 0x9021, none⟩, ⟨0xB001, 0xB001, none⟩, ⟨0xC011, 0xC011, none⟩],
     [(0, 1), (4, 6), (8, 8), (12, 12), (15, 16), (23, 23), (25, 25), (27, 27), (115, 115), (217, 217), (220, 221), (223, 223),
      (10822, 10823), (10826, 10830), (11072, 11135), (11162, 11162), (11178, 11178), (11189, 11190), (20000, 20000)]⟩
  | .inboundImageWriteDone .. =>
    ⟨[.events, .messages, .out],
     [⟨0x7401, 0x7401, some 1⟩, ⟨0x7401, 0x7401, some 2⟩, ⟨0x7401, 0x7401, some 6⟩],
     [(10784, 10784), (10823, 10823), (11073, 11074)]⟩
  | .activeResumed =>
    ⟨[.events, .time, .ring, .segments, .traffic, .messages, .txRings, .rxRings, .functions, .power, .free, .out],
     [⟨0x2200, 0x2200, some 1⟩, ⟨0x3400, 0x3400, some 1⟩, ⟨0x4001, 0x4001, some 1⟩, ⟨0x5001, 0x5001, some 3⟩,
      ⟨0x5001, 0x5001, some 4⟩, ⟨0x5005, 0x5005, some 0⟩, ⟨0x5006, 0x5006, some 1⟩, ⟨0x6001, 0x6001, some 3⟩,
      ⟨0x6001, 0x6001, some 4⟩, ⟨0x8201, 0x8201, none⟩],
     [(8, 8), (220, 221), (10822, 10823), (11073, 11075), (11083, 11083), (11086, 11094)]⟩

end Sys2Proof.Machine
end

