-- ==== Sys2Proof/Certificates/Slice0/Obligations.lean ====
section
/-! DEFINITION. The statements about the block, in the order of the manual's chapters. Each names the rules it follows; a clause
that rests on a choice of the model names the log entry. Where a clause asks for a next state `t`, it says that the command
completes there, and what `t` holds; what it leaves alone is the frame of `CommandsKeepTheirFrames`. -/

open Sys2Proof Sys2Proof.Machine

/-! ## The block as a whole -/
/-- A step of the block (what it does with no command waiting: log entry 1). -/
def Obligations.StepTakesTheFrontCommand : Prop :=
    (∀ (c : Instr) (rest : List Instr) (s : State),
      step { s with pending := c :: rest } = exec c { s with pending := rest }) ∧
    (∀ s : State, s.pending = [] →
      ∃ t, step s = .next t ∧ t.pending = [] ∧ t.otp = s.otp ∧ t.flash = s.flash ∧
        (s.operating = true → s.events.fifo = [] → s.events.raised = [] →
          t.clock = s.clock.tick (tickIncrement (s.obj 0x3001 4) s.time.servo.sigma)))

/-- The state after reset (values that the manual does not give: log entry 8). -/
def Obligations.ResetState : Prop :=
    State.reset.Inv ∧ State.reset.pending = [] ∧ (∀ k, State.reset.key k = defaultOf k) ∧
    (∀ i, State.reset.counter i = 0) ∧ State.reset.now = 0 ∧ State.reset.events.fifo = [] ∧
    State.reset.od.staged = [] ∧ State.reset.od.sealedSet = none ∧ State.reset.power.state = .active ∧
    State.reset.power.stage = 0 ∧ State.reset.pins.faultLow = true ∧ State.reset.operating = false

/-- The invariant holds from step to step, whatever commands wait. -/
def Obligations.EveryStepKeepsTheInvariant : Prop :=
    ∀ s : State, s.Inv → ∃ t, step s = .next t ∧ t.Inv

/-- An OTP bit changes only from 0 to 1 (the values of manufacture are free: log entry 5). -/
def Obligations.OtpBitsOnlyRise : Prop :=
    ∀ s : State, ∃ t, step s = .next t ∧ s.otp.Rises t.otp

/-- The frame of every command (its footprint is `footprintOf`). -/
def Obligations.CommandsKeepTheirFrames : Prop :=
    ∀ (c : Instr) (s : State), ∃ t, exec c s = .next t ∧ (footprintOf c).Frames s t

/-! ## The object dictionary (chapter 2) -/
/-- The three channels. `queuedStarting` and `relayedOne` give the head of the answer; `RecordsAnswered` gives the
answers of its records. Responses leave in the class `pduClass`, which is free (log entry 34). -/
def Obligations.DictionaryMessages : Prop :=
  (∀ (s : State) (tag : Nat), s.answers = true → s.takesMemory (some 0) = true → s.od.mailbox.busy = false →
    ∃ t, exec (.mailboxGo tag) s = .next t ∧ t.od.mailbox =
    { s.od.mailbox with tagReg := tag % 256, tag := tag % 256, busy := true, done := false, buffer := s.buffers.mailboxRequest.readBytes 0 4096 }) ∧
  (∀ (s : State) (tag : Nat), s.answers = true → s.takesMemory (some 0) = true → s.od.mailbox.busy = true →
    ∃ t, exec (.mailboxGo tag) s = .next t ∧ t.od.mailbox =
    { s.od.mailbox with tagReg := tag % 256, overrun := true }) ∧
  (∀ (s : State), s.answers = true → s.od.mailbox.busy = true → s.mailboxRelayed = false → s.selected 1 = 0 →
    ∃ t, exec .mailboxDone s = .next t ∧ t.od.mailbox.busy = false ∧ t.od.mailbox.done = true ∧ t.od.mailbox.tag =
    s.od.mailbox.tag) ∧
  (∀ (s : State) (n : Nat), s.answers = true → s.od.mailbox.busy = true → s.mailboxRelayed = false → s.selected 1 = 0
  → s.readsOnly false s.od.mailbox.buffer = some n → s.room 1 →
    ∃ t, exec .mailboxDone s = .next t ∧ t.od.mailbox =
    { s.od.mailbox with busy := false, done := true, msgStatus := 0 } ∧ messageHead false 2 (messageTag false
    s.od.mailbox.buffer) 0 n <+: t.buffers.mailboxResponse.readBytes 0 4096 ∧ s.records t 768 0) ∧
  (∀ (s : State) (p : Nat) (f : Frame) (n : Nat), s.operating = true → p < 256 → s.hears p f = true → s.unscheduled p
  = true → isProtocol f.data 3 = true → f.data.take 6 = s.macBytes p → s.readsOnly true (protocolBody f.data) = some n
  → maskBit (s.obj 0x2030 0) p = true → f.icv = .verified ∨ maskBit (s.obj 0x2031 0) p = true → s.selected 2 = 0 →
  s.macBusy p → s.takesOwn p pduClass 1518 →
    ∃ t, exec (.managementPdu p f) s = .next t ∧ s.queuedStarting t p pduClass (s.pduHead p (beAt f.data 6 6) ++
    messageHead true 2 (messageTag true (protocolBody f.data)) 0 n) ∧ t.od.staged = s.od.staged) ∧
  (∀ (s : State) (p : Nat) (f : Frame), s.operating = true → p < 256 → s.hears p f = true → s.unscheduled p = true →
  isProtocol f.data 3 = true → f.data.take 6 = s.macBytes p → beAt (protocolBody f.data) 1 1 = 1 → maskBit (s.obj
  0x2030 0) p = false → s.macBusy p → s.takesOwn p pduClass 64 →
    ∃ t, exec (.managementPdu p f) s = .next t ∧ s.queuedBehind t p pduClass (s.pduHead p (beAt f.data 6 6) ++
    messageHead true 2 (messageTag true (protocolBody f.data)) 0x20 0) ∧ t.counter (commonsItem 79) = (s.counter
    (commonsItem 79) + 1) % 18446744073709551616 ∧ t.od = s.od) ∧
  (∀ (s : State) (q : Nat) (m : MemberMessage) (n : Nat), s.operating = true → s.stackCarries q = true → s.twinHalf =
  false → (s.stackMember = true → m.member = s.n 0x1003 0) → s.readsOnly true m.bytes = some n →
    ∃ t, exec (.stackRelayRequest q m) s = .next t ∧ s.relayedOne t q 0 (messageHead true 2 (messageTag true m.bytes)
    0 n) ∧ t.od.staged = s.od.staged) ∧
  (∀ (s : State) (q : Nat) (m : MemberMessage), s.operating = true → s.stackCarries q = true → s.twinHalf = false →
  s.stackMember = true → m.member ≠ s.n 0x1003 0 → s.stackCarries (1 - q) = true →
    ∃ t, exec (.stackRelayRequest q m) s = .next t ∧ t.out = s.out ++ [.relay (1 - q) m.member m.bytes] ∧ t.od = s.od) ∧
  (∀ (s : State) (q : Nat) (m : Bytes) (c : RelayClient), s.operating = true → s.stackCarries q = true → s.stackMember
  = false → s.twin.relayTags.get? (messageTag true m) = some c → c.port = none → s.od.mailbox.busy = true →
    ∃ t, exec (.stackRelayResponse q m) s = .next t ∧ t.od.mailbox.busy = false ∧ t.od.mailbox.done = true ∧
    t.twin.relayTags = s.twin.relayTags.erase (messageTag true m)) ∧
  (∀ (s : State) (q : Nat) (m : Bytes), s.operating = true → s.stackCarries q = true → s.stackMember = true →
  s.twinHalf = false → s.stackCarries (1 - q) = true →
    ∃ t, exec (.stackRelayResponse q m) s = .next t ∧ t.out = s.out ++ [.relay (1 - q) 0 m] ∧ t.od = s.od)

/-- Records by themselves. `readAnswer`, `describeAnswer`, `staging` and `refusedWith` say what R42 and R37 give for a
record. -/
def Obligations.RecordsAnswered : Prop :=
  (∀ (s : State) (chan : Chan) (a : Target) (r : Nat × Bytes), s.answers = true → s.readAnswer chan false a = some r →
  a.index ≠ 0x6810 →
    ∃ t, exec (.read chan a) s = .next t ∧ t.out = s.out ++ [.response (channelCode chan) 0 r.1 r.2] ∧ t.od = s.od) ∧
  (∀ (s : State) (chan : Chan) (a : Target) (st : Nat), s.answers = true → s.refusedWith chan false a = some st →
    ∃ t, exec (.read chan a) s = .next t ∧ t.out = s.out ++ [.response (channelCode chan) st 0 []] ∧ t.od = s.od ∧
    t.counter (commonsItem 65) = (s.counter (commonsItem 65) + 1) % 18446744073709551616) ∧
  (∀ (s : State) (chan : Chan) (a : Target) (bs : Bytes) (w : StagedWrite × Nat), s.answers = true → s.od.imageBusy =
  false → s.staging chan a bs = some w →
    ∃ t, exec (.write chan a ⟨bs, []⟩) s = .next t ∧ t.od = { s.od with staged := stageWrite s.od.staged w.1 } ∧ t.out
    = s.out ++ [.response (channelCode chan) 0 w.2 []]) ∧
  (∀ (s : State) (a : Target) (bs cs : Bytes) (v w : StagedWrite × Nat), s.answers = true → s.od.imageBusy = false →
  s.staging .relay a bs = some v → s.staging .pf0 a cs = some w →
    ∃ t, exec (.write .relay a ⟨bs, [.write .pf0 a cs]⟩) s = .next t ∧ t.od =
    { s.od with staged := stageWrite (stageWrite s.od.staged v.1) w.1 } ∧ t.out = s.out ++ [.response (channelCode
    .relay) 2 v.2 [], .response (channelCode .pf0) 0 w.2 []]) ∧
  (∀ (s : State) (chan : Chan) (a : Target) (bs : Bytes) (st : Nat), s.answers = true → s.refusedWith chan true a =
  some st → 0x10 ≤ st →
    ∃ t, exec (.write chan a ⟨bs, []⟩) s = .next t ∧ t.od = s.od ∧ t.out = s.out ++ [.response (channelCode chan) st 0
    []] ∧ t.counter (commonsItem 65) = (s.counter (commonsItem 65) + 1) % 18446744073709551616) ∧
  (∀ (s : State) (chan : Chan) (a : Target) (r : Nat × Bytes), s.answers = true → s.describeAnswer chan a = some r →
    ∃ t, exec (.describe chan a) s = .next t ∧ t.out = s.out ++ [.response (channelCode chan) 0 r.1 r.2] ∧ t.od =
    s.od) ∧
  (∀ (s : State) (chan : Chan) (a : Target) (r : Nat × Bytes), s.answers = true → s.readAnswer chan true a = some r →
  a.index ≠ 0x6810 →
    ∃ t, exec (.readStaged chan a) s = .next t ∧ t.out = s.out ++ [.response (channelCode chan) 0 r.1 r.2] ∧ t.od =
    s.od) ∧
  (∀ (s : State) (chan : Chan) (off : Nat) (bs : Bytes), s.takesWrite chan 0x2040 0 0 = true → writeFits (.octets
  1048576) ⟨0x2040, 0, 0, off⟩ bs = true →
    ∃ t, exec (.write chan ⟨0x2040, 0, 0, off⟩ ⟨bs, []⟩) s = .next t ∧ t.buffers =
    { s.buffers with image := s.buffers.image.writeBytes off bs } ∧ t.od = s.od ∧ (∀ a, a < off ∨ off + bs.length ≤ a
    → t.buffers.image.read a = s.buffers.image.read a)) ∧
  (∀ (s : State) (chan : Chan) (queue column : Nat) (r : Nat × Bytes), s.answers = true → s.readAnswer chan false
  ⟨0x6810, column, queue, 0⟩ = some r → 1 ≤ column →
    ∃ t, exec (.highWaterRead chan queue column) s = .next t ∧ t.out = s.out ++ [.response (channelCode chan) 0 r.1
    r.2] ∧ t.n 0x6810 1 queue = 0 ∧ t.n 0x6810 2 queue = 0)

/-- The staging set. What a larger set does to dependent fields is no part of this. -/
def Obligations.CommitAndStagingSet : Prop :=
  (∀ (s : State) (chan : Chan), s.takesWrite chan 0x2010 0 0 = true → s.od.sealedSet = none →
    ∃ t, exec (.commitAtBoundary chan) s = .next t ∧ (t.od =
    { s.od with staged := [], sealedSet := if s.od.staged = [] then none else some ⟨false, s.od.staged, s.cycle, s.elapsed⟩ })
    ∧ t.out = s.out ++ [.response (channelCode chan) 0 2 []]) ∧
  (∀ (s : State) (chan : Chan), s.takesWrite chan 0x2010 0 0 = true → s.od.sealedSet = none →
    ∃ t, exec (.commitAtModeSwitch chan) s = .next t ∧ (t.od =
    { s.od with staged := [], sealedSet := if s.od.staged = [] then none else some ⟨true, s.od.staged, s.cycle, s.elapsed⟩ })
    ∧ t.out = s.out ++ [.response (channelCode chan) 0 2 []]) ∧
  (∀ (s : State) (chan : Chan), s.takesWrite chan 0x2010 0 0 = true →
    ∃ t, exec (.commitDiscard chan) s = .next t ∧ t.od = { s.od with staged := [], sealedSet := none } ∧ t.out = s.out
    ++ [.response (channelCode chan) 0 2 []]) ∧
  (∀ (s : State), s.operating = true → s.sealedForBoundary = true → s.sealedDue = true →
    ∃ t, exec .stagingSetApply s = .next t ∧ t.od.sealedSet = none ∧ t.od.staged = s.od.staged ∧ t.counter
    (commonsItem 69) = (s.counter (commonsItem 69) + 1) % 18446744073709551616) ∧
  (∀ (s : State) (v : Int) (chan cycle since : Nat), s.operating = true → s.od.sealedSet = some ⟨false, [⟨⟨0x2030, 0,
  0⟩, v, chan⟩], cycle, since⟩ → cycle ≠ s.cycle →
    ∃ t, exec .stagingSetApply s = .next t ∧ t.od.sealedSet = none ∧ t.obj 0x2030 0 = v ∧ t.obj 0x2011 3 = s.obj
    0x4001 6) ∧
  (∀ (s : State), s.operating = true → s.sealedForBoundary = false ∨ s.sealedDue = false →
    ∃ t, exec .stagingSetApply s = .next t ∧ t.od = s.od) ∧
  (∀ (s : State) (chan : Chan), s.takesWrite chan 0x1F82 0 0 = true →
    ∃ t, exec (.clampLogClear chan) s = .next t ∧ t.od = { s.od with clampLog := [] } ∧ t.out = s.out ++ [.response
    (channelCode chan) 0 1 []])

/-- The image in the buffer, taken and stored (value 3: log entry 38). -/
def Obligations.ImageCommands : Prop :=
  (∀ (s : State) (chan : Chan) (st : Nat), s.takesWrite chan 0x2041 0 0 = true → s.checkImage s.bufferImage true =
  .inl st →
    ∃ t, exec (.imageApply chan) s = .next t ∧ t.n 0x2042 1 = st ∧ t.n 0x2042 2 = 0 ∧ t.flash = s.flash ∧ t.od.staged
    = s.od.staged ∧ t.out = s.out ++ [.response (channelCode chan) st 2 []] ∧ t.counter (commonsItem 68) = (s.counter
    (commonsItem 68) + 1) % 18446744073709551616) ∧
  (∀ (s : State) (chan : Chan) (rs : List ImageRecord), s.takesWrite chan 0x2041 0 0 = true → s.checkImage
  s.bufferImage true = .inr rs →
    ∃ t, exec (.imageApply chan) s = .next t ∧ t.n 0x2042 1 = 0 ∧ .response (channelCode chan) 0 2 [] ∈ t.out.drop
    s.out.length ∧ t.flash.imageSequence = beAt s.bufferImage 24 4 ∧ t.flash.bootImage = s.flash.bootImage ∧ t.counter
    (commonsItem 67) = (s.counter (commonsItem 67) + 1) % 18446744073709551616) ∧
  (∀ (s : State) (chan : Chan) (rs : List ImageRecord), s.takesWrite chan 0x2041 0 0 = true → s.checkImage
  s.bufferImage true = .inr rs →
    ∃ t, exec (.imageApplyAndStore chan) s = .next t ∧ t.n 0x2042 1 = 0 ∧ .response (channelCode chan) 0 2 [] ∈
    t.out.drop s.out.length ∧ t.flash.imageSequence = beAt s.bufferImage 24 4 ∧ t.flash.bootImage = some s.bufferImage
    ∧ t.flash.previousImage = s.flash.bootImage) ∧
  (∀ (s : State) (chan : Chan), s.takesWrite chan 0x2041 0 0 = true →
    ∃ t, exec (.imageStore chan) s = .next t ∧ t.flash =
    { s.flash with bootImage := some s.bufferImage, previousImage := s.flash.bootImage } ∧ t.od = s.od ∧ t.out = s.out
    ++ [.response (channelCode chan) 0 2 []])

/-- Objects whose write starts an action. -/
def Obligations.ActionObjects : Prop :=
  (∀ (s : State) (chan : Chan) (time : Nat), s.takesWrite chan 0x3002 0 0 = true → s.timeStepAllowed = true → time <
  18446744073709551616 * secUnits → s.room 3 →
    ∃ t, exec (.timeStep chan time) s = .next t ∧ t.clock = Clock.ofUnits time ∧ t.obj 0x3001 6 = (s.obj 0x3001 6 + 1)
    % 4294967296 ∧ s.records t 515 0) ∧
  (∀ (s : State) (chan : Chan) (offset : Int), s.takesWrite chan 0x3003 0 0 = true → s.timeAdjustAllowed = true →
  -65536000000000 ≤ offset ∧ offset ≤ 65536000000000 →
    ∃ t, exec (.timeAdjust chan offset) s = .next t ∧ t.time.servo.adjust = offset ∧ t.time.servo.sigma = s.slewFor
    (-offset) ∧ t.clock = s.clock) ∧
  (∀ (s : State) (chan : Chan) (seconds : Nat), s.takesWrite chan 0x3602 0 0 = true → seconds < 18446744073709551616 →
    ∃ t, exec (.ppsInSeconds chan seconds) s = .next t ∧ t.time = { s.time with ppsArmed := some seconds } ∧ t.od =
    s.od) ∧
  (∀ (s : State) (chan : Chan), s.takesWrite chan 0x4010 3 0 = true → s.requestAllowed = true → s.room 1 →
    ∃ t, exec (.requestGo chan) s = .next t ∧ (t.ring.request = some ⟨s.n 0x4010 1, if (s.ring.launched.any fun l =>
    l.1 == 0) = true then s.cycle + 1 else s.cycle, t.n 0x4010 5⟩) ∧ t.n 0x4010 4 = 1 ∧ (t.n 0x4010 5 = (if
    (s.ring.launched.any fun l => l.1 == 0) = true then s.cycle + 1 else s.cycle) + s.n 0x4010 2) ∧ s.records t 592 0) ∧
  (∀ (s : State) (chan : Chan), s.takesWrite chan 0x2200 2 0 = true → s.powerRefused = false →
    ∃ t, exec (.powerRequestIdle chan) s = .next t ∧ t.power =
    { s.power with idlePending := true, requestCycle := s.cycle, requestSince := s.elapsed } ∧ t.od = s.od) ∧
  (∀ (s : State) (chan : Chan), s.takesWrite chan 0x2200 2 0 = true → s.powerRefused = false →
    ∃ t, exec (.powerRequestDormant chan) s = .next t ∧ t.power =
    { s.power with dormantPending := true, requestCycle := s.cycle, requestSince := s.elapsed } ∧ t.od = s.od) ∧
  (∀ (s : State) (chan : Chan), s.takesWrite chan 0x2210 0 0 = true →
    ∃ t, exec (.moduleReset chan 0x424E5253) s = .next t ∧ t.power =
    { s.power with resetDue := some (s.elapsed + nsUnits 1000000) } ∧ t.od = s.od) ∧
  (∀ (s : State) (chan : Chan), s.takesWrite chan 0x2210 0 0 = true →
    ∃ t, exec (.moduleReset chan 0) s = .next t ∧ t.power = s.power ∧ t.od = s.od)

/-- The functions that a written object switches. -/
def Obligations.SwitchedFunctions : Prop :=
  (∀ (s : State) (chan : Chan), s.operating = true → s.takesWrite chan 0x4000 1 0 = true → s.stackMember = false →
  s.ringState = 0 →
    ∃ t, exec (.ringEnable chan) s = .next t ∧ t.on 0x4000 1 = true ∧ t.ringState = 1 ∧ t.ring.inhibited = false) ∧
  (∀ (s : State) (chan : Chan), s.operating = true → s.takesWrite chan 0x4000 1 0 = true → s.ringState ≠ 0 →
    ∃ t, exec (.ringDisable chan) s = .next t ∧ t.on 0x4000 1 = false ∧ t.ring.disablePending = true ∧ t.ringState =
    s.ringState) ∧
  (∀ (s : State) (chan : Chan) (p : Nat), s.operating = true → p < 256 → s.takesWrite chan (portIdx p 0) 1 0 = true →
    ∃ t, exec (.portEnable chan p) s = .next t ∧ t.portEnabled p = true) ∧
  (∀ (s : State) (chan : Chan) (p : Nat), s.operating = true → p < 256 → s.takesWrite chan (portIdx p 0) 1 0 = true →
  s.segmentPort p = true → s.segState p = 0 →
    ∃ t, exec (.portEnable chan p) s = .next t ∧ t.portEnabled p = true ∧ t.segState p = 1) ∧
  (∀ (s : State) (chan : Chan) (p : Nat), s.operating = true → p < 256 → s.takesWrite chan (portIdx p 0) 1 0 = true →
  s.portEnabled p = true →
    ∃ t, exec (.portDisable chan p) s = .next t ∧ t.portEnabled p = false ∧ t.segState p = 0 ∧ t.portOn p 1 1 = false) ∧
  (∀ (s : State) (chan : Chan) (handle : Nat), s.takesWrite chan 0x6022 0 0 = true → handle < 8192 →
    ∃ t, exec (.streamUnblock chan handle) s = .next t ∧ t.on 0x6021 4 handle = false ∧ t.traffic = s.traffic) ∧
  (∀ (s : State) (chan : Chan) (ring : Nat), s.takesWrite chan 0x8500 1 0 = true → ring < 4096 → (s.hostRing true
  ring).state = .enabled →
    ∃ t, exec (.forceDisableTx chan ring) s = .next t ∧ (t.hostRing true ring).state = .draining ∧ (t.hostRing true
    ring).buffers = []) ∧
  (∀ (s : State) (chan : Chan) (ring : Nat), s.takesWrite chan 0x8500 2 0 = true → ring < 4096 → (s.hostRing false
  ring).state = .enabled →
    ∃ t, exec (.forceDisableRx chan ring) s = .next t ∧ (t.hostRing false ring).state = .draining ∧ (t.hostRing false
    ring).buffers = []) ∧
  (∀ (s : State) (chan : Chan), s.takesWrite chan 0x9030 0 0 = true → s.switchoverAllowed = true → s.twin.releasing =
  none →
    ∃ t, exec (.twinSwitchover chan) s = .next t ∧ (t.twin.releasing = some (if s.twin.sentRecord = some s.cycle then
    s.cycle + 2 else s.cycle + 1)) ∧ t.twin.failAfter = s.twin.failAfter ∧ t.od = s.od) ∧
  (∀ (s : State) (chan : Chan) (p : Nat), s.takesWrite chan 0xB050 0 0 = true → p < 256 → isBB p = false →
  s.tdrAllowed p = true →
    ∃ t, exec (.tdrRequest chan p) s = .next t ∧ t.faults = { s.faults with tdr := some p } ∧ t.od = s.od)

/-- R85: CycleLength. -/
def Obligations.CycleLengthIsFitted : Prop :=
  ∀ (s : State) (chan : Chan) (v : Nat), s.takesWrite chan 0x4000 4 0 = true → v < 4294967296 →
    ∃ t, exec (.write chan ⟨0x4000, 4, 0, 0⟩ ⟨valueBytes (bigEndian chan) .u32 v, []⟩) s = .next t ∧ 25000 ≤ t.n
    0x4000 4 ∧ t.n 0x4000 4 ≤ 100000000 ∧ 1000000000 % t.n 0x4000 4 = 0 ∧ (25000 ≤ v → t.n 0x4000 4 ≤ v) ∧ (∀ d,
    1000000000 % d = 0 → d ≤ 100000000 → d ≤ v → d ≤ t.n 0x4000 4) ∧ (v = 300000 → t.n 0x4000 4 = 250000) ∧ (.response
    (channelCode chan) (if t.n 0x4000 4 = v then 0 else 1) 4 [] ∈ t.out.drop s.out.length)

/-- R370: SoftwareEvent. -/
def Obligations.SoftwareEventIsRaised : Prop :=
  (∀ (s : State) (chan : Chan) (value : Nat), s.takesWrite chan 0xB030 0 0 = true → value < 18446744073709551616 → 992
  ≤ value % 65536 → value % 65536 ≤ 1023 → s.room 1 →
    ∃ t, exec (.softwareEvent chan value) s = .next t ∧ t.events.fifo = s.events.fifo ++ [⟨s.events.next, s.clock.sec
    % 65536, s.clock.ns, 0, value % 65536, 0, value / 65536 % 2147483648, none⟩]) ∧
  (∀ (s : State) (chan : Chan) (value : Nat), s.takesWrite chan 0xB030 0 0 = true → value < 18446744073709551616 →
  value % 65536 < 992 ∨ 1023 < value % 65536 → s.room 3 →
    ∃ t, exec (.softwareEvent chan value) s = .next t ∧ t.events.fifo.getLast? = some ⟨(s.events.next + 2) %
    4294967296, s.clock.sec % 65536, s.clock.ns, 0, min 1023 (max 992 (value % 65536)), 0, value / 65536 % 2147483648,
    none⟩ ∧ t.events.fifo.length = s.events.fifo.length + 3)

/-! ## The time base (chapter 3) -/
/-- How the clock's state machine leaves a state without a measurement (R65, Table 3.4): the source is lost in LOCKED
and in ACQUIRING, HOLDOVER has lasted its limit, the reference fails. The floor in the mean is the model's (log entry
13). -/
def Obligations.ClockLeavesStateWithoutMeasurement : Prop :=
  (∀ (s : State), s.clockState = 2 → s.sourceGone = true → s.timeSource ≠ 4 → s.staysAsItIs 12 0 = true → s.room 3 →
    ∃ t, exec .sourceLoss s = .next t ∧ t.clockState = 3 ∧ t.time.servo.sigma = 0 ∧ t.obj 0x3001 4 = clampInt
    (-219902325) 219902325 (meanRate (s.obj 0x3001 4) (s.time.servo.estimates.take (s.n 0x3110 7))) ∧ t.now = s.now ∧
    s.records t 513 0 ∧ s.records t 512 0) ∧
  (∀ (s : State), s.clockState = 1 → s.sourceGone = true → s.timeSource ≠ 4 → s.staysAsItIs 12 0 = true → s.room 3 →
    ∃ t, exec .sourceLoss s = .next t ∧ t.clockState = 0 ∧ t.obj 0x3001 4 = s.obj 0x3001 4 ∧ t.now = s.now ∧ s.records
    t 513 0 ∧ s.records t 512 0) ∧
  (∀ (s : State), s.clockState = 3 → s.n 0x3001 5 + nsUnits (s.n 0x3110 8) ≤ s.now → s.room 2 →
    ∃ t, exec .holdoverLimit s = .next t ∧ t.clockState = 0 ∧ t.obj 0x3001 4 = s.obj 0x3001 4 ∧ t.clock = s.clock ∧
    s.records t 516 0 ∧ s.records t 512 0) ∧
  (∀ (s : State), s.now < s.n 0x3001 5 + nsUnits (s.n 0x3110 8) →
    ∃ t, exec .holdoverLimit s = .next t ∧ t.od = s.od ∧ t.clock = s.clock) ∧
  (∀ (s : State), s.room 2 →
    ∃ t, exec .referenceFault s = .next t ∧ t.clockState = 3 ∧ (s.clockState = 3 ∨ t.time.servo.sigma = 0) ∧ t.clock =
    s.clock ∧ s.records t 519 0 ∧ (s.clockState = 3 ∨ s.records t 512 0))

/-- The pending automatic step at the local cycle boundary, and the end of the slew term (floor: log entry 13). -/
def Obligations.AutomaticStepAndSlewEnd : Prop :=
  (∀ (s : State) (d : Int), s.time.servo.pendingStep = some d → s.clockState = 1 → s.neverSteps = false → s.room 2 →
    ∃ t, exec .automaticStep s = .next t ∧ t.clock = Clock.ofUnits (((s.now : Int) + d).toNat) ∧
    t.time.servo.pendingStep = none ∧ t.obj 0x3001 6 = (s.obj 0x3001 6 + 1) % 4294967296 ∧ s.records t 515 0 ∧
    (s.ringState ≠ 3 ∨ t.ringState = 2)) ∧
  (∀ (s : State) (d : Int), s.time.servo.pendingStep = some d → s.clockState ≠ 1 ∨ s.neverSteps = true →
    ∃ t, exec .automaticStep s = .next t ∧ t.clock = s.clock ∧ t.time.servo.pendingStep = none) ∧
  (∀ (s : State), s.time.servo.slewAt + s.cycleUnits ≤ s.now → s.time.servo.adjust = 0 → 0 ≤ s.obj 0x3110 6 →
    ∃ t, exec .slewEnd s = .next t ∧ t.time.servo.sigma = 0 ∧ t.time.servo.adjust = 0 ∧ t.clock = s.clock) ∧
  (∀ (s : State), s.time.servo.slewAt + s.cycleUnits ≤ s.now → s.time.servo.adjust ≠ 0 → s.time.servo.sigma ≠
  s.slewWanted (-s.time.servo.adjust) →
    ∃ t, exec .slewEnd s = .next t ∧ t.time.servo.adjust = s.time.servo.adjust - slewIn s.time.servo.sigma
    s.cycleUnits ∧ t.time.servo.sigma = s.slewFor (-(s.time.servo.adjust - slewIn s.time.servo.sigma s.cycleUnits)) ∧
    t.clock = s.clock) ∧
  (∀ (s : State), s.time.servo.slewAt + s.cycleUnits ≤ s.now → s.time.servo.sigma = s.slewWanted
  (-s.time.servo.adjust) → 0 ≤ s.obj 0x3110 6 →
    ∃ t, exec .slewEnd s = .next t ∧ t.time.servo.adjust = 0 ∧ t.time.servo.sigma = 0 ∧ t.clock = s.clock) ∧
  (∀ (s : State), s.now < s.time.servo.slewAt + s.cycleUnits →
    ∃ t, exec .slewEnd s = .next t ∧ t.time = s.time ∧ t.clock = s.clock)

/-- What the gPTP instance does with a message received. A frame of the module's own joins its queue; `macBusy` and
`takesFrame` are the conditions under which it stays there. Message bytes: log entry 10; floor: log entry 13; the
class `ptpClass` is free: log entry 34; the count of Announce messages: log entry 16. -/
def Obligations.GptpMessagesReceived : Prop :=
  (∀ (s : State) (p domain origin : Nat) (correction : Int) (x : PtpPair), s.operating = true → p < 256 → s.gptpRole p
  = 2 → s.timeCapable p = true → domain = s.n 0x3500 2 → s.hearsPair p x = true → s.clockState = 0 →
    ∃ t, exec (.gptpSync p domain origin correction x) s = .next t ∧ t.obj 0x3001 3 = (s.rxPlane p x.event.stamp :
    Int) - (((origin : Int) + correction + s.obj 0x3502 3 p).toNat : Int) ∧ t.clockState = 1 ∧ t.clock = s.clock) ∧
  (∀ (s : State) (p domain sequence requester : Nat) (f : Frame), s.operating = true → p < 256 → s.gptpRole p ≠ 0 →
  isSG p = false → domain = s.n 0x3500 2 → s.hears p f = true → s.unscheduled p = true → s.macBusy p → s.takesFrame p
  ptpClass (s.ownFrame (.ptp (.response sequence requester)) (s.ptpFrame p 3 0x0200 (s.rxPlane p f.stamp % 65536)
  sequence 127 (ptpTime (s.rxPlane p f.stamp) ++ beBytes 10 requester))) →
    ∃ t, exec (.gptpPdelayReq p domain sequence requester f) s = .next t ∧ s.queuedBehind t p ptpClass (s.ptpFrame p 3
    0x0200 (s.rxPlane p f.stamp % 65536) sequence 127 (ptpTime (s.rxPlane p f.stamp) ++ beBytes 10 requester))) ∧
  (∀ (s : State) (p domain sequence t2 t3 : Nat) (x : PtpPair) (t1 t4 : Nat), s.operating = true → p < 256 →
  s.gptpRole p ≠ 0 → isSG p = false → domain = s.n 0x3500 2 → s.hearsPair p x = true → s.rxPlane p x.event.stamp = t4
  → (s.gptpPort p).sentAt = some t1 → (s.gptpPort p).sequence = sequence → (s.gptpPort p).lastResponse = none →
    ∃ t, exec (.gptpPdelayResp p domain sequence t2 t3 x) s = .next t ∧ t.on 0x3502 2 p = true ∧ t.obj 0x3502 4 p =
    s.obj 0x3502 4 p ∧ t.obj 0x3502 3 p = divFloor (((t4 : Int) - t1) + divFloor (((t4 : Int) - t1) * s.obj 0x3502 4
    p) two40 - ((t3 : Int) - t2)) 2 ∧ t.gptpPort p =
    { s.gptpPort p with waiting := false, sentAt := none, lost := 0, lastResponse := some (t3, t4), eventAt := some t4 }) ∧
  (∀ (s : State) (p : Nat) (f : Frame), s.operating = true → p < 256 → s.hears p f = true → s.unscheduled p = true →
    ∃ t, exec (.announceReceived ⟨p, f⟩) s = .next t ∧ (t.gptpPort p).announces = (s.gptpPort p).announces + 1 ∧
    t.time.servo = s.time.servo ∧ t.clock = s.clock) ∧
  (∀ (s : State), s.operating = true → s.gptpRole (s.n 0x3102 0) = 2 → ((s.time.syncAwaited.any fun u => s.after u
  (s.n 0x3500 5 * logInterval (s.obj 0x3500 3))) = true) → s.room 1 →
    ∃ t, exec .syncReceiptTimeout s = .next t ∧ t.time.syncAwaited = none ∧ t.obj 0x3502 5 (s.n 0x3102 0) = (s.obj
    0x3502 5 (s.n 0x3102 0) + 1) % 4294967296 ∧ s.records t 530 0)

/-- The timers of the gPTP instance, on a module whose one usable port of the role is `p`. Message bytes: log entry
10; the class `ptpClass` is free: log entry 34. -/
def Obligations.GptpTimersSend : Prop :=
  (∀ (s : State) (p : Nat), s.operating = true → s.gptpDue s.time.syncAt (logInterval (s.obj 0x3500 3)) = true →
  s.masterPorts = [p] → s.macBusy p → s.takesFrame p ptpClass (s.ownFrame (.ptp (.sync (s.time.syncSequence % 65536)))
  (s.ptpFrame p 0 0x0200 0 (s.time.syncSequence % 65536) (s.obj 0x3500 3) (List.replicate 10 0))) →
    ∃ t, exec .gptpSyncTimer s = .next t ∧ t.time =
    { s.time with syncSequence := (s.time.syncSequence + 1) % 65536, syncAt := some s.elapsed } ∧ s.queuedBehind t p
    ptpClass (s.ptpFrame p 0 0x0200 0 (s.time.syncSequence % 65536) (s.obj 0x3500 3) (List.replicate 10 0))) ∧
  (∀ (s : State), s.gptpDue s.time.syncAt (logInterval (s.obj 0x3500 3)) = false →
    ∃ t, exec .gptpSyncTimer s = .next t ∧ t.time = s.time ∧ t.traffic = s.traffic) ∧
  (∀ (s : State) (p : Nat), s.operating = true → s.gptpDue s.time.pdelayAt (logInterval (s.obj 0x3500 4)) = true →
  (s.gptpPorts (fun p r => r != 0 && !isSG p) = [p]) → s.macBusy p → s.takesFrame p ptpClass (s.ownFrame (.ptp
  .request) (s.ptpFrame p 2 0 0 (((s.gptpPort p).sequence + 1) % 65536) (s.obj 0x3500 4) (List.replicate 20 0))) →
    ∃ t, exec .gptpPdelayTimer s = .next t ∧ (t.gptpPort p =
    { s.gptpPort p with sequence := ((s.gptpPort p).sequence + 1) % 65536, waiting := true, sentAt := none, lost := if (s.gptpPort p).waiting then (s.gptpPort p).lost + 1 else (s.gptpPort p).lost })
    ∧ t.time.pdelayAt = some s.elapsed ∧ s.queuedBehind t p ptpClass (s.ptpFrame p 2 0 0 (((s.gptpPort p).sequence +
    1) % 65536) (s.obj 0x3500 4) (List.replicate 20 0))) ∧
  (∀ (s : State), s.gptpDue s.time.pdelayAt (logInterval (s.obj 0x3500 4)) = false →
    ∃ t, exec .gptpPdelayTimer s = .next t ∧ t.time = s.time ∧ t.traffic = s.traffic) ∧
  (∀ (s : State) (p : Nat), s.operating = true → s.gptpDue s.time.announceAt secUnits = true → s.masterPorts = [p] →
  s.macBusy p → s.takesFrame p ptpClass (s.ownFrame .module (s.ptpFrame p 11 0 0 (s.time.announceSequence % 65536) 0
  s.announceBody)) →
    ∃ t, exec .announceTimer s = .next t ∧ t.time =
    { s.time with announceSequence := (s.time.announceSequence + 1) % 65536, announceAt := some s.elapsed } ∧
    s.queuedBehind t p ptpClass (s.ptpFrame p 11 0 0 (s.time.announceSequence % 65536) 0 s.announceBody)) ∧
  (∀ (s : State), s.gptpDue s.time.announceAt secUnits = false →
    ∃ t, exec .announceTimer s = .next t ∧ t.time = s.time ∧ t.traffic = s.traffic)

/-- PPS in and out; captures and pulses of the time-event pins. Nearest second: log entry 14; the last edges across a
step: log entry 39. -/
def Obligations.PpsAndTimeEventPins : Prop :=
  (∀ (s : State) (falling : Bool) (stamp : Nat), s.on 0x3601 1 = true → s.on 0x3601 2 = falling → s.time.ppsEdges = 0
  →
    ∃ t, exec (.ppsInEdge falling stamp) s = .next t ∧ t.n 0x3601 4 = ((stamp : Int) + s.obj 0x3601 3).toNat ∧
    t.time.ppsEdges = 1 ∧ t.time.lastPpsIn = some ((stamp : Int) + s.obj 0x3601 3).toNat) ∧
  (∀ (s : State) (falling : Bool) (stamp l : Nat), s.on 0x3601 1 = true → s.on 0x3601 2 = falling → s.time.ppsEdges ≠
  0 → s.time.lastPpsIn = some l → ((stamp : Int) + s.obj 0x3601 3).toNat < l + secUnits - nsUnits 1000000 → s.room 1 →
    ∃ t, exec (.ppsInEdge falling stamp) s = .next t ∧ t.n 0x3601 4 = s.n 0x3601 4 ∧ t.time = s.time ∧ s.records t 529
    0) ∧
  (∀ (s : State), s.on 0x3601 1 = true → s.time.ppsEdges ≠ 0 → ((s.time.lastPpsIn.all fun l => decide (l + secUnits +
  nsUnits 1000000 ≤ s.now)) = true) → s.room 1 →
    ∃ t, exec .ppsInMissing s = .next t ∧ t.time.ppsEdges = 0 ∧ s.records t 528 0) ∧
  (∀ (s : State), s.on 0x3600 1 = true → ((s.time.lastPpsOut.all fun l => decide (l + nsUnits 500000000 ≤
  ((nearestSecond s.now * secUnits : Nat) + s.obj 0x3600 3).toNat)) = true) →
    ∃ t, exec .ppsOutEdge s = .next t ∧ t.out = s.out ++ [.pulse 0 ((nearestSecond s.now * secUnits : Nat) + s.obj
    0x3600 3).toNat (s.n 0x3600 2)] ∧ t.time.lastPpsOut = some ((nearestSecond s.now * secUnits : Nat) + s.obj 0x3600
    3).toNat) ∧
  (∀ (s : State) (l : Nat), s.time.lastPpsOut = some l → ((nearestSecond s.now * secUnits : Nat) + s.obj 0x3600
  3).toNat < l + nsUnits 500000000 →
    ∃ t, exec .ppsOutEdge s = .next t ∧ t.out = s.out ∧ t.time = s.time) ∧
  (∀ (s : State) (pin : Nat) (falling : Bool) (stamp : Nat), pin < 8 → s.n 0x3610 1 pin = 3 ∨ (s.n 0x3610 1 pin = 1 ∧
  falling = false) ∨ (s.n 0x3610 1 pin = 2 ∧ falling = true) → (((s.time.lastCapture.get? pin).all fun l => decide (l
  + nsUnits 40 ≤ ((stamp : Int) + s.obj 0x3610 5 pin).toNat)) = true) → s.room 1 →
    ∃ t, exec (.timeEventCapture pin falling stamp) s = .next t ∧ t.n 0x3611 1 pin = ((stamp : Int) + s.obj 0x3610 5
    pin).toNat ∧ t.obj 0x3611 2 pin = (s.obj 0x3611 2 pin + 1) % 4294967296 ∧ t.time.lastCapture.get? pin = some
    ((stamp : Int) + s.obj 0x3610 5 pin).toNat ∧ s.records t (520 + pin) 0) ∧
  (∀ (s : State) (pin : Nat) (falling : Bool) (stamp l : Nat), pin < 8 → s.n 0x3610 1 pin = 3 ∨ (s.n 0x3610 1 pin = 1
  ∧ falling = false) ∨ (s.n 0x3610 1 pin = 2 ∧ falling = true) → s.time.lastCapture.get? pin = some l → ((stamp : Int)
  + s.obj 0x3610 5 pin).toNat < l + nsUnits 40 →
    ∃ t, exec (.timeEventCapture pin falling stamp) s = .next t ∧ t.n 0x3611 1 pin = s.n 0x3611 1 pin ∧ t.obj 0x3611 3
    pin = (s.obj 0x3611 3 pin + 1) % 4294967296) ∧
  (∀ (s : State) (pin i : Nat), s.time.tevIndex.get? pin = some i → s.n 0x3610 1 pin = 5 → 0 < nsUnits (s.n 0x3610 3
  pin) → ((s.n 0x3610 2 pin + i * nsUnits (s.n 0x3610 3 pin) : Nat) + s.obj 0x3610 5 pin).toNat < s.now + nsUnits 2 →
    ∃ t, exec (.timeEventPulse pin) s = .next t ∧ t.time.tevIndex.get? pin = some (i + 1) ∧ t.out = s.out ++ [.pulse
    (pin + 1) ((s.n 0x3610 2 pin + i * nsUnits (s.n 0x3610 3 pin) : Nat) + s.obj 0x3610 5 pin).toNat (s.n 0x3610 4
    pin)])

/-! ## The ring (chapter 4) -/
/-- The cycle boundary. -/
def Obligations.CycleBoundaryAdvances : Prop :=
  ∀ (s : State), s.operating = true →
    ∃ t, exec .cycleBoundary s = .next t ∧ t.n 0x4001 6 = (s.n 0x4001 6 + 1) % 18446744073709551616 ∧ t.clock =
    s.clock

/-- Round frames at the Wheel. -/
def Obligations.RoundFramesOnTheWheel : Prop :=
  (∀ (s : State) (round : Nat) (east west : Int), s.operating = true → s.ringState = 4 → s.on 0x4110 1 (8 * s.mode +
  round) = true → round < 8 → s.ring.east.lost = false → s.ring.west.lost = false → s.noSa s.eastLane = false → s.noSa
  s.westLane = false → s.traffic.macs.get? s.eastLane = none → s.traffic.macs.get? s.westLane = none →
    ∃ t, exec (.roundFrameLaunch round east west) s = .next t ∧ t.ring.launched = (round, 1) :: (round, 0) ::
    s.ring.launched ∧ s.sentOn t = [s.eastLane, s.westLane] ∧ t.counter (wheelItem 2) = (s.counter (wheelItem 2) + 2)
    % 18446744073709551616) ∧
  (∀ (s : State) (lane : Nat) (f : Frame), s.operating = true → s.ringState = 4 → s.isLane lane = true →
  s.ring.west.lost = false → s.ring.east.lost = false → isProtocol f.data 1 = true →
    ∃ t, exec (.roundFrame lane f) s = .next t ∧ t.counter (wheelItem 0) = (s.counter (wheelItem 0) + 1) %
    18446744073709551616 ∧ t.counter (wheelItem 3) = (s.counter (wheelItem 3) + 1) % 18446744073709551616 ∧
    (t.ring.staged.drop s.ring.staged.length).map StagedCopy.lane = [lane] ∧ t.out = s.out) ∧
  (∀ (s : State) (lane : Nat) (f : Frame), s.operating = true → s.ringState = 3 → lane = s.westLane → s.eastLane ≠
  s.westLane → s.ring.west.lost = false → s.ring.east.lost = false → isProtocol f.data 1 = true → s.noSa s.eastLane =
  false → s.traffic.macs.get? s.eastLane = none →
    ∃ t, exec (.roundFrame lane f) s = .next t ∧ t.counter (wheelItem 0) = (s.counter (wheelItem 0) + 1) %
    18446744073709551616 ∧ t.counter (wheelItem 1) = (s.counter (wheelItem 1) + 1) % 18446744073709551616 ∧
    (t.ring.staged.drop s.ring.staged.length).map StagedCopy.lane = [lane] ∧ s.sentOn t = [s.eastLane]) ∧
  (∀ (s : State) (lane : Nat) (copy : StagedCopy) (rest : List StagedCopy), s.operating = true → s.ring.staged = copy
  :: rest → copy.lane = lane → copy.good = false →
    ∃ t, exec (.roundFrameVerified lane) s = .next t ∧ t.ring = { s.ring with staged := rest } ∧ t.od = s.od) ∧
  (∀ (s : State) (lane : Nat) (copy : StagedCopy) (rest : List StagedCopy), s.operating = true → s.ring.staged = copy
  :: rest → copy.lane = lane → copy.good = true → copy.header.version = 1 → copy.header.round = 0 → s.ringState = 1 →
  s.ring.inhibited = false →
    ∃ t, exec (.roundFrameVerified lane) s = .next t ∧ t.ringState = 2 ∧ t.ring.masterHash = copy.header.masterHash ∧
    t.ring.staged = rest ∧ t.clock = s.clock) ∧
  (∀ (s : State) (round direction : Nat), s.ringState = 4 → (round, direction) ∈ s.ring.launched →
  ((s.ring.returned.any fun r => r.1 == round && r.2.1 == direction) = false) → s.staysAsItIs 11 0 = true → s.room 2 →
    ∃ t, exec (.roundFrameMissing round direction) s = .next t ∧ s.records t 470 0 ∧ t.ring = s.ring)

/-- Ring states that a timer changes. -/
def Obligations.RingStateChanges : Prop :=
  (∀ (s : State), s.ringState = 1 → s.twinHalf = false → s.on 0x4000 5 = true → s.ring.inhibited = false →
  ((s.ring.listened.any fun n => decide (s.listenCycles ≤ n)) = true) → s.room 4 →
    ∃ t, exec .listenTimerExpiry s = .next t ∧ t.ringState = 4 ∧ t.n 0x4001 2 = 0 ∧ t.n 0x4001 4 = s.nodeName ∧
    t.ring.admitted = [] ∧ s.records t 448 0 ∧ t.clock = s.clock) ∧
  (∀ (s : State), s.ringState = 1 → s.twinHalf = false → s.on 0x4000 5 = false ∨ s.ring.inhibited = true →
  ((s.ring.listened.any fun n => decide (s.listenCycles ≤ n)) = true) →
    ∃ t, exec .listenTimerExpiry s = .next t ∧ t.ring = { s.ring with listened := none, rf0Absent := 0 } ∧ t.od =
    s.od) ∧
  (∀ (s : State), s.ringState = 1 → ((s.ring.listened.any fun n => decide (s.listenCycles ≤ n)) = false) →
    ∃ t, exec .listenTimerExpiry s = .next t ∧ t.ring = s.ring ∧ t.od = s.od) ∧
  (∀ (s : State), s.ringState = 2 ∨ s.ringState = 3 → s.n 0x4000 9 ≤ s.ring.rf0Absent → s.room 2 →
    ∃ t, exec .ringLoss s = .next t ∧ t.ringState = 1 ∧ s.records t 464 0 ∧ s.records t 448 0) ∧
  (∀ (s : State) (name : Nat), s.ringState = 4 → name ∈ s.ring.admitted → s.n 0x4000 9 ≤ s.ring.absentRuns.getD name 0
  → s.room 1 →
    ∃ t, exec (.nodeLeft name) s = .next t ∧ t.ring.admitted = s.ring.admitted.erase name ∧ s.records t 459 0 ∧
    t.counter (wheelItem 25) = (s.counter (wheelItem 25) + 1) % 18446744073709551616)

/-- Wrap and its release, and crossed lanes (when a round frame is expected: log entry 41). -/
def Obligations.WrapAndLanes : Prop :=
  (∀ (s : State) (lane : Nat), lane = s.westLane → s.ringState ≠ 0 → s.ring.west.lost = false → s.room 1 →
    ∃ t, exec (.laneLost lane) s = .next t ∧ t.ring.west.lost = true ∧ (t.n 0x4001 7 = 1 + (if s.ring.east.lost then 2
    else 0)) ∧ s.records t 451 0 ∧ t.counter (wheelItem 18) = (s.counter (wheelItem 18) + 1) % 18446744073709551616) ∧
  (∀ (s : State) (lane : Nat), lane = s.eastLane → lane ≠ s.westLane → s.ringState ≠ 0 → s.ring.east.lost = false →
  s.n 0x4000 0xA ≤ s.ring.east.silent → s.room 1 →
    ∃ t, exec (.roundLoss lane) s = .next t ∧ t.ring.east.lost = true ∧ (t.n 0x4001 7 = (if s.ring.west.lost then 1
    else 0) + 2) ∧ s.records t 451 0 ∧ t.counter (wheelItem 18) = (s.counter (wheelItem 18) + 1) %
    18446744073709551616) ∧
  (∀ (s : State) (lane : Nat), lane = s.westLane → s.ring.west.lost = true → ((s.ring.west.held.any fun n => decide
  (s.n 0x4000 0xC ≤ n)) = true) → s.on 0xA020 1 lane = false ∨ s.hasSas lane = true →
    ∃ t, exec (.wrapRestoreHoldoff lane) s = .next t ∧ t.ring =
    { s.ring with west := { s.ring.west with restored := true } } ∧ t.od = s.od) ∧
  (∀ (s : State), s.ring.releaseAt = some s.cycle → s.ring.west.lost = true → s.ring.west.restored = true → s.on
  0xA020 1 s.westLane = false ∨ s.hasSas s.westLane = true → s.ring.east.lost = false → s.room 1 →
    ∃ t, exec .wrapRelease s = .next t ∧ t.ring.west.lost = false ∧ t.ring.releaseAt = none ∧ t.n 0x4001 7 = 0 ∧
    s.records t 452 0) ∧
  (∀ (s : State), 2 ≤ s.ring.crossRun → s.ringState = 3 ∨ s.ringState = 2 → s.room 1 →
    ∃ t, exec .lanesCrossed s = .next t ∧ t.westLane = s.eastLane ∧ t.eastLane = s.westLane ∧ t.ring.west =
    s.ring.east ∧ t.ring.east = s.ring.west ∧ s.records t 469 0)

/-- The evaluation of a mode request and the switch of the running mode. -/
def Obligations.ScheduleModeChanges : Prop :=
  (∀ (s : State) (q : ModeRequest), s.ring.request = some q → s.ringState = 4 → s.cycle + 2 = q.target → s.n 0x4001 9
  &&& s.countedAcks q.mode = s.n 0x4001 9 →
    ∃ t, exec .modeRequestEvaluation s = .next t ∧ t.ring.confirm = some q.mode ∧ t.ring.request = some q ∧ t.n 0x4010
    6 = s.countedAcks q.mode) ∧
  (∀ (s : State) (q : ModeRequest), s.ring.request = some q → s.ringState = 4 → s.cycle + 2 = q.target → s.n 0x4001 9
  &&& s.countedAcks q.mode ≠ s.n 0x4001 9 → s.room 1 →
    ∃ t, exec .modeRequestEvaluation s = .next t ∧ t.ring.confirm = none ∧ t.ring.request = none ∧ t.n 0x4010 4 = 3 ∧
    s.records t 594 0) ∧
  (∀ (s : State) (m : Nat), s.operating = true → s.switchTarget = some m → m ≠ s.mode → s.od.sealedSet = none →
    ∃ t, exec .modeSwitch s = .next t ∧ t.mode = m ∧ t.counter (wheelItem 27) = (s.counter (wheelItem 27) + 1) %
    18446744073709551616 ∧ t.ring.request = none ∧ t.cycle = s.cycle) ∧
  (∀ (s : State) (m : Nat), s.operating = true → s.ring.adopt = some m → m ≠ s.mode → s.ringState ≠ 4 →
    ∃ t, exec .modeAdopt s = .next t ∧ t.mode = m ∧ t.ring.adopt = none ∧ t.cycle = s.cycle)

/-! ## Segments and links (chapter 5) -/
/-- Start-up of a segment, and its cycle boundary. -/
def Obligations.SegmentStartUp : Prop :=
  (∀ (s : State) (p : Nat), p < 256 → s.segmentPort p = true → s.segState p = 1 → s.timerOver p = true → s.segCfg p 3
  5 ≠ 0 → s.ownsSync p = true → s.room 1 →
    ∃ t, exec (.segmentListenTimer p) s = .next t ∧ t.segState p = 2 ∧ t.seg p =
    { s.seg p with offset48 := 0, cycle := s.now / nsUnits (s.segLength p), startPending := true, goodCycles := 0, accepted := 0, deviations := [], previous := [] }
    ∧ t.n 0x3400 1 p = 1 ∧ s.recordsPort t p 8 2) ∧
  (∀ (s : State) (p : Nat), s.segmentPort p = true → s.segState p = 1 → s.timerOver p = true → s.segCfg p 3 5 = 0 ∨
  s.ownsSync p = false →
    ∃ t, exec (.segmentListenTimer p) s = .next t ∧ t.seg p =
    { s.seg p with timerEnd := s.now + nsUnits (s.segCfg p 3 7 * s.segLength p) } ∧ t.od = s.od) ∧
  (∀ (s : State) (p : Nat), s.timerOver p = false →
    ∃ t, exec (.segmentListenTimer p) s = .next t ∧ t.segments = s.segments ∧ t.od = s.od) ∧
  (∀ (s : State) (p : Nat), p < 256 → s.segState p = 3 → s.timerOver p = true → s.room 1 →
    ∃ t, exec (.coldstartBackoffExpiry p) s = .next t ∧ t.segState p = 2 ∧ t.seg p =
    { s.seg p with offset48 := 0, cycle := s.now / nsUnits (s.segLength p), startPending := true, goodCycles := 0, accepted := 0, deviations := [], previous := [] }
    ∧ t.n 0x3400 1 p = 1 ∧ s.recordsPort t p 8 2) ∧
  (∀ (s : State) (p : Nat), s.timerOver p = false →
    ∃ t, exec (.coldstartBackoffExpiry p) s = .next t ∧ t.segments = s.segments ∧ t.od = s.od) ∧
  (∀ (s : State) (p : Nat), s.segmentPort p = true → s.hasView p = true →
    ∃ t, exec (.segmentCycleBoundary p) s = .next t ∧ (t.seg p).cycle = ((s.seg p).cycle + 1) * s.segLength p / max 1
    (t.segLength p) ∧ t.obj (portIdx p 1) 5 = ((t.seg p).cycle : Nat) ∧ (t.seg p).frozen = none ∧ (t.seg p).accepted =
    0 ∧ (t.seg p).slotsFilled = [] ∧ (t.seg p).inTail = false ∧ (t.seg p).overflow = [])

/-- Static slots of the module and of others. -/
def Obligations.SlotsOfTheModule : Prop :=
  (∀ (s : State) (p slot : Nat) (x : Slot) (f : QueuedFrame), s.operating = true → s.groveOn (p / 32) = true →
  s.slotOf p (s.segMode p) slot = some x → x.owner = 0 → x.sync = false → s.segState p = 5 → (s.seg p).latched.get?
  slot = none → s.slotContent p x = some f → s.fitsSlot p (s.queuedBytes p f) x = true →
    ∃ t, exec (.slotLatch p slot) s = .next t ∧ (t.seg p).latched = (s.seg p).latched.set slot f ∧ t.out = s.out) ∧
  (∀ (s : State) (p slot : Nat) (x : Slot) (f : QueuedFrame), s.operating = true → s.groveOn (p / 32) = true →
  s.slotOf p (s.segMode p) slot = some x → x.owner = 0 → x.sync = false → x.toTail = true → isSG p = true → s.segState
  p = 5 → (s.seg p).latched.get? slot = none → s.slotContent p x = some f → s.fitsSlot p (s.queuedBytes p f) x = false
  →
    ∃ t, exec (.slotLatch p slot) s = .next t ∧ ((t.seg p).overflow = (s.seg p).overflow ++ [(if x.source = 0 then 8
    else x.source - 1, f)]) ∧ (t.seg p).latched = (s.seg p).latched ∧ t.counter (portItem p 18) = (s.counter (portItem
    p 18) + 1) % 18446744073709551616) ∧
  (∀ (s : State) (p slot : Nat) (x : Slot) (f : QueuedFrame), s.operating = true → s.groveOn (p / 32) = true →
  s.portSilenced p = false → s.noSa p = false → s.slotOf p (s.segMode p) slot = some x → x.owner = 0 → x.sync = false
  → s.segState p = 5 → (s.seg p).latched.get? slot = some f →
    ∃ t, exec (.slotActionPoint p slot false) s = .next t ∧ t.out = s.out ++ [.frame p f.data false true] ∧ (t.seg
    p).latched = (s.seg p).latched.erase slot ∧ t.counter (portItem p 11) = (s.counter (portItem p 11) + 1) %
    18446744073709551616) ∧
  (∀ (s : State) (p slot : Nat) (x : Slot) (collision : Bool), s.operating = true → s.slotOf p (s.segMode p) slot =
  some x → x.owner = 0 → x.sync = false → s.segState p = 5 → (s.seg p).latched.get? slot = none →
    ∃ t, exec (.slotActionPoint p slot collision) s = .next t ∧ t.out = s.out ∧ t.counter (portItem p 13) = (s.counter
    (portItem p 13) + 1) % 18446744073709551616) ∧
  (∀ (s : State) (p slot : Nat) (x : Slot), s.operating = true → s.groveOn (p / 32) = true → s.portSilenced p = false
  → s.noSa p = false → s.slotOf p (s.segMode p) slot = some x → x.owner = 0 → x.sync = true → s.segState p = 5 ∨
  (s.segState p = 2 ∧ (s.seg p).startPending = false) →
    ∃ t, exec (.slotActionPoint p slot false) s = .next t ∧ t.out = s.out ++ [.frame p (s.syncFrame p) false true] ∧
    t.counter (portItem p 19) = (s.counter (portItem p 19) + 1) % 18446744073709551616) ∧
  (∀ (s : State) (p slot : Nat) (x : Slot), s.slotOf p (s.segMode p) slot = some x → x.owner ≠ 0 → s.hasView p = true
  → (s.seg p).slotsFilled.contains slot = false →
    ∃ t, exec (.slotEnd p slot) s = .next t ∧ t.counter (portItem p 14) = (s.counter (portItem p 14) + 1) %
    18446744073709551616 ∧ t.obj (portIdx p 7) 1 slot = (s.obj (portIdx p 7) 1 slot + 1) % 4294967296)

/-- What a received frame does on a segment. -/
def Obligations.SegmentReception : Prop :=
  (∀ (s : State) (p sender : Nat) (f : Frame) (x : Slot), s.operating = true → p < 256 → s.hears p f = true → s.sound
  p f = true → s.segmentPort p = true → s.hasView p = true → s.placement p (s.inCycle p (s.frameStart p f.stamp)) =
  .slot x → s.listenOnly p x.owner = false → s.inWindow p x (s.inCycle p (s.frameStart p f.stamp)) = true →
  s.endsInSlot p x (s.inCycle p (s.frameStart p f.stamp)) (s.wireBytes p f) = true →
    ∃ t, exec (.segmentFrame p sender f) s = .next t ∧ t.counter (portItem p 12) = (s.counter (portItem p 12) + 1) %
    18446744073709551616 ∧ x.row ∈ (t.seg p).slotsFilled ∧ t.n (portIdx p 7) 6 x.row = (s.seg p).cycle) ∧
  (∀ (s : State) (p sender : Nat) (f : Frame), s.operating = true → p < 256 → s.hears p f = true → isSG p = true →
  s.portMode p = 0 → sender ≤ 254 → sender ≠ s.port p 2 1 → maskBit (s.obj (portIdx p 5) 0) sender = false →
    ∃ t, exec (.segmentFrame p sender f) s = .next t ∧ maskBit (t.obj (portIdx p 5) 0) sender = true ∧ t.counter
    (portItem p 23) = (s.counter (portItem p 23) + 1) % 18446744073709551616 ∧ t.counter (portItem p 0) = (s.counter
    (portItem p 0) + 1) % 18446744073709551616) ∧
  (∀ (s : State) (p : Nat) (f : Frame) (x : Slot), s.operating = true → p < 256 → s.portEnabled p = true → s.groveOn
  (groveOf p) = true → s.segmentPort p = true → s.segState p = 1 → s.sound p f = true → (((s.slots p).find? fun y =>
  y.sync && y.owner == (SyncBody.decode (protocolBody f.data)).sender && y.owner != 0) = some x) → (SyncBody.decode
  (protocolBody f.data)).version = 1 → (SyncBody.decode (protocolBody f.data)).mode = s.segMode p → (SyncBody.decode
  (protocolBody f.data)).digest = s.segDigest p (s.segMode p) → s.listenOnly p x.owner = false →
    ∃ t, exec (.syncFrame p f) s = .next t ∧ t.segState p = 4 ∧ (t.seg p).cycle = (SyncBody.decode (protocolBody
    f.data)).cycle ∧ t.n 0x3400 1 p = 1)

/-- The tail, nodes that leave, and changes of mode and status. -/
def Obligations.SegmentTailAndNodes : Prop :=
  (∀ (s : State) (p : Nat), s.operating = true → isSG p = true → s.segmentPort p = true → s.segState p = 5 →
  s.portSilenced p = false → s.groveOn (p / 32) = true →
    ∃ t, exec (.tailStart p false) s = .next t ∧ s.out ++ [.beacon p] <+: t.out ∧ (t.seg p).inTail = true ∧ (t.seg
    p).plca.current = some 0 ∧ t.counter (portItem p 8) = (s.counter (portItem p 8) + 1) % 18446744073709551616 ∧
    t.counter (portItem p 22) = s.counter (portItem p 22)) ∧
  (∀ (s : State) (p : Nat), s.operating = true → isSG p = true → s.segmentPort p = true → s.segState p = 5 →
  s.portSilenced p = false → s.groveOn (p / 32) = true → s.macBusy p → s.room 2 →
    ∃ t, exec (.tailStart p true) s = .next t ∧ s.out ++ [.beacon p] <+: t.out ∧ (t.seg p).inTail = true ∧ t.counter
    (portItem p 8) = (s.counter (portItem p 8) + 1) % 18446744073709551616 ∧ t.counter (portItem p 22) = (s.counter
    (portItem p 22) + 1) % 18446744073709551616 ∧ s.recordsPort t p 12 0) ∧
  (∀ (s : State) (p node : Nat), p < 256 → node < 255 → maskBit (s.obj (portIdx p 5) 0) node = true → s.listenOnly p
  node = false → s.segCfg p 3 8 ≤ (s.seg p).silent.getD node 0 → s.room 1 →
    ∃ t, exec (.presenceLeave p node) s = .next t ∧ maskBit (t.obj (portIdx p 5) 0) node = false ∧ t.on (portIdx p 6)
    1 node = false ∧ s.recordsPort t p 5 node ∧ t.counter (portItem p 24) = (s.counter (portItem p 24) + 1) %
    18446744073709551616) ∧
  (∀ (s : State) (p node : Nat), p < 256 → node < 255 → s.listenOnly p node = true → s.segCfg p 3 9 ≤ (s.seg
  p).quiet.getD node 0 → s.room 3 →
    ∃ t, exec (.listenOnlyRelease p node) s = .next t ∧ t.listenOnly p node = false ∧ s.recordsPort t p 7 node ∧
    (t.faults.instances.getD (faultKey 0 (nodeInstance p node)) FaultInstance.init).buckets = [] ∧
    (t.faults.instances.getD (faultKey 0 (nodeInstance p node)) FaultInstance.init).lasting = false ∧ (t.seg
    p).silent.getD node 7 = 0) ∧
  (∀ (s : State) (p m j : Nat), s.operating = true → p < 256 → (s.seg p).nextMode = some m → (s.seg p).switchAt = some
  j → j ≤ (s.seg p).cycle → s.room 1 →
    ∃ t, exec (.segmentModeSwitch p) s = .next t ∧ t.segMode p = m ∧ (t.seg p).nextMode = none ∧ (t.seg p).switchAt =
    none ∧ (t.seg p).announcing = false ∧ (t.seg p).cycle = (s.seg p).cycle ∧ s.recordsPort t p 10 m ∧ t.counter
    (portItem p 28) = (s.counter (portItem p 28) + 1) % 18446744073709551616) ∧
  (∀ (s : State) (p : Nat) (status : Bool), p < 256 → s.room 1 →
    ∃ t, exec (.plcaStatusChanged p status) s = .next t ∧ t.portOn p 1 2 = status ∧ (s.recordsPort t p 3 (if status
    then 1 else 0)))

/-- Links. -/
def Obligations.LinksRiseAndFall : Prop :=
  (∀ (s : State) (p : Nat), s.operating = true → p < 256 → s.portEnabled p = true → s.portOn p 1 1 = false →
    ∃ t, exec (.linkUp p) s = .next t ∧ t.portOn p 1 1 = true ∧ t.n (portIdx p 1) 6 = s.now) ∧
  (∀ (s : State) (p : Nat), s.operating = true → p < 256 → s.portOn p 1 1 = true →
    ∃ t, exec (.linkDown p) s = .next t ∧ t.portOn p 1 1 = false ∧ t.n 0x6001 2 p = 0 ∧ t.queued (classQueue p 0) = []
    ∧ t.queued (classQueue p 7) = [] ∧ t.counter (portItem p 27) = (s.counter (portItem p 27) + 1) %
    18446744073709551616)

/-! ## Traffic (chapter 6) -/
/-- Stream lookup and default steering of a received frame, and the forwarded copy of a stream. -/
def Obligations.FramesSteeredAndForwarded : Prop :=
  (∀ (s : State) (p : Nat) (f : Frame), s.operating = true → p < 256 → s.hears p f = true → s.unscheduled p = true →
  s.takenFrame p f.data = false → s.identRows (some p) f.data (parseFrame f.data) = [] → s.addressKind p (parseFrame
  f.data) = none →
    ∃ t, exec (.frameReceived p f) s = .next t ∧ t.counter (portItem p 0) = (s.counter (portItem p 0) + 1) %
    18446744073709551616 ∧ t.counter (commonsItem 0) = (s.counter (commonsItem 0) + 1) % 18446744073709551616 ∧
    t.counter (commonsItem 3) = (s.counter (commonsItem 3) + 1) % 18446744073709551616 ∧ t.traffic = s.traffic ∧
    t.host = s.host ∧ t.out = s.out) ∧
  (∀ (s : State) (handle : Nat) (f : ForwardedFrame) (q : Nat), s.operating = true → s.stackMember = true →
  s.stackCarries f.port = true → f.member = s.n 0x1003 0 → frameSound f.frame = true → s.on 0x6020 1 handle = true →
  s.on 0x6021 4 handle = false → s.n 0x6020 4 handle = 0 → s.n 0x6020 6 handle = 0xFFFF → s.n 0x6020 7 handle = 0 →
  s.n 0x6020 8 handle = 0xFFFF → s.n 0x6020 9 handle = 0xFFFF → s.egressPorts handle = [q] → q < 256 → s.macBusy q →
  s.takesFrame q (s.streamClass handle q f.frame.data)
  { data := f.frame.data, origin := .relayed 0xFFFC (f.frame.icv == .verified), handle := handle, enqueued := s.now, received := f.frame.stamp, launch := none, sent := 0, cuts := 0, heldCounted := false, began := none }
  →
    ∃ t, exec (.streamForward handle f) s = .next t ∧ s.queuedBehind t q (s.streamClass handle q f.frame.data)
    f.frame.data ∧ t.obj 0x6021 1 handle = (s.obj 0x6021 1 handle + 1) % 18446744073709551616 ∧ t.counter (twinItem
    27) = (s.counter (twinItem 27) + 1) % 18446744073709551616 ∧ t.out = s.out) ∧
  (∀ (s : State) (handle : Nat) (f : ForwardedFrame), s.operating = true → s.stackMember = true → s.stackCarries
  f.port = true → f.member = s.n 0x1003 0 → frameSound f.frame = true → s.on 0x6020 1 handle = true → s.on 0x6021 4
  handle = false → s.n 0x6020 4 handle = 0 → s.n 0x6020 6 handle = 0xFFFF → s.n 0x6020 7 handle = 0 → s.n 0x6020 8
  handle = 0xFFFF →
    ∃ t, exec (.streamForward handle f) s = .next t ∧ t.obj 0x6021 1 handle = (s.obj 0x6021 1 handle + 1) %
    18446744073709551616 ∧ t.counter (twinItem 27) = (s.counter (twinItem 27) + 1) % 18446744073709551616) ∧
  (∀ (s : State) (handle : Nat) (f : ForwardedFrame), s.operating = true → s.stackMember = true → s.stackCarries
  f.port = true → s.stackCarries (1 - f.port) = true → f.member ≠ s.n 0x1003 0 →
    ∃ t, exec (.streamForward handle f) s = .next t ∧ t.out = s.out ++ [.streamForward (1 - f.port) f.member handle
    f.frame.data] ∧ t.od = s.od ∧ t.traffic = s.traffic)

/-- The end of a transmission and the choice of the next frame. The bound of the attempts is the model's choice (log
entry 59). -/
def Obligations.MacSendsWhatMayStart : Prop :=
  (∀ (s : State) (p c : Nat) (f : QueuedFrame), s.operating = true → p < 256 → s.groveOn (groveOf p) = true → (s.mac
  p).current = some (c, f) → (s.mac p).cutAt = none → endsQuietly f.origin = true → (s.gptpPort p).owed = [] → (s.seg
  p).leaving = [] → (s.seg p).overflow = [] → (((List.range 8).all fun d => (s.queued (classQueue p d)).isEmpty) =
  true) →
    ∃ t, exec (.macFree ⟨p, false⟩) s = .next t ∧ t.out = s.out ++ [.frame p (f.data.drop (s.plainOffset p f.sent))
    false true] ∧ (t.mac p).current = none ∧ t.counter (portItem p 2) = (s.counter (portItem p 2) + 1) %
    18446744073709551616) ∧
  (∀ (s : State) (p c : Nat) (f : QueuedFrame) (x : Nat), s.operating = true → p < 256 → s.groveOn (groveOf p) = true
  → (s.mac p).current = some (c, f) → (s.mac p).cutAt = some x → (s.seg p).leaving = [] →
    ∃ t, exec (.macFree ⟨p, false⟩) s = .next t ∧ s.out ++ [.frame p (slice f.data (s.plainOffset p f.sent)
    (s.plainOffset p (f.sent + x) - s.plainOffset p f.sent)) false false] <+: t.out ∧ t.counter (groveItem (groveOf p)
    5) = (s.counter (groveItem (groveOf p) 5) + 1) % 18446744073709551616) ∧
  (∀ (s : State) (p c : Nat) (f : QueuedFrame), s.operating = true → p < 256 → isSG p = true → s.groveOn (groveOf p) =
  true → (s.mac p).current = some (c, f) → (s.mac p).tries < 15 → (s.seg p).leaving = [] →
    ∃ t, exec (.macFree ⟨p, true⟩) s = .next t ∧ t.out = s.out ∧ t.counter (portItem p 7) = (s.counter (portItem p 7)
    + 1) % 18446744073709551616 ∧ t.counter (portItem p 2) = s.counter (portItem p 2)) ∧
  (∀ (s : State) (p k c : Nat) (f : QueuedFrame), s.operating = true → p < 256 → c < 8 → (s.mac p).current = none →
  s.mayTransmit p = true → s.contends p = false → s.laneWrapped p = false → (s.mac p).backoffEnd ≤ s.now → (s.gptpPort
  p).owed = [] → (s.seg p).overflow = [] → (((List.range 8).all fun d => (s.queued (classQueue p d)).head?.all fun g
  => (s.headDoom p d g).isNone) = true) → (((s.classOrder p).find? fun d => s.eligible p d) = some c) → (s.queued
  (classQueue p c)).head? = some f →
    ∃ t, exec (.launchTimeReached p k) s = .next t ∧ (t.mac p).current = some (c,
    { f with began := some (f.began.getD s.now) }) ∧ (t.mac p).startedAt = s.now ∧ t.queued (classQueue p c) =
    (s.queued (classQueue p c)).drop 1 ∧ t.out = s.out)

/-- Gate-list entries and the take-over. -/
def Obligations.GateListsOpenAndClose : Prop :=
  (∀ (s : State) (p a b : Nat) (e : GateEntry), s.operating = true → p < 256 → s.gated p = true → s.takeOverAt p =
  none → (s.gate p).running = true → (s.operGates p).spanAt s.now = some (a, b, e) →
    ∃ t, exec (.gateEntry p) s = .next t ∧ (t.gate p).states = e.states ∧ t.n 0x6001 3 p = e.states ∧ t.clock =
    s.clock) ∧
  (∀ (s : State) (p : Nat), s.operating = true → p < 256 → (s.gate p).armedTime.isSome = true → s.room 1 →
    ∃ t, exec (.gateTakeOver p) s = .next t ∧ (t.gate p).running = s.on 0x6100 1 p ∧ (t.gate p).armedTime = none ∧
    t.on 0x6101 5 p = false ∧ t.n 0x6101 4 p = s.n 0x6100 6 p ∧ (((List.range (min (s.n 0x6100 6 p) 1024)).all fun r
    => [1, 2, 3].all fun k => t.obj (portTable 0x6300 p) k r == s.obj (0x6200 + p) k r) = true) ∧ t.obj 0x6101 7 p =
    (s.obj 0x6101 7 p + 1) % 4294967296 ∧ s.records t 642 p)

/-- The verify procedure of pre-emption. -/
def Obligations.PreemptionIsVerified : Prop :=
  (∀ (s : State) (p : Nat), s.operating = true → p < 256 → s.groveOn (groveOf p) = true → s.n 0x6001 2 p = 1 → (s.mac
  p).verifySent < 3 →
    ∃ t, exec (.preemptionVerifyTimer p) s = .next t ∧ t.out = s.out ++ [.mPacket p true] ∧ (t.mac p).verifySent =
    (s.mac p).verifySent + 1 ∧ t.n 0x6001 2 p = 1) ∧
  (∀ (s : State) (p : Nat), s.operating = true → p < 256 → s.groveOn (groveOf p) = true → s.n 0x6001 2 p = 1 → 3 ≤
  (s.mac p).verifySent →
    ∃ t, exec (.preemptionVerifyTimer p) s = .next t ∧ t.n 0x6001 2 p = 3 ∧ t.out = s.out) ∧
  (∀ (s : State) (p : Nat), s.operating = true → p < 256 → s.groveOn (groveOf p) = true → s.n 0x6001 2 p = 1 →
  s.preemptionWanted p = true → s.on 0x6001 1 p = false → s.room 1 →
    ∃ t, exec (.preemptionRespond p) s = .next t ∧ t.n 0x6001 2 p = 2 ∧ t.on 0x6001 1 p = true ∧ s.records t 643 (p +
    1024)) ∧
  (∀ (s : State) (p : Nat), s.operating = true → p < 256 → s.groveOn (groveOf p) = true → s.n 0x6001 2 p = 1 →
  s.preemptionWanted p = false →
    ∃ t, exec (.preemptionRespond p) s = .next t ∧ t.n 0x6001 2 p = 2)

/-- Timers of sequence recovery. -/
def Obligations.SequenceRecoveryTimers : Prop :=
  (∀ (s : State) (fn : Nat), s.operating = true → s.room 1 → (s.recovery fn).takeAny = false → s.after (s.recovery
  fn).passedAt (nsUnits (1000000 * s.n 0x6600 3 fn)) = true →
    ∃ t, exec (.recoveryResetTimeout fn) s = .next t ∧ t.recovery fn =
    { s.recovery fn with takeAny := true, sequence := 65535, history := [] } ∧ t.obj 0x6601 7 fn = (s.obj 0x6601 7 fn
    + 1) % 18446744073709551616 ∧ s.records t 645 (fn % 256)) ∧
  (∀ (s : State) (fn : Nat), s.operating = true → (s.recovery fn).takeAny = true ∨ s.after (s.recovery fn).passedAt
  (nsUnits (1000000 * s.n 0x6600 3 fn)) = false →
    ∃ t, exec (.recoveryResetTimeout fn) s = .next t ∧ t.recovery fn = s.recovery fn ∧ t.od = s.od) ∧
  (∀ (s : State) (fn : Nat), s.operating = true → s.on 0x6600 5 fn = true → s.after (s.recovery fn).testedAt (nsUnits
  (1000000 * s.n 0x6600 7 fn)) = true → (s.n 0x6600 6 fn : Int) < absI (((s.n 0x6601 1 fn : Int) - (s.recovery
  fn).basePassed) * ((s.n 0x6600 8 fn : Int) - 1) - ((s.n 0x6601 2 fn : Int) - (s.recovery fn).baseDiscarded)) →
  s.staysAsItIs 2 fn = true → s.room 2 →
    ∃ t, exec (.latentErrorTest fn) s = .next t ∧ t.counter (commonsItem 21) = (s.counter (commonsItem 21) + 1) %
    18446744073709551616 ∧ s.records t 646 (fn % 256) ∧ t.recovery fn = { s.recovery fn with testedAt := s.elapsed }) ∧
  (∀ (s : State) (fn : Nat), s.operating = true → s.on 0x6600 5 fn = true → s.after (s.recovery fn).testedAt (nsUnits
  (1000000 * s.n 0x6600 7 fn)) = true → absI (((s.n 0x6601 1 fn : Int) - (s.recovery fn).basePassed) * ((s.n 0x6600 8
  fn : Int) - 1) - ((s.n 0x6601 2 fn : Int) - (s.recovery fn).baseDiscarded)) ≤ (s.n 0x6600 6 fn : Int) →
    ∃ t, exec (.latentErrorTest fn) s = .next t ∧ t.recovery fn = { s.recovery fn with testedAt := s.elapsed } ∧
    t.counters = s.counters ∧ t.events.fifo = s.events.fifo) ∧
  (∀ (s : State) (fn : Nat), s.operating = true → s.on 0x6600 5 fn = true → s.after (s.recovery fn).rebasedAt (nsUnits
  (1000000 * s.n 0x6600 9 fn)) = true →
    ∃ t, exec (.latentReset fn) s = .next t ∧ t.recovery fn =
    { s.recovery fn with basePassed := s.n 0x6601 1 fn, baseDiscarded := s.n 0x6601 2 fn, rebasedAt := s.elapsed } ∧
    t.obj 0x6601 8 fn = (s.obj 0x6601 8 fn + 1) % 18446744073709551616)

/-- The handing-over of host frames, and the calendar of the rate limit. -/
def Obligations.HostFramesReachTheirPort : Prop :=
  (∀ (s : State) (r : Nat) (f : TxFrame) (p : Nat), s.operating = true → s.headFrame r = some f → (s.hostRing true
  r).state = .enabled → s.rateAllows r = true → s.twinHalf = false → s.n 0x8200 1 r = p → p < 256 → s.n 0x8200 2 r < 8
  → s.identRows none f.data (parseFrame f.data) = [] → (((s.frameLaunch f).all fun l => decide (l ≤ s.now + nsUnits
  (s.n 0x8010 1))) = true) → s.tooLong p f.data = false → s.roomFor r f.ident none [p] f.data = true → s.macBusy p →
    ∃ t, exec (.hostFrameHandover r) s = .next t ∧ s.queuedBehind t p (s.n 0x8200 2 r) f.data ∧ t.counter (commonsItem
    0) = (s.counter (commonsItem 0) + 1) % 18446744073709551616 ∧ (t.hostRing true r).waitingRoom = false) ∧
  (∀ (s : State) (r : Nat) (f : TxFrame) (p : Nat), s.operating = true → s.headFrame r = some f → (s.hostRing true
  r).state = .enabled → s.rateAllows r = true → s.twinHalf = false → s.n 0x8200 1 r = p → p < 256 → s.identRows none
  f.data (parseFrame f.data) = [] → (((s.frameLaunch f).all fun l => decide (l ≤ s.now + nsUnits (s.n 0x8010 1))) =
  true) → s.roomFor r f.ident none [p] f.data = false →
    ∃ t, exec (.hostFrameHandover r) s = .next t ∧ (t.hostRing true r).waitingRoom = true ∧ t.traffic = s.traffic) ∧
  (∀ (s : State) (r : Nat) (f : TxFrame), s.operating = true → s.headFrame r = some f → (s.hostRing true r).state =
  .enabled → s.rateAllows r = true → s.twinHalf = false → s.n 0x8200 1 r = 0xFFFF → s.identRows none f.data
  (parseFrame f.data) = [] →
    ∃ t, exec (.hostFrameHandover r) s = .next t ∧ (((t.hostRing true r).frames.all fun g => g.ident != f.ident ||
    (g.phase == .finished && g.status == 4)) = true) ∧ t.counter (commonsItem 23) = (s.counter (commonsItem 23) + 1) %
    18446744073709551616) ∧
  (∀ (s : State) (r : Nat) (f : TxFrame) (p : Nat), s.operating = true → (s.hostRing true r).waitingRoom = true →
  s.headFrame r = some f → (s.hostRing true r).state = .enabled → s.rateAllows r = true → s.twinHalf = false → s.n
  0x8200 1 r = p → p < 256 → s.n 0x8200 2 r < 8 → s.identRows none f.data (parseFrame f.data) = [] → (((s.frameLaunch
  f).all fun l => decide (l ≤ s.now + nsUnits (s.n 0x8010 1))) = true) → s.tooLong p f.data = false → s.roomFor r
  f.ident none [p] f.data = true → s.macBusy p →
    ∃ t, exec (.queueRoom r) s = .next t ∧ s.queuedBehind t p (s.n 0x8200 2 r) f.data ∧ t.counter (commonsItem 0) =
    (s.counter (commonsItem 0) + 1) % 18446744073709551616 ∧ (t.hostRing true r).waitingRoom = false) ∧
  (∀ (s : State) (r : Nat), s.operating = true → (s.ringCredit r).eligible.isSome = true → (s.ringCredit r).laps ≠ 0 →
    ∃ t, exec (.calendarSlot r) s = .next t ∧ t.ringCredit r =
    { s.ringCredit r with laps := (s.ringCredit r).laps - 1 } ∧ t.host = s.host) ∧
  (∀ (s : State) (r : Nat), s.operating = true → (s.ringCredit r).eligible.isSome = true → (s.ringCredit r).laps = 0 →
  0 ≤ s.creditNow r → s.headFrame r = none →
    ∃ t, exec (.calendarSlot r) s = .next t ∧ (t.ringCredit r).eligible = none ∧ (t.ringCredit r).credit = s.creditNow
    r ∧ t.host = s.host)

/-! ## The message layer (chapter 7) -/
/-- The life of a task. -/
def Obligations.TasksStartFinishAndOverrun : Prop :=
  (∀ (s : State) (e i : Nat), s.operating = true → e < 128 → i < 64 → s.on 0x7000 1 = true → s.on 0x7010 1 (8 * e +
  (s.engine e).mode) = true → s.taskCell e (s.engine e).mode i 1 ≠ 0 → s.engineRuns e = true → s.baseReady e (s.engine
  e).mode = true → s.twinHalf = false → (s.engine e).run = none → (s.engine e).result = none →
    ∃ t, exec (.taskStart e i) s = .next t ∧ (((t.engine e).run.map fun x => (x.task, x.mode, x.startedAt, x.writes,
    x.ran)) = some (i, (s.engine e).mode, s.now, [], false)) ∧ (((t.engine e).run.map fun x => x.sources.length) =
    some (s.taskSources e (s.engine e).mode i).length) ∧ t.value ⟨0x7011, e, 1⟩ = 1 ∧ t.n 0x7011 2 e = 64 * (s.engine
    e).mode + i ∧ t.buffers = s.buffers) ∧
  (∀ (s : State) (e i : Nat), s.operating = true → s.engineRuns e = true → s.baseReady e (s.engine e).mode = true →
  s.pastCycle e (s.engine e).mode i = false → (s.engine e).run.isSome = true ∨ (s.engine e).result.isSome = true →
    ∃ t, exec (.taskStart e i) s = .next t ∧ t.engine e = s.engine e ∧ t.buffers = s.buffers) ∧
  (∀ (s : State) (e n : Nat) (r : TaskRun) (w : TaskWrite), e < 128 → s.groveOn (e / 16) = true → (s.engine e).run =
  some r → n ≤ s.taskCell e r.mode r.task 4 → r.ran = true → r.writes = [w] → epKind w.endpoint = 3 → w.whole = true →
  w.keep = false → epOffset w.endpoint % 8 = 0 → epOffset w.endpoint + entrySize true w.value.bytes.length ≤ 65536 →
  w.value.bytes.length ≤ 4096 →
    ∃ t, exec (.taskFinish e n) s = .next t ∧ t.buffers.stores = s.buffers.stores.writeBytes (65536 * (e / 16) +
    epOffset w.endpoint) (entryOf w).1 ∧ (∀ a, a < 65536 * (e / 16) + epOffset w.endpoint ∨ 65536 * (e / 16) +
    epOffset w.endpoint + (entryOf w).1.length ≤ a → t.buffers.stores.read a = s.buffers.stores.read a) ∧ (t.engine
    e).run = none ∧ (t.engine e).result = some ⟨r.task, 0, r.rows, n, s.now, r.startedAt, r.late, r.mode⟩ ∧ t.value
    ⟨0x7011, e, 1⟩ = 2) ∧
  (∀ (s : State) (e n : Nat) (r : TaskRun), e < 128 → s.groveOn (e / 16) = true → (s.engine e).run = some r → r.ran =
  true → n ≤ s.taskCell e r.mode r.task 4 →
    ∃ t, exec (.taskFinish e n) s = .next t ∧ (t.engine e).run = none ∧ (t.engine e).result = some ⟨r.task, 0, r.rows,
    n, s.now, r.startedAt, r.late, r.mode⟩) ∧
  (∀ (s : State) (e : Nat) (r : TaskRun), e < 128 → s.groveOn (e / 16) = true → (s.engine e).run = some r →
    ∃ t, exec (.taskBudgetExceeded e) s = .next t ∧ (t.engine e).run = none ∧ ((t.engine e).result = some ⟨r.task, 1,
    if r.ran then r.rows else 0, s.taskCell e r.mode r.task 4, s.now, r.startedAt, r.late, r.mode⟩) ∧ t.buffers =
    s.buffers ∧ t.value ⟨0x7011, e, 1⟩ = 2) ∧
  (∀ (s : State) (g i : Nat) (x : TaskResult), g < 8 → (((List.range 16).find? fun i => (s.engine (16 * g +
  i)).result.isSome) = some i) → (s.engine (16 * g + i)).result = some x → x.status = 0 → s.taskCell (16 * g + i)
  x.mode x.task 7 = 0 →
    ∃ t, exec (.resultAccept g) s = .next t ∧ (t.engine (16 * g + i)).result = none ∧ t.value ⟨0x7011, 16 * g + i, 1⟩
    = 0 ∧ t.n (0x7180 + 16 * g + i) 7 x.task = 0 ∧ t.counter (commonsItem 54) = (s.counter (commonsItem 54) + 1) %
    18446744073709551616 ∧ t.counter (engineItem (16 * g + i) 1) = (s.counter (engineItem (16 * g + i) 1) + 1) %
    18446744073709551616)

/-- The functions on signals, one row each, REPORT with any number of rows. Where UNPACK reads is a free value (log
entry 46). -/
def Obligations.SignalFunctionsStage : Prop :=
  (∀ (s : State) (e : Nat) (r : TaskRun) (row : Nat) (x : SourceValue) (v : Int), e < 128 → s.groveOn (e / 16) = true
  → (s.engine e).run = some r → r.ran = false → s.taskCell e r.mode r.task 2 = 0 → s.taskRows e r.mode r.task = [row]
  → r.sources = [x] → x.fresh = true → (s.n (0x7200 + e / 16) 4 row).testBit 0 = false → readSignal x (startIn (s.n
  (0x7200 + e / 16) 1 row)) (signalSize (s.n (0x7200 + e / 16) 3 row)) ((s.n (0x7200 + e / 16) 4 row).testBit 1) ((s.n
  (0x7200 + e / 16) 4 row).testBit 3) = some v →
    ∃ t, exec (.route e) s = .next t ∧ (t.engine e).run = some
    { r with ran := true, writes := r.writes ++ [signalWrite (s.n (0x7200 + e / 16) 2 row) x v (signalSize (s.n (0x7200 + e / 16) 3 row)) ((s.n (0x7200 + e / 16) 4 row).testBit 2) ((s.n (0x7200 + e / 16) 4 row).testBit 3) x.base] }
    ∧ t.out = s.out) ∧
  (∀ (s : State) (e : Nat) (r : TaskRun) (row : Nat) (x : SourceValue) (b : Bytes), e < 128 → s.groveOn (e / 16) =
  true → (s.engine e).run = some r → r.ran = false → s.taskCell e r.mode r.task 2 = 0 → s.taskRows e r.mode r.task =
  [row] → r.sources = [x] → x.fresh = true → (s.n (0x7200 + e / 16) 4 row).testBit 0 = true → readPdu x (startIn (s.n
  (0x7200 + e / 16) 1 row)) (s.n (0x7200 + e / 16) 3 row) = some b →
    ∃ t, exec (.route e) s = .next t ∧ (t.engine e).run = some
    { r with ran := true, writes := r.writes ++ [pduWrite (s.n (0x7200 + e / 16) 2 row) 1 x.age 0xFF x.cycle b x.base] }
    ∧ t.out = s.out) ∧
  (∀ (s : State) (e : Nat) (r : TaskRun) (a b : Nat) (x : SourceValue) (v : Int), e < 128 → s.groveOn (e / 16) = true
  → (s.engine e).run = some r → r.ran = false → s.taskCell e r.mode r.task 2 = 1 → s.taskRows e r.mode r.task = [a, b]
  → r.sources = [x] → x.fresh = true → readSignal x (startIn (s.n (0x7200 + e / 16) 1 b)) (signalSize (s.n (0x7200 + e
  / 16) 3 b)) ((s.n (0x7200 + e / 16) 4 b).testBit 1) ((s.n (0x7200 + e / 16) 4 b).testBit 3) = some v → epOffset (s.n
  (0x7200 + e / 16) 2 b) + signalSize (s.n (0x7200 + e / 16) 3 b) ≤ 8 * (slice ((s.engine e).packed.getD (64 * r.mode
  + r.task) []) 0 (s.n (0x7200 + e / 16) 3 a)).length →
    ∃ t, exec (.pack e) s = .next t ∧ (((t.engine e).run.map fun y => (y.writes.drop r.writes.length).map fun w =>
    (w.endpoint, w.whole, w.value.status, w.value.bytes)) = some [(s.n (0x7200 + e / 16) 2 a, true, 1, placeSignal
    ((s.n (0x7200 + e / 16) 4 b).testBit 2) (slice ((s.engine e).packed.getD (64 * r.mode + r.task) []) 0 (s.n (0x7200
    + e / 16) 3 a)) (epOffset (s.n (0x7200 + e / 16) 2 b)) (signalSize (s.n (0x7200 + e / 16) 3 b)) ((saturate
    (signalSize (s.n (0x7200 + e / 16) 3 b)) ((s.n (0x7200 + e / 16) 4 b).testBit 3) v).1 % (2 ^ signalSize (s.n
    (0x7200 + e / 16) 3 b) : Nat)).toNat)]) ∧ t.counter (commonsItem 55) = (s.counter (commonsItem 55) + 1) %
    18446744073709551616) ∧
  (∀ (s : State) (e : Nat) (r : TaskRun) (row : Nat) (x : SourceValue) (v : Int), e < 128 → s.groveOn (e / 16) = true
  → (s.engine e).run = some r → r.ran = false → s.taskCell e r.mode r.task 2 = 2 → s.taskRows e r.mode r.task = [row]
  → r.sources = [x] → x.fresh = true → x.isPdu = false → readSignal x 0 (signalSize (s.n (0x7200 + e / 16) 3 row))
  ((s.n (0x7200 + e / 16) 4 row).testBit 1) ((s.n (0x7200 + e / 16) 4 row).testBit 3) = some v →
    ∃ t, exec (.unpack e) s = .next t ∧ (t.engine e).run = some
    { r with ran := true, writes := r.writes ++ [signalWrite (s.n (0x7200 + e / 16) 2 row) x v (signalSize (s.n (0x7200 + e / 16) 3 row)) ((s.n (0x7200 + e / 16) 4 row).testBit 2) ((s.n (0x7200 + e / 16) 4 row).testBit 3) x.base] }
    ∧ t.out = s.out) ∧
  (∀ (s : State) (e : Nat) (r : TaskRun) (row : Nat) (x : SourceValue) (v : Int), e < 128 → s.groveOn (e / 16) = true
  → (s.engine e).run = some r → r.ran = false → s.taskCell e r.mode r.task 2 = 2 → s.taskRows e r.mode r.task = [row]
  → r.sources = [x] → x.fresh = true → x.isPdu = true → x.verdict = 0xFF → readSignal
  { x with bytes := x.bytes.drop (startIn (s.n (0x7200 + e / 16) 1 row)) } (Config.unpackBit 0 (s.n (0x7200 + e / 16)
  1 row) (s.n (0x7200 + e / 16) 2 row) (s.n (0x7200 + e / 16) 3 row) (s.n (0x7200 + e / 16) 4 row)) (signalSize (s.n
  (0x7200 + e / 16) 3 row)) ((s.n (0x7200 + e / 16) 4 row).testBit 1) ((s.n (0x7200 + e / 16) 4 row).testBit 3) = some
  v →
    ∃ t, exec (.unpack e) s = .next t ∧ (((t.engine e).run.map fun y => (y.writes.drop r.writes.length).map fun w =>
    (w.endpoint, w.bitLength, w.value.bytes)) = some [(s.n (0x7200 + e / 16) 2 row, signalSize (s.n (0x7200 + e / 16)
    3 row), leBytes 8 (unsignedOf 8 v))]) ∧ t.out = s.out) ∧
  (∀ (s : State) (e : Nat) (r : TaskRun) (row : Nat) (x : SourceValue), e < 128 → s.groveOn (e / 16) = true →
  (s.engine e).run = some r → r.ran = false → s.taskCell e r.mode r.task 2 = 5 → s.taskRows e r.mode r.task = [row] →
  r.sources = [x] → x.fresh = true →
    ∃ t, exec (.hold e) s = .next t ∧ (((t.engine e).run.map fun y => (y.writes.drop r.writes.length).map fun w =>
    (w.endpoint, w.value.status, w.value.bytes)) = some [(s.n (0x7220 + e / 16) 2 row, 1, x.bytes)]) ∧ t.events.fifo =
    s.events.fifo) ∧
  (∀ (s : State) (e : Nat) (r : TaskRun) (row : Nat) (x : SourceValue), e < 128 → row < 1024 → s.groveOn (e / 16) =
  true → (s.engine e).run = some r → r.ran = false → s.taskCell e r.mode r.task 2 = 5 → s.taskRows e r.mode r.task =
  [row] → r.sources = [x] → x.fresh = false → x.status = 0 → x.isPdu = false → (s.messages.holds.getD (1024 * (e / 16)
  + row) ⟨[], false, false⟩).isPdu = false → (s.messages.holds.getD (1024 * (e / 16) + row) ⟨[], false,
  false⟩).substituted = false → s.room 1 →
    ∃ t, exec (.hold e) s = .next t ∧ (((t.engine e).run.map fun y => (y.writes.drop r.writes.length).map fun w =>
    (w.endpoint, w.value.status, w.value.bytes)) = some [(s.n (0x7220 + e / 16) 2 row, 3, leBytes 8 (unsignedOf 8
    (s.obj (0x7220 + e / 16) 5 row)))]) ∧ s.records t 707 (e / 16 + 256 * row) ∧ t.counter (commonsItem 46) =
    (s.counter (commonsItem 46) + 1) % 18446744073709551616) ∧
  (∀ (s : State) (e : Nat) (r : TaskRun) (row : Nat) (x : SourceValue), e < 128 → row < 1024 → s.groveOn (e / 16) =
  true → (s.engine e).run = some r → r.ran = false → s.taskCell e r.mode r.task 2 = 5 → s.taskRows e r.mode r.task =
  [row] → r.sources = [x] → x.fresh = false → x.status = 0 → (s.messages.holds.getD (1024 * (e / 16) + row) ⟨[],
  false, false⟩).isPdu = true →
    ∃ t, exec (.hold e) s = .next t ∧ (((t.engine e).run.map fun y => (y.writes.drop r.writes.length).map fun w =>
    (w.endpoint, w.whole, w.value.status, w.value.bytes)) = some [(s.n (0x7220 + e / 16) 2 row, true, 3,
    List.replicate (s.messages.holds.getD (1024 * (e / 16) + row) ⟨[], false, false⟩).bytes.length 0)])) ∧
  (∀ (s : State) (e : Nat) (r : TaskRun), e < 128 → s.groveOn (e / 16) = true → (s.engine e).run = some r → r.ran =
  false → s.taskCell e r.mode r.task 2 = 7 →
    ∃ t, exec (.report e) s = .next t ∧ (((t.engine e).run.map fun y => (y.writes.drop r.writes.length).map fun w =>
    (w.endpoint, w.whole, w.value.bytes.length)) = some [(s.n (0x7240 + e / 16) 1 ((s.taskRows e r.mode r.task).headD
    0), true, 8 + 8 * r.reports.length)]) ∧ t.counter (commonsItem 56) = (s.counter (commonsItem 56) + 1) %
    18446744073709551616)

/-- Protection and transactions, one row each (PDUs that do not hold their fields: log entry 47). -/
def Obligations.ProtectionAndTransactions : Prop :=
  (∀ (s : State) (e : Nat) (r : TaskRun) (row : Nat) (x : SourceValue) (b : Bytes), e < 128 → row < 1024 → s.groveOn
  (e / 16) = true → (s.engine e).run = some r → r.ran = false → s.taskCell e r.mode r.task 2 = 3 → s.taskRows e r.mode
  r.task = [row] → r.sources = [x] → x.fresh = true → (s.protectionRow (e / 16) row).fits = true → readPdu x (startIn
  (s.protectionRow (e / 16) row).source) (s.protectionRow (e / 16) row).length = some b →
    ∃ t, exec (.protect e) s = .next t ∧ (((t.engine e).run.map fun y => (y.writes.drop r.writes.length).map fun w =>
    (w.endpoint, w.whole, w.value.bytes)) = some [((s.protectionRow (e / 16) row).destination, true, (s.protectionRow
    (e / 16) row).protect ((s.messages.protects.getD (1024 * (e / 16) + row) 0 + 1) % 16) b)]) ∧
    t.messages.protects.get? (1024 * (e / 16) + row) = some ((s.messages.protects.getD (1024 * (e / 16) + row) 0 + 1)
    % 16)) ∧
  (∀ (s : State) (e : Nat) (r : TaskRun) (row : Nat) (x : SourceValue) (b : Bytes), e < 128 → row < 1024 → s.groveOn
  (e / 16) = true → (s.engine e).run = some r → r.ran = false → s.taskCell e r.mode r.task 2 = 4 → s.taskRows e r.mode
  r.task = [row] → r.sources = [x] → x.fresh = true → (s.protectionRow (e / 16) row).fits = true → readPdu x (startIn
  (s.protectionRow (e / 16) row).source) (s.protectionRow (e / 16) row).length = some b → beAt b (s.protectionRow (e /
  16) row).crcOffset (s.protectionRow (e / 16) row).crcSize = (s.protectionRow (e / 16) row).crc b →
  (s.messages.checks.getD (1024 * (e / 16) + row) CheckContext.init).started = true → (beAt b (s.protectionRow (e /
  16) row).counterOffset 1 % 16 + 16 - (s.messages.checks.getD (1024 * (e / 16) + row) CheckContext.init).lastCounter)
  % 16 = 1 →
    ∃ t, exec (.check e) s = .next t ∧ (((t.engine e).run.map fun y => (y.writes.drop r.writes.length).map fun w =>
    (w.endpoint, w.value.verdict, w.value.bytes)) = some [((s.protectionRow (e / 16) row).destination, 0, b)]) ∧ t.n
    (0x7218 + e / 16) 1 row = 0 ∧ t.n (0x7218 + e / 16) 2 row = beAt b (s.protectionRow (e / 16) row).counterOffset 1
    % 16 ∧ t.counter (commonsItem 41) = (s.counter (commonsItem 41) + 1) % 18446744073709551616) ∧
  (∀ (s : State) (e : Nat) (r : TaskRun) (row : Nat) (x y : SourceValue), e < 128 → row < 512 → s.groveOn (e / 16) =
  true → (s.engine e).run = some r → r.ran = false → s.taskCell e r.mode r.task 2 = 6 → s.taskRows e r.mode r.task =
  [row] → r.sources = [x, y] → x.fresh = true → (s.messages.transactions.getD (1024 * (e / 16) + row)
  Transaction.init).waiting = false →
    ∃ t, exec (.transact e) s = .next t ∧ (t.messages.transactions.getD (1024 * (e / 16) + row)
    Transaction.init).waiting = true ∧ (t.messages.transactions.getD (1024 * (e / 16) + row) Transaction.init).ident =
    ((s.messages.transactions.getD (1024 * (e / 16) + row) Transaction.init).ident + 1) % 256 ^ s.n (0x7230 + e / 16)
    6 row ∧ (((t.engine e).run.map fun q => ((q.writes.drop r.writes.length).map fun w => (w.endpoint, w.value.bytes),
    q.armed)) = some ([(s.n (0x7230 + e / 16) 2 row, overwrite (pduAt (s.n (0x7230 + e / 16) 1 row) x) (s.n (0x7230 +
    e / 16) 5 row) (beBytes (s.n (0x7230 + e / 16) 6 row) (((s.messages.transactions.getD (1024 * (e / 16) + row)
    Transaction.init).ident + 1) % 256 ^ s.n (0x7230 + e / 16) 6 row)))], (1024 * (e / 16) + row) :: r.armed)) ∧
    t.counter (commonsItem 47) = (s.counter (commonsItem 47) + 1) % 18446744073709551616) ∧
  (∀ (s : State) (e : Nat) (r : TaskRun) (row : Nat) (x y : SourceValue), e < 128 → row < 512 → s.groveOn (e / 16) =
  true → (s.engine e).run = some r → r.ran = false → s.taskCell e r.mode r.task 2 = 6 → s.taskRows e r.mode r.task =
  [row] → r.sources = [x, y] → x.fresh = false → y.fresh = true → (s.messages.transactions.getD (1024 * (e / 16) +
  row) Transaction.init).waiting = true → s.transactionId (e / 16) row (pduAt (s.n (0x7230 + e / 16) 3 row) y) =
  (s.messages.transactions.getD (1024 * (e / 16) + row) Transaction.init).ident → y.arrived ≤
  (s.messages.transactions.getD (1024 * (e / 16) + row) Transaction.init).deadline →
    ∃ t, exec (.transact e) s = .next t ∧ (t.messages.transactions.getD (1024 * (e / 16) + row)
    Transaction.init).waiting = false ∧ (((t.engine e).run.map fun q => (q.writes.drop r.writes.length).map fun w =>
    (w.endpoint, w.value.verdict, w.value.bytes)) = some [(s.n (0x7230 + e / 16) 4 row, 0x20, pduAt (s.n (0x7230 + e /
    16) 3 row) y)]) ∧ t.counter (commonsItem 48) = (s.counter (commonsItem 48) + 1) % 18446744073709551616)

/-! ## Host interface (chapter 8) -/
/-- Doorbells, pushes, fetched entries and buffer data. That a function in D3hot takes no memory request is the
model's choice (log entry 66). -/
def Obligations.RingsTakeEntries : Prop :=
  (∀ (s : State) (tx : Bool) (r pos : Nat), s.power.state = .active ∨ s.power.state = .idle → s.takesMemory
  (s.ringOwner tx r) = true → (s.hostRing tx r).state = .enabled → pos % 65536 < (s.hostRing tx r).size → posDiff
  (s.hostRing tx r).size pos (s.hostRing tx r).tail ≤ (3 * (s.hostRing tx r).size - posDiff (s.hostRing tx r).size
  (s.hostRing tx r).tail (s.hostRing tx r).head) % (2 * (s.hostRing tx r).size) →
    ∃ t, exec (.doorbell tx r pos) s = .next t ∧ (t.hostRing tx r).tail = position17 pos ∧ t.counter (pcieItem 7) =
    (s.counter (pcieItem 7) + 1) % 18446744073709551616 ∧ (t.hostRing tx r).next = (s.hostRing tx r).next) ∧
  (∀ (s : State) (r : Nat) (window : Bytes), s.power.state = .active ∨ s.power.state = .idle → s.takesMemory
  (s.ringOwner true r) = true → (s.hostRing true r).state = .enabled → window.length = 128 → leAt window 24 4 % 131072
  = (s.hostRing true r).tail → posDiff (s.hostRing true r).size (s.hostRing true r).tail (s.hostRing true r).head ≠
  (s.hostRing true r).size → (s.hostRing true r).tail ≠ (s.hostRing true r).next → (((s.hostRing true r).buffers.all
  fun b => b.1 != (s.hostRing true r).next) = true) →
    ∃ t, exec (.push r window true) s = .next t ∧ (t.hostRing true r).tail = posAdd (s.hostRing true r).size
    (s.hostRing true r).tail 1 ∧ (t.hostRing true r).buffers = (s.hostRing true r).buffers ++ [((s.hostRing true
    r).tail, window)] ∧ t.counter (pcieItem 5) = (s.counter (pcieItem 5) + 1) % 18446744073709551616) ∧
  (∀ (s : State) (r : Nat) (window : Bytes), s.power.state = .active → s.takesMemory (s.ringOwner true r) = true →
  (s.hostRing true r).state = .enabled → window.length = 128 → leAt window 24 4 % 131072 = (s.hostRing true r).tail →
  posDiff (s.hostRing true r).size (s.hostRing true r).tail (s.hostRing true r).head ≠ (s.hostRing true r).size →
  (s.hostRing true r).tail = (s.hostRing true r).next → (s.hostRing true r).tail < 131072 → (s.hostRing true r).frames
  = [] → (s.hostRing true r).buffers = [] → entryMark window % 64 = 50 → leAt window 8 2 % 16384 = 0 →
    ∃ t, exec (.push r window true) s = .next t ∧ (t.hostRing true r).tail = posAdd (s.hostRing true r).size
    (s.hostRing true r).tail 1 ∧ (t.hostRing true r).next = posAdd (s.hostRing true r).size (s.hostRing true r).tail 1
    ∧ (((t.hostRing true r).frames.map fun f => (f.entries, f.data, f.phase)) = [([((s.hostRing true r).tail,
    window)], (window.drop 32).take (min 96 (beAt window 28 1)), .ready)]) ∧ t.counter (pcieItem 5) = (s.counter
    (pcieItem 5) + 1) % 18446744073709551616) ∧
  (∀ (s : State) (r pos covered : Nat) (e : Bytes), s.operating = true → (s.hostRing false r).state = .enabled → pos =
  (s.hostRing false r).next → (s.hostRing false r).outstanding ≠ (s.hostRing false r).size → 0 < posDiff (s.hostRing
  false r).size covered pos → posDiff (s.hostRing false r).size covered pos ≤ (s.hostRing false r).size → entryType e
  = 1 → (entryMark e).testBit 6 = false → entryMark e / 128 = 1 - posWrap pos → (((s.hostRing false r).buffers.all fun
  b => entryType b.2 != 3) = true) →
    ∃ t, exec (.entryFetchDone false r pos covered [e]) s = .next t ∧ (t.hostRing false r).buffers = (s.hostRing false
    r).buffers ++ [(pos, e)] ∧ (t.hostRing false r).next = posAdd (s.hostRing false r).size pos 1 ∧ t.counter
    (pcieItem 10) = (s.counter (pcieItem 10) + 1) % 18446744073709551616) ∧
  (∀ (s : State) (r fn pos covered : Nat) (e : Bytes), s.operating = true → s.ringOwner true r = some fn → s.masters
  fn = true → s.host.reads = [] → (s.hostRing true r).state = .enabled → (s.hostRing true r).frames = [] → (s.hostRing
  true r).buffers = [] → pos = (s.hostRing true r).next → (s.hostRing true r).outstanding ≠ (s.hostRing true r).size →
  0 < posDiff (s.hostRing true r).size covered pos → posDiff (s.hostRing true r).size covered pos ≤ (s.hostRing true
  r).size → entryMark e = 48 + 128 * (1 - posWrap pos) → leAt e 8 2 % 16384 ≠ 0 → (requestPieces (s.function
  fn).maxRead (leAt e 8 2 % 16384) (leAt e 0 8) (leAt e 8 2 % 16384)).length ≤ 256 →
    ∃ t, exec (.entryFetchDone true r pos covered [e]) s = .next t ∧ (((t.hostRing true r).frames.map fun f =>
    (f.entries, f.phase)) = [([(pos, e)], .awaitingData)]) ∧ (t.hostRing true r).next = posAdd (s.hostRing true
    r).size pos 1 ∧ (t.out = s.out ++ (requestPieces (s.function fn).maxRead (leAt e 8 2 % 16384) (leAt e 0 8) (leAt e
    8 2 % 16384)).map fun q => .hostRead fn q.1 q.2)) ∧
  (∀ (s : State) (r : Nat) (f : TxFrame) (data : Bytes), s.operating = true → (((s.hostRing true r).frames.find? fun g
  => g.phase == .awaitingData) = some f) →
    ∃ t, exec (.txBufferReadDone r data) s = .next t ∧ ((t.hostRing true r).frames = (s.hostRing true r).frames.map
    fun g => if g.ident = f.ident then { g with data := f.inlineData ++ data, phase := .ready } else g) ∧ t.counter
    (pcieItem 4) = (s.counter (pcieItem 4) + 1) % 18446744073709551616)

/-- Completions, ring states and configuration (D0: log entry 66). -/
def Obligations.RingsCompleteAndDrain : Prop :=
  (∀ (s : State) (r fn : Nat) (f : TxFrame) (rest : List TxFrame) (pos : Nat) (e : Bytes), s.ringOwner true r = some
  fn → s.mayWrite fn = true → 32 ≤ (s.function fn).maxPayload → ((s.hostRing true r).base + 32 * (pos % 65536 %
  (s.hostRing true r).size)) % 4096 ≤ 4064 → s.on 0x8010 3 = false → (s.hostRing true r).undefinedNow = false →
  (s.hostRing true r).frames = f :: rest → f.phase = .finished → ((rest.head?.all fun g => g.phase != .finished) =
  true) → f.entries = [(pos, e)] → entryType e ≠ 3 →
    ∃ t, exec (.txFrameComplete r) s = .next t ∧ t.out = s.out ++ [.hostWrite fn ((s.hostRing true r).base + 32 * (pos
    % 65536 % (s.hostRing true r).size)) (s.txCompletion f e) false] ∧ (t.hostRing true r).frames = rest ∧ (t.hostRing
    true r).head = posAdd (s.hostRing true r).size pos 1 ∧ (t.counter (pcieItem 16) = (s.counter (pcieItem 16) + if
    f.status = 1 then 1 else 0) % 18446744073709551616)) ∧
  (∀ (s : State) (tx : Bool) (r : Nat), (s.hostRing tx r).holdoff ≠ 0 → (((s.hostRing tx r).unannounced.any fun u =>
  s.after u (nsUnits (1000 * (s.hostRing tx r).holdoff))) = true) → r < 4096 → (s.hostRing tx r).head < 131072 →
  s.room 1 →
    ∃ t, exec (.ringHoldoffTimer tx r) s = .next t ∧ (t.hostRing tx r).unannounced = none ∧ (t.hostRing tx
    r).sinceEvent = 0 ∧ s.records t 769 (r + 4096 * (s.hostRing tx r).head)) ∧
  (∀ (s : State) (tx : Bool) (r : Nat), s.power.state = .active ∨ s.power.state = .idle → 5 ≤ s.power.stage →
  s.takesMemory (s.ringOwner tx r) = true → (s.hostRing tx r).state = .disabled → r < 4096 → s.room 1 →
    ∃ t, exec (.queueEnable tx r) s = .next t ∧ (t.hostRing tx r).state = .enabled ∧ (t.hostRing tx r).enableBit =
    true ∧ (t.hostRing tx r).next = (s.hostRing tx r).head ∧ s.records t 771 (r + 4096)) ∧
  (∀ (s : State) (tx : Bool) (r : Nat), s.power.state = .active ∨ s.power.state = .idle → 5 ≤ s.power.stage →
  s.takesMemory (s.ringOwner tx r) = true → (s.hostRing tx r).state = .enabled → r < 4096 → s.room 1 →
    ∃ t, exec (.queueDisable tx r) s = .next t ∧ (t.hostRing tx r).state = .draining ∧ (t.hostRing tx r).enableBit =
    false ∧ (t.hostRing tx r).buffers = [] ∧ s.records t 771 (r + 8192)) ∧
  (∀ (s : State) (tx : Bool) (r : Nat), (s.hostRing tx r).state = .draining → (s.hostRing tx r).frames = [] →
  (s.hostRing tx r).buffers = [] → s.room 1 → r < 4096 →
    ∃ t, exec (.drainComplete tx r) s = .next t ∧ (t.hostRing tx r).state = .disabled ∧ (t.hostRing tx r).tail =
    (s.hostRing tx r).head ∧ (t.hostRing tx r).undefinedNow = false ∧ s.records t 771 r) ∧
  (∀ (s : State) (tx : Bool) (r : Nat), (s.hostRing tx r).state = .drainingReenable → (s.hostRing tx r).frames = [] →
  (s.hostRing tx r).buffers = [] → s.room 1 → r < 4096 →
    ∃ t, exec (.drainComplete tx r) s = .next t ∧ (t.hostRing tx r).state = .enabled ∧ (t.hostRing tx r).tail =
    (s.hostRing tx r).head ∧ s.records t 771 (r + 4096)) ∧
  (∀ (s : State) (tx : Bool) (r v : Nat), s.power.state = .active ∨ s.power.state = .idle → s.takesMemory (s.ringOwner
  tx r) = true → (s.hostRing tx r).state = .disabled →
    ∃ t, exec (.queueConfigWrite tx r 8 v) s = .next t ∧ (t.hostRing tx r).logSize = min 16 (max 4 (v % 32)) ∧
    (t.hostRing tx r).eager = v.testBit 8 ∧ (t.hostRing tx r).head = 0 ∧ (t.hostRing tx r).tail = 0 ∧ (t.hostRing tx
    r).base = (s.hostRing tx r).base) ∧
  (∀ (s : State) (tx : Bool) (r v : Nat), s.power.state = .active ∨ s.power.state = .idle → s.takesMemory (s.ringOwner
  tx r) = true → (s.hostRing tx r).state = .disabled →
    ∃ t, exec (.queueConfigWrite tx r 0 v) s = .next t ∧ (t.hostRing tx r).base = (s.hostRing tx r).base / 4294967296
    * 4294967296 + v % 4294967296 / 64 * 64 ∧ (t.hostRing tx r).head = 0 ∧ (t.hostRing tx r).tail = 0) ∧
  (∀ (s : State) (tx : Bool) (r v : Nat), s.power.state = .active ∨ s.power.state = .idle → s.takesMemory (s.ringOwner
  tx r) = true → (s.hostRing tx r).state = .disabled →
    ∃ t, exec (.queueConfigWrite tx r 4 v) s = .next t ∧ (t.hostRing tx r).base = (s.hostRing tx r).base % 4294967296
    + v % 4294967296 * 4294967296 ∧ (t.hostRing tx r).head = (s.hostRing tx r).head)

/-- Resets, enables and DMA errors of functions. -/
def Obligations.FunctionsResetAndStop : Prop :=
  (∀ (s : State) (fn : Nat) (tx : Bool) (r : Nat), s.power.state = .active ∨ s.power.state = .idle → s.ringOwner tx r
  = some fn → s.room (4 + s.host.tx.length + s.host.rx.length) →
    ∃ t, exec (.functionLevelReset fn) s = .next t ∧ t.function fn = Function.init ∧ (t.hostRing tx r).state =
    .disabled ∧ t.on 0x8101 1 fn = false ∧ t.counter (pcieItem 42) = (s.counter (pcieItem 42) + 1) %
    18446744073709551616 ∧ s.records t 779 fn) ∧
  (∀ (s : State) (fn : Nat), s.power.state = .active ∨ s.power.state = .idle → fn < 256 → s.room 1 →
    ∃ t, exec (.busMasterChanged fn true) s = .next t ∧ (t.function fn).busMaster = true ∧ (t.function
    fn).writesStopped = false ∧ t.on 0x8101 1 fn = true ∧ s.records t 781 (fn + 256)) ∧
  (∀ (s : State) (fn : Nat) (tx : Bool) (r : Nat), s.power.state = .active ∨ s.power.state = .idle → fn < 256 →
  s.ringOwner tx r = some fn → s.room (1 + s.host.tx.length + s.host.rx.length) →
    ∃ t, exec (.busMasterChanged fn false) s = .next t ∧ (t.function fn).busMaster = false ∧ (t.hostRing tx r).state =
    .disabled ∧ t.on 0x8101 1 fn = false ∧ s.records t 781 fn) ∧
  (∀ (s : State) (n : Nat), s.power.state = .active ∨ s.power.state = .idle → s.room 1 →
    ∃ t, exec (.vfEnableChanged true n) s = .next t ∧ t.host.numVfs = min n 64 ∧ t.host.vfEnable = true ∧ t.on 0x8101
    2 65 = decide (64 ≤ n) ∧ s.records t 780 (min n 64)) ∧
  (∀ (s : State) (n : Nat), s.power.state = .active ∨ s.power.state = .idle → s.room (1 + s.host.tx.length +
  s.host.rx.length) →
    ∃ t, exec (.vfEnableChanged false n) s = .next t ∧ t.host.numVfs = 0 ∧ t.host.vfEnable = false ∧ t.on 0x8101 2 65
    = false ∧ s.records t 780 0) ∧
  (∀ (s : State) (tx : Bool) (r fn : Nat), s.ringOwner tx r = some fn → s.staysAsItIs 18 fn = true → r < 4096 → s.room
  2 →
    ∃ t, exec (.dmaReadError tx r) s = .next t ∧ t.counter (pcieItem 36) = (s.counter (pcieItem 36) + 1) %
    18446744073709551616 ∧ (t.hostRing tx r).flags = (s.hostRing tx r).flags ||| 0x1000 ∧ ((t.hostRing tx r).state =
    (if (s.hostRing tx r).state = .disabled then .disabled else .draining)) ∧ s.records t 782 r) ∧
  (∀ (s : State) (fn : Nat), s.staysAsItIs 18 fn = true → fn < 4096 → s.room 2 →
    ∃ t, exec (.dmaWriteError fn) s = .next t ∧ (t.function fn).writesStopped = true ∧ t.counter (pcieItem 37) =
    (s.counter (pcieItem 37) + 1) % 18446744073709551616 ∧ s.records t 783 fn)

/-- Event queues, MSI-X, the clock page and registers (D0: log entry 66). -/
def Obligations.EventQueuesAndVectors : Prop :=
  (∀ (s : State) (q hd : Nat), s.power.state = .active ∨ s.power.state = .idle → s.takesMemory (s.queueOwner q) = true
  →
    ∃ t, exec (.eqHeadWrite q hd false) s = .next t ∧ t.queue q = { s.queue q with head := position17 hd } ∧ t.out =
    s.out) ∧
  (∀ (s : State) (q hd fn : Nat), s.power.state = .active ∨ s.power.state = .idle → s.queueOwner q = some fn →
  s.takesMemory (some fn) = true → (s.queue q).tail ≠ position17 hd → s.msixLeaves (s.n 0x8100 7 fn + (s.queue
  q).vector) = true →
    ∃ t, exec (.eqHeadWrite q hd true) s = .next t ∧ (t.queue q).head = position17 hd ∧ (t.queue q).armed = false ∧
    t.out = s.out ++ [.msix (s.n 0x8100 7 fn + (s.queue q).vector)] ∧ t.counter (pcieItem 33) = (s.counter (pcieItem
    33) + 1) % 18446744073709551616) ∧
  (∀ (s : State) (q : Nat), s.power.state = .active ∨ s.power.state = .idle → s.takesMemory (s.queueOwner q) = true →
  (s.queue q).enabled = false →
    ∃ t, exec (.eqEnable q) s = .next t ∧ t.queue q =
    { s.queue q with enabled := true, head := 0, tail := 0, unsignalled := 0 }) ∧
  (∀ (s : State) (q fn : Nat), (s.queue q).armed = true → (s.queue q).holdoff ≠ 0 → (s.queue q).unsignalled ≠ 0 →
  s.after (s.queue q).firstAt (nsUnits (100 * (s.queue q).holdoff)) = true → s.queueOwner q = some fn →
    ∃ t, exec (.eqHoldoffTimer q) s = .next t ∧ t.queue q = { s.queue q with armed := false, unsignalled := 0 } ∧
    (t.out = s.out ++ (if s.msixLeaves (s.n 0x8100 7 fn + (s.queue q).vector) then [.msix (s.n 0x8100 7 fn + (s.queue
    q).vector)] else [])) ∧ (t.vector (s.n 0x8100 7 fn + (s.queue q).vector)).waiting = ((s.vector (s.n 0x8100 7 fn +
    (s.queue q).vector)).masked || (s.vector (s.n 0x8100 7 fn + (s.queue q).vector)).waiting) ∧ t.obj 0x8221 4 q =
    (s.obj 0x8221 4 q + 1) % 18446744073709551616) ∧
  (∀ (s : State) (v : Nat), s.power.state = .active ∨ s.power.state = .idle → s.takesMemory (s.owner 7 v) = true →
    ∃ t, exec (.msixUnmask v) s = .next t ∧ t.vector v = { s.vector v with masked := false, waiting := false } ∧
    (t.out = s.out ++ (if (s.vector v).waiting && (s.owner 7 v).any s.mayWrite then [.msix v] else []))) ∧
  (∀ (s : State) (fn : Nat), s.power.state = .active ∨ s.power.state = .idle → (s.function fn).d3hot = false →
    ∃ t, exec (.clockPageRead fn) s = .next t ∧ t.function fn =
    { s.function fn with clockLatch := [s.clock.sec % 4294967296, s.clock.sec / 4294967296, s.clock.frac / 4294967296, s.cycle % 4294967296, s.cycle / 4294967296, s.clockState] }
    ∧ t.out = s.out ++ [.readCompletion fn 0x1000 s.clock.ns] ∧ t.clock = s.clock) ∧
  (∀ (s : State) (fn : Nat) (v : Bytes), s.power.state = .active ∨ s.power.state = .idle → fn < 66 → (s.function
  fn).d3hot = false → v.length = 4 →
    ∃ t, exec (.registerWrite fn 0x20 v) s = .next t ∧ t.function fn =
    { s.function fn with markBase := (s.function fn).markBase / 4294967296 * 4294967296 + ofLe v / 512 * 512 } ∧
    t.host.tx = s.host.tx) ∧
  (∀ (s : State) (o : Nat) (v : Bytes), s.power.state = .active ∨ s.power.state = .idle → (s.function 0).d3hot = false
  → o < 4096 →
    ∃ t, exec (.registerWrite 0 (0x3000 + o) v) s = .next t ∧ t.buffers =
    { s.buffers with mailboxRequest := s.buffers.mailboxRequest.writeBytes o (v.take (4096 - o)) } ∧ t.od = s.od ∧ (∀
    a, a < o ∨ o + v.length ≤ a → t.buffers.mailboxRequest.read a = s.buffers.mailboxRequest.read a)) ∧
  (∀ (s : State) (o : Nat) (v : Bytes), s.power.state = .active ∨ s.power.state = .idle → (s.function 0).d3hot = false
  → o < 12288 →
    ∃ t, exec (.registerWrite 0 (0x9000 + o) v) s = .next t ∧ t.buffers =
    { s.buffers with kilnRequest := s.buffers.kilnRequest.writeBytes o (v.take (12288 - o)) } ∧ t.kiln = s.kiln ∧ (∀
    a, a < o ∨ o + v.length ≤ a → t.buffers.kilnRequest.read a = s.buffers.kilnRequest.read a)) ∧
  (∀ (s : State) (fn i : Nat) (v : Bytes), s.power.state = .active ∨ s.power.state = .idle → fn < 66 → (s.function
  fn).d3hot = false → i < 4096 → i < s.n 0x8100 2 fn → v.length = 4 →
    ∃ t, exec (.registerWrite fn (0x20000 + 64 * i + 0x18) v) s = .next t ∧ s.hostRing true (s.n 0x8100 1 fn + i) =
    { t.hostRing true (s.n 0x8100 1 fn + i) with every := (s.hostRing true (s.n 0x8100 1 fn + i)).every, holdoff := (s.hostRing true (s.n 0x8100 1 fn + i)).holdoff }
    ∧ (t.hostRing true (s.n 0x8100 1 fn + i)).every = ofLe v % 65536 ∧ (t.hostRing true (s.n 0x8100 1 fn + i)).holdoff
    = ofLe v / 65536) ∧
  (∀ (s : State) (fn o : Nat) (v : Bytes), s.power.state = .active ∨ s.power.state = .idle → o < 0x2000 → o % 4 ≠ 0 ∨
  v.length ≠ 4 →
    ∃ t, exec (.registerWrite fn o v) s = .next t ∧ t.host = s.host ∧ t.od = s.od)

/-- PCIe links, errors, PERST, and cycle points. -/
def Obligations.LinksPerstAndMarkers : Prop :=
  (∀ (s : State) (link speed width : Nat), s.power.state = .active ∨ s.power.state = .idle → link = 0 ∨ (link = 1 ∧
  s.power.pcieMode = true) → speed ≠ 0 → trainedWidth s.power.pcieMode width ≠ 0 → s.room 1 →
    ∃ t, exec (.pcieLinkChanged link speed width) s = .next t ∧ t.n 0x8000 (2 + 2 * link) = min speed (s.n 0x8000 6) ∧
    t.n 0x8000 (3 + 2 * link) = trainedWidth s.power.pcieMode width ∧ ((if link = 0 then t.host.linkUpA else
    t.host.linkUpB) = true) ∧ t.pins.pewakenLow = false ∧ s.records t 777 (link + 256 * (min speed (s.n 0x8000 6) %
    256) + 65536 * trainedWidth s.power.pcieMode width)) ∧
  (∀ (s : State) (link width : Nat), s.power.state = .active ∨ s.power.state = .idle → link = 0 ∨ (link = 1 ∧
  s.power.pcieMode = true) → s.room 1 →
    ∃ t, exec (.pcieLinkChanged link 0 width) s = .next t ∧ t.n 0x8000 (2 + 2 * link) = 0 ∧ t.n 0x8000 (3 + 2 * link)
    = 0 ∧ ((if link = 0 then t.host.linkUpA else t.host.linkUpB) = false) ∧ s.records t 777 link) ∧
  (∀ (s : State) (speed width : Nat), s.power.state = .active ∨ s.power.state = .idle → s.power.pcieMode = false →
    ∃ t, exec (.pcieLinkChanged 1 speed width) s = .next t ∧ t.host = s.host ∧ t.od = s.od) ∧
  (∀ (s : State) (link status : Nat) (k : Bool), s.power.state = .active ∨ s.power.state = .idle → link < 2 → status <
  8388608 → s.room 1 →
    ∃ t, exec (.pcieErrorReported link status k) s = .next t ∧ (t.counter (pcieItem (if k then 38 else 39)) =
    (s.counter (pcieItem (if k then 38 else 39)) + 1) % 18446744073709551616) ∧ s.records t 778 (link + 256 * status)) ∧
  (∀ (s : State), s.power.state = .active ∨ s.power.state = .idle → s.power.pcieMode = false → s.room (70 +
  s.host.tx.length + s.host.rx.length) →
    ∃ t, exec (.perst 0) s = .next t ∧ t.function 0 = Function.init ∧ t.function 65 = Function.init ∧ t.host.linkUpA =
    false ∧ t.host.numVfs = 0 ∧ t.n 0x8000 2 = 0 ∧ s.records t 777 0) ∧
  (∀ (s : State) (point fn : Nat), s.operating = true → point < 16 → s.ringState ≠ 0 → s.on 0x4140 1 (16 * s.mode +
  point) = true → s.n 0x4140 3 (16 * s.mode + point) = 3 → s.n 0x8400 0 = fn → fn ≠ 0xFF → (s.function fn).markBase ≠
  0 → (s.function fn).busMaster = true → s.room 1 →
    ∃ t, exec (.cyclePoint point) s = .next t ∧ s.records t (576 + point) 0 ∧ t.counter (pcieItem 34) = (s.counter
    (pcieItem 34) + 1) % 18446744073709551616) ∧
  (∀ (s : State) (point : Nat), s.operating = true → point < 16 → s.ringState ≠ 0 → s.on 0x4140 1 (16 * s.mode +
  point) = true → s.n 0x4140 3 (16 * s.mode + point) = 1 → s.room 1 →
    ∃ t, exec (.cyclePoint point) s = .next t ∧ s.records t (576 + point) 0 ∧ t.out = s.out)

/-- Host images and host messages. -/
def Obligations.HostImagesAndMessages : Prop :=
  (∀ (s : State) (i : Nat), s.operating = true → s.imageIs i 0 = true → (s.image i).writing = none → s.imageReachable
  i = true → 8 ≤ (s.function (s.n 0x7400 3 i)).maxPayload → s.imageBase i % 4096 ≤ 4088 →
    ∃ t, exec (.inboundImageSnapshot i) s = .next t ∧ t.image i = { s.image i with writing := some s.cycle } ∧ (t.out
    = s.out ++ [.hostWrite (s.n 0x7400 3 i) (s.imageBase i) (leBytes 8 s.cycle) false] ++ (requestPieces (s.function
    (s.n 0x7400 3 i)).maxPayload (s.n 0x7400 4 i - 16) (s.imageBase i + 8) (s.n 0x7400 4 i - 16)).map fun q =>
    .hostWrite (s.n 0x7400 3 i) q.1 (slice (s.buffers.inbound.readBytes (65536 * i + 8) (s.n 0x7400 4 i - 16)) (q.1 -
    (s.imageBase i + 8)) q.2) false)) ∧
  (∀ (s : State) (i n : Nat), (s.image i).writing = some n →
    ∃ t, exec (.inboundImageWriteDone i) s = .next t ∧ t.image i = { s.image i with writing := none } ∧ t.n 0x7401 1 i
    = n ∧ t.obj 0x7401 2 i = (s.obj 0x7401 2 i + 1) % 4294967296) ∧
  (∀ (s : State) (i n : Nat), (s.image i).writing = some n → s.mayWrite (s.n 0x7400 3 i) = true → 8 ≤ (s.function (s.n
  0x7400 3 i)).maxPayload → (s.imageBase i + s.n 0x7400 4 i - 8) % 4096 ≤ 4088 →
    ∃ t, exec (.inboundImageWriteDone i) s = .next t ∧ t.out = s.out ++ [.hostWrite (s.n 0x7400 3 i) (s.imageBase i +
    s.n 0x7400 4 i - 8) (leBytes 8 n) false]) ∧
  (∀ (s : State) (i : Nat), s.operating = true → s.imageIs i 1 = true → s.on 0x4140 1 (16 * s.mode + s.n 0x7400 6 i) =
  true → (s.image i).reading = false → s.imageReachable i = true →
    ∃ t, exec (.outboundImageRead i) s = .next t ∧ t.image i = { s.image i with reading := true } ∧ t.counter
    (commonsItem 34) = (s.counter (commonsItem 34) + 1) % 18446744073709551616) ∧
  (∀ (s : State) (i : Nat), s.operating = true → s.imageIs i 1 = true → s.on 0x4140 1 (16 * s.mode + s.n 0x7400 6 i) =
  true → (s.image i).reading = false → s.imageReachable i = true → s.host.reads = [] → 8 ≤ (s.function (s.n 0x7400 3
  i)).maxRead → (s.imageBase i + s.n 0x7400 4 i - 8) % 4096 ≤ 4088 →
    ∃ t, exec (.outboundImageRead i) s = .next t ∧ t.out = s.out ++ [.hostRead (s.n 0x7400 3 i) (s.imageBase i + s.n
    0x7400 4 i - 8) 8]) ∧
  (∀ (s : State) (i n : Nat) (entries : Bytes), s.imageIs i 1 = true → (s.image i).reading = true → s.twinHalf = false
  → (s.image i).lastStamp ≠ some n →
    ∃ t, exec (.outboundImageReadDone i n entries n) s = .next t ∧ (t.image i).reading = false ∧ (t.image i).lastStamp
    = some n ∧ t.n 0x7401 1 i = n ∧ t.obj 0x7401 2 i = (s.obj 0x7401 2 i + 1) % 4294967296 ∧ t.buffers.outbound =
    s.buffers.outbound.writeBytes (65536 * i + 8) (slice entries 0 (s.n 0x7400 4 i - 16))) ∧
  (∀ (s : State) (ch : Nat) (m : Bytes), s.operating = true → ch < 64 → s.channelJoins ch (s.n 0x7410 3 ch) = true →
  16 ≤ m.length → leAt m 2 2 + 16 = m.length → leAt m 2 2 ≤ 4096 → s.twinHalf = false →
    ∃ t, exec (.hostMessageReceived ch m) s = .next t ∧ (((t.messages.received.get? (65536 * ch + leAt m 4 2)).map fun
    x => (x.kind, x.body)) = some (leAt m 0 1, m.drop 16)) ∧ t.obj 0x7411 1 ch = (s.obj 0x7411 1 ch + 1) %
    18446744073709551616 ∧ t.counter (commonsItem 38) = (s.counter (commonsItem 38) + 1) % 18446744073709551616)

/-! ## Stacks and twins (chapter 9) -/
/-- Stack ports, members, Alignment and views (the floor of the delay: log entry 13; how the master sees a member's
clock LOCKED: log entry 52). -/
def Obligations.StackMembersJoinAndLeave : Prop :=
  (∀ (s : State) (port : Nat), s.operating = true → port < 2 → s.stackRuns = true → s.on 0x9001 1 port = true → s.on
  0x9002 1 port = false → s.noSa (256 + port) = false → s.room 5 →
    ∃ t, exec (.stackLinkUp port) s = .next t ∧ t.on 0x9002 1 port = true ∧ t.stackPort port =
    { StackPort.init with helloAt := some s.elapsed } ∧ t.out = s.out ++ [.stack port (s.stackFrame port 0x06
    (s.helloBody 0))] ∧ s.records t 849 port) ∧
  (∀ (s : State) (port : Nat), s.operating = true → port < 2 → s.on 0x9002 1 port = true → s.twin.relayTags = [] →
  s.staysAsItIs 19 port = true → s.room 5 →
    ∃ t, exec (.stackLinkDown port) s = .next t ∧ t.on 0x9002 1 port = false ∧ (t.stackPort port).accepted = false ∧
    (t.stackPort port).downAt = s.elapsed ∧ t.counter (twinItem 29) = (s.counter (twinItem 29) + 1) %
    18446744073709551616 ∧ s.records t 850 port) ∧
  (∀ (s : State) (port k mac tag m : Nat), s.operating = true → port < 2 → s.on 0x9002 1 port = true → port =
  s.portToward → s.twin.relayTags = [(k, ⟨none, mac, tag, m⟩)] → s.od.mailbox.busy = true → s.staysAsItIs 19 port =
  true → s.room 6 →
    ∃ t, exec (.stackLinkDown port) s = .next t ∧ t.twin.relayTags = [] ∧ t.od.mailbox =
    { s.od.mailbox with busy := false, done := true, msgStatus := stBusy } ∧ t.buffers.mailboxResponse =
    Memory.writeBytes [] 0 (messageHead false 2 tag stBusy 0) ∧ s.records t 850 port) ∧
  (∀ (s : State) (port : Nat), s.operating = true → s.stackCarries port = true → s.helloDue port = true →
    ∃ t, exec (.stackHelloTimer port) s = .next t ∧ t.out = s.out ++ [.stack port (s.stackFrame port 0x06 (s.helloBody
    0))] ∧ (t.stackPort port).helloAt = some s.elapsed ∧ t.counter (twinItem 26) = (s.counter (twinItem 26) + 1) %
    18446744073709551616) ∧
  (∀ (s : State) (port e : Nat) (b : Bytes), s.operating = true → s.stackCarries port = true → s.stackMaster = true →
  b.length = 24 → beAt b 0 8 ≠ s.nodeName → beAt b 8 1 = 1 → 1 ≤ beAt b 9 1 → beAt b 9 1 ≤ 3 → beAt b 11 1 % 4 = 0 →
  s.n 0x9011 2 (beAt b 9 1) = 0 →
    ∃ t, exec (.stackHello port (twinMessage 0x06 e b)) s = .next t ∧ t.n 0x9011 2 (beAt b 9 1) = beAt b 0 8 ∧
    (t.stackPort port).accepted = true ∧ t.n 0x9000 2 = s.n 0x9000 2 ∧ t.n 0x9002 2 port = beAt b 9 1 ∧ t.n 0x9002 3
    port = beAt b 0 8 ∧ t.out = s.out ++ [.stack port (s.stackFrame port 0x06 (s.helloBody 1))]) ∧
  (∀ (s : State) (port e : Nat) (b : Bytes), s.operating = true → s.stackCarries port = true → s.stackMaster = true →
  b.length = 24 → beAt b 0 8 ≠ s.nodeName → beAt b 8 1 ≠ 1 ∨ beAt b 9 1 = 0 ∨ 3 < beAt b 9 1 → beAt b 11 1 % 4 = 0 →
    ∃ t, exec (.stackHello port (twinMessage 0x06 e b)) s = .next t ∧ (t.stackPort port).accepted = (s.stackPort
    port).accepted ∧ t.n 0x9000 2 = s.n 0x9000 2 ∧ t.out = s.out ++ [.stack port (s.stackFrame port 0x06 (s.helloBody
    2))]) ∧
  (∀ (s : State) (port e : Nat) (b : Bytes), s.operating = true → s.stackCarries port = true → s.stackMaster = true →
  b.length = 24 → beAt b 0 8 ≠ s.nodeName → beAt b 8 1 = 1 → 1 ≤ beAt b 9 1 → beAt b 9 1 ≤ 3 → beAt b 11 1 % 4 = 0 →
  s.n 0x9011 2 (beAt b 9 1) ≠ 0 → s.n 0x9011 2 (beAt b 9 1) ≠ beAt b 0 8 → s.room 5 →
    ∃ t, exec (.stackHello port (twinMessage 0x06 e b)) s = .next t ∧ t.n 0x9011 2 (beAt b 9 1) = s.n 0x9011 2 (beAt b
    9 1) ∧ s.records t 853 (beAt b 9 1) ∧ t.out = s.out ++ [.stack port (s.stackFrame port 0x06 (s.helloBody 2))]) ∧
  (∀ (s : State), s.operating = true → s.n 0x9000 1 = 1 → s.stackCarries 0 = true → (s.stackPort 0).accepted = true →
  (((s.stackPort 0).alignedAt.all fun u => s.after u (nsUnits 50000)) = true) → (s.stackPort 1).accepted = false →
    ∃ t, exec .alignmentTimer s = .next t ∧ t.out = s.out ++ [.alignment 0 (((s.stackPort 0).arrivedAt : Int) -
    (s.stackPort 0).sentAt) ((s.now : Int) - (s.stackPort 0).arrivedAt) s.now] ∧ (t.stackPort 0).sentAt = s.now ∧
    (t.stackPort 0).alignedAt = some s.elapsed) ∧
  (∀ (s : State), s.operating = true → s.n 0x9000 1 = 1 → s.stackCarries 1 = true → (s.stackPort 1).accepted = true →
  (((s.stackPort 1).alignedAt.all fun u => s.after u (nsUnits 50000)) = true) →
    ∃ t, exec .alignmentTimer s = .next t ∧ [.alignment 1 (((s.stackPort 1).arrivedAt : Int) - (s.stackPort 1).sentAt)
    ((s.now : Int) - (s.stackPort 1).arrivedAt) s.now] <:+ t.out ∧ (t.stackPort 1).sentAt = s.now ∧ (t.stackPort
    1).alignedAt = some s.elapsed) ∧
  (∀ (s : State) (port : Nat) (loop turn : Int) (origin stamp m : Nat), s.operating = true → s.stackCarries port =
  true → s.stackMaster = true → (s.stackPort port).accepted = true → s.joining = [m] → absI ((stamp : Int) - (origin +
  divFloor (loop - turn) 2)) ≤ nsUnits (s.n 0x3110 3) → s.n 0x3110 2 ≤ (s.stackPort port).lockRun + 1 → s.room 5 →
    ∃ t, exec (.alignment port loop turn origin stamp) s = .next t ∧ t.memberPresent m = true ∧ t.on 0x9011 1 m = true
    ∧ (t.stackPort port).arrivedAt = stamp ∧ s.records t 851 m) ∧
  (∀ (s : State) (port : Nat) (loop turn : Int) (origin stamp : Nat), s.operating = true → s.stackCarries port = true
  → s.stackMaster = true → (s.stackPort port).accepted = true → nsUnits (s.n 0x3110 3) < absI ((stamp : Int) - (origin
  + divFloor (loop - turn) 2)) ∨ (s.stackPort port).lockRun + 1 < s.n 0x3110 2 → 0 < s.n 0x3110 2 →
    ∃ t, exec (.alignment port loop turn origin stamp) s = .next t ∧ t.n 0x9000 2 = s.n 0x9000 2 ∧ ((t.stackPort
    port).lockRun = (if absI ((stamp : Int) - (origin + divFloor (loop - turn) 2)) ≤ nsUnits (s.n 0x3110 3) then
    (s.stackPort port).lockRun + 1 else 0)) ∧ (t.stackPort port).arrivedAt = stamp) ∧
  (∀ (s : State) (loop turn : Int) (origin stamp : Nat), s.operating = true → s.stackCarries s.portUp = true →
  s.stackMember = true → s.time.stackSeeded = false →
    ∃ t, exec (.alignment s.portUp loop turn origin stamp) s = .next t ∧ t.obj 0x3300 2 = divFloor (loop - turn) 2 ∧
    t.obj 0x3300 1 = (stamp : Int) - ((origin : Int) + divFloor (loop - turn) 2).toNat ∧ t.time.stackSeeded = true) ∧
  (∀ (s : State) (m : Nat), s.operating = true → s.stackMaster = true → 1 ≤ m → m ≤ 3 → s.memberPresent m = true →
  s.linkLost m = true → s.twin.relayTags = [] → s.room 5 →
    ∃ t, exec (.stackMemberLost m) s = .next t ∧ t.memberPresent m = false ∧ t.n 0x9011 2 m = 0 ∧ s.records t 852 m) ∧
  (∀ (s : State) (m k mac tag : Nat), s.operating = true → s.stackMaster = true → 1 ≤ m → m ≤ 3 → s.memberPresent m =
  true → s.linkLost m = true → s.twin.relayTags = [(k, ⟨none, mac, tag, m⟩)] → s.od.mailbox.busy = true → s.room 6 →
    ∃ t, exec (.stackMemberLost m) s = .next t ∧ t.memberPresent m = false ∧ t.twin.relayTags = [] ∧ t.od.mailbox =
    { s.od.mailbox with busy := false, done := true, msgStatus := stBusy } ∧ s.records t 852 m) ∧
  (∀ (s : State) (port : Nat) (v : ViewData) (r : SecRow), s.operating = true → s.stackMember = true → s.stackCarries
  port = true → s.stackCarries (1 - port) = true → (((s.sections s.mode).find? fun r => r.row == v.row && r.id <
  0xF00) = some r) → s.n 0x4130 1 (1024 * s.mode + r.row) ≠ 0 →
    ∃ t, exec (.viewForward ⟨port, false, [v]⟩) s = .next t ∧ (((t.twin.memberViews.get? r.id).map fun x => (x.value,
    x.age, x.hash, x.status)) = some (v.value, v.age, v.hash, v.status)) ∧ t.ring = s.ring ∧ t.out = s.out ++ [.views
    (1 - port) false [v]]) ∧
  (∀ (s : State) (port : Nat) (v : ViewData) (r : SecRow), s.operating = true → s.stackMaster = true → s.stackCarries
  port = true → (((s.sections s.mode).find? fun r => r.row == v.row && r.id < 0xF00 && r.owner == s.nodeName) = some
  r) →
    ∃ t, exec (.viewForward ⟨port, true, [v]⟩) s = .next t ∧ t.ring.outBuffers.get? r.id = some ⟨slice v.value 0
    r.length, true, none⟩ ∧ t.out = s.out) ∧
  (∀ (s : State) (port : Nat) (l : List ViewData), s.operating = true → s.stackMember = true → s.stackCarries port =
  true → s.stackCarries (1 - port) = true →
    ∃ t, exec (.viewForward ⟨port, true, l⟩) s = .next t ∧ t.out = s.out ++ [.views (1 - port) true l] ∧ t.ring =
    s.ring)

/-- StepRecords and Mirror messages. -/
def Obligations.TwinStepsAndMirrors : Prop :=
  (∀ (s : State), s.operating = true → s.twinHalf = true → s.stackCarries s.twinPort = true → s.twin.sentRecord ≠ some
  s.recordCycle → ((s.twin.shadowChecks.all fun k => decide (s.now < k.due)) = true) → s.twinState ≠ twStandby ∨
  s.twin.peerDigests = none →
    ∃ t, exec .stepRecordSend s = .next t ∧ t.twin.sentRecord = some s.recordCycle ∧ t.out = s.out ++ [.stack
    s.twinPort (s.stackFrame s.twinPort 0x01 (s.stepBody s.recordCycle))] ∧ t.counter (twinItem 0) = (s.counter
    (twinItem 0) + 1) % 18446744073709551616) ∧
  (∀ (s : State) (epoch : Nat) (b : Bytes), s.operating = true → s.twinHalf = true → s.stackCarries s.twinPort = true
  → s.twinState = twAlone → beAt b 8 1 = twStandby → (beAt b 9 1).testBit 0 = false →
    ∃ t, exec (.stepRecord epoch b) s = .next t ∧ t.twinState = twActive ∧ t.n 0x9021 6 = twStandby ∧ t.twin.missedRun
    = 0 ∧ t.twin.peerEpoch = epoch ∧ t.twin.peerRecordCycle = some (beAt b 0 8) ∧ t.counter (twinItem 1) = (s.counter
    (twinItem 1) + 1) % 18446744073709551616) ∧
  (∀ (s : State), s.operating = true → s.twinHalf = true → s.recordMissed = true → s.twin.missedRun = 0 → s.room 5 →
    ∃ t, exec .stepRecordMissed s = .next t ∧ t.twin.missedRun = 1 ∧ t.twin.missedCycle = some (s.cycle - 1) ∧
    t.twinState = s.twinState ∧ t.counter (twinItem 2) = (s.counter (twinItem 2) + 1) % 18446744073709551616 ∧
    s.records t 837 ((s.cycle - 1) % 256)) ∧
  (∀ (s : State), s.operating = true → s.twinHalf = true → s.recordMissed = true → s.twin.missedRun = 1 → s.twinState
  = twActive → s.room 5 →
    ∃ t, exec .stepRecordMissed s = .next t ∧ t.twin.missedRun = 2 ∧ t.twinState = twAlone ∧ t.counter (twinItem 2) =
    (s.counter (twinItem 2) + 1) % 18446744073709551616 ∧ s.records t 832 twAlone) ∧
  (∀ (s : State) (m : MirrorMsg), s.operating = true → s.twinHalf = true → s.stackCarries s.twinPort = true →
  s.twinState = twStandby →
    ∃ t, exec (.mirror m) s = .next t ∧ (t.messages.mirrors = (s.messages.mirrors.filter fun y => !(y.engine ==
    m.engine && y.row == m.row)) ++ [m]) ∧ t.counter (twinItem 4) = (s.counter (twinItem 4) + 1) %
    18446744073709551616 ∧ t.out = s.out)

/-- Self-tests of the twin. -/
def Obligations.TwinSelfTests : Prop :=
  (∀ (s : State) (g start : Nat), s.operating = true → s.twinHalf = true → s.stackCarries s.twinPort = true →
    ∃ t, exec (.selfTestRequest g start) s = .next t ∧ t.twin.selfTest = some ⟨g, start, none, none⟩ ∧ t.events.fifo =
    s.events.fifo) ∧
  (∀ (s : State) (g : Nat), s.operating = true → s.twinHalf = true → s.selfTestOf g = true → g < 8 → s.room 5 →
    ∃ t, exec (.groveSelfTestStart g) s = .next t ∧ (t.grove g).selfTesting = true ∧ (t.grove g).state = (s.grove
    g).state ∧ t.counter (twinItem 11) = (s.counter (twinItem 11) + 1) % 18446744073709551616 ∧ s.records t 843 g) ∧
  (∀ (s : State) (g start : Nat), s.operating = true → s.twinHalf = true → s.stackCarries s.twinPort = true →
  s.twin.selfTest = some ⟨g, start, none, none⟩ → start ≤ s.cycle → g < 8 → (s.grove g).selfTesting = true →
  s.twinState ≠ twFailed → s.room 5 →
    ∃ t, exec (.groveSelfTestEnd g false) s = .next t ∧ (t.grove g).selfTesting = false ∧ t.twin.selfTest = some ⟨g,
    start, some false, none⟩ ∧ t.canopy.selfTestFailures = s.canopy.selfTestFailures + 1 ∧ t.out = s.out ++ [.stack
    s.twinPort (s.stackFrame s.twinPort 0x04 (beBytes 1 g ++ beBytes 1 0))] ∧ s.records t (384 + 8 * g + 5) 3) ∧
  (∀ (s : State) (g start : Nat) (peer : Bool), s.operating = true → s.twinHalf = true → s.stackCarries s.twinPort =
  true → s.twin.selfTest = some ⟨g, start, some true, none⟩ → start ≤ s.cycle → g < 8 → s.leaseHeld = true →
  s.twinState ≠ twFailed → s.room 6 →
    ∃ t, exec (.selfTestResult g peer) s = .next t ∧ t.twin.selfTest = none ∧ t.twinState = twAlone ∧ (s.records t 844
    (g + 256 + 65536 * (if peer then 1 else 0)))) ∧
  (∀ (s : State) (g start : Nat), s.operating = true → s.twinHalf = true → s.twin.selfTest = some ⟨g, start, some
  true, none⟩ → start ≤ s.cycle → s.resultMissing = true → g < 8 → s.leaseHeld = true → s.twinState ≠ twFailed →
  s.room 6 →
    ∃ t, exec (.selfTestResultTimeout g) s = .next t ∧ t.twin.selfTest = none ∧ t.twinState = twAlone ∧ s.records t
    844 (g + 65792)) ∧
  (∀ (s : State) (test inst : Nat), s.operating = true → s.twinHalf = true → s.on 0x9020 8 = true → s.power.throttled
  = false → s.testIdle inst = true →
    ∃ t, exec (.backgroundSelfTestStep test inst true true) s = .next t ∧ t.twin.lastFullPass = s.cycle ∧
    t.canopy.selfTestFailures = s.canopy.selfTestFailures) ∧
  (∀ (s : State) (test inst : Nat), s.operating = true → s.twinHalf = true → s.on 0x9020 8 = true → s.power.throttled
  = false → s.testIdle inst = true → inst < 8 → test < 2 → s.staysAsItIs 16 inst = true → s.room 5 →
    ∃ t, exec (.backgroundSelfTestStep test inst false false) s = .next t ∧ t.canopy.selfTestFailures =
    s.canopy.selfTestFailures + 1 ∧ t.twin.lastFullPass = s.twin.lastFullPass ∧ t.counter (groveItem inst 30) =
    (s.counter (groveItem inst 30) + 1) % 18446744073709551616 ∧ s.records t (384 + 8 * inst + 5) (test + 1))

/-- The lease of the twin. -/
def Obligations.LeaseIsPolledAndTaken : Prop :=
  (∀ (s : State), s.operating = true → s.twinHalf = true → s.leaseExpired = true → s.twinState ≠ twFailed → s.room 16
  → s.n 0x9021 2 < 2147483648 →
    ∃ t, exec .leaseExpiry s = .next t ∧ t.leaseHeld = false ∧ t.twinState = twSilent ∧ (t.ringState = (if s.ringState
    = ringMaster then ringSapling else s.ringState)) ∧ t.counter (twinItem 17) = (s.counter (twinItem 17) + 1) %
    18446744073709551616 ∧ s.records t 836 (s.n 0x9021 2)) ∧
  (∀ (s : State), s.operating = true → s.seeksLease = true → s.unrenewed (s.leaseCycles + 1) = true →
  ((s.twin.poll.all fun p => p.cycle != s.cycle) = true) → s.ring.west.lost = false → s.macBusy s.westLane → s.room 5
  →
    ∃ t, exec .witnessPollSend s = .next t ∧ t.twin.poll = some ⟨s.cycle, []⟩ ∧ t.leaseHeld = false ∧ (s.seg
    s.westLane).overflow ++ [(15, s.ownFrame .module (s.pollFrame s.westLane (s.n 0x9021 2) s.pollBody))] <+: (t.seg
    s.westLane).overflow ∧ t.counter (twinItem 18) = (s.counter (twinItem 18) + 1) % 18446744073709551616 ∧ s.records
    t 839 (s.cycle % 256)) ∧
  (∀ (s : State) (lane epoch : Nat) (b : Bytes) (icv : Icv), s.operating = true → s.twinHalf = false → s.isLane lane =
  true → s.unscheduled lane = true → s.on 0xA020 1 lane = false ∨ icv = .verified → s.hears lane
  { data := s.pollFrame lane epoch b, fcs := .good, icv := icv, stamp := s.now } = true → b.length = 784 → beAt b 0 8
  ≠ s.nodeName → beAt b 12 1 < 64 → s.ring.answeredPolls.contains (beAt b 0 8, beAt b 8 4) = false →
    ∃ t, exec (.witnessPoll lane epoch b icv) s = .next t ∧ t.ring.answeredPolls = (beAt b 0 8, beAt b 8 4) ::
    s.ring.answeredPolls ∧ t.counter (twinItem 19) = (s.counter (twinItem 19) + 1) % 18446744073709551616) ∧
  (∀ (s : State) (e u : Nat), s.operating = true → s.ring.voteLock = some (e, u) → u ≤ s.cycle →
    ∃ t, exec .voteLockEnd s = .next t ∧ t.ring.voteLock = none ∧ t.events.fifo = s.events.fifo) ∧
  (∀ (s : State) (p : Poll), s.operating = true → s.twin.poll = some p → p.cycle + 1 = s.cycle → p.answers = [] →
  s.censusWitnesses = 0 → s.seeksLease = true → s.room 5 →
    ∃ t, exec .witnessPollEvaluation s = .next t ∧ t.twin.poll = none ∧ t.leaseHeld = false ∧ t.n 0x9021 2 = s.n
    0x9021 2 ∧ s.records t 840 0) ∧
  (∀ (s : State) (p : Poll) (nr : Nat), s.operating = true → s.seeksLease = true → s.twin.poll = some p → p.cycle + 1
  = s.cycle → ((p.answers.all fun a => decide (a.2.1 ≤ s.n 0x9021 2)) = true) → (nr = (p.answers.filter fun a =>
  decide (a.2.1 ≤ s.n 0x9021 2) && renewedBefore a.2.2 (s.cycle - (s.leaseCycles + 2))).length) → max p.answers.length
  s.censusWitnesses < 2 * nr → s.unrenewed (s.leaseCycles + 2) = true → s.n 0x9021 2 < 8388607 → s.room 13 →
    ∃ t, exec .witnessPollEvaluation s = .next t ∧ t.leaseHeld = true ∧ t.twin.poll = none ∧ t.n 0x9021 2 = s.n 0x9021
    2 + 1 ∧ t.twinState = twAlone ∧ t.ringState = 4 ∧ s.records t 840 (nr % 256 + 256 * (max p.answers.length
    s.censusWitnesses % 256)) ∧ s.records t 833 (256 * (s.n 0x9021 2 + 1))) ∧
  (∀ (s : State) (i : Nat), s.operating = true → s.seeksLease = true → s.effectiveRank = 0 → s.twin.peerIdleSince =
  some i → s.after i (nsUnits (4 * s.n 0x9020 5)) = true → s.after s.twin.quietSince (nsUnits (4 * s.n 0x9020 5)) =
  true → s.n 0x9021 2 < 8388607 → s.room 12 →
    ∃ t, exec .noWitnessAcquire s = .next t ∧ t.leaseHeld = true ∧ t.twin.noWitnessHeld = true ∧ t.n 0x9021 2 = s.n
    0x9021 2 + 1 ∧ t.ringState = 4 ∧ s.records t 833 (2 + 256 * (s.n 0x9021 2 + 1))) ∧
  (∀ (s : State), s.operating = true → s.twin.releaseSeen = some s.cycle → s.seeksLease = true → s.twinState =
  twStandby → s.n 0x9021 2 < 8388607 → s.room 12 →
    ∃ t, exec .releaseAcquire s = .next t ∧ t.leaseHeld = true ∧ t.twin.releaseSeen = none ∧ t.twin.noWitnessHeld =
    false ∧ t.n 0x9021 2 = s.n 0x9021 2 + 1 ∧ t.ringState = 4 ∧ s.records t 833 (1 + 256 * (s.n 0x9021 2 + 1)))

/-- The coppice. -/
def Obligations.CoppicesAreServedAndTaken : Prop :=
  (∀ (s : State) (fw : Nat) (digests : List Nat), s.operating = true → s.twinHalf = true → s.stackCarries s.twinPort =
  true → s.leaseHeld = true → fw = s.n 0x1000 5 → digests = (List.range 8).map s.shownDigest →
    ∃ t, exec (.coppiceRequest fw digests) s = .next t ∧ t.twin.coppice.serving = some (s.cycle + 2) ∧
    t.twin.coppice.mirrored = [] ∧ t.twin.coppice.since = s.elapsed ∧ t.out = s.out) ∧
  (∀ (s : State), s.operating = true → s.twinHalf = true → s.stackCarries s.twinPort = true → s.leaseHeld = true →
  s.twin.coppice.serving = some s.cycle → s.twinState ≠ twFailed → s.on 0xA020 1 (256 + s.twinPort) = false → s.room 5
  →
    ∃ t, exec .coppiceSnapshot s = .next t ∧ t.out.length = s.out.length + (withinBytes snapshotLimit
    s.snapshotParts).length ∧ s.records t 845 0 ∧ t.counter (twinItem 22) = (s.counter (twinItem 22) + 1) %
    18446744073709551616) ∧
  (∀ (s : State) (parts : List SnapPart), s.operating = true → s.coppiced = true → s.stackCarries s.twinPort = true →
  s.twin.coppice.loaded = false →
    ∃ t, exec (.snapshotChunk parts false) s = .next t ∧ t.twin.coppice.parts = s.twin.coppice.parts ++ parts ∧
    t.twin.coppice.loaded = false ∧ t.od = s.od) ∧
  (∀ (s : State) (parts : List SnapPart), s.operating = true → s.coppiced = true → s.stackCarries s.twinPort = true →
  s.twin.coppice.loaded = false → s.twin.coppice.parts ++ parts ≠ [] →
    ∃ t, exec (.snapshotChunk parts true) s = .next t ∧ t.twin.coppice.parts = s.twin.coppice.parts ++ parts ∧
    t.twin.coppice.loaded = true ∧ t.n 0x9021 0xA = 50) ∧
  (∀ (s : State), s.operating = true → s.coppiced = true → s.stackCarries s.twinPort = true → s.twin.coppice.loaded =
  false → s.twin.coppice.parts = [] → s.room 6 →
    ∃ t, exec (.snapshotChunk [] true) s = .next t ∧ t.twinState = twSilent ∧ (s.records t 847 (if (s.stackPort
    s.twinPort).firmware = s.n 0x1000 5 then 2 else 1)) ∧ t.counter (twinItem 24) = (s.counter (twinItem 24) + 1) %
    18446744073709551616) ∧
  (∀ (s : State) (n : Nat) (mirrors : List MirrorMsg) (views : List ViewData), s.operating = true → s.coppiced = true
  → s.stackCarries s.twinPort = true → s.twin.coppice.log.length < s.n 0x9020 9 →
    ∃ t, exec (.logChunk n mirrors views) s = .next t ∧ t.twin.coppice.log = s.twin.coppice.log ++ [⟨n, mirrors,
    views⟩] ∧ t.twinState = twSyncing) ∧
  (∀ (s : State) (b : Nat), s.operating = true → s.twinHalf = true → s.stackCarries s.twinPort = true → s.leaseHeld =
  true → s.twinState = twAlone → s.twin.coppice.serving = some b → s.room 6 →
    ∃ t, exec .coppiceDone s = .next t ∧ t.twin.coppice.serving = none ∧ t.twinState = twActive ∧ s.records t 846
    ((s.cycle - b) % 256)) ∧
  (∀ (s : State), s.operating = true → s.coppiced = true → s.stackCarries s.twinPort = true → s.twin.coppice.loaded =
  true → s.twin.coppice.log = [] →
    ∃ t, exec .coppiceDone s = .next t ∧ t.twinState = twStandby ∧ t.n 0x9021 0xA = 100 ∧ t.out = s.out ++ [.stack
    s.twinPort (s.stackFrame s.twinPort 0x23 [])] ∧ t.twin.coppice.loaded = false) ∧
  (∀ (s : State), s.operating = true → s.coppiced = true → s.after s.twin.coppice.since (nsUnits (s.n 0x9020 0xA)) =
  true → s.room 6 →
    ∃ t, exec .coppiceTimeout s = .next t ∧ t.twinState = twSilent ∧ t.twin.coppice.parts = [] ∧ t.twin.coppice.log =
    [] ∧ s.records t 847 3)

/-! ## The Kiln (chapter 10) -/
/-- Messages and queries of the Kiln (its cryptography is free: log entry 5). -/
def Obligations.KilnTakesAndAnswersMessages : Prop :=
  (∀ (s : State), s.power.state ≠ .off → s.power.state ≠ .dormant → 1 ≤ s.power.stage → s.takesMemory (some 0) = true
  → s.kiln.busy = false → s.kiln.running = none → s.kiln.waiting = [] →
    ∃ t, exec .kilnGo s = .next t ∧ t.kiln.busy = true ∧ t.kiln.done = false ∧ t.kiln.running = some ⟨1, 0,
    s.buffers.kilnRequest.readBytes 0 (16 + min 12272 (beAt (s.buffers.kilnRequest.readBytes 8 4) 0 4)), 0, false⟩) ∧
  (∀ (s : State), s.power.state ≠ .off → s.power.state ≠ .dormant → 1 ≤ s.power.stage → s.takesMemory (some 0) = true
  → s.kiln.busy = true →
    ∃ t, exec .kilnGo s = .next t ∧ t.kiln = { s.kiln with overrun := true }) ∧
  (∀ (s : State) (o : KilnOp), s.power.state ≠ .off → s.power.state ≠ .dormant → 1 ≤ s.power.stage → s.kiln.running =
  some o → s.kiln.waiting = [] → o.rank = 1 → beAt o.message 0 1 = 1 → beAt o.message 1 1 = 1 → beAt o.message 2 2 = 1
  → beAt o.message 12 4 = 1 → 16 + beAt o.message 8 4 ≤ o.message.length → s.kilnStops .mailbox 1 = none →
    ∃ t, exec .kilnOperationDone s = .next t ∧ t.kiln.running = none ∧ s.answeredKiln t .mailbox 1 (beAt o.message 4
    2) 0 s.statusBytes ∧ t.counter (kilnItem 0) = (s.counter (kilnItem 0) + 1) % 18446744073709551616) ∧
  (∀ (s : State) (p : Nat) (f : Frame), s.operating = true → 256 ≤ p → s.stackUsable (p - 256) = true → s.stackBarred
  (p - 256) = false → frameSound f = true → isProtocol f.data 5 = true → 16 ≤ (protocolBody f.data).length → beAt
  (protocolBody f.data) 0 1 = 1 → beAt (protocolBody f.data) 12 2 = 0 → ((s.kiln.assemblies.any fun a => a.port == p
  && a.sourceMac == beAt f.data 6 6 && a.header == (protocolBody f.data).take 6) = false) → beAt (protocolBody f.data)
  14 2 = 1 → s.kiln.running = none → s.kiln.waiting = [] →
    ∃ t, exec (.kilnMessageFragment p f) s = .next t ∧ t.kiln.running = some ⟨messageRank ((protocolBody f.data).take
    16), p, (protocolBody f.data).take 16 ++ ((protocolBody f.data).drop 16).take (beAt (protocolBody f.data) 8 4),
    beAt f.data 6 6, f.icv == .verified⟩ ∧ t.kiln.waiting = [] ∧ t.kiln.assemblies = s.kiln.assemblies) ∧
  (∀ (s : State) (p : Nat) (f : Frame), s.operating = true → p < 256 → s.hears p f = true → s.unscheduled p = true →
  isProtocol f.data 5 = true → 16 ≤ (protocolBody f.data).length → beAt (protocolBody f.data) 0 1 = 1 → beAt
  (protocolBody f.data) 12 2 = 0 → ((s.kiln.assemblies.any fun a => a.port == p && a.sourceMac == beAt f.data 6 6 &&
  a.header == (protocolBody f.data).take 6) = false) → beAt (protocolBody f.data) 14 2 = 1 → s.kiln.running = none →
  s.kiln.waiting = [] →
    ∃ t, exec (.kilnMessageFragment p f) s = .next t ∧ t.kiln.running = some ⟨messageRank ((protocolBody f.data).take
    16), p, (protocolBody f.data).take 16 ++ ((protocolBody f.data).drop 16).take (beAt (protocolBody f.data) 8 4),
    beAt f.data 6 6, f.icv == .verified⟩ ∧ t.kiln.waiting = [] ∧ t.kiln.assemblies = s.kiln.assemblies) ∧
  (∀ (s : State) (p : Nat) (f : Frame), s.operating = true → 256 ≤ p → s.stackUsable (p - 256) = true → s.stackBarred
  (p - 256) = false → frameSound f = true → isProtocol f.data 5 = true → 16 ≤ (protocolBody f.data).length → beAt
  (protocolBody f.data) 0 1 = 1 → beAt (protocolBody f.data) 12 2 = 0 → ((s.kiln.assemblies.any fun a => a.port == p
  && a.sourceMac == beAt f.data 6 6 && a.header == (protocolBody f.data).take 6) = false) → 2 ≤ beAt (protocolBody
  f.data) 14 2 → beAt (protocolBody f.data) 14 2 ≤ 64 →
    ∃ t, exec (.kilnMessageFragment p f) s = .next t ∧ t.kiln.assemblies = ⟨p, beAt f.data 6 6, (protocolBody
    f.data).take 6, f.icv == .verified, s.elapsed, [(0, (protocolBody f.data).drop 16)]⟩ :: s.kiln.assemblies ∧
    t.kiln.waiting = s.kiln.waiting ∧ t.kiln.running = s.kiln.running) ∧
  (∀ (s : State) (p : Nat) (f : Frame), s.operating = true → p < 256 → s.hears p f = true → s.unscheduled p = true →
  isProtocol f.data 5 = true → 16 ≤ (protocolBody f.data).length → beAt (protocolBody f.data) 0 1 = 1 → beAt
  (protocolBody f.data) 12 2 = 0 → ((s.kiln.assemblies.any fun a => a.port == p && a.sourceMac == beAt f.data 6 6 &&
  a.header == (protocolBody f.data).take 6) = false) → 2 ≤ beAt (protocolBody f.data) 14 2 → beAt (protocolBody
  f.data) 14 2 ≤ 64 →
    ∃ t, exec (.kilnMessageFragment p f) s = .next t ∧ t.kiln.assemblies = ⟨p, beAt f.data 6 6, (protocolBody
    f.data).take 6, f.icv == .verified, s.elapsed, [(0, (protocolBody f.data).drop 16)]⟩ :: s.kiln.assemblies ∧
    t.kiln.waiting = s.kiln.waiting ∧ t.kiln.running = s.kiln.running) ∧
  (∀ (s : State) (p : Nat) (a : Assembly), a ∈ s.kiln.assemblies → a.port = p → s.after a.since (nsUnits (s.n 0xA033
  0)) = true →
    ∃ t, exec (.kilnFragmentTimeout p) s = .next t ∧ a ∉ t.kiln.assemblies ∧ { t.kiln with assemblies := [] } =
    { s.kiln with assemblies := [] } ∧ t.out = s.out) ∧
  (∀ (s : State) (src : KilnSource) (tag : Nat), s.power.state ≠ .off → s.power.state ≠ .dormant → 1 ≤ s.power.stage →
  s.answersOn src = true → s.kilnStops src 1 = none →
    ∃ t, exec (.getStatus src tag) s = .next t ∧ s.answeredKiln t src 1 tag 0 s.statusBytes ∧ t.counter (kilnItem 0) =
    (s.counter (kilnItem 0) + 1) % 18446744073709551616 ∧ t.kiln.waiting = s.kiln.waiting) ∧
  (∀ (s : State) (p : Nat) (verified : Bool) (mac tag : Nat), s.power.state ≠ .off → s.power.state ≠ .dormant → 1 ≤
  s.power.stage → p < 256 → s.portOn p 1 1 = true → s.kilnStops (.port p verified mac) 1 = none → s.groveOn (p / 32) =
  false → (s.grove (p / 32)).state ≠ 3 →
    ∃ t, exec (.getStatus (.port p verified mac) tag) s = .next t ∧ ((t.seg p).overflow = (s.seg p).overflow ++
    (s.kilnFrames p mac 2 1 tag 0 s.statusBytes).map fun b => (15, s.ownFrame .kiln b)) ∧ t.out = s.out) ∧
  (∀ (s : State) (src : KilnSource) (tag i : Nat), s.power.state ≠ .off → s.power.state ≠ .dormant → 1 ≤ s.power.stage
  → s.answersOn src = true → s.kilnStops src 2 = none → i < 3 →
    ∃ t, exec (.getCertificate src tag i) s = .next t ∧ s.answeredKiln t src 2 tag 0 (s.certificate i) ∧ t.counter
    (kilnItem 0) = (s.counter (kilnItem 0) + 1) % 18446744073709551616) ∧
  (∀ (s : State) (src : KilnSource) (tag : Nat) (key : Bytes), s.power.state ≠ .off → s.power.state ≠ .dormant → 1 ≤
  s.power.stage → s.answersOn src = true → s.kilnStops src 2 = none → (key = (List.range 1184).map fun j =>
  Config.kemPublicByte s.kemSeed j) →
    ∃ t, exec (.getCertificate src tag 3) s = .next t ∧ s.answeredKiln t src 2 tag 0 (key ++ s.deviceBlock [0x4B,
    0x45, 0x4D] key) ∧ t.counter (kilnItem 4) = (s.counter (kilnItem 4) + 1) % 18446744073709551616) ∧
  (∀ (s : State) (src : KilnSource) (tag : Nat), s.power.state ≠ .off → s.power.state ≠ .dormant → 1 ≤ s.power.stage →
  s.answersOn src = true → s.kilnStops src 3 = none →
    ∃ t, exec (.getChallenge src tag) s = .next t ∧ (t.kiln.challenge = some ((List.range 32).map fun i =>
    Config.randomByte (s.kiln.randomUsed + i), s.elapsed)) ∧ t.kiln.randomUsed = s.kiln.randomUsed + 32 ∧
    (s.answeredKiln t src 3 tag 0 ((List.range 32).map fun i => Config.randomByte (s.kiln.randomUsed + i)))) ∧
  (∀ (s : State) (r : Bytes) (a : Nat), s.kiln.challenge = some (r, a) → s.after a (nsUnits 600000000000) = true →
    ∃ t, exec .challengeExpiry s = .next t ∧ t.kiln = { s.kiln with challenge := none }) ∧
  (∀ (s : State) (src : KilnSource) (tag : Nat) (nonce : Bytes), s.power.state ≠ .off → s.power.state ≠ .dormant → 1 ≤
  s.power.stage → s.answersOn src = true → s.kilnStops src 0x10 = none → s.kilnRuns = true → nonce.length = 32 →
  s.room 1 →
    ∃ t, exec (.attest src tag nonce) s = .next t ∧ s.answeredKiln t src 0x10 tag 0 (s.report nonce ++ s.deviceBlock
    [0x41, 0x54, 0x54] (s.report nonce)) ∧ (s.records t 872 (match src with | .mailbox => 1 | .port _ _ _ => 3)) ∧
    t.counter (kilnItem 5) = (s.counter (kilnItem 5) + 1) % 18446744073709551616) ∧
  (∀ (s : State) (cause : Nat), s.power.state ≠ .off → s.power.state ≠ .dormant → 1 ≤ s.power.stage → s.staysAsItIs 22
  0 = true → cause < 2147483648 → s.room 2 →
    ∃ t, exec (.kilnFault cause) s = .next t ∧ t.kiln.state = .fault ∧ s.records t 885 cause)

/-- The firmware commands (signatures are free: log entry 5). -/
def Obligations.FirmwareIsWrittenAndConfirmed : Prop :=
  (∀ (s : State) (src : KilnSource) (tag slot len : Nat), s.power.state ≠ .off → s.power.state ≠ .dormant → 1 ≤
  s.power.stage → s.answersOn src = true → s.kilnStops src 0x20 = none → slot < 2 → len ≤ 25165824 → s.kiln.state =
  .recovery ∨ (slot ≠ s.kiln.slot ∧ s.kiln.trial = false) →
    ∃ t, exec (.fwBegin src tag slot len) s = .next t ∧ t.kiln.fwSlot = some (slot, len) ∧ s.answeredKiln t src 0x20
    tag 0 [] ∧ t.flash = s.flash) ∧
  (∀ (s : State) (src : KilnSource) (tag off : Nat) (data : Bytes) (slot len : Nat), s.power.state ≠ .off →
  s.power.state ≠ .dormant → 1 ≤ s.power.stage → s.answersOn src = true → s.kilnStops src 0x21 = none → s.kiln.fwSlot
  = some (slot, len) → slot < 2 → 8 ≤ data.length → data.length ≤ 8192 → off + data.length ≤ len →
    ∃ t, exec (.fwWrite src tag off data) s = .next t ∧ t.slotPackage slot = overwrite (slice (s.slotPackage slot) 0
    len) off data ∧ t.slotValid slot = false ∧ s.answeredKiln t src 0x21 tag 0 []) ∧
  (∀ (s : State) (src : KilnSource) (tag slot len : Nat), s.power.state ≠ .off → s.power.state ≠ .dormant → 1 ≤
  s.power.stage → s.answersOn src = true → s.kilnStops src 0x22 = none → s.kiln.fwSlot = some (slot, len) → slot < 2 →
    ∃ t, exec (.fwCommit src tag) s = .next t ∧ (s.commitError slot = 0 → (t.slotValid slot = true ∧ t.slotPackage
    slot = s.slotPackage slot ∧ t.kiln.fwSlot = none ∧ s.answeredKiln t src 0x22 tag 0 [0])) ∧ (s.commitError slot ≠ 0
    → (t.flash = s.flash ∧ t.kiln.fwSlot = s.kiln.fwSlot ∧ s.answeredKiln t src 0x22 tag (if s.commitError slot = 1 ∨
    s.commitError slot = 2 ∨ s.commitError slot = 6 then 0x15 else 0x20) (beBytes 1 (s.commitError slot))))) ∧
  (∀ (s : State) (src : KilnSource) (tag : Nat), s.power.state ≠ .off → s.power.state ≠ .dormant → 1 ≤ s.power.stage →
  s.answersOn src = true → s.kilnStops src 0x23 = none → s.power.stage = 5 → s.kiln.trial = true → s.kiln.slot < 2 →
  s.room 2 →
    ∃ t, exec (.fwConfirm src tag) s = .next t ∧ t.flash.activeSlot = s.kiln.slot ∧ t.kiln.trial = false ∧ s.records t
    867 s.kiln.slot ∧ s.answeredKiln t src 0x23 tag 0 []) ∧
  (∀ (s : State) (src : KilnSource) (tag : Nat), s.power.state ≠ .off → s.power.state ≠ .dormant → 1 ≤ s.power.stage →
  s.answersOn src = true → s.kilnStops src 0x24 = none → s.kiln.fwSlot.isSome = true →
    ∃ t, exec (.fwAbort src tag) s = .next t ∧ t.kiln.fwSlot = none ∧ t.flash = s.flash ∧ s.answeredKiln t src 0x24
    tag 0 [])

/-- Owner commands 1, 2, 3, 8, 9, 10 (signatures are free: log entry 5). -/
def Obligations.OwnerKeysAndUnlock : Prop :=
  (∀ (s : State) (src : KilnSource) (tag : Nat) (b : Bytes) (c : OwnerCommand), s.power.state ≠ .off → s.power.state ≠
  .dormant → 1 ≤ s.power.stage → s.answersOn src = true → s.kilnStops src 0x30 = none → readOwner b = some c → beAt b
  4 1 = 1 → s.otp.ownerSlots.length < 16 →
    ∃ t, exec (.installOwnerKey src tag b) s = .next t ∧ s.answeredKiln t src 0x30 tag (s.ownerStatus c) [] ∧
    (s.ownerStatus c = 0 → (t.flash.ownerSequence = c.sequence ∧ t.otp.ownerSlots = s.otp.ownerSlots ++ [((argumentKey
    c.argument).1, digest32 (argumentKey c.argument).2)] ∧ t.flash.ownerKey = some (argumentKey c.argument))) ∧
    (s.ownerStatus c ≠ 0 → (t.flash = s.flash ∧ t.otp = s.otp))) ∧
  (∀ (s : State) (src : KilnSource) (tag : Nat) (b : Bytes) (c : OwnerCommand), s.power.state ≠ .off → s.power.state ≠
  .dormant → 1 ≤ s.power.stage → s.answersOn src = true → s.kilnStops src 0x30 = none → readOwner b = some c → beAt b
  4 1 = 2 → s.otp.ownerSlots.length < 16 →
    ∃ t, exec (.rotateOwnerKey src tag b) s = .next t ∧ s.answeredKiln t src 0x30 tag (s.ownerStatus c) [] ∧
    (s.ownerStatus c = 0 → (t.flash.ownerSequence = c.sequence ∧ t.otp.ownerSlots = s.otp.ownerSlots ++ [((argumentKey
    c.argument).1, digest32 (argumentKey c.argument).2)] ∧ t.flash.ownerKey = some (argumentKey c.argument))) ∧
    (s.ownerStatus c ≠ 0 → (t.flash = s.flash ∧ t.otp = s.otp))) ∧
  (∀ (s : State) (src : KilnSource) (tag : Nat) (b : Bytes) (c : OwnerCommand), s.power.state ≠ .off → s.power.state ≠
  .dormant → 1 ≤ s.power.stage → s.answersOn src = true → s.kilnStops src 0x30 = none → readOwner b = some c → beAt b
  4 1 = 3 →
    ∃ t, exec (.restoreOwnerKey src tag b) s = .next t ∧ s.answeredKiln t src 0x30 tag (s.ownerStatus c) [] ∧
    (s.ownerStatus c = 0 → (t.flash.ownerSequence = c.sequence ∧ t.otp = s.otp ∧ t.flash.ownerKey = some (argumentKey
    c.argument))) ∧ (s.ownerStatus c ≠ 0 → (t.flash = s.flash ∧ t.otp = s.otp))) ∧
  (∀ (s : State) (src : KilnSource) (tag : Nat) (b : Bytes) (c : OwnerCommand), s.power.state ≠ .off → s.power.state ≠
  .dormant → 1 ≤ s.power.stage → s.answersOn src = true → s.kilnStops src 0x30 = none → readOwner b = some c → beAt b
  4 1 = 8 →
    ∃ t, exec (.installCak src tag b) s = .next t ∧ (src = .mailbox → s.answeredKiln t src 0x30 tag (s.ownerStatus c)
    []) ∧ (s.ownerStatus c = 0 → (t.flash.ownerSequence = c.sequence ∧ ((t.flash.caks.get? (beAt c.argument 0 1)).map
    fun k => (k.1, k.2.2)) = some (slice c.argument 8 16, s.now) ∧ t.otp = s.otp)) ∧ (s.ownerStatus c ≠ 0 → (t.flash =
    s.flash ∧ t.otp = s.otp))) ∧
  (∀ (s : State) (src : KilnSource) (tag : Nat) (b : Bytes) (c : OwnerCommand), s.power.state ≠ .off → s.power.state ≠
  .dormant → 1 ≤ s.power.stage → s.answersOn src = true → s.kilnStops src 0x30 = none → readOwner b = some c → beAt b
  4 1 = 9 →
    ∃ t, exec (.advanceRollback src tag b) s = .next t ∧ s.answeredKiln t src 0x30 tag (s.ownerStatus c) [] ∧
    (s.ownerStatus c = 0 → (t.flash.ownerSequence = c.sequence ∧ t.otp.rollback = max s.otp.rollback (min (beAt
    c.argument 0 1) 64) ∧ t.otp.locks = s.otp.locks)) ∧ (s.ownerStatus c ≠ 0 → (t.flash = s.flash ∧ t.otp = s.otp))) ∧
  (∀ (s : State) (src : KilnSource) (tag : Nat) (b : Bytes) (c : OwnerCommand), s.power.state ≠ .off → s.power.state ≠
  .dormant → 1 ≤ s.power.stage → s.answersOn src = true → s.kilnStops src 0x30 = none → readOwner b = some c → beAt b
  4 1 = 10 → s.kiln.waiting = [] →
    ∃ t, exec (.debugUnlock src tag b) s = .next t ∧ s.answeredKiln t src 0x30 tag (s.ownerStatus c) [] ∧
    (s.ownerStatus c = 0 → (t.flash.ownerSequence = c.sequence ∧ t.otp.debugOpened = true ∧ t.kiln.state =
    .debugOpened ∧ t.kiln.mka = [] ∧ t.flash.caks = [] ∧ t.pins.jtagOpen = true)) ∧ (s.ownerStatus c ≠ 0 → (t.flash =
    s.flash ∧ t.otp = s.otp)))

/-- Owner commands 4 to 7, and any command on its channel (signatures are free: log entry 5). -/
def Obligations.OwnerSettings : Prop :=
  (∀ (s : State) (src : KilnSource) (tag : Nat) (b : Bytes) (c : OwnerCommand), s.power.state ≠ .off → s.power.state ≠
  .dormant → 1 ≤ s.power.stage → s.answersOn src = true → s.kilnStops src 0x30 = none → readOwner b = some c → 1 ≤
  c.op →
    ∃ t, exec (.owner src tag b) s = .next t ∧ (src = .mailbox → s.answeredKiln t src 0x30 tag (s.ownerStatus c) []) ∧
    (s.ownerStatus c = 0 → (t.flash.ownerSequence = c.sequence)) ∧ (s.ownerStatus c ≠ 0 → (t.flash = s.flash ∧ t.otp =
    s.otp))) ∧
  (∀ (s : State) (src : KilnSource) (tag : Nat) (b : Bytes), s.power.state ≠ .off → s.power.state ≠ .dormant → 1 ≤
  s.power.stage → s.answersOn src = true → s.kilnStops src 0x30 = none → (readOwner b).isNone = true → s.room 1 →
    ∃ t, exec (.owner src tag b) s = .next t ∧ s.answeredKiln t src 0x30 tag 0x14 [] ∧ s.records t 870 (beAt b 4 1 +
    5120) ∧ t.flash = s.flash ∧ t.otp = s.otp) ∧
  (∀ (s : State) (src : KilnSource) (tag : Nat) (b : Bytes) (c : OwnerCommand), s.power.state ≠ .off → s.power.state ≠
  .dormant → 1 ≤ s.power.stage → s.answersOn src = true → s.kilnStops src 0x30 = none → readOwner b = some c → beAt b
  4 1 = 4 →
    ∃ t, exec (.setPolicy src tag b) s = .next t ∧ s.answeredKiln t src 0x30 tag (s.ownerStatus c) [] ∧ (s.ownerStatus
    c = 0 → (t.flash.ownerSequence = c.sequence ∧ t.flash.requireSigned = (beAt c.argument 0 1 != 0) ∧
    t.flash.advanceOnConfirm = (beAt c.argument 1 1 != 0) ∧ t.flash.pairingMode = min 2 (beAt c.argument 2 1) ∧
    t.flash.cakLifetime = min 31536000000000000 (max 3600000000000 (beAt c.argument 8 8)))) ∧ (s.ownerStatus c ≠ 0 →
    (t.flash = s.flash ∧ t.otp = s.otp))) ∧
  (∀ (s : State) (src : KilnSource) (tag : Nat) (b : Bytes) (c : OwnerCommand), s.power.state ≠ .off → s.power.state ≠
  .dormant → 1 ≤ s.power.stage → s.answersOn src = true → s.kilnStops src 0x30 = none → readOwner b = some c → beAt b
  4 1 = 5 →
    ∃ t, exec (.burnLocks src tag b) s = .next t ∧ (src = .mailbox → s.answeredKiln t src 0x30 tag (s.ownerStatus c)
    []) ∧ (s.ownerStatus c = 0 → (t.flash.ownerSequence = c.sequence ∧ t.otp.locks = s.otp.locks ||| (beAt c.argument
    0 2 % 128) ∧ t.otp.ownerSlots = s.otp.ownerSlots)) ∧ (s.ownerStatus c ≠ 0 → (t.flash = s.flash ∧ t.otp = s.otp))) ∧
  (∀ (s : State) (src : KilnSource) (tag : Nat) (b : Bytes) (c : OwnerCommand), s.power.state ≠ .off → s.power.state ≠
  .dormant → 1 ≤ s.power.stage → s.answersOn src = true → s.kilnStops src 0x30 = none → readOwner b = some c → beAt b
  4 1 = 6 →
    ∃ t, exec (.setLockedRanges src tag b) s = .next t ∧ s.answeredKiln t src 0x30 tag (s.ownerStatus c) [] ∧
    (s.ownerStatus c = 0 → (t.flash.ownerSequence = c.sequence ∧ t.flash.lockedRanges = (List.range (beAt c.argument 0
    1)).map (fun i => (beAt c.argument (8 + 8 * i) 2, beAt c.argument (10 + 8 * i) 2)))) ∧ (s.ownerStatus c ≠ 0 →
    (t.flash = s.flash ∧ t.otp = s.otp))) ∧
  (∀ (s : State) (src : KilnSource) (tag : Nat) (b : Bytes) (c : OwnerCommand), s.power.state ≠ .off → s.power.state ≠
  .dormant → 1 ≤ s.power.stage → s.answersOn src = true → s.kilnStops src 0x30 = none → readOwner b = some c → beAt b
  4 1 = 7 →
    ∃ t, exec (.setPeerAllowList src tag b) s = .next t ∧ s.answeredKiln t src 0x30 tag (s.ownerStatus c) [] ∧
    (s.ownerStatus c = 0 → (t.flash.ownerSequence = c.sequence ∧ t.flash.allowList = (List.range (beAt c.argument 0
    2)).map (fun i => beAt c.argument (8 + 8 * i) 8))) ∧ (s.ownerStatus c ≠ 0 → (t.flash = s.flash ∧ t.otp = s.otp)))

/-- Pairing (certificates and keys are free: log entry 5; the address of requests: log entry 28). -/
def Obligations.PairingRunsAndRetries : Prop :=
  (∀ (s : State) (p mac : Nat) (b : Bytes), s.operating = true → s.kilnReaches p = true → s.pairs p = true → mac ≤
  ofBe (s.macBytes p) →
    ∃ t, exec (.pairInit p mac b) s = .next t ∧ (s.claimGood (readClaim b 32 1232) mac = true → ((t.pairing
    p).initBody = b ∧ (t.pairing p).initiator = false ∧ (t.pairing p).peerMac = mac ∧ s.kilnSent t p (s.kilnFrames p
    mac 2 0x40 0 0 (t.pairing p).sent))) ∧ (s.claimGood (readClaim b 32 1232) mac = false → (t.kiln.pairings =
    s.kiln.pairings.erase p ∧ s.kilnSent t p (s.kilnFrames p mac 2 0x40 0 0x20 [])))) ∧
  (∀ (s : State) (p mac : Nat) (b : Bytes), s.operating = true → s.kilnReaches p = true → s.pairingPort p = false →
    ∃ t, exec (.pairInit p mac b) s = .next t ∧ s.kilnSent t p (s.kilnFrames p mac 2 0x40 0 0x12 []) ∧ t.kiln.pairings
    = s.kiln.pairings) ∧
  (∀ (s : State) (p : Nat) (b : Bytes), s.operating = true → s.kilnReaches p = true → s.pairingPort p = false →
    ∃ t, exec (.pairConfirm p b) s = .next t ∧ s.kilnSent t p (s.kilnFrames p (s.pairing p).peerMac 2 0x41 0 0x12 [])
    ∧ t.kiln.pairings = s.kiln.pairings) ∧
  (∀ (s : State) (p mac : Nat) (b : Bytes), s.operating = true → s.kilnReaches p = true → s.pairs p = true →
  (s.pairing p).initiator = true → (s.pairing p).command = 0x40 →
    ∃ t, exec (.pairResponse p mac b) s = .next t ∧ ((s.claimGood (readClaim b 64 1168) mac && slice b 32 32 == shake
    (s.pairing p).initBody 32) = true → ((t.pairing p).command = 0x41 ∧ (t.pairing p).attempts = 1 ∧ (t.pairing
    p).sentAt = s.elapsed ∧ s.kilnSent t p (s.kilnFrames p kilnGroup 1 0x41 0 0 (t.pairing p).sent))) ∧ ((s.claimGood
    (readClaim b 64 1168) mac && slice b 32 32 == shake (s.pairing p).initBody 32) = false → (t.kiln.pairings =
    s.kiln.pairings.erase p ∧ t.out = s.out))) ∧
  (∀ (s : State) (p : Nat) (x : Bytes), s.operating = true → s.kilnReaches p = true → s.pairs p = true → (s.pairing
  p).initiator = false → (s.pairing p).expected = x → x ≠ [] → s.room 1 →
    ∃ t, exec (.pairConfirm p x) s = .next t ∧ (p < 256 → s.kilnSent t p (s.kilnFrames p (s.pairing p).peerMac 2 0x41
    0 0 (pairKeys (s.pairing p).seed (s.pairing p).initBody (s.pairing p).sent).2.2.2)) ∧ (256 ≤ p → s.out ++
    (s.kilnFrames p (s.pairing p).peerMac 2 0x41 0 0 (pairKeys (s.pairing p).seed (s.pairing p).initBody (s.pairing
    p).sent).2.2.2).map (Emission.stack (p - 256)) <+: t.out) ∧ t.kiln.pairings = s.kiln.pairings.erase p ∧
    (((t.mkaPort p).sessions.head?.map fun y => (y.cak, y.ckn)) = some ((s.pairing p).cak, (s.pairing p).ckn)) ∧
    (t.mkaPort p).expires = some (s.now + nsUnits s.flash.cakLifetime) ∧ s.records t 874 p ∧ t.counter (kilnItem 6) =
    (s.counter (kilnItem 6) + 1) % 18446744073709551616) ∧
  (∀ (s : State) (p : Nat) (x : Bytes), s.operating = true → s.kilnReaches p = true → s.pairs p = true → (s.pairing
  p).initiator = true → (s.pairing p).command = 0x41 → (s.pairing p).expected = x → x ≠ [] → s.room 1 →
    ∃ t, exec (.pairDone p x) s = .next t ∧ t.kiln.pairings = s.kiln.pairings.erase p ∧ (((t.mkaPort
    p).sessions.head?.map fun y => (y.cak, y.ckn)) = some ((s.pairing p).cak, (s.pairing p).ckn)) ∧ (t.mkaPort
    p).initiator = true ∧ s.records t 874 p ∧ t.counter (kilnItem 6) = (s.counter (kilnItem 6) + 1) %
    18446744073709551616) ∧
  (∀ (s : State) (p : Nat), s.operating = true → s.kilnReaches p = true → (s.pairing p).initiator = true → (s.pairing
  p).failed = false → s.after (s.pairing p).sentAt (nsUnits (s.n 0xA033 0)) = true → (s.pairing p).attempts < 3 →
    ∃ t, exec (.pairTimeout p) s = .next t ∧ t.pairing p =
    { s.pairing p with attempts := (s.pairing p).attempts + 1, sentAt := s.elapsed } ∧ s.kilnSent t p (s.kilnFrames p
    kilnGroup 1 (s.pairing p).command 0 0 (s.pairing p).sent)) ∧
  (∀ (s : State) (p : Nat), s.operating = true → (s.pairing p).initiator = true → (s.pairing p).failed = false →
  s.after (s.pairing p).sentAt (nsUnits (s.n 0xA033 0)) = true → 3 ≤ (s.pairing p).attempts → s.room 1 →
    ∃ t, exec (.pairTimeout p) s = .next t ∧ t.pairing p = { s.pairing p with failed := true, sentAt := s.elapsed } ∧
    t.out = s.out ∧ s.records t 875 p ∧ t.counter (kilnItem 7) = (s.counter (kilnItem 7) + 1) % 18446744073709551616) ∧
  (∀ (s : State) (p : Nat), s.operating = true → s.kilnReaches p = true → (s.pairing p).failed = true → s.after
  (s.pairing p).sentAt (nsUnits 10000000000) = true → s.pairs p = true → s.room 1 →
    ∃ t, exec (.pairingRetryTimer p) s = .next t ∧ (t.pairing p).failed = false ∧ (t.pairing p).initiator = true ∧
    (t.pairing p).command = 0x40 ∧ s.kilnSent t p (s.kilnFrames p kilnGroup 1 0x40 0 0 (t.pairing p).sent) ∧ s.records
    t 873 p) ∧
  (∀ (s : State) (p e : Nat), s.operating = true → (s.mkaPort p).expires = some e → (s.mkaPort p).initiator = true → e
  ≤ s.now → s.pairs p = true → s.room 1 →
    ∃ t, exec (.cakLifetimeExpiry p) s = .next t ∧ (t.mkaPort p).expires = none ∧ (t.mkaPort p).sessions.map
    MkaSession.cak = (s.mkaPort p).sessions.map MkaSession.cak ∧ (t.pairing p).initiator = true ∧ s.records t 873 p)

/-- MKA and the key path (the ICV and key unwrapping are free: log entry 5; older receive SAs and repeated SAKs: log
entry 53). -/
def Obligations.MacsecKeysComeAndGo : Prop :=
  (∀ (s : State) (p : Nat) (d : Mkpdu) (x : MkaSession) (q : MkaPeer), s.operating = true → 256 ≤ p → s.stackUsable (p
  - 256) = true → s.stackBarred (p - 256) = false → frameSound d.frame = true → beAt d.frame.data 12 2 = 0x888E →
  s.macsecOn p = true → s.session? p d.ckn = some x → d.member ≠ x.member → ((x.peers.find? fun y => y.member ==
  d.member) = some q) → q.number < d.number →
    ∃ t, exec (.mkpdu p d) s = .next t ∧ t.counter (kilnItem 9) = (s.counter (kilnItem 9) + 1) % 18446744073709551616
    ∧ (Config.mkaIcvGood x.ick d.raw = true → ((t.session? p d.ckn).map MkaSession.peers) = some (x.peers.map fun y =>
    if y.member == d.member then { y with number := d.number, priority := d.priority, heardAt := s.elapsed } else y))
    ∧ (Config.mkaIcvGood x.ick d.raw = false → (t.session? p d.ckn = some x ∧ t.counter (kilnItem 10) = (s.counter
    (kilnItem 10) + 1) % 18446744073709551616))) ∧
  (∀ (s : State) (p : Nat) (d : Mkpdu) (x : MkaSession) (q : MkaPeer), s.operating = true → p < 256 → s.hears p
  d.frame = true → s.unscheduled p = true → s.macsecOn p = true → s.session? p d.ckn = some x → d.member ≠ x.member →
  ((x.peers.find? fun y => y.member == d.member) = some q) → q.number < d.number →
    ∃ t, exec (.mkpdu p d) s = .next t ∧ t.counter (kilnItem 9) = (s.counter (kilnItem 9) + 1) % 18446744073709551616
    ∧ (Config.mkaIcvGood x.ick d.raw = true → ((t.session? p d.ckn).map MkaSession.peers) = some (x.peers.map fun y =>
    if y.member == d.member then { y with number := d.number, priority := d.priority, heardAt := s.elapsed } else y))
    ∧ (Config.mkaIcvGood x.ick d.raw = false → (t.session? p d.ckn = some x ∧ t.counter (kilnItem 10) = (s.counter
    (kilnItem 10) + 1) % 18446744073709551616))) ∧
  (∀ (s : State) (p : Nat) (d : Mkpdu) (x : MkaSession) (an number : Nat) (q : MkaPeer), s.operating = true → 256 ≤ p
  → s.stackUsable (p - 256) = true → s.stackBarred (p - 256) = false → frameSound d.frame = true → beAt d.frame.data
  12 2 = 0x888E → s.macsecOn p = true → s.session? p d.ckn = some x → d.member ≠ x.member → ((x.peers.find? fun y =>
  y.member == d.member) = some q) → q.number < d.number → d.sak = some (an, number) → s.serverIs p x d = true →
  ((x.saks.any fun y => y.an == an && y.number == number) = false) →
    ∃ t, exec (.mkpdu p d) s = .next t ∧ t.counter (kilnItem 9) = (s.counter (kilnItem 9) + 1) % 18446744073709551616
    ∧ (Config.mkaIcvGood x.ick d.raw = true → ((t.session? p d.ckn).map MkaSession.saks) = some ((match
    Config.unwrapSak x.kek d.wrappedSak with | some key => [⟨an, number, key⟩] | none => []) ++ x.saks))) ∧
  (∀ (s : State) (p : Nat) (d : Mkpdu) (x : MkaSession) (an number : Nat) (q : MkaPeer), s.operating = true → p < 256
  → s.hears p d.frame = true → s.unscheduled p = true → s.macsecOn p = true → s.session? p d.ckn = some x → d.member ≠
  x.member → ((x.peers.find? fun y => y.member == d.member) = some q) → q.number < d.number → d.sak = some (an,
  number) → s.serverIs p x d = true → ((x.saks.any fun y => y.an == an && y.number == number) = false) →
    ∃ t, exec (.mkpdu p d) s = .next t ∧ t.counter (kilnItem 9) = (s.counter (kilnItem 9) + 1) % 18446744073709551616
    ∧ (Config.mkaIcvGood x.ick d.raw = true → ((t.session? p d.ckn).map MkaSession.saks) = some ((match
    Config.unwrapSak x.kek d.wrappedSak with | some key => [⟨an, number, key⟩] | none => []) ++ x.saks))) ∧
  (∀ (s : State) (p : Nat) (d : Mkpdu) (x : MkaSession), s.operating = true → 256 ≤ p → s.stackUsable (p - 256) = true
  → s.stackBarred (p - 256) = false → frameSound d.frame = true → beAt d.frame.data 12 2 = 0x888E → s.macsecOn p =
  true → s.session? p d.ckn = some x → d.member ≠ x.member → ((x.peers.find? fun y => y.member == d.member) = none) →
  d.live.contains x.member = true ∨ d.potential.contains x.member = true → s.receiveScs < 1024 → x.peers.length < 32 ∨
  256 ≤ p ∨ isSG p = false → p < 258 → s.room 1 →
    ∃ t, exec (.mkpdu p d) s = .next t ∧ t.counter (kilnItem 9) = (s.counter (kilnItem 9) + 1) % 18446744073709551616
    ∧ (Config.mkaIcvGood x.ick d.raw = true → (((t.session? p d.ckn).map MkaSession.peers) = some (x.peers ++ [⟨d.sci,
    d.member, d.number, d.priority, s.elapsed, true⟩]) ∧ s.records t 876 p))) ∧
  (∀ (s : State) (p : Nat) (d : Mkpdu) (x : MkaSession), s.operating = true → p < 256 → s.hears p d.frame = true →
  s.unscheduled p = true → s.macsecOn p = true → s.session? p d.ckn = some x → d.member ≠ x.member → ((x.peers.find?
  fun y => y.member == d.member) = none) → d.live.contains x.member = true ∨ d.potential.contains x.member = true →
  s.receiveScs < 1024 → x.peers.length < 32 ∨ 256 ≤ p ∨ isSG p = false → p < 258 → s.room 1 →
    ∃ t, exec (.mkpdu p d) s = .next t ∧ t.counter (kilnItem 9) = (s.counter (kilnItem 9) + 1) % 18446744073709551616
    ∧ (Config.mkaIcvGood x.ick d.raw = true → (((t.session? p d.ckn).map MkaSession.peers) = some (x.peers ++ [⟨d.sci,
    d.member, d.number, d.priority, s.elapsed, true⟩]) ∧ s.records t 876 p))) ∧
  (∀ (s : State) (p : Nat) (d : Mkpdu) (x : MkaSession), s.operating = true → 256 ≤ p → s.stackUsable (p - 256) = true
  → s.stackBarred (p - 256) = false → frameSound d.frame = true → beAt d.frame.data 12 2 = 0x888E → s.macsecOn p =
  true → s.session? p d.ckn = some x → d.member ≠ x.member → ((x.peers.find? fun y => y.member == d.member) = none) →
  d.live.contains x.member = true ∨ d.potential.contains x.member = true → 1024 ≤ s.receiveScs → p < 258 → s.room 2 →
    ∃ t, exec (.mkpdu p d) s = .next t ∧ (Config.mkaIcvGood x.ick d.raw = true → (((t.session? p d.ckn).map
    MkaSession.peers) = some (x.peers ++ [⟨d.sci, d.member, d.number, d.priority, s.elapsed, false⟩]) ∧ s.records t
    881 p ∧ s.records t 876 p))) ∧
  (∀ (s : State) (p : Nat) (d : Mkpdu) (x : MkaSession), s.operating = true → 256 ≤ p → s.stackUsable (p - 256) = true
  → s.stackBarred (p - 256) = false → frameSound d.frame = true → beAt d.frame.data 12 2 = 0x888E → s.macsecOn p =
  true → s.session? p d.ckn = some x → d.member ≠ x.member → ((x.peers.find? fun y => y.member == d.member) = none) →
  d.live.contains x.member = false → d.potential.contains x.member = false →
    ∃ t, exec (.mkpdu p d) s = .next t ∧ t.counter (kilnItem 9) = (s.counter (kilnItem 9) + 1) % 18446744073709551616
    ∧ (Config.mkaIcvGood x.ick d.raw = true → ((t.session? p d.ckn).map fun y => (y.peers, y.potential)) = some
    (x.peers, d.member :: x.potential.erase d.member))) ∧
  (∀ (s : State) (p : Nat) (d : Mkpdu) (x : MkaSession), s.operating = true → p < 256 → s.hears p d.frame = true →
  s.unscheduled p = true → s.macsecOn p = true → s.session? p d.ckn = some x → d.member ≠ x.member → ((x.peers.find?
  fun y => y.member == d.member) = none) → d.live.contains x.member = false → d.potential.contains x.member = false →
    ∃ t, exec (.mkpdu p d) s = .next t ∧ t.counter (kilnItem 9) = (s.counter (kilnItem 9) + 1) % 18446744073709551616
    ∧ (Config.mkaIcvGood x.ick d.raw = true → ((t.session? p d.ckn).map fun y => (y.peers, y.potential)) = some
    (x.peers, d.member :: x.potential.erase d.member))) ∧
  (∀ (s : State) (p : Nat) (x : MkaSession), s.operating = true → s.kilnReaches p = true → s.macsecOn p = true →
  (s.mkaPort p).sessions = [x] → s.after x.helloAt (nsUnits 2000000000) = true → x.rekey = false ∨ s.keyServer p x =
  false ∨ x.peers = [] →
    ∃ t, exec (.mkaHelloTimer p) s = .next t ∧ (((t.mkaPort p).sessions.map fun y => (y.number, y.helloAt)) =
    [(x.number + 1, s.elapsed)]) ∧ s.mkpduSent t p (s.mkpduOut p { x with number := x.number + 1 }) ∧ t.counter
    (kilnItem 8) = (s.counter (kilnItem 8) + 1) % 18446744073709551616) ∧
  (∀ (s : State) (p : Nat) (x : MkaSession), s.operating = true → s.kilnReaches p = true → s.macsecOn p = true →
  (s.mkaPort p).sessions = [x] → s.after x.helloAt (nsUnits 2000000000) = true → x.rekey = true → s.keyServer p x =
  true → x.peers ≠ [] →
    ∃ t, exec (.mkaHelloTimer p) s = .next t ∧ (((t.mkaPort p).sessions.map fun y => (y.keyNumber, y.saks)) =
    [(x.keyNumber + 1, ⟨((s.mkaPort p).nextAn + 1) % 4, x.keyNumber + 1, (List.range 32).map fun i =>
    Config.randomByte (s.kiln.randomUsed + i)⟩ :: x.saks)]) ∧ (s.mkpduSent t p (s.mkpduOut p
    { x with number := x.number + 1, saks := ⟨((s.mkaPort p).nextAn + 1) % 4, x.keyNumber + 1, (List.range 32).map fun i => Config.randomByte (s.kiln.randomUsed + i)⟩ :: x.saks }))
    ∧ t.counter (kilnItem 11) = (s.counter (kilnItem 11) + 1) % 18446744073709551616) ∧
  (∀ (s : State) (p sci : Nat) (x : MkaSession), s.operating = true → s.macsecOn p = true → (s.mkaPort p).sessions =
  [x] → ((x.peers.any fun y => y.sci == sci && s.after y.heardAt (nsUnits 6000000000)) = true) → p < 258 → s.room 1 →
    ∃ t, exec (.mkaLifeTimeExpiry p sci) s = .next t ∧ ((t.mkaPort p).sessions.map MkaSession.peers = [x.peers.filter
    fun y => y.sci != sci]) ∧ ((t.mkaPort p).rxSas = (s.mkaPort p).rxSas.filter fun y => y.1 != sci) ∧ ((t.mkaPort
    p).txSa = (if x.peers.all (fun y => y.sci == sci) = true then none else (s.mkaPort p).txSa)) ∧ s.records t 877 p) ∧
  (∀ (s : State) (p an key sci : Nat), s.operating = true → s.macsecOn p = true → (s.mkaPort p).mayWrite an key sci
  false = true →
    ∃ t, exec (.keyPathWrite p an key sci false) s = .next t ∧ ((t.mkaPort p).rxSas = (sci, an, key) :: (s.mkaPort
    p).rxSas.filter fun x => !(x.1 == sci && (x.2.1 == an || x.2.2 + 1 < key))) ∧ (t.mkaPort p).lastWrite = s.elapsed
    ∧ (t.mkaPort p).txSa = (s.mkaPort p).txSa) ∧
  (∀ (s : State) (p an key sci : Nat), s.operating = true → s.macsecOn p = true → (s.mkaPort p).mayWrite an key sci
  false = false →
    ∃ t, exec (.keyPathWrite p an key sci false) s = .next t ∧ t.kiln = s.kiln) ∧
  (∀ (s : State) (p an key sci : Nat), s.operating = true → s.macsecOn p = true → (s.mkaPort p).mayWrite an key sci
  true = true → s.isLane p = false → p < 258 → an < 4 → s.room 1 →
    ∃ t, exec (.keyPathWrite p an key sci true) s = .next t ∧ (t.mkaPort p).txSa = some (an, key) ∧ (t.mkaPort p).txPn
    = 0 ∧ s.records t 878 (p + 1024 * an)) ∧
  (∀ (s : State) (p an key sci : Nat), s.operating = true → s.macsecOn p = true → (s.mkaPort p).mayWrite an key sci
  true = true → s.isLane p = true → p < 256 → s.ringState = ringMaster ∨ s.ringState = ringFollower ∨ s.ringState =
  ringSapling →
    ∃ t, exec (.keyPathWrite p an key sci true) s = .next t ∧ (t.mkaPort p).pendingTx = some (an, key) ∧ (t.mkaPort
    p).pendingIn = s.cycle ∧ (t.mkaPort p).txSa = (s.mkaPort p).txSa) ∧
  (∀ (s : State) (p an key : Nat), s.operating = true → (s.mkaPort p).pendingTx = some (an, key) → (s.mkaPort
  p).pendingIn ≠ s.cycle → p < 258 → an < 4 → s.room 1 →
    ∃ t, exec (.txSaSwitch p) s = .next t ∧ (t.mkaPort p).txSa = some (an, key) ∧ (t.mkaPort p).pendingTx = none ∧
    s.records t 878 (p + 1024 * an)) ∧
  (∀ (s : State) (p : Nat), s.operating = true → (s.kiln.mka.get? p).isSome = true → s.after (s.mkaPort p).lastWrite
  (nsUnits (s.n 0xA032 0)) = true →
    ∃ t, exec (.sakHoldoverExpiry p) s = .next t ∧ t.mkaPort p =
    { s.mkaPort p with txSa := none, pendingTx := none, rxSas := [], oldRxSas := [] })

/-! ## Faults and diagnostics (chapter 11) -/
/-- Faults and diagnostics (the commons' instance of classes 14 and 15: log entry 29). -/
def Obligations.FaultsClearAndDiagnose : Prop :=
  (∀ (s : State) (cls inst : Nat), s.power.state = .active ∨ s.power.state = .idle → s.clearable cls = [inst] → s.room
  2 →
    ∃ t, exec (.faultBucketBoundary cls) s = .next t ∧ (t.faults.instances.getD (faultKey cls inst)
    FaultInstance.init).lasting = false ∧ t.n 0xB001 2 cls = s.n 0xB001 2 cls - 1 ∧ s.records t 898 (faultArg cls
    inst)) ∧
  (∀ (s : State) (p : Nat) (wireP wireN : Int) (r cp cn c : Nat), s.operating = true → isPort p = true → isBB p =
  false → s.on 0xB040 1 p = true → 1 ≤ c → c ≤ 4 → ([1, 2, 3, 4].map (fun d => mdiMeets d wireP wireN r cp cn) = [1,
  2, 3, 4].map (fun d => decide (d = c))) → (s.mdi p).declared = [] → mdiSamples c ≤ (s.mdi p).meet.getD (c - 1) 0 + 1
  → s.portOn p 1 1 = false → s.n 0xA020 5 p ≠ 0 → s.staysAsItIs (2 + c) p = true → s.room 4 →
    ∃ t, exec (.mdiSample p wireP wireN r cp cn) s = .next t ∧ t.obj 0xB041 3 p = clampInt (-32768) 32767 wireP ∧
    t.obj 0xB041 4 p = clampInt (-32768) 32767 wireN ∧ t.n 0xB041 5 p = min 65535 r ∧ (t.mdi p).declared = [c] ∧ t.n
    0xB041 1 p = c ∧ s.records t 902 (p % 1024 + 1024 * c)) ∧
  (∀ (s : State) (p : Nat) (wireP wireN : Int) (r cp cn : Nat), s.operating = true → isPort p = true → isBB p = false
  → s.on 0xB040 1 p = true → ([1, 2, 3, 4].any (fun d => mdiMeets d wireP wireN r cp cn) = false) → (s.mdi p).declared
  = [4] → 9 ≤ (s.mdi p).miss.getD 3 0 → s.room 1 →
    ∃ t, exec (.mdiSample p wireP wireN r cp cn) s = .next t ∧ (t.mdi p).declared = [] ∧ t.n 0xB041 1 p = 0 ∧
    s.records t 903 (p % 1024 + 1024 * 4)) ∧
  (∀ (s : State) (p : Nat), s.operating = true → isPort p = true → isBB p = false → s.on 0xB040 2 p = true →
  s.staysAsItIs 7 p = true → s.room 2 →
    ∃ t, exec (.polarityCorrected p) s = .next t ∧ t.on 0xB041 6 p = !s.on 0xB041 6 p ∧ t.counter (portItem p 30) =
    (s.counter (portItem p 30) + 1) % 18446744073709551616 ∧ s.records t 904 p) ∧
  (∀ (s : State) (p : Nat), s.operating = true → isPort p = true → isBB p = false → s.on 0xB040 2 p = false → s.room 1
  →
    ∃ t, exec (.polarityCorrected p) s = .next t ∧ t.od = s.od ∧ s.records t 904 p) ∧
  (∀ (s : State) (p kind distance : Nat), s.operating = true → p < 384 → kind < 256 → distance < 65536 → s.faults.tdr
  = some p → s.power.throttled = false → s.room 1 →
    ∃ t, exec (.tdrComplete kind distance) s = .next t ∧ t.faults.tdr = none ∧ t.n 0xB051 1 p = kind ∧ t.n 0xB051 2 p
    = distance ∧ t.n 0xB051 3 p = s.now ∧ s.records t 905 ((p + 1024 * kind + 262144 * (distance % 8192)) %
    2147483648)) ∧
  (∀ (s : State) (g m : Nat), s.power.state = .active ∨ s.power.state = .idle → g < 8 → s.staysAsItIs 14 g = true →
  s.room 2 →
    ∃ t, exec (.memoryError (.grove g m) true) s = .next t ∧ t.counter (groveItem g (24 + m % 4)) = (s.counter
    (groveItem g (24 + m % 4)) + 1) % 18446744073709551616 ∧ t.canopy.scrubCorrected = s.canopy.scrubCorrected + 1 ∧
    s.records t (386 + 8 * g) (m % 256)) ∧
  (∀ (s : State) (g m : Nat), s.power.state = .active ∨ s.power.state = .idle → g < 8 → s.staysAsItIs 15 g = true →
  s.room 2 →
    ∃ t, exec (.memoryError (.grove g m) false) s = .next t ∧ t.counter (groveItem g 28) = (s.counter (groveItem g 28)
    + 1) % 18446744073709551616 ∧ s.records t (387 + 8 * g) (m % 256)) ∧
  (∀ (s : State) (m : Nat), s.power.state = .active ∨ s.power.state = .idle → s.staysAsItIs 14 8 = true → s.room 2 →
    ∃ t, exec (.memoryError (.commons m) true) s = .next t ∧ t.canopy.scrubCorrected = s.canopy.scrubCorrected + 1 ∧
    s.records t 916 (m % 256)) ∧
  (∀ (s : State) (m : Nat), s.power.state = .active ∨ s.power.state = .idle → s.staysAsItIs 15 8 = true → s.room 2 →
    ∃ t, exec (.memoryError (.commons m) false) s = .next t ∧ s.records t 918 (m % 256))

/-- Supply, temperature, AUX3V3, the canopy clock and lost events. -/
def Obligations.SupplyTemperatureAndCanopySignals : Prop :=
  (∀ (s : State) (v : Nat), s.power.state = .active ∨ s.power.state = .idle → s.power.supplyWarned = false →
  s.staysAsItIs 20 0 = true → s.room 2 → v < 3500 →
    ∃ t, exec (.supplyWarning v) s = .next t ∧ t.n 0xB060 1 = min v 65535 ∧ (t.n 0xB060 2 = (if s.n 0xB060 2 = 2 then
    2 else 1)) ∧ t.power.supplyWarned = true ∧ s.records t 906 (v / 50 % 256)) ∧
  (∀ (s : State) (v : Nat), s.power.state = .active ∨ s.power.state = .idle → s.power.supplyWarned = true → s.room 1 →
  3600 ≤ v →
    ∃ t, exec (.supplyRecovered v) s = .next t ∧ t.n 0xB060 1 = min v 65535 ∧ (t.n 0xB060 2 = (if s.n 0xB060 2 = 2
    then 2 else 0)) ∧ t.power.supplyWarned = false ∧ s.records t 910 (v / 50 % 256)) ∧
  (∀ (s : State) (v : Nat), s.power.state = .active ∨ s.power.state = .idle → s.n 0xB060 2 ≠ 2 → s.room 1 → 7500 < v →
    ∃ t, exec (.supplyOvervoltage v) s = .next t ∧ t.n 0xB060 1 = min v 65535 ∧ t.n 0xB060 2 = 2 ∧ s.records t 908 (v
    / 50 % 256)) ∧
  (∀ (s : State), s.power.state = .active ∨ s.power.state = .idle → s.n 0xB060 2 = 2 →
    ∃ t, exec .overvoltageEnded s = .next t ∧ (t.n 0xB060 2 = (if s.power.supplyWarned = true then 1 else 0)) ∧
    t.events.fifo = s.events.fifo) ∧
  (∀ (s : State) (sensor : Nat) (t' : Int), s.power.state = .active ∨ s.power.state = .idle → sensor < 12 → s.n 0xB071
  0 = 0 → s.staysAsItIs 21 0 = true → s.room 2 → 420 ≤ t' →
    ∃ t, exec (.thermalWarning sensor t') s = .next t ∧ t.obj 0xB070 (sensor + 1) = clampInt (-32768) 32767 t' ∧ t.n
    0xB071 0 = 1 ∧ s.records t 911 (sensor + 256 * celsius t')) ∧
  (∀ (s : State) (sensor : Nat) (t' : Int), s.power.state = .active ∨ s.power.state = .idle → sensor < 12 → s.n 0xB071
  0 ≠ 2 → 460 ≤ t' → s.staysAsItIs 21 0 = true → s.room 3 →
    ∃ t, exec (.thermalThrottle sensor t') s = .next t ∧ t.n 0xB071 0 = 2 ∧ t.power.throttled = true ∧ s.records t 912
    (sensor + 256 * celsius t')) ∧
  (∀ (s : State), s.power.state = .active ∨ s.power.state = .idle → s.n 0xB071 0 = 2 →
    ∃ t, exec .thermalThrottleEnd s = .next t ∧ t.n 0xB071 0 = 1 ∧ t.power.throttled = false ∧ t.events.fifo =
    s.events.fifo) ∧
  (∀ (s : State), s.power.state ≠ .dormant → s.power.state ≠ .off → s.n 0x2230 3 = 1 ∨ s.n 0x2230 3 = 3 → s.room 1 →
    ∃ t, exec .aux3v3Overcurrent s = .next t ∧ t.n 0x2230 3 = 2 ∧ t.power =
    { s.power with auxFaulty := true, auxSince := s.elapsed } ∧ s.records t 907 1) ∧
  (∀ (s : State), s.power.state = .dormant → s.n 0x2230 3 = 1 →
    ∃ t, exec .aux3v3Overcurrent s = .next t ∧ t.n 0x2230 3 = 0 ∧ t.canopy = { s.canopy with auxFault := true }) ∧
  (∀ (s : State), s.power.state = .active ∨ s.power.state = .idle → s.n 0x2230 3 = 2 → s.after s.power.auxSince
  (nsUnits 100000000) = true →
    ∃ t, exec (.aux3v3Retry true) s = .next t ∧ t.n 0x2230 3 = 1 ∧ t.power =
    { s.power with auxFaulty := true, auxSince := s.elapsed }) ∧
  (∀ (s : State), s.power.state = .active ∨ s.power.state = .idle → s.n 0x2230 3 = 2 → s.after s.power.auxSince
  (nsUnits 100000000) = true →
    ∃ t, exec (.aux3v3Retry false) s = .next t ∧ t.power = { s.power with auxFaulty := true, auxSince := s.elapsed } ∧
    t.od = s.od ∧ t.events.fifo = s.events.fifo ∧ t.out = s.out) ∧
  (∀ (s : State), s.power.state = .active ∨ s.power.state = .idle → s.n 0x2230 3 = 1 → s.room 1 →
    ∃ t, exec .aux3v3Undervoltage s = .next t ∧ t.n 0x2230 3 = 3 ∧ t.power.auxFaulty = true ∧ s.records t 907 2) ∧
  (∀ (s : State), s.power.state = .active ∨ s.power.state = .idle → s.power.auxFaulty = true → s.n 0x2230 3 = 1 ∨ s.n
  0x2230 3 = 3 → s.after s.power.auxSince (nsUnits 10000000) = true → s.room 1 →
    ∃ t, exec .aux3v3Recovered s = .next t ∧ t.n 0x2230 3 = 1 ∧ t.power.auxFaulty = false ∧ s.records t 909 0) ∧
  (∀ (s : State), s.power.state ≠ .off → s.n 0x3700 1 = 0 → s.n 0x2250 1 = 1 →
    ∃ t, exec .canopyCrystalSwitch s = .next t ∧ t.n 0x2250 1 = 0) ∧
  (∀ (s : State), s.power.state ≠ .off → s.n 0x2250 1 = 0 →
    ∃ t, exec .canopyCrystalFailure s = .next t ∧ t.n 0x2250 1 = 1 ∧ t.obj 0x2250 2 = (s.obj 0x2250 2 + 1) %
    4294967296) ∧
  (∀ (s : State) (k : Nat), s.events.raised = [] → s.events.lost = k → 0 < k → s.events.backlog < 1032 →
    ∃ t, exec .eventFifoRoom s = .next t ∧ t.obj 0xB021 0 = (s.obj 0xB021 0 + (k : Int)) % 4294967296 ∧ t.events.lost
    = 0 ∧ s.records t 921 (k % 256))

/-- Snapshots and dumps. -/
def Obligations.SnapshotsAndDumps : Prop :=
  (∀ (s : State), s.operating = true → s.snapshotDue = true → s.reader.writing = none → s.n 0xC000 3 ≠ 0xFF →
  (s.function (s.n 0xC000 3)).dumpBase ≠ 0 → s.mayWrite (s.n 0xC000 3) = true → 8 ≤ (s.function (s.n 0xC000
  3)).maxPayload → s.dumpSlot s.reader.nextSequence % 4096 ≤ 4088 →
    ∃ t, exec .counterSnapshot s = .next t ∧ t.reader.nextSequence = s.reader.nextSequence + 1 ∧ t.reader.lastSnapshot
    = some (s.cycleStart s.cycle) ∧ t.reader.writing = some (s.n 0xC000 3, s.dumpSlot s.reader.nextSequence +
    s.dumpLength - 8, s.reader.nextSequence, s.dumpLength) ∧ [.hostWrite (s.n 0xC000 3) (s.dumpSlot
    s.reader.nextSequence) (leBytes 8 s.reader.nextSequence) false] <+: t.out.drop s.out.length ∧ t.reader.frozen =
    none ∧ t.counter (readerItem 0) = (s.counter (readerItem 0) + 1) % 18446744073709551616 ∧ t.n 0xC001 1 =
    s.reader.nextSequence) ∧
  (∀ (s : State), s.operating = true → s.snapshotDue = true → s.reader.writing.isSome = true → s.room 1 →
    ∃ t, exec .counterSnapshot s = .next t ∧ t.reader.nextSequence = s.reader.nextSequence + 1 ∧ t.reader.writing =
    s.reader.writing ∧ t.reader.flagLost = true ∧ t.out = s.out ∧ t.counter (readerItem 2) = (s.counter (readerItem 2)
    + 1) % 18446744073709551616 ∧ s.records t 976 0) ∧
  (∀ (s : State), s.operating = true → s.snapshotDue = true → s.reader.writing = none → s.n 0xC000 3 = 0xFF →
    ∃ t, exec .counterSnapshot s = .next t ∧ t.reader.nextSequence = s.reader.nextSequence + 1 ∧ t.reader.writing =
    none ∧ t.reader.flagLost = true ∧ t.out = s.out ∧ t.counter (readerItem 3) = (s.counter (readerItem 3) + 1) %
    18446744073709551616) ∧
  (∀ (s : State) (fn at' seq len : Nat), s.operating = true → s.reader.writing = some (fn, at', seq, len) → s.mayWrite
  fn = true → 8 ≤ (s.function fn).maxPayload → at' % 4096 ≤ 4088 →
    ∃ t, exec .dumpComplete s = .next t ∧ t.reader.writing = none ∧ t.out = s.out ++ [.hostWrite fn at' (leBytes 8
    seq) false] ∧ t.counter (readerItem 1) = (s.counter (readerItem 1) + 1) % 18446744073709551616 ∧ t.counter
    (readerItem 4) = (s.counter (readerItem 4) + len) % 18446744073709551616) ∧
  (∀ (s : State) (fn : Nat), s.operating = true → s.snapshotDue = true → s.grantedFunctions = [fn] →
    ∃ t, exec .counterSnapshot s = .next t ∧ t.reader.pages.get? fn = some ⟨s.reader.nextSequence, s.cycle,
    s.cycleStart s.cycle, (s.grantedItems fn).map s.frozenItem⟩ ∧ t.reader.lastSnapshot = some (s.cycleStart s.cycle)
    ∧ t.counter (readerItem 7) = (s.counter (readerItem 7) + 1) % 18446744073709551616)

/-! ## Power, gating and bring-up (chapter 13) -/
/-- Power states, wakes, shutdown and recovery. -/
def Obligations.PowerStatesWakesAndShutdown : Prop :=
  (∀ (s : State), s.power.state = .active → 4 ≤ s.power.stage → s.power.idlePending = true → s.power.dormantPending =
  false → s.requestDue = true →
    ∃ t, exec .idleEntry s = .next t ∧ t.power.state = .idle ∧ t.power.idlePending = false ∧ t.n 0x2200 1 = 2 ∧
    t.ringState = ringDisabled ∧ t.otp = s.otp ∧ t.flash = s.flash) ∧
  (∀ (s : State), s.power.state = .idle → s.power.dormantPending = true → s.requestDue = true →
    ∃ t, exec .idleEntry s = .next t ∧ t.power.state = .dormant ∧ t.canopy =
    { s.canopy with latched := some (s.now, s.canopy.counter), wakeArmed := (s.canopy.wakeArmed && decide (s.now < s.n 0x2220 3)) }
    ∧ t.otp = s.otp ∧ t.flash = s.flash ∧ t.pins.faultLow = false ∧ (t.out = s.out ++ (if s.pins.faultLow then
    [.faultPin false] else []))) ∧
  (∀ (s : State), s.power.state = .active → 4 ≤ s.power.stage → s.power.dormantPending = true → s.requestDue = true →
    ∃ t, exec .idleEntry s = .next t ∧ t.power.state = .dormant ∧ t.canopy.latched = some (s.now, s.canopy.counter) ∧
    t.otp = s.otp ∧ t.flash = s.flash ∧ t.pins.faultLow = false) ∧
  (∀ (s : State), s.power.state = .idle → s.on 0x2220 1 = true → s.power.wakePending = false →
    ∃ t, exec .wakePin s = .next t ∧ t.power.wakePending = true ∧ t.canopy.wakeLog.head? = some ⟨s.now, 1, 0xFFFF⟩) ∧
  (∀ (s : State), s.power.state = .dormant → s.on 0x2220 1 = true → s.power.brownOut = false → s.power.thermalStop =
  false →
    ∃ t, exec .wakePin s = .next t ∧ t.power.state = .active ∧ t.power.stage = 1 ∧ t.n 0x1001 0 = 1 ∧
    t.pins.pewakenLow = (s.on 0x2220 5 || s.pins.pewakenLow) ∧ t.canopy.wakeLog.head? = some ⟨s.canopyTime, 1,
    0xFFFF⟩) ∧
  (∀ (s : State) (p : Nat), s.power.state = .idle → isPort p = true → isBB p = false → maskBit (s.obj 0x2220 4) p =
  true → s.power.wakePending = false →
    ∃ t, exec (.portWakeActivity p) s = .next t ∧ t.power.wakePending = true ∧ t.canopy.wakeLog.head? = some ⟨s.now,
    2, p⟩) ∧
  (∀ (s : State), s.power.state = .idle → s.canopy.wakeArmed = true → s.n 0x2220 3 ≤ s.keptTime → s.power.wakePending
  = false →
    ∃ t, exec .wakeAt s = .next t ∧ t.power.wakePending = true ∧ t.canopy.wakeArmed = false ∧ t.canopy.wakeLog.head? =
    some ⟨s.now, 3, 0xFFFF⟩) ∧
  (∀ (s : State), s.power.state = .idle → s.power.wakePending = true →
    ∃ t, exec .activeResumed s = .next t ∧ t.power.state = .active ∧ t.power.wakePending = false ∧ t.n 0x2200 1 = 3) ∧
  (∀ (s : State) (v : Nat), s.power.state = .active ∨ s.power.state = .idle → v < 3200 → s.power.brownOut = false →
  s.power.thermalStop = false →
    ∃ t, exec (.brownOut v) s = .next t ∧ t.power.state = .dormant ∧ t.power.brownOut = true ∧ t.canopy.shutdown =
    some (1, s.now) ∧ t.canopy.shutdownDue = true ∧ t.canopy.latched = some (s.now, s.canopy.counter) ∧
    t.pins.faultLow = false ∧ t.n 0x2230 3 = 0 ∧ t.otp = s.otp ∧ t.flash = s.flash) ∧
  (∀ (s : State), s.power.brownOut = true → s.power.thermalStop = false → s.power.state = .dormant →
    ∃ t, exec .brownOutRecovered s = .next t ∧ t.power.state = .active ∧ t.power.stage = 0 ∧ t.power.brownOut = false
    ∧ t.pins.faultLow = true ∧ t.canopy.wakeLog.head? = some ⟨s.canopyTime, 7, 0xFFFF⟩) ∧
  (∀ (s : State) (sensor : Nat) (temp : Int), s.power.state = .active ∨ s.power.state = .idle → 500 ≤ temp →
    ∃ t, exec (.thermalShutdown sensor temp) s = .next t ∧ t.power.state = .dormant ∧ t.power.thermalStop = true ∧
    t.canopy.shutdown = some (2, s.now) ∧ t.canopy.shutdownDue = true ∧ t.canopy.thermalTrip = some (sensor, temp) ∧
    t.pins.faultLow = false ∧ t.n 0x2230 3 = 0) ∧
  (∀ (s : State) (temp : Int), s.power.thermalStop = true → s.power.state = .dormant → s.power.brownOut = false → temp
  < 400 →
    ∃ t, exec (.thermalNormal temp) s = .next t ∧ t.power.state = .active ∧ t.power.stage = 0 ∧ t.power.thermalStop =
    false ∧ t.canopy.wakeLog.head? = some ⟨s.canopyTime, 7, 0xFFFF⟩) ∧
  (∀ (s : State) (temp : Int), s.power.state = .active ∨ s.power.state = .idle → s.power.thermalStop = false → s.n
  0xB071 0 ≠ 0 → s.room 1 → temp < 400 →
    ∃ t, exec (.thermalNormal temp) s = .next t ∧ t.n 0xB071 0 = 0 ∧ t.power.throttled = false ∧ s.records t 914
    (celsius temp)) ∧
  (∀ (s : State),
    ∃ t, exec .canopyLost s = .next t ∧ t.power.state = .off ∧ t.otp = s.otp ∧ t.flash = s.flash ∧ t.canopy =
    { State.reset.canopy with wakeLog := t.canopy.wakeLog } ∧ t.pins.faultLow = false)

/-- R399: a wake source aborts an entry into DORMANT. -/
def Obligations.WakeAbortsDormantEntry : Prop :=
  (∀ (s : State), s.power.state = .active → s.power.dormantPending = true → s.on 0x2220 1 = true →
    ∃ t, exec .wakePin s = .next t ∧ t.power = { s.power with dormantPending := false }) ∧
  (∀ (s : State), s.power.state = .active → s.power.dormantPending = true → s.canopy.wakeArmed = true → s.n 0x2220 3 ≤
  s.keptTime →
    ∃ t, exec .wakeAt s = .next t ∧ t.power = { s.power with dormantPending := false }) ∧
  (∀ (s : State) (p : Nat), s.power.state = .active → s.power.dormantPending = true → isPort p = true → isBB p = false
  → maskBit (s.obj 0x2220 4) p = true →
    ∃ t, exec (.portWakeActivity p) s = .next t ∧ t.power.state = .active ∧ t.power.stage = s.power.stage ∧
    t.power.dormantPending = false) ∧
  (∀ (s : State), s.power.state = .idle → s.power.dormantPending = true → s.on 0x2220 1 = true →
    ∃ t, exec .wakePin s = .next t ∧ t.power = { s.power with dormantPending := false, wakePending := true }) ∧
  (∀ (s : State), s.power.state = .idle → s.power.dormantPending = true → s.canopy.wakeArmed = true → s.n 0x2220 3 ≤
  s.keptTime →
    ∃ t, exec .wakeAt s = .next t ∧ t.power = { s.power with dormantPending := false, wakePending := true }) ∧
  (∀ (s : State) (p : Nat), s.power.state = .idle → s.power.dormantPending = true → isPort p = true → isBB p = false →
  maskBit (s.obj 0x2220 4) p = true →
    ∃ t, exec (.portWakeActivity p) s = .next t ∧ t.power =
    { s.power with dormantPending := false, wakePending := true }) ∧
  (∀ (s : State), s.power.state = .idle → s.power.wakePending = true →
    ∃ t, exec .activeResumed s = .next t ∧ t.power.state = .active) ∧
  (∀ (s : State), s.power.state = .dormant → s.power.brownOut = false → s.power.thermalStop = false → s.on 0x2220 1 =
  true →
    ∃ t, exec .wakePin s = .next t ∧ t.power.state = .active ∧ t.power.stage = 1) ∧
  (∀ (s : State), s.power.state = .dormant → s.power.brownOut = false → s.power.thermalStop = false →
  s.canopy.wakeArmed = true → s.n 0x2220 3 ≤ s.keptTime →
    ∃ t, exec .wakeAt s = .next t ∧ t.power.state = .active ∧ t.power.stage = 1) ∧
  (∀ (s : State) (p : Nat), s.power.state = .dormant → s.power.brownOut = false → s.power.thermalStop = false → isPort
  p = true → isBB p = false → maskBit (s.obj 0x2220 4) p = true →
    ∃ t, exec (.portWakeActivity p) s = .next t ∧ t.power.state = .active ∧ t.power.stage = 1)

/-- Gating, bring-up, resets and restarted domains (the bundle's verification is free: log entry 5). -/
def Obligations.GrovesAndBringUp : Prop :=
  (∀ (s : State) (g : Nat), s.operating = true → g < 8 → s.groveOn g = true → s.effectivePolicy s.mode g = 1 →
  s.groveBusy g = false → (s.busySpans s.mode g).any (s.spanInForce g) = false → s.nextSpan g = none →
    ∃ t, exec (.groveIdle g) s = .next t ∧ (t.grove g).state = 0 ∧ (t.grove g).nextWake = none ∧ t.counter (groveItem
    g 19) = (s.counter (groveItem g 19) + 1) % 18446744073709551616) ∧
  (∀ (s : State) (g next : Nat), s.operating = true → g < 8 → s.groveOn g = true → s.effectivePolicy s.mode g = 1 →
  s.groveBusy g = false → (s.busySpans s.mode g).any (s.spanInForce g) = false → s.nextSpan g = some next → s.now +
  nsUnits (s.n 0x2100 3 g) < next →
    ∃ t, exec (.groveIdle g) s = .next t ∧ (t.grove g).state = 0 ∧ (t.grove g).nextWake = some (next - nsUnits (s.n
    0x2100 2 g)) ∧ t.counter (groveItem g 19) = (s.counter (groveItem g 19) + 1) % 18446744073709551616) ∧
  (∀ (s : State) (g : Nat), s.operating = true → g < 8 → (s.grove g).state = 0 → (((s.grove g).nextWake.any fun u =>
  decide (u ≤ s.now)) = true) →
    ∃ t, exec (.groveScheduledWake g) s = .next t ∧ (t.grove g).state = 1 ∧ t.counter (groveItem g 16) = (s.counter
    (groveItem g 16) + 1) % 18446744073709551616) ∧
  (∀ (s : State) (p : Nat), s.operating = true → isPort p = true → isBB p = false → (s.grove (groveOf p)).state = 0 →
    ∃ t, exec (.portWakeActivity p) s = .next t ∧ (t.grove (groveOf p)).state = 1 ∧ t.counter (groveItem (groveOf p)
    17) = (s.counter (groveItem (groveOf p) 17) + 1) % 18446744073709551616) ∧
  (∀ (s : State) (g : Nat), s.operating = true → g < 8 → (s.grove g).state = 1 → (s.grove g).wakeBuffer = [] →
  (s.grove g).owed = [] → (s.grove g).restarting = false → s.after (s.grove g).wokenAt (nsUnits 15000) = true →
    ∃ t, exec (.groveRunning g) s = .next t ∧ (t.grove g).state = 2) ∧
  (∀ (s : State), s.power.state = .off →
    ∃ t, exec .powerOn s = .next t ∧ t.power.state = .active ∧ t.power.stage = 0 ∧ t.canopy.wakeLog = [⟨0, 5, 0xFFFF⟩]
    ∧ t.otp = s.otp ∧ t.flash = s.flash ∧ t.out = s.out ++ [.faultPin true]) ∧
  (∀ (s : State) (stkpos : Nat) (mode sris : Bool), s.power.state = .active → s.power.stage = 0 →
    ∃ t, exec (.railsValid stkpos mode sris) s = .next t ∧ t.power.stage = 1 ∧ t.n 0x1001 0 = 1 ∧ t.n 0x1003 0 =
    stkpos % 4 ∧ t.on 0x8000 1 = mode ∧ t.on 0x8000 7 = sris ∧ t.flash.bootCount = (s.flash.bootCount + 1) %
    4294967296) ∧
  (∀ (s : State) (slot : Nat) (rest : List Nat), s.power.state = .active → s.power.stage = 1 → s.kiln.state = .booting
  → s.slotOrder = slot :: rest → s.otp.debugOpened = false →
    ∃ t, exec .stageOneRunning s = .next t ∧ (s.slotError slot = 0 → (t.power.stage = 2 ∧ t.kiln.state = .running ∧
    t.kiln.slot = slot ∧ t.n 0x1000 6 = slot ∧ t.n 0x1000 5 = packageVersion (s.slotPackage slot)))) ∧
  (∀ (s : State) (slot : Nat), s.power.state = .active → s.power.stage = 1 → s.kiln.state = .booting → s.slotOrder =
  [slot] → s.slotValid slot = false →
    ∃ t, exec .stageOneRunning s = .next t ∧ t.power.stage = 1 ∧ t.kiln.state = .recovery ∧ t.n 0xA000 3 = 1) ∧
  (∀ (s : State), s.power.state = .active → s.power.stage = 2 →
    ∃ t, exec .partsVerified s = .next t ∧ (s.partsError (s.slotPackage s.kiln.slot) = 0 → (t.power.stage = 3 ∧ t.n
    0x1001 0 = 3 ∧ t.od.imageBusy = true)) ∧ (s.partsError (s.slotPackage s.kiln.slot) ≠ 0 → (t.power.stage = 1 ∧
    t.kiln.state = .booting ∧ t.n 0xA000 3 = s.partsError (s.slotPackage s.kiln.slot)))) ∧
  (∀ (s : State), s.power.state = .active → s.power.stage = 3 →
    ∃ t, exec .bootImageCommitted s = .next t ∧ t.power.stage = 4 ∧ t.od.imageBusy = false ∧ t.n 0x1001 0 = 4) ∧
  (∀ (s : State), s.power.state = .active → s.power.stage = 4 → s.canopy.shutdownDue = true → s.canopy.thermalTrip =
  none → s.canopy.auxFault = false → s.room 2 → s.power.stageCycle ≠ s.cycle ∨ s.after s.power.stageSince (nsUnits
  1000000) = true →
    ∃ t, exec .operational s = .next t ∧ t.power.stage = 5 ∧ t.n 0x1001 0 = 5 ∧ t.canopy.shutdownDue = false ∧
    s.records t 917 (((s.canopy.shutdown.map Prod.fst).getD 0) % 2147483648)) ∧
  (∀ (s : State), s.power.state = .active → s.power.stage = 4 → s.canopy.shutdownDue = false →
  s.canopy.wakeLog.head?.map WakeRecord.cause = some 5 → s.canopy.thermalTrip = none → s.canopy.auxFault = false →
  s.room 2 → s.power.stageCycle ≠ s.cycle ∨ s.after s.power.stageSince (nsUnits 1000000) = true →
    ∃ t, exec .operational s = .next t ∧ t.power.stage = 5 ∧ s.records t 917 0) ∧
  (∀ (s : State), s.resettable = true → s.power.state = .active →
    ∃ t, exec .resetn s = .next t ∧ t.power.state = .active ∧ t.power.stage = 1 ∧ t.kiln =
    { State.reset.kiln with randomUsed := s.kiln.randomUsed } ∧ t.otp = s.otp ∧ t.flash =
    { s.flash with bootCount := (s.flash.bootCount + 1) % 4294967296 } ∧ t.canopy.shutdown = s.canopy.shutdown ∧
    t.canopy.counter = s.canopy.counter ∧ t.canopy.wakeLog.head? = some ⟨s.now, 6, 0xFFFF⟩) ∧
  (∀ (s : State), ((s.power.resetDue.any fun u => decide (u ≤ s.elapsed)) = true) → s.power.state = .active →
    ∃ t, exec .moduleResetTimer s = .next t ∧ t.power.state = .active ∧ t.power.stage = 1 ∧ t.power.resetDue = none ∧
    t.otp = s.otp ∧ t.canopy.shutdown = s.canopy.shutdown ∧ t.canopy.wakeLog.head? = some ⟨s.now, 6, 0xFFFF⟩) ∧
  (∀ (s : State), s.operating = true →
    ∃ t, exec (.domainRestartComplete .controller) s = .next t ∧ t.od.controllerDown = false) ∧
  (∀ (s : State) (e : Nat), s.operating = true → (s.engine e).restarting = true →
    ∃ t, exec (.domainRestartComplete (.engine e)) s = .next t ∧ (t.engine e).restarting = false ∧ t.n 0x7011 1 e = 0) ∧
  (∀ (s : State) (p : Nat), s.operating = true → s.portEnabled p = true → s.segmentPort p = true → s.segState p =
  segOff → s.room 1 →
    ∃ t, exec (.domainRestartComplete (.port p)) s = .next t ∧ t.segState p = segListen ∧ s.recordsPort t p 8
    segListen) ∧
  (∀ (s : State) (g : Nat), s.operating = true → g < 8 → (s.grove g).state = 1 → (s.grove g).wakeBuffer = [] →
  (s.grove g).owed = [] → (s.grove g).restarting = true →
    ∃ t, exec (.domainRestartComplete (.grove g)) s = .next t ∧ (t.grove g).state = 2)
end

