-- ==== Sys2Proof/Laws/Store.lean ====
section
/-! SUPPORT. Laws of the sparse stores: a read after a write, and that every operation keeps the canonical form. -/

namespace Sys2Proof.Machine

/-! ## Maps by number -/

/-- A lower bound of all the keys of a store. -/
def Below {α : Type} (b : Nat) (m : List (Nat × α)) : Prop := ∀ e ∈ m, b < e.1

theorem PMap.wf_cons {α : Type} (k : Nat) (v : α) (m : PMap α) :
    PMap.wf ((k, v) :: m) = true ↔ Below k m ∧ m.wf = true := by
  induction m generalizing k v with
  | nil => simp [PMap.wf, Below]
  | cons e m ih =>
    obtain ⟨k', v'⟩ := e
    simp only [PMap.wf, Bool.and_eq_true, decide_eq_true_eq]
    constructor
    · rintro ⟨hk, hm⟩
      refine ⟨?_, hm⟩
      intro e he
      rcases List.mem_cons.1 he with rfl | he
      · exact hk
      · exact Nat.lt_trans hk (((ih k' v').1 hm).1 e he)
    · rintro ⟨hb, hm⟩
      exact ⟨hb (k', v') (by simp), hm⟩

theorem PMap.mem_set {α : Type} (m : PMap α) (n : Nat) (a : α) (e : Nat × α) :
    e ∈ m.set n a → e = (n, a) ∨ e ∈ m := by
  induction m with
  | nil => simp [PMap.set]
  | cons x m ih =>
    obtain ⟨k, v⟩ := x
    unfold PMap.set
    split
    · intro h
      rcases List.mem_cons.1 h with rfl | h
      · simp
      · rcases ih h with h | h <;> simp [h]
    · split <;> intro h <;> (rcases List.mem_cons.1 h with h | h <;> simp_all)

theorem PMap.set_wf {α : Type} (m : PMap α) (n : Nat) (a : α) (h : m.wf = true) : (m.set n a).wf = true := by
  induction m with
  | nil => simp [PMap.set, PMap.wf]
  | cons x m ih =>
    obtain ⟨k, v⟩ := x
    obtain ⟨hb, hm⟩ := (PMap.wf_cons k v m).1 h
    unfold PMap.set
    split
    · rename_i hlt
      refine (PMap.wf_cons _ _ _).2 ⟨?_, ih hm⟩
      intro e he
      rcases PMap.mem_set m n a e he with rfl | he
      · exact hlt
      · exact hb e he
    · split
      · rename_i hk
        subst hk
        exact (PMap.wf_cons _ _ _).2 ⟨hb, hm⟩
      · rename_i h1 h2
        refine (PMap.wf_cons _ _ _).2 ⟨?_, h⟩
        intro e he
        rcases List.mem_cons.1 he with rfl | he
        · show n < k
          omega
        · have := hb e he
          omega

theorem PMap.mem_erase {α : Type} (m : PMap α) (n : Nat) (e : Nat × α) (h : e ∈ m.erase n) : e ∈ m := by
  induction m with
  | nil => simp [PMap.erase] at h
  | cons x m ih =>
    obtain ⟨k, v⟩ := x
    unfold PMap.erase at h
    split at h
    · exact List.mem_cons_of_mem _ h
    · rcases List.mem_cons.1 h with rfl | h
      · simp
      · exact List.mem_cons_of_mem _ (ih h)

theorem PMap.erase_wf {α : Type} (m : PMap α) (n : Nat) (h : m.wf = true) : (m.erase n).wf = true := by
  induction m with
  | nil => rfl
  | cons x m ih =>
    obtain ⟨k, v⟩ := x
    obtain ⟨hb, hm⟩ := (PMap.wf_cons k v m).1 h
    unfold PMap.erase
    split
    · exact hm
    · exact (PMap.wf_cons _ _ _).2 ⟨fun e he => hb e (PMap.mem_erase m n e he), ih hm⟩

@[simp] theorem PMap.get_set_same {α : Type} (m : PMap α) (n : Nat) (a : α) : (m.set n a).get? n = some a := by
  induction m with
  | nil => simp [PMap.set, PMap.get?]
  | cons x m ih =>
    obtain ⟨k, v⟩ := x
    unfold PMap.set
    split
    · rename_i h
      have : k ≠ n := by omega
      simp [PMap.get?, this, ih]
    · split <;> simp [PMap.get?]

theorem PMap.get_set_other {α : Type} (m : PMap α) (n q : Nat) (a : α) (h : q ≠ n) :
    (m.set n a).get? q = m.get? q := by
  have h' : n ≠ q := fun x => h x.symm
  induction m with
  | nil => simp [PMap.set, PMap.get?, h']
  | cons x m ih =>
    obtain ⟨k, v⟩ := x
    unfold PMap.set
    split
    · simp [PMap.get?, ih]
    · split
      · rename_i hk
        subst hk
        simp [PMap.get?, h']
      · simp [PMap.get?, h']

@[simp] theorem PMap.getD_set_same {α : Type} (m : PMap α) (n : Nat) (a d : α) : (m.set n a).getD n d = a := by
  simp [PMap.getD]

theorem PMap.getD_set_other {α : Type} (m : PMap α) (n q : Nat) (a d : α) (h : q ≠ n) :
    (m.set n a).getD q d = m.getD q d := by
  simp [PMap.getD, PMap.get_set_other m n q a h]

theorem PMap.get_erase_other {α : Type} (m : PMap α) (n q : Nat) (h : q ≠ n) : (m.erase n).get? q = m.get? q := by
  have h' : n ≠ q := fun x => h x.symm
  induction m with
  | nil => rfl
  | cons x m ih =>
    obtain ⟨k, v⟩ := x
    unfold PMap.erase
    split
    · rename_i hk
      subst hk
      simp [PMap.get?, h']
    · simp [PMap.get?, ih]

theorem PMap.map_wf {α β : Type} (m : PMap α) (f : Nat × α → β) (h : m.wf = true) :
    PMap.wf (m.map fun e => (e.1, f e)) = true := by
  induction m with
  | nil => rfl
  | cons x m ih =>
    obtain ⟨k, v⟩ := x
    obtain ⟨hb, hm⟩ := (PMap.wf_cons k v m).1 h
    refine (PMap.wf_cons _ _ _).2 ⟨?_, ih hm⟩
    intro e he
    obtain ⟨e', he', rfl⟩ := List.mem_map.1 he
    exact hb e' he'

/-! ## Byte memories -/

theorem Memory.wf_cons (k : Nat) (v : Byte) (m : Memory) :
    Memory.wf ((k, v) :: m) = true ↔ v ≠ 0 ∧ Below k m ∧ m.wf = true := by
  induction m generalizing k v with
  | nil => simp [Memory.wf, Below]
  | cons e m ih =>
    obtain ⟨k', v'⟩ := e
    simp only [Memory.wf, Bool.and_eq_true, decide_eq_true_eq]
    constructor
    · rintro ⟨⟨hv, hk⟩, hm⟩
      refine ⟨hv, ?_, hm⟩
      intro e he
      rcases List.mem_cons.1 he with rfl | he
      · exact hk
      · exact Nat.lt_trans hk (((ih k' v').1 hm).2.1 e he)
    · rintro ⟨hv, hb, hm⟩
      exact ⟨⟨hv, hb (k', v') (by simp)⟩, hm⟩

theorem Memory.mem_write (m : Memory) (a : Nat) (b : Byte) (e : Host.Cell) (h : e ∈ m.write a b) :
    e.1 = a ∨ e ∈ m := by
  induction m with
  | nil =>
    simp only [Memory.write] at h
    split at h
    · simp at h
    · simp at h
      simp [h]
  | cons x m ih =>
    obtain ⟨k, v⟩ := x
    unfold Memory.write at h
    split at h
    · rcases List.mem_cons.1 h with rfl | h
      · simp
      · rcases ih h with h | h <;> simp [h]
    · split at h
      · split at h
        · simp [h]
        · rcases List.mem_cons.1 h with rfl | h <;> simp_all
      · split at h
        · exact Or.inr h
        · rcases List.mem_cons.1 h with rfl | h
          · simp
          · exact Or.inr h

theorem Memory.write_wf (m : Memory) (a : Nat) (b : Byte) (h : m.wf = true) : (m.write a b).wf = true := by
  induction m with
  | nil =>
    simp only [Memory.write]
    split
    · rfl
    · rename_i hb
      simpa [Memory.wf] using hb
  | cons x m ih =>
    obtain ⟨k, v⟩ := x
    obtain ⟨hv, hb, hm⟩ := (Memory.wf_cons k v m).1 h
    unfold Memory.write
    split
    · rename_i hlt
      refine (Memory.wf_cons _ _ _).2 ⟨hv, ?_, ih hm⟩
      intro e he
      rcases Memory.mem_write m a b e he with he | he
      · omega
      · exact hb e he
    · split
      · split
        · exact hm
        · rename_i hk hz
          subst hk
          exact (Memory.wf_cons _ _ _).2 ⟨hz, hb, hm⟩
      · split
        · exact h
        · rename_i h1 h2 hz
          refine (Memory.wf_cons _ _ _).2 ⟨hz, ?_, h⟩
          intro e he
          rcases List.mem_cons.1 he with rfl | he
          · show a < k
            omega
          · have := hb e he
            omega

theorem Memory.writeBytes_wf (bs : Bytes) (m : Memory) (a : Nat) (h : m.wf = true) :
    (m.writeBytes a bs).wf = true := by
  induction bs generalizing m a with
  | nil => exact h
  | cons b bs ih => exact ih (m.write a b) (a + 1) (Memory.write_wf m a b h)

/-- An address below every listed one reads 0. -/
theorem Memory.read_below (m : Memory) (a : Nat) (h : Below a m) : m.read a = 0 := by
  induction m with
  | nil => rfl
  | cons x m ih =>
    obtain ⟨k, v⟩ := x
    have hk : k ≠ a := by have : a < k := h (k, v) (by simp); omega
    simp only [Memory.read, if_neg hk]
    exact ih fun e he => h e (List.mem_cons_of_mem _ he)

theorem Memory.read_write_same (m : Memory) (a : Nat) (b : Byte) (h : m.wf = true) : (m.write a b).read a = b := by
  induction m with
  | nil =>
    simp only [Memory.write]
    split
    · rename_i hb
      simp [Memory.read, hb]
    · simp [Memory.read]
  | cons x m ih =>
    obtain ⟨k, v⟩ := x
    obtain ⟨hv, hb, hm⟩ := (Memory.wf_cons k v m).1 h
    unfold Memory.write
    split
    · rename_i hlt
      have : k ≠ a := by omega
      simp [Memory.read, this, ih hm]
    · split
      · rename_i hk
        subst hk
        split
        · rename_i hz
          rw [Memory.read_below m k hb, hz]
        · simp [Memory.read]
      · split
        · rename_i h1 h2 hz
          rw [hz]
          apply Memory.read_below
          intro e he
          rcases List.mem_cons.1 he with rfl | he
          · show a < k
            omega
          · have := hb e he
            omega
        · simp [Memory.read]

theorem Memory.read_write_other (m : Memory) (a q : Nat) (b : Byte) (h : q ≠ a) : (m.write a b).read q = m.read q := by
  have h' : a ≠ q := fun x => h x.symm
  induction m with
  | nil =>
    simp only [Memory.write]
    split <;> simp [Memory.read, h']
  | cons x m ih =>
    obtain ⟨k, v⟩ := x
    unfold Memory.write
    split
    · simp [Memory.read, ih]
    · split
      · rename_i hk
        subst hk
        split <;> simp [Memory.read, h']
      · split <;> simp [Memory.read, h']

/-- Every byte outside what is written reads as before. -/
theorem Memory.read_writeBytes_outside (bs : Bytes) (m : Memory) (a q : Nat) (h : q < a ∨ a + bs.length ≤ q) :
    (m.writeBytes a bs).read q = m.read q := by
  induction bs generalizing m a with
  | nil => rfl
  | cons b bs ih =>
    have hl : (b :: bs).length = bs.length + 1 := rfl
    rw [Memory.writeBytes, ih (m.write a b) (a + 1) (by omega), Memory.read_write_other m a q b (by omega)]

/-- The bytes written read as written. -/
theorem Memory.readBytes_writeBytes (bs : Bytes) (m : Memory) (a : Nat) (h : m.wf = true) :
    (m.writeBytes a bs).readBytes a bs.length = bs := by
  induction bs generalizing m a with
  | nil => rfl
  | cons b bs ih =>
    have hw := Memory.write_wf m a b h
    show Memory.read _ a :: Memory.readBytes _ (a + 1) bs.length = b :: bs
    rw [Memory.writeBytes, ih (m.write a b) (a + 1) hw,
      Memory.read_writeBytes_outside bs (m.write a b) (a + 1) a (by omega), Memory.read_write_same m a b h]

/-! ## The dictionary's store -/

theorem Key.lt_irrefl (a : Key) : a.lt a = false := by simp [Key.lt]

theorem Key.lt_trans {a b c : Key} (h1 : a.lt b = true) (h2 : b.lt c = true) : a.lt c = true := by
  simp only [Key.lt, Bool.or_eq_true, Bool.and_eq_true, decide_eq_true_eq, beq_iff_eq] at *
  omega

theorem Key.lt_total (a b : Key) (h1 : a.lt b = false) (h2 : a ≠ b) : b.lt a = true := by
  obtain ⟨ai, ar, as⟩ := a
  obtain ⟨bi, br, bs⟩ := b
  simp only [Key.lt, Bool.or_eq_true, Bool.and_eq_true, decide_eq_true_eq, beq_iff_eq, Bool.or_eq_false_iff,
    Bool.and_eq_false_imp, decide_eq_false_iff_not, Key.mk.injEq, ne_eq] at *
  by_contra hc
  apply h2
  by_cases e1 : ai = bi
  · have g1 := h1.2 e1
    by_cases e2 : ar = br
    · exact ⟨e1, e2, by have := g1.2 e2; omega⟩
    · omega
  · omega

/-- A lower bound of all the keys of a dictionary store. -/
def DictBelow (b : Key) (m : List (Key × Int)) : Prop := ∀ e ∈ m, b.lt e.1 = true

theorem dictSorted_cons (k : Key) (v : Int) (m : List (Key × Int)) :
    dictSorted ((k, v) :: m) = true ↔ DictBelow k m ∧ dictSorted m = true := by
  induction m generalizing k v with
  | nil => simp [dictSorted, DictBelow]
  | cons e m ih =>
    obtain ⟨k', v'⟩ := e
    simp only [dictSorted, Bool.and_eq_true]
    constructor
    · rintro ⟨hk, hm⟩
      refine ⟨?_, hm⟩
      intro e he
      rcases List.mem_cons.1 he with rfl | he
      · exact hk
      · exact Key.lt_trans hk (((ih k' v').1 hm).1 e he)
    · rintro ⟨hb, hm⟩
      exact ⟨hb (k', v') (by simp), hm⟩

theorem dictGet_below (m : List (Key × Int)) (q : Key) (h : DictBelow q m) : dictGet m q = none := by
  induction m with
  | nil => rfl
  | cons x m ih =>
    obtain ⟨k, v⟩ := x
    have hk : k ≠ q := by
      intro e
      have := h (k, v) (by simp)
      rw [e, Key.lt_irrefl] at this
      exact absurd this (by simp)
    simp only [dictGet, if_neg hk]
    exact ih fun e he => h e (List.mem_cons_of_mem _ he)

theorem mem_dictErase (m : List (Key × Int)) (q : Key) (e : Key × Int) (h : e ∈ dictErase m q) : e ∈ m := by
  induction m with
  | nil => simp [dictErase] at h
  | cons x m ih =>
    obtain ⟨k, v⟩ := x
    unfold dictErase at h
    split at h
    · exact List.mem_cons_of_mem _ (ih h)
    · rcases List.mem_cons.1 h with rfl | h
      · simp
      · exact List.mem_cons_of_mem _ (ih h)

theorem mem_dictInsert (m : List (Key × Int)) (q : Key) (x : Int) (e : Key × Int) (h : e ∈ dictInsert m q x) :
    e = (q, x) ∨ e ∈ m := by
  induction m with
  | nil => simpa [dictInsert] using h
  | cons y m ih =>
    obtain ⟨k, v⟩ := y
    unfold dictInsert at h
    split at h
    · rcases List.mem_cons.1 h with rfl | h
      · simp
      · rcases ih h with h | h <;> simp [h]
    · split at h <;> (rcases List.mem_cons.1 h with h | h <;> simp_all)

theorem dictErase_sorted (m : List (Key × Int)) (q : Key) (h : dictSorted m = true) :
    dictSorted (dictErase m q) = true := by
  induction m with
  | nil => rfl
  | cons x m ih =>
    obtain ⟨k, v⟩ := x
    obtain ⟨hb, hm⟩ := (dictSorted_cons k v m).1 h
    unfold dictErase
    split
    · exact ih hm
    · exact (dictSorted_cons _ _ _).2 ⟨fun e he => hb e (mem_dictErase m q e he), ih hm⟩

theorem dictInsert_sorted (m : List (Key × Int)) (q : Key) (x : Int) (h : dictSorted m = true) :
    dictSorted (dictInsert m q x) = true := by
  induction m with
  | nil => rfl
  | cons y m ih =>
    obtain ⟨k, v⟩ := y
    obtain ⟨hb, hm⟩ := (dictSorted_cons k v m).1 h
    unfold dictInsert
    split
    · rename_i hlt
      refine (dictSorted_cons _ _ _).2 ⟨?_, ih hm⟩
      intro e he
      rcases mem_dictInsert m q x e he with rfl | he
      · exact hlt
      · exact hb e he
    · split
      · rename_i hk
        subst hk
        exact (dictSorted_cons _ _ _).2 ⟨hb, hm⟩
      · rename_i h1 h2
        have hq : q.lt k = true := Key.lt_total k q (by simpa using h1) h2
        refine (dictSorted_cons _ _ _).2 ⟨?_, h⟩
        intro e he
        rcases List.mem_cons.1 he with rfl | he
        · exact hq
        · exact Key.lt_trans hq (hb e he)

theorem dictSet_sorted (m : List (Key × Int)) (q : Key) (d x : Int) (h : dictSorted m = true) :
    dictSorted (dictSet m q d x) = true := by
  unfold dictSet
  split
  · exact dictErase_sorted m q h
  · exact dictInsert_sorted m q x h

theorem dictFilter_sorted (m : List (Key × Int)) (p : Key × Int → Bool) (h : dictSorted m = true) :
    dictSorted (m.filter p) = true := by
  induction m with
  | nil => rfl
  | cons y m ih =>
    obtain ⟨k, v⟩ := y
    obtain ⟨hb, hm⟩ := (dictSorted_cons k v m).1 h
    rw [List.filter_cons]
    split
    · exact (dictSorted_cons _ _ _).2 ⟨fun e he => hb e (List.mem_filter.1 he).1, ih hm⟩
    · exact ih hm

@[simp] theorem dictGet_erase_same (m : List (Key × Int)) (q : Key) : dictGet (dictErase m q) q = none := by
  induction m with
  | nil => rfl
  | cons x m ih =>
    obtain ⟨k, v⟩ := x
    unfold dictErase
    split
    · exact ih
    · rename_i hk
      simp [dictGet, hk, ih]

theorem dictGet_erase_other (m : List (Key × Int)) (q r : Key) (h : r ≠ q) :
    dictGet (dictErase m q) r = dictGet m r := by
  have h' : q ≠ r := fun x => h x.symm
  induction m with
  | nil => rfl
  | cons x m ih =>
    obtain ⟨k, v⟩ := x
    unfold dictErase
    split
    · rename_i hk
      subst hk
      simp [dictGet, h', ih]
    · simp [dictGet, ih]

@[simp] theorem dictGet_insert_same (m : List (Key × Int)) (q : Key) (x : Int) :
    dictGet (dictInsert m q x) q = some x := by
  induction m with
  | nil => simp [dictInsert, dictGet]
  | cons y m ih =>
    obtain ⟨k, v⟩ := y
    unfold dictInsert
    split
    · rename_i h
      have : k ≠ q := by
        intro e
        rw [e, Key.lt_irrefl] at h
        exact absurd h (by simp)
      simp [dictGet, this, ih]
    · split <;> simp [dictGet]

theorem dictGet_insert_other (m : List (Key × Int)) (q r : Key) (x : Int) (h : r ≠ q) :
    dictGet (dictInsert m q x) r = dictGet m r := by
  have h' : q ≠ r := fun e => h e.symm
  induction m with
  | nil => simp [dictInsert, dictGet, h']
  | cons y m ih =>
    obtain ⟨k, v⟩ := y
    unfold dictInsert
    split
    · simp [dictGet, ih]
    · split
      · rename_i hk
        subst hk
        simp [dictGet, h']
      · simp [dictGet, h']

/-- A dictionary read after a write to the same key gives the value written. -/
theorem dictGet_set_same (m : List (Key × Int)) (q : Key) (d x : Int) :
    (dictGet (dictSet m q d x) q).getD d = x := by
  unfold dictSet
  split
  · rename_i hx
    simp [hx]
  · simp

/-- A dictionary write leaves every other key alone. -/
theorem dictGet_set_other (m : List (Key × Int)) (q r : Key) (d x : Int) (h : r ≠ q) :
    dictGet (dictSet m q d x) r = dictGet m r := by
  unfold dictSet
  split
  · exact dictGet_erase_other m q r h
  · exact dictGet_insert_other m q r x h

theorem dictGet_filter (m : List (Key × Int)) (keep : Key → Bool) (q : Key) :
    dictGet (m.filter fun e => keep e.1) q = if keep q then dictGet m q else none := by
  induction m with
  | nil => simp [dictGet]
  | cons e m ih =>
    obtain ⟨k, v⟩ := e
    rw [List.filter_cons]
    by_cases hk : keep k = true
    · rw [if_pos hk]
      simp only [dictGet]
      by_cases e : k = q
      · subst e
        rw [if_pos rfl, if_pos hk, if_pos rfl]
      · rw [if_neg e, if_neg e, ih]
    · rw [if_neg hk, ih]
      simp only [dictGet]
      by_cases e : k = q
      · subst e
        rw [if_neg hk, if_neg hk]
      · rw [if_neg e]

theorem mem_dictSet (m : List (Key × Int)) (q : Key) (d x : Int) (e : Key × Int) (h : e ∈ dictSet m q d x) :
    (e = (q, x) ∧ x ≠ d) ∨ e ∈ m := by
  unfold dictSet at h
  split at h
  · exact Or.inr (mem_dictErase m q e h)
  · rename_i hx
    rcases mem_dictInsert m q x e h with h | h
    · exact Or.inl ⟨h, hx⟩
    · exact Or.inr h

end Sys2Proof.Machine
end

