-- ==== Sys2Proof/Laws/State.lean ====
section
/-! SUPPORT. Laws of the primitive updates: what each leaves alone, and that each keeps the stores in form. -/

namespace Sys2Proof.Machine

/-! ## Reading after a write -/

@[simp] theorem key_obj_same (s : State) (k : Key) (v : Int) : (Upd.apply (.obj k v) s).key k = v :=
  dictGet_set_same _ _ _ _

theorem key_obj_other (s : State) (k q : Key) (v : Int) (h : q ≠ k) : (Upd.apply (.obj k v) s).key q = s.key q := by
  show (dictGet (dictSet s.od.dict k (defaultOf k) v) q).getD _ = _
  rw [dictGet_set_other _ _ _ _ _ h]
  rfl

/-- An object after a write of an object. -/
theorem key_obj (s : State) (k q : Key) (v : Int) :
    (Upd.apply (.obj k v) s).key q = if q = k then v else s.key q := by
  split
  · subst q
    exact key_obj_same s k v
  · exact key_obj_other s k q v ‹_›

/-- An object after others return to their defaults. -/
theorem key_defaults (s : State) (keep : Key → Bool) (q : Key) :
    (Upd.apply (.defaults keep) s).key q = if keep q then s.key q else defaultOf q := by
  show (dictGet (s.od.dict.filter fun e => keep e.1) q).getD _ = _
  rw [dictGet_filter]
  split <;> rfl

@[simp] theorem counter_count_same (s : State) (i n : Nat) :
    (Upd.apply (.count i n) s).counter i = (s.counter i + n) % 18446744073709551616 := by
  simp [Upd.apply, State.counter]

theorem counter_count_other (s : State) (i j n : Nat) (h : j ≠ i) :
    (Upd.apply (.count i n) s).counter j = s.counter j :=
  PMap.getD_set_other _ _ _ _ _ h

@[simp] theorem buffers_write_same (x : Buffers) (b : Buffer) (f : Memory → Memory) :
    (x.update b f).get b = f (x.get b) := by cases b <;> rfl

theorem buffers_write_other (x : Buffers) (b c : Buffer) (f : Memory → Memory) (h : c ≠ b) :
    (x.update b f).get c = x.get c := by
  cases b <;> cases c <;> first | rfl | exact (h rfl).elim

/-! ## What an update leaves alone -/

/-- An update changes no part that it does not touch. -/
theorem Upd.same_of_not_touched (u : Upd) (s : State) (p : Part) (h : p ∉ u.touches) : p.same s (u.apply s) := by
  cases p <;> cases u <;>
    first
    | exact (h (List.Mem.head _)).elim
    | exact trivial
    | rfl
    | exact ⟨rfl, rfl⟩
    | (simp [Part.same, Upd.apply]; done)
    | (exfalso; revert h; simp [Upd.touches, restartParts]; done)
    | (simp only [Upd.apply]; split <;> first | rfl | exact ⟨rfl, rfl⟩ | simp [Part.same])

@[simp] theorem Upd.pending_apply (u : Upd) (s : State) : (u.apply s).pending = s.pending := by
  cases u <;> first | rfl | (simp only [Upd.apply]; split <;> rfl)

/-- An update that writes no object leaves every object. -/
theorem Upd.key_of_not_dict (u : Upd) (s : State) (k : Key) (h : Part.dict ∉ u.touches) : (u.apply s).key k = s.key k := by
  cases u <;>
    first
    | exact (h (List.Mem.head _)).elim
    | rfl
    | (exfalso; revert h; simp [Upd.touches]; done)
    | (simp only [Upd.apply]; split <;> rfl)

/-- An update that counts nothing leaves every counter. -/
theorem Upd.counter_of_not_counters (u : Upd) (s : State) (i : Nat) (h : Part.counters ∉ u.touches) :
    (u.apply s).counter i = s.counter i := by
  cases u <;>
    first
    | exact (h (List.Mem.head _)).elim
    | rfl
    | (exfalso; revert h; simp [Upd.touches, restartParts]; done)
    | (simp only [Upd.apply]; split <;> rfl)

/-! ## One lemma per field: an update that does not touch its part leaves it (the side condition by `simp [Upd.touches]`) -/

@[simp] theorem Upd.od_staged_left (u : Upd) (s : State) (h : Part.staging ∉ u.touches) : (u.apply s).od.staged = s.od.staged :=
  (u.same_of_not_touched s .staging h).1.symm
@[simp] theorem Upd.od_sealedSet_left (u : Upd) (s : State) (h : Part.staging ∉ u.touches) : (u.apply s).od.sealedSet = s.od.sealedSet :=
  (u.same_of_not_touched s .staging h).2.symm
@[simp] theorem Upd.od_clampLog_left (u : Upd) (s : State) (h : Part.clampLog ∉ u.touches) : (u.apply s).od.clampLog = s.od.clampLog :=
  (u.same_of_not_touched s .clampLog h).symm
@[simp] theorem Upd.od_mailbox_left (u : Upd) (s : State) (h : Part.mailbox ∉ u.touches) : (u.apply s).od.mailbox = s.od.mailbox :=
  (u.same_of_not_touched s .mailbox h).symm
@[simp] theorem Upd.od_imageBusy_left (u : Upd) (s : State) (h : Part.image ∉ u.touches) : (u.apply s).od.imageBusy = s.od.imageBusy :=
  (u.same_of_not_touched s .image h).1.symm
@[simp] theorem Upd.od_controllerDown_left (u : Upd) (s : State) (h : Part.image ∉ u.touches) : (u.apply s).od.controllerDown = s.od.controllerDown :=
  (u.same_of_not_touched s .image h).2.symm
@[simp] theorem Upd.buffers_left (u : Upd) (s : State) (h : Part.buffers ∉ u.touches) : (u.apply s).buffers = s.buffers :=
  (u.same_of_not_touched s .buffers h).symm
@[simp] theorem Upd.events_left (u : Upd) (s : State) (h : Part.events ∉ u.touches) : (u.apply s).events = s.events :=
  (u.same_of_not_touched s .events h).symm
@[simp] theorem Upd.clock_left (u : Upd) (s : State) (h : Part.clock ∉ u.touches) : (u.apply s).clock = s.clock :=
  (u.same_of_not_touched s .clock h).symm
@[simp] theorem Upd.time_left (u : Upd) (s : State) (h : Part.time ∉ u.touches) : (u.apply s).time = s.time :=
  (u.same_of_not_touched s .time h).symm
@[simp] theorem Upd.pins_left (u : Upd) (s : State) (h : Part.pins ∉ u.touches) : (u.apply s).pins = s.pins :=
  (u.same_of_not_touched s .pins h).symm
@[simp] theorem Upd.ring_left (u : Upd) (s : State) (h : Part.ring ∉ u.touches) : (u.apply s).ring = s.ring :=
  (u.same_of_not_touched s .ring h).symm
@[simp] theorem Upd.segments_left (u : Upd) (s : State) (h : Part.segments ∉ u.touches) : (u.apply s).segments = s.segments :=
  (u.same_of_not_touched s .segments h).symm
@[simp] theorem Upd.traffic_left (u : Upd) (s : State) (h : Part.traffic ∉ u.touches) : (u.apply s).traffic = s.traffic :=
  (u.same_of_not_touched s .traffic h).symm
@[simp] theorem Upd.messages_left (u : Upd) (s : State) (h : Part.messages ∉ u.touches) : (u.apply s).messages = s.messages :=
  (u.same_of_not_touched s .messages h).symm
@[simp] theorem Upd.host_tx_left (u : Upd) (s : State) (h : Part.txRings ∉ u.touches) : (u.apply s).host.tx = s.host.tx :=
  (u.same_of_not_touched s .txRings h).symm
@[simp] theorem Upd.host_rx_left (u : Upd) (s : State) (h : Part.rxRings ∉ u.touches) : (u.apply s).host.rx = s.host.rx :=
  (u.same_of_not_touched s .rxRings h).symm
@[simp] theorem Upd.host_queues_left (u : Upd) (s : State) (h : Part.queues ∉ u.touches) : (u.apply s).host.queues = s.host.queues :=
  (u.same_of_not_touched s .queues h).symm
@[simp] theorem Upd.host_functions_left (u : Upd) (s : State) (h : Part.functions ∉ u.touches) : (u.apply s).host.functions = s.host.functions :=
  (u.same_of_not_touched s .functions h).1.symm
@[simp] theorem Upd.host_vectors_left (u : Upd) (s : State) (h : Part.functions ∉ u.touches) : (u.apply s).host.vectors = s.host.vectors :=
  (u.same_of_not_touched s .functions h).2.1.symm
@[simp] theorem Upd.host_numVfs_left (u : Upd) (s : State) (h : Part.functions ∉ u.touches) : (u.apply s).host.numVfs = s.host.numVfs :=
  (u.same_of_not_touched s .functions h).2.2.1.symm
@[simp] theorem Upd.host_vfEnable_left (u : Upd) (s : State) (h : Part.functions ∉ u.touches) : (u.apply s).host.vfEnable = s.host.vfEnable :=
  (u.same_of_not_touched s .functions h).2.2.2.1.symm
@[simp] theorem Upd.host_linkUpA_left (u : Upd) (s : State) (h : Part.functions ∉ u.touches) : (u.apply s).host.linkUpA = s.host.linkUpA :=
  (u.same_of_not_touched s .functions h).2.2.2.2.1.symm
@[simp] theorem Upd.host_linkUpB_left (u : Upd) (s : State) (h : Part.functions ∉ u.touches) : (u.apply s).host.linkUpB = s.host.linkUpB :=
  (u.same_of_not_touched s .functions h).2.2.2.2.2.1.symm
@[simp] theorem Upd.host_reads_left (u : Upd) (s : State) (h : Part.functions ∉ u.touches) : (u.apply s).host.reads = s.host.reads :=
  (u.same_of_not_touched s .functions h).2.2.2.2.2.2.symm
@[simp] theorem Upd.twin_mismatchLog_left (u : Upd) (s : State) (h : Part.mismatchLog ∉ u.touches) : (u.apply s).twin.mismatchLog = s.twin.mismatchLog :=
  (u.same_of_not_touched s .mismatchLog h).symm
@[simp] theorem Upd.otp_left (u : Upd) (s : State) (h : Part.otp ∉ u.touches) : (u.apply s).otp = s.otp :=
  (u.same_of_not_touched s .otp h).symm
@[simp] theorem Upd.flash_left (u : Upd) (s : State) (h : Part.flash ∉ u.touches) : (u.apply s).flash = s.flash :=
  (u.same_of_not_touched s .flash h).symm
@[simp] theorem Upd.kiln_left (u : Upd) (s : State) (h : Part.kiln ∉ u.touches) : (u.apply s).kiln = s.kiln :=
  (u.same_of_not_touched s .kiln h).symm
@[simp] theorem Upd.faults_left (u : Upd) (s : State) (h : Part.faults ∉ u.touches) : (u.apply s).faults = s.faults :=
  (u.same_of_not_touched s .faults h).symm
@[simp] theorem Upd.reader_left (u : Upd) (s : State) (h : Part.reader ∉ u.touches) : (u.apply s).reader = s.reader :=
  (u.same_of_not_touched s .reader h).symm
@[simp] theorem Upd.canopy_left (u : Upd) (s : State) (h : Part.canopy ∉ u.touches) : (u.apply s).canopy = s.canopy :=
  (u.same_of_not_touched s .canopy h).symm
@[simp] theorem Upd.power_left (u : Upd) (s : State) (h : Part.power ∉ u.touches) : (u.apply s).power = s.power :=
  (u.same_of_not_touched s .power h).symm
@[simp] theorem Upd.freeUsed_left (u : Upd) (s : State) (h : Part.free ∉ u.touches) : (u.apply s).freeUsed = s.freeUsed :=
  (u.same_of_not_touched s .free h).symm
@[simp] theorem Upd.out_left (u : Upd) (s : State) (h : Part.out ∉ u.touches) : (u.apply s).out = s.out :=
  (u.same_of_not_touched s .out h).symm
@[simp] theorem Upd.key_left (u : Upd) (s : State) (k : Key) (h : Part.dict ∉ u.touches) : (u.apply s).key k = s.key k :=
  u.key_of_not_dict s k h
@[simp] theorem Upd.counter_left (u : Upd) (s : State) (i : Nat) (h : Part.counters ∉ u.touches) :
    (u.apply s).counter i = s.counter i := u.counter_of_not_counters s i h

/-! ## One lemma per update: the field that it writes -/

@[simp] theorem Upd.time_wrote (f : TimeBase → TimeBase) (s : State) :
    (Upd.apply (.time f) s).time = f s.time := rfl
@[simp] theorem Upd.pins_wrote (f : Pins → Pins) (s : State) :
    (Upd.apply (.pins f) s).pins = f s.pins := rfl
@[simp] theorem Upd.ring_wrote (f : Ring → Ring) (s : State) :
    (Upd.apply (.ring f) s).ring = f s.ring := rfl
@[simp] theorem Upd.traffic_wrote (f : Traffic → Traffic) (s : State) :
    (Upd.apply (.traffic f) s).traffic = f s.traffic := rfl
@[simp] theorem Upd.messages_wrote (f : Messages → Messages) (s : State) :
    (Upd.apply (.messages f) s).messages = f s.messages := rfl
@[simp] theorem Upd.flash_wrote (f : Flash → Flash) (s : State) :
    (Upd.apply (.flash f) s).flash = f s.flash := rfl
@[simp] theorem Upd.kiln_wrote (f : Kiln → Kiln) (s : State) :
    (Upd.apply (.kiln f) s).kiln = f s.kiln := rfl
@[simp] theorem Upd.reader_wrote (f : Reader → Reader) (s : State) :
    (Upd.apply (.reader f) s).reader = f s.reader := rfl
@[simp] theorem Upd.power_wrote (f : PowerSide → PowerSide) (s : State) :
    (Upd.apply (.power f) s).power = f s.power := rfl
@[simp] theorem Upd.mailbox_wrote (f : Mailbox → Mailbox) (s : State) :
    (Upd.apply (.mailbox f) s).od.mailbox = f s.od.mailbox := rfl
@[simp] theorem Upd.twin_wrote (f : Twin → Twin) (s : State) :
    (Upd.apply (.twin f) s).twin = { f s.twin with mismatchLog := s.twin.mismatchLog } := rfl
@[simp] theorem Upd.canopy_wrote (f : Canopy → Canopy) (s : State) :
    (Upd.apply (.canopy f) s).canopy = { f s.canopy with wakeLog := s.canopy.wakeLog } := rfl
@[simp] theorem Upd.faults_wrote (f : Faults → Faults) (s : State) :
    (Upd.apply (.faults f) s).faults = { f s.faults with instances := s.faults.instances } := rfl
@[simp] theorem Upd.stage_wrote (w : StagedWrite) (s : State) :
    (Upd.apply (.stage w) s).od.staged = stageWrite s.od.staged w := rfl
@[simp] theorem Upd.stage_sealed_wrote (w : StagedWrite) (s : State) :
    (Upd.apply (.stage w) s).od.sealedSet = s.od.sealedSet := rfl
@[simp] theorem Upd.dropStaged_wrote (s : State) :
    (Upd.apply .dropStaged s).od.staged = [] := rfl
@[simp] theorem Upd.dropStaged_sealed_wrote (s : State) :
    (Upd.apply .dropStaged s).od.sealedSet = s.od.sealedSet := rfl
@[simp] theorem Upd.seal_wrote (m : Bool) (s : State) :
    (Upd.apply (.seal m) s).od.staged = [] := rfl
@[simp] theorem Upd.seal_set_wrote (m : Bool) (s : State) :
    (Upd.apply (.seal m) s).od.sealedSet = some ⟨m, s.od.staged, s.cycle, s.elapsed⟩ := rfl
@[simp] theorem Upd.dropSealed_wrote (s : State) :
    (Upd.apply .dropSealed s).od.staged = s.od.staged := rfl
@[simp] theorem Upd.dropSealed_set_wrote (s : State) :
    (Upd.apply .dropSealed s).od.sealedSet = none := rfl
@[simp] theorem Upd.clamp_wrote (r : ClampRecord) (s : State) :
    (Upd.apply (.clamp r) s).od.clampLog = (r :: s.od.clampLog).take 256 := rfl
@[simp] theorem Upd.clearClamps_wrote (s : State) :
    (Upd.apply .clearClamps s).od.clampLog = [] := rfl
@[simp] theorem Upd.imageBusy_wrote (b : Bool) (s : State) :
    (Upd.apply (.imageBusy b) s).od.imageBusy = b := rfl
@[simp] theorem Upd.imageBusy_down_wrote (b : Bool) (s : State) :
    (Upd.apply (.imageBusy b) s).od.controllerDown = s.od.controllerDown := rfl
@[simp] theorem Upd.controller_wrote (b : Bool) (s : State) :
    (Upd.apply (.controller b) s).od.controllerDown = b := rfl
@[simp] theorem Upd.controller_busy_wrote (b : Bool) (s : State) :
    (Upd.apply (.controller b) s).od.imageBusy = s.od.imageBusy := rfl
@[simp] theorem Upd.raise_wrote (e : Raised) (s : State) :
    (Upd.apply (.raise e) s).events = { s.events with raised := s.events.raised ++ [e] } := rfl
@[simp] theorem Upd.popEvent_wrote (s : State) :
    (Upd.apply .popEvent s).events = { s.events with fifo := s.events.fifo.drop 1 } := rfl
@[simp] theorem Upd.clearLost_wrote (s : State) :
    (Upd.apply .clearLost s).events = { s.events with lost := 0 } := rfl
@[simp] theorem Upd.setClock_wrote (u : Nat) (s : State) :
    (Upd.apply (.setClock u) s).clock = Clock.ofUnits u := rfl
@[simp] theorem Upd.segment_wrote (p : Nat) (f : Segment → Segment) (s : State) :
    (Upd.apply (.segment p f) s).segments = s.segments.set p (f (s.segments.getD p Segment.init)) := rfl
@[simp] theorem Upd.txRing_wrote (r : Nat) (f : HostRing → HostRing) (s : State) :
    (Upd.apply (.txRing r f) s).host.tx = s.host.tx.set r (f (s.host.tx.getD r HostRing.init)).norm := rfl
@[simp] theorem Upd.rxRing_wrote (r : Nat) (f : HostRing → HostRing) (s : State) :
    (Upd.apply (.rxRing r f) s).host.rx = s.host.rx.set r (f (s.host.rx.getD r HostRing.init)).norm := rfl
@[simp] theorem Upd.queue_wrote (q : Nat) (f : EventQueue → EventQueue) (s : State) :
    (Upd.apply (.queue q f) s).host.queues = s.host.queues.set q (f (s.host.queues.getD q EventQueue.init)).norm := rfl
@[simp] theorem Upd.vector_wrote (v : Nat) (f : Vector → Vector) (s : State) :
    (Upd.apply (.vector v f) s).host.vectors = s.host.vectors.set v (f (s.host.vectors.getD v Vector.init)) := rfl
@[simp] theorem Upd.vector_functions_wrote (v : Nat) (f : Vector → Vector) (s : State) :
    (Upd.apply (.vector v f) s).host.functions = s.host.functions := rfl
@[simp] theorem Upd.function_wrote (n : Nat) (f : Function → Function) (s : State) :
    (Upd.apply (.function n f) s).host.functions = s.host.functions.set n (f (s.host.functions.getD n Function.init)) := rfl
@[simp] theorem Upd.function_vectors_wrote (n : Nat) (f : Function → Function) (s : State) :
    (Upd.apply (.function n f) s).host.vectors = s.host.vectors := rfl
@[simp] theorem Upd.hostReads_wrote (f : List ReadRequest → List ReadRequest) (s : State) :
    (Upd.apply (.hostReads f) s).host.reads = f s.host.reads := rfl
@[simp] theorem Upd.mismatch_wrote (r : MismatchRecord) (s : State) :
    (Upd.apply (.mismatch r) s).twin = { s.twin with mismatchLog := (r :: s.twin.mismatchLog).take 64 } := rfl
@[simp] theorem Upd.burnRevoked_wrote (m : Nat) (s : State) :
    (Upd.apply (.burnRevoked m) s).otp = { s.otp with keyRevoked := s.otp.keyRevoked ||| m } := rfl
@[simp] theorem Upd.burnLocks_wrote (m : Nat) (s : State) :
    (Upd.apply (.burnLocks m) s).otp = { s.otp with locks := s.otp.locks ||| (m % 128) } := rfl
@[simp] theorem Upd.raiseRollback_wrote (n : Nat) (s : State) :
    (Upd.apply (.raiseRollback n) s).otp = { s.otp with rollback := max s.otp.rollback (min n 64) } := rfl
@[simp] theorem Upd.burnDebug_wrote (s : State) :
    (Upd.apply .burnDebug s).otp =
      { s.otp with
        debugOpened := true, hardwareUniqueKey := s.otp.hardwareUniqueKey ||| (2 ^ 256 - 1)
        deviceKeySeed := s.otp.deviceKeySeed ||| (2 ^ 256 - 1) } := rfl
@[simp] theorem Upd.faultInstance_wrote (k : Nat) (f : FaultInstance → FaultInstance) (s : State) :
    (Upd.apply (.faultInstance k f) s).faults = { s.faults with instances := s.faults.instances.set k (f (s.faults.instances.getD k FaultInstance.init)) } := rfl
@[simp] theorem Upd.wake_wrote (r : WakeRecord) (s : State) :
    (Upd.apply (.wake r) s).canopy = { s.canopy with wakeLog := (r :: s.canopy.wakeLog).take 16 } := rfl
@[simp] theorem Upd.canopyReset_wrote (s : State) :
    (Upd.apply .canopyReset s).canopy = { Canopy.reset with wakeLog := [] } := rfl
@[simp] theorem Upd.useFree_wrote (s : State) :
    (Upd.apply .useFree s).freeUsed = s.freeUsed + 1 := rfl
@[simp] theorem Upd.emit_wrote (e : Emission) (s : State) :
    (Upd.apply (.emit e) s).out = s.out ++ [e] := rfl
@[simp] theorem Upd.write_wrote (b : Buffer) (off : Nat) (bs : Bytes) (s : State) :
    (Upd.apply (.write b off bs) s).buffers = s.buffers.update b fun m => m.writeBytes off bs := rfl
@[simp] theorem Upd.wipe_wrote (b : Buffer) (s : State) :
    (Upd.apply (.wipe b) s).buffers = s.buffers.update b fun _ => [] := rfl
@[simp] theorem Upd.restart_otp_wrote (s : State) :
    (Upd.apply .restart s).otp = s.otp := rfl
@[simp] theorem Upd.restart_flash_wrote (s : State) :
    (Upd.apply .restart s).flash = s.flash := rfl
@[simp] theorem Upd.restart_canopy_wrote (s : State) :
    (Upd.apply .restart s).canopy = s.canopy := rfl

/-! ## Every update keeps the stores in form -/

theorem HostRing.norm_positions (r : HostRing) :
    r.norm.tail < 131072 ∧ r.norm.head < 131072 ∧ r.norm.next < 131072 := by
  simp only [HostRing.norm, position17]
  omega

theorem EventQueue.norm_positions (q : EventQueue) : q.norm.head < 131072 ∧ q.norm.tail < 131072 := by
  simp only [EventQueue.norm, position17]
  omega

theorem PMap.forall_set {α : Type} (m : PMap α) (n : Nat) (a : α) (p : Nat × α → Prop) (h : ∀ e ∈ m, p e)
    (ha : p (n, a)) : ∀ e ∈ m.set n a, p e := by
  intro e he
  rcases PMap.mem_set m n a e he with rfl | he
  · exact ha
  · exact h e he

theorem take_length_le {α : Type} (n : Nat) (l : List α) : (l.take n).length ≤ n := by
  simp [List.length_take]

theorem pushEvent_fifo (q : Sequencer) (r : EventRecord) (h : q.backlog ≤ q.peak + 8 ∧ q.peak ≤ 1024) :
    (pushEvent q r).backlog ≤ (pushEvent q r).peak + 8 ∧ (pushEvent q r).peak ≤ 1024 := by
  unfold pushEvent
  split
  · constructor
    · show q.backlog + 1 ≤ max q.peak (q.backlog + 1 - 8) + 8
      omega
    · show max q.peak (q.backlog + 1 - 8) ≤ 1024
      omega
  · exact h

theorem pushEvent_mem (q : Sequencer) (r e : EventRecord) (h : e ∈ (pushEvent q r).fifo) : e = r ∨ e ∈ q.fifo := by
  unfold pushEvent at h
  split at h
  · simp only [List.mem_append, List.mem_singleton] at h
    exact h.symm
  · exact Or.inr h

theorem pushEvent_next (q : Sequencer) (r : EventRecord) : (pushEvent q r).next = (q.next + 1) % 4294967296 := by
  unfold pushEvent
  split <;> rfl

theorem Clock.tick_range (c : Clock) (inc : Nat) :
    (c.tick inc).sec < 18446744073709551616 ∧ (c.tick inc).ns < 1000000000 ∧ (c.tick inc).frac < 281474976710656 := by
  simp only [Clock.tick]
  omega

theorem Clock.ofUnits_range (t : Nat) :
    (Clock.ofUnits t).sec < 18446744073709551616 ∧ (Clock.ofUnits t).ns < 1000000000 ∧
      (Clock.ofUnits t).frac < 281474976710656 := by
  simp only [Clock.ofUnits, secUnits]
  omega

/-- Every primitive update keeps the stores and bounded logs in form: one that writes none of them, by its fields. -/
theorem Upd.stores_apply (u : Upd) (s : State) (h : s.Stores) : (u.apply s).Stores := by
  cases u with
  | obj k v =>
    exact { h with
      dictOrder := dictSet_sorted _ _ _ _ h.dictOrder
      dictLean := fun e he => (mem_dictSet _ _ _ _ e he).elim (fun x => x.1 ▸ x.2) (h.dictLean e) }
  | defaults keep =>
    exact { h with
      dictOrder := dictFilter_sorted _ _ h.dictOrder
      dictLean := fun e he => h.dictLean e (List.mem_filter.1 he).1 }
  | clamp r => exact { h with clampLog := take_length_le _ _ }
  | clearClamps => exact { h with clampLog := Nat.zero_le _ }
  | write b off bs =>
    refine { h with buffers := fun c => ?_ }
    by_cases hc : c = b
    · subst hc
      exact (buffers_write_same s.buffers c _).symm ▸ Memory.writeBytes_wf bs _ off (h.buffers c)
    · exact (buffers_write_other s.buffers b c _ hc).symm ▸ h.buffers c
  | wipe b =>
    refine { h with buffers := fun c => ?_ }
    by_cases hc : c = b
    · subst hc
      exact (buffers_write_same s.buffers c _).symm ▸ rfl
    · exact (buffers_write_other s.buffers b c _ hc).symm ▸ h.buffers c
  | count item n =>
    exact { h with
      counterOrder := PMap.set_wf _ _ _ h.counterOrder
      counterRange := PMap.forall_set _ _ _ (fun e : Nat × Nat => e.2 < 18446744073709551616) h.counterRange
        (Nat.mod_lt _ (by decide)) }
  | clearBin item =>
    simp only [Upd.apply]
    split
    · exact { h with
        counterOrder := PMap.erase_wf _ _ h.counterOrder
        counterRange := fun e he => h.counterRange e (PMap.mem_erase _ _ e he) }
    · exact h
  | event sev src reason arg q =>
    refine { h with fifo := pushEvent_fifo _ _ h.fifo, records := ?_, sequence := ?_ }
    · intro e he
      rcases pushEvent_mem _ _ e he with rfl | he
      · refine ⟨h.sequence, ?_, h.clock.2.1, ?_⟩ <;> simp only [stampEvent] <;> omega
      · exact h.records e he
    · show (pushEvent _ _).next < _
      rw [pushEvent_next]
      exact Nat.mod_lt _ (by decide)
  | popEvent =>
    exact { h with records := fun e he => h.records e (List.mem_of_mem_drop he) }
  | takeRaised =>
    refine { h with fifo := ⟨?_, h.fifo.2⟩ }
    have := h.fifo.1
    show s.events.backlog - 8 ≤ s.events.peak + 8
    omega
  | once second src arg =>
    simp only [Upd.apply]
    split <;> exact { h with }
  | clearOnce second =>
    simp only [Upd.apply]
    split
    · exact { h with }
    · refine { h with fifo := ?_ }
      have := h.fifo
      show s.events.backlog ≤ s.events.backlog - 8 + 8 ∧ s.events.backlog - 8 ≤ 1024
      omega
  | tick => exact { h with clock := Clock.tick_range _ _, segments := PMap.map_wf _ _ h.segments }
  | setClock t => exact { h with clock := Clock.ofUnits_range t }
  | segment p f => exact { h with segments := PMap.set_wf _ _ _ h.segments }
  | txRing r f =>
    exact { h with txRings := ⟨PMap.set_wf _ _ _ h.txRings.1, PMap.forall_set _ _ _
      (fun e : Nat × HostRing => e.2.tail < 131072 ∧ e.2.head < 131072 ∧ e.2.next < 131072) h.txRings.2
      (HostRing.norm_positions _)⟩ }
  | rxRing r f =>
    exact { h with rxRings := ⟨PMap.set_wf _ _ _ h.rxRings.1, PMap.forall_set _ _ _
      (fun e : Nat × HostRing => e.2.tail < 131072 ∧ e.2.head < 131072 ∧ e.2.next < 131072) h.rxRings.2
      (HostRing.norm_positions _)⟩ }
  | queue q f =>
    exact { h with queues := ⟨PMap.set_wf _ _ _ h.queues.1, PMap.forall_set _ _ _
      (fun e : Nat × EventQueue => e.2.head < 131072 ∧ e.2.tail < 131072) h.queues.2 (EventQueue.norm_positions _)⟩ }
  | vector v f => exact { h with vectors := PMap.set_wf _ _ _ h.vectors }
  | function fn f => exact { h with functions := PMap.set_wf _ _ _ h.functions }
  | mismatch r => exact { h with mismatchLog := take_length_le _ _ }
  | burnOwnerSlot a x =>
    simp only [Upd.apply]
    split
    · refine { h with ownerSlots := ?_ }
      simp only [List.length_append, List.length_singleton]
      omega
    · exact h
  | raiseRollback n =>
    refine { h with rollback := ?_ }
    have := h.rollback
    show max s.otp.rollback (min n 64) ≤ 64
    omega
  | faultInstance k f => exact { h with faults := PMap.set_wf _ _ _ h.faults }
  | wake r => exact { h with wakeLog := take_length_le _ _ }
  | canopyReset => exact { h with wakeLog := Nat.zero_le _ }
  | restart =>
    exact {
      buffers := fun b => by cases b <;> rfl
      dictOrder := dictFilter_sorted _ _ h.dictOrder
      dictLean := fun e he => h.dictLean e (List.mem_filter.1 he).1
      counterOrder := rfl
      counterRange := fun e he => nomatch he
      clampLog := Nat.zero_le _
      mismatchLog := Nat.zero_le _
      wakeLog := h.wakeLog
      fifo := ⟨Nat.zero_le _, Nat.zero_le _⟩
      records := fun e he => nomatch he
      sequence := (by decide : (0 : Nat) < 4294967296)
      clock := (by decide : (0 : Nat) < 18446744073709551616 ∧ (0 : Nat) < 1000000000 ∧ (0 : Nat) < 281474976710656)
      txRings := ⟨rfl, fun e he => nomatch he⟩
      rxRings := ⟨rfl, fun e he => nomatch he⟩
      queues := ⟨rfl, fun e he => nomatch he⟩
      vectors := rfl
      functions := rfl
      segments := rfl
      faults := rfl
      ownerSlots := h.ownerSlots
      rollback := h.rollback }
  | _ => exact { h with }

end Sys2Proof.Machine
end

