-- ==== Sys2Proof/Laws/Effects.lean ====
section
/-! SUPPORT. Laws of effects: what is kept by every update is kept by every effect; what an effect whose updates all lie in a
mask can change; and what numbering the events of a datapath cycle does. -/

namespace Sys2Proof.Machine

/-! ## Running -/

@[simp] theorem Eff.run_skip (s : State) : Eff.skip.run s = s := rfl
@[simp] theorem Eff.run_upd (u : Upd) (s : State) : (Eff.upd u).run s = u.apply s := rfl
@[simp] theorem Eff.run_seq (a b : Eff) (s : State) : (Eff.seq a b).run s = b.run (a.run s) := rfl
@[simp] theorem Eff.run_look (f : State → Eff) (s : State) : (Eff.look f).run s = (f s).run s := rfl
@[simp] theorem Eff.run_all_nil (s : State) : (Eff.all []).run s = s := rfl
@[simp] theorem Eff.run_all_cons (e : Eff) (es : List Eff) (s : State) :
    (Eff.all (e :: es)).run s = (Eff.all es).run (e.run s) := rfl
@[simp] theorem Eff.run_when_true (e : Eff) (s : State) : (Eff.when true e).run s = e.run s := rfl
@[simp] theorem Eff.run_when_false (e : Eff) (s : State) : (Eff.when false e).run s = s := rfl
theorem Eff.run_when (c : Bool) (e : Eff) (s : State) : (Eff.when c e).run s = if c then e.run s else s := by
  cases c <;> rfl
theorem Eff.run_ite (c : Prop) [Decidable c] (a b : Eff) (s : State) :
    (if c then a else b).run s = if c then a.run s else b.run s := by
  split <;> rfl
theorem Eff.run_whenS (c : State → Bool) (e : Eff) (s : State) :
    (Eff.whenS c e).run s = if c s then e.run s else s := by
  show (if c s then e else Eff.skip).run s = _
  split <;> rfl
@[simp] theorem Eff.run_forEach_nil {α : Type} (f : α → Eff) (s : State) : (Eff.forEach [] f).run s = s := rfl
@[simp] theorem Eff.run_forEach_cons {α : Type} (a : α) (l : List α) (f : α → Eff) (s : State) :
    (Eff.forEach (a :: l) f).run s = (Eff.forEach l f).run ((f a).run s) := rfl

/-- What every update keeps, every effect keeps. -/
theorem Eff.keeps (p : State → Prop) (hp : ∀ u s, p s → p (Upd.apply u s)) (e : Eff) (s : State) (h : p s) :
    p (e.run s) := by
  induction e generalizing s with
  | skip => exact h
  | upd u => exact hp u s h
  | seq a b iha ihb => exact ihb _ (iha s h)
  | look f ih => exact ih s s h

/-- A relation that every update stands in, every effect stands in. -/
theorem Eff.relates (r : State → State → Prop) (hr : ∀ s, r s s) (ht : ∀ a b c, r a b → r b c → r a c)
    (hu : ∀ u s, r s (Upd.apply u s)) (e : Eff) (s : State) : r s (e.run s) := by
  induction e generalizing s with
  | skip => exact hr s
  | upd u => exact hu u s
  | seq a b iha ihb => exact ht _ _ _ (iha s) (ihb _)
  | look f ih => exact ih s s

/-- The same where only the updates of a predicate stand in the relation, for an effect that issues only such. -/
theorem Eff.relates_only (q : Upd → Prop) (r : State → State → Prop) (hr : ∀ s, r s s)
    (ht : ∀ a b c, r a b → r b c → r a c) (hu : ∀ u s, q u → r s (Upd.apply u s)) (e : Eff) (h : e.Only q) (s : State) :
    r s (e.run s) := by
  induction e generalizing s with
  | skip => exact hr s
  | upd u => exact hu u s h
  | seq a b iha ihb => exact ht _ _ _ (iha h.1 s) (ihb h.2 _)
  | look f ih => exact ih s (h s) s

@[simp] theorem Eff.pending_run (e : Eff) (s : State) : (e.run s).pending = s.pending :=
  Eff.relates (fun a b => b.pending = a.pending) (fun _ => rfl) (fun _ _ _ h1 h2 => h2.trans h1)
    Upd.pending_apply e s

theorem Eff.stores_run (e : Eff) (s : State) (h : s.Stores) : (e.run s).Stores :=
  Eff.keeps State.Stores Upd.stores_apply e s h

theorem Otp.Rises.refl (a : Otp) : a.Rises a :=
  ⟨fun _ h => h, fun _ h => h, ⟨rfl, rfl⟩, fun _ h => h, fun _ h => h, List.prefix_refl _, Nat.le_refl _, id⟩

/-- Every update keeps each bit and each slot of OTP (R322). -/
theorem Upd.otp_rises (u : Upd) (s : State) : s.otp.Rises (u.apply s).otp := by
  have h0 := Otp.Rises.refl s.otp
  cases u with
  | burnRevoked m =>
    exact { h0 with revoked := fun i h => by show (s.otp.keyRevoked ||| m).testBit i = true; simp [Nat.testBit_or, h] }
  | burnLocks m =>
    exact { h0 with locks := fun i h => by show (s.otp.locks ||| (m % 128)).testBit i = true; simp [Nat.testBit_or, h] }
  | burnOwnerSlot a x =>
    simp only [Upd.apply]
    split
    · exact { h0 with slots := List.prefix_append _ _ }
    · exact h0
  | raiseRollback n => exact { h0 with rollback := Nat.le_max_left _ _ }
  | burnDebug =>
    exact { h0 with
      uniqueKey := fun i h => by show (s.otp.hardwareUniqueKey ||| (2 ^ 256 - 1)).testBit i = true; simp [Nat.testBit_or, h]
      keySeed := fun i h => by show (s.otp.deviceKeySeed ||| (2 ^ 256 - 1)).testBit i = true; simp [Nat.testBit_or, h]
      debug := fun _ => rfl }
  | clearBin item =>
    simp only [Upd.apply]
    split <;> exact h0
  | once b x y =>
    simp only [Upd.apply]
    split <;> exact h0
  | clearOnce b =>
    simp only [Upd.apply]
    split <;> exact h0
  | _ => exact h0

theorem Otp.Rises.trans {a b c : Otp} (h1 : a.Rises b) (h2 : b.Rises c) : a.Rises c :=
  ⟨fun i h => h2.uniqueKey i (h1.uniqueKey i h), fun i h => h2.keySeed i (h1.keySeed i h),
    ⟨h1.hashes.1.trans h2.hashes.1, h1.hashes.2.trans h2.hashes.2⟩, fun i h => h2.revoked i (h1.revoked i h),
    fun i h => h2.locks i (h1.locks i h), h1.slots.trans h2.slots,
    Nat.le_trans h1.rollback h2.rollback, fun h => h2.debug (h1.debug h)⟩

theorem Eff.otp_rises (e : Eff) (s : State) : s.otp.Rises (e.run s).otp :=
  Eff.relates (fun a b => a.otp.Rises b.otp)
    (fun s => Otp.Rises.refl s.otp) (fun _ _ _ => Otp.Rises.trans)
    Upd.otp_rises e s

/-! ## Masks: sets of updates -/

/-- The number of a part in a mask. -/
def Part.bit : Part → Nat
  | .dict => 0 | .staging => 1 | .clampLog => 2 | .mailbox => 3 | .buffers => 4 | .image => 5 | .counters => 6
  | .events => 7 | .clock => 8 | .time => 9 | .pins => 10 | .ring => 11 | .segments => 12 | .traffic => 13
  | .messages => 14 | .txRings => 15 | .rxRings => 16 | .queues => 17 | .functions => 18 | .twin => 19
  | .mismatchLog => 20 | .otp => 21 | .flash => 22 | .kiln => 23 | .faults => 24 | .reader => 25 | .canopy => 26
  | .power => 27 | .free => 28 | .out => 29

/-- A set of parts, of regions and of counter ranges, by bit number; the regions and ranges are those of two tables. -/
structure Mask where
  parts : Nat
  objects : Nat
  counters : Nat

/-- Whether a numbered region of a set covers a class and subindex. -/
def anyRegion : List Region → Nat → Nat → Nat → Bool
  | [], _, _, _ => false
  | r :: rs, m, c, sub => (m % 2 == 1 && r.covers c sub) || anyRegion rs (m / 2) c sub

/-- Whether a numbered range of a set covers a counter class. -/
def anyRange : List (Nat × Nat) → Nat → Nat → Bool
  | [], _, _ => false
  | r :: rs, m, c => (m % 2 == 1 && decide (r.1 ≤ c) && decide (c ≤ r.2)) || anyRange rs (m / 2) c

/-- The members of a set. -/
def members {α : Type} : List α → Nat → List α
  | [], _ => []
  | r :: rs, m => if m % 2 = 1 then r :: members rs (m / 2) else members rs (m / 2)

theorem anyRegion_eq (rs : List Region) (m c sub : Nat) :
    anyRegion rs m c sub = (members rs m).any fun r => r.covers c sub := by
  induction rs generalizing m with
  | nil => rfl
  | cons r rs ih =>
    simp only [anyRegion, members, ih]
    by_cases h : m % 2 = 1 <;> simp [h]

theorem anyRange_eq (rs : List (Nat × Nat)) (m c : Nat) :
    anyRange rs m c = (members rs m).any fun r => decide (r.1 ≤ c) && decide (c ≤ r.2) := by
  induction rs generalizing m with
  | nil => rfl
  | cons r rs ih =>
    simp only [anyRange, members, ih]
    by_cases h : m % 2 = 1 <;> simp [h]

/-- Set inclusion. -/
def Mask.Le (a b : Mask) : Prop :=
  a.parts &&& b.parts = a.parts ∧ a.objects &&& b.objects = a.objects ∧ a.counters &&& b.counters = a.counters

theorem land_sub {a b c : Nat} (h1 : a &&& b = a) (h2 : b &&& c = b) : a &&& c = a := by
  rw [← h1, Nat.land_assoc, h2]

theorem Mask.Le.trans {a b c : Mask} (h1 : a.Le b) (h2 : b.Le c) : a.Le c :=
  ⟨land_sub h1.1 h2.1, land_sub h1.2.1 h2.2.1, land_sub h1.2.2 h2.2.2⟩

theorem Mask.Le.refl (a : Mask) : a.Le a := ⟨Nat.and_self _, Nat.and_self _, Nat.and_self _⟩

theorem land_half {a b : Nat} (h : a &&& b = a) : (a / 2) &&& (b / 2) = a / 2 := by
  have := congrArg (· / 2) h
  simpa [Nat.and_div_two] using this

theorem land_odd {a b : Nat} (h : a &&& b = a) (ha : a % 2 = 1) : b % 2 = 1 := by
  have h1 : a.testBit 0 = true := by simp [ha]
  have h2 : (a &&& b).testBit 0 = true := by rw [h]; exact h1
  rw [Nat.testBit_and, Bool.and_eq_true] at h2
  simpa using h2.2

theorem members_mono {α : Type} (rs : List α) (a b : Nat) (h : a &&& b = a) (r : α) (hr : r ∈ members rs a) :
    r ∈ members rs b := by
  induction rs generalizing a b with
  | nil => exact hr
  | cons x xs ih =>
    simp only [members] at hr ⊢
    by_cases ha : a % 2 = 1
    · rw [if_pos ha] at hr
      rw [if_pos (land_odd h ha)]
      rcases List.mem_cons.1 hr with rfl | hr
      · exact List.Mem.head _
      · exact List.Mem.tail _ (ih _ _ (land_half h) hr)
    · rw [if_neg ha] at hr
      have := ih _ _ (land_half h) hr
      split
      · exact List.Mem.tail _ this
      · exact this

/-- The tables of regions and counter ranges. -/
structure Tables where
  regions : List Region
  ranges : List (Nat × Nat)

/-- The members of a mask cover the classes `lo` to `hi`, by one region. -/
def Mask.Obj (t : Tables) (m : Mask) (lo hi sub : Nat) : Prop :=
  ∃ r ∈ members t.regions m.objects, r.lo ≤ lo ∧ hi ≤ r.hi ∧ (r.sub = none ∨ r.sub = some sub)

def Mask.Ctr (t : Tables) (m : Mask) (lo hi : Nat) : Prop :=
  ∃ r ∈ members t.ranges m.counters, r.1 ≤ lo ∧ hi ≤ r.2

def Mask.has (m : Mask) (p : Part) : Prop := m.parts.testBit p.bit = true

theorem Mask.Obj.mono {t : Tables} {a b : Mask} {lo hi sub : Nat} (h : Mask.Obj t a lo hi sub) (hab : a.Le b) :
    Mask.Obj t b lo hi sub := by
  obtain ⟨r, hr, hc⟩ := h
  exact ⟨r, members_mono _ _ _ hab.2.1 r hr, hc⟩

theorem Mask.Ctr.mono {t : Tables} {a b : Mask} {lo hi : Nat} (h : Mask.Ctr t a lo hi) (hab : a.Le b) :
    Mask.Ctr t b lo hi := by
  obtain ⟨r, hr, hc⟩ := h
  exact ⟨r, members_mono _ _ _ hab.2.2 r hr, hc⟩

theorem Mask.has.mono {a b : Mask} {p : Part} (h : a.has p) (hab : a.Le b) : b.has p := by
  unfold Mask.has at *
  have h2 : (a.parts &&& b.parts).testBit p.bit = true := by rw [hab.1]; exact h
  rw [Nat.testBit_and, Bool.and_eq_true] at h2
  exact h2.2

/-- Deciding the three, on numerals. -/
theorem Mask.Obj.of {t : Tables} {m : Mask} {lo hi sub : Nat}
    (h : ((members t.regions m.objects).any fun r => Nat.ble r.lo lo && Nat.ble hi r.hi &&
      (r.sub == none || r.sub == some sub)) = true) : Mask.Obj t m lo hi sub := by
  obtain ⟨r, hr, hc⟩ := List.any_eq_true.1 h
  simp only [Bool.and_eq_true, Bool.or_eq_true, Nat.ble_eq, beq_iff_eq] at hc
  exact ⟨r, hr, hc.1.1, hc.1.2, hc.2⟩

theorem Mask.Ctr.of {t : Tables} {m : Mask} {lo hi : Nat}
    (h : ((members t.ranges m.counters).any fun r => Nat.ble r.1 lo && Nat.ble hi r.2) = true) : Mask.Ctr t m lo hi := by
  obtain ⟨r, hr, hc⟩ := List.any_eq_true.1 h
  simp only [Bool.and_eq_true, Nat.ble_eq] at hc
  exact ⟨r, hr, hc.1, hc.2⟩

theorem Mask.Obj.any {t : Tables} {m : Mask} {lo hi : Nat} (sub : Nat)
    (h : ((members t.regions m.objects).any fun r => Nat.ble r.lo lo && Nat.ble hi r.hi && r.sub == none) = true) :
    Mask.Obj t m lo hi sub := by
  obtain ⟨r, hr, hc⟩ := List.any_eq_true.1 h
  simp only [Bool.and_eq_true, Nat.ble_eq, beq_iff_eq] at hc
  exact ⟨r, hr, hc.1.1, hc.1.2, Or.inl hc.2⟩

/-- The same for a greater mask. -/
theorem Mask.Le.obj {t : Tables} {a m : Mask} (hm : a.Le m) {lo hi sub : Nat}
    (h : ((members t.regions a.objects).any fun r => Nat.ble r.lo lo && Nat.ble hi r.hi &&
      (r.sub == none || r.sub == some sub)) = true) : Mask.Obj t m lo hi sub := (Mask.Obj.of h).mono hm
theorem Mask.Le.objAny {t : Tables} {a m : Mask} (hm : a.Le m) {lo hi sub : Nat}
    (h : ((members t.regions a.objects).any fun r => Nat.ble r.lo lo && Nat.ble hi r.hi && r.sub == none) = true) :
    Mask.Obj t m lo hi sub := (Mask.Obj.any sub h).mono hm
theorem Mask.Le.ctr {t : Tables} {a m : Mask} (hm : a.Le m) {lo hi : Nat}
    (h : ((members t.ranges a.counters).any fun r => Nat.ble r.1 lo && Nat.ble hi r.2) = true) : Mask.Ctr t m lo hi :=
  (Mask.Ctr.of h).mono hm
theorem Mask.Le.has {a m : Mask} (hm : a.Le m) {p : Part} (h : a.parts.testBit p.bit = true) : m.has p :=
  Mask.has.mono (a := a) h hm
theorem Mask.Le.parts' {a m : Mask} (hm : a.Le m) (l : List Part) (h : (l.all fun p => a.parts.testBit p.bit) = true) :
    ∀ p ∈ l, m.has p := fun p hp => hm.has (List.all_eq_true.1 h p hp)
theorem Mask.Le.via {a b c : Mask} (h : b.Le c) (h1 : a.parts &&& b.parts = a.parts)
    (h2 : a.objects &&& b.objects = a.objects) (h3 : a.counters &&& b.counters = a.counters) : a.Le c :=
  Mask.Le.trans ⟨h1, h2, h3⟩ h

/-- An update lies in a mask. -/
def Mask.allows (t : Tables) (m : Mask) : Upd → Prop
  | .obj k _ => m.has .dict ∨ Mask.Obj t m (objClass k.idx) (objClass k.idx) k.sub
  | .count i _ => m.has .counters ∨ Mask.Ctr t m (counterClass i) (counterClass i)
  | .clearBin i => m.has .counters ∨ Mask.Ctr t m (counterClass i) (counterClass i)
  | u => ∀ p ∈ u.touches, m.has p

theorem Mask.allows.mono {t : Tables} {a b : Mask} {u : Upd} (h : a.allows t u) (hab : a.Le b) : b.allows t u := by
  cases u
  case obj k v => exact h.imp (fun x => x.mono hab) (fun x => x.mono hab)
  case count i n => exact h.imp (fun x => x.mono hab) (fun x => x.mono hab)
  case clearBin i => exact h.imp (fun x => x.mono hab) (fun x => x.mono hab)
  all_goals exact fun p hp => (h p hp).mono hab

/-- Every update that an effect can issue lies in a mask. -/
structure Eff.Within (t : Tables) (m : Mask) (e : Eff) : Prop where
  only : e.Only (Mask.allows t m)

section Within
variable {t : Tables} {m : Mask}

theorem Within.skip : Eff.Within t m .skip := ⟨trivial⟩
theorem Within.upd {u : Upd} (h : m.allows t u) : Eff.Within t m (.upd u) := ⟨h⟩
theorem Within.seq {a b : Eff} (ha : a.Within t m) (hb : b.Within t m) : Eff.Within t m (.seq a b) := ⟨ha.only, hb.only⟩
theorem Within.look {f : State → Eff} (h : ∀ s, (f s).Within t m) : Eff.Within t m (.look f) := ⟨fun s => (h s).only⟩
theorem Within.nil : Eff.Within t m (.all []) := ⟨trivial⟩
theorem Within.cons {e : Eff} {es : List Eff} (h : e.Within t m) (hs : (Eff.all es).Within t m) :
    Eff.Within t m (.all (e :: es)) := ⟨h.only, hs.only⟩
theorem Within.when {c : Bool} {e : Eff} (h : e.Within t m) : Eff.Within t m (.when c e) := by
  cases c
  · exact ⟨trivial⟩
  · exact h
theorem Within.ite {c : Prop} [Decidable c] {a b : Eff} (ha : a.Within t m) (hb : b.Within t m) :
    Eff.Within t m (if c then a else b) := by
  split
  · exact ha
  · exact hb
theorem Within.whenS {c : State → Bool} {e : Eff} (h : e.Within t m) : Eff.Within t m (.whenS c e) :=
  Within.look fun _ => Within.ite h Within.skip
theorem Within.forEach {α : Type} {l : List α} {f : α → Eff} (h : ∀ a, (f a).Within t m) :
    Eff.Within t m (.forEach l f) := by
  induction l with
  | nil => exact ⟨trivial⟩
  | cons a l ih => exact ⟨(h a).only, ih.only⟩
theorem Within.ofOption {α : Type} {o : Option α} {f : α → Eff} (h : ∀ a, (f a).Within t m) :
    Eff.Within t m (.ofOption o f) := by
  cases o
  · exact ⟨trivial⟩
  · exact h _
theorem Only.mono {a b : Mask} {e : Eff} (h : e.Only (a.allows t)) (hab : a.Le b) : e.Only (b.allows t) := by
  induction e with
  | skip => exact trivial
  | upd u => exact Mask.allows.mono h hab
  | seq x y ihx ihy => exact ⟨ihx h.1, ihy h.2⟩
  | look f ih => exact fun s => ih s (h s)
theorem Within.mono {a b : Mask} {e : Eff} (h : e.Within t a) (hab : a.Le b) : e.Within t b := ⟨Only.mono h.only hab⟩

theorem Within.setObj {idx sub row : Nat} {v : Int} (h : Mask.Obj t m (objClass idx) (objClass idx) sub) :
    Eff.Within t m (Machine.setObj idx sub v row) := ⟨Or.inr h⟩
theorem Within.setN {idx sub row v : Nat} (h : Mask.Obj t m (objClass idx) (objClass idx) sub) :
    Eff.Within t m (Machine.setN idx sub v row) := ⟨Or.inr h⟩
theorem Within.setB {idx sub row : Nat} {v : Bool} (h : Mask.Obj t m (objClass idx) (objClass idx) sub) :
    Eff.Within t m (Machine.setB idx sub v row) := ⟨Or.inr h⟩
theorem Within.bumpObj {idx sub row n : Nat} (h : Mask.Obj t m (objClass idx) (objClass idx) sub) :
    Eff.Within t m (Machine.bumpObj idx sub row n) := ⟨fun _ => Or.inr h⟩
theorem Within.count {i : Nat} (h : Mask.Ctr t m (counterClass i) (counterClass i)) :
    Eff.Within t m (Machine.count i) := ⟨Or.inr h⟩
theorem Within.countN {i n : Nat} (h : Mask.Ctr t m (counterClass i) (counterClass i)) :
    Eff.Within t m (Machine.countN i n) := ⟨Or.inr h⟩
theorem Within.append {a b : List Eff} (ha : (Eff.all a).Within t m) (hb : (Eff.all b).Within t m) :
    Eff.Within t m (.all (a ++ b)) := by
  induction a with
  | nil => exact hb
  | cons e es ih => exact ⟨ha.only.1, (ih ⟨ha.only.2⟩).only⟩
theorem Within.objUpd {idx sub row : Nat} {v : Int} (h : Mask.Obj t m (objClass idx) (objClass idx) sub) :
    Eff.Within t m (.upd (.obj ⟨idx, row, sub⟩ v)) := ⟨Or.inr h⟩
theorem Within.countUpd {i n : Nat} (h : Mask.Ctr t m (counterClass i) (counterClass i)) :
    Eff.Within t m (.upd (.count i n)) := ⟨Or.inr h⟩
theorem Within.clearBin {i : Nat} (h : Mask.Ctr t m (counterClass i) (counterClass i)) :
    Eff.Within t m (.upd (.clearBin i)) := ⟨Or.inr h⟩

theorem objClass_port (p k : Nat) : objClass (portIdx p k) = 0x5000 + k % 16 := by
  unfold objClass portIdx
  split <;> omega

theorem Obj.port {p k sub : Nat} (h : Mask.Obj t m (0x5000 + k % 16) (0x5000 + k % 16) sub) :
    Mask.Obj t m (objClass (portIdx p k)) (objClass (portIdx p k)) sub := by
  rw [objClass_port]
  exact h

theorem Obj.block {b n x sub : Nat} (hb : b + n < 0x5000 ∨ 0x6000 ≤ b) (hx : x ≤ n) (h : Mask.Obj t m b (b + n) sub) :
    Mask.Obj t m (objClass (b + x)) (objClass (b + x)) sub := by
  obtain ⟨r, hr, h1, h2, h3⟩ := h
  have : objClass (b + x) = b + x := by
    unfold objClass
    split <;> omega
  exact ⟨r, hr, by omega, by omega, h3⟩

theorem Obj.grove {b g sub : Nat} (hb : b + 7 < 0x5000 ∨ 0x6000 ≤ b) (h : Mask.Obj t m b (b + 7) sub) :
    Mask.Obj t m (objClass (groveIdx b g)) (objClass (groveIdx b g)) sub :=
  Obj.block hb (Nat.le_of_lt_succ (Nat.mod_lt _ (by decide))) h
theorem Obj.engine {b e sub : Nat} (hb : b + 127 < 0x5000 ∨ 0x6000 ≤ b) (h : Mask.Obj t m b (b + 127) sub) :
    Mask.Obj t m (objClass (engineIdx b e)) (objClass (engineIdx b e)) sub :=
  Obj.block hb (Nat.le_of_lt_succ (Nat.mod_lt _ (by decide))) h
theorem Obj.portTable {b p sub : Nat} (hb : b + 255 < 0x5000 ∨ 0x6000 ≤ b) (h : Mask.Obj t m b (b + 255) sub) :
    Mask.Obj t m (objClass (portTable b p)) (objClass (portTable b p)) sub :=
  Obj.block hb (Nat.le_of_lt_succ (Nat.mod_lt _ (by decide))) h

theorem Within.setPort {p k sub row : Nat} {v : Int} (h : Mask.Obj t m (0x5000 + k % 16) (0x5000 + k % 16) sub) :
    Eff.Within t m (Machine.setPort p k sub v row) := Within.setObj (Obj.port h)

theorem Ctr.port {p i : Nat} (h : Mask.Ctr t m (i % 32) (i % 32)) :
    Mask.Ctr t m (counterClass (portItem p i)) (counterClass (portItem p i)) := by
  have : counterClass (portItem p i) = i % 32 := by
    unfold counterClass portItem
    split <;> omega
  rw [this]
  exact h
theorem Ctr.engine {e i : Nat} (h : Mask.Ctr t m (100 + i % 16) (100 + i % 16)) :
    Mask.Ctr t m (counterClass (engineItem e i)) (counterClass (engineItem e i)) := by
  have : counterClass (engineItem e i) = 100 + i % 16 := by
    unfold counterClass engineItem
    repeat' split
    all_goals omega
  rw [this]
  exact h
theorem Ctr.grove {g i : Nat} (h : Mask.Ctr t m (200 + i % 64) (200 + i % 64)) :
    Mask.Ctr t m (counterClass (groveItem g i)) (counterClass (groveItem g i)) := by
  have : counterClass (groveItem g i) = 200 + i % 64 := by
    unfold counterClass groveItem
    repeat' split
    all_goals omega
  rw [this]
  exact h
theorem Ctr.hist {x b : Nat} (h : Mask.Ctr t m 20000 20000) :
    Mask.Ctr t m (counterClass (histItem x b)) (counterClass (histItem x b)) := by
  have : counterClass (histItem x b) = 20000 := by
    unfold counterClass histItem
    repeat' split
    all_goals omega
  rw [this]
  exact h
/-- A counter of one of the single sets, whatever its number in the set. -/
theorem Ctr.between {c lo hi : Nat} (h1 : 10752 ≤ lo) (h2 : hi < 11216) (hl : lo ≤ c) (hh : c ≤ hi) (h : Mask.Ctr t m lo hi) :
    Mask.Ctr t m (counterClass c) (counterClass c) := by
  obtain ⟨r, hr, ha, hb⟩ := h
  have : counterClass c = c := by
    unfold counterClass
    repeat' split
    all_goals omega
  exact ⟨r, hr, by omega, by omega⟩
theorem Ctr.anyGrove {g i : Nat} (h : Mask.Ctr t m 200 263) :
    Mask.Ctr t m (counterClass (groveItem g i)) (counterClass (groveItem g i)) := by
  obtain ⟨r, hr, ha, hb⟩ := h
  exact Ctr.grove ⟨r, hr, by omega, by omega⟩
theorem Ctr.anyCommons {i : Nat} (h : Mask.Ctr t m 10752 11007) :
    Mask.Ctr t m (counterClass (commonsItem i)) (counterClass (commonsItem i)) :=
  Ctr.between (by decide) (by decide) (by unfold commonsItem; omega) (by unfold commonsItem; omega) h
theorem Ctr.anyPcie {i : Nat} (h : Mask.Ctr t m 11072 11135) :
    Mask.Ctr t m (counterClass (pcieItem i)) (counterClass (pcieItem i)) :=
  Ctr.between (by decide) (by decide) (by unfold pcieItem; omega) (by unfold pcieItem; omega) h
theorem Ctr.anyReader {i : Nat} (h : Mask.Ctr t m 11184 11215) :
    Mask.Ctr t m (counterClass (readerItem i)) (counterClass (readerItem i)) :=
  Ctr.between (by decide) (by decide) (by unfold readerItem; omega) (by unfold readerItem; omega) h

end Within

/-! ## From a mask to a frame -/

theorem not_has_of_allows {t : Tables} {m : Mask} {u : Upd} {p : Part} (h : m.allows t u) (hp : ¬m.has p)
    (h1 : p ≠ .dict) (h2 : p ≠ .counters) : p ∉ u.touches := by
  intro hm
  cases u
  case obj k v => exact h1 (by simpa [Upd.touches] using hm)
  case count i n => exact h2 (by simpa [Upd.touches] using hm)
  case clearBin i => exact h2 (by simpa [Upd.touches] using hm)
  all_goals exact hp (h p hm)

theorem Part.same_refl (p : Part) (s : State) : p.same s s := by
  cases p <;> first | exact trivial | rfl | exact ⟨rfl, rfl⟩ | (unfold Part.same; simp)

theorem Part.same_trans (p : Part) (a b c : State) (h1 : p.same a b) (h2 : p.same b c) : p.same a c := by
  cases p <;>
    first
    | exact trivial
    | exact Eq.trans h1 h2
    | exact ⟨h1.1.trans h2.1, h1.2.trans h2.2⟩
    | (unfold Part.same at *; simp_all)

/-- A footprint has all that a mask has. -/
structure Footprint.Covers (t : Tables) (fp : Footprint) (m : Mask) : Prop where
  parts : ∀ p, m.has p → p ∈ fp.parts
  objects : ∀ r ∈ members t.regions m.objects, r ∈ fp.objects
  counters : ∀ r ∈ members t.ranges m.counters, r ∈ fp.counters

/-- An effect within a mask changes nothing outside a footprint that covers the mask. -/
theorem Eff.frames {t : Tables} {fp : Footprint} {m : Mask} {e : Eff} (hc : fp.Covers t m) (he : e.Within t m) (s : State) :
    fp.Frames s (e.run s) := by
  have hu : ∀ u s, m.allows t u → fp.Frames s (Upd.apply u s) := by
    intro u s hu
    refine ⟨?_, ?_, ?_, Upd.pending_apply u s⟩
    · intro k hk
      unfold Footprint.object at hk
      rw [Bool.or_eq_false_iff] at hk
      have hnd : ¬m.has .dict := by
        intro h
        have := hc.parts _ h
        rw [List.contains_eq_mem] at hk
        simp [this] at hk
      by_cases hd : Part.dict ∈ u.touches
      · cases u
        case obj q v =>
          rcases hu with hu | ⟨r, hr, h1, h2, h3⟩
          · exact absurd hu hnd
          · apply key_obj_other
            intro e
            subst e
            have := hk.2
            rw [List.any_eq_false] at this
            apply this r (hc.objects r hr)
            unfold Region.covers
            rcases h3 with h3 | h3 <;> simp [h1, h2, h3]
        case count i n => exact absurd hd (by simp [Upd.touches])
        case clearBin i => exact absurd hd (by simp [Upd.touches])
        all_goals exact absurd (hu _ hd) hnd
      · exact Upd.key_of_not_dict u s k hd
    · intro i hi
      unfold Footprint.counter at hi
      rw [Bool.or_eq_false_iff] at hi
      have hnd : ¬m.has .counters := by
        intro h
        have := hc.parts _ h
        rw [List.contains_eq_mem] at hi
        simp [this] at hi
      by_cases hd : Part.counters ∈ u.touches
      · cases u
        case count j n =>
          rcases hu with hu | ⟨r, hr, h1, h2⟩
          · exact absurd hu hnd
          · apply counter_count_other
            intro e
            subst e
            have := hi.2
            rw [List.any_eq_false] at this
            exact this r (hc.counters r hr) (by simp [h1, h2])
        case clearBin j =>
          rcases hu with hu | ⟨r, hr, h1, h2⟩
          · exact absurd hu hnd
          · simp only [Upd.apply]
            split
            · have hne : i ≠ j := by
                intro e
                subst e
                have := hi.2
                rw [List.any_eq_false] at this
                exact this r (hc.counters r hr) (by simp [h1, h2])
              show ((PMap.get? _ i).getD 0) = (PMap.get? _ i).getD 0
              rw [PMap.get_erase_other _ _ _ hne]
            · rfl
        case obj q v => exact absurd hd (by simp [Upd.touches])
        all_goals exact absurd (hu _ hd) hnd
      · exact Upd.counter_of_not_counters u s i hd
    · intro p hp
      by_cases h1 : p = .dict
      · subst h1
        exact trivial
      · by_cases h2 : p = .counters
        · subst h2
          exact trivial
        · exact Upd.same_of_not_touched u s p (not_has_of_allows hu (fun h => hp (hc.parts p h)) h1 h2)
  exact Eff.relates_only (m.allows t) fp.Frames
    (fun s => ⟨fun _ _ => rfl, fun _ _ => rfl, fun p _ => Part.same_refl p s, rfl⟩)
    (fun a b c h1 h2 => ⟨fun k hk => (h2.objects k hk).trans (h1.objects k hk),
      fun i hi => (h2.counters i hi).trans (h1.counters i hi),
      fun p hp => Part.same_trans p a b c (h1.parts p hp) (h2.parts p hp), h2.pending.trans h1.pending⟩)
    hu e he.only s

/-! ## Numbering the events -/

theorem stampRaised_raised (e : Raised) (s : State) : ((stampRaised e).run s).events.raised = s.events.raised := by
  unfold stampRaised
  simp only [Eff.run_look, Eff.run_seq, Eff.run_upd, Eff.run_when]
  have h : (Upd.apply (.event e.severity e.source e.reason e.arg e.queue) s).events.raised = s.events.raised := by
    show (pushEvent _ _).raised = _
    unfold pushEvent
    split <;> rfl
  split
  · exact h
  · exact h

theorem forEach_stamp_raised (l : List Raised) (s : State) :
    ((Eff.forEach l stampRaised).run s).events.raised = s.events.raised := by
  induction l generalizing s with
  | nil => rfl
  | cons e l ih =>
    rw [Eff.run_forEach_cons, ih, stampRaised_raised]

/-- After the events are numbered none is left raised. -/
theorem flushEvents_settles (s : State) : (flushEvents.run s).events.raised = [] := by
  unfold flushEvents
  simp only [Eff.run_look, Eff.run_seq, Eff.run_upd]
  rw [forEach_stamp_raised]
  rfl

theorem done_settles (e : Eff) (s : State) : ((Eff.seq e flushEvents).run s).events.raised = [] :=
  flushEvents_settles _

/-- A meaning keeps the invariant. -/
theorem done_inv (e : Eff) (s t : State) (h : s.Stores) (hd : done e s = .next t) : t.Inv := by
  cases hd
  exact ⟨Eff.stores_run _ s h, done_settles e s⟩

end Sys2Proof.Machine
end

