-- ==== Sys2Proof/Laws/Tables.lean ====
section
/-! SUPPORT. The regions of objects and the counter classes that effects write, numbered for the masks of the frame lemmas. -/

namespace Sys2Proof.Machine

set_option Elab.async false
set_option linter.unusedTactic false
set_option linter.unusedVariables false

def regions0 : List Region :=
  [
    ⟨0x1000, 0x1000, some 5⟩, ⟨0x1000, 0x1000, some 6⟩, ⟨0x1001, 0x1001, some 0⟩, ⟨0x1003, 0x1003, some 0⟩, ⟨0x1010, 0x1010, some 1⟩, ⟨0x1F81, 0x1F81, some 0⟩,
    ⟨0x2011, 0x2011, some 3⟩, ⟨0x2011, 0x2011, some 4⟩, ⟨0x2042, 0x2042, some 1⟩, ⟨0x2042, 0x2042, some 2⟩, ⟨0x2042, 0x2042, some 3⟩, ⟨0x2042, 0x2042, some 4⟩,
    ⟨0x2042, 0x2042, some 5⟩, ⟨0x2200, 0x2200, some 1⟩, ⟨0x2230, 0x2230, some 3⟩, ⟨0x2230, 0x2230, some 5⟩, ⟨0x2250, 0x2250, some 1⟩, ⟨0x2250, 0x2250, some 2⟩,
    ⟨0x3001, 0x3001, some 1⟩, ⟨0x3001, 0x3001, some 2⟩, ⟨0x3001, 0x3001, some 3⟩, ⟨0x3001, 0x3001, some 4⟩, ⟨0x3001, 0x3001, some 5⟩, ⟨0x3001, 0x3001, some 6⟩,
    ⟨0x3200, 0x3200, some 1⟩, ⟨0x3200, 0x3200, some 2⟩, ⟨0x3200, 0x3200, some 5⟩, ⟨0x3300, 0x3300, some 1⟩, ⟨0x3300, 0x3300, some 2⟩, ⟨0x3400, 0x3400, some 1⟩,
    ⟨0x3400, 0x3400, some 3⟩, ⟨0x3400, 0x3400, some 4⟩, ⟨0x3400, 0x3400, some 5⟩, ⟨0x3400, 0x3400, some 6⟩, ⟨0x3400, 0x3400, some 7⟩, ⟨0x3502, 0x3502, some 1⟩,
    ⟨0x3502, 0x3502, some 2⟩, ⟨0x3502, 0x3502, some 3⟩, ⟨0x3502, 0x3502, some 4⟩, ⟨0x3502, 0x3502, some 5⟩, ⟨0x3601, 0x3601, some 4⟩, ⟨0x3611, 0x3611, some 1⟩,
    ⟨0x3611, 0x3611, some 2⟩, ⟨0x3611, 0x3611, some 3⟩, ⟨0x3700, 0x3700, some 2⟩, ⟨0x4000, 0x4000, some 1⟩, ⟨0x4000, 0x4000, some 2⟩, ⟨0x4000, 0x4000, some 3⟩]
def regions1 : List Region :=
  [
    ⟨0x4001, 0x4001, some 1⟩, ⟨0x4001, 0x4001, some 2⟩, ⟨0x4001, 0x4001, some 3⟩, ⟨0x4001, 0x4001, some 4⟩, ⟨0x4001, 0x4001, some 5⟩, ⟨0x4001, 0x4001, some 6⟩,
    ⟨0x4001, 0x4001, some 7⟩, ⟨0x4001, 0x4001, some 8⟩, ⟨0x4001, 0x4001, some 9⟩, ⟨0x4010, 0x4010, some 4⟩, ⟨0x4010, 0x4010, some 5⟩, ⟨0x4010, 0x4010, some 6⟩,
    ⟨0x4300, 0x4300, some 3⟩, ⟨0x4300, 0x4300, some 4⟩, ⟨0x4300, 0x4300, some 5⟩, ⟨0x4300, 0x4300, some 6⟩, ⟨0x4300, 0x4300, some 7⟩, ⟨0x5000, 0x5000, some 1⟩,
    ⟨0x5001, 0x5001, some 1⟩, ⟨0x5001, 0x5001, some 2⟩, ⟨0x5001, 0x5001, some 3⟩, ⟨0x5001, 0x5001, some 4⟩, ⟨0x5001, 0x5001, some 5⟩, ⟨0x5001, 0x5001, some 6⟩,
    ⟨0x5001, 0x5001, some 7⟩, ⟨0x5005, 0x5005, some 0⟩, ⟨0x5006, 0x5006, some 1⟩, ⟨0x5006, 0x5006, some 2⟩, ⟨0x5006, 0x5006, some 3⟩, ⟨0x5006, 0x5006, some 4⟩,
    ⟨0x5006, 0x5006, some 5⟩, ⟨0x5006, 0x5006, some 6⟩, ⟨0x5006, 0x5006, some 7⟩, ⟨0x5007, 0x5007, some 1⟩, ⟨0x5007, 0x5007, some 2⟩, ⟨0x5007, 0x5007, some 3⟩,
    ⟨0x5007, 0x5007, some 4⟩, ⟨0x5007, 0x5007, some 5⟩, ⟨0x5007, 0x5007, some 6⟩, ⟨0x6001, 0x6001, some 1⟩, ⟨0x6001, 0x6001, some 2⟩, ⟨0x6001, 0x6001, some 3⟩,
    ⟨0x6001, 0x6001, some 4⟩, ⟨0x6021, 0x6021, some 1⟩, ⟨0x6021, 0x6021, some 2⟩, ⟨0x6021, 0x6021, some 3⟩, ⟨0x6021, 0x6021, some 4⟩, ⟨0x6021, 0x6021, some 5⟩]
def regions2 : List Region :=
  [
    ⟨0x6021, 0x6021, some 6⟩, ⟨0x6021, 0x6021, some 7⟩, ⟨0x6021, 0x6021, some 8⟩, ⟨0x6100, 0x6100, some 8⟩, ⟨0x6101, 0x6101, none⟩, ⟨0x6101, 0x6101, some 1⟩,
    ⟨0x6101, 0x6101, some 2⟩, ⟨0x6101, 0x6101, some 3⟩, ⟨0x6101, 0x6101, some 4⟩, ⟨0x6101, 0x6101, some 5⟩, ⟨0x6101, 0x6101, some 6⟩, ⟨0x6101, 0x6101, some 7⟩,
    ⟨0x6300, 0x63FF, none⟩, ⟨0x6410, 0x6410, some 4⟩, ⟨0x6410, 0x6410, some 5⟩, ⟨0x6410, 0x6410, some 6⟩, ⟨0x6410, 0x6410, some 7⟩, ⟨0x6510, 0x6510, none⟩,
    ⟨0x6510, 0x6510, some 1⟩, ⟨0x6510, 0x6510, some 4⟩, ⟨0x6601, 0x6601, some 1⟩, ⟨0x6601, 0x6601, some 2⟩, ⟨0x6601, 0x6601, some 3⟩, ⟨0x6601, 0x6601, some 4⟩,
    ⟨0x6601, 0x6601, some 5⟩, ⟨0x6601, 0x6601, some 6⟩, ⟨0x6601, 0x6601, some 7⟩, ⟨0x6601, 0x6601, some 8⟩, ⟨0x6601, 0x6601, some 9⟩, ⟨0x6701, 0x6701, some 3⟩,
    ⟨0x6810, 0x6810, none⟩, ⟨0x6810, 0x6810, some 1⟩, ⟨0x6810, 0x6810, some 2⟩, ⟨0x7011, 0x7011, some 2⟩, ⟨0x7011, 0x7011, some 3⟩, ⟨0x7180, 0x71FF, some 1⟩,
    ⟨0x7180, 0x71FF, some 2⟩, ⟨0x7180, 0x71FF, some 3⟩, ⟨0x7180, 0x71FF, some 4⟩, ⟨0x7180, 0x71FF, some 5⟩, ⟨0x7180, 0x71FF, some 6⟩, ⟨0x7180, 0x71FF, some 7⟩,
    ⟨0x7218, 0x721F, none⟩, ⟨0x7218, 0x721F, some 1⟩, ⟨0x7218, 0x721F, some 2⟩, ⟨0x7238, 0x723F, some 1⟩, ⟨0x7238, 0x723F, some 2⟩, ⟨0x7238, 0x723F, some 3⟩]
def regions3 : List Region :=
  [
    ⟨0x7238, 0x723F, some 4⟩, ⟨0x7238, 0x723F, some 5⟩, ⟨0x7238, 0x723F, some 6⟩, ⟨0x7401, 0x7401, some 1⟩, ⟨0x7401, 0x7401, some 2⟩, ⟨0x7401, 0x7401, some 3⟩,
    ⟨0x7401, 0x7401, some 4⟩, ⟨0x7401, 0x7401, some 5⟩, ⟨0x7401, 0x7401, some 6⟩, ⟨0x7411, 0x7411, some 1⟩, ⟨0x7411, 0x7411, some 2⟩, ⟨0x7411, 0x7411, some 3⟩,
    ⟨0x7411, 0x7411, some 4⟩, ⟨0x8000, 0x8000, none⟩, ⟨0x8000, 0x8000, some 1⟩, ⟨0x8000, 0x8000, some 7⟩, ⟨0x8101, 0x8101, some 1⟩, ⟨0x8101, 0x8101, some 2⟩,
    ⟨0x8101, 0x8101, some 3⟩, ⟨0x8101, 0x8101, some 4⟩, ⟨0x8201, 0x8201, some 4⟩, ⟨0x8201, 0x8201, some 5⟩, ⟨0x8201, 0x8201, some 6⟩, ⟨0x8201, 0x8201, some 7⟩,
    ⟨0x8201, 0x8201, some 8⟩, ⟨0x8211, 0x8211, some 4⟩, ⟨0x8211, 0x8211, some 5⟩, ⟨0x8211, 0x8211, some 6⟩, ⟨0x8211, 0x8211, some 7⟩, ⟨0x8221, 0x8221, some 1⟩,
    ⟨0x8221, 0x8221, some 2⟩, ⟨0x8221, 0x8221, some 3⟩, ⟨0x8221, 0x8221, some 4⟩, ⟨0x9000, 0x9000, some 2⟩, ⟨0x9002, 0x9002, some 1⟩, ⟨0x9002, 0x9002, some 2⟩,
    ⟨0x9002, 0x9002, some 3⟩, ⟨0x9002, 0x9002, some 4⟩, ⟨0x9011, 0x9011, some 1⟩, ⟨0x9011, 0x9011, some 2⟩, ⟨0x9011, 0x9011, some 3⟩, ⟨0x9021, 0x9021, some 1⟩,
    ⟨0x9021, 0x9021, some 2⟩, ⟨0x9021, 0x9021, some 3⟩, ⟨0x9021, 0x9021, some 4⟩, ⟨0x9021, 0x9021, some 5⟩, ⟨0x9021, 0x9021, some 6⟩, ⟨0x9021, 0x9021, some 7⟩]
def regions4 : List Region :=
  [
    ⟨0x9021, 0x9021, some 8⟩, ⟨0x9021, 0x9021, some 9⟩, ⟨0x9021, 0x9021, some 10⟩, ⟨0xA000, 0xA000, some 3⟩, ⟨0xA020, 0xA020, some 5⟩, ⟨0xB001, 0xB001, some 1⟩,
    ⟨0xB001, 0xB001, some 2⟩, ⟨0xB001, 0xB001, some 3⟩, ⟨0xB001, 0xB001, some 4⟩, ⟨0xB010, 0xB010, some 5⟩, ⟨0xB021, 0xB021, some 0⟩, ⟨0xB041, 0xB041, some 1⟩,
    ⟨0xB041, 0xB041, some 2⟩, ⟨0xB041, 0xB041, some 3⟩, ⟨0xB041, 0xB041, some 4⟩, ⟨0xB041, 0xB041, some 5⟩, ⟨0xB041, 0xB041, some 6⟩, ⟨0xB051, 0xB051, some 1⟩,
    ⟨0xB051, 0xB051, some 2⟩, ⟨0xB051, 0xB051, some 3⟩, ⟨0xB060, 0xB060, some 1⟩, ⟨0xB060, 0xB060, some 2⟩, ⟨0xB060, 0xB060, some 3⟩, ⟨0xB060, 0xB060, some 4⟩,
    ⟨0xB070, 0xB070, none⟩, ⟨0xB071, 0xB071, some 0⟩, ⟨0xC001, 0xC001, some 1⟩, ⟨0xC001, 0xC001, some 2⟩, ⟨0xC011, 0xC011, some 1⟩, ⟨0xC011, 0xC011, some 2⟩,
    ⟨0xC011, 0xC011, some 3⟩]

def ranges0 : List (Nat × Nat) :=
  [
    (0, 0), (1, 1), (2, 2), (3, 3), (4, 4), (5, 5),
    (6, 6), (7, 7), (8, 8), (9, 9), (10, 10), (11, 11),
    (12, 12), (13, 13), (14, 14), (15, 15), (16, 16), (17, 17),
    (18, 18), (19, 19), (20, 20), (21, 21), (22, 22), (23, 23),
    (24, 24), (25, 25), (26, 26), (27, 27), (28, 28), (29, 29),
    (30, 30), (31, 31), (100, 100), (101, 101), (102, 102), (103, 103),
    (104, 104), (105, 105), (106, 106), (107, 107), (108, 108), (109, 109),
    (110, 110), (111, 111), (112, 112), (113, 113), (114, 114), (115, 115),
    (200, 263), (216, 216), (217, 217), (218, 218), (219, 219), (220, 220),
    (221, 221), (222, 222), (223, 223), (228, 228), (229, 229), (230, 230)]
def ranges1 : List (Nat × Nat) :=
  [
    (10752, 10752), (10752, 11007), (10753, 10753), (10754, 10754), (10755, 10755), (10756, 10756),
    (10757, 10757), (10758, 10758), (10759, 10759), (10760, 10760), (10761, 10761), (10764, 10764),
    (10765, 10765), (10766, 10766), (10767, 10767), (10768, 10768), (10769, 10769), (10770, 10770),
    (10771, 10771), (10772, 10772), (10773, 10773), (10774, 10774), (10775, 10775), (10776, 10776),
    (10777, 10777), (10784, 10784), (10785, 10785), (10786, 10786), (10787, 10787), (10788, 10788),
    (10789, 10789), (10790, 10790), (10791, 10791), (10792, 10792), (10793, 10793), (10794, 10794),
    (10795, 10795), (10796, 10796), (10797, 10797), (10798, 10798), (10799, 10799), (10800, 10800),
    (10801, 10801), (10802, 10802), (10803, 10803), (10804, 10804), (10805, 10805), (10806, 10806),
    (10807, 10807), (10808, 10808), (10816, 10816), (10817, 10817), (10818, 10818), (10819, 10819),
    (10820, 10820), (10821, 10821), (10822, 10822), (10823, 10823), (10824, 10824), (10825, 10825)]
def ranges2 : List (Nat × Nat) :=
  [
    (10826, 10826), (10827, 10827), (10828, 10828), (10829, 10829), (10830, 10830), (10831, 10831),
    (11008, 11008), (11009, 11009), (11010, 11010), (11011, 11011), (11012, 11012), (11013, 11013),
    (11014, 11014), (11015, 11015), (11016, 11016), (11017, 11017), (11018, 11018), (11019, 11019),
    (11020, 11020), (11021, 11021), (11022, 11022), (11023, 11023), (11024, 11024), (11025, 11025),
    (11026, 11026), (11027, 11027), (11028, 11028), (11029, 11029), (11030, 11030), (11031, 11031),
    (11032, 11032), (11033, 11033), (11034, 11034), (11035, 11035), (11036, 11036), (11037, 11037),
    (11038, 11038), (11039, 11039), (11072, 11072), (11072, 11135), (11073, 11073), (11074, 11074),
    (11075, 11075), (11076, 11076), (11077, 11077), (11078, 11078), (11079, 11079), (11080, 11080),
    (11081, 11081), (11082, 11082), (11083, 11083), (11084, 11084), (11085, 11085), (11086, 11086),
    (11087, 11087), (11088, 11088), (11089, 11089), (11090, 11090), (11091, 11091), (11092, 11092)]
def ranges3 : List (Nat × Nat) :=
  [
    (11093, 11093), (11094, 11094), (11099, 11099), (11100, 11100), (11101, 11101), (11102, 11102),
    (11103, 11103), (11104, 11104), (11105, 11105), (11106, 11106), (11107, 11107), (11108, 11108),
    (11109, 11109), (11110, 11110), (11111, 11111), (11112, 11112), (11113, 11113), (11114, 11114),
    (11115, 11115), (11136, 11136), (11137, 11137), (11138, 11138), (11139, 11139), (11140, 11140),
    (11141, 11141), (11142, 11142), (11143, 11143), (11144, 11144), (11145, 11145), (11146, 11146),
    (11147, 11147), (11148, 11148), (11149, 11149), (11150, 11150), (11151, 11151), (11152, 11152),
    (11153, 11153), (11154, 11154), (11155, 11155), (11156, 11156), (11157, 11157), (11158, 11158),
    (11159, 11159), (11160, 11160), (11161, 11161), (11162, 11162), (11163, 11163), (11164, 11164),
    (11165, 11165), (11166, 11166), (11167, 11167), (11168, 11168), (11169, 11169), (11170, 11170),
    (11171, 11171), (11172, 11172), (11173, 11173), (11174, 11174), (11175, 11175), (11176, 11176)]
def ranges4 : List (Nat × Nat) :=
  [
    (11177, 11177), (11178, 11178), (11179, 11179), (11180, 11180), (11181, 11181), (11182, 11182),
    (11183, 11183), (11184, 11184), (11184, 11215), (11185, 11185), (11186, 11186), (11187, 11187),
    (11188, 11188), (11189, 11189), (11190, 11190), (11191, 11191), (20000, 20000)]

/-- The tables of the masks. -/
def tables : Tables := ⟨regions0 ++ regions1 ++ regions2 ++ regions3 ++ regions4, ranges0 ++ ranges1 ++ ranges2 ++ ranges3 ++ ranges4⟩

/-- The counters of the numbering of events, as a mask. -/
def flushCounters : Nat := 0x200000000000000000000000000000

end Sys2Proof.Machine
end

