-- ==== Sys2Proof/Laws/WithinClock.lean ====
section
/-! SUPPORT. Frame lemmas: every update that an effect of Machine/Ops.lean, Machine/Actions.lean, Machine/Clock.lean, Machine/RingFrame.lean can issue
lies in a mask. -/

namespace Sys2Proof.Machine

set_option Elab.async false
set_option linter.unusedTactic false
set_option linter.unusedVariables false

/-! ## Ops -/

theorem raiseFull_within {m : Mask}
    (hm : Mask.Le ⟨0x80, 0x0, 0x100000000000000000000000000000⟩ m) {severity : Nat} {source : Nat} {reason : Nat} {arg : Nat} {queue : Option Nat} :
    Eff.Within tables m (@raiseFull severity source reason arg queue) := by
  unfold raiseFull
  exact (Within.seq (Within.count (hm.ctr (by decide +kernel))) (Within.upd (hm.parts' [.events] (by decide +kernel))))

theorem stampRaised_within {m : Mask} (hm : Mask.Le ⟨0x80, 0x0, 0x200000000000000000000000000000⟩ m) {e : Raised} :
    Eff.Within tables m (@stampRaised e) := by
  unfold stampRaised
  exact (Within.look (fun _ => (Within.seq (Within.upd (hm.parts' [.events] (by decide +kernel))) (Within.when (Within.count
    (hm.ctr (by decide +kernel)))))))

theorem flushEvents_within {m : Mask} (hm : Mask.Le ⟨0x80, 0x0, 0x200000000000000000000000000000⟩ m) :
    Eff.Within tables m flushEvents := by
  unfold flushEvents
  exact (Within.look (fun _ => (Within.seq (Within.upd (hm.parts' [.events] (by decide +kernel))) (Within.forEach (fun _ =>
    (stampRaised_within (hm.via rfl rfl rfl)))))))

theorem raise_within {m : Mask} (hm : Mask.Le ⟨0x80, 0x0, 0x100000000000000000000000000000⟩ m) {source : Nat} {arg : Nat} :
    Eff.Within tables m (@raise source arg) := by
  unfold raise
  exact (raiseFull_within (hm.via rfl rfl rfl))

theorem raiseSev_within {m : Mask}
    (hm : Mask.Le ⟨0x80, 0x0, 0x100000000000000000000000000000⟩ m) {severity : Nat} {source : Nat} {arg : Nat} :
    Eff.Within tables m (@raiseSev severity source arg) := by
  unfold raiseSev
  exact (raiseFull_within (hm.via rfl rfl rfl))

theorem raisePort_within {m : Mask}
    (hm : Mask.Le ⟨0x80, 0x0, 0x100000000000000000000000000000⟩ m) {p : Nat} {reason : Nat} {arg : Nat} :
    Eff.Within tables m (@raisePort p reason arg) := by
  unfold raisePort
  exact (raiseFull_within (hm.via rfl rfl rfl))

theorem raiseOncePerCycle_within {m : Mask} (hm : Mask.Le ⟨0x80, 0x0, 0x0⟩ m) {source : Nat} {arg : Nat} {e : Eff}
    (h_e : Eff.Within tables m e) :
    Eff.Within tables m (@raiseOncePerCycle source arg e) := by
  unfold raiseOncePerCycle
  exact (Within.look (fun _ => (Within.ite Within.skip (Within.seq (Within.upd (hm.parts' [.events] (by decide +kernel))) h_e))))

theorem raiseOncePerSecond_within {m : Mask} (hm : Mask.Le ⟨0x80, 0x0, 0x0⟩ m) {source : Nat} {arg : Nat} {e : Eff}
    (h_e : Eff.Within tables m e) :
    Eff.Within tables m (@raiseOncePerSecond source arg e) := by
  unfold raiseOncePerSecond
  exact (Within.look (fun _ => (Within.ite Within.skip (Within.seq (Within.upd (hm.parts' [.events] (by decide +kernel))) h_e))))

theorem emit_within {m : Mask} (hm : Mask.Le ⟨0x20000000, 0x0, 0x0⟩ m) {e : Emission} :
    Eff.Within tables m (@emit e) := by
  unfold emit
  exact (Within.upd (hm.parts' [.out] (by decide +kernel)))

theorem withFree_within {m : Mask} (hm : Mask.Le ⟨0x10000000, 0x0, 0x0⟩ m) {f : Nat → Eff} (h_f : ∀ y0, Eff.Within tables m
    (f y0)) :
    Eff.Within tables m (@withFree f) := by
  unfold withFree
  exact (Within.look (fun _ => (Within.seq (Within.upd (hm.parts' [.free] (by decide +kernel))) (h_f _))))

/-! ## Actions -/

theorem baseWatch_within {m : Mask} (hm : Mask.Le ⟨0x4080, 0x0, 0x100000000000000000000000000000⟩ m) {e : Nat} :
    Eff.Within tables m (@baseWatch e) := by
  unfold baseWatch
  exact (Within.look (fun _ => (Within.when (Within.seq (Within.upd (hm.parts' [.messages] (by decide +kernel))) (Within.when
    (raiseFull_within (hm.via rfl rfl rfl)))))))

theorem setSegState_within {m : Mask}
    (hm : Mask.Le ⟨0x4080, 0x100000000000000000, 0x100000000000000000000000000000⟩ m) {p : Nat} {new : Nat} :
    Eff.Within tables m (@setSegState p new) := by
  unfold setSegState
  exact (Within.whenS (Within.cons (Within.setPort (hm.obj (by decide +kernel))) (Within.cons (raisePort_within
    (hm.via rfl rfl rfl)) (Within.cons (Within.forEach (fun _ => (Within.whenS (baseWatch_within
    (hm.via rfl rfl rfl))))) Within.nil))))

theorem finishHost_within {m : Mask}
    (hm : Mask.Le ⟨0x8000, 0x0, 0x0⟩ m) {ring : Nat} {frame : Nat} {status : Nat} {stamp : Nat} {port : Nat} {cls : Nat} {cut : Bool} :
    Eff.Within tables m (@finishHost ring frame status stamp port cls cut) := by
  unfold finishHost
  exact (Within.upd (hm.parts' [.txRings] (by decide +kernel)))

theorem gptpSet_within {m : Mask} (hm : Mask.Le ⟨0x200, 0x0, 0x0⟩ m) {p : Nat} {f : GptpPort → GptpPort} :
    Eff.Within tables m (@gptpSet p f) := by
  unfold gptpSet
  exact (Within.upd (hm.parts' [.time] (by decide +kernel)))

theorem ptpSent_within {μ : Mask} (hm : Mask.Le ⟨0x200, 0x0, 0x0⟩ μ) {p : Nat} {m : PtpEvent} {stamp : Nat} :
    Eff.Within tables μ (@ptpSent p m stamp) := by
  unfold ptpSent
  exact (gptpSet_within (hm.via rfl rfl rfl))

theorem finishOrigin_within {m : Mask}
    (hm : Mask.Le ⟨0x8200, 0x0, 0x0⟩ m) {o : Origin} {status : Nat} {stamp : Nat} {port : Nat} {cls : Nat} {cut : Bool} :
    Eff.Within tables m (@finishOrigin o status stamp port cls cut) := by
  unfold finishOrigin
  exact (by (try dsimp only); split; exacts [(finishHost_within (hm.via rfl rfl rfl)),
    (Within.when (ptpSent_within (hm.via rfl rfl rfl))), Within.skip])

theorem segSet_within {m : Mask} (hm : Mask.Le ⟨0x1000, 0x0, 0x0⟩ m) {p : Nat} {f : Segment → Segment} :
    Eff.Within tables m (@segSet p f) := by
  unfold segSet
  exact (Within.upd (hm.parts' [.segments] (by decide +kernel)))

theorem startListenTimer_within {m : Mask} (hm : Mask.Le ⟨0x1000, 0x0, 0x0⟩ m) {p : Nat} :
    Eff.Within tables m (@startListenTimer p) := by
  unfold startListenTimer
  exact (Within.look (fun _ => (segSet_within (hm.via rfl rfl rfl))))

theorem framesEnd_within {m : Mask} (hm : Mask.Le ⟨0x8200, 0x0, 0x0⟩ m) {p : Nat} {status : Nat} {l : List
    (Nat × QueuedFrame)} :
    Eff.Within tables m (@framesEnd p status l) := by
  unfold framesEnd
  exact (Within.look (fun _ => (Within.forEach (fun _ => (finishOrigin_within (hm.via rfl rfl rfl))))))

theorem latchedEnd_within {m : Mask} (hm : Mask.Le ⟨0x9200, 0x0, 0x0⟩ m) {p : Nat} :
    Eff.Within tables m (@latchedEnd p) := by
  unfold latchedEnd
  exact (Within.look (fun _ => (Within.seq (segSet_within (hm.via rfl rfl rfl)) (framesEnd_within (hm.via rfl rfl rfl)))))

theorem dropMoved_within {m : Mask} (hm : Mask.Le ⟨0x9200, 0x0, 0x0⟩ m) {p : Nat} {status : Nat} :
    Eff.Within tables m (@dropMoved p status) := by
  unfold dropMoved
  exact (Within.look (fun _ => (Within.seq (segSet_within (hm.via rfl rfl rfl)) (framesEnd_within (hm.via rfl rfl rfl)))))

theorem segmentListen_within {m : Mask}
    (hm : Mask.Le ⟨0xd280, 0x300000000020000000, 0x100000000000000000000000000000⟩ m) {p : Nat} :
    Eff.Within tables m (@segmentListen p) := by
  unfold segmentListen
  exact (Within.cons (dropMoved_within (hm.via rfl rfl rfl)) (Within.cons (segSet_within (hm.via rfl rfl rfl)) (Within.cons
    (Within.look (fun _ => (Within.setPort (hm.obj (by decide +kernel))))) (Within.cons (startListenTimer_within
    (hm.via rfl rfl rfl)) (Within.cons (Within.setN (hm.obj (by decide +kernel))) (Within.cons (setSegState_within
    (hm.via rfl rfl rfl)) Within.nil))))))

theorem linkFalls_within {m : Mask} (hm : Mask.Le ⟨0x80, 0x40000000000000000, 0x100000000000000000000008000000⟩ m) {p : Nat} :
    Eff.Within tables m (@linkFalls p) := by
  unfold linkFalls
  exact (Within.whenS (Within.cons (Within.setPort (hm.obj (by decide +kernel))) (Within.cons (raisePort_within
    (hm.via rfl rfl rfl)) (Within.cons (Within.count (Ctr.port (hm.ctr (by decide +kernel)))) Within.nil))))

theorem endTransmission_within {m : Mask} (hm : Mask.Le ⟨0x2000a200, 0x0, 0x0⟩ m) {p : Nat} :
    Eff.Within tables m (@endTransmission p) := by
  unfold endTransmission
  exact (Within.look (fun _ => (Within.ofOption (fun _ => (Within.cons (emit_within (hm.via rfl rfl rfl)) (Within.cons
    (Within.upd (hm.parts' [.traffic] (by decide +kernel))) (Within.cons (finishOrigin_within
    (hm.via rfl rfl rfl)) Within.nil)))))))

theorem dropQueued_within {m : Mask} (hm : Mask.Le ⟨0xb200, 0x0, 0x0⟩ m) {p : Nat} :
    Eff.Within tables m (@dropQueued p) := by
  unfold dropQueued
  exact (Within.look (fun _ => (Within.cons (Within.upd (hm.parts' [.traffic] (by decide +kernel))) (Within.cons
    (dropMoved_within (hm.via rfl rfl rfl)) (Within.cons (Within.forEach (fun _ => (finishOrigin_within
    (hm.via rfl rfl rfl)))) Within.nil)))))

theorem plcaSet_within {m : Mask} (hm : Mask.Le ⟨0x1000, 0x0, 0x0⟩ m) {p : Nat} {f : Plca → Plca} :
    Eff.Within tables m (@plcaSet p f) := by
  unfold plcaSet
  exact (segSet_within (hm.via rfl rfl rfl))

theorem opportunity_within {m : Mask} (hm : Mask.Le ⟨0x1000, 0x0, 0x0⟩ m) {p : Nat} {node : Nat} :
    Eff.Within tables m (@opportunity p node) := by
  unfold opportunity
  exact (Within.look (fun _ => (plcaSet_within (hm.via rfl rfl rfl))))

theorem beginRound_within {m : Mask} (hm : Mask.Le ⟨0x20001000, 0x0, 0x100⟩ m) {p : Nat} :
    Eff.Within tables m (@beginRound p) := by
  unfold beginRound
  exact (Within.whenS (Within.cons (emit_within (hm.via rfl rfl rfl)) (Within.cons (Within.count (Ctr.port
    (hm.ctr (by decide +kernel)))) (Within.cons (opportunity_within (hm.via rfl rfl rfl)) Within.nil))))

theorem showPreemption_within {m : Mask}
    (hm : Mask.Le ⟨0x80, 0x8000000000000000000000, 0x100000000000000000000000000000⟩ m) {p : Nat} :
    Eff.Within tables m (@showPreemption p) := by
  unfold showPreemption
  exact (Within.look (fun _ => (Within.when (Within.seq (Within.setB (hm.obj (by decide +kernel))) (raise_within
    (hm.via rfl rfl rfl))))))

theorem setAsCapable_within {m : Mask}
    (hm : Mask.Le ⟨0x80, 0x1000000000, 0x100000000000000000000000000000⟩ m) {p : Nat} {v : Bool} :
    Eff.Within tables m (@setAsCapable p v) := by
  unfold setAsCapable
  exact (Within.whenS (Within.seq (Within.setB (hm.obj (by decide +kernel))) (raise_within (hm.via rfl rfl rfl))))

theorem flashSet_within {m : Mask}
    (hm : Mask.Le ⟨0x400000, 0x0, 0x200000000000000000000000000000000000000000000000000000⟩ m) {f : Flash → Flash} :
    Eff.Within tables m (@flashSet f) := by
  unfold flashSet
  exact (Within.seq (Within.upd (hm.parts' [.flash] (by decide +kernel))) (Within.count (hm.ctr (by decide +kernel))))

theorem pairingEnds_within {m : Mask} (hm : Mask.Le ⟨0x800000, 0x0, 0x0⟩ m) {p : Nat} :
    Eff.Within tables m (@pairingEnds p) := by
  unfold pairingEnds
  exact (Within.upd (hm.parts' [.kiln] (by decide +kernel)))

theorem mkaStop_within {m : Mask} (hm : Mask.Le ⟨0x800000, 0x0, 0x0⟩ m) {p : Nat} :
    Eff.Within tables m (@mkaStop p) := by
  unfold mkaStop
  exact (Within.upd (hm.parts' [.kiln] (by decide +kernel)))

theorem linkUnsecures_within {m : Mask} (hm : Mask.Le ⟨0x800000, 0x0, 0x0⟩ m) {p : Nat} :
    Eff.Within tables m (@linkUnsecures p) := by
  unfold linkUnsecures
  exact (Within.look (fun _ => (Within.seq (pairingEnds_within (hm.via rfl rfl rfl)) (Within.when (mkaStop_within
    (hm.via rfl rfl rfl))))))

theorem portStop_within {m : Mask}
    (hm : Mask.Le ⟨0x2080f280, 0x18001140000001020000000, 0x100000000000000000000008000000⟩ m) {p : Nat} :
    Eff.Within tables m (@portStop p) := by
  unfold portStop
  exact (Within.cons (endTransmission_within (hm.via rfl rfl rfl)) (Within.cons (dropQueued_within (hm.via rfl rfl rfl))
    (Within.cons (setSegState_within (hm.via rfl rfl rfl)) (Within.cons (Within.setN (hm.obj (by decide +kernel))) (Within.cons
    (Within.setPort (hm.obj (by decide +kernel))) (Within.cons (linkFalls_within (hm.via rfl rfl rfl)) (Within.cons (Within.upd
    (hm.parts' [.segments] (by decide +kernel))) (Within.cons (Within.upd (hm.parts' [.traffic] (by decide +kernel)))
    (Within.cons (Within.setN (hm.obj (by decide +kernel))) (Within.cons (showPreemption_within (hm.via rfl rfl rfl))
    (Within.cons (setAsCapable_within (hm.via rfl rfl rfl)) (Within.cons (linkUnsecures_within
    (hm.via rfl rfl rfl)) Within.nil))))))))))))

theorem presenceEnds_within {m : Mask} (hm : Mask.Le ⟨0x0, 0x6000000000000000000, 0x0⟩ m) {p : Nat} :
    Eff.Within tables m (@presenceEnds p) := by
  unfold presenceEnds
  exact (Within.seq (Within.setN (Obj.port (hm.obj (by decide +kernel)))) (Within.forEach (fun _ => (Within.whenS (Within.setPort
    (hm.obj (by decide +kernel)))))))

theorem portStart_within {m : Mask}
    (hm : Mask.Le ⟨0x2000d280, 0x6300000000020000000, 0x100000000000000000000000000100⟩ m) {p : Nat} :
    Eff.Within tables m (@portStart p) := by
  unfold portStart
  exact (Within.whenS (Within.seq (Within.whenS (segmentListen_within (hm.via rfl rfl rfl))) (Within.seq (Within.whenS
    (presenceEnds_within (hm.via rfl rfl rfl))) (Within.whenS (beginRound_within (hm.via rfl rfl rfl))))))

theorem setTwinState_within {m : Mask}
    (hm : Mask.Le ⟨0x80, 0x20000000000000000000000000000000000000000000000, 0x100000000000000000000000000000⟩ m) {new : Nat} :
    Eff.Within tables m (@setTwinState new) := by
  unfold setTwinState
  exact (Within.whenS (Within.seq (Within.setN (hm.obj (by decide +kernel))) (raise_within (hm.via rfl rfl rfl))))

theorem releaseBegin_within {m : Mask} (hm : Mask.Le ⟨0x80000, 0x0, 0x0⟩ m) {thenFail : Bool} :
    Eff.Within tables m (@releaseBegin thenFail) := by
  unfold releaseBegin
  exact (Within.look (fun _ => (Within.upd (hm.parts' [.twin] (by decide +kernel)))))

theorem failOver_within {m : Mask}
    (hm : Mask.Le ⟨0x80080, 0x20000000000000000000000000000000000000000000000, 0x100000000000000000000000000000⟩ m) :
    Eff.Within tables m failOver := by
  unfold failOver
  exact (Within.look (fun _ => (Within.ite Within.skip (Within.ite (releaseBegin_within (hm.via rfl rfl rfl))
    (setTwinState_within (hm.via rfl rfl rfl))))))

theorem engineRestart_within {m : Mask} (hm : Mask.Le ⟨0x4080, 0x0, 0x100000000000000000800000000000⟩ m) {e : Nat} :
    Eff.Within tables m (@engineRestart e) := by
  unfold engineRestart
  exact (Within.cons (Within.upd (hm.parts' [.messages] (by decide +kernel))) (Within.cons (Within.count (Ctr.engine
    (hm.ctr (by decide +kernel)))) (Within.cons (raiseFull_within (hm.via rfl rfl rfl)) Within.nil)))

theorem setGrove_within {m : Mask}
    (hm : Mask.Le ⟨0x8000080, 0x0, 0x100000000000000060000000000000⟩ m) {g : Nat} {state : Nat} {nextWake : Option Nat} :
    Eff.Within tables m (@setGrove g state nextWake) := by
  unfold setGrove
  exact (Within.look (fun _ => (Within.cons (by (repeat' split) <;> exact Within.countN (Ctr.grove (hm.ctr (by decide +kernel))))
    (Within.cons (Within.upd (hm.parts' [.power] (by decide +kernel))) (Within.cons (Within.when (raise_within
    (hm.via rfl rfl rfl))) Within.nil)))))

theorem wakeGrove_within {m : Mask} (hm : Mask.Le ⟨0x8000080, 0x0, 0x100000000000000064000000000000⟩ m) {g : Nat} :
    Eff.Within tables m (@wakeGrove g) := by
  unfold wakeGrove
  exact (Within.whenS (Within.seq (Within.count (Ctr.grove (hm.ctr (by decide +kernel)))) (setGrove_within (hm.via rfl rfl rfl))))

theorem groveLate_within {m : Mask} (hm : Mask.Le ⟨0x8000080, 0x0, 0x10000000000000006c000000000000⟩ m) {g : Nat} :
    Eff.Within tables m (@groveLate g) := by
  unfold groveLate
  exact (Within.look (fun _ => (Within.when (Within.cons (raise_within (hm.via rfl rfl rfl)) (Within.cons (Within.count
    (Ctr.grove (hm.ctr (by decide +kernel)))) (Within.cons (wakeGrove_within (hm.via rfl rfl rfl)) Within.nil))))))

theorem wakeBefore_within {m : Mask} (hm : Mask.Le ⟨0x8000080, 0x0, 0x100000000000000060000000000000⟩ m) {t : Nat} :
    Eff.Within tables m (@wakeBefore t) := by
  unfold wakeBefore
  exact (Within.forEach (fun _ => (Within.look (fun _ => (Within.when (Within.ite (setGrove_within (hm.via rfl rfl rfl))
    (Within.upd (hm.parts' [.power] (by decide +kernel)))))))))

theorem groveStops_within {m : Mask} (hm : Mask.Le ⟨0x2000e200, 0x0, 0x0⟩ m) {g : Nat} :
    Eff.Within tables m (@groveStops g) := by
  unfold groveStops
  exact (Within.seq (Within.forEach (fun _ => (endTransmission_within (hm.via rfl rfl rfl)))) (Within.forEach (fun _ =>
    (Within.whenS (Within.upd (hm.parts' [.messages] (by decide +kernel)))))))

theorem groveRestart_within {m : Mask}
    (hm : Mask.Le ⟨0x2800e280, 0x0, 0x100000000000000060000000000000⟩ m) {g : Nat} {cause : Nat} :
    Eff.Within tables m (@groveRestart g cause) := by
  unfold groveRestart
  exact (Within.cons (groveStops_within (hm.via rfl rfl rfl)) (Within.cons (setGrove_within (hm.via rfl rfl rfl)) (Within.cons
    (setGrove_within (hm.via rfl rfl rfl)) (Within.cons (Within.look (fun _ => (Within.upd
    (hm.parts' [.power] (by decide +kernel))))) (Within.cons (raiseSev_within (hm.via rfl rfl rfl)) Within.nil)))))

theorem resetIn_within {m : Mask} (hm : Mask.Le ⟨0x8000000, 0x0, 0x0⟩ m) {t : Nat} :
    Eff.Within tables m (@resetIn t) := by
  unfold resetIn
  exact (Within.look (fun _ => (Within.upd (hm.parts' [.power] (by decide +kernel)))))

theorem controllerRestart_within {m : Mask} (hm : Mask.Le ⟨0xa0, 0x10, 0x10100000000000000000000000000000⟩ m) :
    Eff.Within tables m controllerRestart := by
  unfold controllerRestart
  exact (Within.cons (Within.upd (hm.parts' [.image] (by decide +kernel))) (Within.cons (Within.bumpObj
    (hm.obj (by decide +kernel))) (Within.cons (Within.count (hm.ctr (by decide +kernel))) (Within.cons (Within.look (fun _ =>
    (raise_within (hm.via rfl rfl rfl)))) Within.nil))))

theorem usePacketNumber_within {m : Mask} (hm : Mask.Le ⟨0x800080, 0x0, 0x100000000000000000000000000000⟩ m) {p : Nat} :
    Eff.Within tables m (@usePacketNumber p) := by
  unfold usePacketNumber
  exact (Within.look (fun _ =>
    (by (try dsimp only); split; exacts [(Within.when (Within.cons (Within.upd (hm.parts' [.kiln] (by decide +kernel))) (Within.cons (Within.when (raise_within (hm.via rfl rfl rfl))) (Within.cons (Within.when (raise_within (hm.via rfl rfl rfl))) Within.nil)))),
    Within.skip])))

theorem sendOnStack_within {m : Mask}
    (hm : Mask.Le ⟨0x20800080, 0x0, 0x2000000000000000000000000000000100000000000000000000000000000⟩ m) {port : Nat} {stepRecord : Bool} {e : Emission} :
    Eff.Within tables m (@sendOnStack port stepRecord e) := by
  unfold sendOnStack
  exact (Within.look (fun _ => (Within.when (Within.cons (Within.count (hm.ctr (by decide +kernel))) (Within.cons (emit_within
    (hm.via rfl rfl rfl)) (Within.cons (usePacketNumber_within (hm.via rfl rfl rfl)) Within.nil))))))

theorem sendStack_within {m : Mask}
    (hm : Mask.Le ⟨0x20800080, 0x0, 0x2000000000000000000000000000000100000000000000000000000000000⟩ m) {port : Nat} {type : Nat} {body : Bytes} :
    Eff.Within tables m (@sendStack port type body) := by
  unfold sendStack
  exact (Within.look (fun _ => (sendOnStack_within (hm.via rfl rfl rfl))))

theorem stackError_within {m : Mask}
    (hm : Mask.Le ⟨0x0, 0x2000000000000000000000000000000000000000000000, 0x8000000000000000000000000000000000000000000000000000000000000⟩ m) {port : Nat} :
    Eff.Within tables m (@stackError port) := by
  unfold stackError
  exact (Within.seq (Within.count (hm.ctr (by decide +kernel))) (Within.bumpObj (hm.obj (by decide +kernel))))

theorem stackArrives_within {m : Mask}
    (hm : Mask.Le ⟨0x0, 0x2000000000000000000000000000000000000000000000, 0xc000000000000000000000000000000000000000000000000000000000000⟩ m) {port : Nat} {e : Eff}
    (h_e : Eff.Within tables m e) :
    Eff.Within tables m (@stackArrives port e) := by
  unfold stackArrives
  exact (Within.look (fun _ => (Within.when (Within.ite (Within.seq (Within.count (hm.ctr (by decide +kernel))) h_e)
    (stackError_within (hm.via rfl rfl rfl))))))

theorem stackOpen_within {m : Mask}
    (hm : Mask.Le ⟨0x0, 0x2000000000000000000000000000000000000000000000, 0xc000000000000000000000000000000000000000000000000000000000000⟩ m) {port : Nat} {good : Bool} {e : Eff}
    (h_e : Eff.Within tables m e) :
    Eff.Within tables m (@stackOpen port good e) := by
  unfold stackOpen
  exact (Within.whenS (Within.ite (Within.seq (Within.count (hm.ctr (by decide +kernel))) h_e) (stackError_within
    (hm.via rfl rfl rfl))))

theorem selfTestAsk_within {m : Mask}
    (hm : Mask.Le ⟨0x20880080, 0x0, 0x2000000000000000000000000000000100000000000000000000000000000⟩ m) {g : Nat} :
    Eff.Within tables m (@selfTestAsk g) := by
  unfold selfTestAsk
  exact (Within.look (fun _ => (Within.when (Within.cons (Within.upd (hm.parts' [.twin] (by decide +kernel))) (Within.cons
    (sendStack_within (hm.via rfl rfl rfl)) Within.nil)))))

theorem updateFaultPin_within {m : Mask} (hm : Mask.Le ⟨0x20000480, 0x0, 0x100000000000000000000000000000⟩ m) :
    Eff.Within tables m updateFaultPin := by
  unfold updateFaultPin
  exact (Within.look (fun _ => (Within.when (Within.cons (Within.upd (hm.parts' [.pins] (by decide +kernel))) (Within.cons
    (emit_within (hm.via rfl rfl rfl)) (Within.cons (raise_within (hm.via rfl rfl rfl)) Within.nil))))))

theorem restartDomainOf_within {m : Mask}
    (hm : Mask.Le ⟨0x2880f2a0, 0x18007340000001020000010, 0x10100000000000000060800008000100⟩ m) {cls : Nat} {inst : Nat} :
    Eff.Within tables m (@restartDomainOf cls inst) := by
  unfold restartDomainOf
  exact (Within.ite (engineRestart_within (hm.via rfl rfl rfl)) (Within.ite (Within.ite (groveRestart_within
    (hm.via rfl rfl rfl)) (controllerRestart_within (hm.via rfl rfl rfl))) (Within.seq (portStop_within (hm.via rfl rfl rfl))
    (portStart_within (hm.via rfl rfl rfl)))))

theorem actionRuns_within {m : Mask}
    (hm : Mask.Le ⟨0x2988f2a0, 0x20000000000000000000000018007360000001020000010, 0x200020000000000000000000000001c100000000000000060800008000100⟩ m) {cls : Nat} {inst : Nat} {action : Nat} :
    Eff.Within tables m (@actionRuns cls inst action) := by
  unfold actionRuns
  exact
    (by (try dsimp only); split; exacts [(Within.cons (Within.setPort (hm.obj (by decide +kernel))) (Within.cons (portStop_within (hm.via rfl rfl rfl)) (Within.cons (Within.upd (hm.parts' [.power] (by decide +kernel))) (Within.cons (Within.count (hm.ctr (by decide +kernel))) (Within.cons (raiseSev_within (hm.via rfl rfl rfl)) Within.nil))))),
    (Within.cons (restartDomainOf_within (hm.via rfl rfl rfl)) (Within.cons (Within.count (hm.ctr (by decide +kernel))) (Within.cons (raiseSev_within (hm.via rfl rfl rfl)) Within.nil))),
    (Within.when (Within.seq (endTransmission_within (hm.via rfl rfl rfl)) (Within.upd (hm.parts' [.faults] (by decide +kernel))))),
    (failOver_within (hm.via rfl rfl rfl)),
    (Within.cons (raiseSev_within (hm.via rfl rfl rfl)) (Within.cons (Within.count (hm.ctr (by decide +kernel))) (Within.cons (selfTestAsk_within (hm.via rfl rfl rfl)) Within.nil))),
    Within.skip])

theorem becomeLastingBy_within {m : Mask}
    (hm : Mask.Le ⟨0x21000480, 0xc0000000000000000000000000000000000000000000000000, 0x2100000000000000000000000000000⟩ m) {act : Nat → Nat → Nat → Eff} {cls : Nat} {inst : Nat}
    (h_act : ∀ y0 y1 y2, Eff.Within tables m (act y0 y1 y2)) :
    Eff.Within tables m (@becomeLastingBy act cls inst) := by
  unfold becomeLastingBy
  exact (Within.look (fun _ => (Within.cons (Within.upd (hm.parts' [.faults] (by decide +kernel))) (Within.cons (Within.bumpObj
    (hm.obj (by decide +kernel))) (Within.cons (Within.bumpObj (hm.obj (by decide +kernel))) (Within.cons (Within.count
    (hm.ctr (by decide +kernel))) (Within.cons (raiseSev_within (hm.via rfl rfl rfl)) (Within.cons (updateFaultPin_within
    (hm.via rfl rfl rfl)) (Within.cons (h_act _ _ _) Within.nil)))))))))

theorem faultOccurBy_within {m : Mask}
    (hm : Mask.Le ⟨0x21000480, 0x1e0000000000000000000000000000000000000000000000000, 0x3100000000000000000000000000000⟩ m) {act : Nat → Nat → Nat → Eff} {cls : Nat} {inst : Nat} {report : Nat → Eff}
    (h_act : ∀ y0 y1 y2, Eff.Within tables m (act y0 y1 y2)) (h_report : ∀ y0, Eff.Within tables m (report y0)) :
    Eff.Within tables m (@faultOccurBy act cls inst report) := by
  unfold faultOccurBy
  exact (Within.look (fun _ => (Within.cons (Within.upd (hm.parts' [.faults] (by decide +kernel))) (Within.cons (Within.count
    (hm.ctr (by decide +kernel))) (Within.cons (Within.bumpObj (hm.obj (by decide +kernel))) (Within.cons (Within.setN
    (hm.obj (by decide +kernel))) (Within.cons (h_report _) (Within.cons (Within.when (raiseSev_within (hm.via rfl rfl rfl)))
    (Within.cons (Within.when (becomeLastingBy_within (hm.via rfl rfl rfl) (fun _ _ _ => (h_act _ _ _)))) Within.nil)))))))))

theorem faultAction_within {m : Mask}
    (hm : Mask.Le ⟨0x2988f6a0, 0x1e0020000000000000000000000018007360000001020000010, 0x200020000000000000000000000001f100000000000000060800008000100⟩ m) {cls : Nat} {inst : Nat} {action : Nat} :
    Eff.Within tables m (@faultAction cls inst action) := by
  unfold faultAction
  exact (Within.look (fun _ => (Within.seq (actionRuns_within (hm.via rfl rfl rfl)) (Within.when (faultOccurBy_within
    (hm.via rfl rfl rfl) (fun _ _ _ => (actionRuns_within (hm.via rfl rfl rfl))) (fun _ => Within.skip))))))

theorem becomeLasting_within {m : Mask}
    (hm : Mask.Le ⟨0x2988f6a0, 0x1e0020000000000000000000000018007360000001020000010, 0x200020000000000000000000000001f100000000000000060800008000100⟩ m) {cls : Nat} {inst : Nat} :
    Eff.Within tables m (@becomeLasting cls inst) := by
  unfold becomeLasting
  exact (becomeLastingBy_within (hm.via rfl rfl rfl) (fun _ _ _ => (faultAction_within (hm.via rfl rfl rfl))))

theorem faultOccur_within {m : Mask}
    (hm : Mask.Le ⟨0x2988f6a0, 0x1e0020000000000000000000000018007360000001020000010, 0x200020000000000000000000000001f100000000000000060800008000100⟩ m) {cls : Nat} {inst : Nat} {report : Nat → Eff}
    (h_report : ∀ y0, Eff.Within tables m (report y0)) :
    Eff.Within tables m (@faultOccur cls inst report) := by
  unfold faultOccur
  exact (faultOccurBy_within (hm.via rfl rfl rfl) (fun _ _ _ => (faultAction_within (hm.via rfl rfl rfl))) (fun _ =>
    (h_report _)))

theorem portHalts_within {m : Mask}
    (hm : Mask.Le ⟨0x2988f6a0, 0x1e0020000000000000000000000018007360000001020000010, 0x200020000000000000000000000001f100000000000000060800008000100⟩ m) {p : Nat} :
    Eff.Within tables m (@portHalts p) := by
  unfold portHalts
  exact (Within.look (fun _ => (Within.seq (portStop_within (hm.via rfl rfl rfl)) (Within.when (faultOccur_within
    (hm.via rfl rfl rfl) (fun _ => Within.skip))))))

theorem faultEvent_within {m : Mask}
    (hm : Mask.Le ⟨0x2988f6a0, 0x1e0020000000000000000000000018007360000001020000010, 0x200020000000000000000000000001f100000000000000060800008000100⟩ m) {cls : Nat} {inst : Nat} {source : Nat} {arg : Nat} :
    Eff.Within tables m (@faultEvent cls inst source arg) := by
  unfold faultEvent
  exact (faultOccur_within (hm.via rfl rfl rfl) (fun _ => (raiseSev_within (hm.via rfl rfl rfl))))

theorem faultClear_within {m : Mask}
    (hm : Mask.Le ⟨0x21000480, 0x40000000000000000000000000000000000000000000000000, 0x100000000000000000000000000000⟩ m) {cls : Nat} {inst : Nat} :
    Eff.Within tables m (@faultClear cls inst) := by
  unfold faultClear
  exact (Within.look (fun _ => (Within.cons (Within.upd (hm.parts' [.faults] (by decide +kernel))) (Within.cons (Within.setN
    (hm.obj (by decide +kernel))) (Within.cons (raiseSev_within (hm.via rfl rfl rfl)) (Within.cons (updateFaultPin_within
    (hm.via rfl rfl rfl)) (Within.cons (Within.when (Within.upd (hm.parts' [.faults] (by decide +kernel)))) Within.nil)))))))

theorem bucketBoundary_within {m : Mask}
    (hm : Mask.Le ⟨0x21000480, 0x40000000000000000000000000000000000000000000000000, 0x100000000000000000000000000000⟩ m) {cls : Nat} :
    Eff.Within tables m (@bucketBoundary cls) := by
  unfold bucketBoundary
  exact (Within.look (fun _ => (Within.forEach (fun _ => (faultClear_within (hm.via rfl rfl rfl))))))

theorem windowChanged_within {m : Mask} (hm : Mask.Le ⟨0x1000000, 0x0, 0x0⟩ m) {cls : Nat} :
    Eff.Within tables m (@windowChanged cls) := by
  unfold windowChanged
  exact (Within.look (fun _ => (Within.forEach (fun _ => (Within.upd (hm.parts' [.faults] (by decide +kernel)))))))

theorem sample_within {m : Mask}
    (hm : Mask.Le ⟨0x0, 0x30000000000000000000000000000000000000000000000000000000, 0x16000000000000000000000000000000000000000000000000000000000000000⟩ m) {kind : Nat} {inst : Nat} {v : Nat} :
    Eff.Within tables m (@sample kind inst v) := by
  unfold sample
  exact (Within.look (fun _ => (Within.forEach (fun _ => (Within.cons (Within.count (Ctr.hist (hm.ctr (by decide +kernel))))
    (Within.cons (Within.count (hm.ctr (by decide +kernel))) (Within.cons (Within.when (Within.count
    (hm.ctr (by decide +kernel)))) (Within.cons (Within.bumpObj (hm.obj (by decide +kernel))) (Within.cons (Within.setN
    (hm.obj (by decide +kernel))) Within.nil)))))))))

theorem sampleSince_within {m : Mask}
    (hm : Mask.Le ⟨0x0, 0x30000000000000000000000000000000000000000000000000000000, 0x16000000000000000000000000000000000000000000000000000000000000000⟩ m) {kind : Nat} {inst : Nat} {start : Nat} :
    Eff.Within tables m (@sampleSince kind inst start) := by
  unfold sampleSince
  exact (Within.look (fun _ => (sample_within (hm.via rfl rfl rfl))))

theorem sampleFrame_within {m : Mask}
    (hm : Mask.Le ⟨0x0, 0x30000000000000000000000000000000000000000000000000000000, 0x16000000000000000000000000000000000000000000000000000000000000000⟩ m) {p : Nat} {c : Nat} {f : QueuedFrame} :
    Eff.Within tables m (@sampleFrame p c f) := by
  unfold sampleFrame
  exact (Within.look (fun _ => (Within.cons (sampleSince_within (hm.via rfl rfl rfl)) (Within.cons
    (by (try dsimp only); split; exacts [(Within.when (sampleSince_within (hm.via rfl rfl rfl))),
    (Within.ofOption (fun _ => (sampleSince_within (hm.via rfl rfl rfl)))), Within.skip, Within.skip, Within.skip,
    Within.skip]) Within.nil))))

theorem idleWake_within {m : Mask} (hm : Mask.Le ⟨0xc000000, 0x0, 0x0⟩ m) {cause : Nat} {port : Nat} :
    Eff.Within tables m (@idleWake cause port) := by
  unfold idleWake
  exact (Within.whenS (Within.look (fun _ => (Within.seq (Within.upd (hm.parts' [.canopy] (by decide +kernel))) (Within.upd
    (hm.parts' [.power] (by decide +kernel)))))))

theorem notePeak_within {m : Mask} (hm : Mask.Le ⟨0x2000, 0x0, 0x0⟩ m) {key : Nat} {v : Nat} :
    Eff.Within tables m (@notePeak key v) := by
  unfold notePeak
  exact (Within.upd (hm.parts' [.traffic] (by decide +kernel)))

/-! ## Clock -/

theorem setRingState_within {m : Mask} (hm : Mask.Le ⟨0x80, 0x1000000000000, 0x100000000000000000000000000000⟩ m) {new : Nat} :
    Eff.Within tables m (@setRingState new) := by
  unfold setRingState
  exact (Within.whenS (Within.seq (Within.setN (hm.obj (by decide +kernel))) (raise_within (hm.via rfl rfl rfl))))

theorem operating_within {m : Mask} (hm : Mask.Le ⟨0x0, 0x0, 0x0⟩ m) {e : Eff} (h_e : Eff.Within tables m e) :
    Eff.Within tables m (@operating e) := by
  unfold operating
  exact (Within.whenS h_e)

theorem showSource_within {m : Mask} (hm : Mask.Le ⟨0x0, 0x80000, 0x0⟩ m) :
    Eff.Within tables m showSource := by
  unfold showSource
  exact (Within.look (fun _ => (Within.setN (hm.obj (by decide +kernel)))))

theorem setClockState_within {m : Mask} (hm : Mask.Le ⟨0x80, 0x4c0000, 0x100000000000000000000000000000⟩ m) {new : Nat} :
    Eff.Within tables m (@setClockState new) := by
  unfold setClockState
  exact (Within.seq (Within.whenS (Within.look (fun _ => (Within.cons (Within.setN (hm.obj (by decide +kernel))) (Within.cons
    (Within.setN (hm.obj (by decide +kernel))) (Within.cons (raise_within (hm.via rfl rfl rfl)) Within.nil))))))
    (showSource_within (hm.via rfl rfl rfl)))

theorem servoSet_within {m : Mask} (hm : Mask.Le ⟨0x200, 0x0, 0x0⟩ m) {f : Servo → Servo} :
    Eff.Within tables m (@servoSet f) := by
  unfold servoSet
  exact (Within.upd (hm.parts' [.time] (by decide +kernel)))

theorem setRate_within {m : Mask} (hm : Mask.Le ⟨0x0, 0x200000, 0x0⟩ m) {a : Int} :
    Eff.Within tables m (@setRate a) := by
  unfold setRate
  exact (Within.setObj (hm.obj (by decide +kernel)))

theorem armPulses_within {m : Mask} (hm : Mask.Le ⟨0x200, 0x0, 0x0⟩ m) {pin : Nat} :
    Eff.Within tables m (@armPulses pin) := by
  unfold armPulses
  exact (Within.look (fun _ => (by (try dsimp only); split; exacts [(Within.upd (hm.parts' [.time] (by decide +kernel))),
    (Within.upd (hm.parts' [.time] (by decide +kernel)))])))

theorem pinsFollowStep_within {m : Mask} (hm : Mask.Le ⟨0x200, 0x0, 0x0⟩ m) {moved : Int} :
    Eff.Within tables m (@pinsFollowStep moved) := by
  unfold pinsFollowStep
  exact (Within.seq (Within.upd (hm.parts' [.time] (by decide +kernel))) (Within.look (fun _ => (Within.forEach (fun _ =>
    (armPulses_within (hm.via rfl rfl rfl)))))))

theorem stepClock_within {m : Mask}
    (hm : Mask.Le ⟨0x3380, 0x21000000800000, 0x100000000000000000000000000000⟩ m) {delta : Int} :
    Eff.Within tables m (@stepClock delta) := by
  unfold stepClock
  exact (Within.look (fun _ => (Within.cons (Within.upd (hm.parts' [.clock] (by decide +kernel))) (Within.cons (Within.forEach
    (fun _ => (Within.upd (hm.parts' [.segments] (by decide +kernel))))) (Within.cons (Within.upd
    (hm.parts' [.traffic] (by decide +kernel))) (Within.cons (Within.upd (hm.parts' [.time] (by decide +kernel))) (Within.cons
    (Within.setN (hm.obj (by decide +kernel))) (Within.cons (Within.bumpObj (hm.obj (by decide +kernel))) (Within.cons
    (servoSet_within (hm.via rfl rfl rfl)) (Within.cons (pinsFollowStep_within (hm.via rfl rfl rfl)) (Within.cons (raise_within
    (hm.via rfl rfl rfl)) (Within.cons (Within.whenS (setRingState_within (hm.via rfl rfl rfl))) Within.nil))))))))))))

theorem setSlew_within {m : Mask} (hm : Mask.Le ⟨0x200, 0x0, 0x0⟩ m) {sigma : Int} {adjust : Int} :
    Eff.Within tables m (@setSlew sigma adjust) := by
  unfold setSlew
  exact (Within.look (fun _ => (servoSet_within (hm.via rfl rfl rfl))))

theorem servoStep_within {μ : Mask} (hm : Mask.Le ⟨0x200, 0x200000, 0x0⟩ μ) {tRx : Nat} {m : Nat} {census : Bool} :
    Eff.Within tables μ (@servoStep tRx m census) := by
  unfold servoStep
  exact (Within.look (fun _ => (Within.cons
    (by (try dsimp only); split; exacts [(Within.ite (Within.seq (servoSet_within (hm.via rfl rfl rfl)) (Within.when (setRate_within (hm.via rfl rfl rfl)))) Within.skip),
    Within.skip]) (Within.cons (setSlew_within (hm.via rfl rfl rfl)) (Within.cons (servoSet_within
    (hm.via rfl rfl rfl)) Within.nil)))))

theorem servoNote_within {μ : Mask} (hm : Mask.Le ⟨0x200, 0x0, 0x0⟩ μ) {tRx : Nat} {m : Nat} :
    Eff.Within tables μ (@servoNote tRx m) := by
  unfold servoNote
  exact (servoSet_within (hm.via rfl rfl rfl))

theorem measured_within {μ : Mask}
    (hm : Mask.Le ⟨0x2988f6a0, 0x1e00200000000000000000000000180073600000010207c0010, 0x200020000000000000000000000001f100000000000000060800008000100⟩ μ) {tRx : Nat} {m : Nat} {census : Bool} :
    Eff.Within tables μ (@measured tRx m census) := by
  unfold measured
  exact (Within.look (fun _ => (Within.cons (Within.setObj (hm.obj (by decide +kernel))) (Within.cons (servoSet_within
    (hm.via rfl rfl rfl)) (Within.cons (Within.ite (Within.cons (servoSet_within (hm.via rfl rfl rfl)) (Within.cons
    (servoNote_within (hm.via rfl rfl rfl)) (Within.cons (setClockState_within (hm.via rfl rfl rfl)) Within.nil))) (Within.ite
    (Within.ite (servoSet_within (hm.via rfl rfl rfl)) (Within.cons (servoStep_within (hm.via rfl rfl rfl)) (Within.cons
    (servoSet_within (hm.via rfl rfl rfl)) (Within.cons (Within.when (setClockState_within
    (hm.via rfl rfl rfl))) Within.nil)))) (Within.ite (Within.cons (servoStep_within (hm.via rfl rfl rfl)) (Within.cons
    (servoSet_within (hm.via rfl rfl rfl)) (Within.cons (Within.when (Within.seq (faultEvent_within (hm.via rfl rfl rfl))
    (setClockState_within (hm.via rfl rfl rfl)))) Within.nil))) (Within.cons (servoStep_within (hm.via rfl rfl rfl))
    (Within.cons (servoSet_within (hm.via rfl rfl rfl)) (Within.cons (raise_within (hm.via rfl rfl rfl)) (Within.cons
    (setClockState_within (hm.via rfl rfl rfl)) Within.nil))))))) Within.nil)))))

theorem freezeRate_within {m : Mask} (hm : Mask.Le ⟨0x0, 0x200000, 0x0⟩ m) :
    Eff.Within tables m freezeRate := by
  unfold freezeRate
  exact (Within.look (fun _ => (setRate_within (hm.via rfl rfl rfl))))

theorem forgetSource_within {m : Mask} (hm : Mask.Le ⟨0x200, 0x0, 0x0⟩ m) :
    Eff.Within tables m forgetSource := by
  unfold forgetSource
  exact (servoSet_within (hm.via rfl rfl rfl))

theorem enterHoldover_within {m : Mask} (hm : Mask.Le ⟨0x200, 0x200000, 0x0⟩ m) :
    Eff.Within tables m enterHoldover := by
  unfold enterHoldover
  exact (Within.cons (freezeRate_within (hm.via rfl rfl rfl)) (Within.cons (setSlew_within (hm.via rfl rfl rfl)) (Within.cons
    (forgetSource_within (hm.via rfl rfl rfl)) Within.nil)))

theorem sourceLost_within {m : Mask}
    (hm : Mask.Le ⟨0x2988f6a0, 0x1e00200000000000000000000000180073600000010206c0010, 0x200020000000000000000000000001f100000000000000060800008000100⟩ m) :
    Eff.Within tables m sourceLost := by
  unfold sourceLost
  exact (Within.look (fun _ => (Within.ite (Within.ite (Within.cons (enterHoldover_within (hm.via rfl rfl rfl)) (Within.cons
    (faultEvent_within (hm.via rfl rfl rfl)) (Within.cons (raise_within (hm.via rfl rfl rfl)) (Within.cons
    (setClockState_within (hm.via rfl rfl rfl)) Within.nil)))) (Within.ite (Within.cons (enterHoldover_within
    (hm.via rfl rfl rfl)) (Within.cons (faultEvent_within (hm.via rfl rfl rfl)) (Within.cons (setClockState_within
    (hm.via rfl rfl rfl)) Within.nil))) (Within.cons (forgetSource_within (hm.via rfl rfl rfl)) (Within.cons (faultEvent_within
    (hm.via rfl rfl rfl)) (Within.cons (setClockState_within (hm.via rfl rfl rfl)) Within.nil))))) Within.skip)))

theorem countSource_within {m : Mask} (hm : Mask.Le ⟨0x200, 0x0, 0x0⟩ m) :
    Eff.Within tables m countSource := by
  unfold countSource
  exact (Within.look (fun _ => (servoSet_within (hm.via rfl rfl rfl))))

theorem sourceInvalid_within {m : Mask} (hm : Mask.Le ⟨0x200, 0x0, 0x0⟩ m) {source : Nat} :
    Eff.Within tables m (@sourceInvalid source) := by
  unfold sourceInvalid
  exact (Within.look (fun _ => (Within.when (servoSet_within (hm.via rfl rfl rfl)))))

theorem holdoverEnds_within {m : Mask} (hm : Mask.Le ⟨0x80, 0x4c0000, 0x100000000000000000000000000000⟩ m) :
    Eff.Within tables m holdoverEnds := by
  unfold holdoverEnds
  exact (Within.whenS (Within.seq (raise_within (hm.via rfl rfl rfl)) (setClockState_within (hm.via rfl rfl rfl))))

theorem referenceFails_within {m : Mask} (hm : Mask.Le ⟨0x280, 0x6c0000, 0x100000000000000000000000000000⟩ m) :
    Eff.Within tables m referenceFails := by
  unfold referenceFails
  exact (Within.cons (raise_within (hm.via rfl rfl rfl)) (Within.cons (Within.whenS (enterHoldover_within (hm.via rfl rfl rfl)))
    (Within.cons (setClockState_within (hm.via rfl rfl rfl)) Within.nil)))

theorem awaitSync_within {m : Mask} (hm : Mask.Le ⟨0x200, 0x0, 0x0⟩ m) :
    Eff.Within tables m awaitSync := by
  unfold awaitSync
  exact (Within.look (fun _ => (Within.upd (hm.parts' [.time] (by decide +kernel)))))

theorem leaveGptp_within {m : Mask} (hm : Mask.Le ⟨0x280, 0x1000000000, 0x100000000000000000000000000000⟩ m) {p : Nat} :
    Eff.Within tables m (@leaveGptp p) := by
  unfold leaveGptp
  exact (Within.seq (setAsCapable_within (hm.via rfl rfl rfl)) (gptpSet_within (hm.via rfl rfl rfl)))

theorem showRole_within {m : Mask} (hm : Mask.Le ⟨0x280, 0x1800000000, 0x100000000000000000000000000000⟩ m) {p : Nat} :
    Eff.Within tables m (@showRole p) := by
  unfold showRole
  exact (Within.look (fun _ => (Within.when (Within.cons (Within.setN (hm.obj (by decide +kernel))) (Within.cons (raise_within
    (hm.via rfl rfl rfl)) (Within.cons (Within.when (awaitSync_within (hm.via rfl rfl rfl))) (Within.cons (Within.when
    (leaveGptp_within (hm.via rfl rfl rfl))) Within.nil)))))))

theorem showRoles_within {m : Mask} (hm : Mask.Le ⟨0x280, 0x1800000000, 0x100000000000000000000000000000⟩ m) :
    Eff.Within tables m showRoles := by
  unfold showRoles
  exact (Within.forEach (fun _ => (showRole_within (hm.via rfl rfl rfl))))

theorem sourceChanged_within {m : Mask} (hm : Mask.Le ⟨0x280, 0x18004c0000, 0x100000000000000000000000000000⟩ m) :
    Eff.Within tables m sourceChanged := by
  unfold sourceChanged
  exact (Within.look (fun _ => (Within.cons (servoSet_within (hm.via rfl rfl rfl)) (Within.cons (setClockState_within
    (hm.via rfl rfl rfl)) (Within.cons (showRole_within (hm.via rfl rfl rfl)) Within.nil)))))

theorem automaticStepAct_within {m : Mask} (hm : Mask.Le ⟨0x3380, 0x21000000800000, 0x100000000000000000000000000000⟩ m) :
    Eff.Within tables m automaticStepAct := by
  unfold automaticStepAct
  exact (Within.look (fun _ =>
    (by (try dsimp only); split; exacts [(Within.seq (servoSet_within (hm.via rfl rfl rfl)) (Within.when (stepClock_within (hm.via rfl rfl rfl)))),
    Within.skip])))

theorem slewEnds_within {m : Mask} (hm : Mask.Le ⟨0x200, 0x0, 0x0⟩ m) :
    Eff.Within tables m slewEnds := by
  unfold slewEnds
  exact (Within.look (fun _ => (Within.when (setSlew_within (hm.via rfl rfl rfl)))))

theorem timeStepAct_within {m : Mask} (hm : Mask.Le ⟨0x3380, 0x21000000800000, 0x100000000000000000000000000000⟩ m) {t : Nat} :
    Eff.Within tables m (@timeStepAct t) := by
  unfold timeStepAct
  exact (Within.look (fun _ => (stepClock_within (hm.via rfl rfl rfl))))

theorem timeAdjustAct_within {m : Mask} (hm : Mask.Le ⟨0x200, 0x0, 0x0⟩ m) {offset : Int} :
    Eff.Within tables m (@timeAdjustAct offset) := by
  unfold timeAdjustAct
  exact (Within.look (fun _ => (setSlew_within (hm.via rfl rfl rfl))))

theorem ppsInEdgeAct_within {m : Mask}
    (hm : Mask.Le ⟨0x2988f6a0, 0x1e00200000000000000000000000180073600000110207c0010, 0x200020000000000000000000000001f100000000000000060800008000100⟩ m) {falling : Bool} {stamp : Nat} :
    Eff.Within tables m (@ppsInEdgeAct falling stamp) := by
  unfold ppsInEdgeAct
  exact (Within.look (fun _ => (Within.ite Within.skip (Within.ite (raise_within (hm.via rfl rfl rfl)) (Within.cons (Within.setN
    (hm.obj (by decide +kernel))) (Within.cons (Within.upd (hm.parts' [.time] (by decide +kernel))) (Within.cons (Within.when
    (measured_within (hm.via rfl rfl rfl))) Within.nil)))))))

theorem ppsInSecondsAct_within {m : Mask} (hm : Mask.Le ⟨0x200, 0x0, 0x0⟩ m) {seconds : Nat} :
    Eff.Within tables m (@ppsInSecondsAct seconds) := by
  unfold ppsInSecondsAct
  exact (Within.upd (hm.parts' [.time] (by decide +kernel)))

theorem ppsInMissingAct_within {m : Mask} (hm : Mask.Le ⟨0x280, 0x0, 0x100000000000000000000000000000⟩ m) :
    Eff.Within tables m ppsInMissingAct := by
  unfold ppsInMissingAct
  exact (Within.whenS (Within.cons (Within.upd (hm.parts' [.time] (by decide +kernel))) (Within.cons (raise_within
    (hm.via rfl rfl rfl)) (Within.cons (sourceInvalid_within (hm.via rfl rfl rfl)) Within.nil))))

theorem ppsOutEdgeAct_within {m : Mask} (hm : Mask.Le ⟨0x20000200, 0x0, 0x0⟩ m) :
    Eff.Within tables m ppsOutEdgeAct := by
  unfold ppsOutEdgeAct
  exact (Within.look (fun _ => (Within.when (Within.seq (Within.upd (hm.parts' [.time] (by decide +kernel))) (emit_within
    (hm.via rfl rfl rfl))))))

theorem captureAct_within {m : Mask}
    (hm : Mask.Le ⟨0x280, 0xe0000000000, 0x100000000000000000000000000000⟩ m) {pin : Nat} {falling : Bool} {stamp : Nat} :
    Eff.Within tables m (@captureAct pin falling stamp) := by
  unfold captureAct
  exact (Within.look (fun _ => (Within.ite Within.skip (Within.ite (Within.bumpObj (hm.obj (by decide +kernel))) (Within.cons
    (Within.setN (hm.obj (by decide +kernel))) (Within.cons (Within.bumpObj (hm.obj (by decide +kernel))) (Within.cons
    (Within.upd (hm.parts' [.time] (by decide +kernel))) (Within.cons (raise_within (hm.via rfl rfl rfl)) Within.nil))))))))

theorem pulseAct_within {m : Mask} (hm : Mask.Le ⟨0x20000200, 0x0, 0x0⟩ m) {pin : Nat} :
    Eff.Within tables m (@pulseAct pin) := by
  unfold pulseAct
  exact (Within.look (fun _ =>
    (by (try dsimp only); split; exacts [(Within.when (Within.seq (emit_within (hm.via rfl rfl rfl)) (Within.upd (hm.parts' [.time] (by decide +kernel))))),
    Within.skip])))

theorem execAutomaticStep_effect {s : State} : ∃ e, @execAutomaticStep s = done e s ∧ Eff.Within tables ⟨0x3380, 0x21000000800000, 0x100000000000000000000000000000⟩ e :=
  have hm := Mask.Le.refl ⟨0x3380, 0x21000000800000, 0x100000000000000000000000000000⟩
  ⟨_, rfl, (automaticStepAct_within (hm.via rfl rfl rfl))⟩

theorem execSlewEnd_effect {s : State} : ∃ e, @execSlewEnd s = done e s ∧ Eff.Within tables ⟨0x200, 0x0, 0x0⟩ e :=
  have hm := Mask.Le.refl ⟨0x200, 0x0, 0x0⟩
  ⟨_, rfl, (slewEnds_within (hm.via rfl rfl rfl))⟩

theorem execSourceLoss_effect {s : State} : ∃ e, @execSourceLoss s = done e s ∧ Eff.Within tables ⟨0x2988f6a0, 0x1e00200000000000000000000000180073600000010206c0010, 0x200020000000000000000000000001f100000000000000060800008000100⟩ e :=
  have hm := Mask.Le.refl ⟨0x2988f6a0, 0x1e00200000000000000000000000180073600000010206c0010, 0x200020000000000000000000000001f100000000000000060800008000100⟩
  ⟨_, rfl, (sourceLost_within (hm.via rfl rfl rfl))⟩

theorem execHoldoverLimit_effect {s : State} : ∃ e, @execHoldoverLimit s = done e s ∧ Eff.Within tables ⟨0x80, 0x4c0000, 0x100000000000000000000000000000⟩ e :=
  have hm := Mask.Le.refl ⟨0x80, 0x4c0000, 0x100000000000000000000000000000⟩
  ⟨_, rfl, (holdoverEnds_within (hm.via rfl rfl rfl))⟩

theorem execReferenceFault_effect {s : State} : ∃ e, @execReferenceFault s = done e s ∧ Eff.Within tables ⟨0x280, 0x6c0000, 0x100000000000000000000000000000⟩ e :=
  have hm := Mask.Le.refl ⟨0x280, 0x6c0000, 0x100000000000000000000000000000⟩
  ⟨_, rfl, (referenceFails_within (hm.via rfl rfl rfl))⟩

theorem execPpsInEdge_effect {falling : Bool} {stamp : Nat} {s : State} : ∃ e, @execPpsInEdge falling stamp s = done e s ∧ Eff.Within tables ⟨0x2988f6a0, 0x1e00200000000000000000000000180073600000110207c0010, 0x200020000000000000000000000001f100000000000000060800008000100⟩ e :=
  have hm := Mask.Le.refl ⟨0x2988f6a0, 0x1e00200000000000000000000000180073600000110207c0010, 0x200020000000000000000000000001f100000000000000060800008000100⟩
  ⟨_, rfl, (ppsInEdgeAct_within (hm.via rfl rfl rfl))⟩

theorem execPpsInMissing_effect {s : State} : ∃ e, @execPpsInMissing s = done e s ∧ Eff.Within tables ⟨0x280, 0x0, 0x100000000000000000000000000000⟩ e :=
  have hm := Mask.Le.refl ⟨0x280, 0x0, 0x100000000000000000000000000000⟩
  ⟨_, rfl, (ppsInMissingAct_within (hm.via rfl rfl rfl))⟩

theorem execPpsOutEdge_effect {s : State} : ∃ e, @execPpsOutEdge s = done e s ∧ Eff.Within tables ⟨0x20000200, 0x0, 0x0⟩ e :=
  have hm := Mask.Le.refl ⟨0x20000200, 0x0, 0x0⟩
  ⟨_, rfl, (ppsOutEdgeAct_within (hm.via rfl rfl rfl))⟩

theorem execTimeEventCapture_effect {pin : Nat} {falling : Bool} {stamp : Nat} {s : State} : ∃ e, @execTimeEventCapture pin falling stamp s = done e s ∧ Eff.Within tables ⟨0x280, 0xe0000000000, 0x100000000000000000000000000000⟩ e :=
  have hm := Mask.Le.refl ⟨0x280, 0xe0000000000, 0x100000000000000000000000000000⟩
  ⟨_, rfl, (captureAct_within (hm.via rfl rfl rfl))⟩

theorem execTimeEventPulse_effect {pin : Nat} {s : State} : ∃ e, @execTimeEventPulse pin s = done e s ∧ Eff.Within tables ⟨0x20000200, 0x0, 0x0⟩ e :=
  have hm := Mask.Le.refl ⟨0x20000200, 0x0, 0x0⟩
  ⟨_, rfl, (pulseAct_within (hm.via rfl rfl rfl))⟩

/-! ## RingFrame -/

theorem latchRound_within {m : Mask} (hm : Mask.Le ⟨0x800, 0x0, 0x0⟩ m) {launching : Bool} {round : Nat} :
    Eff.Within tables m (@latchRound launching round) := by
  unfold latchRound
  exact (Within.look (fun _ => (Within.ite Within.skip (Within.seq (Within.upd (hm.parts' [.ring] (by decide +kernel)))
    (Within.forEach (fun _ => (Within.upd (hm.parts' [.ring] (by decide +kernel)))))))))

theorem countOwn_within {m : Mask}
    (hm : Mask.Le ⟨0x0, 0x0, 0x30000000000000000000000000000000000⟩ m) {launching : Bool} {round : Nat} :
    Eff.Within tables m (@countOwn launching round) := by
  unfold countOwn
  exact (Within.look (fun _ => (Within.forEach (fun _ =>
    (by (repeat' split) <;> exact Within.count (hm.ctr (by decide +kernel)))))))

theorem notePassage_within {m : Mask} (hm : Mask.Le ⟨0x800, 0x0, 0x0⟩ m) {lane : Nat} {start : Nat} {bytes : Nat} :
    Eff.Within tables m (@notePassage lane start bytes) := by
  unfold notePassage
  exact (Within.look (fun _ => (Within.upd (hm.parts' [.ring] (by decide +kernel)))))

theorem endOnLane_within {m : Mask} (hm : Mask.Le ⟨0x2000a280, 0x0, 0x10000000100000000000000000000000000000⟩ m) {lane : Nat} :
    Eff.Within tables m (@endOnLane lane) := by
  unfold endOnLane
  exact (Within.look (fun _ =>
    (by (try dsimp only); split; exacts [(by (try dsimp only); split; exacts [(Within.cons (emit_within (hm.via rfl rfl rfl)) (Within.cons (Within.count (hm.ctr (by decide +kernel))) (Within.cons (raise_within (hm.via rfl rfl rfl)) (Within.cons (Within.upd (hm.parts' [.traffic] (by decide +kernel))) (Within.cons (finishOrigin_within (hm.via rfl rfl rfl)) Within.nil))))),
    Within.skip]), Within.skip])))

theorem noteNumber_within {m : Mask} (hm : Mask.Le ⟨0x800000, 0x0, 0x0⟩ m) {p : Nat} {f : Frame} :
    Eff.Within tables m (@noteNumber p f) := by
  unfold noteNumber
  exact (Within.look (fun _ =>
    (by (try dsimp only); split; exacts [(Within.when (Within.upd (hm.parts' [.kiln] (by decide +kernel)))), Within.skip])))

theorem copyChecks_within {m : Mask}
    (hm : Mask.Le ⟨0x2988f6a0, 0x1e0020000000000000000000000018007360000001020000010, 0x2000200000000000000000000002c1f100000000000000060800008000133⟩ m) {lane : Nat} {f : Frame} :
    Eff.Within tables m (@copyChecks lane f) := by
  unfold copyChecks
  exact
    (by (try dsimp only); split; exacts [(Within.seq (Within.count (hm.ctr (by decide +kernel))) (raise_within (hm.via rfl rfl rfl))),
    (Within.cons (Within.count (hm.ctr (by decide +kernel))) (Within.cons (Within.count (Ctr.port (hm.ctr (by decide +kernel)))) (Within.cons (faultEvent_within (hm.via rfl rfl rfl)) Within.nil))),
    (Within.look (fun _ => (Within.ite (Within.seq (Within.count (Ctr.port (hm.ctr (by decide +kernel)))) (Within.countN (Ctr.port (hm.ctr (by decide +kernel))))) (Within.cons (Within.count (hm.ctr (by decide +kernel))) (Within.cons (Within.count (Ctr.port (hm.ctr (by decide +kernel)))) (Within.cons (faultEvent_within (hm.via rfl rfl rfl)) Within.nil))))))])

theorem stageCopy_within {m : Mask} (hm : Mask.Le ⟨0x800, 0x0, 0x0⟩ m) {lane : Nat} {f : Frame} :
    Eff.Within tables m (@stageCopy lane f) := by
  unfold stageCopy
  exact (Within.look (fun _ => (Within.upd (hm.parts' [.ring] (by decide +kernel)))))

theorem takePosition_within {m : Mask} (hm : Mask.Le ⟨0x800, 0x2000000000000, 0x0⟩ m) {h : RfHeader} :
    Eff.Within tables m (@takePosition h) := by
  unfold takePosition
  exact (Within.when (Within.ite (Within.seq (Within.setN (hm.obj (by decide +kernel))) (Within.upd
    (hm.parts' [.ring] (by decide +kernel)))) (Within.whenS (Within.look (fun _ => (Within.seq (Within.setN
    (hm.obj (by decide +kernel))) (Within.upd (hm.parts' [.ring] (by decide +kernel)))))))))

theorem forwardCopy_within {m : Mask}
    (hm : Mask.Le ⟨0x2080aa80, 0x2000000000000, 0x1203108010000000000000000000000000000c⟩ m) {lane : Nat} {f : Frame} :
    Eff.Within tables m (@forwardCopy lane f) := by
  unfold forwardCopy
  exact (Within.look (fun _ => (Within.cons (endOnLane_within (hm.via rfl rfl rfl)) (Within.cons (Within.when (Within.seq
    (latchRound_within (hm.via rfl rfl rfl)) (countOwn_within (hm.via rfl rfl rfl)))) (Within.cons (Within.when
    (takePosition_within (hm.via rfl rfl rfl))) (Within.cons (Within.look (fun _ => (Within.when (Within.cons (emit_within
    (hm.via rfl rfl rfl)) (Within.cons (usePacketNumber_within (hm.via rfl rfl rfl)) (Within.cons (Within.count (Ctr.port
    (hm.ctr (by decide +kernel)))) (Within.cons (Within.countN (Ctr.port (hm.ctr (by decide +kernel)))) (Within.cons
    (notePassage_within (hm.via rfl rfl rfl)) (Within.cons (Within.count (hm.ctr (by decide +kernel))) (Within.cons
    (Within.when (Within.count (hm.ctr (by decide +kernel)))) (Within.cons (Within.when (Within.count
    (hm.ctr (by decide +kernel)))) Within.nil))))))))))) Within.nil))))))

theorem copyArrives_within {m : Mask}
    (hm : Mask.Le ⟨0x2988fea0, 0x1e0020000000000000000000000018007360002001020000010, 0x2000200000000000000000012033edf10000000000000006080000800013f⟩ m) {lane : Nat} {frame : Frame} :
    Eff.Within tables m (@copyArrives lane frame) := by
  unfold copyArrives
  exact (Within.look (fun _ => (Within.ite Within.skip (Within.cons (Within.count (hm.ctr (by decide +kernel))) (Within.cons
    (copyChecks_within (hm.via rfl rfl rfl)) (Within.cons (stageCopy_within (hm.via rfl rfl rfl)) (Within.cons (Within.ite
    (Within.count (hm.ctr (by decide +kernel))) (forwardCopy_within (hm.via rfl rfl rfl))) (Within.cons (noteNumber_within
    (hm.via rfl rfl rfl)) Within.nil))))))))

theorem launchCopy_within {m : Mask}
    (hm : Mask.Le ⟨0x2080aa80, 0x0, 0x1003010010000000000000000000000000000c⟩ m) {round : Nat} {direction : Nat} {err : Int} :
    Eff.Within tables m (@launchCopy round direction err) := by
  unfold launchCopy
  exact (Within.look (fun _ => (Within.ite Within.skip (Within.cons (endOnLane_within (hm.via rfl rfl rfl)) (Within.cons
    (countOwn_within (hm.via rfl rfl rfl)) (Within.cons (emit_within (hm.via rfl rfl rfl)) (Within.cons (usePacketNumber_within
    (hm.via rfl rfl rfl)) (Within.cons (Within.count (Ctr.port (hm.ctr (by decide +kernel)))) (Within.cons (Within.countN
    (Ctr.port (hm.ctr (by decide +kernel)))) (Within.cons (notePassage_within (hm.via rfl rfl rfl)) (Within.cons (Within.count
    (hm.ctr (by decide +kernel))) (Within.cons (Within.upd (hm.parts' [.ring] (by decide +kernel))) Within.nil))))))))))))

theorem launchRound_within {m : Mask}
    (hm : Mask.Le ⟨0x2080aa80, 0x0, 0x1003010010000000000000000000000000000c⟩ m) {round : Nat} {errEast : Int} {errWest : Int} :
    Eff.Within tables m (@launchRound round errEast errWest) := by
  unfold launchRound
  exact (Within.look (fun _ => (Within.ite Within.skip (Within.cons (latchRound_within (hm.via rfl rfl rfl)) (Within.cons
    (Within.look (fun _ => (Within.forEach (fun _ => (Within.upd (hm.parts' [.ring] (by decide +kernel))))))) (Within.cons
    (launchCopy_within (hm.via rfl rfl rfl)) (Within.cons (launchCopy_within (hm.via rfl rfl rfl)) Within.nil)))))))

theorem execRoundFrame_effect {lane : Nat} {frame : Frame} {s : State} : ∃ e, @execRoundFrame lane frame s = done e s ∧ Eff.Within tables ⟨0x2988fea0, 0x1e0020000000000000000000000018007360002001020000010, 0x2000200000000000000000012033edf10000000000000006080000800013f⟩ e :=
  have hm := Mask.Le.refl ⟨0x2988fea0, 0x1e0020000000000000000000000018007360002001020000010, 0x2000200000000000000000012033edf10000000000000006080000800013f⟩
  ⟨_, rfl, (operating_within (hm.via rfl rfl rfl) (copyArrives_within (hm.via rfl rfl rfl)))⟩

theorem execRoundFrameLaunch_effect {round : Nat} {errEast : Int} {errWest : Int} {s : State} : ∃ e, @execRoundFrameLaunch round errEast errWest s = done e s ∧ Eff.Within tables ⟨0x2080aa80, 0x0, 0x1003010010000000000000000000000000000c⟩ e :=
  have hm := Mask.Le.refl ⟨0x2080aa80, 0x0, 0x1003010010000000000000000000000000000c⟩
  ⟨_, rfl, (operating_within (hm.via rfl rfl rfl) (launchRound_within (hm.via rfl rfl rfl)))⟩

end Sys2Proof.Machine
end

