-- ==== Sys2Proof/Laws/WithinRing.lean ====
section
/-! SUPPORT. Frame lemmas: every update that an effect of Machine/Ring.lean, Machine/HostQueues.lean, Machine/Segment.lean, Machine/Gates.lean can issue
lies in a mask. -/

namespace Sys2Proof.Machine

set_option Elab.async false
set_option linter.unusedTactic false
set_option linter.unusedVariables false

/-! ## Ring -/

theorem renewalSeen_within {m : Mask}
    (hm : Mask.Le ⟨0x4080000, 0x240000000000000000000000000000000000000000000000, 0x0⟩ m) {e : Nat} {c : Nat} :
    Eff.Within tables m (@renewalSeen e c) := by
  unfold renewalSeen
  exact (Within.look (fun _ => (Within.when (Within.cons (Within.when (Within.seq (Within.setN (hm.obj (by decide +kernel)))
    (Within.upd (hm.parts' [.canopy] (by decide +kernel))))) (Within.cons (Within.when (Within.upd
    (hm.parts' [.canopy] (by decide +kernel)))) (Within.cons (Within.upd (hm.parts' [.twin] (by decide +kernel))) (Within.cons
    (Within.setN (hm.obj (by decide +kernel))) Within.nil)))))))

theorem twinHeader_within {m : Mask}
    (hm : Mask.Le ⟨0x4080080, 0x260000000000000000000000000000000000000000000000, 0x100000000000000000000000000000⟩ m) {leaseState : Nat} {e : Nat} {c : Nat} :
    Eff.Within tables m (@twinHeader leaseState e c) := by
  unfold twinHeader
  exact (Within.look (fun _ => (Within.when (Within.cons (Within.upd (hm.parts' [.twin] (by decide +kernel))) (Within.cons
    (Within.when (Within.seq (renewalSeen_within (hm.via rfl rfl rfl)) (Within.whenS (setTwinState_within
    (hm.via rfl rfl rfl))))) Within.nil)))))

theorem yieldToPeer_within {m : Mask}
    (hm : Mask.Le ⟨0x80880, 0xa0000000000000000000000000000000000000000000000, 0x100000000000000000000000000000100000000000000000000000000000⟩ m) {peerEpoch : Nat} :
    Eff.Within tables m (@yieldToPeer peerEpoch) := by
  unfold yieldToPeer
  exact (Within.cons (Within.upd (hm.parts' [.ring] (by decide +kernel))) (Within.cons (raise_within (hm.via rfl rfl rfl))
    (Within.cons (Within.count (hm.ctr (by decide +kernel))) (Within.cons (Within.setB (hm.obj (by decide +kernel)))
    (Within.cons (Within.upd (hm.parts' [.twin] (by decide +kernel))) (Within.cons (setTwinState_within
    (hm.via rfl rfl rfl)) Within.nil))))))

theorem twinMismatch_within {m : Mask}
    (hm : Mask.Le ⟨0x2998f6a0, 0x1e0020000000000000000000000018007360000001020000010, 0x20003c000000000000000000000001f100000000000000060800008000100⟩ m) {kind : Nat} {grove : Nat} {engine : Nat} {sid : Nat} {cycle : Nat} :
    Eff.Within tables m (@twinMismatch kind grove engine sid cycle) := by
  unfold twinMismatch
  exact (Within.look (fun _ => (Within.cons (Within.upd (hm.parts' [.mismatchLog] (by decide +kernel))) (Within.cons
    (by (repeat' split) <;> exact Within.count (hm.ctr (by decide +kernel))) (Within.cons (faultEvent_within
    (hm.via rfl rfl rfl)) Within.nil)))))

theorem setCandidate_within {m : Mask} (hm : Mask.Le ⟨0x800, 0x0, 0x0⟩ m) {id : Nat} {c : Candidate} :
    Eff.Within tables m (@setCandidate id c) := by
  unfold setCandidate
  exact (Within.upd (hm.parts' [.ring] (by decide +kernel)))

theorem nextSerial_within {m : Mask} (hm : Mask.Le ⟨0x4000, 0x0, 0x0⟩ m) :
    Eff.Within tables m nextSerial := by
  unfold nextSerial
  exact (Within.upd (hm.parts' [.messages] (by decide +kernel)))

theorem takeSection_within {m : Mask}
    (hm : Mask.Le ⟨0x4880, 0x6000000000000000, 0x9c8000100000000000000000000000000000⟩ m) {r : SecRow} {c : SectionCopy} :
    Eff.Within tables m (@takeSection r c) := by
  unfold takeSection
  exact (Within.look (fun _ => (Within.ite (Within.seq (Within.count (hm.ctr (by decide +kernel))) (Within.bumpObj
    (hm.obj (by decide +kernel)))) (Within.ite (Within.ite (Within.seq (Within.count (hm.ctr (by decide +kernel)))
    (raise_within (hm.via rfl rfl rfl)))
    (by (try dsimp only); split; exacts [(Within.seq (Within.count (hm.ctr (by decide +kernel))) (Within.bumpObj (hm.obj (by decide +kernel)))),
    (Within.cons (Within.count (hm.ctr (by decide +kernel))) (Within.cons (setCandidate_within (hm.via rfl rfl rfl)) (Within.cons (Within.when (Within.cons (nextSerial_within (hm.via rfl rfl rfl)) (Within.cons (Within.count (hm.ctr (by decide +kernel))) (Within.cons (Within.look (fun _ => (setCandidate_within (hm.via rfl rfl rfl)))) Within.nil)))) Within.nil)))]))
    (Within.ite (Within.when (setCandidate_within (hm.via rfl rfl rfl))) Within.skip)))))

theorem compareShadow_within {m : Mask}
    (hm : Mask.Le ⟨0x2998f6a0, 0x1e0020000000000000000000000018007360000001020000010, 0x20003e000000000000000000000001f100000000000000060800008000100⟩ m) {k : ShadowCheck} :
    Eff.Within tables m (@compareShadow k) := by
  unfold compareShadow
  exact (Within.look (fun _ => (Within.when (Within.seq (Within.count (hm.ctr (by decide +kernel))) (Within.when
    (twinMismatch_within (hm.via rfl rfl rfl)))))))

theorem settleShadows_within {m : Mask}
    (hm : Mask.Le ⟨0x2998f6a0, 0x1e0020000000000000000000000018007360000001020000010, 0x20003e000000000000000000000001f100000000000000060800008000100⟩ m) :
    Eff.Within tables m settleShadows := by
  unfold settleShadows
  exact (Within.look (fun _ => (Within.seq (Within.upd (hm.parts' [.twin] (by decide +kernel))) (Within.forEach (fun _ =>
    (compareShadow_within (hm.via rfl rfl rfl)))))))

theorem noteShadow_within {m : Mask}
    (hm : Mask.Le ⟨0x2998f6a0, 0x1e0020000000000000000000000018007360000001020000010, 0x20003e000000000000000000000001f100000000000000060800008000100⟩ m) {r : SecRow} {c : SectionCopy} :
    Eff.Within tables m (@noteShadow r c) := by
  unfold noteShadow
  exact (Within.look (fun _ => (Within.ite Within.skip (raiseOncePerCycle_within (hm.via rfl rfl rfl) (Within.seq (Within.upd
    (hm.parts' [.twin] (by decide +kernel))) (settleShadows_within (hm.via rfl rfl rfl)))))))

theorem takeSections_within {m : Mask}
    (hm : Mask.Le ⟨0x2998fea0, 0x1e0020000000000000000000000018007366000001020000010, 0x20003e00000000000000000009c801f100000000000000060800008000100⟩ m) {copy : StagedCopy} :
    Eff.Within tables m (@takeSections copy) := by
  unfold takeSections
  exact (Within.look (fun _ => (Within.forEach (fun _ =>
    (by (try dsimp only); split; exacts [(Within.when (Within.seq (noteShadow_within (hm.via rfl rfl rfl)) (takeSection_within (hm.via rfl rfl rfl)))),
    Within.skip])))))

theorem ringMeasure_within {m : Mask}
    (hm : Mask.Le ⟨0x2988fea0, 0x1e00200000000000000000000000180073600000010207c0010, 0x200020000000000000000000000001f100000000000000060800008000100⟩ m) {copy : StagedCopy} :
    Eff.Within tables m (@ringMeasure copy) := by
  unfold ringMeasure
  exact (Within.look (fun _ => (Within.when (Within.seq (Within.upd (hm.parts' [.ring] (by decide +kernel))) (measured_within
    (hm.via rfl rfl rfl))))))

theorem recordTimes_within {m : Mask} (hm : Mask.Le ⟨0x800, 0x0, 0x0⟩ m) {copy : StagedCopy} :
    Eff.Within tables m (@recordTimes copy) := by
  unfold recordTimes
  exact (Within.look (fun _ => (Within.ite Within.skip (Within.ite (Within.upd (hm.parts' [.ring] (by decide +kernel)))
    (Within.ite (Within.upd (hm.parts' [.ring] (by decide +kernel))) (Within.upd (hm.parts' [.ring] (by decide +kernel))))))))

theorem enterRing_within {m : Mask} (hm : Mask.Le ⟨0x0, 0x1000000000000, 0x0⟩ m) {new : Nat} :
    Eff.Within tables m (@enterRing new) := by
  unfold enterRing
  exact (Within.setN (hm.obj (by decide +kernel)))

theorem followMaster_within {m : Mask} (hm : Mask.Le ⟨0x800, 0x0, 0x0⟩ m) {hash : Nat} :
    Eff.Within tables m (@followMaster hash) := by
  unfold followMaster
  exact (Within.upd (hm.parts' [.ring] (by decide +kernel)))

theorem followCopy_within {m : Mask}
    (hm : Mask.Le ⟨0x880, 0x1000000000000, 0x100000000000000000000000000000⟩ m) {h : RfHeader} :
    Eff.Within tables m (@followCopy h) := by
  unfold followCopy
  exact (Within.look (fun _ => (Within.ite Within.skip (Within.ite (Within.when (Within.seq (followMaster_within
    (hm.via rfl rfl rfl)) (setRingState_within (hm.via rfl rfl rfl)))) (Within.ite (Within.ite (Within.upd
    (hm.parts' [.ring] (by decide +kernel))) (Within.ite (Within.seq (followMaster_within (hm.via rfl rfl rfl)) (raise_within
    (hm.via rfl rfl rfl))) (Within.ite (Within.cons (followMaster_within (hm.via rfl rfl rfl)) (Within.cons (raise_within
    (hm.via rfl rfl rfl)) (Within.cons (enterRing_within (hm.via rfl rfl rfl)) Within.nil))) Within.skip))) Within.skip)))))

theorem witnessHeader_within {m : Mask} (hm : Mask.Le ⟨0x800, 0x0, 0x0⟩ m) {h : RfHeader} :
    Eff.Within tables m (@witnessHeader h) := by
  unfold witnessHeader
  exact (Within.look (fun _ => (Within.when (Within.upd (hm.parts' [.ring] (by decide +kernel))))))

theorem noteRequest_within {m : Mask} (hm : Mask.Le ⟨0x800, 0x0, 0x0⟩ m) {h : RfHeader} :
    Eff.Within tables m (@noteRequest h) := by
  unfold noteRequest
  exact (Within.when (Within.upd (hm.parts' [.ring] (by decide +kernel))))

theorem outOfStep_within {m : Mask} (hm : Mask.Le ⟨0x880, 0x0, 0x4000000100000000000000000000000000000⟩ m) {h : RfHeader} :
    Eff.Within tables m (@outOfStep h) := by
  unfold outOfStep
  exact (Within.cons (Within.count (hm.ctr (by decide +kernel))) (Within.cons (raise_within (hm.via rfl rfl rfl)) (Within.cons
    (Within.upd (hm.parts' [.ring] (by decide +kernel))) Within.nil)))

theorem duplicateName_within {m : Mask}
    (hm : Mask.Le ⟨0x2988fea0, 0x1e00200000000000000000000000180073600010018204c0010, 0x200020000000000000000000000001f100000000000000060800008000100⟩ m) :
    Eff.Within tables m duplicateName := by
  unfold duplicateName
  exact (Within.cons (faultEvent_within (hm.via rfl rfl rfl)) (Within.cons (Within.upd (hm.parts' [.ring] (by decide +kernel)))
    (Within.cons (enterRing_within (hm.via rfl rfl rfl)) (Within.cons (sourceChanged_within (hm.via rfl rfl rfl)) Within.nil))))

theorem collide_within {m : Mask}
    (hm : Mask.Le ⟨0x2988fea0, 0x1e00200000000000000000000000180073600010018204c0010, 0x200020000000000000000040000001f100000000000000060800008000100⟩ m) {rank : Nat} {name : Nat} :
    Eff.Within tables m (@collide rank name) := by
  unfold collide
  exact (Within.look (fun _ => (raiseOncePerCycle_within (hm.via rfl rfl rfl) (Within.cons (raise_within (hm.via rfl rfl rfl))
    (Within.cons (Within.count (hm.ctr (by decide +kernel))) (Within.cons (Within.ite (Within.when (Within.upd
    (hm.parts' [.ring] (by decide +kernel)))) (Within.seq (faultEvent_within (hm.via rfl rfl rfl)) (Within.ite
    (duplicateName_within (hm.via rfl rfl rfl)) (Within.when (Within.upd
    (hm.parts' [.ring] (by decide +kernel))))))) Within.nil))))))

theorem loopback_within {m : Mask}
    (hm : Mask.Le ⟨0x80, 0x0, 0x2000000000100000000000000000000000000000⟩ m) {copy : StagedCopy} :
    Eff.Within tables m (@loopback copy) := by
  unfold loopback
  exact (Within.look (fun _ => (Within.forEach (fun _ =>
    (by (try dsimp only); split; exacts [(Within.when (Within.seq (raise_within (hm.via rfl rfl rfl)) (Within.count (hm.ctr (by decide +kernel))))),
    Within.skip])))))

theorem peerLaunches_within {m : Mask}
    (hm : Mask.Le ⟨0x80880, 0xa0000000000000000000000000000000000000000000000, 0x100000000000000000000000000000100000000000000000000000000000⟩ m) {copy : StagedCopy} :
    Eff.Within tables m (@peerLaunches copy) := by
  unfold peerLaunches
  exact (Within.look (fun _ => (Within.ofOption (fun _ => (Within.when (yieldToPeer_within (hm.via rfl rfl rfl)))))))

theorem masterCopy_within {m : Mask}
    (hm : Mask.Le ⟨0x2988fea0, 0x1e00200000000000000000000000180073600010018204c0010, 0x200020000000000000000240000001f100000000000000060800008000100⟩ m) {copy : StagedCopy} {inCycle : Bool} :
    Eff.Within tables m (@masterCopy copy inCycle) := by
  unfold masterCopy
  exact (Within.look (fun _ => (Within.ite (Within.when (Within.seq (loopback_within (hm.via rfl rfl rfl)) (Within.upd
    (hm.parts' [.ring] (by decide +kernel))))) (Within.ite
    (by (try dsimp only); split; exacts [(Within.when (collide_within (hm.via rfl rfl rfl))), Within.skip]) Within.skip))))

theorem setLane_within {m : Mask} (hm : Mask.Le ⟨0x800, 0x0, 0x0⟩ m) {west : Bool} {f : Lane → Lane} :
    Eff.Within tables m (@setLane west f) := by
  unfold setLane
  exact (Within.upd (hm.parts' [.ring] (by decide +kernel)))

theorem laneHeard_within {m : Mask} (hm : Mask.Le ⟨0x800, 0x0, 0x0⟩ m) {west : Bool} :
    Eff.Within tables m (@laneHeard west) := by
  unfold laneHeard
  exact (setLane_within (hm.via rfl rfl rfl))

theorem verifyCopy_within {m : Mask}
    (hm : Mask.Le ⟨0x2d98fea0, 0x1e02e00000000000000000000000180073660010018207c0010, 0x21003e000000000000000240c9cc01f100000000000000060800008000100⟩ m) {copy : StagedCopy} :
    Eff.Within tables m (@verifyCopy copy) := by
  unfold verifyCopy
  exact (Within.look (fun _ => (Within.ite Within.skip (Within.cons (laneHeard_within (hm.via rfl rfl rfl)) (Within.cons
    (Within.when (Within.upd (hm.parts' [.ring] (by decide +kernel)))) (Within.cons (Within.when (Within.count
    (hm.ctr (by decide +kernel)))) (Within.cons (Within.when (Within.seq (Within.count (hm.ctr (by decide +kernel)))
    (raise_within (hm.via rfl rfl rfl)))) (Within.cons (recordTimes_within (hm.via rfl rfl rfl)) (Within.cons (Within.when
    (followCopy_within (hm.via rfl rfl rfl))) (Within.cons (Within.when (Within.seq (Within.when (peerLaunches_within
    (hm.via rfl rfl rfl))) (twinHeader_within (hm.via rfl rfl rfl)))) (Within.cons (witnessHeader_within (hm.via rfl rfl rfl))
    (Within.cons (Within.when (Within.seq (noteRequest_within (hm.via rfl rfl rfl)) (Within.when (outOfStep_within
    (hm.via rfl rfl rfl))))) (Within.cons (Within.when (takeSections_within (hm.via rfl rfl rfl))) (Within.cons (Within.when
    (masterCopy_within (hm.via rfl rfl rfl))) (Within.cons (ringMeasure_within (hm.via rfl rfl rfl)) Within.nil)))))))))))))))

theorem verifyNext_within {m : Mask}
    (hm : Mask.Le ⟨0x2d98fea0, 0x1e02e00000000000000000000000180073660010018207c0010, 0x21003e000000000000000240c9cc01f100000000000000060800008000100⟩ m) {lane : Nat} :
    Eff.Within tables m (@verifyNext lane) := by
  unfold verifyNext
  exact (Within.look (fun _ =>
    (by (try dsimp only); split; exacts [(Within.seq (Within.upd (hm.parts' [.ring] (by decide +kernel))) (verifyCopy_within (hm.via rfl rfl rfl))),
    Within.skip])))

theorem commitSection_within {m : Mask}
    (hm : Mask.Le ⟨0x800, 0x19000000000000000, 0x600000000000000000000000000000000000⟩ m) {n : Nat} {r : SecRow} :
    Eff.Within tables m (@commitSection n r) := by
  unfold commitSection
  exact (Within.look (fun _ => (Within.cons (Within.upd (hm.parts' [.ring] (by decide +kernel))) (Within.cons (Within.ite
    (Within.setN (hm.obj (by decide +kernel))) (Within.seq (Within.count (hm.ctr (by decide +kernel))) (Within.bumpObj
    (hm.obj (by decide +kernel))))) (Within.cons (Within.when (Within.seq (Within.count (hm.ctr (by decide +kernel)))
    (Within.bumpObj (hm.obj (by decide +kernel))))) Within.nil)))))

theorem commitViews_within {m : Mask}
    (hm : Mask.Le ⟨0x4800, 0x19000000000000000, 0x600000000000000000000000000000000000⟩ m) {n : Nat} :
    Eff.Within tables m (@commitViews n) := by
  unfold commitViews
  exact (Within.look (fun _ => (Within.cons (nextSerial_within (hm.via rfl rfl rfl)) (Within.cons (Within.forEach (fun _ =>
    (commitSection_within (hm.via rfl rfl rfl)))) (Within.cons (Within.upd
    (hm.parts' [.ring] (by decide +kernel))) Within.nil)))))

theorem setRingSize_within {m : Mask}
    (hm : Mask.Le ⟨0x880, 0x4000000000000, 0x800000000100000000000000000000000000000⟩ m) {new : Nat} :
    Eff.Within tables m (@setRingSize new) := by
  unfold setRingSize
  exact (Within.look (fun _ => (Within.ite (Within.upd (hm.parts' [.ring] (by decide +kernel))) (Within.cons (Within.setN
    (hm.obj (by decide +kernel))) (Within.cons (Within.when (Within.seq (raise_within (hm.via rfl rfl rfl)) (Within.count
    (hm.ctr (by decide +kernel))))) (Within.cons (Within.upd (hm.parts' [.ring] (by decide +kernel))) Within.nil))))))

theorem setBreak_within {m : Mask} (hm : Mask.Le ⟨0x80, 0x80000000000000, 0x100000000000000000000000000000⟩ m) {new : Nat} :
    Eff.Within tables m (@setBreak new) := by
  unfold setBreak
  exact (Within.whenS (Within.seq (Within.setN (hm.obj (by decide +kernel))) (raise_within (hm.via rfl rfl rfl))))

theorem locateBreak_within {m : Mask} (hm : Mask.Le ⟨0x880, 0x84000000000000, 0x800000000100000000000000000000000000000⟩ m) :
    Eff.Within tables m locateBreak := by
  unfold locateBreak
  exact (Within.look (fun _ =>
    (by (try dsimp only); split; exacts [(Within.seq (setRingSize_within (hm.via rfl rfl rfl)) (setBreak_within (hm.via rfl rfl rfl))),
    Within.skip])))

theorem refuse_within {m : Mask} (hm : Mask.Le ⟨0x800, 0x0, 0x0⟩ m) {name : Nat} {source : Nat} {e : Eff}
    (h_e : Eff.Within tables m e) :
    Eff.Within tables m (@refuse name source e) := by
  unfold refuse
  exact (Within.whenS (Within.seq (Within.upd (hm.parts' [.ring] (by decide +kernel))) h_e))

theorem considerNode_within {m : Mask}
    (hm : Mask.Le ⟨0x2988fea0, 0x1e0020000000000000000000000018007360000001020000010, 0x200020000000000000000006000001f100000000000000060800008000100⟩ m) {all : List Presence} {p : Presence} :
    Eff.Within tables m (@considerNode all p) := by
  unfold considerNode
  exact (Within.look (fun _ => (Within.cons (Within.when (Within.cons (Within.upd (hm.parts' [.ring] (by decide +kernel)))
    (Within.cons (raise_within (hm.via rfl rfl rfl)) (Within.cons (Within.count (hm.ctr (by decide +kernel))) Within.nil))))
    (Within.cons (Within.ite (Within.when (refuse_within (hm.via rfl rfl rfl) (faultEvent_within (hm.via rfl rfl rfl))))
    (Within.ite (Within.upd (hm.parts' [.ring] (by decide +kernel))) (Within.cons (Within.when (refuse_within
    (hm.via rfl rfl rfl) (faultEvent_within (hm.via rfl rfl rfl)))) (Within.cons (Within.when (refuse_within
    (hm.via rfl rfl rfl) (faultEvent_within (hm.via rfl rfl rfl)))) (Within.cons (Within.upd
    (hm.parts' [.ring] (by decide +kernel))) (Within.cons (Within.when (Within.cons (Within.upd
    (hm.parts' [.ring] (by decide +kernel))) (Within.cons (raise_within (hm.via rfl rfl rfl)) (Within.cons (Within.count
    (hm.ctr (by decide +kernel))) Within.nil)))) Within.nil)))))) Within.nil))))

theorem absentNodes_within {m : Mask} (hm : Mask.Le ⟨0x800, 0x0, 0x0⟩ m) {all : List Presence} :
    Eff.Within tables m (@absentNodes all) := by
  unfold absentNodes
  exact (Within.upd (hm.parts' [.ring] (by decide +kernel)))

theorem masterBoundary_within {m : Mask}
    (hm : Mask.Le ⟨0x2988fea0, 0x1e002000000000000000000000001800736018e001020000010, 0x200020000000000000000086000001f100000000000000060800008000100⟩ m) {c : Nat} :
    Eff.Within tables m (@masterBoundary c) := by
  unfold masterBoundary
  exact (Within.cons (locateBreak_within (hm.via rfl rfl rfl)) (Within.cons (Within.look (fun _ => (Within.seq (Within.forEach
    (fun _ => (considerNode_within (hm.via rfl rfl rfl)))) (absentNodes_within (hm.via rfl rfl rfl))))) (Within.cons
    (Within.look (fun _ => (Within.seq (Within.setN (hm.obj (by decide +kernel))) (Within.upd
    (hm.parts' [.ring] (by decide +kernel)))))) (Within.cons (Within.look (fun _ => (Within.cons (Within.setN
    (hm.obj (by decide +kernel))) (Within.cons (Within.setN (hm.obj (by decide +kernel))) (Within.cons (Within.upd
    (hm.parts' [.ring] (by decide +kernel))) Within.nil))))) (Within.cons (Within.upd
    (hm.parts' [.ring] (by decide +kernel))) Within.nil)))))

theorem followerBoundary_within {m : Mask}
    (hm : Mask.Le ⟨0x880, 0x18d000000000000, 0x800000000100000000000000000000000000000⟩ m) {c : Nat} :
    Eff.Within tables m (@followerBoundary c) := by
  unfold followerBoundary
  exact (Within.look (fun _ => (Within.cons (Within.when (Within.cons (Within.setN (hm.obj (by decide +kernel))) (Within.cons
    (setRingSize_within (hm.via rfl rfl rfl)) (Within.cons (Within.setN (hm.obj (by decide +kernel))) (Within.cons (Within.upd
    (hm.parts' [.ring] (by decide +kernel))) Within.nil))))) (Within.cons (Within.look (fun _ => (Within.cons (Within.when
    (Within.setN (hm.obj (by decide +kernel)))) (Within.cons (Within.when (Within.cons (raise_within (hm.via rfl rfl rfl))
    (Within.cons (setRingState_within (hm.via rfl rfl rfl)) Within.nil))) Within.nil)))) (Within.cons (Within.look (fun _ =>
    (Within.upd (hm.parts' [.ring] (by decide +kernel))))) Within.nil)))))

theorem lapseAtFollower_within {m : Mask} (hm : Mask.Le ⟨0x880, 0x0, 0x100000000100000000000000000000000000000⟩ m) {c : Nat} :
    Eff.Within tables m (@lapseAtFollower c) := by
  unfold lapseAtFollower
  exact (Within.look (fun _ =>
    (by (try dsimp only); split; exacts [(Within.ite (Within.cons (raise_within (hm.via rfl rfl rfl)) (Within.cons (Within.count (hm.ctr (by decide +kernel))) (Within.cons (Within.upd (hm.parts' [.ring] (by decide +kernel))) Within.nil))) Within.skip),
    Within.skip])))

theorem linkDelays_within {m : Mask} (hm : Mask.Le ⟨0x880, 0x7000000, 0x100000000000000000000000000000⟩ m) {now : Nat} :
    Eff.Within tables m (@linkDelays now) := by
  unfold linkDelays
  exact (Within.whenS (Within.look (fun _ => (Within.cons
    (by (try dsimp only); split; exacts [(Within.ite (Within.cons (Within.setObj (hm.obj (by decide +kernel))) (Within.cons (Within.upd (hm.parts' [.ring] (by decide +kernel))) (Within.cons (Within.when (raise_within (hm.via rfl rfl rfl))) Within.nil))) Within.skip),
    Within.skip]) (Within.cons (Within.when (Within.seq (Within.setObj (hm.obj (by decide +kernel))) (Within.upd
    (hm.parts' [.ring] (by decide +kernel))))) (Within.cons (Within.setN (hm.obj (by decide +kernel))) Within.nil))))))

theorem fixWitness_within {m : Mask} (hm : Mask.Le ⟨0x800, 0x0, 0x0⟩ m) {c : Nat} :
    Eff.Within tables m (@fixWitness c) := by
  unfold fixWitness
  exact (Within.upd (hm.parts' [.ring] (by decide +kernel)))

theorem stopLaunching_within {m : Mask} (hm : Mask.Le ⟨0xa80, 0x2010018004c0000, 0x100000000000000000000000000000⟩ m) :
    Eff.Within tables m stopLaunching := by
  unfold stopLaunching
  exact (Within.cons (Within.whenS (Within.seq (enterRing_within (hm.via rfl rfl rfl)) (sourceChanged_within
    (hm.via rfl rfl rfl)))) (Within.cons (Within.upd (hm.parts' [.ring] (by decide +kernel))) (Within.cons (Within.setN
    (hm.obj (by decide +kernel))) Within.nil)))

theorem countCycle_within {m : Mask} (hm : Mask.Le ⟨0x800, 0x0, 0x0⟩ m) :
    Eff.Within tables m countCycle := by
  unfold countCycle
  exact (Within.look (fun _ => (Within.upd (hm.parts' [.ring] (by decide +kernel)))))

theorem newCycle_within {m : Mask} (hm : Mask.Le ⟨0x800, 0x0, 0x0⟩ m) :
    Eff.Within tables m newCycle := by
  unfold newCycle
  exact (Within.upd (hm.parts' [.ring] (by decide +kernel)))

theorem ringBoundary_within {m : Mask}
    (hm : Mask.Le ⟨0x2988fea0, 0x1e002000000000000000000000001800737938f0018274c0010, 0x200020000000000000000096060001f100000000000000060800008000100⟩ m) {c : Nat} :
    Eff.Within tables m (@ringBoundary c) := by
  unfold ringBoundary
  exact (Within.look (fun _ => (Within.ite Within.skip (Within.cons (commitViews_within (hm.via rfl rfl rfl)) (Within.cons
    (Within.look (fun _ => (Within.ite (masterBoundary_within (hm.via rfl rfl rfl)) (Within.when (Within.seq
    (followerBoundary_within (hm.via rfl rfl rfl)) (lapseAtFollower_within (hm.via rfl rfl rfl))))))) (Within.cons
    (linkDelays_within (hm.via rfl rfl rfl)) (Within.cons (fixWitness_within (hm.via rfl rfl rfl)) (Within.cons (Within.whenS
    (stopLaunching_within (hm.via rfl rfl rfl))) (Within.cons (Within.whenS (Within.cons (Within.whenS (Within.seq
    (enterRing_within (hm.via rfl rfl rfl)) (sourceChanged_within (hm.via rfl rfl rfl)))) (Within.cons (enterRing_within
    (hm.via rfl rfl rfl)) (Within.cons (Within.upd (hm.parts' [.ring] (by decide +kernel))) Within.nil)))) (Within.cons
    (countCycle_within (hm.via rfl rfl rfl)) (Within.cons (newCycle_within (hm.via rfl rfl rfl)) Within.nil)))))))))))

theorem startListening_within {m : Mask} (hm : Mask.Le ⟨0x800, 0x0, 0x0⟩ m) :
    Eff.Within tables m startListening := by
  unfold startListening
  exact (Within.upd (hm.parts' [.ring] (by decide +kernel)))

theorem ringDisableAct_within {m : Mask} (hm : Mask.Le ⟨0x800, 0x0, 0x0⟩ m) :
    Eff.Within tables m ringDisableAct := by
  unfold ringDisableAct
  exact (Within.whenS (Within.upd (hm.parts' [.ring] (by decide +kernel))))

theorem becomeMaster_within {m : Mask} (hm : Mask.Le ⟨0xa80, 0xf0018004c0000, 0x100000000100000000000000000000000000000⟩ m) :
    Eff.Within tables m becomeMaster := by
  unfold becomeMaster
  exact (Within.cons (Within.whenS (Within.seq (raise_within (hm.via rfl rfl rfl)) (Within.count (hm.ctr (by decide +kernel)))))
    (Within.cons (setRingState_within (hm.via rfl rfl rfl)) (Within.cons (Within.setN (hm.obj (by decide +kernel)))
    (Within.cons (Within.look (fun _ => (Within.seq (Within.setN (hm.obj (by decide +kernel))) (Within.when (Within.setN
    (hm.obj (by decide +kernel))))))) (Within.cons (Within.upd (hm.parts' [.ring] (by decide +kernel))) (Within.cons
    (sourceChanged_within (hm.via rfl rfl rfl)) Within.nil))))))

theorem listenExpires_within {m : Mask}
    (hm : Mask.Le ⟨0x80a80, 0x20000000000000000000000000000000010f0018004c0000, 0x100000000100000000000000000000000000000⟩ m) :
    Eff.Within tables m listenExpires := by
  unfold listenExpires
  exact (Within.look (fun _ => (Within.ite Within.skip (Within.ite (Within.cons (startListening_within (hm.via rfl rfl rfl))
    (Within.cons (Within.when (Within.seq (Within.upd (hm.parts' [.twin] (by decide +kernel))) (Within.setN
    (hm.obj (by decide +kernel))))) Within.nil)) (Within.ite (Within.cons (becomeMaster_within (hm.via rfl rfl rfl))
    (Within.cons (Within.setN (hm.obj (by decide +kernel))) (Within.cons (Within.upd
    (hm.parts' [.ring] (by decide +kernel))) Within.nil))) (startListening_within (hm.via rfl rfl rfl)))))))

theorem ringLossAct_within {m : Mask} (hm : Mask.Le ⟨0x880, 0x1000000000000, 0x100000000000000000000000000000⟩ m) :
    Eff.Within tables m ringLossAct := by
  unfold ringLossAct
  exact (Within.whenS (Within.cons (raise_within (hm.via rfl rfl rfl)) (Within.cons (startListening_within (hm.via rfl rfl rfl))
    (Within.cons (setRingState_within (hm.via rfl rfl rfl)) Within.nil))))

theorem nodeLeftAct_within {m : Mask}
    (hm : Mask.Le ⟨0x880, 0x100000000000000, 0x80000000100000000000000000000000000000⟩ m) {name : Nat} :
    Eff.Within tables m (@nodeLeftAct name) := by
  unfold nodeLeftAct
  exact (Within.look (fun _ => (Within.when (Within.cons (Within.upd (hm.parts' [.ring] (by decide +kernel))) (Within.cons
    (raise_within (hm.via rfl rfl rfl)) (Within.cons (Within.count (hm.ctr (by decide +kernel))) (Within.cons (Within.look
    (fun _ => (Within.setN (hm.obj (by decide +kernel))))) Within.nil)))))))

theorem missingAct_within {m : Mask}
    (hm : Mask.Le ⟨0x2988f6a0, 0x1e0020000000000000000000000018007360000001020000010, 0x200020000000000000000000000001f100000000000000060800008000100⟩ m) {round : Nat} {direction : Nat} :
    Eff.Within tables m (@missingAct round direction) := by
  unfold missingAct
  exact (Within.look (fun _ => (Within.when (faultEvent_within (hm.via rfl rfl rfl)))))

theorem showWrap_within {m : Mask} (hm : Mask.Le ⟨0x0, 0x40000000000000, 0x0⟩ m) :
    Eff.Within tables m showWrap := by
  unfold showWrap
  exact (Within.look (fun _ => (Within.setN (hm.obj (by decide +kernel)))))

theorem forgetPairs_within {m : Mask} (hm : Mask.Le ⟨0x800, 0x0, 0x0⟩ m) {west : Bool} :
    Eff.Within tables m (@forgetPairs west) := by
  unfold forgetPairs
  exact (Within.upd (hm.parts' [.ring] (by decide +kernel)))

theorem loseLane_within {m : Mask}
    (hm : Mask.Le ⟨0x880, 0x40000000000000, 0x1000000100000000000000000000000000000⟩ m) {lane : Nat} :
    Eff.Within tables m (@loseLane lane) := by
  unfold loseLane
  exact (Within.look (fun _ => (Within.ite Within.skip (Within.ite (setLane_within (hm.via rfl rfl rfl)) (Within.ite
    (setLane_within (hm.via rfl rfl rfl)) (Within.cons (setLane_within (hm.via rfl rfl rfl)) (Within.cons (forgetPairs_within
    (hm.via rfl rfl rfl)) (Within.cons (showWrap_within (hm.via rfl rfl rfl)) (Within.cons (raise_within (hm.via rfl rfl rfl))
    (Within.cons (Within.count (hm.ctr (by decide +kernel))) Within.nil))))))))))

theorem laneLock_within {m : Mask} (hm : Mask.Le ⟨0x800, 0x0, 0x0⟩ m) {lane : Nat} {locked : Bool} :
    Eff.Within tables m (@laneLock lane locked) := by
  unfold laneLock
  exact (Within.whenS (Within.look (fun _ => (setLane_within (hm.via rfl rfl rfl)))))

theorem laneFails_within {m : Mask}
    (hm : Mask.Le ⟨0x880, 0x40000000000000, 0x1000000100000000000000000000000000000⟩ m) {lane : Nat} :
    Eff.Within tables m (@laneFails lane) := by
  unfold laneFails
  exact (Within.seq (laneLock_within (hm.via rfl rfl rfl)) (loseLane_within (hm.via rfl rfl rfl)))

theorem ringEnableAct_within {m : Mask} (hm : Mask.Le ⟨0x880, 0x41000000000000, 0x1000000100000000000000000000000000000⟩ m) :
    Eff.Within tables m ringEnableAct := by
  unfold ringEnableAct
  exact (Within.look (fun _ => (Within.cons (Within.upd (hm.parts' [.ring] (by decide +kernel))) (Within.cons (Within.when
    (Within.cons (startListening_within (hm.via rfl rfl rfl)) (Within.cons (enterRing_within (hm.via rfl rfl rfl)) (Within.cons
    (Within.forEach (fun _ => (Within.whenS (loseLane_within (hm.via rfl rfl rfl))))) Within.nil)))) Within.nil))))

theorem roundsLost_within {m : Mask}
    (hm : Mask.Le ⟨0x880, 0x40000000000000, 0x1000000100000000000000000000000000000⟩ m) {lane : Nat} :
    Eff.Within tables m (@roundsLost lane) := by
  unfold roundsLost
  exact (Within.whenS (loseLane_within (hm.via rfl rfl rfl)))

theorem offWrap_within {m : Mask} (hm : Mask.Le ⟨0x0, 0x0, 0x0⟩ m) {p : Nat} {e : Eff} (h_e : Eff.Within tables m e) :
    Eff.Within tables m (@offWrap p e) := by
  unfold offWrap
  exact (Within.whenS h_e)

theorem restoreLane_within {m : Mask} (hm : Mask.Le ⟨0x800, 0x0, 0x0⟩ m) {lane : Nat} :
    Eff.Within tables m (@restoreLane lane) := by
  unfold restoreLane
  exact (Within.look (fun _ => (Within.when (setLane_within (hm.via rfl rfl rfl)))))

theorem releaseLane_within {m : Mask} (hm : Mask.Le ⟨0x880, 0x0, 0x100000000000000000000000000000⟩ m) {west : Bool} :
    Eff.Within tables m (@releaseLane west) := by
  unfold releaseLane
  exact (Within.whenS (Within.seq (setLane_within (hm.via rfl rfl rfl)) (raise_within (hm.via rfl rfl rfl))))

theorem releaseWrap_within {m : Mask} (hm : Mask.Le ⟨0x880, 0x40000000000000, 0x100000000000000000000000000000⟩ m) :
    Eff.Within tables m releaseWrap := by
  unfold releaseWrap
  exact (Within.whenS (Within.cons (Within.upd (hm.parts' [.ring] (by decide +kernel))) (Within.cons (releaseLane_within
    (hm.via rfl rfl rfl)) (Within.cons (releaseLane_within (hm.via rfl rfl rfl)) (Within.cons (showWrap_within
    (hm.via rfl rfl rfl)) Within.nil)))))

theorem swapLanes_within {m : Mask} (hm : Mask.Le ⟨0x880, 0x40c00000000000, 0x1000000000100000000000000000000000000000⟩ m) :
    Eff.Within tables m swapLanes := by
  unfold swapLanes
  exact (Within.look (fun _ => (Within.when (Within.cons (Within.setN (hm.obj (by decide +kernel))) (Within.cons (Within.setN
    (hm.obj (by decide +kernel))) (Within.cons (Within.upd (hm.parts' [.ring] (by decide +kernel))) (Within.cons
    (showWrap_within (hm.via rfl rfl rfl)) (Within.cons (raise_within (hm.via rfl rfl rfl)) (Within.cons (Within.count
    (hm.ctr (by decide +kernel))) Within.nil)))))))))

theorem requestGoAct_within {m : Mask} (hm : Mask.Le ⟨0x880, 0x600000000000000, 0x100000000000000000000000000000⟩ m) :
    Eff.Within tables m requestGoAct := by
  unfold requestGoAct
  exact (Within.look (fun _ => (Within.cons (Within.upd (hm.parts' [.ring] (by decide +kernel))) (Within.cons (Within.setN
    (hm.obj (by decide +kernel))) (Within.cons (Within.setN (hm.obj (by decide +kernel))) (Within.cons (raise_within
    (hm.via rfl rfl rfl)) Within.nil))))))

theorem evaluateRequest_within {m : Mask}
    (hm : Mask.Le ⟨0x8000880, 0xa00000000000000, 0x100000000100000000000000060000000000000⟩ m) :
    Eff.Within tables m evaluateRequest := by
  unfold evaluateRequest
  exact (Within.look (fun _ =>
    (by (try dsimp only); split; exacts [(Within.ite Within.skip (Within.seq (Within.setN (hm.obj (by decide +kernel))) (Within.ite (Within.seq (Within.upd (hm.parts' [.ring] (by decide +kernel))) (wakeBefore_within (hm.via rfl rfl rfl))) (Within.cons (Within.upd (hm.parts' [.ring] (by decide +kernel))) (Within.cons (Within.setN (hm.obj (by decide +kernel))) (Within.cons (raise_within (hm.via rfl rfl rfl)) (Within.cons (Within.count (hm.ctr (by decide +kernel))) Within.nil))))))),
    Within.skip])))

theorem switchMode_within {μ : Mask} (hm : Mask.Le ⟨0x801, 0x10000000000000, 0x0⟩ μ) {m : Nat} :
    Eff.Within tables μ (@switchMode m) := by
  unfold switchMode
  exact (Within.look (fun _ => (Within.cons (Within.setN (hm.obj (by decide +kernel))) (Within.cons (Within.upd
    (hm.parts' [.dict] (by decide +kernel))) (Within.cons (Within.upd (hm.parts' [.ring] (by decide +kernel))) Within.nil)))))

theorem execRoundFrameVerified_effect {lane : Nat} {s : State} : ∃ e, @execRoundFrameVerified lane s = done e s ∧ Eff.Within tables ⟨0x2d98fea0, 0x1e02e00000000000000000000000180073660010018207c0010, 0x21003e000000000000000240c9cc01f100000000000000060800008000100⟩ e :=
  have hm := Mask.Le.refl ⟨0x2d98fea0, 0x1e02e00000000000000000000000180073660010018207c0010, 0x21003e000000000000000240c9cc01f100000000000000060800008000100⟩
  ⟨_, rfl, (operating_within (hm.via rfl rfl rfl) (verifyNext_within (hm.via rfl rfl rfl)))⟩

theorem execRoundFrameMissing_effect {round : Nat} {direction : Nat} {s : State} : ∃ e, @execRoundFrameMissing round direction s = done e s ∧ Eff.Within tables ⟨0x2988f6a0, 0x1e0020000000000000000000000018007360000001020000010, 0x200020000000000000000000000001f100000000000000060800008000100⟩ e :=
  have hm := Mask.Le.refl ⟨0x2988f6a0, 0x1e0020000000000000000000000018007360000001020000010, 0x200020000000000000000000000001f100000000000000060800008000100⟩
  ⟨_, rfl, (missingAct_within (hm.via rfl rfl rfl))⟩

theorem execListenTimerExpiry_effect {s : State} : ∃ e, @execListenTimerExpiry s = done e s ∧ Eff.Within tables ⟨0x80a80, 0x20000000000000000000000000000000010f0018004c0000, 0x100000000100000000000000000000000000000⟩ e :=
  have hm := Mask.Le.refl ⟨0x80a80, 0x20000000000000000000000000000000010f0018004c0000, 0x100000000100000000000000000000000000000⟩
  ⟨_, rfl, (listenExpires_within (hm.via rfl rfl rfl))⟩

theorem execRingLoss_effect {s : State} : ∃ e, @execRingLoss s = done e s ∧ Eff.Within tables ⟨0x880, 0x1000000000000, 0x100000000000000000000000000000⟩ e :=
  have hm := Mask.Le.refl ⟨0x880, 0x1000000000000, 0x100000000000000000000000000000⟩
  ⟨_, rfl, (ringLossAct_within (hm.via rfl rfl rfl))⟩

theorem execNodeLeft_effect {name : Nat} {s : State} : ∃ e, @execNodeLeft name s = done e s ∧ Eff.Within tables ⟨0x880, 0x100000000000000, 0x80000000100000000000000000000000000000⟩ e :=
  have hm := Mask.Le.refl ⟨0x880, 0x100000000000000, 0x80000000100000000000000000000000000000⟩
  ⟨_, rfl, (nodeLeftAct_within (hm.via rfl rfl rfl))⟩

theorem execLaneLost_effect {lane : Nat} {s : State} : ∃ e, @execLaneLost lane s = done e s ∧ Eff.Within tables ⟨0x880, 0x40000000000000, 0x1000000100000000000000000000000000000⟩ e :=
  have hm := Mask.Le.refl ⟨0x880, 0x40000000000000, 0x1000000100000000000000000000000000000⟩
  ⟨_, rfl, (laneFails_within (hm.via rfl rfl rfl))⟩

theorem execRoundLoss_effect {lane : Nat} {s : State} : ∃ e, @execRoundLoss lane s = done e s ∧ Eff.Within tables ⟨0x880, 0x40000000000000, 0x1000000100000000000000000000000000000⟩ e :=
  have hm := Mask.Le.refl ⟨0x880, 0x40000000000000, 0x1000000100000000000000000000000000000⟩
  ⟨_, rfl, (roundsLost_within (hm.via rfl rfl rfl))⟩

theorem execWrapRestoreHoldoff_effect {lane : Nat} {s : State} : ∃ e, @execWrapRestoreHoldoff lane s = done e s ∧ Eff.Within tables ⟨0x800, 0x0, 0x0⟩ e :=
  have hm := Mask.Le.refl ⟨0x800, 0x0, 0x0⟩
  ⟨_, rfl, (restoreLane_within (hm.via rfl rfl rfl))⟩

theorem execWrapRelease_effect {s : State} : ∃ e, @execWrapRelease s = done e s ∧ Eff.Within tables ⟨0x880, 0x40000000000000, 0x100000000000000000000000000000⟩ e :=
  have hm := Mask.Le.refl ⟨0x880, 0x40000000000000, 0x100000000000000000000000000000⟩
  ⟨_, rfl, (releaseWrap_within (hm.via rfl rfl rfl))⟩

theorem execLanesCrossed_effect {s : State} : ∃ e, @execLanesCrossed s = done e s ∧ Eff.Within tables ⟨0x880, 0x40c00000000000, 0x1000000000100000000000000000000000000000⟩ e :=
  have hm := Mask.Le.refl ⟨0x880, 0x40c00000000000, 0x1000000000100000000000000000000000000000⟩
  ⟨_, rfl, (swapLanes_within (hm.via rfl rfl rfl))⟩

theorem execModeRequestEvaluation_effect {s : State} : ∃ e, @execModeRequestEvaluation s = done e s ∧ Eff.Within tables ⟨0x8000880, 0xa00000000000000, 0x100000000100000000000000060000000000000⟩ e :=
  have hm := Mask.Le.refl ⟨0x8000880, 0xa00000000000000, 0x100000000100000000000000060000000000000⟩
  ⟨_, rfl, (evaluateRequest_within (hm.via rfl rfl rfl))⟩

/-! ## HostQueues -/

theorem ringSet_within {m : Mask} (hm : Mask.Le ⟨0x18000, 0x0, 0x0⟩ m) {tx : Bool} {r : Nat} {f : HostRing → HostRing} :
    Eff.Within tables m (@ringSet tx r f) := by
  unfold ringSet
  exact (by split; exacts [(Within.upd (hm.parts' [.txRings] (by decide +kernel))),
    (Within.upd (hm.parts' [.rxRings] (by decide +kernel)))])

theorem hostWriteAs_within {m : Mask}
    (hm : Mask.Le ⟨0x20000000, 0x0, 0x30000000000000000000000000000000000000000⟩ m) {relaxed : Bool} {fn : Nat} {addr : Nat} {data : Bytes} :
    Eff.Within tables m (@hostWriteAs relaxed fn addr data) := by
  unfold hostWriteAs
  exact (Within.look (fun _ => (Within.when (Within.forEach (fun _ => (Within.cons (Within.count (hm.ctr (by decide +kernel)))
    (Within.cons (Within.count (hm.ctr (by decide +kernel))) (Within.cons (emit_within (hm.via rfl rfl rfl)) Within.nil))))))))

theorem hostWrite_within {m : Mask}
    (hm : Mask.Le ⟨0x20000000, 0x0, 0x30000000000000000000000000000000000000000⟩ m) {fn : Nat} {addr : Nat} {data : Bytes} :
    Eff.Within tables m (@hostWrite fn addr data) := by
  unfold hostWrite
  exact (hostWriteAs_within (hm.via rfl rfl rfl))

theorem hostWriteData_within {m : Mask}
    (hm : Mask.Le ⟨0x20000000, 0x0, 0x30000000000000000000000000000000000000000⟩ m) {fn : Nat} {addr : Nat} {data : Bytes} :
    Eff.Within tables m (@hostWriteData fn addr data) := by
  unfold hostWriteData
  exact (Within.look (fun _ => (hostWriteAs_within (hm.via rfl rfl rfl))))

theorem issueReads_within {m : Mask}
    (hm : Mask.Le ⟨0x20040000, 0x0, 0x50000000000000000000000000000000000000000⟩ m) {link : Nat} :
    Eff.Within tables m (@issueReads link) := by
  unfold issueReads
  exact (Within.look (fun _ => (Within.seq (Within.upd (hm.parts' [.functions] (by decide +kernel))) (Within.forEach (fun _ =>
    (Within.cons (Within.count (hm.ctr (by decide +kernel))) (Within.cons (Within.count (hm.ctr (by decide +kernel)))
    (Within.cons (emit_within (hm.via rfl rfl rfl)) Within.nil))))))))

theorem hostRead_within {m : Mask}
    (hm : Mask.Le ⟨0x20040000, 0x0, 0x50000000000000000000000000000000000000000⟩ m) {owner : ReadOwner} {fn : Nat} {addr : Nat} {len : Nat} :
    Eff.Within tables m (@hostRead owner fn addr len) := by
  unfold hostRead
  exact (Within.look (fun _ => (Within.when (Within.seq (Within.upd (hm.parts' [.functions] (by decide +kernel)))
    (issueReads_within (hm.via rfl rfl rfl))))))

theorem readsReturn_within {m : Mask}
    (hm : Mask.Le ⟨0x20040000, 0x0, 0x50000000000000000000000000000000000000000⟩ m) {owner : ReadOwner} {fn : Nat} {ranges : List
    (Nat × Nat)} :
    Eff.Within tables m (@readsReturn owner fn ranges) := by
  unfold readsReturn
  exact (Within.look (fun _ => (Within.seq (Within.upd (hm.parts' [.functions] (by decide +kernel))) (issueReads_within
    (hm.via rfl rfl rfl)))))

theorem dropWaitingReads_within {m : Mask} (hm : Mask.Le ⟨0x40000, 0x0, 0x0⟩ m) {owner : ReadOwner} :
    Eff.Within tables m (@dropWaitingReads owner) := by
  unfold dropWaitingReads
  exact (Within.upd (hm.parts' [.functions] (by decide +kernel)))

theorem dropReadsOf_within {m : Mask}
    (hm : Mask.Le ⟨0x20040000, 0x0, 0x50000000000000000000000000000000000000000⟩ m) {fn : Nat} :
    Eff.Within tables m (@dropReadsOf fn) := by
  unfold dropReadsOf
  exact (Within.seq (Within.upd (hm.parts' [.functions] (by decide +kernel))) (Within.look (fun _ => (issueReads_within
    (hm.via rfl rfl rfl)))))

theorem tlpReceived_within {m : Mask} (hm : Mask.Le ⟨0x0, 0x0, 0x4000000000000000000000000000000000000000⟩ m) :
    Eff.Within tables m tlpReceived := by
  unfold tlpReceived
  exact (Within.count (hm.ctr (by decide +kernel)))

theorem powered_within {m : Mask} (hm : Mask.Le ⟨0x0, 0x0, 0x0⟩ m) {e : Eff} (h_e : Eff.Within tables m e) :
    Eff.Within tables m (@powered e) := by
  unfold powered
  exact (Within.whenS h_e)

theorem inD0_within {m : Mask} (hm : Mask.Le ⟨0x0, 0x0, 0x0⟩ m) {fn : State → Option Nat} {e : Eff}
    (h_e : Eff.Within tables m e) :
    Eff.Within tables m (@inD0 fn e) := by
  unfold inD0
  exact (Within.whenS h_e)

theorem atRing_within {m : Mask} (hm : Mask.Le ⟨0x0, 0x0, 0x0⟩ m) {tx : Bool} {r : Nat} {e : Eff}
    (h_e : Eff.Within tables m e) :
    Eff.Within tables m (@atRing tx r e) := by
  unfold atRing
  exact (inD0_within (hm.via rfl rfl rfl) h_e)

theorem atQueue_within {m : Mask} (hm : Mask.Le ⟨0x0, 0x0, 0x0⟩ m) {q : Nat} {e : Eff} (h_e : Eff.Within tables m e) :
    Eff.Within tables m (@atQueue q e) := by
  unfold atQueue
  exact (inD0_within (hm.via rfl rfl rfl) h_e)

theorem ringEvent_within {m : Mask}
    (hm : Mask.Le ⟨0x80, 0x0, 0x100000000000000000000000000000⟩ m) {tx : Bool} {r : Nat} {source : Nat} {arg : Nat} :
    Eff.Within tables m (@ringEvent tx r source arg) := by
  unfold ringEvent
  exact (Within.look (fun _ => (raiseFull_within (hm.via rfl rfl rfl))))

theorem sendMsix_within {m : Mask}
    (hm : Mask.Le ⟨0x20000000, 0x0, 0x100000030000000000000000000000000000000000000000⟩ m) {v : Nat} :
    Eff.Within tables m (@sendMsix v) := by
  unfold sendMsix
  exact (Within.whenS (Within.cons (Within.count (hm.ctr (by decide +kernel))) (Within.cons (Within.count
    (hm.ctr (by decide +kernel))) (Within.cons (Within.count (hm.ctr (by decide +kernel))) (Within.cons (emit_within
    (hm.via rfl rfl rfl)) Within.nil)))))

theorem signalQueue_within {m : Mask}
    (hm : Mask.Le ⟨0x20060000, 0x100000000000000000000000000000000000000000000, 0x100000030000000000000000000000000000000000000000⟩ m) {q : Nat} :
    Eff.Within tables m (@signalQueue q) := by
  unfold signalQueue
  exact (Within.look (fun _ => (Within.cons (Within.upd (hm.parts' [.queues] (by decide +kernel))) (Within.cons (Within.bumpObj
    (hm.obj (by decide +kernel))) (Within.cons (Within.ofOption (fun _ => (Within.ite (Within.upd
    (hm.parts' [.functions] (by decide +kernel))) (sendMsix_within (hm.via rfl rfl rfl))))) Within.nil)))))

theorem queueDrops_within {m : Mask}
    (hm : Mask.Le ⟨0x0, 0x40080000000000000000000000000000000000000000, 0x40000000000000000000000000000000000000000000000⟩ m) {q : Nat} :
    Eff.Within tables m (@queueDrops q) := by
  unfold queueDrops
  exact (Within.look (fun _ => (Within.cons (Within.count (hm.ctr (by decide +kernel))) (Within.cons (Within.bumpObj
    (hm.obj (by decide +kernel))) (Within.cons (Within.ofOption (fun _ => (Within.bumpObj
    (hm.obj (by decide +kernel))))) Within.nil)))))

theorem queueWrite_within {m : Mask}
    (hm : Mask.Le ⟨0x20060080, 0x1e0080000000000000000000000000000000000000000, 0x1e0000030000000000100000000000000000000000000000⟩ m) {q : Nat} {e : EventRecord} {immediate : Bool} :
    Eff.Within tables m (@queueWrite q e immediate) := by
  unfold queueWrite
  exact (Within.look (fun _ => (Within.ite Within.skip (Within.ite (queueDrops_within (hm.via rfl rfl rfl)) (Within.ite
    (Within.cons (Within.upd (hm.parts' [.queues] (by decide +kernel))) (Within.cons (Within.count
    (hm.ctr (by decide +kernel))) (Within.cons (Within.bumpObj (hm.obj (by decide +kernel))) (Within.cons (queueDrops_within
    (hm.via rfl rfl rfl)) (Within.cons (raise_within (hm.via rfl rfl rfl)) Within.nil))))) (Within.cons (Within.ofOption
    (fun _ => (hostWrite_within (hm.via rfl rfl rfl)))) (Within.cons (Within.upd (hm.parts' [.queues] (by decide +kernel)))
    (Within.cons (Within.count (hm.ctr (by decide +kernel))) (Within.cons (Within.bumpObj (hm.obj (by decide +kernel)))
    (Within.cons (Within.when (signalQueue_within (hm.via rfl rfl rfl))) Within.nil))))))))))

theorem ringFlag_within {m : Mask} (hm : Mask.Le ⟨0x18000, 0x0, 0x0⟩ m) {tx : Bool} {r : Nat} {bit : Nat} :
    Eff.Within tables m (@ringFlag tx r bit) := by
  unfold ringFlag
  exact (ringSet_within (hm.via rfl rfl rfl))

theorem ringState_within {m : Mask}
    (hm : Mask.Le ⟨0x18080, 0x0, 0x100000000000000000000000000000⟩ m) {tx : Bool} {r : Nat} {new : QueueState} :
    Eff.Within tables m (@ringState tx r new) := by
  unfold ringState
  exact (Within.whenS (Within.seq (ringSet_within (hm.via rfl rfl rfl)) (ringEvent_within (hm.via rfl rfl rfl))))

theorem writeEntry_within {m : Mask}
    (hm : Mask.Le ⟨0x20000000, 0x0, 0x30000000000000000000000000000000000000000⟩ m) {tx : Bool} {r : Nat} {pos : Nat} {bs : Bytes} :
    Eff.Within tables m (@writeEntry tx r pos bs) := by
  unfold writeEntry
  exact (Within.look (fun _ => (Within.ofOption (fun _ => (Within.ite (Within.seq (hostWrite_within (hm.via rfl rfl rfl))
    (hostWrite_within (hm.via rfl rfl rfl))) (hostWrite_within (hm.via rfl rfl rfl)))))))

theorem announce_within {m : Mask}
    (hm : Mask.Le ⟨0x18080, 0x0, 0x100000000000000000000000000000⟩ m) {tx : Bool} {r : Nat} {flagged : Bool} {lastRx : Bool} :
    Eff.Within tables m (@announce tx r flagged lastRx) := by
  unfold announce
  exact (Within.look (fun _ => (Within.ite (Within.seq (ringSet_within (hm.via rfl rfl rfl)) (ringEvent_within
    (hm.via rfl rfl rfl))) (ringSet_within (hm.via rfl rfl rfl)))))

theorem completeEntry_within {m : Mask}
    (hm : Mask.Le ⟨0x30018080, 0x0, 0x60030000000000100000000000000000000000000000⟩ m) {tx : Bool} {r : Nat} {pos : Nat} {bs : Bytes} {flagged : Bool} {lastRx : Bool} :
    Eff.Within tables m (@completeEntry tx r pos bs flagged lastRx) := by
  unfold completeEntry
  exact (Within.look (fun _ => (Within.cons (Within.ite (withFree_within (hm.via rfl rfl rfl) (fun _ => (writeEntry_within
    (hm.via rfl rfl rfl)))) (writeEntry_within (hm.via rfl rfl rfl))) (Within.cons (ringSet_within (hm.via rfl rfl rfl))
    (Within.cons (by (repeat' split) <;> exact Within.count (hm.ctr (by decide +kernel))) (Within.cons (announce_within
    (hm.via rfl rfl rfl)) Within.nil))))))

theorem countTx_within {m : Mask}
    (hm : Mask.Le ⟨0x0, 0x1f00000000000000000000000000000000000000000, 0x3f80000000000000000000000000000000000000000000⟩ m) {r : Nat} {f : TxFrame} :
    Eff.Within tables m (@countTx r f) := by
  unfold countTx
  exact (Within.ite (Within.seq (Within.count (hm.ctr (by decide +kernel))) (Within.seq (Within.bumpObj
    (hm.obj (by decide +kernel))) (Within.bumpObj (hm.obj (by decide +kernel))))) (Within.ite (Within.cons (Within.count
    (hm.ctr (by decide +kernel))) (Within.cons (Within.seq (Within.bumpObj (hm.obj (by decide +kernel))) (Within.bumpObj
    (hm.obj (by decide +kernel)))) (Within.cons (Within.bumpObj (hm.obj (by decide +kernel))) Within.nil))) (Within.ite
    (Within.seq (Within.count (hm.ctr (by decide +kernel))) (Within.bumpObj (hm.obj (by decide +kernel)))) (Within.ite
    (Within.seq (Within.count (hm.ctr (by decide +kernel))) (Within.bumpObj (hm.obj (by decide +kernel)))) (Within.ite
    (Within.seq (Within.count (hm.ctr (by decide +kernel))) (Within.bumpObj (hm.obj (by decide +kernel)))) (Within.ite
    (Within.seq (Within.count (hm.ctr (by decide +kernel))) (Within.bumpObj (hm.obj (by decide +kernel)))) (Within.seq
    (Within.count (hm.ctr (by decide +kernel))) (Within.bumpObj (hm.obj (by decide +kernel))))))))))

theorem completeTx_within {m : Mask}
    (hm : Mask.Le ⟨0x30018080, 0x1f00000000000000000000000000000000000000000, 0x3fe0030000000000100000000000000000000000000000⟩ m) {r : Nat} {f : TxFrame} :
    Eff.Within tables m (@completeTx r f) := by
  unfold completeTx
  exact (Within.seq (Within.ite Within.skip (countTx_within (hm.via rfl rfl rfl))) (Within.forEach (fun _ => (Within.look
    (fun _ => (completeEntry_within (hm.via rfl rfl rfl)))))))

theorem flushTx_within {m : Mask}
    (hm : Mask.Le ⟨0x30018080, 0x1f00000000000000000000000000000000000000000, 0x3fe0030000000000100000000000000000000000000000⟩ m) {r : Nat} :
    Eff.Within tables m (@flushTx r) := by
  unfold flushTx
  exact (Within.look (fun _ => (Within.seq (ringSet_within (hm.via rfl rfl rfl)) (Within.forEach (fun _ => (completeTx_within
    (hm.via rfl rfl rfl)))))))

theorem flushRxNoops_within {m : Mask}
    (hm : Mask.Le ⟨0x30018080, 0x0, 0x60030000000000100000000000000000000000000000⟩ m) {r : Nat} :
    Eff.Within tables m (@flushRxNoops r) := by
  unfold flushRxNoops
  exact (Within.look (fun _ => (Within.seq (ringSet_within (hm.via rfl rfl rfl)) (Within.forEach (fun _ => (completeEntry_within
    (hm.via rfl rfl rfl)))))))

theorem writeParts_within {m : Mask}
    (hm : Mask.Le ⟨0x20000000, 0x0, 0x30000000000000000000000000000000000000000⟩ m) {r : Nat} {parts : List RxPart} :
    Eff.Within tables m (@writeParts r parts) := by
  unfold writeParts
  exact (Within.look (fun _ => (Within.ofOption (fun _ => (Within.forEach (fun _ => (Within.when (hostWriteData_within
    (hm.via rfl rfl rfl)))))))))

theorem writeAhead_within {m : Mask}
    (hm : Mask.Le ⟨0x20000000, 0x0, 0x30000000000000000000000000000000000000000⟩ m) {r : Nat} {data : Bytes} :
    Eff.Within tables m (@writeAhead r data) := by
  unfold writeAhead
  exact (Within.look (fun _ => (Within.when (writeParts_within (hm.via rfl rfl rfl)))))

theorem deliver_within {m : Mask}
    (hm : Mask.Le ⟨0x30018080, 0x3000000000001e000000000000000000000000000000000000000000, 0x1600000000000000001c060038000000000100000000000000000000000000000⟩ m) {r : Nat} {data : Bytes} {i : RxInfo} :
    Eff.Within tables m (@deliver r data i) := by
  unfold deliver
  exact (Within.look (fun _ => (Within.ite (Within.count (hm.ctr (by decide +kernel))) (Within.ite (Within.cons (Within.count
    (hm.ctr (by decide +kernel))) (Within.cons (ringFlag_within (hm.via rfl rfl rfl)) (Within.cons (Within.bumpObj
    (hm.obj (by decide +kernel))) (Within.cons (raiseOncePerCycle_within (hm.via rfl rfl rfl) (ringEvent_within
    (hm.via rfl rfl rfl))) Within.nil)))) (Within.cons (writeParts_within (hm.via rfl rfl rfl)) (Within.cons (ringSet_within
    (hm.via rfl rfl rfl)) (Within.cons (Within.bumpObj (hm.obj (by decide +kernel))) (Within.cons (Within.bumpObj
    (hm.obj (by decide +kernel))) (Within.cons (Within.ite (Within.seq (Within.count (hm.ctr (by decide +kernel)))
    (Within.bumpObj (hm.obj (by decide +kernel)))) (Within.count (Ctr.anyPcie (hm.ctr (by decide +kernel))))) (Within.cons
    (Within.forEach (fun _ => (Within.look (fun _ => (completeEntry_within (hm.via rfl rfl rfl)))))) (Within.cons
    (withFree_within (hm.via rfl rfl rfl) (fun _ => (sample_within (hm.via rfl rfl rfl)))) (Within.cons (flushRxNoops_within
    (hm.via rfl rfl rfl)) Within.nil))))))))))))

theorem withdrawFrames_within {m : Mask} (hm : Mask.Le ⟨0x3000, 0x0, 0x0⟩ m) {r : Nat} {kept : List Nat} :
    Eff.Within tables m (@withdrawFrames r kept) := by
  unfold withdrawFrames
  exact (Within.look (fun _ => (Within.seq (Within.upd (hm.parts' [.traffic] (by decide +kernel))) (Within.forEach (fun _ =>
    (Within.upd (hm.parts' [.segments] (by decide +kernel))))))))

theorem abortCovered_within {m : Mask}
    (hm : Mask.Le ⟨0x30018080, 0x0, 0x60030000000000100000000000000000000000000000⟩ m) {tx : Bool} {r : Nat} :
    Eff.Within tables m (@abortCovered tx r) := by
  unfold abortCovered
  exact (Within.look (fun _ => (Within.when (Within.forEach (fun _ => (withFree_within (hm.via rfl rfl rfl) (fun _ =>
    (Within.look (fun _ => (Within.seq (ringSet_within (hm.via rfl rfl rfl)) (Within.ite (ringSet_within (hm.via rfl rfl rfl))
    (completeEntry_within (hm.via rfl rfl rfl)))))))))))))

theorem drainRing_within {m : Mask}
    (hm : Mask.Le ⟨0x3005b080, 0x1f00000000000000000000000000000000000000000, 0x3fe0030000000000100000000000000000000000000000⟩ m) {tx : Bool} {r : Nat} :
    Eff.Within tables m (@drainRing tx r) := by
  unfold drainRing
  exact (Within.seq (ringState_within (hm.via rfl rfl rfl)) (Within.ite (Within.cons (Within.look (fun _ =>
    (withdrawFrames_within (hm.via rfl rfl rfl)))) (Within.cons (Within.look (fun _ => (ringSet_within (hm.via rfl rfl rfl))))
    (Within.cons (dropWaitingReads_within (hm.via rfl rfl rfl)) (Within.cons (dropWaitingReads_within (hm.via rfl rfl rfl))
    (Within.cons (abortCovered_within (hm.via rfl rfl rfl)) (Within.cons (flushTx_within (hm.via rfl rfl rfl)) Within.nil))))))
    (Within.look (fun _ => (Within.cons (ringSet_within (hm.via rfl rfl rfl)) (Within.cons (dropWaitingReads_within
    (hm.via rfl rfl rfl)) (Within.cons (Within.forEach (fun _ => (Within.look (fun _ => (completeEntry_within
    (hm.via rfl rfl rfl)))))) (Within.cons (abortCovered_within (hm.via rfl rfl rfl)) Within.nil))))))))

theorem disableRing_within {m : Mask}
    (hm : Mask.Le ⟨0x3005b080, 0x1f00000000000000000000000000000000000000000, 0x3fe0030000000000100000000000000000000000000000⟩ m) {tx : Bool} {r : Nat} :
    Eff.Within tables m (@disableRing tx r) := by
  unfold disableRing
  exact (Within.look (fun _ => (by (try dsimp only); split; exacts [(drainRing_within (hm.via rfl rfl rfl)),
    (ringState_within (hm.via rfl rfl rfl)), Within.skip])))

theorem resetRing_within {m : Mask}
    (hm : Mask.Le ⟨0x1b080, 0x0, 0x40000000000000000000100000000000000000000000000000⟩ m) {tx : Bool} {r : Nat} :
    Eff.Within tables m (@resetRing tx r) := by
  unfold resetRing
  exact (Within.look (fun _ => (Within.cons (Within.countN (hm.ctr (by decide +kernel))) (Within.cons (Within.when
    (withdrawFrames_within (hm.via rfl rfl rfl))) (Within.cons (ringSet_within (hm.via rfl rfl rfl)) (Within.cons
    (ringState_within (hm.via rfl rfl rfl)) Within.nil))))))

theorem resetRingsOf_within {m : Mask}
    (hm : Mask.Le ⟨0x1b080, 0x0, 0x40000000000000000000100000000000000000000000000000⟩ m) {fn : Nat} :
    Eff.Within tables m (@resetRingsOf fn) := by
  unfold resetRingsOf
  exact (Within.look (fun _ => (Within.seq (Within.forEach (fun _ => (resetRing_within (hm.via rfl rfl rfl)))) (Within.forEach
    (fun _ => (resetRing_within (hm.via rfl rfl rfl)))))))

theorem readEntries_within {m : Mask}
    (hm : Mask.Le ⟨0x20040000, 0x0, 0x50000000000000000000000000000000000000000⟩ m) {tx : Bool} {r : Nat} {pos : Nat} {len : Nat} :
    Eff.Within tables m (@readEntries tx r pos len) := by
  unfold readEntries
  exact (Within.look (fun _ => (Within.ofOption (fun _ => (Within.seq (Within.when (hostRead_within (hm.via rfl rfl rfl)))
    (Within.when (hostRead_within (hm.via rfl rfl rfl))))))))

theorem fetchEntries_within {m : Mask}
    (hm : Mask.Le ⟨0x20058000, 0x0, 0x4050000000000000000000000000000000000000000⟩ m) {tx : Bool} {r : Nat} :
    Eff.Within tables m (@fetchEntries tx r) := by
  unfold fetchEntries
  exact (Within.look (fun _ => (Within.when (Within.cons (ringSet_within (hm.via rfl rfl rfl)) (Within.cons (Within.countN
    (hm.ctr (by decide +kernel))) (Within.cons (Within.ite (readEntries_within (hm.via rfl rfl rfl)) (Within.seq (Within.when
    (readEntries_within (hm.via rfl rfl rfl))) (Within.when (readEntries_within (hm.via rfl rfl rfl))))) Within.nil))))))

theorem useTx_within {m : Mask}
    (hm : Mask.Le ⟨0x30058080, 0x1f00000000000000000000000000000000000000000, 0x3fe0070000000000100000000000000000000000000000⟩ m) {r : Nat} {pos : Nat} {e : Bytes} {pushed : Bool} :
    Eff.Within tables m (@useTx r pos e pushed) := by
  unfold useTx
  exact (Within.look (fun _ => (Within.seq (ringSet_within (hm.via rfl rfl rfl)) (Within.ite (Within.seq (ringSet_within
    (hm.via rfl rfl rfl)) (flushTx_within (hm.via rfl rfl rfl))) (Within.cons (ringSet_within (hm.via rfl rfl rfl))
    (Within.cons (Within.when (Within.look (fun _ => (Within.seq (Within.forEach (fun _ => (Within.ofOption (fun _ =>
    (Within.forEach (fun _ => (hostRead_within (hm.via rfl rfl rfl)))))))) (ringSet_within
    (hm.via rfl rfl rfl)))))) Within.nil))))))

theorem useRx_within {m : Mask}
    (hm : Mask.Le ⟨0x30018080, 0x0, 0x60030000000000100000000000000000000000000000⟩ m) {r : Nat} {pos : Nat} {e : Bytes} :
    Eff.Within tables m (@useRx r pos e) := by
  unfold useRx
  exact (Within.seq (ringSet_within (hm.via rfl rfl rfl)) (flushRxNoops_within (hm.via rfl rfl rfl)))

theorem noteOutstanding_within {m : Mask} (hm : Mask.Le ⟨0x2000, 0x0, 0x0⟩ m) {tx : Bool} {r : Nat} :
    Eff.Within tables m (@noteOutstanding tx r) := by
  unfold noteOutstanding
  exact (Within.look (fun _ => (notePeak_within (hm.via rfl rfl rfl))))

theorem useEntry_within {m : Mask}
    (hm : Mask.Le ⟨0x3005a080, 0x1f00000000000000000000000000000000000000000, 0x3fe0070000000000100000000000000000000000000000⟩ m) {tx : Bool} {r : Nat} {pos : Nat} {e : Bytes} :
    Eff.Within tables m (@useEntry tx r pos e) := by
  unfold useEntry
  exact (Within.seq (Within.ite (useTx_within (hm.via rfl rfl rfl)) (useRx_within (hm.via rfl rfl rfl))) (noteOutstanding_within
    (hm.via rfl rfl rfl)))

theorem usePushes_within {m : Mask} (hm : Mask.Le ⟨0x3005a080, 0x1f00000000000000000000000000000000000000000, 0x3fe0070000000000100000000000000000000000000000⟩ m) {r n : Nat} :
    Eff.Within tables m (usePushes r n) := by
  induction n with
  | zero => exact Within.skip
  | succ n ih =>
    unfold usePushes
    exact Within.look fun _ => by
      dsimp only
      split
      · exact Within.cons (ringSet_within (hm.via rfl rfl rfl)) (Within.cons (useTx_within (hm.via rfl rfl rfl))
          (Within.cons (noteOutstanding_within (hm.via rfl rfl rfl)) (Within.cons ih Within.nil)))
      · exact Within.skip

theorem entryArrives_within {m : Mask}
    (hm : Mask.Le ⟨0x3005a080, 0x1f00000000000000000000000000000000000000000, 0x3ff8070000000000100000000000000000000000000000⟩ m) {tx : Bool} {r : Nat} {pos : Nat} {covered : Nat} {e : Bytes} :
    Eff.Within tables m (@entryArrives tx r pos covered e) := by
  unfold entryArrives
  exact (Within.look (fun _ => (Within.ite Within.skip (Within.ite (Within.seq (useEntry_within (hm.via rfl rfl rfl))
    (Within.when (Within.cons (Within.count (hm.ctr (by decide +kernel))) (Within.cons (ringFlag_within (hm.via rfl rfl rfl))
    (Within.cons (ringSet_within (hm.via rfl rfl rfl)) (Within.cons (ringEvent_within (hm.via rfl rfl rfl)) Within.nil))))))
    (Within.when (Within.seq (useEntry_within (hm.via rfl rfl rfl)) (Within.count (hm.ctr (by decide +kernel)))))))))

theorem entriesArrive_within {m : Mask} (hm : Mask.Le ⟨0x3005a080, 0x1f00000000000000000000000000000000000000000, 0x3ffa070000000000100000000000000000000000000000⟩ m) {tx : Bool} {r covered pos : Nat} {l : List Bytes} :
    Eff.Within tables m (entriesArrive tx r covered pos l) := by
  induction l generalizing pos with
  | nil => exact Within.skip
  | cons e es ih =>
    unfold entriesArrive
    exact Within.cons (Within.count (hm.ctr (by decide +kernel))) (Within.cons (Within.when (usePushes_within (hm.via rfl rfl rfl)))
      (Within.cons (entryArrives_within (hm.via rfl rfl rfl)) (Within.cons (Within.look fun _ => ih) Within.nil)))

theorem entryFetch_within {m : Mask}
    (hm : Mask.Le ⟨0x3005a080, 0x1f00000000000000000000000000000000000000000, 0x3ffa0f4000000000100000000000000000000000000000⟩ m) {tx : Bool} {r : Nat} {position : Nat} {covered : Nat} {entries : List Bytes} :
    Eff.Within tables m (@entryFetch tx r position covered entries) := by
  unfold entryFetch
  exact (Within.cons (tlpReceived_within (hm.via rfl rfl rfl)) (Within.cons (Within.count (hm.ctr (by decide +kernel)))
    (Within.cons (Within.look (fun _ => (Within.ofOption (fun _ => (readsReturn_within (hm.via rfl rfl rfl)))))) (Within.cons
    (Within.whenS (Within.seq (entriesArrive_within (hm.via rfl rfl rfl)) (Within.when (usePushes_within
    (hm.via rfl rfl rfl))))) Within.nil))))

theorem doorbellIgnored_within {m : Mask}
    (hm : Mask.Le ⟨0x18080, 0x0, 0x800000000000100000000000000000000000000000⟩ m) {tx : Bool} {r : Nat} :
    Eff.Within tables m (@doorbellIgnored tx r) := by
  unfold doorbellIgnored
  exact (Within.cons (Within.count (hm.ctr (by decide +kernel))) (Within.cons (ringFlag_within (hm.via rfl rfl rfl)) (Within.cons
    (ringEvent_within (hm.via rfl rfl rfl)) Within.nil)))

theorem hostWake_within {m : Mask} (hm : Mask.Le ⟨0xc000000, 0x0, 0x0⟩ m) :
    Eff.Within tables m hostWake := by
  unfold hostWake
  exact (idleWake_within (hm.via rfl rfl rfl))

theorem wakeRingGrove_within {m : Mask}
    (hm : Mask.Le ⟨0x8000080, 0x0, 0x100000000000000064000000000000⟩ m) {tx : Bool} {r : Nat} :
    Eff.Within tables m (@wakeRingGrove tx r) := by
  unfold wakeRingGrove
  exact (Within.look (fun _ => (Within.when (wakeGrove_within (hm.via rfl rfl rfl)))))

theorem doorbellAct_within {m : Mask}
    (hm : Mask.Le ⟨0x2c058080, 0x0, 0x5c50000000000100000000000000064000000000000⟩ m) {tx : Bool} {r : Nat} {t : Nat} :
    Eff.Within tables m (@doorbellAct tx r t) := by
  unfold doorbellAct
  exact (Within.look (fun _ => (Within.ite (doorbellIgnored_within (hm.via rfl rfl rfl)) (Within.ite (Within.cons (Within.count
    (hm.ctr (by decide +kernel))) (Within.cons (ringFlag_within (hm.via rfl rfl rfl)) (Within.cons (ringEvent_within
    (hm.via rfl rfl rfl)) Within.nil))) (Within.cons (Within.count (hm.ctr (by decide +kernel))) (Within.cons (ringSet_within
    (hm.via rfl rfl rfl)) (Within.cons (hostWake_within (hm.via rfl rfl rfl)) (Within.cons (wakeRingGrove_within
    (hm.via rfl rfl rfl)) (Within.cons (fetchEntries_within (hm.via rfl rfl rfl)) Within.nil)))))))))

theorem pushMalformed_within {m : Mask}
    (hm : Mask.Le ⟨0x18080, 0x0, 0x200000000000100000000000000000000000000000⟩ m) {r : Nat} :
    Eff.Within tables m (@pushMalformed r) := by
  unfold pushMalformed
  exact (Within.cons (Within.count (hm.ctr (by decide +kernel))) (Within.cons (ringFlag_within (hm.via rfl rfl rfl)) (Within.cons
    (ringEvent_within (hm.via rfl rfl rfl)) Within.nil)))

theorem pushAct_within {m : Mask}
    (hm : Mask.Le ⟨0x3c05a080, 0x1f00000000000000000000000000000000000000000, 0x3fe4b70000000000100000000000000064000000000000⟩ m) {r : Nat} {window : Bytes} {whole : Bool} :
    Eff.Within tables m (@pushAct r window whole) := by
  unfold pushAct
  exact (Within.look (fun _ => (Within.ite (Within.seq (doorbellIgnored_within (hm.via rfl rfl rfl)) (pushMalformed_within
    (hm.via rfl rfl rfl))) (Within.ite (pushMalformed_within (hm.via rfl rfl rfl)) (Within.cons (Within.count
    (hm.ctr (by decide +kernel))) (Within.cons (ringSet_within (hm.via rfl rfl rfl)) (Within.cons (hostWake_within
    (hm.via rfl rfl rfl)) (Within.cons (wakeRingGrove_within (hm.via rfl rfl rfl)) (Within.cons (Within.whenS (Within.seq
    (usePushes_within (hm.via rfl rfl rfl)) (fetchEntries_within (hm.via rfl rfl rfl)))) Within.nil)))))))))

theorem txDataArrives_within {m : Mask}
    (hm : Mask.Le ⟨0x20058000, 0x0, 0xd4000000000000000000000000000000000000000⟩ m) {r : Nat} {data : Bytes} :
    Eff.Within tables m (@txDataArrives r data) := by
  unfold txDataArrives
  exact (Within.cons (tlpReceived_within (hm.via rfl rfl rfl)) (Within.cons (Within.count (hm.ctr (by decide +kernel)))
    (Within.cons (Within.look (fun _ =>
    (by (try dsimp only); split; exacts [(Within.seq (Within.ofOption (fun _ => (readsReturn_within (hm.via rfl rfl rfl)))) (ringSet_within (hm.via rfl rfl rfl))),
    (Within.upd (hm.parts' [.functions] (by decide +kernel)))]))) Within.nil)))

theorem enableRing_within {m : Mask}
    (hm : Mask.Le ⟨0x20058080, 0x0, 0x4050000000000100000000000000000000000000000⟩ m) {tx : Bool} {r : Nat} :
    Eff.Within tables m (@enableRing tx r) := by
  unfold enableRing
  exact (Within.look (fun _ => (Within.ite (ringFlag_within (hm.via rfl rfl rfl)) (Within.seq (ringSet_within
    (hm.via rfl rfl rfl))
    (by (try dsimp only); split; exacts [(Within.seq (ringSet_within (hm.via rfl rfl rfl)) (Within.seq (ringState_within (hm.via rfl rfl rfl)) (fetchEntries_within (hm.via rfl rfl rfl)))),
    (ringState_within (hm.via rfl rfl rfl)), Within.skip])))))

theorem disableByHost_within {m : Mask}
    (hm : Mask.Le ⟨0x3005b080, 0x1f00000000000000000000000000000000000000000, 0x3fe0030000000000100000000000000000000000000000⟩ m) {tx : Bool} {r : Nat} :
    Eff.Within tables m (@disableByHost tx r) := by
  unfold disableByHost
  exact (Within.look (fun _ => (Within.ite (ringFlag_within (hm.via rfl rfl rfl)) (Within.seq (ringSet_within
    (hm.via rfl rfl rfl)) (disableRing_within (hm.via rfl rfl rfl))))))

theorem drainEnds_within {m : Mask}
    (hm : Mask.Le ⟨0x20058080, 0x0, 0x4050000000000100000000000000000000000000000⟩ m) {tx : Bool} {r : Nat} :
    Eff.Within tables m (@drainEnds tx r) := by
  unfold drainEnds
  exact (Within.look (fun _ =>
    (by (try dsimp only); split; exacts [(Within.when (Within.seq (ringSet_within (hm.via rfl rfl rfl)) (ringState_within (hm.via rfl rfl rfl)))),
    (Within.when (Within.seq (ringSet_within (hm.via rfl rfl rfl)) (Within.seq (ringState_within (hm.via rfl rfl rfl)) (fetchEntries_within (hm.via rfl rfl rfl))))),
    Within.skip])))

theorem configWrite_within {m : Mask} (hm : Mask.Le ⟨0x18000, 0x0, 0x0⟩ m) {tx : Bool} {r : Nat} {off : Nat} {v : Nat} :
    Eff.Within tables m (@configWrite tx r off v) := by
  unfold configWrite
  exact (Within.look (fun _ => (Within.ite (ringFlag_within (hm.via rfl rfl rfl)) (Within.ite (ringSet_within
    (hm.via rfl rfl rfl)) (Within.ite (ringSet_within (hm.via rfl rfl rfl)) (Within.ite (ringSet_within
    (hm.via rfl rfl rfl)) Within.skip))))))

theorem holdoffFires_within {m : Mask} (hm : Mask.Le ⟨0x18080, 0x0, 0x100000000000000000000000000000⟩ m) {tx : Bool} {r : Nat} :
    Eff.Within tables m (@holdoffFires tx r) := by
  unfold holdoffFires
  exact (Within.look (fun _ => (Within.when (Within.seq (ringSet_within (hm.via rfl rfl rfl)) (ringEvent_within
    (hm.via rfl rfl rfl))))))

theorem pcieError_within {m : Mask}
    (hm : Mask.Le ⟨0x80, 0x0, 0x6000000000000000000100000000000000000000000000000⟩ m) {link : Nat} {status : Nat} {correctable : Bool} :
    Eff.Within tables m (@pcieError link status correctable) := by
  unfold pcieError
  exact (Within.seq (by (repeat' split) <;> exact Within.count (hm.ctr (by decide +kernel))) (raise_within (hm.via rfl rfl rfl)))

theorem dmaReadFails_within {m : Mask}
    (hm : Mask.Le ⟨0x398df6a0, 0x1e0020001f00000000000000000018007360000001020000010, 0x2000200000000803fe003000000001f100000000000000060800008000100⟩ m) {tx : Bool} {r : Nat} :
    Eff.Within tables m (@dmaReadFails tx r) := by
  unfold dmaReadFails
  exact (Within.cons (Within.count (hm.ctr (by decide +kernel))) (Within.cons (ringFlag_within (hm.via rfl rfl rfl)) (Within.cons
    (Within.look (fun _ => (faultOccur_within (hm.via rfl rfl rfl) (fun _ => (raiseFull_within (hm.via rfl rfl rfl))))))
    (Within.cons (disableRing_within (hm.via rfl rfl rfl)) Within.nil))))

theorem dmaWriteFails_within {m : Mask}
    (hm : Mask.Le ⟨0x398cf6a0, 0x1e0020000000000000000000000018007360000001020000010, 0x200020000000700000000000000001f100000000000000060800008000100⟩ m) {fn : Nat} :
    Eff.Within tables m (@dmaWriteFails fn) := by
  unfold dmaWriteFails
  exact (Within.cons (Within.count (hm.ctr (by decide +kernel))) (Within.cons (Within.upd
    (hm.parts' [.functions] (by decide +kernel))) (Within.cons (Within.look (fun _ => (withFree_within (hm.via rfl rfl rfl)
    (fun _ => (pcieError_within (hm.via rfl rfl rfl)))))) (Within.cons (faultEvent_within (hm.via rfl rfl rfl)) Within.nil))))

theorem resetQueuesOf_within {m : Mask} (hm : Mask.Le ⟨0x20000, 0x0, 0x0⟩ m) {fn : Nat} :
    Eff.Within tables m (@resetQueuesOf fn) := by
  unfold resetQueuesOf
  exact (Within.look (fun _ => (Within.forEach (fun _ => (Within.upd (hm.parts' [.queues] (by decide +kernel)))))))

theorem resetVectorsOf_within {m : Mask} (hm : Mask.Le ⟨0x40000, 0x0, 0x0⟩ m) {fn : Nat} :
    Eff.Within tables m (@resetVectorsOf fn) := by
  unfold resetVectorsOf
  exact (Within.look (fun _ => (Within.forEach (fun _ => (Within.upd (hm.parts' [.functions] (by decide +kernel)))))))

theorem busMaster_within {m : Mask}
    (hm : Mask.Le ⟨0x2005b080, 0x10000000000000000000000000000000000000000, 0x40000000050000000000100000000000000000000000000000⟩ m) {fn : Nat} {enable : Bool} :
    Eff.Within tables m (@busMaster fn enable) := by
  unfold busMaster
  exact (Within.cons (Within.upd (hm.parts' [.functions] (by decide +kernel))) (Within.cons (Within.setB
    (hm.obj (by decide +kernel))) (Within.cons (Within.when (Within.seq (resetRingsOf_within (hm.via rfl rfl rfl))
    (dropReadsOf_within (hm.via rfl rfl rfl)))) (Within.cons (raise_within (hm.via rfl rfl rfl)) Within.nil))))

theorem vfEnable_within {m : Mask}
    (hm : Mask.Le ⟨0x2005b080, 0x20000000000000000000000000000000000000000, 0x40000000050000000000100000000000000000000000000000⟩ m) {enable : Bool} {numVfs : Nat} :
    Eff.Within tables m (@vfEnable enable numVfs) := by
  unfold vfEnable
  exact (Within.look (fun _ => (Within.cons (Within.upd (hm.parts' [.functions] (by decide +kernel))) (Within.cons (Within.when
    (Within.forEach (fun _ => (Within.seq (resetRingsOf_within (hm.via rfl rfl rfl)) (dropReadsOf_within
    (hm.via rfl rfl rfl)))))) (Within.cons (Within.forEach (fun _ => (Within.setB (hm.obj (by decide +kernel))))) (Within.cons
    (raise_within (hm.via rfl rfl rfl)) Within.nil))))))

theorem clearEnables_within {m : Mask} (hm : Mask.Le ⟨0x18000, 0x0, 0x0⟩ m) {fn : Nat} :
    Eff.Within tables m (@clearEnables fn) := by
  unfold clearEnables
  exact (Within.look (fun _ => (Within.seq (Within.forEach (fun _ => (ringSet_within (hm.via rfl rfl rfl)))) (Within.forEach
    (fun _ => (ringSet_within (hm.via rfl rfl rfl)))))))

theorem clearFunction_within {m : Mask}
    (hm : Mask.Le ⟨0x2007b080, 0x10000000000000000000000000000000000000000, 0x40000000050000000000100000000000000000000000000000⟩ m) {fn : Nat} :
    Eff.Within tables m (@clearFunction fn) := by
  unfold clearFunction
  exact (Within.cons (resetRingsOf_within (hm.via rfl rfl rfl)) (Within.cons (clearEnables_within (hm.via rfl rfl rfl))
    (Within.cons (resetQueuesOf_within (hm.via rfl rfl rfl)) (Within.cons (resetVectorsOf_within (hm.via rfl rfl rfl))
    (Within.cons (dropReadsOf_within (hm.via rfl rfl rfl)) (Within.cons (Within.upd
    (hm.parts' [.functions] (by decide +kernel))) (Within.cons (Within.whenS (Within.seq (Within.setB
    (hm.obj (by decide +kernel))) (raise_within (hm.via rfl rfl rfl)))) Within.nil)))))))

theorem functionReset_within {m : Mask}
    (hm : Mask.Le ⟨0x2007b080, 0x70000000000000000000000000000000000000000, 0x60000000050000000000100000000000000000000000000000⟩ m) {fn : Nat} :
    Eff.Within tables m (@functionReset fn) := by
  unfold functionReset
  exact (Within.cons (Within.count (hm.ctr (by decide +kernel))) (Within.cons (Within.bumpObj (hm.obj (by decide +kernel)))
    (Within.cons (clearFunction_within (hm.via rfl rfl rfl)) (Within.cons (Within.whenS (vfEnable_within (hm.via rfl rfl rfl)))
    (Within.cons (raise_within (hm.via rfl rfl rfl)) Within.nil)))))

theorem headWrite_within {m : Mask}
    (hm : Mask.Le ⟨0x20060000, 0x100000000000000000000000000000000000000000000, 0x100000030000000000000000000000000000000000000000⟩ m) {q : Nat} {head : Nat} {arm : Bool} :
    Eff.Within tables m (@headWrite q head arm) := by
  unfold headWrite
  exact (Within.seq (Within.upd (hm.parts' [.queues] (by decide +kernel))) (Within.whenS (signalQueue_within
    (hm.via rfl rfl rfl))))

theorem enableQueue_within {m : Mask} (hm : Mask.Le ⟨0x20000, 0x0, 0x0⟩ m) {q : Nat} :
    Eff.Within tables m (@enableQueue q) := by
  unfold enableQueue
  exact (Within.whenS (Within.upd (hm.parts' [.queues] (by decide +kernel))))

theorem queueHoldoff_within {m : Mask}
    (hm : Mask.Le ⟨0x20060000, 0x100000000000000000000000000000000000000000000, 0x100000030000000000000000000000000000000000000000⟩ m) {q : Nat} :
    Eff.Within tables m (@queueHoldoff q) := by
  unfold queueHoldoff
  exact (Within.whenS (signalQueue_within (hm.via rfl rfl rfl)))

theorem unmaskVector_within {m : Mask}
    (hm : Mask.Le ⟨0x20040000, 0x0, 0x100000030000000000000000000000000000000000000000⟩ m) {v : Nat} :
    Eff.Within tables m (@unmaskVector v) := by
  unfold unmaskVector
  exact (Within.look (fun _ => (Within.seq (Within.upd (hm.parts' [.functions] (by decide +kernel))) (Within.when
    (sendMsix_within (hm.via rfl rfl rfl))))))

theorem execDoorbell_effect {tx : Bool} {ring : Nat} {position : Nat} {s : State} : ∃ e, @execDoorbell tx ring position s = done e s ∧ Eff.Within tables ⟨0x2c058080, 0x0, 0x5c54000000000100000000000000064000000000000⟩ e :=
  have hm := Mask.Le.refl ⟨0x2c058080, 0x0, 0x5c54000000000100000000000000064000000000000⟩
  ⟨_, rfl, (powered_within (hm.via rfl rfl rfl) (Within.seq (tlpReceived_within (hm.via rfl rfl rfl)) (atRing_within
    (hm.via rfl rfl rfl) (doorbellAct_within (hm.via rfl rfl rfl)))))⟩

theorem execPush_effect {ring : Nat} {window : Bytes} {whole : Bool} {s : State} : ∃ e, @execPush ring window whole s = done e s ∧ Eff.Within tables ⟨0x3c05a080, 0x1f00000000000000000000000000000000000000000, 0x3fe4b74000000000100000000000000064000000000000⟩ e :=
  have hm := Mask.Le.refl ⟨0x3c05a080, 0x1f00000000000000000000000000000000000000000, 0x3fe4b74000000000100000000000000064000000000000⟩
  ⟨_, rfl, (powered_within (hm.via rfl rfl rfl) (Within.seq (tlpReceived_within (hm.via rfl rfl rfl)) (atRing_within
    (hm.via rfl rfl rfl) (pushAct_within (hm.via rfl rfl rfl)))))⟩

theorem execEntryFetchDone_effect {tx : Bool} {ring : Nat} {position : Nat} {covered : Nat} {entries : List Bytes} {s : State} : ∃ e, @execEntryFetchDone tx ring position covered entries s = done e s ∧ Eff.Within tables ⟨0x3005a080, 0x1f00000000000000000000000000000000000000000, 0x3ffa0f4000000000100000000000000000000000000000⟩ e :=
  have hm := Mask.Le.refl ⟨0x3005a080, 0x1f00000000000000000000000000000000000000000, 0x3ffa0f4000000000100000000000000000000000000000⟩
  ⟨_, rfl, (operating_within (hm.via rfl rfl rfl) (entryFetch_within (hm.via rfl rfl rfl)))⟩

theorem execTxFrameComplete_effect {ring : Nat} {s : State} : ∃ e, @execTxFrameComplete ring s = done e s ∧ Eff.Within tables ⟨0x30018080, 0x1f00000000000000000000000000000000000000000, 0x3fe0030000000000100000000000000000000000000000⟩ e :=
  have hm := Mask.Le.refl ⟨0x30018080, 0x1f00000000000000000000000000000000000000000, 0x3fe0030000000000100000000000000000000000000000⟩
  ⟨_, rfl, (flushTx_within (hm.via rfl rfl rfl))⟩

theorem execRingHoldoffTimer_effect {tx : Bool} {ring : Nat} {s : State} : ∃ e, @execRingHoldoffTimer tx ring s = done e s ∧ Eff.Within tables ⟨0x18080, 0x0, 0x100000000000000000000000000000⟩ e :=
  have hm := Mask.Le.refl ⟨0x18080, 0x0, 0x100000000000000000000000000000⟩
  ⟨_, rfl, (holdoffFires_within (hm.via rfl rfl rfl))⟩

theorem execQueueEnable_effect {tx : Bool} {ring : Nat} {s : State} : ∃ e, @execQueueEnable tx ring s = done e s ∧ Eff.Within tables ⟨0x20058080, 0x0, 0x4054000000000100000000000000000000000000000⟩ e :=
  have hm := Mask.Le.refl ⟨0x20058080, 0x0, 0x4054000000000100000000000000000000000000000⟩
  ⟨_, rfl, (powered_within (hm.via rfl rfl rfl) (Within.seq (tlpReceived_within (hm.via rfl rfl rfl)) (atRing_within
    (hm.via rfl rfl rfl) (enableRing_within (hm.via rfl rfl rfl)))))⟩

theorem execQueueDisable_effect {tx : Bool} {ring : Nat} {s : State} : ∃ e, @execQueueDisable tx ring s = done e s ∧ Eff.Within tables ⟨0x3005b080, 0x1f00000000000000000000000000000000000000000, 0x3fe0034000000000100000000000000000000000000000⟩ e :=
  have hm := Mask.Le.refl ⟨0x3005b080, 0x1f00000000000000000000000000000000000000000, 0x3fe0034000000000100000000000000000000000000000⟩
  ⟨_, rfl, (powered_within (hm.via rfl rfl rfl) (Within.seq (tlpReceived_within (hm.via rfl rfl rfl)) (atRing_within
    (hm.via rfl rfl rfl) (disableByHost_within (hm.via rfl rfl rfl)))))⟩

theorem execDrainComplete_effect {tx : Bool} {ring : Nat} {s : State} : ∃ e, @execDrainComplete tx ring s = done e s ∧ Eff.Within tables ⟨0x20058080, 0x0, 0x4050000000000100000000000000000000000000000⟩ e :=
  have hm := Mask.Le.refl ⟨0x20058080, 0x0, 0x4050000000000100000000000000000000000000000⟩
  ⟨_, rfl, (drainEnds_within (hm.via rfl rfl rfl))⟩

theorem execQueueConfigWrite_effect {tx : Bool} {ring : Nat} {offset : Nat} {value : Nat} {s : State} : ∃ e, @execQueueConfigWrite tx ring offset value s = done e s ∧ Eff.Within tables ⟨0x18000, 0x0, 0x4000000000000000000000000000000000000000⟩ e :=
  have hm := Mask.Le.refl ⟨0x18000, 0x0, 0x4000000000000000000000000000000000000000⟩
  ⟨_, rfl, (powered_within (hm.via rfl rfl rfl) (Within.seq (tlpReceived_within (hm.via rfl rfl rfl)) (atRing_within
    (hm.via rfl rfl rfl) (configWrite_within (hm.via rfl rfl rfl)))))⟩

theorem execFunctionLevelReset_effect {fn : Nat} {s : State} : ∃ e, @execFunctionLevelReset fn s = done e s ∧ Eff.Within tables ⟨0x2007b080, 0x70000000000000000000000000000000000000000, 0x60000000050000000000100000000000000000000000000000⟩ e :=
  have hm := Mask.Le.refl ⟨0x2007b080, 0x70000000000000000000000000000000000000000, 0x60000000050000000000100000000000000000000000000000⟩
  ⟨_, rfl, (powered_within (hm.via rfl rfl rfl) (functionReset_within (hm.via rfl rfl rfl)))⟩

theorem execBusMasterChanged_effect {fn : Nat} {enable : Bool} {s : State} : ∃ e, @execBusMasterChanged fn enable s = done e s ∧ Eff.Within tables ⟨0x2005b080, 0x10000000000000000000000000000000000000000, 0x40000000050000000000100000000000000000000000000000⟩ e :=
  have hm := Mask.Le.refl ⟨0x2005b080, 0x10000000000000000000000000000000000000000, 0x40000000050000000000100000000000000000000000000000⟩
  ⟨_, rfl, (powered_within (hm.via rfl rfl rfl) (busMaster_within (hm.via rfl rfl rfl)))⟩

theorem execVfEnableChanged_effect {enable : Bool} {numVfs : Nat} {s : State} : ∃ e, @execVfEnableChanged enable numVfs s = done e s ∧ Eff.Within tables ⟨0x2005b080, 0x20000000000000000000000000000000000000000, 0x40000000050000000000100000000000000000000000000000⟩ e :=
  have hm := Mask.Le.refl ⟨0x2005b080, 0x20000000000000000000000000000000000000000, 0x40000000050000000000100000000000000000000000000000⟩
  ⟨_, rfl, (powered_within (hm.via rfl rfl rfl) (vfEnable_within (hm.via rfl rfl rfl)))⟩

theorem execDmaReadError_effect {tx : Bool} {ring : Nat} {s : State} : ∃ e, @execDmaReadError tx ring s = done e s ∧ Eff.Within tables ⟨0x398df6a0, 0x1e0020001f00000000000000000018007360000001020000010, 0x2000200000000803fe003000000001f100000000000000060800008000100⟩ e :=
  have hm := Mask.Le.refl ⟨0x398df6a0, 0x1e0020001f00000000000000000018007360000001020000010, 0x2000200000000803fe003000000001f100000000000000060800008000100⟩
  ⟨_, rfl, (dmaReadFails_within (hm.via rfl rfl rfl))⟩

theorem execDmaWriteError_effect {fn : Nat} {s : State} : ∃ e, @execDmaWriteError fn s = done e s ∧ Eff.Within tables ⟨0x398cf6a0, 0x1e0020000000000000000000000018007360000001020000010, 0x200020000000700000000000000001f100000000000000060800008000100⟩ e :=
  have hm := Mask.Le.refl ⟨0x398cf6a0, 0x1e0020000000000000000000000018007360000001020000010, 0x200020000000700000000000000001f100000000000000060800008000100⟩
  ⟨_, rfl, (dmaWriteFails_within (hm.via rfl rfl rfl))⟩

theorem execEqHeadWrite_effect {queue : Nat} {head : Nat} {arm : Bool} {s : State} : ∃ e, @execEqHeadWrite queue head arm s = done e s ∧ Eff.Within tables ⟨0x20060000, 0x100000000000000000000000000000000000000000000, 0x100000034000000000000000000000000000000000000000⟩ e :=
  have hm := Mask.Le.refl ⟨0x20060000, 0x100000000000000000000000000000000000000000000, 0x100000034000000000000000000000000000000000000000⟩
  ⟨_, rfl, (powered_within (hm.via rfl rfl rfl) (Within.seq (tlpReceived_within (hm.via rfl rfl rfl)) (atQueue_within
    (hm.via rfl rfl rfl) (headWrite_within (hm.via rfl rfl rfl)))))⟩

theorem execEqEnable_effect {queue : Nat} {s : State} : ∃ e, @execEqEnable queue s = done e s ∧ Eff.Within tables ⟨0x20000, 0x0, 0x4000000000000000000000000000000000000000⟩ e :=
  have hm := Mask.Le.refl ⟨0x20000, 0x0, 0x4000000000000000000000000000000000000000⟩
  ⟨_, rfl, (powered_within (hm.via rfl rfl rfl) (Within.seq (tlpReceived_within (hm.via rfl rfl rfl)) (atQueue_within
    (hm.via rfl rfl rfl) (enableQueue_within (hm.via rfl rfl rfl)))))⟩

theorem execEqHoldoffTimer_effect {queue : Nat} {s : State} : ∃ e, @execEqHoldoffTimer queue s = done e s ∧ Eff.Within tables ⟨0x20060000, 0x100000000000000000000000000000000000000000000, 0x100000030000000000000000000000000000000000000000⟩ e :=
  have hm := Mask.Le.refl ⟨0x20060000, 0x100000000000000000000000000000000000000000000, 0x100000030000000000000000000000000000000000000000⟩
  ⟨_, rfl, (queueHoldoff_within (hm.via rfl rfl rfl))⟩

theorem execMsixUnmask_effect {vector : Nat} {s : State} : ∃ e, @execMsixUnmask vector s = done e s ∧ Eff.Within tables ⟨0x20040000, 0x0, 0x100000034000000000000000000000000000000000000000⟩ e :=
  have hm := Mask.Le.refl ⟨0x20040000, 0x0, 0x100000034000000000000000000000000000000000000000⟩
  ⟨_, rfl, (powered_within (hm.via rfl rfl rfl) (Within.seq (tlpReceived_within (hm.via rfl rfl rfl)) (inD0_within
    (hm.via rfl rfl rfl) (unmaskVector_within (hm.via rfl rfl rfl)))))⟩

/-! ## Segment -/

theorem nodeHeard_within {m : Mask}
    (hm : Mask.Le ⟨0x1080, 0x1e000000000000000000, 0x100000000000000000000000800000⟩ m) {p : Nat} {node : Nat} :
    Eff.Within tables m (@nodeHeard p node) := by
  unfold nodeHeard
  exact (Within.look (fun _ => (Within.ite Within.skip (Within.cons (segSet_within (hm.via rfl rfl rfl)) (Within.cons
    (Within.bumpObj (Obj.port (hm.obj (by decide +kernel)))) (Within.cons (Within.setPort (hm.obj (by decide +kernel)))
    (Within.cons (Within.when (Within.cons (Within.setN (Obj.port (hm.obj (by decide +kernel)))) (Within.cons (Within.setPort
    (hm.obj (by decide +kernel))) (Within.cons (segSet_within (hm.via rfl rfl rfl)) (Within.cons (raisePort_within
    (hm.via rfl rfl rfl)) (Within.cons (Within.count (Ctr.port (hm.ctr (by decide +kernel)))) Within.nil)))))) Within.nil)))))))

theorem nodeLeaves_within {m : Mask}
    (hm : Mask.Le ⟨0x1080, 0x6000000000000000000, 0x100000000000000000000001000000⟩ m) {p : Nat} {node : Nat} :
    Eff.Within tables m (@nodeLeaves p node) := by
  unfold nodeLeaves
  exact (Within.look (fun _ => (Within.when (Within.cons (Within.setN (Obj.port (hm.obj (by decide +kernel)))) (Within.cons
    (Within.setPort (hm.obj (by decide +kernel))) (Within.cons (segSet_within (hm.via rfl rfl rfl)) (Within.cons
    (raisePort_within (hm.via rfl rfl rfl)) (Within.cons (Within.count (Ctr.port
    (hm.ctr (by decide +kernel)))) Within.nil))))))))

theorem listenOnlyEntry_within {m : Mask}
    (hm : Mask.Le ⟨0x1080, 0x40000000000000000000, 0x100000000000000000000002000000⟩ m) {p : Nat} {node : Nat} :
    Eff.Within tables m (@listenOnlyEntry p node) := by
  unfold listenOnlyEntry
  exact (Within.look (fun _ => (Within.when (Within.cons (Within.setPort (hm.obj (by decide +kernel))) (Within.cons
    (segSet_within (hm.via rfl rfl rfl)) (Within.cons (raisePort_within (hm.via rfl rfl rfl)) (Within.cons (Within.count
    (Ctr.port (hm.ctr (by decide +kernel)))) Within.nil)))))))

theorem violation_within {m : Mask}
    (hm : Mask.Le ⟨0x2988f6a0, 0x1e0020000000000000000000000018467360000001020000010, 0x200020000000000000000000000001f10000000000000006080000a008100⟩ m) {p : Nat} {x : Slot} :
    Eff.Within tables m (@violation p x) := by
  unfold violation
  exact (Within.cons (Within.count (Ctr.port (hm.ctr (by decide +kernel)))) (Within.cons (Within.bumpObj (Obj.port
    (hm.obj (by decide +kernel)))) (Within.cons (Within.bumpObj (Obj.port (hm.obj (by decide +kernel)))) (Within.cons
    (faultOccur_within (hm.via rfl rfl rfl) (fun _ => Within.skip)) (Within.cons (listenOnlyEntry_within
    (hm.via rfl rfl rfl)) Within.nil)))))

theorem listenOnlyLeave_within {m : Mask}
    (hm : Mask.Le ⟨0x21001480, 0x40000000000000000000000000000040000000000000000000, 0x100000000000000000000000000000⟩ m) {p : Nat} {node : Nat} :
    Eff.Within tables m (@listenOnlyLeave p node) := by
  unfold listenOnlyLeave
  exact (Within.look (fun _ => (Within.when (Within.cons (Within.setPort (hm.obj (by decide +kernel))) (Within.cons
    (segSet_within (hm.via rfl rfl rfl)) (Within.cons (raisePort_within (hm.via rfl rfl rfl)) (Within.cons (faultClear_within
    (hm.via rfl rfl rfl)) Within.nil)))))))

theorem slotOverrun_within {m : Mask}
    (hm : Mask.Le ⟨0x80, 0x1000000000000000000000, 0x100000000000000000000000010000⟩ m) {p : Nat} {x : Slot} :
    Eff.Within tables m (@slotOverrun p x) := by
  unfold slotOverrun
  exact (Within.cons (Within.count (Ctr.port (hm.ctr (by decide +kernel)))) (Within.cons (Within.bumpObj (Obj.port
    (hm.obj (by decide +kernel)))) (Within.cons (raisePort_within (hm.via rfl rfl rfl)) Within.nil)))

theorem slotAccept_within {m : Mask}
    (hm : Mask.Le ⟨0x1000, 0x6000000000000000000000, 0x1000⟩ m) {p : Nat} {x : Slot} {at' : Int} :
    Eff.Within tables m (@slotAccept p x at') := by
  unfold slotAccept
  exact (Within.look (fun _ => (Within.cons (Within.count (Ctr.port (hm.ctr (by decide +kernel)))) (Within.cons (segSet_within
    (hm.via rfl rfl rfl)) (Within.cons (Within.setPort (hm.obj (by decide +kernel))) (Within.cons (Within.setPort
    (hm.obj (by decide +kernel))) Within.nil))))))

theorem listenOnlyDiscard_within {m : Mask} (hm : Mask.Le ⟨0x1000, 0x100000000000000000000, 0x0⟩ m) {p : Nat} {node : Nat} :
    Eff.Within tables m (@listenOnlyDiscard p node) := by
  unfold listenOnlyDiscard
  exact (Within.seq (Within.bumpObj (Obj.port (hm.obj (by decide +kernel)))) (segSet_within (hm.via rfl rfl rfl)))

theorem judgeSlot_within {m : Mask}
    (hm : Mask.Le ⟨0x2988f6a0, 0x1e002000000000000000000000001f57f360000001020000010, 0x200020000000000000000000000001f10000000000000006080000a819100⟩ m) {p : Nat} {x : Slot} {f : Frame} {accept : Eff} {bad : Eff} {misplaced : Eff} {mute : Eff}
    (h_accept : Eff.Within tables m accept) (h_bad : Eff.Within tables m bad) (h_misplaced : Eff.Within tables m misplaced)
    (h_mute : Eff.Within tables m mute) :
    Eff.Within tables m (@judgeSlot p x f accept bad misplaced mute) := by
  unfold judgeSlot
  exact (Within.look (fun _ => (Within.ite (Within.seq (listenOnlyDiscard_within (hm.via rfl rfl rfl)) h_mute) (Within.seq
    (Within.when (nodeHeard_within (hm.via rfl rfl rfl))) (Within.ite (Within.seq (violation_within
    (hm.via rfl rfl rfl)) h_misplaced) (Within.ite (Within.seq (slotOverrun_within (hm.via rfl rfl rfl)) h_misplaced)
    (Within.ite h_bad (Within.seq (slotAccept_within (hm.via rfl rfl rfl)) h_accept))))))))

theorem storeSlotFrame_within {m : Mask} (hm : Mask.Le ⟨0x5000, 0x0, 0x0⟩ m) {p : Nat} {x : Slot} {payload : Bytes} :
    Eff.Within tables m (@storeSlotFrame p x payload) := by
  unfold storeSlotFrame
  exact (Within.look (fun _ => (Within.seq (nextSerial_within (hm.via rfl rfl rfl)) (Within.look (fun _ => (segSet_within
    (hm.via rfl rfl rfl)))))))

theorem tailFrame_within {m : Mask}
    (hm : Mask.Le ⟨0x1080, 0x11e000000000000000000, 0x100000000000000000000000800000⟩ m) {p : Nat} {sender : Nat} {f : Frame} {ingress : Eff}
    (h_ingress : Eff.Within tables m ingress) :
    Eff.Within tables m (@tailFrame p sender f ingress) := by
  unfold tailFrame
  exact (Within.look (fun _ => (Within.ite (listenOnlyDiscard_within (hm.via rfl rfl rfl)) (Within.seq (Within.when
    (nodeHeard_within (hm.via rfl rfl rfl))) h_ingress))))

theorem segmentData_within {m : Mask}
    (hm : Mask.Le ⟨0x2988f6a0, 0x1e002000000000000000000000001f57f360000001020000010, 0x200020000000000000000000000001f10000000000000006080000a819100⟩ m) {p : Nat} {sender : Nat} {f : Frame} {ingress : Eff} {misplaced : Eff}
    (h_ingress : Eff.Within tables m ingress) (h_misplaced : Eff.Within tables m misplaced) :
    Eff.Within tables m (@segmentData p sender f ingress misplaced) := by
  unfold segmentData
  exact (Within.look (fun _ => (Within.ite (tailFrame_within (hm.via rfl rfl rfl) h_ingress)
    (by (try dsimp only); split; exacts [(judgeSlot_within (hm.via rfl rfl rfl) (Within.seq (storeSlotFrame_within (hm.via rfl rfl rfl)) h_ingress) h_ingress h_misplaced Within.skip),
    (Within.seq (Within.count (Ctr.port (hm.ctr (by decide +kernel)))) h_misplaced),
    (tailFrame_within (hm.via rfl rfl rfl) h_ingress)]))))

theorem opportunityOf_within {m : Mask} (hm : Mask.Le ⟨0x1000, 0x0, 0x0⟩ m) {p : Nat} {sender : Nat} :
    Eff.Within tables m (@opportunityOf p sender) := by
  unfold opportunityOf
  exact (Within.whenS (opportunity_within (hm.via rfl rfl rfl)))

theorem adoptSegment_within {m : Mask}
    (hm : Mask.Le ⟨0x5080, 0x500000000020000000, 0x100000000000000000000000000000⟩ m) {p : Nat} {x : Slot} {j : Nat} {stamp : Nat} :
    Eff.Within tables m (@adoptSegment p x j stamp) := by
  unfold adoptSegment
  exact (Within.look (fun _ => (Within.cons (segSet_within (hm.via rfl rfl rfl)) (Within.cons (Within.setPort
    (hm.obj (by decide +kernel))) (Within.cons (Within.setN (hm.obj (by decide +kernel))) (Within.cons (setSegState_within
    (hm.via rfl rfl rfl)) Within.nil))))))

theorem excludeSync_within {m : Mask}
    (hm : Mask.Le ⟨0x1080, 0x0, 0x100000000000000000000020200000⟩ m) {p : Nat} {b : SyncBody} {digestBad : Bool} :
    Eff.Within tables m (@excludeSync p b digestBad) := by
  unfold excludeSync
  exact (Within.look (fun _ => (Within.seq (Within.count (Ctr.port (hm.ctr (by decide +kernel)))) (Within.when (Within.seq
    (Within.count (Ctr.port (hm.ctr (by decide +kernel)))) (Within.when (Within.seq (segSet_within (hm.via rfl rfl rfl))
    (raisePort_within (hm.via rfl rfl rfl)))))))))

theorem coldstartCollision_within {m : Mask}
    (hm : Mask.Le ⟨0x5080, 0x100000000020000000, 0x100000000000000000000004000000⟩ m) {p : Nat} {node : Nat} :
    Eff.Within tables m (@coldstartCollision p node) := by
  unfold coldstartCollision
  exact (Within.cons (segSet_within (hm.via rfl rfl rfl)) (Within.cons (raisePort_within (hm.via rfl rfl rfl)) (Within.cons
    (Within.count (Ctr.port (hm.ctr (by decide +kernel)))) (Within.cons (Within.setN (hm.obj (by decide +kernel))) (Within.cons
    (Within.look (fun _ => (segSet_within (hm.via rfl rfl rfl)))) (Within.cons (setSegState_within
    (hm.via rfl rfl rfl)) Within.nil))))))

theorem acceptSync_within {m : Mask}
    (hm : Mask.Le ⟨0x5080, 0x80500000000020000000, 0x100000000000000000000004100000⟩ m) {p : Nat} {x : Slot} {b : SyncBody} {f : Frame} :
    Eff.Within tables m (@acceptSync p x b f) := by
  unfold acceptSync
  exact (Within.look (fun _ => (Within.ite (Within.ite (coldstartCollision_within (hm.via rfl rfl rfl)) (adoptSegment_within
    (hm.via rfl rfl rfl))) (Within.cons (segSet_within (hm.via rfl rfl rfl)) (Within.cons (Within.setPort
    (hm.obj (by decide +kernel))) (Within.cons (Within.count (Ctr.port (hm.ctr (by decide +kernel)))) Within.nil))))))

theorem syncTaken_within {m : Mask}
    (hm : Mask.Le ⟨0x2988f6a0, 0x1e002000000000000000000000001f5ff760000001020000010, 0x200020000000000000000000000001f10000000000000006080002eb19100⟩ m) {p : Nat} {f : Frame} :
    Eff.Within tables m (@syncTaken p f) := by
  unfold syncTaken
  exact (Within.look (fun _ => (Within.ite (Within.ite (Within.count (Ctr.port (hm.ctr (by decide +kernel)))) (Within.ite
    (Within.seq (listenOnlyDiscard_within (hm.via rfl rfl rfl)) (Within.count (Ctr.port (hm.ctr (by decide +kernel)))))
    (by (try dsimp only); split; exacts [(Within.ite (adoptSegment_within (hm.via rfl rfl rfl)) (excludeSync_within (hm.via rfl rfl rfl))),
    (excludeSync_within (hm.via rfl rfl rfl))])))
    (by (try dsimp only); split; exacts [(judgeSlot_within (hm.via rfl rfl rfl) (Within.ite (acceptSync_within (hm.via rfl rfl rfl)) (excludeSync_within (hm.via rfl rfl rfl))) (Within.count (Ctr.port (hm.ctr (by decide +kernel)))) Within.skip (Within.count (Ctr.port (hm.ctr (by decide +kernel))))),
    (Within.count (Ctr.port (hm.ctr (by decide +kernel)))),
    (Within.ite (excludeSync_within (hm.via rfl rfl rfl)) (Within.count (Ctr.port (hm.ctr (by decide +kernel)))))]))))

theorem correctSegment_within {m : Mask}
    (hm : Mask.Le ⟨0x1080, 0x7c0000000, 0x100000000000000000000000000000⟩ m) {p : Nat} {j : Nat} :
    Eff.Within tables m (@correctSegment p j) := by
  unfold correctSegment
  exact (Within.look (fun _ => (Within.cons (segSet_within (hm.via rfl rfl rfl)) (Within.cons (Within.setN
    (hm.obj (by decide +kernel))) (Within.cons (Within.setObj (hm.obj (by decide +kernel))) (Within.cons (Within.setObj
    (hm.obj (by decide +kernel))) (Within.cons (Within.when (raise_within (hm.via rfl rfl rfl))) (Within.cons (Within.when
    (Within.cons (Within.setObj (hm.obj (by decide +kernel))) (Within.cons (Within.setObj (hm.obj (by decide +kernel)))
    (Within.cons (Within.when (raise_within (hm.via rfl rfl rfl))) Within.nil)))) Within.nil))))))))

theorem syncState_within {m : Mask} (hm : Mask.Le ⟨0x1080, 0x20000000, 0x100000000000000000000000000000⟩ m) {p : Nat} :
    Eff.Within tables m (@syncState p) := by
  unfold syncState
  exact (Within.look (fun _ => (Within.ite (Within.seq (segSet_within (hm.via rfl rfl rfl)) (Within.setN
    (hm.obj (by decide +kernel)))) (Within.seq (segSet_within (hm.via rfl rfl rfl)) (Within.when (Within.seq (Within.setN
    (hm.obj (by decide +kernel))) (raise_within (hm.via rfl rfl rfl))))))))

theorem dropTail_within {m : Mask} (hm : Mask.Le ⟨0x9200, 0x0, 0x0⟩ m) {p : Nat} :
    Eff.Within tables m (@dropTail p) := by
  unfold dropTail
  exact (Within.look (fun _ => (Within.seq (segSet_within (hm.via rfl rfl rfl)) (Within.forEach (fun _ => (finishOrigin_within
    (hm.via rfl rfl rfl)))))))

theorem segmentProgress_within {m : Mask}
    (hm : Mask.Le ⟨0xd280, 0x300000000020000000, 0x100000000000000000000000000000⟩ m) {p : Nat} :
    Eff.Within tables m (@segmentProgress p) := by
  unfold segmentProgress
  exact (Within.look (fun _ => (Within.ite (Within.ite (segSet_within (hm.via rfl rfl rfl)) (Within.ite (setSegState_within
    (hm.via rfl rfl rfl)) (segSet_within (hm.via rfl rfl rfl)))) (Within.ite (Within.ite (segSet_within (hm.via rfl rfl rfl))
    (Within.ite (segmentListen_within (hm.via rfl rfl rfl)) (Within.ite (setSegState_within (hm.via rfl rfl rfl))
    (segSet_within (hm.via rfl rfl rfl))))) (Within.when (segmentListen_within (hm.via rfl rfl rfl)))))))

theorem announceMode_within {m : Mask} (hm : Mask.Le ⟨0x1000, 0x0, 0x0⟩ m) {p : Nat} :
    Eff.Within tables m (@announceMode p) := by
  unfold announceMode
  exact (Within.look (fun _ => (by (try dsimp only); split; exacts [(segSet_within (hm.via rfl rfl rfl)), Within.skip])))

theorem thaw_within {m : Mask} (hm : Mask.Le ⟨0x1000, 0x1000000000000000000, 0x0⟩ m) {p : Nat} :
    Eff.Within tables m (@thaw p) := by
  unfold thaw
  exact (Within.look (fun _ => (Within.when (Within.cons (segSet_within (hm.via rfl rfl rfl)) (Within.cons (Within.setPort
    (hm.obj (by decide +kernel))) (Within.cons (Within.look (fun _ => (Within.when (segSet_within
    (hm.via rfl rfl rfl))))) Within.nil))))))

theorem segmentBoundary_within {m : Mask}
    (hm : Mask.Le ⟨0xd280, 0x17000000007e0000000, 0x100000000000000000000000000000⟩ m) {p : Nat} :
    Eff.Within tables m (@segmentBoundary p) := by
  unfold segmentBoundary
  exact (Within.look (fun _ => (Within.ite Within.skip (Within.cons (syncState_within (hm.via rfl rfl rfl)) (Within.cons
    (correctSegment_within (hm.via rfl rfl rfl)) (Within.cons (Within.look (fun _ => (segSet_within (hm.via rfl rfl rfl))))
    (Within.cons (thaw_within (hm.via rfl rfl rfl)) (Within.cons (segmentProgress_within (hm.via rfl rfl rfl)) (Within.cons
    (dropTail_within (hm.via rfl rfl rfl)) (Within.cons (Within.look (fun _ => (Within.seq (segSet_within (hm.via rfl rfl rfl))
    (Within.setPort (hm.obj (by decide +kernel)))))) (Within.cons (announceMode_within
    (hm.via rfl rfl rfl)) Within.nil)))))))))))

theorem segmentSwitch_within {m : Mask}
    (hm : Mask.Le ⟨0x9281, 0x200000000000000000, 0x100000000000000000000010000000⟩ m) {p : Nat} :
    Eff.Within tables m (@segmentSwitch p) := by
  unfold segmentSwitch
  exact (Within.look (fun _ =>
    (by (try dsimp only); split; exacts [(Within.ite (Within.cons (latchedEnd_within (hm.via rfl rfl rfl)) (Within.cons (Within.setPort (hm.obj (by decide +kernel))) (Within.cons (Within.upd (hm.parts' [.dict] (by decide +kernel))) (Within.cons (segSet_within (hm.via rfl rfl rfl)) (Within.cons (raisePort_within (hm.via rfl rfl rfl)) (Within.cons (Within.count (Ctr.port (hm.ctr (by decide +kernel)))) Within.nil)))))) Within.skip),
    Within.skip])))

theorem segmentFollows_within {μ : Mask} (hm : Mask.Le ⟨0x1000, 0x200000000000000000, 0x0⟩ μ) {p : Nat} {m : Nat} :
    Eff.Within tables μ (@segmentFollows p m) := by
  unfold segmentFollows
  exact (Within.look (fun _ => (Within.ite Within.skip (Within.ite (Within.setPort (hm.obj (by decide +kernel))) (Within.ite
    (Within.when (segSet_within (hm.via rfl rfl rfl))) (segSet_within (hm.via rfl rfl rfl)))))))

theorem beginColdstart_within {m : Mask}
    (hm : Mask.Le ⟨0x5080, 0x500000000020000000, 0x100000000000000000000000000000⟩ m) {p : Nat} :
    Eff.Within tables m (@beginColdstart p) := by
  unfold beginColdstart
  exact (Within.look (fun _ => (Within.cons (segSet_within (hm.via rfl rfl rfl)) (Within.cons (Within.setPort
    (hm.obj (by decide +kernel))) (Within.cons (Within.setN (hm.obj (by decide +kernel))) (Within.cons (setSegState_within
    (hm.via rfl rfl rfl)) Within.nil))))))

theorem segmentListenExpires_within {m : Mask}
    (hm : Mask.Le ⟨0x5080, 0x500000000020000000, 0x100000000000000000000000000000⟩ m) {p : Nat} :
    Eff.Within tables m (@segmentListenExpires p) := by
  unfold segmentListenExpires
  exact (Within.look (fun _ => (Within.when (Within.ite (beginColdstart_within (hm.via rfl rfl rfl)) (startListenTimer_within
    (hm.via rfl rfl rfl))))))

theorem backoffExpires_within {m : Mask}
    (hm : Mask.Le ⟨0x5080, 0x500000000020000000, 0x100000000000000000000000000000⟩ m) {p : Nat} :
    Eff.Within tables m (@backoffExpires p) := by
  unfold backoffExpires
  exact (Within.whenS (beginColdstart_within (hm.via rfl rfl rfl)))

theorem slotEnds_within {m : Mask} (hm : Mask.Le ⟨0x0, 0x200000000000000000000, 0x4000⟩ m) {p : Nat} {slot : Nat} :
    Eff.Within tables m (@slotEnds p slot) := by
  unfold slotEnds
  exact (Within.look (fun _ =>
    (by (try dsimp only); split; exacts [(Within.when (Within.seq (Within.count (Ctr.port (hm.ctr (by decide +kernel)))) (Within.bumpObj (Obj.port (hm.obj (by decide +kernel)))))),
    Within.skip])))

theorem plcaStatus_within {m : Mask}
    (hm : Mask.Le ⟨0x80, 0x80000000000000000, 0x100000000000000000000000000000⟩ m) {p : Nat} {status : Bool} :
    Eff.Within tables m (@plcaStatus p status) := by
  unfold plcaStatus
  exact (Within.seq (Within.setPort (hm.obj (by decide +kernel))) (raisePort_within (hm.via rfl rfl rfl)))

theorem execListenOnlyRelease_effect {p : Nat} {node : Nat} {s : State} : ∃ e, @execListenOnlyRelease p node s = done e s ∧ Eff.Within tables ⟨0x21001480, 0x40000000000000000000000000000040000000000000000000, 0x100000000000000000000000000000⟩ e :=
  have hm := Mask.Le.refl ⟨0x21001480, 0x40000000000000000000000000000040000000000000000000, 0x100000000000000000000000000000⟩
  ⟨_, rfl, (listenOnlyLeave_within (hm.via rfl rfl rfl))⟩

theorem execPresenceLeave_effect {p : Nat} {node : Nat} {s : State} : ∃ e, @execPresenceLeave p node s = done e s ∧ Eff.Within tables ⟨0x1080, 0x6000000000000000000, 0x100000000000000000000001000000⟩ e :=
  have hm := Mask.Le.refl ⟨0x1080, 0x6000000000000000000, 0x100000000000000000000001000000⟩
  ⟨_, rfl, (nodeLeaves_within (hm.via rfl rfl rfl))⟩

theorem execPlcaStatusChanged_effect {p : Nat} {status : Bool} {s : State} : ∃ e, @execPlcaStatusChanged p status s = done e s ∧ Eff.Within tables ⟨0x80, 0x80000000000000000, 0x100000000000000000000000000000⟩ e :=
  have hm := Mask.Le.refl ⟨0x80, 0x80000000000000000, 0x100000000000000000000000000000⟩
  ⟨_, rfl, (plcaStatus_within (hm.via rfl rfl rfl))⟩

/-! ## Gates -/

theorem gateSet_within {m : Mask} (hm : Mask.Le ⟨0x2000, 0x0, 0x0⟩ m) {p : Nat} {f : Gate → Gate} :
    Eff.Within tables m (@gateSet p f) := by
  unfold gateSet
  exact (Within.upd (hm.parts' [.traffic] (by decide +kernel)))

theorem applyEntry_within {m : Mask} (hm : Mask.Le ⟨0x2000, 0x60000000000000000000000, 0x0⟩ m) {p : Nat} {e : GateEntry} :
    Eff.Within tables m (@applyEntry p e) := by
  unfold applyEntry
  exact (Within.look (fun _ => (Within.cons (gateSet_within (hm.via rfl rfl rfl)) (Within.cons (Within.setN
    (hm.obj (by decide +kernel))) (Within.cons (Within.setB (hm.obj (by decide +kernel))) Within.nil)))))

theorem fixedStates_within {m : Mask} (hm : Mask.Le ⟨0x2000, 0x60000000000000000000000, 0x0⟩ m) {p : Nat} {states : Nat} :
    Eff.Within tables m (@fixedStates p states) := by
  unfold fixedStates
  exact (Within.cons (gateSet_within (hm.via rfl rfl rfl)) (Within.cons (Within.setN (hm.obj (by decide +kernel))) (Within.cons
    (Within.setB (hm.obj (by decide +kernel))) Within.nil)))

theorem adminStates_within {m : Mask} (hm : Mask.Le ⟨0x2000, 0x60000000000000000000000, 0x0⟩ m) {p : Nat} :
    Eff.Within tables m (@adminStates p) := by
  unfold adminStates
  exact (Within.look (fun _ => (fixedStates_within (hm.via rfl rfl rfl))))

theorem gatesNow_within {m : Mask} (hm : Mask.Le ⟨0x2000, 0x60000000000000000000000, 0x0⟩ m) {p : Nat} :
    Eff.Within tables m (@gatesNow p) := by
  unfold gatesNow
  exact (Within.look (fun _ => (Within.ite (fixedStates_within (hm.via rfl rfl rfl)) (Within.ite Within.skip (Within.ite
    (adminStates_within (hm.via rfl rfl rfl)) (by (try dsimp only); split; exacts [(applyEntry_within (hm.via rfl rfl rfl)),
    (adminStates_within (hm.via rfl rfl rfl))]))))))

theorem showMaxOpen_within {m : Mask} (hm : Mask.Le ⟨0x0, 0x10000000000000000000000000, 0x0⟩ m) {p : Nat} :
    Eff.Within tables m (@showMaxOpen p) := by
  unfold showMaxOpen
  exact (Within.look (fun _ => (Within.forEach (fun _ => (Within.setObj (hm.objAny (by decide +kernel)))))))

theorem takeOver_within {m : Mask}
    (hm : Mask.Le ⟨0x2080, 0x1bf8060000000000000000000000, 0x100000000000000000000000000000⟩ m) {p : Nat} :
    Eff.Within tables m (@takeOver p) := by
  unfold takeOver
  exact (Within.look (fun _ => (Within.cons (Within.forEach (fun _ => (Within.forEach (fun _ => (Within.setObj
    (Obj.portTable (by decide) (hm.objAny (by decide +kernel)))))))) (Within.cons (Within.setN (hm.obj (by decide +kernel)))
    (Within.cons (Within.setN (hm.obj (by decide +kernel))) (Within.cons (Within.setN (hm.obj (by decide +kernel)))
    (Within.cons (Within.setN (hm.obj (by decide +kernel))) (Within.cons (Within.setB (hm.obj (by decide +kernel)))
    (Within.cons (Within.setB (hm.obj (by decide +kernel))) (Within.cons (Within.bumpObj (hm.obj (by decide +kernel)))
    (Within.cons (gateSet_within (hm.via rfl rfl rfl)) (Within.cons (raise_within (hm.via rfl rfl rfl)) (Within.cons
    (showMaxOpen_within (hm.via rfl rfl rfl)) (Within.cons (gatesNow_within (hm.via rfl rfl rfl)) Within.nil))))))))))))))

theorem armGates_within {m : Mask} (hm : Mask.Le ⟨0x2000, 0x600000000000000000000000000, 0x0⟩ m) {p : Nat} :
    Eff.Within tables m (@armGates p) := by
  unfold armGates
  exact (Within.look (fun _ => (Within.ite (Within.cons (gateSet_within (hm.via rfl rfl rfl)) (Within.cons (Within.setB
    (hm.obj (by decide +kernel))) (Within.cons (Within.setN (hm.obj (by decide +kernel))) Within.nil))) (Within.seq
    (gateSet_within (hm.via rfl rfl rfl)) (Within.setB (hm.obj (by decide +kernel)))))))

theorem disarmGates_within {m : Mask} (hm : Mask.Le ⟨0x2000, 0x200000000000000000000000000, 0x0⟩ m) {p : Nat} :
    Eff.Within tables m (@disarmGates p) := by
  unfold disarmGates
  exact (Within.seq (gateSet_within (hm.via rfl rfl rfl)) (Within.setB (hm.obj (by decide +kernel))))

end Sys2Proof.Machine
end

