-- ==== Sys2Proof/Laws/WithinTraffic.lean ====
section
/-! SUPPORT. Frame lemmas: every update that an effect of Machine/Traffic.lean, Machine/Slots.lean, Machine/Streams.lean, Machine/Ingress.lean can issue
lies in a mask. -/

namespace Sys2Proof.Machine

set_option Elab.async false
set_option linter.unusedTactic false
set_option linter.unusedVariables false

/-! ## Traffic -/

theorem queueSet_within {m : Mask} (hm : Mask.Le ⟨0x2000, 0x0, 0x0⟩ m) {q : Nat} {f : List QueuedFrame → List QueuedFrame} :
    Eff.Within tables m (@queueSet q f) := by
  unfold queueSet
  exact (Within.upd (hm.parts' [.traffic] (by decide +kernel)))

theorem groveCount_within {m : Mask} (hm : Mask.Le ⟨0x0, 0x0, 0x1000000000000⟩ m) {p : Nat} {i : Nat} :
    Eff.Within tables m (@groveCount p i) := by
  unfold groveCount
  exact (Within.count (Ctr.anyGrove (hm.ctr (by decide +kernel))))

theorem macSet_within {m : Mask} (hm : Mask.Le ⟨0x2000, 0x0, 0x0⟩ m) {p : Nat} {f : Mac → Mac} :
    Eff.Within tables m (@macSet p f) := by
  unfold macSet
  exact (Within.upd (hm.parts' [.traffic] (by decide +kernel)))

theorem chargeShaper_within {m : Mask} (hm : Mask.Le ⟨0x2000, 0x0, 0x0⟩ m) {q : Nat} {x : Int} :
    Eff.Within tables m (@chargeShaper q x) := by
  unfold chargeShaper
  exact (Within.look (fun _ => (Within.upd (hm.parts' [.traffic] (by decide +kernel)))))

theorem touchShaper_within {m : Mask} (hm : Mask.Le ⟨0x2000, 0x0, 0x0⟩ m) {q : Nat} :
    Eff.Within tables m (@touchShaper q) := by
  unfold touchShaper
  exact (chargeShaper_within (hm.via rfl rfl rfl))

theorem touchShapers_within {m : Mask} (hm : Mask.Le ⟨0x2000, 0x0, 0x0⟩ m) {p : Nat} :
    Eff.Within tables m (@touchShapers p) := by
  unfold touchShapers
  exact (Within.forEach (fun _ => (touchShaper_within (hm.via rfl rfl rfl))))

theorem shaperCommit_within {m : Mask} (hm : Mask.Le ⟨0x2000, 0x0, 0x0⟩ m) {q : Nat} {modeChanged : Bool} :
    Eff.Within tables m (@shaperCommit q modeChanged) := by
  unfold shaperCommit
  exact (Within.look (fun _ => (Within.upd (hm.parts' [.traffic] (by decide +kernel)))))

theorem raiseMark_within {m : Mask}
    (hm : Mask.Le ⟨0x0, 0x40000000000000000000000000000000, 0x0⟩ m) {q : Nat} {col : Nat} {v : Nat} :
    Eff.Within tables m (@raiseMark q col v) := by
  unfold raiseMark
  exact (Within.whenS (Within.setN (hm.objAny (by decide +kernel))))

theorem queueDrop_within {m : Mask}
    (hm : Mask.Le ⟨0x80, 0x8002000000000000000000000000, 0x100000000000000001000000000000⟩ m) {p : Nat} {c : Nat} {handle : Nat} :
    Eff.Within tables m (@queueDrop p c handle) := by
  unfold queueDrop
  exact (Within.cons (groveCount_within (hm.via rfl rfl rfl)) (Within.cons (Within.bumpObj (hm.obj (by decide +kernel)))
    (Within.cons (Within.when (Within.bumpObj (hm.obj (by decide +kernel)))) (Within.cons (raiseOncePerCycle_within
    (hm.via rfl rfl rfl) (raise_within (hm.via rfl rfl rfl))) Within.nil))))

theorem popHead_within {m : Mask} (hm : Mask.Le ⟨0x2000, 0x0, 0x0⟩ m) {q : Nat} :
    Eff.Within tables m (@popHead q) := by
  unfold popHead
  exact (queueSet_within (hm.via rfl rfl rfl))

theorem joinQueue_within {m : Mask}
    (hm : Mask.Le ⟨0x8002080, 0x40000000000000000000000000000000, 0x100000000000000065000000000000⟩ m) {p : Nat} {c : Nat} {f : QueuedFrame} :
    Eff.Within tables m (@joinQueue p c f) := by
  unfold joinQueue
  exact (Within.look (fun _ => (Within.cons (touchShaper_within (hm.via rfl rfl rfl)) (Within.cons (queueSet_within
    (hm.via rfl rfl rfl)) (Within.cons (groveCount_within (hm.via rfl rfl rfl)) (Within.cons (Within.look (fun _ => (Within.seq
    (raiseMark_within (hm.via rfl rfl rfl)) (notePeak_within (hm.via rfl rfl rfl))))) (Within.cons (Within.look (fun _ =>
    (Within.seq (notePeak_within (hm.via rfl rfl rfl)) (notePeak_within (hm.via rfl rfl rfl))))) (Within.cons (wakeGrove_within
    (hm.via rfl rfl rfl)) Within.nil))))))))

theorem admitFrame_within {m : Mask}
    (hm : Mask.Le ⟨0x8002080, 0x40008002000000000000000000000000, 0x100000000200000065000080000000⟩ m) {p : Nat} {c : Nat} {handle : Nat} {f : QueuedFrame} :
    Eff.Within tables m (@admitFrame p c handle f) := by
  unfold admitFrame
  exact (Within.look (fun _ => (Within.ite (queueDrop_within (hm.via rfl rfl rfl)) (Within.ite (Within.cons
    (by split; exacts [(Within.count (hm.ctr (by decide +kernel))), (Within.count (Ctr.port (hm.ctr (by decide +kernel))))])
    (Within.cons (queueDrop_within (hm.via rfl rfl rfl)) (Within.cons (Within.when (Within.seq (groveCount_within
    (hm.via rfl rfl rfl)) (raise_within (hm.via rfl rfl rfl)))) (Within.cons (Within.when (Within.forEach (fun _ =>
    (raise_within (hm.via rfl rfl rfl))))) Within.nil)))) (joinQueue_within (hm.via rfl rfl rfl))))))

theorem queueFollowUps_within {m : Mask}
    (hm : Mask.Le ⟨0x8002280, 0x40008002000000000000000000000000, 0x100000000200000065000080000000⟩ m) {p : Nat} :
    Eff.Within tables m (@queueFollowUps p) := by
  unfold queueFollowUps
  exact (Within.look (fun _ => (Within.when (Within.seq (gptpSet_within (hm.via rfl rfl rfl)) (Within.forEach (fun _ =>
    (Within.ofOption (fun _ => (admitFrame_within (hm.via rfl rfl rfl))))))))))

theorem burstFrame_within {m : Mask} (hm : Mask.Le ⟨0x1000, 0x0, 0x0⟩ m) {p : Nat} :
    Eff.Within tables m (@burstFrame p) := by
  unfold burstFrame
  exact (Within.whenS (Within.look (fun _ => (plcaSet_within (hm.via rfl rfl rfl)))))

theorem burstFrameEnds_within {m : Mask} (hm : Mask.Le ⟨0x1000, 0x0, 0x400⟩ m) {p : Nat} :
    Eff.Within tables m (@burstFrameEnds p) := by
  unfold burstFrameEnds
  exact (Within.whenS (Within.look (fun _ => (Within.seq (Within.count (Ctr.port (hm.ctr (by decide +kernel)))) (plcaSet_within
    (hm.via rfl rfl rfl))))))

theorem hostStarted_within {m : Mask} (hm : Mask.Le ⟨0x8000, 0x0, 0x0⟩ m) {o : Origin} :
    Eff.Within tables m (@hostStarted o) := by
  unfold hostStarted
  exact (by (try dsimp only); split; exacts [(Within.upd (hm.parts' [.txRings] (by decide +kernel))), Within.skip])

theorem inProgress_within {m : Mask} (hm : Mask.Le ⟨0xa000, 0x0, 0x0⟩ m) {p : Nat} {c : Nat} {moved : Bool} {f : QueuedFrame} :
    Eff.Within tables m (@inProgress p c moved f) := by
  unfold inProgress
  exact (Within.look (fun _ => (Within.seq (macSet_within (hm.via rfl rfl rfl)) (hostStarted_within (hm.via rfl rfl rfl)))))

theorem startFrame_within {m : Mask}
    (hm : Mask.Le ⟨0xb000, 0x30000000000000000000000040000000000000000000000000000000, 0x16000000000000000000000000000000000000000000000000001000000000000⟩ m) {p : Nat} {c : Nat} {f : QueuedFrame} :
    Eff.Within tables m (@startFrame p c f) := by
  unfold startFrame
  exact (Within.look (fun _ => (Within.cons (burstFrame_within (hm.via rfl rfl rfl)) (Within.cons (chargeShaper_within
    (hm.via rfl rfl rfl)) (Within.cons (popHead_within (hm.via rfl rfl rfl)) (Within.cons (Within.ite (Within.cons
    (raiseMark_within (hm.via rfl rfl rfl)) (Within.cons (groveCount_within (hm.via rfl rfl rfl)) (Within.cons
    (sampleFrame_within (hm.via rfl rfl rfl)) Within.nil))) (groveCount_within (hm.via rfl rfl rfl))) (Within.cons
    (inProgress_within (hm.via rfl rfl rfl)) Within.nil)))))))

theorem sentFrame_within {m : Mask}
    (hm : Mask.Le ⟨0x20800080, 0x0, 0x100000000000000000000000000000⟩ m) {p : Nat} {o : Origin} {data : Bytes} :
    Eff.Within tables m (@sentFrame p o data) := by
  unfold sentFrame
  exact (by (try dsimp only); split; exacts [(emit_within (hm.via rfl rfl rfl)),
    (Within.seq (emit_within (hm.via rfl rfl rfl)) (usePacketNumber_within (hm.via rfl rfl rfl)))])

theorem endFrame_within {m : Mask}
    (hm : Mask.Le ⟨0x2080b280, 0x10000000000000000000000000000, 0x10000000000000000100000000040c⟩ m) {p : Nat} :
    Eff.Within tables m (@endFrame p) := by
  unfold endFrame
  exact (Within.look (fun _ => (by (try dsimp only); split; exacts [Within.skip,
    (Within.seq (touchShaper_within (hm.via rfl rfl rfl)) (by (try dsimp only); split; exacts [(Within.cons (emit_within (hm.via rfl rfl rfl)) (Within.cons (macSet_within (hm.via rfl rfl rfl)) (Within.cons (groveCount_within (hm.via rfl rfl rfl)) (Within.cons (Within.bumpObj (hm.obj (by decide +kernel))) (Within.cons (queueSet_within (hm.via rfl rfl rfl)) Within.nil))))),
    (Within.cons (sentFrame_within (hm.via rfl rfl rfl)) (Within.cons (macSet_within (hm.via rfl rfl rfl)) (Within.cons (Within.count (Ctr.port (hm.ctr (by decide +kernel)))) (Within.cons (Within.countN (Ctr.port (hm.ctr (by decide +kernel)))) (Within.cons (burstFrameEnds_within (hm.via rfl rfl rfl)) (Within.cons (finishOrigin_within (hm.via rfl rfl rfl)) Within.nil))))))]))])))

theorem collided_within {m : Mask} (hm : Mask.Le ⟨0x1000b200, 0x0, 0x80⟩ m) {p : Nat} :
    Eff.Within tables m (@collided p) := by
  unfold collided
  exact (Within.look (fun _ => (Within.ofOption (fun _ => (withFree_within (hm.via rfl rfl rfl) (fun _ => (Within.seq
    (Within.count (Ctr.port (hm.ctr (by decide +kernel)))) (Within.ite (Within.seq (macSet_within (hm.via rfl rfl rfl))
    (finishOrigin_within (hm.via rfl rfl rfl))) (Within.cons (macSet_within (hm.via rfl rfl rfl)) (Within.cons (Within.ite
    (segSet_within (hm.via rfl rfl rfl)) (queueSet_within (hm.via rfl rfl rfl))) (Within.cons (Within.when (plcaSet_within
    (hm.via rfl rfl rfl))) Within.nil)))))))))))

theorem dropHead_within {m : Mask} (hm : Mask.Le ⟨0xa200, 0x0, 0x0⟩ m) {p : Nat} {c : Nat} {f : QueuedFrame} {status : Nat} :
    Eff.Within tables m (@dropHead p c f status) := by
  unfold dropHead
  exact (Within.look (fun _ => (Within.seq (popHead_within (hm.via rfl rfl rfl)) (finishOrigin_within (hm.via rfl rfl rfl)))))

theorem clearHeads_within {m : Mask} (hm : Mask.Le ⟨0xa280, 0x4000000000000000000000000000, 0x100000000000000001000000000000⟩ m) {p c n : Nat} :
    Eff.Within tables m (clearHeads p c n) := by
  induction n with
  | zero => exact Within.skip
  | succ n ih =>
    unfold clearHeads
    exact Within.look fun _ => by
      split
      · split
        · exact Within.cons (dropHead_within (hm.via rfl rfl rfl)) (Within.cons (Within.when (Within.cons (groveCount_within (hm.via rfl rfl rfl))
            (Within.cons (Within.bumpObj (hm.obj (by decide +kernel))) (Within.cons (raise_within (hm.via rfl rfl rfl)) Within.nil)))) (Within.cons ih Within.nil))
        · exact Within.skip
      · exact Within.skip

theorem noteHeld_within {m : Mask}
    (hm : Mask.Le ⟨0x2000, 0x2000000000000000000000000000, 0x1000000000000⟩ m) {p : Nat} {c : Nat} :
    Eff.Within tables m (@noteHeld p c) := by
  unfold noteHeld
  exact (Within.look (fun _ =>
    (by (try dsimp only); split; exacts [(Within.ite Within.skip (Within.ite (groveCount_within (hm.via rfl rfl rfl)) (Within.when (Within.cons (groveCount_within (hm.via rfl rfl rfl)) (Within.cons (Within.bumpObj (hm.obj (by decide +kernel))) (Within.cons (Within.when (groveCount_within (hm.via rfl rfl rfl))) (Within.cons (queueSet_within (hm.via rfl rfl rfl)) Within.nil))))))),
    Within.skip])))

theorem pickQueued_within {m : Mask}
    (hm : Mask.Le ⟨0x800b280, 0x3000000000000000000000004000e002000000000000000000000000, 0x16000000000000000000000000000000000100000000200000065000080000000⟩ m) {p : Nat} :
    Eff.Within tables m (@pickQueued p) := by
  unfold pickQueued
  exact (Within.cons (queueFollowUps_within (hm.via rfl rfl rfl)) (Within.cons (Within.forEach (fun _ => (clearHeads_within
    (hm.via rfl rfl rfl)))) (Within.cons (Within.look (fun _ =>
    (by (try dsimp only); split; exacts [(Within.seq (Within.forEach (fun _ => (noteHeld_within (hm.via rfl rfl rfl)))) (by (try dsimp only); split; exacts [(startFrame_within (hm.via rfl rfl rfl)),
    Within.skip])), (Within.forEach (fun _ => (noteHeld_within (hm.via rfl rfl rfl))))]))) Within.nil)))

theorem startMoved_within {m : Mask}
    (hm : Mask.Le ⟨0xb000, 0x30000000000000000000000040000000000000000000000000000000, 0x16000000000000000000000000000000000000000000000000000000000000000⟩ m) {p : Nat} {c : Nat} {f : QueuedFrame} :
    Eff.Within tables m (@startMoved p c f) := by
  unfold startMoved
  exact (Within.look (fun _ => (Within.cons (burstFrame_within (hm.via rfl rfl rfl)) (Within.cons (segSet_within
    (hm.via rfl rfl rfl)) (Within.cons (Within.when (Within.seq (raiseMark_within (hm.via rfl rfl rfl)) (sampleFrame_within
    (hm.via rfl rfl rfl)))) (Within.cons (inProgress_within (hm.via rfl rfl rfl)) Within.nil))))))

theorem whereIdle_within {m : Mask} (hm : Mask.Le ⟨0x10000000, 0x0, 0x0⟩ m) {p : Nat} {e : Eff} (h_e : Eff.Within tables m e) :
    Eff.Within tables m (@whereIdle p e) := by
  unfold whereIdle
  exact (Within.look (fun _ => (Within.ite (withFree_within (hm.via rfl rfl rfl) (fun _ => (Within.when h_e))) h_e)))

theorem movedWithoutSa_within {m : Mask} (hm : Mask.Le ⟨0x9200, 0x0, 0x0⟩ m) {p : Nat} :
    Eff.Within tables m (@movedWithoutSa p) := by
  unfold movedWithoutSa
  exact (Within.whenS (Within.look (fun _ => (Within.seq (segSet_within (hm.via rfl rfl rfl)) (Within.forEach (fun _ =>
    (finishOrigin_within (hm.via rfl rfl rfl))))))))

theorem pickFrame_within {m : Mask}
    (hm : Mask.Le ⟨0x800b280, 0x3000000000000000000000004000e002000000000000000000000000, 0x16000000000000000000000000000000000100000000200000065000080000000⟩ m) {p : Nat} :
    Eff.Within tables m (@pickFrame p) := by
  unfold pickFrame
  exact (Within.whenS (Within.seq (movedWithoutSa_within (hm.via rfl rfl rfl)) (Within.look (fun _ =>
    (by (try dsimp only); split; exacts [(Within.when (startMoved_within (hm.via rfl rfl rfl))),
    (Within.when (pickQueued_within (hm.via rfl rfl rfl)))])))))

theorem cutFrame_within {m : Mask} (hm : Mask.Le ⟨0x2000, 0x0, 0x0⟩ m) {p : Nat} :
    Eff.Within tables m (@cutFrame p) := by
  unfold cutFrame
  exact (Within.look (fun _ =>
    (by (try dsimp only); split; exacts [(Within.when (Within.ofOption (fun _ => (macSet_within (hm.via rfl rfl rfl))))),
    Within.skip])))

theorem kick_within {m : Mask}
    (hm : Mask.Le ⟨0x1800b280, 0x3000000000000000000000004000e002000000000000000000000000, 0x16000000000000000000000000000000000100000000200000065000080000000⟩ m) {p : Nat} :
    Eff.Within tables m (@kick p) := by
  unfold kick
  exact (Within.look (fun _ =>
    (by (try dsimp only); split; exacts [(whereIdle_within (hm.via rfl rfl rfl) (pickFrame_within (hm.via rfl rfl rfl))),
    (Within.when (cutFrame_within (hm.via rfl rfl rfl)))])))

theorem followerTurn_within {m : Mask} (hm : Mask.Le ⟨0x1000, 0x0, 0x200⟩ m) {p : Nat} :
    Eff.Within tables m (@followerTurn p) := by
  unfold followerTurn
  exact (Within.whenS (Within.look (fun _ => (Within.cons (Within.count (Ctr.port (hm.ctr (by decide +kernel)))) (Within.cons
    (segSet_within (hm.via rfl rfl rfl)) (Within.cons (opportunity_within (hm.via rfl rfl rfl)) Within.nil))))))

theorem slotFramesEnd_within {m : Mask} (hm : Mask.Le ⟨0x9200, 0x0, 0x0⟩ m) {p : Nat} :
    Eff.Within tables m (@slotFramesEnd p) := by
  unfold slotFramesEnd
  exact (Within.look (fun _ => (Within.seq (segSet_within (hm.via rfl rfl rfl)) (Within.forEach (fun _ => (finishOrigin_within
    (hm.via rfl rfl rfl)))))))

theorem macBecomesFree_within {m : Mask}
    (hm : Mask.Le ⟨0x3880b280, 0x3000000000000000000000004001e002000000000000000000000000, 0x1600000000000000000000000000000000010000000020000006500008000068c⟩ m) {p : Nat} {collision : Bool} :
    Eff.Within tables m (@macBecomesFree p collision) := by
  unfold macBecomesFree
  exact (Within.seq (slotFramesEnd_within (hm.via rfl rfl rfl)) (Within.whenS (Within.cons (followerTurn_within
    (hm.via rfl rfl rfl)) (Within.cons (Within.ite (collided_within (hm.via rfl rfl rfl)) (endFrame_within
    (hm.via rfl rfl rfl))) (Within.cons (pickFrame_within (hm.via rfl rfl rfl)) Within.nil)))))

theorem enqueueFrame_within {m : Mask}
    (hm : Mask.Le ⟨0x1800b280, 0x3000000000000000000000004000e002000000000000000000000000, 0x16000000000000000000000000000000000100000000200000065000080000000⟩ m) {p : Nat} {c : Nat} {handle : Nat} {f : QueuedFrame} :
    Eff.Within tables m (@enqueueFrame p c handle f) := by
  unfold enqueueFrame
  exact (Within.seq (admitFrame_within (hm.via rfl rfl rfl)) (kick_within (hm.via rfl rfl rfl)))

theorem sendUrgent_within {m : Mask}
    (hm : Mask.Le ⟨0x1800b280, 0x3000000000000000000000004000e002000000000000000000000000, 0x16000000000000000000000000000000000100000000200000065000080000000⟩ m) {p : Nat} {o : Origin} {data : Bytes} :
    Eff.Within tables m (@sendUrgent p o data) := by
  unfold sendUrgent
  exact (Within.look (fun _ => (Within.cons (segSet_within (hm.via rfl rfl rfl)) (Within.cons (wakeGrove_within
    (hm.via rfl rfl rfl)) (Within.cons (kick_within (hm.via rfl rfl rfl)) Within.nil)))))

theorem sendFromKiln_within {m : Mask}
    (hm : Mask.Le ⟨0x3880b280, 0x3000000000000000000000004000e002000000000000000000000000, 0x16002000000000000000000000000000000100000000200000065000080000000⟩ m) {p : Nat} {o : Origin} {data : Bytes} :
    Eff.Within tables m (@sendFromKiln p o data) := by
  unfold sendFromKiln
  exact (Within.look (fun _ => (Within.ite (Within.when (Within.seq (Within.count (hm.ctr (by decide +kernel)))
    (by (try dsimp only); split; exacts [(emit_within (hm.via rfl rfl rfl)),
    (Within.seq (emit_within (hm.via rfl rfl rfl)) (usePacketNumber_within (hm.via rfl rfl rfl)))]))) (Within.when
    (sendUrgent_within (hm.via rfl rfl rfl))))))

theorem enqueueOrigin_within {m : Mask}
    (hm : Mask.Le ⟨0x1800b280, 0x3000000000000000000000004000e002000000000000000000000000, 0x16000000000000000000000000000000000100000000200000065000080000000⟩ m) {p : Nat} {c : Nat} {o : Origin} {data : Bytes} :
    Eff.Within tables m (@enqueueOrigin p c o data) := by
  unfold enqueueOrigin
  exact (Within.look (fun _ => (enqueueFrame_within (hm.via rfl rfl rfl))))

theorem enqueueOwn_within {m : Mask}
    (hm : Mask.Le ⟨0x1800b280, 0x3000000000000000000000004000e002000000000000000000000000, 0x16000000000000000000000000000000000100000000200000065000080000000⟩ m) {p : Nat} {c : Nat} {data : Bytes} :
    Eff.Within tables m (@enqueueOwn p c data) := by
  unfold enqueueOwn
  exact (enqueueOrigin_within (hm.via rfl rfl rfl))

theorem gateBoundary_within {m : Mask}
    (hm : Mask.Le ⟨0x1800b280, 0x3000000000000000000000004000e002060000000000000000000000, 0x1600000000000000000000000000000000010000000020000006d000080000000⟩ m) {p : Nat} :
    Eff.Within tables m (@gateBoundary p) := by
  unfold gateBoundary
  exact (Within.look (fun _ => (Within.cons (touchShapers_within (hm.via rfl rfl rfl)) (Within.cons (gatesNow_within
    (hm.via rfl rfl rfl)) (Within.cons (Within.look (fun _ => (Within.when (groveLate_within (hm.via rfl rfl rfl)))))
    (Within.cons (kick_within (hm.via rfl rfl rfl)) Within.nil))))))

theorem gateTakesOver_within {m : Mask}
    (hm : Mask.Le ⟨0x1800b280, 0x3000000000000000000000004000fbfa060000000000000000000000, 0x16000000000000000000000000000000000100000000200000065000080000000⟩ m) {p : Nat} :
    Eff.Within tables m (@gateTakesOver p) := by
  unfold gateTakesOver
  exact (Within.whenS (Within.cons (touchShapers_within (hm.via rfl rfl rfl)) (Within.cons (takeOver_within (hm.via rfl rfl rfl))
    (Within.cons (kick_within (hm.via rfl rfl rfl)) Within.nil))))

theorem timedCuts_within {m : Mask} (hm : Mask.Le ⟨0x2000, 0x0, 0x0⟩ m) :
    Eff.Within tables m timedCuts := by
  unfold timedCuts
  exact (Within.look (fun _ => (Within.forEach (fun _ => (cutFrame_within (hm.via rfl rfl rfl))))))

theorem laneShapers_within {m : Mask} (hm : Mask.Le ⟨0x2000, 0x0, 0x0⟩ m) :
    Eff.Within tables m laneShapers := by
  unfold laneShapers
  exact (Within.look (fun _ => (Within.when (Within.seq (touchShapers_within (hm.via rfl rfl rfl)) (touchShapers_within
    (hm.via rfl rfl rfl))))))

theorem gateCommit_within {m : Mask}
    (hm : Mask.Le ⟨0x1800b280, 0x3000000000000000000000004000e612060000000000000000000000, 0x16000000000000000000000000000000000100000000200000065000080000000⟩ m) {p : Nat} :
    Eff.Within tables m (@gateCommit p) := by
  unfold gateCommit
  exact (Within.look (fun _ => (Within.cons (touchShapers_within (hm.via rfl rfl rfl)) (Within.cons (Within.ite (armGates_within
    (hm.via rfl rfl rfl)) (disarmGates_within (hm.via rfl rfl rfl))) (Within.cons (Within.when (gateSet_within
    (hm.via rfl rfl rfl))) (Within.cons (gatesNow_within (hm.via rfl rfl rfl)) (Within.cons (showMaxOpen_within
    (hm.via rfl rfl rfl)) (Within.cons (kick_within (hm.via rfl rfl rfl)) Within.nil))))))))

theorem gatesFollowMode_within {μ : Mask}
    (hm : Mask.Le ⟨0x1800b280, 0x3000000000000000000000004000fffa060000000000000000000000, 0x16000000000000000000000000000000000100000000200000065000080000000⟩ μ) {m : Nat} :
    Eff.Within tables μ (@gatesFollowMode m) := by
  unfold gatesFollowMode
  exact (Within.look (fun _ => (Within.forEach (fun _ => (Within.cons (Within.setN (hm.obj (by decide +kernel))) (Within.cons
    (touchShapers_within (hm.via rfl rfl rfl)) (Within.cons (takeOver_within (hm.via rfl rfl rfl)) (Within.cons (kick_within
    (hm.via rfl rfl rfl)) Within.nil))))))))

theorem sendVerify_within {m : Mask} (hm : Mask.Le ⟨0x20002000, 0x0, 0x0⟩ m) {p : Nat} :
    Eff.Within tables m (@sendVerify p) := by
  unfold sendVerify
  exact (Within.whenS (Within.seq (macSet_within (hm.via rfl rfl rfl)) (emit_within (hm.via rfl rfl rfl))))

theorem startVerify_within {m : Mask}
    (hm : Mask.Le ⟨0x20002080, 0x18000000000000000000000, 0x100000000000000000000000000000⟩ m) {p : Nat} :
    Eff.Within tables m (@startVerify p) := by
  unfold startVerify
  exact (Within.look (fun _ => (Within.ite (Within.cons (Within.setN (hm.obj (by decide +kernel))) (Within.cons (macSet_within
    (hm.via rfl rfl rfl)) (Within.cons (sendVerify_within (hm.via rfl rfl rfl)) (Within.cons (showPreemption_within
    (hm.via rfl rfl rfl)) Within.nil)))) (Within.seq (Within.setN (hm.obj (by decide +kernel))) (showPreemption_within
    (hm.via rfl rfl rfl))))))

theorem verifyGoesOn_within {m : Mask} (hm : Mask.Le ⟨0x20002000, 0x0, 0x0⟩ m) {p : Nat} :
    Eff.Within tables m (@verifyGoesOn p) := by
  unfold verifyGoesOn
  exact (Within.whenS (sendVerify_within (hm.via rfl rfl rfl)))

theorem verifyTimer_within {m : Mask}
    (hm : Mask.Le ⟨0x20002080, 0x18000000000000000000000, 0x100000000000000000000000000000⟩ m) {p : Nat} :
    Eff.Within tables m (@verifyTimer p) := by
  unfold verifyTimer
  exact (Within.whenS (Within.look (fun _ => (Within.ite (sendVerify_within (hm.via rfl rfl rfl)) (Within.seq (Within.setN
    (hm.obj (by decide +kernel))) (showPreemption_within (hm.via rfl rfl rfl)))))))

theorem verifyResponds_within {m : Mask}
    (hm : Mask.Le ⟨0x1800b280, 0x3000000000000000000000004000e002018000000000000000000000, 0x16000000000000000000000000000000000100000000200000065000080000000⟩ m) {p : Nat} :
    Eff.Within tables m (@verifyResponds p) := by
  unfold verifyResponds
  exact (Within.whenS (Within.cons (Within.setN (hm.obj (by decide +kernel))) (Within.cons (showPreemption_within
    (hm.via rfl rfl rfl)) (Within.cons (kick_within (hm.via rfl rfl rfl)) Within.nil))))

theorem preemptionCommit_within {m : Mask}
    (hm : Mask.Le ⟨0x20002080, 0x18000000000000000000000, 0x100000000000000000000000000000⟩ m) {p : Nat} :
    Eff.Within tables m (@preemptionCommit p) := by
  unfold preemptionCommit
  exact (Within.look (fun _ => (Within.ite (startVerify_within (hm.via rfl rfl rfl)) (Within.seq (Within.when (Within.setN
    (hm.obj (by decide +kernel)))) (showPreemption_within (hm.via rfl rfl rfl))))))

theorem highWaterReset_within {m : Mask} (hm : Mask.Le ⟨0x0, 0x180000000000000000000000000000000, 0x0⟩ m) {q : Nat} :
    Eff.Within tables m (@highWaterReset q) := by
  unfold highWaterReset
  exact (Within.seq (Within.setN (hm.obj (by decide +kernel))) (Within.setN (hm.obj (by decide +kernel))))

theorem execMacFree_effect {medium : MediumFree} {s : State} : ∃ e, @execMacFree medium s = done e s ∧ Eff.Within tables ⟨0x3880b280, 0x3000000000000000000000004001e002000000000000000000000000, 0x1600000000000000000000000000000000010000000020000006500008000068c⟩ e :=
  have hm := Mask.Le.refl ⟨0x3880b280, 0x3000000000000000000000004001e002000000000000000000000000, 0x1600000000000000000000000000000000010000000020000006500008000068c⟩
  ⟨_, rfl, (operating_within (hm.via rfl rfl rfl) (macBecomesFree_within (hm.via rfl rfl rfl)))⟩

theorem execLaunchTimeReached_effect {p : Nat} {_c : Nat} {s : State} : ∃ e, @execLaunchTimeReached p _c s = done e s ∧ Eff.Within tables ⟨0x1800b280, 0x3000000000000000000000004000e002000000000000000000000000, 0x16000000000000000000000000000000000100000000200000065000080000000⟩ e :=
  have hm := Mask.Le.refl ⟨0x1800b280, 0x3000000000000000000000004000e002000000000000000000000000, 0x16000000000000000000000000000000000100000000200000065000080000000⟩
  ⟨_, rfl, (operating_within (hm.via rfl rfl rfl) (kick_within (hm.via rfl rfl rfl)))⟩

theorem execGateEntry_effect {p : Nat} {s : State} : ∃ e, @execGateEntry p s = done e s ∧ Eff.Within tables ⟨0x1800b280, 0x3000000000000000000000004000e002060000000000000000000000, 0x1600000000000000000000000000000000010000000020000006d000080000000⟩ e :=
  have hm := Mask.Le.refl ⟨0x1800b280, 0x3000000000000000000000004000e002060000000000000000000000, 0x1600000000000000000000000000000000010000000020000006d000080000000⟩
  ⟨_, rfl, (operating_within (hm.via rfl rfl rfl) (gateBoundary_within (hm.via rfl rfl rfl)))⟩

theorem execGateTakeOver_effect {p : Nat} {s : State} : ∃ e, @execGateTakeOver p s = done e s ∧ Eff.Within tables ⟨0x1800b280, 0x3000000000000000000000004000fbfa060000000000000000000000, 0x16000000000000000000000000000000000100000000200000065000080000000⟩ e :=
  have hm := Mask.Le.refl ⟨0x1800b280, 0x3000000000000000000000004000fbfa060000000000000000000000, 0x16000000000000000000000000000000000100000000200000065000080000000⟩
  ⟨_, rfl, (operating_within (hm.via rfl rfl rfl) (gateTakesOver_within (hm.via rfl rfl rfl)))⟩

theorem execPreemptionVerifyTimer_effect {p : Nat} {s : State} : ∃ e, @execPreemptionVerifyTimer p s = done e s ∧ Eff.Within tables ⟨0x20002080, 0x18000000000000000000000, 0x100000000000000000000000000000⟩ e :=
  have hm := Mask.Le.refl ⟨0x20002080, 0x18000000000000000000000, 0x100000000000000000000000000000⟩
  ⟨_, rfl, (operating_within (hm.via rfl rfl rfl) (verifyTimer_within (hm.via rfl rfl rfl)))⟩

theorem execPreemptionRespond_effect {p : Nat} {s : State} : ∃ e, @execPreemptionRespond p s = done e s ∧ Eff.Within tables ⟨0x1800b280, 0x3000000000000000000000004000e002018000000000000000000000, 0x16000000000000000000000000000000000100000000200000065000080000000⟩ e :=
  have hm := Mask.Le.refl ⟨0x1800b280, 0x3000000000000000000000004000e002018000000000000000000000, 0x16000000000000000000000000000000000100000000200000065000080000000⟩
  ⟨_, rfl, (operating_within (hm.via rfl rfl rfl) (verifyResponds_within (hm.via rfl rfl rfl)))⟩

/-! ## Slots -/

theorem takeContent_within {m : Mask} (hm : Mask.Le ⟨0x3000, 0x0, 0x1000000000000⟩ m) {p : Nat} {x : Slot} :
    Eff.Within tables m (@takeContent p x) := by
  unfold takeContent
  exact (Within.look (fun _ => (Within.ite (segSet_within (hm.via rfl rfl rfl)) (Within.seq (popHead_within (hm.via rfl rfl rfl))
    (groveCount_within (hm.via rfl rfl rfl))))))

theorem unlatch_within {m : Mask} (hm : Mask.Le ⟨0x9200, 0x0, 0x0⟩ m) {p : Nat} {x : Slot} {status : Nat} :
    Eff.Within tables m (@unlatch p x status) := by
  unfold unlatch
  exact (Within.look (fun _ => (Within.ofOption (fun _ => (Within.seq (segSet_within (hm.via rfl rfl rfl)) (finishOrigin_within
    (hm.via rfl rfl rfl)))))))

theorem oversize_within {m : Mask}
    (hm : Mask.Le ⟨0x9200, 0x800000000000000000000, 0x60000⟩ m) {p : Nat} {x : Slot} {f : QueuedFrame} :
    Eff.Within tables m (@oversize p x f) := by
  unfold oversize
  exact (Within.look (fun _ => (Within.seq (Within.bumpObj (Obj.port (hm.obj (by decide +kernel)))) (Within.ite (Within.seq
    (segSet_within (hm.via rfl rfl rfl)) (Within.count (Ctr.port (hm.ctr (by decide +kernel))))) (Within.seq (Within.count
    (Ctr.port (hm.ctr (by decide +kernel)))) (finishOrigin_within (hm.via rfl rfl rfl)))))))

theorem latchSlot_within {m : Mask} (hm : Mask.Le ⟨0xb200, 0x800000000000000000000, 0x1000000060000⟩ m) {p : Nat} {slot : Nat} :
    Eff.Within tables m (@latchSlot p slot) := by
  unfold latchSlot
  exact (Within.look (fun _ =>
    (by (try dsimp only); split; exacts [(Within.ite Within.skip (Within.seq (unlatch_within (hm.via rfl rfl rfl)) (Within.ofOption (fun _ => (Within.seq (takeContent_within (hm.via rfl rfl rfl)) (Within.ite (segSet_within (hm.via rfl rfl rfl)) (oversize_within (hm.via rfl rfl rfl)))))))),
    Within.skip])))

theorem latchInstant_within {m : Mask}
    (hm : Mask.Le ⟨0x800b280, 0x800000000000000000000, 0x10000000000000006d000000060000⟩ m) {p : Nat} {slot : Nat} :
    Eff.Within tables m (@latchInstant p slot) := by
  unfold latchInstant
  exact (Within.look (fun _ => (Within.ite (latchSlot_within (hm.via rfl rfl rfl)) (Within.when (groveLate_within
    (hm.via rfl rfl rfl))))))

theorem sendOnPort_within {m : Mask}
    (hm : Mask.Le ⟨0x20800080, 0x0, 0x10000000000000000000000000000c⟩ m) {p : Nat} {data : Bytes} :
    Eff.Within tables m (@sendOnPort p data) := by
  unfold sendOnPort
  exact (Within.cons (emit_within (hm.via rfl rfl rfl)) (Within.cons (usePacketNumber_within (hm.via rfl rfl rfl)) (Within.cons
    (Within.count (Ctr.port (hm.ctr (by decide +kernel)))) (Within.cons (Within.countN (Ctr.port
    (hm.ctr (by decide +kernel)))) Within.nil))))

theorem sendInSlot_within {m : Mask}
    (hm : Mask.Le ⟨0x20800080, 0x0, 0x10000000000000000000000000088c⟩ m) {p : Nat} {data : Bytes} {collision : Bool} :
    Eff.Within tables m (@sendInSlot p data collision) := by
  unfold sendInSlot
  exact (Within.cons (sendOnPort_within (hm.via rfl rfl rfl)) (Within.cons (Within.count (Ctr.port (hm.ctr (by decide +kernel))))
    (Within.cons (Within.when (Within.count (Ctr.port (hm.ctr (by decide +kernel))))) Within.nil)))

theorem sendLatched_within {m : Mask}
    (hm : Mask.Le ⟨0x20809280, 0x30000000000000000000000040000000000000000000000000000000, 0x1600000000000000000000000000000000010000000000000000000000000288c⟩ m) {p : Nat} {x : Slot} {collision : Bool} :
    Eff.Within tables m (@sendLatched p x collision) := by
  unfold sendLatched
  exact (Within.look (fun _ =>
    (by (try dsimp only); split; exacts [(Within.ite (Within.seq (unlatch_within (hm.via rfl rfl rfl)) (Within.count (Ctr.port (hm.ctr (by decide +kernel))))) (Within.cons (Within.when (Within.seq (raiseMark_within (hm.via rfl rfl rfl)) (sampleFrame_within (hm.via rfl rfl rfl)))) (Within.cons (sendInSlot_within (hm.via rfl rfl rfl)) (Within.cons (hostStarted_within (hm.via rfl rfl rfl)) (Within.cons (segSet_within (hm.via rfl rfl rfl)) Within.nil))))),
    (Within.count (Ctr.port (hm.ctr (by decide +kernel))))])))

theorem slotActs_within {m : Mask}
    (hm : Mask.Le ⟨0x2080d280, 0x30000000000000000000000040000000000000100000000020000000, 0x1600000000000000000000000000000000010000000000000000000000408288c⟩ m) {p : Nat} {slot : Nat} {collision : Bool} :
    Eff.Within tables m (@slotActs p slot collision) := by
  unfold slotActs
  exact (Within.look (fun _ =>
    (by (try dsimp only); split; exacts [(Within.ite Within.skip (Within.ite (Within.when (Within.cons (sendInSlot_within (hm.via rfl rfl rfl)) (Within.cons (Within.count (Ctr.port (hm.ctr (by decide +kernel)))) (Within.cons (Within.when (coldstartCollision_within (hm.via rfl rfl rfl))) Within.nil)))) (Within.when (Within.ite (sendLatched_within (hm.via rfl rfl rfl)) (Within.seq (unlatch_within (hm.via rfl rfl rfl)) (Within.count (Ctr.port (hm.ctr (by decide +kernel))))))))),
    Within.skip])))

theorem tailBegins_within {m : Mask}
    (hm : Mask.Le ⟨0x2800b280, 0x3000000000000000000000004000e002000000000000000000000000, 0x1600000000000000000000000000000000010000000020000006d000080400100⟩ m) {p : Nat} {busyAtEnd : Bool} :
    Eff.Within tables m (@tailBegins p busyAtEnd) := by
  unfold tailBegins
  exact (Within.look (fun _ => (Within.ite Within.skip (Within.ite (groveLate_within (hm.via rfl rfl rfl)) (Within.cons
    (segSet_within (hm.via rfl rfl rfl)) (Within.cons (beginRound_within (hm.via rfl rfl rfl)) (Within.cons (pickFrame_within
    (hm.via rfl rfl rfl)) (Within.cons (Within.when (Within.seq (Within.count (Ctr.port (hm.ctr (by decide +kernel))))
    (raisePort_within (hm.via rfl rfl rfl)))) Within.nil))))))))

theorem roundEnds_within {m : Mask}
    (hm : Mask.Le ⟨0x2800b280, 0x3000000000000000000000004000e002000000000000000000000000, 0x16000000000000000000000000000000000100000000200000065000080000100⟩ m) {p : Nat} :
    Eff.Within tables m (@roundEnds p) := by
  unfold roundEnds
  exact (Within.look (fun _ => (Within.cons (Within.when (segSet_within (hm.via rfl rfl rfl))) (Within.cons (plcaSet_within
    (hm.via rfl rfl rfl)) (Within.cons (Within.when (Within.seq (beginRound_within (hm.via rfl rfl rfl)) (pickFrame_within
    (hm.via rfl rfl rfl)))) Within.nil)))))

theorem roundGoesOn_within {m : Mask}
    (hm : Mask.Le ⟨0x2800b280, 0x3000000000000000000000004000e002000000000000000000000000, 0x16000000000000000000000000000000000100000000200000065000080000100⟩ m) {p : Nat} :
    Eff.Within tables m (@roundGoesOn p) := by
  unfold roundGoesOn
  exact (Within.look (fun _ =>
    (by (try dsimp only); split; exacts [(Within.when (Within.seq (beginRound_within (hm.via rfl rfl rfl)) (pickFrame_within (hm.via rfl rfl rfl)))),
    (Within.ite (Within.ite (opportunity_within (hm.via rfl rfl rfl)) (roundEnds_within (hm.via rfl rfl rfl))) (plcaSet_within (hm.via rfl rfl rfl)))])))

theorem plcaStep_within {m : Mask}
    (hm : Mask.Le ⟨0x3800b280, 0x3000000000000000000000004000e002000000000000000000000000, 0x16000000000000000000000000000000000100000000200000065000080000100⟩ m) {p : Nat} :
    Eff.Within tables m (@plcaStep p) := by
  unfold plcaStep
  exact (Within.look (fun _ => (Within.when (withFree_within (hm.via rfl rfl rfl) (fun _ => (Within.ite (plcaSet_within
    (hm.via rfl rfl rfl)) (roundGoesOn_within (hm.via rfl rfl rfl))))))))

theorem mediumTick_within {m : Mask}
    (hm : Mask.Le ⟨0x3800b280, 0x3000000000000000000000004000e002000000000000000000000000, 0x16000000000000000000000000000000000100000000200000065000080000100⟩ m) {p : Nat} :
    Eff.Within tables m (@mediumTick p) := by
  unfold mediumTick
  exact (Within.cons (slotFramesEnd_within (hm.via rfl rfl rfl)) (Within.cons (Within.whenS (plcaStep_within
    (hm.via rfl rfl rfl))) (Within.cons (Within.whenS (whereIdle_within (hm.via rfl rfl rfl) (pickFrame_within
    (hm.via rfl rfl rfl)))) Within.nil)))

theorem segmentMoves_within {m : Mask} (hm : Mask.Le ⟨0x2000, 0x0, 0x0⟩ m) {p : Nat} {e : Eff} (h_e : Eff.Within tables m e) :
    Eff.Within tables m (@segmentMoves p e) := by
  unfold segmentMoves
  exact (Within.seq (Within.when (touchShapers_within (hm.via rfl rfl rfl))) h_e)

theorem slotPasses_within {m : Mask} (hm : Mask.Le ⟨0x9200, 0x200000000000000000000, 0x4000⟩ m) {p : Nat} {slot : Nat} :
    Eff.Within tables m (@slotPasses p slot) := by
  unfold slotPasses
  exact (Within.seq (slotFramesEnd_within (hm.via rfl rfl rfl)) (slotEnds_within (hm.via rfl rfl rfl)))

theorem execSlotLatch_effect {p : Nat} {slot : Nat} {s : State} : ∃ e, @execSlotLatch p slot s = done e s ∧ Eff.Within tables ⟨0x800b280, 0x800000000000000000000, 0x10000000000000006d000000060000⟩ e :=
  have hm := Mask.Le.refl ⟨0x800b280, 0x800000000000000000000, 0x10000000000000006d000000060000⟩
  ⟨_, rfl, (operating_within (hm.via rfl rfl rfl) (latchInstant_within (hm.via rfl rfl rfl)))⟩

theorem execSlotActionPoint_effect {p : Nat} {slot : Nat} {collision : Bool} {s : State} : ∃ e, @execSlotActionPoint p slot collision s = done e s ∧ Eff.Within tables ⟨0x2080d280, 0x30000000000000000000000040000000000000100000000020000000, 0x1600000000000000000000000000000000010000000000000000000000408288c⟩ e :=
  have hm := Mask.Le.refl ⟨0x2080d280, 0x30000000000000000000000040000000000000100000000020000000, 0x1600000000000000000000000000000000010000000000000000000000408288c⟩
  ⟨_, rfl, (operating_within (hm.via rfl rfl rfl) (slotActs_within (hm.via rfl rfl rfl)))⟩

theorem execSegmentListenTimer_effect {p : Nat} {s : State} : ∃ e, @execSegmentListenTimer p s = done e s ∧ Eff.Within tables ⟨0x7080, 0x500000000020000000, 0x100000000000000000000000000000⟩ e :=
  have hm := Mask.Le.refl ⟨0x7080, 0x500000000020000000, 0x100000000000000000000000000000⟩
  ⟨_, rfl, (segmentMoves_within (hm.via rfl rfl rfl) (segmentListenExpires_within (hm.via rfl rfl rfl)))⟩

theorem execSegmentCycleBoundary_effect {p : Nat} {s : State} : ∃ e, @execSegmentCycleBoundary p s = done e s ∧ Eff.Within tables ⟨0xf280, 0x17000000007e0000000, 0x100000000000000000000000000000⟩ e :=
  have hm := Mask.Le.refl ⟨0xf280, 0x17000000007e0000000, 0x100000000000000000000000000000⟩
  ⟨_, rfl, (segmentMoves_within (hm.via rfl rfl rfl) (segmentBoundary_within (hm.via rfl rfl rfl)))⟩

theorem execColdstartBackoffExpiry_effect {p : Nat} {s : State} : ∃ e, @execColdstartBackoffExpiry p s = done e s ∧ Eff.Within tables ⟨0x7080, 0x500000000020000000, 0x100000000000000000000000000000⟩ e :=
  have hm := Mask.Le.refl ⟨0x7080, 0x500000000020000000, 0x100000000000000000000000000000⟩
  ⟨_, rfl, (segmentMoves_within (hm.via rfl rfl rfl) (backoffExpires_within (hm.via rfl rfl rfl)))⟩

theorem execSlotEnd_effect {p : Nat} {slot : Nat} {s : State} : ∃ e, @execSlotEnd p slot s = done e s ∧ Eff.Within tables ⟨0x9200, 0x200000000000000000000, 0x4000⟩ e :=
  have hm := Mask.Le.refl ⟨0x9200, 0x200000000000000000000, 0x4000⟩
  ⟨_, rfl, (slotPasses_within (hm.via rfl rfl rfl))⟩

theorem execTailStart_effect {p : Nat} {busyAtEnd : Bool} {s : State} : ∃ e, @execTailStart p busyAtEnd s = done e s ∧ Eff.Within tables ⟨0x2800b280, 0x3000000000000000000000004000e002000000000000000000000000, 0x1600000000000000000000000000000000010000000020000006d000080400100⟩ e :=
  have hm := Mask.Le.refl ⟨0x2800b280, 0x3000000000000000000000004000e002000000000000000000000000, 0x1600000000000000000000000000000000010000000020000006d000080400100⟩
  ⟨_, rfl, (operating_within (hm.via rfl rfl rfl) (tailBegins_within (hm.via rfl rfl rfl)))⟩

/-! ## Streams -/

theorem lookup_within {m : Mask}
    (hm : Mask.Le ⟨0x80, 0x0, 0x100000000000045000000000000000⟩ m) {port : Option Nat} {d : Bytes} {x : Parsed} {found : Nat → Eff} {missed : Eff}
    (h_found : ∀ y0, Eff.Within tables m (found y0)) (h_missed : Eff.Within tables m missed) :
    Eff.Within tables m (@lookup port d x found missed) := by
  unfold lookup
  exact (Within.seq (Within.count (hm.ctr (by decide +kernel))) (Within.look (fun _ =>
    (by (try dsimp only); split; exacts [h_missed,
    (Within.cons (Within.count (hm.ctr (by decide +kernel))) (Within.cons (Within.when (Within.seq (Within.count (hm.ctr (by decide +kernel))) (raiseOncePerCycle_within (hm.via rfl rfl rfl) (raise_within (hm.via rfl rfl rfl))))) (Within.cons (h_found _) Within.nil)))]))))

theorem applyMeter_within {μ : Mask}
    (hm : Mask.Le ⟨0x2000, 0xe0000000000000000000000000000, 0xc02000000000000000⟩ μ) {m : Nat} {len : Nat} {d : Bytes} {go : Bytes → Eff} {dropped : Eff}
    (h_go : ∀ y0, Eff.Within tables μ (go y0)) (h_dropped : Eff.Within tables μ dropped) :
    Eff.Within tables μ (@applyMeter m len d go dropped) := by
  unfold applyMeter
  exact (Within.look (fun _ => (Within.ite (Within.cons (Within.count (hm.ctr (by decide +kernel))) (Within.cons (Within.bumpObj
    (hm.obj (by decide +kernel))) (Within.cons (h_go _) Within.nil))) (Within.cons (Within.upd
    (hm.parts' [.traffic] (by decide +kernel))) (Within.cons (Within.count (Ctr.anyCommons (hm.ctr (by decide +kernel))))
    (Within.cons (Within.bumpObj (hm.objAny (by decide +kernel))) (Within.cons (by (try dsimp only); split; exacts [(h_go _),
    (Within.cons (Within.count (hm.ctr (by decide +kernel))) (Within.cons (Within.bumpObj (hm.obj (by decide +kernel))) (Within.cons h_dropped Within.nil)))]) Within.nil)))))))

theorem meterCommit_within {μ : Mask} (hm : Mask.Le ⟨0x2000, 0x0, 0x0⟩ μ) {m : Nat} {old : Meter} {modeChanged : Bool} :
    Eff.Within tables μ (@meterCommit m old modeChanged) := by
  unfold meterCommit
  exact (Within.look (fun _ => (Within.upd (hm.parts' [.traffic] (by decide +kernel)))))

theorem recoverySet_within {m : Mask} (hm : Mask.Le ⟨0x2000, 0x0, 0x0⟩ m) {fn : Nat} {f : Recovery → Recovery} :
    Eff.Within tables m (@recoverySet fn f) := by
  unfold recoverySet
  exact (Within.upd (hm.parts' [.traffic] (by decide +kernel)))

theorem recover_within {m : Mask}
    (hm : Mask.Le ⟨0x2000, 0x13f00005000000000000000000000000, 0x7e000000000000000000⟩ m) {fn : Nat} {handle : Nat} {d : Bytes} {go : Bytes → Option Nat → Eff} {discarded : Eff}
    (h_go : ∀ y0 y1, Eff.Within tables m (go y0 y1)) (h_discarded : Eff.Within tables m discarded) :
    Eff.Within tables m (@recover fn handle d go discarded) := by
  unfold recover
  exact (Within.look (fun _ =>
    (by (try dsimp only); split; exacts [(Within.cons (Within.bumpObj (hm.obj (by decide +kernel))) (Within.cons (Within.count (hm.ctr (by decide +kernel))) (Within.cons (Within.ite (Within.seq (Within.cons (recoverySet_within (hm.via rfl rfl rfl)) (Within.cons (Within.bumpObj (hm.obj (by decide +kernel))) (Within.cons (Within.count (hm.ctr (by decide +kernel))) Within.nil))) (h_go _ _)) (Within.seq (Within.cons (Within.bumpObj (hm.obj (by decide +kernel))) (Within.cons (Within.count (hm.ctr (by decide +kernel))) (Within.cons (Within.bumpObj (hm.obj (by decide +kernel))) Within.nil))) h_discarded)) Within.nil))),
    (Within.cons (recoverySet_within (hm.via rfl rfl rfl)) (Within.cons (Within.setN (hm.obj (by decide +kernel))) (Within.cons (Within.setN (hm.obj (by decide +kernel))) (Within.cons (Within.when (Within.seq (Within.bumpObj (hm.obj (by decide +kernel))) (Within.count (hm.ctr (by decide +kernel))))) (Within.cons (Within.when (Within.seq (Within.bumpObj (hm.obj (by decide +kernel))) (Within.count (hm.ctr (by decide +kernel))))) (Within.cons (Within.when (Within.seq (Within.bumpObj (hm.obj (by decide +kernel))) (Within.countN (hm.ctr (by decide +kernel))))) (Within.cons (Within.ite (Within.seq (Within.cons (recoverySet_within (hm.via rfl rfl rfl)) (Within.cons (Within.bumpObj (hm.obj (by decide +kernel))) (Within.cons (Within.count (hm.ctr (by decide +kernel))) Within.nil))) (h_go _ _)) (Within.seq (Within.cons (Within.bumpObj (hm.obj (by decide +kernel))) (Within.cons (Within.count (hm.ctr (by decide +kernel))) (Within.cons (Within.bumpObj (hm.obj (by decide +kernel))) Within.nil))) h_discarded)) Within.nil)))))))])))

theorem recoveryResets_within {m : Mask}
    (hm : Mask.Le ⟨0x2080, 0x4000000000000000000000000000000, 0x100000000080000000000000000000⟩ m) {fn : Nat} :
    Eff.Within tables m (@recoveryResets fn) := by
  unfold recoveryResets
  exact (Within.whenS (Within.cons (recoverySet_within (hm.via rfl rfl rfl)) (Within.cons (Within.bumpObj
    (hm.obj (by decide +kernel))) (Within.cons (Within.count (hm.ctr (by decide +kernel))) (Within.cons (raise_within
    (hm.via rfl rfl rfl)) Within.nil)))))

theorem latentTest_within {m : Mask}
    (hm : Mask.Le ⟨0x2988f6a0, 0x1e0020000000000000000000000018007360000001020000010, 0x200020000000000000000000000001f100000000100000060800008000100⟩ m) {fn : Nat} :
    Eff.Within tables m (@latentTest fn) := by
  unfold latentTest
  exact (Within.look (fun _ => (Within.when (Within.seq (recoverySet_within (hm.via rfl rfl rfl)) (Within.when (Within.seq
    (Within.count (hm.ctr (by decide +kernel))) (faultEvent_within (hm.via rfl rfl rfl))))))))

theorem latentResets_within {m : Mask} (hm : Mask.Le ⟨0x2000, 0x8000000000000000000000000000000, 0x0⟩ m) {fn : Nat} :
    Eff.Within tables m (@latentResets fn) := by
  unfold latentResets
  exact (Within.whenS (Within.seq (Within.look (fun _ => (recoverySet_within (hm.via rfl rfl rfl)))) (Within.bumpObj
    (hm.obj (by decide +kernel)))))

theorem generatorStarts_within {m : Mask} (hm : Mask.Le ⟨0x2000, 0x0, 0x0⟩ m) {h : Nat} :
    Eff.Within tables m (@generatorStarts h) := by
  unfold generatorStarts
  exact (Within.whenS (Within.upd (hm.parts' [.traffic] (by decide +kernel))))

theorem generate_within {m : Mask}
    (hm : Mask.Le ⟨0x2000, 0x4000000000000000000000000, 0x1000000000000000000⟩ m) {h : Nat} {d : Bytes} {carried : Option Nat} {go : Bytes → Eff}
    (h_go : ∀ y0, Eff.Within tables m (go y0)) :
    Eff.Within tables m (@generate h d carried go) := by
  unfold generate
  exact (Within.look (fun _ => (Within.ite (h_go _) (Within.ite
    (by (try dsimp only); split; exacts [(Within.seq (Within.count (hm.ctr (by decide +kernel))) (h_go _)),
    (Within.cons (Within.upd (hm.parts' [.traffic] (by decide +kernel))) (Within.cons (Within.count (hm.ctr (by decide +kernel))) (Within.cons (Within.setN (hm.obj (by decide +kernel))) (Within.cons (h_go _) Within.nil))))])
    (Within.cons (Within.upd (hm.parts' [.traffic] (by decide +kernel))) (Within.cons (Within.count
    (hm.ctr (by decide +kernel))) (Within.cons (Within.setN (hm.obj (by decide +kernel))) (Within.cons
    (h_go _) Within.nil))))))))

theorem streamFilter_within {m : Mask}
    (hm : Mask.Le ⟨0x2080, 0x13fe0005f80000000000000000000000, 0x10000000007ff82000000000000000⟩ m) {h : Nat} {d : Bytes} {len : Nat} {host : Bool} {go : Bytes → Bool → Eff} {dropped : Eff} {duplicate : Eff}
    (h_go : ∀ y0 y1, Eff.Within tables m (go y0 y1)) (h_dropped : Eff.Within tables m dropped)
    (h_duplicate : Eff.Within tables m duplicate) :
    Eff.Within tables m (@streamFilter h d len host go dropped duplicate) := by
  unfold streamFilter
  exact (Within.look (fun _ => (Within.ite (Within.seq (Within.count (hm.ctr (by decide +kernel))) h_dropped) (Within.ite
    (Within.seq (Within.count (hm.ctr (by decide +kernel))) h_dropped) (Within.ite (Within.cons (Within.count
    (hm.ctr (by decide +kernel))) (Within.cons (Within.bumpObj (hm.obj (by decide +kernel))) (Within.cons (Within.when
    (Within.seq (Within.setB (hm.obj (by decide +kernel))) (raise_within (hm.via rfl rfl rfl))))
    (Within.cons h_dropped Within.nil)))) (Within.ite (Within.ite (recover_within (hm.via rfl rfl rfl) (fun _ _ =>
    (generate_within (hm.via rfl rfl rfl) (fun _ => (Within.cons (Within.bumpObj (hm.obj (by decide +kernel))) (Within.cons
    (Within.bumpObj (hm.obj (by decide +kernel))) (Within.cons (h_go _ _) Within.nil)))))) h_duplicate) (generate_within
    (hm.via rfl rfl rfl) (fun _ => (Within.cons (Within.bumpObj (hm.obj (by decide +kernel))) (Within.cons (Within.bumpObj
    (hm.obj (by decide +kernel))) (Within.cons (h_go _ _) Within.nil)))))) (applyMeter_within (hm.via rfl rfl rfl) (fun _ =>
    (Within.ite (recover_within (hm.via rfl rfl rfl) (fun _ _ => (generate_within (hm.via rfl rfl rfl) (fun _ => (Within.cons
    (Within.bumpObj (hm.obj (by decide +kernel))) (Within.cons (Within.bumpObj (hm.obj (by decide +kernel))) (Within.cons
    (h_go _ _) Within.nil)))))) h_duplicate) (generate_within (hm.via rfl rfl rfl) (fun _ => (Within.cons (Within.bumpObj
    (hm.obj (by decide +kernel))) (Within.cons (Within.bumpObj (hm.obj (by decide +kernel))) (Within.cons
    (h_go _ _) Within.nil))))))) (Within.seq (Within.bumpObj (hm.obj (by decide +kernel))) h_dropped))))))))

theorem streamForward_within {m : Mask}
    (hm : Mask.Le ⟨0x3801b280, 0x3000000000001e00000000004000e002000000000000000000000000, 0x1600000000000000001c060038000000000100000001200000065000080000000⟩ m) {h : Nat} {port : Nat} {stamp : Nat} {verified : Bool} {d : Bytes} {stripped : Bool} :
    Eff.Within tables m (@streamForward h port stamp verified d stripped) := by
  unfold streamForward
  exact (Within.look (fun _ => (Within.ite (Within.count (hm.ctr (by decide +kernel))) (Within.seq (Within.when (deliver_within
    (hm.via rfl rfl rfl))) (Within.forEach (fun _ => (Within.look (fun _ => (enqueueFrame_within (hm.via rfl rfl rfl))))))))))

theorem deliverDuplicate_within {m : Mask}
    (hm : Mask.Le ⟨0x30018080, 0x3000000000001e000000000000000000000000000000000000000000, 0x1600000000000000001c060038000000000100000000000000000000000000000⟩ m) {h : Nat} {port : Nat} {stamp : Nat} {verified : Bool} {d : Bytes} :
    Eff.Within tables m (@deliverDuplicate h port stamp verified d) := by
  unfold deliverDuplicate
  exact (Within.look (fun _ => (Within.ite (writeAhead_within (hm.via rfl rfl rfl)) (deliver_within (hm.via rfl rfl rfl)))))

theorem stackCopies_within {m : Mask} (hm : Mask.Le ⟨0x0, 0x0, 0x0⟩ m) {h : Nat} {d : Bytes} {forward : Nat → Bytes → Eff}
    (h_forward : ∀ y0 y1, Eff.Within tables m (forward y0 y1)) :
    Eff.Within tables m (@stackCopies h d forward) := by
  unfold stackCopies
  exact (Within.look (fun _ => (Within.when (Within.forEach (fun _ => (h_forward _ _))))))

theorem streamReceives_within {m : Mask}
    (hm : Mask.Le ⟨0x3801b280, 0x3000000000001e000000000053fee007f80000000000000000000000, 0x1600000000000000001c06003800000000010000000127ff82065000080000000⟩ m) {h : Nat} {port : Nat} {stamp : Nat} {verified : Bool} {d : Bytes} {forward : Nat → Bytes → Eff}
    (h_forward : ∀ y0 y1, Eff.Within tables m (forward y0 y1)) :
    Eff.Within tables m (@streamReceives h port stamp verified d forward) := by
  unfold streamReceives
  exact (Within.look (fun _ => (streamFilter_within (hm.via rfl rfl rfl) (fun _ _ => (Within.seq (stackCopies_within
    (hm.via rfl rfl rfl) (fun _ _ => (h_forward _ _))) (streamForward_within (hm.via rfl rfl rfl)))) (writeAhead_within
    (hm.via rfl rfl rfl)) (deliverDuplicate_within (hm.via rfl rfl rfl)))))

theorem steer_within {m : Mask}
    (hm : Mask.Le ⟨0x30018080, 0x3000000000001e000000000000000000000000000000000000000000, 0x1600000000000000001c060038000000000100000000000038000000000000000⟩ m) {port : Nat} {stamp : Nat} {verified : Bool} {d : Bytes} {x : Parsed} :
    Eff.Within tables m (@steer port stamp verified d x) := by
  unfold steer
  exact (Within.look (fun _ => (by (try dsimp only); split; exacts [(Within.count (hm.ctr (by decide +kernel))),
    (by (try dsimp only); split; exacts [(Within.count (hm.ctr (by decide +kernel))),
    (Within.when (Within.seq (Within.count (hm.ctr (by decide +kernel))) (deliver_within (hm.via rfl rfl rfl))))])])))

theorem unblock_within {m : Mask} (hm : Mask.Le ⟨0x0, 0x400000000000000000000000, 0x0⟩ m) {h : Nat} :
    Eff.Within tables m (@unblock h) := by
  unfold unblock
  exact (Within.setB (hm.obj (by decide +kernel)))

theorem sampleGroup_within {m : Mask}
    (hm : Mask.Le ⟨0x3001a080, 0x3000000000001e000000000000000000000000000000000000000000, 0x1600000000000000001c060038000000000100000000800000000000000000000⟩ m) {g : Nat} :
    Eff.Within tables m (@sampleGroup g) := by
  unfold sampleGroup
  exact (Within.look (fun _ => (Within.when (Within.ite (Within.seq (deliver_within (hm.via rfl rfl rfl)) (Within.upd
    (hm.parts' [.traffic] (by decide +kernel)))) (Within.cons (Within.count (hm.ctr (by decide +kernel))) (Within.cons
    (raise_within (hm.via rfl rfl rfl)) (Within.cons (Within.upd (hm.parts' [.traffic] (by decide +kernel))) Within.nil)))))))

theorem sampleQueues_within {m : Mask}
    (hm : Mask.Le ⟨0x3001a080, 0x3000000000001e000000000000000000000000000000000000000000, 0x1600000000000000001c060038000000000100000000800000000000000000000⟩ m) :
    Eff.Within tables m sampleQueues := by
  unfold sampleQueues
  exact (Within.forEach (fun _ => (sampleGroup_within (hm.via rfl rfl rfl))))

theorem execRecoveryResetTimeout_effect {fn : Nat} {s : State} : ∃ e, @execRecoveryResetTimeout fn s = done e s ∧ Eff.Within tables ⟨0x2080, 0x4000000000000000000000000000000, 0x100000000080000000000000000000⟩ e :=
  have hm := Mask.Le.refl ⟨0x2080, 0x4000000000000000000000000000000, 0x100000000080000000000000000000⟩
  ⟨_, rfl, (operating_within (hm.via rfl rfl rfl) (recoveryResets_within (hm.via rfl rfl rfl)))⟩

theorem execLatentErrorTest_effect {fn : Nat} {s : State} : ∃ e, @execLatentErrorTest fn s = done e s ∧ Eff.Within tables ⟨0x2988f6a0, 0x1e0020000000000000000000000018007360000001020000010, 0x200020000000000000000000000001f100000000100000060800008000100⟩ e :=
  have hm := Mask.Le.refl ⟨0x2988f6a0, 0x1e0020000000000000000000000018007360000001020000010, 0x200020000000000000000000000001f100000000100000060800008000100⟩
  ⟨_, rfl, (operating_within (hm.via rfl rfl rfl) (latentTest_within (hm.via rfl rfl rfl)))⟩

theorem execLatentReset_effect {fn : Nat} {s : State} : ∃ e, @execLatentReset fn s = done e s ∧ Eff.Within tables ⟨0x2000, 0x8000000000000000000000000000000, 0x0⟩ e :=
  have hm := Mask.Le.refl ⟨0x2000, 0x8000000000000000000000000000000, 0x0⟩
  ⟨_, rfl, (operating_within (hm.via rfl rfl rfl) (latentResets_within (hm.via rfl rfl rfl)))⟩

/-! ## Ingress -/

theorem errorRing_within {m : Mask}
    (hm : Mask.Le ⟨0x30018080, 0x3000000000001e000000000000000000000000000000000000000000, 0x1600000000000000001c060038000000000100000000000000000000000000000⟩ m) {p : Nat} {f : Frame} {status : Nat} :
    Eff.Within tables m (@errorRing p f status) := by
  unfold errorRing
  exact (Within.look (fun _ => (Within.when (deliver_within (hm.via rfl rfl rfl)))))

theorem frameToMember_within {m : Mask}
    (hm : Mask.Le ⟨0x20800080, 0x0, 0x2000000000000000000000000000000100000000000000000000000000000⟩ m) {e : Nat → Emission} :
    Eff.Within tables m (@frameToMember e) := by
  unfold frameToMember
  exact (Within.look (fun _ => (sendOnStack_within (hm.via rfl rfl rfl))))

theorem streamToMember_within {m : Mask}
    (hm : Mask.Le ⟨0x20800080, 0x0, 0x42000000000000000000000000000000100000000000000000000000000000⟩ m) {h : Nat} {member : Nat} {d : Bytes} :
    Eff.Within tables m (@streamToMember h member d) := by
  unfold streamToMember
  exact (Within.whenS (Within.seq (Within.count (hm.ctr (by decide +kernel))) (frameToMember_within (hm.via rfl rfl rfl))))

theorem portOfMember_within {m : Mask}
    (hm : Mask.Le ⟨0x20800080, 0x0, 0x2000000000000000000000000000000100000000000000000000000000000⟩ m) {member : Nat} {port : Nat} {cls : Nat} {d : Bytes} :
    Eff.Within tables m (@portOfMember member port cls d) := by
  unfold portOfMember
  exact (frameToMember_within (hm.via rfl rfl rfl))

theorem ingressFrame_within {m : Mask}
    (hm : Mask.Le ⟨0x3881b280, 0x3000000000001e000000000053fee007f80000000000000000000000, 0x1604a00000000000001c06003800000000010000000127ffff065000080000000⟩ m) {p : Nat} {f : Frame} :
    Eff.Within tables m (@ingressFrame p f) := by
  unfold ingressFrame
  exact (Within.look (fun _ => (Within.ite (Within.when (Within.count (hm.ctr (by decide +kernel)))) (lookup_within
    (hm.via rfl rfl rfl) (fun _ => (streamReceives_within (hm.via rfl rfl rfl) (fun _ _ => (streamToMember_within
    (hm.via rfl rfl rfl))))) (steer_within (hm.via rfl rfl rfl))))))

theorem portFrameError_within {m : Mask}
    (hm : Mask.Le ⟨0x2988f6a0, 0x1e0020000000000000000000000018007360000001020000010, 0x200020000000000000000000000001f100000000000000060800008000130⟩ m) {p : Nat} {f : Frame} :
    Eff.Within tables m (@portFrameError p f) := by
  unfold portFrameError
  exact
    (by (try dsimp only); split; exacts [(Within.seq (Within.count (Ctr.port (hm.ctr (by decide +kernel)))) (faultOccur_within (hm.via rfl rfl rfl) (fun _ => Within.skip))),
    (Within.seq (Within.count (Ctr.port (hm.ctr (by decide +kernel)))) (faultOccur_within (hm.via rfl rfl rfl) (fun _ => Within.skip)))])

theorem countReceived_within {m : Mask}
    (hm : Mask.Le ⟨0x2988f6a0, 0x1e0020000000000000000000000018007360000001020000010, 0x200020000000000000000000000001f100000000000000060800008000173⟩ m) {p : Nat} {f : Frame} :
    Eff.Within tables m (@countReceived p f) := by
  unfold countReceived
  exact (Within.look (fun _ => (Within.ite (Within.cons (Within.count (Ctr.port (hm.ctr (by decide +kernel)))) (Within.cons
    (Within.countN (Ctr.port (hm.ctr (by decide +kernel)))) (Within.cons (Within.when (Within.count (Ctr.port
    (hm.ctr (by decide +kernel))))) Within.nil))) (portFrameError_within (hm.via rfl rfl rfl)))))

theorem writtenAhead_within {m : Mask}
    (hm : Mask.Le ⟨0x20000000, 0x0, 0x30000000000000000000000000000000000000000⟩ m) {p : Nat} {f : Frame} :
    Eff.Within tables m (@writtenAhead p f) := by
  unfold writtenAhead
  exact (Within.look (fun _ => (Within.when (writeAhead_within (hm.via rfl rfl rfl)))))

theorem admitReceived_within {m : Mask}
    (hm : Mask.Le ⟨0x30018080, 0x3000000000001e000000000000000000000000000000000000000000, 0x1600000000000000001c060038000000000100000000000000000000000000000⟩ m) {p : Nat} {f : Frame} {good : Eff}
    (h_good : Eff.Within tables m good) :
    Eff.Within tables m (@admitReceived p f good) := by
  unfold admitReceived
  exact (Within.look (fun _ => (Within.ite (Within.ite h_good (writtenAhead_within (hm.via rfl rfl rfl))) (Within.seq
    (writtenAhead_within (hm.via rfl rfl rfl)) (errorRing_within (hm.via rfl rfl rfl))))))

theorem syncReceived_within {m : Mask}
    (hm : Mask.Le ⟨0x2988f6a0, 0x1e002000000000000000000000001f5ff760000001020000010, 0x200020000000000000000000000001f10000000000000006080002eb19173⟩ m) {p : Nat} {f : Frame} :
    Eff.Within tables m (@syncReceived p f) := by
  unfold syncReceived
  exact (Within.whenS (Within.cons (countReceived_within (hm.via rfl rfl rfl)) (Within.cons (segmentMoves_within
    (hm.via rfl rfl rfl) (syncTaken_within (hm.via rfl rfl rfl))) (Within.cons (noteNumber_within
    (hm.via rfl rfl rfl)) Within.nil))))

theorem bufferFrame_within {m : Mask}
    (hm : Mask.Le ⟨0x8000080, 0x0, 0x100000000000000164000000000000⟩ m) {p : Nat} {h : HeldFrame} :
    Eff.Within tables m (@bufferFrame p h) := by
  unfold bufferFrame
  exact (Within.look (fun _ => (Within.seq (Within.ite (Within.count (Ctr.grove (hm.ctr (by decide +kernel)))) (Within.upd
    (hm.parts' [.power] (by decide +kernel)))) (wakeGrove_within (hm.via rfl rfl rfl)))))

theorem awake_within {m : Mask}
    (hm : Mask.Le ⟨0x8000080, 0x0, 0x100000000000000164000000000000⟩ m) {p : Nat} {h : HeldFrame} {e : Eff}
    (h_e : Eff.Within tables m e) :
    Eff.Within tables m (@awake p h e) := by
  unfold awake
  exact (Within.whenS (Within.look (fun _ => (Within.ite h_e (Within.when (bufferFrame_within (hm.via rfl rfl rfl)))))))

theorem received_within {m : Mask}
    (hm : Mask.Le ⟨0x3989f6a0, 0x300001e002001e00000000000000000001f57f360000001020000010, 0x1600200020000000001c06003800000001f10000000000000016480000a819173⟩ m) {p : Nat} {frame : Frame} {mkpdu : Option Mkpdu} {good : Frame → Eff}
    (h_good : ∀ y0, Eff.Within tables m (good y0)) :
    Eff.Within tables m (@received p frame mkpdu good) := by
  unfold received
  exact (Within.look (fun _ => (awake_within (hm.via rfl rfl rfl) (Within.cons (countReceived_within (hm.via rfl rfl rfl))
    (Within.cons (opportunityOf_within (hm.via rfl rfl rfl)) (Within.cons (segmentData_within (hm.via rfl rfl rfl)
    (admitReceived_within (hm.via rfl rfl rfl) (h_good _)) (writtenAhead_within (hm.via rfl rfl rfl))) (Within.cons
    (noteNumber_within (hm.via rfl rfl rfl)) Within.nil)))))))

theorem frameArrives_within {m : Mask}
    (hm : Mask.Le ⟨0x3989f6a0, 0x300001e002001e000000000053fee007f9f57f360000001020000010, 0x1604a00020000000001c06003800000001f10000000127ffff16580008a819173⟩ m) {p : Nat} {f : Frame} :
    Eff.Within tables m (@frameArrives p f) := by
  unfold frameArrives
  exact (offWrap_within (hm.via rfl rfl rfl) (received_within (hm.via rfl rfl rfl) (fun _ => (ingressFrame_within
    (hm.via rfl rfl rfl)))))

theorem segmentFrameArrives_within {m : Mask}
    (hm : Mask.Le ⟨0x3989f6a0, 0x300001e002001e000000000053fee007f9f57f360000001020000010, 0x1604a00020000000001c06003800000001f10000000127ffff16580008a819173⟩ m) {p : Nat} {sender : Nat} {f : Frame} :
    Eff.Within tables m (@segmentFrameArrives p sender f) := by
  unfold segmentFrameArrives
  exact (received_within (hm.via rfl rfl rfl) (fun _ => (ingressFrame_within (hm.via rfl rfl rfl))))

theorem syncFrameArrives_within {m : Mask}
    (hm : Mask.Le ⟨0x2988f6a0, 0x1e002000000000000000000000001f5ff760000001020000010, 0x200020000000000000000000000001f10000000000000016480002eb19173⟩ m) {p : Nat} {frame : Frame} :
    Eff.Within tables m (@syncFrameArrives p frame) := by
  unfold syncFrameArrives
  exact (Within.look (fun _ => (awake_within (hm.via rfl rfl rfl) (syncReceived_within (hm.via rfl rfl rfl)))))

theorem bufferedFrame_within {m : Mask}
    (hm : Mask.Le ⟨0x3989f6a0, 0x300001e002001e00000000000000000001811f360000001020000010, 0x1600200020000000001c06003800000001f100000000000000060800008800173⟩ m) {p : Nat} {f : Frame} {good : Frame → Eff}
    (h_good : ∀ y0, Eff.Within tables m (good y0)) :
    Eff.Within tables m (@bufferedFrame p f good) := by
  unfold bufferedFrame
  exact (Within.seq (countReceived_within (hm.via rfl rfl rfl)) (Within.seq (tailFrame_within (hm.via rfl rfl rfl)
    (withFree_within (hm.via rfl rfl rfl) (fun _ => (admitReceived_within (hm.via rfl rfl rfl) (h_good _)))))
    (noteNumber_within (hm.via rfl rfl rfl))))

theorem forwardedStream_within {m : Mask}
    (hm : Mask.Le ⟨0x3881b280, 0x3000000000201e000000000053fee007f80000000000000000000000, 0x1600e00000000000001c06003800000000010000000127ff82065000080000000⟩ m) {h : Nat} {c : ForwardedFrame} :
    Eff.Within tables m (@forwardedStream h c) := by
  unfold forwardedStream
  exact (Within.look (fun _ => (Within.when (stackArrives_within (hm.via rfl rfl rfl) (Within.ite (sendOnStack_within
    (hm.via rfl rfl rfl)) (Within.when (streamFilter_within (hm.via rfl rfl rfl) (fun _ _ => (streamForward_within
    (hm.via rfl rfl rfl))) Within.skip Within.skip)))))))

theorem execFrameReceived_effect {p : Nat} {frame : Frame} {s : State} : ∃ e, @execFrameReceived p frame s = done e s ∧ Eff.Within tables ⟨0x3989f6a0, 0x300001e002001e000000000053fee007f9f57f360000001020000010, 0x1604a00020000000001c06003800000001f10000000127ffff16580008a819173⟩ e :=
  have hm := Mask.Le.refl ⟨0x3989f6a0, 0x300001e002001e000000000053fee007f9f57f360000001020000010, 0x1604a00020000000001c06003800000001f10000000127ffff16580008a819173⟩
  ⟨_, rfl, (operating_within (hm.via rfl rfl rfl) (frameArrives_within (hm.via rfl rfl rfl)))⟩

theorem execSegmentFrame_effect {p : Nat} {sender : Nat} {frame : Frame} {s : State} : ∃ e, @execSegmentFrame p sender frame s = done e s ∧ Eff.Within tables ⟨0x3989f6a0, 0x300001e002001e000000000053fee007f9f57f360000001020000010, 0x1604a00020000000001c06003800000001f10000000127ffff16580008a819173⟩ e :=
  have hm := Mask.Le.refl ⟨0x3989f6a0, 0x300001e002001e000000000053fee007f9f57f360000001020000010, 0x1604a00020000000001c06003800000001f10000000127ffff16580008a819173⟩
  ⟨_, rfl, (operating_within (hm.via rfl rfl rfl) (segmentFrameArrives_within (hm.via rfl rfl rfl)))⟩

theorem execSyncFrame_effect {p : Nat} {frame : Frame} {s : State} : ∃ e, @execSyncFrame p frame s = done e s ∧ Eff.Within tables ⟨0x2988f6a0, 0x1e002000000000000000000000001f5ff760000001020000010, 0x200020000000000000000000000001f10000000000000016480002eb19173⟩ e :=
  have hm := Mask.Le.refl ⟨0x2988f6a0, 0x1e002000000000000000000000001f5ff760000001020000010, 0x200020000000000000000000000001f10000000000000016480002eb19173⟩
  ⟨_, rfl, (operating_within (hm.via rfl rfl rfl) (syncFrameArrives_within (hm.via rfl rfl rfl)))⟩

theorem execStreamForward_effect {handle : Nat} {copy : ForwardedFrame} {s : State} : ∃ e, @execStreamForward handle copy s = done e s ∧ Eff.Within tables ⟨0x3881b280, 0x3000000000201e000000000053fee007f80000000000000000000000, 0x1600e00000000000001c06003800000000010000000127ff82065000080000000⟩ e :=
  have hm := Mask.Le.refl ⟨0x3881b280, 0x3000000000201e000000000053fee007f80000000000000000000000, 0x1600e00000000000001c06003800000000010000000127ff82065000080000000⟩
  ⟨_, rfl, (operating_within (hm.via rfl rfl rfl) (forwardedStream_within (hm.via rfl rfl rfl)))⟩

end Sys2Proof.Machine
end

