-- ==== Sys2Proof/Laws/WithinTasks.lean ====
section
/-! SUPPORT. Frame lemmas: every update that an effect of Machine/Endpoint.lean, Machine/Tasks.lean, Machine/Stack.lean can issue
lies in a mask. -/

namespace Sys2Proof.Machine

set_option Elab.async false
set_option linter.unusedTactic false
set_option linter.unusedVariables false

/-! ## Endpoint -/

theorem endpointError_within {m : Mask} (hm : Mask.Le ⟨0x0, 0x0, 0x100000000000⟩ m) {e : Nat} :
    Eff.Within tables m (@endpointError e) := by
  unfold endpointError
  exact (Within.count (Ctr.engine (hm.ctr (by decide +kernel))))

theorem noteSaturated_within {m : Mask} (hm : Mask.Le ⟨0x80, 0x0, 0x100000000000000000040000000000⟩ m) {e : Nat} {sat : Bool} :
    Eff.Within tables m (@noteSaturated e sat) := by
  unfold noteSaturated
  exact (Within.when (Within.seq (Within.count (Ctr.engine (hm.ctr (by decide +kernel)))) (raiseOncePerCycle_within
    (hm.via rfl rfl rfl) (raise_within (hm.via rfl rfl rfl)))))

theorem writeSection_within {m : Mask}
    (hm : Mask.Le ⟨0x2998fea0, 0x1e0020000000000000000000000018007360000001020000010, 0x20003e000000000000000000000001f100000000000000060944008000100⟩ m) {e : Nat} {r : SecRow} {w : TaskWrite} :
    Eff.Within tables m (@writeSection e r w) := by
  unfold writeSection
  exact (Within.look (fun _ => (Within.ite (endpointError_within (hm.via rfl rfl rfl))
    (by (try dsimp only); split; exacts [(endpointError_within (hm.via rfl rfl rfl)),
    (Within.cons (noteSaturated_within (hm.via rfl rfl rfl)) (Within.cons (Within.countN (Ctr.engine (hm.ctr (by decide +kernel)))) (Within.cons (Within.ite (Within.when (Within.seq (settleShadows_within (hm.via rfl rfl rfl)) (Within.upd (hm.parts' [.twin] (by decide +kernel))))) (Within.ite (sendOnStack_within (hm.via rfl rfl rfl)) (Within.upd (hm.parts' [.ring] (by decide +kernel))))) Within.nil)))]))))

theorem writeSlot_within {m : Mask}
    (hm : Mask.Le ⟨0x1080, 0x0, 0x100000000000000000144000000000⟩ m) {e : Nat} {p : Nat} {i : Nat} {w : TaskWrite} :
    Eff.Within tables m (@writeSlot e p i w) := by
  unfold writeSlot
  exact (Within.look (fun _ =>
    (by (try dsimp only); split; exacts [(Within.ite (endpointError_within (hm.via rfl rfl rfl)) (by (try dsimp only); split; exacts [(endpointError_within (hm.via rfl rfl rfl)),
    (Within.cons (noteSaturated_within (hm.via rfl rfl rfl)) (Within.cons (Within.countN (Ctr.engine (hm.ctr (by decide +kernel)))) (Within.cons (segSet_within (hm.via rfl rfl rfl)) Within.nil)))])),
    (endpointError_within (hm.via rfl rfl rfl))])))

theorem writeEntryAt_within {m : Mask}
    (hm : Mask.Le ⟨0x4010, 0x0, 0x0⟩ m) {a : Nat} {base : Nat} {bytes : Bytes} {store : Bool} :
    Eff.Within tables m (@writeEntryAt a base bytes store) := by
  unfold writeEntryAt
  exact (Within.seq (nextSerial_within (hm.via rfl rfl rfl)) (Within.look (fun _ => (Within.seq (Within.upd
    (hm.parts' [.buffers] (by decide +kernel))) (Within.upd (hm.parts' [.messages] (by decide +kernel)))))))

theorem writeStoreEntry_within {m : Mask}
    (hm : Mask.Le ⟨0x4090, 0x0, 0x100000000000000000144000000000⟩ m) {e : Nat} {a : Nat} {store : Bool} {room : Bool} {w : TaskWrite} :
    Eff.Within tables m (@writeStoreEntry e a store room w) := by
  unfold writeStoreEntry
  exact (Within.look (fun _ => (Within.ite (endpointError_within (hm.via rfl rfl rfl)) (Within.cons (noteSaturated_within
    (hm.via rfl rfl rfl)) (Within.cons (Within.countN (Ctr.engine (hm.ctr (by decide +kernel)))) (Within.cons
    (writeEntryAt_within (hm.via rfl rfl rfl)) Within.nil))))))

theorem sendMessage_within {m : Mask}
    (hm : Mask.Le ⟨0x30018080, 0x3000000000001e000c00000000000000000000000000000000000000, 0x1600000000000000001c060038000000000100000300000000000000000000000⟩ m) {ch : Nat} {kind : Nat} {verdict : Nat} {ident : Nat} {body : Bytes} :
    Eff.Within tables m (@sendMessage ch kind verdict ident body) := by
  unfold sendMessage
  exact (Within.look (fun _ => (Within.ite (Within.cons (Within.bumpObj (hm.obj (by decide +kernel))) (Within.cons (Within.count
    (hm.ctr (by decide +kernel))) (Within.cons (raiseOncePerCycle_within (hm.via rfl rfl rfl) (raise_within
    (hm.via rfl rfl rfl))) Within.nil))) (Within.cons (Within.bumpObj (hm.obj (by decide +kernel))) (Within.cons (Within.count
    (hm.ctr (by decide +kernel))) (Within.cons (deliver_within (hm.via rfl rfl rfl)) Within.nil))))))

theorem writeMessage_within {m : Mask}
    (hm : Mask.Le ⟨0x30018080, 0x3000000000001e000c00000000000000000000000000000000000000, 0x1600000000000000001c060038000000000100000300000000000144000000000⟩ m) {e : Nat} {ref : Nat} {w : TaskWrite} :
    Eff.Within tables m (@writeMessage e ref w) := by
  unfold writeMessage
  exact (Within.look (fun _ => (Within.ite (endpointError_within (hm.via rfl rfl rfl)) (Within.cons (noteSaturated_within
    (hm.via rfl rfl rfl)) (Within.cons (Within.countN (Ctr.engine (hm.ctr (by decide +kernel)))) (Within.cons
    (sendMessage_within (hm.via rfl rfl rfl)) Within.nil))))))

theorem releaseWrite_within {m : Mask}
    (hm : Mask.Le ⟨0x3999feb0, 0x300001e002001e000c00000000000000018007360000001020000010, 0x160020003e000000001c06003800000001f100000300000000060944008000100⟩ m) {e : Nat} {w : TaskWrite} :
    Eff.Within tables m (@releaseWrite e w) := by
  unfold releaseWrite
  exact (Within.look (fun _ => (Within.ite Within.skip
    (by (try dsimp only); split; exacts [(by (try dsimp only); split; exacts [(writeSection_within (hm.via rfl rfl rfl)),
    (endpointError_within (hm.via rfl rfl rfl))]), (writeSlot_within (hm.via rfl rfl rfl)),
    (writeStoreEntry_within (hm.via rfl rfl rfl)), (writeStoreEntry_within (hm.via rfl rfl rfl)),
    (writeMessage_within (hm.via rfl rfl rfl)), Within.skip, (endpointError_within (hm.via rfl rfl rfl))]))))

/-! ## Tasks -/

theorem engineSet_within {m : Mask} (hm : Mask.Le ⟨0x4000, 0x0, 0x0⟩ m) {e : Nat} {f : Engine → Engine} :
    Eff.Within tables m (@engineSet e f) := by
  unfold engineSet
  exact (Within.upd (hm.parts' [.messages] (by decide +kernel)))

theorem addDigest_within {m : Mask} (hm : Mask.Le ⟨0x4000, 0x0, 0x0⟩ m) {e : Nat} {row : Nat} {which : Nat} {body : Bytes} :
    Eff.Within tables m (@addDigest e row which body) := by
  unfold addDigest
  exact (Within.whenS (Within.upd (hm.parts' [.messages] (by decide +kernel))))

theorem sendMirror_within {μ : Mask}
    (hm : Mask.Le ⟨0x20880080, 0x0, 0x2000004000000000000000000000000100000000000000000000000000000⟩ μ) {m : MirrorMsg} :
    Eff.Within tables μ (@sendMirror m) := by
  unfold sendMirror
  exact (Within.look (fun _ => (Within.when (Within.cons (Within.count (hm.ctr (by decide +kernel))) (Within.cons
    (sendOnStack_within (hm.via rfl rfl rfl)) (Within.cons (Within.when (Within.upd
    (hm.parts' [.twin] (by decide +kernel)))) Within.nil))))))

theorem taskNotRun_within {μ : Mask}
    (hm : Mask.Le ⟨0x4080, 0x0, 0x100000000000000000001000000000⟩ μ) {e : Nat} {m : Nat} {i : Nat} :
    Eff.Within tables μ (@taskNotRun e m i) := by
  unfold taskNotRun
  exact (Within.look (fun _ => (Within.cons (Within.count (Ctr.engine (hm.ctr (by decide +kernel)))) (Within.cons (Within.when
    (engineSet_within (hm.via rfl rfl rfl))) (Within.cons (baseWatch_within (hm.via rfl rfl rfl)) Within.nil)))))

theorem beginTask_within {μ : Mask}
    (hm : Mask.Le ⟨0x20884080, 0x200000000000000000000000000000000, 0x2000014000000000000000000000000100000000000000000038800000000⟩ μ) {e : Nat} {m : Nat} {i : Nat} :
    Eff.Within tables μ (@beginTask e m i) := by
  unfold beginTask
  exact (Within.look (fun _ => (Within.cons (Within.when (Within.count (hm.ctr (by decide +kernel)))) (Within.cons (Within.upd
    (hm.parts' [.messages] (by decide +kernel))) (Within.cons (sendMirror_within (hm.via rfl rfl rfl)) (Within.cons
    (Within.forEach (fun _ => (Within.when (Within.count (Ctr.engine (hm.ctr (by decide +kernel))))))) (Within.cons
    (Within.countN (Ctr.engine (hm.ctr (by decide +kernel)))) (Within.cons (Within.countN (Ctr.engine
    (hm.ctr (by decide +kernel)))) (Within.cons (addDigest_within (hm.via rfl rfl rfl)) (Within.cons (Within.when (Within.seq
    (Within.count (Ctr.engine (hm.ctr (by decide +kernel)))) (Within.when (raiseFull_within (hm.via rfl rfl rfl)))))
    (Within.cons (engineSet_within (hm.via rfl rfl rfl)) (Within.cons (baseWatch_within (hm.via rfl rfl rfl)) (Within.cons
    (Within.setN (hm.obj (by decide +kernel))) Within.nil)))))))))))))

theorem owedTask_within {m : Mask} (hm : Mask.Le ⟨0x8000080, 0x0, 0x10000000000000006c000000000000⟩ m) {e : Nat} {i : Nat} :
    Eff.Within tables m (@owedTask e i) := by
  unfold owedTask
  exact (Within.look (fun _ => (Within.when (Within.seq (groveLate_within (hm.via rfl rfl rfl)) (Within.look (fun _ =>
    (Within.upd (hm.parts' [.power] (by decide +kernel)))))))))

theorem taskLeftOut_within {μ : Mask}
    (hm : Mask.Le ⟨0x84080, 0x0, 0x100000000000000000001000000000⟩ μ) {e : Nat} {m : Nat} {i : Nat} :
    Eff.Within tables μ (@taskLeftOut e m i) := by
  unfold taskLeftOut
  exact (Within.look (fun _ => (Within.seq (taskNotRun_within (hm.via rfl rfl rfl)) (Within.upd
    (hm.parts' [.twin] (by decide +kernel))))))

theorem startTask_within {m : Mask}
    (hm : Mask.Le ⟨0x28884080, 0x200000000000000000000000000000000, 0x200001400000000000000000000000010000000000000006c039800000000⟩ m) {e : Nat} {i : Nat} :
    Eff.Within tables m (@startTask e i) := by
  unfold startTask
  exact (Within.look (fun _ => (Within.ite Within.skip (Within.ite (owedTask_within (hm.via rfl rfl rfl)) (Within.ite
    (taskNotRun_within (hm.via rfl rfl rfl)) (Within.ite (taskLeftOut_within (hm.via rfl rfl rfl)) (Within.when
    (beginTask_within (hm.via rfl rfl rfl)))))))))

theorem stage_within {m : Mask} (hm : Mask.Le ⟨0x4000, 0x0, 0x0⟩ m) {e : Nat} {w : TaskWrite} :
    Eff.Within tables m (@stage e w) := by
  unfold stage
  exact (engineSet_within (hm.via rfl rfl rfl))

theorem routeRow_within {m : Mask} (hm : Mask.Le ⟨0x4000, 0x0, 0x80000000000⟩ m) {e : Nat} {r : Nat} {x : SourceValue} :
    Eff.Within tables m (@routeRow e r x) := by
  unfold routeRow
  exact (Within.look (fun _ => (Within.ite Within.skip (Within.ite
    (by (try dsimp only); split; exacts [(stage_within (hm.via rfl rfl rfl)),
    (Within.count (Ctr.engine (hm.ctr (by decide +kernel))))])
    (by (try dsimp only); split; exacts [(stage_within (hm.via rfl rfl rfl)),
    (Within.count (Ctr.engine (hm.ctr (by decide +kernel))))])))))

theorem runRoute_within {m : Mask} (hm : Mask.Le ⟨0x4000, 0x0, 0x80000000000⟩ m) {e : Nat} {r : TaskRun} {rows : List Nat} :
    Eff.Within tables m (@runRoute e r rows) := by
  unfold runRoute
  exact (Within.forEach (fun _ => (routeRow_within (hm.via rfl rfl rfl))))

theorem runPack_within {m : Mask}
    (hm : Mask.Le ⟨0x4080, 0x0, 0x1010000000000000001c0000000000⟩ m) {e : Nat} {r : TaskRun} {rows : List Nat} :
    Eff.Within tables m (@runPack e r rows) := by
  unfold runPack
  exact (Within.look (fun _ => (by (try dsimp only); split; exacts [Within.skip,
    (Within.cons (engineSet_within (hm.via rfl rfl rfl)) (Within.cons (Within.countN (Ctr.engine (hm.ctr (by decide +kernel)))) (Within.cons (Within.countN (Ctr.engine (hm.ctr (by decide +kernel)))) (Within.cons (Within.forEach (fun _ => (noteSaturated_within (hm.via rfl rfl rfl)))) (Within.cons (Within.when (Within.seq (Within.count (hm.ctr (by decide +kernel))) (stage_within (hm.via rfl rfl rfl)))) Within.nil)))))])))

theorem runUnpack_within {m : Mask} (hm : Mask.Le ⟨0x4000, 0x0, 0x80000000000⟩ m) {e : Nat} {r : TaskRun} {rows : List Nat} :
    Eff.Within tables m (@runUnpack e r rows) := by
  unfold runUnpack
  exact (Within.look (fun _ => (Within.forEach (fun _ => (Within.ite Within.skip
    (by (try dsimp only); split; exacts [(stage_within (hm.via rfl rfl rfl)),
    (Within.count (Ctr.engine (hm.ctr (by decide +kernel))))]))))))

theorem protectRow_within {m : Mask} (hm : Mask.Le ⟨0x4000, 0x0, 0x80000000000⟩ m) {e : Nat} {row : Nat} {x : SourceValue} :
    Eff.Within tables m (@protectRow e row x) := by
  unfold protectRow
  exact (Within.look (fun _ => (Within.ite Within.skip
    (by (try dsimp only); split; exacts [(Within.count (Ctr.engine (hm.ctr (by decide +kernel)))),
    (Within.seq (Within.upd (hm.parts' [.messages] (by decide +kernel))) (stage_within (hm.via rfl rfl rfl)))]))))

theorem runProtect_within {m : Mask} (hm : Mask.Le ⟨0x4000, 0x0, 0x80000000000⟩ m) {e : Nat} {r : TaskRun} {rows : List Nat} :
    Eff.Within tables m (@runProtect e r rows) := by
  unfold runProtect
  exact (Within.forEach (fun _ => (protectRow_within (hm.via rfl rfl rfl))))

theorem checkCounts_within {m : Mask}
    (hm : Mask.Le ⟨0x0, 0x40000000000000000000000000000000000, 0x3c00000000000000000000000⟩ m) {seen : Option Nat} {g : Nat} {row : Nat} :
    Eff.Within tables m (@checkCounts seen g row) := by
  unfold checkCounts
  exact
    (by (try dsimp only); split; exacts [(Within.seq (by (repeat' split) <;> exact Within.count (hm.ctr (by decide +kernel))) (Within.bumpObj (Obj.grove (by decide) (hm.objAny (by decide +kernel))))),
    Within.skip])

theorem checkEvents_within {m : Mask}
    (hm : Mask.Le ⟨0x80, 0x0, 0x100004000000000000000000000000⟩ m) {before : Nat} {after : Nat} {arg : Nat} :
    Eff.Within tables m (@checkEvents before after arg) := by
  unfold checkEvents
  exact (Within.cons (Within.when (raise_within (hm.via rfl rfl rfl))) (Within.cons (Within.when (Within.seq (raise_within
    (hm.via rfl rfl rfl)) (Within.count (hm.ctr (by decide +kernel))))) (Within.cons (Within.when (raise_within
    (hm.via rfl rfl rfl))) Within.nil)))

theorem checkRow_within {m : Mask}
    (hm : Mask.Le ⟨0x4080, 0x1c0000000000000000000000000000000000, 0x100007c00000000000080000000000⟩ m) {e : Nat} {row : Nat} {x : SourceValue} :
    Eff.Within tables m (@checkRow e row x) := by
  unfold checkRow
  exact (Within.look (fun _ => (Within.cons (Within.when (Within.count (Ctr.engine (hm.ctr (by decide +kernel))))) (Within.cons
    (Within.upd (hm.parts' [.messages] (by decide +kernel))) (Within.cons (checkCounts_within (hm.via rfl rfl rfl))
    (Within.cons (checkEvents_within (hm.via rfl rfl rfl)) (Within.cons (Within.setN (Obj.grove (by decide)
    (hm.obj (by decide +kernel)))) (Within.cons (Within.setN (Obj.grove (by decide) (hm.obj (by decide +kernel)))) (Within.cons
    (stage_within (hm.via rfl rfl rfl)) Within.nil)))))))))

theorem runCheck_within {m : Mask}
    (hm : Mask.Le ⟨0x4080, 0x1c0000000000000000000000000000000000, 0x100007c00000000000080000000000⟩ m) {e : Nat} {r : TaskRun} {rows : List Nat} :
    Eff.Within tables m (@runCheck e r rows) := by
  unfold runCheck
  exact (Within.forEach (fun _ => (checkRow_within (hm.via rfl rfl rfl))))

theorem holdRow_within {m : Mask}
    (hm : Mask.Le ⟨0x4080, 0x0, 0x100008000000000000000000000000⟩ m) {e : Nat} {row : Nat} {x : SourceValue} :
    Eff.Within tables m (@holdRow e row x) := by
  unfold holdRow
  exact (Within.look (fun _ => (Within.cons (Within.upd (hm.parts' [.messages] (by decide +kernel))) (Within.cons (Within.when
    (Within.seq (raise_within (hm.via rfl rfl rfl)) (Within.count (hm.ctr (by decide +kernel))))) (Within.cons (stage_within
    (hm.via rfl rfl rfl)) Within.nil)))))

theorem runHold_within {m : Mask}
    (hm : Mask.Le ⟨0x4080, 0x0, 0x100008000000000000000000000000⟩ m) {e : Nat} {r : TaskRun} {rows : List Nat} :
    Eff.Within tables m (@runHold e r rows) := by
  unfold runHold
  exact (Within.forEach (fun _ => (holdRow_within (hm.via rfl rfl rfl))))

theorem setTransaction_within {m : Mask}
    (hm : Mask.Le ⟨0x4000, 0xe00000000000000000000000000000000000, 0x0⟩ m) {g : Nat} {row : Nat} {t : Transaction} :
    Eff.Within tables m (@setTransaction g row t) := by
  unfold setTransaction
  exact (Within.cons (Within.upd (hm.parts' [.messages] (by decide +kernel))) (Within.cons (Within.setN (Obj.grove (by decide)
    (hm.obj (by decide +kernel)))) (Within.cons (Within.setN (Obj.grove (by decide) (hm.obj (by decide +kernel)))) (Within.cons
    (Within.setN (Obj.grove (by decide) (hm.obj (by decide +kernel)))) Within.nil))))

theorem sendRequest_within {m : Mask}
    (hm : Mask.Le ⟨0x4000, 0xe00000000000000000000000000000000000, 0x0⟩ m) {e : Nat} {g : Nat} {row : Nat} {t : Transaction} :
    Eff.Within tables m (@sendRequest e g row t) := by
  unfold sendRequest
  exact (Within.look (fun _ => (Within.cons (stage_within (hm.via rfl rfl rfl)) (Within.cons (engineSet_within
    (hm.via rfl rfl rfl)) (Within.cons (setTransaction_within (hm.via rfl rfl rfl)) Within.nil)))))

theorem requestFresh_within {m : Mask}
    (hm : Mask.Le ⟨0x4000, 0xe00000000000000000000000000000000000, 0x410000000000000000000000000⟩ m) {e : Nat} {g : Nat} {row : Nat} {x : SourceValue} :
    Eff.Within tables m (@requestFresh e g row x) := by
  unfold requestFresh
  exact (Within.look (fun _ => (Within.ite (Within.seq (stage_within (hm.via rfl rfl rfl)) (Within.count
    (hm.ctr (by decide +kernel)))) (Within.seq (Within.count (hm.ctr (by decide +kernel))) (sendRequest_within
    (hm.via rfl rfl rfl))))))

theorem deadlinePassed_within {m : Mask}
    (hm : Mask.Le ⟨0x4080, 0x6e00000000000000000000000000000000000, 0x1000c0000000000000000000000000⟩ m) {e : Nat} {g : Nat} {row : Nat} :
    Eff.Within tables m (@deadlinePassed e g row) := by
  unfold deadlinePassed
  exact (Within.look (fun _ => (Within.ite (Within.cons (Within.count (hm.ctr (by decide +kernel))) (Within.cons (Within.bumpObj
    (Obj.grove (by decide) (hm.obj (by decide +kernel)))) (Within.cons (sendRequest_within (hm.via rfl rfl rfl)) Within.nil)))
    (Within.cons (stage_within (hm.via rfl rfl rfl)) (Within.cons (raise_within (hm.via rfl rfl rfl)) (Within.cons
    (Within.count (hm.ctr (by decide +kernel))) (Within.cons (Within.bumpObj (Obj.grove (by decide)
    (hm.obj (by decide +kernel)))) (Within.cons (setTransaction_within (hm.via rfl rfl rfl)) Within.nil))))))))

theorem transactRow_within {m : Mask}
    (hm : Mask.Le ⟨0x4080, 0x7e00000000000000000000000000000000000, 0x1007f0000000000000000000000000⟩ m) {e : Nat} {row : Nat} {startedAt : Nat} {x : SourceValue} {y : SourceValue} :
    Eff.Within tables m (@transactRow e row startedAt x y) := by
  unfold transactRow
  exact (Within.look (fun _ => (Within.cons (Within.when (Within.count (hm.ctr (by decide +kernel)))) (Within.cons (Within.when
    (Within.count (hm.ctr (by decide +kernel)))) (Within.cons (Within.when (Within.cons (stage_within (hm.via rfl rfl rfl))
    (Within.cons (Within.count (hm.ctr (by decide +kernel))) (Within.cons (Within.bumpObj (Obj.grove (by decide)
    (hm.obj (by decide +kernel)))) (Within.cons (setTransaction_within (hm.via rfl rfl rfl)) Within.nil))))) (Within.cons
    (Within.when (requestFresh_within (hm.via rfl rfl rfl))) (Within.cons (Within.when (deadlinePassed_within
    (hm.via rfl rfl rfl))) Within.nil)))))))

theorem runTransact_within {m : Mask}
    (hm : Mask.Le ⟨0x4080, 0x7e00000000000000000000000000000000000, 0x1007f0000000000000000000000000⟩ m) {e : Nat} {r : TaskRun} {rows : List Nat} :
    Eff.Within tables m (@runTransact e r rows) := by
  unfold runTransact
  exact (Within.forEach (fun _ => (transactRow_within (hm.via rfl rfl rfl))))

theorem abortTransaction_within {m : Mask}
    (hm : Mask.Le ⟨0x3999feb0, 0x300001e002001e000c00e00000000000018007360000001020000010, 0x160020003e000000001c06003800000001f100000300000000060944008000100⟩ m) {g : Nat} {row : Nat} :
    Eff.Within tables m (@abortTransaction g row) := by
  unfold abortTransaction
  exact (Within.look (fun _ => (Within.when (Within.seq (releaseWrite_within (hm.via rfl rfl rfl)) (setTransaction_within
    (hm.via rfl rfl rfl))))))

theorem abortTransactions_within {m : Mask}
    (hm : Mask.Le ⟨0x3999feb0, 0x300001e002001e000c00e00000000000018007360000001020000010, 0x160020003e000000001c06003800000001f100000300000000060944008000100⟩ m) :
    Eff.Within tables m abortTransactions := by
  unfold abortTransactions
  exact (Within.look (fun _ => (Within.forEach (fun _ => (abortTransaction_within (hm.via rfl rfl rfl))))))

theorem checkRestarts_within {m : Mask} (hm : Mask.Le ⟨0x4000, 0x0, 0x0⟩ m) {g : Nat} {row : Nat} :
    Eff.Within tables m (@checkRestarts g row) := by
  unfold checkRestarts
  exact (Within.upd (hm.parts' [.messages] (by decide +kernel)))

theorem runReport_within {m : Mask}
    (hm : Mask.Le ⟨0x4000, 0x0, 0x2000000000000000000000000000⟩ m) {e : Nat} {r : TaskRun} {rows : List Nat} :
    Eff.Within tables m (@runReport e r rows) := by
  unfold runReport
  exact (Within.look (fun _ => (Within.seq (Within.count (hm.ctr (by decide +kernel))) (stage_within (hm.via rfl rfl rfl)))))

theorem functionOf_within {m : Mask}
    (hm : Mask.Le ⟨0x4080, 0x7fc0000000000000000000000000000000000, 0x1037ffc000000000001c0000000000⟩ m) {fn : Nat} {e : Nat} {r : TaskRun} {rows : List Nat} :
    Eff.Within tables m (@functionOf fn e r rows) := by
  unfold functionOf
  exact (by (try dsimp only); split; exacts [(runRoute_within (hm.via rfl rfl rfl)), (runPack_within (hm.via rfl rfl rfl)),
    (runUnpack_within (hm.via rfl rfl rfl)), (runProtect_within (hm.via rfl rfl rfl)), (runCheck_within (hm.via rfl rfl rfl)),
    (runHold_within (hm.via rfl rfl rfl)), (runTransact_within (hm.via rfl rfl rfl)), (runReport_within (hm.via rfl rfl rfl))])

theorem runFunction_within {m : Mask}
    (hm : Mask.Le ⟨0x4080, 0x7fc0000000000000000000000000000000000, 0x1037ffc000000000001c0000000000⟩ m) {e : Nat} {only : Option Nat} :
    Eff.Within tables m (@runFunction e only) := by
  unfold runFunction
  exact (Within.look (fun _ => (by (try dsimp only); split; exacts [Within.skip,
    (Within.when (Within.seq (engineSet_within (hm.via rfl rfl rfl)) (functionOf_within (hm.via rfl rfl rfl))))])))

theorem armDeadlines_within {m : Mask} (hm : Mask.Le ⟨0x4000, 0xe00000000000000000000000000000000000, 0x0⟩ m) {r : TaskRun} :
    Eff.Within tables m (@armDeadlines r) := by
  unfold armDeadlines
  exact (Within.forEach (fun _ => (Within.look (fun _ => (setTransaction_within (hm.via rfl rfl rfl))))))

theorem endTask_within {m : Mask}
    (hm : Mask.Le ⟨0x4080, 0xe00000000000000000000000000000000000, 0x100000000000000000000000000000⟩ m) {e : Nat} {status : Nat} {cycles : Nat} :
    Eff.Within tables m (@endTask e status cycles) := by
  unfold endTask
  exact (Within.look (fun _ => (by (try dsimp only); split; exacts [Within.skip,
    (Within.seq (armDeadlines_within (hm.via rfl rfl rfl)) (Within.seq (engineSet_within (hm.via rfl rfl rfl)) (baseWatch_within (hm.via rfl rfl rfl))))])))

theorem overrunTask_within {m : Mask}
    (hm : Mask.Le ⟨0x4080, 0xe00000000000000000000000000000000000, 0x100000000000000000000000000000⟩ m) {e : Nat} :
    Eff.Within tables m (@overrunTask e) := by
  unfold overrunTask
  exact (Within.look (fun _ => (by (try dsimp only); split; exacts [Within.skip, (endTask_within (hm.via rfl rfl rfl))])))

theorem finishTask_within {m : Mask}
    (hm : Mask.Le ⟨0x3999feb0, 0x300001e002001e000c07fc0000000000018007360000001020000010, 0x160020003e000000001c06003800000001f1037fff000000000609c4008000100⟩ m) {e : Nat} {cycles : Nat} :
    Eff.Within tables m (@finishTask e cycles) := by
  unfold finishTask
  exact (Within.look (fun _ => (by (try dsimp only); split; exacts [Within.skip,
    (Within.ite (overrunTask_within (hm.via rfl rfl rfl)) (Within.seq (runFunction_within (hm.via rfl rfl rfl)) (Within.look (fun _ => (Within.cons (addDigest_within (hm.via rfl rfl rfl)) (Within.cons (Within.forEach (fun _ => (releaseWrite_within (hm.via rfl rfl rfl)))) (Within.cons (endTask_within (hm.via rfl rfl rfl)) Within.nil)))))))])))

theorem acceptResult_within {m : Mask}
    (hm : Mask.Le ⟨0x3989f6a0, 0x300001e002001e000c0003f800000000018007360000001020000010, 0x1600200020000000001c06003800000001f100800300000000060e02708000100⟩ m) {e : Nat} {x : TaskResult} :
    Eff.Within tables m (@acceptResult e x) := by
  unfold acceptResult
  exact (Within.look (fun _ => (Within.cons (engineSet_within (hm.via rfl rfl rfl)) (Within.cons (Within.count
    (hm.ctr (by decide +kernel))) (Within.cons (Within.when (Within.cons (Within.bumpObj (Obj.engine (by decide)
    (hm.obj (by decide +kernel)))) (Within.cons (Within.setN (Obj.engine (by decide) (hm.obj (by decide +kernel))))
    (Within.cons (Within.setN (Obj.engine (by decide) (hm.obj (by decide +kernel)))) (Within.cons (Within.setN
    (Obj.engine (by decide) (hm.obj (by decide +kernel)))) (Within.cons (Within.count (Ctr.engine
    (hm.ctr (by decide +kernel)))) (Within.cons (Within.countN (Ctr.engine (hm.ctr (by decide +kernel)))) (Within.cons
    (Within.countN (Ctr.engine (hm.ctr (by decide +kernel)))) (Within.cons (Within.countN (Ctr.engine
    (hm.ctr (by decide +kernel)))) Within.nil))))))))) (Within.cons (Within.when (Within.bumpObj (Obj.engine (by decide)
    (hm.obj (by decide +kernel))))) (Within.cons (Within.setN (Obj.engine (by decide) (hm.obj (by decide +kernel))))
    (Within.cons (Within.when (Within.seq (Within.count (Ctr.engine (hm.ctr (by decide +kernel)))) (Within.when
    (raiseFull_within (hm.via rfl rfl rfl))))) (Within.cons (Within.when (Within.cons (Within.count (Ctr.engine
    (hm.ctr (by decide +kernel)))) (Within.cons (Within.bumpObj (Obj.engine (by decide) (hm.obj (by decide +kernel))))
    (Within.cons (faultOccur_within (hm.via rfl rfl rfl) (fun _ => (Within.when (raiseFull_within
    (hm.via rfl rfl rfl))))) Within.nil)))) (Within.cons (Within.when (sendMessage_within
    (hm.via rfl rfl rfl))) Within.nil))))))))))

theorem acceptNext_within {m : Mask}
    (hm : Mask.Le ⟨0x3989f6a0, 0x300001e002001e000c0003f800000000018007360000001020000010, 0x1600200020000000001c06003800000001f100800300000000060e02708000100⟩ m) {g : Nat} :
    Eff.Within tables m (@acceptNext g) := by
  unfold acceptNext
  exact (Within.look (fun _ =>
    (by (try dsimp only); split; exacts [(by (try dsimp only); split; exacts [(acceptResult_within (hm.via rfl rfl rfl)),
    Within.skip]), Within.skip])))

theorem enginesFollow_within {μ : Mask}
    (hm : Mask.Le ⟨0x4080, 0x0, 0x100000000000000000000000000000⟩ μ) {m : Nat} {which : State → Nat → Bool} :
    Eff.Within tables μ (@enginesFollow m which) := by
  unfold enginesFollow
  exact (Within.look (fun _ => (Within.forEach (fun _ => (Within.seq (engineSet_within (hm.via rfl rfl rfl)) (baseWatch_within
    (hm.via rfl rfl rfl)))))))

theorem enginesAtModeSwitch_within {μ : Mask} (hm : Mask.Le ⟨0x4080, 0x0, 0x100000000000000000000000000000⟩ μ) {m : Nat} :
    Eff.Within tables μ (@enginesAtModeSwitch m) := by
  unfold enginesAtModeSwitch
  exact (Within.seq (enginesFollow_within (hm.via rfl rfl rfl)) (raise_within (hm.via rfl rfl rfl)))

theorem enginesAtSegmentSwitch_within {m : Mask} (hm : Mask.Le ⟨0x4080, 0x0, 0x100000000000000000000000000000⟩ m) {p : Nat} :
    Eff.Within tables m (@enginesAtSegmentSwitch p) := by
  unfold enginesAtSegmentSwitch
  exact (Within.look (fun _ => (Within.seq (enginesFollow_within (hm.via rfl rfl rfl)) (raise_within (hm.via rfl rfl rfl)))))

theorem engineLoads_within {m : Mask} (hm : Mask.Le ⟨0x4000, 0x400000000000000000000000000000000, 0x0⟩ m) :
    Eff.Within tables m engineLoads := by
  unfold engineLoads
  exact (Within.look (fun _ => (Within.forEach (fun _ => (Within.seq (Within.setN (hm.obj (by decide +kernel))) (engineSet_within
    (hm.via rfl rfl rfl)))))))

theorem execTaskStart_effect {engine : Nat} {task : Nat} {s : State} : ∃ e, @execTaskStart engine task s = done e s ∧ Eff.Within tables ⟨0x28884080, 0x200000000000000000000000000000000, 0x200001400000000000000000000000010000000000000006c039800000000⟩ e :=
  have hm := Mask.Le.refl ⟨0x28884080, 0x200000000000000000000000000000000, 0x200001400000000000000000000000010000000000000006c039800000000⟩
  ⟨_, rfl, (operating_within (hm.via rfl rfl rfl) (startTask_within (hm.via rfl rfl rfl)))⟩

theorem execRoute_effect {engine : Nat} {s : State} : ∃ e, @execRoute engine s = done e s ∧ Eff.Within tables ⟨0x4080, 0x7fc0000000000000000000000000000000000, 0x1037ffc000000000001c0000000000⟩ e :=
  have hm := Mask.Le.refl ⟨0x4080, 0x7fc0000000000000000000000000000000000, 0x1037ffc000000000001c0000000000⟩
  ⟨_, rfl, (runFunction_within (hm.via rfl rfl rfl))⟩

theorem execPack_effect {engine : Nat} {s : State} : ∃ e, @execPack engine s = done e s ∧ Eff.Within tables ⟨0x4080, 0x7fc0000000000000000000000000000000000, 0x1037ffc000000000001c0000000000⟩ e :=
  have hm := Mask.Le.refl ⟨0x4080, 0x7fc0000000000000000000000000000000000, 0x1037ffc000000000001c0000000000⟩
  ⟨_, rfl, (runFunction_within (hm.via rfl rfl rfl))⟩

theorem execUnpack_effect {engine : Nat} {s : State} : ∃ e, @execUnpack engine s = done e s ∧ Eff.Within tables ⟨0x4080, 0x7fc0000000000000000000000000000000000, 0x1037ffc000000000001c0000000000⟩ e :=
  have hm := Mask.Le.refl ⟨0x4080, 0x7fc0000000000000000000000000000000000, 0x1037ffc000000000001c0000000000⟩
  ⟨_, rfl, (runFunction_within (hm.via rfl rfl rfl))⟩

theorem execProtect_effect {engine : Nat} {s : State} : ∃ e, @execProtect engine s = done e s ∧ Eff.Within tables ⟨0x4080, 0x7fc0000000000000000000000000000000000, 0x1037ffc000000000001c0000000000⟩ e :=
  have hm := Mask.Le.refl ⟨0x4080, 0x7fc0000000000000000000000000000000000, 0x1037ffc000000000001c0000000000⟩
  ⟨_, rfl, (runFunction_within (hm.via rfl rfl rfl))⟩

theorem execCheck_effect {engine : Nat} {s : State} : ∃ e, @execCheck engine s = done e s ∧ Eff.Within tables ⟨0x4080, 0x7fc0000000000000000000000000000000000, 0x1037ffc000000000001c0000000000⟩ e :=
  have hm := Mask.Le.refl ⟨0x4080, 0x7fc0000000000000000000000000000000000, 0x1037ffc000000000001c0000000000⟩
  ⟨_, rfl, (runFunction_within (hm.via rfl rfl rfl))⟩

theorem execHold_effect {engine : Nat} {s : State} : ∃ e, @execHold engine s = done e s ∧ Eff.Within tables ⟨0x4080, 0x7fc0000000000000000000000000000000000, 0x1037ffc000000000001c0000000000⟩ e :=
  have hm := Mask.Le.refl ⟨0x4080, 0x7fc0000000000000000000000000000000000, 0x1037ffc000000000001c0000000000⟩
  ⟨_, rfl, (runFunction_within (hm.via rfl rfl rfl))⟩

theorem execTransact_effect {engine : Nat} {s : State} : ∃ e, @execTransact engine s = done e s ∧ Eff.Within tables ⟨0x4080, 0x7fc0000000000000000000000000000000000, 0x1037ffc000000000001c0000000000⟩ e :=
  have hm := Mask.Le.refl ⟨0x4080, 0x7fc0000000000000000000000000000000000, 0x1037ffc000000000001c0000000000⟩
  ⟨_, rfl, (runFunction_within (hm.via rfl rfl rfl))⟩

theorem execReport_effect {engine : Nat} {s : State} : ∃ e, @execReport engine s = done e s ∧ Eff.Within tables ⟨0x4080, 0x7fc0000000000000000000000000000000000, 0x1037ffc000000000001c0000000000⟩ e :=
  have hm := Mask.Le.refl ⟨0x4080, 0x7fc0000000000000000000000000000000000, 0x1037ffc000000000001c0000000000⟩
  ⟨_, rfl, (runFunction_within (hm.via rfl rfl rfl))⟩

theorem execTaskFinish_effect {engine : Nat} {cycles : Nat} {s : State} : ∃ e, @execTaskFinish engine cycles s = done e s ∧ Eff.Within tables ⟨0x3999feb0, 0x300001e002001e000c07fc0000000000018007360000001020000010, 0x160020003e000000001c06003800000001f1037fff000000000609c4008000100⟩ e :=
  have hm := Mask.Le.refl ⟨0x3999feb0, 0x300001e002001e000c07fc0000000000018007360000001020000010, 0x160020003e000000001c06003800000001f1037fff000000000609c4008000100⟩
  ⟨_, rfl, (finishTask_within (hm.via rfl rfl rfl))⟩

theorem execTaskBudgetExceeded_effect {engine : Nat} {s : State} : ∃ e, @execTaskBudgetExceeded engine s = done e s ∧ Eff.Within tables ⟨0x4080, 0xe00000000000000000000000000000000000, 0x100000000000000000000000000000⟩ e :=
  have hm := Mask.Le.refl ⟨0x4080, 0xe00000000000000000000000000000000000, 0x100000000000000000000000000000⟩
  ⟨_, rfl, (overrunTask_within (hm.via rfl rfl rfl))⟩

theorem execResultAccept_effect {grove : Nat} {s : State} : ∃ e, @execResultAccept grove s = done e s ∧ Eff.Within tables ⟨0x3989f6a0, 0x300001e002001e000c0003f800000000018007360000001020000010, 0x1600200020000000001c06003800000001f100800300000000060e02708000100⟩ e :=
  have hm := Mask.Le.refl ⟨0x3989f6a0, 0x300001e002001e000c0003f800000000018007360000001020000010, 0x1600200020000000001c06003800000001f100800300000000060e02708000100⟩
  ⟨_, rfl, (acceptNext_within (hm.via rfl rfl rfl))⟩

/-! ## Stack -/

theorem stackPortSet_within {m : Mask} (hm : Mask.Le ⟨0x80000, 0x0, 0x0⟩ m) {n : Nat} {f : StackPort → StackPort} :
    Eff.Within tables m (@stackPortSet n f) := by
  unfold stackPortSet
  exact (Within.upd (hm.parts' [.twin] (by decide +kernel)))

theorem setMember_within {μ : Mask}
    (hm : Mask.Le ⟨0x0, 0x4200000000000000000000000000000000000000000000, 0x0⟩ μ) {m : Nat} {present : Bool} :
    Eff.Within tables μ (@setMember m present) := by
  unfold setMember
  exact (Within.look (fun _ => (Within.seq (Within.setN (hm.obj (by decide +kernel))) (Within.setB
    (hm.obj (by decide +kernel))))))

theorem mailboxReply_within {μ : Mask} (hm : Mask.Le ⟨0x98, 0x0, 0x100000000000000000000000000000⟩ μ) {m : Bytes} :
    Eff.Within tables μ (@mailboxReply m) := by
  unfold mailboxReply
  exact (Within.cons (Within.upd (hm.parts' [.buffers] (by decide +kernel))) (Within.cons (Within.upd
    (hm.parts' [.buffers] (by decide +kernel))) (Within.cons (Within.upd (hm.parts' [.mailbox] (by decide +kernel)))
    (Within.cons (raise_within (hm.via rfl rfl rfl)) Within.nil))))

theorem pduReply_within {μ : Mask}
    (hm : Mask.Le ⟨0x1800b280, 0x3000000000000000000000004000e002000000000000000000000000, 0x16000000000000000000000000000000000100000000200000065000080000000⟩ μ) {p : Nat} {mac : Nat} {m : Bytes} :
    Eff.Within tables μ (@pduReply p mac m) := by
  unfold pduReply
  exact (Within.look (fun _ => (enqueueOwn_within (hm.via rfl rfl rfl))))

theorem clientReply_within {μ : Mask}
    (hm : Mask.Le ⟨0x1800b298, 0x3000000000000000000000004000e002000000000000000000000000, 0x16000000000000000000000000000000000100000000200000065000080000000⟩ μ) {c : RelayClient} {m : Bytes} :
    Eff.Within tables μ (@clientReply c m) := by
  unfold clientReply
  exact (by (try dsimp only); split; exacts [(Within.whenS (mailboxReply_within (hm.via rfl rfl rfl))),
    (pduReply_within (hm.via rfl rfl rfl))])

theorem relaysFail_within {m : Mask}
    (hm : Mask.Le ⟨0x1808b298, 0x3000000000000000000000004000e002000000000000000000000000, 0x16000000000000000000000000000000000108000000200000065000080000000⟩ m) {which : RelayClient → Bool} :
    Eff.Within tables m (@relaysFail which) := by
  unfold relaysFail
  exact (Within.look (fun _ => (Within.forEach (fun _ => (Within.cons (Within.upd (hm.parts' [.twin] (by decide +kernel)))
    (Within.cons (Within.count (hm.ctr (by decide +kernel))) (Within.cons (clientReply_within
    (hm.via rfl rfl rfl)) Within.nil)))))))

theorem stackUnlinked_within {m : Mask}
    (hm : Mask.Le ⟨0x1808b298, 0x3000000000040000000000004000e002000000000000000000000000, 0x16010000000000000000000000000000000108000000200000065000080000000⟩ m) {port : Nat} :
    Eff.Within tables m (@stackUnlinked port) := by
  unfold stackUnlinked
  exact (Within.look (fun _ => (Within.cons (Within.setN (hm.obj (by decide +kernel))) (Within.cons (Within.count
    (hm.ctr (by decide +kernel))) (Within.cons (stackPortSet_within (hm.via rfl rfl rfl)) (Within.cons (Within.when
    (relaysFail_within (hm.via rfl rfl rfl))) Within.nil))))))

theorem helloLeaves_within {m : Mask}
    (hm : Mask.Le ⟨0x20800080, 0x0, 0x2000000000000000000000000000000100000000000000000000000000000⟩ m) {port : Nat} {body : Bytes} :
    Eff.Within tables m (@helloLeaves port body) := by
  unfold helloLeaves
  exact (Within.look (fun _ => (Within.when (Within.cons (Within.count (hm.ctr (by decide +kernel))) (Within.cons (emit_within
    (hm.via rfl rfl rfl)) (Within.cons (usePacketNumber_within (hm.via rfl rfl rfl)) Within.nil))))))

theorem sendHello_within {m : Mask}
    (hm : Mask.Le ⟨0x20800080, 0x0, 0x2000000000000000000000000000000100000000000000000000000000000⟩ m) {port : Nat} {flags : Nat} :
    Eff.Within tables m (@sendHello port flags) := by
  unfold sendHello
  exact (Within.look (fun _ => (helloLeaves_within (hm.via rfl rfl rfl))))

theorem peerRankSeen_within {m : Mask}
    (hm : Mask.Le ⟨0x2988f6a0, 0x1e0020000000000000000000000018007360000001020000010, 0x200020000000000000000000000001f100000000000000060800008000100⟩ m) {r : Nat} :
    Eff.Within tables m (@peerRankSeen r) := by
  unfold peerRankSeen
  exact (Within.look (fun _ => (Within.seq (Within.upd (hm.parts' [.twin] (by decide +kernel))) (Within.when (faultEvent_within
    (hm.via rfl rfl rfl))))))

theorem rankFollows_within {m : Mask}
    (hm : Mask.Le ⟨0x2988f6a0, 0x1e0020000000000000000000000018007360000001020000010, 0x200020000000000000000000000001f100000000000000060800008000100⟩ m) :
    Eff.Within tables m rankFollows := by
  unfold rankFollows
  exact (Within.look (fun _ => (by (try dsimp only); split; exacts [(peerRankSeen_within (hm.via rfl rfl rfl)), Within.skip])))

theorem answerMember_within {m : Mask}
    (hm : Mask.Le ⟨0x30880080, 0x18000000000000000000000000000000000000000000000, 0x2000000000000000000000000000000100000000000000000000000000000⟩ m) {port : Nat} {name : Nat} {mode : Nat} {position : Nat} :
    Eff.Within tables m (@answerMember port name mode position) := by
  unfold answerMember
  exact (Within.look (fun _ => (Within.ite (sendHello_within (hm.via rfl rfl rfl)) (Within.ite (Within.seq (raise_within
    (hm.via rfl rfl rfl)) (sendHello_within (hm.via rfl rfl rfl))) (Within.cons (Within.when (Within.seq (Within.setN
    (hm.obj (by decide +kernel))) (withFree_within (hm.via rfl rfl rfl) (fun _ => (Within.upd
    (hm.parts' [.twin] (by decide +kernel))))))) (Within.cons (withFree_within (hm.via rfl rfl rfl) (fun _ => (Within.setN
    (hm.obj (by decide +kernel))))) (Within.cons (stackPortSet_within (hm.via rfl rfl rfl)) (Within.cons (sendHello_within
    (hm.via rfl rfl rfl)) Within.nil))))))))

theorem helloTaken_within {m : Mask}
    (hm : Mask.Le ⟨0x3988f6a0, 0x1e003a000000000000000000000018007360000001020000010, 0xa00020000000000000000000000001f100000000000000060800008000100⟩ m) {port : Nat} {b : Bytes} :
    Eff.Within tables m (@helloTaken port b) := by
  unfold helloTaken
  exact (Within.look (fun _ => (Within.cons (stackPortSet_within (hm.via rfl rfl rfl)) (Within.cons (Within.when (Within.upd
    (hm.parts' [.twin] (by decide +kernel)))) (Within.cons (Within.ite (Within.seq (Within.when (stackPortSet_within
    (hm.via rfl rfl rfl))) (helloLeaves_within (hm.via rfl rfl rfl))) (Within.ite (Within.when (answerMember_within
    (hm.via rfl rfl rfl))) (Within.ite (Within.seq (Within.when (Within.ite (sendHello_within (hm.via rfl rfl rfl)) (Within.seq
    (stackError_within (hm.via rfl rfl rfl)) (sendHello_within (hm.via rfl rfl rfl))))) (Within.when (peerRankSeen_within
    (hm.via rfl rfl rfl)))) Within.skip))) Within.nil)))))

theorem helloArrives_within {μ : Mask}
    (hm : Mask.Le ⟨0x3988f6a0, 0x1e003b800000000000000000000018007360000001020000010, 0xe00020000000000000000000000001f100000000000000060800008000100⟩ μ) {port : Nat} {m : Bytes} :
    Eff.Within tables μ (@helloArrives port m) := by
  unfold helloArrives
  exact (Within.whenS (Within.look (fun _ => (Within.ite (stackError_within (hm.via rfl rfl rfl)) (Within.cons (Within.count
    (hm.ctr (by decide +kernel))) (Within.cons (Within.setN (hm.obj (by decide +kernel))) (Within.cons (Within.setN
    (hm.obj (by decide +kernel))) (Within.cons (Within.when (helloTaken_within (hm.via rfl rfl rfl))) Within.nil))))))))

theorem helloTimer_within {m : Mask}
    (hm : Mask.Le ⟨0x20880080, 0x0, 0x2000000000000000000000000000000100000000000000000000000000000⟩ m) {port : Nat} :
    Eff.Within tables m (@helloTimer port) := by
  unfold helloTimer
  exact (Within.whenS (Within.look (fun _ => (Within.seq (stackPortSet_within (hm.via rfl rfl rfl)) (sendHello_within
    (hm.via rfl rfl rfl))))))

theorem stackLinkRises_within {m : Mask}
    (hm : Mask.Le ⟨0x20880080, 0x400000000000000000000000000000000000000000000, 0x2000000000000000000000000000000100000000000000000000000000000⟩ m) {port : Nat} :
    Eff.Within tables m (@stackLinkRises port) := by
  unfold stackLinkRises
  exact (Within.look (fun _ => (Within.when (Within.cons (Within.setN (hm.obj (by decide +kernel))) (Within.cons (raise_within
    (hm.via rfl rfl rfl)) (Within.cons (stackPortSet_within (hm.via rfl rfl rfl)) (Within.cons (sendHello_within
    (hm.via rfl rfl rfl)) Within.nil)))))))

theorem stackLinkFalls_within {m : Mask}
    (hm : Mask.Le ⟨0x3988f6b8, 0x300001e002040000000000004000e002018007360000001020000010, 0x1601200020000000000000000000000001f108000000200000065800088000100⟩ m) {port : Nat} :
    Eff.Within tables m (@stackLinkFalls port) := by
  unfold stackLinkFalls
  exact (Within.look (fun _ => (Within.when (Within.seq (stackUnlinked_within (hm.via rfl rfl rfl)) (faultEvent_within
    (hm.via rfl rfl rfl))))))

theorem memberLost_within {μ : Mask}
    (hm : Mask.Le ⟨0x1808b298, 0x3000000000c20000000000004000e002000000000000000000000000, 0x16000000000000000000000000000000000108000000200000065000080000000⟩ μ) {m : Nat} :
    Eff.Within tables μ (@memberLost m) := by
  unfold memberLost
  exact (Within.look (fun _ => (Within.when (Within.cons (raise_within (hm.via rfl rfl rfl)) (Within.cons (setMember_within
    (hm.via rfl rfl rfl)) (Within.cons (Within.setN (hm.obj (by decide +kernel))) (Within.cons (Within.upd
    (hm.parts' [.twin] (by decide +kernel))) (Within.cons (relaysFail_within (hm.via rfl rfl rfl)) Within.nil))))))))

theorem alignmentTimerAct_within {m : Mask}
    (hm : Mask.Le ⟨0x20880080, 0x0, 0x2000000000000000000000000000000100000000000000000000000000000⟩ m) :
    Eff.Within tables m alignmentTimerAct := by
  unfold alignmentTimerAct
  exact (Within.look (fun _ => (Within.when (Within.forEach (fun _ => (Within.when (Within.seq (sendOnStack_within
    (hm.via rfl rfl rfl)) (stackPortSet_within (hm.via rfl rfl rfl)))))))))

theorem memberMeasures_within {m : Mask}
    (hm : Mask.Le ⟨0x2988f6a0, 0x1e00200000000000000000000000180073600000010387c0010, 0x200020000000000000000000000001f100000000000000060800008000100⟩ m) {loop : Int} {turn : Int} {origin : Nat} {stamp : Nat} :
    Eff.Within tables m (@memberMeasures loop turn origin stamp) := by
  unfold memberMeasures
  exact (Within.look (fun _ => (Within.cons (Within.setObj (hm.obj (by decide +kernel))) (Within.cons (Within.upd
    (hm.parts' [.time] (by decide +kernel))) (Within.cons (Within.setObj (hm.obj (by decide +kernel))) (Within.cons
    (Within.when (measured_within (hm.via rfl rfl rfl))) Within.nil))))))

theorem memberLocks_within {m : Mask}
    (hm : Mask.Le ⟨0x80080, 0x4200000000000000000000000000000000000000000000, 0x100000000000000000000000000000⟩ m) {port : Nat} {loop : Int} {turn : Int} {origin : Nat} {stamp : Nat} :
    Eff.Within tables m (@memberLocks port loop turn origin stamp) := by
  unfold memberLocks
  exact (Within.look (fun _ => (Within.seq (stackPortSet_within (hm.via rfl rfl rfl)) (Within.when (Within.forEach (fun _ =>
    (Within.seq (setMember_within (hm.via rfl rfl rfl)) (raise_within (hm.via rfl rfl rfl)))))))))

theorem alignmentArrives_within {m : Mask}
    (hm : Mask.Le ⟨0x2988f6a0, 0x1e00262000000000000000000000180073600000010387c0010, 0xe00020000000000000000000000001f100000000000000060800008000100⟩ m) {port : Nat} {loop : Int} {turn : Int} {origin : Nat} {stamp : Nat} :
    Eff.Within tables m (@alignmentArrives port loop turn origin stamp) := by
  unfold alignmentArrives
  exact (stackArrives_within (hm.via rfl rfl rfl) (Within.look (fun _ => (Within.cons (stackPortSet_within (hm.via rfl rfl rfl))
    (Within.cons (Within.when (memberMeasures_within (hm.via rfl rfl rfl))) (Within.cons (Within.when (memberLocks_within
    (hm.via rfl rfl rfl))) Within.nil))))))

theorem memberView_within {m : Mask} (hm : Mask.Le ⟨0x84000, 0x0, 0x0⟩ m) {id : Nat} {row : Nat} {v : ViewData} :
    Eff.Within tables m (@memberView id row v) := by
  unfold memberView
  exact (Within.seq (nextSerial_within (hm.via rfl rfl rfl)) (Within.look (fun _ => (Within.when (Within.upd
    (hm.parts' [.twin] (by decide +kernel)))))))

theorem forwardViews_within {m : Mask}
    (hm : Mask.Le ⟨0x30800080, 0x0, 0x2000000000000000000000000000000100000000000000000000000000000⟩ m) :
    Eff.Within tables m forwardViews := by
  unfold forwardViews
  exact (Within.look (fun _ => (Within.when (Within.forEach (fun _ => (Within.when (withFree_within (hm.via rfl rfl rfl)
    (fun _ => (sendOnStack_within (hm.via rfl rfl rfl))))))))))

theorem memberWrites_within {m : Mask} (hm : Mask.Le ⟨0x800, 0x0, 0x0⟩ m) {v : ViewData} :
    Eff.Within tables m (@memberWrites v) := by
  unfold memberWrites
  exact (Within.look (fun _ => (Within.ofOption (fun _ => (Within.upd (hm.parts' [.ring] (by decide +kernel)))))))

theorem viewsArrive_within {m : Mask}
    (hm : Mask.Le ⟨0x20884880, 0x2000000000000000000000000000000000000000000000, 0xe000000000000000000000000000000100000000000000000000000000000⟩ m) {x : ForwardedViews} :
    Eff.Within tables m (@viewsArrive x) := by
  unfold viewsArrive
  exact (stackArrives_within (hm.via rfl rfl rfl) (Within.look (fun _ => (Within.ite (Within.seq (Within.when (Within.forEach
    (fun _ => (Within.ofOption (fun _ => (memberView_within (hm.via rfl rfl rfl))))))) (sendOnStack_within
    (hm.via rfl rfl rfl))) (Within.when (Within.forEach (fun _ => (memberWrites_within (hm.via rfl rfl rfl)))))))))

theorem execStackHello_effect {stackPort : Nat} {message : Bytes} {s : State} : ∃ e, @execStackHello stackPort message s = done e s ∧ Eff.Within tables ⟨0x3988f6a0, 0x1e003b800000000000000000000018007360000001020000010, 0xe00020000000000000000000000001f100000000000000060800008000100⟩ e :=
  have hm := Mask.Le.refl ⟨0x3988f6a0, 0x1e003b800000000000000000000018007360000001020000010, 0xe00020000000000000000000000001f100000000000000060800008000100⟩
  ⟨_, rfl, (operating_within (hm.via rfl rfl rfl) (helloArrives_within (hm.via rfl rfl rfl)))⟩

theorem execStackHelloTimer_effect {stackPort : Nat} {s : State} : ∃ e, @execStackHelloTimer stackPort s = done e s ∧ Eff.Within tables ⟨0x20880080, 0x0, 0x2000000000000000000000000000000100000000000000000000000000000⟩ e :=
  have hm := Mask.Le.refl ⟨0x20880080, 0x0, 0x2000000000000000000000000000000100000000000000000000000000000⟩
  ⟨_, rfl, (operating_within (hm.via rfl rfl rfl) (helloTimer_within (hm.via rfl rfl rfl)))⟩

theorem execStackMemberLost_effect {member : Nat} {s : State} : ∃ e, @execStackMemberLost member s = done e s ∧ Eff.Within tables ⟨0x1808b298, 0x3000000000c20000000000004000e002000000000000000000000000, 0x16000000000000000000000000000000000108000000200000065000080000000⟩ e :=
  have hm := Mask.Le.refl ⟨0x1808b298, 0x3000000000c20000000000004000e002000000000000000000000000, 0x16000000000000000000000000000000000108000000200000065000080000000⟩
  ⟨_, rfl, (operating_within (hm.via rfl rfl rfl) (memberLost_within (hm.via rfl rfl rfl)))⟩

theorem execAlignment_effect {stackPort : Nat} {loop : Int} {turn : Int} {origin : Nat} {stamp : Nat} {s : State} : ∃ e, @execAlignment stackPort loop turn origin stamp s = done e s ∧ Eff.Within tables ⟨0x2988f6a0, 0x1e00262000000000000000000000180073600000010387c0010, 0xe00020000000000000000000000001f100000000000000060800008000100⟩ e :=
  have hm := Mask.Le.refl ⟨0x2988f6a0, 0x1e00262000000000000000000000180073600000010387c0010, 0xe00020000000000000000000000001f100000000000000060800008000100⟩
  ⟨_, rfl, (operating_within (hm.via rfl rfl rfl) (alignmentArrives_within (hm.via rfl rfl rfl)))⟩

theorem execAlignmentTimer_effect {s : State} : ∃ e, @execAlignmentTimer s = done e s ∧ Eff.Within tables ⟨0x20880080, 0x0, 0x2000000000000000000000000000000100000000000000000000000000000⟩ e :=
  have hm := Mask.Le.refl ⟨0x20880080, 0x0, 0x2000000000000000000000000000000100000000000000000000000000000⟩
  ⟨_, rfl, (operating_within (hm.via rfl rfl rfl) (alignmentTimerAct_within (hm.via rfl rfl rfl)))⟩

theorem execViewForward_effect {views : ForwardedViews} {s : State} : ∃ e, @execViewForward views s = done e s ∧ Eff.Within tables ⟨0x20884880, 0x2000000000000000000000000000000000000000000000, 0xe000000000000000000000000000000100000000000000000000000000000⟩ e :=
  have hm := Mask.Le.refl ⟨0x20884880, 0x2000000000000000000000000000000000000000000000, 0xe000000000000000000000000000000100000000000000000000000000000⟩
  ⟨_, rfl, (operating_within (hm.via rfl rfl rfl) (viewsArrive_within (hm.via rfl rfl rfl)))⟩

end Sys2Proof.Machine
end

