-- ==== Sys2Proof/Laws/WithinTwin.lean ====
section
/-! SUPPORT. Frame lemmas: every update that an effect of Machine/Twin.lean, Machine/Image.lean, Machine/HostPort.lean, Machine/Gptp.lean can issue
lies in a mask. -/

namespace Sys2Proof.Machine

set_option Elab.async false
set_option linter.unusedTactic false
set_option linter.unusedVariables false

/-! ## Twin -/

theorem requestCoppice_within {m : Mask}
    (hm : Mask.Le ⟨0x20880080, 0x4020000000000000000000000000000000000000000000000, 0x2000000000000000000000000000000100000000000000000000000000000⟩ m) :
    Eff.Within tables m requestCoppice := by
  unfold requestCoppice
  exact (Within.look (fun _ => (Within.cons (Within.upd (hm.parts' [.twin] (by decide +kernel))) (Within.cons (Within.setN
    (hm.obj (by decide +kernel))) (Within.cons (setTwinState_within (hm.via rfl rfl rfl)) (Within.cons (sendStack_within
    (hm.via rfl rfl rfl)) Within.nil))))))

theorem coppiceFails_within {m : Mask}
    (hm : Mask.Le ⟨0x80080, 0x20000000000000000000000000000000000000000000000, 0x800000000000000000000000000000100000000000000000000000000000⟩ m) {reason : Nat} :
    Eff.Within tables m (@coppiceFails reason) := by
  unfold coppiceFails
  exact (Within.cons (raise_within (hm.via rfl rfl rfl)) (Within.cons (Within.count (hm.ctr (by decide +kernel))) (Within.cons
    (Within.upd (hm.parts' [.twin] (by decide +kernel))) (Within.cons (setTwinState_within (hm.via rfl rfl rfl)) Within.nil))))

theorem compareDigests_within {m : Mask}
    (hm : Mask.Le ⟨0x2998f6a0, 0x1e0020000000000000000000000018007360000001020000010, 0x20003c000000000000000000000001f100000000000000060800008000100⟩ m) {n : Nat} {peer : List Bytes} :
    Eff.Within tables m (@compareDigests n peer) := by
  unfold compareDigests
  exact (Within.look (fun _ => (Within.when (Within.forEach (fun _ => (Within.when (twinMismatch_within
    (hm.via rfl rfl rfl))))))))

theorem sendStep_within {m : Mask}
    (hm : Mask.Le ⟨0x2998f6a0, 0x1e0020000000000000000000000018007360000001020000010, 0x20003e080000000000000000000001f100000000000000060800008000100⟩ m) :
    Eff.Within tables m sendStep := by
  unfold sendStep
  exact (Within.look (fun _ => (Within.when (Within.when (Within.cons (settleShadows_within (hm.via rfl rfl rfl)) (Within.cons
    (Within.upd (hm.parts' [.twin] (by decide +kernel))) (Within.cons (Within.count (hm.ctr (by decide +kernel))) (Within.cons
    (sendStack_within (hm.via rfl rfl rfl)) (Within.cons
    (by (try dsimp only); split; exacts [(Within.when (Within.seq (Within.upd (hm.parts' [.twin] (by decide +kernel))) (Within.when (compareDigests_within (hm.via rfl rfl rfl))))),
    Within.skip]) Within.nil)))))))))

theorem stateOnRecord_within {m : Mask}
    (hm : Mask.Le ⟨0x20880080, 0x4020000000000000000000000000000000000000000000000, 0x2000000000000000000000000000000100000000000000000000000000000⟩ m) {state : Nat} :
    Eff.Within tables m (@stateOnRecord state) := by
  unfold stateOnRecord
  exact (Within.look (fun _ => (Within.ite (requestCoppice_within (hm.via rfl rfl rfl)) (Within.ite (setTwinState_within
    (hm.via rfl rfl rfl)) (Within.ite (setTwinState_within (hm.via rfl rfl rfl)) Within.skip)))))

theorem stepArrives_within {m : Mask}
    (hm : Mask.Le ⟨0x2d98fea0, 0x1e46e2000000000000000000000018007360000001020000010, 0xe1003c100000000000000000000001f100000000000000060800008000100⟩ m) {epoch : Nat} {b : Bytes} :
    Eff.Within tables m (@stepArrives epoch b) := by
  unfold stepArrives
  exact (Within.look (fun _ => (Within.when (stackArrives_within (hm.via rfl rfl rfl) (Within.look (fun _ => (Within.cons
    (Within.count (hm.ctr (by decide +kernel))) (Within.cons (Within.setN (hm.obj (by decide +kernel))) (Within.cons
    (Within.when (raise_within (hm.via rfl rfl rfl))) (Within.cons (Within.upd (hm.parts' [.twin] (by decide +kernel)))
    (Within.cons (peerRankSeen_within (hm.via rfl rfl rfl)) (Within.cons (Within.when (Within.look (fun _ => (Within.seq
    (renewalSeen_within (hm.via rfl rfl rfl)) (Within.when (yieldToPeer_within (hm.via rfl rfl rfl))))))) (Within.cons
    (Within.when (Within.ite (compareDigests_within (hm.via rfl rfl rfl)) (Within.upd
    (hm.parts' [.twin] (by decide +kernel))))) (Within.cons (stateOnRecord_within (hm.via rfl rfl rfl)) Within.nil))))))))))))))

theorem stepMissed_within {m : Mask}
    (hm : Mask.Le ⟨0x80080, 0x20000000000000000000000000000000000000000000000, 0x800002000000000000000000000000100000000000000000000000000000⟩ m) :
    Eff.Within tables m stepMissed := by
  unfold stepMissed
  exact (Within.look (fun _ => (Within.when (Within.cons (Within.count (hm.ctr (by decide +kernel))) (Within.cons (Within.when
    (raise_within (hm.via rfl rfl rfl))) (Within.cons (Within.upd (hm.parts' [.twin] (by decide +kernel))) (Within.cons
    (Within.when (Within.ite (setTwinState_within (hm.via rfl rfl rfl)) (Within.ite (coppiceFails_within (hm.via rfl rfl rfl))
    (Within.when (setTwinState_within (hm.via rfl rfl rfl)))))) Within.nil)))))))

theorem mirrorArrives_within {μ : Mask}
    (hm : Mask.Le ⟨0x4000, 0x2000000000000000000000000000000000000000000000, 0xc000008000000000000000000000000000000000000000000000000000000⟩ μ) {m : MirrorMsg} :
    Eff.Within tables μ (@mirrorArrives m) := by
  unfold mirrorArrives
  exact (Within.look (fun _ => (Within.when (stackArrives_within (hm.via rfl rfl rfl) (Within.seq (Within.count
    (hm.ctr (by decide +kernel))) (Within.when (Within.upd (hm.parts' [.messages] (by decide +kernel)))))))))

theorem selfTestOutcome_within {m : Mask}
    (hm : Mask.Le ⟨0x20880080, 0x4020000000000000000000000000000000000000000000000, 0x2000000000000000000000000000000100000000000000000000000000000⟩ m) :
    Eff.Within tables m selfTestOutcome := by
  unfold selfTestOutcome
  exact (Within.look (fun _ =>
    (by (try dsimp only); split; exacts [(Within.cons (Within.upd (hm.parts' [.twin] (by decide +kernel))) (Within.cons (raise_within (hm.via rfl rfl rfl)) (Within.cons (Within.ite (Within.ite (setTwinState_within (hm.via rfl rfl rfl)) (releaseBegin_within (hm.via rfl rfl rfl))) (Within.ite (setTwinState_within (hm.via rfl rfl rfl)) (Within.when (requestCoppice_within (hm.via rfl rfl rfl))))) Within.nil))),
    Within.skip])))

theorem selfTestAsked_within {m : Mask}
    (hm : Mask.Le ⟨0x80000, 0x2000000000000000000000000000000000000000000000, 0xc000000000000000000000000000000000000000000000000000000000000⟩ m) {g : Nat} {start : Nat} :
    Eff.Within tables m (@selfTestAsked g start) := by
  unfold selfTestAsked
  exact (Within.look (fun _ => (Within.when (stackArrives_within (hm.via rfl rfl rfl) (Within.upd
    (hm.parts' [.twin] (by decide +kernel)))))))

theorem selfTesting_within {m : Mask} (hm : Mask.Le ⟨0x8000000, 0x0, 0x0⟩ m) {g : Nat} {on : Bool} :
    Eff.Within tables m (@selfTesting g on) := by
  unfold selfTesting
  exact (Within.look (fun _ => (Within.upd (hm.parts' [.power] (by decide +kernel)))))

theorem selfTestStarts_within {m : Mask}
    (hm : Mask.Le ⟨0x8000080, 0x0, 0x400000000000000000000000000100000000000000400000000000000⟩ m) {g : Nat} :
    Eff.Within tables m (@selfTestStarts g) := by
  unfold selfTestStarts
  exact (Within.whenS (Within.cons (selfTesting_within (hm.via rfl rfl rfl)) (Within.cons (raise_within (hm.via rfl rfl rfl))
    (Within.cons (Within.count (hm.ctr (by decide +kernel))) (Within.cons (Within.count (Ctr.grove
    (hm.ctr (by decide +kernel)))) Within.nil)))))

theorem selfTestFailed_within {m : Mask} (hm : Mask.Le ⟨0x4000000, 0x0, 0x0⟩ m) :
    Eff.Within tables m selfTestFailed := by
  unfold selfTestFailed
  exact (Within.upd (hm.parts' [.canopy] (by decide +kernel)))

theorem selfTestEnds_within {m : Mask}
    (hm : Mask.Le ⟨0x2c880080, 0x4020000000000000000000000000000000000000000000000, 0x2000800000000000000000000000000100000000000000800000000000000⟩ m) {g : Nat} {pass : Bool} :
    Eff.Within tables m (@selfTestEnds g pass) := by
  unfold selfTestEnds
  exact (Within.whenS (Within.cons (selfTesting_within (hm.via rfl rfl rfl)) (Within.cons (Within.upd
    (hm.parts' [.twin] (by decide +kernel))) (Within.cons (Within.when (Within.cons (selfTestFailed_within
    (hm.via rfl rfl rfl)) (Within.cons (Within.count (hm.ctr (by decide +kernel))) (Within.cons (Within.count (Ctr.grove
    (hm.ctr (by decide +kernel)))) (Within.cons (raise_within (hm.via rfl rfl rfl)) Within.nil))))) (Within.cons (Within.look
    (fun _ => (sendStack_within (hm.via rfl rfl rfl)))) (Within.cons (selfTestOutcome_within
    (hm.via rfl rfl rfl)) Within.nil))))))

theorem peerResult_within {m : Mask}
    (hm : Mask.Le ⟨0x20880080, 0x4020000000000000000000000000000000000000000000000, 0x2000000000000000000000000000000100000000000000000000000000000⟩ m) {g : Nat} {pass : Bool} :
    Eff.Within tables m (@peerResult g pass) := by
  unfold peerResult
  exact (Within.whenS (Within.seq (Within.upd (hm.parts' [.twin] (by decide +kernel))) (selfTestOutcome_within
    (hm.via rfl rfl rfl))))

theorem extendLease_within {m : Mask}
    (hm : Mask.Le ⟨0x4080000, 0x340000000000000000000000000000000000000000000000, 0x1000000000000000000000000000000000000000000000000000000000⟩ m) {c : Nat} :
    Eff.Within tables m (@extendLease c) := by
  unfold extendLease
  exact (Within.look (fun _ => (Within.cons (Within.setN (hm.obj (by decide +kernel))) (Within.cons (Within.count
    (hm.ctr (by decide +kernel))) (Within.cons (Within.upd (hm.parts' [.twin] (by decide +kernel))) (Within.cons
    (renewalSeen_within (hm.via rfl rfl rfl)) Within.nil))))))

theorem leaseEnds_within {m : Mask}
    (hm : Mask.Le ⟨0x80a80, 0xa00000000000000000000000000000002010018004c0000, 0x100000000000000000000000000000⟩ m) {next : Nat} :
    Eff.Within tables m (@leaseEnds next) := by
  unfold leaseEnds
  exact (Within.cons (stopLaunching_within (hm.via rfl rfl rfl)) (Within.cons (Within.setB (hm.obj (by decide +kernel)))
    (Within.cons (Within.upd (hm.parts' [.twin] (by decide +kernel))) (Within.cons (setTwinState_within
    (hm.via rfl rfl rfl)) Within.nil))))

theorem leaseExpires_within {m : Mask}
    (hm : Mask.Le ⟨0x80a80, 0xa00000000000000000000000000000002010018004c0000, 0x10000000000000000000000000000100000000000000000000000000000⟩ m) :
    Eff.Within tables m leaseExpires := by
  unfold leaseExpires
  exact (Within.look (fun _ => (Within.cons (raise_within (hm.via rfl rfl rfl)) (Within.cons (Within.count
    (hm.ctr (by decide +kernel))) (Within.cons (leaseEnds_within (hm.via rfl rfl rfl)) Within.nil)))))

theorem holderBoundary_within {m : Mask}
    (hm : Mask.Le ⟨0x4080a80, 0x1be00000000000000000000000000000002010018004c0000, 0x1b000000000000000000000000000100000000000000000000000000000⟩ m) {c : Nat} :
    Eff.Within tables m (@holderBoundary c) := by
  unfold holderBoundary
  exact (Within.look (fun _ => (Within.ite (Within.cons (raise_within (hm.via rfl rfl rfl)) (Within.cons (Within.count
    (hm.ctr (by decide +kernel))) (Within.cons (leaseEnds_within (hm.via rfl rfl rfl)) Within.nil))) (Within.cons (Within.setN
    (hm.obj (by decide +kernel))) (Within.cons (Within.setN (hm.obj (by decide +kernel))) (Within.cons (Within.ite
    (extendLease_within (hm.via rfl rfl rfl)) (Within.cons (Within.count (hm.ctr (by decide +kernel))) (Within.cons (Within.upd
    (hm.parts' [.twin] (by decide +kernel))) (Within.cons (Within.ite (leaseExpires_within (hm.via rfl rfl rfl)) (raise_within
    (hm.via rfl rfl rfl))) Within.nil)))) Within.nil))))))

theorem leaseBoundary_within {m : Mask}
    (hm : Mask.Le ⟨0x2d98fea0, 0x1e1be00000000000000000000000180073602010018204c0010, 0x201b3e000000000000000000000001f100000000000000060800008000100⟩ m) {c : Nat} :
    Eff.Within tables m (@leaseBoundary c) := by
  unfold leaseBoundary
  exact (Within.whenS (Within.cons (Within.look (fun _ => (Within.upd (hm.parts' [.twin] (by decide +kernel))))) (Within.cons
    (rankFollows_within (hm.via rfl rfl rfl)) (Within.cons (settleShadows_within (hm.via rfl rfl rfl)) (Within.cons (Within.upd
    (hm.parts' [.messages] (by decide +kernel))) (Within.cons (Within.whenS (holderBoundary_within
    (hm.via rfl rfl rfl))) Within.nil))))))

theorem acquireLease_within {m : Mask}
    (hm : Mask.Le ⟨0x4080a80, 0x23e000000000000000000000000000000010f0018004c0000, 0x5000000000000000000100000000100000000000000000000000000000⟩ m) {path : Nat} :
    Eff.Within tables m (@acquireLease path) := by
  unfold acquireLease
  exact (Within.look (fun _ => (Within.cons (Within.setN (hm.obj (by decide +kernel))) (Within.cons (Within.upd
    (hm.parts' [.canopy] (by decide +kernel))) (Within.cons (Within.setB (hm.obj (by decide +kernel))) (Within.cons
    (Within.setN (hm.obj (by decide +kernel))) (Within.cons (Within.upd (hm.parts' [.twin] (by decide +kernel))) (Within.cons
    (extendLease_within (hm.via rfl rfl rfl)) (Within.cons (Within.upd (hm.parts' [.twin] (by decide +kernel))) (Within.cons
    (raise_within (hm.via rfl rfl rfl)) (Within.cons (Within.count (hm.ctr (by decide +kernel))) (Within.cons
    (setTwinState_within (hm.via rfl rfl rfl)) (Within.cons (becomeMaster_within (hm.via rfl rfl rfl)) (Within.cons (Within.upd
    (hm.parts' [.ring] (by decide +kernel))) (Within.cons (Within.look (fun _ => (Within.setN
    (hm.obj (by decide +kernel))))) Within.nil)))))))))))))))

theorem pollOnLane_within {m : Mask}
    (hm : Mask.Le ⟨0x1800b280, 0x3000000000000000000000004000e002000000000000000000000000, 0x16000000000000000000000000000000000100000000200000065000080000000⟩ m) {lane : Nat} {epoch : Nat} {body : Bytes} :
    Eff.Within tables m (@pollOnLane lane epoch body) := by
  unfold pollOnLane
  exact (Within.look (fun _ => (sendUrgent_within (hm.via rfl rfl rfl))))

theorem sendPoll_within {m : Mask}
    (hm : Mask.Le ⟨0x1808b280, 0x3000000000000000000000004000e002000000000000000000000000, 0x16000020000000000000000000000000000100000000200000065000080000000⟩ m) :
    Eff.Within tables m sendPoll := by
  unfold sendPoll
  exact (Within.look (fun _ => (Within.when (Within.cons (Within.upd (hm.parts' [.twin] (by decide +kernel))) (Within.cons
    (raise_within (hm.via rfl rfl rfl)) (Within.cons (Within.count (hm.ctr (by decide +kernel))) (Within.cons (Within.when
    (pollOnLane_within (hm.via rfl rfl rfl))) (Within.cons (Within.when (pollOnLane_within
    (hm.via rfl rfl rfl))) Within.nil))))))))

theorem pollReturns_within {m : Mask} (hm : Mask.Le ⟨0x80000, 0x0, 0x0⟩ m) {b : Bytes} :
    Eff.Within tables m (@pollReturns b) := by
  unfold pollReturns
  exact (Within.look (fun _ =>
    (by (try dsimp only); split; exacts [(Within.when (Within.upd (hm.parts' [.twin] (by decide +kernel)))), Within.skip])))

theorem lockVote_within {m : Mask} (hm : Mask.Le ⟨0x800, 0x0, 0x0⟩ m) {lockCycles : Nat} :
    Eff.Within tables m (@lockVote lockCycles) := by
  unfold lockVote
  exact (Within.look (fun _ =>
    (by (try dsimp only); split; exacts [(Within.when (Within.upd (hm.parts' [.ring] (by decide +kernel)))), Within.skip])))

theorem pollPasses_within {m : Mask}
    (hm : Mask.Le ⟨0x1800ba80, 0x3000000000000000000000004000e002000000000000000000000000, 0x160000c0000000000000000000000000000100000000200000065000080000000⟩ m) {lane : Nat} {epoch : Nat} {b : Bytes} :
    Eff.Within tables m (@pollPasses lane epoch b) := by
  unfold pollPasses
  exact (Within.look (fun _ => (Within.cons (Within.when (Within.upd (hm.parts' [.ring] (by decide +kernel)))) (Within.cons
    (Within.when (Within.seq (Within.count (hm.ctr (by decide +kernel))) (lockVote_within (hm.via rfl rfl rfl)))) (Within.cons
    (Within.when (Within.seq (Within.count (hm.ctr (by decide +kernel))) (pollOnLane_within
    (hm.via rfl rfl rfl)))) Within.nil)))))

theorem pollTaken_within {m : Mask}
    (hm : Mask.Le ⟨0x1808ba80, 0x3000000000000000000000004000e002000000000000000000000000, 0x160000c0000000000000000000000000000100000000200000065000080000000⟩ m) {lane : Nat} {epoch : Nat} {b : Bytes} {icv : Icv} :
    Eff.Within tables m (@pollTaken lane epoch b icv) := by
  unfold pollTaken
  exact (Within.look (fun _ => (Within.when (Within.ite (pollReturns_within (hm.via rfl rfl rfl)) (pollPasses_within
    (hm.via rfl rfl rfl))))))

theorem pollArrives_within {m : Mask}
    (hm : Mask.Le ⟨0x3989fea0, 0x300001e002001e00000000004000e00201f57f360000001020000010, 0x160020c020000000001c06003800000001f10000000020000016580008a819173⟩ m) {lane : Nat} {epoch : Nat} {b : Bytes} {icv : Icv} :
    Eff.Within tables m (@pollArrives lane epoch b icv) := by
  unfold pollArrives
  exact (Within.look (fun _ => (offWrap_within (hm.via rfl rfl rfl) (received_within (hm.via rfl rfl rfl) (fun _ =>
    (pollTaken_within (hm.via rfl rfl rfl)))))))

theorem voteLockEnds_within {m : Mask} (hm : Mask.Le ⟨0x800, 0x0, 0x0⟩ m) :
    Eff.Within tables m voteLockEnds := by
  unfold voteLockEnds
  exact (Within.look (fun _ =>
    (by (try dsimp only); split; exacts [(Within.when (Within.upd (hm.parts' [.ring] (by decide +kernel)))), Within.skip])))

theorem evaluatePoll_within {m : Mask}
    (hm : Mask.Le ⟨0x4080a80, 0x2be000000000000000000000000000000010f0018004c0000, 0x5000000000000000000100000000100000000000000000000000000000⟩ m) :
    Eff.Within tables m evaluatePoll := by
  unfold evaluatePoll
  exact (Within.look (fun _ =>
    (by (try dsimp only); split; exacts [(Within.ite (Within.when (Within.upd (hm.parts' [.twin] (by decide +kernel)))) (Within.cons (Within.upd (hm.parts' [.twin] (by decide +kernel))) (Within.cons (Within.setN (hm.obj (by decide +kernel))) (Within.cons (raise_within (hm.via rfl rfl rfl)) (Within.cons (Within.ite (Within.cons (Within.setN (hm.obj (by decide +kernel))) (Within.cons (Within.upd (hm.parts' [.canopy] (by decide +kernel))) (Within.cons (Within.upd (hm.parts' [.twin] (by decide +kernel))) Within.nil))) (Within.when (acquireLease_within (hm.via rfl rfl rfl)))) Within.nil))))),
    Within.skip])))

theorem noWitnessAcquires_within {m : Mask}
    (hm : Mask.Le ⟨0x4080a80, 0x23e000000000000000000000000000000010f0018004c0000, 0x5000000000000000000100000000100000000000000000000000000000⟩ m) :
    Eff.Within tables m noWitnessAcquires := by
  unfold noWitnessAcquires
  exact (Within.look (fun _ => (Within.when (acquireLease_within (hm.via rfl rfl rfl)))))

theorem releaseTaken_within {m : Mask}
    (hm : Mask.Le ⟨0x4080a80, 0x23e000000000000000000000000000000010f0018004c0000, 0x5000000000000000000100000000100000000000000000000000000000⟩ m) :
    Eff.Within tables m releaseTaken := by
  unfold releaseTaken
  exact (Within.look (fun _ =>
    (by (try dsimp only); split; exacts [(Within.ite Within.skip (Within.seq (Within.upd (hm.parts' [.twin] (by decide +kernel))) (Within.when (acquireLease_within (hm.via rfl rfl rfl))))),
    Within.skip])))

theorem expiryAct_within {m : Mask}
    (hm : Mask.Le ⟨0x80a80, 0xa00000000000000000000000000000002010018004c0000, 0x10000000000000000000000000000100000000000000000000000000000⟩ m) :
    Eff.Within tables m expiryAct := by
  unfold expiryAct
  exact (Within.whenS (leaseExpires_within (hm.via rfl rfl rfl)))

theorem healthBoundary_within {m : Mask} (hm : Mask.Le ⟨0x80880, 0x0, 0x100000000000000000000000000000⟩ m) :
    Eff.Within tables m healthBoundary := by
  unfold healthBoundary
  exact (Within.look (fun _ => (Within.when (Within.cons
    (by (try dsimp only); split; exacts [(Within.when (Within.upd (hm.parts' [.ring] (by decide +kernel)))), Within.skip])
    (Within.cons (Within.when (raise_within (hm.via rfl rfl rfl))) (Within.cons (Within.upd
    (hm.parts' [.twin] (by decide +kernel))) Within.nil))))))

theorem backgroundStep_within {m : Mask}
    (hm : Mask.Le ⟨0x2d88f6a0, 0x1e0020000000000000000000000018007360000001020000010, 0x200020000000000000000000000001f100000000000000c60800008000100⟩ m) {test : Nat} {inst : Nat} {pass : Bool} {fullPass : Bool} :
    Eff.Within tables m (@backgroundStep test inst pass fullPass) := by
  unfold backgroundStep
  exact (Within.look (fun _ => (Within.when (Within.cons (Within.when (Within.seq (Within.count (Ctr.grove
    (hm.ctr (by decide +kernel)))) (Within.when (Within.count (Ctr.grove (hm.ctr (by decide +kernel))))))) (Within.cons
    (Within.when (Within.seq (faultOccur_within (hm.via rfl rfl rfl) (fun _ => (Within.when (raiseSev_within
    (hm.via rfl rfl rfl))))) (selfTestFailed_within (hm.via rfl rfl rfl)))) (Within.cons (Within.when (Within.upd
    (hm.parts' [.twin] (by decide +kernel)))) Within.nil))))))

theorem execStepRecordSend_effect {s : State} : ∃ e, @execStepRecordSend s = done e s ∧ Eff.Within tables ⟨0x2998f6a0, 0x1e0020000000000000000000000018007360000001020000010, 0x20003e080000000000000000000001f100000000000000060800008000100⟩ e :=
  have hm := Mask.Le.refl ⟨0x2998f6a0, 0x1e0020000000000000000000000018007360000001020000010, 0x20003e080000000000000000000001f100000000000000060800008000100⟩
  ⟨_, rfl, (operating_within (hm.via rfl rfl rfl) (sendStep_within (hm.via rfl rfl rfl)))⟩

theorem execStepRecord_effect {epoch : Nat} {body : Bytes} {s : State} : ∃ e, @execStepRecord epoch body s = done e s ∧ Eff.Within tables ⟨0x2d98fea0, 0x1e46e2000000000000000000000018007360000001020000010, 0xe1003c100000000000000000000001f100000000000000060800008000100⟩ e :=
  have hm := Mask.Le.refl ⟨0x2d98fea0, 0x1e46e2000000000000000000000018007360000001020000010, 0xe1003c100000000000000000000001f100000000000000060800008000100⟩
  ⟨_, rfl, (operating_within (hm.via rfl rfl rfl) (stepArrives_within (hm.via rfl rfl rfl)))⟩

theorem execStepRecordMissed_effect {s : State} : ∃ e, @execStepRecordMissed s = done e s ∧ Eff.Within tables ⟨0x80080, 0x20000000000000000000000000000000000000000000000, 0x800002000000000000000000000000100000000000000000000000000000⟩ e :=
  have hm := Mask.Le.refl ⟨0x80080, 0x20000000000000000000000000000000000000000000000, 0x800002000000000000000000000000100000000000000000000000000000⟩
  ⟨_, rfl, (operating_within (hm.via rfl rfl rfl) (stepMissed_within (hm.via rfl rfl rfl)))⟩

theorem execMirror_effect {message : MirrorMsg} {s : State} : ∃ e, @execMirror message s = done e s ∧ Eff.Within tables ⟨0x4000, 0x2000000000000000000000000000000000000000000000, 0xc000008000000000000000000000000000000000000000000000000000000⟩ e :=
  have hm := Mask.Le.refl ⟨0x4000, 0x2000000000000000000000000000000000000000000000, 0xc000008000000000000000000000000000000000000000000000000000000⟩
  ⟨_, rfl, (operating_within (hm.via rfl rfl rfl) (mirrorArrives_within (hm.via rfl rfl rfl)))⟩

theorem execSelfTestRequest_effect {grove : Nat} {start : Nat} {s : State} : ∃ e, @execSelfTestRequest grove start s = done e s ∧ Eff.Within tables ⟨0x80000, 0x2000000000000000000000000000000000000000000000, 0xc000000000000000000000000000000000000000000000000000000000000⟩ e :=
  have hm := Mask.Le.refl ⟨0x80000, 0x2000000000000000000000000000000000000000000000, 0xc000000000000000000000000000000000000000000000000000000000000⟩
  ⟨_, rfl, (operating_within (hm.via rfl rfl rfl) (selfTestAsked_within (hm.via rfl rfl rfl)))⟩

theorem execGroveSelfTestStart_effect {grove : Nat} {s : State} : ∃ e, @execGroveSelfTestStart grove s = done e s ∧ Eff.Within tables ⟨0x8000080, 0x0, 0x400000000000000000000000000100000000000000400000000000000⟩ e :=
  have hm := Mask.Le.refl ⟨0x8000080, 0x0, 0x400000000000000000000000000100000000000000400000000000000⟩
  ⟨_, rfl, (operating_within (hm.via rfl rfl rfl) (selfTestStarts_within (hm.via rfl rfl rfl)))⟩

theorem execGroveSelfTestEnd_effect {grove : Nat} {pass : Bool} {s : State} : ∃ e, @execGroveSelfTestEnd grove pass s = done e s ∧ Eff.Within tables ⟨0x2c880080, 0x4020000000000000000000000000000000000000000000000, 0x2000800000000000000000000000000100000000000000800000000000000⟩ e :=
  have hm := Mask.Le.refl ⟨0x2c880080, 0x4020000000000000000000000000000000000000000000000, 0x2000800000000000000000000000000100000000000000800000000000000⟩
  ⟨_, rfl, (operating_within (hm.via rfl rfl rfl) (selfTestEnds_within (hm.via rfl rfl rfl)))⟩

theorem execSelfTestResult_effect {grove : Nat} {pass : Bool} {s : State} : ∃ e, @execSelfTestResult grove pass s = done e s ∧ Eff.Within tables ⟨0x20880080, 0x4022000000000000000000000000000000000000000000000, 0xe000000000000000000000000000000100000000000000000000000000000⟩ e :=
  have hm := Mask.Le.refl ⟨0x20880080, 0x4022000000000000000000000000000000000000000000000, 0xe000000000000000000000000000000100000000000000000000000000000⟩
  ⟨_, rfl, (operating_within (hm.via rfl rfl rfl) (Within.look (fun _ => (stackArrives_within (hm.via rfl rfl rfl)
    (peerResult_within (hm.via rfl rfl rfl))))))⟩

theorem execSelfTestResultTimeout_effect {grove : Nat} {s : State} : ∃ e, @execSelfTestResultTimeout grove s = done e s ∧ Eff.Within tables ⟨0x20880080, 0x4020000000000000000000000000000000000000000000000, 0x2000000000000000000000000000000100000000000000000000000000000⟩ e :=
  have hm := Mask.Le.refl ⟨0x20880080, 0x4020000000000000000000000000000000000000000000000, 0x2000000000000000000000000000000100000000000000000000000000000⟩
  ⟨_, rfl, (operating_within (hm.via rfl rfl rfl) (Within.whenS (peerResult_within (hm.via rfl rfl rfl))))⟩

theorem execLeaseExpiry_effect {s : State} : ∃ e, @execLeaseExpiry s = done e s ∧ Eff.Within tables ⟨0x80a80, 0xa00000000000000000000000000000002010018004c0000, 0x10000000000000000000000000000100000000000000000000000000000⟩ e :=
  have hm := Mask.Le.refl ⟨0x80a80, 0xa00000000000000000000000000000002010018004c0000, 0x10000000000000000000000000000100000000000000000000000000000⟩
  ⟨_, rfl, (operating_within (hm.via rfl rfl rfl) (expiryAct_within (hm.via rfl rfl rfl)))⟩

theorem execWitnessPollSend_effect {s : State} : ∃ e, @execWitnessPollSend s = done e s ∧ Eff.Within tables ⟨0x1808b280, 0x3000000000000000000000004000e002000000000000000000000000, 0x16000020000000000000000000000000000100000000200000065000080000000⟩ e :=
  have hm := Mask.Le.refl ⟨0x1808b280, 0x3000000000000000000000004000e002000000000000000000000000, 0x16000020000000000000000000000000000100000000200000065000080000000⟩
  ⟨_, rfl, (operating_within (hm.via rfl rfl rfl) (sendPoll_within (hm.via rfl rfl rfl)))⟩

theorem execWitnessPoll_effect {lane : Nat} {epoch : Nat} {body : Bytes} {icv : Icv} {s : State} : ∃ e, @execWitnessPoll lane epoch body icv s = done e s ∧ Eff.Within tables ⟨0x3989fea0, 0x300001e002001e00000000004000e00201f57f360000001020000010, 0x160020c020000000001c06003800000001f10000000020000016580008a819173⟩ e :=
  have hm := Mask.Le.refl ⟨0x3989fea0, 0x300001e002001e00000000004000e00201f57f360000001020000010, 0x160020c020000000001c06003800000001f10000000020000016580008a819173⟩
  ⟨_, rfl, (operating_within (hm.via rfl rfl rfl) (pollArrives_within (hm.via rfl rfl rfl)))⟩

theorem execVoteLockEnd_effect {s : State} : ∃ e, @execVoteLockEnd s = done e s ∧ Eff.Within tables ⟨0x800, 0x0, 0x0⟩ e :=
  have hm := Mask.Le.refl ⟨0x800, 0x0, 0x0⟩
  ⟨_, rfl, (operating_within (hm.via rfl rfl rfl) (voteLockEnds_within (hm.via rfl rfl rfl)))⟩

theorem execWitnessPollEvaluation_effect {s : State} : ∃ e, @execWitnessPollEvaluation s = done e s ∧ Eff.Within tables ⟨0x4080a80, 0x2be000000000000000000000000000000010f0018004c0000, 0x5000000000000000000100000000100000000000000000000000000000⟩ e :=
  have hm := Mask.Le.refl ⟨0x4080a80, 0x2be000000000000000000000000000000010f0018004c0000, 0x5000000000000000000100000000100000000000000000000000000000⟩
  ⟨_, rfl, (operating_within (hm.via rfl rfl rfl) (evaluatePoll_within (hm.via rfl rfl rfl)))⟩

theorem execNoWitnessAcquire_effect {s : State} : ∃ e, @execNoWitnessAcquire s = done e s ∧ Eff.Within tables ⟨0x4080a80, 0x23e000000000000000000000000000000010f0018004c0000, 0x5000000000000000000100000000100000000000000000000000000000⟩ e :=
  have hm := Mask.Le.refl ⟨0x4080a80, 0x23e000000000000000000000000000000010f0018004c0000, 0x5000000000000000000100000000100000000000000000000000000000⟩
  ⟨_, rfl, (operating_within (hm.via rfl rfl rfl) (noWitnessAcquires_within (hm.via rfl rfl rfl)))⟩

theorem execReleaseAcquire_effect {s : State} : ∃ e, @execReleaseAcquire s = done e s ∧ Eff.Within tables ⟨0x4080a80, 0x23e000000000000000000000000000000010f0018004c0000, 0x5000000000000000000100000000100000000000000000000000000000⟩ e :=
  have hm := Mask.Le.refl ⟨0x4080a80, 0x23e000000000000000000000000000000010f0018004c0000, 0x5000000000000000000100000000100000000000000000000000000000⟩
  ⟨_, rfl, (operating_within (hm.via rfl rfl rfl) (releaseTaken_within (hm.via rfl rfl rfl)))⟩

theorem execBackgroundSelfTestStep_effect {test : Nat} {inst : Nat} {pass : Bool} {fullPass : Bool} {s : State} : ∃ e, @execBackgroundSelfTestStep test inst pass fullPass s = done e s ∧ Eff.Within tables ⟨0x2d88f6a0, 0x1e0020000000000000000000000018007360000001020000010, 0x200020000000000000000000000001f100000000000000c60800008000100⟩ e :=
  have hm := Mask.Le.refl ⟨0x2d88f6a0, 0x1e0020000000000000000000000018007360000001020000010, 0x200020000000000000000000000001f100000000000000c60800008000100⟩
  ⟨_, rfl, (operating_within (hm.via rfl rfl rfl) (backgroundStep_within (hm.via rfl rfl rfl)))⟩

/-! ## Image -/

theorem noteConfig_within {m : Mask} (hm : Mask.Le ⟨0x800000, 0x0, 0x0⟩ m) :
    Eff.Within tables m noteConfig := by
  unfold noteConfig
  exact (Within.look (fun _ => (Within.upd (hm.parts' [.kiln] (by decide +kernel)))))

/-! ## HostPort -/

theorem ringCreditSet_within {m : Mask} (hm : Mask.Le ⟨0x2000, 0x0, 0x0⟩ m) {r : Nat} {k : RingCredit} :
    Eff.Within tables m (@ringCreditSet r k) := by
  unfold ringCreditSet
  exact (Within.upd (hm.parts' [.traffic] (by decide +kernel)))

theorem settleCredit_within {m : Mask} (hm : Mask.Le ⟨0x2000, 0x0, 0x0⟩ m) {r : Nat} {credit : Int} :
    Eff.Within tables m (@settleCredit r credit) := by
  unfold settleCredit
  exact (Within.look (fun _ => (Within.ite (ringCreditSet_within (hm.via rfl rfl rfl)) (ringCreditSet_within
    (hm.via rfl rfl rfl)))))

theorem ringRateTouch_within {m : Mask} (hm : Mask.Le ⟨0x2000, 0x0, 0x0⟩ m) {r : Nat} :
    Eff.Within tables m (@ringRateTouch r) := by
  unfold ringRateTouch
  exact (Within.look (fun _ => (ringCreditSet_within (hm.via rfl rfl rfl))))

theorem ringRateChanged_within {m : Mask} (hm : Mask.Le ⟨0x2000, 0x0, 0x0⟩ m) {r : Nat} :
    Eff.Within tables m (@ringRateChanged r) := by
  unfold ringRateChanged
  exact (Within.look (fun _ => (settleCredit_within (hm.via rfl rfl rfl))))

theorem chargeRing_within {m : Mask}
    (hm : Mask.Le ⟨0x2000, 0x20000000000000000000000000000000, 0x1000000000000⟩ m) {r : Nat} {port : Nat} {len : Nat} {o : Int} :
    Eff.Within tables m (@chargeRing r port len o) := by
  unfold chargeRing
  exact (Within.whenS (Within.seq (Within.look (fun _ => (settleCredit_within (hm.via rfl rfl rfl)))) (Within.whenS (Within.seq
    (Within.bumpObj (hm.obj (by decide +kernel))) (groveCount_within (hm.via rfl rfl rfl))))))

theorem txFrameSet_within {m : Mask} (hm : Mask.Le ⟨0x18000, 0x0, 0x0⟩ m) {r : Nat} {ident : Nat} {f : TxFrame → TxFrame} :
    Eff.Within tables m (@txFrameSet r ident f) := by
  unfold txFrameSet
  exact (ringSet_within (hm.via rfl rfl rfl))

theorem endHere_within {m : Mask} (hm : Mask.Le ⟨0x18000, 0x0, 0x0⟩ m) {r : Nat} {ident : Nat} {status : Nat} :
    Eff.Within tables m (@endHere r ident status) := by
  unfold endHere
  exact (Within.look (fun _ => (txFrameSet_within (hm.via rfl rfl rfl))))

theorem policyDrop_within {m : Mask}
    (hm : Mask.Le ⟨0x1a000, 0x20000000000000000000000000000000, 0x400000001000000000000⟩ m) {r : Nat} {ident : Nat} {len : Nat} {port : Option Nat} :
    Eff.Within tables m (@policyDrop r ident len port) := by
  unfold policyDrop
  exact (Within.look (fun _ => (Within.cons (chargeRing_within (hm.via rfl rfl rfl)) (Within.cons (Within.count
    (hm.ctr (by decide +kernel))) (Within.cons (endHere_within (hm.via rfl rfl rfl)) Within.nil)))))

theorem queueCopy_within {m : Mask}
    (hm : Mask.Le ⟨0x3880b280, 0x3000000000000000000000004000e002000000000000000000000000, 0x16002000000000000000000000000000000100000000600000065000080000000⟩ m) {r : Nat} {ident : Nat} {h : Option Nat} {launch : Option Nat} {d : Bytes} {p : Nat} :
    Eff.Within tables m (@queueCopy r ident h launch d p) := by
  unfold queueCopy
  exact (Within.look (fun _ => (Within.ite (Within.cons (portOfMember_within (hm.via rfl rfl rfl)) (Within.cons
    (hostStarted_within (hm.via rfl rfl rfl)) (Within.cons (finishHost_within (hm.via rfl rfl rfl)) Within.nil))) (Within.ite
    (Within.seq (Within.count (hm.ctr (by decide +kernel))) (finishHost_within (hm.via rfl rfl rfl))) (Within.seq
    (joinQueue_within (hm.via rfl rfl rfl)) (kick_within (hm.via rfl rfl rfl)))))))

theorem queueFrame_within {m : Mask}
    (hm : Mask.Le ⟨0x3881b280, 0x3000000000000000000000006000e002000000000000000000000000, 0x16002000000000000000000000000000000100000000600000065000080000000⟩ m) {r : Nat} {f : TxFrame} {h : Option Nat} {launch : Option Nat} {ports : List Nat} {d : Bytes} :
    Eff.Within tables m (@queueFrame r f h launch ports d) := by
  unfold queueFrame
  exact (Within.look (fun _ => (Within.cons (txFrameSet_within (hm.via rfl rfl rfl)) (Within.cons (chargeRing_within
    (hm.via rfl rfl rfl)) (Within.cons (Within.forEach (fun _ => (queueCopy_within (hm.via rfl rfl rfl)))) Within.nil)))))

theorem routeFrame_within {m : Mask}
    (hm : Mask.Le ⟨0x3881b280, 0x30000000000000000000000073fee007f80000000000000000000000, 0x1604200000000000000000000000000000010000000167ffc7065000080000000⟩ m) {r : Nat} {f : TxFrame} :
    Eff.Within tables m (@routeFrame r f) := by
  unfold routeFrame
  exact (Within.look (fun _ => (Within.ite (ringSet_within (hm.via rfl rfl rfl)) (lookup_within (hm.via rfl rfl rfl) (fun _ =>
    (streamFilter_within (hm.via rfl rfl rfl) (fun _ _ => (Within.seq (stackCopies_within (hm.via rfl rfl rfl) (fun _ _ =>
    (streamToMember_within (hm.via rfl rfl rfl)))) (Within.ite (Within.seq (Within.when (Within.count
    (hm.ctr (by decide +kernel)))) (policyDrop_within (hm.via rfl rfl rfl))) (queueFrame_within (hm.via rfl rfl rfl)))))
    (policyDrop_within (hm.via rfl rfl rfl)) (policyDrop_within (hm.via rfl rfl rfl)))) (Within.ite (Within.seq (Within.when
    (Within.count (hm.ctr (by decide +kernel)))) (policyDrop_within (hm.via rfl rfl rfl))) (queueFrame_within
    (hm.via rfl rfl rfl)))))))

theorem messageArrives_within {μ : Mask}
    (hm : Mask.Le ⟨0x4000, 0x1200000000000000000000000000000000000000, 0x80000000000000000000000⟩ μ) {ch : Nat} {m : Bytes} :
    Eff.Within tables μ (@messageArrives ch m) := by
  unfold messageArrives
  exact (Within.look (fun _ => (Within.ite Within.skip (Within.ite (Within.bumpObj (hm.obj (by decide +kernel))) (Within.cons
    (Within.bumpObj (hm.obj (by decide +kernel))) (Within.cons (Within.count (hm.ctr (by decide +kernel))) (Within.cons
    (Within.when (Within.seq (nextSerial_within (hm.via rfl rfl rfl)) (Within.look (fun _ => (Within.upd
    (hm.parts' [.messages] (by decide +kernel))))))) Within.nil)))))))

theorem handOver_within {m : Mask}
    (hm : Mask.Le ⟨0x3881f280, 0x30000000000000001200000073fee007f80000000000000000000000, 0x1604200000000000000000000000000000010000008167ffc7065000080000000⟩ m) {r : Nat} :
    Eff.Within tables m (@handOver r) := by
  unfold handOver
  exact (Within.look (fun _ => (by (try dsimp only); split; exacts [Within.skip,
    (Within.ite Within.skip (Within.seq (ringSet_within (hm.via rfl rfl rfl)) (Within.ite (policyDrop_within (hm.via rfl rfl rfl)) (Within.ite (Within.cons (chargeRing_within (hm.via rfl rfl rfl)) (Within.cons (endHere_within (hm.via rfl rfl rfl)) (Within.cons (Within.ofOption (fun _ => (messageArrives_within (hm.via rfl rfl rfl)))) Within.nil))) (routeFrame_within (hm.via rfl rfl rfl))))))])))

theorem roomAppears_within {m : Mask}
    (hm : Mask.Le ⟨0x3881f280, 0x30000000000000001200000073fee007f80000000000000000000000, 0x1604200000000000000000000000000000010000008167ffc7065000080000000⟩ m) {r : Nat} :
    Eff.Within tables m (@roomAppears r) := by
  unfold roomAppears
  exact (Within.whenS (handOver_within (hm.via rfl rfl rfl)))

theorem calendarPasses_within {m : Mask}
    (hm : Mask.Le ⟨0x3881f280, 0x30000000000000001200000073fee007f80000000000000000000000, 0x1604200000000000000000000000000000010000008167ffc7065000080000000⟩ m) {r : Nat} :
    Eff.Within tables m (@calendarPasses r) := by
  unfold calendarPasses
  exact (Within.look (fun _ => (Within.ite Within.skip (Within.ite (ringCreditSet_within (hm.via rfl rfl rfl)) (Within.seq
    (settleCredit_within (hm.via rfl rfl rfl)) (handOver_within (hm.via rfl rfl rfl)))))))

theorem imageSet_within {m : Mask} (hm : Mask.Le ⟨0x4000, 0x0, 0x0⟩ m) {i : Nat} {f : HostImage → HostImage} :
    Eff.Within tables m (@imageSet i f) := by
  unfold imageSet
  exact (Within.look (fun _ => (Within.upd (hm.parts' [.messages] (by decide +kernel)))))

theorem inboundSnapshot_within {m : Mask}
    (hm : Mask.Le ⟨0x20004080, 0x20000000000000000000000000000000000000, 0x30000000000100000004000000000000000000000⟩ m) {i : Nat} :
    Eff.Within tables m (@inboundSnapshot i) := by
  unfold inboundSnapshot
  exact (Within.look (fun _ => (Within.ite Within.skip (Within.ite (Within.cons (Within.bumpObj (hm.obj (by decide +kernel)))
    (Within.cons (Within.count (hm.ctr (by decide +kernel))) (Within.cons (raise_within (hm.via rfl rfl rfl)) Within.nil)))
    (Within.cons (hostWrite_within (hm.via rfl rfl rfl)) (Within.cons (hostWrite_within (hm.via rfl rfl rfl)) (Within.cons
    (imageSet_within (hm.via rfl rfl rfl)) Within.nil)))))))

theorem inboundDone_within {m : Mask}
    (hm : Mask.Le ⟨0x20004000, 0x118000000000000000000000000000000000000, 0x30000000000000000002000000000000000000000⟩ m) {i : Nat} :
    Eff.Within tables m (@inboundDone i) := by
  unfold inboundDone
  exact (Within.look (fun _ => (by (try dsimp only); split; exacts [Within.skip,
    (Within.cons (hostWrite_within (hm.via rfl rfl rfl)) (Within.cons (imageSet_within (hm.via rfl rfl rfl)) (Within.cons (Within.setN (hm.obj (by decide +kernel))) (Within.cons (Within.bumpObj (hm.obj (by decide +kernel))) (Within.cons (Within.setN (hm.obj (by decide +kernel))) (Within.cons (Within.count (hm.ctr (by decide +kernel))) Within.nil))))))])))

theorem outboundRead_within {m : Mask}
    (hm : Mask.Le ⟨0x20044000, 0x20000000000000000000000000000000000000, 0x50000000000000000048000000000000000000000⟩ m) {i : Nat} :
    Eff.Within tables m (@outboundRead i) := by
  unfold outboundRead
  exact (Within.look (fun _ => (Within.ite Within.skip (Within.ite (Within.seq (Within.bumpObj (hm.obj (by decide +kernel)))
    (Within.count (hm.ctr (by decide +kernel)))) (Within.cons (Within.count (hm.ctr (by decide +kernel))) (Within.cons
    (imageSet_within (hm.via rfl rfl rfl)) (Within.cons (hostRead_within (hm.via rfl rfl rfl)) Within.nil)))))))

theorem outboundDone_within {m : Mask}
    (hm : Mask.Le ⟨0x20044090, 0x1d8000000000000000000000000000000000000, 0xd4000000000100000030000000000000000000000⟩ m) {i : Nat} {endStamp : Nat} {entries : Bytes} {startStamp : Nat} :
    Eff.Within tables m (@outboundDone i endStamp entries startStamp) := by
  unfold outboundDone
  exact (Within.look (fun _ => (Within.when (Within.cons (tlpReceived_within (hm.via rfl rfl rfl)) (Within.cons (Within.count
    (hm.ctr (by decide +kernel))) (Within.cons (readsReturn_within (hm.via rfl rfl rfl)) (Within.cons (hostRead_within
    (hm.via rfl rfl rfl)) (Within.cons (hostRead_within (hm.via rfl rfl rfl)) (Within.cons (readsReturn_within
    (hm.via rfl rfl rfl)) (Within.cons (imageSet_within (hm.via rfl rfl rfl)) (Within.cons (Within.ite Within.skip (Within.ite
    (Within.cons (Within.bumpObj (hm.obj (by decide +kernel))) (Within.cons (Within.count (hm.ctr (by decide +kernel)))
    (Within.cons (raise_within (hm.via rfl rfl rfl)) Within.nil))) (Within.ite (Within.seq (Within.bumpObj
    (hm.obj (by decide +kernel))) (Within.count (hm.ctr (by decide +kernel)))) (Within.cons (nextSerial_within
    (hm.via rfl rfl rfl)) (Within.cons (Within.upd (hm.parts' [.buffers] (by decide +kernel))) (Within.cons (Within.look
    (fun _ => (imageSet_within (hm.via rfl rfl rfl)))) (Within.cons (Within.setN (hm.obj (by decide +kernel))) (Within.cons
    (Within.bumpObj (hm.obj (by decide +kernel))) (Within.cons (Within.setN
    (hm.obj (by decide +kernel))) Within.nil))))))))) Within.nil)))))))))))

theorem sectionImages_within {m : Mask} (hm : Mask.Le ⟨0x4010, 0x0, 0x0⟩ m) :
    Eff.Within tables m sectionImages := by
  unfold sectionImages
  exact (Within.whenS (Within.look (fun _ => (Within.forEach (fun _ => (Within.when (writeEntryAt_within
    (hm.via rfl rfl rfl))))))))

theorem writeMarker_within {m : Mask}
    (hm : Mask.Le ⟨0x20000080, 0x0, 0x600000030000000000100000000000000000000000000000⟩ m) {point : Nat} :
    Eff.Within tables m (@writeMarker point) := by
  unfold writeMarker
  exact (Within.look (fun _ => (Within.ite (Within.seq (Within.count (hm.ctr (by decide +kernel))) (raiseOncePerSecond_within
    (hm.via rfl rfl rfl) (raise_within (hm.via rfl rfl rfl)))) (Within.seq (Within.count (hm.ctr (by decide +kernel)))
    (hostWrite_within (hm.via rfl rfl rfl))))))

theorem cyclePointActs_within {m : Mask}
    (hm : Mask.Le ⟨0x20000080, 0x0, 0x600000030000000000100000000000000000000000000000⟩ m) {point : Nat} :
    Eff.Within tables m (@cyclePointActs point) := by
  unfold cyclePointActs
  exact (Within.look (fun _ => (Within.when (Within.seq (Within.when (raise_within (hm.via rfl rfl rfl))) (Within.when
    (writeMarker_within (hm.via rfl rfl rfl)))))))

theorem clockRead_within {m : Mask} (hm : Mask.Le ⟨0x20040000, 0x0, 0x14000000000000000000000000000000000000000⟩ m) {fn : Nat} :
    Eff.Within tables m (@clockRead fn) := by
  unfold clockRead
  exact (Within.look (fun _ => (Within.seq (Within.upd (hm.parts' [.functions] (by decide +kernel))) (Within.cons
    (tlpReceived_within (hm.via rfl rfl rfl)) (Within.cons (Within.count (hm.ctr (by decide +kernel))) (Within.cons
    (emit_within (hm.via rfl rfl rfl)) Within.nil))))))

theorem pcieLink_within {m : Mask}
    (hm : Mask.Le ⟨0x40480, 0x2000000000000000000000000000000000000000, 0x18000000000000000000100000000000000000000000000000⟩ m) {link : Nat} {speed : Nat} {width : Nat} :
    Eff.Within tables m (@pcieLink link speed width) := by
  unfold pcieLink
  exact (Within.look (fun _ => (Within.when (Within.cons (Within.setN (hm.objAny (by decide +kernel))) (Within.cons (Within.setN
    (hm.objAny (by decide +kernel))) (Within.cons (Within.upd (hm.parts' [.functions] (by decide +kernel))) (Within.cons
    (Within.when (Within.upd (hm.parts' [.pins] (by decide +kernel)))) (Within.cons (Within.when (Within.count
    (hm.ctr (by decide +kernel)))) (Within.cons (Within.when (Within.count (hm.ctr (by decide +kernel)))) (Within.cons
    (raise_within (hm.via rfl rfl rfl)) Within.nil))))))))))

theorem execHostFrameHandover_effect {ring : Nat} {s : State} : ∃ e, @execHostFrameHandover ring s = done e s ∧ Eff.Within tables ⟨0x3881f280, 0x30000000000000001200000073fee007f80000000000000000000000, 0x1604200000000000000000000000000000010000008167ffc7065000080000000⟩ e :=
  have hm := Mask.Le.refl ⟨0x3881f280, 0x30000000000000001200000073fee007f80000000000000000000000, 0x1604200000000000000000000000000000010000008167ffc7065000080000000⟩
  ⟨_, rfl, (operating_within (hm.via rfl rfl rfl) (handOver_within (hm.via rfl rfl rfl)))⟩

theorem execQueueRoom_effect {ring : Nat} {s : State} : ∃ e, @execQueueRoom ring s = done e s ∧ Eff.Within tables ⟨0x3881f280, 0x30000000000000001200000073fee007f80000000000000000000000, 0x1604200000000000000000000000000000010000008167ffc7065000080000000⟩ e :=
  have hm := Mask.Le.refl ⟨0x3881f280, 0x30000000000000001200000073fee007f80000000000000000000000, 0x1604200000000000000000000000000000010000008167ffc7065000080000000⟩
  ⟨_, rfl, (operating_within (hm.via rfl rfl rfl) (roomAppears_within (hm.via rfl rfl rfl)))⟩

theorem execCalendarSlot_effect {ring : Nat} {s : State} : ∃ e, @execCalendarSlot ring s = done e s ∧ Eff.Within tables ⟨0x3881f280, 0x30000000000000001200000073fee007f80000000000000000000000, 0x1604200000000000000000000000000000010000008167ffc7065000080000000⟩ e :=
  have hm := Mask.Le.refl ⟨0x3881f280, 0x30000000000000001200000073fee007f80000000000000000000000, 0x1604200000000000000000000000000000010000008167ffc7065000080000000⟩
  ⟨_, rfl, (operating_within (hm.via rfl rfl rfl) (calendarPasses_within (hm.via rfl rfl rfl)))⟩

theorem execTxBufferReadDone_effect {ring : Nat} {data : Bytes} {s : State} : ∃ e, @execTxBufferReadDone ring data s = done e s ∧ Eff.Within tables ⟨0x20058000, 0x0, 0xd4000000000000000000000000000000000000000⟩ e :=
  have hm := Mask.Le.refl ⟨0x20058000, 0x0, 0xd4000000000000000000000000000000000000000⟩
  ⟨_, rfl, (operating_within (hm.via rfl rfl rfl) (txDataArrives_within (hm.via rfl rfl rfl)))⟩

theorem execInboundImageSnapshot_effect {image : Nat} {s : State} : ∃ e, @execInboundImageSnapshot image s = done e s ∧ Eff.Within tables ⟨0x20004080, 0x20000000000000000000000000000000000000, 0x30000000000100000004000000000000000000000⟩ e :=
  have hm := Mask.Le.refl ⟨0x20004080, 0x20000000000000000000000000000000000000, 0x30000000000100000004000000000000000000000⟩
  ⟨_, rfl, (operating_within (hm.via rfl rfl rfl) (inboundSnapshot_within (hm.via rfl rfl rfl)))⟩

theorem execInboundImageWriteDone_effect {image : Nat} {s : State} : ∃ e, @execInboundImageWriteDone image s = done e s ∧ Eff.Within tables ⟨0x20004000, 0x118000000000000000000000000000000000000, 0x30000000000000000002000000000000000000000⟩ e :=
  have hm := Mask.Le.refl ⟨0x20004000, 0x118000000000000000000000000000000000000, 0x30000000000000000002000000000000000000000⟩
  ⟨_, rfl, (inboundDone_within (hm.via rfl rfl rfl))⟩

theorem execOutboundImageRead_effect {image : Nat} {s : State} : ∃ e, @execOutboundImageRead image s = done e s ∧ Eff.Within tables ⟨0x20044000, 0x20000000000000000000000000000000000000, 0x50000000000000000048000000000000000000000⟩ e :=
  have hm := Mask.Le.refl ⟨0x20044000, 0x20000000000000000000000000000000000000, 0x50000000000000000048000000000000000000000⟩
  ⟨_, rfl, (operating_within (hm.via rfl rfl rfl) (outboundRead_within (hm.via rfl rfl rfl)))⟩

theorem execOutboundImageReadDone_effect {image : Nat} {endStamp : Nat} {entries : Bytes} {startStamp : Nat} {s : State} : ∃ e, @execOutboundImageReadDone image endStamp entries startStamp s = done e s ∧ Eff.Within tables ⟨0x20044090, 0x1d8000000000000000000000000000000000000, 0xd4000000000100000030000000000000000000000⟩ e :=
  have hm := Mask.Le.refl ⟨0x20044090, 0x1d8000000000000000000000000000000000000, 0xd4000000000100000030000000000000000000000⟩
  ⟨_, rfl, (outboundDone_within (hm.via rfl rfl rfl))⟩

theorem execHostMessageReceived_effect {channel : Nat} {message : Bytes} {s : State} : ∃ e, @execHostMessageReceived channel message s = done e s ∧ Eff.Within tables ⟨0x4000, 0x1200000000000000000000000000000000000000, 0x80000000000000000000000⟩ e :=
  have hm := Mask.Le.refl ⟨0x4000, 0x1200000000000000000000000000000000000000, 0x80000000000000000000000⟩
  ⟨_, rfl, (operating_within (hm.via rfl rfl rfl) (messageArrives_within (hm.via rfl rfl rfl)))⟩

theorem execCyclePoint_effect {point : Nat} {s : State} : ∃ e, @execCyclePoint point s = done e s ∧ Eff.Within tables ⟨0x20000080, 0x0, 0x600000030000000000100000000000000000000000000000⟩ e :=
  have hm := Mask.Le.refl ⟨0x20000080, 0x0, 0x600000030000000000100000000000000000000000000000⟩
  ⟨_, rfl, (operating_within (hm.via rfl rfl rfl) (cyclePointActs_within (hm.via rfl rfl rfl)))⟩

theorem execClockPageRead_effect {fn : Nat} {s : State} : ∃ e, @execClockPageRead fn s = done e s ∧ Eff.Within tables ⟨0x20040000, 0x0, 0x14000000000000000000000000000000000000000⟩ e :=
  have hm := Mask.Le.refl ⟨0x20040000, 0x0, 0x14000000000000000000000000000000000000000⟩
  ⟨_, rfl, (powered_within (hm.via rfl rfl rfl) (inD0_within (hm.via rfl rfl rfl) (clockRead_within (hm.via rfl rfl rfl))))⟩

theorem execPcieLinkChanged_effect {link : Nat} {speed : Nat} {width : Nat} {s : State} : ∃ e, @execPcieLinkChanged link speed width s = done e s ∧ Eff.Within tables ⟨0x40480, 0x2000000000000000000000000000000000000000, 0x18000000000000000000100000000000000000000000000000⟩ e :=
  have hm := Mask.Le.refl ⟨0x40480, 0x2000000000000000000000000000000000000000, 0x18000000000000000000100000000000000000000000000000⟩
  ⟨_, rfl, (powered_within (hm.via rfl rfl rfl) (pcieLink_within (hm.via rfl rfl rfl)))⟩

theorem execPcieErrorReported_effect {link : Nat} {status : Nat} {correctable : Bool} {s : State} : ∃ e, @execPcieErrorReported link status correctable s = done e s ∧ Eff.Within tables ⟨0x80, 0x0, 0x6000000000000000000100000000000000000000000000000⟩ e :=
  have hm := Mask.Le.refl ⟨0x80, 0x0, 0x6000000000000000000100000000000000000000000000000⟩
  ⟨_, rfl, (powered_within (hm.via rfl rfl rfl) (pcieError_within (hm.via rfl rfl rfl)))⟩

/-! ## Gptp -/

theorem sendSync_within {m : Mask}
    (hm : Mask.Le ⟨0x1800b280, 0x3000000000000000000000004000e002000000000000000000000000, 0x16000000000000000000000000000000000100000000200000065000080000000⟩ m) {p : Nat} :
    Eff.Within tables m (@sendSync p) := by
  unfold sendSync
  exact (Within.look (fun _ => (enqueueOrigin_within (hm.via rfl rfl rfl))))

theorem syncTimer_within {m : Mask}
    (hm : Mask.Le ⟨0x1800b280, 0x3000000000000000000000004000e002000000000000000000000000, 0x16000000000000000000000000000000000100000000200000065000080000000⟩ m) :
    Eff.Within tables m syncTimer := by
  unfold syncTimer
  exact (Within.look (fun _ => (Within.when (Within.seq (Within.forEach (fun _ => (sendSync_within (hm.via rfl rfl rfl))))
    (Within.upd (hm.parts' [.time] (by decide +kernel)))))))

theorem sendPdelayReq_within {m : Mask}
    (hm : Mask.Le ⟨0x1800b280, 0x3000000000000000000000004000e002000000000000001000000000, 0x16000000000000000000000000000000000100000000200000065000080000000⟩ m) {p : Nat} :
    Eff.Within tables m (@sendPdelayReq p) := by
  unfold sendPdelayReq
  exact (Within.cons (gptpSet_within (hm.via rfl rfl rfl)) (Within.cons (Within.whenS (setAsCapable_within (hm.via rfl rfl rfl)))
    (Within.cons (Within.look (fun _ => (enqueueOrigin_within (hm.via rfl rfl rfl)))) Within.nil)))

theorem pdelayTimer_within {m : Mask}
    (hm : Mask.Le ⟨0x1800b280, 0x3000000000000000000000004000e002000000000000001000000000, 0x16000000000000000000000000000000000100000000200000065000080000000⟩ m) :
    Eff.Within tables m pdelayTimer := by
  unfold pdelayTimer
  exact (Within.look (fun _ => (Within.when (Within.seq (Within.forEach (fun _ => (sendPdelayReq_within (hm.via rfl rfl rfl))))
    (Within.upd (hm.parts' [.time] (by decide +kernel)))))))

theorem announceTimerAct_within {m : Mask}
    (hm : Mask.Le ⟨0x1800b280, 0x3000000000000000000000004000e002000000000000000000000000, 0x16000000000000000000000000000000000100000000200000065000080000000⟩ m) :
    Eff.Within tables m announceTimerAct := by
  unfold announceTimerAct
  exact (Within.look (fun _ => (Within.when (Within.seq (Within.forEach (fun _ => (enqueueOwn_within (hm.via rfl rfl rfl))))
    (Within.upd (hm.parts' [.time] (by decide +kernel)))))))

theorem syncArrives_within {m : Mask}
    (hm : Mask.Le ⟨0x2988f6a0, 0x1e00200000000000000000000000180073600000010207c0010, 0x200020000000000000000000000001f100000000000000060800008000100⟩ m) {p : Nat} {domain : Nat} {origin : Nat} {correction : Int} {stamp : Nat} :
    Eff.Within tables m (@syncArrives p domain origin correction stamp) := by
  unfold syncArrives
  exact (Within.look (fun _ => (Within.when (Within.seq (measured_within (hm.via rfl rfl rfl)) (awaitSync_within
    (hm.via rfl rfl rfl))))))

theorem pdelayReqArrives_within {m : Mask}
    (hm : Mask.Le ⟨0x1800b280, 0x3000000000000000000000004000e002000000000000000000000000, 0x16000000000000000000000000000000000100000000200000065000080000000⟩ m) {p : Nat} {domain : Nat} {sequence : Nat} {requester : Nat} {stamp : Nat} :
    Eff.Within tables m (@pdelayReqArrives p domain sequence requester stamp) := by
  unfold pdelayReqArrives
  exact (Within.look (fun _ => (Within.when (enqueueOrigin_within (hm.via rfl rfl rfl)))))

theorem pdelayRespArrives_within {m : Mask}
    (hm : Mask.Le ⟨0x280, 0x7000000000, 0x100000000000000000000000000000⟩ m) {p : Nat} {domain : Nat} {sequence : Nat} {t2 : Nat} {t3 : Nat} {t4 : Nat} :
    Eff.Within tables m (@pdelayRespArrives p domain sequence t2 t3 t4) := by
  unfold pdelayRespArrives
  exact (Within.look (fun _ => (by (try dsimp only); split; exacts [Within.skip,
    (Within.ite Within.skip (Within.cons (Within.setObj (hm.obj (by decide +kernel))) (Within.cons (Within.setObj (hm.obj (by decide +kernel))) (Within.cons (gptpSet_within (hm.via rfl rfl rfl)) (Within.cons (setAsCapable_within (hm.via rfl rfl rfl)) Within.nil)))))])))

theorem syncTimedOut_within {m : Mask} (hm : Mask.Le ⟨0x280, 0x8000000000, 0x100000000000000000000000000000⟩ m) :
    Eff.Within tables m syncTimedOut := by
  unfold syncTimedOut
  exact (Within.look (fun _ => (Within.when (Within.cons (Within.upd (hm.parts' [.time] (by decide +kernel))) (Within.cons
    (Within.bumpObj (hm.obj (by decide +kernel))) (Within.cons (raise_within (hm.via rfl rfl rfl)) (Within.cons
    (sourceInvalid_within (hm.via rfl rfl rfl)) Within.nil)))))))

theorem pairArrives_within {m : Mask}
    (hm : Mask.Le ⟨0x3989f6a0, 0x300001e002001e00000000000000000001f57f360000001020000010, 0x1600200020000000001c06003800000001f10000000000000016480000a819173⟩ m) {p : Nat} {x : PtpPair} {e : Nat → Eff}
    (h_e : ∀ y0, Eff.Within tables m (e y0)) :
    Eff.Within tables m (@pairArrives p x e) := by
  unfold pairArrives
  exact (offWrap_within (hm.via rfl rfl rfl) (Within.cons (gptpSet_within (hm.via rfl rfl rfl)) (Within.cons (received_within
    (hm.via rfl rfl rfl) (fun _ => (gptpSet_within (hm.via rfl rfl rfl)))) (Within.cons (received_within (hm.via rfl rfl rfl)
    (fun _ => (Within.look (fun _ => (Within.ofOption (fun _ => (h_e _))))))) Within.nil))))

theorem announceArrives_within {m : Mask}
    (hm : Mask.Le ⟨0x3989f6a0, 0x300001e002001e00000000000000000001f57f360000001020000010, 0x1600200020000000001c06003800000001f10000000000000016480000a819173⟩ m) {x : PortFrame} :
    Eff.Within tables m (@announceArrives x) := by
  unfold announceArrives
  exact (offWrap_within (hm.via rfl rfl rfl) (received_within (hm.via rfl rfl rfl) (fun _ => (gptpSet_within
    (hm.via rfl rfl rfl)))))

theorem linkRises_within {m : Mask}
    (hm : Mask.Le ⟨0x3800ba80, 0x3000000000000000000000004000e002018000840000000000000000, 0x16000000000000000000000000000000000100000000200000065000080000000⟩ m) {p : Nat} :
    Eff.Within tables m (@linkRises p) := by
  unfold linkRises
  exact (Within.seq (laneLock_within (hm.via rfl rfl rfl)) (Within.whenS (Within.cons (Within.setPort
    (hm.obj (by decide +kernel))) (Within.cons (Within.look (fun _ => (Within.setPort (hm.obj (by decide +kernel)))))
    (Within.cons (raisePort_within (hm.via rfl rfl rfl)) (Within.cons (startVerify_within (hm.via rfl rfl rfl)) (Within.cons
    (kick_within (hm.via rfl rfl rfl)) Within.nil)))))))

theorem linkDrops_within {m : Mask}
    (hm : Mask.Le ⟨0x2988fea0, 0x1e0020000000000000000000000018007360040001020000010, 0x200020000000000000000000100001f100000000000000060800008000100⟩ m) {p : Nat} :
    Eff.Within tables m (@linkDrops p) := by
  unfold linkDrops
  exact (Within.seq (laneFails_within (hm.via rfl rfl rfl)) (Within.whenS (Within.cons (linkFalls_within (hm.via rfl rfl rfl))
    (Within.cons (dropQueued_within (hm.via rfl rfl rfl)) (Within.cons (Within.setN (hm.obj (by decide +kernel))) (Within.cons
    (showPreemption_within (hm.via rfl rfl rfl)) (Within.cons (leaveGptp_within (hm.via rfl rfl rfl)) (Within.cons
    (faultOccur_within (hm.via rfl rfl rfl) (fun _ => Within.skip)) Within.nil))))))))

theorem execGptpSync_effect {p : Nat} {domain : Nat} {origin : Nat} {correction : Int} {frames : PtpPair} {s : State} : ∃ e, @execGptpSync p domain origin correction frames s = done e s ∧ Eff.Within tables ⟨0x3989f6a0, 0x300001e002001e00000000000000000001f57f3600000010207c0010, 0x1600200020000000001c06003800000001f10000000000000016480000a819173⟩ e :=
  have hm := Mask.Le.refl ⟨0x3989f6a0, 0x300001e002001e00000000000000000001f57f3600000010207c0010, 0x1600200020000000001c06003800000001f10000000000000016480000a819173⟩
  ⟨_, rfl, (operating_within (hm.via rfl rfl rfl) (pairArrives_within (hm.via rfl rfl rfl) (fun _ => (syncArrives_within
    (hm.via rfl rfl rfl)))))⟩

theorem execGptpPdelayReq_effect {p : Nat} {domain : Nat} {sequence : Nat} {requester : Nat} {frame : Frame} {s : State} : ∃ e, @execGptpPdelayReq p domain sequence requester frame s = done e s ∧ Eff.Within tables ⟨0x3989f6a0, 0x300001e002001e00000000004000e00201f57f360000001020000010, 0x1600200020000000001c06003800000001f10000000020000016580008a819173⟩ e :=
  have hm := Mask.Le.refl ⟨0x3989f6a0, 0x300001e002001e00000000004000e00201f57f360000001020000010, 0x1600200020000000001c06003800000001f10000000020000016580008a819173⟩
  ⟨_, rfl, (operating_within (hm.via rfl rfl rfl) (offWrap_within (hm.via rfl rfl rfl) (received_within (hm.via rfl rfl rfl)
    (fun _ => (pdelayReqArrives_within (hm.via rfl rfl rfl))))))⟩

theorem execGptpSyncTimer_effect {s : State} : ∃ e, @execGptpSyncTimer s = done e s ∧ Eff.Within tables ⟨0x1800b280, 0x3000000000000000000000004000e002000000000000000000000000, 0x16000000000000000000000000000000000100000000200000065000080000000⟩ e :=
  have hm := Mask.Le.refl ⟨0x1800b280, 0x3000000000000000000000004000e002000000000000000000000000, 0x16000000000000000000000000000000000100000000200000065000080000000⟩
  ⟨_, rfl, (operating_within (hm.via rfl rfl rfl) (syncTimer_within (hm.via rfl rfl rfl)))⟩

theorem execGptpPdelayTimer_effect {s : State} : ∃ e, @execGptpPdelayTimer s = done e s ∧ Eff.Within tables ⟨0x1800b280, 0x3000000000000000000000004000e002000000000000001000000000, 0x16000000000000000000000000000000000100000000200000065000080000000⟩ e :=
  have hm := Mask.Le.refl ⟨0x1800b280, 0x3000000000000000000000004000e002000000000000001000000000, 0x16000000000000000000000000000000000100000000200000065000080000000⟩
  ⟨_, rfl, (operating_within (hm.via rfl rfl rfl) (pdelayTimer_within (hm.via rfl rfl rfl)))⟩

theorem execAnnounceTimer_effect {s : State} : ∃ e, @execAnnounceTimer s = done e s ∧ Eff.Within tables ⟨0x1800b280, 0x3000000000000000000000004000e002000000000000000000000000, 0x16000000000000000000000000000000000100000000200000065000080000000⟩ e :=
  have hm := Mask.Le.refl ⟨0x1800b280, 0x3000000000000000000000004000e002000000000000000000000000, 0x16000000000000000000000000000000000100000000200000065000080000000⟩
  ⟨_, rfl, (operating_within (hm.via rfl rfl rfl) (announceTimerAct_within (hm.via rfl rfl rfl)))⟩

theorem execSyncReceiptTimeout_effect {s : State} : ∃ e, @execSyncReceiptTimeout s = done e s ∧ Eff.Within tables ⟨0x280, 0x8000000000, 0x100000000000000000000000000000⟩ e :=
  have hm := Mask.Le.refl ⟨0x280, 0x8000000000, 0x100000000000000000000000000000⟩
  ⟨_, rfl, (operating_within (hm.via rfl rfl rfl) (syncTimedOut_within (hm.via rfl rfl rfl)))⟩

theorem execGptpPdelayResp_effect {p : Nat} {domain : Nat} {sequence : Nat} {requestReceipt : Nat} {responseOrigin : Nat} {frames : PtpPair} {s : State} : ∃ e, @execGptpPdelayResp p domain sequence requestReceipt responseOrigin frames s = done e s ∧ Eff.Within tables ⟨0x3989f6a0, 0x300001e002001e00000000000000000001f57f360000007020000010, 0x1600200020000000001c06003800000001f10000000000000016480000a819173⟩ e :=
  have hm := Mask.Le.refl ⟨0x3989f6a0, 0x300001e002001e00000000000000000001f57f360000007020000010, 0x1600200020000000001c06003800000001f10000000000000016480000a819173⟩
  ⟨_, rfl, (operating_within (hm.via rfl rfl rfl) (pairArrives_within (hm.via rfl rfl rfl) (fun _ => (pdelayRespArrives_within
    (hm.via rfl rfl rfl)))))⟩

theorem execAnnounceReceived_effect {arrival : PortFrame} {s : State} : ∃ e, @execAnnounceReceived arrival s = done e s ∧ Eff.Within tables ⟨0x3989f6a0, 0x300001e002001e00000000000000000001f57f360000001020000010, 0x1600200020000000001c06003800000001f10000000000000016480000a819173⟩ e :=
  have hm := Mask.Le.refl ⟨0x3989f6a0, 0x300001e002001e00000000000000000001f57f360000001020000010, 0x1600200020000000001c06003800000001f10000000000000016480000a819173⟩
  ⟨_, rfl, (operating_within (hm.via rfl rfl rfl) (announceArrives_within (hm.via rfl rfl rfl)))⟩

end Sys2Proof.Machine
end

