-- ==== Sys2Proof/Laws/WithinPower.lean ====
section
/-! SUPPORT. Frame lemmas: every update that an effect of Machine/Kiln.lean, Machine/Faults.lean, Machine/Counter.lean, Machine/Power.lean can issue
lies in a mask. -/

namespace Sys2Proof.Machine

set_option Elab.async false
set_option linter.unusedTactic false
set_option linter.unusedVariables false

/-! ## Kiln -/

theorem setKilnState_within {m : Mask} (hm : Mask.Le ⟨0x800080, 0x0, 0x100000000000000000000000000000⟩ m) {new : KilnState} :
    Eff.Within tables m (@setKilnState new) := by
  unfold setKilnState
  exact (Within.whenS (Within.seq (Within.upd (hm.parts' [.kiln] (by decide +kernel))) (raise_within (hm.via rfl rfl rfl))))

theorem withRandom_within {m : Mask} (hm : Mask.Le ⟨0x800000, 0x0, 0x0⟩ m) {n : Nat} {f : Bytes → Eff}
    (h_f : ∀ y0, Eff.Within tables m (f y0)) :
    Eff.Within tables m (@withRandom n f) := by
  unfold withRandom
  exact (Within.look (fun _ => (Within.seq (Within.upd (hm.parts' [.kiln] (by decide +kernel))) (h_f _))))

theorem countSignature_within {m : Mask}
    (hm : Mask.Le ⟨0x0, 0x0, 0x600000000000000000000000000000000000000000000000000⟩ m) {ok : Bool} :
    Eff.Within tables m (@countSignature ok) := by
  unfold countSignature
  exact (by (repeat' split) <;> exact Within.count (hm.ctr (by decide +kernel)))

theorem countImage_within {m : Mask}
    (hm : Mask.Le ⟨0x0, 0x0, 0x600000000000000000000000000000000000000000000000000⟩ m) {b : Bytes} {r : Nat ⊕ List ImageRecord} :
    Eff.Within tables m (@countImage b r) := by
  unfold countImage
  exact (Within.when (by (try dsimp only); split; exacts [(countSignature_within (hm.via rfl rfl rfl)),
    (Within.ite (countSignature_within (hm.via rfl rfl rfl)) (Within.when (countSignature_within (hm.via rfl rfl rfl))))]))

theorem countChecks_within {m : Mask} (hm : Mask.Le ⟨0x0, 0x0, 0x600000000000000000000000000000000000000000000000000⟩ m) {l : List Bool} :
    Eff.Within tables m (countChecks l) := by
  induction l with
  | nil => exact Within.skip
  | cons b bs ih =>
    unfold countChecks
    exact Within.seq (countSignature_within (hm.via rfl rfl rfl)) (Within.when ih)

theorem countPackage_within {m : Mask}
    (hm : Mask.Le ⟨0x0, 0x0, 0x600000000000000000000000000000000000000000000000000⟩ m) {b : Bytes} {e : Nat} :
    Eff.Within tables m (@countPackage b e) := by
  unfold countPackage
  exact (Within.look (fun _ => (Within.seq (Within.when (countSignature_within (hm.via rfl rfl rfl))) (Within.when
    (countSignature_within (hm.via rfl rfl rfl))))))

theorem countBundle_within {m : Mask}
    (hm : Mask.Le ⟨0x0, 0x0, 0x600000000000000000000000000000000000000000000000000⟩ m) {e : Nat} :
    Eff.Within tables m (@countBundle e) := by
  unfold countBundle
  exact (Within.when (countSignature_within (hm.via rfl rfl rfl)))

theorem bootFrom_within {m : Mask}
    (hm : Mask.Le ⟨0xa00080, 0x3, 0x100000000000000000000000000000⟩ m) {slot : Nat} {trial : Bool} {first : Bool} :
    Eff.Within tables m (@bootFrom slot trial first) := by
  unfold bootFrom
  exact (Within.look (fun _ => (Within.cons (Within.upd (hm.parts' [.kiln] (by decide +kernel))) (Within.cons (Within.when
    (Within.upd (hm.parts' [.otp] (by decide +kernel)))) (Within.cons (Within.setN (hm.obj (by decide +kernel))) (Within.cons
    (Within.setN (hm.obj (by decide +kernel))) (Within.cons (Within.when (raise_within (hm.via rfl rfl rfl))) (Within.cons
    (setKilnState_within (hm.via rfl rfl rfl)) Within.nil))))))))

theorem trySlots_within {m : Mask} (hm : Mask.Le ⟨0xe00080, 0x8000000000000000000000000000000000000000000000003, 0x200600000000000000000000100000000000000000000000000000⟩ m) {first : Bool} {l : List Nat} :
    Eff.Within tables m (trySlots first l) := by
  induction l generalizing first with
  | nil => exact setKilnState_within (hm.via rfl rfl rfl)
  | cons slot rest ih =>
    unfold trySlots
    exact Within.look fun _ => Within.cons (Within.when (flashSet_within (hm.via rfl rfl rfl))) (Within.cons (Within.upd (hm.parts' [.kiln] (by decide +kernel)))
      (Within.cons (countPackage_within (hm.via rfl rfl rfl)) (Within.cons (Within.ite (bootFrom_within (hm.via rfl rfl rfl))
        (Within.seq (Within.setN (hm.obj (by decide +kernel))) ih)) Within.nil)))

theorem storeLost_within {m : Mask} (hm : Mask.Le ⟨0x400080, 0x0, 0x200000000000000000000000100000000000000000000000000000⟩ m) :
    Eff.Within tables m storeLost := by
  unfold storeLost
  exact (Within.look (fun _ => (Within.when (Within.cons (Within.forEach (fun _ => (raise_within (hm.via rfl rfl rfl))))
    (Within.cons (flashSet_within (hm.via rfl rfl rfl)) Within.nil)))))

theorem kilnBoots_within {m : Mask}
    (hm : Mask.Le ⟨0xe00080, 0x8000000000000000000000000000000000000000000000003, 0x200600000000000000000000100000000000000000000000000000⟩ m) :
    Eff.Within tables m kilnBoots := by
  unfold kilnBoots
  exact (Within.seq (storeLost_within (hm.via rfl rfl rfl)) (Within.look (fun _ => (trySlots_within (hm.via rfl rfl rfl)))))

theorem sendKiln_within {m : Mask}
    (hm : Mask.Le ⟨0x3880b280, 0x3000000000000000000000004000e002000000000000000000000000, 0x16002000000000000000000000000000000100000000200000065000080000000⟩ m) {p : Nat} {dest : Nat} {kind : Nat} {command : Nat} {tag : Nat} {status : Nat} {body : Bytes} :
    Eff.Within tables m (@sendKiln p dest kind command tag status body) := by
  unfold sendKiln
  exact (Within.look (fun _ => (Within.forEach (fun _ => (sendFromKiln_within (hm.via rfl rfl rfl))))))

theorem kilnAnswer_within {m : Mask}
    (hm : Mask.Le ⟨0x3880b290, 0x3000000000000000000000004000e002000000000000000000000000, 0x16002000000000180000000000000000000100000000200000065000080000000⟩ m) {src : KilnSource} {command : Nat} {tag : Nat} {status : Nat} {body : Bytes} :
    Eff.Within tables m (@kilnAnswer src command tag status body) := by
  unfold kilnAnswer
  exact (Within.seq (by (repeat' split) <;> exact Within.count (hm.ctr (by decide +kernel)))
    (by (try dsimp only); split; exacts [(Within.cons (Within.upd (hm.parts' [.buffers] (by decide +kernel))) (Within.cons (Within.upd (hm.parts' [.buffers] (by decide +kernel))) (Within.cons (Within.upd (hm.parts' [.kiln] (by decide +kernel))) Within.nil))),
    (sendKiln_within (hm.via rfl rfl rfl))]))

theorem kilnServe_within {m : Mask}
    (hm : Mask.Le ⟨0x3880b290, 0x3000000000000000000000004000e002000000000000000000000000, 0x16002000000000180000000000000000000100000000200000065000080000000⟩ m) {src : KilnSource} {command : Nat} {tag : Nat} {run : Eff}
    (h_run : Eff.Within tables m run) :
    Eff.Within tables m (@kilnServe src command tag run) := by
  unfold kilnServe
  exact (Within.look (fun _ => (by (try dsimp only); split; exacts [(kilnAnswer_within (hm.via rfl rfl rfl)), h_run])))

theorem getStatusAct_within {m : Mask}
    (hm : Mask.Le ⟨0x3880b290, 0x3000000000000000000000004000e002000000000000000000000000, 0x16002000000000180000000000000000000100000000200000065000080000000⟩ m) {src : KilnSource} {tag : Nat} :
    Eff.Within tables m (@getStatusAct src tag) := by
  unfold getStatusAct
  exact (kilnServe_within (hm.via rfl rfl rfl) (Within.look (fun _ => (kilnAnswer_within (hm.via rfl rfl rfl)))))

theorem getCertificateAct_within {m : Mask}
    (hm : Mask.Le ⟨0x3880b290, 0x3000000000000000000000004000e002000000000000000000000000, 0x16002000000000980000000000000000000100000000200000065000080000000⟩ m) {src : KilnSource} {tag : Nat} {index : Nat} :
    Eff.Within tables m (@getCertificateAct src tag index) := by
  unfold getCertificateAct
  exact (kilnServe_within (hm.via rfl rfl rfl) (Within.look (fun _ => (Within.ite (kilnAnswer_within (hm.via rfl rfl rfl))
    (Within.ite (Within.seq (Within.count (hm.ctr (by decide +kernel))) (kilnAnswer_within (hm.via rfl rfl rfl)))
    (kilnAnswer_within (hm.via rfl rfl rfl)))))))

theorem getChallengeAct_within {m : Mask}
    (hm : Mask.Le ⟨0x3880b290, 0x3000000000000000000000004000e002000000000000000000000000, 0x16002000000000180000000000000000000100000000200000065000080000000⟩ m) {src : KilnSource} {tag : Nat} :
    Eff.Within tables m (@getChallengeAct src tag) := by
  unfold getChallengeAct
  exact (kilnServe_within (hm.via rfl rfl rfl) (withRandom_within (hm.via rfl rfl rfl) (fun _ => (Within.look (fun _ =>
    (Within.seq (Within.upd (hm.parts' [.kiln] (by decide +kernel))) (kilnAnswer_within (hm.via rfl rfl rfl))))))))

theorem challengeExpires_within {m : Mask} (hm : Mask.Le ⟨0x800000, 0x0, 0x0⟩ m) :
    Eff.Within tables m challengeExpires := by
  unfold challengeExpires
  exact (Within.look (fun _ =>
    (by (try dsimp only); split; exacts [(Within.when (Within.upd (hm.parts' [.kiln] (by decide +kernel)))), Within.skip])))

theorem attestAct_within {m : Mask}
    (hm : Mask.Le ⟨0x3880b290, 0x3000000000000000000000004000e002000000000000000000000000, 0x16002000000001980000000000000000000100000000200000065000080000000⟩ m) {src : KilnSource} {tag : Nat} {nonce : Bytes} :
    Eff.Within tables m (@attestAct src tag nonce) := by
  unfold attestAct
  exact (kilnServe_within (hm.via rfl rfl rfl) (Within.look (fun _ => (Within.ite (kilnAnswer_within (hm.via rfl rfl rfl))
    (Within.ite (kilnAnswer_within (hm.via rfl rfl rfl)) (Within.cons (Within.count (hm.ctr (by decide +kernel))) (Within.cons
    (Within.count (hm.ctr (by decide +kernel))) (Within.cons (raise_within (hm.via rfl rfl rfl)) (Within.cons
    (kilnAnswer_within (hm.via rfl rfl rfl)) Within.nil)))))))))

theorem fwBeginAct_within {m : Mask}
    (hm : Mask.Le ⟨0x3880b290, 0x3000000000000000000000004000e002000000000000000000000000, 0x16002000000000180000000000000000000100000000200000065000080000000⟩ m) {src : KilnSource} {tag : Nat} {slot : Nat} {length : Nat} :
    Eff.Within tables m (@fwBeginAct src tag slot length) := by
  unfold fwBeginAct
  exact (kilnServe_within (hm.via rfl rfl rfl) (Within.look (fun _ => (Within.ite (kilnAnswer_within (hm.via rfl rfl rfl))
    (Within.ite (kilnAnswer_within (hm.via rfl rfl rfl)) (Within.seq (Within.upd (hm.parts' [.kiln] (by decide +kernel)))
    (kilnAnswer_within (hm.via rfl rfl rfl))))))))

theorem putSlot_within {m : Mask}
    (hm : Mask.Le ⟨0x400000, 0x0, 0x200000000000000000000000000000000000000000000000000000⟩ m) {slot : Nat} {b : Bytes} {valid : Bool} :
    Eff.Within tables m (@putSlot slot b valid) := by
  unfold putSlot
  exact (flashSet_within (hm.via rfl rfl rfl))

theorem fwWriteAct_within {m : Mask}
    (hm : Mask.Le ⟨0x38c0b290, 0x3000000000000000000000004000e002000000000000000000000000, 0x16002000000200180000000000000000000100000000200000065000080000000⟩ m) {src : KilnSource} {tag : Nat} {offset : Nat} {data : Bytes} :
    Eff.Within tables m (@fwWriteAct src tag offset data) := by
  unfold fwWriteAct
  exact (kilnServe_within (hm.via rfl rfl rfl) (Within.look (fun _ =>
    (by (try dsimp only); split; exacts [(kilnAnswer_within (hm.via rfl rfl rfl)),
    (Within.ite (kilnAnswer_within (hm.via rfl rfl rfl)) (Within.seq (putSlot_within (hm.via rfl rfl rfl)) (kilnAnswer_within (hm.via rfl rfl rfl))))]))))

theorem fwCommitAct_within {m : Mask}
    (hm : Mask.Le ⟨0x38c0b290, 0x3000000000000000000000004000e002000000000000000000000000, 0x16002000000200780000000000000000000100000000200000065000080000000⟩ m) {src : KilnSource} {tag : Nat} :
    Eff.Within tables m (@fwCommitAct src tag) := by
  unfold fwCommitAct
  exact (kilnServe_within (hm.via rfl rfl rfl) (Within.look (fun _ =>
    (by (try dsimp only); split; exacts [(kilnAnswer_within (hm.via rfl rfl rfl)),
    (Within.seq (countPackage_within (hm.via rfl rfl rfl)) (Within.ite (Within.cons (putSlot_within (hm.via rfl rfl rfl)) (Within.cons (Within.upd (hm.parts' [.kiln] (by decide +kernel))) (Within.cons (Within.ite (Within.seq (flashSet_within (hm.via rfl rfl rfl)) (resetIn_within (hm.via rfl rfl rfl))) (Within.seq (flashSet_within (hm.via rfl rfl rfl)) (raise_within (hm.via rfl rfl rfl)))) (Within.cons (kilnAnswer_within (hm.via rfl rfl rfl)) Within.nil)))) (kilnAnswer_within (hm.via rfl rfl rfl))))]))))

theorem advanceRollbackTo_within {m : Mask} (hm : Mask.Le ⟨0x200080, 0x0, 0x100000000000000000000000000000⟩ m) {n : Nat} :
    Eff.Within tables m (@advanceRollbackTo n) := by
  unfold advanceRollbackTo
  exact (Within.whenS (Within.seq (Within.upd (hm.parts' [.otp] (by decide +kernel))) (Within.look (fun _ => (raise_within
    (hm.via rfl rfl rfl))))))

theorem fwConfirmAct_within {m : Mask}
    (hm : Mask.Le ⟨0x38e0b290, 0x3000000000000000000000004000e002000000000000000000000000, 0x16002000000200180000000000000000000100000000200000065000080000000⟩ m) {src : KilnSource} {tag : Nat} :
    Eff.Within tables m (@fwConfirmAct src tag) := by
  unfold fwConfirmAct
  exact (kilnServe_within (hm.via rfl rfl rfl) (Within.look (fun _ => (Within.ite (kilnAnswer_within (hm.via rfl rfl rfl))
    (Within.cons (flashSet_within (hm.via rfl rfl rfl)) (Within.cons (Within.upd (hm.parts' [.kiln] (by decide +kernel)))
    (Within.cons (raise_within (hm.via rfl rfl rfl)) (Within.cons (Within.when (advanceRollbackTo_within (hm.via rfl rfl rfl)))
    (Within.cons (kilnAnswer_within (hm.via rfl rfl rfl)) Within.nil)))))))))

theorem fwAbortAct_within {m : Mask}
    (hm : Mask.Le ⟨0x3880b290, 0x3000000000000000000000004000e002000000000000000000000000, 0x16002000000000180000000000000000000100000000200000065000080000000⟩ m) {src : KilnSource} {tag : Nat} :
    Eff.Within tables m (@fwAbortAct src tag) := by
  unfold fwAbortAct
  exact (kilnServe_within (hm.via rfl rfl rfl) (Within.look (fun _ => (Within.ite (kilnAnswer_within (hm.via rfl rfl rfl))
    (Within.seq (Within.upd (hm.parts' [.kiln] (by decide +kernel))) (kilnAnswer_within (hm.via rfl rfl rfl)))))))

theorem mkaSet_within {m : Mask} (hm : Mask.Le ⟨0x800000, 0x0, 0x0⟩ m) {p : Nat} {f : MkaPort → MkaPort} :
    Eff.Within tables m (@mkaSet p f) := by
  unfold mkaSet
  exact (Within.upd (hm.parts' [.kiln] (by decide +kernel)))

theorem sessionSet_within {m : Mask}
    (hm : Mask.Le ⟨0x800000, 0x0, 0x0⟩ m) {p : Nat} {ckn : Bytes} {f : MkaSession → MkaSession} :
    Eff.Within tables m (@sessionSet p ckn f) := by
  unfold sessionSet
  exact (mkaSet_within (hm.via rfl rfl rfl))

theorem sendMkpdu_within {m : Mask}
    (hm : Mask.Le ⟨0x3880b280, 0x3000000000000000000000004000e002000000000000000000000000, 0x16002000000008000000000000000000000100000000200000065000080000000⟩ m) {p : Nat} {ckn : Bytes} :
    Eff.Within tables m (@sendMkpdu p ckn) := by
  unfold sendMkpdu
  exact (Within.seq (Within.look (fun _ => (sessionSet_within (hm.via rfl rfl rfl)))) (Within.look (fun _ => (Within.ofOption
    (fun _ => (Within.seq (Within.count (hm.ctr (by decide +kernel))) (withFree_within (hm.via rfl rfl rfl) (fun _ =>
    (sendFromKiln_within (hm.via rfl rfl rfl))))))))))

theorem newSak_within {m : Mask}
    (hm : Mask.Le ⟨0x3880b280, 0x3000000000000000000000004000e002000000000000000000000000, 0x16002000000048000000000000000000000100000000200000065000080000000⟩ m) {p : Nat} {ckn : Bytes} :
    Eff.Within tables m (@newSak p ckn) := by
  unfold newSak
  exact (withRandom_within (hm.via rfl rfl rfl) (fun _ => (Within.cons (mkaSet_within (hm.via rfl rfl rfl)) (Within.cons
    (Within.look (fun _ => (sessionSet_within (hm.via rfl rfl rfl)))) (Within.cons (Within.count (hm.ctr (by decide +kernel)))
    (Within.cons (sendMkpdu_within (hm.via rfl rfl rfl)) Within.nil))))))

theorem mkaStart_within {m : Mask}
    (hm : Mask.Le ⟨0x3880b280, 0x3000000000000000000000004000e002000000000000000000000000, 0x16002000000008000000000000000000000100000000200000065000080000000⟩ m) {p : Nat} {cak : Bytes} {ckn : Bytes} {expires : Option Nat} :
    Eff.Within tables m (@mkaStart p cak ckn expires) := by
  unfold mkaStart
  exact (Within.whenS (withRandom_within (hm.via rfl rfl rfl) (fun _ => (Within.seq (mkaSet_within (hm.via rfl rfl rfl))
    (sendMkpdu_within (hm.via rfl rfl rfl))))))

theorem startPreshared_within {m : Mask}
    (hm : Mask.Le ⟨0x3880b280, 0x3000000000000000000000004000e002000000000000000000000000, 0x16002000000008000000000000000000000100000000200000065000080000000⟩ m) {p : Nat} :
    Eff.Within tables m (@startPreshared p) := by
  unfold startPreshared
  exact (Within.look (fun _ => (by (try dsimp only); split; exacts [(Within.when (mkaStart_within (hm.via rfl rfl rfl))),
    Within.skip])))

theorem peerLives_within {m : Mask}
    (hm : Mask.Le ⟨0x3880b280, 0x3000000000000000000000004000e002000000000000000000000000, 0x16002000000048000000000000000000000100000000200000065000080000000⟩ m) {p : Nat} {x : MkaSession} {d : Mkpdu} :
    Eff.Within tables m (@peerLives p x d) := by
  unfold peerLives
  exact (Within.look (fun _ => (Within.when (Within.cons (sessionSet_within (hm.via rfl rfl rfl)) (Within.cons (Within.when
    (raise_within (hm.via rfl rfl rfl))) (Within.cons (raise_within (hm.via rfl rfl rfl)) (Within.cons (Within.look (fun _ =>
    (Within.ofOption (fun _ => (Within.when (newSak_within (hm.via rfl rfl rfl))))))) Within.nil)))))))

theorem takeSak_within {m : Mask} (hm : Mask.Le ⟨0x800000, 0x0, 0x0⟩ m) {p : Nat} {x : MkaSession} {d : Mkpdu} :
    Eff.Within tables m (@takeSak p x d) := by
  unfold takeSak
  exact (Within.look (fun _ => (Within.ofOption (fun _ => (Within.ofOption (fun _ => (Within.when (Within.seq (sessionSet_within
    (hm.via rfl rfl rfl)) (mkaSet_within (hm.via rfl rfl rfl))))))))))

theorem mkpduArrives_within {m : Mask}
    (hm : Mask.Le ⟨0x3880b280, 0x3000000000000000000000004000e002000000000000000000000000, 0x16002000000078000000000000000000000100000000200000065000080000000⟩ m) {p : Nat} {d : Mkpdu} :
    Eff.Within tables m (@mkpduArrives p d) := by
  unfold mkpduArrives
  exact (Within.look (fun _ => (Within.when (Within.seq (Within.count (hm.ctr (by decide +kernel)))
    (by (try dsimp only); split; exacts [(Within.count (hm.ctr (by decide +kernel))),
    (Within.ite (Within.count (hm.ctr (by decide +kernel))) (Within.seq (Within.ite (sessionSet_within (hm.via rfl rfl rfl)) (Within.ite (peerLives_within (hm.via rfl rfl rfl)) (sessionSet_within (hm.via rfl rfl rfl)))) (takeSak_within (hm.via rfl rfl rfl))))])))))

theorem mkpduReceived_within {m : Mask}
    (hm : Mask.Le ⟨0x3989f6a0, 0x300001e002201e00000000004000e00201f57f360000001020000010, 0x1600e00020007800001c06003800000001f10000000020000016580008a819173⟩ m) {p : Nat} {d : Mkpdu} :
    Eff.Within tables m (@mkpduReceived p d) := by
  unfold mkpduReceived
  exact (Within.ite (received_within (hm.via rfl rfl rfl) (fun _ => (mkpduArrives_within (hm.via rfl rfl rfl))))
    (stackOpen_within (hm.via rfl rfl rfl) (mkpduArrives_within (hm.via rfl rfl rfl))))

theorem mkaHello_within {m : Mask}
    (hm : Mask.Le ⟨0x3880b280, 0x3000000000000000000000004000e002000000000000000000000000, 0x16002000000048000000000000000000000100000000200000065000080000000⟩ m) {p : Nat} :
    Eff.Within tables m (@mkaHello p) := by
  unfold mkaHello
  exact (Within.look (fun _ => (Within.when (withFree_within (hm.via rfl rfl rfl) (fun _ => (Within.forEach (fun _ => (Within.ite
    (newSak_within (hm.via rfl rfl rfl)) (sendMkpdu_within (hm.via rfl rfl rfl))))))))))

theorem peerLost_within {m : Mask}
    (hm : Mask.Le ⟨0x3880b280, 0x3000000000000000000000004000e002000000000000000000000000, 0x16002000000048000000000000000000000100000000200000065000080000000⟩ m) {p : Nat} {sci : Nat} :
    Eff.Within tables m (@peerLost p sci) := by
  unfold peerLost
  exact (Within.look (fun _ => (Within.when (Within.cons (mkaSet_within (hm.via rfl rfl rfl)) (Within.cons (raise_within
    (hm.via rfl rfl rfl)) (Within.cons (Within.forEach (fun _ => (Within.look (fun _ => (Within.ofOption (fun _ => (Within.when
    (newSak_within (hm.via rfl rfl rfl))))))))) Within.nil))))))

theorem useTxSa_within {m : Mask}
    (hm : Mask.Le ⟨0x800080, 0x0, 0x100000000000000000000000000000⟩ m) {p : Nat} {an : Nat} {key : Nat} :
    Eff.Within tables m (@useTxSa p an key) := by
  unfold useTxSa
  exact (Within.seq (mkaSet_within (hm.via rfl rfl rfl)) (raise_within (hm.via rfl rfl rfl)))

theorem keyWritten_within {m : Mask}
    (hm : Mask.Le ⟨0x800080, 0x0, 0x180000000000000000000000100000000000000000000000000000⟩ m) {p : Nat} {an : Nat} {key : Nat} {sci : Nat} {transmit : Bool} :
    Eff.Within tables m (@keyWritten p an key sci transmit) := by
  unfold keyWritten
  exact (Within.look (fun _ => (Within.when (Within.cons (Within.count (hm.ctr (by decide +kernel))) (Within.cons (Within.count
    (hm.ctr (by decide +kernel))) (Within.cons (mkaSet_within (hm.via rfl rfl rfl)) (Within.cons (Within.ite (Within.ite
    (mkaSet_within (hm.via rfl rfl rfl)) (useTxSa_within (hm.via rfl rfl rfl))) (mkaSet_within
    (hm.via rfl rfl rfl))) Within.nil)))))))

theorem txSaSwitches_within {m : Mask} (hm : Mask.Le ⟨0x800080, 0x0, 0x100000000000000000000000000000⟩ m) {p : Nat} :
    Eff.Within tables m (@txSaSwitches p) := by
  unfold txSaSwitches
  exact (Within.look (fun _ => (by (try dsimp only); split; exacts [(Within.when (useTxSa_within (hm.via rfl rfl rfl))),
    Within.skip])))

theorem holdoverExpires_within {m : Mask} (hm : Mask.Le ⟨0x800000, 0x0, 0x0⟩ m) {p : Nat} :
    Eff.Within tables m (@holdoverExpires p) := by
  unfold holdoverExpires
  exact (Within.whenS (mkaSet_within (hm.via rfl rfl rfl)))

theorem pairingSet_within {m : Mask} (hm : Mask.Le ⟨0x800000, 0x0, 0x0⟩ m) {p : Nat} {f : Pairing → Pairing} :
    Eff.Within tables m (@pairingSet p f) := by
  unfold pairingSet
  exact (Within.upd (hm.parts' [.kiln] (by decide +kernel)))

theorem sendPairing_within {m : Mask}
    (hm : Mask.Le ⟨0x3880b280, 0x3000000000000000000000004000e002000000000000000000000000, 0x16002000000000000000000000000000000100000000200000065000080000000⟩ m) {p : Nat} {command : Nat} {body : Bytes} :
    Eff.Within tables m (@sendPairing p command body) := by
  unfold sendPairing
  exact (Within.seq (Within.look (fun _ => (pairingSet_within (hm.via rfl rfl rfl)))) (sendKiln_within (hm.via rfl rfl rfl)))

theorem startPairing_within {m : Mask}
    (hm : Mask.Le ⟨0x3880b280, 0x3000000000000000000000004000e002000000000000000000000000, 0x16002000000000800000000000000000000100000000200000065000080000000⟩ m) {p : Nat} :
    Eff.Within tables m (@startPairing p) := by
  unfold startPairing
  exact (Within.whenS (withRandom_within (hm.via rfl rfl rfl) (fun _ => (Within.look (fun _ => (Within.cons (pairingSet_within
    (hm.via rfl rfl rfl)) (Within.cons (raise_within (hm.via rfl rfl rfl)) (Within.cons (Within.count
    (hm.ctr (by decide +kernel))) (Within.cons (sendPairing_within (hm.via rfl rfl rfl)) Within.nil)))))))))

theorem linkPairs_within {m : Mask}
    (hm : Mask.Le ⟨0x3880b280, 0x3000000000000000000000004000e002000000000000000000000000, 0x16002000000000800000000000000000000100000000200000065000080000000⟩ m) {p : Nat} :
    Eff.Within tables m (@linkPairs p) := by
  unfold linkPairs
  exact (Within.whenS (withFree_within (hm.via rfl rfl rfl) (fun _ => (Within.whenS (startPairing_within (hm.via rfl rfl rfl))))))

theorem pairStatus_within {m : Mask}
    (hm : Mask.Le ⟨0x3880b280, 0x3000000000000000000000004000e002000000000000000000000000, 0x16002000000000000000000000000000000100000000200000065000080000000⟩ m) {p : Nat} {mac : Nat} {command : Nat} {tag : Nat} {status : Nat} :
    Eff.Within tables m (@pairStatus p mac command tag status) := by
  unfold pairStatus
  exact (sendKiln_within (hm.via rfl rfl rfl))

theorem pairServe_within {m : Mask}
    (hm : Mask.Le ⟨0x3880b280, 0x3000000000000000000000004000e002000000000000000000000000, 0x16002000000000000000000000000000000100000000200000065000080000000⟩ m) {p : Nat} {mac : Nat} {command : Nat} {tag : Nat} {run : Eff}
    (h_run : Eff.Within tables m run) :
    Eff.Within tables m (@pairServe p mac command tag run) := by
  unfold pairServe
  exact (Within.look (fun _ => (by (try dsimp only); split; exacts [(pairStatus_within (hm.via rfl rfl rfl)), h_run])))

theorem pairInitAct_within {m : Mask}
    (hm : Mask.Le ⟨0x3880b280, 0x3000000000000000000000004000e002000000000000000000000000, 0x16002000000000e00000000000000000000100000000200000065000080000000⟩ m) {p : Nat} {sourceMac : Nat} {tag : Nat} {b : Bytes} :
    Eff.Within tables m (@pairInitAct p sourceMac tag b) := by
  unfold pairInitAct
  exact (pairServe_within (hm.via rfl rfl rfl) (Within.look (fun _ => (Within.ite (pairStatus_within (hm.via rfl rfl rfl))
    (Within.seq (countChecks_within (hm.via rfl rfl rfl)) (Within.ite (Within.cons (raise_within (hm.via rfl rfl rfl))
    (Within.cons (pairingEnds_within (hm.via rfl rfl rfl)) (Within.cons (pairStatus_within (hm.via rfl rfl rfl)) Within.nil)))
    (withRandom_within (hm.via rfl rfl rfl) (fun _ => (Within.cons (pairingSet_within (hm.via rfl rfl rfl)) (Within.cons
    (Within.count (hm.ctr (by decide +kernel))) (Within.cons (sendKiln_within (hm.via rfl rfl rfl)) Within.nil)))))))))))

theorem pairResponseAct_within {m : Mask}
    (hm : Mask.Le ⟨0x3880b280, 0x3000000000000000000000004000e002000000000000000000000000, 0x16002000000000600000000000000000000100000000200000065000080000000⟩ m) {p : Nat} {sourceMac : Nat} {b : Bytes} :
    Eff.Within tables m (@pairResponseAct p sourceMac b) := by
  unfold pairResponseAct
  exact (Within.look (fun _ => (Within.when (Within.seq (countChecks_within (hm.via rfl rfl rfl)) (Within.ite (Within.seq
    (raise_within (hm.via rfl rfl rfl)) (pairingEnds_within (hm.via rfl rfl rfl))) (Within.seq (pairingSet_within
    (hm.via rfl rfl rfl)) (sendPairing_within (hm.via rfl rfl rfl))))))))

theorem pairingDone_within {m : Mask}
    (hm : Mask.Le ⟨0x3880b280, 0x3000000000000000000000004000e002000000000000000000000000, 0x1600200000000a000000000000000000000100000000200000065000080000000⟩ m) {p : Nat} :
    Eff.Within tables m (@pairingDone p) := by
  unfold pairingDone
  exact (Within.look (fun _ => (Within.cons (pairingEnds_within (hm.via rfl rfl rfl)) (Within.cons (raise_within
    (hm.via rfl rfl rfl)) (Within.cons (Within.count (hm.ctr (by decide +kernel))) (Within.cons (mkaStart_within
    (hm.via rfl rfl rfl)) (Within.cons (mkaSet_within (hm.via rfl rfl rfl)) Within.nil)))))))

theorem pairConfirmAct_within {m : Mask}
    (hm : Mask.Le ⟨0x3880b280, 0x3000000000000000000000004000e002000000000000000000000000, 0x1600200000000a000000000000000000000100000000200000065000080000000⟩ m) {p : Nat} {mac : Nat} {tag : Nat} {confirm : Bytes} :
    Eff.Within tables m (@pairConfirmAct p mac tag confirm) := by
  unfold pairConfirmAct
  exact (pairServe_within (hm.via rfl rfl rfl) (Within.look (fun _ => (Within.when (Within.seq (sendKiln_within
    (hm.via rfl rfl rfl)) (pairingDone_within (hm.via rfl rfl rfl)))))))

theorem pairDoneAct_within {m : Mask}
    (hm : Mask.Le ⟨0x3880b280, 0x3000000000000000000000004000e002000000000000000000000000, 0x1600200000000a000000000000000000000100000000200000065000080000000⟩ m) {p : Nat} {confirm : Bytes} :
    Eff.Within tables m (@pairDoneAct p confirm) := by
  unfold pairDoneAct
  exact (Within.look (fun _ => (Within.when (pairingDone_within (hm.via rfl rfl rfl)))))

theorem pairTimesOut_within {m : Mask}
    (hm : Mask.Le ⟨0x3880b280, 0x3000000000000000000000004000e002000000000000000000000000, 0x16002000000004000000000000000000000100000000200000065000080000000⟩ m) {p : Nat} :
    Eff.Within tables m (@pairTimesOut p) := by
  unfold pairTimesOut
  exact (Within.look (fun _ => (Within.ite Within.skip (Within.ite (Within.seq (pairingSet_within (hm.via rfl rfl rfl))
    (sendKiln_within (hm.via rfl rfl rfl))) (Within.cons (raise_within (hm.via rfl rfl rfl)) (Within.cons (Within.count
    (hm.ctr (by decide +kernel))) (Within.cons (pairingSet_within (hm.via rfl rfl rfl)) Within.nil)))))))

theorem pairRetry_within {m : Mask}
    (hm : Mask.Le ⟨0x3880b280, 0x3000000000000000000000004000e002000000000000000000000000, 0x16002000000000800000000000000000000100000000200000065000080000000⟩ m) {p : Nat} :
    Eff.Within tables m (@pairRetry p) := by
  unfold pairRetry
  exact (Within.whenS (Within.seq (pairingEnds_within (hm.via rfl rfl rfl)) (startPairing_within (hm.via rfl rfl rfl))))

theorem cakExpires_within {m : Mask}
    (hm : Mask.Le ⟨0x3880b280, 0x3000000000000000000000004000e002000000000000000000000000, 0x16002000000000800000000000000000000100000000200000065000080000000⟩ m) {p : Nat} :
    Eff.Within tables m (@cakExpires p) := by
  unfold cakExpires
  exact (Within.look (fun _ =>
    (by (try dsimp only); split; exacts [(Within.when (Within.seq (mkaSet_within (hm.via rfl rfl rfl)) (Within.when (startPairing_within (hm.via rfl rfl rfl))))),
    Within.skip])))

theorem linkSecures_within {m : Mask}
    (hm : Mask.Le ⟨0x3880b280, 0x3000000000000000000000004000e002000000000000000000000000, 0x16002000000008800000000000000000000100000000200000065000080000000⟩ m) {p : Nat} :
    Eff.Within tables m (@linkSecures p) := by
  unfold linkSecures
  exact (Within.seq (linkPairs_within (hm.via rfl rfl rfl)) (startPreshared_within (hm.via rfl rfl rfl)))

theorem macsecFollows_within {m : Mask}
    (hm : Mask.Le ⟨0x3880b280, 0x3000000000000000000000004000e002000000000000000000000000, 0x16002000000008800000000000000000000100000000200000065000080000000⟩ m) {p : Nat} :
    Eff.Within tables m (@macsecFollows p) := by
  unfold macsecFollows
  exact (Within.cons (pairingEnds_within (hm.via rfl rfl rfl)) (Within.cons (mkaStop_within (hm.via rfl rfl rfl)) (Within.cons
    (Within.whenS (linkSecures_within (hm.via rfl rfl rfl))) Within.nil)))

theorem takeOwnerKey_within {m : Mask}
    (hm : Mask.Le ⟨0x600080, 0x0, 0x200000000000000000000000100000000000000000000000000000⟩ m) {op : Nat} {a : Bytes} :
    Eff.Within tables m (@takeOwnerKey op a) := by
  unfold takeOwnerKey
  exact (Within.look (fun _ => (Within.cons (Within.upd (hm.parts' [.otp] (by decide +kernel))) (Within.cons (flashSet_within
    (hm.via rfl rfl rfl)) (Within.cons (raise_within (hm.via rfl rfl rfl)) Within.nil)))))

theorem unlockDebug_within {m : Mask}
    (hm : Mask.Le ⟨0x38e0b690, 0x3000000000000000000000004000e002000000000000000000000000, 0x16002000000200180000000000000000000100000000200000065000080000000⟩ m) :
    Eff.Within tables m unlockDebug := by
  unfold unlockDebug
  exact (Within.look (fun _ => (Within.cons (Within.upd (hm.parts' [.otp] (by decide +kernel))) (Within.cons (Within.upd
    (hm.parts' [.kiln] (by decide +kernel))) (Within.cons (flashSet_within (hm.via rfl rfl rfl)) (Within.cons (Within.forEach
    (fun _ => (kilnAnswer_within (hm.via rfl rfl rfl)))) (Within.cons (Within.upd (hm.parts' [.kiln] (by decide +kernel)))
    (Within.cons (raise_within (hm.via rfl rfl rfl)) (Within.cons (setKilnState_within (hm.via rfl rfl rfl)) (Within.cons
    (Within.upd (hm.parts' [.pins] (by decide +kernel))) Within.nil))))))))))

theorem presharedEnds_within {m : Mask}
    (hm : Mask.Le ⟨0x3880b280, 0x3000001000000000000000004000e002000000000000000000000000, 0x16002000000008800000000000000000000100000000200000065000080000000⟩ m) :
    Eff.Within tables m presharedEnds := by
  unfold presharedEnds
  exact (Within.look (fun _ => (Within.forEach (fun _ => (Within.seq (Within.setN (hm.obj (by decide +kernel)))
    (macsecFollows_within (hm.via rfl rfl rfl)))))))

theorem ownerRun_within {m : Mask}
    (hm : Mask.Le ⟨0x38e0b690, 0x3000001000000000000000004000e002000000000000000000000000, 0x16002000000208980000000000000000000100000000200000065000080000000⟩ m) {c : OwnerCommand} :
    Eff.Within tables m (@ownerRun c) := by
  unfold ownerRun
  exact (by (try dsimp only); split; exacts [(takeOwnerKey_within (hm.via rfl rfl rfl)),
    (takeOwnerKey_within (hm.via rfl rfl rfl)), (flashSet_within (hm.via rfl rfl rfl)), (flashSet_within (hm.via rfl rfl rfl)),
    (Within.cons (Within.upd (hm.parts' [.otp] (by decide +kernel))) (Within.cons (raise_within (hm.via rfl rfl rfl)) (Within.cons (Within.when (presharedEnds_within (hm.via rfl rfl rfl))) Within.nil))),
    (flashSet_within (hm.via rfl rfl rfl)), (flashSet_within (hm.via rfl rfl rfl)),
    (Within.look (fun _ => (by (try dsimp only); split; exacts [(Within.seq (flashSet_within (hm.via rfl rfl rfl)) (Within.forEach (fun _ => (startPreshared_within (hm.via rfl rfl rfl))))),
    Within.skip]))), (advanceRollbackTo_within (hm.via rfl rfl rfl)), (unlockDebug_within (hm.via rfl rfl rfl)), Within.skip])

theorem ownerAct_within {m : Mask}
    (hm : Mask.Le ⟨0x38e0b690, 0x3000001000000000000000004000e002000000000000000000000000, 0x16002000000208f80000000000000000000100000000200000065000080000000⟩ m) {src : KilnSource} {tag : Nat} {b : Bytes} :
    Eff.Within tables m (@ownerAct src tag b) := by
  unfold ownerAct
  exact (kilnServe_within (hm.via rfl rfl rfl) (Within.look (fun _ =>
    (by (try dsimp only); split; exacts [(Within.seq (raise_within (hm.via rfl rfl rfl)) (kilnAnswer_within (hm.via rfl rfl rfl))),
    (Within.seq (Within.when (Within.ofOption (fun _ => (countChecks_within (hm.via rfl rfl rfl))))) (Within.ite (Within.cons (flashSet_within (hm.via rfl rfl rfl)) (Within.cons (ownerRun_within (hm.via rfl rfl rfl)) (Within.cons (Within.look (fun _ => (Within.upd (hm.parts' [.kiln] (by decide +kernel))))) (Within.cons (kilnAnswer_within (hm.via rfl rfl rfl)) Within.nil)))) (Within.seq (raise_within (hm.via rfl rfl rfl)) (kilnAnswer_within (hm.via rfl rfl rfl)))))]))))

theorem ownerOnly_within {m : Mask}
    (hm : Mask.Le ⟨0x38e0b690, 0x3000001000000000000000004000e002000000000000000000000000, 0x16002000000208f80000000000000000000100000000200000065000080000000⟩ m) {op : Nat} {src : KilnSource} {tag : Nat} {b : Bytes} :
    Eff.Within tables m (@ownerOnly op src tag b) := by
  unfold ownerOnly
  exact (Within.when (ownerAct_within (hm.via rfl rfl rfl)))

theorem runMessage_within {m : Mask}
    (hm : Mask.Le ⟨0x38e0b690, 0x3000001000000000000000004000e002000000000000000000000000, 0x1600200000020bf80000000000000000000100000000200000065000080000000⟩ m) {o : KilnOp} :
    Eff.Within tables m (@runMessage o) := by
  unfold runMessage
  exact (Within.ite (kilnAnswer_within (hm.via rfl rfl rfl)) (Within.ite (Within.ite (Within.when (Within.whenS
    (pairingEnds_within (hm.via rfl rfl rfl)))) (Within.ite (pairResponseAct_within (hm.via rfl rfl rfl)) (Within.when
    (pairDoneAct_within (hm.via rfl rfl rfl)))))
    (by (try dsimp only); split; exacts [(getStatusAct_within (hm.via rfl rfl rfl)),
    (getCertificateAct_within (hm.via rfl rfl rfl)), (getChallengeAct_within (hm.via rfl rfl rfl)),
    (attestAct_within (hm.via rfl rfl rfl)), (fwBeginAct_within (hm.via rfl rfl rfl)),
    (fwWriteAct_within (hm.via rfl rfl rfl)), (fwCommitAct_within (hm.via rfl rfl rfl)),
    (fwConfirmAct_within (hm.via rfl rfl rfl)), (fwAbortAct_within (hm.via rfl rfl rfl)),
    (ownerAct_within (hm.via rfl rfl rfl)),
    (Within.ite (kilnAnswer_within (hm.via rfl rfl rfl)) (pairInitAct_within (hm.via rfl rfl rfl))),
    (Within.ite (kilnAnswer_within (hm.via rfl rfl rfl)) (pairConfirmAct_within (hm.via rfl rfl rfl))),
    (kilnAnswer_within (hm.via rfl rfl rfl))])))

theorem startOp_within {m : Mask} (hm : Mask.Le ⟨0x800000, 0x0, 0x0⟩ m) :
    Eff.Within tables m startOp := by
  unfold startOp
  exact (Within.look (fun _ => (by (try dsimp only); split; exacts [(Within.upd (hm.parts' [.kiln] (by decide +kernel))),
    Within.skip])))

theorem queueOp_within {m : Mask} (hm : Mask.Le ⟨0x800000, 0x0, 0x0⟩ m) {o : KilnOp} :
    Eff.Within tables m (@queueOp o) := by
  unfold queueOp
  exact (Within.seq (Within.upd (hm.parts' [.kiln] (by decide +kernel))) (startOp_within (hm.via rfl rfl rfl)))

theorem operationEnds_within {m : Mask}
    (hm : Mask.Le ⟨0x38e0b690, 0x3000001000000000000000004000e002000000000000000000000000, 0x1600200000020bf80000000000000000000100000000200000065000080000000⟩ m) :
    Eff.Within tables m operationEnds := by
  unfold operationEnds
  exact (Within.look (fun _ =>
    (by (try dsimp only); split; exacts [(Within.cons (Within.upd (hm.parts' [.kiln] (by decide +kernel))) (Within.cons (runMessage_within (hm.via rfl rfl rfl)) (Within.cons (startOp_within (hm.via rfl rfl rfl)) Within.nil))),
    Within.skip])))

theorem kilnGoAct_within {m : Mask} (hm : Mask.Le ⟨0x800000, 0x0, 0x0⟩ m) :
    Eff.Within tables m kilnGoAct := by
  unfold kilnGoAct
  exact (Within.look (fun _ => (Within.ite (Within.upd (hm.parts' [.kiln] (by decide +kernel))) (Within.seq (Within.upd
    (hm.parts' [.kiln] (by decide +kernel))) (queueOp_within (hm.via rfl rfl rfl))))))

theorem portMessage_within {μ : Mask}
    (hm : Mask.Le ⟨0x3880b290, 0x3000000000000000000000004000e002000000000000000000000000, 0x16002000000000180000000000000000000100000000200000065000080000000⟩ μ) {p : Nat} {a : Assembly} {m : Bytes} :
    Eff.Within tables μ (@portMessage p a m) := by
  unfold portMessage
  exact (Within.look (fun _ => (Within.ite (kilnAnswer_within (hm.via rfl rfl rfl)) (queueOp_within (hm.via rfl rfl rfl)))))

theorem fragmentArrives_within {m : Mask}
    (hm : Mask.Le ⟨0x3880b290, 0x3000000000000000000000004000e002000000000000000000000000, 0x16002000000000180000000000000000000100000000200000065000080000000⟩ m) {p : Nat} {f : Frame} :
    Eff.Within tables m (@fragmentArrives p f) := by
  unfold fragmentArrives
  exact (Within.look (fun _ => (Within.when
    (by (try dsimp only); split; exacts [(Within.seq (Within.upd (hm.parts' [.kiln] (by decide +kernel))) (portMessage_within (hm.via rfl rfl rfl))),
    (Within.upd (hm.parts' [.kiln] (by decide +kernel)))]))))

theorem fragmentTimesOut_within {m : Mask} (hm : Mask.Le ⟨0x800000, 0x0, 0x0⟩ m) {p : Nat} :
    Eff.Within tables m (@fragmentTimesOut p) := by
  unfold fragmentTimesOut
  exact (Within.look (fun _ => (Within.upd (hm.parts' [.kiln] (by decide +kernel)))))

theorem kilnFails_within {m : Mask}
    (hm : Mask.Le ⟨0x2988f6a0, 0x1e0020000000000000000000000018007360000001020000010, 0x200020040000000000000000000001f100000000000000060800008000100⟩ m) {cause : Nat} :
    Eff.Within tables m (@kilnFails cause) := by
  unfold kilnFails
  exact (Within.cons (Within.when (Within.count (hm.ctr (by decide +kernel)))) (Within.cons (faultEvent_within
    (hm.via rfl rfl rfl)) (Within.cons (setKilnState_within (hm.via rfl rfl rfl)) Within.nil)))

theorem kilnPowered_within {m : Mask} (hm : Mask.Le ⟨0x0, 0x0, 0x0⟩ m) {e : Eff} (h_e : Eff.Within tables m e) :
    Eff.Within tables m (@kilnPowered e) := by
  unfold kilnPowered
  exact (Within.whenS h_e)

theorem execLinkUp_effect {port : Nat} {s : State} : ∃ e, @execLinkUp port s = done e s ∧ Eff.Within tables ⟨0x3880ba80, 0x3000000000000000000000004000e002018000840000000000000000, 0x16002000000008800000000000000000000100000000200000065000080000000⟩ e :=
  have hm := Mask.Le.refl ⟨0x3880ba80, 0x3000000000000000000000004000e002018000840000000000000000, 0x16002000000008800000000000000000000100000000200000065000080000000⟩
  ⟨_, rfl, (operating_within (hm.via rfl rfl rfl) (Within.whenS (Within.seq (linkRises_within (hm.via rfl rfl rfl))
    (linkSecures_within (hm.via rfl rfl rfl)))))⟩

theorem execLinkDown_effect {port : Nat} {s : State} : ∃ e, @execLinkDown port s = done e s ∧ Eff.Within tables ⟨0x2988fea0, 0x1e0020000000000000000000000018007360040001020000010, 0x200020000000000000000000100001f100000000000000060800008000100⟩ e :=
  have hm := Mask.Le.refl ⟨0x2988fea0, 0x1e0020000000000000000000000018007360040001020000010, 0x200020000000000000000000100001f100000000000000060800008000100⟩
  ⟨_, rfl, (operating_within (hm.via rfl rfl rfl) (Within.whenS (Within.seq (linkDrops_within (hm.via rfl rfl rfl))
    (linkUnsecures_within (hm.via rfl rfl rfl)))))⟩

theorem execStackLinkUp_effect {stackPort : Nat} {s : State} : ∃ e, @execStackLinkUp stackPort s = done e s ∧ Eff.Within tables ⟨0x3888b280, 0x3000000000040000000000004000e002000000000000000000000000, 0x16002000000008800000000000000000000100000000200000065000080000000⟩ e :=
  have hm := Mask.Le.refl ⟨0x3888b280, 0x3000000000040000000000004000e002000000000000000000000000, 0x16002000000008800000000000000000000100000000200000065000080000000⟩
  ⟨_, rfl, (operating_within (hm.via rfl rfl rfl) (Within.whenS (Within.seq (stackLinkRises_within (hm.via rfl rfl rfl))
    (Within.whenS (linkSecures_within (hm.via rfl rfl rfl))))))⟩

theorem execStackLinkDown_effect {stackPort : Nat} {s : State} : ∃ e, @execStackLinkDown stackPort s = done e s ∧ Eff.Within tables ⟨0x3988f6b8, 0x300001e002040000000000004000e002018007360000001020000010, 0x1601200020000000000000000000000001f108000000200000065800088000100⟩ e :=
  have hm := Mask.Le.refl ⟨0x3988f6b8, 0x300001e002040000000000004000e002018007360000001020000010, 0x1601200020000000000000000000000001f108000000200000065800088000100⟩
  ⟨_, rfl, (operating_within (hm.via rfl rfl rfl) (Within.whenS (Within.seq (stackLinkFalls_within (hm.via rfl rfl rfl))
    (linkUnsecures_within (hm.via rfl rfl rfl)))))⟩

theorem execKilnGo_effect {s : State} : ∃ e, @execKilnGo s = done e s ∧ Eff.Within tables ⟨0x800000, 0x0, 0x4000000000000000000000000000000000000000⟩ e :=
  have hm := Mask.Le.refl ⟨0x800000, 0x0, 0x4000000000000000000000000000000000000000⟩
  ⟨_, rfl, (Within.seq (powered_within (hm.via rfl rfl rfl) (tlpReceived_within (hm.via rfl rfl rfl))) (kilnPowered_within
    (hm.via rfl rfl rfl) (inD0_within (hm.via rfl rfl rfl) (kilnGoAct_within (hm.via rfl rfl rfl)))))⟩

theorem execKilnOperationDone_effect {s : State} : ∃ e, @execKilnOperationDone s = done e s ∧ Eff.Within tables ⟨0x38e0b690, 0x3000001000000000000000004000e002000000000000000000000000, 0x1600200000020bf80000000000000000000100000000200000065000080000000⟩ e :=
  have hm := Mask.Le.refl ⟨0x38e0b690, 0x3000001000000000000000004000e002000000000000000000000000, 0x1600200000020bf80000000000000000000100000000200000065000080000000⟩
  ⟨_, rfl, (kilnPowered_within (hm.via rfl rfl rfl) (operationEnds_within (hm.via rfl rfl rfl)))⟩

theorem execKilnMessageFragment_effect {port : Nat} {frame : Frame} {s : State} : ∃ e, @execKilnMessageFragment port frame s = done e s ∧ Eff.Within tables ⟨0x3989f6b0, 0x300001e002201e00000000004000e00201f57f360000001020000010, 0x1600e00020000018001c06003800000001f10000000020000016580008a819173⟩ e :=
  have hm := Mask.Le.refl ⟨0x3989f6b0, 0x300001e002201e00000000004000e00201f57f360000001020000010, 0x1600e00020000018001c06003800000001f10000000020000016580008a819173⟩
  ⟨_, rfl, (operating_within (hm.via rfl rfl rfl) (Within.ite (received_within (hm.via rfl rfl rfl) (fun _ =>
    (fragmentArrives_within (hm.via rfl rfl rfl)))) (stackOpen_within (hm.via rfl rfl rfl) (fragmentArrives_within
    (hm.via rfl rfl rfl)))))⟩

theorem execKilnFragmentTimeout_effect {port : Nat} {s : State} : ∃ e, @execKilnFragmentTimeout port s = done e s ∧ Eff.Within tables ⟨0x800000, 0x0, 0x0⟩ e :=
  have hm := Mask.Le.refl ⟨0x800000, 0x0, 0x0⟩
  ⟨_, rfl, (fragmentTimesOut_within (hm.via rfl rfl rfl))⟩

theorem execGetStatus_effect {source : KilnSource} {tag : Nat} {s : State} : ∃ e, @execGetStatus source tag s = done e s ∧ Eff.Within tables ⟨0x3880b290, 0x3000000000000000000000004000e002000000000000000000000000, 0x16002000000000180000000000000000000100000000200000065000080000000⟩ e :=
  have hm := Mask.Le.refl ⟨0x3880b290, 0x3000000000000000000000004000e002000000000000000000000000, 0x16002000000000180000000000000000000100000000200000065000080000000⟩
  ⟨_, rfl, (kilnPowered_within (hm.via rfl rfl rfl) (getStatusAct_within (hm.via rfl rfl rfl)))⟩

theorem execGetCertificate_effect {source : KilnSource} {tag : Nat} {index : Nat} {s : State} : ∃ e, @execGetCertificate source tag index s = done e s ∧ Eff.Within tables ⟨0x3880b290, 0x3000000000000000000000004000e002000000000000000000000000, 0x16002000000000980000000000000000000100000000200000065000080000000⟩ e :=
  have hm := Mask.Le.refl ⟨0x3880b290, 0x3000000000000000000000004000e002000000000000000000000000, 0x16002000000000980000000000000000000100000000200000065000080000000⟩
  ⟨_, rfl, (kilnPowered_within (hm.via rfl rfl rfl) (getCertificateAct_within (hm.via rfl rfl rfl)))⟩

theorem execGetChallenge_effect {source : KilnSource} {tag : Nat} {s : State} : ∃ e, @execGetChallenge source tag s = done e s ∧ Eff.Within tables ⟨0x3880b290, 0x3000000000000000000000004000e002000000000000000000000000, 0x16002000000000180000000000000000000100000000200000065000080000000⟩ e :=
  have hm := Mask.Le.refl ⟨0x3880b290, 0x3000000000000000000000004000e002000000000000000000000000, 0x16002000000000180000000000000000000100000000200000065000080000000⟩
  ⟨_, rfl, (kilnPowered_within (hm.via rfl rfl rfl) (getChallengeAct_within (hm.via rfl rfl rfl)))⟩

theorem execChallengeExpiry_effect {s : State} : ∃ e, @execChallengeExpiry s = done e s ∧ Eff.Within tables ⟨0x800000, 0x0, 0x0⟩ e :=
  have hm := Mask.Le.refl ⟨0x800000, 0x0, 0x0⟩
  ⟨_, rfl, (challengeExpires_within (hm.via rfl rfl rfl))⟩

theorem execAttest_effect {source : KilnSource} {tag : Nat} {nonce : Bytes} {s : State} : ∃ e, @execAttest source tag nonce s = done e s ∧ Eff.Within tables ⟨0x3880b290, 0x3000000000000000000000004000e002000000000000000000000000, 0x16002000000001980000000000000000000100000000200000065000080000000⟩ e :=
  have hm := Mask.Le.refl ⟨0x3880b290, 0x3000000000000000000000004000e002000000000000000000000000, 0x16002000000001980000000000000000000100000000200000065000080000000⟩
  ⟨_, rfl, (kilnPowered_within (hm.via rfl rfl rfl) (attestAct_within (hm.via rfl rfl rfl)))⟩

theorem execFwBegin_effect {source : KilnSource} {tag : Nat} {slot : Nat} {length : Nat} {s : State} : ∃ e, @execFwBegin source tag slot length s = done e s ∧ Eff.Within tables ⟨0x3880b290, 0x3000000000000000000000004000e002000000000000000000000000, 0x16002000000000180000000000000000000100000000200000065000080000000⟩ e :=
  have hm := Mask.Le.refl ⟨0x3880b290, 0x3000000000000000000000004000e002000000000000000000000000, 0x16002000000000180000000000000000000100000000200000065000080000000⟩
  ⟨_, rfl, (kilnPowered_within (hm.via rfl rfl rfl) (fwBeginAct_within (hm.via rfl rfl rfl)))⟩

theorem execFwWrite_effect {source : KilnSource} {tag : Nat} {offset : Nat} {data : Bytes} {s : State} : ∃ e, @execFwWrite source tag offset data s = done e s ∧ Eff.Within tables ⟨0x38c0b290, 0x3000000000000000000000004000e002000000000000000000000000, 0x16002000000200180000000000000000000100000000200000065000080000000⟩ e :=
  have hm := Mask.Le.refl ⟨0x38c0b290, 0x3000000000000000000000004000e002000000000000000000000000, 0x16002000000200180000000000000000000100000000200000065000080000000⟩
  ⟨_, rfl, (kilnPowered_within (hm.via rfl rfl rfl) (fwWriteAct_within (hm.via rfl rfl rfl)))⟩

theorem execFwCommit_effect {source : KilnSource} {tag : Nat} {s : State} : ∃ e, @execFwCommit source tag s = done e s ∧ Eff.Within tables ⟨0x38c0b290, 0x3000000000000000000000004000e002000000000000000000000000, 0x16002000000200780000000000000000000100000000200000065000080000000⟩ e :=
  have hm := Mask.Le.refl ⟨0x38c0b290, 0x3000000000000000000000004000e002000000000000000000000000, 0x16002000000200780000000000000000000100000000200000065000080000000⟩
  ⟨_, rfl, (kilnPowered_within (hm.via rfl rfl rfl) (fwCommitAct_within (hm.via rfl rfl rfl)))⟩

theorem execFwConfirm_effect {source : KilnSource} {tag : Nat} {s : State} : ∃ e, @execFwConfirm source tag s = done e s ∧ Eff.Within tables ⟨0x38e0b290, 0x3000000000000000000000004000e002000000000000000000000000, 0x16002000000200180000000000000000000100000000200000065000080000000⟩ e :=
  have hm := Mask.Le.refl ⟨0x38e0b290, 0x3000000000000000000000004000e002000000000000000000000000, 0x16002000000200180000000000000000000100000000200000065000080000000⟩
  ⟨_, rfl, (kilnPowered_within (hm.via rfl rfl rfl) (fwConfirmAct_within (hm.via rfl rfl rfl)))⟩

theorem execFwAbort_effect {source : KilnSource} {tag : Nat} {s : State} : ∃ e, @execFwAbort source tag s = done e s ∧ Eff.Within tables ⟨0x3880b290, 0x3000000000000000000000004000e002000000000000000000000000, 0x16002000000000180000000000000000000100000000200000065000080000000⟩ e :=
  have hm := Mask.Le.refl ⟨0x3880b290, 0x3000000000000000000000004000e002000000000000000000000000, 0x16002000000000180000000000000000000100000000200000065000080000000⟩
  ⟨_, rfl, (kilnPowered_within (hm.via rfl rfl rfl) (fwAbortAct_within (hm.via rfl rfl rfl)))⟩

theorem execOwner_effect {source : KilnSource} {tag : Nat} {command : Bytes} {s : State} : ∃ e, @execOwner source tag command s = done e s ∧ Eff.Within tables ⟨0x38e0b690, 0x3000001000000000000000004000e002000000000000000000000000, 0x16002000000208f80000000000000000000100000000200000065000080000000⟩ e :=
  have hm := Mask.Le.refl ⟨0x38e0b690, 0x3000001000000000000000004000e002000000000000000000000000, 0x16002000000208f80000000000000000000100000000200000065000080000000⟩
  ⟨_, rfl, (kilnPowered_within (hm.via rfl rfl rfl) (ownerAct_within (hm.via rfl rfl rfl)))⟩

theorem execInstallOwnerKey_effect {source : KilnSource} {tag : Nat} {command : Bytes} {s : State} : ∃ e, @execInstallOwnerKey source tag command s = done e s ∧ Eff.Within tables ⟨0x38e0b690, 0x3000001000000000000000004000e002000000000000000000000000, 0x16002000000208f80000000000000000000100000000200000065000080000000⟩ e :=
  have hm := Mask.Le.refl ⟨0x38e0b690, 0x3000001000000000000000004000e002000000000000000000000000, 0x16002000000208f80000000000000000000100000000200000065000080000000⟩
  ⟨_, rfl, (kilnPowered_within (hm.via rfl rfl rfl) (ownerOnly_within (hm.via rfl rfl rfl)))⟩

theorem execRotateOwnerKey_effect {source : KilnSource} {tag : Nat} {command : Bytes} {s : State} : ∃ e, @execRotateOwnerKey source tag command s = done e s ∧ Eff.Within tables ⟨0x38e0b690, 0x3000001000000000000000004000e002000000000000000000000000, 0x16002000000208f80000000000000000000100000000200000065000080000000⟩ e :=
  have hm := Mask.Le.refl ⟨0x38e0b690, 0x3000001000000000000000004000e002000000000000000000000000, 0x16002000000208f80000000000000000000100000000200000065000080000000⟩
  ⟨_, rfl, (kilnPowered_within (hm.via rfl rfl rfl) (ownerOnly_within (hm.via rfl rfl rfl)))⟩

theorem execRestoreOwnerKey_effect {source : KilnSource} {tag : Nat} {command : Bytes} {s : State} : ∃ e, @execRestoreOwnerKey source tag command s = done e s ∧ Eff.Within tables ⟨0x38e0b690, 0x3000001000000000000000004000e002000000000000000000000000, 0x16002000000208f80000000000000000000100000000200000065000080000000⟩ e :=
  have hm := Mask.Le.refl ⟨0x38e0b690, 0x3000001000000000000000004000e002000000000000000000000000, 0x16002000000208f80000000000000000000100000000200000065000080000000⟩
  ⟨_, rfl, (kilnPowered_within (hm.via rfl rfl rfl) (ownerOnly_within (hm.via rfl rfl rfl)))⟩

theorem execSetPolicy_effect {source : KilnSource} {tag : Nat} {command : Bytes} {s : State} : ∃ e, @execSetPolicy source tag command s = done e s ∧ Eff.Within tables ⟨0x38e0b690, 0x3000001000000000000000004000e002000000000000000000000000, 0x16002000000208f80000000000000000000100000000200000065000080000000⟩ e :=
  have hm := Mask.Le.refl ⟨0x38e0b690, 0x3000001000000000000000004000e002000000000000000000000000, 0x16002000000208f80000000000000000000100000000200000065000080000000⟩
  ⟨_, rfl, (kilnPowered_within (hm.via rfl rfl rfl) (ownerOnly_within (hm.via rfl rfl rfl)))⟩

theorem execBurnLocks_effect {source : KilnSource} {tag : Nat} {command : Bytes} {s : State} : ∃ e, @execBurnLocks source tag command s = done e s ∧ Eff.Within tables ⟨0x38e0b690, 0x3000001000000000000000004000e002000000000000000000000000, 0x16002000000208f80000000000000000000100000000200000065000080000000⟩ e :=
  have hm := Mask.Le.refl ⟨0x38e0b690, 0x3000001000000000000000004000e002000000000000000000000000, 0x16002000000208f80000000000000000000100000000200000065000080000000⟩
  ⟨_, rfl, (kilnPowered_within (hm.via rfl rfl rfl) (ownerOnly_within (hm.via rfl rfl rfl)))⟩

theorem execSetLockedRanges_effect {source : KilnSource} {tag : Nat} {command : Bytes} {s : State} : ∃ e, @execSetLockedRanges source tag command s = done e s ∧ Eff.Within tables ⟨0x38e0b690, 0x3000001000000000000000004000e002000000000000000000000000, 0x16002000000208f80000000000000000000100000000200000065000080000000⟩ e :=
  have hm := Mask.Le.refl ⟨0x38e0b690, 0x3000001000000000000000004000e002000000000000000000000000, 0x16002000000208f80000000000000000000100000000200000065000080000000⟩
  ⟨_, rfl, (kilnPowered_within (hm.via rfl rfl rfl) (ownerOnly_within (hm.via rfl rfl rfl)))⟩

theorem execSetPeerAllowList_effect {source : KilnSource} {tag : Nat} {command : Bytes} {s : State} : ∃ e, @execSetPeerAllowList source tag command s = done e s ∧ Eff.Within tables ⟨0x38e0b690, 0x3000001000000000000000004000e002000000000000000000000000, 0x16002000000208f80000000000000000000100000000200000065000080000000⟩ e :=
  have hm := Mask.Le.refl ⟨0x38e0b690, 0x3000001000000000000000004000e002000000000000000000000000, 0x16002000000208f80000000000000000000100000000200000065000080000000⟩
  ⟨_, rfl, (kilnPowered_within (hm.via rfl rfl rfl) (ownerOnly_within (hm.via rfl rfl rfl)))⟩

theorem execInstallCak_effect {source : KilnSource} {tag : Nat} {command : Bytes} {s : State} : ∃ e, @execInstallCak source tag command s = done e s ∧ Eff.Within tables ⟨0x38e0b690, 0x3000001000000000000000004000e002000000000000000000000000, 0x16002000000208f80000000000000000000100000000200000065000080000000⟩ e :=
  have hm := Mask.Le.refl ⟨0x38e0b690, 0x3000001000000000000000004000e002000000000000000000000000, 0x16002000000208f80000000000000000000100000000200000065000080000000⟩
  ⟨_, rfl, (kilnPowered_within (hm.via rfl rfl rfl) (ownerOnly_within (hm.via rfl rfl rfl)))⟩

theorem execAdvanceRollback_effect {source : KilnSource} {tag : Nat} {command : Bytes} {s : State} : ∃ e, @execAdvanceRollback source tag command s = done e s ∧ Eff.Within tables ⟨0x38e0b690, 0x3000001000000000000000004000e002000000000000000000000000, 0x16002000000208f80000000000000000000100000000200000065000080000000⟩ e :=
  have hm := Mask.Le.refl ⟨0x38e0b690, 0x3000001000000000000000004000e002000000000000000000000000, 0x16002000000208f80000000000000000000100000000200000065000080000000⟩
  ⟨_, rfl, (kilnPowered_within (hm.via rfl rfl rfl) (ownerOnly_within (hm.via rfl rfl rfl)))⟩

theorem execDebugUnlock_effect {source : KilnSource} {tag : Nat} {command : Bytes} {s : State} : ∃ e, @execDebugUnlock source tag command s = done e s ∧ Eff.Within tables ⟨0x38e0b690, 0x3000001000000000000000004000e002000000000000000000000000, 0x16002000000208f80000000000000000000100000000200000065000080000000⟩ e :=
  have hm := Mask.Le.refl ⟨0x38e0b690, 0x3000001000000000000000004000e002000000000000000000000000, 0x16002000000208f80000000000000000000100000000200000065000080000000⟩
  ⟨_, rfl, (kilnPowered_within (hm.via rfl rfl rfl) (ownerOnly_within (hm.via rfl rfl rfl)))⟩

theorem execPairInit_effect {port : Nat} {sourceMac : Nat} {body : Bytes} {s : State} : ∃ e, @execPairInit port sourceMac body s = done e s ∧ Eff.Within tables ⟨0x3880b280, 0x3000000000000000000000004000e002000000000000000000000000, 0x16002000000000e00000000000000000000100000000200000065000080000000⟩ e :=
  have hm := Mask.Le.refl ⟨0x3880b280, 0x3000000000000000000000004000e002000000000000000000000000, 0x16002000000000e00000000000000000000100000000200000065000080000000⟩
  ⟨_, rfl, (operating_within (hm.via rfl rfl rfl) (pairInitAct_within (hm.via rfl rfl rfl)))⟩

theorem execPairResponse_effect {port : Nat} {sourceMac : Nat} {body : Bytes} {s : State} : ∃ e, @execPairResponse port sourceMac body s = done e s ∧ Eff.Within tables ⟨0x3880b280, 0x3000000000000000000000004000e002000000000000000000000000, 0x16002000000000600000000000000000000100000000200000065000080000000⟩ e :=
  have hm := Mask.Le.refl ⟨0x3880b280, 0x3000000000000000000000004000e002000000000000000000000000, 0x16002000000000600000000000000000000100000000200000065000080000000⟩
  ⟨_, rfl, (operating_within (hm.via rfl rfl rfl) (pairResponseAct_within (hm.via rfl rfl rfl)))⟩

theorem execPairConfirm_effect {port : Nat} {confirm : Bytes} {s : State} : ∃ e, @execPairConfirm port confirm s = done e s ∧ Eff.Within tables ⟨0x3880b280, 0x3000000000000000000000004000e002000000000000000000000000, 0x1600200000000a000000000000000000000100000000200000065000080000000⟩ e :=
  have hm := Mask.Le.refl ⟨0x3880b280, 0x3000000000000000000000004000e002000000000000000000000000, 0x1600200000000a000000000000000000000100000000200000065000080000000⟩
  ⟨_, rfl, (operating_within (hm.via rfl rfl rfl) (Within.look (fun _ => (pairConfirmAct_within (hm.via rfl rfl rfl)))))⟩

theorem execPairDone_effect {port : Nat} {confirm : Bytes} {s : State} : ∃ e, @execPairDone port confirm s = done e s ∧ Eff.Within tables ⟨0x3880b280, 0x3000000000000000000000004000e002000000000000000000000000, 0x1600200000000a000000000000000000000100000000200000065000080000000⟩ e :=
  have hm := Mask.Le.refl ⟨0x3880b280, 0x3000000000000000000000004000e002000000000000000000000000, 0x1600200000000a000000000000000000000100000000200000065000080000000⟩
  ⟨_, rfl, (operating_within (hm.via rfl rfl rfl) (pairDoneAct_within (hm.via rfl rfl rfl)))⟩

theorem execPairTimeout_effect {port : Nat} {s : State} : ∃ e, @execPairTimeout port s = done e s ∧ Eff.Within tables ⟨0x3880b280, 0x3000000000000000000000004000e002000000000000000000000000, 0x16002000000004000000000000000000000100000000200000065000080000000⟩ e :=
  have hm := Mask.Le.refl ⟨0x3880b280, 0x3000000000000000000000004000e002000000000000000000000000, 0x16002000000004000000000000000000000100000000200000065000080000000⟩
  ⟨_, rfl, (operating_within (hm.via rfl rfl rfl) (pairTimesOut_within (hm.via rfl rfl rfl)))⟩

theorem execPairingRetryTimer_effect {port : Nat} {s : State} : ∃ e, @execPairingRetryTimer port s = done e s ∧ Eff.Within tables ⟨0x3880b280, 0x3000000000000000000000004000e002000000000000000000000000, 0x16002000000000800000000000000000000100000000200000065000080000000⟩ e :=
  have hm := Mask.Le.refl ⟨0x3880b280, 0x3000000000000000000000004000e002000000000000000000000000, 0x16002000000000800000000000000000000100000000200000065000080000000⟩
  ⟨_, rfl, (operating_within (hm.via rfl rfl rfl) (pairRetry_within (hm.via rfl rfl rfl)))⟩

theorem execCakLifetimeExpiry_effect {port : Nat} {s : State} : ∃ e, @execCakLifetimeExpiry port s = done e s ∧ Eff.Within tables ⟨0x3880b280, 0x3000000000000000000000004000e002000000000000000000000000, 0x16002000000000800000000000000000000100000000200000065000080000000⟩ e :=
  have hm := Mask.Le.refl ⟨0x3880b280, 0x3000000000000000000000004000e002000000000000000000000000, 0x16002000000000800000000000000000000100000000200000065000080000000⟩
  ⟨_, rfl, (operating_within (hm.via rfl rfl rfl) (cakExpires_within (hm.via rfl rfl rfl)))⟩

theorem execMkpdu_effect {port : Nat} {pdu : Mkpdu} {s : State} : ∃ e, @execMkpdu port pdu s = done e s ∧ Eff.Within tables ⟨0x3989f6a0, 0x300001e002201e00000000004000e00201f57f360000001020000010, 0x1600e00020007800001c06003800000001f10000000020000016580008a819173⟩ e :=
  have hm := Mask.Le.refl ⟨0x3989f6a0, 0x300001e002201e00000000004000e00201f57f360000001020000010, 0x1600e00020007800001c06003800000001f10000000020000016580008a819173⟩
  ⟨_, rfl, (operating_within (hm.via rfl rfl rfl) (mkpduReceived_within (hm.via rfl rfl rfl)))⟩

theorem execMkaHelloTimer_effect {port : Nat} {s : State} : ∃ e, @execMkaHelloTimer port s = done e s ∧ Eff.Within tables ⟨0x3880b280, 0x3000000000000000000000004000e002000000000000000000000000, 0x16002000000048000000000000000000000100000000200000065000080000000⟩ e :=
  have hm := Mask.Le.refl ⟨0x3880b280, 0x3000000000000000000000004000e002000000000000000000000000, 0x16002000000048000000000000000000000100000000200000065000080000000⟩
  ⟨_, rfl, (operating_within (hm.via rfl rfl rfl) (mkaHello_within (hm.via rfl rfl rfl)))⟩

theorem execMkaLifeTimeExpiry_effect {port : Nat} {peer : Nat} {s : State} : ∃ e, @execMkaLifeTimeExpiry port peer s = done e s ∧ Eff.Within tables ⟨0x3880b280, 0x3000000000000000000000004000e002000000000000000000000000, 0x16002000000048000000000000000000000100000000200000065000080000000⟩ e :=
  have hm := Mask.Le.refl ⟨0x3880b280, 0x3000000000000000000000004000e002000000000000000000000000, 0x16002000000048000000000000000000000100000000200000065000080000000⟩
  ⟨_, rfl, (operating_within (hm.via rfl rfl rfl) (peerLost_within (hm.via rfl rfl rfl)))⟩

theorem execKeyPathWrite_effect {port : Nat} {an : Nat} {key : Nat} {sci : Nat} {transmit : Bool} {s : State} : ∃ e, @execKeyPathWrite port an key sci transmit s = done e s ∧ Eff.Within tables ⟨0x800080, 0x0, 0x180000000000000000000000100000000000000000000000000000⟩ e :=
  have hm := Mask.Le.refl ⟨0x800080, 0x0, 0x180000000000000000000000100000000000000000000000000000⟩
  ⟨_, rfl, (operating_within (hm.via rfl rfl rfl) (keyWritten_within (hm.via rfl rfl rfl)))⟩

theorem execTxSaSwitch_effect {port : Nat} {s : State} : ∃ e, @execTxSaSwitch port s = done e s ∧ Eff.Within tables ⟨0x800080, 0x0, 0x100000000000000000000000000000⟩ e :=
  have hm := Mask.Le.refl ⟨0x800080, 0x0, 0x100000000000000000000000000000⟩
  ⟨_, rfl, (operating_within (hm.via rfl rfl rfl) (txSaSwitches_within (hm.via rfl rfl rfl)))⟩

theorem execSakHoldoverExpiry_effect {port : Nat} {s : State} : ∃ e, @execSakHoldoverExpiry port s = done e s ∧ Eff.Within tables ⟨0x800000, 0x0, 0x0⟩ e :=
  have hm := Mask.Le.refl ⟨0x800000, 0x0, 0x0⟩
  ⟨_, rfl, (operating_within (hm.via rfl rfl rfl) (holdoverExpires_within (hm.via rfl rfl rfl)))⟩

theorem execKilnFault_effect {cause : Nat} {s : State} : ∃ e, @execKilnFault cause s = done e s ∧ Eff.Within tables ⟨0x2988f6a0, 0x1e0020000000000000000000000018007360000001020000010, 0x200020040000000000000000000001f100000000000000060800008000100⟩ e :=
  have hm := Mask.Le.refl ⟨0x2988f6a0, 0x1e0020000000000000000000000018007360000001020000010, 0x200020040000000000000000000001f100000000000000060800008000100⟩
  ⟨_, rfl, (kilnPowered_within (hm.via rfl rfl rfl) (kilnFails_within (hm.via rfl rfl rfl)))⟩

/-! ## Faults -/

theorem mdiSet_within {m : Mask} (hm : Mask.Le ⟨0x1000000, 0x0, 0x0⟩ m) {p : Nat} {f : MdiMonitor → MdiMonitor} :
    Eff.Within tables m (@mdiSet p f) := by
  unfold mdiSet
  exact (Within.upd (hm.parts' [.faults] (by decide +kernel)))

theorem mdiResume_within {m : Mask}
    (hm : Mask.Le ⟨0xd280, 0x300000000020000000, 0x100000000000000000000000000000⟩ m) {p : Nat} :
    Eff.Within tables m (@mdiResume p) := by
  unfold mdiResume
  exact (Within.whenS (segmentListen_within (hm.via rfl rfl rfl)))

theorem mdiDeclare_within {m : Mask}
    (hm : Mask.Le ⟨0x2988fea0, 0x19e0020000000000000000000000018007360040001020000010, 0x200020000000000000000000100001f100000000000000060800008000100⟩ m) {p : Nat} {c : Nat} :
    Eff.Within tables m (@mdiDeclare p c) := by
  unfold mdiDeclare
  exact (Within.cons (mdiSet_within (hm.via rfl rfl rfl)) (Within.cons (Within.setN (hm.obj (by decide +kernel))) (Within.cons
    (Within.look (fun _ => (Within.setN (hm.obj (by decide +kernel))))) (Within.cons (faultEvent_within (hm.via rfl rfl rfl))
    (Within.cons (Within.when (Within.cons (endTransmission_within (hm.via rfl rfl rfl)) (Within.cons (linkDrops_within
    (hm.via rfl rfl rfl)) (Within.cons (linkUnsecures_within (hm.via rfl rfl rfl)) Within.nil)))) Within.nil)))))

theorem mdiClear_within {m : Mask}
    (hm : Mask.Le ⟨0x100d280, 0x1800000000000000000000000000000000300000000020000000, 0x100000000000000000000000000000⟩ m) {p : Nat} {c : Nat} :
    Eff.Within tables m (@mdiClear p c) := by
  unfold mdiClear
  exact (Within.cons (mdiSet_within (hm.via rfl rfl rfl)) (Within.cons (Within.look (fun _ => (Within.seq (Within.setN
    (hm.obj (by decide +kernel))) (Within.setN (hm.obj (by decide +kernel)))))) (Within.cons (raise_within
    (hm.via rfl rfl rfl)) (Within.cons (Within.when (mdiResume_within (hm.via rfl rfl rfl))) Within.nil))))

theorem mdiCondition_within {m : Mask}
    (hm : Mask.Le ⟨0x2988fea0, 0x19e0020000000000000000000000018007360040001020000010, 0x200020000000000000000000100001f100000000000000060800008000100⟩ m) {p : Nat} {c : Nat} {met : Bool} :
    Eff.Within tables m (@mdiCondition p c met) := by
  unfold mdiCondition
  exact (Within.look (fun _ => (Within.seq (mdiSet_within (hm.via rfl rfl rfl)) (Within.ite (mdiDeclare_within
    (hm.via rfl rfl rfl)) (Within.when (mdiClear_within (hm.via rfl rfl rfl)))))))

theorem mdiSampled_within {m : Mask}
    (hm : Mask.Le ⟨0x2988fea0, 0xf9e0020000000000000000000000018007360040001020000010, 0x200020000000000000000000100001f100000000000000060800008000100⟩ m) {p : Nat} {wireP : Int} {wireN : Int} {resistance : Nat} {currentP : Nat} {currentN : Nat} :
    Eff.Within tables m (@mdiSampled p wireP wireN resistance currentP currentN) := by
  unfold mdiSampled
  exact (Within.when (Within.cons (Within.setObj (hm.obj (by decide +kernel))) (Within.cons (Within.setObj
    (hm.obj (by decide +kernel))) (Within.cons (Within.setN (hm.obj (by decide +kernel))) (Within.cons (Within.whenS
    (Within.forEach (fun _ => (mdiCondition_within (hm.via rfl rfl rfl))))) Within.nil)))))

theorem polarity_within {m : Mask}
    (hm : Mask.Le ⟨0x2988f6a0, 0x101e0020000000000000000000000018007360000001020000010, 0x200020000000000000000000000001f100000000000000060800048000100⟩ m) {p : Nat} :
    Eff.Within tables m (@polarity p) := by
  unfold polarity
  exact (Within.look (fun _ => (Within.ite Within.skip (Within.ite (Within.cons (Within.look (fun _ => (Within.setB
    (hm.obj (by decide +kernel))))) (Within.cons (Within.count (Ctr.port (hm.ctr (by decide +kernel)))) (Within.cons
    (faultEvent_within (hm.via rfl rfl rfl)) Within.nil))) (raise_within (hm.via rfl rfl rfl))))))

theorem tdrStart_within {m : Mask} (hm : Mask.Le ⟨0x1000000, 0x0, 0x0⟩ m) {p : Nat} :
    Eff.Within tables m (@tdrStart p) := by
  unfold tdrStart
  exact (Within.upd (hm.parts' [.faults] (by decide +kernel)))

theorem tdrEnds_within {m : Mask}
    (hm : Mask.Le ⟨0x1000080, 0xe0000000000000000000000000000000000000000000000000000, 0x100000000000000000000000000000⟩ m) {kind : Nat} {distance : Nat} :
    Eff.Within tables m (@tdrEnds kind distance) := by
  unfold tdrEnds
  exact (Within.look (fun _ =>
    (by (try dsimp only); split; exacts [(Within.cons (Within.upd (hm.parts' [.faults] (by decide +kernel))) (Within.cons (Within.setN (hm.obj (by decide +kernel))) (Within.cons (Within.setN (hm.obj (by decide +kernel))) (Within.cons (Within.setN (hm.obj (by decide +kernel))) (Within.cons (raise_within (hm.via rfl rfl rfl)) Within.nil))))),
    Within.skip])))

theorem corrected_within {m : Mask} (hm : Mask.Le ⟨0x4000000, 0x0, 0x0⟩ m) :
    Eff.Within tables m corrected := by
  unfold corrected
  exact (Within.upd (hm.parts' [.canopy] (by decide +kernel)))

theorem twinFunctionFails_within {m : Mask}
    (hm : Mask.Le ⟨0x10080080, 0x20000000000000000000000000000000000000000000000, 0x100000000000000000000000000000⟩ m) :
    Eff.Within tables m twinFunctionFails := by
  unfold twinFunctionFails
  exact (Within.whenS (withFree_within (hm.via rfl rfl rfl) (fun _ => (Within.when (failOver_within (hm.via rfl rfl rfl))))))

theorem memoryFails_within {m : Mask}
    (hm : Mask.Le ⟨0x3d88f6a0, 0x1e0020000000000000000000000018007360000001020000010, 0x200020000000000000000000000001f100000000000000261800008000100⟩ m) {place : MemoryPlace} {correctable : Bool} :
    Eff.Within tables m (@memoryFails place correctable) := by
  unfold memoryFails
  exact
    (by (try dsimp only); split; exacts [(Within.when (Within.ite (Within.cons (Within.count (Ctr.anyGrove (hm.ctr (by decide +kernel)))) (Within.cons (corrected_within (hm.via rfl rfl rfl)) (Within.cons (faultEvent_within (hm.via rfl rfl rfl)) Within.nil))) (Within.seq (Within.count (Ctr.grove (hm.ctr (by decide +kernel)))) (faultEvent_within (hm.via rfl rfl rfl))))),
    (Within.ite (Within.seq (corrected_within (hm.via rfl rfl rfl)) (faultEvent_within (hm.via rfl rfl rfl))) (Within.seq (faultEvent_within (hm.via rfl rfl rfl)) (twinFunctionFails_within (hm.via rfl rfl rfl))))])

theorem readVbn_within {m : Mask}
    (hm : Mask.Le ⟨0x0, 0xd00000000000000000000000000000000000000000000000000000, 0x0⟩ m) {v : Nat} :
    Eff.Within tables m (@readVbn v) := by
  unfold readVbn
  exact (Within.look (fun _ => (Within.cons (Within.setN (hm.obj (by decide +kernel))) (Within.cons (Within.when (Within.setN
    (hm.obj (by decide +kernel)))) (Within.cons (Within.when (Within.setN (hm.obj (by decide +kernel)))) Within.nil)))))

theorem setSupplyWarning_within {m : Mask}
    (hm : Mask.Le ⟨0x8000000, 0x200000000000000000000000000000000000000000000000000000, 0x0⟩ m) {on : Bool} :
    Eff.Within tables m (@setSupplyWarning on) := by
  unfold setSupplyWarning
  exact (Within.seq (Within.upd (hm.parts' [.power] (by decide +kernel))) (Within.whenS (Within.setN
    (hm.obj (by decide +kernel)))))

theorem supplyWarns_within {m : Mask}
    (hm : Mask.Le ⟨0x2988f6a0, 0xf001e0020000000000000000000000018007360000001020000010, 0x200020000000000000000000000001f100000000000000060800008000100⟩ m) {v : Nat} :
    Eff.Within tables m (@supplyWarns v) := by
  unfold supplyWarns
  exact (Within.seq (readVbn_within (hm.via rfl rfl rfl)) (Within.whenS (Within.seq (setSupplyWarning_within
    (hm.via rfl rfl rfl)) (faultEvent_within (hm.via rfl rfl rfl)))))

theorem supplyRecovers_within {m : Mask}
    (hm : Mask.Le ⟨0x8000080, 0xf00000000000000000000000000000000000000000000000000000, 0x100000000000000000000000000000⟩ m) {v : Nat} :
    Eff.Within tables m (@supplyRecovers v) := by
  unfold supplyRecovers
  exact (Within.seq (readVbn_within (hm.via rfl rfl rfl)) (Within.whenS (Within.seq (setSupplyWarning_within
    (hm.via rfl rfl rfl)) (raise_within (hm.via rfl rfl rfl)))))

theorem supplyOver_within {m : Mask}
    (hm : Mask.Le ⟨0x80, 0xf00000000000000000000000000000000000000000000000000000, 0x100000000000000000000000000000⟩ m) {v : Nat} :
    Eff.Within tables m (@supplyOver v) := by
  unfold supplyOver
  exact (Within.seq (readVbn_within (hm.via rfl rfl rfl)) (Within.whenS (Within.seq (Within.setN (hm.obj (by decide +kernel)))
    (raise_within (hm.via rfl rfl rfl)))))

theorem overvoltageOver_within {m : Mask}
    (hm : Mask.Le ⟨0x0, 0x200000000000000000000000000000000000000000000000000000, 0x0⟩ m) :
    Eff.Within tables m overvoltageOver := by
  unfold overvoltageOver
  exact (Within.whenS (Within.look (fun _ => (Within.setN (hm.obj (by decide +kernel))))))

theorem readSensor_within {m : Mask}
    (hm : Mask.Le ⟨0x0, 0x1000000000000000000000000000000000000000000000000000000, 0x0⟩ m) {sensor : Nat} {t : Int} :
    Eff.Within tables m (@readSensor sensor t) := by
  unfold readSensor
  exact (Within.when (Within.setObj (hm.objAny (by decide +kernel))))

theorem thermalWarns_within {m : Mask}
    (hm : Mask.Le ⟨0x2988f6a0, 0x30001e0020000000000000000000000018007360000001020000010, 0x200020000000000000000000000001f100000000000000060800008000100⟩ m) {sensor : Nat} {t : Int} :
    Eff.Within tables m (@thermalWarns sensor t) := by
  unfold thermalWarns
  exact (Within.seq (readSensor_within (hm.via rfl rfl rfl)) (Within.whenS (Within.seq (Within.setN (hm.obj (by decide +kernel)))
    (faultEvent_within (hm.via rfl rfl rfl)))))

theorem thermalThrottles_within {m : Mask}
    (hm : Mask.Le ⟨0x2988f6a0, 0x30001e0020000000000000000000000018007360000001020000010, 0x200020000000000000000000000001f100000000000000060800008000100⟩ m) {sensor : Nat} {t : Int} :
    Eff.Within tables m (@thermalThrottles sensor t) := by
  unfold thermalThrottles
  exact (Within.seq (thermalWarns_within (hm.via rfl rfl rfl)) (Within.whenS (Within.cons (Within.setN
    (hm.obj (by decide +kernel))) (Within.cons (Within.upd (hm.parts' [.power] (by decide +kernel))) (Within.cons (raise_within
    (hm.via rfl rfl rfl)) Within.nil)))))

theorem throttleEnds_within {m : Mask}
    (hm : Mask.Le ⟨0x8000000, 0x2000000000000000000000000000000000000000000000000000000, 0x0⟩ m) :
    Eff.Within tables m throttleEnds := by
  unfold throttleEnds
  exact (Within.whenS (Within.seq (Within.setN (hm.obj (by decide +kernel))) (Within.upd
    (hm.parts' [.power] (by decide +kernel)))))

theorem thermalNormal_within {m : Mask}
    (hm : Mask.Le ⟨0x8000080, 0x2000000000000000000000000000000000000000000000000000000, 0x100000000000000000000000000000⟩ m) {t : Int} :
    Eff.Within tables m (@thermalNormal t) := by
  unfold thermalNormal
  exact (Within.whenS (Within.cons (Within.setN (hm.obj (by decide +kernel))) (Within.cons (Within.upd
    (hm.parts' [.power] (by decide +kernel))) (Within.cons (raise_within (hm.via rfl rfl rfl)) Within.nil))))

theorem auxChanges_within {m : Mask} (hm : Mask.Le ⟨0x8000000, 0x0, 0x0⟩ m) {faulty : Bool} :
    Eff.Within tables m (@auxChanges faulty) := by
  unfold auxChanges
  exact (Within.look (fun _ => (Within.upd (hm.parts' [.power] (by decide +kernel)))))

theorem auxFault_within {m : Mask} (hm : Mask.Le ⟨0x8000080, 0x8000, 0x100000000000000000000000000000⟩ m) {cause : Nat} :
    Eff.Within tables m (@auxFault cause) := by
  unfold auxFault
  exact (Within.cons (auxChanges_within (hm.via rfl rfl rfl)) (Within.cons (Within.bumpObj (hm.obj (by decide +kernel)))
    (Within.cons (raise_within (hm.via rfl rfl rfl)) Within.nil)))

theorem auxOvercurrent_within {m : Mask} (hm : Mask.Le ⟨0xc000080, 0xc000, 0x100000000000000000000000000000⟩ m) :
    Eff.Within tables m auxOvercurrent := by
  unfold auxOvercurrent
  exact (Within.look (fun _ => (Within.ite (Within.when (Within.cons (Within.setN (hm.obj (by decide +kernel))) (Within.cons
    (Within.bumpObj (hm.obj (by decide +kernel))) (Within.cons (Within.upd
    (hm.parts' [.canopy] (by decide +kernel))) Within.nil)))) (Within.when (Within.seq (Within.setN
    (hm.obj (by decide +kernel))) (auxFault_within (hm.via rfl rfl rfl)))))))

theorem auxRetry_within {m : Mask} (hm : Mask.Le ⟨0x8000000, 0x4000, 0x0⟩ m) {ok : Bool} :
    Eff.Within tables m (@auxRetry ok) := by
  unfold auxRetry
  exact (Within.whenS (Within.seq (auxChanges_within (hm.via rfl rfl rfl)) (Within.when (Within.setN
    (hm.obj (by decide +kernel))))))

theorem auxUndervoltage_within {m : Mask} (hm : Mask.Le ⟨0x8000080, 0xc000, 0x100000000000000000000000000000⟩ m) :
    Eff.Within tables m auxUndervoltage := by
  unfold auxUndervoltage
  exact (Within.whenS (Within.seq (Within.setN (hm.obj (by decide +kernel))) (auxFault_within (hm.via rfl rfl rfl))))

theorem auxRecovered_within {m : Mask} (hm : Mask.Le ⟨0x8000080, 0x4000, 0x100000000000000000000000000000⟩ m) :
    Eff.Within tables m auxRecovered := by
  unfold auxRecovered
  exact (Within.whenS (Within.cons (auxChanges_within (hm.via rfl rfl rfl)) (Within.cons (Within.setN
    (hm.obj (by decide +kernel))) (Within.cons (raise_within (hm.via rfl rfl rfl)) Within.nil))))

theorem crystalTaken_within {m : Mask} (hm : Mask.Le ⟨0x0, 0x10000, 0x0⟩ m) :
    Eff.Within tables m crystalTaken := by
  unfold crystalTaken
  exact (Within.whenS (Within.setN (hm.obj (by decide +kernel))))

theorem crystalFails_within {m : Mask} (hm : Mask.Le ⟨0x0, 0x30000, 0x0⟩ m) :
    Eff.Within tables m crystalFails := by
  unfold crystalFails
  exact (Within.whenS (Within.seq (Within.setN (hm.obj (by decide +kernel))) (Within.bumpObj (hm.obj (by decide +kernel)))))

theorem lossesReported_within {m : Mask}
    (hm : Mask.Le ⟨0x80, 0x400000000000000000000000000000000000000000000000000, 0x100000000000000000000000000000⟩ m) :
    Eff.Within tables m lossesReported := by
  unfold lossesReported
  exact (Within.look (fun _ => (Within.when (Within.cons (Within.bumpObj (hm.obj (by decide +kernel))) (Within.cons (raise_within
    (hm.via rfl rfl rfl)) (Within.cons (Within.upd (hm.parts' [.events] (by decide +kernel))) Within.nil))))))

theorem execFaultBucketBoundary_effect {cls : Nat} {s : State} : ∃ e, @execFaultBucketBoundary cls s = done e s ∧ Eff.Within tables ⟨0x21000480, 0x40000000000000000000000000000000000000000000000000, 0x100000000000000000000000000000⟩ e :=
  have hm := Mask.Le.refl ⟨0x21000480, 0x40000000000000000000000000000000000000000000000000, 0x100000000000000000000000000000⟩
  ⟨_, rfl, (powered_within (hm.via rfl rfl rfl) (bucketBoundary_within (hm.via rfl rfl rfl)))⟩

theorem execMdiSample_effect {port : Nat} {wireP : Int} {wireN : Int} {resistance : Nat} {currentP : Nat} {currentN : Nat} {s : State} : ∃ e, @execMdiSample port wireP wireN resistance currentP currentN s = done e s ∧ Eff.Within tables ⟨0x2988fea0, 0xf9e0020000000000000000000000018007360040001020000010, 0x200020000000000000000000100001f100000000000000060800008000100⟩ e :=
  have hm := Mask.Le.refl ⟨0x2988fea0, 0xf9e0020000000000000000000000018007360040001020000010, 0x200020000000000000000000100001f100000000000000060800008000100⟩
  ⟨_, rfl, (operating_within (hm.via rfl rfl rfl) (mdiSampled_within (hm.via rfl rfl rfl)))⟩

theorem execPolarityCorrected_effect {port : Nat} {s : State} : ∃ e, @execPolarityCorrected port s = done e s ∧ Eff.Within tables ⟨0x2988f6a0, 0x101e0020000000000000000000000018007360000001020000010, 0x200020000000000000000000000001f100000000000000060800048000100⟩ e :=
  have hm := Mask.Le.refl ⟨0x2988f6a0, 0x101e0020000000000000000000000018007360000001020000010, 0x200020000000000000000000000001f100000000000000060800048000100⟩
  ⟨_, rfl, (operating_within (hm.via rfl rfl rfl) (polarity_within (hm.via rfl rfl rfl)))⟩

theorem execTdrComplete_effect {kind : Nat} {distance : Nat} {s : State} : ∃ e, @execTdrComplete kind distance s = done e s ∧ Eff.Within tables ⟨0x1000080, 0xe0000000000000000000000000000000000000000000000000000, 0x100000000000000000000000000000⟩ e :=
  have hm := Mask.Le.refl ⟨0x1000080, 0xe0000000000000000000000000000000000000000000000000000, 0x100000000000000000000000000000⟩
  ⟨_, rfl, (operating_within (hm.via rfl rfl rfl) (tdrEnds_within (hm.via rfl rfl rfl)))⟩

theorem execMemoryError_effect {place : MemoryPlace} {correctable : Bool} {s : State} : ∃ e, @execMemoryError place correctable s = done e s ∧ Eff.Within tables ⟨0x3d88f6a0, 0x1e0020000000000000000000000018007360000001020000010, 0x200020000000000000000000000001f100000000000000261800008000100⟩ e :=
  have hm := Mask.Le.refl ⟨0x3d88f6a0, 0x1e0020000000000000000000000018007360000001020000010, 0x200020000000000000000000000001f100000000000000261800008000100⟩
  ⟨_, rfl, (powered_within (hm.via rfl rfl rfl) (memoryFails_within (hm.via rfl rfl rfl)))⟩

theorem execSupplyWarning_effect {vbn : Nat} {s : State} : ∃ e, @execSupplyWarning vbn s = done e s ∧ Eff.Within tables ⟨0x2988f6a0, 0xf001e0020000000000000000000000018007360000001020000010, 0x200020000000000000000000000001f100000000000000060800008000100⟩ e :=
  have hm := Mask.Le.refl ⟨0x2988f6a0, 0xf001e0020000000000000000000000018007360000001020000010, 0x200020000000000000000000000001f100000000000000060800008000100⟩
  ⟨_, rfl, (powered_within (hm.via rfl rfl rfl) (supplyWarns_within (hm.via rfl rfl rfl)))⟩

theorem execSupplyRecovered_effect {vbn : Nat} {s : State} : ∃ e, @execSupplyRecovered vbn s = done e s ∧ Eff.Within tables ⟨0x8000080, 0xf00000000000000000000000000000000000000000000000000000, 0x100000000000000000000000000000⟩ e :=
  have hm := Mask.Le.refl ⟨0x8000080, 0xf00000000000000000000000000000000000000000000000000000, 0x100000000000000000000000000000⟩
  ⟨_, rfl, (powered_within (hm.via rfl rfl rfl) (supplyRecovers_within (hm.via rfl rfl rfl)))⟩

theorem execSupplyOvervoltage_effect {vbn : Nat} {s : State} : ∃ e, @execSupplyOvervoltage vbn s = done e s ∧ Eff.Within tables ⟨0x80, 0xf00000000000000000000000000000000000000000000000000000, 0x100000000000000000000000000000⟩ e :=
  have hm := Mask.Le.refl ⟨0x80, 0xf00000000000000000000000000000000000000000000000000000, 0x100000000000000000000000000000⟩
  ⟨_, rfl, (powered_within (hm.via rfl rfl rfl) (supplyOver_within (hm.via rfl rfl rfl)))⟩

theorem execOvervoltageEnded_effect {s : State} : ∃ e, @execOvervoltageEnded s = done e s ∧ Eff.Within tables ⟨0x0, 0x200000000000000000000000000000000000000000000000000000, 0x0⟩ e :=
  have hm := Mask.Le.refl ⟨0x0, 0x200000000000000000000000000000000000000000000000000000, 0x0⟩
  ⟨_, rfl, (powered_within (hm.via rfl rfl rfl) (overvoltageOver_within (hm.via rfl rfl rfl)))⟩

theorem execThermalWarning_effect {sensor : Nat} {temperature : Int} {s : State} : ∃ e, @execThermalWarning sensor temperature s = done e s ∧ Eff.Within tables ⟨0x2988f6a0, 0x30001e0020000000000000000000000018007360000001020000010, 0x200020000000000000000000000001f100000000000000060800008000100⟩ e :=
  have hm := Mask.Le.refl ⟨0x2988f6a0, 0x30001e0020000000000000000000000018007360000001020000010, 0x200020000000000000000000000001f100000000000000060800008000100⟩
  ⟨_, rfl, (powered_within (hm.via rfl rfl rfl) (thermalWarns_within (hm.via rfl rfl rfl)))⟩

theorem execThermalThrottle_effect {sensor : Nat} {temperature : Int} {s : State} : ∃ e, @execThermalThrottle sensor temperature s = done e s ∧ Eff.Within tables ⟨0x2988f6a0, 0x30001e0020000000000000000000000018007360000001020000010, 0x200020000000000000000000000001f100000000000000060800008000100⟩ e :=
  have hm := Mask.Le.refl ⟨0x2988f6a0, 0x30001e0020000000000000000000000018007360000001020000010, 0x200020000000000000000000000001f100000000000000060800008000100⟩
  ⟨_, rfl, (powered_within (hm.via rfl rfl rfl) (thermalThrottles_within (hm.via rfl rfl rfl)))⟩

theorem execThermalThrottleEnd_effect {s : State} : ∃ e, @execThermalThrottleEnd s = done e s ∧ Eff.Within tables ⟨0x8000000, 0x2000000000000000000000000000000000000000000000000000000, 0x0⟩ e :=
  have hm := Mask.Le.refl ⟨0x8000000, 0x2000000000000000000000000000000000000000000000000000000, 0x0⟩
  ⟨_, rfl, (powered_within (hm.via rfl rfl rfl) (throttleEnds_within (hm.via rfl rfl rfl)))⟩

theorem execAux3v3Overcurrent_effect {s : State} : ∃ e, @execAux3v3Overcurrent s = done e s ∧ Eff.Within tables ⟨0xc000080, 0xc000, 0x100000000000000000000000000000⟩ e :=
  have hm := Mask.Le.refl ⟨0xc000080, 0xc000, 0x100000000000000000000000000000⟩
  ⟨_, rfl, (auxOvercurrent_within (hm.via rfl rfl rfl))⟩

theorem execAux3v3Retry_effect {ok : Bool} {s : State} : ∃ e, @execAux3v3Retry ok s = done e s ∧ Eff.Within tables ⟨0x8000000, 0x4000, 0x0⟩ e :=
  have hm := Mask.Le.refl ⟨0x8000000, 0x4000, 0x0⟩
  ⟨_, rfl, (powered_within (hm.via rfl rfl rfl) (auxRetry_within (hm.via rfl rfl rfl)))⟩

theorem execAux3v3Undervoltage_effect {s : State} : ∃ e, @execAux3v3Undervoltage s = done e s ∧ Eff.Within tables ⟨0x8000080, 0xc000, 0x100000000000000000000000000000⟩ e :=
  have hm := Mask.Le.refl ⟨0x8000080, 0xc000, 0x100000000000000000000000000000⟩
  ⟨_, rfl, (powered_within (hm.via rfl rfl rfl) (auxUndervoltage_within (hm.via rfl rfl rfl)))⟩

theorem execAux3v3Recovered_effect {s : State} : ∃ e, @execAux3v3Recovered s = done e s ∧ Eff.Within tables ⟨0x8000080, 0x4000, 0x100000000000000000000000000000⟩ e :=
  have hm := Mask.Le.refl ⟨0x8000080, 0x4000, 0x100000000000000000000000000000⟩
  ⟨_, rfl, (powered_within (hm.via rfl rfl rfl) (auxRecovered_within (hm.via rfl rfl rfl)))⟩

theorem execCanopyCrystalSwitch_effect {s : State} : ∃ e, @execCanopyCrystalSwitch s = done e s ∧ Eff.Within tables ⟨0x0, 0x10000, 0x0⟩ e :=
  have hm := Mask.Le.refl ⟨0x0, 0x10000, 0x0⟩
  ⟨_, rfl, (crystalTaken_within (hm.via rfl rfl rfl))⟩

theorem execCanopyCrystalFailure_effect {s : State} : ∃ e, @execCanopyCrystalFailure s = done e s ∧ Eff.Within tables ⟨0x0, 0x30000, 0x0⟩ e :=
  have hm := Mask.Le.refl ⟨0x0, 0x30000, 0x0⟩
  ⟨_, rfl, (crystalFails_within (hm.via rfl rfl rfl))⟩

theorem execEventFifoRoom_effect {s : State} : ∃ e, @execEventFifoRoom s = done e s ∧ Eff.Within tables ⟨0x80, 0x400000000000000000000000000000000000000000000000000, 0x100000000000000000000000000000⟩ e :=
  have hm := Mask.Le.refl ⟨0x80, 0x400000000000000000000000000000000000000000000000000, 0x100000000000000000000000000000⟩
  ⟨_, rfl, (lossesReported_within (hm.via rfl rfl rfl))⟩

/-! ## Counter -/

theorem freezeItems_within {m : Mask} (hm : Mask.Le ⟨0x2000000, 0x0, 0x0⟩ m) :
    Eff.Within tables m freezeItems := by
  unfold freezeItems
  exact (Within.look (fun _ => (Within.upd (hm.parts' [.reader] (by decide +kernel)))))

theorem updateViews_within {m : Mask}
    (hm : Mask.Le ⟨0x2000000, 0x0, 0x8000000000000000000000000000000000000000000000000000000000000000⟩ m) {seq : Nat} :
    Eff.Within tables m (@updateViews seq) := by
  unfold updateViews
  exact (Within.look (fun _ => (Within.forEach (fun _ => (Within.seq (Within.upd (hm.parts' [.reader] (by decide +kernel)))
    (Within.count (hm.ctr (by decide +kernel))))))))

theorem startDump_within {m : Mask}
    (hm : Mask.Le ⟨0x22000080, 0x8000000000000000000000000000000000000000000000000000000, 0xc00000000000000000000030000000000100000000000000000000000000000⟩ m) {seq : Nat} :
    Eff.Within tables m (@startDump seq) := by
  unfold startDump
  exact (Within.look (fun _ => (Within.ite (Within.cons (Within.count (hm.ctr (by decide +kernel))) (Within.cons (raise_within
    (hm.via rfl rfl rfl)) (Within.cons (Within.upd (hm.parts' [.reader] (by decide +kernel))) Within.nil))) (Within.ite
    (Within.cons (Within.count (hm.ctr (by decide +kernel))) (Within.cons (raiseOncePerSecond_within (hm.via rfl rfl rfl)
    (raise_within (hm.via rfl rfl rfl))) (Within.cons (Within.upd (hm.parts' [.reader] (by decide +kernel))) Within.nil)))
    (Within.cons (hostWrite_within (hm.via rfl rfl rfl)) (Within.cons (hostWrite_within (hm.via rfl rfl rfl)) (Within.cons
    (Within.setN (hm.obj (by decide +kernel))) (Within.cons (Within.upd
    (hm.parts' [.reader] (by decide +kernel))) Within.nil))))))))

theorem snapshot_within {m : Mask}
    (hm : Mask.Le ⟨0x22000080, 0xc000000000000000000000000000000000000000000000000000000, 0x8c80000000000000000000030000000000100000000000000000000000000000⟩ m) :
    Eff.Within tables m snapshot := by
  unfold snapshot
  exact (Within.look (fun _ => (Within.when (Within.cons (updateViews_within (hm.via rfl rfl rfl)) (Within.cons (startDump_within
    (hm.via rfl rfl rfl)) (Within.cons (Within.setN (hm.obj (by decide +kernel))) (Within.cons (Within.count
    (hm.ctr (by decide +kernel))) (Within.cons (Within.upd (hm.parts' [.reader] (by decide +kernel))) Within.nil))))))))

theorem dumpEnds_within {m : Mask}
    (hm : Mask.Le ⟨0x22000000, 0x0, 0x1200000000000000000000030000000000000000000000000000000000000000⟩ m) :
    Eff.Within tables m dumpEnds := by
  unfold dumpEnds
  exact (Within.look (fun _ =>
    (by (try dsimp only); split; exacts [(Within.cons (hostWrite_within (hm.via rfl rfl rfl)) (Within.cons (Within.count (hm.ctr (by decide +kernel))) (Within.cons (Within.countN (hm.ctr (by decide +kernel))) (Within.cons (Within.upd (hm.parts' [.reader] (by decide +kernel))) Within.nil)))),
    Within.skip])))

theorem thresholdsEnd_within {m : Mask}
    (hm : Mask.Le ⟨0x2080, 0x0, 0x100000000000000000000000000000000100000000000000000000000000000⟩ m) :
    Eff.Within tables m thresholdsEnd := by
  unfold thresholdsEnd
  exact (Within.look (fun _ => (Within.seq (Within.forEach (fun _ => (Within.seq (Within.count (Ctr.anyReader
    (hm.ctr (by decide +kernel)))) (Within.when (raise_within (hm.via rfl rfl rfl)))))) (Within.upd
    (hm.parts' [.traffic] (by decide +kernel))))))

theorem thresholdRestarts_within {m : Mask} (hm : Mask.Le ⟨0x2000, 0x0, 0x0⟩ m) {i : Nat} :
    Eff.Within tables m (@thresholdRestarts i) := by
  unfold thresholdRestarts
  exact (Within.upd (hm.parts' [.traffic] (by decide +kernel)))

theorem histogramClears_within {m : Mask}
    (hm : Mask.Le ⟨0x0, 0x40000000000000000000000000000000000000000000000000000000, 0x10000000000000000000000000000000000000000000000000000000000000000⟩ m) {h : Nat} :
    Eff.Within tables m (@histogramClears h) := by
  unfold histogramClears
  exact (Within.seq (Within.forEach (fun _ => (Within.clearBin (Ctr.hist (hm.ctr (by decide +kernel)))))) (Within.look (fun _ =>
    (Within.setN (hm.obj (by decide +kernel))))))

theorem execCounterSnapshot_effect {s : State} : ∃ e, @execCounterSnapshot s = done e s ∧ Eff.Within tables ⟨0x22000080, 0xc000000000000000000000000000000000000000000000000000000, 0x8c80000000000000000000030000000000100000000000000000000000000000⟩ e :=
  have hm := Mask.Le.refl ⟨0x22000080, 0xc000000000000000000000000000000000000000000000000000000, 0x8c80000000000000000000030000000000100000000000000000000000000000⟩
  ⟨_, rfl, (operating_within (hm.via rfl rfl rfl) (snapshot_within (hm.via rfl rfl rfl)))⟩

theorem execDumpComplete_effect {s : State} : ∃ e, @execDumpComplete s = done e s ∧ Eff.Within tables ⟨0x22000000, 0x0, 0x1200000000000000000000030000000000000000000000000000000000000000⟩ e :=
  have hm := Mask.Le.refl ⟨0x22000000, 0x0, 0x1200000000000000000000030000000000000000000000000000000000000000⟩
  ⟨_, rfl, (operating_within (hm.via rfl rfl rfl) (dumpEnds_within (hm.via rfl rfl rfl)))⟩

/-! ## Power -/

theorem reportPlan_within {m : Mask} (hm : Mask.Le ⟨0x84, 0x20, 0x110000000000000000000000000000⟩ m) {chan : Nat} {row : Nat} :
    Eff.Within tables m (@reportPlan chan row) := by
  unfold reportPlan
  exact (Within.look (fun _ => (Within.when (Within.cons (Within.upd (hm.parts' [.clampLog] (by decide +kernel))) (Within.cons
    (Within.bumpObj (hm.obj (by decide +kernel))) (Within.cons (Within.count (hm.ctr (by decide +kernel))) (Within.cons
    (raise_within (hm.via rfl rfl rfl)) Within.nil)))))))

theorem applyPolicies_within {m : Mask} (hm : Mask.Le ⟨0x2800e280, 0x0, 0x100000000000000060000000000000⟩ m) :
    Eff.Within tables m applyPolicies := by
  unfold applyPolicies
  exact (Within.forEach (fun _ => (Within.look (fun _ => (Within.ite (Within.seq (groveStops_within (hm.via rfl rfl rfl))
    (setGrove_within (hm.via rfl rfl rfl))) (Within.when (setGrove_within (hm.via rfl rfl rfl))))))))

theorem buildPlans_within {m : Mask} (hm : Mask.Le ⟨0x2800e284, 0x20, 0x110000000000000060000000000000⟩ m) {chan : Nat} :
    Eff.Within tables m (@buildPlans chan) := by
  unfold buildPlans
  exact (Within.seq (Within.forEach (fun _ => (reportPlan_within (hm.via rfl rfl rfl)))) (applyPolicies_within
    (hm.via rfl rfl rfl)))

theorem groveFallsIdle_within {m : Mask} (hm : Mask.Le ⟨0x8000080, 0x0, 0x100000000000000070000000000000⟩ m) {g : Nat} :
    Eff.Within tables m (@groveFallsIdle g) := by
  unfold groveFallsIdle
  exact (Within.look (fun _ => (Within.when (Within.seq (Within.count (Ctr.grove (hm.ctr (by decide +kernel)))) (setGrove_within
    (hm.via rfl rfl rfl))))))

theorem groveWakesOnTime_within {m : Mask} (hm : Mask.Le ⟨0x8000080, 0x0, 0x100000000000000062000000000000⟩ m) {g : Nat} :
    Eff.Within tables m (@groveWakesOnTime g) := by
  unfold groveWakesOnTime
  exact (Within.look (fun _ => (Within.when (Within.seq (Within.count (Ctr.grove (hm.ctr (by decide +kernel)))) (setGrove_within
    (hm.via rfl rfl rfl))))))

theorem setStage_within {m : Mask} (hm : Mask.Le ⟨0x8000000, 0x4, 0x0⟩ m) {n : Nat} :
    Eff.Within tables m (@setStage n) := by
  unfold setStage
  exact (Within.look (fun _ => (Within.seq (Within.upd (hm.parts' [.power] (by decide +kernel))) (Within.setN
    (hm.obj (by decide +kernel))))))

theorem faultBall_within {m : Mask} (hm : Mask.Le ⟨0x20000400, 0x0, 0x0⟩ m) {low : Bool} :
    Eff.Within tables m (@faultBall low) := by
  unfold faultBall
  exact (Within.whenS (Within.seq (Within.upd (hm.parts' [.pins] (by decide +kernel))) (emit_within (hm.via rfl rfl rfl))))

theorem restartDie_within {m : Mask} (hm : Mask.Le ⟨0xb9fffff, 0x0, 0x0⟩ m) :
    Eff.Within tables m restartDie := by
  unfold restartDie
  exact (Within.look (fun _ => (Within.seq (Within.upd (hm.parts' restartParts (by decide +kernel))) (Within.upd
    (hm.parts' [.pins] (by decide +kernel))))))

theorem enterStageOne_within {m : Mask}
    (hm : Mask.Le ⟨0x28400480, 0xc00000000000000000000000000000000000000c, 0x200000000000000000000000100000000000000000000000000000⟩ m) :
    Eff.Within tables m enterStageOne := by
  unfold enterStageOne
  exact (Within.cons (Within.upd (hm.parts' [.power] (by decide +kernel))) (Within.cons (setStage_within (hm.via rfl rfl rfl))
    (Within.cons (Within.look (fun _ => (Within.cons (Within.setN (hm.obj (by decide +kernel))) (Within.cons (Within.setB
    (hm.obj (by decide +kernel))) (Within.cons (Within.setB (hm.obj (by decide +kernel))) Within.nil))))) (Within.cons
    (flashSet_within (hm.via rfl rfl rfl)) (Within.cons (updateFaultPin_within (hm.via rfl rfl rfl)) Within.nil)))))

theorem resetToStageOne_within {m : Mask}
    (hm : Mask.Le ⟨0x2fdfffff, 0xc00000000000000000000000000000000000000c, 0x200000000000000000000000100000000000000000000000000000⟩ m) :
    Eff.Within tables m resetToStageOne := by
  unfold resetToStageOne
  exact (Within.look (fun _ => (Within.cons (Within.upd (hm.parts' [.canopy] (by decide +kernel))) (Within.cons
    (restartDie_within (hm.via rfl rfl rfl)) (Within.cons (enterStageOne_within (hm.via rfl rfl rfl)) Within.nil)))))

theorem perstAct_within {m : Mask}
    (hm : Mask.Le ⟨0x2007b480, 0x32000000000000000000000000000000000000000, 0x58000000050000000000100000000000000000000000000000⟩ m) {link : Nat} :
    Eff.Within tables m (@perstAct link) := by
  unfold perstAct
  exact (Within.look (fun _ => (Within.when (Within.cons (Within.forEach (fun _ => (clearFunction_within (hm.via rfl rfl rfl))))
    (Within.cons (Within.when (vfEnable_within (hm.via rfl rfl rfl))) (Within.cons (pcieLink_within
    (hm.via rfl rfl rfl)) Within.nil))))))

theorem stopStackPort_within {m : Mask}
    (hm : Mask.Le ⟨0x3988f6b8, 0x300001e002040000000000004000e002018007360000001020000010, 0x1601200020000000000000000000000001f108000000200000065800088000100⟩ m) {n : Nat} :
    Eff.Within tables m (@stopStackPort n) := by
  unfold stopStackPort
  exact (Within.whenS (Within.seq (stackUnlinked_within (hm.via rfl rfl rfl)) (faultEvent_within (hm.via rfl rfl rfl))))

theorem stopFunctions_within {m : Mask}
    (hm : Mask.Le ⟨0x3999feb8, 0x300001e002041e000c00e0004000e0020180073600010018204c0010, 0x160120003e000000001c06003800000001f108000300200000065944088000100⟩ m) :
    Eff.Within tables m stopFunctions := by
  unfold stopFunctions
  exact (Within.cons (Within.look (fun _ => (Within.forEach (fun _ => (portHalts_within (hm.via rfl rfl rfl)))))) (Within.cons
    (Within.forEach (fun _ => (stopStackPort_within (hm.via rfl rfl rfl)))) (Within.cons (Within.whenS (Within.seq
    (setRingState_within (hm.via rfl rfl rfl)) (sourceChanged_within (hm.via rfl rfl rfl)))) (Within.cons (Within.upd
    (hm.parts' [.ring] (by decide +kernel))) (Within.cons (abortTransactions_within (hm.via rfl rfl rfl)) Within.nil)))))

theorem goDormant_within {m : Mask} (hm : Mask.Le ⟨0x2f9fffff, 0x4000, 0x0⟩ m) :
    Eff.Within tables m goDormant := by
  unfold goDormant
  exact (Within.look (fun _ => (Within.cons (Within.upd (hm.parts' [.canopy] (by decide +kernel))) (Within.cons
    (restartDie_within (hm.via rfl rfl rfl)) (Within.cons (Within.upd (hm.parts' [.power] (by decide +kernel))) (Within.cons
    (Within.setN (hm.obj (by decide +kernel))) (Within.cons (faultBall_within (hm.via rfl rfl rfl)) Within.nil)))))))

theorem armWake_within {m : Mask} (hm : Mask.Le ⟨0x4000000, 0x0, 0x0⟩ m) :
    Eff.Within tables m armWake := by
  unfold armWake
  exact (Within.look (fun _ => (Within.upd (hm.parts' [.canopy] (by decide +kernel)))))

theorem idleEnters_within {m : Mask}
    (hm : Mask.Le ⟨0x3f9fffff, 0x300001e002041e000c00e0004000e0020180073600010018204c6010, 0x160120003e000000001c06003800000001f108000300200000065944088000100⟩ m) :
    Eff.Within tables m idleEnters := by
  unfold idleEnters
  exact (Within.look (fun _ => (Within.when (Within.cons (Within.when (stopFunctions_within (hm.via rfl rfl rfl))) (Within.cons
    (Within.when (Within.upd (hm.parts' [.canopy] (by decide +kernel)))) (Within.cons (Within.upd
    (hm.parts' [.power] (by decide +kernel))) (Within.cons (Within.setN (hm.obj (by decide +kernel))) (Within.cons (Within.when
    (goDormant_within (hm.via rfl rfl rfl))) Within.nil))))))))

theorem wakeSource_within {m : Mask}
    (hm : Mask.Le ⟨0x2c400480, 0xc00000000000000000000000000000000000400c, 0x200000000000000000000000100000000000000000000000000000⟩ m) {cause : Nat} {port : Nat} :
    Eff.Within tables m (@wakeSource cause port) := by
  unfold wakeSource
  exact (Within.look (fun _ =>
    (by (try dsimp only); split; exacts [(Within.when (Within.cons (Within.upd (hm.parts' [.canopy] (by decide +kernel))) (Within.cons (Within.when (Within.upd (hm.parts' [.pins] (by decide +kernel)))) (Within.cons (Within.setN (hm.obj (by decide +kernel))) (Within.cons (enterStageOne_within (hm.via rfl rfl rfl)) Within.nil))))),
    (Within.seq (Within.upd (hm.parts' [.power] (by decide +kernel))) (idleWake_within (hm.via rfl rfl rfl))),
    (Within.when (Within.seq (Within.upd (hm.parts' [.canopy] (by decide +kernel))) (Within.upd (hm.parts' [.power] (by decide +kernel))))),
    Within.skip])))

theorem wakesAt_within {m : Mask}
    (hm : Mask.Le ⟨0x2c400480, 0xc00000000000000000000000000000000000400c, 0x200000000000000000000000100000000000000000000000000000⟩ m) :
    Eff.Within tables m wakesAt := by
  unfold wakesAt
  exact (Within.whenS (Within.seq (Within.upd (hm.parts' [.canopy] (by decide +kernel))) (wakeSource_within
    (hm.via rfl rfl rfl))))

theorem portWakes_within {m : Mask}
    (hm : Mask.Le ⟨0x2c400480, 0xc00000000000000000000000000000000000400c, 0x200000000000000000000000100000000000000064000000000000⟩ m) {p : Nat} :
    Eff.Within tables m (@portWakes p) := by
  unfold portWakes
  exact (Within.when (Within.seq (Within.whenS (wakeSource_within (hm.via rfl rfl rfl))) (Within.whenS (wakeGrove_within
    (hm.via rfl rfl rfl)))))

theorem resumes_within {m : Mask}
    (hm : Mask.Le ⟨0x3805fa80, 0x1f00000000000000000060006300001000020002000, 0x3fe4070000000000100000000000000060000000000100⟩ m) :
    Eff.Within tables m resumes := by
  unfold resumes
  exact (Within.whenS (Within.cons (Within.upd (hm.parts' [.power] (by decide +kernel))) (Within.cons (Within.setN
    (hm.obj (by decide +kernel))) (Within.cons (Within.whenS (Within.seq (startListening_within (hm.via rfl rfl rfl))
    (setRingState_within (hm.via rfl rfl rfl)))) (Within.cons (Within.look (fun _ => (Within.forEach (fun _ => (Within.seq
    (portStart_within (hm.via rfl rfl rfl)) (gatesNow_within (hm.via rfl rfl rfl))))))) (Within.cons (applyPolicies_within
    (hm.via rfl rfl rfl)) (Within.cons (Within.look (fun _ => (Within.seq (Within.forEach (fun _ => (Within.seq
    (usePushes_within (hm.via rfl rfl rfl)) (fetchEntries_within (hm.via rfl rfl rfl))))) (Within.forEach (fun _ =>
    (fetchEntries_within (hm.via rfl rfl rfl))))))) Within.nil)))))))

theorem shutdown_within {m : Mask}
    (hm : Mask.Le ⟨0x2f9fffff, 0xa0000000000000000000000000000000000000000004000, 0x2000000000000000000000000000000100000000000000000000000000000⟩ m) {cause : Nat} {mark : PowerSide → PowerSide} :
    Eff.Within tables m (@shutdown cause mark) := by
  unfold shutdown
  exact (Within.look (fun _ => (Within.cons (Within.upd (hm.parts' [.canopy] (by decide +kernel))) (Within.cons (Within.when
    (Within.cons (faultBall_within (hm.via rfl rfl rfl)) (Within.cons (Within.forEach (fun _ => (Within.ofOption (fun _ =>
    (emit_within (hm.via rfl rfl rfl)))))) (Within.cons (Within.when (Within.cons (Within.setN (hm.obj (by decide +kernel)))
    (Within.cons (Within.setB (hm.obj (by decide +kernel))) (Within.cons (Within.look (fun _ => (sendStack_within
    (hm.via rfl rfl rfl)))) Within.nil)))) (Within.cons (goDormant_within (hm.via rfl rfl rfl)) Within.nil))))) (Within.cons
    (Within.setN (hm.obj (by decide +kernel))) (Within.cons (Within.upd
    (hm.parts' [.power] (by decide +kernel))) Within.nil))))))

theorem brownsOut_within {m : Mask}
    (hm : Mask.Le ⟨0x2f9fffff, 0xd000000a0000000000000000000000000000000000000000004000, 0x2000000000000000000000000000000100000000000000000000000000000⟩ m) {v : Nat} :
    Eff.Within tables m (@brownsOut v) := by
  unfold brownsOut
  exact (Within.whenS (Within.seq (readVbn_within (hm.via rfl rfl rfl)) (Within.look (fun _ => (Within.ite (Within.upd
    (hm.parts' [.power] (by decide +kernel))) (shutdown_within (hm.via rfl rfl rfl)))))))

theorem overheats_within {m : Mask}
    (hm : Mask.Le ⟨0x2f9fffff, 0xa0000000000000000000000000000000000000000004000, 0x2000000000000000000000000000000100000000000000000000000000000⟩ m) {sensor : Nat} {t : Int} :
    Eff.Within tables m (@overheats sensor t) := by
  unfold overheats
  exact (Within.whenS (Within.seq (Within.upd (hm.parts' [.canopy] (by decide +kernel))) (shutdown_within (hm.via rfl rfl rfl))))

theorem recoverSupply_within {m : Mask} (hm : Mask.Le ⟨0x2c000400, 0x4004, 0x0⟩ m) :
    Eff.Within tables m recoverSupply := by
  unfold recoverSupply
  exact (Within.whenS (Within.look (fun _ => (Within.cons (Within.upd (hm.parts' [.canopy] (by decide +kernel))) (Within.cons
    (Within.upd (hm.parts' [.power] (by decide +kernel))) (Within.cons (setStage_within (hm.via rfl rfl rfl)) (Within.cons
    (Within.setN (hm.obj (by decide +kernel))) (Within.cons (faultBall_within (hm.via rfl rfl rfl)) Within.nil))))))))

theorem brownOutEnds_within {m : Mask} (hm : Mask.Le ⟨0x2c000400, 0x4004, 0x0⟩ m) :
    Eff.Within tables m brownOutEnds := by
  unfold brownOutEnds
  exact (Within.whenS (Within.seq (Within.upd (hm.parts' [.power] (by decide +kernel))) (recoverSupply_within
    (hm.via rfl rfl rfl))))

theorem coolsDown_within {m : Mask}
    (hm : Mask.Le ⟨0x2c000480, 0x2000000000000000000000000000000000000000000000000004004, 0x100000000000000000000000000000⟩ m) {t : Int} :
    Eff.Within tables m (@coolsDown t) := by
  unfold coolsDown
  exact (Within.look (fun _ => (Within.ite Within.skip (Within.ite (Within.cons (Within.upd
    (hm.parts' [.power] (by decide +kernel))) (Within.cons (Within.upd (hm.parts' [.canopy] (by decide +kernel))) (Within.cons
    (recoverSupply_within (hm.via rfl rfl rfl)) Within.nil))) (Within.when (thermalNormal_within (hm.via rfl rfl rfl)))))))

theorem powersOn_within {m : Mask} (hm : Mask.Le ⟨0x2f9fffff, 0x0, 0x0⟩ m) :
    Eff.Within tables m powersOn := by
  unfold powersOn
  exact (Within.whenS (Within.cons (Within.upd (hm.parts' restartParts (by decide +kernel))) (Within.cons (Within.upd
    (hm.parts' [.canopy] (by decide +kernel))) (Within.cons (Within.upd (hm.parts' [.dict] (by decide +kernel))) (Within.cons
    (Within.upd (hm.parts' [.canopy] (by decide +kernel))) (Within.cons (Within.upd (hm.parts' [.power] (by decide +kernel)))
    (Within.cons (emit_within (hm.via rfl rfl rfl)) Within.nil)))))))

theorem canopyGone_within {m : Mask} (hm : Mask.Le ⟨0x2f9fffff, 0x0, 0x0⟩ m) :
    Eff.Within tables m canopyGone := by
  unfold canopyGone
  exact (Within.seq (faultBall_within (hm.via rfl rfl rfl)) (Within.cons (Within.upd
    (hm.parts' restartParts (by decide +kernel))) (Within.cons (Within.upd (hm.parts' [.canopy] (by decide +kernel)))
    (Within.cons (Within.upd (hm.parts' [.dict] (by decide +kernel))) (Within.cons (Within.upd
    (hm.parts' [.power] (by decide +kernel))) (Within.cons (Within.upd (hm.parts' [.pins] (by decide +kernel))) Within.nil))))))

theorem railsRise_within {m : Mask}
    (hm : Mask.Le ⟨0x28400480, 0xc00000000000000000000000000000000000000c, 0x200000000000000000000000100000000000000000000000000000⟩ m) {stkpos : Nat} {pcieMode : Bool} {sris : Bool} :
    Eff.Within tables m (@railsRise stkpos pcieMode sris) := by
  unfold railsRise
  exact (Within.whenS (Within.seq (Within.upd (hm.parts' [.power] (by decide +kernel))) (enterStageOne_within
    (hm.via rfl rfl rfl))))

theorem stageOneRuns_within {m : Mask}
    (hm : Mask.Le ⟨0x8e00080, 0x8000000000000000000000000000000000000000000000007, 0x200600000000000000000000100000000000000000000000000000⟩ m) :
    Eff.Within tables m stageOneRuns := by
  unfold stageOneRuns
  exact (Within.whenS (Within.seq (kilnBoots_within (hm.via rfl rfl rfl)) (Within.whenS (setStage_within (hm.via rfl rfl rfl)))))

theorem becomesOperational_within {m : Mask} (hm : Mask.Le ⟨0xc000080, 0x4, 0x100000000000000000000000000000⟩ m) :
    Eff.Within tables m becomesOperational := by
  unfold becomesOperational
  exact (Within.whenS (Within.seq (setStage_within (hm.via rfl rfl rfl)) (Within.look (fun _ => (Within.cons (Within.ite
    (raise_within (hm.via rfl rfl rfl)) (Within.when (raise_within (hm.via rfl rfl rfl)))) (Within.cons (Within.ofOption
    (fun _ => (raise_within (hm.via rfl rfl rfl)))) (Within.cons (Within.ofOption (fun _ => (raise_within
    (hm.via rfl rfl rfl)))) (Within.cons (Within.when (raise_within (hm.via rfl rfl rfl))) (Within.cons (Within.upd
    (hm.parts' [.canopy] (by decide +kernel))) Within.nil)))))))))

theorem execIdleEntry_effect {s : State} : ∃ e, @execIdleEntry s = done e s ∧ Eff.Within tables ⟨0x3f9fffff, 0x300001e002041e000c00e0004000e0020180073600010018204c6010, 0x160120003e000000001c06003800000001f108000300200000065944088000100⟩ e :=
  have hm := Mask.Le.refl ⟨0x3f9fffff, 0x300001e002041e000c00e0004000e0020180073600010018204c6010, 0x160120003e000000001c06003800000001f108000300200000065944088000100⟩
  ⟨_, rfl, (idleEnters_within (hm.via rfl rfl rfl))⟩

theorem execWakePin_effect {s : State} : ∃ e, @execWakePin s = done e s ∧ Eff.Within tables ⟨0x2c400480, 0xc00000000000000000000000000000000000400c, 0x200000000000000000000000100000000000000000000000000000⟩ e :=
  have hm := Mask.Le.refl ⟨0x2c400480, 0xc00000000000000000000000000000000000400c, 0x200000000000000000000000100000000000000000000000000000⟩
  ⟨_, rfl, (Within.whenS (wakeSource_within (hm.via rfl rfl rfl)))⟩

theorem execPortWakeActivity_effect {port : Nat} {s : State} : ∃ e, @execPortWakeActivity port s = done e s ∧ Eff.Within tables ⟨0x2c400480, 0xc00000000000000000000000000000000000400c, 0x200000000000000000000000100000000000000064000000000000⟩ e :=
  have hm := Mask.Le.refl ⟨0x2c400480, 0xc00000000000000000000000000000000000400c, 0x200000000000000000000000100000000000000064000000000000⟩
  ⟨_, rfl, (portWakes_within (hm.via rfl rfl rfl))⟩

theorem execWakeAt_effect {s : State} : ∃ e, @execWakeAt s = done e s ∧ Eff.Within tables ⟨0x2c400480, 0xc00000000000000000000000000000000000400c, 0x200000000000000000000000100000000000000000000000000000⟩ e :=
  have hm := Mask.Le.refl ⟨0x2c400480, 0xc00000000000000000000000000000000000400c, 0x200000000000000000000000100000000000000000000000000000⟩
  ⟨_, rfl, (wakesAt_within (hm.via rfl rfl rfl))⟩

theorem execGroveIdle_effect {grove : Nat} {s : State} : ∃ e, @execGroveIdle grove s = done e s ∧ Eff.Within tables ⟨0x8000080, 0x0, 0x100000000000000070000000000000⟩ e :=
  have hm := Mask.Le.refl ⟨0x8000080, 0x0, 0x100000000000000070000000000000⟩
  ⟨_, rfl, (operating_within (hm.via rfl rfl rfl) (groveFallsIdle_within (hm.via rfl rfl rfl)))⟩

theorem execGroveScheduledWake_effect {grove : Nat} {s : State} : ∃ e, @execGroveScheduledWake grove s = done e s ∧ Eff.Within tables ⟨0x8000080, 0x0, 0x100000000000000062000000000000⟩ e :=
  have hm := Mask.Le.refl ⟨0x8000080, 0x0, 0x100000000000000062000000000000⟩
  ⟨_, rfl, (operating_within (hm.via rfl rfl rfl) (groveWakesOnTime_within (hm.via rfl rfl rfl)))⟩

theorem execPowerOn_effect {s : State} : ∃ e, @execPowerOn s = done e s ∧ Eff.Within tables ⟨0x2f9fffff, 0x0, 0x0⟩ e :=
  have hm := Mask.Le.refl ⟨0x2f9fffff, 0x0, 0x0⟩
  ⟨_, rfl, (powersOn_within (hm.via rfl rfl rfl))⟩

theorem execRailsValid_effect {stkpos : Nat} {pcieMode : Bool} {sris : Bool} {s : State} : ∃ e, @execRailsValid stkpos pcieMode sris s = done e s ∧ Eff.Within tables ⟨0x28400480, 0xc00000000000000000000000000000000000000c, 0x200000000000000000000000100000000000000000000000000000⟩ e :=
  have hm := Mask.Le.refl ⟨0x28400480, 0xc00000000000000000000000000000000000000c, 0x200000000000000000000000100000000000000000000000000000⟩
  ⟨_, rfl, (railsRise_within (hm.via rfl rfl rfl))⟩

theorem execStageOneRunning_effect {s : State} : ∃ e, @execStageOneRunning s = done e s ∧ Eff.Within tables ⟨0x8e00080, 0x8000000000000000000000000000000000000000000000007, 0x200600000000000000000000100000000000000000000000000000⟩ e :=
  have hm := Mask.Le.refl ⟨0x8e00080, 0x8000000000000000000000000000000000000000000000007, 0x200600000000000000000000100000000000000000000000000000⟩
  ⟨_, rfl, (stageOneRuns_within (hm.via rfl rfl rfl))⟩

theorem execOperational_effect {s : State} : ∃ e, @execOperational s = done e s ∧ Eff.Within tables ⟨0xc000080, 0x4, 0x100000000000000000000000000000⟩ e :=
  have hm := Mask.Le.refl ⟨0xc000080, 0x4, 0x100000000000000000000000000000⟩
  ⟨_, rfl, (becomesOperational_within (hm.via rfl rfl rfl))⟩

theorem execResetn_effect {s : State} : ∃ e, @execResetn s = done e s ∧ Eff.Within tables ⟨0x2fdfffff, 0xc00000000000000000000000000000000000000c, 0x200000000000000000000000100000000000000000000000000000⟩ e :=
  have hm := Mask.Le.refl ⟨0x2fdfffff, 0xc00000000000000000000000000000000000000c, 0x200000000000000000000000100000000000000000000000000000⟩
  ⟨_, rfl, (Within.whenS (resetToStageOne_within (hm.via rfl rfl rfl)))⟩

theorem execModuleResetTimer_effect {s : State} : ∃ e, @execModuleResetTimer s = done e s ∧ Eff.Within tables ⟨0x2fdfffff, 0xc00000000000000000000000000000000000000c, 0x200000000000000000000000100000000000000000000000000000⟩ e :=
  have hm := Mask.Le.refl ⟨0x2fdfffff, 0xc00000000000000000000000000000000000000c, 0x200000000000000000000000100000000000000000000000000000⟩
  ⟨_, rfl, (Within.whenS (resetToStageOne_within (hm.via rfl rfl rfl)))⟩

theorem execPerst_effect {link : Nat} {s : State} : ∃ e, @execPerst link s = done e s ∧ Eff.Within tables ⟨0x2007b480, 0x32000000000000000000000000000000000000000, 0x58000000050000000000100000000000000000000000000000⟩ e :=
  have hm := Mask.Le.refl ⟨0x2007b480, 0x32000000000000000000000000000000000000000, 0x58000000050000000000100000000000000000000000000000⟩
  ⟨_, rfl, (powered_within (hm.via rfl rfl rfl) (perstAct_within (hm.via rfl rfl rfl)))⟩

theorem execCanopyLost_effect {s : State} : ∃ e, @execCanopyLost s = done e s ∧ Eff.Within tables ⟨0x2f9fffff, 0x0, 0x0⟩ e :=
  have hm := Mask.Le.refl ⟨0x2f9fffff, 0x0, 0x0⟩
  ⟨_, rfl, (canopyGone_within (hm.via rfl rfl rfl))⟩

theorem execActiveResumed_effect {s : State} : ∃ e, @execActiveResumed s = done e s ∧ Eff.Within tables ⟨0x3805fa80, 0x1f00000000000000000060006300001000020002000, 0x3fe4070000000000100000000000000060000000000100⟩ e :=
  have hm := Mask.Le.refl ⟨0x3805fa80, 0x1f00000000000000000060006300001000020002000, 0x3fe4070000000000100000000000000060000000000100⟩
  ⟨_, rfl, (resumes_within (hm.via rfl rfl rfl))⟩

theorem execBrownOut_effect {vbn : Nat} {s : State} : ∃ e, @execBrownOut vbn s = done e s ∧ Eff.Within tables ⟨0x2f9fffff, 0xd000000a0000000000000000000000000000000000000000004000, 0x2000000000000000000000000000000100000000000000000000000000000⟩ e :=
  have hm := Mask.Le.refl ⟨0x2f9fffff, 0xd000000a0000000000000000000000000000000000000000004000, 0x2000000000000000000000000000000100000000000000000000000000000⟩
  ⟨_, rfl, (brownsOut_within (hm.via rfl rfl rfl))⟩

theorem execBrownOutRecovered_effect {s : State} : ∃ e, @execBrownOutRecovered s = done e s ∧ Eff.Within tables ⟨0x2c000400, 0x4004, 0x0⟩ e :=
  have hm := Mask.Le.refl ⟨0x2c000400, 0x4004, 0x0⟩
  ⟨_, rfl, (brownOutEnds_within (hm.via rfl rfl rfl))⟩

theorem execThermalShutdown_effect {sensor : Nat} {temperature : Int} {s : State} : ∃ e, @execThermalShutdown sensor temperature s = done e s ∧ Eff.Within tables ⟨0x2f9fffff, 0xa0000000000000000000000000000000000000000004000, 0x2000000000000000000000000000000100000000000000000000000000000⟩ e :=
  have hm := Mask.Le.refl ⟨0x2f9fffff, 0xa0000000000000000000000000000000000000000004000, 0x2000000000000000000000000000000100000000000000000000000000000⟩
  ⟨_, rfl, (overheats_within (hm.via rfl rfl rfl))⟩

theorem execThermalNormal_effect {temperature : Int} {s : State} : ∃ e, @execThermalNormal temperature s = done e s ∧ Eff.Within tables ⟨0x2c000480, 0x2000000000000000000000000000000000000000000000000004004, 0x100000000000000000000000000000⟩ e :=
  have hm := Mask.Le.refl ⟨0x2c000480, 0x2000000000000000000000000000000000000000000000000004004, 0x100000000000000000000000000000⟩
  ⟨_, rfl, (coolsDown_within (hm.via rfl rfl rfl))⟩

end Sys2Proof.Machine
end

