-- ==== Sys2Proof/Laws/WithinServe.lean ====
section
/-! SUPPORT. Frame lemmas: every update that an effect of Machine/Constrain.lean, Machine/Apply.lean, Machine/Serve.lean, Machine/Message.lean can issue
lies in a mask. -/

namespace Sys2Proof.Machine

set_option Elab.async false
set_option linter.unusedTactic false
set_option linter.unusedVariables false

/-! ## Constrain -/

theorem noteClamp_within {m : Mask}
    (hm : Mask.Le ⟨0x84, 0x20, 0x110000000000000000000000000000⟩ m) {k : Key} {code : Nat} {reason : Nat} {requested : Int} {applied : Int} :
    Eff.Within tables m (@noteClamp k code reason requested applied) := by
  unfold noteClamp
  exact (Within.look (fun _ => (Within.cons (Within.upd (hm.parts' [.clampLog] (by decide +kernel))) (Within.cons (Within.bumpObj
    (hm.obj (by decide +kernel))) (Within.cons (Within.count (hm.ctr (by decide +kernel))) (Within.cons (raise_within
    (hm.via rfl rfl rfl)) Within.nil))))))

theorem creditsUpTo_within {m : Mask} (hm : Mask.Le ⟨0x2000, 0x0, 0x0⟩ m) {k : Key} :
    Eff.Within tables m (@creditsUpTo k) := by
  unfold creditsUpTo
  exact (Within.cons (Within.when (touchShaper_within (hm.via rfl rfl rfl))) (Within.cons (Within.when (touchShapers_within
    (hm.via rfl rfl rfl))) (Within.cons (Within.when (ringRateTouch_within (hm.via rfl rfl rfl))) Within.nil)))

theorem applyFixes_within {m : Mask}
    (hm : Mask.Le ⟨0x2085, 0xa0, 0x110000000000000000000000000000⟩ m) {code : Nat} {atCommit : Bool} {l : List
    (Key × Int × Nat)} :
    Eff.Within tables m (@applyFixes code atCommit l) := by
  unfold applyFixes
  exact (Within.forEach (fun _ => (Within.look (fun _ => (Within.cons (noteClamp_within (hm.via rfl rfl rfl)) (Within.cons
    (creditsUpTo_within (hm.via rfl rfl rfl)) (Within.cons (Within.upd (Or.inl (hm.has rfl))) (Within.cons (Within.when
    (Within.bumpObj (hm.obj (by decide +kernel)))) Within.nil))))))))

theorem checkDependents_within {m : Mask} (hm : Mask.Le ⟨0x2085, 0xa0, 0x110000000000000000000000000000⟩ m) {code0 : Bool} {n : Nat} {l ch : Changes} {go : Changes → Eff}
    (h_go : ∀ y, Eff.Within tables m (go y)) :
    Eff.Within tables m (checkDependents code0 n l ch go) := by
  induction n generalizing l ch with
  | zero => unfold checkDependents; exact h_go _
  | succ n ih =>
    cases l with
    | nil => unfold checkDependents; exact h_go _
    | cons k ks =>
      unfold checkDependents
      exact Within.look fun _ => Within.seq (applyFixes_within (hm.via rfl rfl rfl)) (Within.look fun _ => ih)

/-! ## Apply -/

theorem holdSegment_within {m : Mask} (hm : Mask.Le ⟨0x1000, 0x1200000000000000000, 0x0⟩ m) {before : State} {p : Nat} :
    Eff.Within tables m (@holdSegment before p) := by
  unfold holdSegment
  exact (Within.whenS (Within.look (fun _ => (Within.ite (Within.seq (segSet_within (hm.via rfl rfl rfl)) (Within.setPort
    (hm.obj (by decide +kernel)))) (Within.setPort (hm.obj (by decide +kernel)))))))

theorem twinEnableFollows_within {m : Mask}
    (hm : Mask.Le ⟨0x80, 0xa0000000000000000000000000000000000000000000000, 0x100000000000000000000000000000⟩ m) :
    Eff.Within tables m twinEnableFollows := by
  unfold twinEnableFollows
  exact (Within.look (fun _ => (Within.ite (setTwinState_within (hm.via rfl rfl rfl)) (Within.seq (setTwinState_within
    (hm.via rfl rfl rfl)) (Within.setN (hm.obj (by decide +kernel)))))))

theorem functionsFollow_within {m : Mask}
    (hm : Mask.Le ⟨0x3f99feb0, 0x700001e00a001e000c00e0004000e6120780073600202018204d4010, 0x160020003e000880001c06003800000001f100000300200000065944088000100⟩ m) {before : State} {written : List Key} {diff : List Key} :
    Eff.Within tables m (@functionsFollow before written diff) := by
  unfold functionsFollow
  exact (Within.look (fun _ => (Within.cons (Within.when (sourceChanged_within (hm.via rfl rfl rfl))) (Within.cons
    (Within.forEach (fun _ => (armPulses_within (hm.via rfl rfl rfl)))) (Within.cons (Within.when (showRoles_within
    (hm.via rfl rfl rfl))) (Within.cons (Within.when (Within.setN (hm.obj (by decide +kernel)))) (Within.cons (Within.forEach
    (fun _ => (holdSegment_within (hm.via rfl rfl rfl)))) (Within.cons (Within.forEach (fun _ => (Within.whenS
    (presenceEnds_within (hm.via rfl rfl rfl))))) (Within.cons (Within.forEach (fun _ => (preemptionCommit_within
    (hm.via rfl rfl rfl)))) (Within.cons (Within.forEach (fun _ => (gateCommit_within (hm.via rfl rfl rfl)))) (Within.cons
    (Within.forEach (fun _ => (shaperCommit_within (hm.via rfl rfl rfl)))) (Within.cons (Within.forEach (fun _ =>
    (generatorStarts_within (hm.via rfl rfl rfl)))) (Within.cons (Within.forEach (fun _ => (meterCommit_within
    (hm.via rfl rfl rfl)))) (Within.cons (Within.forEach (fun _ => (ringRateChanged_within (hm.via rfl rfl rfl)))) (Within.cons
    (Within.forEach (fun _ => (Within.seq (Within.forEach (fun _ => (checkRestarts_within (hm.via rfl rfl rfl))))
    (Within.forEach (fun _ => (abortTransaction_within (hm.via rfl rfl rfl))))))) (Within.cons (Within.when (Within.forEach
    (fun _ => (baseWatch_within (hm.via rfl rfl rfl))))) (Within.cons (Within.when (Within.seq (Within.setN
    (hm.obj (by decide +kernel))) (ringDisableAct_within (hm.via rfl rfl rfl)))) (Within.cons (Within.when
    (twinEnableFollows_within (hm.via rfl rfl rfl))) (Within.cons (Within.when (rankFollows_within (hm.via rfl rfl rfl)))
    (Within.cons (Within.forEach (fun _ => (macsecFollows_within (hm.via rfl rfl rfl)))) (Within.cons (Within.forEach (fun _ =>
    (windowChanged_within (hm.via rfl rfl rfl)))) (Within.cons (Within.when (updateFaultPin_within (hm.via rfl rfl rfl)))
    (Within.cons (Within.when (Within.upd (hm.parts' [.reader] (by decide +kernel)))) (Within.cons (Within.when (Within.upd
    (hm.parts' [.reader] (by decide +kernel)))) (Within.cons (Within.forEach (fun _ => (histogramClears_within
    (hm.via rfl rfl rfl)))) (Within.cons (Within.forEach (fun _ => (thresholdRestarts_within (hm.via rfl rfl rfl))))
    (Within.cons (Within.when (armWake_within (hm.via rfl rfl rfl))) (Within.cons (Within.when (Within.setN
    (hm.obj (by decide +kernel)))) (Within.cons (Within.when (Within.setN
    (hm.obj (by decide +kernel)))) Within.nil)))))))))))))))))))))))))))))

theorem takeEffect_within {m : Mask}
    (hm : Mask.Le ⟨0x3f99feb5, 0x700001e00a001e000c00e0004000e6120780073600202018204d40b0, 0x160020003e000880001c06003800000001f110000300200000065944088000100⟩ m) {atCommit : Bool} {ws : List StagedWrite} {go : Changes → Eff}
    (h_go : ∀ y0, Eff.Within tables m (go y0)) :
    Eff.Within tables m (@takeEffect atCommit ws go) := by
  unfold takeEffect
  exact (Within.look (fun _ => (Within.cons (Within.forEach (fun _ => (creditsUpTo_within (hm.via rfl rfl rfl)))) (Within.cons
    (Within.forEach (fun _ => (Within.upd (Or.inl (hm.has rfl))))) (Within.cons (Within.look (fun _ => (checkDependents_within
    (hm.via rfl rfl rfl) (fun _ => (Within.look (fun _ => (Within.cons (functionsFollow_within (hm.via rfl rfl rfl))
    (Within.cons (Within.when (buildPlans_within (hm.via rfl rfl rfl))) (Within.cons
    (h_go _) Within.nil))))))))) Within.nil)))))

theorem sealedApplies_within {m : Mask}
    (hm : Mask.Le ⟨0x3f99feb7, 0x700001e00a001e000c00e0004000e6120780073600202018204d40f0, 0x160020003e000880001c06003800000001f190000300200000065944088000100⟩ m) :
    Eff.Within tables m sealedApplies := by
  unfold sealedApplies
  exact (Within.look (fun _ => (Within.ofOption (fun _ => (Within.cons (Within.upd (hm.parts' [.staging] (by decide +kernel)))
    (Within.cons (Within.setN (hm.obj (by decide +kernel))) (Within.cons (takeEffect_within (hm.via rfl rfl rfl)
    (fun _ => Within.skip)) (Within.cons (Within.look (fun _ => (Within.setN (hm.obj (by decide +kernel))))) (Within.cons
    (Within.count (hm.ctr (by decide +kernel))) (Within.cons (noteConfig_within (hm.via rfl rfl rfl)) Within.nil))))))))))

theorem portSwitched_within {m : Mask}
    (hm : Mask.Le ⟨0x2988f6a0, 0x1e0020000000000000000000000078007360000001820000010, 0x200020000000000000000000000001f100000000000000060800008000100⟩ m) {p : Nat} {enable : Bool} {changed : Bool} :
    Eff.Within tables m (@portSwitched p enable changed) := by
  unfold portSwitched
  exact (Within.cons (Within.upd (hm.parts' [.faults] (by decide +kernel))) (Within.cons (Within.ite (Within.cons
    (portStart_within (hm.via rfl rfl rfl)) (Within.cons (gatesNow_within (hm.via rfl rfl rfl)) (Within.cons
    (showPreemption_within (hm.via rfl rfl rfl)) Within.nil))) (Within.when (portHalts_within (hm.via rfl rfl rfl))))
    (Within.cons (Within.when (Within.seq (applyPolicies_within (hm.via rfl rfl rfl)) (showRoles_within
    (hm.via rfl rfl rfl)))) Within.nil)))

theorem stackPortSwitched_within {m : Mask}
    (hm : Mask.Le ⟨0x3988f6b8, 0x300001e002040000000000004000e002018007360000001020000010, 0x1601200020000000000000000000000001f108000000200000065800088000100⟩ m) {n : Nat} {enable : Bool} :
    Eff.Within tables m (@stackPortSwitched n enable) := by
  unfold stackPortSwitched
  exact (Within.when (stopStackPort_within (hm.via rfl rfl rfl)))

theorem switchFunction_within {m : Mask}
    (hm : Mask.Le ⟨0x3988feb8, 0x300001e002040000000000004000e002078007360041201820000010, 0x1601200020000000000000000000100001f108000000200000065800088000100⟩ m) {before : State} {k : Key} :
    Eff.Within tables m (@switchFunction before k) := by
  unfold switchFunction
  exact (Within.look (fun _ => (Within.ite Within.skip (Within.ite (Within.ite (Within.ite (Within.setN
    (hm.obj (by decide +kernel))) (ringEnableAct_within (hm.via rfl rfl rfl))) (ringDisableAct_within (hm.via rfl rfl rfl)))
    (Within.ite (portSwitched_within (hm.via rfl rfl rfl)) (Within.ite (stackPortSwitched_within
    (hm.via rfl rfl rfl)) Within.skip))))))

/-! ## Serve -/

theorem answer_within {m : Mask}
    (hm : Mask.Le ⟨0x0, 0x0, 0x8000000000000000000000000000⟩ m) {k : Reply} {status : Nat} {type : Nat} {value : Bytes}
    (h_k : ∀ y0 y1 y2, Eff.Within tables m (k y0 y1 y2)) :
    Eff.Within tables m (@answer k status type value) := by
  unfold answer
  exact (Within.seq (Within.when (Within.count (hm.ctr (by decide +kernel)))) (h_k _ _ _))

theorem readRecord_within {m : Mask}
    (hm : Mask.Le ⟨0x0, 0x180000000000000000000000000000000, 0x8000000000000000000000000000⟩ m) {chan : Chan} {staged : Bool} {room : Nat} {length : Nat} {t : Target} {k : Reply}
    (h_k : ∀ y0 y1 y2, Eff.Within tables m (k y0 y1 y2)) :
    Eff.Within tables m (@readRecord chan staged room length t k) := by
  unfold readRecord
  exact (Within.look (fun _ =>
    (by (try dsimp only); split; exacts [(answer_within (hm.via rfl rfl rfl) (fun _ _ _ => (h_k _ _ _))),
    (Within.ite (answer_within (hm.via rfl rfl rfl) (fun _ _ _ => (h_k _ _ _))) (Within.ite (answer_within (hm.via rfl rfl rfl) (fun _ _ _ => (h_k _ _ _))) (Within.ite (answer_within (hm.via rfl rfl rfl) (fun _ _ _ => (h_k _ _ _))) (Within.seq (answer_within (hm.via rfl rfl rfl) (fun _ _ _ => (h_k _ _ _))) (Within.when (highWaterReset_within (hm.via rfl rfl rfl)))))))])))

theorem describeRecord_within {m : Mask}
    (hm : Mask.Le ⟨0x0, 0x0, 0x8000000000000000000000000000⟩ m) {chan : Chan} {room : Nat} {length : Nat} {t : Target} {k : Reply}
    (h_k : ∀ y0 y1 y2, Eff.Within tables m (k y0 y1 y2)) :
    Eff.Within tables m (@describeRecord chan room length t k) := by
  unfold describeRecord
  exact (Within.look (fun _ =>
    (by (try dsimp only); split; exacts [(answer_within (hm.via rfl rfl rfl) (fun _ _ _ => (h_k _ _ _))),
    (Within.ite (answer_within (hm.via rfl rfl rfl) (fun _ _ _ => (h_k _ _ _))) (answer_within (hm.via rfl rfl rfl) (fun _ _ _ => (h_k _ _ _)))),
    (Within.ite (answer_within (hm.via rfl rfl rfl) (fun _ _ _ => (h_k _ _ _))) (answer_within (hm.via rfl rfl rfl) (fun _ _ _ => (h_k _ _ _))))])))

theorem commitSeals_within {m : Mask}
    (hm : Mask.Le ⟨0x8000082, 0x0, 0x100000000000000060000000000000⟩ m) {atModeSwitch : Bool} :
    Eff.Within tables m (@commitSeals atModeSwitch) := by
  unfold commitSeals
  exact (Within.look (fun _ => (Within.when (Within.seq (Within.upd (hm.parts' [.staging] (by decide +kernel))) (Within.when
    (wakeBefore_within (hm.via rfl rfl rfl)))))))

theorem commitDiscards_within {m : Mask} (hm : Mask.Le ⟨0x2, 0x0, 0x0⟩ m) :
    Eff.Within tables m commitDiscards := by
  unfold commitDiscards
  exact (Within.seq (Within.upd (hm.parts' [.staging] (by decide +kernel))) (Within.upd
    (hm.parts' [.staging] (by decide +kernel))))

theorem commitAct_within {m : Mask} (hm : Mask.Le ⟨0x8000082, 0x0, 0x100000000000000060000000000000⟩ m) {v : Int} :
    Eff.Within tables m (@commitAct v) := by
  unfold commitAct
  exact (Within.ite (commitDiscards_within (hm.via rfl rfl rfl)) (commitSeals_within (hm.via rfl rfl rfl)))

theorem softwareRaises_within {m : Mask} (hm : Mask.Le ⟨0x80, 0x0, 0x100000000000000000000000000000⟩ m) {v : Nat} :
    Eff.Within tables m (@softwareRaises v) := by
  unfold softwareRaises
  exact (raiseFull_within (hm.via rfl rfl rfl))

theorem powerRequested_within {m : Mask} (hm : Mask.Le ⟨0x8000000, 0x0, 0x0⟩ m) {v : Int} :
    Eff.Within tables m (@powerRequested v) := by
  unfold powerRequested
  exact (Within.look (fun _ => (Within.upd (hm.parts' [.power] (by decide +kernel)))))

theorem actionOf_within {m : Mask}
    (hm : Mask.Le ⟨0x390dbb86, 0x1f00000000000000000400000000621000000800000, 0x3fe0030000000000100000000000000060000000000000⟩ m) {k : Key} {v : Int} :
    Eff.Within tables m (@actionOf k v) := by
  unfold actionOf
  exact (by (try dsimp only); split; exacts [(Within.when (Within.upd (hm.parts' [.clampLog] (by decide +kernel)))),
    (commitAct_within (hm.via rfl rfl rfl)), (Within.when (powerRequested_within (hm.via rfl rfl rfl))),
    (Within.when (resetIn_within (hm.via rfl rfl rfl))), (timeStepAct_within (hm.via rfl rfl rfl)),
    (timeAdjustAct_within (hm.via rfl rfl rfl)), (ppsInSecondsAct_within (hm.via rfl rfl rfl)),
    (Within.when (requestGoAct_within (hm.via rfl rfl rfl))), (unblock_within (hm.via rfl rfl rfl)),
    (disableRing_within (hm.via rfl rfl rfl)), (disableRing_within (hm.via rfl rfl rfl)),
    (Within.when (releaseBegin_within (hm.via rfl rfl rfl))), (softwareRaises_within (hm.via rfl rfl rfl)),
    (Within.when (tdrStart_within (hm.via rfl rfl rfl))), Within.skip])

theorem clampTime_within {m : Mask}
    (hm : Mask.Le ⟨0x84, 0x20, 0x110000000000000000000000000000⟩ m) {k : Key} {code : Nat} {big : Bool} {bs : Bytes} :
    Eff.Within tables m (@clampTime k code big bs) := by
  unfold clampTime
  exact (Within.when (noteClamp_within (hm.via rfl rfl rfl)))

theorem putValue_within {m : Mask}
    (hm : Mask.Le ⟨0x3f9dffbf, 0x700001e00a041ff00c00e0004000e612478007360661201820cd40b0, 0x160120003e000880001ffe003800100001f118000300200000065944088000100⟩ m) {w : WriteFrom} {x : Access} {v : Int} {clamped : Bool} {k : Nat → Eff}
    (h_k : ∀ y0, Eff.Within tables m (k y0)) :
    Eff.Within tables m (@putValue w x v clamped k) := by
  unfold putValue
  exact (by (try dsimp only); split; exacts [(Within.seq (Within.upd (hm.parts' [.staging] (by decide +kernel))) (h_k _)),
    (Within.seq (actionOf_within (hm.via rfl rfl rfl)) (h_k _)),
    (Within.look (fun _ => (Within.cons (takeEffect_within (hm.via rfl rfl rfl) (fun _ => Within.skip)) (Within.cons (switchFunction_within (hm.via rfl rfl rfl)) (Within.cons (Within.look (fun _ => (h_k _))) Within.nil)))))])

theorem writeRecord_within {m : Mask}
    (hm : Mask.Le ⟨0x3f9dffbf, 0x700001e00a041ff00c00e0004000e612478007360661201820cd40b0, 0x160120003e000880001ffe003800100001f118000300200000065944088000100⟩ m) {w : WriteFrom} {image : Int →
    (Nat → Eff) → Eff} {t : Target} {bs : Bytes} {k : Nat → Nat → Eff} (h_image : ∀ y0 y1, (∀ y'0, Eff.Within tables m
    (y1 y'0)) → Eff.Within tables m (image y0 y1)) (h_k : ∀ y0 y1, Eff.Within tables m (k y0 y1)) :
    Eff.Within tables m (@writeRecord w image t bs k) := by
  unfold writeRecord
  exact (Within.look (fun _ => (by (try dsimp only); split; exacts [(h_k _ _),
    (Within.ite (Within.seq (Within.upd (hm.parts' [.buffers] (by decide +kernel))) (h_k _ _)) (Within.ite (Within.seq (Within.seq (Within.when (clampTime_within (hm.via rfl rfl rfl))) (Within.when (Within.seq (noteClamp_within (hm.via rfl rfl rfl)) (Within.when (raise_within (hm.via rfl rfl rfl)))))) (h_image _ _ (fun _ => (h_k _ _)))) (Within.seq (Within.seq (Within.when (clampTime_within (hm.via rfl rfl rfl))) (Within.when (Within.seq (noteClamp_within (hm.via rfl rfl rfl)) (Within.when (raise_within (hm.via rfl rfl rfl)))))) (putValue_within (hm.via rfl rfl rfl) (fun _ => (h_k _ _))))))])))

theorem restoreDefaults_within {m : Mask}
    (hm : Mask.Le ⟨0x3f9dffbf, 0x700001e00a041ff00c00e0004000e612478007360661201820cd40b0, 0x160120003e000880001ffe003800100001f118000300200000065944088000100⟩ m) {w : WriteFrom} {which : Key → Bool} :
    Eff.Within tables m (@restoreDefaults w which) := by
  unfold restoreDefaults
  exact (Within.look (fun _ => (Within.forEach (fun _ =>
    (by (try dsimp only); split; exacts [(Within.look (fun _ => (Within.when (putValue_within (hm.via rfl rfl rfl) (fun _ => Within.skip))))),
    Within.skip])))))

theorem imageRecords_within {m : Mask} (hm : Mask.Le ⟨0x3f9dffbf, 0x700001e00a041ff00c00e0004000e612478007360661201820cd40b0, 0x160120003e000880001ffe003800100001f118000300200000065944088000100⟩ m) {w : WriteFrom} {n : Nat} {l : List ImageRecord} {c : ImageTally} {go : ImageTally → Eff}
    (h_go : ∀ y, Eff.Within tables m (go y)) :
    Eff.Within tables m (imageRecords w n l c go) := by
  induction l generalizing n c with
  | nil => exact h_go _
  | cons r rs ih =>
    unfold imageRecords
    exact Within.ite (h_go _) (writeRecord_within (hm.via rfl rfl rfl) (fun _ _ hk => hk _) fun _ _ => ih)

theorem imageResult_within {m : Mask} (hm : Mask.Le ⟨0x0, 0x1f00, 0x0⟩ m) {status : Nat} {c : ImageTally} {clamps : Nat} :
    Eff.Within tables m (@imageResult status c clamps) := by
  unfold imageResult
  exact (Within.cons (Within.setN (hm.obj (by decide +kernel))) (Within.cons (Within.setN (hm.obj (by decide +kernel)))
    (Within.cons (Within.setN (hm.obj (by decide +kernel))) (Within.cons (Within.setN (hm.obj (by decide +kernel)))
    (Within.cons (Within.setN (hm.obj (by decide +kernel))) Within.nil)))))

theorem imageTakes_within {m : Mask}
    (hm : Mask.Le ⟨0x3fddffbf, 0x700001e00a041ff00c00e0004000e612478007360661201820cd5fb0, 0x160120003e020880001ffe003800100001f138000300200000065944088000100⟩ m) {chan : Chan} {b : Bytes} {rs : List ImageRecord} :
    Eff.Within tables m (@imageTakes chan b rs) := by
  unfold imageTakes
  exact (Within.look (fun _ => (Within.seq (Within.when (restoreDefaults_within (hm.via rfl rfl rfl))) (imageRecords_within
    (hm.via rfl rfl rfl) (fun _ => (Within.look (fun _ => (Within.cons (Within.when (commitSeals_within (hm.via rfl rfl rfl)))
    (Within.cons (flashSet_within (hm.via rfl rfl rfl)) (Within.cons (imageResult_within (hm.via rfl rfl rfl)) (Within.cons
    (Within.count (hm.ctr (by decide +kernel))) (Within.cons (noteConfig_within (hm.via rfl rfl rfl)) Within.nil))))))))))))

theorem imageStores_within {m : Mask}
    (hm : Mask.Le ⟨0x400000, 0x0, 0x200000000000000000000000000000000000000000000000000000⟩ m) {b : Bytes} :
    Eff.Within tables m (@imageStores b) := by
  unfold imageStores
  exact (flashSet_within (hm.via rfl rfl rfl))

theorem imageAct_within {m : Mask}
    (hm : Mask.Le ⟨0x3fddffbf, 0x700001e00a041ff00c00e0004000e612478007360661201820cd5fb0, 0x160120003e0208e0001ffe003800100001f178000300200000065944088000100⟩ m) {chan : Chan} {v : Int} {k : Nat → Eff}
    (h_k : ∀ y0, Eff.Within tables m (k y0)) :
    Eff.Within tables m (@imageAct chan v k) := by
  unfold imageAct
  exact (Within.look (fun _ => (Within.ite (Within.seq (imageStores_within (hm.via rfl rfl rfl)) (h_k _)) (Within.seq
    (countImage_within (hm.via rfl rfl rfl))
    (by (try dsimp only); split; exacts [(Within.cons (imageResult_within (hm.via rfl rfl rfl)) (Within.cons (Within.count (hm.ctr (by decide +kernel))) (Within.cons (h_k _) Within.nil))),
    (Within.cons (imageTakes_within (hm.via rfl rfl rfl)) (Within.cons (Within.when (imageStores_within (hm.via rfl rfl rfl))) (Within.cons (h_k _) Within.nil)))])))))

theorem answering_within {m : Mask} (hm : Mask.Le ⟨0x0, 0x0, 0x0⟩ m) {chan : Chan} {e : Eff} (h_e : Eff.Within tables m e) :
    Eff.Within tables m (@answering chan e) := by
  unfold answering
  exact (Within.whenS h_e)

theorem respond_within {m : Mask}
    (hm : Mask.Le ⟨0x20000000, 0x0, 0x0⟩ m) {chan : Chan} {status : Nat} {type : Nat} {value : Bytes} :
    Eff.Within tables m (@respond chan status type value) := by
  unfold respond
  exact (emit_within (hm.via rfl rfl rfl))

theorem serveWrite_within {m : Mask}
    (hm : Mask.Le ⟨0x3fddffbf, 0x700001e00a041ff00c00e0004000e612478007360661201820cd5fb0, 0x160120003e0208e0001ffe003800100001f178000300200000065944088000100⟩ m) {chan : Chan} {t : Target} {bs : Bytes} {k : Reply}
    (h_k : ∀ y0 y1 y2, Eff.Within tables m (k y0 y1 y2)) :
    Eff.Within tables m (@serveWrite chan t bs k) := by
  unfold serveWrite
  exact (writeRecord_within (hm.via rfl rfl rfl) (fun _ _ h_k0 => (imageAct_within (hm.via rfl rfl rfl) (fun _ => (h_k0 _))))
    (fun _ _ => (answer_within (hm.via rfl rfl rfl) (fun _ _ _ => (h_k _ _ _)))))

theorem cycleWrite_within {m : Mask}
    (hm : Mask.Le ⟨0x3fddffbf, 0x700001e00a041ff00c00e0004000e612478007360661201820cd5fb0, 0x160120003e0208e0001ffe003800100001f178000300200000065944088000100⟩ m) {higher : List
    (Option Key)} {k : Option Key} {w : CycleWrite} :
    Eff.Within tables m (@cycleWrite higher k w) := by
  unfold cycleWrite
  exact (Within.ite (answer_within (hm.via rfl rfl rfl) (fun _ _ _ => (respond_within (hm.via rfl rfl rfl)))) (serveWrite_within
    (hm.via rfl rfl rfl) (fun _ _ _ => (respond_within (hm.via rfl rfl rfl)))))

theorem cycleWritesApply_within {m : Mask} (hm : Mask.Le ⟨0x3fddffbf, 0x700001e00a041ff00c00e0004000e612478007360661201820cd5fb0, 0x160120003e0208e0001ffe003800100001f178000300200000065944088000100⟩ m) {hardware : List (Option Key)} {l : List (Option Key × CycleWrite)} :
    Eff.Within tables m (cycleWritesApply hardware l) := by
  induction l with
  | nil => exact Within.skip
  | cons w ws ih =>
    unfold cycleWritesApply
    exact Within.seq (cycleWrite_within (hm.via rfl rfl rfl)) ih

theorem channelWrites_within {m : Mask}
    (hm : Mask.Le ⟨0x3fddffbf, 0x700001e00a041ff00c00e0004000e612478007360661201820cd5fb0, 0x160120003e0208e0001ffe003800100001f178000300200000065944088000100⟩ m) {hardware : List
    (Option Key)} {ws : List (Option Key × CycleWrite)} :
    Eff.Within tables m (@channelWrites hardware ws) := by
  unfold channelWrites
  exact (Within.seq (cycleWritesApply_within (hm.via rfl rfl rfl)) (cycleWritesApply_within (hm.via rfl rfl rfl)))

theorem hardwareWrites_within {m : Mask}
    (hm : Mask.Le ⟨0x2988f6a0, 0x1e0020000000000000000000000018007360000001020000010, 0x200020000000000000000000000001f100000000000000060800008000100⟩ m) {l : List
    (Nat × Nat)} :
    Eff.Within tables m (@hardwareWrites l) := by
  unfold hardwareWrites
  exact (Within.forEach (fun _ => (faultOccur_within (hm.via rfl rfl rfl) (fun _ => Within.skip))))

theorem serveCycle_within {m : Mask}
    (hm : Mask.Le ⟨0x3fddffbf, 0x700001e00a041ff00c00e001c000e612478007360661201820cd5fb0, 0x160120003e0208e0001ffe003800100001f178000300200000065944088000100⟩ m) {l : List SameCycle} :
    Eff.Within tables m (@serveCycle l) := by
  unfold serveCycle
  exact (Within.seq (Within.forEach (fun _ => (readRecord_within (hm.via rfl rfl rfl) (fun _ _ _ => (respond_within
    (hm.via rfl rfl rfl)))))) (Within.look (fun _ => (Within.seq (channelWrites_within (hm.via rfl rfl rfl))
    (hardwareWrites_within (hm.via rfl rfl rfl))))))

theorem writeObject_within {m : Mask}
    (hm : Mask.Le ⟨0x3fddffbf, 0x700001e00a041ff00c00e0004000e612478007360661201820cd5fb0, 0x160120003e0208e0001ffe003800100001f178000300200000065944088000100⟩ m) {chan : Chan} {idx : Nat} {sub : Nat} {row : Nat} {v : Int} :
    Eff.Within tables m (@writeObject chan idx sub row v) := by
  unfold writeObject
  exact (answering_within (hm.via rfl rfl rfl)
    (by (try dsimp only); split; exacts [(serveWrite_within (hm.via rfl rfl rfl) (fun _ _ _ => (respond_within (hm.via rfl rfl rfl)))),
    Within.skip]))

/-! ## Message -/

theorem refuseMessage_within {μ : Mask}
    (hm : Mask.Le ⟨0x0, 0x0, 0x8000000000000000000000000000⟩ μ) {big : Bool} {m : Bytes} {status : Nat} {reply : Bytes → Eff}
    (h_reply : ∀ y0, Eff.Within tables μ (reply y0)) :
    Eff.Within tables μ (@refuseMessage big m status reply) := by
  unfold refuseMessage
  exact (Within.seq (Within.count (hm.ctr (by decide +kernel))) (h_reply _))

theorem malformedRecord_within {m : Mask}
    (hm : Mask.Le ⟨0x0, 0x0, 0x8000000000000000000000000000⟩ m) {chan : Chan} {t : Target} {k : Reply}
    (h_k : ∀ y0 y1 y2, Eff.Within tables m (k y0 y1 y2)) :
    Eff.Within tables m (@malformedRecord chan t k) := by
  unfold malformedRecord
  exact (Within.look (fun _ =>
    (by (try dsimp only); split; exacts [(answer_within (hm.via rfl rfl rfl) (fun _ _ _ => (h_k _ _ _))),
    (answer_within (hm.via rfl rfl rfl) (fun _ _ _ => (h_k _ _ _)))])))

theorem serveRecord_within {m : Mask}
    (hm : Mask.Le ⟨0x3fddffbf, 0x700001e00a041ff00c00e001c000e612478007360661201820cd5fb0, 0x160120003e0208e0001ffe003800100001f178000300200000065944088000100⟩ m) {chan : Chan} {room : Nat} {r : Request} {k : Reply}
    (h_k : ∀ y0 y1 y2, Eff.Within tables m (k y0 y1 y2)) :
    Eff.Within tables m (@serveRecord chan room r k) := by
  unfold serveRecord
  exact (Within.ite (readRecord_within (hm.via rfl rfl rfl) (fun _ _ _ => (h_k _ _ _))) (Within.ite (serveWrite_within
    (hm.via rfl rfl rfl) (fun _ _ _ => (h_k _ _ _))) (Within.ite (describeRecord_within (hm.via rfl rfl rfl) (fun _ _ _ =>
    (h_k _ _ _))) (Within.ite (readRecord_within (hm.via rfl rfl rfl) (fun _ _ _ => (h_k _ _ _))) (malformedRecord_within
    (hm.via rfl rfl rfl) (fun _ _ _ => (h_k _ _ _)))))))

theorem serveRecords_within {m : Mask} (hm : Mask.Le ⟨0x3fddffbf, 0x700001e00a041ff00c00e001c000e612478007360661201820cd5fb0, 0x160120003e0208e0001ffe003800100001f178000300200000065944088000100⟩ m) {chan : Chan} {l : List Request} {room : Nat} {acc : Bytes} {go : Bytes → Eff}
    (h_go : ∀ y, Eff.Within tables m (go y)) :
    Eff.Within tables m (serveRecords chan l room acc go) := by
  induction l generalizing room acc with
  | nil => exact h_go _
  | cons r rs ih =>
    unfold serveRecords
    exact serveRecord_within (hm.via rfl rfl rfl) fun _ _ _ => ih

theorem serveMessage_within {μ : Mask}
    (hm : Mask.Le ⟨0x3fddffbf, 0x700001e00a041ff00c00e001c000e612478007360661201820cd5fb0, 0x160120003e0208e0001ffe003800100001f17c000300200000065944088000100⟩ μ) {chan : Chan} {limit : Nat} {m : Bytes} {reply : Bytes → Eff}
    (h_reply : ∀ y0, Eff.Within tables μ (reply y0)) :
    Eff.Within tables μ (@serveMessage chan limit m reply) := by
  unfold serveMessage
  exact (Within.seq (Within.count (hm.ctr (by decide +kernel))) (Within.look (fun _ =>
    (by (try dsimp only); split; exacts [(refuseMessage_within (hm.via rfl rfl rfl) (fun _ => (h_reply _))),
    (serveRecords_within (hm.via rfl rfl rfl) (fun _ => (h_reply _)))]))))

theorem relayRequest_within {μ : Mask}
    (hm : Mask.Le ⟨0x20880080, 0x0, 0x22000000000000000000000000000000108000000000000000000000000000⟩ μ) {member : Nat} {client : RelayClient} {big : Bool} {m : Bytes} {rs : List Request} {reply : Bytes → Eff}
    (h_reply : ∀ y0, Eff.Within tables μ (reply y0)) :
    Eff.Within tables μ (@relayRequest member client big m rs reply) := by
  unfold relayRequest
  exact (Within.look (fun _ => (Within.ite (Within.seq (Within.upd (hm.parts' [.twin] (by decide +kernel))) (Within.seq
    (Within.count (hm.ctr (by decide +kernel))) (sendOnStack_within (hm.via rfl rfl rfl)))) (refuseMessage_within
    (hm.via rfl rfl rfl) (fun _ => (h_reply _))))))

theorem serveOrRelay_within {μ : Mask}
    (hm : Mask.Le ⟨0x3fddffbf, 0x700001e00a041ff00c00e001c000e612478007360661201820cd5fb0, 0x160320003e0208e0001ffe003800100001f17c000300200000065944088000100⟩ μ) {chan : Chan} {entry : Nat} {client : RelayClient} {limit : Nat} {m : Bytes} {reply : Bytes → Eff}
    (h_reply : ∀ y0, Eff.Within tables μ (reply y0)) :
    Eff.Within tables μ (@serveOrRelay chan entry client limit m reply) := by
  unfold serveOrRelay
  exact (Within.look (fun _ =>
    (by (try dsimp only); split; exacts [(Within.ite (Within.seq (Within.count (hm.ctr (by decide +kernel))) (relayRequest_within (hm.via rfl rfl rfl) (fun _ => (h_reply _)))) (serveMessage_within (hm.via rfl rfl rfl) (fun _ => (h_reply _)))),
    (serveMessage_within (hm.via rfl rfl rfl) (fun _ => (h_reply _)))])))

theorem mailboxGo_within {m : Mask} (hm : Mask.Le ⟨0xc000008, 0x0, 0x0⟩ m) {tag : Nat} :
    Eff.Within tables m (@mailboxGo tag) := by
  unfold mailboxGo
  exact (Within.look (fun _ => (Within.cons (Within.upd (hm.parts' [.mailbox] (by decide +kernel))) (Within.cons (idleWake_within
    (hm.via rfl rfl rfl)) Within.nil))))

theorem mailboxServed_within {m : Mask}
    (hm : Mask.Le ⟨0x3fddffbf, 0x700001e00a041ff00c00e001c000e612478007360661201820cd5fb0, 0x160320003e0208e0001ffe003800100001f17c000300200000065944088000100⟩ m) :
    Eff.Within tables m mailboxServed := by
  unfold mailboxServed
  exact (Within.whenS (Within.look (fun _ => (serveOrRelay_within (hm.via rfl rfl rfl) (fun _ => (mailboxReply_within
    (hm.via rfl rfl rfl)))))))

theorem pduServed_within {m : Mask}
    (hm : Mask.Le ⟨0x3fddffbf, 0x700001e00a041ff00c00e001c000e612478007360661201820cd5fb0, 0x160320003e0208e0001ffe003800100003f17c000300200000065944088000100⟩ m) {p : Nat} {f : Frame} :
    Eff.Within tables m (@pduServed p f) := by
  unfold pduServed
  exact (Within.look (fun _ => (Within.ite Within.skip (Within.ite (Within.cons (Within.count (hm.ctr (by decide +kernel)))
    (Within.cons (Within.count (hm.ctr (by decide +kernel))) (Within.cons (refuseMessage_within (hm.via rfl rfl rfl) (fun _ =>
    (pduReply_within (hm.via rfl rfl rfl)))) Within.nil))) (serveOrRelay_within (hm.via rfl rfl rfl) (fun _ => (pduReply_within
    (hm.via rfl rfl rfl))))))))

theorem pduArrives_within {m : Mask}
    (hm : Mask.Le ⟨0x3fddffbf, 0x700001e00a041ff00c00e001c000e61247f57f360661201820cd5fb0, 0x160320003e0208e0001ffe003800100003f17c00030020000016594408a819173⟩ m) {p : Nat} {f : Frame} :
    Eff.Within tables m (@pduArrives p f) := by
  unfold pduArrives
  exact (offWrap_within (hm.via rfl rfl rfl) (received_within (hm.via rfl rfl rfl) (fun _ => (pduServed_within
    (hm.via rfl rfl rfl)))))

theorem relayArrives_within {m : Mask}
    (hm : Mask.Le ⟨0x3fddffbf, 0x700001e00a241ff00c00e001c000e612478007360661201820cd5fb0, 0x1601e0003e0208e0001ffe003800100001f17c000300200000065944088000100⟩ m) {port : Nat} {x : MemberMessage} :
    Eff.Within tables m (@relayArrives port x) := by
  unfold relayArrives
  exact (stackArrives_within (hm.via rfl rfl rfl) (Within.look (fun _ => (Within.ite (sendOnStack_within (hm.via rfl rfl rfl))
    (serveMessage_within (hm.via rfl rfl rfl) (fun _ => (sendOnStack_within (hm.via rfl rfl rfl))))))))

theorem relayReturns_within {μ : Mask}
    (hm : Mask.Le ⟨0x3888b298, 0x3000000000200000000000004000e002000000000000000000000000, 0x1600e000000000000000000000000000000100000000200000065000080000000⟩ μ) {port : Nat} {m : Bytes} :
    Eff.Within tables μ (@relayReturns port m) := by
  unfold relayReturns
  exact (stackArrives_within (hm.via rfl rfl rfl) (Within.look (fun _ => (Within.ite (sendOnStack_within (hm.via rfl rfl rfl))
    (Within.ofOption (fun _ => (Within.seq (Within.upd (hm.parts' [.twin] (by decide +kernel))) (clientReply_within
    (hm.via rfl rfl rfl)))))))))

theorem execMailboxGo_effect {tag : Nat} {s : State} : ∃ e, @execMailboxGo tag s = done e s ∧ Eff.Within tables ⟨0xc000008, 0x0, 0x4000000000000000000000000000000000000000⟩ e :=
  have hm := Mask.Le.refl ⟨0xc000008, 0x0, 0x4000000000000000000000000000000000000000⟩
  ⟨_, rfl, (Within.seq (powered_within (hm.via rfl rfl rfl) (tlpReceived_within (hm.via rfl rfl rfl))) (answering_within
    (hm.via rfl rfl rfl) (inD0_within (hm.via rfl rfl rfl) (mailboxGo_within (hm.via rfl rfl rfl)))))⟩

theorem execMailboxDone_effect {s : State} : ∃ e, @execMailboxDone s = done e s ∧ Eff.Within tables ⟨0x3fddffbf, 0x700001e00a041ff00c00e001c000e612478007360661201820cd5fb0, 0x160320003e0208e0001ffe003800100001f17c000300200000065944088000100⟩ e :=
  have hm := Mask.Le.refl ⟨0x3fddffbf, 0x700001e00a041ff00c00e001c000e612478007360661201820cd5fb0, 0x160320003e0208e0001ffe003800100001f17c000300200000065944088000100⟩
  ⟨_, rfl, (answering_within (hm.via rfl rfl rfl) (mailboxServed_within (hm.via rfl rfl rfl)))⟩

theorem execManagementPdu_effect {port : Nat} {frame : Frame} {s : State} : ∃ e, @execManagementPdu port frame s = done e s ∧ Eff.Within tables ⟨0x3fddffbf, 0x700001e00a041ff00c00e001c000e61247f57f360661201820cd5fb0, 0x160320003e0208e0001ffe003800100003f17c00030020000016594408a819173⟩ e :=
  have hm := Mask.Le.refl ⟨0x3fddffbf, 0x700001e00a041ff00c00e001c000e61247f57f360661201820cd5fb0, 0x160320003e0208e0001ffe003800100003f17c00030020000016594408a819173⟩
  ⟨_, rfl, (operating_within (hm.via rfl rfl rfl) (Within.when (pduArrives_within (hm.via rfl rfl rfl))))⟩

theorem execStackRelayRequest_effect {stackPort : Nat} {message : MemberMessage} {s : State} : ∃ e, @execStackRelayRequest stackPort message s = done e s ∧ Eff.Within tables ⟨0x3fddffbf, 0x700001e00a241ff00c00e001c000e612478007360661201820cd5fb0, 0x1601e0003e0208e0001ffe003800100001f17c000300200000065944088000100⟩ e :=
  have hm := Mask.Le.refl ⟨0x3fddffbf, 0x700001e00a241ff00c00e001c000e612478007360661201820cd5fb0, 0x1601e0003e0208e0001ffe003800100001f17c000300200000065944088000100⟩
  ⟨_, rfl, (operating_within (hm.via rfl rfl rfl) (relayArrives_within (hm.via rfl rfl rfl)))⟩

theorem execStackRelayResponse_effect {stackPort : Nat} {message : Bytes} {s : State} : ∃ e, @execStackRelayResponse stackPort message s = done e s ∧ Eff.Within tables ⟨0x3888b298, 0x3000000000200000000000004000e002000000000000000000000000, 0x1600e000000000000000000000000000000100000000200000065000080000000⟩ e :=
  have hm := Mask.Le.refl ⟨0x3888b298, 0x3000000000200000000000004000e002000000000000000000000000, 0x1600e000000000000000000000000000000100000000200000065000080000000⟩
  ⟨_, rfl, (operating_within (hm.via rfl rfl rfl) (relayReturns_within (hm.via rfl rfl rfl)))⟩

theorem execRead_effect {chan : Chan} {target : Target} {s : State} : ∃ e, @execRead chan target s = done e s ∧ Eff.Within tables ⟨0x20000000, 0x180000000000000000000000000000000, 0x8000000000000000000000000000⟩ e :=
  have hm := Mask.Le.refl ⟨0x20000000, 0x180000000000000000000000000000000, 0x8000000000000000000000000000⟩
  ⟨_, rfl, (answering_within (hm.via rfl rfl rfl) (readRecord_within (hm.via rfl rfl rfl) (fun _ _ _ => (respond_within
    (hm.via rfl rfl rfl)))))⟩

theorem execWrite_effect {chan : Chan} {target : Target} {value : WriteData} {s : State} : ∃ e, @execWrite chan target value s = done e s ∧ Eff.Within tables ⟨0x3fddffbf, 0x700001e00a041ff00c00e001c000e612478007360661201820cd5fb0, 0x160120003e0208e0001ffe003800100001f178000300200000065944088000100⟩ e :=
  have hm := Mask.Le.refl ⟨0x3fddffbf, 0x700001e00a041ff00c00e001c000e612478007360661201820cd5fb0, 0x160120003e0208e0001ffe003800100001f178000300200000065944088000100⟩
  ⟨_, rfl, (answering_within (hm.via rfl rfl rfl) (serveCycle_within (hm.via rfl rfl rfl)))⟩

theorem execDescribe_effect {chan : Chan} {target : Target} {s : State} : ∃ e, @execDescribe chan target s = done e s ∧ Eff.Within tables ⟨0x20000000, 0x0, 0x8000000000000000000000000000⟩ e :=
  have hm := Mask.Le.refl ⟨0x20000000, 0x0, 0x8000000000000000000000000000⟩
  ⟨_, rfl, (answering_within (hm.via rfl rfl rfl) (describeRecord_within (hm.via rfl rfl rfl) (fun _ _ _ => (respond_within
    (hm.via rfl rfl rfl)))))⟩

theorem execReadStaged_effect {chan : Chan} {target : Target} {s : State} : ∃ e, @execReadStaged chan target s = done e s ∧ Eff.Within tables ⟨0x20000000, 0x180000000000000000000000000000000, 0x8000000000000000000000000000⟩ e :=
  have hm := Mask.Le.refl ⟨0x20000000, 0x180000000000000000000000000000000, 0x8000000000000000000000000000⟩
  ⟨_, rfl, (answering_within (hm.via rfl rfl rfl) (readRecord_within (hm.via rfl rfl rfl) (fun _ _ _ => (respond_within
    (hm.via rfl rfl rfl)))))⟩

theorem execCommitAtBoundary_effect {chan : Chan} {s : State} : ∃ e, @execCommitAtBoundary chan s = done e s ∧ Eff.Within tables ⟨0x3fddffbf, 0x700001e00a041ff00c00e0004000e612478007360661201820cd5fb0, 0x160120003e0208e0001ffe003800100001f178000300200000065944088000100⟩ e :=
  have hm := Mask.Le.refl ⟨0x3fddffbf, 0x700001e00a041ff00c00e0004000e612478007360661201820cd5fb0, 0x160120003e0208e0001ffe003800100001f178000300200000065944088000100⟩
  ⟨_, rfl, (writeObject_within (hm.via rfl rfl rfl))⟩

theorem execCommitAtModeSwitch_effect {chan : Chan} {s : State} : ∃ e, @execCommitAtModeSwitch chan s = done e s ∧ Eff.Within tables ⟨0x3fddffbf, 0x700001e00a041ff00c00e0004000e612478007360661201820cd5fb0, 0x160120003e0208e0001ffe003800100001f178000300200000065944088000100⟩ e :=
  have hm := Mask.Le.refl ⟨0x3fddffbf, 0x700001e00a041ff00c00e0004000e612478007360661201820cd5fb0, 0x160120003e0208e0001ffe003800100001f178000300200000065944088000100⟩
  ⟨_, rfl, (writeObject_within (hm.via rfl rfl rfl))⟩

theorem execCommitDiscard_effect {chan : Chan} {s : State} : ∃ e, @execCommitDiscard chan s = done e s ∧ Eff.Within tables ⟨0x3fddffbf, 0x700001e00a041ff00c00e0004000e612478007360661201820cd5fb0, 0x160120003e0208e0001ffe003800100001f178000300200000065944088000100⟩ e :=
  have hm := Mask.Le.refl ⟨0x3fddffbf, 0x700001e00a041ff00c00e0004000e612478007360661201820cd5fb0, 0x160120003e0208e0001ffe003800100001f178000300200000065944088000100⟩
  ⟨_, rfl, (writeObject_within (hm.via rfl rfl rfl))⟩

theorem execClampLogClear_effect {chan : Chan} {s : State} : ∃ e, @execClampLogClear chan s = done e s ∧ Eff.Within tables ⟨0x3fddffbf, 0x700001e00a041ff00c00e0004000e612478007360661201820cd5fb0, 0x160120003e0208e0001ffe003800100001f178000300200000065944088000100⟩ e :=
  have hm := Mask.Le.refl ⟨0x3fddffbf, 0x700001e00a041ff00c00e0004000e612478007360661201820cd5fb0, 0x160120003e0208e0001ffe003800100001f178000300200000065944088000100⟩
  ⟨_, rfl, (writeObject_within (hm.via rfl rfl rfl))⟩

theorem execImageApply_effect {chan : Chan} {s : State} : ∃ e, @execImageApply chan s = done e s ∧ Eff.Within tables ⟨0x3fddffbf, 0x700001e00a041ff00c00e0004000e612478007360661201820cd5fb0, 0x160120003e0208e0001ffe003800100001f178000300200000065944088000100⟩ e :=
  have hm := Mask.Le.refl ⟨0x3fddffbf, 0x700001e00a041ff00c00e0004000e612478007360661201820cd5fb0, 0x160120003e0208e0001ffe003800100001f178000300200000065944088000100⟩
  ⟨_, rfl, (writeObject_within (hm.via rfl rfl rfl))⟩

theorem execImageApplyAndStore_effect {chan : Chan} {s : State} : ∃ e, @execImageApplyAndStore chan s = done e s ∧ Eff.Within tables ⟨0x3fddffbf, 0x700001e00a041ff00c00e0004000e612478007360661201820cd5fb0, 0x160120003e0208e0001ffe003800100001f178000300200000065944088000100⟩ e :=
  have hm := Mask.Le.refl ⟨0x3fddffbf, 0x700001e00a041ff00c00e0004000e612478007360661201820cd5fb0, 0x160120003e0208e0001ffe003800100001f178000300200000065944088000100⟩
  ⟨_, rfl, (writeObject_within (hm.via rfl rfl rfl))⟩

theorem execImageStore_effect {chan : Chan} {s : State} : ∃ e, @execImageStore chan s = done e s ∧ Eff.Within tables ⟨0x3fddffbf, 0x700001e00a041ff00c00e0004000e612478007360661201820cd5fb0, 0x160120003e0208e0001ffe003800100001f178000300200000065944088000100⟩ e :=
  have hm := Mask.Le.refl ⟨0x3fddffbf, 0x700001e00a041ff00c00e0004000e612478007360661201820cd5fb0, 0x160120003e0208e0001ffe003800100001f178000300200000065944088000100⟩
  ⟨_, rfl, (writeObject_within (hm.via rfl rfl rfl))⟩

theorem execTimeStep_effect {chan : Chan} {time : Nat} {s : State} : ∃ e, @execTimeStep chan time s = done e s ∧ Eff.Within tables ⟨0x3fddffbf, 0x700001e00a041ff00c00e0004000e612478007360661201820cd5fb0, 0x160120003e0208e0001ffe003800100001f178000300200000065944088000100⟩ e :=
  have hm := Mask.Le.refl ⟨0x3fddffbf, 0x700001e00a041ff00c00e0004000e612478007360661201820cd5fb0, 0x160120003e0208e0001ffe003800100001f178000300200000065944088000100⟩
  ⟨_, rfl, (writeObject_within (hm.via rfl rfl rfl))⟩

theorem execTimeAdjust_effect {chan : Chan} {offset : Int} {s : State} : ∃ e, @execTimeAdjust chan offset s = done e s ∧ Eff.Within tables ⟨0x3fddffbf, 0x700001e00a041ff00c00e0004000e612478007360661201820cd5fb0, 0x160120003e0208e0001ffe003800100001f178000300200000065944088000100⟩ e :=
  have hm := Mask.Le.refl ⟨0x3fddffbf, 0x700001e00a041ff00c00e0004000e612478007360661201820cd5fb0, 0x160120003e0208e0001ffe003800100001f178000300200000065944088000100⟩
  ⟨_, rfl, (writeObject_within (hm.via rfl rfl rfl))⟩

theorem execPpsInSeconds_effect {chan : Chan} {seconds : Nat} {s : State} : ∃ e, @execPpsInSeconds chan seconds s = done e s ∧ Eff.Within tables ⟨0x3fddffbf, 0x700001e00a041ff00c00e0004000e612478007360661201820cd5fb0, 0x160120003e0208e0001ffe003800100001f178000300200000065944088000100⟩ e :=
  have hm := Mask.Le.refl ⟨0x3fddffbf, 0x700001e00a041ff00c00e0004000e612478007360661201820cd5fb0, 0x160120003e0208e0001ffe003800100001f178000300200000065944088000100⟩
  ⟨_, rfl, (writeObject_within (hm.via rfl rfl rfl))⟩

theorem execRingEnable_effect {chan : Chan} {s : State} : ∃ e, @execRingEnable chan s = done e s ∧ Eff.Within tables ⟨0x3fddffbf, 0x700001e00a041ff00c00e0004000e612478007360661201820cd5fb0, 0x160120003e0208e0001ffe003800100001f178000300200000065944088000100⟩ e :=
  have hm := Mask.Le.refl ⟨0x3fddffbf, 0x700001e00a041ff00c00e0004000e612478007360661201820cd5fb0, 0x160120003e0208e0001ffe003800100001f178000300200000065944088000100⟩
  ⟨_, rfl, (writeObject_within (hm.via rfl rfl rfl))⟩

theorem execRingDisable_effect {chan : Chan} {s : State} : ∃ e, @execRingDisable chan s = done e s ∧ Eff.Within tables ⟨0x3fddffbf, 0x700001e00a041ff00c00e0004000e612478007360661201820cd5fb0, 0x160120003e0208e0001ffe003800100001f178000300200000065944088000100⟩ e :=
  have hm := Mask.Le.refl ⟨0x3fddffbf, 0x700001e00a041ff00c00e0004000e612478007360661201820cd5fb0, 0x160120003e0208e0001ffe003800100001f178000300200000065944088000100⟩
  ⟨_, rfl, (writeObject_within (hm.via rfl rfl rfl))⟩

theorem execRequestGo_effect {chan : Chan} {s : State} : ∃ e, @execRequestGo chan s = done e s ∧ Eff.Within tables ⟨0x3fddffbf, 0x700001e00a041ff00c00e0004000e612478007360661201820cd5fb0, 0x160120003e0208e0001ffe003800100001f178000300200000065944088000100⟩ e :=
  have hm := Mask.Le.refl ⟨0x3fddffbf, 0x700001e00a041ff00c00e0004000e612478007360661201820cd5fb0, 0x160120003e0208e0001ffe003800100001f178000300200000065944088000100⟩
  ⟨_, rfl, (writeObject_within (hm.via rfl rfl rfl))⟩

theorem execPortEnable_effect {chan : Chan} {port : Nat} {s : State} : ∃ e, @execPortEnable chan port s = done e s ∧ Eff.Within tables ⟨0x3fddffbf, 0x700001e00a041ff00c00e0004000e612478007360661201820cd5fb0, 0x160120003e0208e0001ffe003800100001f178000300200000065944088000100⟩ e :=
  have hm := Mask.Le.refl ⟨0x3fddffbf, 0x700001e00a041ff00c00e0004000e612478007360661201820cd5fb0, 0x160120003e0208e0001ffe003800100001f178000300200000065944088000100⟩
  ⟨_, rfl, (Within.when (writeObject_within (hm.via rfl rfl rfl)))⟩

theorem execPortDisable_effect {chan : Chan} {port : Nat} {s : State} : ∃ e, @execPortDisable chan port s = done e s ∧ Eff.Within tables ⟨0x3fddffbf, 0x700001e00a041ff00c00e0004000e612478007360661201820cd5fb0, 0x160120003e0208e0001ffe003800100001f178000300200000065944088000100⟩ e :=
  have hm := Mask.Le.refl ⟨0x3fddffbf, 0x700001e00a041ff00c00e0004000e612478007360661201820cd5fb0, 0x160120003e0208e0001ffe003800100001f178000300200000065944088000100⟩
  ⟨_, rfl, (Within.when (writeObject_within (hm.via rfl rfl rfl)))⟩

theorem execStreamUnblock_effect {chan : Chan} {handle : Nat} {s : State} : ∃ e, @execStreamUnblock chan handle s = done e s ∧ Eff.Within tables ⟨0x3fddffbf, 0x700001e00a041ff00c00e0004000e612478007360661201820cd5fb0, 0x160120003e0208e0001ffe003800100001f178000300200000065944088000100⟩ e :=
  have hm := Mask.Le.refl ⟨0x3fddffbf, 0x700001e00a041ff00c00e0004000e612478007360661201820cd5fb0, 0x160120003e0208e0001ffe003800100001f178000300200000065944088000100⟩
  ⟨_, rfl, (writeObject_within (hm.via rfl rfl rfl))⟩

theorem execHighWaterRead_effect {chan : Chan} {queue : Nat} {column : Nat} {s : State} : ∃ e, @execHighWaterRead chan queue column s = done e s ∧ Eff.Within tables ⟨0x20000000, 0x180000000000000000000000000000000, 0x8000000000000000000000000000⟩ e :=
  have hm := Mask.Le.refl ⟨0x20000000, 0x180000000000000000000000000000000, 0x8000000000000000000000000000⟩
  ⟨_, rfl, (answering_within (hm.via rfl rfl rfl) (readRecord_within (hm.via rfl rfl rfl) (fun _ _ _ => (respond_within
    (hm.via rfl rfl rfl)))))⟩

theorem execForceDisableTx_effect {chan : Chan} {ring : Nat} {s : State} : ∃ e, @execForceDisableTx chan ring s = done e s ∧ Eff.Within tables ⟨0x3fddffbf, 0x700001e00a041ff00c00e0004000e612478007360661201820cd5fb0, 0x160120003e0208e0001ffe003800100001f178000300200000065944088000100⟩ e :=
  have hm := Mask.Le.refl ⟨0x3fddffbf, 0x700001e00a041ff00c00e0004000e612478007360661201820cd5fb0, 0x160120003e0208e0001ffe003800100001f178000300200000065944088000100⟩
  ⟨_, rfl, (writeObject_within (hm.via rfl rfl rfl))⟩

theorem execForceDisableRx_effect {chan : Chan} {ring : Nat} {s : State} : ∃ e, @execForceDisableRx chan ring s = done e s ∧ Eff.Within tables ⟨0x3fddffbf, 0x700001e00a041ff00c00e0004000e612478007360661201820cd5fb0, 0x160120003e0208e0001ffe003800100001f178000300200000065944088000100⟩ e :=
  have hm := Mask.Le.refl ⟨0x3fddffbf, 0x700001e00a041ff00c00e0004000e612478007360661201820cd5fb0, 0x160120003e0208e0001ffe003800100001f178000300200000065944088000100⟩
  ⟨_, rfl, (writeObject_within (hm.via rfl rfl rfl))⟩

theorem execTwinSwitchover_effect {chan : Chan} {s : State} : ∃ e, @execTwinSwitchover chan s = done e s ∧ Eff.Within tables ⟨0x3fddffbf, 0x700001e00a041ff00c00e0004000e612478007360661201820cd5fb0, 0x160120003e0208e0001ffe003800100001f178000300200000065944088000100⟩ e :=
  have hm := Mask.Le.refl ⟨0x3fddffbf, 0x700001e00a041ff00c00e0004000e612478007360661201820cd5fb0, 0x160120003e0208e0001ffe003800100001f178000300200000065944088000100⟩
  ⟨_, rfl, (writeObject_within (hm.via rfl rfl rfl))⟩

theorem execTdrRequest_effect {chan : Chan} {port : Nat} {s : State} : ∃ e, @execTdrRequest chan port s = done e s ∧ Eff.Within tables ⟨0x3fddffbf, 0x700001e00a041ff00c00e0004000e612478007360661201820cd5fb0, 0x160120003e0208e0001ffe003800100001f178000300200000065944088000100⟩ e :=
  have hm := Mask.Le.refl ⟨0x3fddffbf, 0x700001e00a041ff00c00e0004000e612478007360661201820cd5fb0, 0x160120003e0208e0001ffe003800100001f178000300200000065944088000100⟩
  ⟨_, rfl, (writeObject_within (hm.via rfl rfl rfl))⟩

theorem execSoftwareEvent_effect {chan : Chan} {value : Nat} {s : State} : ∃ e, @execSoftwareEvent chan value s = done e s ∧ Eff.Within tables ⟨0x3fddffbf, 0x700001e00a041ff00c00e0004000e612478007360661201820cd5fb0, 0x160120003e0208e0001ffe003800100001f178000300200000065944088000100⟩ e :=
  have hm := Mask.Le.refl ⟨0x3fddffbf, 0x700001e00a041ff00c00e0004000e612478007360661201820cd5fb0, 0x160120003e0208e0001ffe003800100001f178000300200000065944088000100⟩
  ⟨_, rfl, (writeObject_within (hm.via rfl rfl rfl))⟩

theorem execPowerRequestIdle_effect {chan : Chan} {s : State} : ∃ e, @execPowerRequestIdle chan s = done e s ∧ Eff.Within tables ⟨0x3fddffbf, 0x700001e00a041ff00c00e0004000e612478007360661201820cd5fb0, 0x160120003e0208e0001ffe003800100001f178000300200000065944088000100⟩ e :=
  have hm := Mask.Le.refl ⟨0x3fddffbf, 0x700001e00a041ff00c00e0004000e612478007360661201820cd5fb0, 0x160120003e0208e0001ffe003800100001f178000300200000065944088000100⟩
  ⟨_, rfl, (writeObject_within (hm.via rfl rfl rfl))⟩

theorem execPowerRequestDormant_effect {chan : Chan} {s : State} : ∃ e, @execPowerRequestDormant chan s = done e s ∧ Eff.Within tables ⟨0x3fddffbf, 0x700001e00a041ff00c00e0004000e612478007360661201820cd5fb0, 0x160120003e0208e0001ffe003800100001f178000300200000065944088000100⟩ e :=
  have hm := Mask.Le.refl ⟨0x3fddffbf, 0x700001e00a041ff00c00e0004000e612478007360661201820cd5fb0, 0x160120003e0208e0001ffe003800100001f178000300200000065944088000100⟩
  ⟨_, rfl, (writeObject_within (hm.via rfl rfl rfl))⟩

theorem execModuleReset_effect {chan : Chan} {value : Nat} {s : State} : ∃ e, @execModuleReset chan value s = done e s ∧ Eff.Within tables ⟨0x3fddffbf, 0x700001e00a041ff00c00e0004000e612478007360661201820cd5fb0, 0x160120003e0208e0001ffe003800100001f178000300200000065944088000100⟩ e :=
  have hm := Mask.Le.refl ⟨0x3fddffbf, 0x700001e00a041ff00c00e0004000e612478007360661201820cd5fb0, 0x160120003e0208e0001ffe003800100001f178000300200000065944088000100⟩
  ⟨_, rfl, (writeObject_within (hm.via rfl rfl rfl))⟩

end Sys2Proof.Machine
end

