-- ==== Sys2Proof/Laws/WithinCycle.lean ====
section
/-! SUPPORT. Frame lemmas: every update that an effect of Machine/Registers.lean, Machine/Boot.lean, Machine/Coppice.lean, Machine/Cycle.lean, Machine/Idle.lean can issue
lies in a mask. -/

namespace Sys2Proof.Machine

set_option Elab.async false
set_option linter.unusedTactic false
set_option linter.unusedVariables false

/-! ## Registers -/

theorem configurationWrite_within {m : Mask} (hm : Mask.Le ⟨0x40000, 0x0, 0x0⟩ m) {fn : Nat} {off : Nat} {v : Nat} :
    Eff.Within tables m (@configurationWrite fn off v) := by
  unfold configurationWrite
  exact (Within.ite (Within.upd (hm.parts' [.functions] (by decide +kernel))) (Within.ite (Within.upd
    (hm.parts' [.functions] (by decide +kernel))) (Within.ite (Within.upd (hm.parts' [.functions] (by decide +kernel)))
    (Within.ite (Within.upd (hm.parts' [.functions] (by decide +kernel))) Within.skip))))

theorem functionBlockWrite_within {m : Mask} (hm : Mask.Le ⟨0x40000, 0x0, 0x0⟩ m) {fn : Nat} {off : Nat} {v : Nat} :
    Eff.Within tables m (@functionBlockWrite fn off v) := by
  unfold functionBlockWrite
  exact (Within.look (fun _ => (Within.ite (Within.upd (hm.parts' [.functions] (by decide +kernel))) (Within.ite (Within.upd
    (hm.parts' [.functions] (by decide +kernel))) (Within.ite (Within.when (Within.upd
    (hm.parts' [.functions] (by decide +kernel)))) (Within.ite (Within.when (Within.upd
    (hm.parts' [.functions] (by decide +kernel)))) (Within.ite (Within.ite (Within.upd
    (hm.parts' [.functions] (by decide +kernel))) (Within.upd (hm.parts' [.functions] (by decide +kernel)))) Within.skip)))))))

theorem mailboxWrite_within {m : Mask} (hm : Mask.Le ⟨0xc000008, 0x0, 0x0⟩ m) {off : Nat} {v : Nat} :
    Eff.Within tables m (@mailboxWrite off v) := by
  unfold mailboxWrite
  exact (Within.ite (Within.ite (mailboxGo_within (hm.via rfl rfl rfl)) (Within.upd (hm.parts' [.mailbox] (by decide +kernel))))
    (Within.ite (Within.upd (hm.parts' [.mailbox] (by decide +kernel))) Within.skip))

theorem kilnMailboxWrite_within {m : Mask} (hm : Mask.Le ⟨0x800000, 0x0, 0x0⟩ m) {off : Nat} {v : Nat} :
    Eff.Within tables m (@kilnMailboxWrite off v) := by
  unfold kilnMailboxWrite
  exact (Within.ite (Within.when (kilnPowered_within (hm.via rfl rfl rfl) (kilnGoAct_within (hm.via rfl rfl rfl)))) (Within.ite
    (Within.upd (hm.parts' [.kiln] (by decide +kernel))) Within.skip))

theorem ringBlockWrite_within {m : Mask}
    (hm : Mask.Le ⟨0x3c05b080, 0x1f00000000000000000000000000000000000000000, 0x3fe5c70000000000100000000000000064000000000000⟩ m) {tx : Bool} {r : Nat} {off : Nat} {v : Nat} :
    Eff.Within tables m (@ringBlockWrite tx r off v) := by
  unfold ringBlockWrite
  exact (Within.ite (configWrite_within (hm.via rfl rfl rfl)) (Within.ite (Within.ite (enableRing_within (hm.via rfl rfl rfl))
    (disableByHost_within (hm.via rfl rfl rfl))) (Within.ite (doorbellAct_within (hm.via rfl rfl rfl)) (Within.ite
    (ringSet_within (hm.via rfl rfl rfl)) (Within.ite (ringSet_within (hm.via rfl rfl rfl)) Within.skip)))))

theorem queueBlockWrite_within {m : Mask}
    (hm : Mask.Le ⟨0x20060000, 0x100000000000000000000000000000000000000000000, 0x100000030000000000000000000000000000000000000000⟩ m) {vectors : Nat} {q : Nat} {off : Nat} {v : Nat} :
    Eff.Within tables m (@queueBlockWrite vectors q off v) := by
  unfold queueBlockWrite
  exact (Within.ite (Within.whenS (Within.upd (hm.parts' [.queues] (by decide +kernel)))) (Within.ite (Within.upd
    (hm.parts' [.queues] (by decide +kernel))) (Within.ite (Within.seq (Within.upd (hm.parts' [.queues] (by decide +kernel)))
    (Within.ite (enableQueue_within (hm.via rfl rfl rfl)) (Within.upd (hm.parts' [.queues] (by decide +kernel))))) (Within.ite
    (headWrite_within (hm.via rfl rfl rfl)) (Within.ite (Within.upd (hm.parts' [.queues] (by decide +kernel))) (Within.ite
    (Within.when (Within.upd (hm.parts' [.queues] (by decide +kernel)))) Within.skip))))))

theorem vectorWrite_within {m : Mask}
    (hm : Mask.Le ⟨0x20040000, 0x0, 0x100000030000000000000000000000000000000000000000⟩ m) {x : Nat} {off : Nat} {v : Nat} :
    Eff.Within tables m (@vectorWrite x off v) := by
  unfold vectorWrite
  exact (Within.ite (Within.upd (hm.parts' [.functions] (by decide +kernel))) (Within.ite (Within.upd
    (hm.parts' [.functions] (by decide +kernel))) (Within.ite (Within.upd (hm.parts' [.functions] (by decide +kernel)))
    (Within.ite (Within.upd (hm.parts' [.functions] (by decide +kernel))) (Within.whenS (unmaskVector_within
    (hm.via rfl rfl rfl)))))))

theorem registerWrite32_within {m : Mask}
    (hm : Mask.Le ⟨0x3c87b088, 0x101f00000000000000000000000000000000000000000, 0x103fe5c70000000000100000000000000064000000000000⟩ m) {fn : Nat} {off : Nat} {v : Nat} :
    Eff.Within tables m (@registerWrite32 fn off v) := by
  unfold registerWrite32
  exact (Within.look (fun _ => (Within.ite (functionBlockWrite_within (hm.via rfl rfl rfl)) (Within.ite (Within.when
    (mailboxWrite_within (hm.via rfl rfl rfl))) (Within.ite (Within.when (kilnMailboxWrite_within (hm.via rfl rfl rfl)))
    (Within.ite (Within.ofOption (fun _ => (ringBlockWrite_within (hm.via rfl rfl rfl)))) (Within.ite (Within.ofOption
    (fun _ => (ringBlockWrite_within (hm.via rfl rfl rfl)))) (Within.ite (Within.ofOption (fun _ => (queueBlockWrite_within
    (hm.via rfl rfl rfl)))) (Within.ite (Within.ofOption (fun _ => (vectorWrite_within (hm.via rfl rfl rfl)))) (Within.ite
    (configurationWrite_within (hm.via rfl rfl rfl)) Within.skip))))))))))

theorem registerAct_within {m : Mask}
    (hm : Mask.Le ⟨0x3c87b098, 0x101f00000000000000000000000000000000000000000, 0x103fe5c70000000000100000000000000064000000000000⟩ m) {fn : Nat} {off : Nat} {data : Bytes} :
    Eff.Within tables m (@registerAct fn off data) := by
  unfold registerAct
  exact (Within.look (fun _ => (Within.ite Within.skip (Within.ite (Within.when (Within.upd
    (hm.parts' [.buffers] (by decide +kernel)))) (Within.ite (Within.when (Within.upd
    (hm.parts' [.buffers] (by decide +kernel)))) (Within.when (registerWrite32_within (hm.via rfl rfl rfl))))))))

theorem execRegisterWrite_effect {fn : Nat} {offset : Nat} {value : Bytes} {s : State} : ∃ e, @execRegisterWrite fn offset value s = done e s ∧ Eff.Within tables ⟨0x3c87b098, 0x101f00000000000000000000000000000000000000000, 0x103fe5c74000000000100000000000000064000000000000⟩ e :=
  have hm := Mask.Le.refl ⟨0x3c87b098, 0x101f00000000000000000000000000000000000000000, 0x103fe5c74000000000100000000000000064000000000000⟩
  ⟨_, rfl, (powered_within (hm.via rfl rfl rfl) (Within.seq (tlpReceived_within (hm.via rfl rfl rfl)) (registerAct_within
    (hm.via rfl rfl rfl))))⟩

/-! ## Boot -/

theorem offerImages_within {m : Mask}
    (hm : Mask.Le ⟨0x3fddffbf, 0x700001e00a041ff00c00e0004000e612478007360661201820cd5fb0, 0x160120003e0208e0001ffe003800100001f178000300200000065944088000100⟩ m) :
    Eff.Within tables m offerImages := by
  unfold offerImages
  exact (Within.look (fun _ => (Within.seq (countImage_within (hm.via rfl rfl rfl))
    (by (try dsimp only); split; exacts [(imageTakes_within (hm.via rfl rfl rfl)),
    (Within.cons (imageResult_within (hm.via rfl rfl rfl)) (Within.cons (Within.count (hm.ctr (by decide +kernel))) (Within.cons (countImage_within (hm.via rfl rfl rfl)) (Within.cons (by (try dsimp only); split; exacts [(imageTakes_within (hm.via rfl rfl rfl)),
    (Within.seq (Within.count (hm.ctr (by decide +kernel))) (raise_within (hm.via rfl rfl rfl)))]) Within.nil))))]))))

theorem partsStreamed_within {m : Mask}
    (hm : Mask.Le ⟨0x3fddffbf, 0x700001e80a041ff00c00e0004000e612478007360661201820cd5fb4, 0x160120003e0208e0001ffe003800100001f178000300200000065944088000100⟩ m) :
    Eff.Within tables m partsStreamed := by
  unfold partsStreamed
  exact (Within.whenS (Within.look (fun _ => (Within.seq (countBundle_within (hm.via rfl rfl rfl)) (Within.ite (Within.cons
    (Within.setN (hm.obj (by decide +kernel))) (Within.cons (setKilnState_within (hm.via rfl rfl rfl)) (Within.cons
    (setStage_within (hm.via rfl rfl rfl)) Within.nil))) (Within.cons (Within.upd (hm.parts' [.buffers] (by decide +kernel)))
    (Within.cons (Within.upd (hm.parts' [.buffers] (by decide +kernel))) (Within.cons (setStage_within (hm.via rfl rfl rfl))
    (Within.cons (Within.upd (hm.parts' [.image] (by decide +kernel))) (Within.cons (offerImages_within
    (hm.via rfl rfl rfl)) Within.nil))))))))))

theorem startTimeBase_within {m : Mask} (hm : Mask.Le ⟨0x4000380, 0x201018004c0000, 0x100000000000000000000000000000⟩ m) :
    Eff.Within tables m startTimeBase := by
  unfold startTimeBase
  exact (Within.cons (Within.look (fun _ => (Within.ofOption (fun _ => (Within.seq (Within.upd
    (hm.parts' [.clock] (by decide +kernel))) (Within.setN (hm.obj (by decide +kernel)))))))) (Within.cons (Within.upd
    (hm.parts' [.canopy] (by decide +kernel))) (Within.cons (Within.forEach (fun _ => (armPulses_within (hm.via rfl rfl rfl))))
    (Within.cons (sourceChanged_within (hm.via rfl rfl rfl)) (Within.cons (Within.look (fun _ => (Within.setN
    (hm.obj (by decide +kernel))))) Within.nil)))))

theorem restoreLease_within {m : Mask} (hm : Mask.Le ⟨0x80000, 0x240000000000000000000000000000000000000000000000, 0x0⟩ m) :
    Eff.Within tables m restoreLease := by
  unfold restoreLease
  exact (Within.look (fun _ => (Within.when (Within.seq (Within.setN (hm.obj (by decide +kernel))) (Within.ofOption (fun _ =>
    (Within.seq (Within.upd (hm.parts' [.twin] (by decide +kernel))) (Within.setN (hm.obj (by decide +kernel))))))))))

theorem startFunctions_within {m : Mask}
    (hm : Mask.Le ⟨0x2808fa80, 0x260000000000000000000000068006300041201820000000, 0x1000000100000000000000060000000000100⟩ m) :
    Eff.Within tables m startFunctions := by
  unfold startFunctions
  exact (Within.look (fun _ => (Within.cons (Within.when (setTwinState_within (hm.via rfl rfl rfl))) (Within.cons
    (restoreLease_within (hm.via rfl rfl rfl)) (Within.cons (Within.when (Within.setN (hm.obj (by decide +kernel))))
    (Within.cons (Within.whenS (ringEnableAct_within (hm.via rfl rfl rfl))) (Within.cons (Within.forEach (fun _ => (Within.cons
    (portStart_within (hm.via rfl rfl rfl)) (Within.cons (gatesNow_within (hm.via rfl rfl rfl)) (Within.cons
    (showPreemption_within (hm.via rfl rfl rfl)) Within.nil))))) (Within.cons (showRoles_within (hm.via rfl rfl rfl))
    (Within.cons (applyPolicies_within (hm.via rfl rfl rfl)) Within.nil)))))))))

theorem bootCommitted_within {m : Mask}
    (hm : Mask.Le ⟨0x3f99ffb7, 0x700001e02e001e000c00e0004000e6120780073600613018204d40f4, 0x160020003e000880001c06003800100001f190000300200000065944088000100⟩ m) :
    Eff.Within tables m bootCommitted := by
  unfold bootCommitted
  exact (Within.whenS (Within.cons (Within.upd (hm.parts' [.image] (by decide +kernel))) (Within.cons (Within.whenS
    (sealedApplies_within (hm.via rfl rfl rfl))) (Within.cons (setStage_within (hm.via rfl rfl rfl)) (Within.cons
    (startTimeBase_within (hm.via rfl rfl rfl)) (Within.cons (Within.look (fun _ => (Within.upd
    (hm.parts' [.power] (by decide +kernel))))) (Within.cons (startFunctions_within (hm.via rfl rfl rfl)) Within.nil)))))))

theorem heldFrameTaken_within {m : Mask}
    (hm : Mask.Le ⟨0x3fddffbf, 0x700001e00a041ff00c00e001d3fee617ff8007360661201820cd5fb0, 0x1607a0003e0278f8001ffe003800100003f17c00030127ffff065944088000100⟩ m) {p : Nat} {h : HeldFrame} {f : Frame} :
    Eff.Within tables m (@heldFrameTaken p h f) := by
  unfold heldFrameTaken
  exact (by (try dsimp only); split; exacts [(mkpduArrives_within (hm.via rfl rfl rfl)),
    (Within.ite (pduServed_within (hm.via rfl rfl rfl)) (Within.ite (fragmentArrives_within (hm.via rfl rfl rfl)) (ingressFrame_within (hm.via rfl rfl rfl))))])

theorem wakeFrame_within {m : Mask}
    (hm : Mask.Le ⟨0x3fddffbf, 0x700001e00a041ff00c00e001d3fee617ff811f360661201820cd5fb0, 0x1607a0003e0278f8001ffe003800100003f17c00030127ffff0e5944088800173⟩ m) {g : Nat} {p : Nat} {h : HeldFrame} :
    Eff.Within tables m (@wakeFrame g p h) := by
  unfold wakeFrame
  exact (Within.seq (Within.count (Ctr.grove (hm.ctr (by decide +kernel)))) (Within.whenS (bufferedFrame_within
    (hm.via rfl rfl rfl) (fun _ => (heldFrameTaken_within (hm.via rfl rfl rfl))))))

theorem groveRuns_within {m : Mask}
    (hm : Mask.Le ⟨0x3fddffbf, 0x700001e00a041ff00c00e003d3fee617ff811f360661201820cd5fb0, 0x1607a0003f4278f8001ffe003800100003f17c00030127ffff0ed97d888800173⟩ m) {g : Nat} :
    Eff.Within tables m (@groveRuns g) := by
  unfold groveRuns
  exact (Within.look (fun _ => (Within.when (Within.cons (setGrove_within (hm.via rfl rfl rfl)) (Within.cons (Within.upd
    (hm.parts' [.power] (by decide +kernel))) (Within.cons (Within.forEach (fun _ => (startTask_within (hm.via rfl rfl rfl))))
    (Within.cons (Within.forEach (fun _ => (wakeFrame_within (hm.via rfl rfl rfl)))) (Within.cons (Within.look (fun _ =>
    (Within.forEach (fun _ => (Within.seq (verifyGoesOn_within (hm.via rfl rfl rfl)) (kick_within
    (hm.via rfl rfl rfl))))))) Within.nil))))))))

theorem groveWakeEnds_within {m : Mask}
    (hm : Mask.Le ⟨0x3fddffbf, 0x700001e00a041ff00c00e003d3fee617ff811f360661201820cd5fb0, 0x1607a0003f4278f8001ffe003800100003f17c00030127ffff0ed97d888800173⟩ m) {g : Nat} :
    Eff.Within tables m (@groveWakeEnds g) := by
  unfold groveWakeEnds
  exact (Within.whenS (groveRuns_within (hm.via rfl rfl rfl)))

theorem engineReturns_within {m : Mask} (hm : Mask.Le ⟨0x4000, 0x0, 0x0⟩ m) {e : Nat} :
    Eff.Within tables m (@engineReturns e) := by
  unfold engineReturns
  exact (Within.whenS (Within.upd (hm.parts' [.messages] (by decide +kernel))))

theorem domainReturns_within {m : Mask}
    (hm : Mask.Le ⟨0x3fddffbf, 0x700001e00a041ff00c00e003d3fee617ff811f360661201820cd5fb0, 0x1607a0003f4278f8001ffe003800100003f17c00030127ffff0ed97d888800173⟩ m) {d : Domain} :
    Eff.Within tables m (@domainReturns d) := by
  unfold domainReturns
  exact
    (by (try dsimp only); split; exacts [(Within.seq (portStart_within (hm.via rfl rfl rfl)) (gatesNow_within (hm.via rfl rfl rfl))),
    (engineReturns_within (hm.via rfl rfl rfl)), (Within.whenS (groveRuns_within (hm.via rfl rfl rfl))),
    (Within.upd (hm.parts' [.image] (by decide +kernel)))])

theorem execGroveRunning_effect {grove : Nat} {s : State} : ∃ e, @execGroveRunning grove s = done e s ∧ Eff.Within tables ⟨0x3fddffbf, 0x700001e00a041ff00c00e003d3fee617ff811f360661201820cd5fb0, 0x1607a0003f4278f8001ffe003800100003f17c00030127ffff0ed97d888800173⟩ e :=
  have hm := Mask.Le.refl ⟨0x3fddffbf, 0x700001e00a041ff00c00e003d3fee617ff811f360661201820cd5fb0, 0x1607a0003f4278f8001ffe003800100003f17c00030127ffff0ed97d888800173⟩
  ⟨_, rfl, (operating_within (hm.via rfl rfl rfl) (groveWakeEnds_within (hm.via rfl rfl rfl)))⟩

theorem execPartsVerified_effect {s : State} : ∃ e, @execPartsVerified s = done e s ∧ Eff.Within tables ⟨0x3fddffbf, 0x700001e80a041ff00c00e0004000e612478007360661201820cd5fb4, 0x160120003e0208e0001ffe003800100001f178000300200000065944088000100⟩ e :=
  have hm := Mask.Le.refl ⟨0x3fddffbf, 0x700001e80a041ff00c00e0004000e612478007360661201820cd5fb4, 0x160120003e0208e0001ffe003800100001f178000300200000065944088000100⟩
  ⟨_, rfl, (partsStreamed_within (hm.via rfl rfl rfl))⟩

theorem execBootImageCommitted_effect {s : State} : ∃ e, @execBootImageCommitted s = done e s ∧ Eff.Within tables ⟨0x3f99ffb7, 0x700001e02e001e000c00e0004000e6120780073600613018204d40f4, 0x160020003e000880001c06003800100001f190000300200000065944088000100⟩ e :=
  have hm := Mask.Le.refl ⟨0x3f99ffb7, 0x700001e02e001e000c00e0004000e6120780073600613018204d40f4, 0x160020003e000880001c06003800100001f190000300200000065944088000100⟩
  ⟨_, rfl, (bootCommitted_within (hm.via rfl rfl rfl))⟩

theorem execDomainRestartComplete_effect {domain : Domain} {s : State} : ∃ e, @execDomainRestartComplete domain s = done e s ∧ Eff.Within tables ⟨0x3fddffbf, 0x700001e00a041ff00c00e003d3fee617ff811f360661201820cd5fb0, 0x1607a0003f4278f8001ffe003800100003f17c00030127ffff0ed97d888800173⟩ e :=
  have hm := Mask.Le.refl ⟨0x3fddffbf, 0x700001e00a041ff00c00e003d3fee617ff811f360661201820cd5fb0, 0x1607a0003f4278f8001ffe003800100003f17c00030127ffff0ed97d888800173⟩
  ⟨_, rfl, (operating_within (hm.via rfl rfl rfl) (domainReturns_within (hm.via rfl rfl rfl)))⟩

/-! ## Coppice -/

theorem sendChunk_within {m : Mask}
    (hm : Mask.Le ⟨0x20800080, 0x0, 0x3000000000000000000000000000000100000000000000000000000000000⟩ m) {parts : List SnapPart} {last : Bool} :
    Eff.Within tables m (@sendChunk parts last) := by
  unfold sendChunk
  exact (Within.look (fun _ => (Within.seq (Within.countN (hm.ctr (by decide +kernel))) (sendOnStack_within
    (hm.via rfl rfl rfl)))))

theorem coppiceAsked_within {m : Mask}
    (hm : Mask.Le ⟨0x20880080, 0x2000000000000000000000000000000000000000000000, 0xf000000000000000000000000000000100000000000000000000000000000⟩ m) {firmware : Nat} {digests : List Nat} :
    Eff.Within tables m (@coppiceAsked firmware digests) := by
  unfold coppiceAsked
  exact (Within.look (fun _ => (Within.when (stackArrives_within (hm.via rfl rfl rfl) (Within.when (Within.ite (sendChunk_within
    (hm.via rfl rfl rfl)) (Within.upd (hm.parts' [.twin] (by decide +kernel)))))))))

theorem takeSnapshot_within {m : Mask}
    (hm : Mask.Le ⟨0x20880080, 0x0, 0x3200000000000000000000000000000100000000000000000000000000000⟩ m) :
    Eff.Within tables m takeSnapshot := by
  unfold takeSnapshot
  exact (Within.look (fun _ => (Within.when (Within.cons (raise_within (hm.via rfl rfl rfl)) (Within.cons (Within.count
    (hm.ctr (by decide +kernel))) (Within.cons (Within.upd (hm.parts' [.twin] (by decide +kernel))) (Within.cons
    (Within.forEach (fun _ => (sendChunk_within (hm.via rfl rfl rfl)))) Within.nil)))))))

theorem sendLog_within {m : Mask}
    (hm : Mask.Le ⟨0x20880080, 0x0, 0x2000000000000000000000000000000100000000000000000000000000000⟩ m) {before : State} {c : Nat} :
    Eff.Within tables m (@sendLog before c) := by
  unfold sendLog
  exact (Within.look (fun _ => (Within.when (Within.seq (sendOnStack_within (hm.via rfl rfl rfl)) (Within.upd
    (hm.parts' [.twin] (by decide +kernel)))))))

theorem loadImage_within {m : Mask}
    (hm : Mask.Le ⟨0x3fddffbf, 0x700001e00a041ff00c00e0004000e612478007360661201820cd5fb0, 0x160120003e020880001ffe003800100001f178000300200000065944088000100⟩ m) {b : Bytes} :
    Eff.Within tables m (@loadImage b) := by
  unfold loadImage
  exact (Within.look (fun _ =>
    (by (try dsimp only); split; exacts [(Within.seq (restoreDefaults_within (hm.via rfl rfl rfl)) (imageTakes_within (hm.via rfl rfl rfl))),
    (Within.seq (imageResult_within (hm.via rfl rfl rfl)) (Within.count (hm.ctr (by decide +kernel))))])))

theorem loadPart_within {m : Mask} (hm : Mask.Le ⟨0x804010, 0xe00000000000000000000000000000000000, 0x0⟩ m) {p : SnapPart} :
    Eff.Within tables m (@loadPart p) := by
  unfold loadPart
  exact (by (try dsimp only); split; exacts [Within.skip, Within.skip, (Within.upd (hm.parts' [.buffers] (by decide +kernel))),
    (Within.upd (hm.parts' [.buffers] (by decide +kernel))), (setTransaction_within (hm.via rfl rfl rfl)),
    (Within.upd (hm.parts' [.messages] (by decide +kernel))), (Within.upd (hm.parts' [.messages] (by decide +kernel))),
    (Within.upd (hm.parts' [.kiln] (by decide +kernel)))])

theorem loadSnapshot_within {m : Mask}
    (hm : Mask.Le ⟨0x3fddffbf, 0x700001e40a041ff00c00e0004000e612478007360661201820cd5fb0, 0x160120003e020880001ffe003800100001f178000300200000065944088000100⟩ m) {parts : List SnapPart} :
    Eff.Within tables m (@loadSnapshot parts) := by
  unfold loadSnapshot
  exact (Within.cons (loadImage_within (hm.via rfl rfl rfl)) (Within.cons (Within.upd (hm.parts' [.buffers] (by decide +kernel)))
    (Within.cons (Within.upd (hm.parts' [.buffers] (by decide +kernel))) (Within.cons (Within.upd
    (hm.parts' [.messages] (by decide +kernel))) (Within.cons (Within.forEach (fun _ => (loadPart_within
    (hm.via rfl rfl rfl)))) (Within.cons (Within.upd (hm.parts' [.twin] (by decide +kernel))) (Within.cons (Within.setN
    (hm.obj (by decide +kernel))) Within.nil)))))))

theorem chunkArrives_within {m : Mask}
    (hm : Mask.Le ⟨0x3fddffbf, 0x700001e40a241ff00c00e0004000e612478007360661201820cd5fb0, 0x1601e8003e020880001ffe003800100001f178000300200000065944088000100⟩ m) {parts : List SnapPart} {last : Bool} :
    Eff.Within tables m (@chunkArrives parts last) := by
  unfold chunkArrives
  exact (Within.look (fun _ => (Within.when (stackArrives_within (hm.via rfl rfl rfl) (Within.when (Within.ite
    (coppiceFails_within (hm.via rfl rfl rfl)) (Within.ite (loadSnapshot_within (hm.via rfl rfl rfl)) (Within.upd
    (hm.parts' [.twin] (by decide +kernel))))))))))

theorem logArrives_within {m : Mask}
    (hm : Mask.Le ⟨0x20880080, 0x4022000000000000000000000000000000000000000000000, 0xe800000000000000000000000000000100000000000000000000000000000⟩ m) {x : LogCycle} :
    Eff.Within tables m (@logArrives x) := by
  unfold logArrives
  exact (Within.look (fun _ => (Within.when (stackArrives_within (hm.via rfl rfl rfl) (Within.when (Within.ite (Within.cons
    (raise_within (hm.via rfl rfl rfl)) (Within.cons (Within.count (hm.ctr (by decide +kernel))) (Within.cons
    (requestCoppice_within (hm.via rfl rfl rfl)) Within.nil))) (Within.upd (hm.parts' [.twin] (by decide +kernel)))))))))

theorem replayRun_within {m : Mask}
    (hm : Mask.Le ⟨0x3999feb0, 0x300001e002001e000c07fffa00000000018007360000001020000010, 0x160020003f400000001c06003800000001f103ffff00000000060ffef08000100⟩ m) {mirrors : List MirrorMsg} {r : ReplayRun} :
    Eff.Within tables m (@replayRun mirrors r) := by
  unfold replayRun
  exact (Within.look (fun _ => (Within.cons (Within.upd (hm.parts' [.messages] (by decide +kernel))) (Within.cons
    (nextSerial_within (hm.via rfl rfl rfl)) (Within.cons (beginTask_within (hm.via rfl rfl rfl)) (Within.cons
    (finishTask_within (hm.via rfl rfl rfl)) (Within.cons (Within.look (fun _ => (Within.ofOption (fun _ =>
    (acceptResult_within (hm.via rfl rfl rfl)))))) Within.nil)))))))

theorem replayViews_within {m : Mask} (hm : Mask.Le ⟨0x4800, 0x0, 0x0⟩ m) {views : List ViewData} :
    Eff.Within tables m (@replayViews views) := by
  unfold replayViews
  exact (Within.forEach (fun _ => (Within.seq (nextSerial_within (hm.via rfl rfl rfl)) (Within.look (fun _ => (Within.ofOption
    (fun _ => (Within.upd (hm.parts' [.ring] (by decide +kernel))))))))))

theorem replayCycle_within {m : Mask}
    (hm : Mask.Le ⟨0x3999feb0, 0x300001e002001e000c07fffa00000000018007360000001020000010, 0x160020003f400000001c06003800000001f103ffff00000000060ffef08000100⟩ m) {x : LogCycle} :
    Eff.Within tables m (@replayCycle x) := by
  unfold replayCycle
  exact (Within.seq (Within.look (fun _ => (Within.forEach (fun _ => (replayRun_within (hm.via rfl rfl rfl))))))
    (replayViews_within (hm.via rfl rfl rfl)))

theorem replayLog_within {m : Mask}
    (hm : Mask.Le ⟨0x3999feb0, 0x300001e002001e000c07fffa00000000018007360000001020000010, 0x160020003f400000001c06003800000001f103ffff00000000060ffef08000100⟩ m) :
    Eff.Within tables m replayLog := by
  unfold replayLog
  exact (Within.look (fun _ => (Within.cons (replayViews_within (hm.via rfl rfl rfl)) (Within.cons (Within.forEach (fun _ =>
    (replayCycle_within (hm.via rfl rfl rfl)))) (Within.cons (Within.upd (hm.parts' [.ring] (by decide +kernel))) (Within.cons
    (Within.upd (hm.parts' [.messages] (by decide +kernel))) Within.nil))))))

theorem coppiceEnds_within {m : Mask}
    (hm : Mask.Le ⟨0x3999feb0, 0x300001e402201e000c07fffa00000000018007360000001020000010, 0x1600e4003f400000001c06003800000001f103ffff00000000060ffef08000100⟩ m) :
    Eff.Within tables m coppiceEnds := by
  unfold coppiceEnds
  exact (Within.look (fun _ => (Within.ite (Within.cons (replayLog_within (hm.via rfl rfl rfl)) (Within.cons (sendStack_within
    (hm.via rfl rfl rfl)) (Within.cons (Within.setN (hm.obj (by decide +kernel))) (Within.cons (Within.upd
    (hm.parts' [.twin] (by decide +kernel))) (Within.cons (setTwinState_within (hm.via rfl rfl rfl)) Within.nil)))))
    (by (try dsimp only); split; exacts [(Within.when (stackArrives_within (hm.via rfl rfl rfl) (Within.cons (Within.upd (hm.parts' [.twin] (by decide +kernel))) (Within.cons (raise_within (hm.via rfl rfl rfl)) (Within.cons (Within.count (hm.ctr (by decide +kernel))) (Within.cons (setTwinState_within (hm.via rfl rfl rfl)) Within.nil)))))),
    Within.skip]))))

theorem coppiceTimesOut_within {m : Mask}
    (hm : Mask.Le ⟨0x80080, 0x20000000000000000000000000000000000000000000000, 0x800000000000000000000000000000100000000000000000000000000000⟩ m) :
    Eff.Within tables m coppiceTimesOut := by
  unfold coppiceTimesOut
  exact (Within.look (fun _ => (Within.ite Within.skip (Within.ite (coppiceFails_within (hm.via rfl rfl rfl)) (Within.upd
    (hm.parts' [.twin] (by decide +kernel)))))))

theorem execCoppiceRequest_effect {firmware : Nat} {digests : List Nat} {s : State} : ∃ e, @execCoppiceRequest firmware digests s = done e s ∧ Eff.Within tables ⟨0x20880080, 0x2000000000000000000000000000000000000000000000, 0xf000000000000000000000000000000100000000000000000000000000000⟩ e :=
  have hm := Mask.Le.refl ⟨0x20880080, 0x2000000000000000000000000000000000000000000000, 0xf000000000000000000000000000000100000000000000000000000000000⟩
  ⟨_, rfl, (operating_within (hm.via rfl rfl rfl) (coppiceAsked_within (hm.via rfl rfl rfl)))⟩

theorem execCoppiceSnapshot_effect {s : State} : ∃ e, @execCoppiceSnapshot s = done e s ∧ Eff.Within tables ⟨0x20880080, 0x0, 0x3200000000000000000000000000000100000000000000000000000000000⟩ e :=
  have hm := Mask.Le.refl ⟨0x20880080, 0x0, 0x3200000000000000000000000000000100000000000000000000000000000⟩
  ⟨_, rfl, (operating_within (hm.via rfl rfl rfl) (takeSnapshot_within (hm.via rfl rfl rfl)))⟩

theorem execSnapshotChunk_effect {parts : List SnapPart} {last : Bool} {s : State} : ∃ e, @execSnapshotChunk parts last s = done e s ∧ Eff.Within tables ⟨0x3fddffbf, 0x700001e40a241ff00c00e0004000e612478007360661201820cd5fb0, 0x1601e8003e020880001ffe003800100001f178000300200000065944088000100⟩ e :=
  have hm := Mask.Le.refl ⟨0x3fddffbf, 0x700001e40a241ff00c00e0004000e612478007360661201820cd5fb0, 0x1601e8003e020880001ffe003800100001f178000300200000065944088000100⟩
  ⟨_, rfl, (operating_within (hm.via rfl rfl rfl) (chunkArrives_within (hm.via rfl rfl rfl)))⟩

theorem execLogChunk_effect {cycle : Nat} {mirrors : List MirrorMsg} {views : List ViewData} {s : State} : ∃ e, @execLogChunk cycle mirrors views s = done e s ∧ Eff.Within tables ⟨0x20880080, 0x4022000000000000000000000000000000000000000000000, 0xe800000000000000000000000000000100000000000000000000000000000⟩ e :=
  have hm := Mask.Le.refl ⟨0x20880080, 0x4022000000000000000000000000000000000000000000000, 0xe800000000000000000000000000000100000000000000000000000000000⟩
  ⟨_, rfl, (operating_within (hm.via rfl rfl rfl) (logArrives_within (hm.via rfl rfl rfl)))⟩

theorem execCoppiceDone_effect {s : State} : ∃ e, @execCoppiceDone s = done e s ∧ Eff.Within tables ⟨0x3999feb0, 0x300001e402201e000c07fffa00000000018007360000001020000010, 0x1600e4003f400000001c06003800000001f103ffff00000000060ffef08000100⟩ e :=
  have hm := Mask.Le.refl ⟨0x3999feb0, 0x300001e402201e000c07fffa00000000018007360000001020000010, 0x1600e4003f400000001c06003800000001f103ffff00000000060ffef08000100⟩
  ⟨_, rfl, (operating_within (hm.via rfl rfl rfl) (coppiceEnds_within (hm.via rfl rfl rfl)))⟩

theorem execCoppiceTimeout_effect {s : State} : ∃ e, @execCoppiceTimeout s = done e s ∧ Eff.Within tables ⟨0x80080, 0x20000000000000000000000000000000000000000000000, 0x800000000000000000000000000000100000000000000000000000000000⟩ e :=
  have hm := Mask.Le.refl ⟨0x80080, 0x20000000000000000000000000000000000000000000000, 0x800000000000000000000000000000100000000000000000000000000000⟩
  ⟨_, rfl, (operating_within (hm.via rfl rfl rfl) (coppiceTimesOut_within (hm.via rfl rfl rfl)))⟩

/-! ## Cycle -/

theorem noteReports_within {m : Mask} (hm : Mask.Le ⟨0x4000, 0x0, 0x0⟩ m) :
    Eff.Within tables m noteReports := by
  unfold noteReports
  exact (Within.look (fun _ => (Within.upd (hm.parts' [.messages] (by decide +kernel)))))

theorem cycleEnds_within {m : Mask}
    (hm : Mask.Le ⟨0x2006080, 0x400000000000000000000000000000000, 0x100000000000000000000000000000000100000000000000000000000000000⟩ m) {c : Nat} :
    Eff.Within tables m (@cycleEnds c) := by
  unfold cycleEnds
  exact (Within.look (fun _ => (Within.cons (freezeItems_within (hm.via rfl rfl rfl)) (Within.cons (engineLoads_within
    (hm.via rfl rfl rfl)) (Within.cons (thresholdsEnd_within (hm.via rfl rfl rfl)) (Within.cons (Within.upd
    (hm.parts' [.events] (by decide +kernel))) (Within.cons (Within.when (Within.seq (Within.upd
    (hm.parts' [.events] (by decide +kernel))) (Within.upd (hm.parts' [.events] (by decide +kernel))))) Within.nil)))))))

theorem deliverSections_within {m : Mask} (hm : Mask.Le ⟨0x8004090, 0x0, 0x10000000000000006c000000000000⟩ m) :
    Eff.Within tables m deliverSections := by
  unfold deliverSections
  exact (Within.seq (sectionImages_within (hm.via rfl rfl rfl)) (Within.look (fun _ => (Within.forEach (fun _ =>
    (groveLate_within (hm.via rfl rfl rfl)))))))

theorem isolationFollows_within {m : Mask} (hm : Mask.Le ⟨0x2800e280, 0x1800000000, 0x100000000000000060000000000000⟩ m) :
    Eff.Within tables m isolationFollows := by
  unfold isolationFollows
  exact (Within.whenS (Within.cons (Within.upd (hm.parts' [.power] (by decide +kernel))) (Within.cons (applyPolicies_within
    (hm.via rfl rfl rfl)) (Within.cons (showRoles_within (hm.via rfl rfl rfl)) Within.nil))))

theorem boundary_within {m : Mask}
    (hm : Mask.Le ⟨0x3f99feb0, 0x300001e1be001e0000000004000000000180073793af0018274c0010, 0x1610201b3e000000001c06003896060001f10000000080000006c800008000100⟩ m) {c : Nat} :
    Eff.Within tables m (@boundary c) := by
  unfold boundary
  exact (Within.look (fun _ => (Within.cons (cycleEnds_within (hm.via rfl rfl rfl)) (Within.cons (laneShapers_within
    (hm.via rfl rfl rfl)) (Within.cons (Within.setN (hm.obj (by decide +kernel))) (Within.cons (ringBoundary_within
    (hm.via rfl rfl rfl)) (Within.cons (countSource_within (hm.via rfl rfl rfl)) (Within.cons (leaseBoundary_within
    (hm.via rfl rfl rfl)) (Within.cons (deliverSections_within (hm.via rfl rfl rfl)) (Within.cons (healthBoundary_within
    (hm.via rfl rfl rfl)) (Within.cons (forwardViews_within (hm.via rfl rfl rfl)) (Within.cons (sendLog_within
    (hm.via rfl rfl rfl)) (Within.cons (Within.whenS (sampleQueues_within (hm.via rfl rfl rfl))) (Within.cons
    (noteReports_within (hm.via rfl rfl rfl)) (Within.cons (isolationFollows_within
    (hm.via rfl rfl rfl)) Within.nil)))))))))))))))

theorem cycleAdvances_within {m : Mask}
    (hm : Mask.Le ⟨0x3f99feb0, 0x300001e1be001e0000000004000000000180073793af0018274c0010, 0x1610201b3e000000001c06003896060001f10000000080000006c800008000100⟩ m) :
    Eff.Within tables m cycleAdvances := by
  unfold cycleAdvances
  exact (Within.look (fun _ => (boundary_within (hm.via rfl rfl rfl))))

theorem modeBecomes_within {μ : Mask}
    (hm : Mask.Le ⟨0x3800fa81, 0x3000000000000000000000004000fffa060000200010000000000000, 0x16000000000000000000000000000000000100000000200000065000080000000⟩ μ) {m : Nat} :
    Eff.Within tables μ (@modeBecomes m) := by
  unfold modeBecomes
  exact (Within.cons (switchMode_within (hm.via rfl rfl rfl)) (Within.cons (Within.look (fun _ => (Within.forEach (fun _ =>
    (segmentFollows_within (hm.via rfl rfl rfl)))))) (Within.cons (enginesAtModeSwitch_within (hm.via rfl rfl rfl))
    (Within.cons (gatesFollowMode_within (hm.via rfl rfl rfl)) (Within.cons (Within.forEach (fun _ => (wakeGrove_within
    (hm.via rfl rfl rfl)))) (Within.cons (applyPolicies_within (hm.via rfl rfl rfl)) (Within.cons (noteReports_within
    (hm.via rfl rfl rfl)) Within.nil)))))))

theorem modeSwitches_within {m : Mask}
    (hm : Mask.Le ⟨0x3f99feb7, 0x700001e00a001e000c00e0004000fffa0780073602302018204d40f0, 0x160020003e000880001c06003820000001f190000300200000065944088000100⟩ m) :
    Eff.Within tables m modeSwitches := by
  unfold modeSwitches
  exact (Within.look (fun _ =>
    (by (try dsimp only); split; exacts [(Within.when (Within.cons (Within.whenS (sealedApplies_within (hm.via rfl rfl rfl))) (Within.cons (modeBecomes_within (hm.via rfl rfl rfl)) (Within.cons (raise_within (hm.via rfl rfl rfl)) (Within.cons (Within.count (hm.ctr (by decide +kernel))) (Within.cons (Within.when (Within.setN (hm.obj (by decide +kernel)))) Within.nil)))))),
    Within.skip])))

theorem modeAdopts_within {m : Mask}
    (hm : Mask.Le ⟨0x3800fa81, 0x3000000000000000000000004000fffa060000200010000000000000, 0x16000000000000000000000000000000000100000000200000065000080000000⟩ m) :
    Eff.Within tables m modeAdopts := by
  unfold modeAdopts
  exact (Within.look (fun _ => (Within.ofOption (fun _ => (Within.when (Within.ite (Within.upd
    (hm.parts' [.ring] (by decide +kernel))) (modeBecomes_within (hm.via rfl rfl rfl))))))))

theorem segmentModeSwitches_within {m : Mask}
    (hm : Mask.Le ⟨0xf281, 0x200000000000000000, 0x100000000000000000000010000000⟩ m) {p : Nat} :
    Eff.Within tables m (@segmentModeSwitches p) := by
  unfold segmentModeSwitches
  exact (Within.look (fun _ => (Within.when (Within.seq (segmentMoves_within (hm.via rfl rfl rfl) (segmentSwitch_within
    (hm.via rfl rfl rfl))) (enginesAtSegmentSwitch_within (hm.via rfl rfl rfl))))))

theorem stagingApplies_within {m : Mask}
    (hm : Mask.Le ⟨0x3f99feb7, 0x700001e00a001e000c00e0004000e6120780073600202018204d40f0, 0x160020003e000880001c06003800000001f190000300200000065944088000100⟩ m) :
    Eff.Within tables m stagingApplies := by
  unfold stagingApplies
  exact (Within.whenS (Within.seq (sealedApplies_within (hm.via rfl rfl rfl)) (noteReports_within (hm.via rfl rfl rfl))))

theorem execStagingSetApply_effect {s : State} : ∃ e, @execStagingSetApply s = done e s ∧ Eff.Within tables ⟨0x3f99feb7, 0x700001e00a001e000c00e0004000e6120780073600202018204d40f0, 0x160020003e000880001c06003800000001f190000300200000065944088000100⟩ e :=
  have hm := Mask.Le.refl ⟨0x3f99feb7, 0x700001e00a001e000c00e0004000e6120780073600202018204d40f0, 0x160020003e000880001c06003800000001f190000300200000065944088000100⟩
  ⟨_, rfl, (operating_within (hm.via rfl rfl rfl) (stagingApplies_within (hm.via rfl rfl rfl)))⟩

theorem execCycleBoundary_effect {s : State} : ∃ e, @execCycleBoundary s = done e s ∧ Eff.Within tables ⟨0x3f99feb0, 0x300001e1be001e0000000004000000000180073793af0018274c0010, 0x1610201b3e000000001c06003896060001f10000000080000006c800008000100⟩ e :=
  have hm := Mask.Le.refl ⟨0x3f99feb0, 0x300001e1be001e0000000004000000000180073793af0018274c0010, 0x1610201b3e000000001c06003896060001f10000000080000006c800008000100⟩
  ⟨_, rfl, (operating_within (hm.via rfl rfl rfl) (cycleAdvances_within (hm.via rfl rfl rfl)))⟩

theorem execModeSwitch_effect {s : State} : ∃ e, @execModeSwitch s = done e s ∧ Eff.Within tables ⟨0x3f99feb7, 0x700001e00a001e000c00e0004000fffa0780073602302018204d40f0, 0x160020003e000880001c06003820000001f190000300200000065944088000100⟩ e :=
  have hm := Mask.Le.refl ⟨0x3f99feb7, 0x700001e00a001e000c00e0004000fffa0780073602302018204d40f0, 0x160020003e000880001c06003820000001f190000300200000065944088000100⟩
  ⟨_, rfl, (operating_within (hm.via rfl rfl rfl) (modeSwitches_within (hm.via rfl rfl rfl)))⟩

theorem execModeAdopt_effect {s : State} : ∃ e, @execModeAdopt s = done e s ∧ Eff.Within tables ⟨0x3800fa81, 0x3000000000000000000000004000fffa060000200010000000000000, 0x16000000000000000000000000000000000100000000200000065000080000000⟩ e :=
  have hm := Mask.Le.refl ⟨0x3800fa81, 0x3000000000000000000000004000fffa060000200010000000000000, 0x16000000000000000000000000000000000100000000200000065000080000000⟩
  ⟨_, rfl, (operating_within (hm.via rfl rfl rfl) (modeAdopts_within (hm.via rfl rfl rfl)))⟩

theorem execSegmentModeSwitch_effect {port : Nat} {s : State} : ∃ e, @execSegmentModeSwitch port s = done e s ∧ Eff.Within tables ⟨0xf281, 0x200000000000000000, 0x100000000000000000000010000000⟩ e :=
  have hm := Mask.Le.refl ⟨0xf281, 0x200000000000000000, 0x100000000000000000000010000000⟩
  ⟨_, rfl, (operating_within (hm.via rfl rfl rfl) (segmentModeSwitches_within (hm.via rfl rfl rfl)))⟩

/-! ## Idle -/

theorem notify_within {m : Mask}
    (hm : Mask.Le ⟨0x1800b280, 0x3000020000000000000000004000e002000000000000000000000000, 0x16000000000000000000000000000000000d00000000200000065000080000000⟩ m) {row : Nat} {e : EventRecord} :
    Eff.Within tables m (@notify row e) := by
  unfold notify
  exact (Within.look (fun _ => (Within.ite (Within.seq (Within.count (hm.ctr (by decide +kernel))) (Within.bumpObj
    (hm.obj (by decide +kernel)))) (Within.cons (Within.upd (hm.parts' [.events] (by decide +kernel))) (Within.cons
    (Within.count (hm.ctr (by decide +kernel))) (Within.cons (pduReply_within (hm.via rfl rfl rfl)) Within.nil))))))

theorem deliverEvent_within {m : Mask}
    (hm : Mask.Le ⟨0x3806b280, 0x300002000001e008000000004000e002000000000000000000000000, 0x160000000000000001e0000030000000000d00000000200000065000080000000⟩ m) {e : EventRecord} :
    Eff.Within tables m (@deliverEvent e) := by
  unfold deliverEvent
  exact (Within.look (fun _ => (Within.seq (Within.when (queueWrite_within (hm.via rfl rfl rfl))) (Within.forEach (fun _ =>
    (notify_within (hm.via rfl rfl rfl)))))))

theorem deliverEvents_within {m : Mask} (hm : Mask.Le ⟨0x3806b280, 0x300002000001e008000000004000e002000000000000000000000000, 0x160000000000000001e0000030000000000d00000000200000065000080000000⟩ m) {n : Nat} :
    Eff.Within tables m (deliverEvents n) := by
  induction n with
  | zero => exact Within.skip
  | succ n ih =>
    unfold deliverEvents
    exact Within.look fun _ => by
      split
      · exact Within.skip
      · exact Within.cons (Within.upd (hm.parts' [.events] (by decide +kernel))) (Within.cons (deliverEvent_within (hm.via rfl rfl rfl))
          (Within.cons ih Within.nil))

theorem canopyTick_within {m : Mask} (hm : Mask.Le ⟨0x4000000, 0x0, 0x0⟩ m) :
    Eff.Within tables m canopyTick := by
  unfold canopyTick
  exact (Within.whenS (Within.upd (hm.parts' [.canopy] (by decide +kernel))))

theorem idle_within {m : Mask}
    (hm : Mask.Le ⟨0x3c06b380, 0x300002000001e008000000004000e002000000000000000000000000, 0x160000000000000001e0000030000000000d00000000200000065000080000100⟩ m) :
    Eff.Within tables m idle := by
  unfold idle
  exact (Within.cons (powered_within (hm.via rfl rfl rfl) (deliverEvents_within (hm.via rfl rfl rfl))) (Within.cons (Within.whenS
    (Within.upd (hm.parts' [.clock, .segments] (by decide +kernel)))) (Within.cons (canopyTick_within (hm.via rfl rfl rfl))
    (Within.cons (Within.whenS (Within.seq (timedCuts_within (hm.via rfl rfl rfl)) (Within.look (fun _ => (Within.forEach
    (fun _ => (mediumTick_within (hm.via rfl rfl rfl)))))))) Within.nil))))

end Sys2Proof.Machine
end

