-- ==== Sys2Proof/Laws/Frames.lean ====
section
/-! SUPPORT. From the mask of a command's effect to its footprint's frame. -/

namespace Sys2Proof.Machine

/-- All parts. -/
def allParts : List Part :=
  [.dict, .staging, .clampLog, .mailbox, .buffers, .image, .counters, .events, .clock, .time, .pins, .ring, .segments,
   .traffic, .messages, .txRings, .rxRings, .queues, .functions, .twin, .mismatchLog, .otp, .flash, .kiln, .faults, .reader,
   .canopy, .power, .free, .out]

theorem mem_allParts (p : Part) : p ∈ allParts := by cases p <;> simp [allParts]

/-- Whether a footprint covers a mask: parts in parts, regions in regions, ranges in ranges. -/
def coversMask (t : Tables) (fp : Footprint) (m : Mask) : Bool :=
  (allParts.all fun p => !m.parts.testBit p.bit || fp.parts.contains p) &&
  (fp.parts.contains .dict || (members t.regions m.objects).all fun r => fp.objects.any fun q =>
    Nat.ble q.lo r.lo && Nat.ble r.hi q.hi && (q.sub == none || q.sub == r.sub)) &&
  (fp.parts.contains .counters || (members t.ranges m.counters).all fun r => fp.counters.any fun q =>
    Nat.ble q.1 r.1 && Nat.ble r.2 q.2)

/-- An update within a mask that a footprint covers changes nothing outside the footprint. -/
theorem Eff.frames_of_covers {t : Tables} {fp : Footprint} {m : Mask} {e : Eff} (hc : coversMask t fp m = true)
    (he : e.Within t m) (s : State) : fp.Frames s (e.run s) := by
  simp only [coversMask, Bool.and_eq_true, Bool.or_eq_true, List.all_eq_true, List.any_eq_true, Nat.ble_eq, beq_iff_eq,
    Bool.not_eq_true'] at hc
  obtain ⟨⟨hp, ho⟩, hr⟩ := hc
  -- the mask's own members as a footprint
  have hf := Eff.frames (fp := ⟨allParts.filter fun p => m.parts.testBit p.bit, members t.regions m.objects,
    members t.ranges m.counters⟩) (t := t) (m := m)
    ⟨fun p h => List.mem_filter.2 ⟨mem_allParts p, h⟩, fun r h => h, fun r h => h⟩ he s
  have hparts : ∀ p, p ∉ fp.parts → m.parts.testBit p.bit = false := by
    intro p h
    rcases hp p (mem_allParts p) with h1 | h1
    · exact h1
    · rw [List.contains_eq_mem] at h1
      exact absurd (by simpa using h1) h
  refine ⟨?_, ?_, ?_, hf.pending⟩
  · intro k hk
    unfold Footprint.object at hk
    rw [Bool.or_eq_false_iff] at hk
    apply hf.objects
    unfold Footprint.object
    rw [Bool.or_eq_false_iff]
    have hnd : Part.dict ∉ fp.parts := by
      have := hk.1
      rw [List.contains_eq_mem] at this
      simpa using this
    refine ⟨?_, ?_⟩
    · rw [List.contains_eq_mem]
      simp only [decide_eq_false_iff_not, List.mem_filter, not_and]
      intro _
      simp [hparts _ hnd]
    · rw [List.any_eq_false]
      intro r hr' hcov
      rcases ho with ho | ho
      · rw [List.contains_eq_mem] at ho
        exact hnd (by simpa using ho)
      · obtain ⟨q, hq, ⟨h1, h2⟩, h3⟩ := ho r hr'
        have := hk.2
        rw [List.any_eq_false] at this
        apply this q hq
        unfold Region.covers at hcov ⊢
        simp only [Bool.and_eq_true, decide_eq_true_eq] at hcov ⊢
        refine ⟨⟨Nat.le_trans h1 hcov.1.1, Nat.le_trans hcov.1.2 h2⟩, ?_⟩
        rcases h3 with h3 | h3
        · rw [h3]
        · rw [h3]
          exact hcov.2
  · intro i hi
    unfold Footprint.counter at hi
    rw [Bool.or_eq_false_iff] at hi
    apply hf.counters
    unfold Footprint.counter
    rw [Bool.or_eq_false_iff]
    have hnd : Part.counters ∉ fp.parts := by
      have := hi.1
      rw [List.contains_eq_mem] at this
      simpa using this
    refine ⟨?_, ?_⟩
    · rw [List.contains_eq_mem]
      simp only [decide_eq_false_iff_not, List.mem_filter, not_and]
      intro _
      simp [hparts _ hnd]
    · rw [List.any_eq_false]
      intro r hr' hcov
      rcases hr with hr | hr
      · rw [List.contains_eq_mem] at hr
        exact hnd (by simpa using hr)
      · obtain ⟨q, hq, h1, h2⟩ := hr r hr'
        have := hi.2
        rw [List.any_eq_false] at this
        apply this q hq
        simp only [Bool.and_eq_true, decide_eq_true_eq] at hcov ⊢
        exact ⟨Nat.le_trans h1 hcov.1, Nat.le_trans hcov.2 h2⟩
  · intro p h
    apply hf.parts
    simp only [List.mem_filter, not_and]
    intro _
    simp [hparts p h]

/-- The frame of a meaning whose effect lies in a mask: the mask with the numbering of events is covered. -/
theorem frames_of_effect {o : Host.Outcome State Fault Refusal} {s t : State} {m : Mask} {fp : Footprint}
    (h : ∃ e, o = done e s ∧ Eff.Within tables m e)
    (hc : coversMask tables fp ⟨m.parts ||| 128, m.objects, m.counters ||| flushCounters⟩ = true) (ho : o = .next t) :
    fp.Frames s t := by
  obtain ⟨e, rfl, he⟩ := h
  cases ho
  have h1 : ∀ a b : Nat, a &&& (a ||| b) = a := fun a b => Nat.eq_of_testBit_eq fun i => by
    simp only [Nat.testBit_and, Nat.testBit_or]
    cases a.testBit i <;> simp
  have h2 : ∀ a b : Nat, b &&& (a ||| b) = b := fun a b => Nat.or_comm a b ▸ h1 b a
  exact Eff.frames_of_covers hc (Within.seq (Within.mono he ⟨h1 _ _, Nat.and_self _, h1 _ _⟩)
    (flushEvents_within ⟨h2 _ _, Nat.zero_and _, h2 _ _⟩)) s

end Sys2Proof.Machine
end

