-- ==== Sys2Proof/Laws/Run.lean ====
section
/-! SUPPORT. Laws for computing the outcome of a meaning: what an effect within a mask leaves alone, object by object and
part by part, and what numbering the events adds. -/

namespace Sys2Proof.Machine

/-- A mask read as a footprint. -/
def Mask.footprint (t : Tables) (m : Mask) : Footprint :=
  ⟨allParts.filter fun p => m.parts.testBit p.bit, members t.regions m.objects, members t.ranges m.counters⟩

theorem Eff.Within.frames {t : Tables} {m : Mask} {e : Eff} (he : e.Within t m) (s : State) :
    (m.footprint t).Frames s (e.run s) :=
  Eff.frames (t := t) (m := m) (fp := m.footprint t)
    ⟨fun p h => List.mem_filter.2 ⟨mem_allParts p, h⟩, fun _ h => h, fun _ h => h⟩ he s

/-- No region of a mask covers a class and subindex. -/
def freeObj (t : Tables) (m : Mask) (c sub : Nat) : Bool :=
  !m.parts.testBit 0 && (members t.regions m.objects).all fun r => !(Nat.ble r.lo c && Nat.ble c r.hi &&
    (r.sub == none || r.sub == some sub))

/-- No range of a mask covers a counter class. -/
def freeCtr (t : Tables) (m : Mask) (c : Nat) : Bool :=
  !m.parts.testBit 6 && (members t.ranges m.counters).all fun r => !(Nat.ble r.1 c && Nat.ble c r.2)

theorem Eff.Within.keeps_class {t : Tables} {m : Mask} {e : Eff} (he : e.Within t m) (s : State) (k : Key) {c : Nat}
    (hk : objClass k.idx = c) (h : freeObj t m c k.sub = true) : (e.run s).key k = s.key k := by
  apply (he.frames s).objects
  unfold freeObj at h
  rw [Bool.and_eq_true] at h
  unfold Footprint.object Mask.footprint
  rw [Bool.or_eq_false_iff]
  constructor
  · rw [List.contains_eq_mem]
    simp only [decide_eq_false_iff_not, List.mem_filter, not_and]
    intro _
    show ¬m.parts.testBit 0 = true
    simpa using h.1
  · rw [List.any_eq_false]
    intro r hr hcov
    have := List.all_eq_true.1 h.2 r hr
    rw [← hk] at this
    unfold Region.covers at hcov
    simp only [Bool.and_eq_true, decide_eq_true_eq] at hcov
    have hsub : (r.sub == none || r.sub == some k.sub) = true := by
      revert hcov
      cases r.sub with
      | none => simp
      | some x => intro hcov; simpa using hcov.2
    rw [hsub, Nat.ble_eq_true_of_le hcov.1.1, Nat.ble_eq_true_of_le hcov.1.2] at this
    exact absurd this (by decide)

/-- An effect leaves an object that no region of its mask covers. -/
theorem Eff.Within.keeps_obj {t : Tables} {m : Mask} {e : Eff} (he : e.Within t m) (s : State) {idx sub row : Nat}
    (h : freeObj t m (objClass idx) sub = true) : (e.run s).obj idx sub row = s.obj idx sub row :=
  he.keeps_class s ⟨idx, row, sub⟩ rfl h

theorem Eff.Within.keeps_port {t : Tables} {m : Mask} {e : Eff} (he : e.Within t m) (s : State) {p k sub row : Nat}
    (h : freeObj t m (0x5000 + k % 16) sub = true) : (e.run s).obj (portIdx p k) sub row = s.obj (portIdx p k) sub row :=
  he.keeps_class s ⟨portIdx p k, row, sub⟩ (objClass_port p k) h

theorem Eff.Within.keeps_ctr {t : Tables} {m : Mask} {e : Eff} (he : e.Within t m) (s : State) {i c : Nat}
    (hc : counterClass i = c) (h : freeCtr t m c = true) : (e.run s).counter i = s.counter i := by
  apply (he.frames s).counters
  unfold freeCtr at h
  rw [Bool.and_eq_true] at h
  unfold Footprint.counter Mask.footprint
  rw [Bool.or_eq_false_iff]
  constructor
  · rw [List.contains_eq_mem]
    simp only [decide_eq_false_iff_not, List.mem_filter, not_and]
    intro _
    show ¬m.parts.testBit 6 = true
    simpa using h.1
  · rw [List.any_eq_false]
    intro r hr hcov
    have := List.all_eq_true.1 h.2 r hr
    rw [← hc] at this
    simp only [Bool.and_eq_true, decide_eq_true_eq] at hcov
    rw [Nat.ble_eq_true_of_le hcov.1, Nat.ble_eq_true_of_le hcov.2] at this
    exact absurd this (by decide)

/-- An effect leaves a part that its mask does not have. -/
theorem Eff.Within.keeps_part {t : Tables} {m : Mask} {e : Eff} (he : e.Within t m) (s : State) (p : Part)
    (h : m.parts.testBit p.bit = false) : p.same s (e.run s) := by
  apply (he.frames s).parts
  unfold Mask.footprint
  simp [h]

/-- The same, read as a key. -/
theorem Eff.Within.keeps_at {t : Tables} {m : Mask} {e : Eff} (he : e.Within t m) (s : State) {idx sub row : Nat}
    (h : freeObj t m (objClass idx) sub = true) : (e.run s).key ⟨idx, row, sub⟩ = s.key ⟨idx, row, sub⟩ :=
  he.keeps_class s ⟨idx, row, sub⟩ rfl h

/-! ## Numbering the events -/

/-- The mask of the numbering. -/
def flushMask : Mask := ⟨0x80, 0, flushCounters⟩

theorem flush_within : Eff.Within tables flushMask flushEvents :=
  flushEvents_within ⟨Nat.and_self _, Nat.and_self _, Nat.and_self _⟩

theorem members_zero {α : Type} (l : List α) : members l 0 = [] := by
  induction l with
  | nil => rfl
  | cons x l ih => exact ih

@[simp] theorem flush_key (s : State) (k : Key) : (flushEvents.run s).key k = s.key k :=
  flush_within.keeps_class s k rfl (by
    unfold freeObj flushMask
    rw [members_zero]
    rfl)

@[simp] theorem flush_obj (s : State) (idx sub row : Nat) : (flushEvents.run s).obj idx sub row = s.obj idx sub row :=
  flush_key s _
@[simp] theorem flush_n (s : State) (idx sub row : Nat) : (flushEvents.run s).n idx sub row = s.n idx sub row :=
  congrArg Int.toNat (flush_key s _)
@[simp] theorem flush_on (s : State) (idx sub row : Nat) : (flushEvents.run s).on idx sub row = s.on idx sub row :=
  congrArg (· != 0) (flush_key s ⟨idx, row, sub⟩)

theorem flush_part (s : State) (p : Part) (h : p ≠ .events) : p.same s (flushEvents.run s) := by
  apply flush_within.keeps_part
  cases p <;> first | rfl | exact absurd rfl h

@[simp] theorem flush_staged (s : State) : (flushEvents.run s).od.staged = s.od.staged := (flush_part s .staging (by decide)).1.symm
@[simp] theorem flush_sealedSet (s : State) : (flushEvents.run s).od.sealedSet = s.od.sealedSet :=
  (flush_part s .staging (by decide)).2.symm
@[simp] theorem flush_clampLog (s : State) : (flushEvents.run s).od.clampLog = s.od.clampLog :=
  (flush_part s .clampLog (by decide)).symm
@[simp] theorem flush_mailbox (s : State) : (flushEvents.run s).od.mailbox = s.od.mailbox :=
  (flush_part s .mailbox (by decide)).symm
@[simp] theorem flush_imageBusy (s : State) : (flushEvents.run s).od.imageBusy = s.od.imageBusy :=
  (flush_part s .image (by decide)).1.symm
@[simp] theorem flush_controllerDown (s : State) : (flushEvents.run s).od.controllerDown = s.od.controllerDown :=
  (flush_part s .image (by decide)).2.symm
@[simp] theorem flush_buffers (s : State) : (flushEvents.run s).buffers = s.buffers := (flush_part s .buffers (by decide)).symm
@[simp] theorem flush_clock (s : State) : (flushEvents.run s).clock = s.clock := (flush_part s .clock (by decide)).symm
@[simp] theorem flush_now (s : State) : (flushEvents.run s).now = s.now := congrArg Clock.units (flush_clock s)
@[simp] theorem flush_time (s : State) : (flushEvents.run s).time = s.time := (flush_part s .time (by decide)).symm
@[simp] theorem flush_pins (s : State) : (flushEvents.run s).pins = s.pins := (flush_part s .pins (by decide)).symm
@[simp] theorem flush_ring (s : State) : (flushEvents.run s).ring = s.ring := (flush_part s .ring (by decide)).symm
@[simp] theorem flush_segments (s : State) : (flushEvents.run s).segments = s.segments :=
  (flush_part s .segments (by decide)).symm
@[simp] theorem flush_traffic (s : State) : (flushEvents.run s).traffic = s.traffic := (flush_part s .traffic (by decide)).symm
@[simp] theorem flush_messages (s : State) : (flushEvents.run s).messages = s.messages :=
  (flush_part s .messages (by decide)).symm
@[simp] theorem flush_tx (s : State) : (flushEvents.run s).host.tx = s.host.tx := (flush_part s .txRings (by decide)).symm
@[simp] theorem flush_rx (s : State) : (flushEvents.run s).host.rx = s.host.rx := (flush_part s .rxRings (by decide)).symm
@[simp] theorem flush_queues (s : State) : (flushEvents.run s).host.queues = s.host.queues :=
  (flush_part s .queues (by decide)).symm
@[simp] theorem flush_functions (s : State) : (flushEvents.run s).host.functions = s.host.functions :=
  (flush_part s .functions (by decide)).1.symm
@[simp] theorem flush_vectors (s : State) : (flushEvents.run s).host.vectors = s.host.vectors :=
  (flush_part s .functions (by decide)).2.1.symm
@[simp] theorem flush_numVfs (s : State) : (flushEvents.run s).host.numVfs = s.host.numVfs :=
  (flush_part s .functions (by decide)).2.2.1.symm
@[simp] theorem flush_vfEnable (s : State) : (flushEvents.run s).host.vfEnable = s.host.vfEnable :=
  (flush_part s .functions (by decide)).2.2.2.1.symm
@[simp] theorem flush_linkUpA (s : State) : (flushEvents.run s).host.linkUpA = s.host.linkUpA :=
  (flush_part s .functions (by decide)).2.2.2.2.1.symm
@[simp] theorem flush_linkUpB (s : State) : (flushEvents.run s).host.linkUpB = s.host.linkUpB :=
  (flush_part s .functions (by decide)).2.2.2.2.2.1.symm
@[simp] theorem flush_hostReads (s : State) : (flushEvents.run s).host.reads = s.host.reads :=
  (flush_part s .functions (by decide)).2.2.2.2.2.2.symm
@[simp] theorem flush_mismatchLog (s : State) : (flushEvents.run s).twin.mismatchLog = s.twin.mismatchLog :=
  (flush_part s .mismatchLog (by decide)).symm
@[simp] theorem flush_twin (s : State) : (flushEvents.run s).twin = s.twin := by
  have h1 : { s.twin with mismatchLog := [] } = { (flushEvents.run s).twin with mismatchLog := [] } :=
    flush_part s .twin (by decide)
  have h2 := flush_mismatchLog s
  revert h1 h2
  generalize (flushEvents.run s).twin = a
  generalize s.twin = b
  intro h1 h2
  cases a
  cases b
  simp only [Twin.mk.injEq] at h1 h2 ⊢
  simp_all
@[simp] theorem flush_otp (s : State) : (flushEvents.run s).otp = s.otp := (flush_part s .otp (by decide)).symm
@[simp] theorem flush_flash (s : State) : (flushEvents.run s).flash = s.flash := (flush_part s .flash (by decide)).symm
@[simp] theorem flush_kiln (s : State) : (flushEvents.run s).kiln = s.kiln := (flush_part s .kiln (by decide)).symm
@[simp] theorem flush_faults (s : State) : (flushEvents.run s).faults = s.faults := (flush_part s .faults (by decide)).symm
@[simp] theorem flush_reader (s : State) : (flushEvents.run s).reader = s.reader := (flush_part s .reader (by decide)).symm
@[simp] theorem flush_canopy (s : State) : (flushEvents.run s).canopy = s.canopy := (flush_part s .canopy (by decide)).symm
@[simp] theorem flush_power (s : State) : (flushEvents.run s).power = s.power := (flush_part s .power (by decide)).symm
@[simp] theorem flush_free (s : State) : (flushEvents.run s).freeUsed = s.freeUsed := (flush_part s .free (by decide)).symm
@[simp] theorem flush_out (s : State) : (flushEvents.run s).out = s.out := (flush_part s .out (by decide)).symm
theorem flush_counter (s : State) (i : Nat) (h : counterClass i ≠ 10823) : (flushEvents.run s).counter i = s.counter i := by
  apply flush_within.keeps_ctr s rfl
  have hm : members tables.ranges flushCounters = [(10823, 10823)] := by decide +kernel
  unfold freeCtr flushMask
  simp only [hm, List.all_cons, List.all_nil, Bool.and_true]
  have : (Nat.ble 10823 (counterClass i) && Nat.ble (counterClass i) 10823) = false := by
    rw [Bool.and_eq_false_iff]
    rcases Nat.lt_or_gt_of_ne h with h | h
    · left
      exact Bool.eq_false_iff.2 fun hb => by rw [Nat.ble_eq] at hb; omega
    · right
      exact Bool.eq_false_iff.2 fun hb => by rw [Nat.ble_eq] at hb; omega
  rw [this]
  rfl

theorem mem_insertRaised (e x : Raised) (l : List Raised) : x ∈ insertRaised e l ↔ x = e ∨ x ∈ l := by
  induction l with
  | nil => simp [insertRaised]
  | cons y l ih =>
    unfold insertRaised
    split
    · simp
    · simp only [List.mem_cons, ih]
      tauto

theorem mem_sortRaised (x : Raised) (l : List Raised) : x ∈ sortRaised l ↔ x ∈ l := by
  induction l with
  | nil => simp [sortRaised]
  | cons y l ih => simp [sortRaised, mem_insertRaised, ih]

theorem length_insertRaised (e : Raised) (l : List Raised) : (insertRaised e l).length = l.length + 1 := by
  induction l with
  | nil => rfl
  | cons y l ih =>
    unfold insertRaised
    split
    · rfl
    · simp [ih]

theorem length_sortRaised (l : List Raised) : (sortRaised l).length = l.length := by
  induction l with
  | nil => rfl
  | cons y l ih => simp [sortRaised, length_insertRaised, ih]

/-- Stamping with room in the FIFO appends the record. -/
theorem stampRaised_room (e : Raised) (s : State) (h : s.events.backlog < 1032) :
    ((stampRaised e).run s).events.fifo = s.events.fifo ++ [stampEvent s e.severity e.source e.reason e.arg e.queue] ∧
    ((stampRaised e).run s).events.next = (s.events.next + 1) % 4294967296 ∧
    ((stampRaised e).run s).events.backlog = s.events.backlog + 1 := by
  unfold stampRaised
  have hd : decide (1032 ≤ s.events.backlog) = false := by simpa using h
  simp only [Eff.run_look, Eff.run_seq, Eff.run_upd, hd, Eff.run_when_false]
  show (pushEvent _ _).fifo = _ ∧ (pushEvent _ _).next = _ ∧ (pushEvent _ _).backlog = _
  unfold pushEvent
  rw [if_pos h]
  exact ⟨rfl, rfl, rfl⟩

/-- Whether a record is that of a raised event. -/
def EventRecord.of (r : EventRecord) (x : Raised) : Prop :=
  r.severity = x.severity % 4 ∧ r.source = x.source % 1024 ∧ r.reason = x.reason % 64 ∧ r.arg = x.arg % 2147483648 ∧
    r.queue = x.queue

theorem forEach_stamp_room (l : List Raised) (s : State) (h : s.events.backlog + l.length ≤ 1032) :
    ∃ new, ((Eff.forEach l stampRaised).run s).events.fifo = s.events.fifo ++ new ∧
      List.Forall₂ EventRecord.of new l := by
  induction l generalizing s with
  | nil => exact ⟨[], by simp, List.Forall₂.nil⟩
  | cons e l ih =>
    have hl : (e :: l).length = l.length + 1 := rfl
    obtain ⟨h1, _, h4⟩ := stampRaised_room e s (by omega)
    obtain ⟨new, h2, h3⟩ := ih ((stampRaised e).run s) (by rw [h4]; omega)
    refine ⟨stampEvent s e.severity e.source e.reason e.arg e.queue :: new, ?_, List.Forall₂.cons ⟨rfl, rfl, rfl, rfl, rfl⟩ h3⟩
    rw [Eff.run_forEach_cons, h2, h1]
    simp

/-- With room in the FIFO, numbering appends a record for each event raised, in the order of R367. -/
theorem flush_room (s : State) (h : s.events.backlog + s.events.raised.length ≤ 1032) :
    ∃ new, (flushEvents.run s).events.fifo = s.events.fifo ++ new ∧
      List.Forall₂ EventRecord.of new (sortRaised s.events.raised) := by
  unfold flushEvents
  simp only [Eff.run_look, Eff.run_seq, Eff.run_upd]
  exact forEach_stamp_room (sortRaised s.events.raised) (Upd.apply .takeRaised s)
    (by
      rw [length_sortRaised]
      show s.events.backlog - 8 + s.events.raised.length ≤ 1032
      omega)

theorem forall2_mem {α β : Type} {R : α → β → Prop} {l : List α} {m : List β} (h : List.Forall₂ R l m) {y : β}
    (hy : y ∈ m) : ∃ x ∈ l, R x y := by
  induction h with
  | nil => cases hy
  | cons h1 h2 ih =>
    rcases List.mem_cons.1 hy with rfl | hy
    · exact ⟨_, List.mem_cons_self, h1⟩
    · obtain ⟨x, hx, hr⟩ := ih hy
      exact ⟨x, List.mem_cons_of_mem _ hx, hr⟩

/-- An event that the effect `e` has raised is on record after the meaning. -/
theorem done_records (e : Eff) (s : State) (x : Raised) (hf : (e.run s).events.fifo = s.events.fifo)
    (hx : x ∈ (e.run s).events.raised) (hr : (e.run s).events.backlog + (e.run s).events.raised.length ≤ 1032)
    (h1 : x.source < 1024) (h2 : x.arg < 2147483648) :
    s.records ((Eff.seq e flushEvents).run s) x.source x.arg := by
  obtain ⟨new, hn, hall⟩ := flush_room (e.run s) hr
  refine ⟨new, ?_, ?_⟩
  · rw [Eff.run_seq, hn, hf]
  · obtain ⟨r, hr, h⟩ := forall2_mem hall ((mem_sortRaised x _).2 hx)
    exact ⟨r, hr, h.2.1.trans (Nat.mod_eq_of_lt h1), h.2.2.2.1.trans (Nat.mod_eq_of_lt h2)⟩

end Sys2Proof.Machine
end

