-- ==== Sys2Proof/Laws/Outcomes.lean ====
section
/-! SUPPORT. Laws of outcomes that several chapters share. A frame offered to a port whose MAC sends a frame that cannot be cut
joins its queue where there is room, and no frame leaves any queue. An occurrence of a fault class that leaves its instance as
it is puts its event on record. -/

set_option linter.unusedSimpArgs false

namespace Sys2Proof.Machine

/-- What R168 and R179 look at in a port's MAC is the same: the frame in progress, and which classes can be cut. -/
def State.sameMac (s t : State) (p : Nat) : Prop :=
  t.traffic.macs = s.traffic.macs ∧ ∀ c, t.preemptable p c = s.preemptable p c

theorem State.sameMac.busy {s t : State} {p : Nat} (h : s.sameMac t p) (hb : s.macBusy p) : t.macBusy p := by
  obtain ⟨c, f, hc, hp⟩ := hb
  exact ⟨c, f, by simpa [State.mac, h.1] using hc, by rw [h.2]; exact hp⟩

theorem State.preemptable_of {s t : State} {p : Nat} (h1 : t.key ⟨0x6001, p, 1⟩ = s.key ⟨0x6001, p, 1⟩)
    (h2 : t.key ⟨0x6000, p, 4⟩ = s.key ⟨0x6000, p, 4⟩) (c : Nat) : t.preemptable p c = s.preemptable p c := by
  simp [State.preemptable, State.preempting, State.on, State.n, State.obj, h1, h2]

theorem kick_run_busy {s : State} {p : Nat} (h : s.macBusy p) : (kick p).run s = s := by
  obtain ⟨c, f, hc, hp⟩ := h
  unfold kick
  simp only [Eff.run_look, hc]
  simp [State.wantsCut, hp, Eff.when, Eff.run]

theorem joinQueue_traffic {s : State} {p c : Nat} {f : QueuedFrame} :
    ((joinQueue p c f).run s).traffic.queues =
      s.traffic.queues.set (classQueue p c) (s.queued (classQueue p c) ++ [{ f with enqueued := s.now }]) ∧
    ((joinQueue p c f).run s).traffic.macs = s.traffic.macs := by
  have hw : ∀ (g : Nat) (x : State), ((wakeGrove g).run x).traffic = x.traffic := fun g x =>
    ((wakeGrove_within (Mask.Le.refl _) (g := g)).keeps_part x .traffic (by decide +kernel) : x.traffic = _).symm
  have hr : ∀ (a b v : Nat) (x : State), ((raiseMark a b v).run x).traffic = x.traffic := fun a b v x =>
    ((raiseMark_within (Mask.Le.refl _) (q := a) (col := b) (v := v)).keeps_part x .traffic (by decide +kernel) : x.traffic = _).symm
  simp [joinQueue, Eff.run_ite, Eff.run_whenS, Eff.run_when, Upd.touches, hw, hr, touchShaper, chargeShaper, queueSet, groveCount, notePeak,
    count, State.queued]

/-- A frame offered to a class queue joins it where there is room; no frame leaves any queue, and the MAC is as it was. -/
theorem admitFrame_run {s : State} {p c h : Nat} {f : QueuedFrame} :
    s.sameMac ((admitFrame p c h f).run s) p ∧ (∀ q, s.queued q <+: ((admitFrame p c h f).run s).queued q) ∧
    (s.takesFrame p c f →
      ((admitFrame p c h f).run s).queued (classQueue p c) = s.queued (classQueue p c) ++ [{ f with enqueued := s.now }]) := by
  have hk : ∀ idx sub, (idx = 0x6001 ∧ sub = 1) ∨ (idx = 0x6000 ∧ sub = 4) →
      ((admitFrame p c h f).run s).key ⟨idx, p, sub⟩ = s.key ⟨idx, p, sub⟩ := by
    rintro idx sub (⟨rfl, rfl⟩ | ⟨rfl, rfl⟩) <;>
      exact Eff.Within.keeps_at (admitFrame_within (Mask.Le.refl _) (p := p) (c := c) (handle := h) (f := f)) s (by decide +kernel)
  have hd : ∀ x : State, ((queueDrop p c h).run x).traffic = x.traffic := fun x =>
    ((queueDrop_within (Mask.Le.refl _) (p := p) (c := c) (handle := h)).keeps_part x .traffic (by decide +kernel) :
      x.traffic = _).symm
  have hr : ∀ (l : List Nat) (x : State), ((Eff.forEach l fun m => raise 854 m).run x).traffic = x.traffic := fun l x =>
    ((Within.forEach fun _ => raise_within (Mask.Le.refl _)).keeps_part x .traffic (by decide +kernel) : x.traffic = _).symm
  have hr1 : ∀ (a : Nat) (x : State), ((raise a).run x).traffic = x.traffic := fun _ _ => rfl
  have ht : (((admitFrame p c h f).run s).traffic = s.traffic ∧ ¬s.takesFrame p c f) ∨
      (admitFrame p c h f).run s = (joinQueue p c f).run s := by
    unfold State.takesFrame admitFrame
    rw [Eff.run_look]
    by_cases h1 : s.queueRoom (classQueue p c) (frameLen f.data) = true
    · by_cases h2 : s.memoryFor p f = true
      · exact Or.inr (by simp [h1, h2])
      · refine Or.inl ⟨?_, fun h => h2 h.2⟩
        simp [h1, h2, Eff.run_when, Eff.run_ite, hd, hr, hr1, count, groveCount, apply_ite State.traffic, Upd.touches]
    · exact Or.inl ⟨by simp [h1, hd], fun h => h1 h.1⟩
  have hq : ∀ q, s.queued q = s.traffic.queues.getD q [] := fun _ => rfl
  rcases ht with ⟨ht, hn⟩ | ht
  · exact ⟨⟨congrArg _ ht, State.preemptable_of (hk _ _ (.inl ⟨rfl, rfl⟩)) (hk _ _ (.inr ⟨rfl, rfl⟩))⟩,
      fun q => by unfold State.queued; rw [ht], fun h => absurd h hn⟩
  · obtain ⟨h1, h2⟩ := joinQueue_traffic (s := s) (p := p) (c := c) (f := f)
    refine ⟨⟨(congrArg (·.traffic.macs) ht).trans h2,
      State.preemptable_of (hk _ _ (.inl ⟨rfl, rfl⟩)) (hk _ _ (.inr ⟨rfl, rfl⟩))⟩, fun q => ?_, fun _ => ?_⟩
    · rw [ht]
      unfold State.queued
      rw [h1]
      by_cases e : q = classQueue p c
      · subst e
        rw [PMap.getD_set_same]
        exact List.prefix_append _ _
      · rw [PMap.getD_set_other _ _ _ _ _ e]
    · rw [ht]
      unfold State.queued
      rw [h1, PMap.getD_set_same]
      rfl

/-- A frame offered to a port whose MAC sends a frame that cannot be cut: it joins its queue where there is room, and no frame
leaves any queue. -/
theorem enqueueFrame_run_busy {s : State} {p c h : Nat} {f : QueuedFrame} (hb : s.macBusy p) :
    ((enqueueFrame p c h f).run s).macBusy p ∧ (∀ q, s.queued q <+: ((enqueueFrame p c h f).run s).queued q) ∧
    (s.takesFrame p c f →
      ((enqueueFrame p c h f).run s).queued (classQueue p c) = s.queued (classQueue p c) ++ [{ f with enqueued := s.now }]) := by
  obtain ⟨h1, h2, h3⟩ := admitFrame_run (s := s) (p := p) (c := c) (h := h) (f := f)
  have hb' := h1.busy hb
  unfold enqueueFrame
  rw [Eff.run_seq, kick_run_busy hb']
  exact ⟨hb', h2, h3⟩

theorem enqueueOrigin_run_busy {s : State} {p c : Nat} {o : Origin} {data : Bytes} (hb : s.macBusy p) :
    ((enqueueOrigin p c o data).run s).macBusy p ∧ (∀ q, s.queued q <+: ((enqueueOrigin p c o data).run s).queued q) ∧
    (s.takesFrame p c (s.ownFrame o data) → s.queuedBehind ((enqueueOrigin p c o data).run s) p c data) := by
  obtain ⟨h1, h2, h3⟩ := enqueueFrame_run_busy (c := c) (h := 0xFFFF) (f := s.ownFrame o data) hb
  exact ⟨h1, h2, fun ht => ⟨{ s.ownFrame o data with enqueued := s.now }, rfl,
    (show _ <+: ((enqueueFrame p c 0xFFFF (s.ownFrame o data)).run s).queued _ by rw [h3 ht])⟩⟩

/-! ## Faults -/

/-- An occurrence that leaves its instance as it is raises its event, and event 899 where the class reports every one. -/
theorem faultEvent_run_raised {s : State} {cls inst source arg : Nat} (h : s.staysAsItIs cls inst = true) :
    ∃ sev extra, ((faultEvent cls inst source arg).run s).events.raised = s.events.raised ++ ⟨sev, source, 0, arg, none⟩ :: extra ∧
      extra.length ≤ 1 ∧ ((faultEvent cls inst source arg).run s).events.fifo = s.events.fifo ∧
      ((faultEvent cls inst source arg).run s).events.backlog = s.events.backlog := by
  generalize hi : s.faults.instances.getD (faultKey cls inst) FaultInstance.init = i
  have hl : (!i.lasting && decide (s.n 0xB000 1 cls ≤ windowCount (bumpBucket i.buckets (s.bucketAt cls)) (s.bucketAt cls))) = false := by
    unfold State.staysAsItIs at h
    rw [hi] at h
    dsimp only at h
    revert h
    cases i.lasting <;> simp
  refine ⟨if i.lasting then 2 else 1,
    if s.on 0xB000 5 cls then [⟨if i.lasting then 2 else 1, 899, 0, faultArg cls inst, none⟩] else [], ?_, ?_, ?_, ?_⟩
  · unfold faultEvent faultOccur faultOccurBy
    rw [Eff.run_look]
    dsimp only
    rw [hi, hl]
    cases hb : s.on 0xB000 5 cls <;> simp [raiseSev, raiseFull, count, bumpObj, setN, setObj, Upd.touches]
  · split <;> simp
  · unfold faultEvent faultOccur faultOccurBy
    rw [Eff.run_look]
    dsimp only
    rw [hi, hl]
    cases hb : s.on 0xB000 5 cls <;> simp [raiseSev, raiseFull, count, bumpObj, setN, setObj, Upd.touches]
  · unfold faultEvent faultOccur faultOccurBy
    rw [Eff.run_look]
    dsimp only
    rw [hi, hl]
    cases hb : s.on 0xB000 5 cls <;> simp [raiseSev, raiseFull, count, bumpObj, setN, setObj, Upd.touches]

/-- The event of an occurrence that leaves its instance as it is, is on record. -/
theorem fault_records {s : State} {cls inst source arg : Nat} (h : s.staysAsItIs cls inst = true) (hr : s.room 2)
    (h1 : source < 1024) (h2 : arg < 2147483648) :
    s.records ((Eff.seq (faultEvent cls inst source arg) flushEvents).run s) source arg := by
  obtain ⟨sev, extra, e1, e2, e3, e4⟩ := faultEvent_run_raised (source := source) (arg := arg) h
  have hr1 := hr.1
  have hr2 := hr.2
  refine done_records _ _ ⟨sev, source, 0, arg, none⟩ e3 ?_ ?_ h1 h2
  · rw [e1]; simp
  · rw [e1, e4, hr1]; simp; omega

end Sys2Proof.Machine
end

