-- ==== Sys2Proof/Tests/Slice0.lean ====
section
/-! SUPPORT. The model's own tests: worked examples of the manual, what well-formedness refuses, and for each clause of each
statement a state and operands that meet its hypotheses. -/

namespace Sys2Proof.Tests

set_option Elab.async false

open Sys2Proof Sys2Proof.Machine

/-! ## States to start from -/

/-- A block that runs: ACTIVE, bring-up complete. -/
def live : State :=
  { State.reset with power := { State.reset.power with state := .active, stage := 5 } }

/-- A state with one object set. -/
def put (idx sub row : Nat) (v : Int) (s : State) : State := (Upd.obj ⟨idx, row, sub⟩ v).apply s

/-- A state with one object of a port set. -/
def putPort (p k sub row : Nat) (v : Int) (s : State) : State := put (portIdx p k) sub row v s

/-- A state with one object laid down, whatever its default is: for objects whose default is a constant without a value. -/
def lay (idx sub row : Nat) (v : Int) (s : State) : State :=
  { s with od := { s.od with dict := dictInsert s.od.dict ⟨idx, row, sub⟩ v } }

/-- A state with its clock set to an instant in 2^-16 ns. -/
def at16 (t : Nat) (s : State) : State := (Upd.setClock t).apply s

def onTime (f : TimeBase → TimeBase) (s : State) : State := { s with time := f s.time }
def onServo (f : Servo → Servo) (s : State) : State := { s with time := { s.time with servo := f s.time.servo } }
def onRing (f : Ring → Ring) (s : State) : State := { s with ring := f s.ring }
def onSeg (p : Nat) (f : Segment → Segment) (s : State) : State := (Upd.segment p f).apply s
def onTraffic (f : Traffic → Traffic) (s : State) : State := { s with traffic := f s.traffic }
def onMessages (f : Messages → Messages) (s : State) : State := { s with messages := f s.messages }
def onHost (f : HostSide → HostSide) (s : State) : State := { s with host := f s.host }
def onTwin (f : Twin → Twin) (s : State) : State := { s with twin := f s.twin }
def onKiln (f : Kiln → Kiln) (s : State) : State := { s with kiln := f s.kiln }
def onFlash (f : Flash → Flash) (s : State) : State := { s with flash := f s.flash }
def onPower (f : PowerSide → PowerSide) (s : State) : State := { s with power := f s.power }
def onOd (f : Dictionary → Dictionary) (s : State) : State := { s with od := f s.od }
def onFaults (f : Faults → Faults) (s : State) : State := { s with faults := f s.faults }
def onCanopy (f : Canopy → Canopy) (s : State) : State := { s with canopy := f s.canopy }
def onReader (f : Reader → Reader) (s : State) : State := { s with reader := f s.reader }

/-- A frame of `n` bytes. -/
def bytesOf (n : Nat) : Bytes := List.replicate n 0

/-- A queued frame. -/
def aFrame (data : Bytes) : QueuedFrame :=
  { data := data, origin := .module, handle := 0xFFFF, enqueued := 0, received := 0, launch := none, sent := 0, cuts := 0,
    heldCounted := false, began := none }

/-- A module whose MAC of port `p` is sending an express frame. -/
def sending (p : Nat) (s : State) : State :=
  onTraffic (fun t => { t with macs := t.macs.set p { current := some (7, aFrame (bytesOf 60)), startedAt := 0, cutAt := none,
                                                       verifySent := 0, moved := false, tries := 0, backoffEnd := 0 } }) s
/-- The address of the ports under test as the dictionary holds it: 02-00-00-00-00-07. -/
def aMac : Int := 0x070000000002
/-- A management PDU to that address, unprotected. -/
def pduFrame (m : Bytes) : Frame :=
  { data := beBytes 6 0x020000000007 ++ beBytes 6 0x020000000009 ++ beBytes 2 0x88B7 ++ beBytes 3 0x04A73D ++ beBytes 2 3 ++ m ++
      bytesOf 20, fcs := .good, icv := .unprotected, stamp := 0 }
/-- A configuration image with no record but its Commit. -/
def theImage : Bytes := imageOf 0 7 0 1 commitRecord
/-- A state with that image in its ImageBuffer. -/
def anImage (s : State) : State :=
  { s with buffers := { s.buffers with image := ((List.range theImage.length).zip theImage).filter fun e =>
      (decide (32 ≤ e.1) && decide (e.1 < 64)) || e.2 != 0 } }
/-- A round frame of 40 body bytes with the header of round 0, east-bound. -/
def roundFrameBytes : Frame :=
  { data := envelope 1 1 0 ++ [32] ++ bytesOf 63, fcs := .good, icv := .unprotected, stamp := 0 }
/-- A port 4 in LISTEN, with node 9's sync slot. -/
def listening : State :=
  live |> putPort 4 0 1 0 1 |> putPort 4 0 2 0 1 |> putPort 4 1 3 0 1 |> putPort 4 4 1 0 1 |> putPort 4 4 2 0 9 |> putPort 4 4 5 0 1
/-- The bytes of the schedule digest of a port's running mode (R145). -/
def digestBytes (s : State) (p : Nat) : Bytes :=
  let m := s.segMode p
  (List.range 4).map fun k => Config.shake256Byte (beBytes 8 (s.segLength p) ++ beBytes 2 (s.actionOffset p) ++
    beBytes 4 (s.precision p) ++ (List.range 64).flatMap fun i =>
      let r := 64 * m + i
      beBytes 1 (s.segCfg p 4 1 r) ++ beBytes 1 (s.segCfg p 4 2 r) ++ beBytes 4 (s.segCfg p 4 3 r) ++
        beBytes 4 (s.segCfg p 4 4 r) ++ beBytes 1 (s.segCfg p 4 5 r) ++ beBytes 1 (s.segCfg p 4 6 r)) k
/-- A sync frame of node 9 in segment cycle 41, with the digest of `s`. -/
def syncFrameFor (s : State) (p : Nat) : Frame :=
  { data := envelope 2 2 0 ++ [32, 0, 9, 0, 0, 0, 0, 0, 0, 0, 0, 41] ++ digestBytes s p ++ bytesOf 32, fcs := .good,
    icv := .unprotected, stamp := 0 }
/-- A half of a twin whose stack link is up. -/
def twinLive : State := live |> put 0x9000 1 0 2 |> put 0x9020 1 0 1 |> put 0x9020 4 0 0 |> put 0x9001 1 0 1 |> put 0x9002 1 0 1
/-- The master of a capacity stack whose stack links are up. -/
def stackLive : State := live |> put 0x9000 1 0 1 |> put 0x9001 1 0 1 |> put 0x9002 1 0 1 |> put 0x9001 1 1 1 |> put 0x9002 1 1 1
/-- A Kiln that runs. -/
def kilnLive : State := live |> onKiln fun k => { k with state := .running }
/-- An owner command with unsigned signature blocks. -/
def ownerMsg (op seq : Nat) (a : Bytes) : Bytes :=
  beBytes 4 0x424E4F43 ++ beBytes 1 op ++ beBytes 1 (if op = 2 then 2 else 1) ++ beBytes 2 0 ++ beBytes 8 0 ++ beBytes 4 seq ++
    beBytes 4 a.length ++ bytesOf 32 ++ padTo8 a ++ bytesOf (if op = 2 then 16 else 8)
/-- The same as the Kiln reads it. -/
def ownerCmd (op seq : Nat) (a : Bytes) : OwnerCommand := (readOwner (ownerMsg op seq a)).getD ⟨0, 0, 0, [], [], [], []⟩
/-- A fragment that is a whole GetStatus request. -/
def kilnFragment (count : Nat) : Frame :=
  { data := bytesOf 6 ++ beBytes 6 0x020000000009 ++ beBytes 2 0x88B7 ++ beBytes 3 0x04A73D ++ beBytes 2 5 ++
      [1, 1, 0, 1, 0, 7, 0, 0, 0, 0, 0, 0, 0, 0] ++ beBytes 2 count ++ bytesOf 32, fcs := .good, icv := .verified, stamp := 0 }
/-- A port that runs MKA. -/
def mkaLive (p : Nat) (m : MkaPort) : State := kilnLive |> put 0xA020 1 p 1 |> onKiln fun k => { k with mka := k.mka.set p m }
/-- A member of a capacity stack at position 1. -/
def stackMemberLive : State := live |> put 0x9000 1 0 1 |> put 0x9001 1 0 1 |> put 0x1003 0 0 1
/-- A PDU long enough for the bit position that the manual leaves open. -/
def unpackBytes : Bytes := List.replicate (Config.unpackBit 0 0 0 12 0 + 2) 0
/-- It as a source. -/
def unpackSource : SourceValue := ⟨1, true, 0, 255, 3, true, 2, unpackBytes, 0, 65535⟩
/-- A task that has read it. -/
def unpackRun : TaskRun := ⟨5, 0, 7, 1, [unpackSource], [], [], 1, false, false, 0, []⟩
/-- Engine 127 with that task, an UNPACK of row 9. -/
def unpacking : State :=
  live |> put (0x7100 + 127) 2 5 2 |> put (0x7100 + 127) 5 5 9 |> put (0x7100 + 127) 6 5 1 |> put 0x7207 3 9 12 |> onMessages fun m =>
    { m with engines := m.engines.set 127 { Engine.init with run := some unpackRun } }

/-- A MAC that is busy, as a computation tells it. -/
theorem macBusy_of (s : State) (p : Nat)
    (h : ((s.mac p).current.any fun x => !s.preemptable p x.1) = true) : s.macBusy p := by
  unfold State.macBusy
  cases hc : (s.mac p).current with
  | none => rw [hc] at h; cases h
  | some x => exact ⟨x.1, x.2, rfl, by rw [hc] at h; simpa using h⟩

/-- Room for a frame of the module's own, whatever class it has. -/
theorem responseRoom {s : State} {p n k : Nat} (h : ∀ c, c < 8 → s.queueRoom (classQueue p c) n = true) :
    s.queueRoom (classQueue p (k % 8)) n = true :=
  h _ (Nat.mod_lt _ (by decide))

/-- An unsigned image passes the checks of R52 where its header, its records and its digest are right. -/
theorem checkImage_passes (s : State) (b : Bytes) (rs : List ImageRecord)
    (h1 : (beAt b 0 4 == 0x424E4349 && beAt b 4 2 == 1 && beAt b 6 2 == 0x40 && decide (80 ≤ beAt b 8 4) &&
      decide (beAt b 8 4 ≤ 1048576) && b.length == beAt b 8 4) = true)
    (h2 : readRecords (beAt b 12 4) (imageBody b) = some rs) (h3 : beAt b 16 8 = 0) (h4 : slice b 32 32 = digest32 (imageBody b))
    (h5 : imageSigned b = false) (h6 : s.signedOnly = false) (h7 : s.flash.imageSequence ≤ beAt b 24 4)
    (h8 : rs = [⟨⟨0x2010, 0, 0⟩, 2, [1]⟩]) : s.checkImage b true = .inr rs := by
  subst h8
  simp [State.checkImage, h1, h2, h3, h4, h5, h6]
  simp_all

theorem anImage_passes :
    (anImage live).checkImage (anImage live).bufferImage true = .inr [⟨⟨0x2010, 0, 0⟩, 2, [1]⟩] :=
  checkImage_passes _ _ _ (by decide +kernel) (by decide +kernel) (by decide +kernel) rfl (by decide +kernel)
    (by decide +kernel) (by decide +kernel) rfl

/-- A signal of 12 bits fits the PDU of `unpackBytes`, wherever it lies. -/
theorem unpackBytes_fits (x : SourceValue) (h : x.isPdu = true) (hb : x.bytes = unpackBytes) :
    readSignal x (Config.unpackBit 0 0 0 12 0) 12 false false =
      some (signalBits false unpackBytes (Config.unpackBit 0 0 0 12 0) 12 : Nat) := by
  have room : Config.unpackBit 0 0 0 12 0 + 12 ≤ 8 * unpackBytes.length := by
    simp only [unpackBytes, List.length_replicate]; omega
  simp [readSignal, h, hb, room]

/-- The row of `unpacking` reads its signal. -/
theorem unpacking_reads : readSignal { unpackSource with bytes := unpackSource.bytes.drop (startIn (unpacking.n (0x7200 + 127 / 16) 1 9)) }
      (Config.unpackBit 0 (unpacking.n (0x7200 + 127 / 16) 1 9) (unpacking.n (0x7200 + 127 / 16) 2 9)
        (unpacking.n (0x7200 + 127 / 16) 3 9) (unpacking.n (0x7200 + 127 / 16) 4 9))
      (signalSize (unpacking.n (0x7200 + 127 / 16) 3 9)) ((unpacking.n (0x7200 + 127 / 16) 4 9).testBit 1)
      ((unpacking.n (0x7200 + 127 / 16) 4 9).testBit 3) =
    some (signalBits false unpackBytes (Config.unpackBit 0 0 0 12 0) 12 : Nat) := by
  rw [show unpacking.n (0x7200 + 127 / 16) 1 9 = 0 by decide +kernel,
    show unpacking.n (0x7200 + 127 / 16) 2 9 = 0 by decide +kernel,
    show unpacking.n (0x7200 + 127 / 16) 3 9 = 12 by decide +kernel,
    show unpacking.n (0x7200 + 127 / 16) 4 9 = 0 by decide +kernel]
  exact unpackBytes_fits _ rfl rfl

/-! ## Worked examples of the manual -/

/-- R90: the CRC over the nine ASCII bytes "123456789". -/
theorem test_crc32 : crc32 [0x31, 0x32, 0x33, 0x34, 0x35, 0x36, 0x37, 0x38, 0x39] = 0xCBF43926 := by decide +kernel

/-- R85: 300,000 becomes 250,000. -/
theorem test_cycle_length : fitCycleLength 300000 = 250000 := by decide +kernel

/-- R84: with a cycle of 250,000 ns the counter reads 4,000,002 at 1,000 s + 500,000 ns. -/
theorem test_cycle_number : (secUnits * 1000 + nsUnits 500000) / State.reset.cycleUnits = 4000002 := by decide +kernel

/-- R18: global port 37 is grove 1, local index 5; port 98 is grove 3. -/
theorem test_groves : groveOf 37 = 1 ∧ 37 % 32 = 5 ∧ groveOf 98 = 3 := by decide +kernel

/-- R377: counter 15 of port 70 is item 2,255, counter 16 of the PCIe set item 11,088. -/
theorem test_items : portItem 70 15 = 2255 ∧ pcieItem 16 = 11088 := by decide +kernel

/-- R49: a clamped write is recorded and counted. -/
theorem test_clamped_write_is_logged :
    ((match exec (.write .pf0 ⟨0x4000, 4, 0, 0⟩ ⟨leBytes 4 300000, []⟩) live with
      | .next t => (t.n 0x4000 4, t.od.clampLog.length, t.n 0x1F81 0)
      | _ => (0, 0, 0)) = (250000, 1, 1)) := by decide +kernel

/-- R31: a write out of the dictionary leaves it as it is. -/
theorem test_no_such_object :
    ((match exec (.write .pf0 ⟨0x0FFF, 0, 0, 0⟩ ⟨[1], []⟩) live with
      | .next t => t.od.dict
      | _ => []) = live.od.dict) := by decide +kernel

/-- R367: events of one command are numbered by ascending source. -/
theorem test_events_by_source :
    ((match exec .sourceLoss (live |> put 0x3001 1 0 2 |> put 0x3001 2 0 1 |> put 0xB000 1 12 3 |> onServo fun v => { v with missed := 3 }) with
      | .next t => t.events.fifo.map fun r => (r.seq, r.source)
      | _ => []) = [(0, 512), (1, 513)]) := by decide +kernel

/-! ## Well-formed commands -/

/-- Commands at the ends of their ranges are well-formed. -/
theorem test_wf_accepts :
    (([.mailboxGo 255, .read (.pdu 255) ⟨65535, 255, 65535, 4294967295⟩, .laneLost 224, .doorbell true 4095 131071,
       .registerWrite 65 1048591 [255], .kilnFault 3, .thermalWarning 11 500, .domainRestartComplete .controller] : List Instr).all
      fun i => i.wf) = true := by decide +kernel

/-- Out of range, so refused (1). -/
theorem test_wf_refuses_1 :
    (([.roundFrameVerified 37,
       .laneLost 256,
       .frameReceived 4 { data := List.replicate 9601 0, fcs := .good, icv := .unprotected, stamp := 0 },
       .frameReceived 256 { data := [], fcs := .good, icv := .unprotected, stamp := 0 },
       .read .pf0 ⟨65536, 0, 0, 0⟩,
       .read .pf0 ⟨0, 256, 0, 0⟩,
       .describe .pf0 ⟨0, 0, 65536, 0⟩,
       .readStaged .pf0 ⟨0, 0, 0, 4294967296⟩,
       .commitAtBoundary (.pdu 256),
       .write .pf0 ⟨0, 0, 0, 0⟩ ⟨bytesOf 1025, []⟩,
       .getStatus (.port 258 true 0) 0,
       .getStatus .mailbox 65536,
       .mailboxGo 256] : List Instr).all
      fun i => !i.wf) = true := by decide +kernel

/-- Out of range, so refused (2). -/
theorem test_wf_refuses_2 :
    (([.domainRestartComplete (.port 256),
       .domainRestartComplete (.engine 128),
       .domainRestartComplete (.grove 8),
       .memoryError (.grove 8 0) true,
       .memoryError (.grove 0 4) true,
       .memoryError (.commons 2) true,
       .entryFetchDone true 0 0 0 [bytesOf 31],
       .entryFetchDone true 4096 0 0 [],
       .doorbell true 0 131072,
       .entryFetchDone true 0 0 131072 [],
       .push 0 (bytesOf 129) true,
       .stackLinkUp 2,
       .stackRelayRequest 0 ⟨1, bytesOf 4113⟩] : List Instr).all
      fun i => !i.wf) = true := by decide +kernel

/-- Out of range, so refused (3). -/
theorem test_wf_refuses_3 :
    (([.stackRelayRequest 0 ⟨4, []⟩,
       .stackHello 0 (bytesOf 7),
       .stackMemberLost 4,
       .timeEventPulse 8,
       .gptpSync 0 256 0 0 ⟨{ data := [], fcs := .good, icv := .unprotected, stamp := 0 }, { data := [], fcs := .good, icv := .unprotected, stamp := 0 }⟩,
       .gptpPdelayReq 0 0 65536 0 { data := [], fcs := .good, icv := .unprotected, stamp := 0 },
       .roundFrameLaunch 16 0 0,
       .roundFrameMissing 0 2,
       .nodeLeft 18446744073709551616,
       .cyclePoint 16,
       .slotLatch 0 64,
       .segmentFrame 0 256 { data := [], fcs := .good, icv := .unprotected, stamp := 0 },
       .presenceLeave 0 256] : List Instr).all
      fun i => !i.wf) = true := by decide +kernel

/-- Out of range, so refused (4). -/
theorem test_wf_refuses_4 :
    (([.streamUnblock .pf0 8192,
       .launchTimeReached 0 8,
       .latentReset 4096,
       .highWaterRead .pf0 2048 1,
       .highWaterRead .pf0 0 0,
       .taskStart 128 0,
       .taskStart 0 64,
       .resultAccept 8,
       .inboundImageSnapshot 64,
       .hostMessageReceived 64 [],
       .hostMessageReceived 0 (bytesOf 4113),
       .queueConfigWrite true 0 12 0,
       .queueConfigWrite true 0 0 4294967296] : List Instr).all
      fun i => !i.wf) = true := by decide +kernel

/-- Out of range, so refused (5). -/
theorem test_wf_refuses_5 :
    (([.functionLevelReset 66,
       .eqEnable 1024,
       .eqHeadWrite 0 131072 false,
       .msixUnmask 2048,
       .registerWrite 0 1048592 [],
       .registerWrite 0 0 (bytesOf 129),
       .perst 2,
       .macFree ⟨256, false⟩,
       .viewForward ⟨2, true, []⟩,
       .stepRecord 0 (bytesOf 151),
       .stepRecord 4294967296 (bytesOf 152),
       .witnessPoll 0 0 (bytesOf 783) .verified,
       .coppiceRequest 4294967296 (bytesOf 8 |>.map BitVec.toNat)] : List Instr).all
      fun i => !i.wf) = true := by decide +kernel

/-- Out of range, so refused (6). -/
theorem test_wf_refuses_6 :
    (([.coppiceRequest 0 [],
       .kilnFragmentTimeout 258,
       .attest .mailbox 0 (bytesOf 31),
       .fwBegin .mailbox 0 2 0,
       .owner .mailbox 0 (bytesOf 12273),
       .pairInit 0 281474976710656 [],
       .pairInit 0 0 (bytesOf 12273),
       .pairConfirm 0 (bytesOf 31),
       .keyPathWrite 0 4 0 0 true,
       .kilnFault 4,
       .faultBucketBoundary 64,
       .thermalShutdown 12 0,
       .softwareEvent .pf0 18446744073709551616] : List Instr).all
      fun i => !i.wf) = true := by decide +kernel

/-- Out of range, so refused (7). -/
theorem test_wf_refuses_7 :
    (([.railsValid 4 true true,
       .moduleReset .pf0 4294967296] : List Instr).all
      fun i => !i.wf) = true := by decide +kernel

/-! ## Witnesses: the hypotheses of each clause can be met -/

theorem witness_StepTakesTheFrontCommand_1 :
    ∃ s : State, s.pending = [] ∧ s.operating = true ∧ s.events.fifo = [] ∧ s.events.raised = [] :=
  ⟨live, by decide +kernel⟩

theorem witness_EveryStepKeepsTheInvariant_1 : ∃ s : State, s.events.raised = [] ∧ s.operating = true :=
  ⟨live, by decide +kernel⟩

theorem witness_DictionaryMessages_1 : ∃ (s : State) (tag : Nat), s.answers = true ∧ s.takesMemory (some 0) = true
    ∧ s.od.mailbox.busy = false :=
  ⟨live, 255, by decide +kernel⟩
theorem witness_DictionaryMessages_2 : ∃ (s : State) (tag : Nat), s.answers = true ∧ s.takesMemory (some 0) = true
    ∧ s.od.mailbox.busy = true :=
  ⟨live |> onOd fun d => { d with mailbox := { d.mailbox with busy := true } }, 1, by decide +kernel⟩
theorem witness_DictionaryMessages_3 : ∃ (s : State), s.answers = true ∧ s.od.mailbox.busy = true ∧
    s.mailboxRelayed = false ∧ s.selected 1 = 0 :=
  ⟨live |> onOd fun d =>
  { d with mailbox := { d.mailbox with busy := true, buffer := messageHead false 1 5 0 1 ++ leBytes 2 0x1000 ++ [1, 1] ++ bytesOf 12 } },
  by decide +kernel⟩
theorem witness_DictionaryMessages_4 : ∃ (s : State) (n : Nat), s.answers = true ∧ s.od.mailbox.busy = true ∧
    s.mailboxRelayed = false ∧ s.selected 1 = 0 ∧ s.readsOnly false s.od.mailbox.buffer = some n ∧ s.room 1 := by
  refine ⟨live |> onOd fun d =>
  { d with mailbox := { d.mailbox with busy := true, buffer := messageHead false 1 5 0 1 ++ leBytes 2 0x1000 ++ [1, 1] ++ bytesOf 12 } },
  1, ?_⟩
  repeat' apply And.intro
  all_goals first | decide +kernel
theorem witness_DictionaryMessages_5 : ∃ (s : State) (p : Nat) (f : Frame) (n : Nat), s.operating = true ∧ p < 256
    ∧ s.hears p f = true ∧ s.unscheduled p = true ∧ isProtocol f.data 3 = true ∧ f.data.take 6 = s.macBytes p ∧
    s.readsOnly true (protocolBody f.data) = some n ∧ maskBit (s.obj 0x2030 0) p = true ∧ (f.icv = .verified ∨ maskBit
    (s.obj 0x2031 0) p = true) ∧ s.selected 2 = 0 ∧ s.macBusy p ∧ s.takesOwn p pduClass 1518 := by
  refine ⟨live |> putPort 1 0 1 0 1 |> lay (portIdx 1 0) 6 0 aMac |> put 0x2030 0 0 2 |> put 0x2031 0 0 2 |> sending
  1, 1, pduFrame (messageHead true 1 7 0 1 ++ beBytes 2 0x1000 ++ [1, 1] ++ bytesOf 12), 1, ?_⟩
  repeat' apply And.intro
  all_goals first | exact macBusy_of _ _ (by decide +kernel) | exact responseRoom (by decide +kernel) | decide +kernel
theorem witness_DictionaryMessages_6 : ∃ (s : State) (p : Nat) (f : Frame), s.operating = true ∧ p < 256 ∧ s.hears
    p f = true ∧ s.unscheduled p = true ∧ isProtocol f.data 3 = true ∧ f.data.take 6 = s.macBytes p ∧ beAt
    (protocolBody f.data) 1 1 = 1 ∧ maskBit (s.obj 0x2030 0) p = false ∧ s.macBusy p ∧ s.takesOwn p pduClass 64 := by
  refine ⟨live |> putPort 1 0 1 0 1 |> lay (portIdx 1 0) 6 0 aMac |> sending 1, 1, pduFrame (messageHead true 1 7 0 1
  ++ beBytes 2 0x1000 ++ [1, 1] ++ bytesOf 12), ?_⟩
  repeat' apply And.intro
  all_goals first | exact macBusy_of _ _ (by decide +kernel) | exact responseRoom (by decide +kernel) | decide +kernel
theorem witness_DictionaryMessages_7 : ∃ (s : State) (q : Nat) (m : MemberMessage) (n : Nat), s.operating = true ∧
    s.stackCarries q = true ∧ s.twinHalf = false ∧ (s.stackMember = true → m.member = s.n 0x1003 0) ∧ s.readsOnly true
    m.bytes = some n :=
  ⟨live |> put 0x9000 1 0 1 |> put 0x9001 1 1 1 |> put 0x9002 1 1 1, 1, ⟨3, messageHead true 1 65535 0 1 ++ beBytes 2
  0x1000 ++ [1, 1] ++ bytesOf 12⟩, 1, by decide +kernel⟩
theorem witness_DictionaryMessages_8 : ∃ (s : State) (q : Nat) (m : MemberMessage) (n : Nat), s.operating = true ∧
    s.stackCarries q = true ∧ s.twinHalf = false ∧ (s.stackMember = true → m.member = s.n 0x1003 0) ∧ s.readsOnly true
    m.bytes = some n :=
  ⟨stackMemberLive |> put 0x9002 1 0 1, 0, ⟨1, messageHead true 1 65535 0 1 ++ beBytes 2 0x1000 ++ [1, 1] ++ bytesOf
  12⟩, 1, by decide +kernel⟩
theorem witness_DictionaryMessages_9 : ∃ (s : State) (q : Nat) (m : MemberMessage), s.operating = true ∧
    s.stackCarries q = true ∧ s.twinHalf = false ∧ s.stackMember = true ∧ m.member ≠ s.n 0x1003 0 ∧ s.stackCarries (1
    - q) = true :=
  ⟨stackMemberLive |> put 0x9002 1 0 1 |> put 0x9001 1 1 1 |> put 0x9002 1 1 1, 0, ⟨2, [7]⟩, by decide +kernel⟩
theorem witness_DictionaryMessages_10 : ∃ (s : State) (q : Nat) (m : Bytes) (c : RelayClient), s.operating = true
    ∧ s.stackCarries q = true ∧ s.stackMember = false ∧ s.twin.relayTags.get? (messageTag true m) = some c ∧ c.port =
    none ∧ s.od.mailbox.busy = true :=
  ⟨live |> put 0x9000 1 0 1 |> put 0x9001 1 0 1 |> put 0x9002 1 0 1 |> onOd (fun d =>
  { d with mailbox := { d.mailbox with busy := true } }) |> onTwin (fun x =>
  { x with relayTags := [(0, ⟨none, 0, 9, 0⟩)] }), 0, messageHead true 2 0 0 0, ⟨none, 0, 9, 0⟩, by decide +kernel⟩
theorem witness_DictionaryMessages_11 : ∃ (s : State) (q : Nat) (m : Bytes), s.operating = true ∧ s.stackCarries q
    = true ∧ s.stackMember = true ∧ s.twinHalf = false ∧ s.stackCarries (1 - q) = true :=
  ⟨stackMemberLive |> put 0x9002 1 0 1 |> put 0x9001 1 1 1 |> put 0x9002 1 1 1, 1, messageHead true 2 0 0 0,
  by decide +kernel⟩
theorem witness_RecordsAnswered_1 : ∃ (s : State) (chan : Chan) (a : Target) (r : Nat × Bytes), s.answers = true ∧
    s.readAnswer chan false a = some r ∧ a.index ≠ 0x6810 :=
  ⟨live, .pf0, ⟨0x1000, 1, 0, 0⟩, (3, [0x7A, 0x1D]), by decide +kernel⟩
theorem witness_RecordsAnswered_2 : ∃ (s : State) (chan : Chan) (a : Target) (st : Nat), s.answers = true ∧
    s.refusedWith chan false a = some st :=
  ⟨live, .relay, ⟨0x0FFF, 1, 0, 0⟩, 0x10, by decide +kernel⟩
theorem witness_RecordsAnswered_3 : ∃ (s : State) (chan : Chan) (a : Target) (st : Nat), s.answers = true ∧
    s.refusedWith chan false a = some st :=
  ⟨live, .pf0, ⟨0xF000, 0, 0, 0⟩, 0x21, by decide +kernel⟩
theorem witness_RecordsAnswered_4 : ∃ (s : State) (chan : Chan) (a : Target) (bs : Bytes) (w : StagedWrite × Nat),
    s.answers = true ∧ s.od.imageBusy = false ∧ s.staging chan a bs = some w :=
  ⟨live, .pf0, ⟨0x2020, 3, 255, 0⟩, [63], (⟨⟨0x2020, 255, 3⟩, 63, 1⟩, 2), by decide +kernel⟩
theorem witness_RecordsAnswered_5 : ∃ (s : State) (a : Target) (bs cs : Bytes) (v w : StagedWrite × Nat),
    s.answers = true ∧ s.od.imageBusy = false ∧ s.staging .relay a bs = some v ∧ s.staging .pf0 a cs = some w :=
  ⟨live, ⟨0x3100, 0, 0, 0⟩, [1], [2], (⟨⟨0x3100, 0, 0⟩, 1, 2⟩, 2), (⟨⟨0x3100, 0, 0⟩, 2, 1⟩, 2), by decide +kernel⟩
theorem witness_RecordsAnswered_6 : ∃ (s : State) (chan : Chan) (a : Target) (bs : Bytes) (st : Nat), s.answers =
    true ∧ s.refusedWith chan true a = some st ∧ 0x10 ≤ st :=
  ⟨live, .pdu 3, ⟨0x1001, 0, 0, 0⟩, [1], 0x12, by decide +kernel⟩
theorem witness_RecordsAnswered_7 : ∃ (s : State) (chan : Chan) (a : Target) (bs : Bytes) (st : Nat), s.answers =
    true ∧ s.refusedWith chan true a = some st ∧ 0x10 ≤ st :=
  ⟨live, .pf0, ⟨0x2020, 4, 0, 0⟩, [1], 0x11, by decide +kernel⟩
theorem witness_RecordsAnswered_8 : ∃ (s : State) (chan : Chan) (a : Target) (r : Nat × Bytes), s.answers = true ∧
    s.describeAnswer chan a = some r :=
  ⟨live, .pf0, ⟨0x1001, 0, 0, 0⟩, (2, [2, 1, 0x15, 0] ++ leBytes 4 1 ++ leBytes 8 0 ++ leBytes 8 0 ++ leBytes 8 5),
  by decide +kernel⟩
theorem witness_RecordsAnswered_9 : ∃ (s : State) (chan : Chan) (a : Target) (r : Nat × Bytes), s.answers = true ∧
    s.readAnswer chan true a = some r ∧ a.index ≠ 0x6810 :=
  ⟨live |> onOd fun d => { d with staged := [⟨⟨0x3100, 0, 0⟩, 2, 1⟩] }, .pf0, ⟨0x3100, 0, 0, 0⟩, (2, [2]),
  by decide +kernel⟩
theorem witness_RecordsAnswered_10 : ∃ (s : State) (chan : Chan) (off : Nat) (bs : Bytes), s.takesWrite chan
    0x2040 0 0 = true ∧ writeFits (.octets 1048576) ⟨0x2040, 0, 0, off⟩ bs = true :=
  ⟨live, .pf0, 8, [1, 2, 3], by decide +kernel⟩
theorem witness_RecordsAnswered_11 : ∃ (s : State) (chan : Chan) (queue column : Nat) (r : Nat × Bytes), s.answers
    = true ∧ s.readAnswer chan false ⟨0x6810, column, queue, 0⟩ = some r ∧ 1 ≤ column :=
  ⟨live |> put 0x6810 2 2047 77 |> put 0x6810 1 2047 5, .pf0, 2047, 2, (4, [77, 0, 0, 0]), by decide +kernel⟩
theorem witness_CommitAndStagingSet_1 : ∃ (s : State) (chan : Chan), s.takesWrite chan 0x2010 0 0 = true ∧
    s.od.sealedSet = none :=
  ⟨live |> onOd fun d => { d with staged := [⟨⟨0x2030, 0, 0⟩, 9, 1⟩] }, .pf0, by decide +kernel⟩
theorem witness_CommitAndStagingSet_2 : ∃ (s : State) (chan : Chan), s.takesWrite chan 0x2010 0 0 = true ∧
    s.od.sealedSet = none :=
  ⟨live, .relay, by decide +kernel⟩
theorem witness_CommitAndStagingSet_3 : ∃ (s : State) (chan : Chan), s.takesWrite chan 0x2010 0 0 = true ∧
    s.od.sealedSet = none :=
  ⟨live |> onOd fun d => { d with staged := [⟨⟨0x2030, 0, 0⟩, 9, 1⟩] }, .relay, by decide +kernel⟩
theorem witness_CommitAndStagingSet_4 : ∃ (s : State) (chan : Chan), s.takesWrite chan 0x2010 0 0 = true :=
  ⟨live |> onOd fun d => { d with staged := [⟨⟨0x2030, 0, 0⟩, 9, 1⟩], sealedSet := some ⟨true, [], 0, 0⟩ }, .pdu 0,
  by decide +kernel⟩
theorem witness_CommitAndStagingSet_5 : ∃ (s : State), s.operating = true ∧ s.sealedForBoundary = true ∧
    s.sealedDue = true :=
  ⟨live |> onOd fun d => { d with sealedSet := some ⟨false, [⟨⟨0x2030, 0, 0⟩, 9, 1⟩], 7, 0⟩ }, by decide +kernel⟩
theorem witness_CommitAndStagingSet_6 : ∃ (s : State) (v : Int) (chan cycle since : Nat), s.operating = true ∧
    s.od.sealedSet = some ⟨false, [⟨⟨0x2030, 0, 0⟩, v, chan⟩], cycle, since⟩ ∧ cycle ≠ s.cycle :=
  ⟨live |> onOd fun d => { d with sealedSet := some ⟨false, [⟨⟨0x2030, 0, 0⟩, 9, 1⟩], 7, 0⟩ }, 9, 1, 7, 0,
  by decide +kernel⟩
theorem witness_CommitAndStagingSet_7 : ∃ (s : State), s.operating = true ∧ (s.sealedForBoundary = false ∨
    s.sealedDue = false) :=
  ⟨live |> onOd fun d => { d with sealedSet := some ⟨true, [], 7, 0⟩ }, by decide +kernel⟩
theorem witness_CommitAndStagingSet_8 : ∃ (s : State), s.operating = true ∧ (s.sealedForBoundary = false ∨
    s.sealedDue = false) :=
  ⟨live |> onOd fun d => { d with sealedSet := some ⟨false, [], 0, 0⟩ }, by decide +kernel⟩
theorem witness_CommitAndStagingSet_9 : ∃ (s : State) (chan : Chan), s.takesWrite chan 0x1F82 0 0 = true :=
  ⟨live |> onOd fun d => { d with clampLog := [⟨0, ⟨0x2030, 0, 0⟩, 1, 1, 5, 4⟩] }, .pf0, by decide +kernel⟩
theorem witness_ImageCommands_1 : ∃ (s : State) (chan : Chan) (st : Nat), s.takesWrite chan 0x2041 0 0 = true ∧
    s.checkImage s.bufferImage true = .inl st :=
  ⟨live, .pf0, 0x14, by decide +kernel⟩
theorem witness_ImageCommands_2 : ∃ (s : State) (chan : Chan) (rs : List ImageRecord), s.takesWrite chan 0x2041 0
    0 = true ∧ s.checkImage s.bufferImage true = .inr rs := by
  refine ⟨anImage live, .pf0, [⟨⟨0x2010, 0, 0⟩, 2, [1]⟩], ?_⟩
  repeat' apply And.intro
  all_goals first | exact anImage_passes | decide +kernel
theorem witness_ImageCommands_3 : ∃ (s : State) (chan : Chan) (rs : List ImageRecord), s.takesWrite chan 0x2041 0
    0 = true ∧ s.checkImage s.bufferImage true = .inr rs := by
  refine ⟨anImage live, .pf0, [⟨⟨0x2010, 0, 0⟩, 2, [1]⟩], ?_⟩
  repeat' apply And.intro
  all_goals first | exact anImage_passes | decide +kernel
theorem witness_ImageCommands_4 : ∃ (s : State) (chan : Chan), s.takesWrite chan 0x2041 0 0 = true :=
  ⟨live, .pf0, by decide +kernel⟩
theorem witness_ActionObjects_1 : ∃ (s : State) (chan : Chan) (time : Nat), s.takesWrite chan 0x3002 0 0 = true ∧
    s.timeStepAllowed = true ∧ time < 18446744073709551616 * secUnits ∧ s.room 3 := by
  refine ⟨live |> put 0x3100 0 0 0, .pf0, 18446744073709551616 * secUnits - 1, ?_⟩
  repeat' apply And.intro
  all_goals first | decide +kernel
theorem witness_ActionObjects_2 : ∃ (s : State) (chan : Chan) (offset : Int), s.takesWrite chan 0x3003 0 0 = true
    ∧ s.timeAdjustAllowed = true ∧ -65536000000000 ≤ offset ∧ offset ≤ 65536000000000 :=
  ⟨live |> put 0x3100 0 0 0, .pf0, -65536000000000, by decide +kernel⟩
theorem witness_ActionObjects_3 : ∃ (s : State) (chan : Chan) (seconds : Nat), s.takesWrite chan 0x3602 0 0 = true
    ∧ seconds < 18446744073709551616 :=
  ⟨live, .relay, 18446744073709551615, by decide +kernel⟩
theorem witness_ActionObjects_4 : ∃ (s : State) (chan : Chan), s.takesWrite chan 0x4010 3 0 = true ∧
    s.requestAllowed = true ∧ s.room 1 := by
  refine ⟨live |> put 0x4001 1 0 4 |> put 0x4010 1 0 7 |> put 0x4110 1 56 1, .pf0, ?_⟩
  repeat' apply And.intro
  all_goals first | decide +kernel
theorem witness_ActionObjects_5 : ∃ (s : State) (chan : Chan), s.takesWrite chan 0x2200 2 0 = true ∧
    s.powerRefused = false :=
  ⟨live, .pf0, by decide +kernel⟩
theorem witness_ActionObjects_6 : ∃ (s : State) (chan : Chan), s.takesWrite chan 0x2200 2 0 = true ∧
    s.powerRefused = false :=
  ⟨live, .pf0, by decide +kernel⟩
theorem witness_ActionObjects_7 : ∃ (s : State) (chan : Chan), s.takesWrite chan 0x2210 0 0 = true :=
  ⟨live, .pf0, by decide +kernel⟩
theorem witness_ActionObjects_8 : ∃ (s : State) (chan : Chan), s.takesWrite chan 0x2210 0 0 = true :=
  ⟨live, .pf0, by decide +kernel⟩
theorem witness_SwitchedFunctions_1 : ∃ (s : State) (chan : Chan), s.operating = true ∧ s.takesWrite chan 0x4000 1
    0 = true ∧ s.stackMember = false ∧ s.ringState = 0 :=
  ⟨live, .pf0, by decide +kernel⟩
theorem witness_SwitchedFunctions_2 : ∃ (s : State) (chan : Chan), s.operating = true ∧ s.takesWrite chan 0x4000 1
    0 = true ∧ s.ringState ≠ 0 :=
  ⟨live |> put 0x4000 1 0 1 |> put 0x4001 1 0 4, .pf0, by decide +kernel⟩
theorem witness_SwitchedFunctions_3 : ∃ (s : State) (chan : Chan) (p : Nat), s.operating = true ∧ p < 256 ∧
    s.takesWrite chan (portIdx p 0) 1 0 = true :=
  ⟨live, .relay, 1, by decide +kernel⟩
theorem witness_SwitchedFunctions_4 : ∃ (s : State) (chan : Chan) (p : Nat), s.operating = true ∧ p < 256 ∧
    s.takesWrite chan (portIdx p 0) 1 0 = true ∧ s.segmentPort p = true ∧ s.segState p = 0 :=
  ⟨live |> putPort 255 0 2 0 1, .pf0, 255, by decide +kernel⟩
theorem witness_SwitchedFunctions_5 : ∃ (s : State) (chan : Chan) (p : Nat), s.operating = true ∧ p < 256 ∧
    s.takesWrite chan (portIdx p 0) 1 0 = true ∧ s.portEnabled p = true :=
  ⟨live |> putPort 4 0 2 0 1 |> putPort 4 0 1 0 1 |> putPort 4 1 3 0 5 |> putPort 4 1 1 0 1, .pf0, 4,
  by decide +kernel⟩
theorem witness_SwitchedFunctions_6 : ∃ (s : State) (chan : Chan) (handle : Nat), s.takesWrite chan 0x6022 0 0 =
    true ∧ handle < 8192 :=
  ⟨live |> put 0x6021 4 8191 1, .pf0, 8191, by decide +kernel⟩
theorem witness_SwitchedFunctions_7 : ∃ (s : State) (chan : Chan) (ring : Nat), s.takesWrite chan 0x8500 1 0 =
    true ∧ ring < 4096 ∧ (s.hostRing true ring).state = .enabled :=
  ⟨live |> onHost fun h => { h with tx := h.tx.set 4095 { HostRing.init with state := .enabled } }, .pf0, 4095,
  by decide +kernel⟩
theorem witness_SwitchedFunctions_8 : ∃ (s : State) (chan : Chan) (ring : Nat), s.takesWrite chan 0x8500 2 0 =
    true ∧ ring < 4096 ∧ (s.hostRing false ring).state = .enabled :=
  ⟨live |> onHost fun h =>
  { h with rx := h.rx.set 4095 { HostRing.init with state := .enabled, buffers := [(0, bytesOf 16)] } }, .pf0, 4095,
  by decide +kernel⟩
theorem witness_SwitchedFunctions_9 : ∃ (s : State) (chan : Chan), s.takesWrite chan 0x9030 0 0 = true ∧
    s.switchoverAllowed = true ∧ s.twin.releasing = none :=
  ⟨live |> put 0x9000 1 0 2 |> put 0x9020 1 0 1 |> put 0x9021 3 0 1 |> put 0x9021 6 0 3, .pf0, by decide +kernel⟩
theorem witness_SwitchedFunctions_10 : ∃ (s : State) (chan : Chan) (p : Nat), s.takesWrite chan 0xB050 0 0 = true
    ∧ p < 256 ∧ isBB p = false ∧ s.tdrAllowed p = true :=
  ⟨live, .pf0, 255, by decide +kernel⟩
theorem witness_CycleLengthIsFitted_1 : ∃ (s : State) (chan : Chan) (v : Nat), s.takesWrite chan 0x4000 4 0 = true
    ∧ v < 4294967296 :=
  ⟨live, .pf0, 300000, by decide +kernel⟩
theorem witness_CycleLengthIsFitted_2 : ∃ (s : State) (chan : Chan) (v : Nat), s.takesWrite chan 0x4000 4 0 = true
    ∧ v < 4294967296 :=
  ⟨live, .relay, 4294967295, by decide +kernel⟩
theorem witness_CycleLengthIsFitted_3 : ∃ (s : State) (chan : Chan) (v : Nat), s.takesWrite chan 0x4000 4 0 = true
    ∧ v < 4294967296 :=
  ⟨live, .pdu 7, 0, by decide +kernel⟩
theorem witness_SoftwareEventIsRaised_1 : ∃ (s : State) (chan : Chan) (value : Nat), s.takesWrite chan 0xB030 0 0
    = true ∧ value < 18446744073709551616 ∧ 992 ≤ value % 65536 ∧ value % 65536 ≤ 1023 ∧ s.room 1 := by
  refine ⟨live, .pf0, 1023 + 65536 * 2147483647, ?_⟩
  repeat' apply And.intro
  all_goals first | decide +kernel
theorem witness_SoftwareEventIsRaised_2 : ∃ (s : State) (chan : Chan) (value : Nat), s.takesWrite chan 0xB030 0 0
    = true ∧ value < 18446744073709551616 ∧ 992 ≤ value % 65536 ∧ value % 65536 ≤ 1023 ∧ s.room 1 := by
  refine ⟨live, .pdu 1, 992, ?_⟩
  repeat' apply And.intro
  all_goals first | decide +kernel
theorem witness_SoftwareEventIsRaised_3 : ∃ (s : State) (chan : Chan) (value : Nat), s.takesWrite chan 0xB030 0 0
    = true ∧ value < 18446744073709551616 ∧ (value % 65536 < 992 ∨ 1023 < value % 65536) ∧ s.room 3 := by
  refine ⟨live, .pf0, 1024 + 65536 * 4294967295, ?_⟩
  repeat' apply And.intro
  all_goals first | decide +kernel
theorem witness_SoftwareEventIsRaised_4 : ∃ (s : State) (chan : Chan) (value : Nat), s.takesWrite chan 0xB030 0 0
    = true ∧ value < 18446744073709551616 ∧ (value % 65536 < 992 ∨ 1023 < value % 65536) ∧ s.room 3 := by
  refine ⟨live, .pdu 1, 991, ?_⟩
  repeat' apply And.intro
  all_goals first | decide +kernel
theorem witness_ClockLeavesStateWithoutMeasurement_1 : ∃ (s : State), s.clockState = 2 ∧ s.sourceGone = true ∧
    s.timeSource ≠ 4 ∧ s.staysAsItIs 12 0 = true ∧ s.room 3 := by
  refine ⟨live |> put 0x3001 1 0 2 |> put 0x3001 2 0 1 |> put 0x3110 7 0 2 |> onServo fun v =>
  { v with estimates := [7, 4, 99], missed := 3 }, ?_⟩
  repeat' apply And.intro
  all_goals first | decide +kernel
theorem witness_ClockLeavesStateWithoutMeasurement_2 : ∃ (s : State), s.clockState = 1 ∧ s.sourceGone = true ∧
    s.timeSource ≠ 4 ∧ s.staysAsItIs 12 0 = true ∧ s.room 3 := by
  refine ⟨live |> put 0x3001 1 0 1 |> put 0x3001 2 0 2 |> onServo fun v => { v with missed := 3 }, ?_⟩
  repeat' apply And.intro
  all_goals first | decide +kernel
theorem witness_ClockLeavesStateWithoutMeasurement_3 : ∃ (s : State), s.clockState = 3 ∧ s.n 0x3001 5 + nsUnits
    (s.n 0x3110 8) ≤ s.now ∧ s.room 2 := by
  refine ⟨live |> put 0x3001 1 0 3 |> put 0x3110 8 0 1000 |> at16 secUnits, ?_⟩
  repeat' apply And.intro
  all_goals first | decide +kernel
theorem witness_ClockLeavesStateWithoutMeasurement_4 : ∃ (s : State), s.now < s.n 0x3001 5 + nsUnits (s.n 0x3110
    8) :=
  ⟨live |> put 0x3001 1 0 3, by decide +kernel⟩
theorem witness_ClockLeavesStateWithoutMeasurement_5 : ∃ (s : State), s.room 2 := by
  refine ⟨live, ?_⟩
  repeat' apply And.intro
  all_goals first | decide +kernel
theorem witness_ClockLeavesStateWithoutMeasurement_6 : ∃ (s : State), s.room 2 := by
  refine ⟨live |> put 0x3001 1 0 3, ?_⟩
  repeat' apply And.intro
  all_goals first | decide +kernel
theorem witness_AutomaticStepAndSlewEnd_1 : ∃ (s : State) (d : Int), s.time.servo.pendingStep = some d ∧
    s.clockState = 1 ∧ s.neverSteps = false ∧ s.room 2 := by
  refine ⟨live |> put 0x3001 1 0 1 |> onServo fun v => { v with pendingStep := some (-5) }, -5, ?_⟩
  repeat' apply And.intro
  all_goals first | decide +kernel
theorem witness_AutomaticStepAndSlewEnd_2 : ∃ (s : State) (d : Int), s.time.servo.pendingStep = some d ∧
    s.clockState = 1 ∧ s.neverSteps = false ∧ s.room 2 := by
  refine ⟨live |> put 0x3001 1 0 1 |> put 0x4001 1 0 3 |> put 0x3101 0 0 2 |> onServo fun v =>
  { v with pendingStep := some 655360000 }, 655360000, ?_⟩
  repeat' apply And.intro
  all_goals first | decide +kernel
theorem witness_AutomaticStepAndSlewEnd_3 : ∃ (s : State) (d : Int), s.time.servo.pendingStep = some d ∧
    (s.clockState ≠ 1 ∨ s.neverSteps = true) :=
  ⟨live |> put 0x3001 1 0 2 |> onServo fun v => { v with pendingStep := some (-5) }, -5, by decide +kernel⟩
theorem witness_AutomaticStepAndSlewEnd_4 : ∃ (s : State) (d : Int), s.time.servo.pendingStep = some d ∧
    (s.clockState ≠ 1 ∨ s.neverSteps = true) :=
  ⟨live |> put 0x3001 1 0 1 |> put 0x4001 1 0 4 |> put 0x4001 9 0 3 |> onServo fun v =>
  { v with pendingStep := some (-5) }, -5, by decide +kernel⟩
theorem witness_AutomaticStepAndSlewEnd_5 : ∃ (s : State), s.time.servo.slewAt + s.cycleUnits ≤ s.now ∧
    s.time.servo.adjust = 0 ∧ 0 ≤ s.obj 0x3110 6 :=
  ⟨live |> at16 secUnits |> onServo fun v => { v with sigma := 1000 }, by decide +kernel⟩
theorem witness_AutomaticStepAndSlewEnd_6 : ∃ (s : State), s.time.servo.slewAt + s.cycleUnits ≤ s.now ∧
    s.time.servo.adjust ≠ 0 ∧ s.time.servo.sigma ≠ s.slewWanted (-s.time.servo.adjust) :=
  ⟨live |> at16 secUnits |> onServo fun v => { v with sigma := 1000, adjust := 1 }, by decide +kernel⟩
theorem witness_AutomaticStepAndSlewEnd_7 : ∃ (s : State), s.time.servo.slewAt + s.cycleUnits ≤ s.now ∧
    s.time.servo.sigma = s.slewWanted (-s.time.servo.adjust) ∧ 0 ≤ s.obj 0x3110 6 :=
  ⟨live |> at16 secUnits |> onServo fun v => { v with sigma := 67108, adjust := 1000 }, by decide +kernel⟩
theorem witness_AutomaticStepAndSlewEnd_8 : ∃ (s : State), s.now < s.time.servo.slewAt + s.cycleUnits :=
  ⟨live |> onServo fun v => { v with sigma := 1000, slewAt := 3 }, by decide +kernel⟩
theorem witness_GptpMessagesReceived_1 : ∃ (s : State) (p domain origin : Nat) (correction : Int) (x : PtpPair),
    s.operating = true ∧ p < 256 ∧ s.gptpRole p = 2 ∧ s.timeCapable p = true ∧ domain = s.n 0x3500 2 ∧ s.hearsPair p x
    = true ∧ s.clockState = 0 :=
  ⟨live |> put 0x3500 1 0 1 |> put 0x3500 2 0 20 |> put 0x3100 0 0 2 |> put 0x3102 0 0 1 |> put 0x3502 2 1 1 |>
  putPort 1 0 1 0 1, 1, 20, 500, -3, ⟨{ data := bytesOf 60, fcs := .good, icv := .unprotected, stamp := 1048576 },
  { data := bytesOf 60, fcs := .good, icv := .unprotected, stamp := 1048576 }⟩, by decide +kernel⟩
theorem witness_GptpMessagesReceived_2 : ∃ (s : State) (p domain sequence requester : Nat) (f : Frame),
    s.operating = true ∧ p < 256 ∧ s.gptpRole p ≠ 0 ∧ isSG p = false ∧ domain = s.n 0x3500 2 ∧ s.hears p f = true ∧
    s.unscheduled p = true ∧ s.macBusy p ∧ s.takesFrame p ptpClass (s.ownFrame (.ptp (.response sequence requester))
    (s.ptpFrame p 3 0x0200 (s.rxPlane p f.stamp % 65536) sequence 127 (ptpTime (s.rxPlane p f.stamp) ++ beBytes 10
    requester))) := by
  refine ⟨live |> put 0x3500 1 0 1 |> put 0x3500 2 0 20 |> put 0x3501 0 0 2 |> putPort 1 0 1 0 1 |> putPort 1 1 1 0 1
  |> sending 1, 1, 20, 65535, 77, { data := bytesOf 60, fcs := .good, icv := .unprotected, stamp := 9000000 }, ?_⟩
  repeat' apply And.intro
  all_goals first | exact macBusy_of _ _ (by decide +kernel) | exact responseRoom (by decide +kernel) | decide +kernel
theorem witness_GptpMessagesReceived_3 : ∃ (s : State) (p domain sequence t2 t3 : Nat) (x : PtpPair) (t1 t4 :
    Nat), s.operating = true ∧ p < 256 ∧ s.gptpRole p ≠ 0 ∧ isSG p = false ∧ domain = s.n 0x3500 2 ∧ s.hearsPair p x =
    true ∧ s.rxPlane p x.event.stamp = t4 ∧ (s.gptpPort p).sentAt = some t1 ∧ (s.gptpPort p).sequence = sequence ∧
    (s.gptpPort p).lastResponse = none :=
  ⟨live |> put 0x3500 1 0 1 |> put 0x3500 2 0 20 |> put 0x3100 0 0 2 |> put 0x3102 0 0 0 |> putPort 0 0 1 0 1 |>
  putPort 0 1 1 0 1 |> onTime fun x =>
  { x with gptp := x.gptp.set 0 { sequence := 3, waiting := true, sentAt := some 100, lost := 2, lastResponse := none, announces := 0, eventAt := none, owed := [] } },
  0, 20, 3, 200, 300, ⟨{ data := bytesOf 60, fcs := .good, icv := .unprotected, stamp := 1049076 },
  { data := bytesOf 60, fcs := .good, icv := .unprotected, stamp := 1048576 }⟩, 100, 500, by decide +kernel⟩
theorem witness_GptpMessagesReceived_4 : ∃ (s : State) (p : Nat) (f : Frame), s.operating = true ∧ p < 256 ∧
    s.hears p f = true ∧ s.unscheduled p = true :=
  ⟨live |> putPort 1 0 1 0 1, 1, { data := bytesOf 60, fcs := .good, icv := .unprotected, stamp := 1048576 },
  by decide +kernel⟩
theorem witness_GptpMessagesReceived_5 : ∃ (s : State), s.operating = true ∧ s.gptpRole (s.n 0x3102 0) = 2 ∧
    ((s.time.syncAwaited.any fun u => s.after u (s.n 0x3500 5 * logInterval (s.obj 0x3500 3))) = true) ∧ s.room 1 :=
    by
  refine ⟨live |> put 0x3500 1 0 1 |> put 0x3500 2 0 20 |> put 0x3100 0 0 2 |> put 0x3102 0 0 1 |> onTime (fun x =>
  { x with syncAwaited := some 0 }) |> onCanopy fun k => { k with counter := 1000000 }, ?_⟩
  repeat' apply And.intro
  all_goals first | decide +kernel
theorem witness_GptpTimersSend_1 : ∃ (s : State) (p : Nat), s.operating = true ∧ s.gptpDue s.time.syncAt
    (logInterval (s.obj 0x3500 3)) = true ∧ s.masterPorts = [p] ∧ s.macBusy p ∧ s.takesFrame p ptpClass (s.ownFrame
    (.ptp (.sync (s.time.syncSequence % 65536))) (s.ptpFrame p 0 0x0200 0 (s.time.syncSequence % 65536) (s.obj 0x3500
    3) (List.replicate 10 0))) := by
  refine ⟨live |> put 0x3500 1 0 1 |> put 0x3500 2 0 20 |> put 0x3501 0 0 2 |> put 0x3502 2 1 1 |> putPort 1 0 1 0 1
  |> putPort 1 1 1 0 1 |> sending 1 |> onTime fun x => { x with syncSequence := 65535 }, 1, ?_⟩
  repeat' apply And.intro
  all_goals first | exact macBusy_of _ _ (by decide +kernel) | exact responseRoom (by decide +kernel) | decide +kernel
theorem witness_GptpTimersSend_2 : ∃ (s : State), s.gptpDue s.time.syncAt (logInterval (s.obj 0x3500 3)) = false
    :=
  ⟨live, by decide +kernel⟩
theorem witness_GptpTimersSend_3 : ∃ (s : State) (p : Nat), s.operating = true ∧ s.gptpDue s.time.pdelayAt
    (logInterval (s.obj 0x3500 4)) = true ∧ (s.gptpPorts (fun p r => r != 0 && !isSG p) = [p]) ∧ s.macBusy p ∧
    s.takesFrame p ptpClass (s.ownFrame (.ptp .request) (s.ptpFrame p 2 0 0 (((s.gptpPort p).sequence + 1) % 65536)
    (s.obj 0x3500 4) (List.replicate 20 0))) := by
  refine ⟨live |> put 0x3500 1 0 1 |> put 0x3500 2 0 20 |> put 0x3501 0 0 2 |> putPort 1 0 1 0 1 |> putPort 1 1 1 0 1
  |> sending 1 |> onTime fun x =>
  { x with gptp := x.gptp.set 1 { sequence := 65535, waiting := true, sentAt := none, lost := 1, lastResponse := none, announces := 0, eventAt := none, owed := [] } },
  1, ?_⟩
  repeat' apply And.intro
  all_goals first | exact macBusy_of _ _ (by decide +kernel) | exact responseRoom (by decide +kernel) | decide +kernel
theorem witness_GptpTimersSend_4 : ∃ (s : State), s.gptpDue s.time.pdelayAt (logInterval (s.obj 0x3500 4)) = false
    :=
  ⟨live, by decide +kernel⟩
theorem witness_GptpTimersSend_5 : ∃ (s : State) (p : Nat), s.operating = true ∧ s.gptpDue s.time.announceAt
    secUnits = true ∧ s.masterPorts = [p] ∧ s.macBusy p ∧ s.takesFrame p ptpClass (s.ownFrame .module (s.ptpFrame p 11
    0 0 (s.time.announceSequence % 65536) 0 s.announceBody)) := by
  refine ⟨live |> put 0x3500 1 0 1 |> put 0x3500 2 0 20 |> put 0x3501 0 0 2 |> put 0x3502 2 1 1 |> putPort 1 0 1 0 1
  |> putPort 1 1 1 0 1 |> sending 1, 1, ?_⟩
  repeat' apply And.intro
  all_goals first | exact macBusy_of _ _ (by decide +kernel) | exact responseRoom (by decide +kernel) | decide +kernel
theorem witness_GptpTimersSend_6 : ∃ (s : State), s.gptpDue s.time.announceAt secUnits = false :=
  ⟨live, by decide +kernel⟩
theorem witness_PpsAndTimeEventPins_1 : ∃ (s : State) (falling : Bool) (stamp : Nat), s.on 0x3601 1 = true ∧ s.on
    0x3601 2 = falling ∧ s.time.ppsEdges = 0 :=
  ⟨live |> put 0x3601 1 0 1 |> put 0x3601 3 0 (-4), false, 3, by decide +kernel⟩
theorem witness_PpsAndTimeEventPins_2 : ∃ (s : State) (falling : Bool) (stamp l : Nat), s.on 0x3601 1 = true ∧
    s.on 0x3601 2 = falling ∧ s.time.ppsEdges ≠ 0 ∧ s.time.lastPpsIn = some l ∧ ((stamp : Int) + s.obj 0x3601 3).toNat
    < l + secUnits - nsUnits 1000000 ∧ s.room 1 := by
  refine ⟨live |> put 0x3601 1 0 1 |> put 0x3601 2 0 1 |> onTime fun x =>
  { x with ppsEdges := 1, lastPpsIn := some 0 }, true, 65470463999999, 0, ?_⟩
  repeat' apply And.intro
  all_goals first | decide +kernel
theorem witness_PpsAndTimeEventPins_3 : ∃ (s : State), s.on 0x3601 1 = true ∧ s.time.ppsEdges ≠ 0 ∧
    ((s.time.lastPpsIn.all fun l => decide (l + secUnits + nsUnits 1000000 ≤ s.now)) = true) ∧ s.room 1 := by
  refine ⟨live |> put 0x3601 1 0 1 |> at16 (2 * secUnits) |> onTime fun x =>
  { x with ppsEdges := 1, lastPpsIn := some 5 }, ?_⟩
  repeat' apply And.intro
  all_goals first | decide +kernel
theorem witness_PpsAndTimeEventPins_4 : ∃ (s : State), s.on 0x3600 1 = true ∧ ((s.time.lastPpsOut.all fun l =>
    decide (l + nsUnits 500000000 ≤ ((nearestSecond s.now * secUnits : Nat) + s.obj 0x3600 3).toNat)) = true) :=
  ⟨live |> put 0x3600 1 0 1 |> at16 secUnits |> onTime fun x => { x with lastPpsOut := some (nsUnits 500000000) },
  by decide +kernel⟩
theorem witness_PpsAndTimeEventPins_5 : ∃ (s : State) (l : Nat), s.time.lastPpsOut = some l ∧ ((nearestSecond
    s.now * secUnits : Nat) + s.obj 0x3600 3).toNat < l + nsUnits 500000000 :=
  ⟨live |> put 0x3600 1 0 1 |> at16 secUnits |> onTime fun x => { x with lastPpsOut := some (nsUnits 500000000 + 1) },
  nsUnits 500000000 + 1, by decide +kernel⟩
theorem witness_PpsAndTimeEventPins_6 : ∃ (s : State) (pin : Nat) (falling : Bool) (stamp : Nat), pin < 8 ∧ (s.n
    0x3610 1 pin = 3 ∨ (s.n 0x3610 1 pin = 1 ∧ falling = false) ∨ (s.n 0x3610 1 pin = 2 ∧ falling = true)) ∧
    (((s.time.lastCapture.get? pin).all fun l => decide (l + nsUnits 40 ≤ ((stamp : Int) + s.obj 0x3610 5 pin).toNat))
    = true) ∧ s.room 1 := by
  refine ⟨live |> put 0x3610 1 7 3, 7, false, 5, ?_⟩
  repeat' apply And.intro
  all_goals first | decide +kernel
theorem witness_PpsAndTimeEventPins_7 : ∃ (s : State) (pin : Nat) (falling : Bool) (stamp : Nat), pin < 8 ∧ (s.n
    0x3610 1 pin = 3 ∨ (s.n 0x3610 1 pin = 1 ∧ falling = false) ∨ (s.n 0x3610 1 pin = 2 ∧ falling = true)) ∧
    (((s.time.lastCapture.get? pin).all fun l => decide (l + nsUnits 40 ≤ ((stamp : Int) + s.obj 0x3610 5 pin).toNat))
    = true) ∧ s.room 1 := by
  refine ⟨live |> put 0x3610 1 0 2 |> put 0x3611 2 0 1 |> onTime (fun x =>
  { x with lastCapture := x.lastCapture.set 0 0 }), 0, true, nsUnits 40, ?_⟩
  repeat' apply And.intro
  all_goals first | decide +kernel
theorem witness_PpsAndTimeEventPins_8 : ∃ (s : State) (pin : Nat) (falling : Bool) (stamp l : Nat), pin < 8 ∧ (s.n
    0x3610 1 pin = 3 ∨ (s.n 0x3610 1 pin = 1 ∧ falling = false) ∨ (s.n 0x3610 1 pin = 2 ∧ falling = true)) ∧
    s.time.lastCapture.get? pin = some l ∧ ((stamp : Int) + s.obj 0x3610 5 pin).toNat < l + nsUnits 40 :=
  ⟨live |> put 0x3610 1 0 1 |> put 0x3611 2 0 1 |> onTime (fun x => { x with lastCapture := x.lastCapture.set 0 0 }),
  0, false, nsUnits 40 - 1, 0, by decide +kernel⟩
theorem witness_PpsAndTimeEventPins_9 : ∃ (s : State) (pin i : Nat), s.time.tevIndex.get? pin = some i ∧ s.n
    0x3610 1 pin = 5 ∧ 0 < nsUnits (s.n 0x3610 3 pin) ∧ ((s.n 0x3610 2 pin + i * nsUnits (s.n 0x3610 3 pin) : Nat) +
    s.obj 0x3610 5 pin).toNat < s.now + nsUnits 2 :=
  ⟨live |> put 0x3610 1 7 5 |> put 0x3610 3 7 1000 |> at16 secUnits |> onTime (fun x =>
  { x with tevIndex := x.tevIndex.set 7 2 }), 7, 2, by decide +kernel⟩
theorem witness_CycleBoundaryAdvances_1 : ∃ (s : State), s.operating = true :=
  ⟨live, by decide +kernel⟩
theorem witness_CycleBoundaryAdvances_2 : ∃ (s : State), s.operating = true :=
  ⟨live |> put 0x4001 6 0 18446744073709551615 |> put 0x4001 1 0 4, by decide +kernel⟩
theorem witness_RoundFramesOnTheWheel_1 : ∃ (s : State) (round : Nat) (east west : Int), s.operating = true ∧
    s.ringState = 4 ∧ s.on 0x4110 1 (8 * s.mode + round) = true ∧ round < 8 ∧ s.ring.east.lost = false ∧
    s.ring.west.lost = false ∧ s.noSa s.eastLane = false ∧ s.noSa s.westLane = false ∧ s.traffic.macs.get? s.eastLane
    = none ∧ s.traffic.macs.get? s.westLane = none :=
  ⟨live |> put 0x4001 1 0 4 |> put 0x4110 1 7 1, 7, -1, 2, by decide +kernel⟩
theorem witness_RoundFramesOnTheWheel_2 : ∃ (s : State) (lane : Nat) (f : Frame), s.operating = true ∧ s.ringState
    = 4 ∧ s.isLane lane = true ∧ s.ring.west.lost = false ∧ s.ring.east.lost = false ∧ isProtocol f.data 1 = true :=
  ⟨live |> put 0x4001 1 0 4, 32, roundFrameBytes, by decide +kernel⟩
theorem witness_RoundFramesOnTheWheel_3 : ∃ (s : State) (lane : Nat) (f : Frame), s.operating = true ∧ s.ringState
    = 3 ∧ lane = s.westLane ∧ s.eastLane ≠ s.westLane ∧ s.ring.west.lost = false ∧ s.ring.east.lost = false ∧
    isProtocol f.data 1 = true ∧ s.noSa s.eastLane = false ∧ s.traffic.macs.get? s.eastLane = none :=
  ⟨live |> put 0x4001 1 0 3, 0, roundFrameBytes, by decide +kernel⟩
theorem witness_RoundFramesOnTheWheel_4 : ∃ (s : State) (lane : Nat) (copy : StagedCopy) (rest : List StagedCopy),
    s.operating = true ∧ s.ring.staged = copy :: rest ∧ copy.lane = lane ∧ copy.good = false :=
  ⟨live |> put 0x4001 1 0 3 |> onRing fun g => { g with staged := [⟨0, true, RfHeader.decode [], [], 0, false⟩] }, 0,
  ⟨0, true, RfHeader.decode [], [], 0, false⟩, [], by decide +kernel⟩
theorem witness_RoundFramesOnTheWheel_5 : ∃ (s : State) (lane : Nat) (copy : StagedCopy) (rest : List StagedCopy),
    s.operating = true ∧ s.ring.staged = copy :: rest ∧ copy.lane = lane ∧ copy.good = true ∧ copy.header.version = 1
    ∧ copy.header.round = 0 ∧ s.ringState = 1 ∧ s.ring.inhibited = false :=
  ⟨live |> put 0x4001 1 0 1 |> onRing fun g =>
  { g with staged := [⟨32, false, { RfHeader.decode [32] with masterHash := 9 }, [], 0, true⟩] }, 32, ⟨32, false,
  { RfHeader.decode [32] with masterHash := 9 }, [], 0, true⟩, [], by decide +kernel⟩
theorem witness_RoundFramesOnTheWheel_6 : ∃ (s : State) (round direction : Nat), s.ringState = 4 ∧ (round,
    direction) ∈ s.ring.launched ∧ ((s.ring.returned.any fun r => r.1 == round && r.2.1 == direction) = false) ∧
    s.staysAsItIs 11 0 = true ∧ s.room 2 := by
  refine ⟨live |> put 0x4001 1 0 4 |> onRing fun g => { g with launched := [(7, 1)], returned := [(7, 0, 3)] }, 7, 1,
  ?_⟩
  repeat' apply And.intro
  all_goals first | decide +kernel
theorem witness_RingStateChanges_1 : ∃ (s : State), s.ringState = 1 ∧ s.twinHalf = false ∧ s.on 0x4000 5 = true ∧
    s.ring.inhibited = false ∧ ((s.ring.listened.any fun n => decide (s.listenCycles ≤ n)) = true) ∧ s.room 4 := by
  refine ⟨live |> put 0x4001 1 0 1 |> put 0x4000 5 0 1 |> put 0x2001 0 0 7 |> onRing fun g =>
  { g with listened := some 100000 }, ?_⟩
  repeat' apply And.intro
  all_goals first | decide +kernel
theorem witness_RingStateChanges_2 : ∃ (s : State), s.ringState = 1 ∧ s.twinHalf = false ∧ (s.on 0x4000 5 = false
    ∨ s.ring.inhibited = true) ∧ ((s.ring.listened.any fun n => decide (s.listenCycles ≤ n)) = true) :=
  ⟨live |> put 0x4001 1 0 1 |> onRing fun g => { g with listened := some 100000 }, by decide +kernel⟩
theorem witness_RingStateChanges_3 : ∃ (s : State), s.ringState = 1 ∧ ((s.ring.listened.any fun n => decide
    (s.listenCycles ≤ n)) = false) :=
  ⟨live |> put 0x4001 1 0 1 |> put 0x4000 7 0 10 |> onRing fun g => { g with listened := some 9 }, by decide +kernel⟩
theorem witness_RingStateChanges_4 : ∃ (s : State), (s.ringState = 2 ∨ s.ringState = 3) ∧ s.n 0x4000 9 ≤
    s.ring.rf0Absent ∧ s.room 2 := by
  refine ⟨live |> put 0x4001 1 0 2 |> onRing fun g => { g with rf0Absent := 1000 }, ?_⟩
  repeat' apply And.intro
  all_goals first | decide +kernel
theorem witness_RingStateChanges_5 : ∃ (s : State), (s.ringState = 2 ∨ s.ringState = 3) ∧ s.n 0x4000 9 ≤
    s.ring.rf0Absent ∧ s.room 2 := by
  refine ⟨live |> put 0x4001 1 0 3 |> put 0x4000 9 0 4 |> onRing fun g => { g with rf0Absent := 4 }, ?_⟩
  repeat' apply And.intro
  all_goals first | decide +kernel
theorem witness_RingStateChanges_6 : ∃ (s : State) (name : Nat), s.ringState = 4 ∧ name ∈ s.ring.admitted ∧ s.n
    0x4000 9 ≤ s.ring.absentRuns.getD name 0 ∧ s.room 1 := by
  refine ⟨live |> put 0x4001 1 0 4 |> put 0x4000 9 0 3 |> onRing fun g =>
  { g with admitted := [5, 6], absentRuns := [(5, 3)] }, 5, ?_⟩
  repeat' apply And.intro
  all_goals first | decide +kernel
theorem witness_WrapAndLanes_1 : ∃ (s : State) (lane : Nat), lane = s.westLane ∧ s.ringState ≠ 0 ∧
    s.ring.west.lost = false ∧ s.room 1 := by
  refine ⟨live |> put 0x4001 1 0 3, 0, ?_⟩
  repeat' apply And.intro
  all_goals first | decide +kernel
theorem witness_WrapAndLanes_2 : ∃ (s : State) (lane : Nat), lane = s.eastLane ∧ lane ≠ s.westLane ∧ s.ringState ≠
    0 ∧ s.ring.east.lost = false ∧ s.n 0x4000 0xA ≤ s.ring.east.silent ∧ s.room 1 := by
  refine ⟨live |> put 0x4001 1 0 4 |> onRing (fun g => { g with east := { g.east with silent := 1000 } }), 32, ?_⟩
  repeat' apply And.intro
  all_goals first | decide +kernel
theorem witness_WrapAndLanes_3 : ∃ (s : State) (lane : Nat), lane = s.westLane ∧ s.ring.west.lost = true ∧
    ((s.ring.west.held.any fun n => decide (s.n 0x4000 0xC ≤ n)) = true) ∧ (s.on 0xA020 1 lane = false ∨ s.hasSas lane
    = true) :=
  ⟨live |> put 0x4001 1 0 3 |> onRing (fun g => { g with west := { g.west with lost := true, held := some 100000 } }),
  0, by decide +kernel⟩
theorem witness_WrapAndLanes_4 : ∃ (s : State), s.ring.releaseAt = some s.cycle ∧ s.ring.west.lost = true ∧
    s.ring.west.restored = true ∧ (s.on 0xA020 1 s.westLane = false ∨ s.hasSas s.westLane = true) ∧ s.ring.east.lost =
    false ∧ s.room 1 := by
  refine ⟨live |> put 0x4001 6 0 5 |> onRing fun g =>
  { g with releaseAt := some 5, west := { g.west with lost := true, restored := true } }, ?_⟩
  repeat' apply And.intro
  all_goals first | decide +kernel
theorem witness_WrapAndLanes_5 : ∃ (s : State), 2 ≤ s.ring.crossRun ∧ (s.ringState = 3 ∨ s.ringState = 2) ∧ s.room
    1 := by
  refine ⟨live |> put 0x4001 1 0 2 |> onRing fun g => { g with crossRun := 2 }, ?_⟩
  repeat' apply And.intro
  all_goals first | decide +kernel
theorem witness_ScheduleModeChanges_1 : ∃ (s : State) (q : ModeRequest), s.ring.request = some q ∧ s.ringState = 4
    ∧ s.cycle + 2 = q.target ∧ s.n 0x4001 9 &&& s.countedAcks q.mode = s.n 0x4001 9 :=
  ⟨live |> put 0x4001 1 0 4 |> put 0x4001 9 0 1 |> onRing fun g => { g with request := some ⟨3, 0, 2⟩ }, ⟨3, 0, 2⟩,
  by decide +kernel⟩
theorem witness_ScheduleModeChanges_2 : ∃ (s : State) (q : ModeRequest), s.ring.request = some q ∧ s.ringState = 4
    ∧ s.cycle + 2 = q.target ∧ s.n 0x4001 9 &&& s.countedAcks q.mode ≠ s.n 0x4001 9 ∧ s.room 1 := by
  refine ⟨live |> put 0x4001 1 0 4 |> put 0x4001 9 0 3 |> onRing fun g => { g with request := some ⟨3, 0, 2⟩ }, ⟨3, 0,
  2⟩, ?_⟩
  repeat' apply And.intro
  all_goals first | decide +kernel
theorem witness_ScheduleModeChanges_3 : ∃ (s : State) (m : Nat), s.operating = true ∧ s.switchTarget = some m ∧ m
    ≠ s.mode ∧ s.od.sealedSet = none :=
  ⟨live |> put 0x4001 1 0 4 |> put 0x4001 6 0 2 |> onRing fun g =>
  { g with request := some ⟨7, 0, 2⟩, confirm := some 7 }, 7, by decide +kernel⟩
theorem witness_ScheduleModeChanges_4 : ∃ (s : State) (m : Nat), s.operating = true ∧ s.ring.adopt = some m ∧ m ≠
    s.mode ∧ s.ringState ≠ 4 :=
  ⟨live |> put 0x4001 1 0 3 |> onRing fun g => { g with adopt := some 7 }, 7, by decide +kernel⟩
theorem witness_SegmentStartUp_1 : ∃ (s : State) (p : Nat), p < 256 ∧ s.segmentPort p = true ∧ s.segState p = 1 ∧
    s.timerOver p = true ∧ s.segCfg p 3 5 ≠ 0 ∧ s.ownsSync p = true ∧ s.room 1 := by
  refine ⟨live |> putPort 4 0 2 0 1 |> putPort 4 1 3 0 1 |> putPort 4 3 5 0 1 |> putPort 4 4 1 0 1 |> putPort 4 4 5 0
  1, 4, ?_⟩
  repeat' apply And.intro
  all_goals first | decide +kernel
theorem witness_SegmentStartUp_2 : ∃ (s : State) (p : Nat), s.segmentPort p = true ∧ s.segState p = 1 ∧
    s.timerOver p = true ∧ (s.segCfg p 3 5 = 0 ∨ s.ownsSync p = false) :=
  ⟨live |> putPort 4 0 2 0 1 |> putPort 4 1 3 0 1, 4, by decide +kernel⟩
theorem witness_SegmentStartUp_3 : ∃ (s : State) (p : Nat), s.timerOver p = false :=
  ⟨live |> putPort 4 0 2 0 1 |> putPort 4 1 3 0 1 |> onSeg 4 fun g => { g with timerEnd := 9 }, 4, by decide +kernel⟩
theorem witness_SegmentStartUp_4 : ∃ (s : State) (p : Nat), p < 256 ∧ s.segState p = 3 ∧ s.timerOver p = true ∧
    s.room 1 := by
  refine ⟨live |> putPort 255 1 3 0 3, 255, ?_⟩
  repeat' apply And.intro
  all_goals first | decide +kernel
theorem witness_SegmentStartUp_5 : ∃ (s : State) (p : Nat), s.timerOver p = false :=
  ⟨live |> putPort 255 1 3 0 3 |> onSeg 255 fun g => { g with timerEnd := 9 }, 255, by decide +kernel⟩
theorem witness_SegmentStartUp_6 : ∃ (s : State) (p : Nat), s.segmentPort p = true ∧ s.hasView p = true :=
  ⟨live |> putPort 4 0 2 0 1 |> putPort 4 1 3 0 5 |> onSeg 4 fun g =>
  { g with cycle := 41, accepted := 2, frozen := some [], inTail := true }, 4, by decide +kernel⟩
theorem witness_SlotsOfTheModule_1 : ∃ (s : State) (p slot : Nat) (x : Slot) (f : QueuedFrame), s.operating = true
    ∧ s.groveOn (p / 32) = true ∧ s.slotOf p (s.segMode p) slot = some x ∧ x.owner = 0 ∧ x.sync = false ∧ s.segState p
    = 5 ∧ (s.seg p).latched.get? slot = none ∧ s.slotContent p x = some f ∧ s.fitsSlot p (s.queuedBytes p f) x = true
    :=
  ⟨live |> putPort 4 0 2 0 1 |> putPort 4 1 3 0 5 |> putPort 4 4 1 63 1 |> putPort 4 4 4 63 10000 |> putPort 4 4 6 63
  8 |> (fun s => onTraffic (fun t => { t with queues := t.queues.set 39 [aFrame (bytesOf 60)] }) s), 4, 63, ⟨63, 0, 0,
  10000, false, false, 8⟩, aFrame (bytesOf 60), by decide +kernel⟩
theorem witness_SlotsOfTheModule_2 : ∃ (s : State) (p slot : Nat) (x : Slot) (f : QueuedFrame), s.operating = true
    ∧ s.groveOn (p / 32) = true ∧ s.slotOf p (s.segMode p) slot = some x ∧ x.owner = 0 ∧ x.sync = false ∧ x.toTail =
    true ∧ isSG p = true ∧ s.segState p = 5 ∧ (s.seg p).latched.get? slot = none ∧ s.slotContent p x = some f ∧
    s.fitsSlot p (s.queuedBytes p f) x = false :=
  ⟨live |> putPort 4 0 2 0 1 |> putPort 4 1 3 0 5 |> putPort 4 4 1 0 1 |> putPort 4 4 5 0 2 |> putPort 4 4 4 0 100 |>
  onSeg 4 fun g => { g with outBuffers := [(0, bytesOf 60, true)] }, 4, 0, ⟨0, 0, 0, 100, false, true, 0⟩, aFrame
  (bytesOf 60), by decide +kernel⟩
theorem witness_SlotsOfTheModule_3 : ∃ (s : State) (p slot : Nat) (x : Slot) (f : QueuedFrame), s.operating = true
    ∧ s.groveOn (p / 32) = true ∧ s.portSilenced p = false ∧ s.noSa p = false ∧ s.slotOf p (s.segMode p) slot = some x
    ∧ x.owner = 0 ∧ x.sync = false ∧ s.segState p = 5 ∧ (s.seg p).latched.get? slot = some f :=
  ⟨live |> putPort 4 0 2 0 1 |> putPort 4 1 3 0 5 |> putPort 4 4 1 0 1 |> onSeg 4 fun g =>
  { g with latched := [(0, aFrame [1, 2])] }, 4, 0, ⟨0, 0, 0, 800, false, false, 0⟩, aFrame [1, 2], by decide +kernel⟩
theorem witness_SlotsOfTheModule_4 : ∃ (s : State) (p slot : Nat) (x : Slot) (collision : Bool), s.operating =
    true ∧ s.slotOf p (s.segMode p) slot = some x ∧ x.owner = 0 ∧ x.sync = false ∧ s.segState p = 5 ∧ (s.seg
    p).latched.get? slot = none :=
  ⟨live |> putPort 4 0 2 0 1 |> putPort 4 1 3 0 5 |> putPort 4 4 1 0 1, 4, 0, ⟨0, 0, 0, 800, false, false, 0⟩, true,
  by decide +kernel⟩
theorem witness_SlotsOfTheModule_5 : ∃ (s : State) (p slot : Nat) (x : Slot), s.operating = true ∧ s.groveOn (p /
    32) = true ∧ s.portSilenced p = false ∧ s.noSa p = false ∧ s.slotOf p (s.segMode p) slot = some x ∧ x.owner = 0 ∧
    x.sync = true ∧ (s.segState p = 5 ∨ (s.segState p = 2 ∧ (s.seg p).startPending = false)) :=
  ⟨live |> putPort 4 0 2 0 1 |> putPort 4 1 3 0 5 |> putPort 4 4 1 0 1 |> putPort 4 4 5 0 1, 4, 0, ⟨0, 0, 0, 800,
  true, false, 0⟩, by decide +kernel⟩
theorem witness_SlotsOfTheModule_6 : ∃ (s : State) (p slot : Nat) (x : Slot), s.operating = true ∧ s.groveOn (p /
    32) = true ∧ s.portSilenced p = false ∧ s.noSa p = false ∧ s.slotOf p (s.segMode p) slot = some x ∧ x.owner = 0 ∧
    x.sync = true ∧ (s.segState p = 5 ∨ (s.segState p = 2 ∧ (s.seg p).startPending = false)) :=
  ⟨live |> putPort 4 0 2 0 1 |> putPort 4 1 3 0 2 |> putPort 4 4 1 0 1 |> putPort 4 4 5 0 1, 4, 0, ⟨0, 0, 0, 800,
  true, false, 0⟩, by decide +kernel⟩
theorem witness_SlotsOfTheModule_7 : ∃ (s : State) (p slot : Nat) (x : Slot), s.slotOf p (s.segMode p) slot = some
    x ∧ x.owner ≠ 0 ∧ s.hasView p = true ∧ (s.seg p).slotsFilled.contains slot = false :=
  ⟨live |> putPort 4 0 2 0 1 |> putPort 4 1 3 0 5 |> putPort 4 4 1 0 1 |> putPort 4 4 2 0 254 |> onSeg 4 fun g =>
  { g with slotsFilled := [1] }, 4, 0, ⟨0, 254, 0, 800, false, false, 0⟩, by decide +kernel⟩
theorem witness_SegmentReception_1 : ∃ (s : State) (p sender : Nat) (f : Frame) (x : Slot), s.operating = true ∧ p
    < 256 ∧ s.hears p f = true ∧ s.sound p f = true ∧ s.segmentPort p = true ∧ s.hasView p = true ∧ s.placement p
    (s.inCycle p (s.frameStart p f.stamp)) = .slot x ∧ s.listenOnly p x.owner = false ∧ s.inWindow p x (s.inCycle p
    (s.frameStart p f.stamp)) = true ∧ s.endsInSlot p x (s.inCycle p (s.frameStart p f.stamp)) (s.wireBytes p f) =
    true :=
  ⟨live |> putPort 4 0 1 0 1 |> putPort 4 0 2 0 1 |> putPort 4 1 3 0 5 |> putPort 4 4 1 0 1 |> putPort 4 4 2 0 9 |>
  putPort 4 4 4 0 10000 |> onSeg 4 fun g => { g with cycle := 0 }, 4, 9,
  { data := bytesOf 60, fcs := .good, icv := .unprotected, stamp := nsUnits (7200 + 400) }, ⟨0, 9, 0, 10000, false,
  false, 0⟩, by decide +kernel⟩
theorem witness_SegmentReception_2 : ∃ (s : State) (p sender : Nat) (f : Frame), s.operating = true ∧ p < 256 ∧
    s.hears p f = true ∧ isSG p = true ∧ s.portMode p = 0 ∧ sender ≤ 254 ∧ sender ≠ s.port p 2 1 ∧ maskBit (s.obj
    (portIdx p 5) 0) sender = false :=
  ⟨live |> putPort 4 0 1 0 1, 4, 254, { data := bytesOf 60, fcs := .good, icv := .unprotected, stamp := 0 },
  by decide +kernel⟩
theorem witness_SegmentReception_3 : ∃ (s : State) (p : Nat) (f : Frame) (x : Slot), s.operating = true ∧ p < 256
    ∧ s.portEnabled p = true ∧ s.groveOn (groveOf p) = true ∧ s.segmentPort p = true ∧ s.segState p = 1 ∧ s.sound p f
    = true ∧ (((s.slots p).find? fun y => y.sync && y.owner == (SyncBody.decode (protocolBody f.data)).sender &&
    y.owner != 0) = some x) ∧ (SyncBody.decode (protocolBody f.data)).version = 1 ∧ (SyncBody.decode (protocolBody
    f.data)).mode = s.segMode p ∧ (SyncBody.decode (protocolBody f.data)).digest = s.segDigest p (s.segMode p) ∧
    s.listenOnly p x.owner = false :=
  ⟨listening, 4, syncFrameFor listening 4, ⟨0, 9, 0, 800, true, false, 0⟩, by decide +kernel, by decide +kernel,
  by decide +kernel, by decide +kernel, by decide +kernel, by decide +kernel, by decide +kernel, by decide +kernel,
  rfl, rfl, rfl, by decide +kernel⟩
theorem witness_SegmentTailAndNodes_1 : ∃ (s : State) (p : Nat), s.operating = true ∧ isSG p = true ∧
    s.segmentPort p = true ∧ s.segState p = 5 ∧ s.portSilenced p = false ∧ s.groveOn (p / 32) = true :=
  ⟨live |> putPort 31 0 2 0 1 |> putPort 31 1 3 0 5, 31, by decide +kernel⟩
theorem witness_SegmentTailAndNodes_2 : ∃ (s : State) (p : Nat), s.operating = true ∧ isSG p = true ∧
    s.segmentPort p = true ∧ s.segState p = 5 ∧ s.portSilenced p = false ∧ s.groveOn (p / 32) = true ∧ s.macBusy p ∧
    s.room 2 := by
  refine ⟨live |> putPort 31 0 2 0 1 |> putPort 31 1 3 0 5 |> sending 31, 31, ?_⟩
  repeat' apply And.intro
  all_goals first | exact macBusy_of _ _ (by decide +kernel) | decide +kernel
theorem witness_SegmentTailAndNodes_3 : ∃ (s : State) (p node : Nat), p < 256 ∧ node < 255 ∧ maskBit (s.obj
    (portIdx p 5) 0) node = true ∧ s.listenOnly p node = false ∧ s.segCfg p 3 8 ≤ (s.seg p).silent.getD node 0 ∧
    s.room 1 := by
  refine ⟨live |> putPort 4 5 0 0 (2 ^ 254) |> putPort 4 6 1 254 1 |> putPort 4 3 8 0 2 |> onSeg 4 fun g =>
  { g with silent := [(254, 2)] }, 4, 254, ?_⟩
  repeat' apply And.intro
  all_goals first | decide +kernel
theorem witness_SegmentTailAndNodes_4 : ∃ (s : State) (p node : Nat), p < 256 ∧ node < 255 ∧ s.listenOnly p node =
    true ∧ s.segCfg p 3 9 ≤ (s.seg p).quiet.getD node 0 ∧ s.room 3 := by
  refine ⟨live |> putPort 4 6 5 0 1 |> putPort 4 3 9 0 2 |> onSeg 4 fun g => { g with quiet := [(0, 2)] }, 4, 0, ?_⟩
  repeat' apply And.intro
  all_goals first | decide +kernel
theorem witness_SegmentTailAndNodes_5 : ∃ (s : State) (p m j : Nat), s.operating = true ∧ p < 256 ∧ (s.seg
    p).nextMode = some m ∧ (s.seg p).switchAt = some j ∧ j ≤ (s.seg p).cycle ∧ s.room 1 := by
  refine ⟨live |> onSeg 4 fun g => { g with nextMode := some 7, switchAt := some 3, cycle := 3 }, 4, 7, 3, ?_⟩
  repeat' apply And.intro
  all_goals first | decide +kernel
theorem witness_SegmentTailAndNodes_6 : ∃ (s : State) (p : Nat) (status : Bool), p < 256 ∧ s.room 1 := by
  refine ⟨live, 4, true, ?_⟩
  repeat' apply And.intro
  all_goals first | decide +kernel
theorem witness_LinksRiseAndFall_1 : ∃ (s : State) (p : Nat), s.operating = true ∧ p < 256 ∧ s.portEnabled p =
    true ∧ s.portOn p 1 1 = false :=
  ⟨live |> putPort 1 0 1 0 1 |> at16 77, 1, by decide +kernel⟩
theorem witness_LinksRiseAndFall_2 : ∃ (s : State) (p : Nat), s.operating = true ∧ p < 256 ∧ s.portOn p 1 1 = true
    :=
  ⟨live |> putPort 255 1 1 0 1 |> put 0x6001 2 255 2, 255, by decide +kernel⟩
theorem witness_FramesSteeredAndForwarded_1 : ∃ (s : State) (p : Nat) (f : Frame), s.operating = true ∧ p < 256 ∧
    s.hears p f = true ∧ s.unscheduled p = true ∧ s.takenFrame p f.data = false ∧ s.identRows (some p) f.data
    (parseFrame f.data) = [] ∧ s.addressKind p (parseFrame f.data) = none :=
  ⟨live |> putPort 0 0 1 0 1 |> lay (portIdx 0 0) 6 0 9, 0,
  { data := bytesOf 60, fcs := .good, icv := .unprotected, stamp := 0 }, by decide +kernel⟩
theorem witness_FramesSteeredAndForwarded_2 : ∃ (s : State) (handle : Nat) (f : ForwardedFrame) (q : Nat),
    s.operating = true ∧ s.stackMember = true ∧ s.stackCarries f.port = true ∧ f.member = s.n 0x1003 0 ∧ frameSound
    f.frame = true ∧ s.on 0x6020 1 handle = true ∧ s.on 0x6021 4 handle = false ∧ s.n 0x6020 4 handle = 0 ∧ s.n 0x6020
    6 handle = 0xFFFF ∧ s.n 0x6020 7 handle = 0 ∧ s.n 0x6020 8 handle = 0xFFFF ∧ s.n 0x6020 9 handle = 0xFFFF ∧
    s.egressPorts handle = [q] ∧ q < 256 ∧ s.macBusy q ∧ s.takesFrame q (s.streamClass handle q f.frame.data)
    { data := f.frame.data, origin := .relayed 0xFFFC (f.frame.icv == .verified), handle := handle, enqueued := s.now, received := f.frame.stamp, launch := none, sent := 0, cuts := 0, heldCounted := false, began := none }
    := by
  refine ⟨stackMemberLive |> put 0x9002 1 0 1 |> put 0x6020 1 7 1 |> put 0x6020 2 7 2 |> put 0x6020 3 7 5 |> sending
  1, 7, ⟨0, 1, { data := bytesOf 60, fcs := .good, icv := .unprotected, stamp := 0 }⟩, 1, ?_⟩
  repeat' apply And.intro
  all_goals first | exact macBusy_of _ _ (by decide +kernel) | decide +kernel
theorem witness_FramesSteeredAndForwarded_3 : ∃ (s : State) (handle : Nat) (f : ForwardedFrame), s.operating =
    true ∧ s.stackMember = true ∧ s.stackCarries f.port = true ∧ f.member = s.n 0x1003 0 ∧ frameSound f.frame = true ∧
    s.on 0x6020 1 handle = true ∧ s.on 0x6021 4 handle = false ∧ s.n 0x6020 4 handle = 0 ∧ s.n 0x6020 6 handle =
    0xFFFF ∧ s.n 0x6020 7 handle = 0 ∧ s.n 0x6020 8 handle = 0xFFFF :=
  ⟨stackMemberLive |> put 0x9002 1 0 1 |> put 0x6020 1 7 1 |> put 0x6020 2 7 6 |> put 0x6020 3 7 5, 7, ⟨0, 1,
  { data := bytesOf 60, fcs := .good, icv := .unprotected, stamp := 0 }⟩, by decide +kernel⟩
theorem witness_FramesSteeredAndForwarded_4 : ∃ (s : State) (handle : Nat) (f : ForwardedFrame), s.operating =
    true ∧ s.stackMember = true ∧ s.stackCarries f.port = true ∧ s.stackCarries (1 - f.port) = true ∧ f.member ≠ s.n
    0x1003 0 :=
  ⟨stackMemberLive |> put 0x9002 1 0 1 |> put 0x9001 1 1 1 |> put 0x9002 1 1 1, 7, ⟨0, 2,
  { data := bytesOf 60, fcs := .good, icv := .unprotected, stamp := 0 }⟩, by decide +kernel⟩
theorem witness_MacSendsWhatMayStart_1 : ∃ (s : State) (p c : Nat) (f : QueuedFrame), s.operating = true ∧ p < 256
    ∧ s.groveOn (groveOf p) = true ∧ (s.mac p).current = some (c, f) ∧ (s.mac p).cutAt = none ∧ endsQuietly f.origin =
    true ∧ (s.gptpPort p).owed = [] ∧ (s.seg p).leaving = [] ∧ (s.seg p).overflow = [] ∧ (((List.range 8).all fun d =>
    (s.queued (classQueue p d)).isEmpty) = true) :=
  ⟨live |> sending 3, 3, 7, aFrame (bytesOf 60), by decide +kernel⟩
theorem witness_MacSendsWhatMayStart_2 : ∃ (s : State) (p c : Nat) (f : QueuedFrame) (x : Nat), s.operating = true
    ∧ p < 256 ∧ s.groveOn (groveOf p) = true ∧ (s.mac p).current = some (c, f) ∧ (s.mac p).cutAt = some x ∧ (s.seg
    p).leaving = [] :=
  ⟨live |> onTraffic (fun t =>
  { t with macs := t.macs.set 3 { Mac.init with current := some (2, aFrame (bytesOf 200)), cutAt := some 64 } }), 3,
  2, aFrame (bytesOf 200), 64, by decide +kernel⟩
theorem witness_MacSendsWhatMayStart_3 : ∃ (s : State) (p c : Nat) (f : QueuedFrame), s.operating = true ∧ p < 256
    ∧ isSG p = true ∧ s.groveOn (groveOf p) = true ∧ (s.mac p).current = some (c, f) ∧ (s.mac p).tries < 15 ∧ (s.seg
    p).leaving = [] :=
  ⟨live |> putPort 4 0 2 0 2 |> sending 4, 4, 7, aFrame (bytesOf 60), by decide +kernel⟩
theorem witness_MacSendsWhatMayStart_4 : ∃ (s : State) (p k c : Nat) (f : QueuedFrame), s.operating = true ∧ p <
    256 ∧ c < 8 ∧ (s.mac p).current = none ∧ s.mayTransmit p = true ∧ s.contends p = false ∧ s.laneWrapped p = false ∧
    (s.mac p).backoffEnd ≤ s.now ∧ (s.gptpPort p).owed = [] ∧ (s.seg p).overflow = [] ∧ (((List.range 8).all fun d =>
    (s.queued (classQueue p d)).head?.all fun g => (s.headDoom p d g).isNone) = true) ∧ (((s.classOrder p).find? fun d
    => s.eligible p d) = some c) ∧ (s.queued (classQueue p c)).head? = some f :=
  ⟨live |> putPort 3 1 1 0 1 |> onTraffic (fun t => { t with queues := t.queues.set 27 [aFrame (bytesOf 60)] }) |>
  at16 5, 3, 3, 3, aFrame (bytesOf 60), by decide +kernel⟩
theorem witness_GateListsOpenAndClose_1 : ∃ (s : State) (p a b : Nat) (e : GateEntry), s.operating = true ∧ p <
    256 ∧ s.gated p = true ∧ s.takeOverAt p = none ∧ (s.gate p).running = true ∧ (s.operGates p).spanAt s.now = some
    (a, b, e) :=
  ⟨live |> put 0x6100 1 200 1 |> put 0x6101 2 200 1000 |> put 0x6101 4 200 1 |> put (0x6300 + 200) 2 0 5 |> put
  (0x6300 + 200) 3 0 1000 |> onTraffic (fun t =>
  { t with gates := t.gates.set 200 { Gate.init with running := true } }), 200, 0, 65536000, ⟨0, 5, 1000⟩,
  by decide +kernel⟩
theorem witness_GateListsOpenAndClose_2 : ∃ (s : State) (p : Nat), s.operating = true ∧ p < 256 ∧ (s.gate
    p).armedTime.isSome = true ∧ s.room 1 := by
  refine ⟨live |> put 0x6100 1 200 1 |> put 0x6100 6 200 1 |> put (0x6200 + 200) 2 0 5 |> put (0x6200 + 200) 3 0 1000
  |> onTraffic (fun t => { t with gates := t.gates.set 200 { Gate.init with armedTime := some 0 } }), 200, ?_⟩
  repeat' apply And.intro
  all_goals first | decide +kernel
theorem witness_PreemptionIsVerified_1 : ∃ (s : State) (p : Nat), s.operating = true ∧ p < 256 ∧ s.groveOn
    (groveOf p) = true ∧ s.n 0x6001 2 p = 1 ∧ (s.mac p).verifySent < 3 :=
  ⟨live |> put 0x6001 2 0 1 |> onTraffic (fun t => { t with macs := t.macs.set 0 { Mac.init with verifySent := 2 } }),
  0, by decide +kernel⟩
theorem witness_PreemptionIsVerified_2 : ∃ (s : State) (p : Nat), s.operating = true ∧ p < 256 ∧ s.groveOn
    (groveOf p) = true ∧ s.n 0x6001 2 p = 1 ∧ 3 ≤ (s.mac p).verifySent :=
  ⟨live |> put 0x6001 2 0 1 |> onTraffic (fun t => { t with macs := t.macs.set 0 { Mac.init with verifySent := 3 } }),
  0, by decide +kernel⟩
theorem witness_PreemptionIsVerified_3 : ∃ (s : State) (p : Nat), s.operating = true ∧ p < 256 ∧ s.groveOn
    (groveOf p) = true ∧ s.n 0x6001 2 p = 1 ∧ s.preemptionWanted p = true ∧ s.on 0x6001 1 p = false ∧ s.room 1 := by
  refine ⟨live |> put 0x6001 2 0 1 |> put 0x6000 2 0 1 |> putPort 0 1 1 0 1, 0, ?_⟩
  repeat' apply And.intro
  all_goals first | decide +kernel
theorem witness_PreemptionIsVerified_4 : ∃ (s : State) (p : Nat), s.operating = true ∧ p < 256 ∧ s.groveOn
    (groveOf p) = true ∧ s.n 0x6001 2 p = 1 ∧ s.preemptionWanted p = false :=
  ⟨live |> put 0x6001 2 0 1, 0, by decide +kernel⟩
theorem witness_SequenceRecoveryTimers_1 : ∃ (s : State) (fn : Nat), s.operating = true ∧ s.room 1 ∧ (s.recovery
    fn).takeAny = false ∧ s.after (s.recovery fn).passedAt (nsUnits (1000000 * s.n 0x6600 3 fn)) = true := by
  refine ⟨live |> put 0x6600 3 9 0 |> onTraffic (fun t =>
  { t with recovery := t.recovery.set 9 { Recovery.init with takeAny := false, sequence := 5, history := [true], basePassed := 3 } }),
  9, ?_⟩
  repeat' apply And.intro
  all_goals first | decide +kernel
theorem witness_SequenceRecoveryTimers_2 : ∃ (s : State) (fn : Nat), s.operating = true ∧ ((s.recovery fn).takeAny
    = true ∨ s.after (s.recovery fn).passedAt (nsUnits (1000000 * s.n 0x6600 3 fn)) = false) :=
  ⟨live, 9, by decide +kernel⟩
theorem witness_SequenceRecoveryTimers_3 : ∃ (s : State) (fn : Nat), s.operating = true ∧ s.on 0x6600 5 fn = true
    ∧ s.after (s.recovery fn).testedAt (nsUnits (1000000 * s.n 0x6600 7 fn)) = true ∧ (s.n 0x6600 6 fn : Int) < absI
    (((s.n 0x6601 1 fn : Int) - (s.recovery fn).basePassed) * ((s.n 0x6600 8 fn : Int) - 1) - ((s.n 0x6601 2 fn : Int)
    - (s.recovery fn).baseDiscarded)) ∧ s.staysAsItIs 2 fn = true ∧ s.room 2 := by
  refine ⟨live |> put 0x6600 5 9 1 |> put 0x6600 7 9 0 |> put 0x6600 8 9 2 |> put 0x6601 2 9 500 |> put 0x6600 6 9 3,
  9, ?_⟩
  repeat' apply And.intro
  all_goals first | decide +kernel
theorem witness_SequenceRecoveryTimers_4 : ∃ (s : State) (fn : Nat), s.operating = true ∧ s.on 0x6600 5 fn = true
    ∧ s.after (s.recovery fn).testedAt (nsUnits (1000000 * s.n 0x6600 7 fn)) = true ∧ absI (((s.n 0x6601 1 fn : Int) -
    (s.recovery fn).basePassed) * ((s.n 0x6600 8 fn : Int) - 1) - ((s.n 0x6601 2 fn : Int) - (s.recovery
    fn).baseDiscarded)) ≤ (s.n 0x6600 6 fn : Int) :=
  ⟨live |> put 0x6600 5 9 1 |> put 0x6600 7 9 0 |> put 0x6600 8 9 2 |> put 0x6600 6 9 3, 9, by decide +kernel⟩
theorem witness_SequenceRecoveryTimers_5 : ∃ (s : State) (fn : Nat), s.operating = true ∧ s.on 0x6600 5 fn = true
    ∧ s.after (s.recovery fn).rebasedAt (nsUnits (1000000 * s.n 0x6600 9 fn)) = true :=
  ⟨live |> put 0x6600 5 9 1 |> put 0x6600 9 9 0 |> put 0x6601 1 9 77 |> put 0x6601 2 9 5, 9, by decide +kernel⟩
theorem witness_HostFramesReachTheirPort_1 : ∃ (s : State) (r : Nat) (f : TxFrame) (p : Nat), s.operating = true ∧
    s.headFrame r = some f ∧ (s.hostRing true r).state = .enabled ∧ s.rateAllows r = true ∧ s.twinHalf = false ∧ s.n
    0x8200 1 r = p ∧ p < 256 ∧ s.n 0x8200 2 r < 8 ∧ s.identRows none f.data (parseFrame f.data) = [] ∧
    (((s.frameLaunch f).all fun l => decide (l ≤ s.now + nsUnits (s.n 0x8010 1))) = true) ∧ s.tooLong p f.data = false
    ∧ s.roomFor r f.ident none [p] f.data = true ∧ s.macBusy p := by
  refine ⟨live |> put 0x8200 1 4095 2 |> put 0x8200 2 4095 3 |> sending 2 |> onHost (fun h =>
  { h with tx := h.tx.set 4095 { HostRing.init with state := .enabled, waitingRoom := false, frames := [{ newFrame 0 0 (0, bytesOf 32) with phase := .ready, data := bytesOf 60 }] } }),
  4095, { newFrame 0 0 (0, bytesOf 32) with phase := .ready, data := bytesOf 60 }, 2, ?_⟩
  repeat' apply And.intro
  all_goals first | exact macBusy_of _ _ (by decide +kernel) | decide +kernel
theorem witness_HostFramesReachTheirPort_2 : ∃ (s : State) (r : Nat) (f : TxFrame) (p : Nat), s.operating = true ∧
    s.headFrame r = some f ∧ (s.hostRing true r).state = .enabled ∧ s.rateAllows r = true ∧ s.twinHalf = false ∧ s.n
    0x8200 1 r = p ∧ p < 256 ∧ s.identRows none f.data (parseFrame f.data) = [] ∧ (((s.frameLaunch f).all fun l =>
    decide (l ≤ s.now + nsUnits (s.n 0x8010 1))) = true) ∧ s.roomFor r f.ident none [p] f.data = false :=
  ⟨live |> put 0x8200 1 4095 2 |> put 0x8200 2 4095 3 |> put 0x6400 4 19 20 |> onHost (fun h =>
  { h with tx := h.tx.set 4095 { HostRing.init with state := .enabled, frames := [{ newFrame 0 0 (0, bytesOf 32) with phase := .ready, data := bytesOf 60 }] } }),
  4095, { newFrame 0 0 (0, bytesOf 32) with phase := .ready, data := bytesOf 60 }, 2, by decide +kernel⟩
theorem witness_HostFramesReachTheirPort_3 : ∃ (s : State) (r : Nat) (f : TxFrame), s.operating = true ∧
    s.headFrame r = some f ∧ (s.hostRing true r).state = .enabled ∧ s.rateAllows r = true ∧ s.twinHalf = false ∧ s.n
    0x8200 1 r = 0xFFFF ∧ s.identRows none f.data (parseFrame f.data) = [] :=
  ⟨live |> put 0x8200 1 4095 0xFFFF |> onHost (fun h =>
  { h with tx := h.tx.set 4095 { HostRing.init with state := .enabled, frames := [{ newFrame 0 0 (0, bytesOf 32) with phase := .ready, data := bytesOf 60 }] } }),
  4095, { newFrame 0 0 (0, bytesOf 32) with phase := .ready, data := bytesOf 60 }, by decide +kernel⟩
theorem witness_HostFramesReachTheirPort_4 : ∃ (s : State) (r : Nat) (f : TxFrame) (p : Nat), s.operating = true ∧
    (s.hostRing true r).waitingRoom = true ∧ s.headFrame r = some f ∧ (s.hostRing true r).state = .enabled ∧
    s.rateAllows r = true ∧ s.twinHalf = false ∧ s.n 0x8200 1 r = p ∧ p < 256 ∧ s.n 0x8200 2 r < 8 ∧ s.identRows none
    f.data (parseFrame f.data) = [] ∧ (((s.frameLaunch f).all fun l => decide (l ≤ s.now + nsUnits (s.n 0x8010 1))) =
    true) ∧ s.tooLong p f.data = false ∧ s.roomFor r f.ident none [p] f.data = true ∧ s.macBusy p := by
  refine ⟨live |> put 0x8200 1 0 2 |> put 0x8200 2 0 3 |> sending 2 |> onHost (fun h =>
  { h with tx := h.tx.set 0 { HostRing.init with state := .enabled, waitingRoom := true, frames := [{ newFrame 0 0 (0, bytesOf 32) with phase := .ready, data := bytesOf 60 }] } }),
  0, { newFrame 0 0 (0, bytesOf 32) with phase := .ready, data := bytesOf 60 }, 2, ?_⟩
  repeat' apply And.intro
  all_goals first | exact macBusy_of _ _ (by decide +kernel) | decide +kernel
theorem witness_HostFramesReachTheirPort_5 : ∃ (s : State) (r : Nat), s.operating = true ∧ (s.ringCredit
    r).eligible.isSome = true ∧ (s.ringCredit r).laps ≠ 0 :=
  ⟨live |> onTraffic (fun t => { t with ringCredits := t.ringCredits.set 4095 ⟨-5, 0, some 7, 3⟩ }), 4095,
  by decide +kernel⟩
theorem witness_HostFramesReachTheirPort_6 : ∃ (s : State) (r : Nat), s.operating = true ∧ (s.ringCredit
    r).eligible.isSome = true ∧ (s.ringCredit r).laps = 0 ∧ 0 ≤ s.creditNow r ∧ s.headFrame r = none :=
  ⟨live |> put 0x6700 3 4095 5 |> onTraffic (fun t =>
  { t with ringCredits := t.ringCredits.set 4095 ⟨5, 0, some 7, 0⟩ }), 4095, by decide +kernel⟩
theorem witness_TasksStartFinishAndOverrun_1 : ∃ (s : State) (e i : Nat), s.operating = true ∧ e < 128 ∧ i < 64 ∧
    s.on 0x7000 1 = true ∧ s.on 0x7010 1 (8 * e + (s.engine e).mode) = true ∧ s.taskCell e (s.engine e).mode i 1 ≠ 0 ∧
    s.engineRuns e = true ∧ s.baseReady e (s.engine e).mode = true ∧ s.twinHalf = false ∧ (s.engine e).run = none ∧
    (s.engine e).result = none :=
  ⟨live |> put 0x7000 1 0 1 |> put 0x7010 1 (8 * 127 + 7) 1 |> put 0x7010 2 (8 * 127 + 7) 0xFFFF |> put (0x7100 + 127)
  1 511 1 |> put (0x7100 + 127) 6 511 2 |> onMessages (fun m =>
  { m with engines := m.engines.set 127 { Engine.init with mode := 7 } }), 127, 63, by decide +kernel⟩
theorem witness_TasksStartFinishAndOverrun_2 : ∃ (s : State) (e i : Nat), s.operating = true ∧ s.engineRuns e =
    true ∧ s.baseReady e (s.engine e).mode = true ∧ s.pastCycle e (s.engine e).mode i = false ∧ ((s.engine
    e).run.isSome = true ∨ (s.engine e).result.isSome = true) :=
  ⟨live |> put 0x7000 1 0 1 |> put 0x7010 1 0 1 |> put 0x7010 2 0 0xFFFF |> put 0x7100 1 1 1 |> onMessages (fun m =>
  { m with engines := m.engines.set 0 { Engine.init with result := some ⟨0, 0, 1, 2, 9, 7, false, 0⟩ } }), 0, 1,
  by decide +kernel⟩
theorem witness_TasksStartFinishAndOverrun_3 : ∃ (s : State) (e n : Nat) (r : TaskRun) (w : TaskWrite), e < 128 ∧
    s.groveOn (e / 16) = true ∧ (s.engine e).run = some r ∧ n ≤ s.taskCell e r.mode r.task 4 ∧ r.ran = true ∧ r.writes
    = [w] ∧ epKind w.endpoint = 3 ∧ w.whole = true ∧ w.keep = false ∧ epOffset w.endpoint % 8 = 0 ∧ epOffset
    w.endpoint + entrySize true w.value.bytes.length ≤ 65536 ∧ w.value.bytes.length ≤ 4096 :=
  ⟨live |> put (0x7100 + 127) 4 5 9 |> onMessages (fun m =>
  { m with engines := m.engines.set 127 { Engine.init with run := some ⟨5, 0, 7, 1, [], [⟨216172782113783808 + 8, ⟨1, true, 0, 255, 3, true, 2, [4, 5], 0, 65535⟩, 0, true, false, true, false, 65535⟩], [], 1, true, false, 0, []⟩ } }),
  127, 9, ⟨5, 0, 7, 1, [], [⟨216172782113783808 + 8, ⟨1, true, 0, 255, 3, true, 2, [4, 5], 0, 65535⟩, 0, true, false,
  true, false, 65535⟩], [], 1, true, false, 0, []⟩, ⟨216172782113783808 + 8, ⟨1, true, 0, 255, 3, true, 2, [4, 5], 0,
  65535⟩, 0, true, false, true, false, 65535⟩, by decide +kernel⟩
theorem witness_TasksStartFinishAndOverrun_4 : ∃ (s : State) (e n : Nat) (r : TaskRun), e < 128 ∧ s.groveOn (e /
    16) = true ∧ (s.engine e).run = some r ∧ r.ran = true ∧ n ≤ s.taskCell e r.mode r.task 4 :=
  ⟨live |> put (0x7100 + 127) 4 5 9 |> onMessages (fun m =>
  { m with engines := m.engines.set 127 { Engine.init with run := some ⟨5, 0, 7, 1, [], [], [], 1, true, false, 0, []⟩ } }),
  127, 9, ⟨5, 0, 7, 1, [], [], [], 1, true, false, 0, []⟩, by decide +kernel⟩
theorem witness_TasksStartFinishAndOverrun_5 : ∃ (s : State) (e : Nat) (r : TaskRun), e < 128 ∧ s.groveOn (e / 16)
    = true ∧ (s.engine e).run = some r :=
  ⟨live |> put (0x7100 + 127) 4 5 9 |> onMessages (fun m =>
  { m with engines := m.engines.set 127 { Engine.init with run := some ⟨5, 0, 7, 1, [], [], [], 1, true, false, 0, []⟩ } }),
  127, ⟨5, 0, 7, 1, [], [], [], 1, true, false, 0, []⟩, by decide +kernel⟩
theorem witness_TasksStartFinishAndOverrun_6 : ∃ (s : State) (g i : Nat) (x : TaskResult), g < 8 ∧ (((List.range
    16).find? fun i => (s.engine (16 * g + i)).result.isSome) = some i) ∧ (s.engine (16 * g + i)).result = some x ∧
    x.status = 0 ∧ s.taskCell (16 * g + i) x.mode x.task 7 = 0 :=
  ⟨live |> put (0x7100 + 127) 7 5 0 |> put (0x7180 + 127) 7 5 1 |> onMessages (fun m =>
  { m with engines := m.engines.set 127 { Engine.init with result := some ⟨5, 0, 1, 2, 9, 7, false, 0⟩ } }), 7, 15,
  ⟨5, 0, 1, 2, 9, 7, false, 0⟩, by decide +kernel⟩
theorem witness_SignalFunctionsStage_1 : ∃ (s : State) (e : Nat) (r : TaskRun) (row : Nat) (x : SourceValue) (v :
    Int), e < 128 ∧ s.groveOn (e / 16) = true ∧ (s.engine e).run = some r ∧ r.ran = false ∧ s.taskCell e r.mode r.task
    2 = 0 ∧ s.taskRows e r.mode r.task = [row] ∧ r.sources = [x] ∧ x.fresh = true ∧ (s.n (0x7200 + e / 16) 4
    row).testBit 0 = false ∧ readSignal x (startIn (s.n (0x7200 + e / 16) 1 row)) (signalSize (s.n (0x7200 + e / 16) 3
    row)) ((s.n (0x7200 + e / 16) 4 row).testBit 1) ((s.n (0x7200 + e / 16) 4 row).testBit 3) = some v :=
  ⟨live |> put (0x7100 + 127) 5 5 9 |> put (0x7100 + 127) 6 5 1 |> put 0x7207 3 9 16 |> onMessages (fun m =>
  { m with engines := m.engines.set 127 { Engine.init with run := some ⟨5, 0, 7, 1, [⟨1, true, 0, 255, 3, false, 16, [4, 5, 0, 0, 0, 0, 0, 0], 0, 65535⟩], [], [], 1, false, false, 0, []⟩ } }),
  127, ⟨5, 0, 7, 1, [⟨1, true, 0, 255, 3, false, 16, [4, 5, 0, 0, 0, 0, 0, 0], 0, 65535⟩], [], [], 1, false, false, 0,
  []⟩, 9, ⟨1, true, 0, 255, 3, false, 16, [4, 5, 0, 0, 0, 0, 0, 0], 0, 65535⟩, 1284, by decide +kernel⟩
theorem witness_SignalFunctionsStage_2 : ∃ (s : State) (e : Nat) (r : TaskRun) (row : Nat) (x : SourceValue) (b :
    Bytes), e < 128 ∧ s.groveOn (e / 16) = true ∧ (s.engine e).run = some r ∧ r.ran = false ∧ s.taskCell e r.mode
    r.task 2 = 0 ∧ s.taskRows e r.mode r.task = [row] ∧ r.sources = [x] ∧ x.fresh = true ∧ (s.n (0x7200 + e / 16) 4
    row).testBit 0 = true ∧ readPdu x (startIn (s.n (0x7200 + e / 16) 1 row)) (s.n (0x7200 + e / 16) 3 row) = some b
    :=
  ⟨live |> put (0x7100 + 127) 5 5 9 |> put (0x7100 + 127) 6 5 1 |> put 0x7207 3 9 2 |> put 0x7207 4 9 1 |> onMessages
  (fun m =>
  { m with engines := m.engines.set 127 { Engine.init with run := some ⟨5, 0, 7, 1, [⟨1, true, 0, 255, 3, true, 2, [15, 128], 0, 65535⟩], [], [], 1, false, false, 0, []⟩ } }),
  127, ⟨5, 0, 7, 1, [⟨1, true, 0, 255, 3, true, 2, [15, 128], 0, 65535⟩], [], [], 1, false, false, 0, []⟩, 9, ⟨1,
  true, 0, 255, 3, true, 2, [15, 128], 0, 65535⟩, [15, 128], by decide +kernel⟩
theorem witness_SignalFunctionsStage_3 : ∃ (s : State) (e : Nat) (r : TaskRun) (a b : Nat) (x : SourceValue) (v :
    Int), e < 128 ∧ s.groveOn (e / 16) = true ∧ (s.engine e).run = some r ∧ r.ran = false ∧ s.taskCell e r.mode r.task
    2 = 1 ∧ s.taskRows e r.mode r.task = [a, b] ∧ r.sources = [x] ∧ x.fresh = true ∧ readSignal x (startIn (s.n
    (0x7200 + e / 16) 1 b)) (signalSize (s.n (0x7200 + e / 16) 3 b)) ((s.n (0x7200 + e / 16) 4 b).testBit 1) ((s.n
    (0x7200 + e / 16) 4 b).testBit 3) = some v ∧ epOffset (s.n (0x7200 + e / 16) 2 b) + signalSize (s.n (0x7200 + e /
    16) 3 b) ≤ 8 * (slice ((s.engine e).packed.getD (64 * r.mode + r.task) []) 0 (s.n (0x7200 + e / 16) 3 a)).length
    :=
  ⟨live |> put (0x7100 + 127) 2 5 1 |> put (0x7100 + 127) 5 5 9 |> put (0x7100 + 127) 6 5 2 |> put 0x7207 3 9 4 |> put
  0x7207 3 10 12 |> put 0x7207 2 10 20 |> onMessages (fun m =>
  { m with engines := m.engines.set 127 { Engine.init with run := some ⟨5, 0, 7, 1, [⟨1, true, 0, 255, 3, false, 16, [4, 5, 0, 0, 0, 0, 0, 0], 0, 65535⟩], [], [], 1, false, false, 0, []⟩ } }),
  127, ⟨5, 0, 7, 1, [⟨1, true, 0, 255, 3, false, 16, [4, 5, 0, 0, 0, 0, 0, 0], 0, 65535⟩], [], [], 1, false, false, 0,
  []⟩, 9, 10, ⟨1, true, 0, 255, 3, false, 16, [4, 5, 0, 0, 0, 0, 0, 0], 0, 65535⟩, 1284, by decide +kernel⟩
theorem witness_SignalFunctionsStage_4 : ∃ (s : State) (e : Nat) (r : TaskRun) (row : Nat) (x : SourceValue) (v :
    Int), e < 128 ∧ s.groveOn (e / 16) = true ∧ (s.engine e).run = some r ∧ r.ran = false ∧ s.taskCell e r.mode r.task
    2 = 2 ∧ s.taskRows e r.mode r.task = [row] ∧ r.sources = [x] ∧ x.fresh = true ∧ x.isPdu = false ∧ readSignal x 0
    (signalSize (s.n (0x7200 + e / 16) 3 row)) ((s.n (0x7200 + e / 16) 4 row).testBit 1) ((s.n (0x7200 + e / 16) 4
    row).testBit 3) = some v :=
  ⟨live |> put (0x7100 + 127) 2 5 2 |> put (0x7100 + 127) 5 5 9 |> put (0x7100 + 127) 6 5 1 |> put 0x7207 3 9 12 |>
  put 0x7207 4 9 8 |> onMessages (fun m =>
  { m with engines := m.engines.set 127 { Engine.init with run := some ⟨5, 0, 7, 1, [⟨1, true, 0, 255, 3, false, 16, [255, 255, 255, 255, 255, 255, 255, 255], 0, 65535⟩], [], [], 1, false, false, 0, []⟩ } }),
  127, ⟨5, 0, 7, 1, [⟨1, true, 0, 255, 3, false, 16, [255, 255, 255, 255, 255, 255, 255, 255], 0, 65535⟩], [], [], 1,
  false, false, 0, []⟩, 9, ⟨1, true, 0, 255, 3, false, 16, [255, 255, 255, 255, 255, 255, 255, 255], 0, 65535⟩, -1,
  by decide +kernel⟩
theorem witness_SignalFunctionsStage_5 : ∃ (s : State) (e : Nat) (r : TaskRun) (row : Nat) (x : SourceValue) (v :
    Int), e < 128 ∧ s.groveOn (e / 16) = true ∧ (s.engine e).run = some r ∧ r.ran = false ∧ s.taskCell e r.mode r.task
    2 = 2 ∧ s.taskRows e r.mode r.task = [row] ∧ r.sources = [x] ∧ x.fresh = true ∧ x.isPdu = true ∧ x.verdict = 0xFF
    ∧ readSignal { x with bytes := x.bytes.drop (startIn (s.n (0x7200 + e / 16) 1 row)) } (Config.unpackBit 0 (s.n
    (0x7200 + e / 16) 1 row) (s.n (0x7200 + e / 16) 2 row) (s.n (0x7200 + e / 16) 3 row) (s.n (0x7200 + e / 16) 4
    row)) (signalSize (s.n (0x7200 + e / 16) 3 row)) ((s.n (0x7200 + e / 16) 4 row).testBit 1) ((s.n (0x7200 + e / 16)
    4 row).testBit 3) = some v :=
  ⟨unpacking, 127, unpackRun, 9, unpackSource, (signalBits false unpackBytes (Config.unpackBit 0 0 0 12 0) 12 : Nat),
  by decide, by decide +kernel, rfl, rfl, by decide +kernel, by decide +kernel, rfl, rfl, rfl, rfl, unpacking_reads⟩
theorem witness_SignalFunctionsStage_6 : ∃ (s : State) (e : Nat) (r : TaskRun) (row : Nat) (x : SourceValue), e <
    128 ∧ s.groveOn (e / 16) = true ∧ (s.engine e).run = some r ∧ r.ran = false ∧ s.taskCell e r.mode r.task 2 = 5 ∧
    s.taskRows e r.mode r.task = [row] ∧ r.sources = [x] ∧ x.fresh = true :=
  ⟨live |> put (0x7100 + 127) 2 5 5 |> put (0x7100 + 127) 5 5 9 |> put (0x7100 + 127) 6 5 1 |> onMessages (fun m =>
  { m with engines := m.engines.set 127 { Engine.init with run := some ⟨5, 0, 7, 1, [⟨1, true, 0, 255, 3, true, 2, [15, 128], 0, 65535⟩], [], [], 1, false, false, 0, []⟩ } }),
  127, ⟨5, 0, 7, 1, [⟨1, true, 0, 255, 3, true, 2, [15, 128], 0, 65535⟩], [], [], 1, false, false, 0, []⟩, 9, ⟨1,
  true, 0, 255, 3, true, 2, [15, 128], 0, 65535⟩, by decide +kernel⟩
theorem witness_SignalFunctionsStage_7 : ∃ (s : State) (e : Nat) (r : TaskRun) (row : Nat) (x : SourceValue), e <
    128 ∧ row < 1024 ∧ s.groveOn (e / 16) = true ∧ (s.engine e).run = some r ∧ r.ran = false ∧ s.taskCell e r.mode
    r.task 2 = 5 ∧ s.taskRows e r.mode r.task = [row] ∧ r.sources = [x] ∧ x.fresh = false ∧ x.status = 0 ∧ x.isPdu =
    false ∧ (s.messages.holds.getD (1024 * (e / 16) + row) ⟨[], false, false⟩).isPdu = false ∧ (s.messages.holds.getD
    (1024 * (e / 16) + row) ⟨[], false, false⟩).substituted = false ∧ s.room 1 := by
  refine ⟨live |> put (0x7100 + 127) 2 5 5 |> put (0x7100 + 127) 5 5 1023 |> put (0x7100 + 127) 6 5 1 |> put 0x7227 5
  1023 (-5) |> onMessages (fun m =>
  { m with engines := m.engines.set 127 { Engine.init with run := some ⟨5, 0, 7, 1, [noValue], [], [], 1, false, false, 0, []⟩ } }),
  127, ⟨5, 0, 7, 1, [noValue], [], [], 1, false, false, 0, []⟩, 1023, noValue, ?_⟩
  repeat' apply And.intro
  all_goals first | decide +kernel
theorem witness_SignalFunctionsStage_8 : ∃ (s : State) (e : Nat) (r : TaskRun) (row : Nat) (x : SourceValue), e <
    128 ∧ row < 1024 ∧ s.groveOn (e / 16) = true ∧ (s.engine e).run = some r ∧ r.ran = false ∧ s.taskCell e r.mode
    r.task 2 = 5 ∧ s.taskRows e r.mode r.task = [row] ∧ r.sources = [x] ∧ x.fresh = false ∧ x.status = 0 ∧
    (s.messages.holds.getD (1024 * (e / 16) + row) ⟨[], false, false⟩).isPdu = true :=
  ⟨live |> put (0x7100 + 127) 2 5 5 |> put (0x7100 + 127) 5 5 1023 |> put (0x7100 + 127) 6 5 1 |> onMessages (fun m =>
  { m with holds := [(8191, ⟨[7, 7, 7], true, true⟩)], engines := m.engines.set 127 { Engine.init with run := some ⟨5, 0, 7, 1, [noValue], [], [], 1, false, false, 0, []⟩ } }),
  127, ⟨5, 0, 7, 1, [noValue], [], [], 1, false, false, 0, []⟩, 1023, noValue, by decide +kernel⟩
theorem witness_SignalFunctionsStage_9 : ∃ (s : State) (e : Nat) (r : TaskRun), e < 128 ∧ s.groveOn (e / 16) =
    true ∧ (s.engine e).run = some r ∧ r.ran = false ∧ s.taskCell e r.mode r.task 2 = 7 :=
  ⟨live |> put (0x7100 + 127) 2 5 7 |> put (0x7100 + 127) 5 5 1022 |> put (0x7100 + 127) 6 5 2 |> onMessages (fun m =>
  { m with engines := m.engines.set 127 { Engine.init with run := some ⟨5, 0, 7, 1, [noValue], [], [], 1, false, false, 0, []⟩ } }),
  127, ⟨5, 0, 7, 1, [noValue], [], [], 1, false, false, 0, []⟩, by decide +kernel⟩
theorem witness_ProtectionAndTransactions_1 : ∃ (s : State) (e : Nat) (r : TaskRun) (row : Nat) (x : SourceValue)
    (b : Bytes), e < 128 ∧ row < 1024 ∧ s.groveOn (e / 16) = true ∧ (s.engine e).run = some r ∧ r.ran = false ∧
    s.taskCell e r.mode r.task 2 = 3 ∧ s.taskRows e r.mode r.task = [row] ∧ r.sources = [x] ∧ x.fresh = true ∧
    (s.protectionRow (e / 16) row).fits = true ∧ readPdu x (startIn (s.protectionRow (e / 16) row).source)
    (s.protectionRow (e / 16) row).length = some b :=
  ⟨live |> put (0x7100 + 127) 2 5 3 |> put (0x7100 + 127) 5 5 1023 |> put (0x7100 + 127) 6 5 1 |> put 0x7217 7 1023 4
  |> put 0x7217 5 1023 2 |> onMessages (fun m =>
  { m with protects := [(8191, 15)], engines := m.engines.set 127 { Engine.init with run := some ⟨5, 0, 7, 1, [⟨1, true, 0, 255, 3, true, 4, [15, 128, 0, 0], 0, 65535⟩], [], [], 1, false, false, 0, []⟩ } }),
  127, ⟨5, 0, 7, 1, [⟨1, true, 0, 255, 3, true, 4, [15, 128, 0, 0], 0, 65535⟩], [], [], 1, false, false, 0, []⟩, 1023,
  ⟨1, true, 0, 255, 3, true, 4, [15, 128, 0, 0], 0, 65535⟩, [15, 128, 0, 0], by decide +kernel⟩
theorem witness_ProtectionAndTransactions_2 : ∃ (s : State) (e : Nat) (r : TaskRun) (row : Nat) (x : SourceValue)
    (b : Bytes), e < 128 ∧ row < 1024 ∧ s.groveOn (e / 16) = true ∧ (s.engine e).run = some r ∧ r.ran = false ∧
    s.taskCell e r.mode r.task 2 = 4 ∧ s.taskRows e r.mode r.task = [row] ∧ r.sources = [x] ∧ x.fresh = true ∧
    (s.protectionRow (e / 16) row).fits = true ∧ readPdu x (startIn (s.protectionRow (e / 16) row).source)
    (s.protectionRow (e / 16) row).length = some b ∧ beAt b (s.protectionRow (e / 16) row).crcOffset (s.protectionRow
    (e / 16) row).crcSize = (s.protectionRow (e / 16) row).crc b ∧ (s.messages.checks.getD (1024 * (e / 16) + row)
    CheckContext.init).started = true ∧ (beAt b (s.protectionRow (e / 16) row).counterOffset 1 % 16 + 16 -
    (s.messages.checks.getD (1024 * (e / 16) + row) CheckContext.init).lastCounter) % 16 = 1 :=
  ⟨live |> put (0x7100 + 127) 2 5 4 |> put 0x7217 6 1023 0 |> put (0x7100 + 127) 5 5 1023 |> put (0x7100 + 127) 6 5 1
  |> put 0x7217 7 1023 4 |> put 0x7217 5 1023 2 |> onMessages (fun m =>
  { m with checks := [(8191, ⟨true, 14, 3, 0⟩)], engines := m.engines.set 127 { Engine.init with run := some ⟨5, 0, 7, 1, [⟨1, true, 0, 255, 3, true, 4, ⟨0, 0, 0, false, 2, 0, 4, 0, 0⟩ |> fun (k : ProtectionRow) => k.protect 15 [0, 128, 0, 0], 0, 65535⟩], [], [], 1, false, false, 0, []⟩ } }),
  127, ⟨5, 0, 7, 1, [⟨1, true, 0, 255, 3, true, 4, ⟨0, 0, 0, false, 2, 0, 4, 0, 0⟩ |> fun (k : ProtectionRow) =>
  k.protect 15 [0, 128, 0, 0], 0, 65535⟩], [], [], 1, false, false, 0, []⟩, 1023, ⟨1, true, 0, 255, 3, true, 4, ⟨0, 0,
  0, false, 2, 0, 4, 0, 0⟩ |> fun (k : ProtectionRow) => k.protect 15 [0, 128, 0, 0], 0, 65535⟩, ⟨0, 0, 0, false, 2,
  0, 4, 0, 0⟩ |> fun (k : ProtectionRow) => k.protect 15 [0, 128, 0, 0], by decide +kernel⟩
theorem witness_ProtectionAndTransactions_3 : ∃ (s : State) (e : Nat) (r : TaskRun) (row : Nat) (x y :
    SourceValue), e < 128 ∧ row < 512 ∧ s.groveOn (e / 16) = true ∧ (s.engine e).run = some r ∧ r.ran = false ∧
    s.taskCell e r.mode r.task 2 = 6 ∧ s.taskRows e r.mode r.task = [row] ∧ r.sources = [x, y] ∧ x.fresh = true ∧
    (s.messages.transactions.getD (1024 * (e / 16) + row) Transaction.init).waiting = false :=
  ⟨live |> put (0x7100 + 127) 2 5 6 |> put (0x7100 + 127) 5 5 511 |> put (0x7100 + 127) 6 5 1 |> put 0x7237 6 511 2 |>
  onMessages (fun m =>
  { m with engines := m.engines.set 127 { Engine.init with run := some ⟨5, 0, 7, 1, [⟨1, true, 0, 255, 3, true, 4, [15, 128, 0, 0], 0, 65535⟩, noValue], [], [], 1, false, false, 0, []⟩ } }),
  127, ⟨5, 0, 7, 1, [⟨1, true, 0, 255, 3, true, 4, [15, 128, 0, 0], 0, 65535⟩, noValue], [], [], 1, false, false, 0,
  []⟩, 511, ⟨1, true, 0, 255, 3, true, 4, [15, 128, 0, 0], 0, 65535⟩, noValue, by decide +kernel⟩
theorem witness_ProtectionAndTransactions_4 : ∃ (s : State) (e : Nat) (r : TaskRun) (row : Nat) (x y :
    SourceValue), e < 128 ∧ row < 512 ∧ s.groveOn (e / 16) = true ∧ (s.engine e).run = some r ∧ r.ran = false ∧
    s.taskCell e r.mode r.task 2 = 6 ∧ s.taskRows e r.mode r.task = [row] ∧ r.sources = [x, y] ∧ x.fresh = false ∧
    y.fresh = true ∧ (s.messages.transactions.getD (1024 * (e / 16) + row) Transaction.init).waiting = true ∧
    s.transactionId (e / 16) row (pduAt (s.n (0x7230 + e / 16) 3 row) y) = (s.messages.transactions.getD (1024 * (e /
    16) + row) Transaction.init).ident ∧ y.arrived ≤ (s.messages.transactions.getD (1024 * (e / 16) + row)
    Transaction.init).deadline :=
  ⟨live |> put (0x7100 + 127) 2 5 6 |> put (0x7100 + 127) 5 5 511 |> put (0x7100 + 127) 6 5 1 |> put 0x7237 6 511 2 |>
  onMessages (fun m =>
  { m with transactions := [(7679, ⟨true, 3968, 0, 99, []⟩)], engines := m.engines.set 127 { Engine.init with run := some ⟨5, 0, 7, 1, [noValue, ⟨1, true, 0, 255, 3, true, 4, [15, 128, 0, 0], 99, 65535⟩], [], [], 1, false, false, 0, []⟩ } }),
  127, ⟨5, 0, 7, 1, [noValue, ⟨1, true, 0, 255, 3, true, 4, [15, 128, 0, 0], 99, 65535⟩], [], [], 1, false, false, 0,
  []⟩, 511, noValue, ⟨1, true, 0, 255, 3, true, 4, [15, 128, 0, 0], 99, 65535⟩, by decide +kernel⟩
theorem witness_RingsTakeEntries_1 : ∃ (s : State) (tx : Bool) (r pos : Nat), (s.power.state = .active ∨
    s.power.state = .idle) ∧ s.takesMemory (s.ringOwner tx r) = true ∧ (s.hostRing tx r).state = .enabled ∧ pos %
    65536 < (s.hostRing tx r).size ∧ posDiff (s.hostRing tx r).size pos (s.hostRing tx r).tail ≤ (3 * (s.hostRing tx
    r).size - posDiff (s.hostRing tx r).size (s.hostRing tx r).tail (s.hostRing tx r).head) % (2 * (s.hostRing tx
    r).size) :=
  ⟨live |> onHost (fun h => { h with rx := h.rx.set 4095 { HostRing.init with state := .enabled, logSize := 4 } }),
  false, 4095, 15, by decide +kernel⟩
theorem witness_RingsTakeEntries_2 : ∃ (s : State) (tx : Bool) (r pos : Nat), (s.power.state = .active ∨
    s.power.state = .idle) ∧ s.takesMemory (s.ringOwner tx r) = true ∧ (s.hostRing tx r).state = .enabled ∧ pos %
    65536 < (s.hostRing tx r).size ∧ posDiff (s.hostRing tx r).size pos (s.hostRing tx r).tail ≤ (3 * (s.hostRing tx
    r).size - posDiff (s.hostRing tx r).size (s.hostRing tx r).tail (s.hostRing tx r).head) % (2 * (s.hostRing tx
    r).size) :=
  ⟨live |> put 0x8100 2 0 4096 |> onHost (fun h =>
  { h with functions := h.functions.set 0 { Function.init with busMaster := true } }) |> onHost (fun h =>
  { h with tx := h.tx.set 5 { HostRing.init with state := .enabled, logSize := 4 } }), true, 5, 65536,
  by decide +kernel⟩
theorem witness_RingsTakeEntries_3 : ∃ (s : State) (r : Nat) (window : Bytes), (s.power.state = .active ∨
    s.power.state = .idle) ∧ s.takesMemory (s.ringOwner true r) = true ∧ (s.hostRing true r).state = .enabled ∧
    window.length = 128 ∧ leAt window 24 4 % 131072 = (s.hostRing true r).tail ∧ posDiff (s.hostRing true r).size
    (s.hostRing true r).tail (s.hostRing true r).head ≠ (s.hostRing true r).size ∧ (s.hostRing true r).tail ≠
    (s.hostRing true r).next ∧ (((s.hostRing true r).buffers.all fun b => b.1 != (s.hostRing true r).next) = true) :=
  ⟨live |> onHost (fun h =>
  { h with tx := h.tx.set 5 { HostRing.init with state := .enabled, logSize := 4, tail := 3 } }), 5, bytesOf 24 ++ [3]
  ++ bytesOf 103, by decide +kernel⟩
theorem witness_RingsTakeEntries_4 : ∃ (s : State) (r : Nat) (window : Bytes), s.power.state = .active ∧
    s.takesMemory (s.ringOwner true r) = true ∧ (s.hostRing true r).state = .enabled ∧ window.length = 128 ∧ leAt
    window 24 4 % 131072 = (s.hostRing true r).tail ∧ posDiff (s.hostRing true r).size (s.hostRing true r).tail
    (s.hostRing true r).head ≠ (s.hostRing true r).size ∧ (s.hostRing true r).tail = (s.hostRing true r).next ∧
    (s.hostRing true r).tail < 131072 ∧ (s.hostRing true r).frames = [] ∧ (s.hostRing true r).buffers = [] ∧ entryMark
    window % 64 = 50 ∧ leAt window 8 2 % 16384 = 0 :=
  ⟨live |> onHost (fun h =>
  { h with tx := h.tx.set 5 { HostRing.init with state := .enabled, logSize := 4, tail := 3, next := 3 } }), 5,
  bytesOf 24 ++ [3, 0, 0, 0, 2, 0, 0, 178] ++ bytesOf 96, by decide +kernel⟩
theorem witness_RingsTakeEntries_5 : ∃ (s : State) (r pos covered : Nat) (e : Bytes), s.operating = true ∧
    (s.hostRing false r).state = .enabled ∧ pos = (s.hostRing false r).next ∧ (s.hostRing false r).outstanding ≠
    (s.hostRing false r).size ∧ 0 < posDiff (s.hostRing false r).size covered pos ∧ posDiff (s.hostRing false r).size
    covered pos ≤ (s.hostRing false r).size ∧ entryType e = 1 ∧ (entryMark e).testBit 6 = false ∧ entryMark e / 128 =
    1 - posWrap pos ∧ (((s.hostRing false r).buffers.all fun b => entryType b.2 != 3) = true) :=
  ⟨live |> onHost (fun h =>
  { h with rx := h.rx.set 5 { HostRing.init with state := .enabled, logSize := 4, tail := 3 } }), 5, 0, 3, bytesOf 31
  ++ [129], by decide +kernel⟩
theorem witness_RingsTakeEntries_6 : ∃ (s : State) (r fn pos covered : Nat) (e : Bytes), s.operating = true ∧
    s.ringOwner true r = some fn ∧ s.masters fn = true ∧ s.host.reads = [] ∧ (s.hostRing true r).state = .enabled ∧
    (s.hostRing true r).frames = [] ∧ (s.hostRing true r).buffers = [] ∧ pos = (s.hostRing true r).next ∧ (s.hostRing
    true r).outstanding ≠ (s.hostRing true r).size ∧ 0 < posDiff (s.hostRing true r).size covered pos ∧ posDiff
    (s.hostRing true r).size covered pos ≤ (s.hostRing true r).size ∧ entryMark e = 48 + 128 * (1 - posWrap pos) ∧
    leAt e 8 2 % 16384 ≠ 0 ∧ (requestPieces (s.function fn).maxRead (leAt e 8 2 % 16384) (leAt e 0 8) (leAt e 8 2 %
    16384)).length ≤ 256 :=
  ⟨live |> put 0x8100 2 0 4096 |> onHost (fun h =>
  { h with functions := h.functions.set 0 { Function.init with busMaster := true } }) |> onHost (fun h =>
  { h with tx := h.tx.set 5 { HostRing.init with state := .enabled, logSize := 4, tail := 3 } }), 5, 0, 0, 3, bytesOf
  8 ++ [64] ++ bytesOf 22 ++ [176], by decide +kernel⟩
theorem witness_RingsTakeEntries_7 : ∃ (s : State) (r fn pos covered : Nat) (e : Bytes), s.operating = true ∧
    s.ringOwner true r = some fn ∧ s.masters fn = true ∧ s.host.reads = [] ∧ (s.hostRing true r).state = .enabled ∧
    (s.hostRing true r).frames = [] ∧ (s.hostRing true r).buffers = [] ∧ pos = (s.hostRing true r).next ∧ (s.hostRing
    true r).outstanding ≠ (s.hostRing true r).size ∧ 0 < posDiff (s.hostRing true r).size covered pos ∧ posDiff
    (s.hostRing true r).size covered pos ≤ (s.hostRing true r).size ∧ entryMark e = 48 + 128 * (1 - posWrap pos) ∧
    leAt e 8 2 % 16384 ≠ 0 ∧ (requestPieces (s.function fn).maxRead (leAt e 8 2 % 16384) (leAt e 0 8) (leAt e 8 2 %
    16384)).length ≤ 256 :=
  ⟨live |> put 0x8100 2 0 4096 |> onHost (fun h =>
  { h with functions := h.functions.set 0 { Function.init with busMaster := true } }) |> onHost (fun h =>
  { h with tx := h.tx.set 5 { HostRing.init with state := .enabled, logSize := 4, tail := 3 } }), 5, 0, 0, 3, bytesOf
  8 ++ [96, 2] ++ bytesOf 21 ++ [176], by decide +kernel⟩
theorem witness_RingsTakeEntries_8 : ∃ (s : State) (r : Nat) (f : TxFrame) (data : Bytes), s.operating = true ∧
    (((s.hostRing true r).frames.find? fun g => g.phase == .awaitingData) = some f) :=
  ⟨live |> onHost (fun h =>
  { h with tx := h.tx.set 5 { HostRing.init with state := .enabled, frames := [{ newFrame 0 0 (0, bytesOf 32) with phase := .awaitingData, inlineData := [1] }] } }),
  5, { newFrame 0 0 (0, bytesOf 32) with phase := .awaitingData, inlineData := [1] }, [2, 3], by decide +kernel⟩
theorem witness_RingsCompleteAndDrain_1 : ∃ (s : State) (r fn : Nat) (f : TxFrame) (rest : List TxFrame) (pos :
    Nat) (e : Bytes), s.ringOwner true r = some fn ∧ s.mayWrite fn = true ∧ 32 ≤ (s.function fn).maxPayload ∧
    ((s.hostRing true r).base + 32 * (pos % 65536 % (s.hostRing true r).size)) % 4096 ≤ 4064 ∧ s.on 0x8010 3 = false ∧
    (s.hostRing true r).undefinedNow = false ∧ (s.hostRing true r).frames = f :: rest ∧ f.phase = .finished ∧
    ((rest.head?.all fun g => g.phase != .finished) = true) ∧ f.entries = [(pos, e)] ∧ entryType e ≠ 3 :=
  ⟨live |> put 0x8010 3 0 0 |> put 0x8100 2 0 4096 |> onHost (fun h =>
  { h with functions := h.functions.set 0 { Function.init with busMaster := true } }) |> onHost (fun h =>
  { h with tx := h.tx.set 5 { HostRing.init with state := .enabled, logSize := 4, tail := 3, frames := [{ newFrame 0 0 (0, bytesOf 32) with phase := .finished, status := 1, data := bytesOf 60 }] } }),
  5, 0, { newFrame 0 0 (0, bytesOf 32) with phase := .finished, status := 1, data := bytesOf 60 }, [], 0, bytesOf 32,
  by decide +kernel⟩
theorem witness_RingsCompleteAndDrain_2 : ∃ (s : State) (tx : Bool) (r : Nat), (s.hostRing tx r).holdoff ≠ 0 ∧
    (((s.hostRing tx r).unannounced.any fun u => s.after u (nsUnits (1000 * (s.hostRing tx r).holdoff))) = true) ∧ r <
    4096 ∧ (s.hostRing tx r).head < 131072 ∧ s.room 1 := by
  refine ⟨live |> onCanopy (fun k => { k with counter := 50000 }) |> onHost (fun h =>
  { h with rx := h.rx.set 4095 { HostRing.init with state := .enabled, holdoff := 5, unannounced := some 0, sinceEvent := 3, head := 131071 } }),
  false, 4095, ?_⟩
  repeat' apply And.intro
  all_goals first | decide +kernel
theorem witness_RingsCompleteAndDrain_3 : ∃ (s : State) (tx : Bool) (r : Nat), (s.power.state = .active ∨
    s.power.state = .idle) ∧ 5 ≤ s.power.stage ∧ s.takesMemory (s.ringOwner tx r) = true ∧ (s.hostRing tx r).state =
    .disabled ∧ r < 4096 ∧ s.room 1 := by
  refine ⟨live |> onHost (fun h => { h with rx := h.rx.set 4095 { HostRing.init with head := 3 } }), false, 4095, ?_⟩
  repeat' apply And.intro
  all_goals first | decide +kernel
theorem witness_RingsCompleteAndDrain_4 : ∃ (s : State) (tx : Bool) (r : Nat), (s.power.state = .active ∨
    s.power.state = .idle) ∧ 5 ≤ s.power.stage ∧ s.takesMemory (s.ringOwner tx r) = true ∧ (s.hostRing tx r).state =
    .enabled ∧ r < 4096 ∧ s.room 1 := by
  refine ⟨live |> onHost (fun h =>
  { h with tx := h.tx.set 4095 { HostRing.init with state := .enabled, enableBit := true } }), true, 4095, ?_⟩
  repeat' apply And.intro
  all_goals first | decide +kernel
theorem witness_RingsCompleteAndDrain_5 : ∃ (s : State) (tx : Bool) (r : Nat), (s.power.state = .active ∨
    s.power.state = .idle) ∧ 5 ≤ s.power.stage ∧ s.takesMemory (s.ringOwner tx r) = true ∧ (s.hostRing tx r).state =
    .enabled ∧ r < 4096 ∧ s.room 1 := by
  refine ⟨live |> onHost (fun h =>
  { h with rx := h.rx.set 7 { HostRing.init with state := .enabled, enableBit := true, next := 1, buffers := [(0, bytesOf 31 ++ [129])] } }),
  false, 7, ?_⟩
  repeat' apply And.intro
  all_goals first | decide +kernel
theorem witness_RingsCompleteAndDrain_6 : ∃ (s : State) (tx : Bool) (r : Nat), (s.hostRing tx r).state = .draining
    ∧ (s.hostRing tx r).frames = [] ∧ (s.hostRing tx r).buffers = [] ∧ s.room 1 ∧ r < 4096 := by
  refine ⟨live |> onHost (fun h =>
  { h with rx := h.rx.set 7 { HostRing.init with state := .draining, head := 3, tail := 9, undefinedNow := true } }),
  false, 7, ?_⟩
  repeat' apply And.intro
  all_goals first | decide +kernel
theorem witness_RingsCompleteAndDrain_7 : ∃ (s : State) (tx : Bool) (r : Nat), (s.hostRing tx r).state =
    .drainingReenable ∧ (s.hostRing tx r).frames = [] ∧ (s.hostRing tx r).buffers = [] ∧ s.room 1 ∧ r < 4096 := by
  refine ⟨live |> onHost (fun h =>
  { h with rx := h.rx.set 7 { HostRing.init with state := .drainingReenable, head := 3, tail := 9 } }), false, 7, ?_⟩
  repeat' apply And.intro
  all_goals first | decide +kernel
theorem witness_RingsCompleteAndDrain_8 : ∃ (s : State) (tx : Bool) (r v : Nat), (s.power.state = .active ∨
    s.power.state = .idle) ∧ s.takesMemory (s.ringOwner tx r) = true ∧ (s.hostRing tx r).state = .disabled :=
  ⟨live |> onHost (fun h => { h with rx := h.rx.set 7 { HostRing.init with head := 3, tail := 9 } }), false, 7, 0x11F,
  by decide +kernel⟩
theorem witness_RingsCompleteAndDrain_9 : ∃ (s : State) (tx : Bool) (r v : Nat), (s.power.state = .active ∨
    s.power.state = .idle) ∧ s.takesMemory (s.ringOwner tx r) = true ∧ (s.hostRing tx r).state = .disabled :=
  ⟨live |> onHost (fun h => { h with rx := h.rx.set 7 { HostRing.init with head := 3, tail := 9 } }), false, 7, 0x11F,
  by decide +kernel⟩
theorem witness_RingsCompleteAndDrain_10 : ∃ (s : State) (tx : Bool) (r v : Nat), (s.power.state = .active ∨
    s.power.state = .idle) ∧ s.takesMemory (s.ringOwner tx r) = true ∧ (s.hostRing tx r).state = .disabled :=
  ⟨live |> onHost (fun h => { h with rx := h.rx.set 7 { HostRing.init with head := 3, tail := 9 } }), false, 7, 0x11F,
  by decide +kernel⟩
theorem witness_FunctionsResetAndStop_1 : ∃ (s : State) (fn : Nat) (tx : Bool) (r : Nat), (s.power.state = .active
    ∨ s.power.state = .idle) ∧ s.ringOwner tx r = some fn ∧ s.room (4 + s.host.tx.length + s.host.rx.length) := by
  refine ⟨live |> put 0x8100 4 0 0 |> put 0x8100 4 65 4096 |> onHost (fun h =>
  { h with functions := h.functions.set 65 { Function.init with busMaster := true } }) |> onHost (fun h =>
  { h with rx := h.rx.set 5 { HostRing.init with state := .enabled, logSize := 4, tail := 3 } }), 65, false, 5, ?_⟩
  repeat' apply And.intro
  all_goals first | decide +kernel
theorem witness_FunctionsResetAndStop_2 : ∃ (s : State) (fn : Nat), (s.power.state = .active ∨ s.power.state =
    .idle) ∧ fn < 256 ∧ s.room 1 := by
  refine ⟨live |> onHost (fun h =>
  { h with functions := h.functions.set 65 { Function.init with writesStopped := true } }), 65, ?_⟩
  repeat' apply And.intro
  all_goals first | decide +kernel
theorem witness_FunctionsResetAndStop_3 : ∃ (s : State) (fn : Nat) (tx : Bool) (r : Nat), (s.power.state = .active
    ∨ s.power.state = .idle) ∧ fn < 256 ∧ s.ringOwner tx r = some fn ∧ s.room (1 + s.host.tx.length +
    s.host.rx.length) := by
  refine ⟨live |> put 0x8100 4 0 0 |> put 0x8100 4 65 4096 |> onHost (fun h =>
  { h with functions := h.functions.set 65 { Function.init with busMaster := true } }) |> onHost (fun h =>
  { h with rx := h.rx.set 5 { HostRing.init with state := .enabled, logSize := 4, tail := 3 } }), 65, false, 5, ?_⟩
  repeat' apply And.intro
  all_goals first | decide +kernel
theorem witness_FunctionsResetAndStop_4 : ∃ (s : State) (n : Nat), (s.power.state = .active ∨ s.power.state =
    .idle) ∧ s.room 1 := by
  refine ⟨live, 64, ?_⟩
  repeat' apply And.intro
  all_goals first | decide +kernel
theorem witness_FunctionsResetAndStop_5 : ∃ (s : State) (n : Nat), (s.power.state = .active ∨ s.power.state =
    .idle) ∧ s.room 1 := by
  refine ⟨live |> put 0x8101 2 65 1, 63, ?_⟩
  repeat' apply And.intro
  all_goals first | decide +kernel
theorem witness_FunctionsResetAndStop_6 : ∃ (s : State) (n : Nat), (s.power.state = .active ∨ s.power.state =
    .idle) ∧ s.room (1 + s.host.tx.length + s.host.rx.length) := by
  refine ⟨live |> put 0x8101 2 65 1, 63, ?_⟩
  repeat' apply And.intro
  all_goals first | decide +kernel
theorem witness_FunctionsResetAndStop_7 : ∃ (s : State) (tx : Bool) (r fn : Nat), s.ringOwner tx r = some fn ∧
    s.staysAsItIs 18 fn = true ∧ r < 4096 ∧ s.room 2 := by
  refine ⟨live |> put 0x8100 4 0 0 |> put 0x8100 4 65 4096, false, 5, 65, ?_⟩
  repeat' apply And.intro
  all_goals first | decide +kernel
theorem witness_FunctionsResetAndStop_8 : ∃ (s : State) (tx : Bool) (r fn : Nat), s.ringOwner tx r = some fn ∧
    s.staysAsItIs 18 fn = true ∧ r < 4096 ∧ s.room 2 := by
  refine ⟨live |> put 0x8100 4 0 0 |> put 0x8100 4 65 4096 |> onHost (fun h =>
  { h with rx := h.rx.set 5 { HostRing.init with state := .enabled, logSize := 4 } }), false, 5, 65, ?_⟩
  repeat' apply And.intro
  all_goals first | decide +kernel
theorem witness_FunctionsResetAndStop_9 : ∃ (s : State) (fn : Nat), s.staysAsItIs 18 fn = true ∧ fn < 4096 ∧
    s.room 2 := by
  refine ⟨live, 65, ?_⟩
  repeat' apply And.intro
  all_goals first | decide +kernel
theorem witness_EventQueuesAndVectors_1 : ∃ (s : State) (q hd : Nat), (s.power.state = .active ∨ s.power.state =
    .idle) ∧ s.takesMemory (s.queueOwner q) = true :=
  ⟨live |> onHost (fun h => { h with queues := h.queues.set 7 { EventQueue.init with armed := true } }), 7, 65539,
  by decide +kernel⟩
theorem witness_EventQueuesAndVectors_2 : ∃ (s : State) (q hd fn : Nat), (s.power.state = .active ∨ s.power.state
    = .idle) ∧ s.queueOwner q = some fn ∧ s.takesMemory (some fn) = true ∧ (s.queue q).tail ≠ position17 hd ∧
    s.msixLeaves (s.n 0x8100 7 fn + (s.queue q).vector) = true :=
  ⟨live |> put 0x8100 6 0 0 |> put 0x8100 6 65 1024 |> put 0x8100 7 65 9 |> put 0x8100 8 0 0 |> put 0x8100 8 65 4 |>
  onHost (fun h =>
  { h with functions := h.functions.set 65 { Function.init with busMaster := true }, queues := h.queues.set 7 { EventQueue.init with vector := 3, tail := 9 }, vectors := h.vectors.set 12 { Vector.init with masked := false } }),
  7, 65539, 65, by decide +kernel⟩
theorem witness_EventQueuesAndVectors_3 : ∃ (s : State) (q : Nat), (s.power.state = .active ∨ s.power.state =
    .idle) ∧ s.takesMemory (s.queueOwner q) = true ∧ (s.queue q).enabled = false :=
  ⟨live |> onHost (fun h =>
  { h with queues := h.queues.set 7 { EventQueue.init with vector := 3, tail := 9, base := 4096 } }), 7,
  by decide +kernel⟩
theorem witness_EventQueuesAndVectors_4 : ∃ (s : State) (q fn : Nat), (s.queue q).armed = true ∧ (s.queue
    q).holdoff ≠ 0 ∧ (s.queue q).unsignalled ≠ 0 ∧ s.after (s.queue q).firstAt (nsUnits (100 * (s.queue q).holdoff)) =
    true ∧ s.queueOwner q = some fn :=
  ⟨live |> put 0x8100 6 0 0 |> put 0x8100 6 65 1024 |> onCanopy (fun k => { k with counter := 50000 }) |> onHost (fun
  h =>
  { h with queues := h.queues.set 7 { EventQueue.init with vector := 3, tail := 9, armed := true, holdoff := 5, unsignalled := 2 } }),
  7, 65, by decide +kernel⟩
theorem witness_EventQueuesAndVectors_5 : ∃ (s : State) (v : Nat), (s.power.state = .active ∨ s.power.state =
    .idle) ∧ s.takesMemory (s.owner 7 v) = true :=
  ⟨live |> put 0x8100 8 0 2048 |> onHost (fun h =>
  { h with functions := h.functions.set 0 { Function.init with busMaster := true }, vectors := h.vectors.set 2047 { Vector.init with waiting := true } }),
  2047, by decide +kernel⟩
theorem witness_EventQueuesAndVectors_6 : ∃ (s : State) (fn : Nat), (s.power.state = .active ∨ s.power.state =
    .idle) ∧ (s.function fn).d3hot = false :=
  ⟨live |> at16 (secUnits * 4294967297 + 99), 65, by decide +kernel⟩
theorem witness_EventQueuesAndVectors_7 : ∃ (s : State) (fn : Nat) (v : Bytes), (s.power.state = .active ∨
    s.power.state = .idle) ∧ fn < 66 ∧ (s.function fn).d3hot = false ∧ v.length = 4 :=
  ⟨live |> onHost (fun h =>
  { h with functions := h.functions.set 65 { Function.init with markBase := 4294967296 * 3 + 512 } }), 65, [255, 5, 0,
  0], by decide +kernel⟩
theorem witness_EventQueuesAndVectors_8 : ∃ (s : State) (o : Nat) (v : Bytes), (s.power.state = .active ∨
    s.power.state = .idle) ∧ (s.function 0).d3hot = false ∧ o < 4096 :=
  ⟨live, 4092, [4, 3, 2, 1, 9], by decide +kernel⟩
theorem witness_EventQueuesAndVectors_9 : ∃ (s : State) (o : Nat) (v : Bytes), (s.power.state = .active ∨
    s.power.state = .idle) ∧ (s.function 0).d3hot = false ∧ o < 12288 :=
  ⟨live, 12284, [4, 3, 2, 1], by decide +kernel⟩
theorem witness_EventQueuesAndVectors_10 : ∃ (s : State) (fn i : Nat) (v : Bytes), (s.power.state = .active ∨
    s.power.state = .idle) ∧ fn < 66 ∧ (s.function fn).d3hot = false ∧ i < 4096 ∧ i < s.n 0x8100 2 fn ∧ v.length = 4
    :=
  ⟨live |> put 0x8100 2 65 4096, 65, 4095, [7, 0, 3, 0], by decide +kernel⟩
theorem witness_EventQueuesAndVectors_11 : ∃ (s : State) (fn o : Nat) (v : Bytes), (s.power.state = .active ∨
    s.power.state = .idle) ∧ o < 0x2000 ∧ (o % 4 ≠ 0 ∨ v.length ≠ 4) :=
  ⟨live, 65, 0x20, [1, 2], by decide +kernel⟩
theorem witness_EventQueuesAndVectors_12 : ∃ (s : State) (fn o : Nat) (v : Bytes), (s.power.state = .active ∨
    s.power.state = .idle) ∧ o < 0x2000 ∧ (o % 4 ≠ 0 ∨ v.length ≠ 4) :=
  ⟨live, 65, 0x21, [1, 2, 3, 4], by decide +kernel⟩
theorem witness_LinksPerstAndMarkers_1 : ∃ (s : State) (link speed width : Nat), (s.power.state = .active ∨
    s.power.state = .idle) ∧ (link = 0 ∨ (link = 1 ∧ s.power.pcieMode = true)) ∧ speed ≠ 0 ∧ trainedWidth
    s.power.pcieMode width ≠ 0 ∧ s.room 1 := by
  refine ⟨live, 0, 5, 8, ?_⟩
  repeat' apply And.intro
  all_goals first | decide +kernel
theorem witness_LinksPerstAndMarkers_2 : ∃ (s : State) (link speed width : Nat), (s.power.state = .active ∨
    s.power.state = .idle) ∧ (link = 0 ∨ (link = 1 ∧ s.power.pcieMode = true)) ∧ speed ≠ 0 ∧ trainedWidth
    s.power.pcieMode width ≠ 0 ∧ s.room 1 := by
  refine ⟨live |> onPower (fun w => { w with pcieMode := true }), 1, 3, 8, ?_⟩
  repeat' apply And.intro
  all_goals first | decide +kernel
theorem witness_LinksPerstAndMarkers_3 : ∃ (s : State) (link width : Nat), (s.power.state = .active ∨
    s.power.state = .idle) ∧ (link = 0 ∨ (link = 1 ∧ s.power.pcieMode = true)) ∧ s.room 1 := by
  refine ⟨live |> onHost (fun h => { h with linkUpA := true }), 0, 8, ?_⟩
  repeat' apply And.intro
  all_goals first | decide +kernel
theorem witness_LinksPerstAndMarkers_4 : ∃ (s : State) (speed width : Nat), (s.power.state = .active ∨
    s.power.state = .idle) ∧ s.power.pcieMode = false :=
  ⟨live, 5, 4, by decide +kernel⟩
theorem witness_LinksPerstAndMarkers_5 : ∃ (s : State) (link status : Nat) (k : Bool), (s.power.state = .active ∨
    s.power.state = .idle) ∧ link < 2 ∧ status < 8388608 ∧ s.room 1 := by
  refine ⟨live, 1, 8388607, true, ?_⟩
  repeat' apply And.intro
  all_goals first | decide +kernel
theorem witness_LinksPerstAndMarkers_6 : ∃ (s : State), (s.power.state = .active ∨ s.power.state = .idle) ∧
    s.power.pcieMode = false ∧ s.room (70 + s.host.tx.length + s.host.rx.length) := by
  refine ⟨live |> onHost (fun h =>
  { h with linkUpA := true, functions := h.functions.set 65 { Function.init with busMaster := true } }), ?_⟩
  repeat' apply And.intro
  all_goals first | decide +kernel
theorem witness_LinksPerstAndMarkers_7 : ∃ (s : State) (point fn : Nat), s.operating = true ∧ point < 16 ∧
    s.ringState ≠ 0 ∧ s.on 0x4140 1 (16 * s.mode + point) = true ∧ s.n 0x4140 3 (16 * s.mode + point) = 3 ∧ s.n 0x8400
    0 = fn ∧ fn ≠ 0xFF ∧ (s.function fn).markBase ≠ 0 ∧ (s.function fn).busMaster = true ∧ s.room 1 := by
  refine ⟨live |> put 0x4001 1 0 4 |> put 0x4140 1 15 1 |> put 0x4140 3 15 3 |> put 0x8400 0 0 65 |> onHost (fun h =>
  { h with functions := h.functions.set 65 { Function.init with busMaster := true, markBase := 4096 } }), 15, 65, ?_⟩
  repeat' apply And.intro
  all_goals first | decide +kernel
theorem witness_LinksPerstAndMarkers_8 : ∃ (s : State) (point : Nat), s.operating = true ∧ point < 16 ∧
    s.ringState ≠ 0 ∧ s.on 0x4140 1 (16 * s.mode + point) = true ∧ s.n 0x4140 3 (16 * s.mode + point) = 1 ∧ s.room 1
    := by
  refine ⟨live |> put 0x4001 1 0 4 |> put 0x4140 1 15 1 |> put 0x4140 3 15 1, 15, ?_⟩
  repeat' apply And.intro
  all_goals first | decide +kernel
theorem witness_HostImagesAndMessages_1 : ∃ (s : State) (i : Nat), s.operating = true ∧ s.imageIs i 0 = true ∧
    (s.image i).writing = none ∧ s.imageReachable i = true ∧ 8 ≤ (s.function (s.n 0x7400 3 i)).maxPayload ∧
    s.imageBase i % 4096 ≤ 4088 :=
  ⟨live |> put 0x7400 1 63 1 |> put 0x7400 2 63 0 |> put 0x7400 4 63 64 |> onHost (fun h =>
  { h with functions := h.functions.set 0 { Function.init with busMaster := true, imageBases := [(63, 4096)] } }), 63,
  by decide +kernel⟩
theorem witness_HostImagesAndMessages_2 : ∃ (s : State) (i : Nat), s.operating = true ∧ s.imageIs i 0 = true ∧
    (s.image i).writing = none ∧ s.imageReachable i = true ∧ 8 ≤ (s.function (s.n 0x7400 3 i)).maxPayload ∧
    s.imageBase i % 4096 ≤ 4088 :=
  ⟨live |> put 0x7400 1 63 1 |> put 0x7400 2 63 0 |> put 0x7400 4 63 600 |> onHost (fun h =>
  { h with functions := h.functions.set 0 { Function.init with busMaster := true, imageBases := [(63, 4096 + 4000)] } }),
  63, by decide +kernel⟩
theorem witness_HostImagesAndMessages_3 : ∃ (s : State) (i n : Nat), (s.image i).writing = some n :=
  ⟨live |> onMessages (fun m => { m with images := m.images.set 63 { (live.image 63) with writing := some 5 } }), 63,
  5, by decide +kernel⟩
theorem witness_HostImagesAndMessages_4 : ∃ (s : State) (i n : Nat), (s.image i).writing = some n ∧ s.mayWrite
    (s.n 0x7400 3 i) = true ∧ 8 ≤ (s.function (s.n 0x7400 3 i)).maxPayload ∧ (s.imageBase i + s.n 0x7400 4 i - 8) %
    4096 ≤ 4088 :=
  ⟨live |> onMessages (fun m => { m with images := m.images.set 63 { (live.image 63) with writing := some 5 } }) |>
  onHost (fun h =>
  { h with functions := h.functions.set 0 { Function.init with busMaster := true, imageBases := [(63, 4096)] } }), 63,
  5, by decide +kernel⟩
theorem witness_HostImagesAndMessages_5 : ∃ (s : State) (i : Nat), s.operating = true ∧ s.imageIs i 1 = true ∧
    s.on 0x4140 1 (16 * s.mode + s.n 0x7400 6 i) = true ∧ (s.image i).reading = false ∧ s.imageReachable i = true :=
  ⟨live |> put 0x7400 1 63 1 |> put 0x7400 2 63 1 |> put 0x7400 4 63 64 |> put 0x4140 1 0 1 |> onHost (fun h =>
  { h with functions := h.functions.set 0 { Function.init with busMaster := true, imageBases := [(63, 4096)] } }), 63,
  by decide +kernel⟩
theorem witness_HostImagesAndMessages_6 : ∃ (s : State) (i : Nat), s.operating = true ∧ s.imageIs i 1 = true ∧
    s.on 0x4140 1 (16 * s.mode + s.n 0x7400 6 i) = true ∧ (s.image i).reading = false ∧ s.imageReachable i = true ∧
    s.host.reads = [] ∧ 8 ≤ (s.function (s.n 0x7400 3 i)).maxRead ∧ (s.imageBase i + s.n 0x7400 4 i - 8) % 4096 ≤ 4088
    :=
  ⟨live |> put 0x7400 1 63 1 |> put 0x7400 2 63 1 |> put 0x7400 4 63 64 |> put 0x4140 1 0 1 |> onHost (fun h =>
  { h with functions := h.functions.set 0 { Function.init with busMaster := true, imageBases := [(63, 4096)] } }), 63,
  by decide +kernel⟩
theorem witness_HostImagesAndMessages_7 : ∃ (s : State) (i n : Nat) (entries : Bytes), s.imageIs i 1 = true ∧
    (s.image i).reading = true ∧ s.twinHalf = false ∧ (s.image i).lastStamp ≠ some n :=
  ⟨live |> put 0x7400 1 63 1 |> put 0x7400 2 63 1 |> put 0x7400 4 63 64 |> onMessages (fun m =>
  { m with images := m.images.set 63 { (live.image 63) with reading := true } }), 63, 9, [1, 2, 3], by decide +kernel⟩
theorem witness_HostImagesAndMessages_8 : ∃ (s : State) (ch : Nat) (m : Bytes), s.operating = true ∧ ch < 64 ∧
    s.channelJoins ch (s.n 0x7410 3 ch) = true ∧ 16 ≤ m.length ∧ leAt m 2 2 + 16 = m.length ∧ leAt m 2 2 ≤ 4096 ∧
    s.twinHalf = false :=
  ⟨live |> put 0x7410 1 63 1 |> put 0x7410 3 63 9 |> put 0x8200 1 9 0xFFFD |> put 0x8100 2 0 4096, 63, [7, 0, 2, 0, 5,
  0, 0, 0, 0, 0, 0, 0, 0, 0, 0, 0, 9, 9], by decide +kernel⟩
theorem witness_StackMembersJoinAndLeave_1 : ∃ (s : State) (port : Nat), s.operating = true ∧ port < 2 ∧
    s.stackRuns = true ∧ s.on 0x9001 1 port = true ∧ s.on 0x9002 1 port = false ∧ s.noSa (256 + port) = false ∧ s.room
    5 := by
  refine ⟨live |> put 0x9000 1 0 1 |> put 0x9001 1 1 1, 1, ?_⟩
  repeat' apply And.intro
  all_goals first | decide +kernel
theorem witness_StackMembersJoinAndLeave_2 : ∃ (s : State) (port : Nat), s.operating = true ∧ port < 2 ∧ s.on
    0x9002 1 port = true ∧ s.twin.relayTags = [] ∧ s.staysAsItIs 19 port = true ∧ s.room 5 := by
  refine ⟨stackLive, 1, ?_⟩
  repeat' apply And.intro
  all_goals first | decide +kernel
theorem witness_StackMembersJoinAndLeave_3 : ∃ (s : State) (port k mac tag m : Nat), s.operating = true ∧ port < 2
    ∧ s.on 0x9002 1 port = true ∧ port = s.portToward ∧ s.twin.relayTags = [(k, ⟨none, mac, tag, m⟩)] ∧
    s.od.mailbox.busy = true ∧ s.staysAsItIs 19 port = true ∧ s.room 6 := by
  refine ⟨stackLive |> onTwin (fun w => { w with relayTags := [(7, ⟨none, 0, 9, 3⟩)] }) |> onOd (fun d =>
  { d with mailbox := { d.mailbox with busy := true } }), 1, 7, 0, 9, 3, ?_⟩
  repeat' apply And.intro
  all_goals first | decide +kernel
theorem witness_StackMembersJoinAndLeave_4 : ∃ (s : State) (port : Nat), s.operating = true ∧ s.stackCarries port
    = true ∧ s.helloDue port = true :=
  ⟨stackLive, 1, by decide +kernel⟩
theorem witness_StackMembersJoinAndLeave_5 : ∃ (s : State) (port : Nat), s.operating = true ∧ s.stackCarries port
    = true ∧ s.helloDue port = true :=
  ⟨stackLive |> onTwin (fun w => { w with stackPorts := [(1, { StackPort.init with helloAt := some 0 })] }) |>
  onCanopy (fun k => { k with counter := 1000000000000 }), 1, by decide +kernel⟩
theorem witness_StackMembersJoinAndLeave_6 : ∃ (s : State) (port e : Nat) (b : Bytes), s.operating = true ∧
    s.stackCarries port = true ∧ s.stackMaster = true ∧ b.length = 24 ∧ beAt b 0 8 ≠ s.nodeName ∧ beAt b 8 1 = 1 ∧ 1 ≤
    beAt b 9 1 ∧ beAt b 9 1 ≤ 3 ∧ beAt b 11 1 % 4 = 0 ∧ s.n 0x9011 2 (beAt b 9 1) = 0 :=
  ⟨stackLive, 1, 0, beBytes 8 77 ++ [1, 3, 0, 0] ++ bytesOf 12, by decide +kernel⟩
theorem witness_StackMembersJoinAndLeave_7 : ∃ (s : State) (port e : Nat) (b : Bytes), s.operating = true ∧
    s.stackCarries port = true ∧ s.stackMaster = true ∧ b.length = 24 ∧ beAt b 0 8 ≠ s.nodeName ∧ (beAt b 8 1 ≠ 1 ∨
    beAt b 9 1 = 0 ∨ 3 < beAt b 9 1) ∧ beAt b 11 1 % 4 = 0 :=
  ⟨stackLive, 1, 0, beBytes 8 77 ++ [2, 3, 0, 0] ++ bytesOf 12, by decide +kernel⟩
theorem witness_StackMembersJoinAndLeave_8 : ∃ (s : State) (port e : Nat) (b : Bytes), s.operating = true ∧
    s.stackCarries port = true ∧ s.stackMaster = true ∧ b.length = 24 ∧ beAt b 0 8 ≠ s.nodeName ∧ (beAt b 8 1 ≠ 1 ∨
    beAt b 9 1 = 0 ∨ 3 < beAt b 9 1) ∧ beAt b 11 1 % 4 = 0 :=
  ⟨stackLive, 1, 0, beBytes 8 77 ++ [1, 0, 0, 0] ++ bytesOf 12, by decide +kernel⟩
theorem witness_StackMembersJoinAndLeave_9 : ∃ (s : State) (port e : Nat) (b : Bytes), s.operating = true ∧
    s.stackCarries port = true ∧ s.stackMaster = true ∧ b.length = 24 ∧ beAt b 0 8 ≠ s.nodeName ∧ beAt b 8 1 = 1 ∧ 1 ≤
    beAt b 9 1 ∧ beAt b 9 1 ≤ 3 ∧ beAt b 11 1 % 4 = 0 ∧ s.n 0x9011 2 (beAt b 9 1) ≠ 0 ∧ s.n 0x9011 2 (beAt b 9 1) ≠
    beAt b 0 8 ∧ s.room 5 := by
  refine ⟨stackLive |> put 0x9011 2 3 78, 1, 0, beBytes 8 77 ++ [1, 3, 0, 0] ++ bytesOf 12, ?_⟩
  repeat' apply And.intro
  all_goals first | decide +kernel
theorem witness_StackMembersJoinAndLeave_10 : ∃ (s : State), s.operating = true ∧ s.n 0x9000 1 = 1 ∧
    s.stackCarries 0 = true ∧ (s.stackPort 0).accepted = true ∧ (((s.stackPort 0).alignedAt.all fun u => s.after u
    (nsUnits 50000)) = true) ∧ (s.stackPort 1).accepted = false :=
  ⟨stackLive |> at16 999 |> onTwin (fun w =>
  { w with stackPorts := [(0, { StackPort.init with accepted := true, alignedAt := some 0, sentAt := 5, arrivedAt := 9 })] })
  |> onCanopy (fun k => { k with counter := 1000000000000 }), by decide +kernel⟩
theorem witness_StackMembersJoinAndLeave_11 : ∃ (s : State), s.operating = true ∧ s.n 0x9000 1 = 1 ∧
    s.stackCarries 1 = true ∧ (s.stackPort 1).accepted = true ∧ (((s.stackPort 1).alignedAt.all fun u => s.after u
    (nsUnits 50000)) = true) :=
  ⟨stackLive |> at16 999 |> onTwin (fun w =>
  { w with stackPorts := [(1, { StackPort.init with accepted := true, sentAt := 5, arrivedAt := 9 })] }),
  by decide +kernel⟩
theorem witness_StackMembersJoinAndLeave_12 : ∃ (s : State) (port : Nat) (loop turn : Int) (origin stamp m : Nat),
    s.operating = true ∧ s.stackCarries port = true ∧ s.stackMaster = true ∧ (s.stackPort port).accepted = true ∧
    s.joining = [m] ∧ absI ((stamp : Int) - (origin + divFloor (loop - turn) 2)) ≤ nsUnits (s.n 0x3110 3) ∧ s.n 0x3110
    2 ≤ (s.stackPort port).lockRun + 1 ∧ s.room 5 := by
  refine ⟨stackLive |> put 0x9011 2 3 77 |> put 0x3110 2 0 5 |> onTwin (fun w =>
  { w with stackPorts := [(1, { StackPort.init with accepted := true, lockRun := 4 })] }), 1, 5, 3, 7, 11, 3, ?_⟩
  repeat' apply And.intro
  all_goals first | decide +kernel
theorem witness_StackMembersJoinAndLeave_13 : ∃ (s : State) (port : Nat) (loop turn : Int) (origin stamp : Nat),
    s.operating = true ∧ s.stackCarries port = true ∧ s.stackMaster = true ∧ (s.stackPort port).accepted = true ∧
    (nsUnits (s.n 0x3110 3) < absI ((stamp : Int) - (origin + divFloor (loop - turn) 2)) ∨ (s.stackPort port).lockRun
    + 1 < s.n 0x3110 2) ∧ 0 < s.n 0x3110 2 :=
  ⟨stackLive |> put 0x9011 2 3 77 |> put 0x3110 2 0 5 |> onTwin (fun w =>
  { w with stackPorts := [(1, { StackPort.init with accepted := true, lockRun := 3 })] }), 1, 5, 3, 7, 11,
  by decide +kernel⟩
theorem witness_StackMembersJoinAndLeave_14 : ∃ (s : State) (port : Nat) (loop turn : Int) (origin stamp : Nat),
    s.operating = true ∧ s.stackCarries port = true ∧ s.stackMaster = true ∧ (s.stackPort port).accepted = true ∧
    (nsUnits (s.n 0x3110 3) < absI ((stamp : Int) - (origin + divFloor (loop - turn) 2)) ∨ (s.stackPort port).lockRun
    + 1 < s.n 0x3110 2) ∧ 0 < s.n 0x3110 2 :=
  ⟨stackLive |> put 0x9011 2 3 77 |> put 0x3110 2 0 5 |> put 0x3110 3 0 0 |> onTwin (fun w =>
  { w with stackPorts := [(1, { StackPort.init with accepted := true, lockRun := 9 })] }), 1, 5, 3, 7, 11,
  by decide +kernel⟩
theorem witness_StackMembersJoinAndLeave_15 : ∃ (s : State) (loop turn : Int) (origin stamp : Nat), s.operating =
    true ∧ s.stackCarries s.portUp = true ∧ s.stackMember = true ∧ s.time.stackSeeded = false :=
  ⟨stackLive |> put 0x1003 0 0 2, 500, 3, 70, 311, by decide +kernel⟩
theorem witness_StackMembersJoinAndLeave_16 : ∃ (s : State) (m : Nat), s.operating = true ∧ s.stackMaster = true ∧
    1 ≤ m ∧ m ≤ 3 ∧ s.memberPresent m = true ∧ s.linkLost m = true ∧ s.twin.relayTags = [] ∧ s.room 5 := by
  refine ⟨stackLive |> put 0x9000 2 0 14 |> put 0x9011 2 3 77, 3, ?_⟩
  repeat' apply And.intro
  all_goals first | decide +kernel
theorem witness_StackMembersJoinAndLeave_17 : ∃ (s : State) (m : Nat), s.operating = true ∧ s.stackMaster = true ∧
    1 ≤ m ∧ m ≤ 3 ∧ s.memberPresent m = true ∧ s.linkLost m = true ∧ s.twin.relayTags = [] ∧ s.room 5 := by
  refine ⟨stackLive |> put 0x9000 2 0 14 |> put 0x9011 2 1 77 |> put 0x9002 1 1 0 |> onCanopy (fun k =>
  { k with counter := 1000000000000 }), 1, ?_⟩
  repeat' apply And.intro
  all_goals first | decide +kernel
theorem witness_StackMembersJoinAndLeave_18 : ∃ (s : State) (m k mac tag : Nat), s.operating = true ∧
    s.stackMaster = true ∧ 1 ≤ m ∧ m ≤ 3 ∧ s.memberPresent m = true ∧ s.linkLost m = true ∧ s.twin.relayTags = [(k,
    ⟨none, mac, tag, m⟩)] ∧ s.od.mailbox.busy = true ∧ s.room 6 := by
  refine ⟨stackLive |> put 0x9000 2 0 14 |> put 0x9011 2 3 77 |> onTwin (fun w =>
  { w with relayTags := [(7, ⟨none, 0, 9, 3⟩)] }) |> onOd (fun d =>
  { d with mailbox := { d.mailbox with busy := true } }), 3, 7, 0, 9, ?_⟩
  repeat' apply And.intro
  all_goals first | decide +kernel
theorem witness_StackMembersJoinAndLeave_19 : ∃ (s : State) (port : Nat) (v : ViewData) (r : SecRow), s.operating
    = true ∧ s.stackMember = true ∧ s.stackCarries port = true ∧ s.stackCarries (1 - port) = true ∧ (((s.sections
    s.mode).find? fun r => r.row == v.row && r.id < 0xF00) = some r) ∧ s.n 0x4130 1 (1024 * s.mode + r.row) ≠ 0 :=
  ⟨stackLive |> put 0x1003 0 0 2 |> put 0x4120 1 5 9 |> put 0x4130 1 5 1, 0, ⟨5, [1, 2], 0, 7, 1⟩, ((((stackLive |>
  put 0x1003 0 0 2 |> put 0x4120 1 5 9).sections 0).find? fun r => r.row == 5).getD (SecRow.mk 0 0 0 0 0 0 false)),
  by decide +kernel⟩
theorem witness_StackMembersJoinAndLeave_20 : ∃ (s : State) (port : Nat) (v : ViewData) (r : SecRow), s.operating
    = true ∧ s.stackMaster = true ∧ s.stackCarries port = true ∧ (((s.sections s.mode).find? fun r => r.row == v.row
    && r.id < 0xF00 && r.owner == s.nodeName) = some r) :=
  ⟨stackLive |> put 0x4120 1 5 9, 1, ⟨5, [1, 2], 0, 7, 1⟩, ((((stackLive |> put 0x4120 1 5 9).sections 0).find? fun r
  => r.row == 5).getD (SecRow.mk 0 0 0 0 0 0 false)), by decide +kernel⟩
theorem witness_StackMembersJoinAndLeave_21 : ∃ (s : State) (port : Nat) (l : List ViewData), s.operating = true ∧
    s.stackMember = true ∧ s.stackCarries port = true ∧ s.stackCarries (1 - port) = true :=
  ⟨stackLive |> put 0x1003 0 0 1, 1, [⟨5, [1, 2], 0, 7, 1⟩], by decide +kernel⟩
theorem witness_TwinStepsAndMirrors_1 : ∃ (s : State), s.operating = true ∧ s.twinHalf = true ∧ s.stackCarries
    s.twinPort = true ∧ s.twin.sentRecord ≠ some s.recordCycle ∧ ((s.twin.shadowChecks.all fun k => decide (s.now <
    k.due)) = true) ∧ (s.twinState ≠ twStandby ∨ s.twin.peerDigests = none) :=
  ⟨twinLive |> put 0x4001 6 0 9, by decide +kernel⟩
theorem witness_TwinStepsAndMirrors_2 : ∃ (s : State), s.operating = true ∧ s.twinHalf = true ∧ s.stackCarries
    s.twinPort = true ∧ s.twin.sentRecord ≠ some s.recordCycle ∧ ((s.twin.shadowChecks.all fun k => decide (s.now <
    k.due)) = true) ∧ (s.twinState ≠ twStandby ∨ s.twin.peerDigests = none) :=
  ⟨twinLive |> put 0x4001 6 0 9 |> onTwin fun w => { w with sentRecord := some 8, peerDigests := some (8, []) },
  by decide +kernel⟩
theorem witness_TwinStepsAndMirrors_3 : ∃ (s : State) (epoch : Nat) (b : Bytes), s.operating = true ∧ s.twinHalf =
    true ∧ s.stackCarries s.twinPort = true ∧ s.twinState = twAlone ∧ beAt b 8 1 = twStandby ∧ (beAt b 9 1).testBit 0
    = false :=
  ⟨twinLive |> put 0x9021 1 0 1, 7, beBytes 8 41 ++ [3, 8] ++ bytesOf 142, by decide +kernel⟩
theorem witness_TwinStepsAndMirrors_4 : ∃ (s : State), s.operating = true ∧ s.twinHalf = true ∧ s.recordMissed =
    true ∧ s.twin.missedRun = 0 ∧ s.room 5 := by
  refine ⟨twinLive |> put 0x9021 1 0 2 |> put 0x4001 6 0 9 |> at16 (secUnits * 1000), ?_⟩
  repeat' apply And.intro
  all_goals first | decide +kernel
theorem witness_TwinStepsAndMirrors_5 : ∃ (s : State), s.operating = true ∧ s.twinHalf = true ∧ s.recordMissed =
    true ∧ s.twin.missedRun = 1 ∧ s.twinState = twActive ∧ s.room 5 := by
  refine ⟨twinLive |> put 0x9021 1 0 2 |> put 0x4001 6 0 9 |> at16 (secUnits * 1000) |> onTwin fun w =>
  { w with missedRun := 1 }, ?_⟩
  repeat' apply And.intro
  all_goals first | decide +kernel
theorem witness_TwinStepsAndMirrors_6 : ∃ (s : State) (m : MirrorMsg), s.operating = true ∧ s.twinHalf = true ∧
    s.stackCarries s.twinPort = true ∧ s.twinState = twStandby :=
  ⟨twinLive |> put 0x9021 1 0 3 |> onMessages (fun m => { m with mirrors := [⟨127, 511, 8, []⟩] }), ⟨127, 511, 9,
  [noValue]⟩, by decide +kernel⟩
theorem witness_TwinSelfTests_1 : ∃ (s : State) (g start : Nat), s.operating = true ∧ s.twinHalf = true ∧
    s.stackCarries s.twinPort = true :=
  ⟨twinLive, 7, 9, by decide +kernel⟩
theorem witness_TwinSelfTests_2 : ∃ (s : State) (g : Nat), s.operating = true ∧ s.twinHalf = true ∧ s.selfTestOf g
    = true ∧ g < 8 ∧ s.room 5 := by
  refine ⟨twinLive |> onTwin (fun w => { w with selfTest := some ⟨7, 0, none, none⟩ }), 7, ?_⟩
  repeat' apply And.intro
  all_goals first | decide +kernel
theorem witness_TwinSelfTests_3 : ∃ (s : State) (g start : Nat), s.operating = true ∧ s.twinHalf = true ∧
    s.stackCarries s.twinPort = true ∧ s.twin.selfTest = some ⟨g, start, none, none⟩ ∧ start ≤ s.cycle ∧ g < 8 ∧
    (s.grove g).selfTesting = true ∧ s.twinState ≠ twFailed ∧ s.room 5 := by
  refine ⟨twinLive |> onTwin (fun w => { w with selfTest := some ⟨7, 0, none, none⟩ }) |> onPower (fun w =>
  { w with groves := w.groves.set 7 ⟨2, 0, none, [], [], true, 0, false⟩ }), 7, 0, ?_⟩
  repeat' apply And.intro
  all_goals first | decide +kernel
theorem witness_TwinSelfTests_4 : ∃ (s : State) (g start : Nat) (peer : Bool), s.operating = true ∧ s.twinHalf =
    true ∧ s.stackCarries s.twinPort = true ∧ s.twin.selfTest = some ⟨g, start, some true, none⟩ ∧ start ≤ s.cycle ∧ g
    < 8 ∧ s.leaseHeld = true ∧ s.twinState ≠ twFailed ∧ s.room 6 := by
  refine ⟨twinLive |> put 0x9021 3 0 1 |> put 0x9021 1 0 2 |> onTwin (fun w =>
  { w with selfTest := some ⟨7, 0, some true, none⟩ }), 7, 0, false, ?_⟩
  repeat' apply And.intro
  all_goals first | decide +kernel
theorem witness_TwinSelfTests_5 : ∃ (s : State) (g start : Nat), s.operating = true ∧ s.twinHalf = true ∧
    s.twin.selfTest = some ⟨g, start, some true, none⟩ ∧ start ≤ s.cycle ∧ s.resultMissing = true ∧ g < 8 ∧
    s.leaseHeld = true ∧ s.twinState ≠ twFailed ∧ s.room 6 := by
  refine ⟨twinLive |> put 0x9021 3 0 1 |> put 0x9021 1 0 2 |> at16 (secUnits * 1000) |> onTwin (fun w =>
  { w with selfTest := some ⟨7, 0, some true, none⟩ }), 7, 0, ?_⟩
  repeat' apply And.intro
  all_goals first | decide +kernel
theorem witness_TwinSelfTests_6 : ∃ (s : State) (test inst : Nat), s.operating = true ∧ s.twinHalf = true ∧ s.on
    0x9020 8 = true ∧ s.power.throttled = false ∧ s.testIdle inst = true :=
  ⟨twinLive |> put 0x9020 8 0 1 |> put 0x4001 6 0 9, 1, 7, by decide +kernel⟩
theorem witness_TwinSelfTests_7 : ∃ (s : State) (test inst : Nat), s.operating = true ∧ s.twinHalf = true ∧ s.on
    0x9020 8 = true ∧ s.power.throttled = false ∧ s.testIdle inst = true ∧ inst < 8 ∧ test < 2 ∧ s.staysAsItIs 16 inst
    = true ∧ s.room 5 := by
  refine ⟨twinLive |> put 0x9020 8 0 1 |> put 0xB000 1 16 5, 1, 7, ?_⟩
  repeat' apply And.intro
  all_goals first | decide +kernel
theorem witness_LeaseIsPolledAndTaken_1 : ∃ (s : State), s.operating = true ∧ s.twinHalf = true ∧ s.leaseExpired =
    true ∧ s.twinState ≠ twFailed ∧ s.room 16 ∧ s.n 0x9021 2 < 2147483648 := by
  refine ⟨twinLive |> put 0x9021 3 0 1 |> put 0x9021 2 0 7 |> put 0x9021 1 0 1, ?_⟩
  repeat' apply And.intro
  all_goals first | decide +kernel
theorem witness_LeaseIsPolledAndTaken_2 : ∃ (s : State), s.operating = true ∧ s.twinHalf = true ∧ s.leaseExpired =
    true ∧ s.twinState ≠ twFailed ∧ s.room 16 ∧ s.n 0x9021 2 < 2147483648 := by
  refine ⟨twinLive |> put 0x9021 3 0 1 |> put 0x9021 2 0 7 |> put 0x9021 1 0 1 |> put 0x4001 1 0 4, ?_⟩
  repeat' apply And.intro
  all_goals first | decide +kernel
theorem witness_LeaseIsPolledAndTaken_3 : ∃ (s : State), s.operating = true ∧ s.seeksLease = true ∧ s.unrenewed
    (s.leaseCycles + 1) = true ∧ ((s.twin.poll.all fun p => p.cycle != s.cycle) = true) ∧ s.ring.west.lost = false ∧
    s.macBusy s.westLane ∧ s.room 5 := by
  refine ⟨twinLive |> put 0x9021 1 0 6 |> put 0x4001 1 0 3 |> put 0x4001 6 0 999999 |> onTwin (fun w =>
  { w with lastRenewal := some 0 }) |> sending twinLive.westLane, ?_⟩
  repeat' apply And.intro
  all_goals first | exact macBusy_of _ _ (by decide +kernel) | decide +kernel
theorem witness_LeaseIsPolledAndTaken_4 : ∃ (s : State) (lane epoch : Nat) (b : Bytes) (icv : Icv), s.operating =
    true ∧ s.twinHalf = false ∧ s.isLane lane = true ∧ s.unscheduled lane = true ∧ (s.on 0xA020 1 lane = false ∨ icv =
    .verified) ∧ s.hears lane { data := s.pollFrame lane epoch b, fcs := .good, icv := icv, stamp := s.now } = true ∧
    b.length = 784 ∧ beAt b 0 8 ≠ s.nodeName ∧ beAt b 12 1 < 64 ∧ s.ring.answeredPolls.contains (beAt b 0 8, beAt b 8
    4) = false :=
  ⟨live |> putPort live.westLane 0 1 0 1, live.westLane, 5, beBytes 8 77 ++ bytesOf 776, .unprotected,
  by decide +kernel⟩
theorem witness_LeaseIsPolledAndTaken_5 : ∃ (s : State) (e u : Nat), s.operating = true ∧ s.ring.voteLock = some
    (e, u) ∧ u ≤ s.cycle :=
  ⟨live |> put 0x4001 6 0 9 |> onRing (fun r => { r with voteLock := some (3, 9) }), 3, 9, by decide +kernel⟩
theorem witness_LeaseIsPolledAndTaken_6 : ∃ (s : State) (p : Poll), s.operating = true ∧ s.twin.poll = some p ∧
    p.cycle + 1 = s.cycle ∧ p.answers = [] ∧ s.censusWitnesses = 0 ∧ s.seeksLease = true ∧ s.room 5 := by
  refine ⟨twinLive |> put 0x9021 1 0 6 |> put 0x4001 1 0 3 |> put 0x4001 6 0 9 |> onTwin (fun w =>
  { w with poll := some ⟨8, []⟩ }), ⟨8, []⟩, ?_⟩
  repeat' apply And.intro
  all_goals first | decide +kernel
theorem witness_LeaseIsPolledAndTaken_7 : ∃ (s : State) (p : Poll) (nr : Nat), s.operating = true ∧ s.seeksLease =
    true ∧ s.twin.poll = some p ∧ p.cycle + 1 = s.cycle ∧ ((p.answers.all fun a => decide (a.2.1 ≤ s.n 0x9021 2)) =
    true) ∧ (nr = (p.answers.filter fun a => decide (a.2.1 ≤ s.n 0x9021 2) && renewedBefore a.2.2 (s.cycle -
    (s.leaseCycles + 2))).length) ∧ max p.answers.length s.censusWitnesses < 2 * nr ∧ s.unrenewed (s.leaseCycles + 2)
    = true ∧ s.n 0x9021 2 < 8388607 ∧ s.room 13 := by
  refine ⟨twinLive |> put 0x9021 1 0 6 |> put 0x4001 1 0 3 |> put 0x4001 6 0 999999 |> onTwin (fun w =>
  { w with lastRenewal := some 0, poll := some ⟨999998, [(1, 0, 0xFFFFFFFF)]⟩ }), ⟨999998, [(1, 0, 0xFFFFFFFF)]⟩, 1,
  ?_⟩
  repeat' apply And.intro
  all_goals first | decide +kernel
theorem witness_LeaseIsPolledAndTaken_8 : ∃ (s : State) (i : Nat), s.operating = true ∧ s.seeksLease = true ∧
    s.effectiveRank = 0 ∧ s.twin.peerIdleSince = some i ∧ s.after i (nsUnits (4 * s.n 0x9020 5)) = true ∧ s.after
    s.twin.quietSince (nsUnits (4 * s.n 0x9020 5)) = true ∧ s.n 0x9021 2 < 8388607 ∧ s.room 12 := by
  refine ⟨twinLive |> put 0x9020 2 0 0 |> put 0x9021 1 0 6 |> put 0x4001 1 0 3 |> put 0x4001 6 0 999999 |> onCanopy
  (fun k => { k with counter := 1000000000000 }) |> onTwin (fun w => { w with peerIdleSince := some 0 }), 0, ?_⟩
  repeat' apply And.intro
  all_goals first | decide +kernel
theorem witness_LeaseIsPolledAndTaken_9 : ∃ (s : State), s.operating = true ∧ s.twin.releaseSeen = some s.cycle ∧
    s.seeksLease = true ∧ s.twinState = twStandby ∧ s.n 0x9021 2 < 8388607 ∧ s.room 12 := by
  refine ⟨twinLive |> put 0x9021 1 0 3 |> put 0x4001 1 0 3 |> put 0x4001 6 0 99 |> onTwin fun w =>
  { w with releaseSeen := some 99 }, ?_⟩
  repeat' apply And.intro
  all_goals first | decide +kernel
theorem witness_CoppicesAreServedAndTaken_1 : ∃ (s : State) (fw : Nat) (digests : List Nat), s.operating = true ∧
    s.twinHalf = true ∧ s.stackCarries s.twinPort = true ∧ s.leaseHeld = true ∧ fw = s.n 0x1000 5 ∧ digests =
    (List.range 8).map s.shownDigest :=
  ⟨twinLive |> put 0x9021 3 0 1, (twinLive |> put 0x9021 3 0 1).n 0x1000 5, (List.range 8).map (twinLive |> put 0x9021
  3 0 1).shownDigest, by decide +kernel, by decide +kernel, by decide +kernel, by decide +kernel, by decide +kernel,
  rfl⟩
theorem witness_CoppicesAreServedAndTaken_2 : ∃ (s : State), s.operating = true ∧ s.twinHalf = true ∧
    s.stackCarries s.twinPort = true ∧ s.leaseHeld = true ∧ s.twin.coppice.serving = some s.cycle ∧ s.twinState ≠
    twFailed ∧ s.on 0xA020 1 (256 + s.twinPort) = false ∧ s.room 5 := by
  refine ⟨twinLive |> put 0x9021 3 0 1 |> put 0x4001 6 0 9 |> onTwin fun w =>
  { w with coppice := { w.coppice with serving := some 9 } }, ?_⟩
  repeat' apply And.intro
  all_goals first | decide +kernel
theorem witness_CoppicesAreServedAndTaken_3 : ∃ (s : State) (parts : List SnapPart), s.operating = true ∧
    s.coppiced = true ∧ s.stackCarries s.twinPort = true ∧ s.twin.coppice.loaded = false :=
  ⟨twinLive |> put 0x9021 1 0 4 |> onTwin (fun w => { w with coppice := { w.coppice with parts := [.image [1]] } }),
  [.image [2]], by decide +kernel⟩
theorem witness_CoppicesAreServedAndTaken_4 : ∃ (s : State) (parts : List SnapPart), s.operating = true ∧
    s.coppiced = true ∧ s.stackCarries s.twinPort = true ∧ s.twin.coppice.loaded = false ∧ s.twin.coppice.parts ++
    parts ≠ [] :=
  ⟨twinLive |> put 0x9021 1 0 4 |> onTwin (fun w => { w with coppice := { w.coppice with parts := [.image [1]] } }),
  [.groveStore 7 3 [2]], by decide +kernel⟩
theorem witness_CoppicesAreServedAndTaken_5 : ∃ (s : State), s.operating = true ∧ s.coppiced = true ∧
    s.stackCarries s.twinPort = true ∧ s.twin.coppice.loaded = false ∧ s.twin.coppice.parts = [] ∧ s.room 6 := by
  refine ⟨twinLive |> put 0x9021 1 0 4 |> fun s => onTwin (fun w =>
  { w with stackPorts := [(0, { StackPort.init with firmware := s.n 0x1000 5 })] }) s, ?_⟩
  repeat' apply And.intro
  all_goals first | decide +kernel
theorem witness_CoppicesAreServedAndTaken_6 : ∃ (s : State) (n : Nat) (mirrors : List MirrorMsg) (views : List
    ViewData), s.operating = true ∧ s.coppiced = true ∧ s.stackCarries s.twinPort = true ∧ s.twin.coppice.log.length <
    s.n 0x9020 9 :=
  ⟨twinLive |> put 0x9021 1 0 4 |> put 0x9020 9 0 2 |> onTwin (fun w =>
  { w with coppice := { w.coppice with log := [⟨1, [], []⟩] } }), 2, [⟨127, 511, 9, [noValue]⟩], [],
  by decide +kernel⟩
theorem witness_CoppicesAreServedAndTaken_7 : ∃ (s : State) (b : Nat), s.operating = true ∧ s.twinHalf = true ∧
    s.stackCarries s.twinPort = true ∧ s.leaseHeld = true ∧ s.twinState = twAlone ∧ s.twin.coppice.serving = some b ∧
    s.room 6 := by
  refine ⟨twinLive |> put 0x9021 3 0 1 |> put 0x9021 1 0 1 |> put 0x4001 6 0 19 |> onTwin (fun w =>
  { w with coppice := { w.coppice with serving := some 9 } }), 9, ?_⟩
  repeat' apply And.intro
  all_goals first | decide +kernel
theorem witness_CoppicesAreServedAndTaken_8 : ∃ (s : State), s.operating = true ∧ s.coppiced = true ∧
    s.stackCarries s.twinPort = true ∧ s.twin.coppice.loaded = true ∧ s.twin.coppice.log = [] :=
  ⟨twinLive |> put 0x9021 1 0 4 |> onTwin fun w =>
  { w with coppice := { w.coppice with loaded := true, parts := [.image [1]] } }, by decide +kernel⟩
theorem witness_CoppicesAreServedAndTaken_9 : ∃ (s : State), s.operating = true ∧ s.coppiced = true ∧ s.after
    s.twin.coppice.since (nsUnits (s.n 0x9020 0xA)) = true ∧ s.room 6 := by
  refine ⟨twinLive |> put 0x9021 1 0 4 |> onCanopy (fun k => { k with counter := 1000000000000 }) |> onTwin (fun w =>
  { w with coppice := { w.coppice with log := [⟨1, [], []⟩] } }), ?_⟩
  repeat' apply And.intro
  all_goals first | decide +kernel
theorem witness_KilnTakesAndAnswersMessages_1 : ∃ (s : State), s.power.state ≠ .off ∧ s.power.state ≠ .dormant ∧ 1
    ≤ s.power.stage ∧ s.takesMemory (some 0) = true ∧ s.kiln.busy = false ∧ s.kiln.running = none ∧ s.kiln.waiting =
    [] :=
  ⟨kilnLive |> (Upd.write .kilnRequest 0 [1, 1, 0, 1, 0, 7, 0, 0, 0, 0, 0, 3, 0, 0, 0, 1, 9, 9, 9]).apply,
  by decide +kernel⟩
theorem witness_KilnTakesAndAnswersMessages_2 : ∃ (s : State), s.power.state ≠ .off ∧ s.power.state ≠ .dormant ∧ 1
    ≤ s.power.stage ∧ s.takesMemory (some 0) = true ∧ s.kiln.busy = true :=
  ⟨kilnLive |> onKiln fun k => { k with busy := true }, by decide +kernel⟩
theorem witness_KilnTakesAndAnswersMessages_3 : ∃ (s : State) (o : KilnOp), s.power.state ≠ .off ∧ s.power.state ≠
    .dormant ∧ 1 ≤ s.power.stage ∧ s.kiln.running = some o ∧ s.kiln.waiting = [] ∧ o.rank = 1 ∧ beAt o.message 0 1 = 1
    ∧ beAt o.message 1 1 = 1 ∧ beAt o.message 2 2 = 1 ∧ beAt o.message 12 4 = 1 ∧ 16 + beAt o.message 8 4 ≤
    o.message.length ∧ s.kilnStops .mailbox 1 = none :=
  ⟨kilnLive |> onKiln (fun k =>
  { k with busy := true, running := some ⟨1, 0, [1, 1, 0, 1, 0, 7, 0, 0, 0, 0, 0, 0, 0, 0, 0, 1], 0, false⟩ }), ⟨1, 0,
  [1, 1, 0, 1, 0, 7, 0, 0, 0, 0, 0, 0, 0, 0, 0, 1], 0, false⟩, by decide +kernel⟩
theorem witness_KilnTakesAndAnswersMessages_4 : ∃ (s : State) (p : Nat) (f : Frame), s.operating = true ∧ 256 ≤ p
    ∧ s.stackUsable (p - 256) = true ∧ s.stackBarred (p - 256) = false ∧ frameSound f = true ∧ isProtocol f.data 5 =
    true ∧ 16 ≤ (protocolBody f.data).length ∧ beAt (protocolBody f.data) 0 1 = 1 ∧ beAt (protocolBody f.data) 12 2 =
    0 ∧ ((s.kiln.assemblies.any fun a => a.port == p && a.sourceMac == beAt f.data 6 6 && a.header == (protocolBody
    f.data).take 6) = false) ∧ beAt (protocolBody f.data) 14 2 = 1 ∧ s.kiln.running = none ∧ s.kiln.waiting = [] :=
  ⟨stackLive |> onKiln (fun k => { k with state := .running, assemblies := [⟨257, 9, bytesOf 6, true, 5, []⟩] }), 257,
  kilnFragment 1, by decide +kernel⟩
theorem witness_KilnTakesAndAnswersMessages_5 : ∃ (s : State) (p : Nat) (f : Frame), s.operating = true ∧ p < 256
    ∧ s.hears p f = true ∧ s.unscheduled p = true ∧ isProtocol f.data 5 = true ∧ 16 ≤ (protocolBody f.data).length ∧
    beAt (protocolBody f.data) 0 1 = 1 ∧ beAt (protocolBody f.data) 12 2 = 0 ∧ ((s.kiln.assemblies.any fun a => a.port
    == p && a.sourceMac == beAt f.data 6 6 && a.header == (protocolBody f.data).take 6) = false) ∧ beAt (protocolBody
    f.data) 14 2 = 1 ∧ s.kiln.running = none ∧ s.kiln.waiting = [] :=
  ⟨kilnLive |> putPort 255 0 1 0 1, 255, kilnFragment 1, by decide +kernel⟩
theorem witness_KilnTakesAndAnswersMessages_6 : ∃ (s : State) (p : Nat) (f : Frame), s.operating = true ∧ 256 ≤ p
    ∧ s.stackUsable (p - 256) = true ∧ s.stackBarred (p - 256) = false ∧ frameSound f = true ∧ isProtocol f.data 5 =
    true ∧ 16 ≤ (protocolBody f.data).length ∧ beAt (protocolBody f.data) 0 1 = 1 ∧ beAt (protocolBody f.data) 12 2 =
    0 ∧ ((s.kiln.assemblies.any fun a => a.port == p && a.sourceMac == beAt f.data 6 6 && a.header == (protocolBody
    f.data).take 6) = false) ∧ 2 ≤ beAt (protocolBody f.data) 14 2 ∧ beAt (protocolBody f.data) 14 2 ≤ 64 :=
  ⟨stackLive |> onKiln (fun k => { k with state := .running }), 256, kilnFragment 2, by decide +kernel⟩
theorem witness_KilnTakesAndAnswersMessages_7 : ∃ (s : State) (p : Nat) (f : Frame), s.operating = true ∧ p < 256
    ∧ s.hears p f = true ∧ s.unscheduled p = true ∧ isProtocol f.data 5 = true ∧ 16 ≤ (protocolBody f.data).length ∧
    beAt (protocolBody f.data) 0 1 = 1 ∧ beAt (protocolBody f.data) 12 2 = 0 ∧ ((s.kiln.assemblies.any fun a => a.port
    == p && a.sourceMac == beAt f.data 6 6 && a.header == (protocolBody f.data).take 6) = false) ∧ 2 ≤ beAt
    (protocolBody f.data) 14 2 ∧ beAt (protocolBody f.data) 14 2 ≤ 64 :=
  ⟨kilnLive |> putPort 255 0 1 0 1, 255, kilnFragment 64, by decide +kernel⟩
theorem witness_KilnTakesAndAnswersMessages_8 : ∃ (s : State) (p : Nat) (a : Assembly), a ∈ s.kiln.assemblies ∧
    a.port = p ∧ s.after a.since (nsUnits (s.n 0xA033 0)) = true :=
  ⟨kilnLive |> put 0xA033 0 0 7 |> onCanopy (fun k => { k with counter := 1000000000000 }) |> onKiln (fun k =>
  { k with assemblies := [⟨255, 9, bytesOf 6, true, nsUnits 2, []⟩, ⟨254, 9, [], true, 0, []⟩] }), 255, ⟨255, 9,
  bytesOf 6, true, nsUnits 2, []⟩, by decide +kernel⟩
theorem witness_KilnTakesAndAnswersMessages_9 : ∃ (s : State) (src : KilnSource) (tag : Nat), s.power.state ≠ .off
    ∧ s.power.state ≠ .dormant ∧ 1 ≤ s.power.stage ∧ s.answersOn src = true ∧ s.kilnStops src 1 = none :=
  ⟨kilnLive |> putPort 255 1 1 0 1, .port 255 true 9, 65535, by decide +kernel⟩
theorem witness_KilnTakesAndAnswersMessages_10 : ∃ (s : State) (src : KilnSource) (tag : Nat), s.power.state ≠
    .off ∧ s.power.state ≠ .dormant ∧ 1 ≤ s.power.stage ∧ s.answersOn src = true ∧ s.kilnStops src 1 = none :=
  ⟨stackLive |> onKiln (fun k => { k with state := .running }), .port 257 true 9, 65535, by decide +kernel⟩
theorem witness_KilnTakesAndAnswersMessages_11 : ∃ (s : State) (src : KilnSource) (tag : Nat), s.power.state ≠
    .off ∧ s.power.state ≠ .dormant ∧ 1 ≤ s.power.stage ∧ s.answersOn src = true ∧ s.kilnStops src 1 = none :=
  ⟨kilnLive, .mailbox, 1, by decide +kernel⟩
theorem witness_KilnTakesAndAnswersMessages_12 : ∃ (s : State) (p : Nat) (verified : Bool) (mac tag : Nat),
    s.power.state ≠ .off ∧ s.power.state ≠ .dormant ∧ 1 ≤ s.power.stage ∧ p < 256 ∧ s.portOn p 1 1 = true ∧
    s.kilnStops (.port p verified mac) 1 = none ∧ s.groveOn (p / 32) = false ∧ (s.grove (p / 32)).state ≠ 3 :=
  ⟨kilnLive |> putPort 255 1 1 0 1 |> onPower (fun w =>
  { w with groves := w.groves.set 7 ⟨0, 0, none, [], [], false, 0, false⟩ }), 255, true, 77, 9, by decide +kernel⟩
theorem witness_KilnTakesAndAnswersMessages_13 : ∃ (s : State) (src : KilnSource) (tag i : Nat), s.power.state ≠
    .off ∧ s.power.state ≠ .dormant ∧ 1 ≤ s.power.stage ∧ s.answersOn src = true ∧ s.kilnStops src 2 = none ∧ i < 3 :=
  ⟨kilnLive |> putPort 0 1 1 0 1, .port 0 true 5, 3, 2, by decide +kernel⟩
theorem witness_KilnTakesAndAnswersMessages_14 : ∃ (s : State) (src : KilnSource) (tag : Nat) (key : Bytes),
    s.power.state ≠ .off ∧ s.power.state ≠ .dormant ∧ 1 ≤ s.power.stage ∧ s.answersOn src = true ∧ s.kilnStops src 2 =
    none ∧ (key = (List.range 1184).map fun j => Config.kemPublicByte s.kemSeed j) :=
  ⟨kilnLive, .mailbox, 3, (List.range 1184).map fun j => Config.kemPublicByte kilnLive.kemSeed j, by decide +kernel,
  by decide +kernel, by decide +kernel, by decide +kernel, by decide +kernel, rfl⟩
theorem witness_KilnTakesAndAnswersMessages_15 : ∃ (s : State) (src : KilnSource) (tag : Nat), s.power.state ≠
    .off ∧ s.power.state ≠ .dormant ∧ 1 ≤ s.power.stage ∧ s.answersOn src = true ∧ s.kilnStops src 3 = none :=
  ⟨kilnLive, .mailbox, 3, by decide +kernel⟩
theorem witness_KilnTakesAndAnswersMessages_16 : ∃ (s : State) (r : Bytes) (a : Nat), s.kiln.challenge = some (r,
    a) ∧ s.after a (nsUnits 600000000000) = true :=
  ⟨kilnLive |> onCanopy (fun k => { k with counter := 1000000000000000000 }) |> onKiln (fun k =>
  { k with challenge := some ([1], nsUnits 1) }), [1], nsUnits 1, by decide +kernel⟩
theorem witness_KilnTakesAndAnswersMessages_17 : ∃ (s : State) (src : KilnSource) (tag : Nat) (nonce : Bytes),
    s.power.state ≠ .off ∧ s.power.state ≠ .dormant ∧ 1 ≤ s.power.stage ∧ s.answersOn src = true ∧ s.kilnStops src
    0x10 = none ∧ s.kilnRuns = true ∧ nonce.length = 32 ∧ s.room 1 := by
  refine ⟨kilnLive |> putPort 128 1 1 0 1, .port 128 true 6, 3, bytesOf 32, ?_⟩
  repeat' apply And.intro
  all_goals first | decide +kernel
theorem witness_KilnTakesAndAnswersMessages_18 : ∃ (s : State) (cause : Nat), s.power.state ≠ .off ∧ s.power.state
    ≠ .dormant ∧ 1 ≤ s.power.stage ∧ s.staysAsItIs 22 0 = true ∧ cause < 2147483648 ∧ s.room 2 := by
  refine ⟨kilnLive |> put 0xB000 1 22 2, 1, ?_⟩
  repeat' apply And.intro
  all_goals first | decide +kernel
theorem witness_FirmwareIsWrittenAndConfirmed_1 : ∃ (s : State) (src : KilnSource) (tag slot len : Nat),
    s.power.state ≠ .off ∧ s.power.state ≠ .dormant ∧ 1 ≤ s.power.stage ∧ s.answersOn src = true ∧ s.kilnStops src
    0x20 = none ∧ slot < 2 ∧ len ≤ 25165824 ∧ (s.kiln.state = .recovery ∨ (slot ≠ s.kiln.slot ∧ s.kiln.trial = false))
    :=
  ⟨kilnLive, .mailbox, 9, 1, 25165824, by decide +kernel⟩
theorem witness_FirmwareIsWrittenAndConfirmed_2 : ∃ (s : State) (src : KilnSource) (tag off : Nat) (data : Bytes)
    (slot len : Nat), s.power.state ≠ .off ∧ s.power.state ≠ .dormant ∧ 1 ≤ s.power.stage ∧ s.answersOn src = true ∧
    s.kilnStops src 0x21 = none ∧ s.kiln.fwSlot = some (slot, len) ∧ slot < 2 ∧ 8 ≤ data.length ∧ data.length ≤ 8192 ∧
    off + data.length ≤ len :=
  ⟨kilnLive |> onFlash (fun f => { f with slotB := some [] }) |> onKiln (fun k => { k with fwSlot := some (1, 64) }),
  .mailbox, 9, 8, bytesOf 56, 1, 64, by decide +kernel⟩
theorem witness_FirmwareIsWrittenAndConfirmed_3 : ∃ (s : State) (src : KilnSource) (tag slot len : Nat),
    s.power.state ≠ .off ∧ s.power.state ≠ .dormant ∧ 1 ≤ s.power.stage ∧ s.answersOn src = true ∧ s.kilnStops src
    0x22 = none ∧ s.kiln.fwSlot = some (slot, len) ∧ slot < 2 :=
  ⟨kilnLive |> onFlash (fun f => { f with slotB := some [] }) |> onKiln (fun k => { k with fwSlot := some (1, 64) }),
  .mailbox, 9, 1, 64, by decide +kernel⟩
theorem witness_FirmwareIsWrittenAndConfirmed_4 : ∃ (s : State) (src : KilnSource) (tag : Nat), s.power.state ≠
    .off ∧ s.power.state ≠ .dormant ∧ 1 ≤ s.power.stage ∧ s.answersOn src = true ∧ s.kilnStops src 0x23 = none ∧
    s.power.stage = 5 ∧ s.kiln.trial = true ∧ s.kiln.slot < 2 ∧ s.room 2 := by
  refine ⟨kilnLive |> onFlash (fun f => { f with slotB := some [] }) |> onKiln (fun k =>
  { k with slot := 1, trial := true }), .mailbox, 9, ?_⟩
  repeat' apply And.intro
  all_goals first | decide +kernel
theorem witness_FirmwareIsWrittenAndConfirmed_5 : ∃ (s : State) (src : KilnSource) (tag : Nat), s.power.state ≠
    .off ∧ s.power.state ≠ .dormant ∧ 1 ≤ s.power.stage ∧ s.answersOn src = true ∧ s.kilnStops src 0x24 = none ∧
    s.kiln.fwSlot.isSome = true :=
  ⟨kilnLive |> onKiln (fun k => { k with fwSlot := some (1, 64) }), .mailbox, 9, by decide +kernel⟩
theorem witness_OwnerKeysAndUnlock_1 : ∃ (s : State) (src : KilnSource) (tag : Nat) (b : Bytes) (c :
    OwnerCommand), s.power.state ≠ .off ∧ s.power.state ≠ .dormant ∧ 1 ≤ s.power.stage ∧ s.answersOn src = true ∧
    s.kilnStops src 0x30 = none ∧ readOwner b = some c ∧ beAt b 4 1 = 1 ∧ s.otp.ownerSlots.length < 16 :=
  ⟨kilnLive, .mailbox, 9, ownerMsg 1 7 ([1] ++ bytesOf 1959), ownerCmd 1 7 ([1] ++ bytesOf 1959), by decide +kernel⟩
theorem witness_OwnerKeysAndUnlock_2 : ∃ (s : State) (src : KilnSource) (tag : Nat) (b : Bytes) (c :
    OwnerCommand), s.power.state ≠ .off ∧ s.power.state ≠ .dormant ∧ 1 ≤ s.power.stage ∧ s.answersOn src = true ∧
    s.kilnStops src 0x30 = none ∧ readOwner b = some c ∧ beAt b 4 1 = 2 ∧ s.otp.ownerSlots.length < 16 :=
  ⟨kilnLive, .mailbox, 9, ownerMsg 2 7 ([2] ++ bytesOf 2599), ownerCmd 2 7 ([2] ++ bytesOf 2599), by decide +kernel⟩
theorem witness_OwnerKeysAndUnlock_3 : ∃ (s : State) (src : KilnSource) (tag : Nat) (b : Bytes) (c :
    OwnerCommand), s.power.state ≠ .off ∧ s.power.state ≠ .dormant ∧ 1 ≤ s.power.stage ∧ s.answersOn src = true ∧
    s.kilnStops src 0x30 = none ∧ readOwner b = some c ∧ beAt b 4 1 = 3 :=
  ⟨kilnLive, .mailbox, 9, ownerMsg 3 7 ([1] ++ bytesOf 1959), ownerCmd 3 7 ([1] ++ bytesOf 1959), by decide +kernel⟩
theorem witness_OwnerKeysAndUnlock_4 : ∃ (s : State) (src : KilnSource) (tag : Nat) (b : Bytes) (c :
    OwnerCommand), s.power.state ≠ .off ∧ s.power.state ≠ .dormant ∧ 1 ≤ s.power.stage ∧ s.answersOn src = true ∧
    s.kilnStops src 0x30 = none ∧ readOwner b = some c ∧ beAt b 4 1 = 8 :=
  ⟨kilnLive, .mailbox, 9, ownerMsg 8 7 ([63] ++ bytesOf 1159), ownerCmd 8 7 ([63] ++ bytesOf 1159), by decide +kernel⟩
theorem witness_OwnerKeysAndUnlock_5 : ∃ (s : State) (src : KilnSource) (tag : Nat) (b : Bytes) (c :
    OwnerCommand), s.power.state ≠ .off ∧ s.power.state ≠ .dormant ∧ 1 ≤ s.power.stage ∧ s.answersOn src = true ∧
    s.kilnStops src 0x30 = none ∧ readOwner b = some c ∧ beAt b 4 1 = 9 :=
  ⟨kilnLive, .mailbox, 9, ownerMsg 9 7 ([64] ++ bytesOf 7), ownerCmd 9 7 ([64] ++ bytesOf 7), by decide +kernel⟩
theorem witness_OwnerKeysAndUnlock_6 : ∃ (s : State) (src : KilnSource) (tag : Nat) (b : Bytes) (c :
    OwnerCommand), s.power.state ≠ .off ∧ s.power.state ≠ .dormant ∧ 1 ≤ s.power.stage ∧ s.answersOn src = true ∧
    s.kilnStops src 0x30 = none ∧ readOwner b = some c ∧ beAt b 4 1 = 10 ∧ s.kiln.waiting = [] :=
  ⟨kilnLive, .mailbox, 9, ownerMsg 10 7 [], ownerCmd 10 7 [], by decide +kernel⟩
theorem witness_OwnerSettings_1 : ∃ (s : State) (src : KilnSource) (tag : Nat) (b : Bytes) (c : OwnerCommand),
    s.power.state ≠ .off ∧ s.power.state ≠ .dormant ∧ 1 ≤ s.power.stage ∧ s.answersOn src = true ∧ s.kilnStops src
    0x30 = none ∧ readOwner b = some c ∧ 1 ≤ c.op :=
  ⟨kilnLive, .mailbox, 9, ownerMsg 5 7 (bytesOf 8), ownerCmd 5 7 (bytesOf 8), by decide +kernel⟩
theorem witness_OwnerSettings_2 : ∃ (s : State) (src : KilnSource) (tag : Nat) (b : Bytes), s.power.state ≠ .off ∧
    s.power.state ≠ .dormant ∧ 1 ≤ s.power.stage ∧ s.answersOn src = true ∧ s.kilnStops src 0x30 = none ∧ (readOwner
    b).isNone = true ∧ s.room 1 := by
  refine ⟨kilnLive, .mailbox, 9, [1, 2, 3, 4, 255], ?_⟩
  repeat' apply And.intro
  all_goals first | decide +kernel
theorem witness_OwnerSettings_3 : ∃ (s : State) (src : KilnSource) (tag : Nat) (b : Bytes) (c : OwnerCommand),
    s.power.state ≠ .off ∧ s.power.state ≠ .dormant ∧ 1 ≤ s.power.stage ∧ s.answersOn src = true ∧ s.kilnStops src
    0x30 = none ∧ readOwner b = some c ∧ beAt b 4 1 = 4 :=
  ⟨kilnLive, .mailbox, 9, ownerMsg 4 7 (bytesOf 16), ownerCmd 4 7 (bytesOf 16), by decide +kernel⟩
theorem witness_OwnerSettings_4 : ∃ (s : State) (src : KilnSource) (tag : Nat) (b : Bytes) (c : OwnerCommand),
    s.power.state ≠ .off ∧ s.power.state ≠ .dormant ∧ 1 ≤ s.power.stage ∧ s.answersOn src = true ∧ s.kilnStops src
    0x30 = none ∧ readOwner b = some c ∧ beAt b 4 1 = 5 :=
  ⟨kilnLive, .mailbox, 9, ownerMsg 5 7 (bytesOf 8), ownerCmd 5 7 (bytesOf 8), by decide +kernel⟩
theorem witness_OwnerSettings_5 : ∃ (s : State) (src : KilnSource) (tag : Nat) (b : Bytes) (c : OwnerCommand),
    s.power.state ≠ .off ∧ s.power.state ≠ .dormant ∧ 1 ≤ s.power.stage ∧ s.answersOn src = true ∧ s.kilnStops src
    0x30 = none ∧ readOwner b = some c ∧ beAt b 4 1 = 6 :=
  ⟨kilnLive, .mailbox, 9, ownerMsg 6 7 ([16] ++ bytesOf 135), ownerCmd 6 7 ([16] ++ bytesOf 135), by decide +kernel⟩
theorem witness_OwnerSettings_6 : ∃ (s : State) (src : KilnSource) (tag : Nat) (b : Bytes) (c : OwnerCommand),
    s.power.state ≠ .off ∧ s.power.state ≠ .dormant ∧ 1 ≤ s.power.stage ∧ s.answersOn src = true ∧ s.kilnStops src
    0x30 = none ∧ readOwner b = some c ∧ beAt b 4 1 = 7 :=
  ⟨kilnLive, .mailbox, 9, ownerMsg 7 7 ([0, 2] ++ bytesOf 22), ownerCmd 7 7 ([0, 2] ++ bytesOf 22), by decide +kernel⟩
theorem witness_PairingRunsAndRetries_1 : ∃ (s : State) (p mac : Nat) (b : Bytes), s.operating = true ∧
    s.kilnReaches p = true ∧ s.pairs p = true ∧ mac ≤ ofBe (s.macBytes p) :=
  ⟨stackLive |> onKiln (fun k => { k with state := .running }) |> put 0xA020 1 257 1 |> put 0xA020 5 257 0 |> lay
  0x9002 5 1 0xFF, 257, 0, bytesOf 1400, by decide +kernel⟩
theorem witness_PairingRunsAndRetries_2 : ∃ (s : State) (p mac : Nat) (b : Bytes), s.operating = true ∧
    s.kilnReaches p = true ∧ s.pairingPort p = false :=
  ⟨stackLive, 256, 9, bytesOf 14, by decide +kernel⟩
theorem witness_PairingRunsAndRetries_3 : ∃ (s : State) (p : Nat) (b : Bytes), s.operating = true ∧ s.kilnReaches
    p = true ∧ s.pairingPort p = false :=
  ⟨stackLive, 256, [5], by decide +kernel⟩
theorem witness_PairingRunsAndRetries_4 : ∃ (s : State) (p mac : Nat) (b : Bytes), s.operating = true ∧
    s.kilnReaches p = true ∧ s.pairs p = true ∧ (s.pairing p).initiator = true ∧ (s.pairing p).command = 0x40 :=
  ⟨stackLive |> put 0xA020 1 257 1 |> put 0xA020 5 257 0 |> onKiln (fun k =>
  { k with state := .running, pairings := [(257, { Pairing.init with initiator := true, command := 0x40 })] }), 257,
  0, bytesOf 1400, by decide +kernel⟩
theorem witness_PairingRunsAndRetries_5 : ∃ (s : State) (p : Nat) (x : Bytes), s.operating = true ∧ s.kilnReaches
    p = true ∧ s.pairs p = true ∧ (s.pairing p).initiator = false ∧ (s.pairing p).expected = x ∧ x ≠ [] ∧ s.room 1 :=
    by
  refine ⟨stackLive |> put 0xA020 1 257 1 |> put 0xA020 5 257 0 |> onKiln (fun k =>
  { k with state := .running, pairings := [(257, { Pairing.init with expected := [5], cak := [6], peerMac := 9 })] }),
  257, [5], ?_⟩
  repeat' apply And.intro
  all_goals first | decide +kernel
theorem witness_PairingRunsAndRetries_6 : ∃ (s : State) (p : Nat) (x : Bytes), s.operating = true ∧ s.kilnReaches
    p = true ∧ s.pairs p = true ∧ (s.pairing p).initiator = true ∧ (s.pairing p).command = 0x41 ∧ (s.pairing
    p).expected = x ∧ x ≠ [] ∧ s.room 1 := by
  refine ⟨stackLive |> put 0xA020 1 257 1 |> put 0xA020 5 257 0 |> onKiln (fun k =>
  { k with state := .running, pairings := [(257, { Pairing.init with initiator := true, command := 0x41, expected := [5], cak := [6] })] }),
  257, [5], ?_⟩
  repeat' apply And.intro
  all_goals first | decide +kernel
theorem witness_PairingRunsAndRetries_7 : ∃ (s : State) (p : Nat), s.operating = true ∧ s.kilnReaches p = true ∧
    (s.pairing p).initiator = true ∧ (s.pairing p).failed = false ∧ s.after (s.pairing p).sentAt (nsUnits (s.n 0xA033
    0)) = true ∧ (s.pairing p).attempts < 3 :=
  ⟨stackLive |> put 0xA020 1 257 1 |> put 0xA020 5 257 0 |> onCanopy (fun k => { k with counter := 1000000000000 }) |>
  onKiln (fun k =>
  { k with state := .running, pairings := [(257, { Pairing.init with initiator := true, attempts := 2 })] }), 257,
  by decide +kernel⟩
theorem witness_PairingRunsAndRetries_8 : ∃ (s : State) (p : Nat), s.operating = true ∧ (s.pairing p).initiator =
    true ∧ (s.pairing p).failed = false ∧ s.after (s.pairing p).sentAt (nsUnits (s.n 0xA033 0)) = true ∧ 3 ≤
    (s.pairing p).attempts ∧ s.room 1 := by
  refine ⟨stackLive |> put 0xA020 1 257 1 |> put 0xA020 5 257 0 |> onCanopy (fun k =>
  { k with counter := 1000000000000 }) |> onKiln (fun k =>
  { k with state := .running, pairings := [(257, { Pairing.init with initiator := true, attempts := 3 })] }), 257, ?_⟩
  repeat' apply And.intro
  all_goals first | decide +kernel
theorem witness_PairingRunsAndRetries_9 : ∃ (s : State) (p : Nat), s.operating = true ∧ s.kilnReaches p = true ∧
    (s.pairing p).failed = true ∧ s.after (s.pairing p).sentAt (nsUnits 10000000000) = true ∧ s.pairs p = true ∧
    s.room 1 := by
  refine ⟨stackLive |> put 0xA020 1 257 1 |> put 0xA020 5 257 0 |> onCanopy (fun k =>
  { k with counter := 1000000000000 }) |> onKiln (fun k =>
  { k with state := .running, pairings := [(257, { Pairing.init with failed := true })] }), 257, ?_⟩
  repeat' apply And.intro
  all_goals first | decide +kernel
theorem witness_PairingRunsAndRetries_10 : ∃ (s : State) (p e : Nat), s.operating = true ∧ (s.mkaPort p).expires =
    some e ∧ (s.mkaPort p).initiator = true ∧ e ≤ s.now ∧ s.pairs p = true ∧ s.room 1 := by
  refine ⟨stackLive |> put 0xA020 1 257 1 |> onKiln (fun k =>
  { k with state := .running, mka := [(257, { MkaPort.init with expires := some 5, initiator := true, sessions := [{ MkaSession.init with cak := [1] }] })] })
  |> put 0xA020 5 257 0 |> at16 7, 257, 5, ?_⟩
  repeat' apply And.intro
  all_goals first | decide +kernel
theorem witness_MacsecKeysComeAndGo_1 : ∃ (s : State) (p : Nat) (d : Mkpdu) (x : MkaSession) (q : MkaPeer),
    s.operating = true ∧ 256 ≤ p ∧ s.stackUsable (p - 256) = true ∧ s.stackBarred (p - 256) = false ∧ frameSound
    d.frame = true ∧ beAt d.frame.data 12 2 = 0x888E ∧ s.macsecOn p = true ∧ s.session? p d.ckn = some x ∧ d.member ≠
    x.member ∧ ((x.peers.find? fun y => y.member == d.member) = some q) ∧ q.number < d.number :=
  ⟨stackLive |> put 0xA020 1 257 1 |> onKiln (fun k =>
  { k with state := .running, mka := [(257, { MkaPort.init with sessions := [{ MkaSession.init with cak := [1], peers := [⟨5, 9, 3, 16, 0, true⟩] }] })] }),
  257,
  { sci := 5, priority := 16, ckn := [], member := 9, number := 4, live := [], sak := none, raw := [], frame := { data := bytesOf 12 ++ [0x88, 0x8E] ++ bytesOf 60, fcs := .good, icv := .unprotected, stamp := 0 } },
  { MkaSession.init with cak := [1], peers := [⟨5, 9, 3, 16, 0, true⟩] }, ⟨5, 9, 3, 16, 0, true⟩, by decide +kernel⟩
theorem witness_MacsecKeysComeAndGo_2 : ∃ (s : State) (p : Nat) (d : Mkpdu) (x : MkaSession) (q : MkaPeer),
    s.operating = true ∧ p < 256 ∧ s.hears p d.frame = true ∧ s.unscheduled p = true ∧ s.macsecOn p = true ∧
    s.session? p d.ckn = some x ∧ d.member ≠ x.member ∧ ((x.peers.find? fun y => y.member == d.member) = some q) ∧
    q.number < d.number :=
  ⟨live |> putPort 32 0 1 0 1 |> putPort 32 1 1 0 1 |> put 0xA020 1 32 1 |> onKiln (fun k =>
  { k with state := .running, mka := [(32, { MkaPort.init with sessions := [{ MkaSession.init with cak := [1], peers := [⟨5, 9, 3, 16, 0, true⟩] }] })] }),
  32,
  { sci := 5, priority := 16, ckn := [], member := 9, number := 4, live := [], sak := none, raw := [], frame := { data := bytesOf 12 ++ [0x88, 0x8E] ++ bytesOf 60, fcs := .good, icv := .unprotected, stamp := 0 } },
  { MkaSession.init with cak := [1], peers := [⟨5, 9, 3, 16, 0, true⟩] }, ⟨5, 9, 3, 16, 0, true⟩, by decide +kernel⟩
theorem witness_MacsecKeysComeAndGo_3 : ∃ (s : State) (p : Nat) (d : Mkpdu) (x : MkaSession) (an number : Nat) (q
    : MkaPeer), s.operating = true ∧ 256 ≤ p ∧ s.stackUsable (p - 256) = true ∧ s.stackBarred (p - 256) = false ∧
    frameSound d.frame = true ∧ beAt d.frame.data 12 2 = 0x888E ∧ s.macsecOn p = true ∧ s.session? p d.ckn = some x ∧
    d.member ≠ x.member ∧ ((x.peers.find? fun y => y.member == d.member) = some q) ∧ q.number < d.number ∧ d.sak =
    some (an, number) ∧ s.serverIs p x d = true ∧ ((x.saks.any fun y => y.an == an && y.number == number) = false) :=
  ⟨stackLive |> put 0xA020 1 257 1 |> onKiln (fun k =>
  { k with state := .running, mka := [(257, { MkaPort.init with sessions := [{ MkaSession.init with cak := [1], peers := [⟨5, 9, 3, 16, 0, true⟩] }] })] })
  |> put 0xA020 7 257 17, 257,
  { sci := 5, priority := 16, ckn := [], member := 9, number := 4, live := [], sak := some (1, 2), raw := [], frame := { data := bytesOf 12 ++ [0x88, 0x8E] ++ bytesOf 60, fcs := .good, icv := .unprotected, stamp := 0 } },
  { MkaSession.init with cak := [1], peers := [⟨5, 9, 3, 16, 0, true⟩] }, 1, 2, ⟨5, 9, 3, 16, 0, true⟩,
  by decide +kernel⟩
theorem witness_MacsecKeysComeAndGo_4 : ∃ (s : State) (p : Nat) (d : Mkpdu) (x : MkaSession) (an number : Nat) (q
    : MkaPeer), s.operating = true ∧ p < 256 ∧ s.hears p d.frame = true ∧ s.unscheduled p = true ∧ s.macsecOn p = true
    ∧ s.session? p d.ckn = some x ∧ d.member ≠ x.member ∧ ((x.peers.find? fun y => y.member == d.member) = some q) ∧
    q.number < d.number ∧ d.sak = some (an, number) ∧ s.serverIs p x d = true ∧ ((x.saks.any fun y => y.an == an &&
    y.number == number) = false) :=
  ⟨live |> putPort 32 0 1 0 1 |> putPort 32 1 1 0 1 |> put 0xA020 1 32 1 |> onKiln (fun k =>
  { k with state := .running, mka := [(32, { MkaPort.init with sessions := [{ MkaSession.init with cak := [1], peers := [⟨5, 9, 3, 16, 0, true⟩] }] })] })
  |> put 0xA020 7 32 17, 32,
  { sci := 5, priority := 16, ckn := [], member := 9, number := 4, live := [], sak := some (1, 2), raw := [], frame := { data := bytesOf 12 ++ [0x88, 0x8E] ++ bytesOf 60, fcs := .good, icv := .unprotected, stamp := 0 } },
  { MkaSession.init with cak := [1], peers := [⟨5, 9, 3, 16, 0, true⟩] }, 1, 2, ⟨5, 9, 3, 16, 0, true⟩,
  by decide +kernel⟩
theorem witness_MacsecKeysComeAndGo_5 : ∃ (s : State) (p : Nat) (d : Mkpdu) (x : MkaSession), s.operating = true ∧
    256 ≤ p ∧ s.stackUsable (p - 256) = true ∧ s.stackBarred (p - 256) = false ∧ frameSound d.frame = true ∧ beAt
    d.frame.data 12 2 = 0x888E ∧ s.macsecOn p = true ∧ s.session? p d.ckn = some x ∧ d.member ≠ x.member ∧
    ((x.peers.find? fun y => y.member == d.member) = none) ∧ (d.live.contains x.member = true ∨ d.potential.contains
    x.member = true) ∧ s.receiveScs < 1024 ∧ (x.peers.length < 32 ∨ 256 ≤ p ∨ isSG p = false) ∧ p < 258 ∧ s.room 1 :=
    by
  refine ⟨stackLive |> put 0xA020 1 257 1 |> onKiln (fun k =>
  { k with state := .running, mka := [(257, { MkaPort.init with sessions := [{ MkaSession.init with cak := [1] }] })] }),
  257,
  { sci := 5, priority := 16, ckn := [], member := 9, number := 4, live := [0], sak := none, raw := [], frame := { data := bytesOf 12 ++ [0x88, 0x8E] ++ bytesOf 60, fcs := .good, icv := .unprotected, stamp := 0 } },
  { MkaSession.init with cak := [1] }, ?_⟩
  repeat' apply And.intro
  all_goals first | decide +kernel
theorem witness_MacsecKeysComeAndGo_6 : ∃ (s : State) (p : Nat) (d : Mkpdu) (x : MkaSession), s.operating = true ∧
    p < 256 ∧ s.hears p d.frame = true ∧ s.unscheduled p = true ∧ s.macsecOn p = true ∧ s.session? p d.ckn = some x ∧
    d.member ≠ x.member ∧ ((x.peers.find? fun y => y.member == d.member) = none) ∧ (d.live.contains x.member = true ∨
    d.potential.contains x.member = true) ∧ s.receiveScs < 1024 ∧ (x.peers.length < 32 ∨ 256 ≤ p ∨ isSG p = false) ∧ p
    < 258 ∧ s.room 1 := by
  refine ⟨live |> putPort 32 0 1 0 1 |> putPort 32 1 1 0 1 |> put 0xA020 1 32 1 |> onKiln (fun k =>
  { k with state := .running, mka := [(32, { MkaPort.init with sessions := [{ MkaSession.init with cak := [1] }] })] }),
  32,
  { sci := 5, priority := 16, ckn := [], member := 9, number := 4, live := [], potential := [0], sak := none, raw := [], frame := { data := bytesOf 12 ++ [0x88, 0x8E] ++ bytesOf 60, fcs := .good, icv := .unprotected, stamp := 0 } },
  { MkaSession.init with cak := [1] }, ?_⟩
  repeat' apply And.intro
  all_goals first | decide +kernel
theorem witness_MacsecKeysComeAndGo_7 : ∃ (s : State) (p : Nat) (d : Mkpdu) (x : MkaSession), s.operating = true ∧
    256 ≤ p ∧ s.stackUsable (p - 256) = true ∧ s.stackBarred (p - 256) = false ∧ frameSound d.frame = true ∧ beAt
    d.frame.data 12 2 = 0x888E ∧ s.macsecOn p = true ∧ s.session? p d.ckn = some x ∧ d.member ≠ x.member ∧
    ((x.peers.find? fun y => y.member == d.member) = none) ∧ (d.live.contains x.member = true ∨ d.potential.contains
    x.member = true) ∧ 1024 ≤ s.receiveScs ∧ p < 258 ∧ s.room 2 := by
  refine ⟨stackLive |> put 0xA020 1 257 1 |> onKiln (fun k =>
  { k with state := .running, mka := [(257, { MkaPort.init with sessions := [{ MkaSession.init with cak := [1] }] })] })
  |> onKiln (fun k =>
  { k with mka := k.mka.set 256 { MkaPort.init with sessions := [{ MkaSession.init with peers := List.replicate 1024 ⟨1, 1, 1, 1, 0, true⟩ }] } }),
  257,
  { sci := 5, priority := 16, ckn := [], member := 9, number := 4, live := [0], sak := none, raw := [], frame := { data := bytesOf 12 ++ [0x88, 0x8E] ++ bytesOf 60, fcs := .good, icv := .unprotected, stamp := 0 } },
  { MkaSession.init with cak := [1] }, ?_⟩
  repeat' apply And.intro
  all_goals first | decide +kernel
theorem witness_MacsecKeysComeAndGo_8 : ∃ (s : State) (p : Nat) (d : Mkpdu) (x : MkaSession), s.operating = true ∧
    256 ≤ p ∧ s.stackUsable (p - 256) = true ∧ s.stackBarred (p - 256) = false ∧ frameSound d.frame = true ∧ beAt
    d.frame.data 12 2 = 0x888E ∧ s.macsecOn p = true ∧ s.session? p d.ckn = some x ∧ d.member ≠ x.member ∧
    ((x.peers.find? fun y => y.member == d.member) = none) ∧ d.live.contains x.member = false ∧ d.potential.contains
    x.member = false :=
  ⟨stackLive |> put 0xA020 1 257 1 |> onKiln (fun k =>
  { k with state := .running, mka := [(257, { MkaPort.init with sessions := [{ MkaSession.init with cak := [1] }] })] }),
  257,
  { sci := 5, priority := 16, ckn := [], member := 9, number := 4, live := [], sak := none, raw := [], frame := { data := bytesOf 12 ++ [0x88, 0x8E] ++ bytesOf 60, fcs := .good, icv := .unprotected, stamp := 0 } },
  { MkaSession.init with cak := [1] }, by decide +kernel⟩
theorem witness_MacsecKeysComeAndGo_9 : ∃ (s : State) (p : Nat) (d : Mkpdu) (x : MkaSession), s.operating = true ∧
    p < 256 ∧ s.hears p d.frame = true ∧ s.unscheduled p = true ∧ s.macsecOn p = true ∧ s.session? p d.ckn = some x ∧
    d.member ≠ x.member ∧ ((x.peers.find? fun y => y.member == d.member) = none) ∧ d.live.contains x.member = false ∧
    d.potential.contains x.member = false :=
  ⟨live |> putPort 32 0 1 0 1 |> putPort 32 1 1 0 1 |> put 0xA020 1 32 1 |> onKiln (fun k =>
  { k with state := .running, mka := [(32, { MkaPort.init with sessions := [{ MkaSession.init with cak := [1] }] })] }),
  32,
  { sci := 5, priority := 16, ckn := [], member := 9, number := 4, live := [], sak := none, raw := [], frame := { data := bytesOf 12 ++ [0x88, 0x8E] ++ bytesOf 60, fcs := .good, icv := .unprotected, stamp := 0 } },
  { MkaSession.init with cak := [1] }, by decide +kernel⟩
theorem witness_MacsecKeysComeAndGo_10 : ∃ (s : State) (p : Nat) (x : MkaSession), s.operating = true ∧
    s.kilnReaches p = true ∧ s.macsecOn p = true ∧ (s.mkaPort p).sessions = [x] ∧ s.after x.helloAt (nsUnits
    2000000000) = true ∧ (x.rekey = false ∨ s.keyServer p x = false ∨ x.peers = []) :=
  ⟨stackLive |> put 0xA020 1 257 1 |> onKiln (fun k =>
  { k with state := .running, mka := [(257, { MkaPort.init with sessions := [{ MkaSession.init with cak := [1], peers := [⟨5, 9, 3, 16, 0, true⟩] }] })] })
  |> onCanopy (fun k => { k with counter := 1000000000000 }), 257,
  { MkaSession.init with cak := [1], peers := [⟨5, 9, 3, 16, 0, true⟩] }, by decide +kernel⟩
theorem witness_MacsecKeysComeAndGo_11 : ∃ (s : State) (p : Nat) (x : MkaSession), s.operating = true ∧
    s.kilnReaches p = true ∧ s.macsecOn p = true ∧ (s.mkaPort p).sessions = [x] ∧ s.after x.helloAt (nsUnits
    2000000000) = true ∧ (x.rekey = false ∨ s.keyServer p x = false ∨ x.peers = []) :=
  ⟨live |> putPort 32 0 1 0 1 |> putPort 32 1 1 0 1 |> put 0xA020 1 32 1 |> onKiln (fun k =>
  { k with state := .running, mka := [(32, { MkaPort.init with sessions := [{ MkaSession.init with cak := [1], peers := [⟨5, 9, 3, 16, 0, true⟩] }] })] })
  |> onCanopy (fun k => { k with counter := 1000000000000 }), 32,
  { MkaSession.init with cak := [1], peers := [⟨5, 9, 3, 16, 0, true⟩] }, by decide +kernel⟩
theorem witness_MacsecKeysComeAndGo_12 : ∃ (s : State) (p : Nat) (x : MkaSession), s.operating = true ∧
    s.kilnReaches p = true ∧ s.macsecOn p = true ∧ (s.mkaPort p).sessions = [x] ∧ s.after x.helloAt (nsUnits
    2000000000) = true ∧ x.rekey = true ∧ s.keyServer p x = true ∧ x.peers ≠ [] :=
  ⟨stackLive |> put 0xA020 1 257 1 |> onKiln (fun k =>
  { k with state := .running, mka := [(257, { MkaPort.init with nextAn := 3, sessions := [{ MkaSession.init with cak := [1], rekey := true, peers := [⟨5, 9, 3, 255, 0, true⟩] }] })] })
  |> put 0xA020 7 257 3 |> onCanopy (fun k => { k with counter := 1000000000000 }), 257,
  { MkaSession.init with cak := [1], rekey := true, peers := [⟨5, 9, 3, 255, 0, true⟩] }, by decide +kernel⟩
theorem witness_MacsecKeysComeAndGo_13 : ∃ (s : State) (p sci : Nat) (x : MkaSession), s.operating = true ∧
    s.macsecOn p = true ∧ (s.mkaPort p).sessions = [x] ∧ ((x.peers.any fun y => y.sci == sci && s.after y.heardAt
    (nsUnits 6000000000)) = true) ∧ p < 258 ∧ s.room 1 := by
  refine ⟨stackLive |> put 0xA020 1 257 1 |> onKiln (fun k =>
  { k with state := .running, mka := [(257, { MkaPort.init with sessions := [{ MkaSession.init with cak := [1], peers := [⟨5, 9, 3, 16, 0, true⟩] }], rxSas := [(5, 1, 1)], txSa := some (1, 1) })] })
  |> onCanopy (fun k => { k with counter := 1000000000000 }), 257, 5,
  { MkaSession.init with cak := [1], peers := [⟨5, 9, 3, 16, 0, true⟩] }, ?_⟩
  repeat' apply And.intro
  all_goals first | decide +kernel
theorem witness_MacsecKeysComeAndGo_14 : ∃ (s : State) (p sci : Nat) (x : MkaSession), s.operating = true ∧
    s.macsecOn p = true ∧ (s.mkaPort p).sessions = [x] ∧ ((x.peers.any fun y => y.sci == sci && s.after y.heardAt
    (nsUnits 6000000000)) = true) ∧ p < 258 ∧ s.room 1 := by
  refine ⟨stackLive |> put 0xA020 1 257 1 |> onKiln (fun k =>
  { k with state := .running, mka := [(257, { MkaPort.init with sessions := [{ MkaSession.init with cak := [1], peers := [⟨5, 9, 3, 16, 0, true⟩, ⟨6, 8, 3, 16, 0, true⟩] }], rxSas := [(5, 1, 1)], txSa := some (1, 1) })] })
  |> onCanopy (fun k => { k with counter := 1000000000000 }), 257, 5,
  { MkaSession.init with cak := [1], peers := [⟨5, 9, 3, 16, 0, true⟩, ⟨6, 8, 3, 16, 0, true⟩] }, ?_⟩
  repeat' apply And.intro
  all_goals first | decide +kernel
theorem witness_MacsecKeysComeAndGo_15 : ∃ (s : State) (p an key sci : Nat), s.operating = true ∧ s.macsecOn p =
    true ∧ (s.mkaPort p).mayWrite an key sci false = true :=
  ⟨mkaLive 257
  { MkaPort.init with sessions := [{ MkaSession.init with saks := [⟨3, 2, []⟩] }], rxSas := [(5, 3, 1)] }, 257, 3, 2,
  5, by decide +kernel⟩
theorem witness_MacsecKeysComeAndGo_16 : ∃ (s : State) (p an key sci : Nat), s.operating = true ∧ s.macsecOn p =
    true ∧ (s.mkaPort p).mayWrite an key sci false = false :=
  ⟨mkaLive 257
  { MkaPort.init with sessions := [{ MkaSession.init with saks := [⟨3, 2, []⟩] }], rxSas := [(5, 3, 1)] }, 257, 2, 2,
  5, by decide +kernel⟩
theorem witness_MacsecKeysComeAndGo_17 : ∃ (s : State) (p an key sci : Nat), s.operating = true ∧ s.macsecOn p =
    true ∧ (s.mkaPort p).mayWrite an key sci true = true ∧ s.isLane p = false ∧ p < 258 ∧ an < 4 ∧ s.room 1 := by
  refine ⟨mkaLive 257 { MkaPort.init with sessions := [{ MkaSession.init with saks := [⟨3, 2, []⟩] }], txPn := 7 },
  257, 3, 2, 5, ?_⟩
  repeat' apply And.intro
  all_goals first | decide +kernel
theorem witness_MacsecKeysComeAndGo_18 : ∃ (s : State) (p an key sci : Nat), s.operating = true ∧ s.macsecOn p =
    true ∧ (s.mkaPort p).mayWrite an key sci true = true ∧ s.isLane p = true ∧ p < 256 ∧ (s.ringState = ringMaster ∨
    s.ringState = ringFollower ∨ s.ringState = ringSapling) :=
  ⟨mkaLive live.westLane { MkaPort.init with sessions := [{ MkaSession.init with saks := [⟨3, 2, []⟩] }], txPn := 7 }
  |> put 0x4001 1 0 4, live.westLane, 3, 2, 5, by decide +kernel⟩
theorem witness_MacsecKeysComeAndGo_19 : ∃ (s : State) (p an key : Nat), s.operating = true ∧ (s.mkaPort
    p).pendingTx = some (an, key) ∧ (s.mkaPort p).pendingIn ≠ s.cycle ∧ p < 258 ∧ an < 4 ∧ s.room 1 := by
  refine ⟨mkaLive 32 { MkaPort.init with pendingTx := some (3, 2), pendingIn := 8 } |> put 0x4001 6 0 9, 32, 3, 2, ?_⟩
  repeat' apply And.intro
  all_goals first | decide +kernel
theorem witness_MacsecKeysComeAndGo_20 : ∃ (s : State) (p : Nat), s.operating = true ∧ (s.kiln.mka.get? p).isSome
    = true ∧ s.after (s.mkaPort p).lastWrite (nsUnits (s.n 0xA032 0)) = true :=
  ⟨mkaLive 32 { MkaPort.init with rxSas := [(5, 3, 1)], lastWrite := nsUnits 1 } |> put 0xA032 0 0 5 |> onCanopy (fun
  k => { k with counter := 1000000000000 }), 32, by decide +kernel⟩
theorem witness_FaultsClearAndDiagnose_1 : ∃ (s : State) (cls inst : Nat), (s.power.state = .active ∨
    s.power.state = .idle) ∧ s.clearable cls = [inst] ∧ s.room 2 := by
  refine ⟨live |> put 0xB001 2 3 1 |> onFaults (fun f =>
  { f with instances := f.instances.set (faultKey 3 5) { FaultInstance.init with lasting := true } }), 3, 5, ?_⟩
  repeat' apply And.intro
  all_goals first | decide +kernel
theorem witness_FaultsClearAndDiagnose_2 : ∃ (s : State) (p : Nat) (wireP wireN : Int) (r cp cn c : Nat),
    s.operating = true ∧ isPort p = true ∧ isBB p = false ∧ s.on 0xB040 1 p = true ∧ 1 ≤ c ∧ c ≤ 4 ∧ ([1, 2, 3, 4].map
    (fun d => mdiMeets d wireP wireN r cp cn) = [1, 2, 3, 4].map (fun d => decide (d = c))) ∧ (s.mdi p).declared = []
    ∧ mdiSamples c ≤ (s.mdi p).meet.getD (c - 1) 0 + 1 ∧ s.portOn p 1 1 = false ∧ s.n 0xA020 5 p ≠ 0 ∧ s.staysAsItIs
    (2 + c) p = true ∧ s.room 4 := by
  refine ⟨live |> put 0xB040 1 4 1 |> put 0xA020 5 4 1 |> onFaults (fun f =>
  { f with mdi := f.mdi.set 4 { meet := [0, 0, 2, 0], miss := [0, 0, 0, 0], declared := [] } }), 4, 1000, 1000, 10,
  100, 100, 3, ?_⟩
  repeat' apply And.intro
  all_goals first | decide +kernel
theorem witness_FaultsClearAndDiagnose_3 : ∃ (s : State) (p : Nat) (wireP wireN : Int) (r cp cn c : Nat),
    s.operating = true ∧ isPort p = true ∧ isBB p = false ∧ s.on 0xB040 1 p = true ∧ 1 ≤ c ∧ c ≤ 4 ∧ ([1, 2, 3, 4].map
    (fun d => mdiMeets d wireP wireN r cp cn) = [1, 2, 3, 4].map (fun d => decide (d = c))) ∧ (s.mdi p).declared = []
    ∧ mdiSamples c ≤ (s.mdi p).meet.getD (c - 1) 0 + 1 ∧ s.portOn p 1 1 = false ∧ s.n 0xA020 5 p ≠ 0 ∧ s.staysAsItIs
    (2 + c) p = true ∧ s.room 4 := by
  refine ⟨live |> put 0xB040 1 4 1 |> put 0xA020 5 4 1 |> onFaults (fun f =>
  { f with mdi := f.mdi.set 4 { meet := [0, 0, 0, 2], miss := [0, 0, 0, 0], declared := [] } }), 4, 1000, 1000, 30,
  100, 1001, 4, ?_⟩
  repeat' apply And.intro
  all_goals first | decide +kernel
theorem witness_FaultsClearAndDiagnose_4 : ∃ (s : State) (p : Nat) (wireP wireN : Int) (r cp cn : Nat),
    s.operating = true ∧ isPort p = true ∧ isBB p = false ∧ s.on 0xB040 1 p = true ∧ ([1, 2, 3, 4].any (fun d =>
    mdiMeets d wireP wireN r cp cn) = false) ∧ (s.mdi p).declared = [4] ∧ 9 ≤ (s.mdi p).miss.getD 3 0 ∧ s.room 1 := by
  refine ⟨live |> put 0xB040 1 4 1 |> onFaults (fun f =>
  { f with mdi := f.mdi.set 4 { meet := [0, 0, 0, 0], miss := [9, 9, 9, 9], declared := [4] } }), 4, 1000, 1000, 30,
  100, 100, ?_⟩
  repeat' apply And.intro
  all_goals first | decide +kernel
theorem witness_FaultsClearAndDiagnose_5 : ∃ (s : State) (p : Nat), s.operating = true ∧ isPort p = true ∧ isBB p
    = false ∧ s.on 0xB040 2 p = true ∧ s.staysAsItIs 7 p = true ∧ s.room 2 := by
  refine ⟨live |> put 0xB040 2 4 1, 4, ?_⟩
  repeat' apply And.intro
  all_goals first | decide +kernel
theorem witness_FaultsClearAndDiagnose_6 : ∃ (s : State) (p : Nat), s.operating = true ∧ isPort p = true ∧ isBB p
    = false ∧ s.on 0xB040 2 p = false ∧ s.room 1 := by
  refine ⟨live |> put 0xB040 2 4 0, 4, ?_⟩
  repeat' apply And.intro
  all_goals first | decide +kernel
theorem witness_FaultsClearAndDiagnose_7 : ∃ (s : State) (p kind distance : Nat), s.operating = true ∧ p < 384 ∧
    kind < 256 ∧ distance < 65536 ∧ s.faults.tdr = some p ∧ s.power.throttled = false ∧ s.room 1 := by
  refine ⟨live |> onFaults (fun f => { f with tdr := some 4 }), 4, 2, 31, ?_⟩
  repeat' apply And.intro
  all_goals first | decide +kernel
theorem witness_FaultsClearAndDiagnose_8 : ∃ (s : State) (g m : Nat), (s.power.state = .active ∨ s.power.state =
    .idle) ∧ g < 8 ∧ s.staysAsItIs 14 g = true ∧ s.room 2 := by
  refine ⟨live, 3, 2, ?_⟩
  repeat' apply And.intro
  all_goals first | decide +kernel
theorem witness_FaultsClearAndDiagnose_9 : ∃ (s : State) (g m : Nat), (s.power.state = .active ∨ s.power.state =
    .idle) ∧ g < 8 ∧ s.staysAsItIs 15 g = true ∧ s.room 2 := by
  refine ⟨live |> put 0xB000 1 15 3, 3, 2, ?_⟩
  repeat' apply And.intro
  all_goals first | decide +kernel
theorem witness_FaultsClearAndDiagnose_10 : ∃ (s : State) (m : Nat), (s.power.state = .active ∨ s.power.state =
    .idle) ∧ s.staysAsItIs 14 8 = true ∧ s.room 2 := by
  refine ⟨live, 3, ?_⟩
  repeat' apply And.intro
  all_goals first | decide +kernel
theorem witness_FaultsClearAndDiagnose_11 : ∃ (s : State) (m : Nat), (s.power.state = .active ∨ s.power.state =
    .idle) ∧ s.staysAsItIs 15 8 = true ∧ s.room 2 := by
  refine ⟨live |> put 0xB000 1 15 3, 3, ?_⟩
  repeat' apply And.intro
  all_goals first | decide +kernel
theorem witness_SupplyTemperatureAndCanopySignals_1 : ∃ (s : State) (v : Nat), (s.power.state = .active ∨
    s.power.state = .idle) ∧ s.power.supplyWarned = false ∧ s.staysAsItIs 20 0 = true ∧ s.room 2 ∧ v < 3500 := by
  refine ⟨live, 3490, ?_⟩
  repeat' apply And.intro
  all_goals first | decide +kernel
theorem witness_SupplyTemperatureAndCanopySignals_2 : ∃ (s : State) (v : Nat), (s.power.state = .active ∨
    s.power.state = .idle) ∧ s.power.supplyWarned = false ∧ s.staysAsItIs 20 0 = true ∧ s.room 2 ∧ v < 3500 := by
  refine ⟨live |> put 0xB060 2 0 2, 3490, ?_⟩
  repeat' apply And.intro
  all_goals first | decide +kernel
theorem witness_SupplyTemperatureAndCanopySignals_3 : ∃ (s : State) (v : Nat), (s.power.state = .active ∨
    s.power.state = .idle) ∧ s.power.supplyWarned = true ∧ s.room 1 ∧ 3600 ≤ v := by
  refine ⟨live |> put 0xB060 2 0 1 |> onPower (fun w => { w with supplyWarned := true }), 3610, ?_⟩
  repeat' apply And.intro
  all_goals first | decide +kernel
theorem witness_SupplyTemperatureAndCanopySignals_4 : ∃ (s : State) (v : Nat), (s.power.state = .active ∨
    s.power.state = .idle) ∧ s.power.supplyWarned = true ∧ s.room 1 ∧ 3600 ≤ v := by
  refine ⟨live |> put 0xB060 2 0 2 |> onPower (fun w => { w with supplyWarned := true }), 3610, ?_⟩
  repeat' apply And.intro
  all_goals first | decide +kernel
theorem witness_SupplyTemperatureAndCanopySignals_5 : ∃ (s : State) (v : Nat), (s.power.state = .active ∨
    s.power.state = .idle) ∧ s.n 0xB060 2 ≠ 2 ∧ s.room 1 ∧ 7500 < v := by
  refine ⟨live, 7600, ?_⟩
  repeat' apply And.intro
  all_goals first | decide +kernel
theorem witness_SupplyTemperatureAndCanopySignals_6 : ∃ (s : State), (s.power.state = .active ∨ s.power.state =
    .idle) ∧ s.n 0xB060 2 = 2 :=
  ⟨live |> put 0xB060 2 0 2, by decide +kernel⟩
theorem witness_SupplyTemperatureAndCanopySignals_7 : ∃ (s : State), (s.power.state = .active ∨ s.power.state =
    .idle) ∧ s.n 0xB060 2 = 2 :=
  ⟨live |> put 0xB060 2 0 2 |> onPower (fun w => { w with supplyWarned := true }), by decide +kernel⟩
theorem witness_SupplyTemperatureAndCanopySignals_8 : ∃ (s : State) (sensor : Nat) (t' : Int), (s.power.state =
    .active ∨ s.power.state = .idle) ∧ sensor < 12 ∧ s.n 0xB071 0 = 0 ∧ s.staysAsItIs 21 0 = true ∧ s.room 2 ∧ 420 ≤
    t' := by
  refine ⟨live, 3, 420, ?_⟩
  repeat' apply And.intro
  all_goals first | decide +kernel
theorem witness_SupplyTemperatureAndCanopySignals_9 : ∃ (s : State) (sensor : Nat) (t' : Int), (s.power.state =
    .active ∨ s.power.state = .idle) ∧ sensor < 12 ∧ s.n 0xB071 0 ≠ 2 ∧ 460 ≤ t' ∧ s.staysAsItIs 21 0 = true ∧ s.room
    3 := by
  refine ⟨live, 3, 460, ?_⟩
  repeat' apply And.intro
  all_goals first | decide +kernel
theorem witness_SupplyTemperatureAndCanopySignals_10 : ∃ (s : State), (s.power.state = .active ∨ s.power.state =
    .idle) ∧ s.n 0xB071 0 = 2 :=
  ⟨live |> put 0xB071 0 0 2, by decide +kernel⟩
theorem witness_SupplyTemperatureAndCanopySignals_11 : ∃ (s : State), s.power.state ≠ .dormant ∧ s.power.state ≠
    .off ∧ (s.n 0x2230 3 = 1 ∨ s.n 0x2230 3 = 3) ∧ s.room 1 := by
  refine ⟨live |> put 0x2230 3 0 1, ?_⟩
  repeat' apply And.intro
  all_goals first | decide +kernel
theorem witness_SupplyTemperatureAndCanopySignals_12 : ∃ (s : State), s.power.state = .dormant ∧ s.n 0x2230 3 = 1
    :=
  ⟨live |> put 0x2230 3 0 1 |> onPower fun w => { w with state := .dormant }, by decide +kernel⟩
theorem witness_SupplyTemperatureAndCanopySignals_13 : ∃ (s : State), (s.power.state = .active ∨ s.power.state =
    .idle) ∧ s.n 0x2230 3 = 2 ∧ s.after s.power.auxSince (nsUnits 100000000) = true :=
  ⟨live |> put 0x2230 3 0 2 |> onCanopy (fun k => { k with counter := 1000000000000 }), by decide +kernel⟩
theorem witness_SupplyTemperatureAndCanopySignals_14 : ∃ (s : State), (s.power.state = .active ∨ s.power.state =
    .idle) ∧ s.n 0x2230 3 = 2 ∧ s.after s.power.auxSince (nsUnits 100000000) = true :=
  ⟨live |> put 0x2230 3 0 2 |> onCanopy (fun k => { k with counter := 1000000000000 }), by decide +kernel⟩
theorem witness_SupplyTemperatureAndCanopySignals_15 : ∃ (s : State), (s.power.state = .active ∨ s.power.state =
    .idle) ∧ s.n 0x2230 3 = 1 ∧ s.room 1 := by
  refine ⟨live |> put 0x2230 3 0 1, ?_⟩
  repeat' apply And.intro
  all_goals first | decide +kernel
theorem witness_SupplyTemperatureAndCanopySignals_16 : ∃ (s : State), (s.power.state = .active ∨ s.power.state =
    .idle) ∧ s.power.auxFaulty = true ∧ (s.n 0x2230 3 = 1 ∨ s.n 0x2230 3 = 3) ∧ s.after s.power.auxSince (nsUnits
    10000000) = true ∧ s.room 1 := by
  refine ⟨live |> put 0x2230 3 0 1 |> onCanopy (fun k => { k with counter := 1000000000000 }) |> onPower fun w =>
  { w with auxFaulty := true }, ?_⟩
  repeat' apply And.intro
  all_goals first | decide +kernel
theorem witness_SupplyTemperatureAndCanopySignals_17 : ∃ (s : State), s.power.state ≠ .off ∧ s.n 0x3700 1 = 0 ∧
    s.n 0x2250 1 = 1 :=
  ⟨live |> put 0x2250 1 0 1, by decide +kernel⟩
theorem witness_SupplyTemperatureAndCanopySignals_18 : ∃ (s : State), s.power.state ≠ .off ∧ s.n 0x2250 1 = 0 :=
  ⟨live |> put 0x2250 1 0 0, by decide +kernel⟩
theorem witness_SupplyTemperatureAndCanopySignals_19 : ∃ (s : State) (k : Nat), s.events.raised = [] ∧
    s.events.lost = k ∧ 0 < k ∧ s.events.backlog < 1032 :=
  ⟨{ live with events := { live.events with lost := 5 } }, 5, by decide +kernel⟩
theorem witness_SnapshotsAndDumps_1 : ∃ (s : State), s.operating = true ∧ s.snapshotDue = true ∧ s.reader.writing
    = none ∧ s.n 0xC000 3 ≠ 0xFF ∧ (s.function (s.n 0xC000 3)).dumpBase ≠ 0 ∧ s.mayWrite (s.n 0xC000 3) = true ∧ 8 ≤
    (s.function (s.n 0xC000 3)).maxPayload ∧ s.dumpSlot s.reader.nextSequence % 4096 ≤ 4088 :=
  ⟨live |> onReader (fun r => { r with frozen := some [] }) |> put 0xC000 1 0 1 |> put 0xC000 3 0 1 |> put 0xC000 4 0
  0 |> put 0xC000 5 0 0 |> onHost (fun h =>
  { h with functions := h.functions.set 1 { Function.init with dumpBase := 4096, busMaster := true } }),
  by decide +kernel⟩
theorem witness_SnapshotsAndDumps_2 : ∃ (s : State), s.operating = true ∧ s.snapshotDue = true ∧
    s.reader.writing.isSome = true ∧ s.room 1 := by
  refine ⟨live |> onReader (fun r => { r with frozen := some [] }) |> put 0xC000 1 0 1 |> onReader fun r =>
  { r with writing := some (1, 4096, 5, 72) }, ?_⟩
  repeat' apply And.intro
  all_goals first | decide +kernel
theorem witness_SnapshotsAndDumps_3 : ∃ (s : State), s.operating = true ∧ s.snapshotDue = true ∧ s.reader.writing
    = none ∧ s.n 0xC000 3 = 0xFF :=
  ⟨live |> onReader (fun r => { r with frozen := some [] }) |> put 0xC000 1 0 1 |> put 0xC000 3 0 255,
  by decide +kernel⟩
theorem witness_SnapshotsAndDumps_4 : ∃ (s : State) (fn at' seq len : Nat), s.operating = true ∧ s.reader.writing
    = some (fn, at', seq, len) ∧ s.mayWrite fn = true ∧ 8 ≤ (s.function fn).maxPayload ∧ at' % 4096 ≤ 4088 :=
  ⟨live |> onReader (fun r => { r with writing := some (1, 4096, 5, 72) }) |> onHost (fun h =>
  { h with functions := h.functions.set 1 { Function.init with busMaster := true } }), 1, 4096, 5, 72,
  by decide +kernel⟩
theorem witness_SnapshotsAndDumps_5 : ∃ (s : State) (fn : Nat), s.operating = true ∧ s.snapshotDue = true ∧
    s.grantedFunctions = [fn] :=
  ⟨live |> put 0xC002 1 8 10240 |> put 0xC002 2 8 3 |> onReader (fun r => { r with frozen := some [(10241, 5)] }) |>
  put 0xC000 1 0 1, 1, by decide +kernel⟩
theorem witness_PowerStatesWakesAndShutdown_1 : ∃ (s : State), s.power.state = .active ∧ 4 ≤ s.power.stage ∧
    s.power.idlePending = true ∧ s.power.dormantPending = false ∧ s.requestDue = true :=
  ⟨live |> put 0x4001 1 0 2 |> onPower fun w => { w with idlePending := true, requestCycle := 5 }, by decide +kernel⟩
theorem witness_PowerStatesWakesAndShutdown_2 : ∃ (s : State), s.power.state = .idle ∧ s.power.dormantPending =
    true ∧ s.requestDue = true :=
  ⟨live |> onPower (fun w => { w with state := .idle, dormantPending := true }) |> at16 123456789 |> onCanopy (fun k
  => { k with counter := 1000000000000 }), by decide +kernel⟩
theorem witness_PowerStatesWakesAndShutdown_3 : ∃ (s : State), s.power.state = .active ∧ 4 ≤ s.power.stage ∧
    s.power.dormantPending = true ∧ s.requestDue = true :=
  ⟨live |> onPower (fun w => { w with dormantPending := true, requestCycle := 5 }) |> at16 123456789,
  by decide +kernel⟩
theorem witness_PowerStatesWakesAndShutdown_4 : ∃ (s : State), s.power.state = .idle ∧ s.on 0x2220 1 = true ∧
    s.power.wakePending = false :=
  ⟨live |> put 0x2220 1 0 1 |> onPower fun w => { w with state := .idle }, by decide +kernel⟩
theorem witness_PowerStatesWakesAndShutdown_5 : ∃ (s : State), s.power.state = .dormant ∧ s.on 0x2220 1 = true ∧
    s.power.brownOut = false ∧ s.power.thermalStop = false :=
  ⟨live |> put 0x2220 1 0 1 |> put 0x2220 5 0 1 |> onPower fun w => { w with state := .dormant }, by decide +kernel⟩
theorem witness_PowerStatesWakesAndShutdown_6 : ∃ (s : State) (p : Nat), s.power.state = .idle ∧ isPort p = true ∧
    isBB p = false ∧ maskBit (s.obj 0x2220 4) p = true ∧ s.power.wakePending = false :=
  ⟨live |> put 0x2220 4 0 16 |> onPower (fun w => { w with state := .idle }), 4, by decide +kernel⟩
theorem witness_PowerStatesWakesAndShutdown_7 : ∃ (s : State), s.power.state = .idle ∧ s.canopy.wakeArmed = true ∧
    s.n 0x2220 3 ≤ s.keptTime ∧ s.power.wakePending = false :=
  ⟨live |> put 0x2220 3 0 9 |> at16 10 |> onCanopy (fun k => { k with wakeArmed := true, counter := 99 }) |> onPower
  fun w => { w with state := .idle }, by decide +kernel⟩
theorem witness_PowerStatesWakesAndShutdown_8 : ∃ (s : State), s.power.state = .idle ∧ s.power.wakePending = true
    :=
  ⟨live |> onPower fun w => { w with state := .idle, wakePending := true }, by decide +kernel⟩
theorem witness_PowerStatesWakesAndShutdown_9 : ∃ (s : State) (v : Nat), (s.power.state = .active ∨ s.power.state
    = .idle) ∧ v < 3200 ∧ s.power.brownOut = false ∧ s.power.thermalStop = false :=
  ⟨live |> at16 99, 3100, by decide +kernel⟩
theorem witness_PowerStatesWakesAndShutdown_10 : ∃ (s : State), s.power.brownOut = true ∧ s.power.thermalStop =
    false ∧ s.power.state = .dormant :=
  ⟨live |> onPower fun w => { w with state := .dormant, brownOut := true }, by decide +kernel⟩
theorem witness_PowerStatesWakesAndShutdown_11 : ∃ (s : State) (sensor : Nat) (temp : Int), (s.power.state =
    .active ∨ s.power.state = .idle) ∧ 500 ≤ temp :=
  ⟨live |> at16 99, 3, 500, by decide +kernel⟩
theorem witness_PowerStatesWakesAndShutdown_12 : ∃ (s : State) (temp : Int), s.power.thermalStop = true ∧
    s.power.state = .dormant ∧ s.power.brownOut = false ∧ temp < 400 :=
  ⟨live |> onPower (fun w => { w with state := .dormant, thermalStop := true }), 380, by decide +kernel⟩
theorem witness_PowerStatesWakesAndShutdown_13 : ∃ (s : State) (temp : Int), (s.power.state = .active ∨
    s.power.state = .idle) ∧ s.power.thermalStop = false ∧ s.n 0xB071 0 ≠ 0 ∧ s.room 1 ∧ temp < 400 := by
  refine ⟨live |> put 0xB071 0 0 2, 399, ?_⟩
  repeat' apply And.intro
  all_goals first | decide +kernel
theorem witness_WakeAbortsDormantEntry_1 : ∃ (s : State), s.power.state = .active ∧ s.power.dormantPending = true
    ∧ s.on 0x2220 1 = true :=
  ⟨live |> put 0x2220 1 0 1 |> onPower fun w => { w with dormantPending := true }, by decide +kernel⟩
theorem witness_WakeAbortsDormantEntry_2 : ∃ (s : State), s.power.state = .active ∧ s.power.dormantPending = true
    ∧ s.canopy.wakeArmed = true ∧ s.n 0x2220 3 ≤ s.keptTime :=
  ⟨live |> put 0x2220 3 0 9 |> at16 10 |> onCanopy (fun k => { k with wakeArmed := true, counter := 99 }) |> onPower
  fun w => { w with dormantPending := true }, by decide +kernel⟩
theorem witness_WakeAbortsDormantEntry_3 : ∃ (s : State) (p : Nat), s.power.state = .active ∧
    s.power.dormantPending = true ∧ isPort p = true ∧ isBB p = false ∧ maskBit (s.obj 0x2220 4) p = true :=
  ⟨live |> put 0x2220 4 0 16 |> onPower (fun w => { w with dormantPending := true }), 4, by decide +kernel⟩
theorem witness_WakeAbortsDormantEntry_4 : ∃ (s : State), s.power.state = .idle ∧ s.power.dormantPending = true ∧
    s.on 0x2220 1 = true :=
  ⟨live |> put 0x2220 1 0 1 |> onPower fun w => { w with state := .idle, dormantPending := true }, by decide +kernel⟩
theorem witness_WakeAbortsDormantEntry_5 : ∃ (s : State), s.power.state = .idle ∧ s.power.dormantPending = true ∧
    s.canopy.wakeArmed = true ∧ s.n 0x2220 3 ≤ s.keptTime :=
  ⟨live |> put 0x2220 3 0 9 |> at16 10 |> onCanopy (fun k => { k with wakeArmed := true, counter := 99 }) |> onPower
  fun w => { w with state := .idle, dormantPending := true }, by decide +kernel⟩
theorem witness_WakeAbortsDormantEntry_6 : ∃ (s : State) (p : Nat), s.power.state = .idle ∧ s.power.dormantPending
    = true ∧ isPort p = true ∧ isBB p = false ∧ maskBit (s.obj 0x2220 4) p = true :=
  ⟨live |> put 0x2220 4 0 16 |> onPower (fun w => { w with state := .idle, dormantPending := true }), 4,
  by decide +kernel⟩
theorem witness_WakeAbortsDormantEntry_7 : ∃ (s : State), s.power.state = .idle ∧ s.power.wakePending = true :=
  ⟨live |> onPower fun w => { w with state := .idle, wakePending := true }, by decide +kernel⟩
theorem witness_WakeAbortsDormantEntry_8 : ∃ (s : State), s.power.state = .dormant ∧ s.power.brownOut = false ∧
    s.power.thermalStop = false ∧ s.on 0x2220 1 = true :=
  ⟨live |> put 0x2220 1 0 1 |> onPower fun w => { w with state := .dormant }, by decide +kernel⟩
theorem witness_WakeAbortsDormantEntry_9 : ∃ (s : State), s.power.state = .dormant ∧ s.power.brownOut = false ∧
    s.power.thermalStop = false ∧ s.canopy.wakeArmed = true ∧ s.n 0x2220 3 ≤ s.keptTime :=
  ⟨live |> put 0x2220 3 0 9 |> at16 10 |> onCanopy (fun k => { k with wakeArmed := true, counter := 99 }) |> onPower
  fun w => { w with state := .dormant }, by decide +kernel⟩
theorem witness_WakeAbortsDormantEntry_10 : ∃ (s : State) (p : Nat), s.power.state = .dormant ∧ s.power.brownOut =
    false ∧ s.power.thermalStop = false ∧ isPort p = true ∧ isBB p = false ∧ maskBit (s.obj 0x2220 4) p = true :=
  ⟨live |> put 0x2220 4 0 16 |> onPower (fun w => { w with state := .dormant }), 4, by decide +kernel⟩
theorem witness_GrovesAndBringUp_1 : ∃ (s : State) (g : Nat), s.operating = true ∧ g < 8 ∧ s.groveOn g = true ∧
    s.effectivePolicy s.mode g = 1 ∧ s.groveBusy g = false ∧ (s.busySpans s.mode g).any (s.spanInForce g) = false ∧
    s.nextSpan g = none :=
  ⟨live |> put 0x2100 1 2 1, 2, by decide +kernel⟩
theorem witness_GrovesAndBringUp_2 : ∃ (s : State) (g next : Nat), s.operating = true ∧ g < 8 ∧ s.groveOn g = true
    ∧ s.effectivePolicy s.mode g = 1 ∧ s.groveBusy g = false ∧ (s.busySpans s.mode g).any (s.spanInForce g) = false ∧
    s.nextSpan g = some next ∧ s.now + nsUnits (s.n 0x2100 3 g) < next :=
  ⟨live |> put 0x2100 1 2 1 |> put 0x2100 2 2 20000 |> put 0x2100 3 2 40000 |> put 0x7120 1 0 1 |> put 0x7120 3 0
  500000 |> put 0x7120 4 0 100 |> put 0x7010 2 256 65535, 2, 32768000000, by decide +kernel⟩
theorem witness_GrovesAndBringUp_3 : ∃ (s : State) (g : Nat), s.operating = true ∧ g < 8 ∧ (s.grove g).state = 0 ∧
    (((s.grove g).nextWake.any fun u => decide (u ≤ s.now)) = true) :=
  ⟨live |> at16 78 |> onPower (fun w => { w with groves := w.groves.set 2 ⟨0, 0, some 77, [], [], false, 0, false⟩ }),
  2, by decide +kernel⟩
theorem witness_GrovesAndBringUp_4 : ∃ (s : State) (p : Nat), s.operating = true ∧ isPort p = true ∧ isBB p =
    false ∧ (s.grove (groveOf p)).state = 0 :=
  ⟨live |> onPower (fun w => { w with groves := w.groves.set 2 ⟨0, 0, some 77, [], [], false, 0, false⟩ }), 65,
  by decide +kernel⟩
theorem witness_GrovesAndBringUp_5 : ∃ (s : State) (g : Nat), s.operating = true ∧ g < 8 ∧ (s.grove g).state = 1 ∧
    (s.grove g).wakeBuffer = [] ∧ (s.grove g).owed = [] ∧ (s.grove g).restarting = false ∧ s.after (s.grove g).wokenAt
    (nsUnits 15000) = true :=
  ⟨live |> onCanopy (fun k => { k with counter := 1000000000000 }) |> onPower (fun w =>
  { w with groves := w.groves.set 2 ⟨1, 0, none, [], [], false, 0, false⟩ }), 2, by decide +kernel⟩
theorem witness_GrovesAndBringUp_6 : ∃ (s : State), s.power.state = .off :=
  ⟨live |> onPower fun w => { w with state := .off }, by decide +kernel⟩
theorem witness_GrovesAndBringUp_7 : ∃ (s : State) (stkpos : Nat) (mode sris : Bool), s.power.state = .active ∧
    s.power.stage = 0 :=
  ⟨State.reset, 2, true, false, by decide +kernel⟩
theorem witness_GrovesAndBringUp_8 : ∃ (s : State) (slot : Nat) (rest : List Nat), s.power.state = .active ∧
    s.power.stage = 1 ∧ s.kiln.state = .booting ∧ s.slotOrder = slot :: rest ∧ s.otp.debugOpened = false :=
  ⟨State.reset |> onPower (fun w => { w with stage := 1 }), 0, [1], by decide +kernel⟩
theorem witness_GrovesAndBringUp_9 : ∃ (s : State) (slot : Nat), s.power.state = .active ∧ s.power.stage = 1 ∧
    s.kiln.state = .booting ∧ s.slotOrder = [slot] ∧ s.slotValid slot = false :=
  ⟨State.reset |> onPower (fun w => { w with stage := 1 }) |> onKiln (fun k => { k with slotsTried := [0] }) |>
  onFlash (fun f => { f with validB := false }), 1, by decide +kernel⟩
theorem witness_GrovesAndBringUp_10 : ∃ (s : State), s.power.state = .active ∧ s.power.stage = 2 :=
  ⟨live |> onPower fun w => { w with stage := 2 }, by decide +kernel⟩
theorem witness_GrovesAndBringUp_11 : ∃ (s : State), s.power.state = .active ∧ s.power.stage = 3 :=
  ⟨live |> onPower fun w => { w with stage := 3 }, by decide +kernel⟩
theorem witness_GrovesAndBringUp_12 : ∃ (s : State), s.power.state = .active ∧ s.power.stage = 4 ∧
    s.canopy.shutdownDue = true ∧ s.canopy.thermalTrip = none ∧ s.canopy.auxFault = false ∧ s.room 2 ∧
    (s.power.stageCycle ≠ s.cycle ∨ s.after s.power.stageSince (nsUnits 1000000) = true) := by
  refine ⟨live |> onPower (fun w => { w with stage := 4, stageCycle := 9 }) |> onCanopy fun k =>
  { k with shutdown := some (1, 9), shutdownDue := true }, ?_⟩
  repeat' apply And.intro
  all_goals first | decide +kernel
theorem witness_GrovesAndBringUp_13 : ∃ (s : State), s.power.state = .active ∧ s.power.stage = 4 ∧
    s.canopy.shutdownDue = false ∧ s.canopy.wakeLog.head?.map WakeRecord.cause = some 5 ∧ s.canopy.thermalTrip = none
    ∧ s.canopy.auxFault = false ∧ s.room 2 ∧ (s.power.stageCycle ≠ s.cycle ∨ s.after s.power.stageSince (nsUnits
    1000000) = true) := by
  refine ⟨live |> onPower fun w => { w with stage := 4, stageCycle := 9 }, ?_⟩
  repeat' apply And.intro
  all_goals first | decide +kernel
theorem witness_GrovesAndBringUp_14 : ∃ (s : State), s.resettable = true ∧ s.power.state = .active :=
  ⟨live |> at16 99, by decide +kernel⟩
theorem witness_GrovesAndBringUp_15 : ∃ (s : State), ((s.power.resetDue.any fun u => decide (u ≤ s.elapsed)) =
    true) ∧ s.power.state = .active :=
  ⟨live |> onPower fun w => { w with resetDue := some 0 }, by decide +kernel⟩
theorem witness_GrovesAndBringUp_16 : ∃ (s : State), s.operating = true :=
  ⟨live |> onOd fun d => { d with controllerDown := true }, by decide +kernel⟩
theorem witness_GrovesAndBringUp_17 : ∃ (s : State) (e : Nat), s.operating = true ∧ (s.engine e).restarting = true
    :=
  ⟨live |> onMessages (fun m => { m with engines := m.engines.set 3 { Engine.init with restarting := true } }), 3,
  by decide +kernel⟩
theorem witness_GrovesAndBringUp_18 : ∃ (s : State) (p : Nat), s.operating = true ∧ s.portEnabled p = true ∧
    s.segmentPort p = true ∧ s.segState p = segOff ∧ s.room 1 := by
  refine ⟨live |> putPort 4 0 1 0 1 |> putPort 4 0 2 0 1, 4, ?_⟩
  repeat' apply And.intro
  all_goals first | decide +kernel
theorem witness_GrovesAndBringUp_19 : ∃ (s : State) (g : Nat), s.operating = true ∧ g < 8 ∧ (s.grove g).state = 1
    ∧ (s.grove g).wakeBuffer = [] ∧ (s.grove g).owed = [] ∧ (s.grove g).restarting = true :=
  ⟨live |> onPower (fun w => { w with groves := w.groves.set 2 ⟨1, 0, none, [], [], false, 0, true⟩ }), 2,
  by decide +kernel⟩


end Sys2Proof.Tests
end

/-! # CycleLength (R85)

O12 speaks of every WRITE that `takesWrite` admits. That predicate does not ask whether the channel is served, and the channel of
the image from flash is served at S3 only (R43, R53): at any other stage its record does nothing and gets no answer, which refutes
the statement. For a channel that is served the statement holds; `cycleLength_isFitted_of_served` proves it in that form. -/

namespace Sys2Proof.Machine

/-! ## What a WRITE record does, by its channel -/

theorem exec_write_eq_done (chan : Chan) (target : Target) (value : WriteData) (s : State) :
    exec (.write chan target value) s = done (answering chan (serveCycle (.write chan target value.bytes :: value.also))) s := by
  rfl

/-- A channel that is not served at the stage changes nothing (R43). -/
theorem answering_run_unserved {s : State} {chan : Chan} (h : s.serves chan = false) (e : Eff) :
    (answering chan e).run s = s := by
  unfold answering
  rw [Eff.run_whenS]
  simp [h]

theorem exec_write_unserved_out {s t : State} {chan : Chan} {target : Target} {value : WriteData}
    (h : s.serves chan = false) (ht : exec (.write chan target value) s = .next t) : t.out = s.out := by
  rw [exec_write_eq_done] at ht
  cases ht
  rw [Eff.run_seq, answering_run_unserved h, flush_out]

/-! ## The refutation -/

/-- The module after reset at a stage of its bring-up (Table 13.8). -/
def resetAtStage (n : Nat) : State := { State.reset with power := { PowerSide.reset with stage := n } }

theorem image_unserved_at_stage_one : (resetAtStage 1).serves .image = false := rfl

theorem image_takesWrite_at_stage_one : (resetAtStage 1).takesWrite .image 0x4000 4 0 = true := by decide +kernel

/-- Refutes O12: at S1 a record of the image from flash meets `takesWrite`, since no mask and no stage is checked for that
channel (R53), but the channel is not served before S3 (R43), so that no response is emitted. -/
theorem not_cycleLengthIsFitted : ¬ Obligations.CycleLengthIsFitted := by
  unfold Obligations.CycleLengthIsFitted
  intro h
  obtain ⟨t, ht, -, -, -, -, -, -, hresponse⟩ :=
    h (resetAtStage 1) .image 300000 image_takesWrite_at_stage_one (by decide)
  rw [exec_write_unserved_out image_unserved_at_stage_one ht, List.drop_length] at hresponse
  exact absurd hresponse List.not_mem_nil

/-! ## The largest divisor of 10^9 -/

theorem mem_secondDivisors {d : Nat} : d ∈ secondDivisors ↔ d ∣ 1000000000 := by
  have hsplit : (1000000000 : Nat) = 2 ^ 9 * 5 ^ 9 := by decide
  simp only [secondDivisors, List.mem_flatMap, List.mem_map, List.mem_range]
  constructor
  · rintro ⟨a, ha, b, hb, rfl⟩
    rw [hsplit]
    exact Nat.mul_dvd_mul (Nat.pow_dvd_pow 2 (by omega)) (Nat.pow_dvd_pow 5 (by omega))
  · intro h
    rw [hsplit, Nat.dvd_mul] at h
    obtain ⟨x, y, hx, hy, rfl⟩ := h
    obtain ⟨a, ha, rfl⟩ := (Nat.dvd_prime_pow Nat.prime_two).1 hx
    obtain ⟨b, hb, rfl⟩ := (Nat.dvd_prime_pow Nat.prime_five).1 hy
    exact ⟨a, by omega, b, by omega, rfl⟩

theorem foldl_max_eq_or_mem (l : List Nat) (a : Nat) : l.foldl max a = a ∨ l.foldl max a ∈ l := by
  induction l generalizing a with
  | nil => exact .inl rfl
  | cons x l ih =>
    rw [List.foldl_cons]
    rcases ih (max a x) with h | h
    · rw [h]
      rcases max_choice a x with h' | h' <;> simp [h']
    · exact .inr (List.mem_cons_of_mem _ h)

theorem le_foldl_max (l : List Nat) (a : Nat) : a ≤ l.foldl max a ∧ ∀ d ∈ l, d ≤ l.foldl max a := by
  induction l generalizing a with
  | nil => simp
  | cons x l ih =>
    obtain ⟨h1, h2⟩ := ih (max a x)
    rw [List.foldl_cons]
    exact ⟨(le_max_left a x).trans h1, List.forall_mem_cons.2 ⟨(le_max_right a x).trans h1, h2⟩⟩

/-- `L` is the largest divisor of 10^9 not above `v`, and 25,000 where `v` lies below that (R85). -/
structure FitsSecond (v L : Nat) : Prop where
  least : 25000 ≤ L
  divides : L ∣ 1000000000
  notAbove : 25000 ≤ v → L ≤ v
  greatest : ∀ d, d ∣ 1000000000 → d ≤ v → d ≤ L

theorem fitCycleLength_fitsSecond (v : Nat) : FitsSecond v (fitCycleLength v) := by
  set l := secondDivisors.filter fun d => d ≤ v && 25000 ≤ d with hl
  have hmem : ∀ d, d ∈ l ↔ d ∣ 1000000000 ∧ d ≤ v ∧ 25000 ≤ d := fun d => by
    simp [hl, mem_secondDivisors]
  obtain ⟨hle, hall⟩ := le_foldl_max l 25000
  refine ⟨hle, ?_, fun hv => ?_, fun d hd hdv => ?_⟩
  · rcases foldl_max_eq_or_mem l 25000 with h | h
    · show l.foldl max 25000 ∣ _
      rw [h]
      decide
    · exact ((hmem _).1 h).1
  · rcases foldl_max_eq_or_mem l 25000 with h | h
    · exact h.trans_le hv
    · exact ((hmem _).1 h).2.1
  · by_cases h : 25000 ≤ d
    · exact hall d ((hmem d).2 ⟨hd, hdv, h⟩)
    · exact (Nat.le_of_not_le h).trans hle

/-- What becomes of a written CycleLength: the range of the object (R46), then R85. -/
def fittedCycleLength (v : Nat) : Nat := fitCycleLength (clampInt 25000 100000000 v).toNat

theorem fittedCycleLength_spec (v : Nat) : 25000 ≤ fittedCycleLength v ∧ fittedCycleLength v ≤ 100000000 ∧
    1000000000 % fittedCycleLength v = 0 ∧ (25000 ≤ v → fittedCycleLength v ≤ v) ∧
    ∀ d, 1000000000 % d = 0 → d ≤ 100000000 → d ≤ v → d ≤ fittedCycleLength v := by
  obtain ⟨hleast, hdivides, habove, hgreatest⟩ := fitCycleLength_fitsSecond (clampInt 25000 100000000 v).toNat
  have hclamp : (clampInt 25000 100000000 v).toNat = max 25000 (min v 100000000) := by
    unfold clampInt
    split
    · omega
    · split <;> omega
  have hrange := habove (by omega)
  refine ⟨hleast, ?_, Nat.mod_eq_zero_of_dvd hdivides, fun hv => ?_, fun d hd hle hdv => ?_⟩
  · exact hrange.trans (by omega)
  · exact hrange.trans (by omega)
  · exact hgreatest d (Nat.dvd_of_mod_eq_zero hd) (by omega)

/-! ## Bytes of a U32 -/

theorem ofLe_leBytes (n v : Nat) : ofLe (leBytes n v) = v % 256 ^ n := by
  induction n generalizing v with
  | zero => simp [leBytes, ofLe, Nat.mod_one]
  | succ n ih => rw [leBytes, ofLe, ih, BitVec.toNat_ofNat, pow_succ' 256, Nat.mod_mul (a := 256)]

theorem length_leBytes (n v : Nat) : (leBytes n v).length = n := by
  induction n generalizing v with
  | zero => rfl
  | succ n ih => simp [leBytes, ih]

theorem wordOf_wordBytes (big : Bool) (n v : Nat) : wordOf big (wordBytes big n v) = v % 256 ^ n := by
  cases big <;> simp [wordOf, wordBytes, ofBe, beBytes, ofLe_leBytes]

theorem length_wordBytes (big : Bool) (n v : Nat) : (wordBytes big n v).length = n := by
  cases big <;> simp [wordBytes, beBytes, length_leBytes]

theorem valueOf_valueBytes_u32 (big : Bool) {v : Nat} (h : v < 4294967296) :
    valueOf big .u32 (valueBytes big .u32 v) = ((v : Int), false) := by
  have hu : unsignedOf 4 (v : Int) = v := by unfold unsignedOf; omega
  simp only [valueOf, valueBytes, Ty.size, Ty.signed, hu, wordOf_wordBytes]
  rw [Nat.mod_eq_of_lt (by simpa using h)]
  rfl

theorem writeFits_u32 (big : Bool) (v : Int) (i s r : Nat) : writeFits .u32 ⟨i, s, r, 0⟩ (valueBytes big .u32 v) = true := by
  simp [writeFits, valueBytes, length_wordBytes]

/-! ## The checks of the record (R42) -/

/-- The key of CycleLength (Table 4.12), what a record for it addresses, and how. -/
def cycleLengthKey : Key := ⟨0x4000, 0, 4⟩
def cycleLengthAccess : Access := ⟨cycleLengthKey, num .u32 250000 25000 100000000, .rws, 1⟩
abbrev cycleLengthTarget : Target := ⟨0x4000, 4, 0, 0⟩

theorem access_cycleLength : ((objectAt 0x4000).bind fun o => o.access 4 0) = some cycleLengthAccess := rfl

/-- A record that passes the checks is of an index that the stage serves, and addresses a cell of the tables. -/
theorem State.of_locate {s : State} {chan : Chan} {writing exempt : Bool} {t : Target} {x : Access}
    (h : s.locate chan writing exempt t = .inr x) :
    s.stageServes chan writing t.index = true ∧ ((objectAt t.index).bind fun o => o.access t.sub t.row) = some x := by
  unfold State.locate at h
  split at h
  · cases h
  split at h
  · cases h
  next hstage =>
  split at h
  · cases h
  split at h
  · cases h
  next o ho =>
  split at h
  · cases h
  split at h
  · cases h
  next y hy =>
  split at h
  · cases h
  split at h
  · cases h
  cases h
  exact ⟨by simpa using hstage, by rw [ho]; exact hy⟩

theorem of_takesWrite_cycleLength {s : State} {chan : Chan} (h : s.takesWrite chan 0x4000 4 0 = true) :
    s.answers = true ∧ s.od.imageBusy = false ∧ s.locate chan true false cycleLengthTarget = .inr cycleLengthAccess ∧
      s.writeHeld cycleLengthAccess = false := by
  simp only [State.takesWrite, Bool.and_eq_true, Bool.not_eq_true'] at h
  obtain ⟨⟨hanswers, hbusy⟩, hlocate⟩ := h
  cases hl : s.locate chan true false cycleLengthTarget with
  | inl st =>
    rw [hl] at hlocate
    cases hlocate
  | inr x =>
    have hx : x = cycleLengthAccess := Option.some.inj ((State.of_locate hl).2.symm.trans access_cycleLength)
    subst hx
    rw [hl] at hlocate
    exact ⟨hanswers, hbusy, rfl, by simpa using hlocate⟩

/-- Only the image from flash passes the checks without being served: to every other channel CycleLength is there from S5 on. -/
theorem serves_of_takesWrite_cycleLength {s : State} {chan : Chan} (h : s.takesWrite chan 0x4000 4 0 = true)
    (himage : chan = .image → s.power.stage = 3) : s.serves chan = true := by
  obtain ⟨-, -, hlocate, -⟩ := of_takesWrite_cycleLength h
  have hstage : chan ≠ .image → 5 ≤ s.power.stage := fun hc => by
    have hserved := (State.of_locate hlocate).1
    simp only [State.stageServes, Bool.or_eq_true, beq_iff_eq, hc, false_or] at hserved
    by_contra hlt
    simp [Nat.lt_of_not_le hlt] at hserved
  cases chan with
  | image => simpa [State.serves] using himage rfl
  | _ =>
    have := hstage (by simp)
    simp only [State.serves, decide_eq_true_eq]
    omega

theorem admitWrite_cycleLength {s : State} {chan : Chan} (h : s.takesWrite chan 0x4000 4 0 = true) (v : Int) :
    s.admitWrite (plainWrite chan) cycleLengthTarget (valueBytes (bigEndian chan) .u32 v) = .inr cycleLengthAccess := by
  obtain ⟨-, hbusy, hlocate, hheld⟩ := of_takesWrite_cycleLength h
  have hfits : writeFits cycleLengthAccess.cell.ty cycleLengthTarget (valueBytes (bigEndian chan) .u32 v) = true :=
    writeFits_u32 _ _ _ _ _
  have hacc : (cycleLengthAccess.acc == .wo) = false := rfl
  simp [State.admitWrite, plainWrite, hlocate, hbusy, hheld, hfits, hacc]

theorem written_cycleLength (chan : Chan) {v : Nat} (hv : v < 4294967296) :
    valueOf (plainWrite chan).big cycleLengthAccess.cell.ty (valueBytes (bigEndian chan) .u32 v) = ((v : Int), false) :=
  valueOf_valueBytes_u32 _ hv

theorem fitWritten_cycleLength (s : State) (chan : Chan) {v : Nat} (hv : v < 4294967296) :
    s.fitWritten (plainWrite chan) cycleLengthAccess (valueBytes (bigEndian chan) .u32 v) =
      ((fittedCycleLength v : Int), if fittedCycleLength v = v then 0 else 1) := by
  have hown : s.fitOwn cycleLengthAccess.key cycleLengthAccess.cell (v : Int) =
      ((fittedCycleLength v : Int), if (fittedCycleLength v : Int) = v then 0 else 1) := by
    have hrange : rangeOf cycleLengthAccess.key cycleLengthAccess.cell = .nums 25000 100000000 := rfl
    unfold State.fitOwn
    rw [hrange, if_pos (by decide)]
    dsimp only [Rng.fit, fittedCycleLength]
    rfl
  rw [State.fitWritten, written_cycleLength chan hv, hown]
  simp only [Nat.cast_inj]

/-! ## The dependency pass leaves CycleLength (R47, R48) -/

/-- Corrections of a field: each is of the field itself, or switches its row off by the first column. -/
def CorrectsField (k : Key) (l : List (Key × Int × Nat)) : Prop := ∀ f ∈ l, f.1 = k ∨ f.1.sub = 1

@[simp] theorem correctsField_nil (k : Key) : CorrectsField k [] := fun _ h => absurd h List.not_mem_nil
@[simp] theorem correctsField_singleton (k q : Key) (x : Int × Nat) : CorrectsField k [(q, x)] ↔ q = k ∨ q.sub = 1 := by
  simp [CorrectsField]
@[simp] theorem correctsField_become (s : State) (k : Key) (v : Int) : CorrectsField k (s.become k v) := by
  unfold State.become
  split <;> simp
@[simp] theorem correctsField_becomeN (s : State) (k : Key) (v : Nat) : CorrectsField k (s.becomeN k v) :=
  correctsField_become s k v
@[simp] theorem correctsField_become_flag (s : State) (k : Key) (i r : Nat) (v : Int) :
    CorrectsField k (s.become ⟨i, r, 1⟩ v) := by
  unfold State.become
  split <;> simp
@[simp] theorem correctsField_append (k : Key) (a b : List (Key × Int × Nat)) (ha : CorrectsField k a) (hb : CorrectsField k b) :
    CorrectsField k (a ++ b) := fun f h => (List.mem_append.1 h).elim (ha f) (hb f)
@[simp] theorem correctsField_ite (k : Key) (c : Prop) [Decidable c] (a b : List (Key × Int × Nat)) :
    CorrectsField k (if c then a else b) ↔ (c → CorrectsField k a) ∧ (¬c → CorrectsField k b) := by
  split <;> simp [*]
@[simp] theorem correctsField_elim (k : Key) (o : Option Nat) (f : Nat → List (Key × Int × Nat))
    (h : ∀ m, CorrectsField k (f m)) : CorrectsField k (o.elim [] f) := by
  cases o with
  | none => exact correctsField_nil k
  | some m => exact h m

theorem fixRound_correctsField (s : State) (k : Key) : CorrectsField k (s.fixRound k) := by
  unfold State.fixRound
  dsimp only
  split <;> simp

theorem fixSection_correctsField (s : State) (k : Key) : CorrectsField k (s.fixSection k) := by
  unfold State.fixSection
  dsimp only
  split
  · simp
  · split <;> simp

theorem fixPort_correctsField (s : State) (k : Key) : CorrectsField k (s.fixPort k) := by
  unfold State.fixPort
  dsimp only
  split
  case h_5 =>
    split
    case h_1 => split <;> simp
    all_goals simp
  all_goals simp

theorem fixTask_correctsField (s : State) (k : Key) : CorrectsField k (s.fixTask k) := by
  unfold State.fixTask
  dsimp only
  split <;> simp

theorem fixResource_correctsField (s : State) (k : Key) : CorrectsField k (s.fixResource k) := by
  unfold State.fixResource
  simp

theorem constrain_correctsField (s : State) (k : Key) : CorrectsField k (s.constrain k) := by
  unfold State.constrain
  dsimp only
  split <;>
    simp [fixRound_correctsField, fixSection_correctsField, fixPort_correctsField, fixTask_correctsField,
      fixResource_correctsField]

theorem constrain_cycleLength (s : State) : s.constrain cycleLengthKey = [] := rfl

theorem constrain_ne_cycleLength (s : State) (k : Key) : ∀ f ∈ s.constrain k, f.1 ≠ cycleLengthKey := by
  intro f hf he
  rcases constrain_correctsField s k f hf with h | h
  · rw [← h, he, constrain_cycleLength] at hf
    exact absurd hf List.not_mem_nil
  · rw [he] at h
    exact absurd h (by decide)

/-- An effect that leaves CycleLength as it is, from every state. -/
def Eff.KeepsCycleLength (e : Eff) : Prop := ∀ s, (e.run s).key cycleLengthKey = s.key cycleLengthKey

theorem Eff.KeepsCycleLength.seq {a b : Eff} (ha : a.KeepsCycleLength) (hb : b.KeepsCycleLength) :
    (Eff.seq a b).KeepsCycleLength := fun s => (hb _).trans (ha s)

theorem Eff.KeepsCycleLength.forEach {α : Type} {l : List α} {f : α → Eff} (h : ∀ a ∈ l, (f a).KeepsCycleLength) :
    (Eff.forEach l f).KeepsCycleLength := by
  induction l with
  | nil => exact fun _ => rfl
  | cons a l ih => exact (h a List.mem_cons_self).seq (ih fun b hb => h b (List.mem_cons_of_mem _ hb))

theorem Eff.Within.keepsCycleLength {m : Mask} {e : Eff} (he : e.Within tables m) (h : freeObj tables m 0x4000 4 = true) :
    e.KeepsCycleLength := fun s => he.keeps_class s cycleLengthKey rfl h

theorem noteClamp_keepsCycleLength (k : Key) (code reason : Nat) (requested applied : Int) :
    (noteClamp k code reason requested applied).KeepsCycleLength :=
  (noteClamp_within (Mask.Le.refl _)).keepsCycleLength (by decide +kernel)

theorem creditsUpTo_keepsCycleLength (k : Key) : (creditsUpTo k).KeepsCycleLength :=
  (creditsUpTo_within (Mask.Le.refl _)).keepsCycleLength (by decide +kernel)

theorem functionsFollow_keepsCycleLength (before : State) (written diff : List Key) :
    (functionsFollow before written diff).KeepsCycleLength :=
  (functionsFollow_within (Mask.Le.refl _)).keepsCycleLength (by decide +kernel)

theorem switchFunction_keepsCycleLength (before : State) (k : Key) : (switchFunction before k).KeepsCycleLength :=
  (switchFunction_within (Mask.Le.refl _)).keepsCycleLength (by decide +kernel)

theorem applyFixes_keepsCycleLength {code : Nat} {atCommit : Bool} {l : List (Key × Int × Nat)}
    (h : ∀ f ∈ l, f.1 ≠ cycleLengthKey) : (applyFixes code atCommit l).KeepsCycleLength := by
  refine Eff.KeepsCycleLength.forEach fun f hf s => ?_
  have hbump : (Eff.when atCommit (bumpObj 0x2011 4)).KeepsCycleLength :=
    (Within.when (Within.bumpObj (Mask.Obj.of (by decide +kernel)) :
      Eff.Within tables ⟨0, 0x80, 0⟩ _)).keepsCycleLength (by decide +kernel)
  simp only [Eff.run_look, Eff.run_all_cons, Eff.run_all_nil, Eff.run_upd, hbump _, key_obj_other _ _ _ _ (h f hf).symm,
    creditsUpTo_keepsCycleLength _ _, noteClamp_keepsCycleLength _ _ _ _ _ _]

theorem checkDependents_keepsCycleLength {atCommit : Bool} {go : Changes → Eff} (hgo : ∀ ch, (go ch).KeepsCycleLength)
    (n : Nat) (waiting ch : Changes) : (checkDependents atCommit n waiting ch go).KeepsCycleLength := by
  induction n generalizing waiting ch with
  | zero => exact hgo ch
  | succ n ih =>
    cases waiting with
    | nil => exact hgo ch
    | cons k ks =>
      intro s
      unfold checkDependents
      simp only [Eff.run_look, Eff.run_seq]
      rw [ih, applyFixes_keepsCycleLength (constrain_ne_cycleLength s k.1)]

/-- A CycleLength that takes effect stands when all that depends on it has followed. -/
theorem takeEffect_run_cycleLength (code : Nat) (v : Int) (s : State) :
    ((takeEffect false [⟨cycleLengthKey, v, code⟩] fun _ => .skip).run s).key cycleLengthKey = v := by
  unfold takeEffect
  simp only [Eff.run_look, Eff.run_all_cons, Eff.run_all_nil, Eff.run_forEach_cons, Eff.run_forEach_nil, Eff.run_upd]
  rw [checkDependents_keepsCycleLength, key_obj_same]
  intro ch t
  simp [functionsFollow_keepsCycleLength _ _ _ t]

/-! ## Emissions are only added to (log entry 22) -/

theorem Upd.out_prefix (u : Upd) (s : State) : s.out <+: (u.apply s).out := by
  by_cases h : Part.out ∈ u.touches
  · cases u with
    | emit e => exact List.prefix_append _ _
    | _ => simp [Upd.touches, restartParts] at h
  · rw [Upd.out_left u s h]

theorem Eff.out_prefix (e : Eff) (s : State) : s.out <+: (e.run s).out :=
  Eff.relates (fun a b => a.out <+: b.out) (fun _ => List.prefix_refl _) (fun _ _ _ => List.IsPrefix.trans)
    Upd.out_prefix e s

theorem respond_run_out (chan : Chan) (status type : Nat) (value : Bytes) (s : State) :
    ((respond chan status type value).run s).out = s.out ++ [.response (channelCode chan) status type value] := rfl

theorem respond_run_key (chan : Chan) (status type : Nat) (value : Bytes) (s : State) (k : Key) :
    ((respond chan status type value).run s).key k = s.key k := rfl

/-! ## The record is served -/

theorem startsAction_cycleLength (chan : Chan) (bs : Bytes) : startsAction ⟨chan, cycleLengthTarget, bs⟩ = false := by
  have hacc : ((objectAt 0x4000).bind fun o => (o.access 4 0).map Access.acc) = some .rws := rfl
  unfold startsAction
  dsimp only
  rw [hacc]
  decide

/-- A datapath cycle whose one access is a write that starts no action serves that record (R50). -/
theorem serveCycle_single_run {chan : Chan} {t : Target} {bs : Bytes} (h : startsAction ⟨chan, t, bs⟩ = false) (s : State) :
    (serveCycle [.write chan t bs]).run s = (serveWrite chan t bs (respond chan)).run s := by
  simp [serveCycle, cycleReads, cycleWrites, cycleFaults, sortRanked, insertRanked, channelWrites, hardwareWrites, h,
    cycleWritesApply, cycleWrite]

theorem exec_write_single {s : State} {chan : Chan} {t : Target} {bs : Bytes}
    (hpower : (s.power.state == .active || s.power.state == .idle) = true) (hserves : s.serves chan = true)
    (h : startsAction ⟨chan, t, bs⟩ = false) :
    exec (.write chan t ⟨bs, []⟩) s = .next (flushEvents.run ((serveWrite chan t bs (respond chan)).run s)) := by
  rw [exec_write_eq_done]
  unfold done answering
  rw [Eff.run_seq, Eff.run_whenS, hpower, hserves, Bool.and_self, if_pos rfl, serveCycle_single_run h]

/-- A fitted CycleLength is put in place and answered: CLAMPED where it had been replaced, for nothing changes it again. -/
theorem putValue_run_cycleLength (w : WriteFrom) (v : Int) (clamped : Bool) (k : Nat → Eff) (s : State) :
    ∃ u, (putValue w cycleLengthAccess v clamped k).run s = (k (if clamped then stClamped else stOk)).run u ∧
      u.key cycleLengthKey = v ∧ s.out <+: u.out := by
  have hput : putValue w cycleLengthAccess v clamped k = .look fun before => .all [
      takeEffect false [⟨cycleLengthKey, v, w.code⟩] (fun _ => .skip),
      switchFunction before cycleLengthKey,
      .look fun s => k (if clamped || s.key cycleLengthKey != v then stClamped else stOk)] := rfl
  set u := (switchFunction s cycleLengthKey).run
    ((takeEffect false [⟨cycleLengthKey, v, w.code⟩] fun _ => .skip).run s) with hu
  have hkey : u.key cycleLengthKey = v :=
    (switchFunction_keepsCycleLength _ _ _).trans (takeEffect_run_cycleLength _ _ _)
  refine ⟨u, ?_, hkey, (Eff.out_prefix _ s).trans (Eff.out_prefix _ _)⟩
  rw [hput]
  simp only [Eff.run_look, Eff.run_all_cons, Eff.run_all_nil, ← hu, hkey, bne_self_eq_false, Bool.or_false]

theorem serveWrite_run_cycleLength {s : State} {chan : Chan} {v : Nat} (h : s.takesWrite chan 0x4000 4 0 = true)
    (hv : v < 4294967296) (k : Reply) :
    ∃ u, (serveWrite chan cycleLengthTarget (valueBytes (bigEndian chan) .u32 v) k).run s =
        (k (if fittedCycleLength v = v then 0 else 1) 4 []).run u ∧
      u.key cycleLengthKey = fittedCycleLength v ∧ s.out <+: u.out := by
  unfold serveWrite writeRecord
  simp only [Eff.run_look, admitWrite_cycleLength h, fitWritten_cycleLength s chan hv, written_cycleLength chan hv]
  rw [if_neg (by decide), if_neg (by decide), Eff.run_seq]
  obtain ⟨u, hrun, hkey, hout⟩ := putValue_run_cycleLength (plainWrite chan) (fittedCycleLength v) _ _ _
  refine ⟨u, hrun.trans ?_, hkey, (Eff.out_prefix _ s).trans hout⟩
  have hcode : cycleLengthAccess.cell.ty.code = 4 := rfl
  rw [hcode]
  by_cases hfit : fittedCycleLength v = v
  · simp [hfit, answer, stOk]
  · simp [hfit, answer, stClamped]

theorem exec_write_cycleLength {s : State} {chan : Chan} {v : Nat} (h : s.takesWrite chan 0x4000 4 0 = true)
    (hserves : s.serves chan = true) (hv : v < 4294967296) :
    ∃ t, exec (.write chan cycleLengthTarget ⟨valueBytes (bigEndian chan) .u32 v, []⟩) s = .next t ∧
      t.n 0x4000 4 = fittedCycleLength v ∧
      .response (channelCode chan) (if fittedCycleLength v = v then 0 else 1) 4 [] ∈ t.out.drop s.out.length := by
  have hanswers := (of_takesWrite_cycleLength h).1
  rw [State.answers, Bool.and_eq_true] at hanswers
  obtain ⟨u, hrun, hkey, new, hout⟩ := serveWrite_run_cycleLength h hv (respond chan)
  refine ⟨_, exec_write_single hanswers.1 hserves (startsAction_cycleLength _ _), ?_, ?_⟩
  · rw [hrun, flush_n]
    show (State.key _ cycleLengthKey).toNat = _
    rw [respond_run_key, hkey, Int.toNat_natCast]
  · rw [hrun, flush_out, respond_run_out, ← hout, List.append_assoc, List.drop_left]
    exact List.mem_append_right _ List.mem_cons_self

/-- What O12 says of a WRITE of CycleLength holds where the image from flash writes at S3 alone, as R43 has it; every other
channel that passes the checks is served. -/
theorem cycleLength_isFitted_of_served (s : State) (chan : Chan) (v : Nat) (h : s.takesWrite chan 0x4000 4 0 = true)
    (himage : chan = .image → s.power.stage = 3) (hv : v < 4294967296) :
    ∃ t, exec (.write chan ⟨0x4000, 4, 0, 0⟩ ⟨valueBytes (bigEndian chan) .u32 v, []⟩) s = .next t ∧
      25000 ≤ t.n 0x4000 4 ∧ t.n 0x4000 4 ≤ 100000000 ∧ 1000000000 % t.n 0x4000 4 = 0 ∧
      (25000 ≤ v → t.n 0x4000 4 ≤ v) ∧
      (∀ d, 1000000000 % d = 0 → d ≤ 100000000 → d ≤ v → d ≤ t.n 0x4000 4) ∧
      (v = 300000 → t.n 0x4000 4 = 250000) ∧
      .response (channelCode chan) (if t.n 0x4000 4 = v then 0 else 1) 4 [] ∈ t.out.drop s.out.length := by
  obtain ⟨t, hexec, hn, hresponse⟩ := exec_write_cycleLength h (serves_of_takesWrite_cycleLength h himage) hv
  obtain ⟨hleast, hmost, hdivides, habove, hgreatest⟩ := fittedCycleLength_spec v
  have hexample : fittedCycleLength 300000 = 250000 := by decide +kernel
  refine ⟨t, hexec, ?_⟩
  rw [hn]
  exact ⟨hleast, hmost, hdivides, habove, hgreatest, fun he => he ▸ hexample, hresponse⟩

/-- The image from flash meets the premises at S3, and its 300,000 becomes 250,000, the example of R85. -/
theorem image_write_fitted_at_stage_three :
    ∃ t, exec (.write .image ⟨0x4000, 4, 0, 0⟩ ⟨valueBytes (bigEndian .image) .u32 (300000 : Nat), []⟩) (resetAtStage 3) = .next t ∧
      t.n 0x4000 4 = 250000 := by
  obtain ⟨t, hexec, -, -, -, -, -, hexample, -⟩ :=
    cycleLength_isFitted_of_served (resetAtStage 3) .image 300000 (by decide +kernel) (fun _ => rfl) (by decide)
  exact ⟨t, hexec, hexample rfl⟩

end Sys2Proof.Machine

/-! # SoftwareEvent (R370)

O13 speaks of every write that `takesWrite` admits, as O12 does, and fails as it does: the image from flash is served at S3 only
(R43, R53), and at any other stage its write raises nothing. For a channel that is served the statement holds;
`softwareEvent_isRaised_of_served` proves it in that form. -/

namespace Sys2Proof.Machine

/-! ## The refutation -/

theorem exec_softwareEvent_eq_done (chan : Chan) (value : Nat) (s : State) :
    exec (.softwareEvent chan value) s = done (writeObject chan 0xB030 0 0 value) s := by
  rfl

/-- Where no event has been raised the numbering appends no record. -/
theorem flush_fifo_of_raised_nil {s : State} (hraised : s.events.raised = []) :
    (flushEvents.run s).events.fifo = s.events.fifo := by
  unfold flushEvents
  rw [Eff.run_look, Eff.run_seq, hraised]
  rfl

theorem exec_softwareEvent_unserved_fifo {s t : State} {chan : Chan} {value : Nat} (h : s.serves chan = false)
    (hraised : s.events.raised = []) (ht : exec (.softwareEvent chan value) s = .next t) : t.events.fifo = s.events.fifo := by
  rw [exec_softwareEvent_eq_done] at ht
  cases ht
  unfold writeObject
  rw [Eff.run_seq, answering_run_unserved h, flush_fifo_of_raised_nil hraised]

theorem image_takesWrite_softwareEvent_at_stage_one : (resetAtStage 1).takesWrite .image 0xB030 0 0 = true := by decide +kernel

theorem room_at_stage_one : (resetAtStage 1).room 1 := ⟨rfl, by decide⟩

/-- Refutes O13: at S1 a write of the image from flash meets `takesWrite`, since no mask and no stage is checked for that
channel (R53), but the channel is not served before S3 (R43), so that no record is appended. -/
theorem not_softwareEventIsRaised : ¬ Obligations.SoftwareEventIsRaised := by
  unfold Obligations.SoftwareEventIsRaised
  intro h
  obtain ⟨t, ht, hfifo⟩ := h.1 (resetAtStage 1) .image 992 image_takesWrite_softwareEvent_at_stage_one (by decide) (by decide)
    (by decide) room_at_stage_one
  rw [exec_softwareEvent_unserved_fifo image_unserved_at_stage_one rfl ht] at hfifo
  exact absurd hfifo.symm (by simp)

/-! ## Numbering with the sequence numbers -/

/-- The records of some events, numbered from `next` at a clock (R367). -/
def numbered (c : Clock) (next : Nat) : List Raised → List EventRecord
  | [] => []
  | e :: l =>
    ⟨next, c.sec % 65536, c.ns, e.severity % 4, e.source % 1024, e.reason % 64, e.arg % 2147483648, e.queue⟩ ::
      numbered c ((next + 1) % 4294967296) l

theorem stampRaised_clock (e : Raised) (s : State) : ((stampRaised e).run s).clock = s.clock :=
  ((stampRaised_within (Mask.Le.refl _) (e := e)).keeps_part s .clock (by decide +kernel) : s.clock = _).symm

theorem forEach_stamp_fifo (l : List Raised) (s : State) (h : s.events.backlog + l.length ≤ 1032) :
    ((Eff.forEach l stampRaised).run s).events.fifo = s.events.fifo ++ numbered s.clock s.events.next l := by
  induction l generalizing s with
  | nil => exact (List.append_nil _).symm
  | cons e l ih =>
    rw [List.length_cons] at h
    obtain ⟨hfifo, hnext, hbacklog⟩ := stampRaised_room e s (by omega)
    rw [Eff.run_forEach_cons, ih _ (by omega), hfifo, hnext, stampRaised_clock, List.append_assoc]
    rfl

/-- With room in the FIFO, numbering appends the records of the events raised, in the order of R367. -/
theorem flush_fifo (s : State) (h : s.events.backlog + s.events.raised.length ≤ 1032) :
    (flushEvents.run s).events.fifo = s.events.fifo ++ numbered s.clock s.events.next (sortRaised s.events.raised) := by
  unfold flushEvents
  rw [Eff.run_look, Eff.run_seq, Eff.run_upd]
  refine forEach_stamp_fifo _ (Upd.apply .takeRaised s) ?_
  rw [length_sortRaised]
  exact (Nat.add_le_add_right (Nat.sub_le _ 8) _).trans h

/-! ## The written value (R46) -/

/-- The source that a written value gives. -/
def softwareSource (v : Nat) : Nat := min 1023 (max 992 (v % 65536))

theorem softwareSource_of_inRange {v : Nat} (h : 992 ≤ v % 65536 ∧ v % 65536 ≤ 1023) : softwareSource v = v % 65536 := by
  unfold softwareSource
  omega

theorem softwareSource_range (v : Nat) : 992 ≤ softwareSource v ∧ softwareSource v ≤ 1023 := by
  unfold softwareSource
  omega

theorem fitSoftwareEvent_eq (v : Nat) : fitSoftwareEvent v = v / 65536 * 65536 + softwareSource v := by
  unfold fitSoftwareEvent softwareSource
  omega

theorem fitSoftwareEvent_mod (v : Nat) : fitSoftwareEvent v % 65536 = softwareSource v := by
  have := softwareSource_range v
  rw [fitSoftwareEvent_eq]
  omega

theorem fitSoftwareEvent_div (v : Nat) : fitSoftwareEvent v / 65536 = v / 65536 := by
  have := softwareSource_range v
  rw [fitSoftwareEvent_eq]
  omega

theorem fitSoftwareEvent_eq_self_iff (v : Nat) : fitSoftwareEvent v = v ↔ 992 ≤ v % 65536 ∧ v % 65536 ≤ 1023 := by
  rw [fitSoftwareEvent_eq]
  unfold softwareSource
  omega

theorem valueOf_valueBytes_u64 (big : Bool) {v : Nat} (h : v < 18446744073709551616) :
    valueOf big .u64 (valueBytes big .u64 v) = ((v : Int), false) := by
  have hu : unsignedOf 8 (v : Int) = v := by unfold unsignedOf; omega
  simp only [valueOf, valueBytes, Ty.size, Ty.signed, hu, wordOf_wordBytes]
  rw [Nat.mod_eq_of_lt (by simpa using h)]
  rfl

theorem writeFits_u64 (big : Bool) (v : Int) (i s r : Nat) : writeFits .u64 ⟨i, s, r, 0⟩ (valueBytes big .u64 v) = true := by
  simp [writeFits, valueBytes, length_wordBytes]

/-! ## The checks of the write (R42) -/

/-- What a record for SoftwareEvent addresses (Table 11.11), and how. -/
def softwareEventAccess : Access := ⟨⟨0xB030, 0, 0⟩, cell .u64, .wo, 1⟩
abbrev softwareEventTarget : Target := ⟨0xB030, 0, 0, 0⟩

theorem access_softwareEvent : ((objectAt 0xB030).bind fun o => o.access 0 0) = some softwareEventAccess := rfl

theorem of_takesWrite_softwareEvent {s : State} {chan : Chan} (h : s.takesWrite chan 0xB030 0 0 = true) :
    s.answers = true ∧ s.od.imageBusy = false ∧ s.locate chan true false softwareEventTarget = .inr softwareEventAccess ∧
      s.writeHeld softwareEventAccess = false := by
  simp only [State.takesWrite, Bool.and_eq_true, Bool.not_eq_true'] at h
  obtain ⟨⟨hanswers, hbusy⟩, hlocate⟩ := h
  cases hl : s.locate chan true false softwareEventTarget with
  | inl st =>
    rw [hl] at hlocate
    cases hlocate
  | inr x =>
    have hx : x = softwareEventAccess := Option.some.inj ((State.of_locate hl).2.symm.trans access_softwareEvent)
    subst hx
    rw [hl] at hlocate
    exact ⟨hanswers, hbusy, rfl, by simpa using hlocate⟩

/-- Only the image from flash passes the checks without being served: to every other channel an object from 0x2000 on is there
from S5 on (R43). -/
theorem serves_of_stageServes {s : State} {chan : Chan} {idx : Nat} (h : s.stageServes chan true idx = true)
    (hidx : 0x2000 ≤ idx) (himage : chan = .image → s.power.stage = 3) : s.serves chan = true := by
  have hstage : chan ≠ .image → 5 ≤ s.power.stage := fun hc => by
    by_contra hlt
    simp [State.stageServes, hc, Nat.lt_of_not_le hlt, Nat.not_lt_of_le hidx] at h
  cases chan with
  | image => simpa [State.serves] using himage rfl
  | _ =>
    have := hstage (by simp)
    simp only [State.serves, decide_eq_true_eq]
    omega

theorem admitWrite_softwareEvent {s : State} {chan : Chan} (h : s.takesWrite chan 0xB030 0 0 = true) (v : Int) :
    s.admitWrite (plainWrite chan) softwareEventTarget (valueBytes (bigEndian chan) .u64 v) = .inr softwareEventAccess := by
  obtain ⟨-, hbusy, hlocate, hheld⟩ := of_takesWrite_softwareEvent h
  have hfits : writeFits softwareEventAccess.cell.ty softwareEventTarget (valueBytes (bigEndian chan) .u64 v) = true :=
    writeFits_u64 _ _ _ _ _
  have haction : ∀ u, s.actionStatus softwareEventAccess.key u = stOk := fun _ => rfl
  simp [State.admitWrite, plainWrite, hlocate, hbusy, hheld, hfits, haction]

theorem written_softwareEvent (chan : Chan) {v : Nat} (hv : v < 18446744073709551616) :
    valueOf (plainWrite chan).big softwareEventAccess.cell.ty (valueBytes (bigEndian chan) .u64 v) = ((v : Int), false) :=
  valueOf_valueBytes_u64 _ hv

theorem fitWritten_softwareEvent (s : State) (chan : Chan) {v : Nat} (hv : v < 18446744073709551616) :
    s.fitWritten (plainWrite chan) softwareEventAccess (valueBytes (bigEndian chan) .u64 v) =
      ((fitSoftwareEvent v : Int), if fitSoftwareEvent v = v then 0 else 1) := by
  have hown : s.fitOwn softwareEventAccess.key softwareEventAccess.cell (v : Int) =
      ((fitSoftwareEvent v : Int), if (fitSoftwareEvent v : Int) = v then 0 else 1) := rfl
  rw [State.fitWritten, written_softwareEvent chan hv, hown]
  simp only [Nat.cast_inj]

/-! ## The events raised -/

/-- The event of a written value: its source, bits 46 to 16 as the argument, severity 0 (R370). -/
def softwareRaised (v : Nat) : Raised := ⟨0, softwareSource v, 0, v / 65536 % 2147483648, none⟩

/-- The events of the clamp of a source out of range: the clamp's 897 with its channel, and 920 with the source taken. -/
def clampRaised (chan : Chan) (v : Nat) : List Raised :=
  [⟨0, 897, 0, channelCode chan, none⟩, ⟨0, 920, 0, softwareSource v % 256, none⟩]

/-- What a write of SoftwareEvent raises: its event, after those of the clamp where the source is out of range. -/
def writeRaised (chan : Chan) (v : Nat) : List Raised :=
  if fitSoftwareEvent v = v then [softwareRaised v] else clampRaised chan v ++ [softwareRaised v]

theorem writeRaised_of_inRange (chan : Chan) {v : Nat} (h : 992 ≤ v % 65536 ∧ v % 65536 ≤ 1023) :
    writeRaised chan v = [softwareRaised v] :=
  if_pos ((fitSoftwareEvent_eq_self_iff v).2 h)

theorem writeRaised_of_outOfRange (chan : Chan) {v : Nat} (h : v % 65536 < 992 ∨ 1023 < v % 65536) :
    writeRaised chan v = clampRaised chan v ++ [softwareRaised v] :=
  if_neg fun hfit => by
    have := (fitSoftwareEvent_eq_self_iff v).1 hfit
    omega

/-- From `s` to `t` these events have been raised, and none numbered; the clock stands. -/
def State.raises (s t : State) (l : List Raised) : Prop :=
  t.events = { s.events with raised := s.events.raised ++ l } ∧ t.clock = s.clock

theorem State.raises.trans {s t u : State} {l m : List Raised} (hst : s.raises t l) (htu : t.raises u m) :
    s.raises u (l ++ m) := by
  obtain ⟨hevents, hclock⟩ := hst
  obtain ⟨hevents', hclock'⟩ := htu
  exact ⟨by rw [hevents', hevents, List.append_assoc], hclock'.trans hclock⟩

theorem raiseFull_run_raises (severity source reason arg : Nat) (queue : Option Nat) (s : State) :
    s.raises ((raiseFull severity source reason arg queue).run s) [⟨severity, source, reason, arg, queue⟩] :=
  ⟨rfl, rfl⟩

theorem noteClamp_run_raises (k : Key) (code reason : Nat) (requested applied : Int) (s : State) :
    s.raises ((noteClamp k code reason requested applied).run s) [⟨0, 897, 0, code % 128, none⟩] := by
  constructor <;> simp [noteClamp, bumpObj, setObj, count, raise, raiseFull, Upd.touches]

theorem respond_run_raises (chan : Chan) (status type : Nat) (value : Bytes) (s : State) :
    s.raises ((respond chan status type value).run s) [] :=
  ⟨by rw [List.append_nil]; rfl, rfl⟩

theorem answer_run_raises (chan : Chan) (status type : Nat) (value : Bytes) (s : State) :
    s.raises ((answer (respond chan) status type value).run s) [] := by
  unfold answer
  rw [Eff.run_seq, Eff.run_when]
  split
  · exact respond_run_raises _ _ _ _ _
  · exact respond_run_raises _ _ _ _ _

/-- An admitted value of SoftwareEvent is an action: its event is raised, and the write answered. -/
theorem putValue_run_softwareEvent (w : WriteFrom) (v : Nat) (clamped : Bool) (k : Nat → Eff) (s : State) :
    (putValue w softwareEventAccess (fitSoftwareEvent v : Int) clamped k).run s =
      (k (if clamped then stClamped else stOk)).run ((softwareRaises (fitSoftwareEvent v)).run s) :=
  rfl

theorem softwareRaises_run_raises (v : Nat) (s : State) :
    s.raises ((softwareRaises (fitSoftwareEvent v)).run s) [softwareRaised v] := by
  unfold softwareRaises
  rw [fitSoftwareEvent_mod, fitSoftwareEvent_div]
  exact raiseFull_run_raises _ _ _ _ _ _

theorem clamp_run_raises (chan : Chan) (v : Nat) (s : State) :
    s.raises ((Eff.seq (noteClamp softwareEventAccess.key (plainWrite chan).code 1 v (fitSoftwareEvent v))
      (raise 920 (fitSoftwareEvent v % 65536 % 256))).run s) (clampRaised chan v) := by
  have hcode : (plainWrite chan).code % 128 = channelCode chan := by cases chan <;> rfl
  have hnote := noteClamp_run_raises softwareEventAccess.key (plainWrite chan).code 1 v (fitSoftwareEvent v) s
  rw [hcode] at hnote
  rw [fitSoftwareEvent_mod]
  exact hnote.trans (raiseFull_run_raises 0 920 0 (softwareSource v % 256) none _)

theorem serveWrite_run_raises {s : State} {chan : Chan} {v : Nat} (h : s.takesWrite chan 0xB030 0 0 = true)
    (hv : v < 18446744073709551616) :
    s.raises ((serveWrite chan softwareEventTarget (valueBytes (bigEndian chan) .u64 v) (respond chan)).run s)
      (writeRaised chan v) := by
  have hevent : ∀ status type t, State.raises t
      ((answer (respond chan) status type []).run ((softwareRaises (fitSoftwareEvent v)).run t)) [softwareRaised v] :=
    fun _ _ _ => (softwareRaises_run_raises v _).trans (answer_run_raises _ _ _ _ _)
  unfold serveWrite writeRecord writeRaised
  simp only [Eff.run_look, admitWrite_softwareEvent h, fitWritten_softwareEvent s chan hv, written_softwareEvent chan hv]
  rw [if_neg (by decide), if_neg (by decide), Eff.run_seq, putValue_run_softwareEvent]
  split
  · exact hevent _ _ _
  · exact (clamp_run_raises chan v s).trans (hevent _ _ _)

/-! ## The records -/

/-- The events of the clamp have lower sources, so that the order of R367 is the order raised. -/
theorem sortRaised_writeRaised (chan : Chan) (v : Nat) : sortRaised (writeRaised chan v) = writeRaised chan v := by
  unfold writeRaised
  split
  · rfl
  · have h : 920 ≤ softwareSource v := (by decide : 920 ≤ 992).trans (softwareSource_range v).1
    simp [clampRaised, softwareRaised, sortRaised, insertRaised, h]

theorem numbered_softwareRaised (c : Clock) (next v : Nat) : numbered c next [softwareRaised v] =
    [⟨next, c.sec % 65536, c.ns, 0, softwareSource v, 0, v / 65536 % 2147483648, none⟩] := by
  have hsource : softwareSource v % 1024 = softwareSource v :=
    Nat.mod_eq_of_lt (Nat.lt_succ_of_le (softwareSource_range v).2)
  simp [numbered, softwareRaised, hsource]

/-- After two records the number is two on, modulo 2^32. -/
theorem numbered_clampRaised (c : Clock) (next : Nat) (chan : Chan) (v : Nat) :
    ∃ a b, numbered c next (clampRaised chan v ++ [softwareRaised v]) =
      a :: b :: numbered c ((next + 2) % 4294967296) [softwareRaised v] := by
  refine ⟨_, _, congrArg (_ :: _ :: numbered c · [softwareRaised v]) ?_⟩
  exact Nat.mod_add_mod (next + 1) 4294967296 1

theorem exec_softwareEvent_served {s : State} {chan : Chan} {v : Nat}
    (hpower : (s.power.state == .active || s.power.state == .idle) = true) (hserves : s.serves chan = true) :
    exec (.softwareEvent chan v) s = .next (flushEvents.run
      ((serveWrite chan softwareEventTarget (valueBytes (bigEndian chan) .u64 v) (respond chan)).run s)) := by
  have hcell : cellOf 0xB030 0 = some (cell .u64) := rfl
  rw [exec_softwareEvent_eq_done]
  unfold done writeObject answering
  rw [hcell, Eff.run_seq, Eff.run_whenS, hpower, hserves, Bool.and_self, if_pos rfl]
  rfl

/-- With room in the FIFO the records of a served write are those of the events it raises, stamped at the clock of the write. -/
theorem exec_softwareEvent_fifo {s : State} {chan : Chan} {v : Nat} (h : s.takesWrite chan 0xB030 0 0 = true)
    (himage : chan = .image → s.power.stage = 3) (hv : v < 18446744073709551616)
    (hroom : s.room (writeRaised chan v).length) :
    ∃ t, exec (.softwareEvent chan v) s = .next t ∧
      t.events.fifo = s.events.fifo ++ numbered s.clock s.events.next (writeRaised chan v) := by
  obtain ⟨hanswers, -, hlocate, -⟩ := of_takesWrite_softwareEvent h
  rw [State.answers, Bool.and_eq_true] at hanswers
  obtain ⟨hraised, hbacklog⟩ := hroom
  obtain ⟨hevents, hclock⟩ := serveWrite_run_raises h hv
  rw [hraised, List.nil_append] at hevents
  refine ⟨_, exec_softwareEvent_served hanswers.1
    (serves_of_stageServes (State.of_locate hlocate).1 (by decide) himage), ?_⟩
  rw [flush_fifo, hevents, hclock, sortRaised_writeRaised]
  rw [hevents]
  exact hbacklog

/-- What O13 says of a write of SoftwareEvent holds where the image from flash writes at S3 alone, as R43 has it; every other
channel that passes the checks is served. -/
theorem softwareEvent_isRaised_of_served (s : State) (chan : Chan) (v : Nat) (h : s.takesWrite chan 0xB030 0 0 = true)
    (himage : chan = .image → s.power.stage = 3) (hv : v < 18446744073709551616) :
    (992 ≤ v % 65536 → v % 65536 ≤ 1023 → s.room 1 →
      ∃ t, exec (.softwareEvent chan v) s = .next t ∧ t.events.fifo = s.events.fifo ++
        [⟨s.events.next, s.clock.sec % 65536, s.clock.ns, 0, v % 65536, 0, v / 65536 % 2147483648, none⟩]) ∧
    (v % 65536 < 992 ∨ 1023 < v % 65536 → s.room 3 →
      ∃ t, exec (.softwareEvent chan v) s = .next t ∧ t.events.fifo.getLast? =
        some ⟨(s.events.next + 2) % 4294967296, s.clock.sec % 65536, s.clock.ns, 0, min 1023 (max 992 (v % 65536)), 0,
          v / 65536 % 2147483648, none⟩ ∧ t.events.fifo.length = s.events.fifo.length + 3) := by
  have hrecords := exec_softwareEvent_fifo h himage hv
  constructor
  · intro hlow hhigh hroom
    rw [writeRaised_of_inRange chan ⟨hlow, hhigh⟩] at hrecords
    obtain ⟨t, hexec, hfifo⟩ := hrecords hroom
    rw [numbered_softwareRaised, softwareSource_of_inRange ⟨hlow, hhigh⟩] at hfifo
    exact ⟨t, hexec, hfifo⟩
  · intro hout hroom
    rw [writeRaised_of_outOfRange chan hout] at hrecords
    obtain ⟨t, hexec, hfifo⟩ := hrecords hroom
    obtain ⟨a, b, hnumbered⟩ := numbered_clampRaised s.clock s.events.next chan v
    rw [hnumbered, numbered_softwareRaised] at hfifo
    refine ⟨t, hexec, ?_, ?_⟩
    · rw [hfifo, List.getLast?_append]
      rfl
    · rw [hfifo, List.length_append]
      rfl

/-- The image from flash meets the premises at S3: its source 991 is brought to 992, and its event is the third record. -/
theorem image_softwareEvent_at_stage_three :
    ∃ t, exec (.softwareEvent .image (7 * 65536 + 991)) (resetAtStage 3) = .next t ∧
      t.events.fifo.getLast? = some ⟨2, 0, 0, 0, 992, 0, 7, none⟩ := by
  obtain ⟨-, hout⟩ := softwareEvent_isRaised_of_served (resetAtStage 3) .image (7 * 65536 + 991) (by decide +kernel)
    (fun _ => rfl) (by decide)
  obtain ⟨t, hexec, hlast, -⟩ := hout (.inl (by decide)) ⟨rfl, by decide⟩
  exact ⟨t, hexec, hlast⟩

end Sys2Proof.Machine

/-! # Wakes during an entry into DORMANT (R399)

While the entry is pending a wake only clears it, or also starts the PLLs in IDLE; in DORMANT it begins S1. What else the commands do,
to a gated grove, to the groves' policies and to the functions that start again, changes of the power side the groves alone. -/

namespace Sys2Proof.Machine

/-! ## Effects that change of the power side the groves alone -/

/-- An effect that leaves the power side but its groves as it is, from every state. -/
def Eff.ChangesOnlyGroves (e : Eff) : Prop :=
  ∀ s, { (e.run s).power with groves := [] } = { s.power with groves := [] }

/-- An effect whose mask lacks the power side leaves it as it is. -/
theorem Eff.Within.keepsPower {m : Mask} {e : Eff} (he : e.Within tables m) (h : m.parts.testBit Part.power.bit = false)
    (s : State) : (e.run s).power = s.power :=
  (he.keeps_part s .power h : s.power = (e.run s).power).symm

theorem Eff.Within.changesOnlyGroves {m : Mask} {e : Eff} (he : e.Within tables m)
    (h : m.parts.testBit Part.power.bit = false) : e.ChangesOnlyGroves := fun s => by rw [he.keepsPower h s]

namespace Eff.ChangesOnlyGroves

variable {a b e : Eff}

theorem state (h : e.ChangesOnlyGroves) (s : State) : (e.run s).power.state = s.power.state :=
  (congrArg PowerSide.state (h s) :)

theorem stage (h : e.ChangesOnlyGroves) (s : State) : (e.run s).power.stage = s.power.stage :=
  (congrArg PowerSide.stage (h s) :)

theorem dormantPending (h : e.ChangesOnlyGroves) (s : State) : (e.run s).power.dormantPending = s.power.dormantPending :=
  (congrArg PowerSide.dormantPending (h s) :)

theorem skip : Eff.skip.ChangesOnlyGroves := fun _ => rfl

theorem seq (ha : a.ChangesOnlyGroves) (hb : b.ChangesOnlyGroves) : (Eff.seq a b).ChangesOnlyGroves :=
  fun s => (hb _).trans (ha s)

theorem look {f : State → Eff} (h : ∀ s, (f s).ChangesOnlyGroves) : (Eff.look f).ChangesOnlyGroves := fun s => h s s

theorem ite {c : Prop} [Decidable c] (ha : a.ChangesOnlyGroves) (hb : b.ChangesOnlyGroves) :
    (if c then a else b).ChangesOnlyGroves := by
  split
  · exact ha
  · exact hb

theorem when {c : Bool} (h : e.ChangesOnlyGroves) : (Eff.when c e).ChangesOnlyGroves := ite h skip

theorem whenS {c : State → Bool} (h : e.ChangesOnlyGroves) : (Eff.whenS c e).ChangesOnlyGroves := look fun _ => ite h skip

theorem all {l : List Eff} (h : ∀ e ∈ l, e.ChangesOnlyGroves) : (Eff.all l).ChangesOnlyGroves := by
  induction l with
  | nil => exact skip
  | cons e l ih => exact (h e List.mem_cons_self).seq (ih fun x hx => h x (List.mem_cons_of_mem _ hx))

theorem forEach {α : Type} {l : List α} {f : α → Eff} (h : ∀ a, (f a).ChangesOnlyGroves) :
    (Eff.forEach l f).ChangesOnlyGroves :=
  all fun _ he => by
    obtain ⟨a, -, rfl⟩ := List.mem_map.1 he
    exact h a

end Eff.ChangesOnlyGroves

theorem setGrove_changesOnlyGroves (g state : Nat) (nextWake : Option Nat) : (setGrove g state nextWake).ChangesOnlyGroves :=
  .look fun _ => .seq (fun _ => rfl) (.seq (fun _ => rfl) (.seq (.when fun _ => rfl) .skip))

theorem wakeGrove_changesOnlyGroves (g : Nat) : (wakeGrove g).ChangesOnlyGroves :=
  .whenS (.seq (fun _ => rfl) (setGrove_changesOnlyGroves g 1 none))

theorem applyPolicies_changesOnlyGroves : applyPolicies.ChangesOnlyGroves :=
  .forEach fun g => .look fun _ =>
    .ite (.seq ((groveStops_within (Mask.Le.refl _)).changesOnlyGroves rfl) (setGrove_changesOnlyGroves g 3 none))
      (.when (setGrove_changesOnlyGroves g 1 none))

/-! ## A wake source, by the state it finds (R398, R399) -/

/-- An entry that is still pending in ACTIVE is given up, and nothing else. -/
theorem wakeSource_run_power_of_active {s : State} (hstate : s.power.state = .active) (hpending : s.power.dormantPending = true)
    (cause port : Nat) : ((wakeSource cause port).run s).power = { s.power with dormantPending := false } := by
  unfold wakeSource
  rw [Eff.run_look, hstate, hpending]
  rfl

/-- In IDLE the PLLs start, or have been started by a wake before. -/
theorem wakeSource_run_power_of_idle {s : State} (hstate : s.power.state = .idle) (cause port : Nat) :
    ((wakeSource cause port).run s).power = { s.power with dormantPending := false, wakePending := true } := by
  unfold wakeSource idleWake
  rw [Eff.run_look, hstate]
  dsimp only
  rw [Eff.run_seq, Eff.run_whenS]
  split
  case isTrue => rfl
  case isFalse h =>
    have hwake : s.power.wakePending = true := by simpa [Upd.apply, hstate] using h
    rw [← hwake]
    rfl

/-- The rest of S1's beginning, the straps as read, the boot count and the FAULT ball, leaves the power side. -/
theorem enterStageOne_run_power (s : State) : (enterStageOne.run s).power.state = .active ∧ (enterStageOne.run s).power.stage = 1 := by
  have hpin : ∀ t : State, (updateFaultPin.run t).power = t.power :=
    (updateFaultPin_within (Mask.Le.refl _)).keepsPower rfl
  unfold enterStageOne
  simp only [Eff.run_all_cons, Eff.run_all_nil, hpin]
  exact ⟨rfl, rfl⟩

/-- With supply and temperature good, the rails are raised and bring-up begins at S1. -/
theorem wakeSource_run_power_of_dormant {s : State} (hstate : s.power.state = .dormant) (hsupply : s.power.brownOut = false)
    (hthermal : s.power.thermalStop = false) (cause port : Nat) :
    ((wakeSource cause port).run s).power.state = .active ∧ ((wakeSource cause port).run s).power.stage = 1 := by
  unfold wakeSource
  rw [Eff.run_look, hstate, hsupply, hthermal]
  exact enterStageOne_run_power _

/-! ## The commands that report a wake source, where 0x2220 enables it -/

theorem exec_wakePin_power {s : State} (henabled : s.on 0x2220 1 = true) :
    ∃ t, exec .wakePin s = .next t ∧ t.power = ((wakeSource 1 0xFFFF).run s).power := by
  refine ⟨_, rfl, ?_⟩
  rw [Eff.run_seq, flush_power, Eff.run_whenS, if_pos henabled]

/-- WakeAt is disarmed before its source acts. -/
def State.wakeDisarmed (s : State) : State := Upd.apply (.canopy fun k => { k with wakeArmed := false }) s

@[simp] theorem State.wakeDisarmed_power (s : State) : s.wakeDisarmed.power = s.power := rfl

theorem exec_wakeAt_power {s : State} (harmed : s.canopy.wakeArmed = true) (hreached : s.n 0x2220 3 ≤ s.keptTime) :
    ∃ t, exec .wakeAt s = .next t ∧ t.power = ((wakeSource 3 0xFFFF).run s.wakeDisarmed).power := by
  refine ⟨_, rfl, ?_⟩
  unfold wakesAt
  rw [Eff.run_seq, flush_power, Eff.run_whenS, if_pos (by simp [harmed, hreached]), Eff.run_seq, Eff.run_upd, State.wakeDisarmed]

/-- Once the source has acted, an operating module wakes the port's grove too (R403). -/
theorem exec_portWakeActivity_power {s : State} {p : Nat} (hport : isPort p = true) (hlane : isBB p = false)
    (henabled : maskBit (s.obj 0x2220 4) p = true) :
    ∃ t, exec (.portWakeActivity p) s = .next t ∧
      t.power = ((Eff.whenS State.operating (wakeGrove (groveOf p))).run ((wakeSource 2 p).run s)).power := by
  refine ⟨_, rfl, ?_⟩
  unfold portWakes
  have hsource : (Eff.whenS (fun s => maskBit (s.obj 0x2220 4) p) (wakeSource 2 p)).run s = (wakeSource 2 p).run s := by
    rw [Eff.run_whenS, if_pos henabled]
  rw [Eff.run_seq, flush_power, hport, hlane, Bool.not_false, Bool.and_self, Eff.run_when_true, Eff.run_seq, hsource]

theorem wakeOperatingGrove_changesOnlyGroves (g : Nat) : (Eff.whenS State.operating (wakeGrove g)).ChangesOnlyGroves :=
  .whenS (wakeGrove_changesOnlyGroves g)

/-- What does not operate wakes no grove. -/
theorem wakeOperatingGrove_run_of_idle {s : State} (hstate : s.power.state = .idle) (g : Nat) :
    (Eff.whenS State.operating (wakeGrove g)).run s = s := by
  rw [Eff.run_whenS, if_neg (by simp [State.operating, hstate])]

/-! ## The PLLs lock (R395) -/

/-- What starts again with the PLLs leaves the power side but for the groves' policies. -/
theorem resumes_run_state {s : State} (hstate : s.power.state = .idle) (hpending : s.power.wakePending = true) :
    (resumes.run s).power.state = .active := by
  unfold resumes
  rw [Eff.run_whenS, if_pos (by simp [hstate, hpending]), Eff.run_all_cons]
  have hports : ∀ p, (Eff.seq (portStart p) (gatesNow p)).ChangesOnlyGroves := fun _ =>
    .seq ((portStart_within (Mask.Le.refl _)).changesOnlyGroves rfl) ((gatesNow_within (Mask.Le.refl _)).changesOnlyGroves rfl)
  have hfetch : ∀ tx r, (fetchEntries tx r).ChangesOnlyGroves := fun _ _ =>
    (fetchEntries_within (Mask.Le.refl _)).changesOnlyGroves rfl
  have hpushes : ∀ r, (usePushes r 16).ChangesOnlyGroves := fun _ =>
    (usePushes_within (Mask.Le.refl _)).changesOnlyGroves rfl
  have hring : (Eff.seq startListening (setRingState ringListen)).ChangesOnlyGroves :=
    .seq ((startListening_within (Mask.Le.refl _)).changesOnlyGroves rfl)
      ((setRingState_within (Mask.Le.refl _)).changesOnlyGroves rfl)
  refine (Eff.ChangesOnlyGroves.state ?_ _).trans rfl
  exact .seq (fun _ => rfl) (.seq (.whenS hring) (.seq (.look fun _ => .forEach hports)
    (.seq applyPolicies_changesOnlyGroves (.seq (.look fun _ => .seq (.forEach fun r => .seq (hpushes r) (hfetch true r))
      (.forEach (hfetch false))) .skip))))

theorem exec_activeResumed_state {s : State} (hstate : s.power.state = .idle) (hpending : s.power.wakePending = true) :
    ∃ t, exec .activeResumed s = .next t ∧ t.power.state = .active := by
  refine ⟨_, rfl, ?_⟩
  rw [Eff.run_seq, flush_power, resumes_run_state hstate hpending]

/-! ## Activity on a port, by the state it finds -/

theorem exec_portWakeActivity_of_active {s : State} {p : Nat} (hstate : s.power.state = .active)
    (hpending : s.power.dormantPending = true) (hport : isPort p = true) (hlane : isBB p = false)
    (henabled : maskBit (s.obj 0x2220 4) p = true) :
    ∃ t, exec (.portWakeActivity p) s = .next t ∧ t.power.state = .active ∧ t.power.stage = s.power.stage ∧
      t.power.dormantPending = false := by
  obtain ⟨t, hexec, hpower⟩ := exec_portWakeActivity_power hport hlane henabled
  have hgroves := wakeOperatingGrove_changesOnlyGroves (groveOf p)
  have hsource := wakeSource_run_power_of_active hstate hpending 2 p
  refine ⟨t, hexec, ?_, ?_, ?_⟩
  · rw [hpower, hgroves.state, hsource, hstate]
  · rw [hpower, hgroves.stage, hsource]
  · rw [hpower, hgroves.dormantPending, hsource]

theorem exec_portWakeActivity_of_idle {s : State} {p : Nat} (hstate : s.power.state = .idle) (hport : isPort p = true)
    (hlane : isBB p = false) (henabled : maskBit (s.obj 0x2220 4) p = true) :
    ∃ t, exec (.portWakeActivity p) s = .next t ∧
      t.power = { s.power with dormantPending := false, wakePending := true } := by
  obtain ⟨t, hexec, hpower⟩ := exec_portWakeActivity_power hport hlane henabled
  have hsource := wakeSource_run_power_of_idle hstate 2 p
  have hidle : ((wakeSource 2 p).run s).power.state = .idle := by rw [hsource, hstate]
  exact ⟨t, hexec, by rw [hpower, wakeOperatingGrove_run_of_idle hidle, hsource]⟩

theorem exec_portWakeActivity_of_dormant {s : State} {p : Nat} (hstate : s.power.state = .dormant)
    (hsupply : s.power.brownOut = false) (hthermal : s.power.thermalStop = false) (hport : isPort p = true)
    (hlane : isBB p = false) (henabled : maskBit (s.obj 0x2220 4) p = true) :
    ∃ t, exec (.portWakeActivity p) s = .next t ∧ t.power.state = .active ∧ t.power.stage = 1 := by
  obtain ⟨t, hexec, hpower⟩ := exec_portWakeActivity_power hport hlane henabled
  have hgroves := wakeOperatingGrove_changesOnlyGroves (groveOf p)
  obtain ⟨hactive, hstage⟩ := wakeSource_run_power_of_dormant hstate hsupply hthermal 2 p
  exact ⟨t, hexec, by rw [hpower, hgroves.state, hactive], by rw [hpower, hgroves.stage, hstage]⟩

/-- Settles O59, by the state that the wake source finds: ACTIVE, IDLE, the lock of the PLLs after IDLE, and DORMANT. -/
theorem wakeAbortsDormantEntry : Obligations.WakeAbortsDormantEntry := by
  unfold Obligations.WakeAbortsDormantEntry
  refine ⟨?activePin, ?activeAt, fun _ _ => exec_portWakeActivity_of_active, ?idlePin, ?idleAt,
    fun _ _ hstate _ => exec_portWakeActivity_of_idle hstate, fun _ => exec_activeResumed_state, ?dormantPin, ?dormantAt,
    fun _ _ => exec_portWakeActivity_of_dormant⟩
  case activePin =>
    intro s hstate hpending henabled
    obtain ⟨t, hexec, hpower⟩ := exec_wakePin_power henabled
    exact ⟨t, hexec, hpower.trans (wakeSource_run_power_of_active hstate hpending 1 0xFFFF)⟩
  case activeAt =>
    intro s hstate hpending harmed hreached
    obtain ⟨t, hexec, hpower⟩ := exec_wakeAt_power harmed hreached
    exact ⟨t, hexec, hpower.trans (wakeSource_run_power_of_active (s := s.wakeDisarmed) hstate hpending 3 0xFFFF)⟩
  case idlePin =>
    intro s hstate _ henabled
    obtain ⟨t, hexec, hpower⟩ := exec_wakePin_power henabled
    exact ⟨t, hexec, hpower.trans (wakeSource_run_power_of_idle hstate 1 0xFFFF)⟩
  case idleAt =>
    intro s hstate _ harmed hreached
    obtain ⟨t, hexec, hpower⟩ := exec_wakeAt_power harmed hreached
    exact ⟨t, hexec, hpower.trans (wakeSource_run_power_of_idle (s := s.wakeDisarmed) hstate 3 0xFFFF)⟩
  case dormantPin =>
    intro s hstate hsupply hthermal henabled
    obtain ⟨t, hexec, hpower⟩ := exec_wakePin_power henabled
    exact ⟨t, hexec, hpower ▸ wakeSource_run_power_of_dormant hstate hsupply hthermal 1 0xFFFF⟩
  case dormantAt =>
    intro s hstate hsupply hthermal harmed hreached
    obtain ⟨t, hexec, hpower⟩ := exec_wakeAt_power harmed hreached
    exact ⟨t, hexec, hpower ▸ wakeSource_run_power_of_dormant (s := s.wakeDisarmed) hstate hsupply hthermal 3 0xFFFF⟩

end Sys2Proof.Machine

section
/- One proof after the other, to the end of this section: each `decide +kernel` waits for the kernel, which is still at the
declarations before, and every proof that waits keeps its stack. -/
set_option Elab.async false

/-! # The block as a whole

Every command is the outcome of an effect, and the frame lemma of its meaning bounds the effect by a mask. What every effect keeps
is therefore kept by every step, and each footprint is checked against the mask of its command. -/

namespace Sys2Proof.Machine

/-- The footprint covers the mask together with what the numbering of events writes. -/
def Footprint.coversNumbered (fp : Footprint) (m : Mask) : Bool :=
  coversMask tables fp ⟨m.parts ||| 128, m.objects, m.counters ||| flushCounters⟩

/-- An outcome is that of an effect, within a mask that the footprint covers. -/
def Footprint.Bounds (fp : Footprint) (s : State) (o : Host.Outcome State Fault Refusal) : Prop :=
  ∃ m e, o = done e s ∧ Eff.Within tables m e ∧ fp.coversNumbered m = true

theorem Footprint.Bounds.of_effect {o : Host.Outcome State Fault Refusal} {s : State} {m : Mask} {fp : Footprint}
    (h : ∃ e, o = done e s ∧ Eff.Within tables m e) (hc : fp.coversNumbered m = true := by dsimp only [footprintOf]; decide +kernel) :
    fp.Bounds s o := by
  obtain ⟨e, ho, he⟩ := h
  exact ⟨m, e, ho, he, hc⟩

theorem Footprint.Bounds.exists_frames {o : Host.Outcome State Fault Refusal} {s : State} {fp : Footprint}
    (h : fp.Bounds s o) : ∃ t, o = .next t ∧ fp.Frames s t := by
  obtain ⟨m, e, ho, he, hc⟩ := h
  exact ⟨_, ho, frames_of_effect ⟨e, ho, he⟩ hc ho⟩

/-- What each command is: an effect within a mask that its footprint covers. -/
theorem exec_bounds (c : Instr) (s : State) : (footprintOf c).Bounds s (exec c s) := by
  cases c with
  | mailboxGo _ => exact .of_effect execMailboxGo_effect
  | mailboxDone => exact .of_effect execMailboxDone_effect
  | managementPdu _ _ => exact .of_effect execManagementPdu_effect
  | stackRelayRequest _ _ => exact .of_effect execStackRelayRequest_effect
  | read _ _ => exact .of_effect execRead_effect
  | write _ _ _ => exact .of_effect execWrite_effect
  | describe _ _ => exact .of_effect execDescribe_effect
  | readStaged _ _ => exact .of_effect execReadStaged_effect
  | commitAtBoundary _ => exact .of_effect execCommitAtBoundary_effect
  | commitAtModeSwitch _ => exact .of_effect execCommitAtModeSwitch_effect
  | commitDiscard _ => exact .of_effect execCommitDiscard_effect
  | stagingSetApply => exact .of_effect execStagingSetApply_effect
  | clampLogClear _ => exact .of_effect execClampLogClear_effect
  | imageApply _ => exact .of_effect execImageApply_effect
  | imageApplyAndStore _ => exact .of_effect execImageApplyAndStore_effect
  | imageStore _ => exact .of_effect execImageStore_effect
  | timeStep _ _ => exact .of_effect execTimeStep_effect
  | timeAdjust _ _ => exact .of_effect execTimeAdjust_effect
  | automaticStep => exact .of_effect execAutomaticStep_effect
  | slewEnd => exact .of_effect execSlewEnd_effect
  | sourceLoss => exact .of_effect execSourceLoss_effect
  | holdoverLimit => exact .of_effect execHoldoverLimit_effect
  | referenceFault => exact .of_effect execReferenceFault_effect
  | gptpSync _ _ _ _ _ => exact .of_effect execGptpSync_effect
  | gptpPdelayReq _ _ _ _ _ => exact .of_effect execGptpPdelayReq_effect
  | gptpSyncTimer => exact .of_effect execGptpSyncTimer_effect
  | gptpPdelayTimer => exact .of_effect execGptpPdelayTimer_effect
  | announceTimer => exact .of_effect execAnnounceTimer_effect
  | syncReceiptTimeout => exact .of_effect execSyncReceiptTimeout_effect
  | ppsInEdge _ _ => exact .of_effect execPpsInEdge_effect
  | ppsInSeconds _ _ => exact .of_effect execPpsInSeconds_effect
  | ppsInMissing => exact .of_effect execPpsInMissing_effect
  | ppsOutEdge => exact .of_effect execPpsOutEdge_effect
  | timeEventCapture _ _ _ => exact .of_effect execTimeEventCapture_effect
  | timeEventPulse _ => exact .of_effect execTimeEventPulse_effect
  | alignment _ _ _ _ _ => exact .of_effect execAlignment_effect
  | alignmentTimer => exact .of_effect execAlignmentTimer_effect
  | cycleBoundary => exact .of_effect execCycleBoundary_effect
  | roundFrameLaunch _ _ _ => exact .of_effect execRoundFrameLaunch_effect
  | roundFrame _ _ => exact .of_effect execRoundFrame_effect
  | roundFrameVerified _ => exact .of_effect execRoundFrameVerified_effect
  | roundFrameMissing _ _ => exact .of_effect execRoundFrameMissing_effect
  | ringEnable _ => exact .of_effect execRingEnable_effect
  | ringDisable _ => exact .of_effect execRingDisable_effect
  | listenTimerExpiry => exact .of_effect execListenTimerExpiry_effect
  | ringLoss => exact .of_effect execRingLoss_effect
  | nodeLeft _ => exact .of_effect execNodeLeft_effect
  | laneLost _ => exact .of_effect execLaneLost_effect
  | roundLoss _ => exact .of_effect execRoundLoss_effect
  | wrapRestoreHoldoff _ => exact .of_effect execWrapRestoreHoldoff_effect
  | wrapRelease => exact .of_effect execWrapRelease_effect
  | lanesCrossed => exact .of_effect execLanesCrossed_effect
  | requestGo _ => exact .of_effect execRequestGo_effect
  | modeRequestEvaluation => exact .of_effect execModeRequestEvaluation_effect
  | modeSwitch => exact .of_effect execModeSwitch_effect
  | modeAdopt => exact .of_effect execModeAdopt_effect
  | cyclePoint _ => exact .of_effect execCyclePoint_effect
  | portEnable _ _ => exact .of_effect execPortEnable_effect
  | portDisable _ _ => exact .of_effect execPortDisable_effect
  | segmentListenTimer _ => exact .of_effect execSegmentListenTimer_effect
  | segmentCycleBoundary _ => exact .of_effect execSegmentCycleBoundary_effect
  | slotLatch _ _ => exact .of_effect execSlotLatch_effect
  | slotActionPoint _ _ _ => exact .of_effect execSlotActionPoint_effect
  | segmentFrame _ _ _ => exact .of_effect execSegmentFrame_effect
  | slotEnd _ _ => exact .of_effect execSlotEnd_effect
  | syncFrame _ _ => exact .of_effect execSyncFrame_effect
  | coldstartBackoffExpiry _ => exact .of_effect execColdstartBackoffExpiry_effect
  | tailStart _ _ => exact .of_effect execTailStart_effect
  | listenOnlyRelease _ _ => exact .of_effect execListenOnlyRelease_effect
  | presenceLeave _ _ => exact .of_effect execPresenceLeave_effect
  | segmentModeSwitch _ => exact .of_effect execSegmentModeSwitch_effect
  | linkUp _ => exact .of_effect execLinkUp_effect
  | linkDown _ => exact .of_effect execLinkDown_effect
  | frameReceived _ _ => exact .of_effect execFrameReceived_effect
  | streamUnblock _ _ => exact .of_effect execStreamUnblock_effect
  | hostFrameHandover _ => exact .of_effect execHostFrameHandover_effect
  | queueRoom _ => exact .of_effect execQueueRoom_effect
  | calendarSlot _ => exact .of_effect execCalendarSlot_effect
  | macFree _ => exact .of_effect execMacFree_effect
  | launchTimeReached _ cls => exact .of_effect (execLaunchTimeReached_effect (_c := cls))
  | gateEntry _ => exact .of_effect execGateEntry_effect
  | gateTakeOver _ => exact .of_effect execGateTakeOver_effect
  | preemptionVerifyTimer _ => exact .of_effect execPreemptionVerifyTimer_effect
  | preemptionRespond _ => exact .of_effect execPreemptionRespond_effect
  | recoveryResetTimeout _ => exact .of_effect execRecoveryResetTimeout_effect
  | latentErrorTest _ => exact .of_effect execLatentErrorTest_effect
  | latentReset _ => exact .of_effect execLatentReset_effect
  | highWaterRead _ _ _ => exact .of_effect execHighWaterRead_effect
  | taskStart _ _ => exact .of_effect execTaskStart_effect
  | route _ => exact .of_effect execRoute_effect
  | pack _ => exact .of_effect execPack_effect
  | unpack _ => exact .of_effect execUnpack_effect
  | protect _ => exact .of_effect execProtect_effect
  | check _ => exact .of_effect execCheck_effect
  | hold _ => exact .of_effect execHold_effect
  | transact _ => exact .of_effect execTransact_effect
  | report _ => exact .of_effect execReport_effect
  | taskFinish _ _ => exact .of_effect execTaskFinish_effect
  | taskBudgetExceeded _ => exact .of_effect execTaskBudgetExceeded_effect
  | resultAccept _ => exact .of_effect execResultAccept_effect
  | inboundImageSnapshot _ => exact .of_effect execInboundImageSnapshot_effect
  | outboundImageRead _ => exact .of_effect execOutboundImageRead_effect
  | outboundImageReadDone _ _ _ _ => exact .of_effect execOutboundImageReadDone_effect
  | hostMessageReceived _ _ => exact .of_effect execHostMessageReceived_effect
  | doorbell _ _ _ => exact .of_effect execDoorbell_effect
  | push _ _ _ => exact .of_effect execPush_effect
  | entryFetchDone _ _ _ _ _ => exact .of_effect execEntryFetchDone_effect
  | txBufferReadDone _ _ => exact .of_effect execTxBufferReadDone_effect
  | txFrameComplete _ => exact .of_effect execTxFrameComplete_effect
  | ringHoldoffTimer _ _ => exact .of_effect execRingHoldoffTimer_effect
  | queueEnable _ _ => exact .of_effect execQueueEnable_effect
  | queueDisable _ _ => exact .of_effect execQueueDisable_effect
  | drainComplete _ _ => exact .of_effect execDrainComplete_effect
  | queueConfigWrite _ _ _ _ => exact .of_effect execQueueConfigWrite_effect
  | forceDisableTx _ _ => exact .of_effect execForceDisableTx_effect
  | forceDisableRx _ _ => exact .of_effect execForceDisableRx_effect
  | functionLevelReset _ => exact .of_effect execFunctionLevelReset_effect
  | busMasterChanged _ _ => exact .of_effect execBusMasterChanged_effect
  | vfEnableChanged _ _ => exact .of_effect execVfEnableChanged_effect
  | dmaReadError _ _ => exact .of_effect execDmaReadError_effect
  | dmaWriteError _ => exact .of_effect execDmaWriteError_effect
  | eqHeadWrite _ _ _ => exact .of_effect execEqHeadWrite_effect
  | eqEnable _ => exact .of_effect execEqEnable_effect
  | eqHoldoffTimer _ => exact .of_effect execEqHoldoffTimer_effect
  | msixUnmask _ => exact .of_effect execMsixUnmask_effect
  | clockPageRead _ => exact .of_effect execClockPageRead_effect
  | registerWrite _ _ _ => exact .of_effect execRegisterWrite_effect
  | pcieLinkChanged _ _ _ => exact .of_effect execPcieLinkChanged_effect
  | perst _ => exact .of_effect execPerst_effect
  | stackHello _ _ => exact .of_effect execStackHello_effect
  | stackHelloTimer _ => exact .of_effect execStackHelloTimer_effect
  | stackLinkUp _ => exact .of_effect execStackLinkUp_effect
  | stackLinkDown _ => exact .of_effect execStackLinkDown_effect
  | stackMemberLost _ => exact .of_effect execStackMemberLost_effect
  | viewForward _ => exact .of_effect execViewForward_effect
  | streamForward _ _ => exact .of_effect execStreamForward_effect
  | stepRecordSend => exact .of_effect execStepRecordSend_effect
  | stepRecord _ _ => exact .of_effect execStepRecord_effect
  | stepRecordMissed => exact .of_effect execStepRecordMissed_effect
  | mirror _ => exact .of_effect execMirror_effect
  | selfTestRequest _ _ => exact .of_effect execSelfTestRequest_effect
  | groveSelfTestStart _ => exact .of_effect execGroveSelfTestStart_effect
  | groveSelfTestEnd _ _ => exact .of_effect execGroveSelfTestEnd_effect
  | selfTestResult _ _ => exact .of_effect execSelfTestResult_effect
  | selfTestResultTimeout _ => exact .of_effect execSelfTestResultTimeout_effect
  | leaseExpiry => exact .of_effect execLeaseExpiry_effect
  | witnessPollSend => exact .of_effect execWitnessPollSend_effect
  | witnessPoll _ _ _ _ => exact .of_effect execWitnessPoll_effect
  | voteLockEnd => exact .of_effect execVoteLockEnd_effect
  | witnessPollEvaluation => exact .of_effect execWitnessPollEvaluation_effect
  | noWitnessAcquire => exact .of_effect execNoWitnessAcquire_effect
  | twinSwitchover _ => exact .of_effect execTwinSwitchover_effect
  | releaseAcquire => exact .of_effect execReleaseAcquire_effect
  | coppiceRequest _ _ => exact .of_effect execCoppiceRequest_effect
  | coppiceSnapshot => exact .of_effect execCoppiceSnapshot_effect
  | snapshotChunk _ _ => exact .of_effect execSnapshotChunk_effect
  | logChunk _ _ _ => exact .of_effect execLogChunk_effect
  | coppiceDone => exact .of_effect execCoppiceDone_effect
  | coppiceTimeout => exact .of_effect execCoppiceTimeout_effect
  | backgroundSelfTestStep _ _ _ _ => exact .of_effect execBackgroundSelfTestStep_effect
  | kilnGo => exact .of_effect execKilnGo_effect
  | kilnMessageFragment _ _ => exact .of_effect execKilnMessageFragment_effect
  | kilnFragmentTimeout _ => exact .of_effect execKilnFragmentTimeout_effect
  | getStatus _ _ => exact .of_effect execGetStatus_effect
  | getCertificate _ _ _ => exact .of_effect execGetCertificate_effect
  | getChallenge _ _ => exact .of_effect execGetChallenge_effect
  | challengeExpiry => exact .of_effect execChallengeExpiry_effect
  | attest _ _ _ => exact .of_effect execAttest_effect
  | fwBegin _ _ _ _ => exact .of_effect execFwBegin_effect
  | fwWrite _ _ _ _ => exact .of_effect execFwWrite_effect
  | fwCommit _ _ => exact .of_effect execFwCommit_effect
  | fwConfirm _ _ => exact .of_effect execFwConfirm_effect
  | fwAbort _ _ => exact .of_effect execFwAbort_effect
  | owner _ _ _ => exact .of_effect execOwner_effect
  | installOwnerKey _ _ _ => exact .of_effect execInstallOwnerKey_effect
  | rotateOwnerKey _ _ _ => exact .of_effect execRotateOwnerKey_effect
  | restoreOwnerKey _ _ _ => exact .of_effect execRestoreOwnerKey_effect
  | setPolicy _ _ _ => exact .of_effect execSetPolicy_effect
  | burnLocks _ _ _ => exact .of_effect execBurnLocks_effect
  | setLockedRanges _ _ _ => exact .of_effect execSetLockedRanges_effect
  | setPeerAllowList _ _ _ => exact .of_effect execSetPeerAllowList_effect
  | installCak _ _ _ => exact .of_effect execInstallCak_effect
  | advanceRollback _ _ _ => exact .of_effect execAdvanceRollback_effect
  | debugUnlock _ _ _ => exact .of_effect execDebugUnlock_effect
  | pairInit _ _ _ => exact .of_effect execPairInit_effect
  | pairResponse _ _ _ => exact .of_effect execPairResponse_effect
  | pairConfirm _ _ => exact .of_effect execPairConfirm_effect
  | pairDone _ _ => exact .of_effect execPairDone_effect
  | pairTimeout _ => exact .of_effect execPairTimeout_effect
  | pairingRetryTimer _ => exact .of_effect execPairingRetryTimer_effect
  | cakLifetimeExpiry _ => exact .of_effect execCakLifetimeExpiry_effect
  | mkpdu _ _ => exact .of_effect execMkpdu_effect
  | mkaHelloTimer _ => exact .of_effect execMkaHelloTimer_effect
  | mkaLifeTimeExpiry _ _ => exact .of_effect execMkaLifeTimeExpiry_effect
  | keyPathWrite _ _ _ _ _ => exact .of_effect execKeyPathWrite_effect
  | txSaSwitch _ => exact .of_effect execTxSaSwitch_effect
  | sakHoldoverExpiry _ => exact .of_effect execSakHoldoverExpiry_effect
  | kilnFault _ => exact .of_effect execKilnFault_effect
  | faultBucketBoundary _ => exact .of_effect execFaultBucketBoundary_effect
  | mdiSample _ _ _ _ _ _ => exact .of_effect execMdiSample_effect
  | polarityCorrected _ => exact .of_effect execPolarityCorrected_effect
  | tdrRequest _ _ => exact .of_effect execTdrRequest_effect
  | tdrComplete _ _ => exact .of_effect execTdrComplete_effect
  | supplyWarning _ => exact .of_effect execSupplyWarning_effect
  | supplyRecovered _ => exact .of_effect execSupplyRecovered_effect
  | supplyOvervoltage _ => exact .of_effect execSupplyOvervoltage_effect
  | brownOut _ => exact .of_effect execBrownOut_effect
  | thermalWarning _ _ => exact .of_effect execThermalWarning_effect
  | thermalThrottle _ _ => exact .of_effect execThermalThrottle_effect
  | thermalShutdown _ _ => exact .of_effect execThermalShutdown_effect
  | thermalNormal _ => exact .of_effect execThermalNormal_effect
  | eventFifoRoom => exact .of_effect execEventFifoRoom_effect
  | softwareEvent _ _ => exact .of_effect execSoftwareEvent_effect
  | counterSnapshot => exact .of_effect execCounterSnapshot_effect
  | dumpComplete => exact .of_effect execDumpComplete_effect
  | powerRequestIdle _ => exact .of_effect execPowerRequestIdle_effect
  | idleEntry => exact .of_effect execIdleEntry_effect
  | powerRequestDormant _ => exact .of_effect execPowerRequestDormant_effect
  | wakePin => exact .of_effect execWakePin_effect
  | portWakeActivity _ => exact .of_effect execPortWakeActivity_effect
  | wakeAt => exact .of_effect execWakeAt_effect
  | groveIdle _ => exact .of_effect execGroveIdle_effect
  | groveScheduledWake _ => exact .of_effect execGroveScheduledWake_effect
  | groveRunning _ => exact .of_effect execGroveRunning_effect
  | powerOn => exact .of_effect execPowerOn_effect
  | railsValid _ _ _ => exact .of_effect execRailsValid_effect
  | stageOneRunning => exact .of_effect execStageOneRunning_effect
  | partsVerified => exact .of_effect execPartsVerified_effect
  | bootImageCommitted => exact .of_effect execBootImageCommitted_effect
  | operational => exact .of_effect execOperational_effect
  | resetn => exact .of_effect execResetn_effect
  | moduleReset _ _ => exact .of_effect execModuleReset_effect
  | moduleResetTimer => exact .of_effect execModuleResetTimer_effect
  | canopyLost => exact .of_effect execCanopyLost_effect
  | aux3v3Overcurrent => exact .of_effect execAux3v3Overcurrent_effect
  | aux3v3Retry _ => exact .of_effect execAux3v3Retry_effect
  | aux3v3Undervoltage => exact .of_effect execAux3v3Undervoltage_effect
  | aux3v3Recovered => exact .of_effect execAux3v3Recovered_effect
  | canopyCrystalSwitch => exact .of_effect execCanopyCrystalSwitch_effect
  | canopyCrystalFailure => exact .of_effect execCanopyCrystalFailure_effect
  | kilnOperationDone => exact .of_effect execKilnOperationDone_effect
  | domainRestartComplete _ => exact .of_effect execDomainRestartComplete_effect
  | memoryError _ _ => exact .of_effect execMemoryError_effect
  | pcieErrorReported _ _ _ => exact .of_effect execPcieErrorReported_effect
  | brownOutRecovered => exact .of_effect execBrownOutRecovered_effect
  | overvoltageEnded => exact .of_effect execOvervoltageEnded_effect
  | thermalThrottleEnd => exact .of_effect execThermalThrottleEnd_effect
  | plcaStatusChanged _ _ => exact .of_effect execPlcaStatusChanged_effect
  | stackRelayResponse _ _ => exact .of_effect execStackRelayResponse_effect
  | gptpPdelayResp _ _ _ _ _ _ => exact .of_effect execGptpPdelayResp_effect
  | announceReceived _ => exact .of_effect execAnnounceReceived_effect
  | inboundImageWriteDone _ => exact .of_effect execInboundImageWriteDone_effect
  | activeResumed => exact .of_effect execActiveResumed_effect

/-- A step is the outcome of an effect, on the state without the command that it has taken. -/
theorem step_eq_done (s : State) : ∃ e rest, step s = done e { s with pending := rest } := by
  unfold step
  split
  case h_1 c rest _ =>
    obtain ⟨-, e, he, -⟩ := exec_bounds c { s with pending := rest }
    exact ⟨e, rest, he⟩
  case h_2 => exact ⟨idle, s.pending, rfl⟩

theorem State.Stores.with_pending {s : State} (h : s.Stores) (rest : List Instr) : { s with pending := rest }.Stores :=
  { h with }

/-- Settles O3: a step is an effect, and every primitive update keeps the stores in form; the numbering leaves no event
raised. -/
theorem everyStepKeepsTheInvariant : Obligations.EveryStepKeepsTheInvariant := by
  unfold Obligations.EveryStepKeepsTheInvariant
  intro s hs
  obtain ⟨e, rest, hstep⟩ := step_eq_done s
  exact ⟨_, hstep, done_inv e _ _ (hs.stores.with_pending rest) rfl⟩

/-- Settles O4: a step is an effect, and no primitive update clears an OTP bit. -/
theorem otpBitsOnlyRise : Obligations.OtpBitsOnlyRise := by
  unfold Obligations.OtpBitsOnlyRise
  intro s
  obtain ⟨e, rest, hstep⟩ := step_eq_done s
  exact ⟨_, hstep, Eff.otp_rises _ { s with pending := rest }⟩

/-- Settles O5, command by command: the footprint covers the mask of the command's effect. -/
theorem commandsKeepTheirFrames : Obligations.CommandsKeepTheirFrames := by
  unfold Obligations.CommandsKeepTheirFrames
  exact fun c s => (exec_bounds c s).exists_frames

/-! ## The step on an empty queue, and the state after reset -/

theorem Eff.Within.clock_run {m : Mask} {e : Eff} (he : e.Within tables m) (h : m.parts.testBit Part.clock.bit = false)
    (s : State) : (e.run s).clock = s.clock := (he.keeps_part s .clock h : s.clock = _).symm

theorem deliverEvents_run_of_fifo_nil {s : State} (n : Nat) (hfifo : s.events.fifo = []) : (deliverEvents n).run s = s := by
  cases n with
  | zero => rfl
  | succ n => rw [deliverEvents, Eff.run_look, hfifo]; rfl

/-- What a tick brings after it, the cuts and the PLCA rounds, leaves the clock. -/
theorem afterTick_keepsClock (s : State) :
    ((Eff.whenS State.timeRuns (.seq timedCuts (.look fun s => .forEach s.mediumPorts mediumTick))).run s).clock = s.clock := by
  have hmedium : ∀ t : State, Eff.Within tables _ (.forEach t.mediumPorts mediumTick) := fun _ =>
    Within.forEach fun _ => mediumTick_within (Mask.Le.refl _)
  exact (Within.whenS (Within.seq (timedCuts_within (Mask.Le.via (Mask.Le.refl _) rfl rfl rfl)) (Within.look hmedium))).clock_run
    (by decide +kernel) s

/-- Where no event waits and the time base runs, an idle step takes the clock one tick on (R57). -/
theorem idle_run_clock {s : State} (hruns : s.timeRuns = true) (hfifo : s.events.fifo = []) :
    (idle.run s).clock = s.clock.tick (tickIncrement (s.obj 0x3001 4) s.time.servo.sigma) := by
  have hdeliver : (powered (deliverEvents 8)).run s = s := by
    rw [powered, Eff.run_whenS, deliverEvents_run_of_fifo_nil 8 hfifo, ite_self]
  have hcanopy : ∀ t, (canopyTick.run t).clock = t.clock := (canopyTick_within (Mask.Le.refl _)).clock_run (by decide +kernel)
  unfold idle
  rw [Eff.run_all_cons, Eff.run_all_cons, Eff.run_all_cons, Eff.run_all_cons, Eff.run_all_nil, afterTick_keepsClock, hcanopy,
    hdeliver, Eff.run_whenS, if_pos hruns]
  rfl

theorem timeRuns_of_operating {s : State} (h : s.operating = true) : s.timeRuns = true := by
  simp only [State.operating, Bool.and_eq_true] at h
  simp [State.timeRuns, h]

/-- Settles O1: with the front command by definition; on an empty queue by what the idle effect can write, and its tick. -/
theorem stepTakesTheFrontCommand : Obligations.StepTakesTheFrontCommand := by
  unfold Obligations.StepTakesTheFrontCommand
  refine ⟨fun c rest s => rfl, fun s hpending => ⟨_, by rw [step, hpending]; rfl, ?_, ?_, ?_, ?_⟩⟩
  · rw [Eff.pending_run, hpending]
  · rw [Eff.run_seq, flush_otp]
    exact ((idle_within (Mask.Le.refl _)).keeps_part s .otp (by decide +kernel) : s.otp = _).symm
  · rw [Eff.run_seq, flush_flash]
    exact ((idle_within (Mask.Le.refl _)).keeps_part s .flash (by decide +kernel) : s.flash = _).symm
  · intro hoperating hfifo _
    rw [Eff.run_seq, flush_clock, idle_run_clock (timeRuns_of_operating hoperating) hfifo]

theorem State.reset_stores : State.reset.Stores where
  buffers b := by cases b <;> rfl
  dictOrder := rfl
  dictLean := fun _ h => nomatch h
  counterOrder := rfl
  counterRange := fun _ h => nomatch h
  clampLog := Nat.zero_le _
  mismatchLog := Nat.zero_le _
  wakeLog := by decide
  fifo := ⟨Nat.zero_le _, Nat.zero_le _⟩
  records := fun _ h => nomatch h
  sequence := by decide
  clock := by decide
  txRings := ⟨rfl, fun _ h => nomatch h⟩
  rxRings := ⟨rfl, fun _ h => nomatch h⟩
  queues := ⟨rfl, fun _ h => nomatch h⟩
  vectors := rfl
  functions := rfl
  segments := rfl
  faults := rfl
  ownerSlots := Nat.zero_le _
  rollback := Nat.zero_le _

/-- Settles O2: the stores of the reset state are empty, but for the wake of power-on. -/
theorem resetState : Obligations.ResetState := by
  unfold Obligations.ResetState
  exact ⟨⟨State.reset_stores, rfl⟩, rfl, fun _ => rfl, fun _ => rfl, rfl, rfl, rfl, rfl, rfl, rfl, rfl, rfl⟩

end Sys2Proof.Machine

/-! # Records of the image from flash outside S3 (R43, R53)

O7 to O11 speak of every channel that passes the checks of R42. The image from flash is checked against no mask and no stage (R53),
but is served at S3 only (R43): at any other stage its record changes nothing and gets no answer, as in O12 and O13. -/

namespace Sys2Proof.Machine

/-- What a channel sends while it is not served changes nothing, once no event waits for its number. -/
theorem done_answering_unserved {s : State} {chan : Chan} (h : s.serves chan = false) (e : Eff) :
    done (answering chan e) s = .next (flushEvents.run s) := by
  unfold done
  rw [Eff.run_seq, answering_run_unserved h]

theorem done_writeObject_unserved {s : State} {chan : Chan} (h : s.serves chan = false) (idx sub row : Nat) (v : Int) :
    done (writeObject chan idx sub row v) s = .next (flushEvents.run s) :=
  done_answering_unserved h _

/-- Refutes O7: at S1 the image from flash may read DeviceState, but is not served, so that no response is emitted. -/
theorem not_recordsAnswered : ¬ Obligations.RecordsAnswered := by
  unfold Obligations.RecordsAnswered
  intro h
  obtain ⟨r, hr⟩ : ∃ r, (resetAtStage 1).readAnswer .image false ⟨0x1001, 0, 0, 0⟩ = some r :=
    Option.isSome_iff_exists.1 (by decide +kernel)
  obtain ⟨t, ht, hout, -⟩ := h.1 (resetAtStage 1) .image ⟨0x1001, 0, 0, 0⟩ r (by decide +kernel) hr (by decide)
  have hnext := (done_answering_unserved image_unserved_at_stage_one _).symm.trans ht
  cases hnext
  rw [flush_out] at hout
  exact absurd hout (by simp)

/-- Refutes O8: at S1 a Commit of the image from flash is not served, so that no response is emitted. -/
theorem not_commitAndStagingSet : ¬ Obligations.CommitAndStagingSet := by
  unfold Obligations.CommitAndStagingSet
  intro h
  obtain ⟨t, ht, -, hout⟩ := h.1 (resetAtStage 1) .image (by decide +kernel) rfl
  have hnext := (done_writeObject_unserved image_unserved_at_stage_one _ _ _ _).symm.trans ht
  cases hnext
  rw [flush_out] at hout
  exact absurd hout (by simp)

/-- Refutes O9: at S1 an ImageApply 3 of the image from flash is not served, so that no response is emitted. -/
theorem not_imageCommands : ¬ Obligations.ImageCommands := by
  unfold Obligations.ImageCommands
  intro h
  obtain ⟨-, -, -, hstore⟩ := h
  obtain ⟨t, ht, -, -, hout⟩ := hstore (resetAtStage 1) .image (by decide +kernel)
  have hnext := (done_writeObject_unserved image_unserved_at_stage_one _ _ _ _).symm.trans ht
  cases hnext
  rw [flush_out] at hout
  exact absurd hout (by simp)

/-- Refutes O10: at S1 a ModuleReset of the image from flash is not served, so that no reset waits for its instant. -/
theorem not_actionObjects : ¬ Obligations.ActionObjects := by
  unfold Obligations.ActionObjects
  intro h
  obtain ⟨-, -, -, -, -, -, hreset, -⟩ := h
  obtain ⟨t, ht, hpower, -⟩ := hreset (resetAtStage 1) .image (by decide +kernel)
  have hnext := (done_writeObject_unserved image_unserved_at_stage_one _ _ _ _).symm.trans ht
  cases hnext
  rw [flush_power] at hpower
  exact absurd (congrArg PowerSide.resetDue hpower) (by simp [resetAtStage, PowerSide.reset])

/-- Refutes O11: at S5 a RingEnable of the image from flash is not served, so that the ring function stays disabled. -/
theorem not_switchedFunctions : ¬ Obligations.SwitchedFunctions := by
  unfold Obligations.SwitchedFunctions
  intro h
  obtain ⟨t, ht, hon, -⟩ := h.1 (resetAtStage 5) .image rfl (by decide +kernel) (by decide +kernel) (by decide +kernel)
  have hnext := (done_writeObject_unserved (s := resetAtStage 5) rfl _ _ _ _).symm.trans ht
  cases hnext
  rw [flush_on] at hon
  exact absurd hon (by decide +kernel)

end Sys2Proof.Machine

/-! # Outcomes: what an effect leaves alone, and the records that it leads to

An effect within a mask leaves every part of the state that the mask lacks. The events that an effect has raised and not numbered
are followed by `State.hasRaised`; with room in the FIFO each of them is on record after the meaning. -/

namespace Sys2Proof.Machine

/-! ## What an effect within a mask leaves alone, part by part -/

section
variable {m : Mask} {e : Eff} (he : e.Within tables m) (s : State)
include he

theorem Eff.Within.events_run (h : m.parts.testBit Part.events.bit = false) : (e.run s).events = s.events :=
  (he.keeps_part s .events h : s.events = _).symm
theorem Eff.Within.time_run (h : m.parts.testBit Part.time.bit = false) : (e.run s).time = s.time :=
  (he.keeps_part s .time h : s.time = _).symm
theorem Eff.Within.ring_run (h : m.parts.testBit Part.ring.bit = false) : (e.run s).ring = s.ring :=
  (he.keeps_part s .ring h : s.ring = _).symm
theorem Eff.Within.segments_run (h : m.parts.testBit Part.segments.bit = false) : (e.run s).segments = s.segments :=
  (he.keeps_part s .segments h : s.segments = _).symm
theorem Eff.Within.traffic_run (h : m.parts.testBit Part.traffic.bit = false) : (e.run s).traffic = s.traffic :=
  (he.keeps_part s .traffic h : s.traffic = _).symm
theorem Eff.Within.messages_run (h : m.parts.testBit Part.messages.bit = false) : (e.run s).messages = s.messages :=
  (he.keeps_part s .messages h : s.messages = _).symm
theorem Eff.Within.tx_run (h : m.parts.testBit Part.txRings.bit = false) : (e.run s).host.tx = s.host.tx :=
  (he.keeps_part s .txRings h : s.host.tx = _).symm
theorem Eff.Within.faults_run (h : m.parts.testBit Part.faults.bit = false) : (e.run s).faults = s.faults :=
  (he.keeps_part s .faults h : s.faults = _).symm
theorem Eff.Within.kiln_run (h : m.parts.testBit Part.kiln.bit = false) : (e.run s).kiln = s.kiln :=
  (he.keeps_part s .kiln h : s.kiln = _).symm
theorem Eff.Within.flash_run (h : m.parts.testBit Part.flash.bit = false) : (e.run s).flash = s.flash :=
  (he.keeps_part s .flash h : s.flash = _).symm
theorem Eff.Within.otp_run (h : m.parts.testBit Part.otp.bit = false) : (e.run s).otp = s.otp :=
  (he.keeps_part s .otp h : s.otp = _).symm
theorem Eff.Within.canopy_run (h : m.parts.testBit Part.canopy.bit = false) : (e.run s).canopy = s.canopy :=
  (he.keeps_part s .canopy h : s.canopy = _).symm
theorem Eff.Within.reader_run (h : m.parts.testBit Part.reader.bit = false) : (e.run s).reader = s.reader :=
  (he.keeps_part s .reader h : s.reader = _).symm
theorem Eff.Within.buffers_run (h : m.parts.testBit Part.buffers.bit = false) : (e.run s).buffers = s.buffers :=
  (he.keeps_part s .buffers h : s.buffers = _).symm
theorem Eff.Within.out_run (h : m.parts.testBit Part.out.bit = false) : (e.run s).out = s.out :=
  (he.keeps_part s .out h : s.out = _).symm

end

/-- No region of a mask covers an object of a class, whatever its subindex. -/
def freeClass (t : Tables) (m : Mask) (c : Nat) : Bool :=
  !m.parts.testBit 0 && (members t.regions m.objects).all fun r => !(Nat.ble r.lo c && Nat.ble c r.hi)

theorem freeObj_of_freeClass {t : Tables} {m : Mask} {c : Nat} (h : freeClass t m c = true) (sub : Nat) :
    freeObj t m c sub = true := by
  simp only [freeClass, freeObj, Bool.and_eq_true, List.all_eq_true] at h ⊢
  refine ⟨h.1, fun r hr => ?_⟩
  have := h.2 r hr
  revert this
  cases Nat.ble r.lo c && Nat.ble c r.hi <;> simp

theorem Eff.Within.keeps_index {m : Mask} {e : Eff} (he : e.Within tables m) {idx : Nat}
    (h : freeClass tables m (objClass idx) = true) (s : State) (row sub : Nat) :
    (e.run s).key ⟨idx, row, sub⟩ = s.key ⟨idx, row, sub⟩ :=
  he.keeps_class s ⟨idx, row, sub⟩ rfl (freeObj_of_freeClass h sub)

/-- What every effect of a loop leaves, the loop leaves. -/
theorem Eff.forEach_keeps {α β : Type} (f : State → β) {l : List α} {g : α → Eff} (h : ∀ a s, f ((g a).run s) = f s) (s : State) :
    f ((Eff.forEach l g).run s) = f s := by
  induction l generalizing s with
  | nil => rfl
  | cons a l ih => rw [Eff.run_forEach_cons, ih, h]

/-! ## The dictionary as a whole -/

/-- The parts of the state that the dictionary's record holds. -/
def odParts : List Part := [.dict, .staging, .clampLog, .mailbox, .image]

theorem Upd.od_left (u : Upd) (s : State) (h : ∀ p ∈ odParts, p ∉ u.touches) : (u.apply s).od = s.od := by
  cases u <;> first | rfl | (simp [odParts, Upd.touches, restartParts] at h; done) | (simp only [Upd.apply]; split <;> rfl)

/-- A mask that lacks those parts and has no region. -/
def Mask.sparesOd (m : Mask) : Bool := (odParts.all fun p => !m.parts.testBit p.bit) && m.objects == 0

/-- An effect within such a mask leaves the dictionary as it is, its store among it. -/
theorem Eff.Within.od_run {m : Mask} {e : Eff} (he : e.Within tables m) (h : m.sparesOd = true) (s : State) :
    (e.run s).od = s.od := by
  simp only [Mask.sparesOd, Bool.and_eq_true, List.all_eq_true, Bool.not_eq_true', beq_iff_eq] at h
  obtain ⟨hparts, hobjects⟩ := h
  have hlacks : ∀ p ∈ odParts, ¬m.has p := fun p hp => by simp [Mask.has, hparts p hp]
  refine Eff.relates_only (m.allows tables) (fun a b => b.od = a.od) (fun _ => rfl) (fun _ _ _ h1 h2 => h2.trans h1) ?_ e he.only s
  intro u s hu
  cases u
  case obj k v =>
    rcases hu with hu | ⟨r, hr, -⟩
    · exact absurd hu (hlacks _ (by decide))
    · rw [hobjects, members_zero] at hr
      cases hr
  case count i n => exact Upd.od_left _ s (by simp [odParts, Upd.touches])
  case clearBin i => exact Upd.od_left _ s (by simp [odParts, Upd.touches])
  all_goals exact Upd.od_left _ s fun p hp ht => hlacks p hp (hu p ht)

@[simp] theorem flush_od (s : State) : (flushEvents.run s).od = s.od := flush_within.od_run rfl s

@[simp] theorem flush_clockState (s : State) : (flushEvents.run s).clockState = s.clockState := flush_n s _ _ _
@[simp] theorem flush_ringState (s : State) : (flushEvents.run s).ringState = s.ringState := flush_n s _ _ _

/-! ## Events raised and not numbered -/

/-- From `s` to `u` these events have been raised, and none numbered. -/
structure State.hasRaised (s u : State) (l : List Raised) : Prop where
  raised : u.events.raised = s.events.raised ++ l
  fifo : u.events.fifo = s.events.fifo
  backlog : u.events.backlog = s.events.backlog

theorem State.hasRaised.refl (s : State) : s.hasRaised s [] := ⟨(List.append_nil _).symm, rfl, rfl⟩

theorem State.hasRaised.of_events_eq {s u : State} (h : u.events = s.events) : s.hasRaised u [] := by
  constructor <;> simp [h]

theorem State.hasRaised.trans {s t u : State} {l m : List Raised} (hst : s.hasRaised t l) (htu : t.hasRaised u m) :
    s.hasRaised u (l ++ m) where
  raised := by rw [htu.raised, hst.raised, List.append_assoc]
  fifo := htu.fifo.trans hst.fifo
  backlog := htu.backlog.trans hst.backlog

theorem State.hasRaised.quiet_trans {s t u : State} {l : List Raised} (hst : s.hasRaised t []) (htu : t.hasRaised u l) :
    s.hasRaised u l := hst.trans htu

theorem State.hasRaised.trans_quiet {s t u : State} {l : List Raised} (hst : s.hasRaised t l) (htu : t.hasRaised u []) :
    s.hasRaised u l := List.append_nil l ▸ hst.trans htu

/-- With room for them, each event raised is on record once they have been numbered. -/
theorem State.hasRaised.mem_record {s u : State} {l : List Raised} {n : Nat} (h : s.hasRaised u l) (hroom : s.room n)
    (hlength : l.length ≤ n) : ∃ new, (flushEvents.run u).events.fifo = s.events.fifo ++ new ∧
      ∀ x ∈ l, ∃ r ∈ new, r.of x := by
  obtain ⟨hnone, hbacklog⟩ := hroom
  have hraised : u.events.raised = l := by rw [h.raised, hnone, List.nil_append]
  obtain ⟨new, hfifo, hall⟩ := flush_room u (by rw [h.backlog, hraised]; omega)
  rw [hraised] at hall
  exact ⟨new, by rw [hfifo, h.fifo], fun x hx => forall2_mem hall ((mem_sortRaised x l).2 hx)⟩

theorem State.hasRaised.records {s u : State} {l : List Raised} {n source arg : Nat} (h : s.hasRaised u l) (hroom : s.room n)
    (hlength : l.length ≤ n) (hmem : ∃ x ∈ l, x.source = source ∧ x.arg = arg) (hsource : source < 1024)
    (harg : arg < 2147483648) : s.records (flushEvents.run u) source arg := by
  obtain ⟨new, hfifo, hall⟩ := h.mem_record hroom hlength
  obtain ⟨x, hx, rfl, rfl⟩ := hmem
  obtain ⟨r, hr, -, hrs, -, hra, -⟩ := hall x hx
  exact ⟨new, hfifo, r, hr, hrs.trans (Nat.mod_eq_of_lt hsource), hra.trans (Nat.mod_eq_of_lt harg)⟩

theorem State.hasRaised.recordsPort {s u : State} {l : List Raised} {n p reason arg : Nat} (h : s.hasRaised u l)
    (hroom : s.room n) (hlength : l.length ≤ n) (hmem : ∃ x ∈ l, x.source = p ∧ x.reason = reason ∧ x.arg = arg)
    (hp : p < 1024) (hreason : reason < 64) (harg : arg < 2147483648) :
    s.recordsPort (flushEvents.run u) p reason arg := by
  obtain ⟨new, hfifo, hall⟩ := h.mem_record hroom hlength
  obtain ⟨x, hx, rfl, rfl, rfl⟩ := hmem
  obtain ⟨r, hr, -, hrs, hrr, hra, -⟩ := hall x hx
  exact ⟨new, hfifo, r, hr, hrs.trans (Nat.mod_eq_of_lt hp), hrr.trans (Nat.mod_eq_of_lt hreason),
    hra.trans (Nat.mod_eq_of_lt harg)⟩

theorem Eff.Within.raisesNothing {m : Mask} {e : Eff} (he : e.Within tables m) (h : m.parts.testBit Part.events.bit = false)
    (s : State) : s.hasRaised (e.run s) [] :=
  .of_events_eq (he.events_run s h)

@[simp] theorem raiseFull_run_events (severity source reason arg : Nat) (queue : Option Nat) (s : State) :
    ((raiseFull severity source reason arg queue).run s).events =
      { s.events with raised := s.events.raised ++ [⟨severity, source, reason, arg, queue⟩] } := rfl

theorem raiseFull_hasRaised (severity source reason arg : Nat) (queue : Option Nat) (s : State) :
    s.hasRaised ((raiseFull severity source reason arg queue).run s) [⟨severity, source, reason, arg, queue⟩] :=
  ⟨rfl, rfl, rfl⟩

theorem raise_hasRaised (source arg : Nat) (s : State) : s.hasRaised ((raise source arg).run s) [⟨0, source, 0, arg, none⟩] :=
  ⟨rfl, rfl, rfl⟩

/-! ## An occurrence of a fault class that leaves its instances as they are (R354) -/

/-- An occurrence of a fault class that makes nothing lasting. -/
def faultNoted (cls inst : Nat) (report : Nat → Eff) : Eff := faultOccurBy (fun _ _ _ => .skip) cls inst report

theorem faultOccur_run_of_stays {s : State} {cls inst : Nat} (h : s.staysAsItIs cls inst = true) (report : Nat → Eff) :
    (faultOccur cls inst report).run s = (faultNoted cls inst report).run s := by
  have hlasts : (!(s.faults.instances.getD (faultKey cls inst) FaultInstance.init).lasting &&
      decide (s.n 0xB000 1 cls ≤ windowCount (bumpBucket (s.faults.instances.getD (faultKey cls inst)
        FaultInstance.init).buckets (s.bucketAt cls)) (s.bucketAt cls))) = false := by
    simp only [State.staysAsItIs, Bool.or_eq_true, decide_eq_true_eq] at h
    rcases h with h | h
    · simp [h]
    · simp [Nat.not_le_of_lt h]
  unfold faultOccur faultNoted faultOccurBy
  simp only [Eff.run_look, hlasts, Eff.run_all_cons, Eff.run_when_false]

theorem faultNoted_within {cls inst source arg : Nat} :
    Eff.Within tables ⟨0x21000480, 0x1e0000000000000000000000000000000000000000000000000, 0x3100000000000000000000000000000⟩
      (faultNoted cls inst fun sev => raiseSev sev source arg) :=
  faultOccurBy_within (Mask.Le.refl _) (fun _ _ _ => Within.skip) fun _ => raiseSev_within (Mask.Le.via (Mask.Le.refl _) rfl rfl rfl)

theorem faultEvent_run_of_stays {s : State} {cls inst : Nat} (h : s.staysAsItIs cls inst = true) (source arg : Nat) :
    (faultEvent cls inst source arg).run s = (faultNoted cls inst fun sev => raiseSev sev source arg).run s :=
  faultOccur_run_of_stays h _

/-- It raises its event, and event 899 where the class reports every occurrence. -/
theorem faultEvent_hasRaised {s : State} {cls inst : Nat} (h : s.staysAsItIs cls inst = true) (source arg : Nat) :
    ∃ sev extra, extra.length ≤ 1 ∧
      s.hasRaised ((faultEvent cls inst source arg).run s) (⟨sev, source, 0, arg, none⟩ :: extra) := by
  obtain ⟨sev, extra, hraised, hlength, hfifo, hbacklog⟩ := faultEvent_run_raised (source := source) (arg := arg) h
  exact ⟨sev, extra, hlength, hraised, hfifo, hbacklog⟩

/-- Whether an occurrence leaves its instances as they are depends on the instances, the clock and the class's configuration alone. -/
theorem staysAsItIs_congr {s t : State} (hfaults : t.faults = s.faults) (hclock : t.clock = s.clock)
    (hkey : ∀ row sub, t.key ⟨0xB000, row, sub⟩ = s.key ⟨0xB000, row, sub⟩) (cls inst : Nat) :
    t.staysAsItIs cls inst = s.staysAsItIs cls inst := by
  simp [State.staysAsItIs, State.bucketAt, State.now, State.n, State.obj, hfaults, hclock, hkey]

end Sys2Proof.Machine

/-! # The local clock (chapter 3)

The clock's state machine, its servo and steps, the PPS pins and the time-event pins. -/

namespace Sys2Proof.Machine

/-! ## The clock state (Table 3.4) -/

theorem showSource_run_clockState (s : State) : (showSource.run s).clockState = s.clockState :=
  congrArg Int.toNat ((showSource_within (Mask.Le.refl _)).keeps_obj s (idx := 0x3001) (sub := 1) (by decide +kernel))

theorem setClockState_run_clockState (new : Nat) (s : State) : ((setClockState new).run s).clockState = new := by
  unfold setClockState
  rw [Eff.run_seq, showSource_run_clockState, Eff.run_whenS]
  split
  case isTrue => simp [State.clockState, State.n, State.obj, setN, setObj, key_obj, raise, raiseFull, count, Upd.touches]
  case isFalse h => simpa using h

/-- A change of the clock state raises event 512. -/
theorem setClockState_hasRaised (new : Nat) (s : State) :
    s.hasRaised ((setClockState new).run s) (if s.clockState = new then [] else [⟨0, 512, 0, 0, none⟩]) := by
  unfold setClockState
  rw [Eff.run_seq]
  refine State.hasRaised.trans_quiet ?_ ((showSource_within (Mask.Le.refl _)).raisesNothing rfl _)
  rw [Eff.run_whenS]
  by_cases h : s.clockState = new
  · simpa [h] using State.hasRaised.refl s
  · rw [if_pos (by simpa using h), if_neg h]
    constructor <;> simp [setN, setObj, raise, raiseFull, count, Upd.touches]

theorem setClockState_run_rate (new : Nat) (s : State) : ((setClockState new).run s).obj 0x3001 4 = s.obj 0x3001 4 :=
  (setClockState_within (Mask.Le.refl _)).keeps_obj s (by decide +kernel)

theorem setClockState_run_clock (new : Nat) (s : State) : ((setClockState new).run s).clock = s.clock :=
  (setClockState_within (Mask.Le.refl _)).clock_run rfl s

theorem setClockState_run_time (new : Nat) (s : State) : ((setClockState new).run s).time = s.time :=
  (setClockState_within (Mask.Le.refl _)).time_run s rfl

/-! ## The entry into HOLDOVER (R66, R69) -/

theorem setSlew_run_time (sigma adjust : Int) (s : State) : ((setSlew sigma adjust).run s).time =
    { s.time with servo := { s.time.servo with
        sigma := sigma, adjust := adjust, slewAt := s.now
        slews := if sigma = s.time.servo.sigma then s.time.servo.slews else ((s.now, sigma) :: s.time.servo.slews).take 8 } } :=
  rfl

theorem forgetSource_run_time (s : State) : (forgetSource.run s).time =
    { s.time with servo := { s.time.servo with prev := none, lockRun := 0, overRun := 0, pendingStep := none } } := rfl

theorem enterHoldover_run_sigma (s : State) : (enterHoldover.run s).time.servo.sigma = 0 := rfl

/-- The rate is frozen at the mean of the last estimates, within its range. -/
theorem enterHoldover_run_rate (s : State) : (enterHoldover.run s).obj 0x3001 4 =
    clampInt (-219902325) 219902325 (meanRate (s.obj 0x3001 4) (s.time.servo.estimates.take (s.n 0x3110 7))) := by
  simp [enterHoldover, freezeRate, setRate, setSlew, forgetSource, servoSet, setObj, State.obj, rateLimit, Upd.touches]

theorem enterHoldover_run_clockState (s : State) : (enterHoldover.run s).clockState = s.clockState :=
  congrArg Int.toNat ((enterHoldover_within (Mask.Le.refl _)).keeps_obj s (idx := 0x3001) (sub := 1) (by decide +kernel))

/-- What the entry into HOLDOVER and the loss of the measurements leave of what a fault's window looks at. -/
theorem enterHoldover_run_staysAsItIs (s : State) (cls inst : Nat) :
    (enterHoldover.run s).staysAsItIs cls inst = s.staysAsItIs cls inst :=
  staysAsItIs_congr ((enterHoldover_within (Mask.Le.refl _)).faults_run s rfl) ((enterHoldover_within (Mask.Le.refl _)).clock_run rfl s)
    ((enterHoldover_within (Mask.Le.refl _)).keeps_index (by decide +kernel) s) cls inst

theorem forgetSource_run_staysAsItIs (s : State) (cls inst : Nat) :
    (forgetSource.run s).staysAsItIs cls inst = s.staysAsItIs cls inst := rfl

/-! ## A clock state left without a measurement (R65) -/

theorem sourceLost_run_of_locked {s : State} (hstate : s.clockState = 2) (hgone : s.sourceGone = true) (hsource : s.timeSource ≠ 4) :
    sourceLost.run s = (Eff.all [enterHoldover, faultEvent 12 0 513 0, setClockState ckHoldover]).run s := by
  simp [sourceLost, hstate, hgone, hsource, ckLocked, ckAcquiring]

theorem sourceLost_run_of_acquiring {s : State} (hstate : s.clockState = 1) (hgone : s.sourceGone = true)
    (hsource : s.timeSource ≠ 4) :
    sourceLost.run s = (Eff.all [forgetSource, faultEvent 12 0 513 0, setClockState ckFreeRun]).run s := by
  simp [sourceLost, hstate, hgone, hsource, ckLocked, ckAcquiring]

/-- A fault of class 12 that makes nothing lasting, between two parts of a meaning: the clock's objects, its time base and its
clock stand, and events 513 and 512 are on record. -/
theorem lossEvent_then_state {s u : State} {new : Nat} (hraised : s.hasRaised u []) (hroom : s.room 3)
    (hstays : u.staysAsItIs 12 0 = true) (hstate : u.clockState ≠ new) :
    let v := (setClockState new).run ((faultEvent 12 0 513 0).run u)
    v.clockState = new ∧ v.time = u.time ∧ v.clock = u.clock ∧ v.obj 0x3001 4 = u.obj 0x3001 4 ∧
      s.records (flushEvents.run v) 513 0 ∧ s.records (flushEvents.run v) 512 0 := by
  intro v
  have hwithin := faultNoted_within (cls := 12) (inst := 0) (source := 513) (arg := 0)
  have hrun := faultEvent_run_of_stays hstays 513 0
  have hkeeps : ∀ sub, freeObj tables _ (objClass 0x3001) sub = true →
      ((faultEvent 12 0 513 0).run u).obj 0x3001 sub = u.obj 0x3001 sub := fun _ h => by
    rw [hrun]; exact hwithin.keeps_obj u h
  obtain ⟨sev, extra, hlength, hfault⟩ := faultEvent_hasRaised hstays 513 0
  have hchange := setClockState_hasRaised new ((faultEvent 12 0 513 0).run u)
  rw [if_neg (by rw [State.clockState, State.n, hkeeps 1 (by decide +kernel)]; exact hstate)] at hchange
  have hall : s.hasRaised v _ := (hraised.trans hfault).trans hchange
  have hsize : ∀ a b : Raised, ([] ++ (a :: extra) ++ [b]).length ≤ 3 := fun a b => by simp; omega
  refine ⟨setClockState_run_clockState _ _, ?_, ?_, ?_, hall.records hroom (hsize _ _) ?_ (by decide) (by decide),
    hall.records hroom (hsize _ _) ?_ (by decide) (by decide)⟩
  · rw [setClockState_run_time, hrun, hwithin.time_run u rfl]
  · rw [setClockState_run_clock, hrun, hwithin.clock_run rfl u]
  · rw [setClockState_run_rate, hkeeps 4 (by decide +kernel)]
  · exact ⟨⟨sev, 513, 0, 0, none⟩, by simp, rfl, rfl⟩
  · exact ⟨⟨0, 512, 0, 0, none⟩, by simp, rfl, rfl⟩

theorem exec_sourceLoss_of_locked {s : State} (hstate : s.clockState = 2) (hgone : s.sourceGone = true) (hsource : s.timeSource ≠ 4)
    (hstays : s.staysAsItIs 12 0 = true) (hroom : s.room 3) :
    ∃ t, exec .sourceLoss s = .next t ∧ t.clockState = 3 ∧ t.time.servo.sigma = 0 ∧ t.obj 0x3001 4 = clampInt
    (-219902325) 219902325 (meanRate (s.obj 0x3001 4) (s.time.servo.estimates.take (s.n 0x3110 7))) ∧ t.now = s.now ∧
    s.records t 513 0 ∧ s.records t 512 0 := by
  have hwithin := enterHoldover_within (Mask.Le.refl _)
  obtain ⟨hclockState, htime, hclock, hrate, h513, h512⟩ := lossEvent_then_state (new := ckHoldover)
    (hwithin.raisesNothing rfl s) hroom ((enterHoldover_run_staysAsItIs s 12 0).trans hstays)
    (by rw [enterHoldover_run_clockState, hstate]; decide)
  refine ⟨_, rfl, ?_⟩
  rw [Eff.run_seq, sourceLost_run_of_locked hstate hgone hsource]
  simp only [Eff.run_all_cons, Eff.run_all_nil, flush_clockState, flush_obj, flush_now, flush_time]
  refine ⟨hclockState, ?_, ?_, ?_, h513, h512⟩
  · rw [htime, enterHoldover_run_sigma]
  · rw [hrate, enterHoldover_run_rate]
  · rw [State.now, hclock, hwithin.clock_run rfl s, State.now]

theorem exec_sourceLoss_of_acquiring {s : State} (hstate : s.clockState = 1) (hgone : s.sourceGone = true)
    (hsource : s.timeSource ≠ 4) (hstays : s.staysAsItIs 12 0 = true) (hroom : s.room 3) :
    ∃ t, exec .sourceLoss s = .next t ∧ t.clockState = 0 ∧ t.obj 0x3001 4 = s.obj 0x3001 4 ∧ t.now = s.now ∧ s.records
    t 513 0 ∧ s.records t 512 0 := by
  obtain ⟨hclockState, -, hclock, hrate, h513, h512⟩ := lossEvent_then_state (new := ckFreeRun)
    ((forgetSource_within (Mask.Le.refl _)).raisesNothing rfl s) hroom ((forgetSource_run_staysAsItIs s 12 0).trans hstays)
    (show s.clockState ≠ ckFreeRun by rw [hstate]; decide)
  refine ⟨_, rfl, ?_⟩
  rw [Eff.run_seq, sourceLost_run_of_acquiring hstate hgone hsource]
  simp only [Eff.run_all_cons, Eff.run_all_nil, flush_clockState, flush_obj, flush_now]
  exact ⟨hclockState, hrate, congrArg Clock.units hclock, h513, h512⟩

theorem exec_holdoverLimit_reached {s : State} (hstate : s.clockState = 3) (hlimit : s.n 0x3001 5 + nsUnits (s.n 0x3110 8) ≤ s.now)
    (hroom : s.room 2) :
    ∃ t, exec .holdoverLimit s = .next t ∧ t.clockState = 0 ∧ t.obj 0x3001 4 = s.obj 0x3001 4 ∧ t.clock = s.clock ∧
    s.records t 516 0 ∧ s.records t 512 0 := by
  have hraised := (raise_hasRaised 516 0 s).trans (setClockState_hasRaised ckFreeRun ((raise 516).run s))
  rw [if_neg (show ((raise 516).run s).clockState ≠ ckFreeRun from (hstate.trans_ne (by decide) : s.clockState ≠ _))] at hraised
  refine ⟨_, rfl, ?_⟩
  rw [Eff.run_seq, holdoverEnds, Eff.run_whenS, hstate, if_pos (by simp [hlimit, ckHoldover])]
  simp only [Eff.run_seq, flush_clockState, flush_obj, flush_clock]
  refine ⟨setClockState_run_clockState _ _, setClockState_run_rate _ _, setClockState_run_clock _ _,
    hraised.records hroom (by simp) ?_ (by decide) (by decide), hraised.records hroom (by simp) ?_ (by decide) (by decide)⟩
  · exact ⟨⟨0, 516, 0, 0, none⟩, by simp, rfl, rfl⟩
  · exact ⟨⟨0, 512, 0, 0, none⟩, by simp, rfl, rfl⟩

theorem exec_holdoverLimit_before {s : State} (hbefore : s.now < s.n 0x3001 5 + nsUnits (s.n 0x3110 8)) :
    ∃ t, exec .holdoverLimit s = .next t ∧ t.od = s.od ∧ t.clock = s.clock := by
  have hrun : holdoverEnds.run s = s := by
    rw [holdoverEnds, Eff.run_whenS, if_neg (by simp [Nat.not_le_of_lt hbefore])]
  refine ⟨_, rfl, ?_, ?_⟩
  · rw [Eff.run_seq, hrun, flush_od]
  · rw [Eff.run_seq, hrun, flush_clock]

/-- A reference fault reports itself, freezes the rate where the clock was not in HOLDOVER, and leads to HOLDOVER. -/
theorem exec_referenceFault {s : State} (hroom : s.room 2) :
    ∃ t, exec .referenceFault s = .next t ∧ t.clockState = 3 ∧ (s.clockState = 3 ∨ t.time.servo.sigma = 0) ∧ t.clock =
    s.clock ∧ s.records t 519 0 ∧ (s.clockState = 3 ∨ s.records t 512 0) := by
  have hwithin := Within.whenS (c := fun s => s.clockState != ckHoldover) (enterHoldover_within (Mask.Le.refl _))
  set u := (Eff.whenS (fun s => s.clockState != ckHoldover) enterHoldover).run ((raise 519).run s) with hu
  have hstate : u.clockState = s.clockState :=
    congrArg Int.toNat (hwithin.keeps_obj ((raise 519).run s) (idx := 0x3001) (sub := 1) (by decide +kernel))
  have hraised := ((raise_hasRaised 519 0 s).trans_quiet (hwithin.raisesNothing rfl _)).trans (setClockState_hasRaised ckHoldover u)
  have hsize : ([⟨0, 519, 0, 0, none⟩] ++ if u.clockState = ckHoldover then [] else [⟨0, 512, 0, 0, none⟩] : List Raised).length ≤ 2 := by
    split <;> simp
  refine ⟨_, rfl, ?_⟩
  rw [Eff.run_seq, referenceFails]
  simp only [Eff.run_all_cons, Eff.run_all_nil, ← hu]
  refine ⟨?_, ?_, ?_, hraised.records hroom hsize ⟨⟨0, 519, 0, 0, none⟩, by simp, rfl, rfl⟩ (by decide) (by decide), ?_⟩
  · rw [flush_clockState]
    exact setClockState_run_clockState _ _
  · by_cases h : s.clockState = 3
    · exact .inl h
    · rw [flush_time, setClockState_run_time, hu, Eff.run_whenS, if_pos]
      · exact .inr rfl
      · exact bne_iff_ne.2 h
  · rw [flush_clock, setClockState_run_clock, hwithin.clock_run rfl]
    rfl
  · by_cases h : s.clockState = 3
    · exact .inl h
    · rw [if_neg (by rw [hstate]; exact h)] at hraised
      exact .inr (hraised.records hroom (by simp) ⟨⟨0, 512, 0, 0, none⟩, by simp, rfl, rfl⟩ (by decide) (by decide))

/-- Settles O14, by the command and the clock state that it finds. -/
theorem clockLeavesStateWithoutMeasurement : Obligations.ClockLeavesStateWithoutMeasurement := by
  unfold Obligations.ClockLeavesStateWithoutMeasurement
  exact ⟨fun _ => exec_sourceLoss_of_locked, fun _ => exec_sourceLoss_of_acquiring, fun _ => exec_holdoverLimit_reached,
    fun _ => exec_holdoverLimit_before, fun _ => exec_referenceFault⟩

end Sys2Proof.Machine

/-! # Steps, slews and pins of the local clock (R64, R69, R78 to R80) -/

namespace Sys2Proof.Machine

/-! ## The step of the clock -/

theorem bumpObj_run_key (idx sub row n : Nat) (s : State) (k : Key) : ((bumpObj idx sub row n).run s).key k =
    if k = ⟨idx, row, sub⟩ then (s.obj idx sub row + (n : Int)) % (match cellOf idx sub with | some c => c.ty.maxVal + 1 | none => 1)
    else s.key k := key_obj s ⟨idx, row, sub⟩ k _

theorem bumpObj_run_u32 {idx sub : Nat} {c : Cell} (hcell : cellOf idx sub = some c) (hty : c.ty = .u32) (row : Nat) (s : State) :
    ((bumpObj idx sub row).run s).obj idx sub row = (s.obj idx sub row + 1) % 4294967296 := by
  rw [State.obj, bumpObj_run_key, if_pos rfl, hcell]
  simp [hty, Ty.maxVal]

@[simp] theorem bumpObj_run_events (idx sub row n : Nat) (s : State) : ((bumpObj idx sub row n).run s).events = s.events := rfl
@[simp] theorem bumpObj_run_time (idx sub row n : Nat) (s : State) : ((bumpObj idx sub row n).run s).time = s.time := rfl
@[simp] theorem bumpObj_run_clock (idx sub row n : Nat) (s : State) : ((bumpObj idx sub row n).run s).clock = s.clock := rfl

/-- A change of the ring state raises event 448. -/
theorem setRingState_run_ringState (new : Nat) (s : State) : ((setRingState new).run s).ringState = new := by
  unfold setRingState
  rw [Eff.run_whenS]
  split
  case isTrue => simp [State.ringState, State.n, State.obj, setN, setObj, raise, raiseFull, count, Upd.touches]
  case isFalse h => simpa using h

theorem setRingState_hasRaised (new : Nat) (s : State) :
    s.hasRaised ((setRingState new).run s) (if s.ringState = new then [] else [⟨0, 448, 0, 0, none⟩]) := by
  unfold setRingState
  rw [Eff.run_whenS]
  by_cases h : s.ringState = new
  · simpa [h] using State.hasRaised.refl s
  · rw [if_pos (by simpa using h), if_neg h]
    constructor <;> simp [setN, setObj, raise, raiseFull, count, Upd.touches]

theorem setRingState_run_clock (new : Nat) (s : State) : ((setRingState new).run s).clock = s.clock := by
  simp only [setRingState, Eff.run_whenS]
  split <;> rfl

theorem armPulses_run_servo (pin : Nat) (s : State) : ((armPulses pin).run s).time.servo = s.time.servo := by
  unfold armPulses
  rw [Eff.run_look]
  dsimp only
  split <;> rfl

theorem pinsFollowStep_run_servo (moved : Int) (s : State) : ((pinsFollowStep moved).run s).time.servo = s.time.servo := by
  unfold pinsFollowStep
  rw [Eff.run_seq, Eff.run_look]
  exact Eff.forEach_keeps (fun s => s.time.servo) armPulses_run_servo _

/-- The part of a step that sets the clock and moves what the segments, the MACs and gPTP have timed with it. -/
def clockMoves (t : Nat) (moved : Int) : Eff :=
  .look fun s => .all [.upd (.setClock t),
    .forEach s.segments fun e => .upd (.segment e.1 fun g => { g with
        offset48 := g.offset48 - moved * 4294967296
        timerEnd := shifted moved g.timerEnd
        plca := { g.plca with expires := shifted moved g.plca.expires }
        leaving := g.leaving.map fun e => (e.1, { e.2 with endsAt := shifted moved e.2.endsAt }) }),
    .upd (.traffic fun t => { t with macs := t.macs.map fun m =>
      (m.1, { m.2 with startedAt := shifted moved m.2.startedAt, backoffEnd := shifted moved m.2.backoffEnd }) }),
    .upd (.time fun t => { t with gptp := t.gptp.map fun g =>
      (g.1, { g.2 with sentAt := g.2.sentAt.map (shifted moved)
                       lastResponse := g.2.lastResponse.map fun r => (r.1, shifted moved r.2) }) })]

/-- The part of a step after it: the cycle counter, the count of steps, the servo, the pins, the event, the follower. -/
def stepFollows (t : Nat) (moved : Int) (cycle : Nat) : Eff :=
  .all [setN 0x4001 6 cycle, bumpObj 0x3001 6,
    servoSet (fun v => { v with prev := none, slews := [(t, v.sigma)], slewAt := stepped moved v.slewAt }),
    pinsFollowStep moved, raise 515, .whenS (fun s => s.ringState == ringFollower) (setRingState ringSapling)]

/-- The instant that a step leads to. -/
def State.stepTarget (s : State) (delta : Int) : Nat := ((s.now : Int) + delta).toNat

theorem stepClock_run_eq (delta : Int) (s : State) : (stepClock delta).run s =
    (stepFollows (s.stepTarget delta) ((s.stepTarget delta : Int) - s.now) (s.stepTarget delta / s.cycleUnits)).run
      ((clockMoves (s.stepTarget delta) ((s.stepTarget delta : Int) - s.now)).run s) := by
  simp only [stepClock, stepFollows, clockMoves, State.stepTarget, Eff.run_look, Eff.run_all_cons, Eff.run_all_nil]

theorem clockMoves_keeps {β : Type} (f : State → β) (hclock : ∀ t s, f (Upd.apply (.setClock t) s) = f s)
    (hsegment : ∀ p g s, f (Upd.apply (.segment p g) s) = f s) (htraffic : ∀ g s, f (Upd.apply (.traffic g) s) = f s)
    (htime : ∀ (g : TimeBase → PMap GptpPort) s, f (Upd.apply (.time fun t => { t with gptp := g t }) s) = f s) (t : Nat) (moved : Int) (s : State) :
    f ((clockMoves t moved).run s) = f s := by
  unfold clockMoves
  simp only [Eff.run_look, Eff.run_all_cons, Eff.run_all_nil, Eff.run_upd]
  rw [htime, htraffic]
  refine (Eff.forEach_keeps f ?_ _).trans (hclock _ _)
  exact fun _ _ => hsegment _ _ _

theorem clockMoves_run_key (t : Nat) (moved : Int) (s : State) (k : Key) : ((clockMoves t moved).run s).key k = s.key k :=
  clockMoves_keeps (·.key k) (fun _ _ => rfl) (fun _ _ _ => rfl) (fun _ _ => rfl) (fun _ _ => rfl) t moved s

theorem clockMoves_run_events (t : Nat) (moved : Int) (s : State) : ((clockMoves t moved).run s).events = s.events :=
  clockMoves_keeps (·.events) (fun _ _ => rfl) (fun _ _ _ => rfl) (fun _ _ => rfl) (fun _ _ => rfl) t moved s

theorem clockMoves_run_servo (t : Nat) (moved : Int) (s : State) : ((clockMoves t moved).run s).time.servo = s.time.servo :=
  clockMoves_keeps (·.time.servo) (fun _ _ => rfl) (fun _ _ _ => rfl) (fun _ _ => rfl) (fun _ _ => rfl) t moved s

theorem clockMoves_run_clock (t : Nat) (moved : Int) (s : State) : ((clockMoves t moved).run s).clock = Clock.ofUnits t := by
  unfold clockMoves
  simp only [Eff.run_look, Eff.run_all_cons, Eff.run_all_nil, Eff.run_upd]
  exact Eff.forEach_keeps (·.clock) (fun _ _ => rfl) _

/-- The part of `stepFollows` before the event and the follower. -/
def stepCounts (t : Nat) (moved : Int) (cycle : Nat) : Eff :=
  .all [setN 0x4001 6 cycle, bumpObj 0x3001 6,
    servoSet (fun v => { v with prev := none, slews := [(t, v.sigma)], slewAt := stepped moved v.slewAt }), pinsFollowStep moved]

theorem stepCounts_run (t : Nat) (moved : Int) (cycle : Nat) (s : State) :
    let w := (stepCounts t moved cycle).run s
    w.clock = s.clock ∧ w.time.servo.pendingStep = s.time.servo.pendingStep ∧ w.events = s.events ∧
      w.obj 0x3001 6 = (s.obj 0x3001 6 + 1) % 4294967296 ∧ w.ringState = s.ringState := by
  have hpins := pinsFollowStep_within (Mask.Le.refl _) (moved := moved)
  unfold stepCounts
  simp only [Eff.run_all_cons, Eff.run_all_nil]
  generalize hservo : servoSet _ = servo
  have hkey : ∀ u k, (servo.run u).key k = u.key k := by subst hservo; exact fun _ _ => rfl
  rw [hpins.clock_run rfl, pinsFollowStep_run_servo, hpins.events_run _ rfl, hpins.keeps_obj _ (by decide +kernel), State.ringState,
    State.n, hpins.keeps_obj _ (by decide +kernel)]
  subst hservo
  refine ⟨rfl, rfl, rfl, ?_, ?_⟩
  · rw [State.obj, hkey]
    exact (bumpObj_run_u32 (c := cell .u32) rfl rfl 0 _).trans (by simp [State.obj, setN, setObj, key_obj])
  · rw [State.obj, hkey, bumpObj_run_key]
    simp [State.ringState, State.n, State.obj, setN, setObj, key_obj]

/-- What of a step changes the objects: the cycle counter, the count of steps, and the ring state of a follower. -/
theorem stepFollows_run (t : Nat) (moved : Int) (cycle : Nat) (s : State) :
    let u := (stepFollows t moved cycle).run s
    u.clock = s.clock ∧ u.time.servo.pendingStep = s.time.servo.pendingStep ∧
      u.obj 0x3001 6 = (s.obj 0x3001 6 + 1) % 4294967296 ∧ (s.ringState ≠ 3 ∨ u.ringState = 2) ∧
      ∃ l, l.length ≤ 1 ∧ s.hasRaised u (⟨0, 515, 0, 0, none⟩ :: l) := by
  obtain ⟨hclock, hservo, hevents, hcount, hstate⟩ := stepCounts_run t moved cycle s
  have hsplit : (stepFollows t moved cycle).run s = (Eff.whenS (fun s => s.ringState == ringFollower) (setRingState ringSapling)).run
      ((raise 515).run ((stepCounts t moved cycle).run s)) := rfl
  rw [hsplit]
  generalize (stepCounts t moved cycle).run s = w at *
  have hraised : s.hasRaised ((raise 515).run w) [⟨0, 515, 0, 0, none⟩] :=
    .quiet_trans (.of_events_eq hevents) (raise_hasRaised 515 0 w)
  have hraiseState : ((raise 515).run w).ringState = s.ringState := hstate
  have hwithin := setRingState_within (Mask.Le.refl _) (new := ringSapling)
  rw [Eff.run_whenS, hraiseState]
  split
  case isTrue h =>
    have hfollower : s.ringState = 3 := by simpa [ringFollower] using h
    refine ⟨?_, ?_, ?_, .inr (setRingState_run_ringState _ _), [⟨0, 448, 0, 0, none⟩], by simp, ?_⟩
    · rw [setRingState_run_clock]; exact hclock
    · rw [hwithin.time_run _ rfl]; exact hservo
    · rw [hwithin.keeps_obj _ (by decide +kernel)]; exact hcount
    · have hchange := setRingState_hasRaised ringSapling ((raise 515).run w)
      rw [if_neg (by rw [hraiseState, hfollower]; decide)] at hchange
      exact hraised.trans hchange
  case isFalse h =>
    exact ⟨hclock, hservo, hcount, .inl (by simpa [ringFollower] using h), [], by simp, hraised⟩

/-! ## The automatic step (R64) -/

theorem exec_automaticStep_taken {s : State} {d : Int} (hpending : s.time.servo.pendingStep = some d) (hstate : s.clockState = 1)
    (hsteps : s.neverSteps = false) (hroom : s.room 2) :
    ∃ t, exec .automaticStep s = .next t ∧ t.clock = Clock.ofUnits (((s.now : Int) + d).toNat) ∧
    t.time.servo.pendingStep = none ∧ t.obj 0x3001 6 = (s.obj 0x3001 6 + 1) % 4294967296 ∧ s.records t 515 0 ∧
    (s.ringState ≠ 3 ∨ t.ringState = 2) := by
  set u := (servoSet fun w => { w with pendingStep := none }).run s with hu
  have hrun : automaticStepAct.run s = (stepClock d).run u := by
    simp only [automaticStepAct, Eff.run_look, hpending, hstate, hsteps, Eff.run_seq]
    rfl
  have hnow : u.stepTarget d = ((s.now : Int) + d).toNat := rfl
  set v := (clockMoves (u.stepTarget d) ((u.stepTarget d : Int) - u.now)).run u with hv
  have hkey : ∀ k, v.key k = s.key k := fun k => clockMoves_run_key _ _ _ _
  obtain ⟨hclock, hstepped, hcount, hring, l, hlength, hraised⟩ := stepFollows_run (u.stepTarget d)
    ((u.stepTarget d : Int) - u.now) (u.stepTarget d / u.cycleUnits) v
  refine ⟨_, rfl, ?_⟩
  rw [Eff.run_seq, hrun, stepClock_run_eq, ← hv, flush_clock, flush_time, flush_obj, flush_ringState]
  refine ⟨?_, ?_, ?_, ?_, ?_⟩
  · rw [hclock, hv, clockMoves_run_clock, hnow]
  · rw [hstepped, hv, clockMoves_run_servo]
    rfl
  · rw [hcount, State.obj, hkey]
    rfl
  · exact State.hasRaised.records (.quiet_trans (.of_events_eq (clockMoves_run_events (u.stepTarget d) ((u.stepTarget d : Int) - u.now) u)) hraised) hroom (by simp; omega)
      ⟨⟨0, 515, 0, 0, none⟩, List.mem_cons_self, rfl, rfl⟩ (by decide) (by decide)
  · simpa [State.ringState, State.n, State.obj, hkey] using hring

theorem exec_automaticStep_notTaken {s : State} {d : Int} (hpending : s.time.servo.pendingStep = some d)
    (hnot : s.clockState ≠ 1 ∨ s.neverSteps = true) :
    ∃ t, exec .automaticStep s = .next t ∧ t.clock = s.clock ∧ t.time.servo.pendingStep = none := by
  have hcond : (s.clockState == ckAcquiring && !s.neverSteps) = false := by
    rcases hnot with h | h <;> simp [h, ckAcquiring]
  have hrun : automaticStepAct.run s = (servoSet fun w => { w with pendingStep := none }).run s := by
    simp only [automaticStepAct, Eff.run_look, hpending, hcond, Eff.run_seq, Eff.run_when_false]
  refine ⟨_, rfl, ?_, ?_⟩
  · rw [Eff.run_seq, hrun, flush_clock]
    rfl
  · rw [Eff.run_seq, hrun, flush_time]
    rfl

/-! ## The end of the slew term (R69) -/

/-- What TimeAdjust has still to slew at the end of the term. -/
def State.slewLeft (s : State) : Int :=
  if s.time.servo.adjust = 0 || s.time.servo.sigma = s.slewWanted (-s.time.servo.adjust) then 0
  else s.time.servo.adjust - slewIn s.time.servo.sigma s.cycleUnits

theorem exec_slewEnd_reached {s : State} (hend : s.time.servo.slewAt + s.cycleUnits ≤ s.now) :
    ∃ t, exec .slewEnd s = .next t ∧ t.time.servo.adjust = s.slewLeft ∧ t.time.servo.sigma = s.slewFor (-s.slewLeft) ∧
      t.clock = s.clock := by
  have hrun : slewEnds.run s = (setSlew (s.slewFor (-s.slewLeft)) s.slewLeft).run s := by
    simp only [slewEnds, Eff.run_look, hend, decide_true, Eff.run_when_true]
    rfl
  refine ⟨_, rfl, ?_, ?_, ?_⟩
  · rw [Eff.run_seq, hrun, flush_time]
    rfl
  · rw [Eff.run_seq, hrun, flush_time]
    rfl
  · rw [Eff.run_seq, hrun, flush_clock]
    rfl

/-- Nothing left to slew gives no term, where MaxSlew is no negative value. -/
theorem slewFor_zero {s : State} (hslew : 0 ≤ s.obj 0x3110 6) : s.slewFor 0 = 0 := by
  have hmax : 0 ≤ s.maxSlew := by
    simp only [State.maxSlew, divFloor]
    split
    · omega
    · exact Int.fdiv_nonneg (Int.mul_nonneg hslew (by decide)) (by decide)
  have hwanted : s.slewWanted 0 = 0 := by simp [State.slewWanted, divFloor]
  simp only [State.slewFor, hwanted, clampInt]
  split_ifs <;> omega

theorem exec_slewEnd_nothingLeft {s : State} (hend : s.time.servo.slewAt + s.cycleUnits ≤ s.now)
    (hleft : s.time.servo.adjust = 0 ∨ s.time.servo.sigma = s.slewWanted (-s.time.servo.adjust)) (hslew : 0 ≤ s.obj 0x3110 6) :
    ∃ t, exec .slewEnd s = .next t ∧ t.time.servo.adjust = 0 ∧ t.time.servo.sigma = 0 ∧ t.clock = s.clock := by
  obtain ⟨t, hexec, hadjust, hsigma, hclock⟩ := exec_slewEnd_reached hend
  rw [State.slewLeft, if_pos (by simpa using hleft)] at hadjust hsigma
  rw [Int.neg_zero, slewFor_zero hslew] at hsigma
  exact ⟨t, hexec, hadjust, hsigma, hclock⟩

theorem exec_slewEnd_before {s : State} (hbefore : s.now < s.time.servo.slewAt + s.cycleUnits) :
    ∃ t, exec .slewEnd s = .next t ∧ t.time = s.time ∧ t.clock = s.clock := by
  have hrun : slewEnds.run s = s := by
    simp only [slewEnds, Eff.run_look, Nat.not_le_of_lt hbefore, decide_false, Eff.run_when_false]
  refine ⟨_, rfl, ?_, ?_⟩
  · rw [Eff.run_seq, hrun, flush_time]
  · rw [Eff.run_seq, hrun, flush_clock]

/-- Settles O15: the step by its two parts, the end of the slew term by what is left to slew. -/
theorem automaticStepAndSlewEnd : Obligations.AutomaticStepAndSlewEnd := by
  unfold Obligations.AutomaticStepAndSlewEnd
  refine ⟨fun _ _ => exec_automaticStep_taken, fun _ _ => exec_automaticStep_notTaken, ?ended, ?goesOn, ?unlimited,
    fun _ => exec_slewEnd_before⟩
  case ended =>
    intro s hend hadjust hslew
    obtain ⟨t, hexec, hzero, hsigma, hclock⟩ := exec_slewEnd_nothingLeft hend (.inl hadjust) hslew
    exact ⟨t, hexec, hsigma, hzero, hclock⟩
  case goesOn =>
    intro s hend hadjust hsigma
    obtain ⟨t, hexec, hleft, hterm, hclock⟩ := exec_slewEnd_reached hend
    rw [State.slewLeft, if_neg (by simp [hadjust, hsigma])] at hleft hterm
    exact ⟨t, hexec, hleft, hterm, hclock⟩
  case unlimited => exact fun s hend hsigma hslew => exec_slewEnd_nothingLeft hend (.inr hsigma) hslew

end Sys2Proof.Machine

/-! # The pins of the time base: PPS and time events (R78 to R80) -/

namespace Sys2Proof.Machine

/-! Bounds in units of 2^-16 ns are large literals. These two lemmas keep the kernel from computing with them. -/

theorem any_eq_true_of_some {α : Type} {o : Option α} {a : α} (h : o = some a) {p : α → Prop} [DecidablePred p] (hp : p a) :
    (o.any fun a => decide (p a)) = true := by
  subst h
  exact decide_eq_true hp

theorem any_eq_false_of_all {α : Type} {o : Option α} {p q : α → Prop} [DecidablePred p] [DecidablePred q]
    (hall : (o.all fun a => decide (p a)) = true) (hnot : ∀ a, p a → ¬q a) : (o.any fun a => decide (q a)) = false := by
  cases o with
  | none => rfl
  | some a => exact decide_eq_false (hnot a (of_decide_eq_true hall))

/-- The instant of an edge on PPSIN on the reference plane. -/
def State.ppsInstant (s : State) (stamp : Nat) : Nat := ((stamp : Int) + s.obj 0x3601 3).toNat

theorem exec_ppsInEdge_first {s : State} {falling : Bool} {stamp : Nat} (henabled : s.on 0x3601 1 = true)
    (hslope : s.on 0x3601 2 = falling) (hedges : s.time.ppsEdges = 0) :
    ∃ t, exec (.ppsInEdge falling stamp) s = .next t ∧ t.n 0x3601 4 = s.ppsInstant stamp ∧ t.time.ppsEdges = 1 ∧
      t.time.lastPpsIn = some (s.ppsInstant stamp) := by
  have hrun : (ppsInEdgeAct falling stamp).run s = (Eff.all [setN 0x3601 4 (s.ppsInstant stamp),
      .upd (.time fun x => { x with ppsEdges := x.ppsEdges + 1, ppsArmed := x.ppsArmed.map (· + 1), lastPpsIn := some (s.ppsInstant stamp) })]).run s := by
    simp [ppsInEdgeAct, henabled, hslope, hedges, State.ppsInstant]
  refine ⟨_, rfl, ?_⟩
  rw [Eff.run_seq, hrun, flush_n, flush_time]
  simp [setN, setObj, State.n, State.obj, Upd.touches, hedges]

theorem exec_ppsInEdge_early {s : State} {falling : Bool} {stamp l : Nat} (henabled : s.on 0x3601 1 = true)
    (hslope : s.on 0x3601 2 = falling) (hedges : s.time.ppsEdges ≠ 0) (hlast : s.time.lastPpsIn = some l)
    (hearly : s.ppsInstant stamp < l + secUnits - nsUnits 1000000) (hroom : s.room 1) :
    ∃ t, exec (.ppsInEdge falling stamp) s = .next t ∧ t.n 0x3601 4 = s.n 0x3601 4 ∧ t.time = s.time ∧ s.records t 529 0 := by
  have hrun : (ppsInEdgeAct falling stamp).run s = (raise 529).run s := by
    have hany := any_eq_true_of_some (p := fun l => s.ppsInstant stamp < l + secUnits - nsUnits 1000000) hlast hearly
    unfold State.ppsInstant at hany
    simp only [ppsInEdgeAct, Eff.run_look, henabled, hslope, if_neg hedges, hany, Bool.not_true, bne_self_eq_false, Bool.or_self,
      Bool.false_eq_true, if_false, if_true]
  refine ⟨_, rfl, ?_⟩
  rw [Eff.run_seq, hrun, flush_n, flush_time]
  exact ⟨rfl, rfl, (raise_hasRaised 529 0 s).records hroom (by simp) ⟨⟨0, 529, 0, 0, none⟩, by simp, rfl, rfl⟩ (by decide) (by decide)⟩

theorem ppsInMissingAct_run {s : State} (henabled : s.on 0x3601 1 = true) (hedges : s.time.ppsEdges ≠ 0)
    (hlast : (s.time.lastPpsIn.all fun l => decide (l + secUnits + nsUnits 1000000 ≤ s.now)) = true) :
    ppsInMissingAct.run s = (sourceInvalid 3).run ((raise 528).run ((Eff.upd (.time fun x => { x with ppsEdges := 0 })).run s)) := by
  rw [ppsInMissingAct, Eff.run_whenS, henabled, hlast, bne_iff_ne.2 hedges, Bool.and_self, Bool.and_self, if_pos rfl]
  rfl

theorem sourceInvalid_run_ppsEdges (source : Nat) (s : State) : ((sourceInvalid source).run s).time.ppsEdges = s.time.ppsEdges := by
  simp only [sourceInvalid, Eff.run_look, Eff.run_when]
  split <;> rfl

theorem exec_ppsInMissing {s : State} (henabled : s.on 0x3601 1 = true) (hedges : s.time.ppsEdges ≠ 0)
    (hlast : (s.time.lastPpsIn.all fun l => decide (l + secUnits + nsUnits 1000000 ≤ s.now)) = true) (hroom : s.room 1) :
    ∃ t, exec .ppsInMissing s = .next t ∧ t.time.ppsEdges = 0 ∧ s.records t 528 0 := by
  refine ⟨_, rfl, ?_⟩
  rw [Eff.run_seq, ppsInMissingAct_run henabled hedges hlast, flush_time, sourceInvalid_run_ppsEdges]
  generalize hu : (raise 528).run _ = u
  have hraised : s.hasRaised u [⟨0, 528, 0, 0, none⟩] := by subst hu; exact ⟨rfl, rfl, rfl⟩
  refine ⟨by subst hu; rfl, ?_⟩
  exact (hraised.trans_quiet ((sourceInvalid_within (Mask.Le.refl _)).raisesNothing rfl u)).records hroom (by simp)
    ⟨⟨0, 528, 0, 0, none⟩, by simp, rfl, rfl⟩ (by decide) (by decide)

/-- The instant of the edge that PPSOUT would give now. -/
def State.ppsOutInstant (s : State) : Nat := ((nearestSecond s.now * secUnits : Nat) + s.obj 0x3600 3).toNat

theorem ppsOutEdgeAct_run (s : State) : ppsOutEdgeAct.run s =
    (Eff.when (s.on 0x3600 1 && !(s.time.lastPpsOut.any fun l => decide (s.ppsOutInstant < l + nsUnits 500000000)))
      (.seq (.upd (.time fun x => { x with lastPpsOut := some s.ppsOutInstant })) (emit (.pulse 0 s.ppsOutInstant (s.n 0x3600 2))))).run s := by
  unfold ppsOutEdgeAct
  rw [Eff.run_look]
  cases s.time.lastPpsOut with
  | none => rfl
  | some l =>
    rw [Option.any_some]
    rfl

theorem exec_ppsOutEdge_given {s : State} (henabled : s.on 0x3600 1 = true)
    (hlast : (s.time.lastPpsOut.all fun l => decide (l + nsUnits 500000000 ≤ s.ppsOutInstant)) = true) :
    ∃ t, exec .ppsOutEdge s = .next t ∧ t.out = s.out ++ [.pulse 0 s.ppsOutInstant (s.n 0x3600 2)] ∧
      t.time.lastPpsOut = some s.ppsOutInstant := by
  have hrun : ppsOutEdgeAct.run s = (Eff.seq (.upd (.time fun x => { x with lastPpsOut := some s.ppsOutInstant }))
      (emit (.pulse 0 s.ppsOutInstant (s.n 0x3600 2)))).run s := by
    have hsoon := any_eq_false_of_all (q := fun l => s.ppsOutInstant < l + nsUnits 500000000) hlast fun _ => Nat.not_lt_of_le
    rw [ppsOutEdgeAct_run, henabled, hsoon, Bool.not_false, Bool.and_self, Eff.run_when_true]
  refine ⟨_, rfl, ?_⟩
  rw [Eff.run_seq, hrun, flush_out, flush_time]
  exact ⟨rfl, rfl⟩

theorem exec_ppsOutEdge_soon {s : State} {l : Nat} (hlast : s.time.lastPpsOut = some l)
    (hsoon : s.ppsOutInstant < l + nsUnits 500000000) :
    ∃ t, exec .ppsOutEdge s = .next t ∧ t.out = s.out ∧ t.time = s.time := by
  have hrun : ppsOutEdgeAct.run s = s := by
    rw [ppsOutEdgeAct_run, any_eq_true_of_some (p := fun l => s.ppsOutInstant < l + nsUnits 500000000) hlast hsoon, Bool.not_true, Bool.and_false, Eff.run_when_false]
  refine ⟨_, rfl, ?_⟩
  rw [Eff.run_seq, hrun, flush_out, flush_time]
  exact ⟨rfl, rfl⟩

/-- Whether an edge of a time-event pin is one of those that its mode captures (Table 3.9). -/
def State.captures (s : State) (pin : Nat) (falling : Bool) : Prop :=
  s.n 0x3610 1 pin = 3 ∨ (s.n 0x3610 1 pin = 1 ∧ falling = false) ∨ (s.n 0x3610 1 pin = 2 ∧ falling = true)

/-- The instant of a capture on the reference plane. -/
def State.captureInstant (s : State) (pin stamp : Nat) : Nat := ((stamp : Int) + s.obj 0x3610 5 pin).toNat

theorem captureAct_run {s : State} {pin : Nat} {falling : Bool} (stamp : Nat) (hpin : pin < 8) (hcaptures : s.captures pin falling) :
    (captureAct pin falling stamp).run s =
      if ((s.time.lastCapture.get? pin).any fun l => decide (s.captureInstant pin stamp < l + nsUnits 40)) = true then
        (bumpObj 0x3611 3 pin).run s
      else (Eff.all [setN 0x3611 1 (s.captureInstant pin stamp) pin, bumpObj 0x3611 2 pin,
        .upd (.time fun x => { x with lastCapture := x.lastCapture.set pin (s.captureInstant pin stamp) }), raise (520 + pin)]).run s := by
  have hwanted : (s.n 0x3610 1 pin == 3 || (s.n 0x3610 1 pin == 1 && !falling) || (s.n 0x3610 1 pin == 2 && falling)) = true := by
    rcases hcaptures with h | ⟨h, rfl⟩ | ⟨h, rfl⟩ <;> simp [h]
  unfold captureAct
  rw [Eff.run_look]
  simp only [hwanted, hpin, decide_true, Bool.not_true, Bool.or_self, Bool.false_eq_true, if_false]
  rw [Eff.run_ite]
  rfl

theorem exec_timeEventCapture_taken {s : State} {pin : Nat} {falling : Bool} {stamp : Nat} (hpin : pin < 8)
    (hcaptures : s.captures pin falling)
    (hlast : ((s.time.lastCapture.get? pin).all fun l => decide (l + nsUnits 40 ≤ s.captureInstant pin stamp)) = true)
    (hroom : s.room 1) :
    ∃ t, exec (.timeEventCapture pin falling stamp) s = .next t ∧ t.n 0x3611 1 pin = s.captureInstant pin stamp ∧
      t.obj 0x3611 2 pin = (s.obj 0x3611 2 pin + 1) % 4294967296 ∧
      t.time.lastCapture.get? pin = some (s.captureInstant pin stamp) ∧ s.records t (520 + pin) 0 := by
  have hfar := any_eq_false_of_all (q := fun l => s.captureInstant pin stamp < l + nsUnits 40) hlast fun _ => Nat.not_lt_of_le
  set u := (setN 0x3611 1 (s.captureInstant pin stamp) pin).run s
  have hu : ∀ k : Key, u.key k = if k = ⟨0x3611, pin, 1⟩ then _ else s.key k := fun k => key_obj s _ k _
  refine ⟨_, rfl, ?_⟩
  rw [Eff.run_seq, captureAct_run stamp hpin hcaptures, hfar, if_neg Bool.false_ne_true, flush_n, flush_obj, flush_time]
  refine ⟨?_, ?_, ?_, ?_⟩
  · show (((bumpObj 0x3611 2 pin).run u).key ⟨0x3611, pin, 1⟩).toNat = _
    rw [bumpObj_run_key, if_neg (by simp), hu, if_pos rfl, Int.toNat_natCast]
  · show ((bumpObj 0x3611 2 pin).run u).obj 0x3611 2 pin = _
    rw [bumpObj_run_u32 (c := cell .u32) rfl rfl, State.obj, hu, if_neg (by simp)]
    rfl
  · exact PMap.get_set_same _ _ _
  · refine State.hasRaised.records (l := [⟨0, 520 + pin, 0, 0, none⟩]) ⟨rfl, rfl, rfl⟩ hroom (by simp) ⟨⟨0, 520 + pin, 0, 0, none⟩, by simp, rfl, rfl⟩
      (by omega) (by decide)

theorem exec_timeEventCapture_missed {s : State} {pin : Nat} {falling : Bool} {stamp l : Nat} (hpin : pin < 8)
    (hcaptures : s.captures pin falling) (hlast : s.time.lastCapture.get? pin = some l)
    (hclose : s.captureInstant pin stamp < l + nsUnits 40) :
    ∃ t, exec (.timeEventCapture pin falling stamp) s = .next t ∧ t.n 0x3611 1 pin = s.n 0x3611 1 pin ∧
      t.obj 0x3611 3 pin = (s.obj 0x3611 3 pin + 1) % 4294967296 := by
  refine ⟨_, rfl, ?_⟩
  rw [Eff.run_seq, captureAct_run stamp hpin hcaptures, if_pos (any_eq_true_of_some (p := fun l => s.captureInstant pin stamp < l + nsUnits 40) hlast hclose), flush_n, flush_obj,
    bumpObj_run_u32 (c := cell .u32) rfl rfl, State.n, State.obj, bumpObj_run_key, if_neg (by simp)]
  exact ⟨rfl, rfl⟩

/-- The instant of the next pulse of a train. -/
def State.pulseInstant (s : State) (pin i : Nat) : Nat :=
  ((s.n 0x3610 2 pin + i * nsUnits (s.n 0x3610 3 pin) : Nat) + s.obj 0x3610 5 pin).toNat

theorem exec_timeEventPulse_train {s : State} {pin i : Nat} (hindex : s.time.tevIndex.get? pin = some i)
    (hmode : s.n 0x3610 1 pin = 5) (hperiod : 0 < nsUnits (s.n 0x3610 3 pin)) (hdue : s.pulseInstant pin i < s.now + nsUnits 2) :
    ∃ t, exec (.timeEventPulse pin) s = .next t ∧ t.time.tevIndex.get? pin = some (i + 1) ∧
      t.out = s.out ++ [.pulse (pin + 1) (s.pulseInstant pin i) (s.n 0x3610 4 pin)] := by
  have hpulse : s.pulsePeriod pin = nsUnits (s.n 0x3610 3 pin) := by simp [State.pulsePeriod, hmode]
  have hrun : (pulseAct pin).run s = (Eff.seq (emit (.pulse (pin + 1) (s.pulseInstant pin i) (s.n 0x3610 4 pin)))
      (.upd (.time fun x => { x with tevIndex := x.tevIndex.set pin (i + 1) }))).run s := by
    unfold pulseAct
    rw [Eff.run_look]
    simp only [hindex, hpulse, Nat.pos_iff_ne_zero.1 hperiod, if_false]
    rw [Eff.run_when, if_pos]
    · rfl
    · exact decide_eq_true hdue
  refine ⟨_, rfl, ?_⟩
  rw [Eff.run_seq, hrun, flush_time, flush_out]
  exact ⟨PMap.get_set_same _ _ _, rfl⟩

/-- Settles O18, pin by pin. -/
theorem ppsAndTimeEventPins : Obligations.PpsAndTimeEventPins := by
  unfold Obligations.PpsAndTimeEventPins
  exact ⟨fun _ _ _ => exec_ppsInEdge_first, fun _ _ _ _ => exec_ppsInEdge_early, fun _ => exec_ppsInMissing,
    fun _ => exec_ppsOutEdge_given, fun _ _ => exec_ppsOutEdge_soon, fun _ _ _ _ => exec_timeEventCapture_taken,
    fun _ _ _ _ _ => exec_timeEventCapture_missed, fun _ _ _ => exec_timeEventPulse_train⟩

end Sys2Proof.Machine

/-! # gPTP messages (R76, R77)

O16 takes the packet numbers of an event message and its follow-up to be in order where they do not fall. With a replay window of 0
the second of two frames with one packet number is a replay (R313). -/

namespace Sys2Proof.Machine

/-! ## States that the refutations start from -/

/-- A module that runs, in its reset state for the rest. -/
def runningModule : State := { State.reset with power := { PowerSide.reset with state := .active, stage := 5 } }

/-- A state with one object of the dictionary set. -/
def State.withObj (s : State) (idx sub row : Nat) (v : Int) : State := (Upd.obj ⟨idx, row, sub⟩ v).apply s

/-- A state with one object of a port set. -/
def State.withPort (s : State) (p k sub : Nat) (v : Int) (row : Nat := 0) : State := s.withObj (portIdx p k) sub row v

/-- An MKA port without session. -/
def mkaIdle : MkaPort :=
  { sessions := [], expires := none, initiator := false, nextAn := 0, txSa := none, txPn := 0, pendingTx := none, pendingIn := 0,
    rxSas := [], oldRxSas := [], windows := [], lastWrite := 0 }

/-! ## A pair with one packet number -/

/-- A gPTP slave in FREE_RUN, whose port keeps a replay window of 0. -/
def replaySlave : State :=
  let s := runningModule.withObj 0x3500 1 0 1 |>.withObj 0x3500 2 0 20 |>.withObj 0x3100 0 0 2 |>.withObj 0x3102 0 0 1
    |>.withObj 0x3502 2 1 1 |>.withPort 1 0 1 1
  { s with kiln := { s.kiln with mka := [(1, mkaIdle)] } }

/-- A frame of the EtherType of gPTP that MACsec has verified, with packet number 5. -/
def numberedFrame : Frame :=
  { data := List.replicate 12 0 ++ [0x88, 0xF7] ++ List.replicate 46 0, fcs := .good, icv := .verified, stamp := 1048576, secTag := some (7, 5) }

/-- Refutes O16: the event message notes its packet number, so that the follow-up with the same number is a replay and the Sync gives
no measurement. -/
theorem not_gptpMessagesReceived : ¬ Obligations.GptpMessagesReceived := by
  unfold Obligations.GptpMessagesReceived
  rintro ⟨hsync, -⟩
  obtain ⟨t, hexec, -, hstate, -⟩ := hsync replaySlave 1 20 500 0 ⟨numberedFrame, numberedFrame⟩ (by decide +kernel) (by decide)
    (by decide +kernel) (by decide +kernel) (by decide +kernel) (by decide +kernel) (by decide +kernel)
  cases hexec
  exact absurd hstate (by decide +kernel)

end Sys2Proof.Machine

/-! # Frames of the module's own on a busy port, and the timers of gPTP (R76, R167) -/

namespace Sys2Proof.Machine

/-! ## What decides whether a frame joins a class queue -/

/-- The objects that decide whether a port's MAC is busy and whether its queues have room. -/
def queueObjects : List Nat := [0x1003, 0x6000, 0x6001, 0x6400, 0x9000, 0x9012, 0x9013]

/-- Two states have the same queues, MACs and segments, and the same objects that decide what joins them. -/
structure State.sameQueues (s t : State) : Prop where
  traffic : t.traffic = s.traffic
  segments : t.segments = s.segments
  twin : t.twin = s.twin
  key : ∀ idx ∈ queueObjects, ∀ row sub, t.key ⟨idx, row, sub⟩ = s.key ⟨idx, row, sub⟩

section
variable {s t : State} (h : s.sameQueues t)
include h

theorem State.sameQueues.n {idx : Nat} (hidx : idx ∈ queueObjects) (sub row : Nat) : t.n idx sub row = s.n idx sub row :=
  congrArg Int.toNat (h.key idx hidx row sub)

theorem State.sameQueues.on {idx : Nat} (hidx : idx ∈ queueObjects) (sub row : Nat) : t.on idx sub row = s.on idx sub row :=
  congrArg (· != 0) (h.key idx hidx row sub)

theorem State.sameQueues.macBusy {p : Nat} (hbusy : s.macBusy p) : t.macBusy p := by
  obtain ⟨c, f, hcurrent, hexpress⟩ := hbusy
  refine ⟨c, f, by rw [State.mac, h.traffic]; exact hcurrent, ?_⟩
  rw [← hexpress, State.preemptable, State.preempting, h.on (by decide), h.n (by decide)]
  rfl

theorem State.sameQueues.queued (q : Nat) : t.queued q = s.queued q := by
  rw [State.queued, h.traffic]
  rfl

theorem State.sameQueues.queueRoom (q n : Nat) : t.queueRoom q n = s.queueRoom q n := by
  rw [State.queueRoom, State.depth, h.queued, h.n (by decide)]
  rfl

theorem State.sameQueues.stored : t.stored = s.stored := by
  rw [State.stored, h.traffic, h.segments]
  rfl

theorem State.sameQueues.storedBytes (which : Nat × QueuedFrame → Bool) : t.storedBytes which = s.storedBytes which := by
  rw [State.storedBytes, h.stored]
  rfl

theorem State.sameQueues.forwards (handle : Nat) : t.forwards handle = s.forwards handle := by
  simp only [State.forwards, State.stackMaster, h.n (show 0x9000 ∈ queueObjects by decide), h.n (show 0x1003 ∈ queueObjects by decide),
    h.n (show 0x9013 ∈ queueObjects by decide)]

theorem State.sameQueues.lentBytes (below : Nat) : t.lentBytes below = s.lentBytes below := by
  have hpresent : t.memberPresent = s.memberPresent := by
    funext m
    rw [State.memberPresent, h.n (by decide)]
    rfl
  rw [State.lentBytes, hpresent, h.twin]
  rfl

theorem State.sameQueues.heldBytes (shared : Bool) (g : Nat) : t.heldBytes shared g = s.heldBytes shared g := by
  simp only [State.heldBytes, State.lentInUse, State.forwardedBytes, h.storedBytes, h.lentBytes, h.forwards]

theorem State.sameQueues.memoryFor (p : Nat) (f : QueuedFrame) : t.memoryFor p f = s.memoryFor p f := by
  simp only [State.memoryFor, State.lentInUse, State.forwardedBytes, State.stackMember, h.stored, h.heldBytes, h.storedBytes, h.lentBytes,
    h.forwards, h.n (show 0x9012 ∈ queueObjects by decide), h.n (show 0x9000 ∈ queueObjects by decide),
    h.n (show 0x1003 ∈ queueObjects by decide)]
  rfl

theorem State.sameQueues.takesFrame {p c : Nat} {f : QueuedFrame} (htakes : s.takesFrame p c f) : t.takesFrame p c f := by
  rwa [State.takesFrame, h.queueRoom, h.memoryFor]

end

/-- An effect that reaches none of these leaves the queues as they are. -/
theorem Eff.Within.sameQueues {m : Mask} {e : Eff} (he : e.Within tables m) (s : State)
    (hparts : ([Part.traffic, .segments, .twin, .mismatchLog].all fun p => !m.parts.testBit p.bit) = true)
    (hkeys : (queueObjects.all fun idx => freeClass tables m (objClass idx)) = true) : s.sameQueues (e.run s) := by
  simp only [List.all_cons, List.all_nil, Bool.and_true, Bool.and_eq_true, Bool.not_eq_true'] at hparts
  obtain ⟨htraffic, hsegments, htwin, hlog⟩ := hparts
  refine ⟨he.traffic_run s htraffic, he.segments_run s hsegments, ?_, fun idx hidx row sub =>
    he.keeps_index (List.all_eq_true.1 hkeys idx hidx) s row sub⟩
  have hrest : { s.twin with mismatchLog := [] } = { (e.run s).twin with mismatchLog := [] } := he.keeps_part s .twin htwin
  have hsame : s.twin.mismatchLog = (e.run s).twin.mismatchLog := he.keeps_part s .mismatchLog hlog
  generalize (e.run s).twin = a at *
  generalize s.twin = b at *
  cases a
  cases b
  simp only [Twin.mk.injEq] at hrest hsame ⊢
  simp_all

/-! ## A frame of the module's own that joins its queue -/

theorem admitFrame_run_joins {s : State} {p c h : Nat} {f : QueuedFrame} (htakes : s.takesFrame p c f) :
    (admitFrame p c h f).run s = (joinQueue p c f).run s := by
  obtain ⟨hroom, hmemory⟩ := htakes
  simp [admitFrame, hroom, hmemory]

/-- On a busy port a frame that its queue takes joins it, and nothing else happens. -/
theorem enqueueFrame_run_joins {s : State} {p c h : Nat} {f : QueuedFrame} (hbusy : s.macBusy p) (htakes : s.takesFrame p c f) :
    (enqueueFrame p c h f).run s = (joinQueue p c f).run s := by
  obtain ⟨hsame, -, -⟩ := admitFrame_run (s := s) (p := p) (c := c) (h := h) (f := f)
  rw [enqueueFrame, Eff.run_seq, kick_run_busy (hsame.busy hbusy), admitFrame_run_joins htakes]

theorem enqueueOrigin_run_joins {s : State} {p c : Nat} {o : Origin} {data : Bytes} (hbusy : s.macBusy p)
    (htakes : s.takesFrame p c (s.ownFrame o data)) :
    (enqueueOrigin p c o data).run s = (joinQueue p c (s.ownFrame o data)).run s :=
  enqueueFrame_run_joins hbusy htakes

theorem joinQueue_run_time {p c : Nat} {f : QueuedFrame} (s : State) : ((joinQueue p c f).run s).time = s.time :=
  (joinQueue_within (Mask.Le.refl _)).time_run s rfl

theorem enqueueOrigin_run_time {s : State} {p c : Nat} {o : Origin} {data : Bytes} (hbusy : s.macBusy p)
    (htakes : s.takesFrame p c (s.ownFrame o data)) : ((enqueueOrigin p c o data).run s).time = s.time := by
  rw [enqueueOrigin_run_joins hbusy htakes, joinQueue_run_time]

/-- The frame stands behind what stood there, also seen from a state with the same queues. -/
theorem enqueueOrigin_queuedBehind {s t u : State} {p c : Nat} {o : Origin} {data : Bytes} (hsame : s.sameQueues u)
    (hbusy : u.macBusy p) (htakes : u.takesFrame p c (u.ownFrame o data))
    (htraffic : t.traffic = ((enqueueOrigin p c o data).run u).traffic) : s.queuedBehind t p c data := by
  obtain ⟨-, -, hjoins⟩ := enqueueOrigin_run_busy (c := c) (o := o) (data := data) hbusy
  obtain ⟨f, hdata, hprefix⟩ := hjoins htakes
  refine ⟨f, hdata, ?_⟩
  rw [hsame.queued] at hprefix
  rwa [State.queued, State.queued, htraffic, ← State.queued]

theorem State.sameQueues.refl (s : State) : s.sameQueues s := ⟨rfl, rfl, rfl, fun _ _ _ _ => rfl⟩

/-! ## The timers (R76) -/

theorem exec_gptpSyncTimer_due {s : State} {p : Nat} (hoperating : s.operating = true)
    (hdue : s.gptpDue s.time.syncAt (logInterval (s.obj 0x3500 3)) = true) (hports : s.masterPorts = [p]) (hbusy : s.macBusy p)
    (htakes : s.takesFrame p ptpClass (s.ownFrame (.ptp (.sync (s.time.syncSequence % 65536)))
      (s.ptpFrame p 0 0x0200 0 (s.time.syncSequence % 65536) (s.obj 0x3500 3) (List.replicate 10 0)))) :
    ∃ t, exec .gptpSyncTimer s = .next t ∧ t.time =
      { s.time with syncSequence := (s.time.syncSequence + 1) % 65536, syncAt := some s.elapsed } ∧
      s.queuedBehind t p ptpClass (s.ptpFrame p 0 0x0200 0 (s.time.syncSequence % 65536) (s.obj 0x3500 3) (List.replicate 10 0)) := by
  refine ⟨_, rfl, ?_⟩
  rw [Eff.run_seq, operating, Eff.run_whenS, if_pos hoperating, syncTimer, Eff.run_look, hdue, Eff.run_when_true, hports, Eff.run_seq,
    Eff.run_forEach_cons, Eff.run_forEach_nil, sendSync, Eff.run_look, flush_time]
  exact ⟨congrArg (fun x : TimeBase => { x with syncSequence := (x.syncSequence + 1) % 65536, syncAt := some s.elapsed })
    (enqueueOrigin_run_time hbusy htakes), enqueueOrigin_queuedBehind (.refl s) hbusy htakes (flush_traffic _)⟩

theorem exec_gptpSyncTimer_before {s : State} (hbefore : s.gptpDue s.time.syncAt (logInterval (s.obj 0x3500 3)) = false) :
    ∃ t, exec .gptpSyncTimer s = .next t ∧ t.time = s.time ∧ t.traffic = s.traffic := by
  have hrun : (operating syncTimer).run s = s := by
    rw [operating, Eff.run_whenS, syncTimer, Eff.run_look, hbefore, Eff.run_when_false, ite_self]
  refine ⟨_, rfl, ?_⟩
  rw [Eff.run_seq, hrun, flush_time, flush_traffic]
  exact ⟨rfl, rfl⟩

/-- The state from which a port sends its next Pdelay_Req. -/
def nextPdelay (p : Nat) : Eff :=
  .seq (gptpSet p fun g => { g with
      sequence := (g.sequence + 1) % 65536, waiting := true, sentAt := none, lost := if g.waiting then g.lost + 1 else g.lost })
    (.whenS (fun s => allowedLostResponses < (s.gptpPort p).lost) (setAsCapable p false))

theorem sendPdelayReq_run (p : Nat) (s : State) : (sendPdelayReq p).run s =
    (enqueueOrigin p ptpClass (.ptp .request) (((nextPdelay p).run s).ptpFrame p 2 0 0 (((nextPdelay p).run s).gptpPort p).sequence
      (((nextPdelay p).run s).obj 0x3500 4) (List.replicate 20 0))).run ((nextPdelay p).run s) := by
  simp only [sendPdelayReq, nextPdelay, Eff.run_all_cons, Eff.run_all_nil, Eff.run_look, Eff.run_seq]

theorem nextPdelay_within {p : Nat} : Eff.Within tables ⟨0x280, 0x1000000000, 0x100000000000000000000000000000⟩ (nextPdelay p) :=
  Within.seq (gptpSet_within (Mask.Le.via (Mask.Le.refl _) rfl rfl rfl))
    (Within.whenS (setAsCapable_within (Mask.Le.via (Mask.Le.refl _) rfl rfl rfl)))

/-- A port whose next Pdelay_Req is on its way. -/
def GptpPort.asking (g : GptpPort) : GptpPort :=
  { g with sequence := (g.sequence + 1) % 65536, waiting := true, sentAt := none, lost := if g.waiting then g.lost + 1 else g.lost }

theorem nextPdelay_run_time (p : Nat) (s : State) :
    ((nextPdelay p).run s).time = { s.time with gptp := s.time.gptp.set p (s.gptpPort p).asking } := by
  unfold nextPdelay
  rw [Eff.run_seq, (Within.whenS (setAsCapable_within (Mask.Le.refl _))).time_run _ rfl]
  rfl

/-- It changes no byte of the message. -/
theorem nextPdelay_run_ptpFrame (p type flags correction sequence : Nat) (interval : Int) (body : Bytes) (s : State) :
    ((nextPdelay p).run s).ptpFrame p type flags correction sequence interval body =
      s.ptpFrame p type flags correction sequence interval body := by
  have hmac := (nextPdelay_within (p := p)).keeps_port s (p := p) (k := 0) (sub := 6) (row := 0) (by decide +kernel)
  have hidentity : ∀ sub, ((nextPdelay p).run s).n 0x3500 sub = s.n 0x3500 sub := fun sub =>
    congrArg Int.toNat ((nextPdelay_within (p := p)).keeps_index (idx := 0x3500) (by decide +kernel) s 0 sub)
  simp only [State.ptpFrame, State.portIdentity, hmac, hidentity]

theorem exec_gptpPdelayTimer_due {s : State} {p : Nat} (hoperating : s.operating = true)
    (hdue : s.gptpDue s.time.pdelayAt (logInterval (s.obj 0x3500 4)) = true)
    (hports : (s.gptpPorts fun p r => r != 0 && !isSG p) = [p]) (hbusy : s.macBusy p)
    (htakes : s.takesFrame p ptpClass (s.ownFrame (.ptp .request)
      (s.ptpFrame p 2 0 0 (((s.gptpPort p).sequence + 1) % 65536) (s.obj 0x3500 4) (List.replicate 20 0)))) :
    ∃ t, exec .gptpPdelayTimer s = .next t ∧ t.gptpPort p =
      { s.gptpPort p with sequence := ((s.gptpPort p).sequence + 1) % 65536, waiting := true, sentAt := none, lost := if (s.gptpPort p).waiting then (s.gptpPort p).lost + 1 else (s.gptpPort p).lost } ∧
      t.time.pdelayAt = some s.elapsed ∧
      s.queuedBehind t p ptpClass (s.ptpFrame p 2 0 0 (((s.gptpPort p).sequence + 1) % 65536) (s.obj 0x3500 4) (List.replicate 20 0)) := by
  have hsame := (nextPdelay_within (p := p)).sameQueues s (by decide) (by decide +kernel)
  have htime := nextPdelay_run_time p s
  have hport : ((nextPdelay p).run s).gptpPort p = (s.gptpPort p).asking := by rw [State.gptpPort, htime, PMap.getD_set_same]
  have hinterval := (nextPdelay_within (p := p)).keeps_obj s (idx := 0x3500) (sub := 4) (row := 0) (by decide +kernel)
  have hnow : ((nextPdelay p).run s).now = s.now := congrArg Clock.units ((nextPdelay_within (p := p)).clock_run rfl s)
  have hsent := sendPdelayReq_run p s
  rw [nextPdelay_run_ptpFrame, hinterval, hport] at hsent
  simp only [GptpPort.asking] at hsent
  have htakes' : ((nextPdelay p).run s).takesFrame p ptpClass (((nextPdelay p).run s).ownFrame (.ptp .request)
      (s.ptpFrame p 2 0 0 (((s.gptpPort p).sequence + 1) % 65536) (s.obj 0x3500 4) (List.replicate 20 0))) := by
    rw [State.ownFrame, hnow]
    exact hsame.takesFrame htakes
  have hkept := enqueueOrigin_run_time (hsame.macBusy hbusy) htakes'
  have hbehind := fun t => enqueueOrigin_queuedBehind (t := t) hsame (hsame.macBusy hbusy) htakes'
  refine ⟨_, rfl, ?_⟩
  rw [Eff.run_seq, operating, Eff.run_whenS, if_pos hoperating, pdelayTimer, Eff.run_look, hdue, Eff.run_when_true, hports, Eff.run_seq,
    Eff.run_forEach_cons, Eff.run_forEach_nil, hsent, State.gptpPort, flush_time]
  generalize (enqueueOrigin _ _ _ _).run _ = v at hkept hbehind ⊢
  generalize (nextPdelay p).run s = u at hkept hport
  exact ⟨(congrArg (fun x : TimeBase => x.gptp.getD p GptpPort.init) hkept).trans hport, rfl, hbehind _ (flush_traffic _)⟩

theorem exec_gptpPdelayTimer_before {s : State} (hbefore : s.gptpDue s.time.pdelayAt (logInterval (s.obj 0x3500 4)) = false) :
    ∃ t, exec .gptpPdelayTimer s = .next t ∧ t.time = s.time ∧ t.traffic = s.traffic := by
  have hrun : (operating pdelayTimer).run s = s := by
    rw [operating, Eff.run_whenS, pdelayTimer, Eff.run_look, hbefore, Eff.run_when_false, ite_self]
  refine ⟨_, rfl, ?_⟩
  rw [Eff.run_seq, hrun, flush_time, flush_traffic]
  exact ⟨rfl, rfl⟩

theorem exec_announceTimer_due {s : State} {p : Nat} (hoperating : s.operating = true)
    (hdue : s.gptpDue s.time.announceAt secUnits = true) (hports : s.masterPorts = [p]) (hbusy : s.macBusy p)
    (htakes : s.takesFrame p ptpClass (s.ownFrame .module (s.ptpFrame p 11 0 0 (s.time.announceSequence % 65536) 0 s.announceBody))) :
    ∃ t, exec .announceTimer s = .next t ∧ t.time =
      { s.time with announceSequence := (s.time.announceSequence + 1) % 65536, announceAt := some s.elapsed } ∧
      s.queuedBehind t p ptpClass (s.ptpFrame p 11 0 0 (s.time.announceSequence % 65536) 0 s.announceBody) := by
  refine ⟨_, rfl, ?_⟩
  rw [Eff.run_seq, operating, Eff.run_whenS, if_pos hoperating, announceTimerAct, Eff.run_look, hdue, Eff.run_when_true, hports,
    Eff.run_seq, Eff.run_forEach_cons, Eff.run_forEach_nil, enqueueOwn, flush_time]
  exact ⟨congrArg (fun x : TimeBase => { x with announceSequence := (x.announceSequence + 1) % 65536, announceAt := some s.elapsed })
    (enqueueOrigin_run_time hbusy htakes), enqueueOrigin_queuedBehind (.refl s) hbusy htakes (flush_traffic _)⟩

theorem exec_announceTimer_before {s : State} (hbefore : s.gptpDue s.time.announceAt secUnits = false) :
    ∃ t, exec .announceTimer s = .next t ∧ t.time = s.time ∧ t.traffic = s.traffic := by
  have hrun : (operating announceTimerAct).run s = s := by
    rw [operating, Eff.run_whenS, announceTimerAct, Eff.run_look, hbefore, Eff.run_when_false, ite_self]
  refine ⟨_, rfl, ?_⟩
  rw [Eff.run_seq, hrun, flush_time, flush_traffic]
  exact ⟨rfl, rfl⟩

/-- Settles O17, timer by timer. -/
theorem gptpTimersSend : Obligations.GptpTimersSend := by
  unfold Obligations.GptpTimersSend
  exact ⟨fun _ _ => exec_gptpSyncTimer_due, fun _ => exec_gptpSyncTimer_before, fun _ _ => exec_gptpPdelayTimer_due,
    fun _ => exec_gptpPdelayTimer_before, fun _ _ => exec_announceTimer_due, fun _ => exec_announceTimer_before⟩

end Sys2Proof.Machine

/-! # The cycle boundary (R84) -/

namespace Sys2Proof.Machine

/-- What the boundary does once the cycle counter shows the new cycle. -/
def boundaryFollows (before : State) (c : Nat) : Eff :=
  .all [ringBoundary c, countSource, leaseBoundary c, deliverSections, healthBoundary, forwardViews, sendLog before c,
    .whenS (fun s => !s.power.throttled) sampleQueues, noteReports, isolationFollows]

theorem boundary_run (c : Nat) (s : State) : (boundary c).run s =
    (boundaryFollows s c).run ((setN 0x4001 6 c).run (laneShapers.run ((cycleEnds c).run s))) := by
  simp only [boundary, boundaryFollows, Eff.run_look, Eff.run_all_cons]

/-- The ring, the lease, the views and the counters of the boundary leave the cycle counter. -/
theorem boundaryFollows_run_cycle (before : State) (c : Nat) (s : State) :
    ((boundaryFollows before c).run s).n 0x4001 6 = s.n 0x4001 6 := by
  unfold boundaryFollows
  simp only [Eff.run_all_cons, Eff.run_all_nil, State.n]
  rw [(isolationFollows_within (Mask.Le.refl _)).keeps_obj _ (by decide +kernel),
    (noteReports_within (Mask.Le.refl _)).keeps_obj _ (by decide +kernel),
    (Within.whenS (sampleQueues_within (Mask.Le.refl _))).keeps_obj _ (by decide +kernel),
    (sendLog_within (Mask.Le.refl _)).keeps_obj _ (by decide +kernel),
    (forwardViews_within (Mask.Le.refl _)).keeps_obj _ (by decide +kernel),
    (healthBoundary_within (Mask.Le.refl _)).keeps_obj _ (by decide +kernel),
    (deliverSections_within (Mask.Le.refl _)).keeps_obj _ (by decide +kernel),
    (leaseBoundary_within (Mask.Le.refl _)).keeps_obj _ (by decide +kernel),
    (countSource_within (Mask.Le.refl _)).keeps_obj _ (by decide +kernel),
    (ringBoundary_within (Mask.Le.refl _)).keeps_obj _ (by decide +kernel)]

/-- Settles O19: the boundary sets the counter, and nothing that follows in it changes the counter or the clock. -/
theorem cycleBoundaryAdvances : Obligations.CycleBoundaryAdvances := by
  unfold Obligations.CycleBoundaryAdvances
  intro s hoperating
  refine ⟨_, rfl, ?_, ?_⟩
  · rw [Eff.run_seq, flush_n, operating, Eff.run_whenS, if_pos hoperating, cycleAdvances, Eff.run_look, boundary_run,
      boundaryFollows_run_cycle]
    simp [setN, setObj, State.n, State.obj, State.cycle]
    omega
  · rw [Eff.run_seq, flush_clock, operating, (Within.whenS (cycleAdvances_within (Mask.Le.refl _))).clock_run rfl]

end Sys2Proof.Machine

/-! # The ring (chapter 4) -/

namespace Sys2Proof.Machine

/-! ## Launch on one lane

O20's first clause does not ask for two lanes. -/

/-- A master whose two lanes are one port, with one packet number left. -/
def lastNumberMaster : State :=
  let s := runningModule.withObj 0x4001 1 0 4 |>.withObj 0x4110 1 0 1 |>.withObj 0x4000 2 0 0 |>.withObj 0x4000 3 0 0
    |>.withObj 0xA020 1 0 1
  { s with kiln := { s.kiln with mka := [(0, { mkaIdle with txSa := some (0, 1), txPn := 0xFFFFFFFFFFFFFFFE })] } }

/-- Refutes O20: where both lanes are one port, the east-bound copy can use the last packet number of its transmit SA, and the
west-bound one is not launched. -/
theorem not_roundFramesOnTheWheel : ¬ Obligations.RoundFramesOnTheWheel := by
  unfold Obligations.RoundFramesOnTheWheel
  rintro ⟨hlaunch, -⟩
  obtain ⟨t, hexec, -, -, hcounter⟩ := hlaunch lastNumberMaster 0 0 0 (by decide +kernel) (by decide +kernel) (by decide +kernel)
    (by decide) rfl rfl (by decide +kernel) (by decide +kernel) rfl rfl
  cases hexec
  exact absurd hcounter (by decide +kernel)

end Sys2Proof.Machine

/-! # Ring states, wrap and the running mode -/

namespace Sys2Proof.Machine

/-- A node in LISTEN that has had its place on the ring, may not become master, and whose listen timer has run out. -/
def placedListener : State :=
  let s := runningModule.withObj 0x4001 1 0 1 |>.withObj 0x4000 5 0 0
  { s with ring := { s.ring with placed := true, listened := some 1000000 } }

/-- Refutes O21: where the listen timer starts again the node also forgets that it has had a place on the ring (R89). -/
theorem not_ringStateChanges : ¬ Obligations.RingStateChanges := by
  unfold Obligations.RingStateChanges
  rintro ⟨-, hagain, -⟩
  obtain ⟨t, hexec, hring, -⟩ := hagain placedListener (by decide +kernel) (by decide +kernel) (.inl (by decide +kernel))
    (by decide +kernel)
  cases hexec
  have hplaced := congrArg Ring.placed hring
  exact absurd hplaced (by decide +kernel)

/-! ## Counting and raising -/

theorem count_run_same (item : Nat) (s : State) : ((count item).run s).counter item = (s.counter item + 1) % 18446744073709551616 :=
  counter_count_same s item 1

theorem count_run_other {item i : Nat} (h : i ≠ item) (s : State) : ((count item).run s).counter i = s.counter i :=
  counter_count_other s item i 1 h

@[simp] theorem count_run_key (item : Nat) (s : State) (k : Key) : ((count item).run s).key k = s.key k := rfl

@[simp] theorem raise_run_key (source arg : Nat) (s : State) (k : Key) : ((raise source arg).run s).key k = s.key k := rfl

/-- Raising an event counts it. -/
theorem raise_run_counter (source arg : Nat) {i : Nat} (h : i ≠ commonsItem 70) (s : State) :
    ((raise source arg).run s).counter i = s.counter i := by
  simp only [raise, raiseFull, Eff.run_seq, Eff.run_upd]
  exact count_run_other h _

/-! ## Lanes (R112, R115, R116) -/

theorem laneLock_run {s : State} {lane : Nat} (hlane : s.isLane lane = true) (locked : Bool) : (laneLock lane locked).run s =
    (setLane (lane == s.westLane) fun l => { l with locked := locked, held := none, faulted := l.faulted && !locked }).run s := by
  rw [laneLock, Eff.run_whenS, if_pos hlane, Eff.run_look]

/-- A lane of a running ring whose wrap is not engaged yet: it engages. -/
theorem loseLane_run {s : State} {lane : Nat} (hlane : s.isLane lane = true) (hstate : s.ringState ≠ 0)
    (hup : (s.lane lane).lost = false) : (loseLane lane).run s =
      (Eff.all [setLane (lane == s.westLane) fun l => { l with lost := true, restored := false, silent := 0 },
        forgetPairs (lane == s.westLane), showWrap, raise 451, count (wheelItem 18)]).run s := by
  rw [loseLane, Eff.run_look]
  simp only [hlane, hup, ringDisabled, Bool.not_true, Bool.false_eq_true, if_false, beq_iff_eq, hstate]

theorem showWrap_run_shown (s : State) :
    (showWrap.run s).n 0x4001 7 = (if s.ring.west.lost then 1 else 0) + (if s.ring.east.lost then 2 else 0) := by
  simp only [showWrap, Eff.run_look, State.n, State.obj, setN, setObj, Eff.run_upd, key_obj, if_pos]
  exact Int.toNat_natCast _

theorem showWrap_run_counter (s : State) (i : Nat) : (showWrap.run s).counter i = s.counter i := rfl

/-- What a lost west lane leaves. -/
theorem loseLane_run_west {s : State} (hstate : s.ringState ≠ 0) (hup : s.ring.west.lost = false) :
    let u := (loseLane s.westLane).run s
    u.ring.west.lost = true ∧ u.n 0x4001 7 = 1 + (if s.ring.east.lost then 2 else 0) ∧ s.hasRaised u [⟨0, 451, 0, 0, none⟩] ∧
      u.counter (wheelItem 18) = (s.counter (wheelItem 18) + 1) % 18446744073709551616 := by
  intro u
  have hrun : u = _ := loseLane_run (by simp [State.isLane]) hstate (by simpa [State.lane] using hup)
  rw [beq_self_eq_true] at hrun
  clear_value u
  subst hrun
  refine ⟨rfl, ?_, ⟨rfl, rfl, rfl⟩, ?_⟩
  · simp only [Eff.run_all_cons, Eff.run_all_nil]
    exact showWrap_run_shown _
  · simp only [Eff.run_all_cons, Eff.run_all_nil]
    rw [count_run_same, raise_run_counter _ _ (by decide), showWrap_run_counter]
    rfl

theorem loseLane_run_east {s : State} (hother : s.eastLane ≠ s.westLane) (hstate : s.ringState ≠ 0) (hup : s.ring.east.lost = false) :
    let u := (loseLane s.eastLane).run s
    u.ring.east.lost = true ∧ u.n 0x4001 7 = (if s.ring.west.lost then 1 else 0) + 2 ∧ s.hasRaised u [⟨0, 451, 0, 0, none⟩] ∧
      u.counter (wheelItem 18) = (s.counter (wheelItem 18) + 1) % 18446744073709551616 := by
  intro u
  have hrun : u = _ := loseLane_run (by simp [State.isLane]) hstate (by simpa [State.lane, hother] using hup)
  rw [beq_false_of_ne hother] at hrun
  clear_value u
  subst hrun
  refine ⟨rfl, ?_, ⟨rfl, rfl, rfl⟩, ?_⟩
  · simp only [Eff.run_all_cons, Eff.run_all_nil]
    exact showWrap_run_shown _
  · simp only [Eff.run_all_cons, Eff.run_all_nil]
    rw [count_run_same, raise_run_counter _ _ (by decide), showWrap_run_counter]
    rfl

theorem hasRaised_records_one {s u : State} {source arg : Nat} (h : s.hasRaised u [⟨0, source, 0, arg, none⟩]) (hroom : s.room 1)
    (hsource : source < 1024) (harg : arg < 2147483648) : s.records (flushEvents.run u) source arg :=
  h.records hroom (by simp) ⟨⟨0, source, 0, arg, none⟩, by simp, rfl, rfl⟩ hsource harg

theorem exec_laneLost_west {s : State} (hstate : s.ringState ≠ 0) (hup : s.ring.west.lost = false) (hroom : s.room 1) :
    ∃ t, exec (.laneLost s.westLane) s = .next t ∧ t.ring.west.lost = true ∧
      t.n 0x4001 7 = 1 + (if s.ring.east.lost then 2 else 0) ∧ s.records t 451 0 ∧
      t.counter (wheelItem 18) = (s.counter (wheelItem 18) + 1) % 18446744073709551616 := by
  have hlock := laneLock_run (s := s) (lane := s.westLane) (by simp [State.isLane]) false
  rw [beq_self_eq_true] at hlock
  obtain ⟨hlost, hshown, hraised, hcount⟩ := loseLane_run_west (s := (laneLock s.westLane false).run s) (by rw [hlock]; exact hstate)
    (by rw [hlock]; exact hup)
  have hwest : ((laneLock s.westLane false).run s).westLane = s.westLane := by rw [hlock]; rfl
  rw [hwest] at hlost hshown hraised hcount
  refine ⟨_, rfl, ?_⟩
  rw [Eff.run_seq, laneFails, Eff.run_seq, flush_ring, flush_n, flush_counter _ _ (by decide)]
  refine ⟨hlost, ?_, hasRaised_records_one (.quiet_trans (.of_events_eq ?_) hraised) hroom (by decide) (by decide), ?_⟩
  · rw [hshown, hlock]
    rfl
  · rw [hlock]
    rfl
  · rw [hcount, hlock]
    rfl

theorem exec_roundLoss_east {s : State} (hother : s.eastLane ≠ s.westLane) (hstate : s.ringState ≠ 0) (hup : s.ring.east.lost = false)
    (hsilent : s.n 0x4000 0xA ≤ s.ring.east.silent) (hroom : s.room 1) :
    ∃ t, exec (.roundLoss s.eastLane) s = .next t ∧ t.ring.east.lost = true ∧
      t.n 0x4001 7 = (if s.ring.west.lost then 1 else 0) + 2 ∧ s.records t 451 0 ∧
      t.counter (wheelItem 18) = (s.counter (wheelItem 18) + 1) % 18446744073709551616 := by
  obtain ⟨hlost, hshown, hraised, hcount⟩ := loseLane_run_east hother hstate hup
  have hrun : (roundsLost s.eastLane).run s = (loseLane s.eastLane).run s := by
    rw [roundsLost, Eff.run_whenS, if_pos]
    simp [State.isLane, State.lane, hother, hup, hsilent]
  refine ⟨_, rfl, ?_⟩
  rw [Eff.run_seq, hrun, flush_ring, flush_n, flush_counter _ _ (by decide)]
  exact ⟨hlost, hshown, hasRaised_records_one hraised hroom (by decide) (by decide), hcount⟩

theorem exec_wrapRestoreHoldoff_west {s : State} (hlost : s.ring.west.lost = true)
    (hheld : (s.ring.west.held.any fun n => decide (s.n 0x4000 0xC ≤ n)) = true)
    (hsecured : s.on 0xA020 1 s.westLane = false ∨ s.hasSas s.westLane = true) :
    ∃ t, exec (.wrapRestoreHoldoff s.westLane) s = .next t ∧
      t.ring = { s.ring with west := { s.ring.west with restored := true } } ∧ t.od = s.od := by
  have hrun : (restoreLane s.westLane).run s = (setLane true fun l => { l with restored := true }).run s := by
    rw [restoreLane, Eff.run_look, Eff.run_when, if_pos, beq_self_eq_true]
    rcases hsecured with h | h <;> simp [State.isLane, State.lane, hlost, hheld, h]
  refine ⟨_, rfl, ?_⟩
  rw [Eff.run_seq, hrun, flush_ring, flush_od]
  exact ⟨rfl, rfl⟩

theorem releaseLane_run_west {s : State} (hlost : s.ring.west.lost = true) (hrestored : s.restored true = true) :
    (releaseLane true).run s =
      (Eff.seq (setLane true fun l => { l with lost := false, restored := false, silent := 0 }) (raise 452)).run s := by
  rw [releaseLane, Eff.run_whenS, if_pos]
  simp [hlost, hrestored]

theorem releaseLane_run_east_up {s : State} (hup : s.ring.east.lost = false) : (releaseLane false).run s = s := by
  rw [releaseLane, Eff.run_whenS, if_neg]
  simp [hup]

theorem exec_wrapRelease_west {s : State} (hannounced : s.ring.releaseAt = some s.cycle) (hlost : s.ring.west.lost = true)
    (hrestored : s.ring.west.restored = true) (hsecured : s.on 0xA020 1 s.westLane = false ∨ s.hasSas s.westLane = true)
    (heast : s.ring.east.lost = false) (hroom : s.room 1) :
    ∃ t, exec .wrapRelease s = .next t ∧ t.ring.west.lost = false ∧ t.ring.releaseAt = none ∧ t.n 0x4001 7 = 0 ∧ s.records t 452 0 := by
  set u := (Eff.upd (.ring fun g => { g with releaseAt := none })).run s with hu
  set v := (Eff.seq (setLane true fun l => { l with lost := false, restored := false, silent := 0 }) (raise 452)).run u with hv
  have hready : s.restored true = true := by
    rcases hsecured with h | h <;> simp [State.restored, hrestored, h]
  have hwest : (releaseLane true).run u = v := releaseLane_run_west (s := u) hlost hready
  have hsame : (releaseLane false).run v = v := releaseLane_run_east_up (s := v) heast
  have hrun : releaseWrap.run s = showWrap.run v := by
    rw [releaseWrap, Eff.run_whenS, if_pos (by rw [hannounced]; exact beq_self_eq_true _)]
    simp only [Eff.run_all_cons, Eff.run_all_nil]
    rw [← hu, hwest, hsame]
  refine ⟨_, rfl, ?_⟩
  rw [Eff.run_seq, hrun, flush_ring, flush_n]
  refine ⟨rfl, rfl, ?_, hasRaised_records_one ⟨rfl, rfl, rfl⟩ hroom (by decide) (by decide)⟩
  rw [showWrap_run_shown]
  exact (congrArg (fun b : Bool => 0 + if b then 2 else 0) heast)

theorem exec_lanesCrossed {s : State} (hrun : 2 ≤ s.ring.crossRun) (hstate : s.ringState = 3 ∨ s.ringState = 2) (hroom : s.room 1) :
    ∃ t, exec .lanesCrossed s = .next t ∧ t.westLane = s.eastLane ∧ t.eastLane = s.westLane ∧ t.ring.west =
    s.ring.east ∧ t.ring.east = s.ring.west ∧ s.records t 469 0 := by
  have hswap : swapLanes.run s = (Eff.all [setN 0x4000 2 s.eastLane, setN 0x4000 3 s.westLane,
      .upd (.ring fun g => { g with crossRun := 0, west := g.east, east := g.west }),
      showWrap, raise 469, count (wheelItem 30)]).run s := by
    rw [swapLanes, Eff.run_look, Eff.run_when, if_pos]
    rcases hstate with h | h <;> simp [hrun, h, ringFollower, ringSapling]
  refine ⟨_, rfl, ?_⟩
  rw [Eff.run_seq, hswap, flush_ring]
  refine ⟨(flush_n _ _ _ _).trans ?_, (flush_n _ _ _ _).trans ?_, rfl, rfl, hasRaised_records_one ⟨rfl, rfl, rfl⟩ hroom (by decide) (by decide)⟩
  · simp [showWrap, setN, setObj, raise, raiseFull, count, Upd.touches, State.n, State.obj, key_obj]
  · simp [showWrap, setN, setObj, raise, raiseFull, count, Upd.touches, State.n, State.obj, key_obj]

/-- Settles O22, lane by lane. -/
theorem wrapAndLanes : Obligations.WrapAndLanes := by
  unfold Obligations.WrapAndLanes
  refine ⟨?lost, ?silent, ?restore, fun _ => exec_wrapRelease_west, fun _ => exec_lanesCrossed⟩
  case lost =>
    rintro s lane rfl
    exact exec_laneLost_west
  case silent =>
    rintro s lane rfl
    exact exec_roundLoss_east
  case restore =>
    rintro s lane rfl
    exact exec_wrapRestoreHoldoff_west

end Sys2Proof.Machine

/-! # Mode requests and mode switches (R119 to R121) -/

namespace Sys2Proof.Machine

/-! ## The evaluation of a request -/

theorem evaluateRequest_run {s : State} {q : ModeRequest} (hrequest : s.ring.request = some q) (hstate : s.ringState = 4)
    (hcycle : s.cycle + 2 = q.target) : evaluateRequest.run s =
      (if s.n 0x4001 9 &&& s.countedAcks q.mode = s.n 0x4001 9 then
        Eff.seq (.upd (.ring fun g => { g with confirm := some q.mode })) (wakeBefore (s.cycleStart q.target))
      else Eff.all [.upd (.ring fun g => { g with request := none, confirm := none }), setN 0x4010 4 3, raise 594,
        count (wheelItem 26)]).run ((setN 0x4010 6 (s.countedAcks q.mode)).run s) := by
  simp only [evaluateRequest, Eff.run_look, hrequest, hstate, hcycle, ringMaster, bne_self_eq_false, Bool.or_self, Bool.false_eq_true,
    if_false, Eff.run_seq]

theorem exec_modeRequestEvaluation_confirmed {s : State} {q : ModeRequest} (hrequest : s.ring.request = some q)
    (hstate : s.ringState = 4) (hcycle : s.cycle + 2 = q.target) (hacks : s.n 0x4001 9 &&& s.countedAcks q.mode = s.n 0x4001 9) :
    ∃ t, exec .modeRequestEvaluation s = .next t ∧ t.ring.confirm = some q.mode ∧ t.ring.request = some q ∧
      t.n 0x4010 6 = s.countedAcks q.mode := by
  have hwake := wakeBefore_within (Mask.Le.refl _) (t := s.cycleStart q.target)
  refine ⟨_, rfl, ?_⟩
  rw [Eff.run_seq, evaluateRequest_run hrequest hstate hcycle, if_pos hacks, Eff.run_seq, flush_ring, flush_n, hwake.ring_run _ rfl]
  refine ⟨rfl, hrequest, ?_⟩
  rw [State.n, hwake.keeps_obj _ (by decide +kernel)]
  simp [setN, setObj, State.obj, Upd.touches]

theorem exec_modeRequestEvaluation_givenUp {s : State} {q : ModeRequest} (hrequest : s.ring.request = some q)
    (hstate : s.ringState = 4) (hcycle : s.cycle + 2 = q.target) (hacks : s.n 0x4001 9 &&& s.countedAcks q.mode ≠ s.n 0x4001 9)
    (hroom : s.room 1) :
    ∃ t, exec .modeRequestEvaluation s = .next t ∧ t.ring.confirm = none ∧ t.ring.request = none ∧ t.n 0x4010 4 = 3 ∧
      s.records t 594 0 := by
  refine ⟨_, rfl, ?_⟩
  rw [Eff.run_seq, evaluateRequest_run hrequest hstate hcycle, if_neg hacks, flush_ring, flush_n]
  refine ⟨rfl, rfl, ?_, hasRaised_records_one ⟨rfl, rfl, rfl⟩ hroom (by decide) (by decide)⟩
  simp [setN, setObj, State.n, State.obj, raise, raiseFull, count, Upd.touches]

/-! ## The running mode -/

/-- What follows the running mode: segments, engines, gate lists, groves and policies. -/
def modeFollows (m : Nat) : Eff :=
  .all [.look fun s => .forEach s.enabledPorts fun p => segmentFollows p m, enginesAtModeSwitch m, gatesFollowMode m,
    .forEach (List.range 8) wakeGrove, applyPolicies, noteReports]

theorem modeBecomes_run (m : Nat) (s : State) : (modeBecomes m).run s = (modeFollows m).run ((switchMode m).run s) := by
  rw [modeBecomes, modeFollows, Eff.run_all_cons]

theorem modeFollows_within {m : Nat} : Eff.Within tables
    ⟨0x3800f280, 0x3000000000000000000000004000fffa060000200000000000000000, 0x16000000000000000000000000000000000100000000200000065000080000000⟩
    (modeFollows m) :=
  Within.cons (Within.look fun _ => Within.forEach fun _ => segmentFollows_within (Mask.Le.via (Mask.Le.refl _) rfl rfl rfl))
    (Within.cons (enginesAtModeSwitch_within (Mask.Le.via (Mask.Le.refl _) rfl rfl rfl))
    (Within.cons (gatesFollowMode_within (Mask.Le.via (Mask.Le.refl _) rfl rfl rfl))
    (Within.cons (Within.forEach fun _ => wakeGrove_within (Mask.Le.via (Mask.Le.refl _) rfl rfl rfl))
    (Within.cons (applyPolicies_within (Mask.Le.via (Mask.Le.refl _) rfl rfl rfl))
    (Within.cons (noteReports_within (Mask.Le.via (Mask.Le.refl _) rfl rfl rfl)) Within.nil)))))

theorem switchMode_run_key (m : Nat) (s : State) {k : Key} (hk : k.idx ≠ 0x4300) :
    ((switchMode m).run s).key k = if k = ⟨0x4001, 0, 5⟩ then (m : Int) else s.key k := by
  have hkeep : (k.idx != 0x4300) = true := bne_iff_ne.2 hk
  simp only [switchMode, Eff.run_look, Eff.run_all_cons, Eff.run_all_nil]
  refine (key_defaults ((setN 0x4001 5 m).run s) (fun k => k.idx != 0x4300) k).trans ?_
  rw [if_pos hkeep]
  exact key_obj s ⟨0x4001, 0, 5⟩ k m

/-- The ring after a switch of the mode: no request, no confirmation and no mode to adopt. -/
theorem modeBecomes_run_facts (m : Nat) (s : State) :
    let u := (modeBecomes m).run s
    u.mode = m ∧ u.ring.request = none ∧ u.ring.adopt = none ∧ u.cycle = s.cycle ∧ (∀ i, counterClass i = 11035 → u.counter i = s.counter i) ∧
      u.ringState = s.ringState := by
  intro u
  have hu : u = (modeFollows m).run ((switchMode m).run s) := modeBecomes_run m s
  clear_value u
  subst hu
  rw [modeFollows_within.ring_run _ rfl, State.mode, State.cycle, State.ringState]
  simp only [State.n]
  rw [modeFollows_within.keeps_obj _ (by decide +kernel), modeFollows_within.keeps_obj _ (by decide +kernel),
    modeFollows_within.keeps_obj _ (by decide +kernel)]
  simp only [State.obj]
  rw [switchMode_run_key m s (by decide), switchMode_run_key m s (by decide), switchMode_run_key m s (by decide), if_pos rfl,
    if_neg (by simp), if_neg (by simp)]
  exact ⟨Int.toNat_natCast _, rfl, rfl, rfl, fun i hi => (modeFollows_within.keeps_ctr _ hi (by decide +kernel)).trans rfl, rfl⟩

theorem exec_modeSwitch_taken {s : State} {m : Nat} (hoperating : s.operating = true) (htarget : s.switchTarget = some m)
    (hother : m ≠ s.mode) (hsealed : s.od.sealedSet = none) :
    ∃ t, exec .modeSwitch s = .next t ∧ t.mode = m ∧ t.counter (wheelItem 27) = (s.counter (wheelItem 27) + 1) %
    18446744073709551616 ∧ t.ring.request = none ∧ t.cycle = s.cycle := by
  obtain ⟨hmode, hrequest, -, hcycle, hcounter, -⟩ := modeBecomes_run_facts m s
  have hrun : (operating modeSwitches).run s = (Eff.whenS (fun _ => s.ringState == ringMaster) (setN 0x4010 4 2)).run
      ((count (wheelItem 27)).run ((raise 593).run ((modeBecomes m).run s))) := by
    have hneither : ¬(s.od.sealedSet.any fun x => x.atModeSwitch) = true := by simp [hsealed]
    rw [operating, Eff.run_whenS, if_pos hoperating, modeSwitches, Eff.run_look]
    simp only [htarget, bne_iff_ne.2 hother, Eff.run_all_cons, Eff.run_all_nil, Eff.run_whenS, if_neg hneither, Eff.run_when, if_true]
  refine ⟨_, rfl, ?_⟩
  rw [Eff.run_seq, hrun, State.mode, State.cycle, flush_n, flush_n, flush_ring, flush_counter _ _ (by decide)]
  generalize (modeBecomes m).run s = u at hmode hrequest hcycle hcounter ⊢
  set v := (count (wheelItem 27)).run ((raise 593).run u) with hv
  have hcount : v.counter (wheelItem 27) = (s.counter (wheelItem 27) + 1) % 18446744073709551616 := by
    rw [hv, count_run_same, raise_run_counter _ _ (by decide), hcounter _ (by decide)]
  have hkeys : ∀ sub, ((Eff.whenS (fun _ => s.ringState == ringMaster) (setN 0x4010 4 2)).run v).n 0x4001 sub = u.n 0x4001 sub := by
    intro sub
    rw [Eff.run_whenS]
    split
    · simp [setN, setObj, State.n, State.obj, key_obj, hv]
    · rfl
  rw [hkeys, hkeys, Eff.run_whenS]
  refine ⟨hmode, ?_, ?_, hcycle⟩
  · split <;> exact hcount
  · split <;> exact hrequest

theorem exec_modeAdopt_taken {s : State} {m : Nat} (hoperating : s.operating = true) (hadopt : s.ring.adopt = some m)
    (hother : m ≠ s.mode) (hstate : s.ringState ≠ 4) :
    ∃ t, exec .modeAdopt s = .next t ∧ t.mode = m ∧ t.ring.adopt = none ∧ t.cycle = s.cycle := by
  obtain ⟨hmode, -, hadopted, hcycle, -, -⟩ := modeBecomes_run_facts m s
  have hrun : (operating modeAdopts).run s = (modeBecomes m).run s := by
    rw [operating, Eff.run_whenS, if_pos hoperating, modeAdopts, Eff.run_look, hadopt]
    simp only [Eff.ofOption, show (s.ringState != ringMaster) = true from bne_iff_ne.2 hstate, Eff.run_when_true,
      beq_false_of_ne hother, Bool.false_eq_true, if_false]
  refine ⟨_, rfl, ?_⟩
  rw [Eff.run_seq, hrun, State.mode, State.cycle, flush_n, flush_n, flush_ring]
  exact ⟨hmode, hadopted, hcycle⟩

/-- Settles O23, by the request's evaluation and by what a mode switch leaves of the ring. -/
theorem scheduleModeChanges : Obligations.ScheduleModeChanges := by
  unfold Obligations.ScheduleModeChanges
  exact ⟨fun _ _ => exec_modeRequestEvaluation_confirmed, fun _ _ => exec_modeRequestEvaluation_givenUp,
    fun _ _ => exec_modeSwitch_taken, fun _ _ => exec_modeAdopt_taken⟩

end Sys2Proof.Machine

/-! # Events that wait for their number

The sequencer numbers at the end of a command every event that waits (R367), whichever command raised it. Five statements claim that a
command leaves the records as they were and do not ask that no event waits. -/

namespace Sys2Proof.Machine

/-- A state in which an event waits for its number. -/
def State.withWaitingEvent (s : State) : State :=
  { s with events := { s.events with raised := [⟨0, 512, 0, 0, none⟩] } }

/-! ## Sequence recovery -/

/-- A module whose recovery function 0 is due for its latent error test. -/
def latentTester : State := (runningModule.withObj 0x6600 5 0 1 |>.withObj 0x6600 7 0 0 |>.withObj 0x6600 6 0 10).withWaitingEvent

/-- Refutes O33: a latent error test within its bound numbers the event that waits. -/
theorem not_sequenceRecoveryTimers : ¬ Obligations.SequenceRecoveryTimers := by
  unfold Obligations.SequenceRecoveryTimers
  rintro ⟨-, -, -, hquiet, -⟩
  obtain ⟨t, hexec, -, -, hfifo⟩ := hquiet latentTester 0 (by decide +kernel) (by decide +kernel) (by decide +kernel) (by decide +kernel)
  cases hexec
  exact absurd hfifo (by decide +kernel)

/-! ## HOLD -/

/-- A fresh signal of value 0. -/
def freshSignal : SourceValue :=
  { status := 1, fresh := true, age := 0, verdict := 0xFF, cycle := 0, isPdu := false, bits := 8, bytes := List.replicate 8 0, arrived := 0,
    base := 0 }

/-- The run of task 0 in mode 0, with that signal read. -/
def signalRun : TaskRun :=
  { task := 0, mode := 0, startedAt := 0, serial := 0, sources := [freshSignal], writes := [], armed := [], rows := 0, ran := false,
    late := false, cycle := 0, reports := [] }

/-- A module whose engine 0 runs a HOLD task of row 0. -/
def holdingModule : State :=
  let s := runningModule.withObj 0x7100 2 0 5 |>.withObj 0x7100 5 0 0 |>.withObj 0x7100 6 0 1
  { s with messages := { s.messages with engines := [(0, { Engine.init with run := some signalRun })] } }.withWaitingEvent

/-- Refutes O36: a HOLD that carries a fresh value on numbers the event that waits. -/
theorem not_signalFunctionsStage : ¬ Obligations.SignalFunctionsStage := by
  unfold Obligations.SignalFunctionsStage
  rintro ⟨-, -, -, -, -, hhold, -⟩
  obtain ⟨t, hexec, -, hfifo⟩ := hhold holdingModule 0 signalRun 0 freshSignal (by decide) (by decide +kernel) (by decide +kernel) rfl
    (by decide +kernel) (by decide +kernel) rfl rfl
  cases hexec
  exact absurd hfifo (by decide +kernel)

/-! ## The grove self-test -/

/-- A half whose stack port to its peer carries messages. -/
def linkedHalf : State :=
  (runningModule.withObj 0x9000 1 0 2 |>.withObj 0x9020 1 0 1 |>.withObj 0x9001 1 0 1 |>.withObj 0x9002 1 0 1
    |>.withObj 0x9020 4 0 0).withWaitingEvent

/-- Refutes O46: the command that keeps a self-test request numbers the event that waits. -/
theorem not_twinSelfTests : ¬ Obligations.TwinSelfTests := by
  unfold Obligations.TwinSelfTests
  rintro ⟨hrequest, -⟩
  obtain ⟨t, hexec, -, hfifo⟩ := hrequest linkedHalf 0 0 (by decide +kernel) (by decide +kernel) (by decide +kernel)
  cases hexec
  exact absurd hfifo (by decide +kernel)

/-! ## Vote locks -/

/-- A witness whose vote lock ends in this cycle. -/
def lockedWitness : State := { runningModule with ring := { runningModule.ring with voteLock := some (0, 0) } }.withWaitingEvent

/-- Refutes O47: the end of a vote lock numbers the event that waits. -/
theorem not_leaseIsPolledAndTaken : ¬ Obligations.LeaseIsPolledAndTaken := by
  unfold Obligations.LeaseIsPolledAndTaken
  rintro ⟨-, -, -, hlock, -⟩
  obtain ⟨t, hexec, -, hfifo⟩ := hlock lockedWitness 0 0 (by decide +kernel) rfl (by decide)
  cases hexec
  exact absurd hfifo (by decide +kernel)

/-! ## Supply signals -/

/-- A module under overvoltage. -/
def overvoltedModule : State := (runningModule.withObj 0xB060 2 0 2).withWaitingEvent

/-- Refutes O56: the end of an overvoltage numbers the event that waits. -/
theorem not_supplyTemperatureAndCanopySignals : ¬ Obligations.SupplyTemperatureAndCanopySignals := by
  unfold Obligations.SupplyTemperatureAndCanopySignals
  rintro ⟨-, -, -, hended, -⟩
  obtain ⟨t, hexec, -, hfifo⟩ := hended overvoltedModule (.inl rfl) (by decide +kernel)
  cases hexec
  exact absurd hfifo (by decide +kernel)

end Sys2Proof.Machine

/-! # Copies of a stream at a member of the stack (R286) -/

namespace Sys2Proof.Machine

/-! ## A frame that finds no memory -/

/-- On a busy port a frame for which no memory is left joins nothing. -/
theorem enqueueFrame_run_traffic_of_full {s : State} {p c h : Nat} {f : QueuedFrame} (hbusy : s.macBusy p)
    (hfull : s.memoryFor p f = false) (hforwards : s.forwards f.handle = false) (hshared : inShared f = true) :
    ((enqueueFrame p c h f).run s).traffic = s.traffic := by
  obtain ⟨hsame, -, -⟩ := admitFrame_run (s := s) (p := p) (c := c) (h := h) (f := f)
  rw [enqueueFrame, Eff.run_seq, kick_run_busy (hsame.busy hbusy), admitFrame, Eff.run_look]
  have hdrop (s : State) : ((queueDrop p c h).run s).traffic = s.traffic := (queueDrop_within (Mask.Le.refl _)).traffic_run s rfl
  simp only [hfull, hforwards, hshared]
  split
  · exact hdrop s
  · exact hdrop _

/-! ## A copy for the member itself -/

theorem forwardedStream_run_own {s : State} {h : Nat} {c : ForwardedFrame} (hmember : s.stackMember = true)
    (hcarries : s.stackCarries c.port = true) (hown : c.member = s.n 0x1003 0) (hsound : frameSound c.frame = true)
    (hon : s.on 0x6020 1 h = true) (hpassing : s.on 0x6021 4 h = false) (hsdu : s.n 0x6020 4 h = 0) (hmeter : s.n 0x6020 6 h = 0xFFFF)
    (hgenerated : s.n 0x6020 7 h = 0) :
    (forwardedStream h c).run s =
      (Eff.all [count (twinItem 27), bumpObj 0x6021 1 h, bumpObj 0x6021 2 h (frameLen c.frame.data),
        streamForward h 0xFFFC c.frame.stamp (c.frame.icv == .verified) c.frame.data false]).run s := by
  simp only [State.stackCarries, Bool.and_eq_true, Bool.not_eq_true'] at hcarries
  obtain ⟨⟨⟨husable, hbarred⟩, hverifies⟩, -⟩ := hcarries
  have hn (idx sub : Nat) : ((count (twinItem 27)).run s).n idx sub h = s.n idx sub h := rfl
  have hflag (idx sub : Nat) : ((count (twinItem 27)).run s).on idx sub h = s.on idx sub h := rfl
  simp [forwardedStream, stackArrives, streamFilter, generate, hmember, husable, hbarred, hverifies, hown, hsound, hn, hflag, hon,
    hpassing, hsdu, hmeter, hgenerated]

/-- A frame of a stream that goes to one port and to no ring joins that port. -/
theorem streamForward_run_one {s : State} {h port stamp q : Nat} {verified stripped : Bool} {d : Bytes} (hring : s.n 0x6020 9 h = 0xFFFF)
    (hegress : s.egressPorts h = [q]) (hq : q ≠ port) :
    (streamForward h port stamp verified d stripped).run s = (enqueueFrame q (s.streamClass h q d) h
      { data := d, origin := .relayed port (groveOf q != groveOf port), handle := h, enqueued := s.now, received := stamp, launch := none,
        sent := 0, cuts := 0, heldCounted := false, began := none }).run s := by
  have hbne : (q != port) = true := bne_iff_ne.2 hq
  simp only [streamForward, Eff.run_look, hring, hegress, List.filter_cons, List.filter_nil, hbne]
  simp

/-! ## The copy that lies in the shared frame buffer

A relayed frame whose egress is in another grove than its ingress lies in the shared frame buffer, and the port 0xFFFC of a copy
lies in no grove. O29 takes it to lie there only where its ICV is verified. -/

/-- A member whose stream 0 leaves by port 1. -/
def memberBase : State :=
  runningModule.withObj 0x9000 1 0 1 |>.withObj 0x1003 0 0 1 |>.withObj 0x9001 1 0 1 |>.withObj 0x9002 1 0 1
    |>.withObj 0x6020 1 0 1 |>.withObj 0x6020 2 0 2 |>.withObj 0x6020 3 0 0 |>.withObj 0x6020 4 0 0 |>.withObj 0x6020 6 0 0xFFFF
    |>.withObj 0x6020 7 0 0 |>.withObj 0x6020 8 0 0xFFFF |>.withObj 0x6020 9 0 0xFFFF |>.withObj 0x6400 4 8 67108864

/-- A frame with these bytes, relayed from a copy to ports of one grove. -/
def relayedInGrove (d : Bytes) : QueuedFrame :=
  { data := d, origin := .relayed 0xFFFC false, handle := 0, enqueued := 0, received := 0, launch := none, sent := 0, cuts := 0,
    heldCounted := false, began := none }

/-- The frame that a copy with these bytes gives. -/
def sharedCopy (d : Bytes) (now : Nat) : QueuedFrame :=
  { relayedInGrove d with origin := .relayed 0xFFFC true, enqueued := now }

/-- That member, whose port 1 sends such a frame. -/
def relayingMember (d : Bytes) : State :=
  { memberBase with traffic := { memberBase.traffic with
      macs := [(1, { Mac.init with current := some (0, relayedInGrove d) })] } }

/-- The copy of a frame with these bytes on stack port 0. -/
def unprotectedCopy (d : Bytes) : ForwardedFrame :=
  ⟨0, 1, { data := d, fcs := .good, icv := .unprotected, stamp := 0, secTag := none }⟩


theorem relayingMember_full {d : Bytes} (hlong : 16777216 < d.length) {s : State} (hsame : (relayingMember d).sameQueues s) {f : QueuedFrame}
    (hdata : f.data = d) (horigin : f.origin = .relayed 0xFFFC true) : s.memoryFor 1 f = false ∧ s.forwards f.handle = false := by
  have hstored : (relayingMember d).stored = [(1, relayedInGrove d)] := rfl
  have hforwards : (relayingMember d).forwards f.handle = false := rfl
  have hkey : storedKey (1, relayedInGrove d) ≠ storedKey (1, f) := by
    simp [storedKey, relayedInGrove, horigin]
  rw [hsame.memoryFor, hsame.forwards]
  refine ⟨?_, hforwards⟩
  have hlen : sharedBufferBytes < frameLen f.data := by
    rw [hdata]
    unfold sharedBufferBytes frameLen
    omega
  simp only [State.memoryFor, hstored, hforwards, inShared, horigin]
  simp [hkey]
  omega

/-- What counts a frame of a stream, before it is forwarded. -/
def streamCounted (h len : Nat) : Eff := .all [count (twinItem 27), bumpObj 0x6021 1 h, bumpObj 0x6021 2 h len]

theorem streamCounted_within (h len : Nat) : Eff.Within tables ⟨0, 0x180000000000000000000000, 0x4000000000000000000000000000000000000000000000000000000000000⟩ (streamCounted h len) := by
  have hm := Mask.Le.refl ⟨0, 0x180000000000000000000000, 0x4000000000000000000000000000000000000000000000000000000000000⟩
  exact Within.cons (Within.count (hm.ctr (by decide +kernel))) (Within.cons (Within.bumpObj (hm.obj (by decide +kernel)))
    (Within.cons (Within.bumpObj (hm.obj (by decide +kernel))) Within.nil))

section
variable (d : Bytes)

theorem relayingMember_operating : (relayingMember d).operating = true := (show memberBase.operating = true by decide +kernel)

theorem relayingMember_stackMember : (relayingMember d).stackMember = true := (show memberBase.stackMember = true by decide +kernel)

theorem relayingMember_carries : (relayingMember d).stackCarries (unprotectedCopy d).port = true :=
  (show memberBase.stackCarries 0 = true by decide +kernel)

theorem relayingMember_egress : (relayingMember d).egressPorts 0 = [1] := (show memberBase.egressPorts 0 = [1] by decide +kernel)

theorem relayingMember_position : (unprotectedCopy d).member = (relayingMember d).n 0x1003 0 :=
  (show 1 = memberBase.n 0x1003 0 by decide +kernel)

theorem relayingMember_on {idx sub : Nat} {v : Bool} (h : memberBase.on idx sub = v) : (relayingMember d).on idx sub = v := h

theorem relayingMember_n {idx sub v : Nat} (h : memberBase.n idx sub = v) : (relayingMember d).n idx sub = v := h

theorem relayingMember_class (b : Bytes) : (relayingMember d).streamClass 0 1 b = 0 := by
  have hclass : (relayingMember d).n 0x6020 3 = 0 := relayingMember_n d (by decide +kernel)
  simp [State.streamClass, hclass]

theorem relayingMember_now : (relayingMember d).now = 0 := (show memberBase.now = 0 by decide +kernel)

theorem relayingMember_queued (q : Nat) : (relayingMember d).queued q = [] := rfl

theorem relayingMember_busy : (relayingMember d).macBusy 1 := by
  refine ⟨0, relayedInGrove d, ?_, ?_⟩
  · rfl
  · exact (show memberBase.preemptable 1 0 = false by decide +kernel)

end

theorem relayingMember_run_traffic {d : Bytes} (hlong : 16777216 < d.length) :
    ((forwardedStream 0 (unprotectedCopy d)).run (relayingMember d)).traffic = (relayingMember d).traffic := by
  have hwithin := streamCounted_within 0 (frameLen d)
  have hsame := hwithin.sameQueues (relayingMember d) (by decide) (by decide +kernel)
  have hring : ((streamCounted 0 (frameLen d)).run (relayingMember d)).n 0x6020 9 0 = 0xFFFF :=
    congrArg Int.toNat (hwithin.keeps_obj (relayingMember d) (by decide +kernel))
  have hegress : ((streamCounted 0 (frameLen d)).run (relayingMember d)).egressPorts 0 = [1] := by
    rw [State.egressPorts, hwithin.keeps_obj (relayingMember d) (by decide +kernel)]
    exact relayingMember_egress d
  rw [forwardedStream_run_own (relayingMember_stackMember d) (relayingMember_carries d) (relayingMember_position d) rfl
    (relayingMember_on d (by decide +kernel)) (relayingMember_on d (by decide +kernel)) (relayingMember_n d (by decide +kernel))
    (relayingMember_n d (by decide +kernel)) (relayingMember_n d (by decide +kernel))]
  change ((streamForward 0 0xFFFC 0 false d false).run ((streamCounted 0 (frameLen d)).run (relayingMember d))).traffic = _
  generalize (streamCounted 0 (frameLen d)).run (relayingMember d) = t at hsame hring hegress ⊢
  obtain ⟨hfull, hforwards⟩ := relayingMember_full hlong hsame (f := sharedCopy d t.now) rfl rfl
  rw [streamForward_run_one hring hegress (by decide)]
  change ((enqueueFrame 1 (t.streamClass 0 1 d) 0 (sharedCopy d t.now)).run t).traffic = _
  rw [enqueueFrame_run_traffic_of_full (hsame.macBusy (relayingMember_busy d)) hfull hforwards rfl, hsame.traffic]

theorem relayingMember_takes {d : Bytes} (hlen : d.length = 16777217) : (relayingMember d).takesFrame 1 0 (relayedInGrove d) := by
  have hroom : 0 + frameLen d ≤ 67108864 := by
    unfold frameLen
    omega
  refine ⟨decide_eq_true hroom, ?_⟩
  have hstored : (relayingMember d).stored = [(1, relayedInGrove d)] := rfl
  simp [State.memoryFor, hstored]

theorem relayingMember_command_traffic {d : Bytes} (hlong : 16777216 < d.length) :
    ((Eff.seq (operating (forwardedStream 0 (unprotectedCopy d))) flushEvents).run (relayingMember d)).traffic = (relayingMember d).traffic := by
  rw [Eff.run_seq, flush_within.traffic_run _ rfl, operating, Eff.run_whenS, if_pos (relayingMember_operating d), relayingMember_run_traffic hlong]

/-- Refutes O29: a copy without ICV lies in the shared frame buffer too, and joins nothing where the buffer has no room for it. -/
theorem not_framesSteeredAndForwarded : ¬ Obligations.FramesSteeredAndForwarded := by
  unfold Obligations.FramesSteeredAndForwarded
  rintro ⟨-, hcopy, -⟩
  obtain ⟨d, hd⟩ : ∃ d : Bytes, d.length = 16777217 := ⟨List.replicate 16777217 0, List.length_replicate⟩
  have htakes : (relayingMember d).takesFrame 1 ((relayingMember d).streamClass 0 1 d) { relayedInGrove d with enqueued := (relayingMember d).now } := by
    rw [relayingMember_class, relayingMember_now]
    exact relayingMember_takes hd
  obtain ⟨t, hexec, ⟨f, -, hjoined⟩, -⟩ := hcopy (relayingMember d) 0 (unprotectedCopy d) 1 (relayingMember_operating d)
    (relayingMember_stackMember d) (relayingMember_carries d) (relayingMember_position d) rfl (relayingMember_on d (by decide +kernel))
    (relayingMember_on d (by decide +kernel)) (relayingMember_n d (by decide +kernel)) (relayingMember_n d (by decide +kernel))
    (relayingMember_n d (by decide +kernel)) (relayingMember_n d (by decide +kernel)) (relayingMember_n d (by decide +kernel))
    (relayingMember_egress d) (by decide) (relayingMember_busy d) htakes
  have ht : t.traffic = (relayingMember d).traffic := by
    rw [← relayingMember_command_traffic (by omega : 16777216 < d.length)]
    exact congrArg State.traffic (Host.Outcome.next.inj hexec).symm
  rw [State.queued, State.queued, ht] at hjoined
  exact absurd hjoined.length_le (by simp)

end Sys2Proof.Machine

/-! # Events with lower numbers come first

The events of one command are numbered in the order of their sources (R367), and a FIFO without room loses the last of them. Room for the
event that a statement names is not enough where the port then drops head frames: each drop raises event 641. -/

namespace Sys2Proof.Machine

/-- The records that have been numbered when a command has run. -/
def State.eventsAfter (s : State) (c : Instr) : List EventRecord :=
  match exec c s with
  | .next t => t.events.fifo
  | _ => []

/-- No record of a source is appended where none of that source has been numbered. -/
theorem not_records_of_eventsAfter {s t : State} {c : Instr} {source arg : Nat} (hexec : exec c s = .next t) (hempty : s.events.fifo = [])
    (hnone : ∀ r ∈ s.eventsAfter c, r.source ≠ source) : ¬ s.records t source arg := by
  rintro ⟨new, hfifo, r, hr, hsource, -⟩
  rw [hempty, List.nil_append] at hfifo
  refine hnone r ?_ hsource
  rw [State.eventsAfter, hexec]
  exact (congrArg (r ∈ ·) hfifo).mpr hr

/-- A state whose sequencer has room for nine events of the next command. -/
def State.nearlyFull (s : State) : State := { s with events := { s.events with backlog := 1031 } }

/-- A module whose port 1 has its link up, all gates closed, and nine frames in class queue 0. -/
def shutPort : State :=
  let s := runningModule.withObj 0x6100 1 1 1 |>.withObj 0x6100 2 1 0 |>.withPort 1 0 1 1 |>.withPort 1 1 1 1
  { s with traffic := { s.traffic with queues := [(8, List.replicate 9 (s.ownFrame .module []))] } }

/-! ## The take-over -/

/-- That module with an armed list. -/
def armedPort : State :=
  { shutPort with traffic := { shutPort.traffic with gates := [(1, { Gate.init with armedTime := some 0 })] } }.nearlyFull

/-- Refutes O31: the empty list that is taken over opens no gate, nine frames are dropped, and their events leave no room for the
take-over's. -/
theorem not_gateListsOpenAndClose : ¬ Obligations.GateListsOpenAndClose := by
  unfold Obligations.GateListsOpenAndClose
  rintro ⟨-, htakeOver⟩
  obtain ⟨t, hexec, -, -, -, -, -, -, hrecords⟩ := htakeOver armedPort 1 (by decide +kernel) (by decide) rfl
    ⟨rfl, by decide⟩
  exact not_records_of_eventsAfter hexec rfl (by decide +kernel) hrecords

/-! ## The respond mPacket -/

/-- That module while it verifies pre-emption, its MaxOpen 0. -/
def verifyingPort : State :=
  (shutPort.withObj 0x6001 2 1 1 |>.withObj 0x6000 2 1 1 |>.withObj 0x6101 8 1 0).nearlyFull

/-- Refutes O32: nine frames are dropped as pre-emption becomes active, and their events leave no room for event 643. -/
theorem not_preemptionIsVerified : ¬ Obligations.PreemptionIsVerified := by
  unfold Obligations.PreemptionIsVerified
  rintro ⟨-, -, hrespond, -⟩
  obtain ⟨t, hexec, -, -, hrecords⟩ := hrespond verifyingPort 1 (by decide +kernel) (by decide) (by decide +kernel)
    (by decide +kernel) (by decide +kernel) (by decide +kernel) ⟨rfl, by decide⟩
  exact not_records_of_eventsAfter hexec rfl (by decide +kernel) hrecords

end Sys2Proof.Machine

/-! # Engines and host rings: three more refutations -/

namespace Sys2Proof.Machine

/-! ## An engine that restarts

O35 reads the state of an engine (R357) after its task has ended and does not ask that the engine is not restarting. -/

/-- A module whose engine 0 restarts while a task runs. -/
def restartingEngine : State :=
  { runningModule with messages := { runningModule.messages with
      engines := [(0, { Engine.init with run := some { signalRun with ran := true }, restarting := true })] } }

/-- Refutes O35: an engine that restarts shows so after a budget overrun. -/
theorem not_tasksStartFinishAndOverrun : ¬ Obligations.TasksStartFinishAndOverrun := by
  unfold Obligations.TasksStartFinishAndOverrun
  rintro ⟨-, -, -, -, hbudget, -⟩
  obtain ⟨t, hexec, -, -, -, hstate⟩ := hbudget restartingEngine 0 { signalRun with ran := true } (by decide) (by decide +kernel) rfl
  cases hexec
  exact absurd hstate (by decide +kernel)

/-! ## A ring that announces each completion

A ring that drains completes each outstanding entry, and each completion can raise event 769 (R260), which comes before the events
of the ring's state and of DMA errors. -/

/-- A receive ring with `n` buffers in use that announces each completion. -/
def announcingRing (n : Nat) : HostRing :=
  { HostRing.init with state := .enabled, every := 1, buffers := (List.range n).map fun i => (i, List.replicate 32 0) }

/-- A module whose receive ring 0, of function 0, has ten buffers in use, and whose sequencer has room for `room` + 8 events. -/
def announcingModule (room : Nat) : State :=
  let s := runningModule.withObj 0x8100 3 0 0 |>.withObj 0x8100 4 0 1
  { s with
    host := { s.host with rx := [(0, announcingRing 10)] }
    events := { s.events with backlog := 1032 - room } }

/-- Refutes O39: ten buffers are completed as the ring drains, and their events leave no room for event 771. -/
theorem not_ringsCompleteAndDrain : ¬ Obligations.RingsCompleteAndDrain := by
  unfold Obligations.RingsCompleteAndDrain
  rintro ⟨-, -, -, hdisable, -⟩
  obtain ⟨t, hexec, -, -, -, hrecords⟩ := hdisable (announcingModule 1) false 0 (.inl rfl) (by decide)
    (by decide +kernel) (by decide +kernel) (by decide) ⟨rfl, by decide +kernel⟩
  exact not_records_of_eventsAfter hexec rfl (by decide +kernel) hrecords

/-- Refutes O40: ten buffers are completed as the ring drains, and their events leave no room for that of the failed read. -/
theorem not_functionsResetAndStop : ¬ Obligations.FunctionsResetAndStop := by
  unfold Obligations.FunctionsResetAndStop
  rintro ⟨-, -, -, -, -, hread, -⟩
  obtain ⟨t, hexec, -, -, -, hrecords⟩ := hread (announcingModule 2) false 0 0 (by decide +kernel)
    (by decide +kernel) (by decide) ⟨rfl, by decide +kernel⟩
  exact not_records_of_eventsAfter hexec rfl (by decide +kernel) hrecords

end Sys2Proof.Machine

/-! # Values and states that five statements leave open

Arguments of events that have more than 31 bits (R366), a fault class whose action is configured (R357), numbers of functions that
no VF Enable stands for, and a management PDU on a segment that keeps presence (R148). -/

namespace Sys2Proof.Machine

/-! ## Event arguments of 31 bits

An event record carries 31 bits of its argument. -/

/-- A module whose port 4 is about to switch to a segment mode whose number has more than 31 bits. -/
def wideModeModule : State :=
  { runningModule with segments := [(4, { Segment.init with nextMode := some 2147483648, switchAt := some 0 })] }

/-- Refutes O27: a segment mode is any number there, and an event does not carry its bit 31. -/
theorem not_segmentTailAndNodes : ¬ Obligations.SegmentTailAndNodes := by
  unfold Obligations.SegmentTailAndNodes
  rintro ⟨-, -, -, -, hswitch, -⟩
  obtain ⟨t, hexec, -, -, -, -, -, hrecords, -⟩ := hswitch wideModeModule 4 2147483648 0 (by decide +kernel) (by decide) rfl rfl
    (by decide) ⟨rfl, by decide⟩
  obtain ⟨new, hfifo, r, hr, -, -, harg⟩ := hrecords
  cases hexec
  rw [show wideModeModule.events.fifo = [] from rfl, List.nil_append] at hfifo
  have hall : ∀ r ∈ wideModeModule.eventsAfter (.segmentModeSwitch 4), r.arg ≠ 2147483648 := by decide +kernel
  exact hall r ((congrArg (r ∈ ·) hfifo).mpr hr) harg

/-- A module with a pairing that has failed three times on a port whose number has more than 31 bits. -/
def widePairing : State :=
  let s := runningModule.withObj 0xA033 0 0 0
  { s with kiln := { s.kiln with pairings := [(2147483648, { Pairing.init with initiator := true, attempts := 3 })] } }

/-- Refutes O53: a failed pairing is that of any port there, and an event does not carry its bit 31. -/
theorem not_pairingRunsAndRetries : ¬ Obligations.PairingRunsAndRetries := by
  unfold Obligations.PairingRunsAndRetries
  rintro ⟨-, -, -, -, -, -, -, hfails, -⟩
  obtain ⟨t, hexec, -, -, ⟨new, hfifo, r, hr, -, harg⟩, -⟩ := hfails widePairing 2147483648 (by decide +kernel) (by decide +kernel)
    (by decide +kernel) (by decide +kernel) (by decide +kernel) ⟨rfl, by decide⟩
  cases hexec
  rw [show widePairing.events.fifo = [] from rfl, List.nil_append] at hfifo
  have hall : ∀ r ∈ widePairing.eventsAfter (.pairTimeout 2147483648), r.arg ≠ 2147483648 := by decide +kernel
  exact hall r ((congrArg (r ∈ ·) hfifo).mpr hr) harg

/-! ## A configured action -/

/-- A half that stands ALONE, whose fault class 17 takes the action of a twin fault at its first occurrence. -/
def touchyHalf : State :=
  linkedHalf.withObj 0x9021 1 0 1 |>.withObj 0x9020 2 0 0 |>.withObj 0xB000 1 17 0 |>.withObj 0xB000 3 17 4

/-- Refutes O45: the record shows the half's own TwinRank, whose fault takes the half to FAILED. -/
theorem not_twinStepsAndMirrors : ¬ Obligations.TwinStepsAndMirrors := by
  unfold Obligations.TwinStepsAndMirrors
  rintro ⟨-, hrecord, -⟩
  obtain ⟨t, hexec, hstate, -⟩ := hrecord touchyHalf 0 [0, 0, 0, 0, 0, 0, 0, 0, 3, 0] (by decide +kernel) (by decide +kernel)
    (by decide +kernel) (by decide +kernel) (by decide +kernel) (by decide +kernel)
  cases hexec
  exact absurd hstate (by decide +kernel)

/-! ## VFs without VF Enable -/

/-- VF Enable and the number of VFs. -/
def State.vfs (s : State) : Bool × Nat := (s.host.vfEnable, s.host.numVfs)

theorem Eff.Within.vfs_run {m : Mask} {e : Eff} (he : e.Within tables m) (s : State)
    (h : m.parts.testBit Part.functions.bit = false) : (e.run s).vfs = s.vfs := by
  obtain ⟨-, -, hnum, hset, -⟩ := he.keeps_part s .functions h
  exact Prod.ext hset.symm hnum.symm

theorem issueReads_run_vfs (link : Nat) (s : State) : ((issueReads link).run s).vfs = s.vfs := by
  rw [issueReads, Eff.run_look, Eff.run_seq,
    Eff.forEach_keeps (β := Bool × Nat) State.vfs (fun r s => by simp only [Eff.run_all_cons, Eff.run_all_nil]; rfl)]
  rfl

theorem dropReadsOf_run_vfs (fn : Nat) (s : State) : ((dropReadsOf fn).run s).vfs = s.vfs := by
  rw [dropReadsOf, Eff.run_seq, Eff.run_look, issueReads_run_vfs]
  rfl

theorem resetVectorsOf_run_vfs (fn : Nat) (s : State) : ((resetVectorsOf fn).run s).vfs = s.vfs :=
  Eff.forEach_keeps (β := Bool × Nat) State.vfs (fun _ _ => rfl) s

theorem apply_function_vfs (fn : Nat) (f : Function → Function) (s : State) : ((Upd.function fn f).apply s).vfs = s.vfs := rfl

/-- A reset of a function leaves VF Enable and the number of VFs. -/
theorem clearFunction_run_vfs (fn : Nat) (s : State) : ((clearFunction fn).run s).vfs = s.vfs := by
  have hbus (s : State) : ((Eff.whenS (fun s => s.on 0x8101 1 fn) (.seq (setB 0x8101 1 false fn) (raise 781 fn))).run s).vfs = s.vfs := by
    rw [Eff.run_whenS]
    split
    · rfl
    · rfl
  simp only [clearFunction, Eff.run_all_cons, Eff.run_all_nil]
  rw [hbus, Eff.run_upd, apply_function_vfs, dropReadsOf_run_vfs, resetVectorsOf_run_vfs,
    (resetQueuesOf_within (Mask.Le.refl _)).vfs_run _ rfl, (clearEnables_within (Mask.Le.refl _)).vfs_run _ rfl,
    (resetRingsOf_within (Mask.Le.refl _)).vfs_run _ rfl]

theorem count_run_vfs (item : Nat) (s : State) : ((count item).run s).vfs = s.vfs := rfl

theorem pcieLink_run_vfs (link speed width : Nat) (s : State) : ((pcieLink link speed width).run s).vfs = s.vfs := by
  rw [pcieLink, Eff.run_look, Eff.run_when]
  split
  · simp only [Eff.run_all_cons, Eff.run_all_nil, Eff.run_when]
    rw [(raise_within (Mask.Le.refl _)).vfs_run _ rfl]
    simp only [apply_ite State.vfs, count_run_vfs, ite_self]
    split
    · rfl
    · rfl
  · rfl

/-- A module whose VF Enable is clear and whose number of VFs is not 0. -/
def strayVfs : State := { runningModule with host := { runningModule.host with numVfs := 5 } }

theorem perstAct_run_vfs (link : Nat) {s : State} (h : s.host.vfEnable = false) : ((perstAct link).run s).vfs = s.vfs := by
  rw [perstAct, Eff.run_look, Eff.run_when]
  split
  · simp only [Eff.run_all_cons, Eff.run_all_nil, Eff.run_when, h, Bool.and_false, Bool.false_eq_true, if_false]
    rw [pcieLink_run_vfs, Eff.forEach_keeps State.vfs clearFunction_run_vfs]
  · rfl

/-- PERST leaves the number of VFs where VF Enable is clear. -/
theorem exec_perst_numVfs {link : Nat} {s t : State} (hactive : s.power.state = .active) (h : s.host.vfEnable = false)
    (hexec : exec (.perst link) s = .next t) : t.host.numVfs = s.host.numVfs := by
  have hnext : flushEvents.run ((powered (perstAct link)).run s) = t := Host.Outcome.next.inj hexec
  rw [← hnext, flush_numVfs, powered, Eff.run_whenS, if_pos (by rw [hactive]; rfl)]
  exact congrArg Prod.snd (perstAct_run_vfs link h)

/-- Refutes O42: PERST clears the number of VFs with VF Enable, where that is set. -/
theorem not_linksPerstAndMarkers : ¬ Obligations.LinksPerstAndMarkers := by
  unfold Obligations.LinksPerstAndMarkers
  rintro ⟨-, -, -, -, hperst, -⟩
  obtain ⟨t, hexec, -, -, -, hvfs, -⟩ := hperst strayVfs (.inl rfl) rfl ⟨rfl, by decide⟩
  have hkept : t.host.numVfs = 5 := exec_perst_numVfs rfl rfl hexec
  exact absurd (hkept.symm.trans hvfs) (by decide)

end Sys2Proof.Machine

/-! # A frame that a port hears (R22, R136, R154)

A frame that passes the checks of a port, on a port that runs no segment, is counted, marks its sender as heard on a segment in
standard PLCA, and is given to what takes it. -/

namespace Sys2Proof.Machine

/-- What the checks of a port look at is the same in two states. -/
structure State.SameChecks (s t : State) (p : Nat) : Prop where
  kiln : t.kiln = s.kiln
  macsec : ∀ sub, t.obj 0xA020 sub p = s.obj 0xA020 sub p
  reads : t.obj 0x2031 0 = s.obj 0x2031 0
  length : t.obj (portIdx p 0) 5 = s.obj (portIdx p 0) 5
  mode : t.obj (portIdx p 0) 2 = s.obj (portIdx p 0) 2

theorem State.SameChecks.macsecNat {s t : State} {p : Nat} (h : s.SameChecks t p) (sub : Nat) : t.n 0xA020 sub p = s.n 0xA020 sub p :=
  congrArg Int.toNat (h.macsec sub)

theorem State.SameChecks.macsecOn {s t : State} {p : Nat} (h : s.SameChecks t p) (sub : Nat) : t.on 0xA020 sub p = s.on 0xA020 sub p := by
  rw [State.on, State.on, h.macsec]

theorem State.SameChecks.passes {s t : State} {p : Nat} (h : s.SameChecks t p) (f : Frame) : t.passes p f = s.passes p f := by
  have hreplayed : t.replayed p f = s.replayed p f := by
    rw [State.replayed, State.replayed, h.kiln, h.macsecNat]
  rw [State.passes, State.passes, hreplayed, State.macsecAdmits, State.macsecAdmits, h.macsecOn, h.reads]

theorem State.SameChecks.lengthOk {s t : State} {p : Nat} (h : s.SameChecks t p) (f : Frame) : t.lengthOk p f = s.lengthOk p f := by
  have hlength : t.port p 0 5 = s.port p 0 5 := congrArg Int.toNat h.length
  rw [State.lengthOk, State.lengthOk, State.wireBytes, State.wireBytes, State.macsecBytes, State.macsecBytes, h.macsecOn, h.macsecOn, hlength]

theorem State.SameChecks.trans {s t u : State} {p : Nat} (h : s.SameChecks t p) (h' : t.SameChecks u p) : s.SameChecks u p :=
  ⟨h'.kiln.trans h.kiln, fun sub => (h'.macsec sub).trans (h.macsec sub), h'.reads.trans h.reads, h'.length.trans h.length, h'.mode.trans h.mode⟩

theorem State.SameChecks.segmentPort {s t : State} {p : Nat} (h : s.SameChecks t p) : t.segmentPort p = s.segmentPort p := by
  have hmode : t.portMode p = s.portMode p := congrArg Int.toNat h.mode
  rw [State.segmentPort, State.segmentPort, hmode]

/-- The mask of what a heard frame changes before it is taken. -/
def heardMask : Mask := ⟨0x1080, 0x1e000000000000000000, 0x100000000000000000000000800173⟩

theorem Eff.Within.sameChecks {e : Eff} (he : e.Within tables heardMask) (p : Nat) (s : State) : s.SameChecks (e.run s) p :=
  ⟨he.kiln_run s rfl, fun sub => he.keeps_class s ⟨0xA020, p, sub⟩ rfl (freeObj_of_freeClass (c := 0xA020) (by decide +kernel) sub),
    he.keeps_obj s (by decide +kernel), he.keeps_port s (by decide +kernel), he.keeps_port s (by decide +kernel)⟩

/-- What a port does with a good frame before anything takes it. -/
def heardFrame (p : Nat) (f : Frame) : Eff :=
  .all [countReceived p f, opportunityOf p f.node, .when (isSG p) (nodeHeard p f.node)]

/-- A frame that passes the checks of a port is counted. -/
def countGood (p bytes : Nat) : Eff := .seq (count (portItem p 0)) (countN (portItem p 1) bytes)

theorem countReceived_run_of_passes {s : State} {p : Nat} {f : Frame} (h : s.passes p f = true) (hl : s.lengthOk p f = true) :
    (countReceived p f).run s = (countGood p (s.wireBytes p f)).run s := by
  rw [countReceived, Eff.run_look, if_pos h, hl]
  simp only [Eff.run_all_cons, Eff.run_all_nil, Bool.not_true, Eff.run_when, Bool.false_eq_true, if_false, countGood, Eff.run_seq]

theorem countGood_within (p bytes : Nat) : Eff.Within tables heardMask (countGood p bytes) :=
  have hm := Mask.Le.refl heardMask
  Within.seq (Within.count (Ctr.port (hm.ctr (by decide +kernel)))) (Within.countN (Ctr.port (hm.ctr (by decide +kernel))))

theorem State.passes_of_hears {s : State} {p : Nat} {f : Frame} (h : s.hears p f = true) :
    s.portEnabled p = true ∧ s.groveOn (groveOf p) = true ∧ s.passes p f = true ∧ s.lengthOk p f = true ∧ f.fcs = .good := by
  simp only [State.hears, Bool.and_eq_true, beq_iff_eq, bne_iff_ne, Bool.not_eq_true', decide_eq_true_eq] at h
  obtain ⟨⟨⟨⟨⟨⟨⟨henabled, hgrove⟩, hfcs⟩, hicv⟩, hadmits⟩, hreplay⟩, hmin⟩, hmax⟩ := h
  refine ⟨henabled, hgrove, ?_, ?_, hfcs⟩
  · simp [State.passes, frameSound, hfcs, hicv, hadmits, hreplay]
  · simp [State.lengthOk, hmin, hmax]

/-- What a port does with a frame that passes its checks: what takes the frame is given it once it is counted and its sender heard. -/
theorem received_run_of_hears {s : State} {p : Nat} {frame : Frame} (h : s.hears p frame = true) (hu : s.unscheduled p = true)
    (mkpdu : Option Mkpdu) (good : Frame → Eff) :
    (received p frame mkpdu good).run s = (noteNumber p (s.atPlane p frame)).run
      ((good (s.atPlane p frame)).run ((heardFrame p (s.atPlane p frame)).run s)) := by
  obtain ⟨henabled, hgrove, hpasses, hlength, hfcs⟩ := State.passes_of_hears h
  have hsegment : s.segmentPort p = false := by
    rw [State.unscheduled, Bool.and_eq_true, Bool.not_eq_true'] at hu
    exact hu.1
  rw [received, Eff.run_look, heardFrame]
  generalize hf : s.atPlane p frame = f
  replace hpasses : s.passes p f = true := hf ▸ hpasses
  replace hlength : s.lengthOk p f = true := hf ▸ hlength
  replace hfcs : f.fcs = .good := hf ▸ hfcs
  rw [awake, Eff.run_whenS, if_pos henabled, Eff.run_look, if_pos hgrove]
  simp only [Eff.run_all_cons, Eff.run_all_nil]
  have hcounted : s.SameChecks ((countReceived p f).run s) p := by
    rw [countReceived_run_of_passes hpasses hlength]
    exact (countGood_within p _).sameChecks p s
  generalize (countReceived p f).run s = s1 at *
  have hopened : s1.SameChecks ((opportunityOf p f.node).run s1) p :=
    (opportunityOf_within ((Mask.Le.refl heardMask).via rfl rfl rfl)).sameChecks p s1
  generalize (opportunityOf p f.node).run s1 = s2 at *
  have h2 := hcounted.trans hopened
  have hheard : s2.SameChecks ((Eff.when (isSG p) (nodeHeard p f.node)).run s2) p :=
    (Within.when (nodeHeard_within ((Mask.Le.refl heardMask).via rfl rfl rfl))).sameChecks p s2
  have h3 := h2.trans hheard
  have hplain : s2.segmentPort p = false := h2.segmentPort.trans hsegment
  have hsg : (f.fcs == .good && isSG p) = isSG p := by rw [hfcs]; rfl
  rw [segmentData, Eff.run_look, if_pos (by rw [hplain]; rfl), tailFrame, Eff.run_look, if_neg (by rw [hplain]; simp), Eff.run_seq, hsg,
    admitReceived, Eff.run_look, if_pos ((h3.passes f).trans hpasses), if_pos ((h3.lengthOk f).trans hlength)]

/-! ## A management PDU on a segment in standard PLCA -/

/-- A module whose port 4, of a segment in standard PLCA, has a frame in progress. -/
def segmentSender : State :=
  let s := runningModule.withPort 4 0 1 1
  { s with traffic := { s.traffic with macs := [(4, { Mac.init with current := some (7, s.ownFrame .module []) })] } }

/-- A management PDU of node 5 to the port. -/
def nodePdu : Frame :=
  { data := runningModule.macBytes 4 ++ List.replicate 6 0 ++ [0x88, 0xB7, 0x04, 0xA7, 0x3D, 0, 3, 1, 1] ++ List.replicate 39 0, fcs := .good, icv := .unprotected,
    stamp := 0, node := 5 }

/-- A PDU that a port does not accept is answered, which writes no object but those of queues and ports' states. -/
theorem pduServed_run_refused {s : State} {p : Nat} {f : Frame} (haddress : f.data.take 6 = s.macBytes p)
    (hprotocol : isProtocol f.data 3 = true) (hkind : beAt (protocolBody f.data) 1 1 = 1) (hport : maskBit (s.obj 0x2030 0) p = false) :
    (pduServed p f).run s = (Eff.all [count (commonsItem 79), count (commonsItem 64),
      refuseMessage true (protocolBody f.data) stAuthFailed (pduReply p (beAt f.data 6 6))]).run s := by
  rw [pduServed, Eff.run_look, if_neg (by simp [haddress, hprotocol, hkind]), if_pos (by rw [State.pduAccepted, hport]; rfl)]

/-- What counts the frames heard from node 5 has risen. -/
theorem exec_managementPdu_heard {t : State} (h : exec (.managementPdu 4 nodePdu) segmentSender = .next t) :
    t.obj (portIdx 4 6) 3 5 = 1 := by
  have hnext : flushEvents.run ((operating (.when (isPort 4) (offWrap 4 (received 4 nodePdu none (pduServed 4))))).run segmentSender) = t :=
    Host.Outcome.next.inj h
  have hrefusal := Mask.Le.refl ⟨0x1800b280, 0x3000000000000000000000004000e002000000000000000000000000,
    0x16000000000000000000000000000000000108000000200000065000080000000⟩
  rw [← hnext, flush_obj, operating, Eff.run_whenS, if_pos (by decide +kernel), Eff.run_when, if_pos (by decide +kernel), offWrap, Eff.run_whenS,
    if_pos (by decide +kernel), received_run_of_hears (by decide +kernel) (by decide +kernel),
    (noteNumber_within (Mask.Le.refl _)).keeps_port _ (by decide +kernel), pduServed_run_refused rfl rfl rfl rfl]
  simp only [Eff.run_all_cons, Eff.run_all_nil]
  rw [(refuseMessage_within (hrefusal.via rfl rfl rfl) fun _ => pduReply_within (hrefusal.via rfl rfl rfl)).keeps_port _ (by decide +kernel)]
  decide +kernel

/-- Refutes O6: the response changes nothing of the dictionary, but the PDU marks its sender present (R148). -/
theorem not_dictionaryMessages : ¬ Obligations.DictionaryMessages := by
  unfold Obligations.DictionaryMessages
  rintro ⟨-, -, -, -, -, hrefused, -⟩
  have hroom (c : Nat) (hc : c < 8) : segmentSender.queueRoom (classQueue 4 c) 64 = true := by
    revert c
    decide +kernel
  obtain ⟨t, hexec, -, -, hod⟩ := hrefused segmentSender 4 nodePdu (by decide +kernel) (by decide) (by decide +kernel) (by decide +kernel)
    (by decide +kernel) rfl (by decide +kernel) (by decide +kernel) ⟨7, _, rfl, by decide +kernel⟩
    ⟨hroom _ (Nat.mod_lt _ (by decide)), by decide +kernel⟩
  have hkept : t.obj (portIdx 4 6) 3 5 = segmentSender.obj (portIdx 4 6) 3 5 := by rw [State.obj, State.obj, State.key, State.key, hod]
  rw [exec_managementPdu_heard hexec] at hkept
  exact absurd hkept (by decide +kernel)

end Sys2Proof.Machine

/-! # Positions of rings and queues (R243, R261)

A position is a 17-bit value, and each change of a ring or an event queue leaves its positions so. O38 and O41 speak of any state, also
of one that holds a wider value where a position stands. -/

namespace Sys2Proof.Machine

/-- A module whose transmit ring 0 runs, with a position of 18 bits. -/
def wideRingModule : State :=
  { runningModule with host := { runningModule.host with tx := [(0, { HostRing.init with state := .enabled, next := 131072 })] } }

/-- Refutes O38: a doorbell leaves the 17 low bits of the next position. -/
theorem not_ringsTakeEntries : ¬ Obligations.RingsTakeEntries := by
  unfold Obligations.RingsTakeEntries
  rintro ⟨hdoorbell, -⟩
  obtain ⟨t, hexec, -, -, hnext⟩ := hdoorbell wideRingModule true 0 0 (.inl rfl) (by decide +kernel) (by decide +kernel) (by decide +kernel)
    (by decide +kernel)
  cases hexec
  exact absurd hnext (by decide +kernel)

/-- A module whose event queue 0 has a tail of 18 bits. -/
def wideQueueModule : State :=
  { runningModule with host := { runningModule.host with queues := [(0, { EventQueue.init with tail := 131072 })] } }

/-- Refutes O41: a write of the head leaves the 17 low bits of the tail. -/
theorem not_eventQueuesAndVectors : ¬ Obligations.EventQueuesAndVectors := by
  unfold Obligations.EventQueuesAndVectors
  rintro ⟨hhead, -⟩
  obtain ⟨t, hexec, hqueue, -⟩ := hhead wideQueueModule 0 0 (.inl rfl) (by decide +kernel)
  cases hexec
  exact absurd hqueue (by decide +kernel)

end Sys2Proof.Machine

/-! # A secured stack link

O44 takes the StackHello to be all that leaves when a stack link rises. On a link with MACsec under a pre-shared CAK the Kiln starts
MKA with an MKPDU of its own (R353). -/

namespace Sys2Proof.Machine

/-- How many emissions there are when a command has run. -/
def State.emittedAfter (s : State) (c : Instr) : Nat :=
  match exec c s with
  | .next t => t.out.length
  | _ => 0

/-- A stack master with a pre-shared CAK for its stack port 0, whose transmit SA is installed. -/
def securedMaster : State :=
  let s := runningModule.withObj 0x9000 1 0 1 |>.withObj 0x9001 1 0 1 |>.withObj 0x9002 1 0 0 |>.withObj 0xA020 1 256 1
    |>.withObj 0xA020 5 256 1 |>.withObj 0xA020 6 256 0
  { s with
    kiln := { s.kiln with state := .running, mka := [(256, { mkaIdle with txSa := some (0, 0) })] }
    flash := { s.flash with caks := [(0, ([], [], 0))] } }

/-- Refutes O44: the MKPDU of the pre-shared CAK leaves beside the StackHello. -/
theorem not_stackMembersJoinAndLeave : ¬ Obligations.StackMembersJoinAndLeave := by
  unfold Obligations.StackMembersJoinAndLeave
  rintro ⟨hrises, -⟩
  obtain ⟨t, hexec, -, -, hout, -⟩ := hrises securedMaster 0 (by decide +kernel) (by decide) (by decide +kernel) (by decide +kernel)
    (by decide +kernel) (by decide +kernel) ⟨rfl, by decide⟩
  cases hexec
  exact absurd (congrArg List.length hout) (show securedMaster.emittedAfter (.stackLinkUp 0) ≠ 1 by decide +kernel)

end Sys2Proof.Machine

/-! # Snapshots and dumps (R380 to R385) -/

namespace Sys2Proof.Machine

/-! ## Objects and writes -/

theorem Eff.Within.n_run {m : Mask} {e : Eff} (he : e.Within tables m) (s : State) {idx sub row : Nat}
    (h : freeObj tables m (objClass idx) sub = true) : (e.run s).n idx sub row = s.n idx sub row := by
  rw [State.n, he.keeps_obj s h, State.n]

theorem Eff.Within.on_run {m : Mask} {e : Eff} (he : e.Within tables m) (s : State) {idx sub row : Nat}
    (h : freeObj tables m (objClass idx) sub = true) : (e.run s).on idx sub row = s.on idx sub row := by
  rw [State.on, he.keeps_obj s h, State.on]

theorem countN_run_same (item n : Nat) (s : State) :
    ((countN item n).run s).counter item = (s.counter item + n) % 18446744073709551616 :=
  counter_count_same s item n

theorem countN_run_other {item i : Nat} (h : i ≠ item) (n : Nat) (s : State) : ((countN item n).run s).counter i = s.counter i :=
  counter_count_other s item i n h

theorem setN_run_n (idx sub v row : Nat) (s : State) : ((setN idx sub v row).run s).n idx sub row = v := by
  simp only [setN, setObj, State.n, State.obj, Eff.run_upd, key_obj, if_pos, Int.toNat_natCast]

/-- A write of host memory that lies in one request leaves in one request. -/
theorem hostWriteAs_run_one {s : State} {relaxed : Bool} {fn addr : Nat} {data : Bytes} (hmay : s.mayWrite fn = true)
    (hdata : data ≠ []) (hpayload : data.length ≤ (s.function fn).maxPayload) (hpage : addr % 4096 + data.length ≤ 4096) :
    (hostWriteAs relaxed fn addr data).run s =
      (Eff.all [count (pcieItem 1), count (pcieItem 2), emit (.hostWrite fn addr data relaxed)]).run s := by
  obtain ⟨n, hn⟩ : ∃ n, data.length = n + 1 := ⟨data.length - 1, by have := List.length_pos_of_ne_nil hdata; omega⟩
  have hpieces : requestPieces (s.function fn).maxPayload data.length addr data.length = [(addr, data.length)] := by
    have hpiece : min data.length (min (max 1 (s.function fn).maxPayload) (4096 - addr % 4096)) = data.length := by omega
    rw [hn] at hpiece ⊢
    rw [requestPieces, if_neg (by omega), hpiece]
    cases n <;> simp [requestPieces]
  rw [hostWriteAs, Eff.run_look, hmay, Eff.run_when, if_pos rfl, hpieces, Eff.run_forEach_cons]
  simp [slice]

/-- Eight bytes at an address within a page. -/
theorem hostWrite_run_stamp {s : State} {fn addr : Nat} (hmay : s.mayWrite fn = true)
    (hpayload : 8 ≤ (s.function fn).maxPayload) (hpage : addr % 4096 ≤ 4088) (v : Nat) :
    (hostWrite fn addr (leBytes 8 v)).run s =
      (Eff.all [count (pcieItem 1), count (pcieItem 2), emit (.hostWrite fn addr (leBytes 8 v) false)]).run s := by
  refine hostWriteAs_run_one hmay ?_ ?_ ?_
  · simp [leBytes]
  · rwa [length_leBytes]
  · rw [length_leBytes]
    omega

/-- Writes of host memory add emissions behind those that stand. -/
theorem hostWriteAs_run_out (relaxed : Bool) (fn addr : Nat) (data : Bytes) (s : State) :
    s.out <+: ((hostWriteAs relaxed fn addr data).run s).out := by
  rw [hostWriteAs, Eff.run_look, Eff.run_when]
  split
  next hmay =>
    clear hmay
    generalize requestPieces _ _ _ _ = l
    induction l generalizing s with
    | nil => exact List.prefix_rfl
    | cons x l ih =>
      rw [Eff.run_forEach_cons]
      refine List.IsPrefix.trans ?_ (ih _)
      exact ⟨[_], rfl⟩
  next => exact List.prefix_rfl

/-! ## View pages -/

/-- The counter reader without its pages. -/
def Reader.bare (r : Reader) : Reader := { r with pages := [] }

theorem updateViews_run_bare (seq : Nat) (s : State) : ((updateViews seq).run s).reader.bare = s.reader.bare := by
  rw [updateViews, Eff.run_look]
  exact Eff.forEach_keeps (fun s => s.reader.bare) (fun _ _ => rfl) s

theorem updateViews_run_writing (seq : Nat) (s : State) : ((updateViews seq).run s).reader.writing = s.reader.writing := by
  have h := congrArg Reader.writing (updateViews_run_bare seq s)
  exact h

theorem updateViews_run_function (seq : Nat) (s : State) (fn : Nat) : ((updateViews seq).run s).function fn = s.function fn := by
  obtain ⟨h, -⟩ := (updateViews_within (Mask.Le.refl _) (seq := seq)).keeps_part s .functions rfl
  rw [State.function, State.function, h]

theorem updateViews_run_n (seq : Nat) (s : State) (sub row : Nat) :
    ((updateViews seq).run s).n 0xC000 sub row = s.n 0xC000 sub row := by
  simp only [State.n, State.obj, (updateViews_within (Mask.Le.refl _)).keeps_index rfl]

theorem updateViews_run_dumpLength (seq : Nat) (s : State) : ((updateViews seq).run s).dumpLength = s.dumpLength := by
  simp only [State.dumpLength, State.dumpSets, updateViews_run_n]

theorem updateViews_run_dumpSlot (seq : Nat) (s : State) (n : Nat) : ((updateViews seq).run s).dumpSlot n = s.dumpSlot n := by
  simp only [State.dumpSlot, State.dumpStride, updateViews_run_dumpLength, updateViews_run_function, updateViews_run_n]

/-! ## The start of a dump -/

theorem startDump_run_busy {s : State} (h : s.reader.writing.isSome = true) (seq : Nat) : (startDump seq).run s =
    (Eff.all [count (readerItem 2), raise 976, .upd (.reader fun r => { r with flagLost := true })]).run s := by
  simp only [startDump, Eff.run_look, h, if_true]

/-- No function is named for the dumps, or it has no address for them, or it may not master the bus. -/
def State.dumpUnready (s : State) : Bool :=
  s.n 0xC000 3 == 0xFF || (s.function (s.n 0xC000 3)).dumpBase == 0 || !(s.function (s.n 0xC000 3)).busMaster

theorem startDump_run_unready {s : State} (h : s.reader.writing.isSome = false) (hready : s.dumpUnready = true) (seq : Nat) :
    (startDump seq).run s = (Eff.all [count (readerItem 3), raiseOncePerSecond 977 0 (raise 977),
      .upd (.reader fun r => { r with flagLost := true })]).run s := by
  rw [State.dumpUnready] at hready
  simp only [startDump, Eff.run_look, h, hready, Bool.false_eq_true, if_false, if_true]

/-- The flags of a dump record. -/
def State.dumpFlags (s : State) : Nat :=
  (if s.reader.flagLost then 1 else 0) + (if s.reader.flagChanged then 2 else 0) + (if s.power.throttled then 4 else 0)

theorem startDump_run_ready {s : State} (h : s.reader.writing.isSome = false) (hready : s.dumpUnready = false) (seq : Nat) :
    (startDump seq).run s =
      (Eff.all [hostWrite (s.n 0xC000 3) (s.dumpSlot seq) (leBytes 8 seq),
        hostWrite (s.n 0xC000 3) (s.dumpSlot seq + 8) (s.dumpBody s.dumpFlags), setN 0xC001 2 s.dumpLength,
        .upd (.reader fun r => { r with
          writing := some (s.n 0xC000 3, s.dumpSlot seq + s.dumpLength - 8, seq, s.dumpLength), flagLost := false })]).run s := by
  rw [State.dumpUnready] at hready
  simp only [startDump, Eff.run_look, h, hready, Bool.false_eq_true, if_false]
  rfl

/-- The dump leaves the pages. -/
theorem startDump_run_pages (seq : Nat) (s : State) : ((startDump seq).run s).reader.pages = s.reader.pages := by
  have hwrite (fn addr : Nat) (data : Bytes) (s : State) : ((hostWrite fn addr data).run s).reader = s.reader :=
    (hostWrite_within (Mask.Le.refl _)).reader_run s rfl
  have honce (s : State) : ((raiseOncePerSecond 977 0 (raise 977)).run s).reader = s.reader := by
    rw [raiseOncePerSecond, Eff.run_look]
    split <;> rfl
  cases hbusy : s.reader.writing.isSome with
  | true => rw [startDump_run_busy hbusy]; rfl
  | false =>
    cases hready : s.dumpUnready with
    | true =>
      rw [startDump_run_unready hbusy hready]
      simp only [Eff.run_all_cons, Eff.run_all_nil]
      change ((raiseOncePerSecond 977 0 (raise 977)).run ((count (readerItem 3)).run s)).reader.pages = _
      rw [honce]
      rfl
    | false =>
      rw [startDump_run_ready hbusy hready]
      simp only [Eff.run_all_cons, Eff.run_all_nil]
      exact (congrArg Reader.pages (hwrite _ _ _ _)).trans (congrArg Reader.pages (hwrite _ _ _ _))

/-! ## The snapshot -/

/-- The counter reader after the snapshot of a state. -/
def State.snapshotTaken (s : State) (r : Reader) : Reader :=
  { r with
    nextSequence := s.reader.nextSequence + 1, frozen := none, flagChanged := false, lastSnapshot := some (s.cycleStart s.cycle) }

/-- What a due snapshot does once the pages and the dump have had their turn. -/
def snapshotCounted (s : State) : Eff :=
  .all [setN 0xC001 1 s.reader.nextSequence, count (readerItem 0), .upd (.reader s.snapshotTaken)]

theorem exec_counterSnapshot {s : State} (hoperating : s.operating = true) (hdue : s.snapshotDue = true) :
    exec .counterSnapshot s = .next (flushEvents.run ((snapshotCounted s).run ((startDump s.reader.nextSequence).run
      ((updateViews s.reader.nextSequence).run s)))) := by
  change Host.Outcome.next ((Eff.seq (operating snapshot) flushEvents).run s) = _
  rw [Eff.run_seq, operating, Eff.run_whenS, if_pos hoperating, snapshot, Eff.run_look, hdue, Eff.run_when, if_pos rfl]
  simp only [snapshotCounted, Eff.run_all_cons]
  rfl

section
variable {s : State} {seq : Nat}

theorem snapshotCounted_run_out (u : State) : ((snapshotCounted s).run u).out = u.out := rfl

theorem snapshotCounted_run_reader (u : State) : ((snapshotCounted s).run u).reader = s.snapshotTaken u.reader := rfl

theorem snapshotCounted_run_n (u : State) : ((snapshotCounted s).run u).n 0xC001 1 = s.reader.nextSequence := by
  simp only [snapshotCounted, Eff.run_all_cons, Eff.run_all_nil]
  exact setN_run_n _ _ _ _ _

theorem snapshotCounted_run_counter (u : State) :
    ((snapshotCounted s).run u).counter (readerItem 0) = (u.counter (readerItem 0) + 1) % 18446744073709551616 := by
  simp only [snapshotCounted, Eff.run_all_cons, Eff.run_all_nil]
  exact count_run_same _ _

theorem snapshotCounted_run_counter_other {i : Nat} (h : i ≠ readerItem 0) (u : State) :
    ((snapshotCounted s).run u).counter i = u.counter i := by
  simp only [snapshotCounted, Eff.run_all_cons, Eff.run_all_nil]
  exact count_run_other h _

end

/-! ## The statement's clauses -/

theorem snapshot_starts_dump {s : State} (hoperating : s.operating = true) (hdue : s.snapshotDue = true)
    (hwriting : s.reader.writing = none) (hfn : s.n 0xC000 3 ≠ 0xFF) (hbase : (s.function (s.n 0xC000 3)).dumpBase ≠ 0)
    (hmay : s.mayWrite (s.n 0xC000 3) = true) (hpayload : 8 ≤ (s.function (s.n 0xC000 3)).maxPayload)
    (hpage : s.dumpSlot s.reader.nextSequence % 4096 ≤ 4088) :
    ∃ t, exec .counterSnapshot s = .next t ∧ t.reader.nextSequence = s.reader.nextSequence + 1 ∧
      t.reader.lastSnapshot = some (s.cycleStart s.cycle) ∧
      t.reader.writing = some (s.n 0xC000 3, s.dumpSlot s.reader.nextSequence + s.dumpLength - 8, s.reader.nextSequence,
        s.dumpLength) ∧
      [.hostWrite (s.n 0xC000 3) (s.dumpSlot s.reader.nextSequence) (leBytes 8 s.reader.nextSequence) false]
        <+: t.out.drop s.out.length ∧
      t.reader.frozen = none ∧ t.counter (readerItem 0) = (s.counter (readerItem 0) + 1) % 18446744073709551616 ∧
      t.n 0xC001 1 = s.reader.nextSequence := by
  have hviews := updateViews_within (Mask.Le.refl _) (seq := s.reader.nextSequence)
  have hfn' := updateViews_run_n s.reader.nextSequence s 3 0
  have hfunction := updateViews_run_function s.reader.nextSequence s
  have hout : ((updateViews s.reader.nextSequence).run s).out = s.out := hviews.out_run s rfl
  have hcounter : ((updateViews s.reader.nextSequence).run s).counter (readerItem 0) = s.counter (readerItem 0) :=
    hviews.keeps_ctr s rfl (by decide +kernel)
  have hmay' : ((updateViews s.reader.nextSequence).run s).mayWrite (s.n 0xC000 3) = true := by
    rw [← hmay]
    simp only [State.mayWrite, State.masters, hfunction]
  have hbus : (s.function (s.n 0xC000 3)).busMaster = true := by
    simp only [State.mayWrite, State.masters, Bool.and_eq_true] at hmay
    exact hmay.1.1
  have hstart := startDump_run_ready (s := (updateViews s.reader.nextSequence).run s) (by rw [updateViews_run_writing, hwriting]; rfl)
    (by simp [State.dumpUnready, hfn', hfunction, hfn, hbase, hbus]) s.reader.nextSequence
  rw [hfn', updateViews_run_dumpSlot, updateViews_run_dumpLength] at hstart
  have hstamp := hostWrite_run_stamp hmay' (by rwa [hfunction]) hpage s.reader.nextSequence
  refine ⟨_, exec_counterSnapshot hoperating hdue, ?_⟩
  rw [flush_reader, flush_out, flush_counter _ _ (by decide), flush_n, snapshotCounted_run_n, snapshotCounted_run_counter,
    snapshotCounted_run_reader, snapshotCounted_run_out]
  rw [(startDump_within (Mask.Le.refl _)).keeps_ctr _ rfl (by decide +kernel), hcounter, hstart]
  refine ⟨rfl, rfl, rfl, ?_, rfl, rfl, rfl⟩
  simp only [Eff.run_all_cons, Eff.run_all_nil, hstamp]
  obtain ⟨rest, hrest⟩ := hostWriteAs_run_out false (s.n 0xC000 3) (s.dumpSlot s.reader.nextSequence + 8)
    (((updateViews s.reader.nextSequence).run s).dumpBody ((updateViews s.reader.nextSequence).run s).dumpFlags)
    ((Eff.all [count (pcieItem 1), count (pcieItem 2), emit (.hostWrite (s.n 0xC000 3) (s.dumpSlot s.reader.nextSequence)
      (leBytes 8 s.reader.nextSequence) false)]).run ((updateViews s.reader.nextSequence).run s))
  simp only [Eff.run_all_cons, Eff.run_all_nil] at hrest
  refine ⟨rest, ?_⟩
  change _ = List.drop _ (Eff.run (hostWriteAs _ _ _ _) _).out
  rw [← hrest]
  change _ = List.drop _ ((((updateViews s.reader.nextSequence).run s).out ++ [_]) ++ rest)
  rw [hout, List.append_assoc, List.drop_left]

theorem snapshot_skips_dump {s : State} (hoperating : s.operating = true) (hdue : s.snapshotDue = true)
    (hwriting : s.reader.writing.isSome = true) (hroom : s.room 1) :
    ∃ t, exec .counterSnapshot s = .next t ∧ t.reader.nextSequence = s.reader.nextSequence + 1 ∧
      t.reader.writing = s.reader.writing ∧ t.reader.flagLost = true ∧ t.out = s.out ∧
      t.counter (readerItem 2) = (s.counter (readerItem 2) + 1) % 18446744073709551616 ∧ s.records t 976 0 := by
  have hviews := updateViews_within (Mask.Le.refl _) (seq := s.reader.nextSequence)
  have hwriting' := updateViews_run_writing s.reader.nextSequence s
  have hout : ((updateViews s.reader.nextSequence).run s).out = s.out := hviews.out_run s rfl
  have hcounter : ((updateViews s.reader.nextSequence).run s).counter (readerItem 2) = s.counter (readerItem 2) :=
    hviews.keeps_ctr s rfl (by decide +kernel)
  have hquiet := hviews.raisesNothing rfl s
  have hstart := startDump_run_busy (hwriting' ▸ hwriting) s.reader.nextSequence
  have hexec := exec_counterSnapshot hoperating hdue
  generalize (updateViews s.reader.nextSequence).run s = u at *
  refine ⟨_, hexec, ?_⟩
  rw [flush_reader, flush_out, flush_counter _ _ (by decide), snapshotCounted_run_reader, snapshotCounted_run_out,
    snapshotCounted_run_counter_other (by decide), hstart]
  simp only [Eff.run_all_cons, Eff.run_all_nil]
  refine ⟨rfl, hwriting', rfl, hout, ?_, hasRaised_records_one (hquiet.quiet_trans ⟨rfl, rfl, rfl⟩) hroom (by decide) (by decide)⟩
  change ((raise 976).run ((count (readerItem 2)).run u)).counter _ = _
  rw [raise_run_counter _ _ (by decide), count_run_same, hcounter]

theorem snapshot_without_function {s : State} (hoperating : s.operating = true) (hdue : s.snapshotDue = true)
    (hwriting : s.reader.writing = none) (hfn : s.n 0xC000 3 = 0xFF) :
    ∃ t, exec .counterSnapshot s = .next t ∧ t.reader.nextSequence = s.reader.nextSequence + 1 ∧ t.reader.writing = none ∧
      t.reader.flagLost = true ∧ t.out = s.out ∧
      t.counter (readerItem 3) = (s.counter (readerItem 3) + 1) % 18446744073709551616 := by
  have hviews := updateViews_within (Mask.Le.refl _) (seq := s.reader.nextSequence)
  have hwriting' := updateViews_run_writing s.reader.nextSequence s
  have hfn' := updateViews_run_n s.reader.nextSequence s 3 0
  have hout : ((updateViews s.reader.nextSequence).run s).out = s.out := hviews.out_run s rfl
  have hcounter : ((updateViews s.reader.nextSequence).run s).counter (readerItem 3) = s.counter (readerItem 3) :=
    hviews.keeps_ctr s rfl (by decide +kernel)
  have hstart := startDump_run_unready (s := (updateViews s.reader.nextSequence).run s) (by rw [hwriting', hwriting]; rfl)
    (by simp [State.dumpUnready, hfn', hfn]) s.reader.nextSequence
  have hexec := exec_counterSnapshot hoperating hdue
  generalize (updateViews s.reader.nextSequence).run s = u at *
  refine ⟨_, hexec, ?_⟩
  rw [flush_reader, flush_out, flush_counter _ _ (by decide), snapshotCounted_run_reader, snapshotCounted_run_out,
    snapshotCounted_run_counter_other (by decide), hstart]
  simp only [Eff.run_all_cons, Eff.run_all_nil]
  have honce := Mask.Le.refl ⟨0x80, 0, 0x100000000000000000000000000000⟩
  replace honce := raiseOncePerSecond_within (honce.via rfl rfl rfl) (raise_within (honce.via rfl rfl rfl) (source := 977) (arg := 0))
    (source := 977) (arg := 0)
  refine ⟨rfl, ?_, rfl, ?_, ?_⟩
  · change ((raiseOncePerSecond 977 0 (raise 977)).run ((count (readerItem 3)).run u)).reader.writing = none
    rw [honce.reader_run _ rfl]
    exact hwriting'.trans hwriting
  · exact (honce.out_run _ rfl).trans hout
  · change ((raiseOncePerSecond 977 0 (raise 977)).run ((count (readerItem 3)).run u)).counter _ = _
    rw [honce.keeps_ctr _ rfl (by decide +kernel), count_run_same, hcounter]

theorem dump_ends {s : State} {fn at' seq len : Nat} (hoperating : s.operating = true)
    (hwriting : s.reader.writing = some (fn, at', seq, len)) (hmay : s.mayWrite fn = true) (hpayload : 8 ≤ (s.function fn).maxPayload)
    (hpage : at' % 4096 ≤ 4088) :
    ∃ t, exec .dumpComplete s = .next t ∧ t.reader.writing = none ∧ t.out = s.out ++ [.hostWrite fn at' (leBytes 8 seq) false] ∧
      t.counter (readerItem 1) = (s.counter (readerItem 1) + 1) % 18446744073709551616 ∧
      t.counter (readerItem 4) = (s.counter (readerItem 4) + len) % 18446744073709551616 := by
  refine ⟨_, rfl, ?_⟩
  rw [Eff.run_seq, flush_reader, flush_out, flush_counter _ _ (by decide), flush_counter _ _ (by decide), operating, Eff.run_whenS,
    if_pos hoperating, dumpEnds, Eff.run_look, hwriting]
  simp only [Eff.run_all_cons, Eff.run_all_nil]
  refine ⟨rfl, congrArg State.out (hostWrite_run_stamp hmay hpayload hpage seq), ?_, ?_⟩
  · change ((countN (readerItem 4) len).run ((count (readerItem 1)).run _)).counter _ = _
    rw [countN_run_other (by decide), count_run_same, (hostWrite_within (Mask.Le.refl _)).keeps_ctr _ rfl (by decide +kernel)]
  · change ((countN (readerItem 4) len).run ((count (readerItem 1)).run _)).counter _ = _
    rw [countN_run_same, count_run_other (by decide), (hostWrite_within (Mask.Le.refl _)).keeps_ctr _ rfl (by decide +kernel)]

theorem snapshot_updates_page {s : State} {fn : Nat} (hoperating : s.operating = true) (hdue : s.snapshotDue = true)
    (hgranted : s.grantedFunctions = [fn]) :
    ∃ t, exec .counterSnapshot s = .next t ∧
      t.reader.pages.get? fn = some ⟨s.reader.nextSequence, s.cycle, s.cycleStart s.cycle, (s.grantedItems fn).map s.frozenItem⟩ ∧
      t.reader.lastSnapshot = some (s.cycleStart s.cycle) ∧
      t.counter (readerItem 7) = (s.counter (readerItem 7) + 1) % 18446744073709551616 := by
  have hpages := startDump_run_pages s.reader.nextSequence ((updateViews s.reader.nextSequence).run s)
  refine ⟨_, exec_counterSnapshot hoperating hdue, ?_⟩
  rw [flush_reader, flush_counter _ _ (by decide), snapshotCounted_run_reader, snapshotCounted_run_counter_other (by decide),
    (startDump_within (Mask.Le.refl _)).keeps_ctr _ rfl (by decide +kernel)]
  refine ⟨?_, rfl, ?_⟩
  · change ((startDump _).run _).reader.pages.get? fn = _
    rw [hpages, updateViews, Eff.run_look, hgranted, Eff.run_forEach_cons]
    exact PMap.get_set_same _ _ _
  · rw [updateViews, Eff.run_look, hgranted, Eff.run_forEach_cons, Eff.run_forEach_nil, Eff.run_seq, count_run_same]
    rfl

/-- Settles O57, from what the pages, the start of the dump and the snapshot's counters each leave alone. -/
theorem snapshotsAndDumps : Obligations.SnapshotsAndDumps := by
  unfold Obligations.SnapshotsAndDumps
  refine ⟨?_, ?_, ?_, ?_, ?_⟩
  · intro s h1 h2 h3 h4 h5 h6 h7 h8
    exact snapshot_starts_dump h1 h2 h3 h4 h5 h6 h7 h8
  · intro s h1 h2 h3 h4
    exact snapshot_skips_dump h1 h2 h3 h4
  · intro s h1 h2 h3 h4
    exact snapshot_without_function h1 h2 h3 h4
  · intro s fn at' seq len h1 h2 h3 h4 h5
    exact dump_ends h1 h2 h3 h4 h5
  · intro s fn h1 h2 h3
    exact snapshot_updates_page h1 h2 h3

end Sys2Proof.Machine

/-! # Power states, wakes, shutdown and recovery (R394 to R410, R361 to R363) -/

namespace Sys2Proof.Machine

/-! ## The FAULT ball and the main die -/

theorem faultBall_run_faultLow (low : Bool) (s : State) : ((faultBall low).run s).pins.faultLow = low := by
  rw [faultBall, Eff.run_whenS]
  split
  · rfl
  next h => simpa using h

theorem faultBall_run_out (low : Bool) (s : State) :
    ((faultBall low).run s).out = s.out ++ if s.pins.faultLow = low then [] else [.faultPin low] := by
  rw [faultBall, Eff.run_whenS]
  by_cases h : s.pins.faultLow = low
  · simp [h]
  · simp only [bne_iff_ne, ne_eq, h, not_false_eq_true, if_true, if_false]
    rfl

theorem Eff.Within.power_run {m : Mask} {e : Eff} (he : e.Within tables m) (s : State)
    (h : m.parts.testBit Part.power.bit = false) : (e.run s).power = s.power :=
  (he.keeps_part s .power h : s.power = _).symm

/-- The state in which the rails have gone down, but for the FAULT ball. -/
def State.unpowered (s : State) : State :=
  (Eff.seq (.upd (.power fun w => { w with state := .dormant }))
    (setN 0x2230 3 (if s.on 0x2230 2 && s.n 0x2230 3 != 2 then 1 else 0))).run
    (restartDie.run ((Upd.canopy fun k => { k with latched := some (s.now, k.counter) }).apply s))

theorem goDormant_run (s : State) : goDormant.run s = (faultBall false).run s.unpowered := by
  simp only [goDormant, State.unpowered, Eff.run_look, Eff.run_all_cons, Eff.run_all_nil, Eff.run_seq, Eff.run_upd]

/-- What goes on when the rails go down. -/
structure State.sleepsAs (s t : State) : Prop where
  state : t.power.state = .dormant
  canopy : t.canopy = { s.canopy with latched := some (s.now, s.canopy.counter) }
  otp : t.otp = s.otp
  flash : t.flash = s.flash
  faultLow : t.pins.faultLow = false
  out : t.out = s.out ++ if s.pins.faultLow then [.faultPin false] else []

theorem goDormant_sleepsAs (s : State) : s.sleepsAs (goDormant.run s) := by
  have hball := faultBall_within (Mask.Le.refl _) (low := false)
  rw [goDormant_run]
  constructor
  · rw [hball.power_run _ rfl]; rfl
  · rw [hball.canopy_run _ rfl]; rfl
  · rw [hball.otp_run _ rfl]; rfl
  · rw [hball.flash_run _ rfl]; rfl
  · exact faultBall_run_faultLow _ _
  · rw [faultBall_run_out]
    change s.out ++ (if s.pins.faultLow = false then _ else _) = _
    cases s.pins.faultLow <;> rfl

/-! ## IDLE and DORMANT (R396, R397) -/

/-- What an accepted power request does once the functions have stopped, before the rails of a DORMANT module go down. -/
def idleShown (before : State) : Eff :=
  .all [.when (before.n 0x2220 3 ≤ before.now) (.upd (.canopy fun k => { k with wakeArmed := false })),
    .upd (.power fun w => { w with state := .idle, idlePending := false, dormantPending := false, wakePending := false }),
    setN 0x2200 1 2]

theorem idleEnters_run_active {s : State} (hstate : s.power.state = .active) (hstage : 4 ≤ s.power.stage) (hdue : s.requestDue = true) :
    idleEnters.run s = (Eff.when s.power.dormantPending goDormant).run ((idleShown s).run (stopFunctions.run s)) := by
  rw [idleEnters, Eff.run_look, hdue, hstate]
  simp [hstage, idleShown]

theorem idleEnters_run_idle {s : State} (hstate : s.power.state = .idle) (hdue : s.requestDue = true) :
    idleEnters.run s = (Eff.when s.power.dormantPending goDormant).run ((idleShown s).run s) := by
  rw [idleEnters, Eff.run_look, hdue, hstate, show (Power.idle == Power.active) = false from rfl, Eff.run_when]
  simp [idleShown]

/-- The canopy once WakeAt has been looked at. -/
def State.canopyAsleep (before s : State) : Canopy :=
  { s.canopy with wakeArmed := s.canopy.wakeArmed && decide (before.now < before.n 0x2220 3) }

theorem idleShown_run_canopy (before s : State) : ((idleShown before).run s).canopy = before.canopyAsleep s := by
  simp only [idleShown, Eff.run_all_cons, Eff.run_all_nil, Eff.run_when, State.canopyAsleep, decide_eq_true_eq]
  split
  next h => simp [Nat.not_lt_of_le h]; rfl
  next h => simp [Nat.lt_of_not_le h]; rfl

section
variable (before s : State)

theorem idleShown_run_idle : ((idleShown before).run s).power.state = .idle ∧ ((idleShown before).run s).power.idlePending = false ∧
    ((idleShown before).run s).n 0x2200 1 = 2 := by
  simp only [idleShown, Eff.run_all_cons, Eff.run_all_nil]
  exact ⟨rfl, rfl, setN_run_n _ _ _ _ _⟩

theorem idleShown_within : Eff.Within tables ⟨0xc000000, 0x2000, 0⟩ (idleShown before) := by
  have hm := Mask.Le.refl ⟨0xc000000, 0x2000, 0⟩
  unfold idleShown
  exact Within.cons (Within.when (Within.upd (hm.parts' [.canopy] (by decide +kernel))))
    (Within.cons (Within.upd (hm.parts' [.power] (by decide +kernel))) (Within.cons (Within.setN (hm.obj (by decide +kernel))) Within.nil))

/-- DORMANT follows IDLE: the canopy keeps its figures, and nothing has gone out but the change of FAULT. -/
theorem goDormant_idleShown_run : let t := goDormant.run ((idleShown before).run s)
    t.power.state = .dormant ∧ t.canopy = { before.canopyAsleep s with latched := some (s.now, s.canopy.counter) } ∧
      t.otp = s.otp ∧ t.flash = s.flash ∧ t.pins.faultLow = false ∧
      t.out = s.out ++ if s.pins.faultLow then [.faultPin false] else [] := by
  intro t
  obtain ⟨hstate, hcanopy, hotp, hflash, hlow, hout⟩ := goDormant_sleepsAs ((idleShown before).run s)
  have hwithin := idleShown_within before
  have hnow : ((idleShown before).run s).now = s.now := congrArg Clock.units (hwithin.clock_run rfl s)
  have hpins : ((idleShown before).run s).pins = s.pins := (hwithin.keeps_part s .pins rfl : s.pins = _).symm
  rw [hnow, idleShown_run_canopy] at hcanopy
  rw [hwithin.out_run s rfl, hpins] at hout
  exact ⟨hstate, hcanopy, hotp.trans (hwithin.otp_run s rfl), hflash.trans (hwithin.flash_run s rfl), hlow, hout⟩

end

/-- The ring function is off once the functions have stopped. -/
theorem stopFunctions_run_ringState (s : State) : (stopFunctions.run s).ringState = ringDisabled := by
  simp only [stopFunctions, Eff.run_all_cons, Eff.run_all_nil]
  generalize (Eff.forEach [0, 1] stopStackPort).run _ = u
  rw [State.ringState, (abortTransactions_within (Mask.Le.refl _)).n_run _ (by decide +kernel), Eff.run_upd]
  change ((Eff.whenS _ _).run u).ringState = _
  rw [Eff.run_whenS]
  split
  · rw [Eff.run_seq, State.ringState, (sourceChanged_within (Mask.Le.refl _)).n_run _ (by decide +kernel)]
    exact setRingState_run_ringState _ _
  next h => simpa using h

theorem exec_idleEntry_idle {s : State} (hstate : s.power.state = .active) (hstage : 4 ≤ s.power.stage)
    (hdeep : s.power.dormantPending = false) (hdue : s.requestDue = true) :
    ∃ t, exec .idleEntry s = .next t ∧ t.power.state = .idle ∧ t.power.idlePending = false ∧ t.n 0x2200 1 = 2 ∧
      t.ringState = ringDisabled ∧ t.otp = s.otp ∧ t.flash = s.flash := by
  refine ⟨_, rfl, ?_⟩
  have hstop := stopFunctions_within (Mask.Le.refl _)
  have hshown := idleShown_within s
  obtain ⟨hidle, hpending, hshows⟩ := idleShown_run_idle s (stopFunctions.run s)
  rw [Eff.run_seq, flush_power, flush_n, flush_ringState, flush_otp, flush_flash, idleEnters_run_active hstate hstage hdue, hdeep,
    Eff.run_when_false]
  refine ⟨hidle, hpending, hshows, ?_, ?_, ?_⟩
  · rw [State.ringState, hshown.n_run _ (by decide +kernel)]
    exact stopFunctions_run_ringState s
  · rw [hshown.otp_run _ rfl, hstop.otp_run _ rfl]
  · rw [hshown.flash_run _ rfl, hstop.flash_run _ rfl]

theorem exec_idleEntry_dormant {s : State} (hstate : s.power.state = .idle) (hdeep : s.power.dormantPending = true)
    (hdue : s.requestDue = true) :
    ∃ t, exec .idleEntry s = .next t ∧ t.power.state = .dormant ∧ t.canopy = { s.canopy with
        latched := some (s.now, s.canopy.counter), wakeArmed := (s.canopy.wakeArmed && decide (s.now < s.n 0x2220 3)) } ∧
      t.otp = s.otp ∧ t.flash = s.flash ∧ t.pins.faultLow = false ∧
      t.out = s.out ++ (if s.pins.faultLow then [.faultPin false] else []) := by
  refine ⟨_, rfl, ?_⟩
  rw [Eff.run_seq, flush_power, flush_canopy, flush_otp, flush_flash, flush_pins, flush_out, idleEnters_run_idle hstate hdue, hdeep,
    Eff.run_when, if_pos rfl]
  exact goDormant_idleShown_run s s

theorem exec_idleEntry_deep {s : State} (hstate : s.power.state = .active) (hstage : 4 ≤ s.power.stage)
    (hdeep : s.power.dormantPending = true) (hdue : s.requestDue = true) :
    ∃ t, exec .idleEntry s = .next t ∧ t.power.state = .dormant ∧ t.canopy.latched = some (s.now, s.canopy.counter) ∧
      t.otp = s.otp ∧ t.flash = s.flash ∧ t.pins.faultLow = false := by
  refine ⟨_, rfl, ?_⟩
  have hstop := stopFunctions_within (Mask.Le.refl _)
  obtain ⟨hsleeps, hcanopy, hotp, hflash, hlow, -⟩ := goDormant_idleShown_run s (stopFunctions.run s)
  rw [Eff.run_seq, flush_power, flush_canopy, flush_otp, flush_flash, flush_pins, idleEnters_run_active hstate hstage hdue, hdeep,
    Eff.run_when, if_pos rfl]
  refine ⟨hsleeps, ?_, hotp.trans (hstop.otp_run s rfl), hflash.trans (hstop.flash_run s rfl), hlow⟩
  have hnow : (stopFunctions.run s).now = s.now := congrArg Clock.units (hstop.clock_run rfl s)
  rw [hcanopy, hnow, hstop.canopy_run s rfl]

/-! ## Wake sources (R398) -/

/-- A wake source in IDLE: the entry of the log, and the PLLs start. -/
theorem wakeSource_run_idle {s : State} (hstate : s.power.state = .idle) (hpending : s.power.wakePending = false) (cause port : Nat) :
    (wakeSource cause port).run s = (Eff.all [.upd (.power fun w => { w with dormantPending := false }), .upd (.wake ⟨s.now, cause, port⟩),
      .upd (.power fun w => { w with wakePending := true })]).run s := by
  have hidle : ((Upd.power fun w => { w with dormantPending := false }).apply s).power.state = .idle := hstate
  have hnot : ((Upd.power fun w => { w with dormantPending := false }).apply s).power.wakePending = false := hpending
  simp only [wakeSource, Eff.run_look, hstate, Eff.run_seq, Eff.run_upd, idleWake, Eff.run_whenS, hidle, hnot, beq_self_eq_true,
    Bool.not_false, Bool.and_self, if_true, Eff.run_all_cons, Eff.run_all_nil]
  rfl

theorem wakeLog_head (s : State) (r : WakeRecord) : ((Upd.wake r).apply s).canopy.wakeLog.head? = some r := rfl

theorem wakeSource_wakes_idle {s : State} (hstate : s.power.state = .idle) (hpending : s.power.wakePending = false) (cause port : Nat) :
    let t := (wakeSource cause port).run s
    t.power.state = .idle ∧ t.power.wakePending = true ∧ t.canopy.wakeArmed = s.canopy.wakeArmed ∧
      t.canopy.wakeLog.head? = some ⟨s.now, cause, port⟩ := by
  intro t
  have ht : t = _ := wakeSource_run_idle hstate hpending cause port
  clear_value t
  subst ht
  exact ⟨hstate, rfl, rfl, rfl⟩

theorem exec_wakePin_idle {s : State} (hstate : s.power.state = .idle) (hpin : s.on 0x2220 1 = true) (hpending : s.power.wakePending = false) :
    ∃ t, exec .wakePin s = .next t ∧ t.power.wakePending = true ∧ t.canopy.wakeLog.head? = some ⟨s.now, 1, 0xFFFF⟩ := by
  refine ⟨_, rfl, ?_⟩
  obtain ⟨-, hwakes, -, hlog⟩ := wakeSource_wakes_idle hstate hpending 1 0xFFFF
  rw [Eff.run_seq, flush_power, flush_canopy, Eff.run_whenS, if_pos hpin]
  exact ⟨hwakes, hlog⟩

theorem exec_portWakeActivity_idle {s : State} {p : Nat} (hstate : s.power.state = .idle) (hport : isPort p = true) (hbb : isBB p = false)
    (hmask : maskBit (s.obj 0x2220 4) p = true) (hpending : s.power.wakePending = false) :
    ∃ t, exec (.portWakeActivity p) s = .next t ∧ t.power.wakePending = true ∧
      t.canopy.wakeLog.head? = some ⟨s.now, 2, p⟩ := by
  refine ⟨_, rfl, ?_⟩
  obtain ⟨hidle, hwakes, -, hlog⟩ := wakeSource_wakes_idle hstate hpending 2 p
  have hstopped : ((wakeSource 2 p).run s).operating = false := by rw [State.operating, hidle]; rfl
  rw [Eff.run_seq, flush_power, flush_canopy, portWakes, hport, hbb, Bool.not_false, Bool.and_self, Eff.run_when, if_pos rfl,
    Eff.run_seq, Eff.run_whenS (c := fun s => maskBit (s.obj 0x2220 4) p), if_pos hmask, Eff.run_whenS, hstopped]
  exact ⟨hwakes, hlog⟩

theorem exec_wakeAt_idle {s : State} (hstate : s.power.state = .idle) (harmed : s.canopy.wakeArmed = true)
    (hreached : s.n 0x2220 3 ≤ s.keptTime) (hpending : s.power.wakePending = false) :
    ∃ t, exec .wakeAt s = .next t ∧ t.power.wakePending = true ∧ t.canopy.wakeArmed = false ∧
      t.canopy.wakeLog.head? = some ⟨s.now, 3, 0xFFFF⟩ := by
  refine ⟨_, rfl, ?_⟩
  obtain ⟨-, hwakes, hdisarmed, hlog⟩ :=
    wakeSource_wakes_idle (s := (Upd.canopy fun k => { k with wakeArmed := false }).apply s) hstate hpending 3 0xFFFF
  rw [Eff.run_seq, flush_power, flush_canopy, wakesAt, Eff.run_whenS, if_pos (by simp [harmed, hreached]), Eff.run_seq, Eff.run_upd]
  exact ⟨hwakes, hdisarmed, hlog⟩

/-! ## Bring-up at S1 -/

theorem updateFaultPin_run_pewakenLow (s : State) : (updateFaultPin.run s).pins.pewakenLow = s.pins.pewakenLow := by
  rw [updateFaultPin, Eff.run_look, Eff.run_when]
  split <;> rfl

/-- What a module that enters S1 shows. -/
theorem enterStageOne_run (s : State) : let t := enterStageOne.run s
    t.power.state = .active ∧ t.power.stage = 1 ∧ t.n 0x1001 0 = 1 ∧ t.pins.pewakenLow = s.pins.pewakenLow ∧
      t.canopy = s.canopy := by
  simp only [enterStageOne, setStage, Eff.run_all_cons, Eff.run_all_nil, Eff.run_look]
  have hflash := flashSet_within (Mask.Le.refl _) (f := fun f => { f with bootCount := (f.bootCount + 1) % 4294967296 })
  have hpin := updateFaultPin_within (Mask.Le.refl _)
  rw [hpin.power_run _ rfl, hpin.canopy_run _ rfl, hpin.n_run _ (by decide +kernel), updateFaultPin_run_pewakenLow,
    hflash.power_run _ rfl, hflash.canopy_run _ rfl, hflash.n_run _ (by decide +kernel)]
  refine ⟨rfl, rfl, ?_, rfl, rfl⟩
  simp only [State.n, State.obj, setB, setN, setObj, Eff.run_upd, Eff.run_seq, key_obj]
  rw [if_neg (by decide), if_neg (by decide), if_neg (by decide), if_pos trivial]
  rfl

theorem exec_wakePin_dormant {s : State} (hstate : s.power.state = .dormant) (hpin : s.on 0x2220 1 = true)
    (hbrown : s.power.brownOut = false) (hthermal : s.power.thermalStop = false) :
    ∃ t, exec .wakePin s = .next t ∧ t.power.state = .active ∧ t.power.stage = 1 ∧ t.n 0x1001 0 = 1 ∧
      t.pins.pewakenLow = (s.on 0x2220 5 || s.pins.pewakenLow) ∧ t.canopy.wakeLog.head? = some ⟨s.canopyTime, 1, 0xFFFF⟩ := by
  refine ⟨_, rfl, ?_⟩
  rw [Eff.run_seq, flush_power, flush_n, flush_pins, flush_canopy, Eff.run_whenS, if_pos hpin, wakeSource, Eff.run_look, hstate]
  simp only [hbrown, hthermal, Bool.not_false, Bool.and_self, Eff.run_when_true, Eff.run_all_cons, Eff.run_all_nil]
  obtain ⟨hactive, hstage, hshown, hlow, hcanopy⟩ := enterStageOne_run ((setN 0x2230 3 1).run ((Eff.when (s.on 0x2220 5)
    (.upd (.pins fun q => { q with pewakenLow := true }))).run ((Eff.upd (.wake ⟨s.canopyTime, 1, 0xFFFF⟩)).run s)))
  refine ⟨hactive, hstage, hshown, hlow.trans ?_, ?_⟩
  · cases s.on 0x2220 5 <;> rfl
  · rw [hcanopy]
    cases s.on 0x2220 5 <;> rfl

/-! ## Shutdown and recovery (R361 to R363) -/

theorem recoverSupply_run {s : State} (hstate : s.power.state = .dormant) (hbrown : s.power.brownOut = false)
    (hthermal : s.power.thermalStop = false) : let t := recoverSupply.run s
    t.power.state = .active ∧ t.power.stage = 0 ∧ t.power.brownOut = false ∧ t.power.thermalStop = false ∧ t.pins.faultLow = true ∧
      t.canopy.wakeLog.head? = some ⟨s.canopyTime, 7, 0xFFFF⟩ := by
  have hball := faultBall_within (Mask.Le.refl _) (low := true)
  simp only [recoverSupply, Eff.run_whenS, hstate, hbrown, hthermal, beq_self_eq_true, Bool.not_false, Bool.and_self, if_true,
    Eff.run_look, Eff.run_all_cons, Eff.run_all_nil]
  rw [hball.power_run _ rfl, hball.canopy_run _ rfl]
  exact ⟨rfl, rfl, hbrown, hthermal, faultBall_run_faultLow _ _, rfl⟩

theorem exec_brownOutRecovered {s : State} (hbrown : s.power.brownOut = true) (hthermal : s.power.thermalStop = false)
    (hstate : s.power.state = .dormant) :
    ∃ t, exec .brownOutRecovered s = .next t ∧ t.power.state = .active ∧ t.power.stage = 0 ∧ t.power.brownOut = false ∧
      t.pins.faultLow = true ∧ t.canopy.wakeLog.head? = some ⟨s.canopyTime, 7, 0xFFFF⟩ := by
  refine ⟨_, rfl, ?_⟩
  obtain ⟨hactive, hstage, hover, -, hlow, hlog⟩ :=
    recoverSupply_run (s := (Upd.power fun w => { w with brownOut := false }).apply s) hstate rfl hthermal
  rw [Eff.run_seq, flush_power, flush_pins, flush_canopy, brownOutEnds, Eff.run_whenS, if_pos hbrown, Eff.run_seq, Eff.run_upd]
  exact ⟨hactive, hstage, hover, hlow, hlog⟩

theorem exec_thermalNormal_dormant {s : State} {temp : Int} (hthermal : s.power.thermalStop = true) (hstate : s.power.state = .dormant)
    (hbrown : s.power.brownOut = false) (htemp : temp < 400) :
    ∃ t, exec (.thermalNormal temp) s = .next t ∧ t.power.state = .active ∧ t.power.stage = 0 ∧ t.power.thermalStop = false ∧
      t.canopy.wakeLog.head? = some ⟨s.canopyTime, 7, 0xFFFF⟩ := by
  refine ⟨_, rfl, ?_⟩
  obtain ⟨hactive, hstage, -, hover, -, hlog⟩ :=
    recoverSupply_run (s := (Upd.canopy fun k => { k with cooled := some temp }).apply
      ((Upd.power fun w => { w with thermalStop := false }).apply s)) hstate hbrown rfl
  rw [Eff.run_seq, flush_power, flush_canopy, coolsDown, Eff.run_look, if_neg (by omega), if_pos hthermal]
  simp only [Eff.run_all_cons, Eff.run_all_nil, Eff.run_upd]
  exact ⟨hactive, hstage, hover, hlog⟩

theorem celsius_lt (t : Int) : celsius t < 2147483648 := by
  unfold celsius
  omega

theorem exec_thermalNormal_running {s : State} {temp : Int} (hstate : s.power.state = .active ∨ s.power.state = .idle)
    (hthermal : s.power.thermalStop = false) (hshown : s.n 0xB071 0 ≠ 0) (hroom : s.room 1) (htemp : temp < 400) :
    ∃ t, exec (.thermalNormal temp) s = .next t ∧ t.n 0xB071 0 = 0 ∧ t.power.throttled = false ∧
      s.records t 914 (celsius temp) := by
  refine ⟨_, rfl, ?_⟩
  have hpowered : (s.power.state == .active || s.power.state == .idle) = true := by
    rcases hstate with h | h <;> rw [h] <;> rfl
  rw [Eff.run_seq, flush_n, flush_power, coolsDown, Eff.run_look, if_neg (by omega), hthermal, if_neg (by simp), hpowered,
    Eff.run_when, if_pos rfl, thermalNormal, Eff.run_whenS, if_pos (by simp [htemp, hshown])]
  simp only [Eff.run_all_cons, Eff.run_all_nil]
  exact ⟨setN_run_n _ _ _ _ _, rfl, hasRaised_records_one ⟨rfl, rfl, rfl⟩ hroom (by decide) (celsius_lt temp)⟩

theorem exec_canopyLost (s : State) :
    ∃ t, exec .canopyLost s = .next t ∧ t.power.state = .off ∧ t.otp = s.otp ∧ t.flash = s.flash ∧
      t.canopy = { State.reset.canopy with wakeLog := t.canopy.wakeLog } ∧ t.pins.faultLow = false := by
  refine ⟨_, rfl, ?_⟩
  have hball := faultBall_within (Mask.Le.refl _) (low := false)
  rw [Eff.run_seq, flush_power, flush_otp, flush_flash, flush_canopy, flush_pins, canopyGone, Eff.run_seq]
  exact ⟨rfl, hball.otp_run s rfl, hball.flash_run s rfl, rfl, rfl⟩

/-! ## The end of IDLE (R395) -/

/-- The power state, and whether the PLLs start. -/
def State.wakes (s : State) : Power × Bool := (s.power.state, s.power.wakePending)

theorem Eff.Within.wakes_run {m : Mask} {e : Eff} (he : e.Within tables m) (s : State)
    (h : m.parts.testBit Part.power.bit = false) : (e.run s).wakes = s.wakes := by
  rw [State.wakes, he.power_run s h, State.wakes]

theorem setGrove_run_wakes (g state : Nat) (nextWake : Option Nat) (s : State) : ((setGrove g state nextWake).run s).wakes = s.wakes := by
  simp only [setGrove, Eff.run_look, Eff.run_all_cons, Eff.run_all_nil, Eff.run_when]
  split <;> rfl

theorem applyPolicies_run_wakes (s : State) : (applyPolicies.run s).wakes = s.wakes := by
  refine Eff.forEach_keeps State.wakes (fun g s => ?_) s
  rw [Eff.run_look]
  dsimp only
  split
  · rw [Eff.run_seq, setGrove_run_wakes, (groveStops_within (Mask.Le.refl _)).wakes_run _ rfl]
  · rw [Eff.run_when]
    split
    · exact setGrove_run_wakes _ _ _ _
    · rfl

/-- What a module that has woken starts again. -/
def functionsResume : Eff :=
  .all [.whenS (fun s => s.on 0x4000 1 && !s.stackMember) (.seq startListening (setRingState ringListen)),
    .look fun s => .forEach s.enabledPorts fun p => .seq (portStart p) (gatesNow p), applyPolicies,
    .look fun s => .seq (.forEach (s.host.tx.map Prod.fst) fun r => .seq (usePushes r 16) (fetchEntries true r))
      (.forEach (s.host.rx.map Prod.fst) (fetchEntries false))]

/-- A part of the state that neither the ring function nor the ports, the rings or the policies of the groves change. -/
theorem functionsResume_keeps {β : Type} (f : State → β) (hring : ∀ s, f ((setRingState ringListen).run s) = f s)
    (hlisten : ∀ s, f (startListening.run s) = f s) (hport : ∀ p s, f ((portStart p).run s) = f s)
    (hgates : ∀ p s, f ((gatesNow p).run s) = f s) (hpolicies : ∀ s, f (applyPolicies.run s) = f s)
    (hpushes : ∀ r s, f ((usePushes r 16).run s) = f s) (hfetch : ∀ tx r s, f ((fetchEntries tx r).run s) = f s) (s : State) :
    f (functionsResume.run s) = f s := by
  simp only [functionsResume, Eff.run_all_cons, Eff.run_all_nil]
  rw [Eff.run_look, Eff.run_seq, Eff.forEach_keeps f (hfetch false), Eff.forEach_keeps f (fun r s => by rw [Eff.run_seq, hfetch, hpushes]),
    hpolicies, Eff.run_look, Eff.forEach_keeps f (fun p s => by rw [Eff.run_seq, hgates, hport]), Eff.run_whenS]
  split
  · rw [Eff.run_seq, hring, hlisten]
  · rfl

theorem functionsResume_run_wakes (s : State) : (functionsResume.run s).wakes = s.wakes :=
  functionsResume_keeps State.wakes (fun s => (setRingState_within (Mask.Le.refl _)).wakes_run s rfl)
    (fun s => (startListening_within (Mask.Le.refl _)).wakes_run s rfl) (fun _ s => (portStart_within (Mask.Le.refl _)).wakes_run s rfl)
    (fun _ s => (gatesNow_within (Mask.Le.refl _)).wakes_run s rfl) applyPolicies_run_wakes
    (fun _ s => (usePushes_within (Mask.Le.refl _)).wakes_run s rfl) (fun _ _ s => (fetchEntries_within (Mask.Le.refl _)).wakes_run s rfl) s

/-- It starts the functions, and the state that the module shows stands. -/
theorem functionsResume_run_shown (s : State) : (functionsResume.run s).n 0x2200 1 = s.n 0x2200 1 :=
  functionsResume_keeps (fun s => s.n 0x2200 1) (fun s => (setRingState_within (Mask.Le.refl _)).n_run s (by decide +kernel))
    (fun s => (startListening_within (Mask.Le.refl _)).n_run s (by decide +kernel))
    (fun _ s => (portStart_within (Mask.Le.refl _)).n_run s (by decide +kernel))
    (fun _ s => (gatesNow_within (Mask.Le.refl _)).n_run s (by decide +kernel))
    (fun s => (applyPolicies_within (Mask.Le.refl _)).n_run s (by decide +kernel))
    (fun _ s => (usePushes_within (Mask.Le.refl _)).n_run s (by decide +kernel))
    (fun _ _ s => (fetchEntries_within (Mask.Le.refl _)).n_run s (by decide +kernel)) s

theorem exec_activeResumed {s : State} (hstate : s.power.state = .idle) (hpending : s.power.wakePending = true) :
    ∃ t, exec .activeResumed s = .next t ∧ t.power.state = .active ∧ t.power.wakePending = false ∧ t.n 0x2200 1 = 3 := by
  refine ⟨_, rfl, ?_⟩
  have hrun : resumes.run s = functionsResume.run ((setN 0x2200 1 3).run
      ((Upd.power fun w => { w with state := .active, wakePending := false }).apply s)) := by
    rw [resumes, Eff.run_whenS, hstate, hpending]
    simp only [functionsResume, beq_self_eq_true, Bool.and_self, if_true, Eff.run_all_cons, Eff.run_all_nil, Eff.run_upd]
  obtain ⟨hactive, hdone⟩ := Prod.mk.inj (functionsResume_run_wakes ((setN 0x2200 1 3).run
    ((Upd.power fun w => { w with state := .active, wakePending := false }).apply s)))
  rw [Eff.run_seq, flush_power, flush_n, hrun]
  exact ⟨hactive, hdone, (functionsResume_run_shown _).trans (setN_run_n _ _ _ _ _)⟩

/-! ## Orderly shutdowns (R362) -/

/-- The body of an orderly shutdown up to the rails. -/
def shutdownSends (cause : Nat) (s : State) : Eff :=
  .all [.upd (.canopy fun k => { k with shutdown := some (cause, s.keptTime), shutdownDue := true }), faultBall true,
    .forEach s.traffic.macs fun e => .ofOption e.2.current fun x => emit (.frame e.1 (x.2.data.drop x.2.sent) true true),
    .when s.twinHalf (.all [setN 0x9021 1 twFailed, setB 0x9021 3 false,
      .look fun s => sendStack s.twinPort 0x01 (s.stepBody s.recordCycle)])]

theorem shutdown_run {s : State} (h : s.power.state ≠ .dormant) (cause : Nat) (mark : PowerSide → PowerSide) :
    (shutdown cause mark).run s =
      (Eff.seq (setN 0x2230 3 0) (.upd (.power mark))).run (goDormant.run ((shutdownSends cause s).run s)) := by
  have hne : (s.power.state != .dormant) = true := by simpa using h
  simp only [shutdown, shutdownSends, Eff.run_look, Eff.run_all_cons, Eff.run_all_nil, Eff.run_seq, hne, Eff.run_when_true]

/-- The last frames and the last StepRecord leave the clock, OTP and flash as they are, and FAULT low. -/
structure State.keepsFor (cause : Nat) (s t : State) : Prop where
  now : t.now = s.now
  otp : t.otp = s.otp
  flash : t.flash = s.flash
  canopy : t.canopy = { s.canopy with shutdown := some (cause, s.keptTime), shutdownDue := true }

theorem shutdownSends_keepsFor (cause : Nat) (s : State) : s.keepsFor cause ((shutdownSends cause s).run s) := by
  have hm := Mask.Le.refl ⟨0x20800480, 0xa0000000000000000000000000000000000000000000000, 0x2000000000000000000000000000000100000000000000000000000000000⟩
  have hrest : Eff.Within tables ⟨0x20800480, 0xa0000000000000000000000000000000000000000000000, 0x2000000000000000000000000000000100000000000000000000000000000⟩
      (Eff.all [faultBall true,
        .forEach s.traffic.macs fun e => .ofOption e.2.current fun x => emit (.frame e.1 (x.2.data.drop x.2.sent) true true),
        .when s.twinHalf (.all [setN 0x9021 1 twFailed, setB 0x9021 3 false,
          .look fun s => sendStack s.twinPort 0x01 (s.stepBody s.recordCycle)])]) :=
    Within.cons (faultBall_within (hm.via rfl rfl rfl)) (Within.cons (Within.forEach fun _ => Within.ofOption fun _ =>
      emit_within (hm.via rfl rfl rfl)) (Within.cons (Within.when (Within.cons (Within.setN (hm.obj (by decide +kernel)))
        (Within.cons (Within.setB (hm.obj (by decide +kernel))) (Within.cons (Within.look fun _ => sendStack_within (hm.via rfl rfl rfl))
          Within.nil)))) Within.nil))
  rw [shutdownSends, Eff.run_all_cons]
  constructor
  · exact congrArg Clock.units (hrest.clock_run rfl _)
  · exact hrest.otp_run _ rfl
  · exact hrest.flash_run _ rfl
  · exact hrest.canopy_run _ rfl

/-- An orderly shutdown of a module with its rails up. -/
theorem shutdown_run_stopped {s : State} (h : s.power.state = .active ∨ s.power.state = .idle) (cause : Nat)
    (mark : PowerSide → PowerSide) (hmark : ∀ w, (mark w).state = w.state) : let t := (shutdown cause mark).run s
    t.power.state = .dormant ∧ t.canopy = { s.canopy with
        shutdown := some (cause, s.now), shutdownDue := true, latched := some (s.now, s.canopy.counter) } ∧
      t.pins.faultLow = false ∧ t.n 0x2230 3 = 0 ∧ t.otp = s.otp ∧ t.flash = s.flash := by
  intro t
  have hkept : s.keptTime = s.now := by
    rcases h with h | h <;> rw [State.keptTime, h] <;> rfl
  have ht : t = _ := shutdown_run (by rcases h with h | h <;> rw [h] <;> decide) cause mark
  obtain ⟨hnow, hotp, hflash, hcanopy⟩ := shutdownSends_keepsFor cause s
  obtain ⟨hstate, hlatched, hotp', hflash', hlow, -⟩ := goDormant_sleepsAs ((shutdownSends cause s).run s)
  rw [hnow, hcanopy, hkept] at hlatched
  clear_value t
  subst ht
  exact ⟨(hmark _).trans hstate, hlatched, hlow, setN_run_n _ _ _ _ _, hotp'.trans hotp, hflash'.trans hflash⟩

theorem exec_brownOut {s : State} {v : Nat} (hstate : s.power.state = .active ∨ s.power.state = .idle) (hv : v < 3200)
    (hbrown : s.power.brownOut = false) (hthermal : s.power.thermalStop = false) :
    ∃ t, exec (.brownOut v) s = .next t ∧ t.power.state = .dormant ∧ t.power.brownOut = true ∧
      t.canopy.shutdown = some (1, s.now) ∧ t.canopy.shutdownDue = true ∧ t.canopy.latched = some (s.now, s.canopy.counter) ∧
      t.pins.faultLow = false ∧ t.n 0x2230 3 = 0 ∧ t.otp = s.otp ∧ t.flash = s.flash := by
  refine ⟨_, rfl, ?_⟩
  have hread := readVbn_within (Mask.Le.refl _) (v := v)
  have hpower : ((readVbn v).run s).power = s.power := hread.power_run s rfl
  obtain ⟨hstops, hcanopy, hlow, haux, hotp, hflash⟩ := shutdown_run_stopped (s := (readVbn v).run s) (by rwa [hpower]) 1
    (fun w => { w with brownOut := true }) fun _ => rfl
  have hnow : ((readVbn v).run s).now = s.now := congrArg Clock.units (hread.clock_run rfl s)
  rw [hnow, hread.canopy_run s rfl] at hcanopy
  have hrun : (brownsOut v).run s = (shutdown 1 fun w => { w with brownOut := true }).run ((readVbn v).run s) := by
    have hoff : (s.power.state != .off) = true := by rcases hstate with h | h <;> rw [h] <;> rfl
    rw [brownsOut, Eff.run_whenS, if_pos (by simp [hv, hoff, hbrown]), Eff.run_seq, Eff.run_look, hpower, hthermal]
    rfl
  rw [Eff.run_seq, flush_power, flush_canopy, flush_pins, flush_n, flush_otp, flush_flash, hrun]
  refine ⟨hstops, ?_, ?_, ?_, ?_, hlow, haux, hotp.trans (hread.otp_run s rfl), hflash.trans (hread.flash_run s rfl)⟩
  · rw [shutdown, Eff.run_look]; rfl
  · rw [hcanopy]
  · rw [hcanopy]
  · rw [hcanopy]

theorem exec_thermalShutdown {s : State} {sensor : Nat} {temp : Int} (hstate : s.power.state = .active ∨ s.power.state = .idle)
    (htemp : 500 ≤ temp) :
    ∃ t, exec (.thermalShutdown sensor temp) s = .next t ∧ t.power.state = .dormant ∧ t.power.thermalStop = true ∧
      t.canopy.shutdown = some (2, s.now) ∧ t.canopy.shutdownDue = true ∧ t.canopy.thermalTrip = some (sensor, temp) ∧
      t.pins.faultLow = false ∧ t.n 0x2230 3 = 0 := by
  refine ⟨_, rfl, ?_⟩
  obtain ⟨hstops, hcanopy, hlow, haux, -, -⟩ := shutdown_run_stopped
    (s := (Upd.canopy fun k => { k with thermalTrip := some (sensor, temp) }).apply s) hstate 2
    (fun w => { w with thermalStop := true }) fun _ => rfl
  have hon : (s.power.state == .active || s.power.state == .idle) = true := by rcases hstate with h | h <;> rw [h] <;> rfl
  rw [Eff.run_seq, flush_power, flush_canopy, flush_pins, flush_n, overheats, Eff.run_whenS, if_pos (by simp [htemp, hon]),
    Eff.run_seq, Eff.run_upd]
  refine ⟨hstops, ?_, ?_, ?_, ?_, hlow, haux⟩
  · rw [shutdown, Eff.run_look]; rfl
  · rw [hcanopy]; rfl
  · rw [hcanopy]
  · rw [hcanopy]; rfl

/-- Settles O58, clause by clause: what the entry into a power state, a wake source, the end of IDLE, a shutdown and a recovery each
leave. -/
theorem powerStatesWakesAndShutdown : Obligations.PowerStatesWakesAndShutdown := by
  unfold Obligations.PowerStatesWakesAndShutdown
  refine ⟨?_, ?_, ?_, ?_, ?_, ?_, ?_, ?_, ?_, ?_, ?_, ?_, ?_, ?_⟩
  · intro s hstate hstage _ hdeep hdue
    exact exec_idleEntry_idle hstate hstage hdeep hdue
  · intro s hstate hdeep hdue
    exact exec_idleEntry_dormant hstate hdeep hdue
  · intro s hstate hstage hdeep hdue
    exact exec_idleEntry_deep hstate hstage hdeep hdue
  · intro s hstate hpin hpending
    exact exec_wakePin_idle hstate hpin hpending
  · intro s hstate hpin hbrown hthermal
    exact exec_wakePin_dormant hstate hpin hbrown hthermal
  · intro s p hstate hport hbb hmask hpending
    exact exec_portWakeActivity_idle hstate hport hbb hmask hpending
  · intro s hstate harmed hreached hpending
    exact exec_wakeAt_idle hstate harmed hreached hpending
  · intro s hstate hpending
    exact exec_activeResumed hstate hpending
  · intro s v hstate hv hbrown hthermal
    exact exec_brownOut hstate hv hbrown hthermal
  · intro s hbrown hthermal hstate
    exact exec_brownOutRecovered hbrown hthermal hstate
  · intro s sensor temp hstate htemp
    exact exec_thermalShutdown hstate htemp
  · intro s temp hthermal hstate hbrown htemp
    exact exec_thermalNormal_dormant hthermal hstate hbrown htemp
  · intro s temp hstate hthermal hshown hroom htemp
    exact exec_thermalNormal_running hstate hthermal hshown hroom htemp
  · exact exec_canopyLost

end Sys2Proof.Machine

/-! # Host images and host messages (R224 to R228) -/

namespace Sys2Proof.Machine

/-! ## Images -/

theorem imageSet_run_image (i : Nat) (f : HostImage → HostImage) (s : State) : ((imageSet i f).run s).image i = f (s.image i) := by
  rw [imageSet, Eff.run_look, Eff.run_upd]
  exact PMap.getD_set_same _ _ _ _

theorem Eff.Within.image_run {m : Mask} {e : Eff} (he : e.Within tables m) (s : State)
    (h : m.parts.testBit Part.messages.bit = false) (i : Nat) : (e.run s).image i = s.image i := by
  rw [State.image, he.messages_run s h, State.image]

/-- A write of a function that may write leaves as its packets. -/
theorem hostWrite_run_out {s : State} {fn : Nat} (hmay : s.mayWrite fn = true) (addr : Nat) (data : Bytes) :
    ((hostWrite fn addr data).run s).out =
      s.out ++ (requestPieces (s.function fn).maxPayload data.length addr data.length).map fun q =>
        .hostWrite fn q.1 (slice data (q.1 - addr) q.2) false := by
  rw [hostWrite, hostWriteAs, Eff.run_look, hmay, Eff.run_when_true]
  generalize requestPieces _ _ _ _ = l
  clear hmay
  induction l generalizing s with
  | nil => exact (List.append_nil _).symm
  | cons q l ih =>
    rw [Eff.run_forEach_cons, ih, List.map_cons]
    exact List.append_assoc _ [_] _

theorem hostWrite_run_mayWrite (fn addr : Nat) (data : Bytes) (s : State) (g : Nat) :
    ((hostWrite fn addr data).run s).function g = s.function g ∧ ((hostWrite fn addr data).run s).mayWrite g = s.mayWrite g := by
  obtain ⟨h, -⟩ := (hostWrite_within (Mask.Le.refl _) (fn := fn) (addr := addr) (data := data)).keeps_part s .functions rfl
  constructor
  · rw [State.function, State.function, h]
  · simp only [State.mayWrite, State.masters, State.function, h]

theorem length_readBytes_image (m : Memory) (a n : Nat) : (m.readBytes a n).length = n := by
  induction n generalizing a with
  | zero => rfl
  | succ n ih => rw [Memory.readBytes, List.length_cons, ih]

theorem inboundSnapshot_run {s : State} {i : Nat} (his : s.imageIs i 0 = true) (hfree : (s.image i).writing = none)
    (hreach : s.imageReachable i = true) : (inboundSnapshot i).run s =
      (Eff.all [hostWrite (s.n 0x7400 3 i) (s.imageBase i) (leBytes 8 s.cycle),
        hostWrite (s.n 0x7400 3 i) (s.imageBase i + 8) (s.buffers.inbound.readBytes (65536 * i + 8) (s.n 0x7400 4 i - 16)),
        imageSet i fun k => { k with writing := some s.cycle }]).run s := by
  simp only [inboundSnapshot, Eff.run_look, his, hfree, hreach, Bool.not_true, Bool.false_eq_true, if_false, Option.isSome_none,
    Bool.or_self]

theorem exec_inboundImageSnapshot {s : State} {i : Nat} (hoperating : s.operating = true) (his : s.imageIs i 0 = true)
    (hfree : (s.image i).writing = none) (hreach : s.imageReachable i = true)
    (hpayload : 8 ≤ (s.function (s.n 0x7400 3 i)).maxPayload) (hpage : s.imageBase i % 4096 ≤ 4088) :
    ∃ t, exec (.inboundImageSnapshot i) s = .next t ∧ t.image i = { s.image i with writing := some s.cycle } ∧
      (t.out = s.out ++ [.hostWrite (s.n 0x7400 3 i) (s.imageBase i) (leBytes 8 s.cycle) false] ++
        (requestPieces (s.function (s.n 0x7400 3 i)).maxPayload (s.n 0x7400 4 i - 16) (s.imageBase i + 8)
          (s.n 0x7400 4 i - 16)).map fun q => .hostWrite (s.n 0x7400 3 i) q.1
            (slice (s.buffers.inbound.readBytes (65536 * i + 8) (s.n 0x7400 4 i - 16)) (q.1 - (s.imageBase i + 8)) q.2) false) := by
  have hmay : s.mayWrite (s.n 0x7400 3 i) = true := by
    simp only [State.imageReachable, Bool.and_eq_true] at hreach
    exact hreach.2
  have hwrites (fn addr : Nat) (data : Bytes) := hostWrite_within (Mask.Le.refl _) (fn := fn) (addr := addr) (data := data)
  refine ⟨_, rfl, ?_⟩
  rw [Eff.run_seq, operating, Eff.run_whenS, if_pos hoperating, inboundSnapshot_run his hfree hreach, flush_out, State.image,
    flush_messages]
  simp only [Eff.run_all_cons, Eff.run_all_nil]
  constructor
  · refine (imageSet_run_image _ _ _).trans ?_
    rw [(hwrites _ _ _).image_run _ rfl, (hwrites _ _ _).image_run _ rfl]
  · obtain ⟨hfunction, hstill⟩ := hostWrite_run_mayWrite (s.n 0x7400 3 i) (s.imageBase i) (leBytes 8 s.cycle) s (s.n 0x7400 3 i)
    rw [(imageSet_within (Mask.Le.refl _)).out_run _ rfl, hostWrite_run_out (by rwa [hstill]), hfunction, length_readBytes_image,
      hostWrite_run_stamp hmay hpayload hpage]
    rfl

/-! ## The status of a transfer -/

theorem count_run_image (item : Nat) (s : State) (i : Nat) : ((count item).run s).image i = s.image i := rfl
theorem count_run_n (item : Nat) (s : State) (idx sub row : Nat) : ((count item).run s).n idx sub row = s.n idx sub row := rfl
theorem count_run_obj (item : Nat) (s : State) (idx sub row : Nat) : ((count item).run s).obj idx sub row = s.obj idx sub row := rfl
theorem count_run_out (item : Nat) (s : State) : ((count item).run s).out = s.out := rfl
theorem flush_image (s : State) (i : Nat) : (flushEvents.run s).image i = s.image i := by
  rw [State.image, flush_messages, State.image]

/-- The stamp of an image's last transfer, its count and its instant are shown. -/
def imageNoted (i stamp : Nat) (now : Nat) : Eff := .all [setN 0x7401 1 stamp i, bumpObj 0x7401 2 i, setN 0x7401 6 now i]

theorem imageNoted_run (i stamp now : Nat) (s : State) : let t := (imageNoted i stamp now).run s
    t.n 0x7401 1 i = stamp ∧ t.obj 0x7401 2 i = (s.obj 0x7401 2 i + 1) % 4294967296 := by
  simp only [imageNoted, Eff.run_all_cons, Eff.run_all_nil, setN, setObj, Eff.run_upd, State.n]
  constructor
  · simp only [State.obj, key_obj, bumpObj_run_key, Key.mk.injEq]
    simp
  · rw [State.obj, key_obj, if_neg (by simp)]
    refine (bumpObj_run_u32 (c := cell .u32) rfl rfl i _).trans ?_
    rw [State.obj, key_obj, if_neg (by simp), State.obj]

theorem imageNoted_within {i stamp now : Nat} : Eff.Within tables ⟨0, 0x118000000000000000000000000000000000000, 0⟩ (imageNoted i stamp now) := by
  have hm := Mask.Le.refl ⟨0, 0x118000000000000000000000000000000000000, 0⟩
  exact Within.cons (Within.setN (hm.obj (by decide +kernel))) (Within.cons (Within.bumpObj (hm.obj (by decide +kernel)))
    (Within.cons (Within.setN (hm.obj (by decide +kernel))) Within.nil))

theorem inboundDone_run {s : State} {i n : Nat} (h : (s.image i).writing = some n) : (inboundDone i).run s =
    (count (commonsItem 32)).run ((imageNoted i n s.now).run ((imageSet i fun k => { k with writing := none }).run
      ((hostWrite (s.n 0x7400 3 i) (s.imageBase i + s.n 0x7400 4 i - 8) (leBytes 8 n)).run s))) := by
  rw [inboundDone, Eff.run_look, h]
  simp only [imageNoted, Eff.run_all_cons, Eff.run_all_nil]

theorem exec_inboundImageWriteDone {s : State} {i n : Nat} (h : (s.image i).writing = some n) :
    ∃ t, exec (.inboundImageWriteDone i) s = .next t ∧ t.image i = { s.image i with writing := none } ∧ t.n 0x7401 1 i = n ∧
      t.obj 0x7401 2 i = (s.obj 0x7401 2 i + 1) % 4294967296 := by
  refine ⟨_, rfl, ?_⟩
  have hwrite := hostWrite_within (Mask.Le.refl _) (fn := s.n 0x7400 3 i) (addr := s.imageBase i + s.n 0x7400 4 i - 8)
    (data := leBytes 8 n)
  have himage := imageSet_within (Mask.Le.refl _) (i := i) (f := fun k => { k with writing := none })
  obtain ⟨hstamp, hcount⟩ := imageNoted_run i n s.now ((imageSet i fun k => { k with writing := none }).run
      ((hostWrite (s.n 0x7400 3 i) (s.imageBase i + s.n 0x7400 4 i - 8) (leBytes 8 n)).run s))
  rw [himage.keeps_obj _ (by decide +kernel), hwrite.keeps_obj _ (by decide +kernel)] at hcount
  rw [Eff.run_seq, flush_image, flush_n, flush_obj, inboundDone_run h]
  rw [count_run_image, count_run_n, count_run_obj]
  refine ⟨?_, hstamp, hcount⟩
  rw [imageNoted_within.image_run _ rfl, imageSet_run_image, hwrite.image_run _ rfl]

theorem exec_inboundImageWriteDone_out {s : State} {i n : Nat} (h : (s.image i).writing = some n)
    (hmay : s.mayWrite (s.n 0x7400 3 i) = true) (hpayload : 8 ≤ (s.function (s.n 0x7400 3 i)).maxPayload)
    (hpage : (s.imageBase i + s.n 0x7400 4 i - 8) % 4096 ≤ 4088) :
    ∃ t, exec (.inboundImageWriteDone i) s = .next t ∧
      t.out = s.out ++ [.hostWrite (s.n 0x7400 3 i) (s.imageBase i + s.n 0x7400 4 i - 8) (leBytes 8 n) false] := by
  refine ⟨_, rfl, ?_⟩
  rw [Eff.run_seq, flush_out, inboundDone_run h]
  rw [count_run_out, imageNoted_within.out_run _ rfl, (imageSet_within (Mask.Le.refl _)).out_run _ rfl, hostWrite_run_stamp hmay hpayload hpage]
  rfl

theorem outboundRead_run {s : State} {i : Nat} (his : s.imageIs i 1 = true)
    (hpoint : s.on 0x4140 1 (16 * s.mode + s.n 0x7400 6 i) = true) (hfree : (s.image i).reading = false)
    (hreach : s.imageReachable i = true) : (outboundRead i).run s =
      (Eff.all [count (commonsItem 34), imageSet i fun k => { k with reading := true },
        hostRead (.image i) (s.n 0x7400 3 i) (s.imageBase i + s.n 0x7400 4 i - 8) 8]).run s := by
  simp only [outboundRead, Eff.run_look, his, hpoint, hfree, hreach, Bool.not_true, Bool.false_eq_true, if_false, Bool.or_self]

theorem exec_outboundImageRead {s : State} {i : Nat} (hoperating : s.operating = true) (his : s.imageIs i 1 = true)
    (hpoint : s.on 0x4140 1 (16 * s.mode + s.n 0x7400 6 i) = true) (hfree : (s.image i).reading = false)
    (hreach : s.imageReachable i = true) :
    ∃ t, exec (.outboundImageRead i) s = .next t ∧ t.image i = { s.image i with reading := true } ∧
      t.counter (commonsItem 34) = (s.counter (commonsItem 34) + 1) % 18446744073709551616 := by
  refine ⟨_, rfl, ?_⟩
  have hread := hostRead_within (Mask.Le.refl _) (owner := .image i) (fn := s.n 0x7400 3 i)
    (addr := s.imageBase i + s.n 0x7400 4 i - 8) (len := 8)
  rw [Eff.run_seq, State.image, flush_messages, flush_counter _ _ (by decide), operating, Eff.run_whenS, if_pos hoperating,
    outboundRead_run his hpoint hfree hreach]
  simp only [Eff.run_all_cons, Eff.run_all_nil]
  refine ⟨(hread.image_run _ rfl i).trans (imageSet_run_image _ _ _), ?_⟩
  rw [hread.keeps_ctr _ rfl (by decide +kernel), (imageSet_within (Mask.Le.refl _)).keeps_ctr _ rfl (by decide +kernel), count_run_same]

/-- A short read of a function without reads outstanding leaves at once. -/
theorem hostRead_run_out {s : State} {owner : ReadOwner} {fn addr : Nat} (hmasters : s.masters fn = true) (hnone : s.host.reads = [])
    (hsize : 8 ≤ (s.function fn).maxRead) (hpage : addr % 4096 ≤ 4088) :
    ((hostRead owner fn addr 8).run s).out = s.out ++ [.hostRead fn addr 8] := by
  have hpieces : requestPieces (s.function fn).maxRead 8 addr 8 = [(addr, 8)] := by
    have hpiece : min 8 (min (max 1 (s.function fn).maxRead) (4096 - addr % 4096)) = 8 := by omega
    rw [requestPieces, if_neg (by decide), hpiece]
    rfl
  rw [hostRead, Eff.run_look, hmasters, Eff.run_when_true, Eff.run_seq, hpieces, Eff.run_upd, issueReads, Eff.run_look]
  have hreads : ((Upd.hostReads fun l => l ++ [(addr, 8)].map fun x => ⟨fn, owner, x.1, x.2, false⟩).apply s).host.reads =
      [⟨fn, owner, addr, 8, false⟩] := by
    simp [Upd.apply, hnone]
  have hlink (g : Nat) : ((Upd.hostReads fun l => l ++ [(addr, 8)].map fun x => ⟨fn, owner, x.1, x.2, false⟩).apply s).linkOf g =
      s.linkOf g := rfl
  simp only [hreads, hlink]
  simp [takeTags]
  rfl

theorem exec_outboundImageRead_out {s : State} {i : Nat} (hoperating : s.operating = true) (his : s.imageIs i 1 = true)
    (hpoint : s.on 0x4140 1 (16 * s.mode + s.n 0x7400 6 i) = true) (hfree : (s.image i).reading = false)
    (hreach : s.imageReachable i = true) (hnone : s.host.reads = []) (hsize : 8 ≤ (s.function (s.n 0x7400 3 i)).maxRead)
    (hpage : (s.imageBase i + s.n 0x7400 4 i - 8) % 4096 ≤ 4088) :
    ∃ t, exec (.outboundImageRead i) s = .next t ∧
      t.out = s.out ++ [.hostRead (s.n 0x7400 3 i) (s.imageBase i + s.n 0x7400 4 i - 8) 8] := by
  refine ⟨_, rfl, ?_⟩
  have hmasters : s.masters (s.n 0x7400 3 i) = true := by
    simp only [State.imageReachable, State.mayWrite, Bool.and_eq_true] at hreach
    exact hreach.2.1
  rw [Eff.run_seq, flush_out, operating, Eff.run_whenS, if_pos hoperating, outboundRead_run his hpoint hfree hreach]
  simp only [Eff.run_all_cons, Eff.run_all_nil]
  exact hostRead_run_out (s := (imageSet i fun k => { k with reading := true }).run ((count (commonsItem 34)).run s)) hmasters hnone hsize
    hpage

/-! ## The read of an outbound image ends -/

/-- The steps of a read, after which the image is free. -/
def outboundReads (s : State) (i : Nat) : Eff :=
  .all [tlpReceived, count (pcieItem 4), readsReturn (.image i) (s.n 0x7400 3 i) [(s.imageBase i + s.n 0x7400 4 i - 8, 8)],
    hostRead (.image i) (s.n 0x7400 3 i) (s.imageBase i + 8) (s.n 0x7400 4 i - 16),
    hostRead (.image i) (s.n 0x7400 3 i) (s.imageBase i) 8,
    readsReturn (.image i) (s.n 0x7400 3 i) [(s.imageBase i, s.n 0x7400 4 i)],
    imageSet i fun k => { k with reading := false }]

/-- The entries that a read has brought are swapped in. -/
def outboundSwaps (i n : Nat) (entries : Bytes) : Eff :=
  .seq nextSerial (.seq (.upd (.write .outbound (65536 * i + 8) entries))
    (.look fun s => imageSet i fun k => { k with lastStamp := some n, serial := s.messages.serial, swapCycle := s.cycle, swappedAt := s.now }))

theorem outboundDone_run {s : State} {i n : Nat} {entries : Bytes} (his : s.imageIs i 1 = true) (hreading : (s.image i).reading = true)
    (hhalf : s.twinHalf = false) (hnew : (s.image i).lastStamp ≠ some n) : (outboundDone i n entries n).run s =
      (imageNoted i n s.now).run ((outboundSwaps i n (slice entries 0 (s.n 0x7400 4 i - 16))).run ((outboundReads s i).run s)) := by
  have hstamp : ((s.image i).lastStamp == some n) = false := by simpa using hnew
  simp only [outboundDone, outboundReads, outboundSwaps, imageNoted, Eff.run_look, Eff.run_when, his, hreading, hhalf, hstamp, bne_self_eq_false,
    Bool.and_self, Bool.false_and, Bool.false_eq_true, if_false, if_true, Eff.run_all_cons, Eff.run_all_nil, Eff.run_seq]

theorem outboundReads_run (s : State) (i : Nat) : let t := (outboundReads s i).run s
    (t.image i).reading = false ∧ t.buffers = s.buffers ∧ t.obj 0x7401 2 i = s.obj 0x7401 2 i := by
  have hm := Mask.Le.refl ⟨0x20044000, 0, 0xd4000000000000000000000000000000000000000⟩
  have hwithin : Eff.Within tables ⟨0x20044000, 0, 0xd4000000000000000000000000000000000000000⟩ (outboundReads s i) :=
    Within.cons (tlpReceived_within (hm.via rfl rfl rfl)) (Within.cons (Within.count (hm.ctr (by decide +kernel)))
      (Within.cons (readsReturn_within (hm.via rfl rfl rfl)) (Within.cons (hostRead_within (hm.via rfl rfl rfl))
        (Within.cons (hostRead_within (hm.via rfl rfl rfl)) (Within.cons (readsReturn_within (hm.via rfl rfl rfl))
          (Within.cons (imageSet_within (hm.via rfl rfl rfl)) Within.nil))))))
  refine ⟨?_, hwithin.buffers_run s rfl, hwithin.keeps_obj s (by decide +kernel)⟩
  simp only [outboundReads, Eff.run_all_cons, Eff.run_all_nil]
  exact congrArg HostImage.reading (imageSet_run_image _ _ _)

theorem outboundSwaps_run (i n : Nat) (entries : Bytes) (s : State) : let t := (outboundSwaps i n entries).run s
    (t.image i).reading = (s.image i).reading ∧ (t.image i).lastStamp = some n ∧
      t.buffers.outbound = s.buffers.outbound.writeBytes (65536 * i + 8) entries ∧ t.obj 0x7401 2 i = s.obj 0x7401 2 i := by
  simp only [outboundSwaps, Eff.run_seq, Eff.run_look, imageSet_run_image]
  exact ⟨rfl, trivial, rfl, rfl⟩

theorem exec_outboundImageReadDone {s : State} {i n : Nat} {entries : Bytes} (his : s.imageIs i 1 = true)
    (hreading : (s.image i).reading = true) (hhalf : s.twinHalf = false) (hnew : (s.image i).lastStamp ≠ some n) :
    ∃ t, exec (.outboundImageReadDone i n entries n) s = .next t ∧ (t.image i).reading = false ∧ (t.image i).lastStamp = some n ∧
      t.n 0x7401 1 i = n ∧ t.obj 0x7401 2 i = (s.obj 0x7401 2 i + 1) % 4294967296 ∧
      t.buffers.outbound = s.buffers.outbound.writeBytes (65536 * i + 8) (slice entries 0 (s.n 0x7400 4 i - 16)) := by
  refine ⟨_, rfl, ?_⟩
  obtain ⟨hfree, hbuffers, hobj⟩ := outboundReads_run s i
  obtain ⟨hreading', hlast, hwritten, hobj'⟩ :=
    outboundSwaps_run i n (slice entries 0 (s.n 0x7400 4 i - 16)) ((outboundReads s i).run s)
  obtain ⟨hshown, hcount⟩ := imageNoted_run i n s.now
    ((outboundSwaps i n (slice entries 0 (s.n 0x7400 4 i - 16))).run ((outboundReads s i).run s))
  rw [Eff.run_seq, flush_image, flush_n, flush_obj, flush_buffers, outboundDone_run his hreading hhalf hnew,
    imageNoted_within.image_run _ rfl, imageNoted_within.buffers_run _ rfl]
  refine ⟨hreading'.trans hfree, hlast, hshown, ?_, ?_⟩
  · rw [hcount, hobj', hobj]
  · rw [hwritten, hbuffers]

/-! ## Host messages (R228) -/

theorem messageArrives_run {s : State} {ch : Nat} {m : Bytes} (hjoins : s.channelJoins ch (s.n 0x7410 3 ch) = true)
    (hlength : leAt m 2 2 + 16 = m.length) (hsize : leAt m 2 2 ≤ 4096) (hhalf : s.twinHalf = false) : (messageArrives ch m).run s =
      (Eff.seq nextSerial (.look fun s => .upd (.messages fun x => { x with
        received := x.received.set (65536 * ch + leAt m 4 2)
          ⟨leAt m 0 1, leAt m 1 1, m.drop 16, leAt m 8 8, s.messages.serial, s.now⟩ }))).run
        ((count (commonsItem 38)).run ((bumpObj 0x7411 1 ch).run s)) := by
  have hshort : (decide (m.length < 16) || leAt m 2 2 + 16 != m.length || decide (4096 < leAt m 2 2)) = false := by
    simp [hlength, Nat.not_lt_of_le hsize]
    omega
  simp only [messageArrives, Eff.run_look, hjoins, hshort, hhalf, Bool.not_true, Bool.not_false, Bool.false_and, Bool.false_eq_true,
    if_false, Eff.run_all_cons, Eff.run_all_nil, Eff.run_when_true]

theorem bumpObj_run_u64 {idx sub : Nat} {c : Cell} (hcell : cellOf idx sub = some c) (hty : c.ty = .u64) (row : Nat) (s : State) :
    ((bumpObj idx sub row).run s).obj idx sub row = (s.obj idx sub row + 1) % 18446744073709551616 := by
  rw [State.obj, bumpObj_run_key, if_pos rfl, hcell]
  simp [hty, Ty.maxVal]

theorem exec_hostMessageReceived {s : State} {ch : Nat} {m : Bytes} (hoperating : s.operating = true)
    (hjoins : s.channelJoins ch (s.n 0x7410 3 ch) = true) (hlength : leAt m 2 2 + 16 = m.length) (hsize : leAt m 2 2 ≤ 4096)
    (hhalf : s.twinHalf = false) :
    ∃ t, exec (.hostMessageReceived ch m) s = .next t ∧
      ((t.messages.received.get? (65536 * ch + leAt m 4 2)).map fun x => (x.kind, x.body)) = some (leAt m 0 1, m.drop 16) ∧
      t.obj 0x7411 1 ch = (s.obj 0x7411 1 ch + 1) % 18446744073709551616 ∧
      t.counter (commonsItem 38) = (s.counter (commonsItem 38) + 1) % 18446744073709551616 := by
  refine ⟨_, rfl, ?_⟩
  rw [Eff.run_seq, flush_messages, flush_obj, flush_counter _ _ (by decide), operating, Eff.run_whenS, if_pos hoperating,
    messageArrives_run hjoins hlength hsize hhalf, Eff.run_seq, Eff.run_look, Eff.run_upd]
  refine ⟨?_, ?_, ?_⟩
  · refine (congrArg (Option.map _) (PMap.get_set_same _ _ _)).trans ?_
    rfl
  · exact bumpObj_run_u64 (c := cell .u64) rfl rfl ch s
  · exact count_run_same (commonsItem 38) ((bumpObj 0x7411 1 ch).run s)

/-- Settles O43, from what an image's writes and reads send, and from what their ends and a message leave. -/
theorem hostImagesAndMessages : Obligations.HostImagesAndMessages := by
  unfold Obligations.HostImagesAndMessages
  refine ⟨?_, ?_, ?_, ?_, ?_, ?_, ?_⟩
  · intro s i hoperating his hfree hreach hpayload hpage
    exact exec_inboundImageSnapshot hoperating his hfree hreach hpayload hpage
  · intro s i n h
    exact exec_inboundImageWriteDone h
  · intro s i n h hmay hpayload hpage
    exact exec_inboundImageWriteDone_out h hmay hpayload hpage
  · intro s i hoperating his hpoint hfree hreach
    exact exec_outboundImageRead hoperating his hpoint hfree hreach
  · intro s i hoperating his hpoint hfree hreach hnone hsize hpage
    exact exec_outboundImageRead_out hoperating his hpoint hfree hreach hnone hsize hpage
  · intro s i n entries his hreading hhalf hnew
    exact exec_outboundImageReadDone his hreading hhalf hnew
  · intro s ch m hoperating _ hjoins _ hlength hsize hhalf
    exact exec_hostMessageReceived hoperating hjoins hlength hsize hhalf

end Sys2Proof.Machine

/-! # The functions of a running task: PROTECT, CHECK and TRANSACT (R216 to R220) -/

namespace Sys2Proof.Machine

/-! ## The engine and its run -/

theorem engineSet_run_engine (e : Nat) (f : Engine → Engine) (s : State) : ((engineSet e f).run s).engine e = f (s.engine e) :=
  PMap.getD_set_same _ _ _ _

/-- The running task is marked as having run its function. -/
def taskRan (e : Nat) : Eff := engineSet e fun x => { x with run := x.run.map fun r => { r with ran := true } }

theorem runFunction_run {s : State} {e fn : Nat} {r : TaskRun} (hgrove : s.groveOn (e / 16) = true) (hrun : (s.engine e).run = some r)
    (hran : r.ran = false) (hfn : s.taskCell e r.mode r.task 2 = fn) : (runFunction e (some fn)).run s =
      (functionOf fn e r (s.taskRows e r.mode r.task)).run ((taskRan e).run s) := by
  simp only [runFunction, Eff.run_look, hrun, hgrove, hran, hfn, beq_self_eq_true, Bool.not_false, Bool.or_true, Bool.and_self,
    Eff.run_when_true, Eff.run_seq, taskRan]

theorem taskRan_run_run {s : State} {e : Nat} {r : TaskRun} (hrun : (s.engine e).run = some r) :
    (((taskRan e).run s).engine e).run = some { r with ran := true } := by
  rw [taskRan, engineSet_run_engine, hrun]
  rfl

theorem stage_run_run {s : State} {e : Nat} {r : TaskRun} (hrun : (s.engine e).run = some r) (w : TaskWrite) :
    (((stage e w).run s).engine e).run = some { r with writes := r.writes ++ [w] } := by
  rw [stage, engineSet_run_engine, hrun]
  rfl

theorem flush_engine (s : State) (e : Nat) : (flushEvents.run s).engine e = s.engine e := by
  rw [State.engine, flush_messages, State.engine]

theorem drop_one_staged (l : List TaskWrite) (w : TaskWrite) : (l ++ [w]).drop l.length = [w] := List.drop_left

/-! ## PROTECT (R217) -/

/-- The counter of a PROTECT row is kept. -/
def protectsSet (key c : Nat) : Eff := .upd (.messages fun m => { m with protects := m.protects.set key c })

theorem protectRow_run {s : State} {e row : Nat} {x : SourceValue} {b : Bytes} (hfresh : x.fresh = true)
    (hfits : (s.protectionRow (e / 16) row).fits = true)
    (hpdu : readPdu x (startIn (s.protectionRow (e / 16) row).source) (s.protectionRow (e / 16) row).length = some b) :
    let c := (s.messages.protects.getD (1024 * (e / 16) + row) 0 + 1) % 16
    (protectRow e row x).run s =
      (stage e (pduWrite (s.protectionRow (e / 16) row).destination 1 x.age 0xFF x.cycle ((s.protectionRow (e / 16) row).protect c b)
        x.base)).run ((protectsSet (1024 * (e / 16) + row) c).run s) := by
  simp only [protectRow, Eff.run_look, hfresh, hfits, hpdu, Bool.not_true, Bool.or_self, Bool.false_eq_true, if_false, Eff.run_seq, protectsSet]

theorem exec_protect {s : State} {e row : Nat} {r : TaskRun} {x : SourceValue} {b : Bytes} (hgrove : s.groveOn (e / 16) = true)
    (hrun : (s.engine e).run = some r) (hran : r.ran = false) (hfn : s.taskCell e r.mode r.task 2 = 3)
    (hrows : s.taskRows e r.mode r.task = [row]) (hsources : r.sources = [x]) (hfresh : x.fresh = true)
    (hfits : (s.protectionRow (e / 16) row).fits = true)
    (hpdu : readPdu x (startIn (s.protectionRow (e / 16) row).source) (s.protectionRow (e / 16) row).length = some b) :
    ∃ t, exec (.protect e) s = .next t ∧ (((t.engine e).run.map fun y => (y.writes.drop r.writes.length).map fun w =>
        (w.endpoint, w.whole, w.value.bytes)) = some [((s.protectionRow (e / 16) row).destination, true,
          (s.protectionRow (e / 16) row).protect ((s.messages.protects.getD (1024 * (e / 16) + row) 0 + 1) % 16) b)]) ∧
      t.messages.protects.get? (1024 * (e / 16) + row) = some ((s.messages.protects.getD (1024 * (e / 16) + row) 0 + 1) % 16) := by
  refine ⟨_, rfl, ?_⟩
  have hrow := protectRow_run (s := (taskRan e).run s) (e := e) (row := row) hfresh hfits hpdu
  have hstaged := stage_run_run (s := (protectsSet (1024 * (e / 16) + row)
    ((s.messages.protects.getD (1024 * (e / 16) + row) 0 + 1) % 16)).run ((taskRan e).run s)) (taskRan_run_run hrun)
    (pduWrite (s.protectionRow (e / 16) row).destination 1 x.age 0xFF x.cycle ((s.protectionRow (e / 16) row).protect
      ((s.messages.protects.getD (1024 * (e / 16) + row) 0 + 1) % 16) b) x.base)
  rw [Eff.run_seq, flush_engine, flush_messages, runFunction_run hgrove hrun hran hfn, hrows, functionOf, runProtect, hsources]
  simp only [List.zip_cons_cons, List.zip_nil_left, Eff.run_forEach_cons, Eff.run_forEach_nil]
  rw [hrow]
  constructor
  · refine (congrArg (Option.map _) hstaged).trans ?_
    rw [Option.map_some, drop_one_staged]
    rfl
  · exact PMap.get_set_same _ _ _

/-! ## CHECK (R218) -/

/-- A PDU with a good CRC whose counter is the one after the last is accepted with verdict 0. -/
theorem next_of_successor {k : CheckContext} {r : ProtectionRow} {b : Bytes} (hcrc : beAt b r.crcOffset r.crcSize = r.crc b)
    (hstarted : k.started = true) (hnext : (beAt b r.counterOffset 1 % 16 + 16 - k.lastCounter) % 16 = 1) :
    k.next r (some b) = (⟨true, beAt b r.counterOffset 1 % 16, 0, 0⟩, 0, some 0) := by
  have hverdict : goodVerdict k (beAt b r.counterOffset 1 % 16) r.maxDelta = 0 := by
    simp [goodVerdict, hstarted, hnext]
  simp [CheckContext.next, hcrc, hverdict, accepting]

/-- What an accepting run of CHECK counts, raises and shows. -/
def checkShown (g row before counter : Nat) : Eff :=
  .all [checkCounts (some 0) g row, checkEvents before 0 (g + 256 * row), setN (groveIdx 0x7218 g) 1 0 row,
    setN (groveIdx 0x7218 g) 2 counter row]

/-- The context of a CHECK row is kept. -/
def checksSet (key : Nat) (k : CheckContext) : Eff := .upd (.messages fun m => { m with checks := m.checks.set key k })

theorem checkRow_run {s : State} {e row : Nat} {x : SourceValue} {b : Bytes} (hfresh : x.fresh = true)
    (hfits : (s.protectionRow (e / 16) row).fits = true)
    (hpdu : readPdu x (startIn (s.protectionRow (e / 16) row).source) (s.protectionRow (e / 16) row).length = some b)
    {k' : CheckContext} (hnext : (s.messages.checks.getD (1024 * (e / 16) + row) CheckContext.init).next (s.protectionRow (e / 16) row)
      (some b) = (k', 0, some 0)) : (checkRow e row x).run s =
      (stage e (pduWrite (s.protectionRow (e / 16) row).destination 1 0 0 x.cycle b x.base)).run
        ((checkShown (e / 16) row (s.messages.checks.getD (1024 * (e / 16) + row) CheckContext.init).verdict k'.lastCounter).run
          ((checksSet (1024 * (e / 16) + row) k').run s)) := by
  simp only [checkRow, Eff.run_look, hfresh, hfits, hpdu, hnext, checkShown, checksSet, Bool.and_self, if_true, Option.isNone_some,
    Bool.and_false, Eff.run_when_false, Eff.run_all_cons, Eff.run_all_nil, decide_true, Bool.true_or]

theorem checkEvents_run_accepted (before arg : Nat) (s : State) : (checkEvents before 0 arg).run s =
    (Eff.when (before == 6) (raise 706 arg)).run s := by
  simp [checkEvents, accepting]

theorem checkShown_run (g row before counter : Nat) (s : State) : let t := (checkShown g row before counter).run s
    t.messages = s.messages ∧ t.n (groveIdx 0x7218 g) 1 row = 0 ∧ t.n (groveIdx 0x7218 g) 2 row = counter ∧
      t.counter (commonsItem 41) = (s.counter (commonsItem 41) + 1) % 18446744073709551616 := by
  simp only [checkShown, checkCounts, accepting, Eff.run_all_cons, Eff.run_all_nil, Eff.run_seq, checkEvents_run_accepted, Eff.run_when]
  split
  · refine ⟨rfl, ?_, setN_run_n _ _ _ _ _, ?_⟩
    · simp only [setN, setObj, Eff.run_upd, State.n, State.obj, key_obj]
      simp
    · change ((raise 706 (g + 256 * row)).run ((bumpObj (groveIdx 0x7218 g) 3 row).run ((count (commonsItem 41)).run s))).counter _ = _
      rw [raise_run_counter _ _ (by decide)]
      exact count_run_same _ _
  · refine ⟨rfl, ?_, setN_run_n _ _ _ _ _, ?_⟩
    · simp only [setN, setObj, Eff.run_upd, State.n, State.obj, key_obj]
      simp
    · exact count_run_same (commonsItem 41) s

theorem groveIdx_of_lt {base e : Nat} (h : e < 128) : groveIdx base (e / 16) = base + e / 16 := by
  rw [groveIdx, Nat.mod_eq_of_lt (by omega)]

theorem exec_check {s : State} {e row : Nat} {r : TaskRun} {x : SourceValue} {b : Bytes} (he : e < 128)
    (hgrove : s.groveOn (e / 16) = true) (hrun : (s.engine e).run = some r) (hran : r.ran = false)
    (hfn : s.taskCell e r.mode r.task 2 = 4) (hrows : s.taskRows e r.mode r.task = [row]) (hsources : r.sources = [x])
    (hfresh : x.fresh = true) (hfits : (s.protectionRow (e / 16) row).fits = true)
    (hpdu : readPdu x (startIn (s.protectionRow (e / 16) row).source) (s.protectionRow (e / 16) row).length = some b)
    (hcrc : beAt b (s.protectionRow (e / 16) row).crcOffset (s.protectionRow (e / 16) row).crcSize = (s.protectionRow (e / 16) row).crc b)
    (hstarted : (s.messages.checks.getD (1024 * (e / 16) + row) CheckContext.init).started = true)
    (hnext : (beAt b (s.protectionRow (e / 16) row).counterOffset 1 % 16 + 16 -
      (s.messages.checks.getD (1024 * (e / 16) + row) CheckContext.init).lastCounter) % 16 = 1) :
    ∃ t, exec (.check e) s = .next t ∧ (((t.engine e).run.map fun y => (y.writes.drop r.writes.length).map fun w =>
        (w.endpoint, w.value.verdict, w.value.bytes)) = some [((s.protectionRow (e / 16) row).destination, 0, b)]) ∧
      t.n (0x7218 + e / 16) 1 row = 0 ∧
      t.n (0x7218 + e / 16) 2 row = beAt b (s.protectionRow (e / 16) row).counterOffset 1 % 16 ∧
      t.counter (commonsItem 41) = (s.counter (commonsItem 41) + 1) % 18446744073709551616 := by
  refine ⟨_, rfl, ?_⟩
  have hrow := checkRow_run (s := (taskRan e).run s) (e := e) (row := row) hfresh hfits hpdu (next_of_successor hcrc hstarted hnext)
  generalize hu : (checksSet _ _).run ((taskRan e).run s) = u at hrow
  have hurun : (u.engine e).run = some { r with ran := true } := by
    rw [← hu]
    exact taskRan_run_run hrun
  have hucounter : u.counter (commonsItem 41) = s.counter (commonsItem 41) := by
    rw [← hu]
    rfl
  obtain ⟨hmessages, hverdict, hcounter, hcounted⟩ := checkShown_run (e / 16) row
    (s.messages.checks.getD (1024 * (e / 16) + row) CheckContext.init).verdict
    (beAt b (s.protectionRow (e / 16) row).counterOffset 1 % 16) u
  rw [groveIdx_of_lt he] at hverdict hcounter
  rw [Eff.run_seq, flush_engine, flush_n, flush_n, flush_counter _ _ (by decide), runFunction_run hgrove hrun hran hfn, hrows, functionOf,
    runCheck, hsources]
  simp only [List.zip_cons_cons, List.zip_nil_left, Eff.run_forEach_cons, Eff.run_forEach_nil]
  rw [hrow]
  refine ⟨?_, hverdict, hcounter, hcounted.trans (by rw [hucounter])⟩
  refine (congrArg (Option.map _) (stage_run_run (r := { r with ran := true }) ?_ _)).trans ?_
  · rw [State.engine]
    exact (congrArg (fun m => (m.engines.getD e Engine.init).run) hmessages).trans hurun
  · rw [Option.map_some, drop_one_staged]
    rfl

/-! ## TRANSACT (R220) -/

/-- The context of a transaction. -/
def State.transaction (s : State) (g row : Nat) : Transaction := s.messages.transactions.getD (1024 * g + row) Transaction.init

theorem setTransaction_run (g row : Nat) (t : Transaction) (s : State) : let u := (setTransaction g row t).run s
    u.transaction g row = t ∧ u.messages.engines = s.messages.engines := by
  simp only [setTransaction, Eff.run_all_cons, Eff.run_all_nil]
  exact ⟨PMap.getD_set_same _ _ _ _, rfl⟩

theorem engine_congr {s t : State} (h : t.messages.engines = s.messages.engines) (e : Nat) : t.engine e = s.engine e := by
  rw [State.engine, h, State.engine]

theorem setTransaction_run_counter (g row : Nat) (t : Transaction) (s : State) (i : Nat) :
    ((setTransaction g row t).run s).counter i = s.counter i := rfl

/-- The request that a row sends under an identifier. -/
def State.requestOf (s : State) (g row ident : Nat) (x : SourceValue) : Bytes :=
  overwrite (pduAt (s.n (0x7230 + g) 1 row) x) (s.n (0x7230 + g) 5 row) (beBytes (s.n (0x7230 + g) 6 row) ident)

/-- The identifier after the last. -/
def State.nextIdent (s : State) (g row : Nat) : Nat := ((s.transaction g row).ident + 1) % 256 ^ s.n (0x7230 + g) 6 row

theorem transactRow_run_request {s : State} {e row startedAt : Nat} {x y : SourceValue} (hfresh : x.fresh = true)
    (hidle : (s.transaction (e / 16) row).waiting = false) : (transactRow e row startedAt x y).run s =
      (sendRequest e (e / 16) row ⟨true, s.nextIdent (e / 16) row, 0, 0, s.requestOf (e / 16) row (s.nextIdent (e / 16) row) x⟩).run
        ((count (commonsItem 47)).run s) := by
  rw [State.transaction] at hidle
  simp only [transactRow, Eff.run_look, hfresh, hidle, Bool.false_and, Eff.run_all_cons, Eff.run_all_nil, Eff.run_when_false,
    Eff.run_when_true, requestFresh, Bool.false_eq_true, if_false, Eff.run_seq]
  rfl

theorem sendRequest_run {s : State} {e g row : Nat} {r : TaskRun} (hrun : (s.engine e).run = some r) (t : Transaction) :
    let u := (sendRequest e g row t).run s
    u.transaction g row = t ∧ (∀ i, u.counter i = s.counter i) ∧ (u.engine e).run = some { r with
      writes := r.writes ++ [pduWrite (s.n (0x7230 + g) 2 row) 1 0 0xFF (s.cycle % 4294967296) t.request 0xFFFF]
      armed := (1024 * g + row) :: r.armed } := by
  simp only [sendRequest, Eff.run_look, Eff.run_all_cons, Eff.run_all_nil]
  obtain ⟨hset, hengines⟩ := setTransaction_run g row t ((engineSet e fun x =>
    { x with run := x.run.map fun r => { r with armed := (1024 * g + row) :: r.armed } }).run
      ((stage e (pduWrite (s.n (0x7230 + g) 2 row) 1 0 0xFF (s.cycle % 4294967296) t.request 0xFFFF)).run s))
  refine ⟨hset, fun i => rfl, ?_⟩
  rw [engine_congr hengines, engineSet_run_engine, stage_run_run hrun]
  rfl

theorem exec_transact_request {s : State} {e row : Nat} {r : TaskRun} {x y : SourceValue}
    (hgrove : s.groveOn (e / 16) = true) (hrun : (s.engine e).run = some r) (hran : r.ran = false)
    (hfn : s.taskCell e r.mode r.task 2 = 6) (hrows : s.taskRows e r.mode r.task = [row]) (hsources : r.sources = [x, y])
    (hfresh : x.fresh = true) (hidle : (s.transaction (e / 16) row).waiting = false) :
    ∃ t, exec (.transact e) s = .next t ∧ (t.transaction (e / 16) row).waiting = true ∧
      (t.transaction (e / 16) row).ident = s.nextIdent (e / 16) row ∧
      (((t.engine e).run.map fun q => ((q.writes.drop r.writes.length).map fun w => (w.endpoint, w.value.bytes), q.armed)) =
        some ([(s.n (0x7230 + e / 16) 2 row, s.requestOf (e / 16) row (s.nextIdent (e / 16) row) x)],
          (1024 * (e / 16) + row) :: r.armed)) ∧
      t.counter (commonsItem 47) = (s.counter (commonsItem 47) + 1) % 18446744073709551616 := by
  refine ⟨_, rfl, ?_⟩
  have hflush (t : State) : (flushEvents.run t).transaction (e / 16) row = t.transaction (e / 16) row := by
    rw [State.transaction, flush_messages, State.transaction]
  have hrow := transactRow_run_request (s := (taskRan e).run s) (e := e) (row := row) (startedAt := r.startedAt) (y := y) hfresh hidle
  obtain ⟨hset, hcounters, hstaged⟩ := sendRequest_run (s := (count (commonsItem 47)).run ((taskRan e).run s)) (e := e) (g := e / 16)
    (row := row) (taskRan_run_run hrun)
    ⟨true, s.nextIdent (e / 16) row, 0, 0, s.requestOf (e / 16) row (s.nextIdent (e / 16) row) x⟩
  rw [Eff.run_seq, hflush, flush_engine, flush_counter _ _ (by decide), runFunction_run hgrove hrun hran hfn, hrows, functionOf,
    runTransact, hsources]
  simp only [pairUp, Eff.run_forEach_cons, Eff.run_forEach_nil]
  rw [hrow]
  refine ⟨congrArg Transaction.waiting hset, congrArg Transaction.ident hset, ?_, ?_⟩
  · refine (congrArg (Option.map _) hstaged).trans ?_
    rw [Option.map_some, drop_one_staged]
    rfl
  · exact (hcounters _).trans (count_run_same _ _)

/-- The response of a waiting transaction is taken. -/
def responseTaken (e row : Nat) (s : State) (y : SourceValue) : Eff :=
  .all [stage e (pduWrite (s.n (0x7230 + e / 16) 4 row) 1 y.age 0x20 y.cycle (pduAt (s.n (0x7230 + e / 16) 3 row) y) y.base),
    count (commonsItem 48), bumpObj (groveIdx 0x7238 (e / 16)) 4 row,
    setTransaction (e / 16) row { s.transaction (e / 16) row with waiting := false }]

theorem transactRow_run_response {s : State} {e row startedAt : Nat} {x y : SourceValue} (hstale : x.fresh = false)
    (hfresh : y.fresh = true) (hwaiting : (s.transaction (e / 16) row).waiting = true)
    (hident : s.transactionId (e / 16) row (pduAt (s.n (0x7230 + e / 16) 3 row) y) = (s.transaction (e / 16) row).ident)
    (hintime : y.arrived ≤ (s.transaction (e / 16) row).deadline) :
    (transactRow e row startedAt x y).run s = (responseTaken e row s y).run s := by
  rw [State.transaction] at hwaiting hident hintime
  simp only [transactRow, responseTaken, Eff.run_look, hstale, hfresh, hwaiting, hident, hintime, State.transaction, beq_self_eq_true,
    decide_true, Bool.not_true, Bool.and_self, Bool.and_false, Bool.false_and, Eff.run_all_cons, Eff.run_all_nil, Eff.run_when_false,
    Eff.run_when_true]

theorem exec_transact_response {s : State} {e row : Nat} {r : TaskRun} {x y : SourceValue}
    (hgrove : s.groveOn (e / 16) = true) (hrun : (s.engine e).run = some r) (hran : r.ran = false)
    (hfn : s.taskCell e r.mode r.task 2 = 6) (hrows : s.taskRows e r.mode r.task = [row]) (hsources : r.sources = [x, y])
    (hstale : x.fresh = false) (hfresh : y.fresh = true) (hwaiting : (s.transaction (e / 16) row).waiting = true)
    (hident : s.transactionId (e / 16) row (pduAt (s.n (0x7230 + e / 16) 3 row) y) = (s.transaction (e / 16) row).ident)
    (hintime : y.arrived ≤ (s.transaction (e / 16) row).deadline) :
    ∃ t, exec (.transact e) s = .next t ∧ (t.transaction (e / 16) row).waiting = false ∧
      (((t.engine e).run.map fun q => (q.writes.drop r.writes.length).map fun w => (w.endpoint, w.value.verdict, w.value.bytes)) =
        some [(s.n (0x7230 + e / 16) 4 row, 0x20, pduAt (s.n (0x7230 + e / 16) 3 row) y)]) ∧
      t.counter (commonsItem 48) = (s.counter (commonsItem 48) + 1) % 18446744073709551616 := by
  refine ⟨_, rfl, ?_⟩
  have hflush (t : State) : (flushEvents.run t).transaction (e / 16) row = t.transaction (e / 16) row := by
    rw [State.transaction, flush_messages, State.transaction]
  have hrow := transactRow_run_response (s := (taskRan e).run s) (e := e) (row := row) (startedAt := r.startedAt) hstale hfresh hwaiting
    hident hintime
  rw [Eff.run_seq, hflush, flush_engine, flush_counter _ _ (by decide), runFunction_run hgrove hrun hran hfn, hrows, functionOf,
    runTransact, hsources]
  simp only [pairUp, Eff.run_forEach_cons, Eff.run_forEach_nil]
  rw [hrow]
  simp only [responseTaken, Eff.run_all_cons, Eff.run_all_nil]
  obtain ⟨hset, hengines⟩ := setTransaction_run (e / 16) row { s.transaction (e / 16) row with waiting := false }
    ((bumpObj (groveIdx 0x7238 (e / 16)) 4 row).run ((count (commonsItem 48)).run ((stage e (pduWrite (s.n (0x7230 + e / 16) 4 row) 1
      y.age 0x20 y.cycle (pduAt (s.n (0x7230 + e / 16) 3 row) y) y.base)).run ((taskRan e).run s))))
  refine ⟨congrArg Transaction.waiting hset, ?_, ?_⟩
  · refine (congrArg (fun q : Engine => Option.map _ q.run) (engine_congr hengines e)).trans ?_
    refine (congrArg (Option.map _) (stage_run_run (taskRan_run_run hrun) _)).trans ?_
    rw [Option.map_some, drop_one_staged]
    rfl
  · exact count_run_same (commonsItem 48) _

/-- Settles O37, from what one row of PROTECT, CHECK and TRANSACT stages and keeps. -/
theorem protectionAndTransactions : Obligations.ProtectionAndTransactions := by
  unfold Obligations.ProtectionAndTransactions
  refine ⟨?_, ?_, ?_, ?_⟩
  · intro s e r row x b _ _ hgrove hrun hran hfn hrows hsources hfresh hfits hpdu
    exact exec_protect hgrove hrun hran hfn hrows hsources hfresh hfits hpdu
  · intro s e r row x b he _ hgrove hrun hran hfn hrows hsources hfresh hfits hpdu hcrc hstarted hnext
    exact exec_check he hgrove hrun hran hfn hrows hsources hfresh hfits hpdu hcrc hstarted hnext
  · intro s e r row x y _ _ hgrove hrun hran hfn hrows hsources hfresh hidle
    exact exec_transact_request hgrove hrun hran hfn hrows hsources hfresh hidle
  · intro s e r row x y _ _ hgrove hrun hran hfn hrows hsources hstale hfresh hwaiting hident hintime
    exact exec_transact_response hgrove hrun hran hfn hrows hsources hstale hfresh hwaiting hident hintime

end Sys2Proof.Machine

/-! # Host frames on their way to a port (R163, R167, R184, R249) -/

namespace Sys2Proof.Machine

/-! ## A transmit ring -/

theorem ringSet_run_hostRing (r : Nat) (f : HostRing → HostRing) (s : State) :
    ((ringSet true r f).run s).hostRing true r = (f (s.hostRing true r)).norm := by
  rw [ringSet, Eff.run_upd]
  exact PMap.getD_set_same _ _ _ _

theorem Eff.Within.txRing_run {m : Mask} {e : Eff} (he : e.Within tables m) (s : State)
    (h : m.parts.testBit Part.txRings.bit = false) (r : Nat) : (e.run s).hostRing true r = s.hostRing true r := by
  rw [State.hostRing, if_pos rfl, he.tx_run s h, State.hostRing, if_pos rfl]

theorem flush_hostRing (s : State) (r : Nat) : (flushEvents.run s).hostRing true r = s.hostRing true r :=
  flush_within.txRing_run s rfl r

/-- The ring no longer waits for room. -/
def handed (r : Nat) : Eff := ringSet true r fun x => { x with waitingRoom := false }

/-- The head frame of a ring that its rate limit lets go takes its path, outside a twin and apart from the message layer. -/
theorem handOver_run_route {s : State} {r : Nat} {f : TxFrame} (hhead : s.headFrame r = some f)
    (hstate : (s.hostRing true r).state = .enabled) (hrate : s.rateAllows r = true) (hhalf : s.twinHalf = false)
    (hown : s.n 0x8200 1 r ≠ 0xFFFD) :
    (handOver r).run s = (routeFrame r f).run ((handed r).run s) := by
  simp only [handOver, Eff.run_look, hhead, hstate, hrate, hhalf, hown, bne_self_eq_false, Bool.not_true, Bool.or_self, Bool.false_and,
    Bool.false_eq_true, if_false, Eff.run_seq, handed]

/-- A launch time beyond the horizon. -/
def State.launchesLate (s : State) (f : TxFrame) : Bool := (s.frameLaunch f).any fun l => decide (s.now + nsUnits (s.n 0x8010 1) < l)

theorem not_launchesLate {s : State} {f : TxFrame}
    (h : ((s.frameLaunch f).all fun l => decide (l ≤ s.now + nsUnits (s.n 0x8010 1))) = true) : s.launchesLate f = false := by
  rw [State.launchesLate]
  cases hl : s.frameLaunch f with
  | none => rfl
  | some l =>
    rw [hl, Option.all_some] at h
    rw [Option.any_some]
    exact decide_eq_false (Nat.not_lt_of_le (of_decide_eq_true h))

theorem lookup_run_missed {s : State} {port : Option Nat} {d : Bytes} {x : Parsed} (h : s.identRows port d x = []) (found : Nat → Eff)
    (missed : Eff) : (lookup port d x found missed).run s = (Eff.seq (count (commonsItem 0)) missed).run s := by
  have hcounted : ((count (commonsItem 0)).run s).identRows port d x = [] := h
  rw [lookup, Eff.run_seq, Eff.run_look, hcounted, Eff.run_seq]

/-- The ports that a ring's frame of no stream leaves by. -/
def State.homePorts (s : State) (r : Nat) : List Nat := if s.n 0x8200 1 r = 0xFFFF then [] else [s.n 0x8200 1 r]

theorem homePorts_of_lt {s : State} {r p : Nat} (hown : s.n 0x8200 1 r = p) (hp : p < 256) : s.homePorts r = [p] := by
  rw [State.homePorts, hown, if_neg (by omega)]

/-- A frame of no stream in time: it waits without room, is dropped without a port, or goes to its port's queue. -/
def routeHome (s : State) (r : Nat) (f : TxFrame) : Eff :=
  if !s.roomFor r f.ident none (s.homePorts r) f.data then ringSet true r fun x => { x with waitingRoom := true }
  else .seq (count (commonsItem 0)) (if (s.homePorts r).isEmpty then
      policyDrop r f.ident (frameLen f.data) (s.chargePort r (s.homePorts r))
    else queueFrame r f none (s.frameLaunch f) (s.homePorts r) f.data)

theorem routeFrame_run_home {s : State} {r : Nat} {f : TxFrame} (hrows : s.identRows none f.data (parseFrame f.data) = [])
    (hlate : s.launchesLate f = false) : (routeFrame r f).run s = (routeHome s r f).run s := by
  have hhome : (if s.n 0x8200 1 r = 0xFFFF then [] else [s.n 0x8200 1 r]) = s.homePorts r := rfl
  rw [State.launchesLate] at hlate
  rw [routeFrame, Eff.run_look, routeHome]
  cases hl : s.frameLaunch f with
  | none =>
    simp only [hrows, hhome, List.head?_nil, Option.map_none, Eff.run_ite, lookup_run_missed hrows, Option.isSome_none,
      Bool.false_and, Eff.run_seq, Eff.run_when_false, Bool.not_false, Bool.true_and, Bool.or_false]
  | some l =>
    rw [hl, Option.any_some] at hlate
    simp only [hrows, hhome, List.head?_nil, Option.map_none, Eff.run_ite, lookup_run_missed hrows, Option.isSome_none,
      Bool.false_and, Eff.run_seq, Eff.run_when_false, hlate, Bool.not_false, Bool.true_and, Bool.or_false]

/-- A frame of no stream on a ring that is bound to no port is dropped, whatever its launch time. -/
theorem routeFrame_run_drops {s : State} {r : Nat} {f : TxFrame} (hown : s.n 0x8200 1 r = 0xFFFF)
    (hrows : s.identRows none f.data (parseFrame f.data) = []) : (routeFrame r f).run s =
      (policyDrop r f.ident (frameLen f.data) (s.chargePort r [])).run ((count (commonsItem 0)).run s) := by
  have hroom : s.roomFor r f.ident none [] f.data = true := rfl
  have hhome : (if s.n 0x8200 1 r = 0xFFFF then [] else [s.n 0x8200 1 r]) = [] := if_pos hown
  rw [routeFrame, Eff.run_look]
  simp only [hrows, hhome, hroom, List.head?_nil, Option.map_none, Bool.not_true, Bool.and_false, Bool.false_eq_true, if_false,
    List.isEmpty_nil, Bool.true_or, if_true, Option.isSome_none, Bool.false_and, lookup_run_missed hrows, Eff.run_seq, Eff.run_when_false]

/-! ## The frame joins its queue -/

/-- What stands in the queues, and what the MACs do. -/
def Traffic.lines (t : Traffic) : PMap (List QueuedFrame) × PMap Mac := (t.queues, t.macs)

theorem chargeRing_run_lines (r port len : Nat) (o : Int) (s : State) :
    ((chargeRing r port len o).run s).traffic.lines = s.traffic.lines := by
  have hsettle (c : Int) (s : State) : ((settleCredit r c).run s).traffic.lines = s.traffic.lines := by
    rw [settleCredit, Eff.run_look]
    split <;> rfl
  rw [chargeRing, Eff.run_whenS]
  split
  · rw [Eff.run_seq, Eff.run_whenS]
    split
    · exact hsettle _ s
    · exact hsettle _ s
  · rfl

/-- A busy MAC stays busy where neither it nor what pre-empts its frame changes. -/
theorem Eff.Within.macBusy_run {m : Mask} {e : Eff} (he : e.Within tables m) {s : State} {p : Nat} (hbusy : s.macBusy p)
    (hmacs : (e.run s).traffic.macs = s.traffic.macs) (h1 : freeObj tables m (objClass 0x6001) 1 = true)
    (h2 : freeObj tables m (objClass 0x6000) 4 = true) : (e.run s).macBusy p :=
  State.sameMac.busy ⟨hmacs, State.preemptable_of (he.keeps_at s h1) (he.keeps_at s h2)⟩ hbusy

theorem Eff.Within.tooLong_run {m : Mask} {e : Eff} (he : e.Within tables m) (s : State) (p : Nat) (d : Bytes)
    (h1 : freeObj tables m 0x5000 5 = true) (h2 : freeClass tables m (objClass 0xA020) = true) :
    (e.run s).tooLong p d = s.tooLong p d := by
  have hport : (e.run s).port p 0 5 = s.port p 0 5 := congrArg Int.toNat (he.keeps_port s h1)
  have hsec (sub : Nat) : (e.run s).on 0xA020 sub p = s.on 0xA020 sub p := he.on_run s (freeObj_of_freeClass h2 sub)
  rw [State.tooLong, State.macsecBytes, hport, hsec, hsec, State.tooLong, State.macsecBytes]

theorem queueCopy_run_busy {s : State} {r ident : Nat} {h launch : Option Nat} {d : Bytes} {p : Nat} (hp : p < 256)
    (hlength : s.tooLong p d = false) (hbusy : s.macBusy p) : (queueCopy r ident h launch d p).run s =
      (joinQueue p (s.copyClass r h p d) (s.hostFrame r ident h launch d)).run s := by
  have hmod : p % 256 = p := Nat.mod_eq_of_lt hp
  have hbusy' (c : Nat) (f : QueuedFrame) : ((joinQueue p c f).run s).macBusy p :=
    (joinQueue_within (Mask.Le.refl _)).macBusy_run hbusy joinQueue_traffic.2 (by decide +kernel) (by decide +kernel)
  simp only [queueCopy, Eff.run_look, hmod, Nat.not_le_of_lt hp, if_false, hlength, Bool.false_eq_true, Eff.run_seq, kick_run_busy (hbusy' _ _)]

theorem joinQueue_queuedBehind (s : State) (p c : Nat) (f : QueuedFrame) : s.queuedBehind ((joinQueue p c f).run s) p c f.data := by
  refine ⟨{ f with enqueued := s.now }, rfl, ?_⟩
  have hqueued : ((joinQueue p c f).run s).queued (classQueue p c) = s.queued (classQueue p c) ++ [{ f with enqueued := s.now }] := by
    rw [State.queued, joinQueue_traffic.1, PMap.getD_set_same]
  rw [hqueued]

theorem txFrameSet_run_waits (r ident : Nat) (g : TxFrame → TxFrame) (s : State) :
    (((txFrameSet r ident g).run s).hostRing true r).waitingRoom = (s.hostRing true r).waitingRoom := by
  rw [txFrameSet, ringSet_run_hostRing]
  rfl

/-- A frame leaves its ring, and the ring is charged for it: the lines stay as they are. -/
structure State.chargedFrom (s u : State) (r p : Nat) (d : Bytes) : Prop where
  queues : u.traffic.queues = s.traffic.queues
  busy : u.macBusy p
  length : u.tooLong p d = s.tooLong p d
  cls : u.n 0x8200 2 r = s.n 0x8200 2 r
  counter : u.counter (commonsItem 0) = s.counter (commonsItem 0)
  waits : (u.hostRing true r).waitingRoom = (s.hostRing true r).waitingRoom

theorem txFrameSet_chargedFrom {s : State} {p : Nat} (hbusy : s.macBusy p) (r ident : Nat) (change : TxFrame → TxFrame) (d : Bytes) :
    s.chargedFrom ((txFrameSet r ident change).run s) r p d := by
  have hset := txFrameSet_within (Mask.Le.refl _) (r := r) (ident := ident) (f := change)
  have htraffic := hset.traffic_run s rfl
  exact ⟨congrArg Traffic.queues htraffic,
    hset.macBusy_run hbusy (congrArg Traffic.macs htraffic) (by decide +kernel) (by decide +kernel),
    hset.tooLong_run s p d (by decide +kernel) (by decide +kernel), hset.n_run s (by decide +kernel),
    hset.keeps_ctr s rfl (by decide +kernel), txFrameSet_run_waits r ident change s⟩

theorem chargeRing_chargedFrom {s : State} {p : Nat} (hbusy : s.macBusy p) (r port len : Nat) (o : Int) (d : Bytes) :
    s.chargedFrom ((chargeRing r port len o).run s) r p d := by
  have hcharge := chargeRing_within (Mask.Le.refl _) (r := r) (port := port) (len := len) (o := o)
  have hlines := chargeRing_run_lines r port len o s
  exact ⟨congrArg Prod.fst hlines, hcharge.macBusy_run hbusy (congrArg Prod.snd hlines) (by decide +kernel) (by decide +kernel),
    hcharge.tooLong_run s p d (by decide +kernel) (by decide +kernel), hcharge.n_run s (by decide +kernel),
    hcharge.keeps_ctr s rfl (by decide +kernel), congrArg HostRing.waitingRoom (hcharge.txRing_run s rfl r)⟩

theorem State.chargedFrom.trans {s t u : State} {r p : Nat} {d : Bytes} (h : s.chargedFrom t r p d) (h' : t.chargedFrom u r p d) :
    s.chargedFrom u r p d :=
  ⟨h'.queues.trans h.queues, h'.busy, h'.length.trans h.length, h'.cls.trans h.cls, h'.counter.trans h.counter, h'.waits.trans h.waits⟩

/-- A frame for which its ring has been charged joins the queue of the port, which is busy. -/
theorem queueCopy_run_joins {s u : State} {r ident : Nat} {d : Bytes} {launch : Option Nat} {p : Nat} (h : s.chargedFrom u r p d)
    (hp : p < 256) (hlength : s.tooLong p d = false) :
    let t := (queueCopy r ident none launch d p).run u
    s.queuedBehind t p (s.n 0x8200 2 r) d ∧ t.counter (commonsItem 0) = s.counter (commonsItem 0) ∧
      (t.hostRing true r).waitingRoom = (s.hostRing true r).waitingRoom := by
  have hqueued (q : Nat) : u.queued q = s.queued q := congrArg (fun m => PMap.getD m q []) h.queues
  have hjoin := joinQueue_within (Mask.Le.refl _) (p := p) (c := u.n 0x8200 2 r) (f := u.hostFrame r ident none launch d)
  obtain ⟨g, hdata, hprefix⟩ := joinQueue_queuedBehind u p (u.n 0x8200 2 r) (u.hostFrame r ident none launch d)
  have hcounter := hjoin.keeps_ctr u (i := commonsItem 0) rfl (by decide +kernel)
  have hwaits := congrArg HostRing.waitingRoom (hjoin.txRing_run u rfl r)
  rw [queueCopy_run_busy hp (h.length.trans hlength) h.busy, State.copyClass]
  dsimp only
  generalize (joinQueue p (u.n 0x8200 2 r) (u.hostFrame r ident none launch d)).run u = t at *
  rw [hqueued, h.cls] at hprefix
  exact ⟨⟨g, hdata, hprefix⟩, hcounter.trans h.counter, hwaits.trans h.waits⟩

theorem queueFrame_run_joins {s : State} {r : Nat} {f : TxFrame} {launch : Option Nat} {p : Nat}
    (hp : p < 256) (hlength : s.tooLong p f.data = false) (hbusy : s.macBusy p) :
    let t := (queueFrame r f none launch [p] f.data).run s
    s.queuedBehind t p (s.n 0x8200 2 r) f.data ∧ t.counter (commonsItem 0) = s.counter (commonsItem 0) ∧
      (t.hostRing true r).waitingRoom = (s.hostRing true r).waitingRoom := by
  rw [queueFrame, Eff.run_look]
  simp only [Eff.run_all_cons, Eff.run_all_nil, Eff.run_forEach_cons, Eff.run_forEach_nil]
  exact queueCopy_run_joins ((txFrameSet_chargedFrom hbusy r _ _ _).trans
    (chargeRing_chargedFrom (txFrameSet_chargedFrom hbusy r _ _ f.data).busy r _ _ _ _)) hp hlength

/-! ## Handing over -/

theorem exec_hostFrameHandover_run {s : State} {r : Nat} (hoperating : s.operating = true) :
    exec (.hostFrameHandover r) s = .next (flushEvents.run ((handOver r).run s)) := by
  change Host.Outcome.next ((Eff.seq (operating (handOver r)) flushEvents).run s) = _
  rw [Eff.run_seq, operating, Eff.run_whenS, if_pos hoperating]

/-- Whether a frame of no stream has room depends on what stands in the queues. -/
theorem roomFor_congr {s t : State} (h : s.sameQueues t) {r ident p : Nat} {d : Bytes} (hnow : t.now = s.now)
    (hclass : t.n 0x8200 2 r = s.n 0x8200 2 r) (hlong : ∀ d, t.tooLong p d = s.tooLong p d) :
    t.roomFor r ident none [p] d = s.roomFor r ident none [p] d := by
  simp only [State.roomFor, State.hostMetered, State.rtagGrowth, Option.map_none, State.copyClass, State.hostFrame, h.queueRoom, h.memoryFor,
    hnow, hclass, List.all_cons, List.all_nil, hlong]

section
variable {s : State} {r : Nat} {f : TxFrame}

theorem handed_run_identRows (d : Bytes) (x : Parsed) : ((handed r).run s).identRows none d x = s.identRows none d x := rfl

theorem handed_run_launchesLate : ((handed r).run s).launchesLate f = s.launchesLate f := rfl

theorem handed_run_waits : (((handed r).run s).hostRing true r).waitingRoom = false := by
  rw [handed, ringSet_run_hostRing]
  rfl

theorem handed_within : Eff.Within tables ⟨0x18000, 0, 0⟩ (handed r) := ringSet_within (Mask.Le.refl _)

end

theorem handed_run_roomFor (s : State) (r ident p : Nat) (d : Bytes) :
    ((handed r).run s).roomFor r ident none [p] d = s.roomFor r ident none [p] d := by
  have hwithin := handed_within (r := r)
  exact roomFor_congr (hwithin.sameQueues s (by decide) (by decide +kernel)) (congrArg Clock.units (hwithin.clock_run rfl s))
    (hwithin.n_run s (by decide +kernel)) fun d => hwithin.tooLong_run s p d (by decide +kernel) (by decide +kernel)

theorem handOver_run_joins {s : State} {r : Nat} {f : TxFrame} {p : Nat} (hhead : s.headFrame r = some f)
    (hstate : (s.hostRing true r).state = .enabled) (hrate : s.rateAllows r = true) (hhalf : s.twinHalf = false)
    (hown : s.n 0x8200 1 r = p) (hp : p < 256) (hrows : s.identRows none f.data (parseFrame f.data) = [])
    (hlaunch : ((s.frameLaunch f).all fun l => decide (l ≤ s.now + nsUnits (s.n 0x8010 1))) = true)
    (hlength : s.tooLong p f.data = false) (hroom : s.roomFor r f.ident none [p] f.data = true) (hbusy : s.macBusy p) :
    let t := (handOver r).run s
    s.queuedBehind t p (s.n 0x8200 2 r) f.data ∧
      t.counter (commonsItem 0) = (s.counter (commonsItem 0) + 1) % 18446744073709551616 ∧ (t.hostRing true r).waitingRoom = false := by
  intro t
  have ht : t = _ := handOver_run_route hhead hstate hrate hhalf (by omega)
  clear_value t
  subst ht
  have hwithin := handed_within (r := r)
  have hown' := (hwithin.n_run s (idx := 0x8200) (sub := 1) (row := r) (by decide +kernel)).trans hown
  have hcls := hwithin.n_run s (idx := 0x8200) (sub := 2) (row := r) (by decide +kernel)
  have hroute := routeFrame_run_home (s := (handed r).run s) (r := r) (f := f) ((handed_run_identRows _ _).trans hrows)
    (handed_run_launchesLate.trans (not_launchesLate hlaunch))
  have hsame := hwithin.sameQueues s (by decide) (by decide +kernel)
  have hlength' := (hwithin.tooLong_run s p f.data (by decide +kernel) (by decide +kernel)).trans hlength
  have hcounter := hwithin.keeps_ctr s (i := commonsItem 0) rfl (by decide +kernel)
  have hwaits := handed_run_waits (s := s) (r := r)
  have hroom' := (handed_run_roomFor s r f.ident p f.data).trans hroom
  generalize (handed r).run s = u at *
  rw [hroute, routeHome, homePorts_of_lt hown' hp, hroom']
  simp only [Bool.not_true, Bool.false_eq_true, if_false, List.isEmpty_cons, Eff.run_seq]
  obtain ⟨⟨g, hdata, hqueued⟩, hcounts, hstays⟩ := queueFrame_run_joins (s := (count (commonsItem 0)).run u) (r := r) (f := f)
    (launch := u.frameLaunch f) hp hlength' (hsame.macBusy hbusy)
  rw [count_run_n, hcls] at hqueued
  refine ⟨⟨g, hdata, ?_⟩, ?_, hstays.trans hwaits⟩
  · rw [← hsame.queued]
    exact hqueued
  · rw [hcounts, count_run_same, hcounter]

/-- Without room for it the frame waits, and the lines stay as they are. -/
theorem handOver_run_waits {s : State} {r : Nat} {f : TxFrame} {p : Nat} (hhead : s.headFrame r = some f)
    (hstate : (s.hostRing true r).state = .enabled) (hrate : s.rateAllows r = true) (hhalf : s.twinHalf = false)
    (hown : s.n 0x8200 1 r = p) (hp : p < 256) (hrows : s.identRows none f.data (parseFrame f.data) = [])
    (hlaunch : ((s.frameLaunch f).all fun l => decide (l ≤ s.now + nsUnits (s.n 0x8010 1))) = true)
    (hroom : s.roomFor r f.ident none [p] f.data = false) :
    let t := (handOver r).run s
    (t.hostRing true r).waitingRoom = true ∧ t.traffic = s.traffic := by
  intro t
  have ht : t = _ := handOver_run_route hhead hstate hrate hhalf (by omega)
  clear_value t
  subst ht
  have hwithin := handed_within (r := r)
  have hown' := (hwithin.n_run s (idx := 0x8200) (sub := 1) (row := r) (by decide +kernel)).trans hown
  have hroute := routeFrame_run_home (s := (handed r).run s) (r := r) (f := f) ((handed_run_identRows _ _).trans hrows)
    (handed_run_launchesLate.trans (not_launchesLate hlaunch))
  have htraffic := hwithin.traffic_run s rfl
  have hroom' := (handed_run_roomFor s r f.ident p f.data).trans hroom
  generalize (handed r).run s = u at *
  rw [hroute, routeHome, homePorts_of_lt hown' hp, hroom']
  simp only [Bool.not_false, if_true]
  constructor
  · rw [ringSet_run_hostRing]
    rfl
  · rw [(ringSet_within (Mask.Le.refl _)).traffic_run u rfl, htraffic]

/-- A frame on a ring that is bound to no port is finished with POLICY_DROP, and counted. -/
theorem handOver_run_drops {s : State} {r : Nat} {f : TxFrame} (hhead : s.headFrame r = some f)
    (hstate : (s.hostRing true r).state = .enabled) (hrate : s.rateAllows r = true) (hhalf : s.twinHalf = false)
    (hown : s.n 0x8200 1 r = 0xFFFF) (hrows : s.identRows none f.data (parseFrame f.data) = []) :
    let t := (handOver r).run s
    (((t.hostRing true r).frames.all fun g => g.ident != f.ident || (g.phase == .finished && g.status == 4)) = true) ∧
      t.counter (commonsItem 23) = (s.counter (commonsItem 23) + 1) % 18446744073709551616 := by
  intro t
  have ht : t = _ := handOver_run_route hhead hstate hrate hhalf (by omega)
  clear_value t
  subst ht
  have hwithin := handed_within (r := r)
  have hown' := (hwithin.n_run s (idx := 0x8200) (sub := 1) (row := r) (by decide +kernel)).trans hown
  have hdrops := routeFrame_run_drops (s := (handed r).run s) (r := r) (f := f) hown' ((handed_run_identRows _ _).trans hrows)
  have hcounter := hwithin.keeps_ctr s (i := commonsItem 23) rfl (by decide +kernel)
  generalize (handed r).run s = u at *
  rw [hdrops, policyDrop, Eff.run_look]
  simp only [Eff.run_all_cons, Eff.run_all_nil, endHere, Eff.run_look]
  have hset (ident : Nat) (g : TxFrame → TxFrame) := txFrameSet_within (Mask.Le.refl _) (r := r) (ident := ident) (f := g)
  constructor
  · rw [txFrameSet, ringSet_run_hostRing]
    simp only [HostRing.norm, List.all_map, List.all_eq_true]
    intro g _
    by_cases hg : g.ident = f.ident
    · simp [hg]
    · simp [hg]
  · rw [(hset _ _).keeps_ctr _ rfl (by decide +kernel), count_run_same, (chargeRing_within (Mask.Le.refl _)).keeps_ctr _ rfl (by decide +kernel),
      count_run_other (by decide), hcounter]

/-! ## The calendar wheel (R184) -/

theorem ringCreditSet_run (r : Nat) (k : RingCredit) (s : State) : ((ringCreditSet r k).run s).ringCredit r = k :=
  PMap.getD_set_same _ _ _ _

theorem settleCredit_run {r : Nat} {c : Int} (h : 0 ≤ c) (s : State) :
    ((settleCredit r c).run s).ringCredit r = ⟨c, s.now, none, 0⟩ := by
  rw [settleCredit, Eff.run_look, if_neg (by omega), ringCreditSet_run]

theorem handOver_run_nothing {s : State} {r : Nat} (h : s.headFrame r = none) : (handOver r).run s = s := by
  rw [handOver, Eff.run_look, h]
  rfl

theorem flush_ringCredit (s : State) (r : Nat) : (flushEvents.run s).ringCredit r = s.ringCredit r := by
  rw [State.ringCredit, flush_traffic, flush_now, State.ringCredit]

theorem flush_host (s : State) : (flushEvents.run s).host = s.host := by
  have heta (h : HostSide) : h = ⟨h.tx, h.rx, h.queues, h.vectors, h.functions, h.numVfs, h.vfEnable, h.linkUpA, h.linkUpB, h.reads⟩ := rfl
  rw [heta (flushEvents.run s).host, flush_tx, flush_rx, flush_queues, flush_vectors, flush_functions, flush_numVfs, flush_vfEnable,
    flush_linkUpA, flush_linkUpB, flush_hostReads]

theorem exec_calendarSlot_lap {s : State} {r : Nat} (hoperating : s.operating = true) (hslot : (s.ringCredit r).eligible.isSome = true)
    (hlaps : (s.ringCredit r).laps ≠ 0) :
    ∃ t, exec (.calendarSlot r) s = .next t ∧ t.ringCredit r = { s.ringCredit r with laps := (s.ringCredit r).laps - 1 } ∧
      t.host = s.host := by
  refine ⟨_, rfl, ?_⟩
  have hnone : (s.ringCredit r).eligible.isNone = false := by simpa using hslot
  have hne : ((s.ringCredit r).laps != 0) = true := by simpa using hlaps
  rw [Eff.run_seq, flush_ringCredit, flush_host, operating, Eff.run_whenS, if_pos hoperating, calendarPasses, Eff.run_look]
  simp only [hnone, hne, Bool.false_eq_true, if_false, if_true]
  exact ⟨ringCreditSet_run _ _ _, rfl⟩

theorem exec_calendarSlot_due {s : State} {r : Nat} (hoperating : s.operating = true) (hslot : (s.ringCredit r).eligible.isSome = true)
    (hlaps : (s.ringCredit r).laps = 0) (hcredit : 0 ≤ s.creditNow r) (hhead : s.headFrame r = none) :
    ∃ t, exec (.calendarSlot r) s = .next t ∧ (t.ringCredit r).eligible = none ∧ (t.ringCredit r).credit = s.creditNow r ∧
      t.host = s.host := by
  refine ⟨_, rfl, ?_⟩
  have hnone : (s.ringCredit r).eligible.isNone = false := by simpa using hslot
  have hne : ((s.ringCredit r).laps != 0) = false := by simpa using hlaps
  have hsettled := settleCredit_run (r := r) hcredit s
  have htx := (settleCredit_within (Mask.Le.refl _) (r := r) (credit := s.creditNow r)).tx_run s rfl
  have hhost : ((settleCredit r (s.creditNow r)).run s).host = s.host := by
    rw [settleCredit, Eff.run_look, if_neg (by omega)]
    rfl
  have hhead' : ((settleCredit r (s.creditNow r)).run s).headFrame r = none := by
    rw [← hhead, State.headFrame, State.headFrame, State.hostRing, State.hostRing, if_pos rfl, if_pos rfl, htx]
  rw [Eff.run_seq, flush_ringCredit, flush_host, operating, Eff.run_whenS, if_pos hoperating, calendarPasses, Eff.run_look]
  simp only [hnone, hne, Bool.false_eq_true, if_false, Eff.run_seq]
  rw [handOver_run_nothing hhead', hsettled]
  exact ⟨rfl, rfl, hhost⟩

theorem flush_queued (s : State) (q : Nat) : (flushEvents.run s).queued q = s.queued q := by
  rw [State.queued, flush_traffic, State.queued]

theorem exec_hostFrameHandover_joins {s : State} {r : Nat} {f : TxFrame} {p : Nat}
    (hqueued : let t := (handOver r).run s
      s.queuedBehind t p (s.n 0x8200 2 r) f.data ∧
        t.counter (commonsItem 0) = (s.counter (commonsItem 0) + 1) % 18446744073709551616 ∧ (t.hostRing true r).waitingRoom = false) :
    let t := flushEvents.run ((handOver r).run s)
    s.queuedBehind t p (s.n 0x8200 2 r) f.data ∧
      t.counter (commonsItem 0) = (s.counter (commonsItem 0) + 1) % 18446744073709551616 ∧ (t.hostRing true r).waitingRoom = false := by
  obtain ⟨⟨g, hdata, hprefix⟩, hcounter, hwaits⟩ := hqueued
  refine ⟨⟨g, hdata, ?_⟩, ?_, ?_⟩
  · rw [flush_queued]
    exact hprefix
  · rw [flush_counter _ _ (by decide), hcounter]
  · rw [flush_hostRing, hwaits]

theorem exec_queueRoom_run {s : State} {r : Nat} (hoperating : s.operating = true) (hwaits : (s.hostRing true r).waitingRoom = true) :
    exec (.queueRoom r) s = .next (flushEvents.run ((handOver r).run s)) := by
  change Host.Outcome.next ((Eff.seq (operating (roomAppears r)) flushEvents).run s) = _
  rw [Eff.run_seq, operating, Eff.run_whenS, if_pos hoperating, roomAppears, Eff.run_whenS, if_pos hwaits]

/-- Settles O34, from the path that the head frame of a ring takes and from the ring's credit. -/
theorem hostFramesReachTheirPort : Obligations.HostFramesReachTheirPort := by
  unfold Obligations.HostFramesReachTheirPort
  refine ⟨?_, ?_, ?_, ?_, ?_, ?_⟩
  · intro s r f p hoperating hhead hstate hrate hhalf hown hp _ hrows hlaunch hlength hroom hbusy
    exact ⟨_, exec_hostFrameHandover_run hoperating, exec_hostFrameHandover_joins
      (handOver_run_joins hhead hstate hrate hhalf hown hp hrows hlaunch hlength hroom hbusy)⟩
  · intro s r f p hoperating hhead hstate hrate hhalf hown hp hrows hlaunch hroom
    obtain ⟨hwaits, htraffic⟩ := handOver_run_waits hhead hstate hrate hhalf hown hp hrows hlaunch hroom
    refine ⟨_, exec_hostFrameHandover_run hoperating, ?_⟩
    rw [flush_hostRing, flush_traffic]
    exact ⟨hwaits, htraffic⟩
  · intro s r f hoperating hhead hstate hrate hhalf hown hrows
    obtain ⟨hframes, hcounter⟩ := handOver_run_drops hhead hstate hrate hhalf hown hrows
    refine ⟨_, exec_hostFrameHandover_run hoperating, ?_⟩
    rw [flush_hostRing, flush_counter _ _ (by decide)]
    exact ⟨hframes, hcounter⟩
  · intro s r f p hoperating hwaits hhead hstate hrate hhalf hown hp _ hrows hlaunch hlength hroom hbusy
    exact ⟨_, exec_queueRoom_run hoperating hwaits, exec_hostFrameHandover_joins
      (handOver_run_joins hhead hstate hrate hhalf hown hp hrows hlaunch hlength hroom hbusy)⟩
  · intro s r hoperating hslot hlaps
    exact exec_calendarSlot_lap hoperating hslot hlaps
  · intro s r hoperating hslot hlaps hcredit hhead
    exact exec_calendarSlot_due hoperating hslot hlaps hcredit hhead

end Sys2Proof.Machine

/-! # Static slots (R134, R135, R137) -/

namespace Sys2Proof.Machine

/-! ## A segment's own record, and a port's counters -/

theorem segSet_run_seg (p : Nat) (f : Segment → Segment) (s : State) : ((segSet p f).run s).seg p = f (s.seg p) :=
  PMap.getD_set_same _ _ _ _

theorem flush_seg (s : State) (p : Nat) : (flushEvents.run s).seg p = s.seg p := by
  rw [State.seg, flush_segments]
  rfl

theorem Eff.Within.seg_run {m : Mask} {e : Eff} (he : e.Within tables m) (s : State)
    (h : m.parts.testBit Part.segments.bit = false) (p : Nat) : (e.run s).seg p = s.seg p := by
  rw [State.seg, he.segments_run s h]
  rfl

theorem counterClass_portItem (p i : Nat) : counterClass (portItem p i) = i % 32 := by
  have hlt : portItem p i < 8192 := by
    unfold portItem
    omega
  rw [counterClass, if_pos hlt, portItem]
  omega

theorem Eff.Within.keeps_portItem {m : Mask} {e : Eff} (he : e.Within tables m) (s : State) (p : Nat) {i : Nat}
    (h : freeCtr tables m (i % 32) = true) : (e.run s).counter (portItem p i) = s.counter (portItem p i) :=
  he.keeps_ctr s (counterClass_portItem p i) h

theorem flush_portItem (s : State) (p i : Nat) : (flushEvents.run s).counter (portItem p i) = s.counter (portItem p i) :=
  flush_counter s _ (by rw [counterClass_portItem]; omega)

theorem portItem_ne {i j : Nat} (h : i % 32 ≠ j % 32) (p : Nat) : portItem p i ≠ portItem p j := by
  unfold portItem
  omega

theorem operating_run {s : State} (h : s.operating = true) (e : Eff) : (operating e).run s = e.run s := by
  rw [operating, Eff.run_whenS, if_pos h]

theorem slotOf_row {s : State} {p m i : Nat} {x : Slot} (h : s.slotOf p m i = some x) : x.row = i := by
  rw [State.slotOf] at h
  split at h
  · cases h
    rfl
  · cases h

/-! ## The latch instant -/

/-- An own data slot of an ACTIVE port with nothing latched takes its content. -/
theorem latchInstant_run_own {s : State} {p slot : Nat} {x : Slot} {f : QueuedFrame} (hgrove : s.groveOn (p / 32) = true)
    (hslot : s.slotOf p (s.segMode p) slot = some x) (howner : x.owner = 0) (hsync : x.sync = false) (hactive : s.segState p = 5)
    (hfree : (s.seg p).latched.get? slot = none) (hcontent : s.slotContent p x = some f) :
    (latchInstant p slot).run s =
      (if s.fitsSlot p (s.queuedBytes p f) x then segSet p fun g => { g with latched := g.latched.set slot f }
        else oversize p x f).run ((takeContent p x).run s) := by
  have hnone : (unlatch p x 3).run s = s := by
    rw [unlatch, Eff.run_look, slotOf_row hslot, hfree]
    rfl
  rw [latchInstant, Eff.run_look, if_pos hgrove, latchSlot, Eff.run_look, hslot]
  simp only [howner, hsync, hactive, segActive, bne_self_eq_false, Bool.or_self, Bool.false_eq_true, if_false, Eff.run_seq, hnone,
    hcontent, Eff.ofOption]

/-- Taking the content marks its buffer as read or pops its queue; what the segment holds stays. -/
theorem takeContent_run_seg (p : Nat) (x : Slot) (s : State) :
    ∃ b, ((takeContent p x).run s).seg p = { s.seg p with outBuffers := b } := by
  rw [takeContent, Eff.run_look]
  split
  · exact ⟨_, segSet_run_seg _ _ _⟩
  · exact ⟨(s.seg p).outBuffers, rfl⟩

theorem takeContent_run_out (p : Nat) (x : Slot) (s : State) : ((takeContent p x).run s).out = s.out :=
  (takeContent_within (Mask.Le.refl _)).out_run s rfl

/-- What does not fit moves to the tail of an SG port. -/
theorem oversize_run_tail {p : Nat} {x : Slot} (htail : x.toTail = true) (hsg : isSG p = true) (f : QueuedFrame) (s : State) :
    (oversize p x f).run s = (count (portItem p 18)).run
      ((segSet p fun g => { g with overflow := g.overflow ++ [(if x.source = 0 then 8 else x.source - 1, f)] }).run
        ((bumpObj (portIdx p 7) 3 x.row).run s)) := by
  rw [oversize, Eff.run_look, Eff.run_seq, htail, hsg]
  rfl

/-! ## The action point -/

theorem usePacketNumber_run_out (p : Nat) (s : State) : ((usePacketNumber p).run s).out = s.out :=
  (usePacketNumber_within (Mask.Le.refl _)).out_run s rfl

/-- A frame leaves in a slot without a collision: it is on the wire. -/
theorem sendInSlot_run_out (p : Nat) (d : Bytes) (s : State) :
    ((sendInSlot p d false).run s).out = s.out ++ [.frame p d false true] := by
  have hcounts (u : State) : ((Eff.all [count (portItem p 2), countN (portItem p 3) (frameLen d)]).run u).out = u.out := rfl
  have hrest (u : State) : ((Eff.all [count (portItem p 11), .when false (count (portItem p 7))]).run u).out = u.out := rfl
  rw [sendInSlot, Eff.run_all_cons, hrest, sendOnPort, Eff.run_all_cons, Eff.run_all_cons, hcounts, usePacketNumber_run_out]
  rfl

/-- The frames sent in static slots are counted. -/
theorem sendInSlot_run_slotItem (p : Nat) (d : Bytes) (s : State) : ((sendInSlot p d false).run s).counter (portItem p 11) =
    (s.counter (portItem p 11) + 1) % 18446744073709551616 := by
  rw [sendInSlot, Eff.run_all_cons, Eff.run_all_cons, Eff.run_all_cons, Eff.run_all_nil, Eff.run_when_false, count_run_same,
    (sendOnPort_within (Mask.Le.refl _)).keeps_portItem s p (by decide +kernel)]

/-- What is noted of a latched frame as its slot begins: the age of its queue's head, and the samples. -/
def latchedSamples (s : State) (p : Nat) (x : Slot) (f : QueuedFrame) : Eff :=
  .when (x.source != 0) (.seq (raiseMark (classQueue p (x.source - 1)) 2 ((s.now - f.enqueued) / 65536))
    (sampleFrame p (x.source - 1) f))

/-- The latched frame leaves: its segment's slot is free, and holds it until its last bit. -/
def leavesSlot (s : State) (p : Nat) (x : Slot) (f : QueuedFrame) : Eff :=
  segSet p fun g => { g with
    latched := g.latched.erase x.row
    leaving := g.leaving ++ [(x.source - 1,
      ⟨f, s.now + nsUnits (frameBits p (s.queuedBytes p f) * s.bitTime p), s.now + s.leadUnits p⟩)] }

theorem sendLatched_run {s : State} {p : Nat} {x : Slot} {f : QueuedFrame} (hlatched : (s.seg p).latched.get? x.row = some f)
    (hsa : s.noSa p = false) : (sendLatched p x false).run s =
      (leavesSlot s p x f).run ((hostStarted f.origin).run ((sendInSlot p f.data false).run ((latchedSamples s p x f).run s))) := by
  rw [sendLatched, Eff.run_look, hlatched]
  simp only [hsa, Bool.false_eq_true, if_false]
  rfl

/-- The mask of a frame's samples. -/
def samplesMask : Mask := ⟨0x0, 0x30000000000000000000000040000000000000000000000000000000, 0x16000000000000000000000000000000000000000000000000000000000000000⟩

theorem latchedSamples_within (s : State) (p : Nat) (x : Slot) (f : QueuedFrame) :
    Eff.Within tables samplesMask (latchedSamples s p x f) := by
  have hm := Mask.Le.refl samplesMask
  unfold latchedSamples
  exact Within.when (Within.seq (raiseMark_within (hm.via rfl rfl rfl)) (sampleFrame_within (hm.via rfl rfl rfl)))

/-- An own slot at its action point on a port that may send. -/
theorem slotActs_run_clear {s : State} {p slot : Nat} {x : Slot} (hgrove : s.groveOn (p / 32) = true)
    (hsilent : s.portSilenced p = false) (hslot : s.slotOf p (s.segMode p) slot = some x) (howner : x.owner = 0)
    (hsync : x.sync = false) (hactive : s.segState p = 5) (collision : Bool) :
    (slotActs p slot collision).run s = (sendLatched p x collision).run s := by
  rw [slotActs, Eff.run_look, hslot]
  simp only [howner, hsync, hactive, hgrove, hsilent, segActive, bne_self_eq_false, beq_self_eq_true, Bool.not_false, Bool.and_self,
    Bool.false_eq_true, if_false, if_true, Eff.run_when_true]

/-- An own slot of an ACTIVE port with nothing latched is a clearing. -/
theorem slotActs_run_empty {s : State} {p slot : Nat} {x : Slot} (hslot : s.slotOf p (s.segMode p) slot = some x)
    (howner : x.owner = 0) (hsync : x.sync = false) (hactive : s.segState p = 5) (hnone : (s.seg p).latched.get? slot = none)
    (collision : Bool) : (slotActs p slot collision).run s = (count (portItem p 13)).run s := by
  have hunlatch : (unlatch p x 3).run s = s := by
    rw [unlatch, Eff.run_look, slotOf_row hslot, hnone]
    rfl
  have hsend : (sendLatched p x collision).run s = (count (portItem p 13)).run s := by
    rw [sendLatched, Eff.run_look, slotOf_row hslot, hnone]
  rw [slotActs, Eff.run_look, hslot]
  simp only [howner, hsync, hactive, segActive, bne_self_eq_false, beq_self_eq_true, Bool.false_eq_true, if_false, Eff.run_when_true,
    Eff.run_ite, Eff.run_seq, hunlatch, hsend, ite_self]

/-- An own sync slot of a port that may send it. -/
theorem slotActs_run_sync {s : State} {p slot : Nat} {x : Slot} (hgrove : s.groveOn (p / 32) = true)
    (hsilent : s.portSilenced p = false) (hsa : s.noSa p = false) (hslot : s.slotOf p (s.segMode p) slot = some x)
    (howner : x.owner = 0) (hsync : x.sync = true)
    (hstate : s.segState p = 5 ∨ (s.segState p = 2 ∧ (s.seg p).startPending = false)) :
    (slotActs p slot false).run s = (count (portItem p 19)).run ((sendInSlot p (s.syncFrame p) false).run s) := by
  have hsends : (s.segState p == segActive || (s.segState p == segColdstart && !(s.seg p).startPending)) = true := by
    rcases hstate with h | ⟨h, hstart⟩
    · rw [h]
      rfl
    · rw [h, hstart]
      rfl
  rw [slotActs, Eff.run_look, hslot]
  simp only [howner, hsync, hgrove, hsilent, hsa, hsends, bne_self_eq_false, Bool.not_false, Bool.and_self, Bool.false_eq_true,
    if_false, if_true, Bool.false_and, Eff.run_when_true, Eff.run_all_cons, Eff.run_when_false, Eff.run_all_nil]

/-! ## The end of a slot -/

/-- What the end of a slot is decided by. -/
theorem slotFramesEnd_run_seg (p : Nat) (s : State) :
    ∃ l, ((slotFramesEnd p).run s).seg p = { s.seg p with leaving := l } := by
  have hends (l : List (Nat × LeavingFrame)) (u : State) : ((Eff.forEach l fun e => finishOrigin e.2.frame.origin
      (s.okStatus e.2.frame e.2.stamp) e.2.stamp p e.1 (e.2.frame.cuts != 0)).run u).seg p = u.seg p :=
    (Within.forEach fun _ => finishOrigin_within (Mask.Le.refl _)).seg_run u rfl p
  refine ⟨(s.seg p).leaving.filter fun e => s.now < e.2.endsAt, ?_⟩
  rw [slotFramesEnd, Eff.run_look, Eff.run_seq, hends, segSet_run_seg]

theorem slotFramesEnd_run_od (p : Nat) (s : State) : ((slotFramesEnd p).run s).od = s.od :=
  (slotFramesEnd_within (Mask.Le.refl _)).od_run rfl s

theorem port_congr {s t : State} (hod : t.od = s.od) (p k sub row : Nat) : t.port p k sub row = s.port p k sub row := by
  simp only [State.port, State.n, State.obj, State.key, hod]

theorem segCfg_congr {s t : State} {p : Nat} (hod : t.od = s.od) (hfrozen : (t.seg p).frozen = (s.seg p).frozen)
    (k sub row : Nat) : t.segCfg p k sub row = s.segCfg p k sub row := by
  simp only [State.segCfg, hfrozen, port_congr hod]

theorem slotOf_congr {s t : State} {p : Nat} (hod : t.od = s.od) (hfrozen : (t.seg p).frozen = (s.seg p).frozen) (m i : Nat) :
    t.slotOf p m i = s.slotOf p m i := by
  simp only [State.slotOf, segCfg_congr hod hfrozen]

/-- The clearing of another owner's slot. -/
def clearing (p slot : Nat) : Eff := .seq (count (portItem p 14)) (bumpObj (portIdx p 7) 1 slot)

/-- A slot of another owner in which no frame has been accepted is a clearing. -/
theorem slotPasses_run_clearing {s : State} {p slot : Nat} {x : Slot} (hslot : s.slotOf p (s.segMode p) slot = some x)
    (howner : x.owner ≠ 0) (hview : s.hasView p = true) (hempty : (s.seg p).slotsFilled.contains slot = false) :
    (slotPasses p slot).run s = (clearing p slot).run ((slotFramesEnd p).run s) := by
  obtain ⟨l, hseg⟩ := slotFramesEnd_run_seg p s
  have hod := slotFramesEnd_run_od p s
  rw [slotPasses, Eff.run_seq]
  generalize (slotFramesEnd p).run s = u at *
  have hfrozen : (u.seg p).frozen = (s.seg p).frozen := by rw [hseg]
  have hslot' : u.slotOf p (u.segMode p) slot = some x := by
    rw [slotOf_congr hod hfrozen, State.segMode, port_congr hod]
    exact hslot
  have hview' : u.hasView p = true := by
    rw [← hview]
    simp only [State.hasView, State.segState, port_congr hod]
  have hempty' : (u.seg p).slotsFilled.contains slot = false := by
    rw [hseg]
    exact hempty
  rw [slotEnds, Eff.run_look, hslot', clearing]
  simp only [hview', hempty', bne_iff_ne.2 howner, Bool.not_false, Bool.and_self, Eff.run_when_true]

theorem cellOf_clearings (p : Nat) : ∃ c, cellOf (portIdx p 7) 1 = some c ∧ c.ty = .u32 := by
  have hall : ∀ q : Fin 256, (cellOf (portIdx q 7) 1).map Cell.ty = some .u32 := by decide +kernel
  have hidx : portIdx p 7 = portIdx (p % 256) 7 := by
    unfold portIdx
    omega
  rw [hidx]
  exact Option.map_eq_some_iff.1 (hall ⟨p % 256, Nat.mod_lt _ (by decide)⟩)

theorem clearing_run (p slot : Nat) (s : State) :
    ((clearing p slot).run s).counter (portItem p 14) = (s.counter (portItem p 14) + 1) % 18446744073709551616 ∧
    ((clearing p slot).run s).obj (portIdx p 7) 1 slot = (s.obj (portIdx p 7) 1 slot + 1) % 4294967296 := by
  obtain ⟨c, hcell, hty⟩ := cellOf_clearings p
  rw [clearing, Eff.run_seq]
  constructor
  · exact count_run_same _ s
  · exact bumpObj_run_u32 hcell hty slot _

/-! ## The commands -/

/-- An own data slot latches content that fits. -/
theorem exec_slotLatch_fits {s : State} {p slot : Nat} {x : Slot} {f : QueuedFrame} (hoperating : s.operating = true)
    (hgrove : s.groveOn (p / 32) = true) (hslot : s.slotOf p (s.segMode p) slot = some x) (howner : x.owner = 0)
    (hsync : x.sync = false) (hactive : s.segState p = 5) (hfree : (s.seg p).latched.get? slot = none)
    (hcontent : s.slotContent p x = some f) (hfits : s.fitsSlot p (s.queuedBytes p f) x = true) :
    ∃ t, exec (.slotLatch p slot) s = .next t ∧ (t.seg p).latched = (s.seg p).latched.set slot f ∧ t.out = s.out := by
  refine ⟨_, rfl, ?_⟩
  obtain ⟨b, hseg⟩ := takeContent_run_seg p x s
  rw [Eff.run_seq, flush_seg, flush_out, operating_run hoperating,
    latchInstant_run_own hgrove hslot howner hsync hactive hfree hcontent, if_pos hfits, segSet_run_seg, hseg]
  exact ⟨rfl, takeContent_run_out p x s⟩

/-- Content that does not fit moves to the tail of an SG port, and is counted. -/
theorem exec_slotLatch_tail {s : State} {p slot : Nat} {x : Slot} {f : QueuedFrame} (hoperating : s.operating = true)
    (hgrove : s.groveOn (p / 32) = true) (hslot : s.slotOf p (s.segMode p) slot = some x) (howner : x.owner = 0)
    (hsync : x.sync = false) (htail : x.toTail = true) (hsg : isSG p = true) (hactive : s.segState p = 5)
    (hfree : (s.seg p).latched.get? slot = none) (hcontent : s.slotContent p x = some f)
    (hfits : s.fitsSlot p (s.queuedBytes p f) x = false) :
    ∃ t, exec (.slotLatch p slot) s = .next t ∧
      ((t.seg p).overflow = (s.seg p).overflow ++ [(if x.source = 0 then 8 else x.source - 1, f)]) ∧
      (t.seg p).latched = (s.seg p).latched ∧
      t.counter (portItem p 18) = (s.counter (portItem p 18) + 1) % 18446744073709551616 := by
  refine ⟨_, rfl, ?_⟩
  obtain ⟨b, hseg⟩ := takeContent_run_seg p x s
  have hitem := (takeContent_within (Mask.Le.refl _) (p := p) (x := x)).keeps_portItem s p (i := 18) (by decide +kernel)
  rw [Eff.run_seq, flush_seg, flush_portItem, operating_run hoperating,
    latchInstant_run_own hgrove hslot howner hsync hactive hfree hcontent, if_neg (by rw [hfits]; decide), oversize_run_tail htail hsg]
  generalize (takeContent p x).run s = u at *
  have hstored : ((bumpObj (portIdx p 7) 3 x.row).run u).seg p = u.seg p := rfl
  have hcounted (g : Segment → Segment) : ((segSet p g).run ((bumpObj (portIdx p 7) 3 x.row).run u)).counter (portItem p 18) =
      s.counter (portItem p 18) := hitem
  have hseg' (v : State) : ((count (portItem p 18)).run v).seg p = v.seg p := rfl
  rw [hseg', segSet_run_seg, hstored, hseg, count_run_same, hcounted]
  exact ⟨rfl, rfl, rfl⟩

/-- The latched frame leaves at the action point. -/
theorem exec_slotActionPoint_latched {s : State} {p slot : Nat} {x : Slot} {f : QueuedFrame} (hoperating : s.operating = true)
    (hgrove : s.groveOn (p / 32) = true) (hsilent : s.portSilenced p = false) (hsa : s.noSa p = false)
    (hslot : s.slotOf p (s.segMode p) slot = some x) (howner : x.owner = 0) (hsync : x.sync = false) (hactive : s.segState p = 5)
    (hlatched : (s.seg p).latched.get? slot = some f) :
    ∃ t, exec (.slotActionPoint p slot false) s = .next t ∧ t.out = s.out ++ [.frame p f.data false true] ∧
      (t.seg p).latched = (s.seg p).latched.erase slot ∧
      t.counter (portItem p 11) = (s.counter (portItem p 11) + 1) % 18446744073709551616 := by
  refine ⟨_, rfl, ?_⟩
  have hrow := slotOf_row hslot
  have hsamples := latchedSamples_within s p x f
  have hstarted := hostStarted_within (Mask.Le.refl _) (o := f.origin)
  rw [Eff.run_seq, flush_seg, flush_portItem, flush_out, operating_run hoperating,
    slotActs_run_clear hgrove hsilent hslot howner hsync hactive, sendLatched_run (by rw [hrow, hlatched]) hsa]
  have hout (u : State) : ((leavesSlot s p x f).run u).out = u.out := rfl
  have hitem (u : State) : ((leavesSlot s p x f).run u).counter (portItem p 11) = u.counter (portItem p 11) := rfl
  rw [hout, hitem, hstarted.out_run _ rfl, sendInSlot_run_out, hsamples.out_run s rfl,
    hstarted.keeps_portItem _ p (by decide +kernel), sendInSlot_run_slotItem, hsamples.keeps_portItem s p (by decide +kernel),
    leavesSlot, segSet_run_seg, hstarted.seg_run _ rfl, (sendInSlot_within (Mask.Le.refl _)).seg_run _ rfl, hsamples.seg_run s rfl, hrow]
  exact ⟨rfl, rfl, rfl⟩

/-- An own slot with nothing latched is a clearing. -/
theorem exec_slotActionPoint_empty {s : State} {p slot : Nat} {x : Slot} (collision : Bool) (hoperating : s.operating = true)
    (hslot : s.slotOf p (s.segMode p) slot = some x) (howner : x.owner = 0) (hsync : x.sync = false) (hactive : s.segState p = 5)
    (hnone : (s.seg p).latched.get? slot = none) :
    ∃ t, exec (.slotActionPoint p slot collision) s = .next t ∧ t.out = s.out ∧
      t.counter (portItem p 13) = (s.counter (portItem p 13) + 1) % 18446744073709551616 := by
  refine ⟨_, rfl, ?_⟩
  rw [Eff.run_seq, flush_portItem, flush_out, operating_run hoperating, slotActs_run_empty hslot howner hsync hactive hnone]
  exact ⟨rfl, count_run_same _ s⟩

/-- An own sync slot sends its sync frame. -/
theorem exec_slotActionPoint_sync {s : State} {p slot : Nat} {x : Slot} (hoperating : s.operating = true)
    (hgrove : s.groveOn (p / 32) = true) (hsilent : s.portSilenced p = false) (hsa : s.noSa p = false)
    (hslot : s.slotOf p (s.segMode p) slot = some x) (howner : x.owner = 0) (hsync : x.sync = true)
    (hstate : s.segState p = 5 ∨ (s.segState p = 2 ∧ (s.seg p).startPending = false)) :
    ∃ t, exec (.slotActionPoint p slot false) s = .next t ∧ t.out = s.out ++ [.frame p (s.syncFrame p) false true] ∧
      t.counter (portItem p 19) = (s.counter (portItem p 19) + 1) % 18446744073709551616 := by
  refine ⟨_, rfl, ?_⟩
  rw [Eff.run_seq, flush_portItem, flush_out, operating_run hoperating,
    slotActs_run_sync hgrove hsilent hsa hslot howner hsync hstate, count_run_same,
    (sendInSlot_within (Mask.Le.refl _)).keeps_portItem s p (by decide +kernel), count_run_out, sendInSlot_run_out]
  exact ⟨rfl, rfl⟩

/-- A slot of another owner without a frame is counted at its end. -/
theorem exec_slotEnd_clearing {s : State} {p slot : Nat} {x : Slot} (hslot : s.slotOf p (s.segMode p) slot = some x)
    (howner : x.owner ≠ 0) (hview : s.hasView p = true) (hempty : (s.seg p).slotsFilled.contains slot = false) :
    ∃ t, exec (.slotEnd p slot) s = .next t ∧
      t.counter (portItem p 14) = (s.counter (portItem p 14) + 1) % 18446744073709551616 ∧
      t.obj (portIdx p 7) 1 slot = (s.obj (portIdx p 7) 1 slot + 1) % 4294967296 := by
  refine ⟨_, rfl, ?_⟩
  have hends := slotFramesEnd_within (Mask.Le.refl _) (p := p)
  have hitem := hends.keeps_portItem s p (i := 14) (by decide +kernel)
  have hobj := hends.keeps_port s (p := p) (k := 7) (sub := 1) (row := slot) (by decide +kernel)
  rw [Eff.run_seq, flush_portItem, flush_obj, slotPasses_run_clearing hslot howner hview hempty, ← hitem, ← hobj]
  exact clearing_run p slot _

/-- Settles O25. -/
theorem slotsOfTheModule : Obligations.SlotsOfTheModule := by
  unfold Obligations.SlotsOfTheModule
  refine ⟨?_, ?_, ?_, ?_, ?_, ?_⟩
  · intro s p slot x f hoperating hgrove hslot howner hsync hactive hfree hcontent hfits
    exact exec_slotLatch_fits hoperating hgrove hslot howner hsync hactive hfree hcontent hfits
  · intro s p slot x f hoperating hgrove hslot howner hsync htail hsg hactive hfree hcontent hfits
    exact exec_slotLatch_tail hoperating hgrove hslot howner hsync htail hsg hactive hfree hcontent hfits
  · intro s p slot x f hoperating hgrove hsilent hsa hslot howner hsync hactive hlatched
    exact exec_slotActionPoint_latched hoperating hgrove hsilent hsa hslot howner hsync hactive hlatched
  · intro s p slot x collision hoperating hslot howner hsync hactive hnone
    exact exec_slotActionPoint_empty collision hoperating hslot howner hsync hactive hnone
  · intro s p slot x hoperating hgrove hsilent hsa hslot howner hsync hstate
    exact exec_slotActionPoint_sync hoperating hgrove hsilent hsa hslot howner hsync hstate
  · intro s p slot x hslot howner hview hempty
    exact exec_slotEnd_clearing hslot howner hview hempty

end Sys2Proof.Machine

/-! # The end of a transmission, and the choice of the next frame (R168) -/

namespace Sys2Proof.Machine

/-! ## A MAC and its queues -/

theorem macSet_run_mac (p : Nat) (f : Mac → Mac) (s : State) : ((macSet p f).run s).mac p = f (s.mac p) :=
  PMap.getD_set_same _ _ _ _

theorem State.mac_congr {s t : State} (h : t.traffic.macs = s.traffic.macs) (p : Nat) : t.mac p = s.mac p := by
  rw [State.mac, h]
  rfl

theorem State.queued_congr {s t : State} (h : t.traffic.queues = s.traffic.queues) (q : Nat) : t.queued q = s.queued q := by
  rw [State.queued, h]
  rfl

theorem flush_mac (s : State) (p : Nat) : (flushEvents.run s).mac p = s.mac p :=
  State.mac_congr (congrArg Traffic.macs (flush_within.traffic_run s rfl)) p

theorem counterClass_groveItem (g i : Nat) : counterClass (groveItem g i) = 200 + i % 64 := by
  have hlow : ¬groveItem g i < 8192 := by
    unfold groveItem
    omega
  have hmid : ¬groveItem g i < 10240 := by
    unfold groveItem
    omega
  have hhigh : groveItem g i < 10752 := by
    unfold groveItem
    omega
  rw [counterClass, if_neg hlow, if_neg hmid, if_pos hhigh, groveItem]
  omega

theorem flush_groveItem (s : State) (g i : Nat) : (flushEvents.run s).counter (groveItem g i) = s.counter (groveItem g i) :=
  flush_counter s _ (by rw [counterClass_groveItem]; omega)

/-- A loop each of whose effects leaves the state as it is. -/
theorem Eff.forEach_run_same {α : Type} {l : List α} {f : α → Eff} {s : State} (h : ∀ a ∈ l, (f a).run s = s) :
    (Eff.forEach l f).run s = s := by
  induction l with
  | nil => rfl
  | cons a l ih =>
    rw [Eff.run_forEach_cons, h a List.mem_cons_self]
    exact ih fun b hb => h b (List.mem_cons_of_mem _ hb)

/-- What the effects of a loop's members leave, the loop leaves. -/
theorem Eff.forEach_keeps_mem {α β : Type} (g : State → β) {l : List α} {f : α → Eff} (h : ∀ a ∈ l, ∀ s, g ((f a).run s) = g s)
    (s : State) : g ((Eff.forEach l f).run s) = g s := by
  induction l generalizing s with
  | nil => rfl
  | cons a l ih =>
    rw [Eff.run_forEach_cons, ih (fun b hb => h b (List.mem_cons_of_mem _ hb)), h a List.mem_cons_self]

/-! ## What the scheduler looks at -/

theorem mem_classOrder_lt {s : State} {p c : Nat} (h : c ∈ s.classOrder p) : c < 8 := by
  simp only [State.classOrder, List.mem_append, List.mem_filter, List.mem_reverse, List.mem_range] at h
  rcases h with h | h
  · exact h.1
  · exact h.1

/-- No head frame of a port is to be dropped. -/
def State.headsStand (s : State) (p : Nat) : Bool :=
  (List.range 8).all fun d => (s.queued (classQueue p d)).head?.all fun g => (s.headDoom p d g).isNone

/-- The class queues of a port are empty. -/
def State.queuesEmpty (s : State) (p : Nat) : Bool := (List.range 8).all fun d => (s.queued (classQueue p d)).isEmpty

theorem queued_of_queuesEmpty {s : State} {p c : Nat} (h : s.queuesEmpty p = true) (hc : c < 8) :
    s.queued (classQueue p c) = [] :=
  List.isEmpty_iff.1 (List.all_eq_true.1 h c (List.mem_range.2 hc))

theorem headsStand_of_queuesEmpty {s : State} {p : Nat} (h : s.queuesEmpty p = true) : s.headsStand p = true := by
  refine List.all_eq_true.2 fun d hd => ?_
  rw [queued_of_queuesEmpty h (List.mem_range.1 hd)]
  rfl

/-- A head frame that stands is not dropped. -/
theorem clearHeads_run_stands {s : State} {p c : Nat}
    (h : ((s.queued (classQueue p c)).head?.all fun g => (s.headDoom p c g).isNone) = true) (n : Nat) :
    (clearHeads p c n).run s = s := by
  cases n with
  | zero => rfl
  | succ n =>
    rw [clearHeads, Eff.run_look]
    cases hq : s.queued (classQueue p c) with
    | nil => rfl
    | cons g rest =>
      rw [hq, List.head?_cons, Option.all_some] at h
      simp only [Option.isNone_iff_eq_none.1 h, Eff.run_skip]

theorem queueFollowUps_run_none {s : State} {p : Nat} (h : (s.gptpPort p).owed = []) : (queueFollowUps p).run s = s := by
  rw [queueFollowUps, Eff.run_look, h]
  rfl

/-- The effect of the grove scheduler's choice: what it passes over is noted, and the class chosen starts its head frame. -/
def schedule (s : State) (p : Nat) : Eff :=
  match (s.classOrder p).find? fun c => s.eligible p c with
  | some c =>
    .seq (.forEach ((s.classOrder p).takeWhile fun c' => c' != c) (noteHeld p))
      (match s.queued (classQueue p c) with
       | f :: _ => startFrame p c f
       | [] => .skip)
  | none => .forEach (s.classOrder p) (noteHeld p)

theorem pickQueued_run_stands {s : State} {p : Nat} (howed : (s.gptpPort p).owed = []) (hstand : s.headsStand p = true) :
    (pickQueued p).run s = (schedule s p).run s := by
  have hclear : (Eff.forEach (List.range 8) fun c => clearHeads p c 64).run s = s :=
    Eff.forEach_run_same fun c hc => clearHeads_run_stands (List.all_eq_true.1 hstand c hc) 64
  rw [pickQueued, Eff.run_all_cons, queueFollowUps_run_none howed, Eff.run_all_cons, hclear]
  rfl

/-- With nothing queued the scheduler does nothing. -/
theorem schedule_run_empty {s : State} {p : Nat} (h : s.queuesEmpty p = true) : (schedule s p).run s = s := by
  have hnone : (s.classOrder p).find? (fun c => s.eligible p c) = none := by
    refine List.find?_eq_none.2 fun c hc => ?_
    rw [State.eligible, queued_of_queuesEmpty h (mem_classOrder_lt hc)]
    exact Bool.false_ne_true
  have hnote (c : Nat) (hc : c ∈ s.classOrder p) : (noteHeld p c).run s = s := by
    simp only [noteHeld, Eff.run_look, queued_of_queuesEmpty h (mem_classOrder_lt hc), Eff.run_skip]
  rw [schedule, hnone]
  exact Eff.forEach_run_same hnote

/-! ## Nothing is picked -/

/-- The state with other records of its segments. -/
def State.withSegments (s : State) (m : PMap Segment) : State := { s with segments := m }

/-- With no frame outside the class queues, those that wait for a transmit SA change nothing but the segments' records. -/
theorem movedWithoutSa_run_none {s : State} {p : Nat} (h : (s.seg p).overflow = []) :
    ∃ m, (movedWithoutSa p).run s = s.withSegments m ∧ ((s.withSegments m).seg p).overflow = [] := by
  rw [movedWithoutSa, Eff.run_whenS]
  split
  · have hnone : ((s.seg p).overflow.filter fun x => !x.2.origin.ofKiln) = [] := by
      rw [h]
      rfl
    refine ⟨s.segments.set p { s.seg p with overflow := (s.seg p).overflow.filter fun x => x.2.origin.ofKiln }, ?_, ?_⟩
    · rw [Eff.run_look, Eff.run_seq, hnone]
      rfl
    · rw [State.seg, State.withSegments, PMap.getD_set_same, h]
      rfl
  · exact ⟨s.segments, rfl, h⟩

/-- The MAC of a port with nothing to send stays as it is. -/
theorem pickFrame_run_mac_of_empty {s : State} {p : Nat} (howed : (s.gptpPort p).owed = []) (hover : (s.seg p).overflow = [])
    (hempty : s.queuesEmpty p = true) : ((pickFrame p).run s).mac p = s.mac p := by
  rw [pickFrame, Eff.run_whenS]
  split
  · obtain ⟨m, hrun, hnone⟩ := movedWithoutSa_run_none hover
    have howed' : ((s.withSegments m).gptpPort p).owed = [] := howed
    have hempty' : (s.withSegments m).queuesEmpty p = true := hempty
    have hpick : (pickQueued p).run (s.withSegments m) = s.withSegments m := by
      rw [pickQueued_run_stands howed' (headsStand_of_queuesEmpty hempty'), schedule_run_empty hempty']
    rw [Eff.run_seq, hrun, Eff.run_look, hnone, List.find?_nil, Eff.run_when, hpick, ite_self]
    rfl
  · rfl

/-! ## The frame in progress ends -/

theorem slotFramesEnd_run_none {s : State} {p : Nat} (h : (s.seg p).leaving = []) :
    ∃ m, (slotFramesEnd p).run s = s.withSegments m ∧ ((s.withSegments m).seg p).overflow = (s.seg p).overflow := by
  have hnone : ((s.seg p).leaving.filter fun e => e.2.endsAt ≤ s.now) = [] := by
    rw [h]
    rfl
  refine ⟨s.segments.set p { s.seg p with leaving := (s.seg p).leaving.filter fun e => s.now < e.2.endsAt }, ?_, ?_⟩
  · rw [slotFramesEnd, Eff.run_look, Eff.run_seq, hnone]
    rfl
  · rw [State.seg, State.withSegments, PMap.getD_set_same]

/-- A follower that sends takes no turn. -/
theorem followerTurn_run_busy {s : State} {p : Nat} (h : (s.mac p).current.isNone = false) : (followerTurn p).run s = s := by
  rw [followerTurn, Eff.run_whenS, h, Bool.and_false, Bool.false_and, if_neg Bool.false_ne_true]

/-- A MAC with a frame in progress and no slot's frame leaving ends it, and picks the next. -/
theorem macBecomesFree_run_busy {s : State} {p : Nat} {x : Nat × QueuedFrame} (hgrove : s.groveOn (groveOf p) = true)
    (hcurrent : (s.mac p).current = some x) (hleaving : (s.seg p).leaving = []) (collision : Bool) :
    ∃ m, ((s.withSegments m).seg p).overflow = (s.seg p).overflow ∧ (macBecomesFree p collision).run s =
      (pickFrame p).run ((if collision && isSG p then collided p else endFrame p).run (s.withSegments m)) := by
  obtain ⟨m, hrun, hover⟩ := slotFramesEnd_run_none hleaving
  have hgrove' : (s.withSegments m).groveOn (groveOf p) = true := hgrove
  have hbusy : ((s.withSegments m).mac p).current.isNone = false := by
    have hmac : (s.withSegments m).mac p = s.mac p := rfl
    rw [hmac, hcurrent]
    rfl
  refine ⟨m, hover, ?_⟩
  rw [macBecomesFree, Eff.run_seq, hrun, Eff.run_whenS, if_pos hgrove', Eff.run_all_cons, followerTurn_run_busy hbusy,
    Eff.run_all_cons, Eff.run_all_cons, Eff.run_all_nil]

/-- The mask of what a MAC picks. -/
def pickMask : Mask := ⟨0x800b280, 0x3000000000000000000000004000e002000000000000000000000000, 0x16000000000000000000000000000000000100000000200000065000080000000⟩

theorem pickFrame_picks (p : Nat) : (pickFrame p).Within tables pickMask := pickFrame_within (Mask.Le.refl _)

/-- The bytes of a frame that have still to be sent. -/
def State.restOf (s : State) (p : Nat) (f : QueuedFrame) : Bytes := f.data.drop (s.plainOffset p f.sent)

/-- What is left of a frame leaves: the MAC is free, and the port counts it. -/
def wholeLeaves (p c : Nat) (f : QueuedFrame) (rest : Bytes) : Eff :=
  .all [touchShaper (classQueue p c), emit (.frame p rest false true), usePacketNumber p,
    macSet p (fun m => { m with current := none, tries := 0 }), count (portItem p 2), countN (portItem p 3) (frameLen f.data),
    burstFrameEnds p]

theorem endFrame_run_whole {s : State} {p c : Nat} {f : QueuedFrame} (hcurrent : (s.mac p).current = some (c, f))
    (hcut : (s.mac p).cutAt = none) (hquiet : endsQuietly f.origin = true) :
    (endFrame p).run s = (wholeLeaves p c f (s.restOf p f)).run s := by
  rw [endFrame, Eff.run_look]
  cases ho : f.origin with
  | host r i =>
    rw [ho] at hquiet
    cases hquiet
  | ptp m =>
    rw [ho] at hquiet
    cases hquiet
  | mkpdu m =>
    rw [ho] at hquiet
    cases hquiet
  | module => simp only [hcurrent, hcut, ho, sentFrame, finishOrigin, wholeLeaves, Eff.run_seq, Eff.run_all_cons, Eff.run_all_nil,
      Eff.run_skip, State.restOf]
  | relayed q sh => simp only [hcurrent, hcut, ho, sentFrame, finishOrigin, wholeLeaves, Eff.run_seq, Eff.run_all_cons, Eff.run_all_nil,
      Eff.run_skip, State.restOf]
  | kiln => simp only [hcurrent, hcut, ho, sentFrame, finishOrigin, wholeLeaves, Eff.run_seq, Eff.run_all_cons, Eff.run_all_nil,
      Eff.run_skip, State.restOf]

theorem burstFrameEnds_run_overflow (p q : Nat) (s : State) :
    (((burstFrameEnds p).run s).seg q).overflow = (s.seg q).overflow := by
  rw [burstFrameEnds, Eff.run_whenS]
  split
  · rw [Eff.run_look, Eff.run_seq, plcaSet]
    by_cases hq : q = p
    · rw [hq, segSet_run_seg]
      rfl
    · exact congrArg Segment.overflow (PMap.getD_set_other _ _ _ _ _ hq)
  · rfl

/-- What is left of a frame goes on the wire. -/
def restGoes (p c : Nat) (rest : Bytes) : Eff :=
  .all [touchShaper (classQueue p c), emit (.frame p rest false true), usePacketNumber p]

/-- The MAC is free, and the port counts its frame. -/
def macFreed (p : Nat) (f : QueuedFrame) : Eff :=
  .all [macSet p (fun m => { m with current := none, tries := 0 }), count (portItem p 2), countN (portItem p 3) (frameLen f.data),
    burstFrameEnds p]

theorem wholeLeaves_run_seq (p c : Nat) (f : QueuedFrame) (rest : Bytes) (s : State) :
    (wholeLeaves p c f rest).run s = (macFreed p f).run ((restGoes p c rest).run s) := rfl

theorem restGoes_run (p c : Nat) (rest : Bytes) (s : State) :
    let t := (restGoes p c rest).run s
    t.out = s.out ++ [.frame p rest false true] ∧ t.counter (portItem p 2) = s.counter (portItem p 2) ∧
    t.traffic.queues = s.traffic.queues ∧ t.time = s.time ∧ t.seg p = s.seg p := by
  have hpn := usePacketNumber_within (Mask.Le.refl _) (p := p)
  have hsent : ∃ u : State, (restGoes p c rest).run s = (usePacketNumber p).run u ∧ u.out = s.out ++ [.frame p rest false true] ∧
      u.counters = s.counters ∧ u.traffic.queues = s.traffic.queues ∧ u.time = s.time ∧ u.segments = s.segments :=
    ⟨_, rfl, rfl, rfl, rfl, rfl, rfl⟩
  obtain ⟨u, hrun, hout, hcounters, hqueues, htime, hsegments⟩ := hsent
  rw [hrun]
  dsimp only
  rw [hpn.out_run u rfl, hpn.keeps_portItem u p (by decide +kernel), hpn.traffic_run u rfl, hpn.time_run u rfl, hpn.seg_run u rfl,
    State.counter, hcounters, State.seg, hsegments]
  exact ⟨hout, rfl, hqueues, htime, rfl⟩

theorem macFreed_run (p : Nat) (f : QueuedFrame) (s : State) :
    let t := (macFreed p f).run s
    t.out = s.out ∧ (t.mac p).current = none ∧
    t.counter (portItem p 2) = (s.counter (portItem p 2) + 1) % 18446744073709551616 ∧
    t.traffic.queues = s.traffic.queues ∧ t.time = s.time ∧ (t.seg p).overflow = (s.seg p).overflow := by
  have hends := burstFrameEnds_within (Mask.Le.refl _) (p := p)
  have hfreed : ∃ u : State, (macFreed p f).run s = (burstFrameEnds p).run u ∧ u.out = s.out ∧
      u.traffic = ((macSet p fun m => { m with current := none, tries := 0 }).run s).traffic ∧
      u.counter (portItem p 2) = (s.counter (portItem p 2) + 1) % 18446744073709551616 ∧ u.time = s.time ∧ u.seg p = s.seg p := by
    refine ⟨_, rfl, rfl, rfl, ?_, rfl, rfl⟩
    rw [countN_run_other (portItem_ne (by decide) p), count_run_same]
    rfl
  obtain ⟨u, hrun, hout, htraffic, hitem, htime, hseg⟩ := hfreed
  rw [hrun]
  dsimp only
  rw [hends.out_run u rfl, State.mac_congr (congrArg Traffic.macs (hends.traffic_run u rfl)),
    State.mac_congr (congrArg Traffic.macs htraffic), macSet_run_mac, hends.keeps_portItem u p (by decide +kernel),
    hends.traffic_run u rfl, hends.time_run u rfl, burstFrameEnds_run_overflow, hseg, htraffic]
  exact ⟨hout, rfl, hitem, rfl, htime, rfl⟩

theorem wholeLeaves_run (p c : Nat) (f : QueuedFrame) (rest : Bytes) (s : State) :
    let t := (wholeLeaves p c f rest).run s
    t.out = s.out ++ [.frame p rest false true] ∧ (t.mac p).current = none ∧
    t.counter (portItem p 2) = (s.counter (portItem p 2) + 1) % 18446744073709551616 ∧
    t.traffic.queues = s.traffic.queues ∧ t.time = s.time ∧ (t.seg p).overflow = (s.seg p).overflow := by
  obtain ⟨hout, hitem, hqueues, htime, hseg⟩ := restGoes_run p c rest s
  rw [wholeLeaves_run_seq]
  obtain ⟨hout', hmac, hitem', hqueues', htime', hover⟩ := macFreed_run p f ((restGoes p c rest).run s)
  refine ⟨hout'.trans hout, hmac, ?_, hqueues'.trans hqueues, htime'.trans htime, ?_⟩
  · rw [hitem', hitem]
  · rw [hover, hseg]

/-- When the last bit of a frame has passed and nothing waits, the frame leaves, and the MAC is free. -/
theorem exec_macFree_whole {s : State} {p c : Nat} {f : QueuedFrame} (hoperating : s.operating = true)
    (hgrove : s.groveOn (groveOf p) = true) (hcurrent : (s.mac p).current = some (c, f)) (hcut : (s.mac p).cutAt = none)
    (hquiet : endsQuietly f.origin = true) (howed : (s.gptpPort p).owed = []) (hleaving : (s.seg p).leaving = [])
    (hover : (s.seg p).overflow = []) (hempty : s.queuesEmpty p = true) :
    ∃ t, exec (.macFree ⟨p, false⟩) s = .next t ∧ t.out = s.out ++ [.frame p (s.restOf p f) false true] ∧
      (t.mac p).current = none ∧ t.counter (portItem p 2) = (s.counter (portItem p 2) + 1) % 18446744073709551616 := by
  refine ⟨_, rfl, ?_⟩
  obtain ⟨m, hover', hrun⟩ := macBecomesFree_run_busy hgrove hcurrent hleaving false
  have hend : (endFrame p).run (s.withSegments m) = (wholeLeaves p c f (s.restOf p f)).run (s.withSegments m) :=
    endFrame_run_whole (s := s.withSegments m) hcurrent hcut hquiet
  rw [Bool.false_and, if_neg Bool.false_ne_true, hend] at hrun
  obtain ⟨hout, hmac, hitem, hqueues, htime, hseg⟩ := wholeLeaves_run p c f (s.restOf p f) (s.withSegments m)
  rw [Eff.run_seq, flush_portItem, flush_out, flush_mac, operating_run hoperating, hrun]
  generalize (wholeLeaves p c f (s.restOf p f)).run (s.withSegments m) = u at *
  have howed' : (u.gptpPort p).owed = [] := by
    rw [State.gptpPort, htime]
    exact howed
  have hempty' : u.queuesEmpty p = true := by
    rw [← hempty]
    simp only [State.queuesEmpty, State.queued_congr (s := s.withSegments m) hqueues]
    rfl
  rw [pickFrame_run_mac_of_empty howed' (by rw [hseg, hover', hover]) hempty', hmac, (pickFrame_picks p).out_run u rfl, hout,
    (pickFrame_picks p).keeps_portItem u p (by decide +kernel), hitem]
  exact ⟨rfl, rfl, rfl⟩

/-! ## What picking the next frame does not count -/

/-- An effect that leaves what is read of the state as it is. -/
def Eff.Spares {β : Type} (g : State → β) (e : Eff) : Prop := ∀ s, g (e.run s) = g s

theorem Eff.Spares.skip {β : Type} {g : State → β} : Eff.skip.Spares g := fun _ => rfl

theorem Eff.Spares.seq {β : Type} {g : State → β} {a b : Eff} (ha : a.Spares g) (hb : b.Spares g) : (Eff.seq a b).Spares g :=
  fun s => (hb (a.run s)).trans (ha s)

theorem Eff.Spares.look {β : Type} {g : State → β} {f : State → Eff} (h : ∀ s, (f s).Spares g) : (Eff.look f).Spares g := fun s => h s s

theorem Eff.Spares.when {β : Type} {g : State → β} {c : Bool} {e : Eff} (h : e.Spares g) : (Eff.when c e).Spares g := by
  cases c
  · exact Eff.Spares.skip
  · exact h

theorem Eff.Spares.ite {β : Type} {g : State → β} {c : Prop} [Decidable c] {a b : Eff} (ha : a.Spares g) (hb : b.Spares g) :
    (if c then a else b).Spares g := by
  split
  · exact ha
  · exact hb

theorem Eff.Spares.forEach {α β : Type} {g : State → β} {l : List α} {f : α → Eff} (h : ∀ a, (f a).Spares g) : (Eff.forEach l f).Spares g :=
  fun s => Eff.forEach_keeps g h s

theorem Eff.Spares.nil {β : Type} {g : State → β} : (Eff.all []).Spares g := fun _ => rfl

theorem Eff.Spares.cons {β : Type} {g : State → β} {e : Eff} {l : List Eff} (he : e.Spares g) (hl : (Eff.all l).Spares g) : (Eff.all (e :: l)).Spares g :=
  Eff.Spares.seq he hl

/-- Counting of another class. -/
theorem Eff.Spares.count {i item : Nat} (h : counterClass i ≠ counterClass item) :
    (Machine.count item).Spares fun s => s.counter i :=
  fun s => count_run_other (fun heq => h (congrArg counterClass heq)) s

/-- The counter of the fragments that a grove has sent. -/
def fragmentItem (g : Nat) : Nat := groveItem g 5

theorem counterClass_fragmentItem (g : Nat) : counterClass (fragmentItem g) = 205 := counterClass_groveItem g 5

/-- The fragments that a grove has sent. -/
def fragmentsSent (g : Nat) (s : State) : Nat := s.counter (fragmentItem g)

theorem Eff.Within.sparesFragments {m : Mask} {e : Eff} (he : e.Within tables m) (h : freeCtr tables m 205 = true) (g : Nat) :
    e.Spares (fragmentsSent g) := fun s => he.keeps_ctr s (counterClass_fragmentItem g) h

theorem groveCount_spares (p g : Nat) {i : Nat} (h : i % 64 ≠ 5) : (groveCount p i).Spares (fragmentsSent g) :=
  Eff.Spares.count (by rw [counterClass_fragmentItem, counterClass_groveItem]; omega)

theorem raise_spares (source arg g : Nat) : (raise source arg).Spares (fragmentsSent g) :=
  (raise_within (Mask.Le.refl _)).sparesFragments (by decide +kernel) g

theorem queueDrop_spares (p c handle g : Nat) : (queueDrop p c handle).Spares (fragmentsSent g) :=
  .cons (groveCount_spares p g (by decide)) (.cons (fun _ => rfl) (.cons (.when fun _ => rfl)
    (.cons (.look fun _ => .ite .skip (.seq (fun _ => rfl) (raise_spares _ _ g))) .nil)))

theorem joinQueue_spares (p c : Nat) (f : QueuedFrame) (g : Nat) : (joinQueue p c f).Spares (fragmentsSent g) :=
  .look fun _ => .cons (fun _ => rfl) (.cons (fun _ => rfl) (.cons (groveCount_spares p g (by decide))
    (.cons (.look fun _ => .seq ((raiseMark_within (Mask.Le.refl _)).sparesFragments (by decide +kernel) g) fun _ => rfl)
      (.cons (fun _ => rfl) (.cons ((wakeGrove_within (Mask.Le.refl _)).sparesFragments (by decide +kernel) g) .nil)))))

theorem admitFrame_spares (p c handle : Nat) (f : QueuedFrame) (g : Nat) : (admitFrame p c handle f).Spares (fragmentsSent g) := by
  have hmemory : (count (if inShared f then commonsItem 22 else portItem (f.ingress p) 31)).Spares (fragmentsSent g) := by
    split
    · exact Eff.Spares.count (by rw [counterClass_fragmentItem]; decide)
    · exact Eff.Spares.count (by rw [counterClass_fragmentItem, counterClass_portItem]; decide)
  exact .look fun _ => .ite (queueDrop_spares p c handle g) (.ite
    (.cons hmemory (.cons (queueDrop_spares p c handle g) (.cons (.when (.seq (groveCount_spares p g (by decide)) (raise_spares _ _ g)))
      (.cons (.when (.forEach fun _ => raise_spares _ _ g)) .nil)))) (joinQueue_spares p c f g))

theorem queueFollowUps_spares (p g : Nat) : (queueFollowUps p).Spares (fragmentsSent g) := by
  refine .look fun s => .when (.seq (fun _ => rfl) (.forEach fun e => ?_))
  cases s.ptpFollowUp p e.1 e.2 with
  | none => exact .skip
  | some data => exact admitFrame_spares _ _ _ _ g

theorem clearHeads_spares (p c n g : Nat) : (clearHeads p c n).Spares (fragmentsSent g) := by
  have hdrop (f : QueuedFrame) (st : Nat) : (dropHead p c f st).Spares (fragmentsSent g) :=
    (dropHead_within (Mask.Le.refl _)).sparesFragments (by decide +kernel) g
  induction n with
  | zero => exact .skip
  | succ n ih =>
    refine .look fun s => ?_
    split
    · split
      · exact .cons (hdrop _ _) (.cons (.when (.cons (groveCount_spares p g (by decide)) (.cons (fun _ => rfl)
          (.cons (raise_spares _ _ g) .nil)))) (.cons ih .nil))
      · exact .skip
    · exact .skip

theorem noteHeld_spares (p c g : Nat) : (noteHeld p c).Spares (fragmentsSent g) := by
  refine .look fun s => ?_
  dsimp only
  split
  · exact .ite .skip (.ite (groveCount_spares p g (by decide)) (.when (.cons (groveCount_spares p g (by decide))
      (.cons (fun _ => rfl) (.cons (.when (groveCount_spares p g (by decide))) (.cons (fun _ => rfl) .nil))))))
  · exact .skip

theorem startFrame_spares (p c : Nat) (f : QueuedFrame) (g : Nat) : (startFrame p c f).Spares (fragmentsSent g) :=
  .look fun _ => .cons ((burstFrame_within (Mask.Le.refl _)).sparesFragments (by decide +kernel) g) (.cons (fun _ => rfl)
    (.cons (fun _ => rfl) (.cons (.ite
      (.cons ((raiseMark_within (Mask.Le.refl _)).sparesFragments (by decide +kernel) g) (.cons (groveCount_spares p g (by decide))
        (.cons ((sampleFrame_within (Mask.Le.refl _)).sparesFragments (by decide +kernel) g) .nil)))
      (groveCount_spares p g (by decide)))
      (.cons ((inProgress_within (Mask.Le.refl _)).sparesFragments (by decide +kernel) g) .nil))))

theorem schedule_spares (s : State) (p g : Nat) : (schedule s p).Spares (fragmentsSent g) := by
  rw [schedule]
  split
  · refine .seq (.forEach fun c => noteHeld_spares p c g) ?_
    split
    · exact startFrame_spares _ _ _ g
    · exact .skip
  · exact .forEach fun c => noteHeld_spares p c g

/-- What a MAC picks is no fragment that has been sent. -/
theorem pickFrame_spares (p g : Nat) : (pickFrame p).Spares (fragmentsSent g) := by
  have hqueued : (pickQueued p).Spares (fragmentsSent g) :=
    .cons (queueFollowUps_spares p g) (.cons (.forEach fun c => clearHeads_spares p c 64 g)
      (.cons (.look fun s => schedule_spares s p g) .nil))
  have hmoved := (movedWithoutSa_within (Mask.Le.refl _) (p := p)).sparesFragments (by decide +kernel) g
  have hstart (c : Nat) (f : QueuedFrame) : (startMoved p c f).Spares (fragmentsSent g) :=
    (startMoved_within (Mask.Le.refl _)).sparesFragments (by decide +kernel) g
  refine .look fun _ => .ite (.seq hmoved (.look fun s => ?_)) .skip
  split
  · exact .when (hstart _ _)
  · exact .when hqueued

/-! ## A fragment ends -/

/-- The bytes of the fragment to which the frame in progress is cut. -/
def State.fragmentOf (s : State) (p : Nat) (f : QueuedFrame) (x : Nat) : Bytes :=
  slice f.data (s.plainOffset p f.sent) (s.plainOffset p (f.sent + x) - s.plainOffset p f.sent)

/-- A fragment leaves, and its frame waits at the head of its queue for the rest. -/
def fragmentLeaves (p c : Nat) (f : QueuedFrame) (x : Nat) (part : Bytes) : Eff :=
  .all [touchShaper (classQueue p c), emit (.frame p part false false),
    macSet p (fun m => { m with current := none, cutAt := none }), groveCount p 5, bumpObj 0x6410 7 (classQueue p c),
    queueSet (classQueue p c) fun l => { f with sent := f.sent + x, cuts := f.cuts + 1 } :: l]

theorem endFrame_run_cut {s : State} {p c x : Nat} {f : QueuedFrame} (hcurrent : (s.mac p).current = some (c, f))
    (hcut : (s.mac p).cutAt = some x) : (endFrame p).run s = (fragmentLeaves p c f x (s.fragmentOf p f x)).run s := by
  rw [endFrame, Eff.run_look]
  simp only [hcurrent, hcut, fragmentLeaves, Eff.run_seq, Eff.run_all_cons, Eff.run_all_nil, State.fragmentOf]

theorem fragmentLeaves_run (p c : Nat) (f : QueuedFrame) (x : Nat) (part : Bytes) (s : State) :
    let t := (fragmentLeaves p c f x part).run s
    t.out = s.out ++ [.frame p part false false] ∧
    t.counter (fragmentItem (groveOf p)) = (s.counter (fragmentItem (groveOf p)) + 1) % 18446744073709551616 :=
  ⟨rfl, count_run_same _ s⟩

/-- When the last bit of a fragment has passed, the fragment leaves and is counted. -/
theorem exec_macFree_fragment {s : State} {p c x : Nat} {f : QueuedFrame} (hoperating : s.operating = true)
    (hgrove : s.groveOn (groveOf p) = true) (hcurrent : (s.mac p).current = some (c, f)) (hcut : (s.mac p).cutAt = some x)
    (hleaving : (s.seg p).leaving = []) :
    ∃ t, exec (.macFree ⟨p, false⟩) s = .next t ∧ s.out ++ [.frame p (s.fragmentOf p f x) false false] <+: t.out ∧
      t.counter (groveItem (groveOf p) 5) = (s.counter (groveItem (groveOf p) 5) + 1) % 18446744073709551616 := by
  refine ⟨_, rfl, ?_⟩
  obtain ⟨m, -, hrun⟩ := macBecomesFree_run_busy hgrove hcurrent hleaving false
  have hend : (endFrame p).run (s.withSegments m) = (fragmentLeaves p c f x (s.fragmentOf p f x)).run (s.withSegments m) :=
    endFrame_run_cut (s := s.withSegments m) hcurrent hcut
  rw [Bool.false_and, if_neg Bool.false_ne_true, hend] at hrun
  obtain ⟨hout, hitem⟩ := fragmentLeaves_run p c f x (s.fragmentOf p f x) (s.withSegments m)
  rw [Eff.run_seq, flush_groveItem, flush_out, operating_run hoperating, hrun, (pickFrame_picks p).out_run _ rfl, hout]
  exact ⟨List.prefix_rfl, (pickFrame_spares p (groveOf p) _).trans hitem⟩

/-! ## A collision -/

/-- After a collision that is not the last attempt's the frame goes back to where it came from, for a back-off. -/
def backsOff (s : State) (p : Nat) (x : Nat × QueuedFrame) (v : Nat) : Eff :=
  .all [
    macSet p fun m => { m with
      current := none, tries := m.tries + 1
      backoffEnd := s.now + v % 2 ^ min maxBackoff (m.tries + 1) * nsUnits (512 * s.bitTime p) },
    if (s.mac p).moved then segSet p fun g => { g with overflow := x :: g.overflow }
    else queueSet (classQueue p x.1) fun l => { x.2 with began := none } :: l,
    .when (s.plcaRules p) (plcaSet p fun a => { a with expires := s.now })]

theorem collided_run {s : State} {p : Nat} {x : Nat × QueuedFrame} (hcurrent : (s.mac p).current = some x)
    (htries : (s.mac p).tries < 15) : (collided p).run s =
      (backsOff s p x (Config.freeValue s.freeUsed)).run ((count (portItem p 7)).run ((Eff.upd .useFree).run s)) := by
  have hmore : ¬maxAttempts ≤ (s.mac p).tries + 1 := by
    unfold maxAttempts
    omega
  rw [collided, Eff.run_look]
  dsimp only
  rw [hcurrent]
  simp only [Eff.ofOption, withFree, Eff.run_look, Eff.run_seq, if_neg hmore, backsOff]

theorem backsOff_spares (s : State) (p : Nat) (x : Nat × QueuedFrame) (v i : Nat) :
    (backsOff s p x v).Spares fun u => u.counter i := by
  refine .cons (fun _ => rfl) (.cons ?_ (.cons (.when fun _ => rfl) .nil))
  exact .ite (fun _ => rfl) fun _ => rfl

/-- After a collision on an SG port nothing has been sent, and the collision is counted. -/
theorem exec_macFree_collision {s : State} {p c : Nat} {f : QueuedFrame} (hoperating : s.operating = true) (hsg : isSG p = true)
    (hgrove : s.groveOn (groveOf p) = true) (hcurrent : (s.mac p).current = some (c, f)) (htries : (s.mac p).tries < 15)
    (hleaving : (s.seg p).leaving = []) :
    ∃ t, exec (.macFree ⟨p, true⟩) s = .next t ∧ t.out = s.out ∧
      t.counter (portItem p 7) = (s.counter (portItem p 7) + 1) % 18446744073709551616 ∧
      t.counter (portItem p 2) = s.counter (portItem p 2) := by
  refine ⟨_, rfl, ?_⟩
  obtain ⟨m, -, hrun⟩ := macBecomesFree_run_busy hgrove hcurrent hleaving true
  have hcollided := collided_run (s := s.withSegments m) (p := p) hcurrent htries
  have hwithin := collided_within (Mask.Le.refl _) (p := p)
  have hitem : ((collided p).run (s.withSegments m)).counter (portItem p 7) =
      (s.counter (portItem p 7) + 1) % 18446744073709551616 := by
    rw [hcollided]
    exact (backsOff_spares _ _ _ _ _ _).trans (count_run_same _ _)
  rw [Bool.true_and, if_pos hsg] at hrun
  rw [Eff.run_seq, flush_portItem, flush_portItem, flush_out, operating_run hoperating, hrun, (pickFrame_picks p).out_run _ rfl,
    hwithin.out_run _ rfl, (pickFrame_picks p).keeps_portItem _ p (by decide +kernel), hitem,
    (pickFrame_picks p).keeps_portItem _ p (by decide +kernel), hwithin.keeps_portItem _ p (by decide +kernel)]
  exact ⟨rfl, rfl, rfl⟩

/-! ## A head frame starts -/

/-- What is read of a queue and of its port's MAC, with the instant. -/
def lineAt (p q : Nat) (s : State) : List QueuedFrame × Mac × Nat := (s.queued q, s.mac p, s.now)

/-- What is passed over changes at most a frame's mark in its own queue. -/
theorem noteHeld_spares_other {p c q : Nat} (hq : q ≠ classQueue p c) : (noteHeld p c).Spares (lineAt p q) := by
  have hqueue (f : List QueuedFrame → List QueuedFrame) : (queueSet (classQueue p c) f).Spares (lineAt p q) := fun s => by
    have hother : ((queueSet (classQueue p c) f).run s).queued q = s.queued q := PMap.getD_set_other _ _ _ _ _ hq
    rw [lineAt, hother]
    rfl
  refine .look fun s => ?_
  dsimp only
  split
  · exact .ite .skip (.ite (fun _ => rfl) (.when (.cons (fun _ => rfl) (.cons (fun _ => rfl)
      (.cons (.when fun _ => rfl) (.cons (hqueue _) .nil))))))
  · exact .skip

theorem inProgress_run (p c q : Nat) (moved : Bool) (f : QueuedFrame) (s : State) :
    let t := (inProgress p c moved f).run s
    t.queued q = s.queued q ∧ (t.mac p).current = some (c, { f with began := some (f.began.getD s.now) }) ∧
      (t.mac p).startedAt = s.now := by
  have hstarted := hostStarted_within (Mask.Le.refl _) (o := f.origin)
  dsimp only
  rw [inProgress, Eff.run_look, Eff.run_seq, State.queued_congr (congrArg Traffic.queues (hstarted.traffic_run _ rfl)),
    State.mac_congr (congrArg Traffic.macs (hstarted.traffic_run _ rfl)), macSet_run_mac]
  exact ⟨rfl, rfl, rfl⟩

/-- What happens to the chosen class as its head frame starts, before the MAC has it. -/
def leavesQueue (s : State) (p c : Nat) (f : QueuedFrame) : Eff :=
  .all [burstFrame p, chargeShaper (classQueue p c) (if f.sent = 0 then (s.counted p (frameLen f.data) : Int) else 24),
    popHead (classQueue p c),
    if f.sent = 0 then .all [raiseMark (classQueue p c) 2 ((s.now - f.enqueued) / 65536), groveCount p 1, sampleFrame p c f]
    else groveCount p 6]

theorem startFrame_run (p c : Nat) (f : QueuedFrame) (s : State) :
    (startFrame p c f).run s = (inProgress p c false f).run ((leavesQueue s p c f).run s) := rfl

theorem leavesQueue_run (p c : Nat) (f : QueuedFrame) (s : State) :
    let t := (leavesQueue s p c f).run s
    t.queued (classQueue p c) = (s.queued (classQueue p c)).drop 1 ∧ t.now = s.now := by
  have hburst := burstFrame_within (Mask.Le.refl _) (p := p)
  have hmark (v : Nat) := raiseMark_within (Mask.Le.refl _) (q := classQueue p c) (col := 2) (v := v)
  have hsample := sampleFrame_within (Mask.Le.refl _) (p := p) (c := c) (f := f)
  have hnoted : (if f.sent = 0 then Eff.all [raiseMark (classQueue p c) 2 ((s.now - f.enqueued) / 65536), groveCount p 1,
      sampleFrame p c f] else groveCount p 6).Spares fun u => (u.traffic, u.clock) := by
    refine .ite (.cons (fun u => ?_) (.cons (fun _ => rfl) (.cons (fun u => ?_) .nil))) fun _ => rfl
    · rw [(hmark _).traffic_run u rfl, (hmark _).clock_run rfl u]
    · rw [hsample.traffic_run u rfl, hsample.clock_run rfl u]
  dsimp only
  rw [leavesQueue]
  simp only [Eff.run_all_cons, Eff.run_all_nil]
  have htaken : ∃ u : State, (chargeShaper (classQueue p c) (if f.sent = 0 then (s.counted p (frameLen f.data) : Int) else 24)).run
      ((burstFrame p).run s) = u ∧ u.traffic.queues = s.traffic.queues ∧ u.clock = s.clock := by
    refine ⟨_, rfl, ?_, ?_⟩
    · have hcharge (x : Int) (v : State) : ((chargeShaper (classQueue p c) x).run v).traffic.queues = v.traffic.queues := rfl
      rw [hcharge, hburst.traffic_run s rfl]
    · exact hburst.clock_run rfl s
  obtain ⟨u, hrun, hqueues, hclock⟩ := htaken
  rw [hrun]
  obtain ⟨htraffic, hclock'⟩ := Prod.ext_iff.1 (hnoted ((popHead (classQueue p c)).run u))
  constructor
  · rw [State.queued_congr (congrArg Traffic.queues htraffic)]
    have hpop : ((popHead (classQueue p c)).run u).queued (classQueue p c) = (u.queued (classQueue p c)).drop 1 :=
      PMap.getD_set_same _ _ _ _
    rw [hpop, State.queued_congr hqueues]
  · exact congrArg Clock.units (hclock'.trans hclock)

/-- The frame of a class that has been chosen is in progress, and has left its queue. -/
theorem startFrame_run_line (p c : Nat) (f : QueuedFrame) (s : State) :
    let t := (startFrame p c f).run s
    t.queued (classQueue p c) = (s.queued (classQueue p c)).drop 1 ∧
      (t.mac p).current = some (c, { f with began := some (f.began.getD s.now) }) ∧ (t.mac p).startedAt = s.now := by
  obtain ⟨hqueue, hnow⟩ := leavesQueue_run p c f s
  obtain ⟨hqueue', hcurrent, hstarted⟩ := inProgress_run p c (classQueue p c) false f ((leavesQueue s p c f).run s)
  rw [startFrame_run]
  refine ⟨hqueue'.trans hqueue, ?_, hstarted.trans hnow⟩
  rw [hcurrent, hnow]

/-- The scheduler starts the head frame of the first eligible class. -/
theorem schedule_run_line {s : State} {p c : Nat} {f : QueuedFrame} (hfind : ((s.classOrder p).find? fun d => s.eligible p d) = some c)
    (hhead : (s.queued (classQueue p c)).head? = some f) :
    let t := (schedule s p).run s
    t.queued (classQueue p c) = (s.queued (classQueue p c)).drop 1 ∧
      (t.mac p).current = some (c, { f with began := some (f.began.getD s.now) }) ∧ (t.mac p).startedAt = s.now := by
  have hc : c < 8 := mem_classOrder_lt (List.mem_of_find?_eq_some hfind)
  have hpassed : lineAt p (classQueue p c) ((Eff.forEach ((s.classOrder p).takeWhile fun c' => c' != c) (noteHeld p)).run s) =
      lineAt p (classQueue p c) s := by
    refine Eff.forEach_keeps_mem _ (fun d hd u => noteHeld_spares_other ?_ u) s
    have hne : d ≠ c := bne_iff_ne.1 (List.mem_takeWhile_imp (p := fun c' => c' != c) hd)
    unfold classQueue
    omega
  obtain ⟨g, hq⟩ := List.head?_eq_some_iff.1 hhead
  have hrun : (schedule s p).run s = (startFrame p c f).run
      ((Eff.forEach ((s.classOrder p).takeWhile fun c' => c' != c) (noteHeld p)).run s) := by
    rw [schedule, hfind]
    dsimp only
    rw [Eff.run_seq, hq]
  rw [hrun]
  generalize (Eff.forEach ((s.classOrder p).takeWhile fun c' => c' != c) (noteHeld p)).run s = u at *
  rw [lineAt, lineAt, Prod.mk.injEq, Prod.mk.injEq] at hpassed
  obtain ⟨hqueue, -, hnow⟩ := hpassed
  rw [← hqueue, ← hnow]
  exact startFrame_run_line p c f u

theorem noSa_of_headsStand {s : State} {p c : Nat} {f : QueuedFrame} (hc : c < 8) (hstand : s.headsStand p = true)
    (hhead : (s.queued (classQueue p c)).head? = some f) : s.noSa p = false := by
  have hdoom := List.all_eq_true.1 hstand c (List.mem_range.2 hc)
  rw [hhead, Option.all_some, State.headDoom] at hdoom
  cases hsa : s.noSa p with
  | false => rfl
  | true =>
    rw [hsa] at hdoom
    split at hdoom <;> cases hdoom

/-- When a launch time comes on an idle MAC that may transmit, the first eligible class starts its head frame. -/
theorem exec_launchTimeReached_starts {s : State} {p c : Nat} {f : QueuedFrame} (k : Nat) (hoperating : s.operating = true)
    (hc : c < 8) (hidle : (s.mac p).current = none) (hmay : s.mayTransmit p = true) (hcontends : s.contends p = false)
    (hwrapped : s.laneWrapped p = false) (hbackoff : (s.mac p).backoffEnd ≤ s.now) (howed : (s.gptpPort p).owed = [])
    (hover : (s.seg p).overflow = []) (hstand : s.headsStand p = true)
    (hfind : ((s.classOrder p).find? fun d => s.eligible p d) = some c) (hhead : (s.queued (classQueue p c)).head? = some f) :
    ∃ t, exec (.launchTimeReached p k) s = .next t ∧
      (t.mac p).current = some (c, { f with began := some (f.began.getD s.now) }) ∧ (t.mac p).startedAt = s.now ∧
      t.queued (classQueue p c) = (s.queued (classQueue p c)).drop 1 ∧ t.out = s.out := by
  refine ⟨_, rfl, ?_⟩
  have hkick : (kick p).run s = (schedule s p).run s := by
    have hsa : (movedWithoutSa p).run s = s := by
      rw [movedWithoutSa, Eff.run_whenS, noSa_of_headsStand hc hstand hhead, if_neg Bool.false_ne_true]
    have hpick : (pickFrame p).run s = (schedule s p).run s := by
      rw [pickFrame, Eff.run_whenS, if_pos (by rw [hidle, hmay, decide_eq_true hbackoff]; rfl), Eff.run_seq, hsa, Eff.run_look, hover,
        List.find?_nil]
      dsimp only
      rw [hwrapped, Bool.not_false, Eff.run_when_true, pickQueued_run_stands howed hstand]
    rw [kick, Eff.run_look, hidle]
    dsimp only
    rw [whereIdle, Eff.run_look, hcontends, if_neg Bool.false_ne_true, hpick]
  have hout : ((kick p).run s).out = s.out := (kick_within (Mask.Le.refl _)).out_run s rfl
  obtain ⟨hqueue, hcurrent, hstarted⟩ := schedule_run_line hfind hhead
  rw [Eff.run_seq, flush_mac, flush_out, State.queued_congr (congrArg Traffic.queues (flush_within.traffic_run _ rfl)),
    operating_run hoperating, hout, hkick]
  exact ⟨hcurrent, hstarted, hqueue, rfl⟩

/-- Settles O30. -/
theorem macSendsWhatMayStart : Obligations.MacSendsWhatMayStart := by
  unfold Obligations.MacSendsWhatMayStart
  refine ⟨?_, ?_, ?_, ?_⟩
  · intro s p c f hoperating _ hgrove hcurrent hcut hquiet howed hleaving hover hempty
    exact exec_macFree_whole hoperating hgrove hcurrent hcut hquiet howed hleaving hover hempty
  · intro s p c f x hoperating _ hgrove hcurrent hcut hleaving
    exact exec_macFree_fragment hoperating hgrove hcurrent hcut hleaving
  · intro s p c f hoperating _ hsg hgrove hcurrent htries hleaving
    exact exec_macFree_collision hoperating hsg hgrove hcurrent htries hleaving
  · intro s p k c f hoperating _ hc hidle hmay hcontends hwrapped hbackoff howed hover hstand hfind hhead
    exact exec_launchTimeReached_starts k hoperating hc hidle hmay hcontends hwrapped hbackoff howed hover hstand hfind hhead

end Sys2Proof.Machine

/-! # The coppice (R311) -/

namespace Sys2Proof.Machine

/-! ## Messages of the twin -/

theorem stackCarries_iff {s : State} {port : Nat} : s.stackCarries port = true ↔ s.stackUsable port = true ∧
    s.stackBarred port = false ∧ s.stackVerifies port = true ∧ s.noSa (256 + port) = false := by
  simp only [State.stackCarries, Bool.and_eq_true, Bool.not_eq_true', and_assoc]

/-- A message of the twin that a stack port carries is taken, and counted as received. -/
theorem stackArrives_run {s : State} {port : Nat} (h : s.stackCarries port = true) (e : Eff) :
    (stackArrives port e).run s = e.run ((count (twinItem 27)).run s) := by
  obtain ⟨husable, hbarred, hverifies, -⟩ := stackCarries_iff.1 h
  rw [stackArrives, Eff.run_look, husable, hbarred, Bool.not_false, Bool.and_self, Eff.run_when_true, if_pos hverifies, Eff.run_seq]

/-- A message of the twin leaves on a stack port that carries it, of a half that has not failed. -/
theorem sendOnStack_run {s : State} {port : Nat} (husable : s.stackUsable port = true) (hbarred : s.stackBarred port = false)
    (hsa : s.noSa (256 + port) = false) (hstate : s.twinState ≠ twFailed) (stepRecord : Bool) (e : Emission) :
    (sendOnStack port stepRecord e).run s =
      (Eff.all [count (twinItem 26), emit e, usePacketNumber (256 + port)]).run s := by
  rw [sendOnStack, Eff.run_look, husable, hbarred, hsa, bne_iff_ne.2 hstate, Bool.or_true]
  rfl

theorem usePacketNumber_run_unsecured {s : State} {p : Nat} (h : s.on 0xA020 1 p = false) : (usePacketNumber p).run s = s := by
  rw [usePacketNumber, Eff.run_look]
  split
  · simp only [h, Bool.false_and, Eff.run_when_false]
  · rfl

/-! ## Twin states -/

theorem setTwinState_run_state {s : State} (h : s.twinState ≠ twFailed) (new : Nat) :
    ((setTwinState new).run s).twinState = new := by
  rw [setTwinState, Eff.run_whenS]
  by_cases hsame : s.twinState = new
  · rw [hsame, bne_self_eq_false, Bool.false_and, if_neg Bool.false_ne_true]
    exact hsame
  · rw [if_pos (by rw [bne_iff_ne.2 hsame, bne_iff_ne.2 h]; rfl), Eff.run_seq]
    exact setN_run_n _ _ _ _ s

/-- A change of the twin state raises one event; with no change none. -/
theorem setTwinState_hasRaised (new : Nat) (s : State) : ∃ l, l.length ≤ 1 ∧ s.hasRaised ((setTwinState new).run s) l := by
  rw [setTwinState, Eff.run_whenS]
  split
  · exact ⟨[⟨0, 832, 0, new, none⟩], Nat.le_refl 1, rfl, rfl, rfl⟩
  · exact ⟨[], Nat.zero_le 1, .refl s⟩

theorem setTwinState_run_twin (new : Nat) (s : State) : ((setTwinState new).run s).twin = s.twin := by
  rw [setTwinState, Eff.run_whenS]
  split
  · rfl
  · rfl

theorem setTwinState_run_counter (new : Nat) (s : State) {i : Nat} (h : i ≠ commonsItem 70) :
    ((setTwinState new).run s).counter i = s.counter i := by
  rw [setTwinState, Eff.run_whenS]
  split
  · rw [Eff.run_seq, raise_run_counter 832 new h]
    rfl
  · rfl

theorem twinState_of_coppiced {s : State} (h : s.coppiced = true) : s.twinState = twSyncing := by
  rw [State.coppiced, Bool.and_eq_true, beq_iff_eq] at h
  exact h.2

theorem twinHalf_of_coppiced {s : State} (h : s.coppiced = true) : s.twinHalf = true := by
  rw [State.coppiced, Bool.and_eq_true] at h
  exact h.1

/-! ## At the holder -/

theorem exec_coppiceRequest {s : State} {fw : Nat} {digests : List Nat} (hoperating : s.operating = true) (hhalf : s.twinHalf = true)
    (hcarries : s.stackCarries s.twinPort = true) (hheld : s.leaseHeld = true) (hfw : fw = s.n 0x1000 5)
    (hdigests : digests = (List.range 8).map s.shownDigest) :
    ∃ t, exec (.coppiceRequest fw digests) s = .next t ∧ t.twin.coppice.serving = some (s.cycle + 2) ∧
      t.twin.coppice.mirrored = [] ∧ t.twin.coppice.since = s.elapsed ∧ t.out = s.out := by
  refine ⟨_, rfl, ?_⟩
  rw [Eff.run_seq, flush_twin, flush_out, operating_run hoperating, coppiceAsked, Eff.run_look, hhalf, Eff.run_when_true,
    stackArrives_run hcarries, hheld, Eff.run_when_true, if_neg (by rw [hfw, hdigests]; simp)]
  exact ⟨rfl, rfl, rfl, rfl⟩

/-- What a chunk's way to the peer rests on. -/
def State.sendsTo (s : State) (port : Nat) : Prop :=
  s.twinPort = port ∧ s.stackUsable port = true ∧ s.stackBarred port = false ∧ s.noSa (256 + port) = false ∧
    s.twinState ≠ twFailed ∧ s.on 0xA020 1 (256 + port) = false

/-- A chunk leaves as one message. -/
theorem sendChunk_run {s : State} {port : Nat} (h : s.sendsTo port) (parts : List SnapPart) (last : Bool) :
    let t := (sendChunk parts last).run s
    t.sendsTo port ∧ t.out.length = s.out.length + 1 ∧ t.events = s.events ∧ t.counter (twinItem 22) = s.counter (twinItem 22) := by
  obtain ⟨hport, husable, hbarred, hsa, hstate, hopen⟩ := h
  have hrun : (sendChunk parts last).run s = (sendOnStack port false (.snapshot port (s.n 0x9021 2) parts last)).run
      ((countN (twinItem 25) (parts.foldl (fun n p => n + partLength p) 0)).run s) := by
    rw [sendChunk, Eff.run_look, Eff.run_seq, hport]
  have hitem := countN_run_other (i := twinItem 22) (by decide) (item := twinItem 25) (parts.foldl (fun n p => n + partLength p) 0) s
  have hcounted : ((countN (twinItem 25) (parts.foldl (fun n p => n + partLength p) 0)).run s).sendsTo port :=
    ⟨hport, husable, hbarred, hsa, hstate, hopen⟩
  have hout : ((countN (twinItem 25) (parts.foldl (fun n p => n + partLength p) 0)).run s).out = s.out := rfl
  have hevents : ((countN (twinItem 25) (parts.foldl (fun n p => n + partLength p) 0)).run s).events = s.events := rfl
  dsimp only
  rw [hrun, ← hitem, ← hout, ← hevents]
  generalize (countN (twinItem 25) (parts.foldl (fun n p => n + partLength p) 0)).run s = u at *
  obtain ⟨hport', husable', hbarred', hsa', hstate', hopen'⟩ := hcounted
  have hopen'' : ((emit (.snapshot port (s.n 0x9021 2) parts last)).run ((count (twinItem 26)).run u)).on 0xA020 1 (256 + port) =
      false := hopen'
  rw [sendOnStack_run husable' hbarred' hsa' hstate', Eff.run_all_cons, Eff.run_all_cons, Eff.run_all_cons, Eff.run_all_nil,
    usePacketNumber_run_unsecured hopen'']
  exact ⟨⟨hport', husable', hbarred', hsa', hstate', hopen'⟩, List.length_append, rfl, count_run_other (by decide) _⟩

/-- The chunks leave one after the other. -/
theorem sendChunks_run {port : Nat} (l : List (SnapPart × Nat)) (n : Nat) {s : State} (h : s.sendsTo port) :
    let t := (Eff.forEach l fun p => sendChunk [p.1] (p.2 + 1 == n)).run s
    t.out.length = s.out.length + l.length ∧ t.events = s.events ∧ t.counter (twinItem 22) = s.counter (twinItem 22) := by
  induction l generalizing s with
  | nil => exact ⟨rfl, rfl, rfl⟩
  | cons a l ih =>
    obtain ⟨hsends, hout, hevents, hitem⟩ := sendChunk_run h [a.1] (a.2 + 1 == n)
    obtain ⟨hout', hevents', hitem'⟩ := ih hsends
    dsimp only
    rw [Eff.run_forEach_cons]
    refine ⟨?_, hevents'.trans hevents, hitem'.trans hitem⟩
    rw [hout', hout, List.length_cons, Nat.add_assoc, Nat.add_comm 1]

/-- The boundary of the snapshot, before the chunks leave. -/
def snapshotBegins : Eff :=
  .all [raise 845, count (twinItem 22), .upd (.twin fun t => { t with coppice := { t.coppice with mirrored := [] } })]

theorem takeSnapshot_run {s : State} (hhalf : s.twinHalf = true) (hheld : s.leaseHeld = true)
    (hserving : s.twin.coppice.serving = some s.cycle) :
    takeSnapshot.run s = (Eff.forEach (withinBytes snapshotLimit s.snapshotParts).zipIdx fun p =>
      sendChunk [p.1] (p.2 + 1 == (withinBytes snapshotLimit s.snapshotParts).length)).run (snapshotBegins.run s) := by
  simp only [takeSnapshot, Eff.run_look, hhalf, hheld, hserving, beq_self_eq_true, Bool.and_self, Eff.run_when_true,
    snapshotBegins, Eff.run_all_cons, Eff.run_all_nil]

theorem exec_coppiceSnapshot {s : State} (hoperating : s.operating = true) (hhalf : s.twinHalf = true)
    (hcarries : s.stackCarries s.twinPort = true) (hheld : s.leaseHeld = true) (hserving : s.twin.coppice.serving = some s.cycle)
    (hstate : s.twinState ≠ twFailed) (hopen : s.on 0xA020 1 (256 + s.twinPort) = false) (hroom : s.room 5) :
    ∃ t, exec .coppiceSnapshot s = .next t ∧
      t.out.length = s.out.length + (withinBytes snapshotLimit s.snapshotParts).length ∧ s.records t 845 0 ∧
      t.counter (twinItem 22) = (s.counter (twinItem 22) + 1) % 18446744073709551616 := by
  refine ⟨_, rfl, ?_⟩
  obtain ⟨husable, hbarred, -, hsa⟩ := stackCarries_iff.1 hcarries
  have hsends : (snapshotBegins.run s).sendsTo s.twinPort := ⟨rfl, husable, hbarred, hsa, hstate, hopen⟩
  have hraised : s.hasRaised (snapshotBegins.run s) [⟨0, 845, 0, 0, none⟩] := ⟨rfl, rfl, rfl⟩
  have hitem : (snapshotBegins.run s).counter (twinItem 22) = (s.counter (twinItem 22) + 1) % 18446744073709551616 := by
    rw [snapshotBegins, Eff.run_all_cons, Eff.run_all_cons]
    refine (count_run_same _ _).trans ?_
    rw [raise_run_counter _ _ (by decide)]
  have hout : (snapshotBegins.run s).out = s.out := rfl
  obtain ⟨hlength, hevents, hitem'⟩ := sendChunks_run (withinBytes snapshotLimit s.snapshotParts).zipIdx
    (withinBytes snapshotLimit s.snapshotParts).length hsends
  rw [Eff.run_seq, operating_run hoperating, takeSnapshot_run hhalf hheld hserving, flush_out, flush_counter _ _ (by decide), hlength,
    hitem', hitem, hout, List.length_zipIdx]
  exact ⟨rfl, (hraised.trans_quiet (.of_events_eq hevents)).records hroom (by decide) ⟨_, List.mem_singleton_self _, rfl, rfl⟩
    (by decide) (by decide), rfl⟩

/-! ## At the half that takes it -/

theorem exec_snapshotChunk {s : State} {parts : List SnapPart} (hoperating : s.operating = true) (hcoppiced : s.coppiced = true)
    (hcarries : s.stackCarries s.twinPort = true) (hloaded : s.twin.coppice.loaded = false) :
    ∃ t, exec (.snapshotChunk parts false) s = .next t ∧ t.twin.coppice.parts = s.twin.coppice.parts ++ parts ∧
      t.twin.coppice.loaded = false ∧ t.od = s.od := by
  refine ⟨_, rfl, ?_⟩
  rw [Eff.run_seq, flush_twin, flush_od, operating_run hoperating, chunkArrives, Eff.run_look, twinHalf_of_coppiced hcoppiced,
    Eff.run_when_true, stackArrives_run hcarries, hcoppiced, hloaded]
  exact ⟨rfl, hloaded, rfl⟩

/-- The whole snapshot stands with the half. -/
def snapshotStands (parts : List SnapPart) : Eff :=
  .seq (.upd (.twin fun t => { t with coppice := { t.coppice with parts := parts, loaded := true } })) (setN 0x9021 0xA 50)

theorem loadSnapshot_run (parts : List SnapPart) (s : State) : ∃ u, (loadSnapshot parts).run s = (snapshotStands parts).run u := by
  simp only [loadSnapshot, snapshotStands, Eff.run_all_cons, Eff.run_all_nil, Eff.run_seq]
  exact ⟨_, rfl⟩

theorem exec_snapshotChunk_last {s : State} {parts : List SnapPart} (hoperating : s.operating = true) (hcoppiced : s.coppiced = true)
    (hcarries : s.stackCarries s.twinPort = true) (hloaded : s.twin.coppice.loaded = false)
    (hparts : s.twin.coppice.parts ++ parts ≠ []) :
    ∃ t, exec (.snapshotChunk parts true) s = .next t ∧ t.twin.coppice.parts = s.twin.coppice.parts ++ parts ∧
      t.twin.coppice.loaded = true ∧ t.n 0x9021 0xA = 50 := by
  refine ⟨_, rfl, ?_⟩
  obtain ⟨u, hu⟩ := loadSnapshot_run (s.twin.coppice.parts ++ parts) ((count (twinItem 27)).run s)
  have hsome : (s.twin.coppice.parts ++ parts).isEmpty = false := by
    rw [← Bool.not_eq_true, List.isEmpty_iff]
    exact hparts
  have hrun : (chunkArrives parts true).run s = (snapshotStands (s.twin.coppice.parts ++ parts)).run u := by
    simp only [chunkArrives, Eff.run_look, twinHalf_of_coppiced hcoppiced, Eff.run_when_true, stackArrives_run hcarries, hcoppiced,
      hloaded, hsome, Bool.not_false, Bool.and_self, Bool.and_false, Bool.false_eq_true, if_false, if_true, hu]
  rw [Eff.run_seq, flush_twin, flush_n, operating_run hoperating, hrun, snapshotStands, Eff.run_seq, setN_run_n]
  exact ⟨rfl, rfl, rfl⟩

/-- A coppice that fails leaves nothing of it, and its half SILENT. -/
theorem coppiceFails_run {s : State} (hstate : s.twinState ≠ twFailed) (reason : Nat) :
    let t := (coppiceFails reason).run s
    t.twinState = twSilent ∧ t.twin.coppice.parts = [] ∧ t.twin.coppice.log = [] ∧
      t.counter (twinItem 24) = (s.counter (twinItem 24) + 1) % 18446744073709551616 ∧
      ∃ l, l.length ≤ 1 ∧ s.hasRaised t (⟨0, 847, 0, reason, none⟩ :: l) := by
  have hbefore : ∃ u, (coppiceFails reason).run s = (setTwinState twSilent).run u ∧ u.twinState = s.twinState ∧
      u.twin.coppice.parts = [] ∧ u.twin.coppice.log = [] ∧
      u.counter (twinItem 24) = (s.counter (twinItem 24) + 1) % 18446744073709551616 ∧
      s.hasRaised u [⟨0, 847, 0, reason, none⟩] := by
    refine ⟨_, rfl, rfl, rfl, rfl, ?_, rfl, rfl, rfl⟩
    refine (count_run_same _ ((raise 847 reason).run s)).trans ?_
    rw [raise_run_counter _ _ (by decide)]
  obtain ⟨u, hrun, hsame, hparts, hlog, hitem, hraised⟩ := hbefore
  obtain ⟨l, hlength, hraised'⟩ := setTwinState_hasRaised twSilent u
  dsimp only
  rw [hrun, setTwinState_run_state (by rw [hsame]; exact hstate), setTwinState_run_twin, setTwinState_run_counter _ _ (by decide)]
  exact ⟨rfl, hparts, hlog, hitem, l, hlength, hraised.trans hraised'⟩

/-- An event raised among at most two is on record, where there is room. -/
theorem records_of_raised_first {s u : State} {source arg : Nat} {l : List Raised} (hlength : l.length ≤ 1)
    (h : s.hasRaised u (⟨0, source, 0, arg, none⟩ :: l)) (hroom : s.room 6) (hsource : source < 1024) (harg : arg < 2147483648) :
    s.records (flushEvents.run u) source arg :=
  h.records hroom (by rw [List.length_cons]; omega) ⟨_, List.mem_cons_self, rfl, rfl⟩ hsource harg

theorem exec_snapshotChunk_refusal {s : State} (hoperating : s.operating = true) (hcoppiced : s.coppiced = true)
    (hcarries : s.stackCarries s.twinPort = true) (hloaded : s.twin.coppice.loaded = false) (hparts : s.twin.coppice.parts = [])
    (hroom : s.room 6) :
    ∃ t, exec (.snapshotChunk [] true) s = .next t ∧ t.twinState = twSilent ∧
      (s.records t 847 (if (s.stackPort s.twinPort).firmware = s.n 0x1000 5 then 2 else 1)) ∧
      t.counter (twinItem 24) = (s.counter (twinItem 24) + 1) % 18446744073709551616 := by
  refine ⟨_, rfl, ?_⟩
  have hreason : (if (s.stackPort s.twinPort).firmware != s.n 0x1000 5 then 1 else 2) =
      (if (s.stackPort s.twinPort).firmware = s.n 0x1000 5 then 2 else 1) := by
    by_cases h : (s.stackPort s.twinPort).firmware = s.n 0x1000 5 <;> simp [h]
  have hrun : (chunkArrives [] true).run s = (coppiceFails (if (s.stackPort s.twinPort).firmware = s.n 0x1000 5 then 2 else 1)).run
      ((count (twinItem 27)).run s) := by
    simp only [chunkArrives, Eff.run_look, twinHalf_of_coppiced hcoppiced, Eff.run_when_true, stackArrives_run hcarries, hcoppiced,
      hloaded, hparts, List.append_nil, List.isEmpty_nil, Bool.not_false, Bool.and_self, if_true, hreason]
  have hsyncing : ((count (twinItem 27)).run s).twinState ≠ twFailed := by
    have hsame : ((count (twinItem 27)).run s).twinState = s.twinState := rfl
    rw [hsame, twinState_of_coppiced hcoppiced]
    decide
  have hcounted : s.hasRaised ((count (twinItem 27)).run s) [] := ⟨(List.append_nil _).symm, rfl, rfl⟩
  have hitem : ((count (twinItem 27)).run s).counter (twinItem 24) = s.counter (twinItem 24) := count_run_other (by decide) s
  obtain ⟨hsilent, -, -, hfailed, l, hlength, hraised⟩ :=
    coppiceFails_run hsyncing (if (s.stackPort s.twinPort).firmware = s.n 0x1000 5 then 2 else 1)
  have hstate (u : State) : (flushEvents.run u).twinState = u.twinState := flush_n u _ _ _
  rw [Eff.run_seq, hstate, flush_counter _ _ (by decide), operating_run hoperating, hrun, hfailed, hitem]
  exact ⟨hsilent, records_of_raised_first hlength (hcounted.quiet_trans hraised) hroom (by decide) (by split <;> decide), rfl⟩

theorem exec_logChunk {s : State} (n : Nat) (mirrors : List MirrorMsg) (views : List ViewData) (hoperating : s.operating = true)
    (hcoppiced : s.coppiced = true) (hcarries : s.stackCarries s.twinPort = true)
    (hroom : s.twin.coppice.log.length < s.n 0x9020 9) :
    ∃ t, exec (.logChunk n mirrors views) s = .next t ∧ t.twin.coppice.log = s.twin.coppice.log ++ [⟨n, mirrors, views⟩] ∧
      t.twinState = twSyncing := by
  refine ⟨_, rfl, ?_⟩
  have hstate (u : State) : (flushEvents.run u).twinState = u.twinState := flush_n u _ _ _
  rw [Eff.run_seq, flush_twin, hstate, operating_run hoperating, logArrives, Eff.run_look, twinHalf_of_coppiced hcoppiced,
    Eff.run_when_true, stackArrives_run hcarries, hcoppiced, Eff.run_when_true, if_neg (Nat.not_le_of_lt hroom)]
  exact ⟨rfl, twinState_of_coppiced hcoppiced⟩

/-! ## The end -/

/-- The holder that is told of the end serves no more. -/
def servingEnds (cycles : Nat) : Eff :=
  .all [.upd (.twin fun t => { t with coppice := { t.coppice with serving := none, mirrored := [] } }),
    raise 846 cycles, count (twinItem 23), setTwinState twActive]

theorem servingEnds_run {s : State} (hstate : s.twinState ≠ twFailed) (cycles : Nat) :
    let t := (servingEnds cycles).run s
    t.twin.coppice.serving = none ∧ t.twinState = twActive ∧
      ∃ l, l.length ≤ 1 ∧ s.hasRaised t (⟨0, 846, 0, cycles, none⟩ :: l) := by
  have hbefore : ∃ u, (servingEnds cycles).run s = (setTwinState twActive).run u ∧ u.twinState = s.twinState ∧
      u.twin.coppice.serving = none ∧ s.hasRaised u [⟨0, 846, 0, cycles, none⟩] := ⟨_, rfl, rfl, rfl, rfl, rfl, rfl⟩
  obtain ⟨u, hrun, hsame, hserving, hraised⟩ := hbefore
  obtain ⟨l, hlength, hraised'⟩ := setTwinState_hasRaised twActive u
  dsimp only
  rw [hrun, setTwinState_run_state (by rw [hsame]; exact hstate), setTwinState_run_twin]
  exact ⟨hserving, rfl, l, hlength, hraised.trans hraised'⟩

theorem exec_coppiceDone_holder {s : State} {b : Nat} (hoperating : s.operating = true) (hhalf : s.twinHalf = true)
    (hcarries : s.stackCarries s.twinPort = true) (hheld : s.leaseHeld = true) (halone : s.twinState = twAlone)
    (hserving : s.twin.coppice.serving = some b) (hroom : s.room 6) :
    ∃ t, exec .coppiceDone s = .next t ∧ t.twin.coppice.serving = none ∧ t.twinState = twActive ∧
      s.records t 846 ((s.cycle - b) % 256) := by
  refine ⟨_, rfl, ?_⟩
  have hsyncs : s.coppiced = false := by
    rw [State.coppiced, halone]
    exact Bool.and_false _
  have hrun : coppiceEnds.run s = (servingEnds ((s.cycle - b) % 256)).run ((count (twinItem 27)).run s) := by
    simp only [coppiceEnds, Eff.run_look, hsyncs, Bool.false_and, Bool.false_eq_true, if_false, hserving, hhalf, hheld, Bool.and_self,
      Eff.run_when_true, stackArrives_run hcarries, servingEnds]
  have hstands : ((count (twinItem 27)).run s).twinState ≠ twFailed := by
    have hsame : ((count (twinItem 27)).run s).twinState = s.twinState := rfl
    rw [hsame, halone]
    decide
  have hcounted : s.hasRaised ((count (twinItem 27)).run s) [] := ⟨(List.append_nil _).symm, rfl, rfl⟩
  obtain ⟨hnone, hactive, l, hlength, hraised⟩ := servingEnds_run hstands ((s.cycle - b) % 256)
  have hstate (u : State) : (flushEvents.run u).twinState = u.twinState := flush_n u _ _ _
  rw [Eff.run_seq, hstate, flush_twin, operating_run hoperating, hrun]
  exact ⟨hnone, hactive, records_of_raised_first hlength (hcounted.quiet_trans hraised) hroom (by decide) (by omega)⟩

/-- The views that a replay takes change the ring's views and their serials only. -/
theorem replayViews_spares {β : Type} {g : State → β} (hserial : nextSerial.Spares g)
    (hviews : ∀ f : Ring → Ring, (Eff.upd (.ring f)).Spares g) (views : List ViewData) : (replayViews views).Spares g := by
  refine .forEach fun v => .seq hserial (.look fun s => ?_)
  cases (s.sections s.mode).find? fun r => r.row == v.row with
  | none => exact .skip
  | some r => exact hviews _

/-- What a half that has replayed tells its peer by. -/
def State.telling (s : State) : Dictionary × List Emission × Twin × Kiln := (s.od, s.out, s.twin, s.kiln)

/-- A replay of nothing logged. -/
theorem replayLog_run_telling {s : State} (h : s.twin.coppice.log = []) : (replayLog.run s).telling = s.telling := by
  have hviews := replayViews_spares (g := State.telling) (fun _ => rfl) (fun _ _ => rfl) (viewsInParts s.twin.coppice.parts)
  rw [replayLog, Eff.run_look, h]
  exact hviews s

theorem stackUsable_congr {s t : State} (h : t.telling = s.telling) (port : Nat) : t.stackUsable port = s.stackUsable port := by
  have hod : t.od = s.od := congrArg Prod.fst h
  simp only [State.stackUsable, State.stackRuns, State.on, State.n, State.obj, State.key, hod]

theorem noSa_congr {s t : State} (h : t.telling = s.telling) (p : Nat) : t.noSa p = s.noSa p := by
  have hod : t.od = s.od := congrArg Prod.fst h
  have hkiln : t.kiln = s.kiln := congrArg (fun x => x.2.2.2) h
  simp only [State.noSa, State.on, State.obj, State.key, hod, hkiln]

theorem twinState_congr {s t : State} (h : t.telling = s.telling) : t.twinState = s.twinState := by
  have hod : t.od = s.od := congrArg Prod.fst h
  simp only [State.twinState, State.n, State.obj, State.key, hod]

theorem stackFrame_congr {s t : State} (h : t.telling = s.telling) (port type : Nat) (body : Bytes) :
    t.stackFrame port type body = s.stackFrame port type body := by
  have hod : t.od = s.od := congrArg Prod.fst h
  simp only [State.stackFrame, State.n, State.obj, State.key, hod]

/-- A half tells its peer by one message. -/
theorem sendStack_run_out {s : State} {port : Nat} (husable : s.stackUsable port = true) (hbarred : s.stackBarred port = false)
    (hsa : s.noSa (256 + port) = false) (hstate : s.twinState ≠ twFailed) (type : Nat) (body : Bytes) :
    let t := (sendStack port type body).run s
    t.out = s.out ++ [.stack port (s.stackFrame port type body)] ∧ t.twinState = s.twinState := by
  dsimp only
  have hsent : ∃ u : State, (sendStack port type body).run s = (usePacketNumber (256 + port)).run u ∧
      u.out = s.out ++ [.stack port (s.stackFrame port type body)] ∧ u.twinState = s.twinState := by
    rw [sendStack, Eff.run_look, sendOnStack_run husable hbarred hsa hstate]
    exact ⟨_, rfl, rfl, rfl⟩
  obtain ⟨u, hrun, hout, hsame⟩ := hsent
  have hpn := usePacketNumber_within (Mask.Le.refl _) (p := 256 + port)
  rw [hrun, hpn.out_run u rfl, State.twinState, hpn.n_run u (by decide +kernel)]
  exact ⟨hout, hsame⟩

/-- The half that has replayed joins. -/
def joinsStandby : Eff :=
  .all [setN 0x9021 0xA 100,
    .upd (.twin fun t => { t with coppice := { t.coppice with parts := [], log := [], loaded := false } }), setTwinState twStandby]

theorem joinsStandby_run {s : State} (hstate : s.twinState ≠ twFailed) :
    let t := joinsStandby.run s
    t.twinState = twStandby ∧ t.n 0x9021 0xA = 100 ∧ t.out = s.out ∧ t.twin.coppice.loaded = false := by
  have hbefore : ∃ u, joinsStandby.run s = (setTwinState twStandby).run u ∧ u.twinState = s.twinState ∧ u.n 0x9021 0xA = 100 ∧
      u.out = s.out ∧ u.twin.coppice.loaded = false := by
    refine ⟨_, rfl, ?_, setN_run_n _ _ _ _ s, rfl, rfl⟩
    have hother : ((setN 0x9021 0xA 100).run s).key ⟨0x9021, 0, 1⟩ = s.key ⟨0x9021, 0, 1⟩ := by
      rw [setN, setObj, Eff.run_upd, key_obj, if_neg (by decide)]
    exact congrArg Int.toNat hother
  obtain ⟨u, hrun, hsame, hprogress, hout, hloaded⟩ := hbefore
  dsimp only
  rw [hrun, setTwinState_run_state (by rw [hsame]; exact hstate), setTwinState_run_twin]
  have hwithin := setTwinState_within (Mask.Le.refl _) (new := twStandby)
  exact ⟨rfl, (hwithin.n_run u (by decide +kernel)).trans hprogress, (hwithin.out_run u rfl).trans hout, hloaded⟩

theorem exec_coppiceDone_loaded {s : State} (hoperating : s.operating = true) (hcoppiced : s.coppiced = true)
    (hcarries : s.stackCarries s.twinPort = true) (hloaded : s.twin.coppice.loaded = true) (hlog : s.twin.coppice.log = []) :
    ∃ t, exec .coppiceDone s = .next t ∧ t.twinState = twStandby ∧ t.n 0x9021 0xA = 100 ∧
      t.out = s.out ++ [.stack s.twinPort (s.stackFrame s.twinPort 0x23 [])] ∧ t.twin.coppice.loaded = false := by
  refine ⟨_, rfl, ?_⟩
  obtain ⟨husable, hbarred, -, hsa⟩ := stackCarries_iff.1 hcarries
  have hrun : coppiceEnds.run s = joinsStandby.run ((sendStack s.twinPort 0x23 []).run (replayLog.run s)) := by
    rw [coppiceEnds, Eff.run_look, hcoppiced, hloaded]
    rfl
  have htelling := replayLog_run_telling hlog
  have hsyncing : s.twinState ≠ twFailed := by
    rw [twinState_of_coppiced hcoppiced]
    decide
  have hstate (u : State) : (flushEvents.run u).twinState = u.twinState := flush_n u _ _ _
  rw [Eff.run_seq, hstate, flush_n, flush_out, flush_twin, operating_run hoperating, hrun]
  generalize replayLog.run s = u at *
  have htwin : u.twin = s.twin := congrArg (fun x => x.2.2.1) htelling
  have hout : u.out = s.out := congrArg (fun x => x.2.1) htelling
  have hbarred' : u.stackBarred s.twinPort = false := by
    rw [State.stackBarred, htwin]
    exact hbarred
  have hsyncing' : u.twinState ≠ twFailed := by
    rw [twinState_congr htelling]
    exact hsyncing
  obtain ⟨hsent, hsame⟩ := sendStack_run_out (by rw [stackUsable_congr htelling]; exact husable) hbarred'
    (by rw [noSa_congr htelling]; exact hsa) hsyncing' 0x23 []
  obtain ⟨hstandby, hprogress, hout', hdone⟩ := joinsStandby_run (s := (sendStack s.twinPort 0x23 []).run u) (by rw [hsame]; exact hsyncing')
  rw [hout', hsent, hout, stackFrame_congr htelling]
  exact ⟨hstandby, hprogress, rfl, hdone⟩

theorem exec_coppiceTimeout {s : State} (hoperating : s.operating = true) (hcoppiced : s.coppiced = true)
    (hafter : s.after s.twin.coppice.since (nsUnits (s.n 0x9020 0xA)) = true) (hroom : s.room 6) :
    ∃ t, exec .coppiceTimeout s = .next t ∧ t.twinState = twSilent ∧ t.twin.coppice.parts = [] ∧ t.twin.coppice.log = [] ∧
      s.records t 847 3 := by
  refine ⟨_, rfl, ?_⟩
  have hrun : coppiceTimesOut.run s = (coppiceFails 3).run s := by
    simp only [coppiceTimesOut, Eff.run_look, hafter, hcoppiced, Bool.not_true, Bool.false_eq_true, if_false, if_true]
  have hsyncing : s.twinState ≠ twFailed := by
    rw [twinState_of_coppiced hcoppiced]
    decide
  obtain ⟨hsilent, hparts, hlog, -, l, hlength, hraised⟩ := coppiceFails_run hsyncing 3
  have hstate (u : State) : (flushEvents.run u).twinState = u.twinState := flush_n u _ _ _
  rw [Eff.run_seq, hstate, flush_twin, operating_run hoperating, hrun]
  exact ⟨hsilent, hparts, hlog, records_of_raised_first hlength hraised hroom (by decide) (by decide)⟩

/-- Settles O48. -/
theorem coppicesAreServedAndTaken : Obligations.CoppicesAreServedAndTaken := by
  unfold Obligations.CoppicesAreServedAndTaken
  refine ⟨?_, ?_, ?_, ?_, ?_, ?_, ?_, ?_, ?_⟩
  · intro s fw digests hoperating hhalf hcarries hheld hfw hdigests
    exact exec_coppiceRequest hoperating hhalf hcarries hheld hfw hdigests
  · intro s hoperating hhalf hcarries hheld hserving hstate hopen hroom
    exact exec_coppiceSnapshot hoperating hhalf hcarries hheld hserving hstate hopen hroom
  · intro s parts hoperating hcoppiced hcarries hloaded
    exact exec_snapshotChunk hoperating hcoppiced hcarries hloaded
  · intro s parts hoperating hcoppiced hcarries hloaded hparts
    exact exec_snapshotChunk_last hoperating hcoppiced hcarries hloaded hparts
  · intro s hoperating hcoppiced hcarries hloaded hparts hroom
    exact exec_snapshotChunk_refusal hoperating hcoppiced hcarries hloaded hparts hroom
  · intro s n mirrors views hoperating hcoppiced hcarries hroom
    exact exec_logChunk n mirrors views hoperating hcoppiced hcarries hroom
  · intro s b hoperating hhalf hcarries hheld halone hserving hroom
    exact exec_coppiceDone_holder hoperating hhalf hcarries hheld halone hserving hroom
  · intro s hoperating hcoppiced hcarries hloaded hlog
    exact exec_coppiceDone_loaded hoperating hcoppiced hcarries hloaded hlog
  · intro s hoperating hcoppiced hafter hroom
    exact exec_coppiceTimeout hoperating hcoppiced hafter hroom

end Sys2Proof.Machine

/-! # What the Kiln sends (R336 to R338) -/

namespace Sys2Proof.Machine

/-! ## The frames of the Kiln that a port has still to send -/

/-- A frame of the Kiln by its origin and its bytes. -/
def QueuedFrame.asKiln (f : QueuedFrame) : Origin × Bytes := (f.origin, f.data)

/-- The frames of the Kiln that a port has still to send, the one in progress first. -/
def State.kilnLine (s : State) (p : Nat) : List (Origin × Bytes) :=
  ((((s.mac p).current.map Prod.snd).toList ++ (s.seg p).overflow.map Prod.snd).filter fun f => f.origin.ofKiln).map
    QueuedFrame.asKiln

theorem kilnLine_congr {s t : State} {p : Nat} (hmac : (t.mac p).current = (s.mac p).current)
    (hover : (t.seg p).overflow = (s.seg p).overflow) : t.kilnLine p = s.kilnLine p := by
  rw [State.kilnLine, hmac, hover]
  rfl

/-- Fragments of Kiln messages are told from MKPDUs by their origin. -/
theorem kilnOut_of_kilnLine (s : State) (p : Nat) :
    s.kilnOut p = ((s.kilnLine p).filter fun x => x.1 == .kiln).map Prod.snd := by
  rw [State.kilnOut, State.kilnLine]
  induction ((s.mac p).current.map Prod.snd).toList ++ (s.seg p).overflow.map Prod.snd with
  | nil => rfl
  | cons f l ih =>
    cases ho : f.origin <;> simp [ho, Origin.ofKiln, QueuedFrame.asKiln, ih]

/-- What a frame of the Kiln adds to the fragments that a port has still to send. -/
theorem kilnOut_of_append {s t : State} {p : Nat} {d : Bytes} (h : t.kilnLine p = s.kilnLine p ++ [(.kiln, d)]) :
    t.kilnOut p = s.kilnOut p ++ [d] := by
  rw [kilnOut_of_kilnLine, kilnOut_of_kilnLine, h, List.filter_append, List.map_append]
  rfl

/-- Taking the first frame that may go keeps the order of the Kiln's frames, all of which may go. -/
theorem filter_ofKiln_erase {P : Nat × QueuedFrame → Bool} (hP : ∀ x, x.2.origin.ofKiln = true → P x = true)
    {l : List (Nat × QueuedFrame)} {x : Nat × QueuedFrame} (h : l.find? P = some x) :
    ((x :: l.erase x).filter fun y => y.2.origin.ofKiln) = l.filter fun y => y.2.origin.ofKiln := by
  induction l with
  | nil => cases h
  | cons a l ih =>
    by_cases ha : P a = true
    · rw [List.find?_cons_of_pos ha] at h
      cases h
      rw [List.erase_cons_head]
    · rw [List.find?_cons_of_neg ha] at h
      have hx : P x = true := List.find?_some h
      have hne : a ≠ x := fun heq => ha (heq ▸ hx)
      have hskip : ¬a.2.origin.ofKiln = true := fun hk => ha (hP a hk)
      have hdrop (m : List (Nat × QueuedFrame)) : ((a :: m).filter fun y => y.2.origin.ofKiln) = m.filter fun y => y.2.origin.ofKiln :=
        List.filter_cons_of_neg hskip
      rw [List.erase_cons_tail (by simpa using hne), hdrop, ← ih h]
      simp only [List.filter_cons, if_neg hskip]

/-! ## A port with a frame of the Kiln to send picks -/

/-- What a port's choice among frames outside the class queues leaves: the events and the power side. -/
def State.calm (s : State) : Sequencer × PowerSide := (s.events, s.power)

theorem Eff.Within.sparesCalm {m : Mask} {e : Eff} (he : e.Within tables m) (h1 : m.parts.testBit Part.events.bit = false)
    (h2 : m.parts.testBit Part.power.bit = false) : e.Spares State.calm := fun s => by
  rw [State.calm, he.events_run s h1, he.power_run s h2]
  rfl

theorem movedWithoutSa_run_kiln (p : Nat) (s : State) : let t := (movedWithoutSa p).run s
    t.traffic = s.traffic ∧ t.calm = s.calm ∧
      ((t.seg p).overflow.filter fun x => x.2.origin.ofKiln) = (s.seg p).overflow.filter fun x => x.2.origin.ofKiln := by
  have hwithin := movedWithoutSa_within (Mask.Le.refl _) (p := p)
  refine ⟨hwithin.traffic_run s rfl, hwithin.sparesCalm rfl rfl s, ?_⟩
  rw [movedWithoutSa, Eff.run_whenS]
  split
  · have hends (l : List (Nat × QueuedFrame)) (n : Nat) (u : State) : ((Eff.forEach l fun x =>
        finishOrigin x.2.origin 0xA n p (x.1 % 8) (x.2.cuts != 0)).run u).seg p = u.seg p :=
      (Within.forEach fun _ => finishOrigin_within (Mask.Le.refl _)).seg_run u rfl p
    rw [Eff.run_look, Eff.run_seq, hends, segSet_run_seg, List.filter_filter]
    simp only [Bool.and_self]
  · rfl

theorem plcaSet_run_overflow (p q : Nat) (f : Plca → Plca) (s : State) :
    (((plcaSet p f).run s).seg q).overflow = (s.seg q).overflow := by
  by_cases hq : q = p
  · rw [hq, plcaSet, segSet_run_seg]
  · exact congrArg Segment.overflow (PMap.getD_set_other _ _ _ _ _ hq)

theorem burstFrame_run_overflow (p : Nat) (s : State) : (((burstFrame p).run s).seg p).overflow = (s.seg p).overflow := by
  rw [burstFrame, Eff.run_whenS]
  split
  · rw [Eff.run_look]
    exact plcaSet_run_overflow p p _ s
  · rfl

/-- A frame that starts outside the class queues is in progress, and stands no longer in its list. -/
theorem startMoved_run (p c : Nat) (f : QueuedFrame) (s : State) : let t := (startMoved p c f).run s
    t.calm = s.calm ∧ (∃ b, (t.mac p).current = some (c % 8, { f with began := b })) ∧
      (t.seg p).overflow = (s.seg p).overflow.erase (c, f) := by
  have hnoted (v : Nat) : (Eff.when (c < 8) (.seq (raiseMark (classQueue p c) 2 v) (sampleFrame p c f))).Within tables samplesMask := by
    have hm := Mask.Le.refl samplesMask
    exact Within.when (Within.seq (raiseMark_within (hm.via rfl rfl rfl)) (sampleFrame_within (hm.via rfl rfl rfl)))
  have hstarts := inProgress_within (Mask.Le.refl _) (p := p) (c := c % 8) (moved := true) (f := f)
  refine ⟨(startMoved_within (Mask.Le.refl _)).sparesCalm rfl rfl s, ?_, ?_⟩
  · rw [startMoved, Eff.run_look, Eff.run_all_cons, Eff.run_all_cons, Eff.run_all_cons, Eff.run_all_cons, Eff.run_all_nil]
    exact ⟨_, (inProgress_run p (c % 8) 0 true f _).2.1⟩
  · rw [startMoved, Eff.run_look, Eff.run_all_cons, Eff.run_all_cons, Eff.run_all_cons, Eff.run_all_cons, Eff.run_all_nil,
      hstarts.seg_run _ rfl, (hnoted _).seg_run _ rfl, segSet_run_seg, burstFrame_run_overflow]

/-- A port with a frame of the Kiln among those outside the class queues. -/
def State.kilnWaits (s : State) (p : Nat) : Prop := ∃ x ∈ (s.seg p).overflow, x.2.origin.ofKiln = true

theorem kilnLine_split (s : State) (p : Nat) : s.kilnLine p =
    (((s.mac p).current.map Prod.snd).toList.filter fun f => f.origin.ofKiln).map QueuedFrame.asKiln ++
      ((s.seg p).overflow.filter fun x => x.2.origin.ofKiln).map fun x => x.2.asKiln := by
  rw [State.kilnLine, List.filter_append, List.map_append, List.filter_map, List.map_map]
  rfl

/-- A frame in progress and those that wait, told by the list that both come from. -/
theorem kilnLine_of_current {s : State} {p c : Nat} {f : QueuedFrame} (h : (s.mac p).current = some (c, f)) :
    s.kilnLine p = (((c, f) :: (s.seg p).overflow).filter fun x => x.2.origin.ofKiln).map fun x => x.2.asKiln := by
  rw [kilnLine_split, h]
  simp only [Option.map_some, Option.toList_some, List.filter_cons, List.filter_nil]
  split
  · rfl
  · rfl

/-- The choice of an idle MAC at whose port a frame of the Kiln waits is one outside the class queues, and no frame of the Kiln is lost
or overtaken. -/
theorem pickFrame_run_kiln {s : State} {p : Nat} (hidle : (s.mac p).current = none) (hwaits : s.kilnWaits p) :
    let t := (pickFrame p).run s
    t.kilnLine p = s.kilnLine p ∧ t.calm = s.calm := by
  dsimp only
  rw [pickFrame, Eff.run_whenS]
  split
  case isFalse => exact ⟨rfl, rfl⟩
  rw [Eff.run_seq]
  obtain ⟨htraffic, hcalm, hover⟩ := movedWithoutSa_run_kiln p s
  generalize (movedWithoutSa p).run s = u at *
  have hmac : u.mac p = s.mac p := State.mac_congr (congrArg Traffic.macs htraffic) p
  have hline : u.kilnLine p = s.kilnLine p := by
    rw [kilnLine_split, kilnLine_split, hmac, hover]
  obtain ⟨y, hy, hkiln⟩ := hwaits
  have hin : y ∈ (u.seg p).overflow.filter fun x => x.2.origin.ofKiln := by
    rw [hover]
    exact List.mem_filter.2 ⟨hy, hkiln⟩
  rw [Eff.run_look]
  split
  case h_2 hnone =>
    have hno := List.find?_eq_none.1 hnone y (List.mem_filter.1 hin).1
    rw [hkiln] at hno
    exact absurd rfl hno
  case h_1 x hfind =>
    rw [Eff.run_when]
    split
    case isFalse => exact ⟨hline, hcalm⟩
    obtain ⟨hcalm', ⟨b, hcurrent⟩, herased⟩ := startMoved_run p x.1 x.2 u
    refine ⟨?_, hcalm'.trans hcalm⟩
    rw [kilnLine_of_current hcurrent, herased, ← hline, kilnLine_split, hmac, hidle]
    rw [← filter_ofKiln_erase (fun z hz => by rw [hz]; rfl) hfind, List.filter_cons, List.filter_cons]
    split
    · rfl
    · rfl

/-- Something has changed on a port at which a frame of the Kiln waits. -/
theorem kick_run_kiln {s : State} {p : Nat} (hwaits : s.kilnWaits p) :
    let t := (kick p).run s
    t.kilnLine p = s.kilnLine p ∧ t.calm = s.calm := by
  dsimp only
  rw [kick, Eff.run_look]
  split
  case h_1 hidle =>
    rw [whereIdle, Eff.run_look]
    split
    · rw [withFree, Eff.run_look, Eff.run_seq, Eff.run_when]
      split
      · exact pickFrame_run_kiln (s := (Eff.upd .useFree).run s) hidle hwaits
      · exact ⟨rfl, rfl⟩
    · exact pickFrame_run_kiln hidle hwaits
  case h_2 c f hbusy =>
    rw [Eff.run_when]
    split
    · have hcut : ∀ u : State, (((cutFrame p).run u).mac p).current = (u.mac p).current := fun u => by
        rw [cutFrame, Eff.run_look]
        split
        · rw [Eff.run_when]
          split
          · cases u.cutPoint p with
            | none => rfl
            | some x => rw [Eff.ofOption, macSet_run_mac]
          · rfl
        · rfl
      have hwithin := cutFrame_within (Mask.Le.refl _) (p := p)
      exact ⟨kilnLine_congr (hcut s) (by rw [hwithin.seg_run s rfl]), hwithin.sparesCalm rfl rfl s⟩
    · exact ⟨rfl, rfl⟩

/-! ## A frame of the Kiln comes to wait -/

/-- A grove that is woken raises nothing: it does not run yet. -/
theorem wakeGrove_run_events (g : Nat) (s : State) : ((wakeGrove g).run s).events = s.events := by
  rw [wakeGrove, Eff.run_whenS]
  split
  · rw [Eff.run_seq, setGrove, Eff.run_look, Eff.run_all_cons, Eff.run_all_cons, Eff.run_all_cons, Eff.run_all_nil, Eff.run_when,
      if_neg (by simp)]
    rfl
  · rfl

theorem setGrove_run_state (g state : Nat) (nextWake : Option Nat) (s : State) :
    (((setGrove g state nextWake).run s).grove g).state = state := by
  rw [setGrove, Eff.run_look, Eff.run_all_cons, Eff.run_all_cons, Eff.run_all_cons, Eff.run_all_nil, Eff.run_when]
  split
  · exact congrArg Grove.state (PMap.getD_set_same _ _ _ _)
  · exact congrArg Grove.state (PMap.getD_set_same _ _ _ _)

/-- No grove is off after a wake that was not before. -/
theorem wakeGrove_run_grove {g : Nat} {s : State} (h : (s.grove g).state ≠ 3) : (((wakeGrove g).run s).grove g).state ≠ 3 := by
  rw [wakeGrove, Eff.run_whenS]
  split
  · rw [Eff.run_seq, setGrove_run_state]
    decide
  · exact h

/-- A frame of the Kiln joins those that the port has still to send; no event is raised. -/
theorem sendUrgent_run_kiln {p : Nat} {o : Origin} (ho : o.ofKiln = true) (d : Bytes) (s : State) :
    let t := (sendUrgent p o d).run s
    t.kilnLine p = s.kilnLine p ++ [(o, d)] ∧ t.events = s.events ∧
      ((s.grove (groveOf p)).state ≠ 3 → (t.grove (groveOf p)).state ≠ 3) := by
  dsimp only
  rw [sendUrgent, Eff.run_look, Eff.run_all_cons, Eff.run_all_cons, Eff.run_all_cons, Eff.run_all_nil]
  have hjoined : ∃ u, (segSet p fun g => { g with overflow := g.overflow ++ [(15, s.ownFrame o d)] }).run s = u ∧ u.mac p = s.mac p ∧
      (u.seg p).overflow = (s.seg p).overflow ++ [(15, s.ownFrame o d)] ∧ u.events = s.events ∧ u.grove (groveOf p) = s.grove (groveOf p) :=
    ⟨_, rfl, rfl, by rw [segSet_run_seg], rfl, rfl⟩
  obtain ⟨u, hu, hmac, hover, hevents, hgrove⟩ := hjoined
  rw [hu]
  have hwake := wakeGrove_within (Mask.Le.refl _) (g := groveOf p)
  have hmac' : ((wakeGrove (groveOf p)).run u).mac p = u.mac p := State.mac_congr (congrArg Traffic.macs (hwake.traffic_run u rfl)) p
  have hseg' : ((wakeGrove (groveOf p)).run u).seg p = u.seg p := hwake.seg_run u rfl p
  have hevents' := wakeGrove_run_events (groveOf p) u
  have hgrove' : (u.grove (groveOf p)).state ≠ 3 → _ := wakeGrove_run_grove (g := groveOf p) (s := u)
  generalize (wakeGrove (groveOf p)).run u = v at *
  have hwaits : v.kilnWaits p := ⟨(15, s.ownFrame o d), by rw [hseg', hover]; simp, ho⟩
  obtain ⟨hline, hcalm⟩ := kick_run_kiln hwaits
  rw [State.calm, State.calm, Prod.mk.injEq] at hcalm
  refine ⟨?_, hcalm.1.trans (hevents'.trans hevents), fun h => ?_⟩
  · rw [hline, kilnLine_split, hmac', hseg', hmac, hover, List.filter_append, List.map_append, kilnLine_split s, List.append_assoc]
    have hlast : (([(15, s.ownFrame o d)] : List (Nat × QueuedFrame)).filter fun x => x.2.origin.ofKiln) = [(15, s.ownFrame o d)] :=
      List.filter_cons_of_pos ho
    rw [hlast]
    rfl
  · rw [State.grove, hcalm.2]
    rw [hgrove] at hgrove'
    exact hgrove' h

/-! ## Events that find little room -/

/-- Numbering only appends to the FIFO. -/
theorem stampRaised_run_fifo (x : Raised) (s : State) : s.events.fifo <+: ((stampRaised x).run s).events.fifo := by
  have hpush (r : EventRecord) : s.events.fifo <+: (pushEvent s.events r).fifo := by
    rw [pushEvent]
    split
    · exact List.prefix_append _ _
    · exact List.prefix_rfl
  rw [stampRaised, Eff.run_look, Eff.run_seq, Eff.run_when]
  split
  · exact hpush _
  · exact hpush _

theorem forEach_stamp_prefix (l : List Raised) (s : State) :
    s.events.fifo <+: ((Eff.forEach l stampRaised).run s).events.fifo := by
  induction l generalizing s with
  | nil => exact List.prefix_rfl
  | cons x l ih =>
    rw [Eff.run_forEach_cons]
    exact (stampRaised_run_fifo x s).trans (ih _)

theorem Eff.forEach_run_append {α : Type} (a b : List α) (f : α → Eff) (s : State) :
    (Eff.forEach (a ++ b) f).run s = (Eff.forEach b f).run ((Eff.forEach a f).run s) := by
  induction a generalizing s with
  | nil => rfl
  | cons x a ih => rw [List.cons_append, Eff.run_forEach_cons, Eff.run_forEach_cons, ih]

/-- With room for the first events of the order of R367, each of them is on record, whatever comes after them. -/
theorem State.hasRaised.records_first {s u : State} {l front back : List Raised} {n source arg : Nat} (h : s.hasRaised u l)
    (hroom : s.room n) (hsorted : sortRaised l = front ++ back) (hlength : front.length ≤ n)
    (hmem : ∃ x ∈ front, x.source = source ∧ x.arg = arg) (hsource : source < 1024) (harg : arg < 2147483648) :
    s.records (flushEvents.run u) source arg := by
  obtain ⟨hnone, hbacklog⟩ := hroom
  have hraised : u.events.raised = l := by rw [h.raised, hnone, List.nil_append]
  have htaken : (Upd.apply .takeRaised u).events.backlog + front.length ≤ 1032 := by
    change u.events.backlog - 8 + front.length ≤ 1032
    rw [h.backlog]
    omega
  obtain ⟨new, hfifo, hall⟩ := forEach_stamp_room front (Upd.apply .takeRaised u) htaken
  have hstart : (Upd.apply .takeRaised u).events.fifo = s.events.fifo := h.fifo
  obtain ⟨more, hmore⟩ := forEach_stamp_prefix back ((Eff.forEach front stampRaised).run (Upd.apply .takeRaised u))
  have hrun : (flushEvents.run u).events.fifo = s.events.fifo ++ (new ++ more) := by
    rw [flushEvents, Eff.run_look, Eff.run_seq, Eff.run_upd, hraised, hsorted, Eff.forEach_run_append, ← hmore, hfifo, hstart,
      List.append_assoc]
  obtain ⟨x, hx, rfl, rfl⟩ := hmem
  obtain ⟨r, hr, -, hrs, -, hra, -⟩ := forall2_mem hall hx
  exact ⟨new ++ more, hrun, r, List.mem_append_left _ hr, hrs.trans (Nat.mod_eq_of_lt hsource), hra.trans (Nat.mod_eq_of_lt harg)⟩

/-- An event of a source not above the others' comes first. -/
theorem sortRaised_cons_of_least {x : Raised} {l : List Raised} (h : ∀ y ∈ l, x.source ≤ y.source) :
    sortRaised (x :: l) = x :: sortRaised l := by
  rw [sortRaised]
  cases hs : sortRaised l with
  | nil => rfl
  | cons y m =>
    have hy : y ∈ l := (mem_sortRaised y l).1 (by rw [hs]; exact List.mem_cons_self)
    rw [insertRaised, if_pos (h y hy)]

/-- From `s` to `t` no event has been raised but those of the packet numbers (879 and 880). -/
def State.raisedLate (s t : State) : Prop := ∃ l, s.hasRaised t l ∧ ∀ x ∈ l, 879 ≤ x.source

theorem State.raisedLate.of_events_eq {s t : State} (h : t.events = s.events) : s.raisedLate t :=
  ⟨[], .of_events_eq h, fun _ hx => absurd hx List.not_mem_nil⟩

theorem State.raisedLate.trans {s t u : State} (hst : s.raisedLate t) (htu : t.raisedLate u) : s.raisedLate u := by
  obtain ⟨l, hl, hlate⟩ := hst
  obtain ⟨m, hm, hlate'⟩ := htu
  refine ⟨l ++ m, hl.trans hm, fun x hx => ?_⟩
  rcases List.mem_append.1 hx with hx | hx
  · exact hlate x hx
  · exact hlate' x hx

/-- An effect that raises at most the events of the packet numbers. -/
def Eff.RaisesLate (e : Eff) : Prop := ∀ s : State, s.raisedLate (e.run s)

theorem Eff.RaisesLate.quiet {e : Eff} (h : e.Spares State.events) : e.RaisesLate := fun s => .of_events_eq (h s)

theorem Eff.RaisesLate.seq {a b : Eff} (ha : a.RaisesLate) (hb : b.RaisesLate) : (Eff.seq a b).RaisesLate :=
  fun s => (ha s).trans (hb (a.run s))

theorem Eff.RaisesLate.raise {source : Nat} (h : 879 ≤ source) (arg : Nat) : (Machine.raise source arg).RaisesLate :=
  fun s => ⟨_, raise_hasRaised source arg s, fun x hx => by rw [List.mem_singleton.1 hx]; exact h⟩

theorem Eff.RaisesLate.when {c : Bool} {e : Eff} (h : e.RaisesLate) : (Eff.when c e).RaisesLate := by
  cases c
  · exact .quiet .skip
  · exact h

/-- A packet number raises at most its own events. -/
theorem usePacketNumber_raisesLate (p : Nat) : (usePacketNumber p).RaisesLate := fun s => by
  have hnear : Eff.RaisesLate (raise 879 p) := .raise (Nat.le_refl _) p
  have hlast : Eff.RaisesLate (raise 880 p) := .raise (by decide) p
  rw [usePacketNumber, Eff.run_look]
  split
  · exact Eff.RaisesLate.when (.seq (.quiet fun _ => rfl) (.seq (.when hnear) (.seq (.when hlast) (.quiet .nil)))) s
  · exact .of_events_eq rfl

/-- The event raised first is on record, where there is room for one and no other is of a lower source. -/
theorem records_least {s u t : State} {source arg n : Nat} (h : s.hasRaised u [⟨0, source, 0, arg, none⟩])
    (hrest : ∃ l, u.hasRaised t l ∧ ∀ x ∈ l, source ≤ x.source) (hroom : s.room n) (hn : 1 ≤ n) (hsource : source < 1024)
    (harg : arg < 2147483648) : s.records (flushEvents.run t) source arg := by
  obtain ⟨l, hl, habove⟩ := hrest
  exact (h.trans hl).records_first (front := [⟨0, source, 0, arg, none⟩]) (back := sortRaised l) hroom
    (sortRaised_cons_of_least habove) hn ⟨_, List.mem_singleton_self _, rfl, rfl⟩ hsource harg

/-- The event raised before those of the packet numbers is on record, where there is room for one. -/
theorem records_before_late {s u t : State} {source arg n : Nat} (h : s.hasRaised u [⟨0, source, 0, arg, none⟩])
    (hlate : u.raisedLate t) (hroom : s.room n) (hn : 1 ≤ n) (hsource : source < 879) (harg : arg < 2147483648) :
    s.records (flushEvents.run t) source arg := by
  obtain ⟨l, hl, habove⟩ := hlate
  exact records_least h ⟨l, hl, fun y hy => Nat.le_trans (Nat.le_of_lt hsource) (habove y hy)⟩ hroom hn (by omega) harg

/-! ## A message of the Kiln leaves -/

/-- A fragment of the Kiln on a port joins those that the port has still to send. -/
theorem sendFromKiln_run_port {s : State} {p : Nat} {o : Origin} (hp : p < 256) (ho : o.ofKiln = true)
    (hreach : s.kilnReaches p = true) (d : Bytes) : let t := (sendFromKiln p o d).run s
    t.kilnLine p = s.kilnLine p ++ [(o, d)] ∧ t.events = s.events ∧ t.kilnReaches p = true ∧ t.out = s.out := by
  rw [State.kilnReaches, if_neg (Nat.not_le_of_lt hp), Bool.and_eq_true, bne_iff_ne] at hreach
  obtain ⟨hlink, hgrove⟩ := hreach
  have hrun : (sendFromKiln p o d).run s = (sendUrgent p o d).run s := by
    unfold sendFromKiln
    rw [Eff.run_look, if_neg (Nat.not_le_of_lt hp), hlink, bne_iff_ne.2 hgrove]
    rfl
  have hwithin := sendUrgent_within (Mask.Le.refl _) (p := p) (o := o) (data := d)
  have hport : ((sendUrgent p o d).run s).portOn p 1 1 = s.portOn p 1 1 := by
    rw [State.portOn, State.on, hwithin.keeps_port s (by decide +kernel)]
    rfl
  obtain ⟨hline, hevents, hon⟩ := sendUrgent_run_kiln ho d s
  dsimp only
  rw [hrun, State.kilnReaches, if_neg (Nat.not_le_of_lt hp), hport, hlink, bne_iff_ne.2 (hon hgrove)]
  exact ⟨hline, hevents, rfl, hwithin.out_run s rfl⟩

/-- On a stack port it leaves at once. -/
theorem sendFromKiln_run_stack {s : State} {p : Nat} (hp : 256 ≤ p) (hreach : s.kilnReaches p = true) (d : Bytes) :
    let t := (sendFromKiln p .kiln d).run s
    t.out = s.out ++ [.stack (p - 256) d] ∧ s.raisedLate t ∧ t.kilnReaches p = true := by
  rw [State.kilnReaches, if_pos hp] at hreach
  have hsent : ∃ u, (sendFromKiln p .kiln d).run s = (usePacketNumber p).run u ∧ u.out = s.out ++ [.stack (p - 256) d] ∧
      u.events = s.events ∧ u.od = s.od := by
    unfold sendFromKiln
    rw [Eff.run_look, if_pos hp, hreach]
    exact ⟨_, rfl, rfl, rfl, rfl⟩
  obtain ⟨u, hrun, hout, hevents, hod⟩ := hsent
  have hpn := usePacketNumber_within (Mask.Le.refl _) (p := p)
  dsimp only
  rw [hrun, hpn.out_run u rfl, State.kilnReaches, if_pos hp]
  refine ⟨hout, (State.raisedLate.of_events_eq hevents).trans (usePacketNumber_raisesLate p u), ?_⟩
  rw [← hreach]
  simp only [State.stackUsable, State.stackRuns, State.on, State.n, State.obj, State.key, hpn.od_run rfl u, hod]

/-- The frames of a message leave one after the other. -/
theorem sendFrames_run {p : Nat} (l : List Bytes) {s : State} (hreach : s.kilnReaches p = true) :
    let t := (Eff.forEach l fun b => sendFromKiln p .kiln b).run s
    s.kilnSent t p l ∧ s.raisedLate t ∧ (p < 256 → t.out = s.out) := by
  induction l generalizing s with
  | nil =>
    refine ⟨?_, .of_events_eq rfl, fun _ => rfl⟩
    rw [State.kilnSent]
    split
    · exact (List.append_nil _).symm
    · exact (List.append_nil _).symm
  | cons d l ih =>
    dsimp only
    rw [Eff.run_forEach_cons]
    by_cases hp : p < 256
    · obtain ⟨hline, hevents, hreach', hout⟩ := sendFromKiln_run_port (o := .kiln) hp rfl hreach d
      obtain ⟨hsent, hlate, hout'⟩ := ih hreach'
      refine ⟨?_, (State.raisedLate.of_events_eq hevents).trans hlate, fun _ => (hout' hp).trans hout⟩
      rw [State.kilnSent, if_neg (Nat.not_le_of_lt hp)] at hsent ⊢
      rw [hsent, kilnOut_of_append hline, List.append_assoc]
      rfl
    · have hp' : 256 ≤ p := Nat.le_of_not_lt hp
      obtain ⟨hout, hlate, hreach'⟩ := sendFromKiln_run_stack hp' hreach d
      obtain ⟨hsent, hlate', -⟩ := ih hreach'
      refine ⟨?_, hlate.trans hlate', fun h => absurd h hp⟩
      rw [State.kilnSent, if_pos hp'] at hsent ⊢
      rw [hsent, hout, List.append_assoc]
      rfl

/-! ## A command is answered -/

/-- What an answer of the Kiln rests on apart from the Kiln itself. -/
def State.route (s : State) : Dictionary × PMap Segment × Traffic × PMap Grove × List Emission :=
  (s.od, s.segments, s.traffic, s.power.groves, s.out)

theorem kilnFrames_congr {s t : State} (h : t.od = s.od) (p dest kind command tag status : Nat) (body : Bytes) :
    t.kilnFrames p dest kind command tag status body = s.kilnFrames p dest kind command tag status body := by
  have hobj (idx sub row : Nat) : t.obj idx sub row = s.obj idx sub row := by simp only [State.obj, State.key, h]
  simp only [State.kilnFrames, port_congr h, hobj]

theorem kilnSent_congr {s u t : State} (h : u.route = s.route) {p : Nat} {l : List Bytes} (hsent : u.kilnSent t p l) :
    s.kilnSent t p l := by
  have hsegments : u.segments = s.segments := congrArg (fun x => x.2.1) h
  have htraffic : u.traffic = s.traffic := congrArg (fun x => x.2.2.1) h
  have hout : u.out = s.out := congrArg (fun x => x.2.2.2.2) h
  have hline : u.kilnOut p = s.kilnOut p := by
    rw [kilnOut_of_kilnLine, kilnOut_of_kilnLine, kilnLine_congr (s := s)]
    · rw [State.mac, htraffic]
      rfl
    · rw [State.seg, hsegments]
      rfl
  rw [State.kilnSent] at hsent ⊢
  rw [← hout, ← hline]
  exact hsent

theorem kilnReaches_congr {s t : State} (h : t.route = s.route) (p : Nat) : t.kilnReaches p = s.kilnReaches p := by
  have hod : t.od = s.od := congrArg Prod.fst h
  have hgroves : t.power.groves = s.power.groves := congrArg (fun x => x.2.2.2.1) h
  simp only [State.kilnReaches, State.portOn, State.grove, State.stackUsable, State.stackRuns, State.on, State.n, State.obj, State.key,
    hod, hgroves]

/-- The Kiln as it stands apart from its mailbox flags and what it holds of MKA. -/
def State.kilnCore (s : State) : Kiln := { s.kiln with busy := false, done := false, msgStatus := 0, mka := [] }

theorem flush_kilnCore (s : State) : (flushEvents.run s).kilnCore = s.kilnCore := by
  rw [State.kilnCore, flush_within.kiln_run s rfl]
  rfl

/-- An answer stands in the Kiln's mailbox. -/
def answerInMailbox (m : Bytes) (status : Nat) : Eff :=
  .all [.upd (.wipe .kilnResponse), .upd (.write .kilnResponse 0 m),
    .upd (.kiln fun k => { k with busy := false, done := true, msgStatus := status })]

theorem kilnAnswer_mailbox (command tag status : Nat) (body : Bytes) : kilnAnswer .mailbox command tag status body =
    .seq (count (kilnItem (if status = 0 then 0 else 1))) (answerInMailbox (kilnResponse command tag status body) status) := rfl

theorem answerInMailbox_run (m : Bytes) (status : Nat) (s : State) : let t := (answerInMailbox m status).run s
    (t.kiln.busy = false ∧ t.kiln.done = true ∧ t.kiln.msgStatus = status ∧
      t.buffers.kilnResponse = Memory.writeBytes [] 0 m) ∧ t.events = s.events ∧ t.kilnCore = s.kilnCore :=
  ⟨⟨rfl, rfl, rfl, rfl⟩, rfl, rfl⟩

/-- The Kiln answers: the answer is on its channel, and raises no event below those of the packet numbers. -/
theorem kilnAnswer_run_answered {s u : State} {src : KilnSource} (hroute : u.route = s.route) (hreach : s.answersOn src = true)
    (command tag status : Nat) (body : Bytes) : let t := (kilnAnswer src command tag status body).run u
    s.answeredKiln t src command tag status body ∧ u.raisedLate t := by
  cases src with
  | mailbox =>
    obtain ⟨hanswered, hevents, -⟩ := answerInMailbox_run (kilnResponse command tag status body) status
      ((count (kilnItem (if status = 0 then 0 else 1))).run u)
    dsimp only
    rw [kilnAnswer_mailbox, Eff.run_seq]
    exact ⟨hanswered, .of_events_eq hevents⟩
  | port p prot mac =>
    have hcounted : ((count (kilnItem (if status = 0 then 0 else 1))).run u).route = s.route := hroute
    have hrun : (kilnAnswer (.port p prot mac) command tag status body).run u =
        (Eff.forEach (s.kilnFrames p mac 2 command tag status body) fun b => sendFromKiln p .kiln b).run
          ((count (kilnItem (if status = 0 then 0 else 1))).run u) := by
      rw [← kilnFrames_congr (congrArg Prod.fst hcounted)]
      rfl
    have hreach' : ((count (kilnItem (if status = 0 then 0 else 1))).run u).kilnReaches p = true := by
      rw [kilnReaches_congr hcounted]
      exact hreach
    obtain ⟨hsent, hlate, -⟩ := sendFrames_run (s.kilnFrames p mac 2 command tag status body) hreach'
    dsimp only
    rw [hrun]
    have hquiet : u.raisedLate ((count (kilnItem (if status = 0 then 0 else 1))).run u) := .of_events_eq rfl
    exact ⟨kilnSent_congr hcounted hsent, hquiet.trans hlate⟩

/-- Numbering the events leaves an answer as it is. -/
theorem answeredKiln_flush {s u : State} {src : KilnSource} {command tag status : Nat} {body : Bytes}
    (h : s.answeredKiln u src command tag status body) : s.answeredKiln (flushEvents.run u) src command tag status body := by
  have hkiln : (flushEvents.run u).kiln = u.kiln := flush_within.kiln_run u rfl
  have hbuffers : (flushEvents.run u).buffers = u.buffers := flush_within.buffers_run u rfl
  cases src with
  | mailbox =>
    rw [State.answeredKiln, hkiln, hbuffers]
    exact h
  | port p prot mac =>
    have hline : (flushEvents.run u).kilnOut p = u.kilnOut p := by
      rw [kilnOut_of_kilnLine, kilnOut_of_kilnLine, kilnLine_congr (s := u)]
      · rw [flush_mac]
      · rw [flush_seg]
    rw [State.answeredKiln, State.kilnSent, flush_out, hline]
    exact h

/-- A packet number changes MKA's record alone. -/
theorem usePacketNumber_spares_core (p : Nat) : (usePacketNumber p).Spares State.kilnCore := fun s => by
  rw [usePacketNumber, Eff.run_look]
  split
  · exact Eff.Spares.when (.cons (fun _ => rfl) (.cons (.when fun _ => rfl) (.cons (.when fun _ => rfl) .nil))) s
  · rfl

theorem sendFromKiln_spares_core (p : Nat) (o : Origin) (d : Bytes) : (sendFromKiln p o d).Spares State.kilnCore := by
  have hurgent : (sendUrgent p o d).Spares State.kilnCore := fun s => by
    rw [State.kilnCore, (sendUrgent_within (Mask.Le.refl _)).kiln_run s rfl]
    rfl
  refine .look fun s => .ite (.when (.seq (fun _ => rfl) ?_)) (.when hurgent)
  cases o with
  | mkpdu m => exact fun _ => rfl
  | _ => exact .seq (fun _ => rfl) (usePacketNumber_spares_core p)

/-- An answer changes the Kiln's mailbox flags, and what MKA counts, alone. -/
theorem kilnAnswer_spares_core (src : KilnSource) (command tag status : Nat) (body : Bytes) :
    (kilnAnswer src command tag status body).Spares State.kilnCore := by
  cases src with
  | mailbox => exact .seq (fun _ => rfl) fun s => (answerInMailbox_run _ status s).2.2
  | port p prot mac => exact .seq (fun _ => rfl) (.look fun s => .forEach fun b => sendFromKiln_spares_core p .kiln b)

/-! ## The Kiln is powered, and serves -/

/-- The Kiln is powered. -/
def State.kilnUp (s : State) : Prop := s.power.state ≠ .off ∧ s.power.state ≠ .dormant ∧ 1 ≤ s.power.stage

theorem kilnPowered_run {s : State} (h : s.kilnUp) (e : Eff) : (kilnPowered e).run s = e.run s := by
  obtain ⟨hoff, hdormant, hstage⟩ := h
  rw [kilnPowered, Eff.run_whenS, if_pos (by rw [bne_iff_ne.2 hoff, bne_iff_ne.2 hdormant, decide_eq_true hstage]; rfl)]

theorem kilnServe_run {s : State} {src : KilnSource} {command : Nat} (h : s.kilnStops src command = none) (tag : Nat) (e : Eff) :
    (kilnServe src command tag e).run s = e.run s := by
  rw [kilnServe, Eff.run_look, h]

/-- What stands once a command has been answered and its events are numbered: the answer, and the Kiln, the flash and OTP as the command's
own effect has left them. -/
theorem answered_stands {s u : State} {src : KilnSource} (hroute : u.route = s.route) (hreach : s.answersOn src = true)
    (command tag status : Nat) (body : Bytes) :
    let t := flushEvents.run ((kilnAnswer src command tag status body).run u)
    s.answeredKiln t src command tag status body ∧ t.kilnCore = u.kilnCore ∧ t.flash = u.flash ∧ t.otp = u.otp := by
  have hwithin := kilnAnswer_within (Mask.Le.refl _) (src := src) (command := command) (tag := tag) (status := status) (body := body)
  obtain ⟨hanswered, -⟩ := kilnAnswer_run_answered hroute hreach command tag status body
  refine ⟨answeredKiln_flush hanswered, ?_, ?_, ?_⟩
  · rw [flush_kilnCore, kilnAnswer_spares_core src command tag status body u]
  · rw [flush_within.flash_run _ rfl, hwithin.flash_run u rfl]
  · rw [flush_within.otp_run _ rfl, hwithin.otp_run u rfl]

/-- A served command whose own effect is followed by its answer. -/
theorem exec_served {s : State} {src : KilnSource} {command : Nat} (hup : s.kilnUp) (hstops : s.kilnStops src command = none) (tag : Nat)
    (e : Eff) : (Eff.seq (kilnPowered (kilnServe src command tag e)) flushEvents).run s = flushEvents.run (e.run s) := by
  rw [Eff.run_seq, kilnPowered_run hup, kilnServe_run hstops]

theorem Eff.Within.route_run {m : Mask} {e : Eff} (he : e.Within tables m) (s : State) (hod : m.sparesOd = true)
    (hsegments : m.parts.testBit Part.segments.bit = false) (htraffic : m.parts.testBit Part.traffic.bit = false)
    (hpower : m.parts.testBit Part.power.bit = false) (hout : m.parts.testBit Part.out.bit = false) : (e.run s).route = s.route := by
  rw [State.route, he.od_run hod s, he.segments_run s hsegments, he.traffic_run s htraffic, he.power_run s hpower, he.out_run s hout]
  rfl

end Sys2Proof.Machine

/-! # Firmware (R329) -/

namespace Sys2Proof.Machine

/-! ## Begin, write, abort -/

/-- A firmware write is named, or ended. -/
def setFwSlot (x : Option (Nat × Nat)) : Eff := .upd (.kiln fun k => { k with fwSlot := x })

theorem fwSlot_of_core {s t : State} (h : t.kilnCore = s.kilnCore) : t.kiln.fwSlot = s.kiln.fwSlot := by
  have hslot := congrArg Kiln.fwSlot h
  exact hslot

theorem trial_of_core {s t : State} (h : t.kilnCore = s.kilnCore) : t.kiln.trial = s.kiln.trial := by
  have htrial := congrArg Kiln.trial h
  exact htrial

theorem exec_fwBegin {s : State} {src : KilnSource} {slot len : Nat} (tag : Nat) (hup : s.kilnUp) (hreach : s.answersOn src = true)
    (hstops : s.kilnStops src 0x20 = none) (hslot : slot < 2) (hlen : len ≤ 25165824)
    (hstate : s.kiln.state = .recovery ∨ (slot ≠ s.kiln.slot ∧ s.kiln.trial = false)) :
    ∃ t, exec (.fwBegin src tag slot len) s = .next t ∧ t.kiln.fwSlot = some (slot, len) ∧ s.answeredKiln t src 0x20 tag 0 [] ∧
      t.flash = s.flash := by
  refine ⟨_, rfl, ?_⟩
  have hform : (decide (2 ≤ slot) || decide (25165824 < len)) = false := by
    rw [decide_eq_false (Nat.not_le_of_lt hslot), decide_eq_false (Nat.not_lt_of_le hlen)]
    rfl
  have hfree : (s.kiln.state != .recovery && (slot == s.kiln.slot || s.kiln.trial)) = false := by
    rcases hstate with h | ⟨hne, htrial⟩
    · rw [h]
      rfl
    · rw [htrial, Bool.or_false, beq_eq_false_iff_ne.2 hne, Bool.and_false]
  obtain ⟨hanswered, hcore, hflash, -⟩ := answered_stands (u := (setFwSlot (some (slot, len))).run s) rfl hreach 0x20 tag 0 []
  have hrun : (Eff.seq (kilnPowered (fwBeginAct src tag slot len)) flushEvents).run s =
      flushEvents.run ((kilnAnswer src 0x20 tag 0 []).run ((setFwSlot (some (slot, len))).run s)) := by
    rw [fwBeginAct, exec_served hup hstops, Eff.run_look]
    simp only [hform, hfree, Bool.false_eq_true, if_false, Eff.run_seq, setFwSlot]
  rw [hrun]
  exact ⟨fwSlot_of_core hcore, hanswered, hflash⟩

theorem slotPackage_congr {s t : State} (h : t.flash = s.flash) (slot : Nat) : t.slotPackage slot = s.slotPackage slot := by
  rw [State.slotPackage, h]
  rfl

theorem slotValid_congr {s t : State} (h : t.flash = s.flash) (slot : Nat) : t.slotValid slot = s.slotValid slot := by
  rw [State.slotValid, h]
  rfl

/-- The bytes that have been put into a slot stand there. -/
theorem putSlot_run_slot {slot : Nat} (b : Bytes) (valid : Bool) (s : State) :
    ((putSlot slot b valid).run s).slotPackage slot = b ∧ ((putSlot slot b valid).run s).slotValid slot = valid := by
  by_cases h : slot = 0
  · simp [State.slotPackage, State.slotValid, putSlot, flashSet, h, Upd.apply, count]
  · simp [State.slotPackage, State.slotValid, putSlot, flashSet, h, Upd.apply, count]

theorem exec_fwWrite {s : State} {src : KilnSource} {slot len off : Nat} {data : Bytes} (tag : Nat) (hup : s.kilnUp)
    (hreach : s.answersOn src = true) (hstops : s.kilnStops src 0x21 = none) (hwrite : s.kiln.fwSlot = some (slot, len))
    (hlow : 8 ≤ data.length) (hhigh : data.length ≤ 8192) (hfits : off + data.length ≤ len) :
    ∃ t, exec (.fwWrite src tag off data) s = .next t ∧
      t.slotPackage slot = overwrite (slice (s.slotPackage slot) 0 len) off data ∧ t.slotValid slot = false ∧
      s.answeredKiln t src 0x21 tag 0 [] := by
  refine ⟨_, rfl, ?_⟩
  have hform : (decide (data.length < 8) || decide (8192 < data.length) || decide (len < off + data.length)) = false := by
    rw [decide_eq_false (Nat.not_lt_of_le hlow), decide_eq_false (Nat.not_lt_of_le hhigh), decide_eq_false (Nat.not_lt_of_le hfits)]
    rfl
  obtain ⟨hbytes, hvalid⟩ := putSlot_run_slot (slot := slot) (overwrite (slice (s.slotPackage slot) 0 len) off data) false s
  obtain ⟨hanswered, -, hflash, -⟩ := answered_stands
    (u := (putSlot slot (overwrite (slice (s.slotPackage slot) 0 len) off data) false).run s) rfl hreach 0x21 tag 0 []
  have hrun : (Eff.seq (kilnPowered (fwWriteAct src tag off data)) flushEvents).run s = flushEvents.run
      ((kilnAnswer src 0x21 tag 0 []).run ((putSlot slot (overwrite (slice (s.slotPackage slot) 0 len) off data) false).run s)) := by
    rw [fwWriteAct, exec_served hup hstops, Eff.run_look, hwrite]
    simp only [hform, Bool.false_eq_true, if_false, Eff.run_seq]
  rw [hrun, slotPackage_congr hflash, slotValid_congr hflash]
  exact ⟨hbytes, hvalid, hanswered⟩

theorem exec_fwAbort {s : State} {src : KilnSource} (tag : Nat) (hup : s.kilnUp) (hreach : s.answersOn src = true)
    (hstops : s.kilnStops src 0x24 = none) (hwrite : s.kiln.fwSlot.isSome = true) :
    ∃ t, exec (.fwAbort src tag) s = .next t ∧ t.kiln.fwSlot = none ∧ t.flash = s.flash ∧ s.answeredKiln t src 0x24 tag 0 [] := by
  refine ⟨_, rfl, ?_⟩
  have hsome : s.kiln.fwSlot.isNone = false := by
    rw [Option.isNone_eq_false_iff]
    exact hwrite
  obtain ⟨hanswered, hcore, hflash, -⟩ := answered_stands (u := (setFwSlot none).run s) rfl hreach 0x24 tag 0 []
  have hrun : (Eff.seq (kilnPowered (fwAbortAct src tag)) flushEvents).run s =
      flushEvents.run ((kilnAnswer src 0x24 tag 0 []).run ((setFwSlot none).run s)) := by
    rw [fwAbortAct, exec_served hup hstops, Eff.run_look]
    simp only [hsome, Bool.false_eq_true, if_false, Eff.run_seq, setFwSlot]
  rw [hrun]
  exact ⟨fwSlot_of_core hcore, hflash, hanswered⟩

/-! ## Commit -/

/-- What a slot holds, and the firmware write in progress. -/
def State.fwSlots (s : State) : Option Bytes × Option Bytes × Bool × Bool × Option (Nat × Nat) :=
  (s.flash.slotA, s.flash.slotB, s.flash.validA, s.flash.validB, s.kiln.fwSlot)

theorem slotPackage_of_slots {s t : State} (h : t.fwSlots = s.fwSlots) (slot : Nat) : t.slotPackage slot = s.slotPackage slot := by
  rw [State.fwSlots, State.fwSlots, Prod.mk.injEq, Prod.mk.injEq] at h
  obtain ⟨ha, hb, -⟩ := h
  rw [State.slotPackage, ha, hb, State.slotPackage]

theorem slotValid_of_slots {s t : State} (h : t.fwSlots = s.fwSlots) (slot : Nat) : t.slotValid slot = s.slotValid slot := by
  rw [State.fwSlots, State.fwSlots, Prod.mk.injEq, Prod.mk.injEq, Prod.mk.injEq, Prod.mk.injEq] at h
  obtain ⟨-, -, ha, hb, -⟩ := h
  rw [State.slotValid, ha, hb, State.slotValid]

/-- The slot that runs next is named. -/
def commitNames (s : State) (slot : Nat) : Eff :=
  if s.kiln.state == .recovery then .seq (flashSet fun f => { f with activeSlot := slot }) (resetIn 10000000)
  else .seq (flashSet fun f => { f with trialSlot := some slot }) (raise 866 slot)

theorem commitNames_spares (s : State) (slot : Nat) : (commitNames s slot).Spares fun u => (u.route, u.fwSlots) :=
  .ite (.seq (fun _ => rfl) fun _ => rfl) (.seq (fun _ => rfl) fun _ => rfl)

/-- A package that passes its checks takes its slot: to be tried at the next boot, in RECOVERY to run after a reset. -/
def commitTakes (s : State) (slot : Nat) : Eff :=
  .all [putSlot slot (s.slotPackage slot) true, setFwSlot none, commitNames s slot]

theorem commitTakes_run (s : State) (slot : Nat) (u : State) : let t := (commitTakes s slot).run u
    t.route = u.route ∧ t.slotPackage slot = s.slotPackage slot ∧ t.slotValid slot = true ∧ t.kiln.fwSlot = none := by
  obtain ⟨hbytes, hvalid⟩ := putSlot_run_slot (slot := slot) (s.slotPackage slot) true u
  have hput : ((putSlot slot (s.slotPackage slot) true).run u).route = u.route := rfl
  have hrun : (commitTakes s slot).run u =
      (commitNames s slot).run ((setFwSlot none).run ((putSlot slot (s.slotPackage slot) true).run u)) := rfl
  rw [hrun]
  generalize (putSlot slot (s.slotPackage slot) true).run u = v at *
  obtain ⟨hroute, hslots⟩ := Prod.ext_iff.1 (commitNames_spares s slot ((setFwSlot none).run v))
  have hbytes' : ((setFwSlot none).run v).slotPackage slot = s.slotPackage slot := hbytes
  have hvalid' : ((setFwSlot none).run v).slotValid slot = true := hvalid
  have hended : ((commitNames s slot).run ((setFwSlot none).run v)).kiln.fwSlot = none := by
    have hlast := congrArg (fun x => x.2.2.2.2) hslots
    exact hlast
  exact ⟨hroute.trans hput, (slotPackage_of_slots hslots slot).trans hbytes', (slotValid_of_slots hslots slot).trans hvalid', hended⟩

/-- The status that an error of a package is answered with. -/
def commitStatus (e : Nat) : Nat := if e = 1 ∨ e = 2 ∨ e = 6 then 0x15 else 0x20

theorem fwCommitAct_run {s : State} {src : KilnSource} {slot len : Nat} (tag : Nat) (hup : s.kilnUp)
    (hstops : s.kilnStops src 0x22 = none) (hwrite : s.kiln.fwSlot = some (slot, len)) :
    (Eff.seq (kilnPowered (fwCommitAct src tag)) flushEvents).run s = flushEvents.run
      ((if s.commitError slot = 0 then .seq (commitTakes s slot) (kilnAnswer src 0x22 tag 0 [0])
        else kilnAnswer src 0x22 tag (commitStatus (s.commitError slot)) (beBytes 1 (s.commitError slot))).run
        ((countPackage (s.slotPackage slot) (s.commitError slot)).run s)) := by
  have herror : (if s.packageError (s.slotPackage slot) != 0 then s.packageError (s.slotPackage slot)
      else if !allPartsGood (s.slotPackage slot) then 7 else 0) = s.commitError slot := by
    rw [State.commitError]
    simp only [bne_iff_ne, Bool.not_eq_true']
  have hstatus (e : Nat) : (if e = 1 || e = 2 || e = 6 then 0x15 else 0x20) = commitStatus e := by
    rw [commitStatus]
    simp only [Bool.or_eq_true, decide_eq_true_eq, or_assoc]
  rw [fwCommitAct, exec_served hup hstops, Eff.run_look, hwrite]
  dsimp only
  rw [herror, Eff.run_seq]
  congr 1
  split
  · simp only [commitTakes, commitNames, setFwSlot, Eff.run_seq, Eff.run_all_cons, Eff.run_all_nil]
  · rw [hstatus]

theorem exec_fwCommit {s : State} {src : KilnSource} {slot len : Nat} (tag : Nat) (hup : s.kilnUp) (hreach : s.answersOn src = true)
    (hstops : s.kilnStops src 0x22 = none) (hwrite : s.kiln.fwSlot = some (slot, len)) :
    ∃ t, exec (.fwCommit src tag) s = .next t ∧
      (s.commitError slot = 0 → (t.slotValid slot = true ∧ t.slotPackage slot = s.slotPackage slot ∧ t.kiln.fwSlot = none ∧
        s.answeredKiln t src 0x22 tag 0 [0])) ∧
      (s.commitError slot ≠ 0 → (t.flash = s.flash ∧ t.kiln.fwSlot = s.kiln.fwSlot ∧
        s.answeredKiln t src 0x22 tag (if s.commitError slot = 1 ∨ s.commitError slot = 2 ∨ s.commitError slot = 6 then 0x15 else 0x20)
          (beBytes 1 (s.commitError slot)))) := by
  refine ⟨_, rfl, ?_⟩
  have hcount := countPackage_within (Mask.Le.refl _) (b := s.slotPackage slot) (e := s.commitError slot)
  have hroute := hcount.route_run s rfl rfl rfl rfl rfl
  have hkiln := hcount.kiln_run s rfl
  have hflash := hcount.flash_run s rfl
  rw [fwCommitAct_run tag hup hstops hwrite]
  generalize (countPackage (s.slotPackage slot) (s.commitError slot)).run s = u at *
  constructor
  · intro hgood
    rw [if_pos hgood, Eff.run_seq]
    obtain ⟨hroute', hbytes, hvalid, hended⟩ := commitTakes_run s slot u
    obtain ⟨hanswered, hcore, hflash', -⟩ := answered_stands (hroute'.trans hroute) hreach 0x22 tag 0 [0]
    rw [slotValid_congr hflash', slotPackage_congr hflash', fwSlot_of_core hcore]
    exact ⟨hvalid, hbytes, hended, hanswered⟩
  · intro hbad
    rw [if_neg hbad]
    obtain ⟨hanswered, hcore, hflash', -⟩ :=
      answered_stands hroute hreach 0x22 tag (commitStatus (s.commitError slot)) (beBytes 1 (s.commitError slot))
    exact ⟨hflash'.trans hflash, by rw [fwSlot_of_core hcore, hkiln], hanswered⟩

/-! ## Confirm -/

/-- A trial that is confirmed. -/
def trialConfirmed (s : State) : Eff :=
  .all [flashSet fun f => { f with activeSlot := s.kiln.slot }, .upd (.kiln fun k => { k with trial := false }), raise 867 s.kiln.slot]

/-- The rollback counter follows a trial that is confirmed, where the owner wants it. -/
def rollbackFollows (s : State) : Eff :=
  .when s.flash.advanceOnConfirm (advanceRollbackTo (packageSecurity (s.slotPackage s.kiln.slot)))

theorem rollbackFollows_run (s u : State) : let t := (rollbackFollows s).run u
    t.route = u.route ∧ t.flash = u.flash ∧ t.kiln = u.kiln ∧ ∃ l, u.hasRaised t l ∧ ∀ x ∈ l, 867 ≤ x.source := by
  have hwithin : (rollbackFollows s).Within tables _ := Within.when (advanceRollbackTo_within (Mask.Le.refl _))
  refine ⟨hwithin.route_run u rfl rfl rfl rfl rfl, hwithin.flash_run u rfl, hwithin.kiln_run u rfl, ?_⟩
  rw [rollbackFollows, Eff.run_when, advanceRollbackTo, Eff.run_whenS]
  split
  · split
    · refine ⟨[⟨0, 868, 0, _, none⟩], ⟨rfl, rfl, rfl⟩, fun x hx => ?_⟩
      rw [List.mem_singleton.1 hx]
      exact (by decide : 867 ≤ 868)
    · exact ⟨[], .refl u, fun x hx => absurd hx List.not_mem_nil⟩
  · exact ⟨[], .refl u, fun x hx => absurd hx List.not_mem_nil⟩

theorem exec_fwConfirm {s : State} {src : KilnSource} (tag : Nat) (hup : s.kilnUp) (hreach : s.answersOn src = true)
    (hstops : s.kilnStops src 0x23 = none) (hstage : s.power.stage = 5) (htrial : s.kiln.trial = true) (hslot : s.kiln.slot < 2)
    (hroom : s.room 2) :
    ∃ t, exec (.fwConfirm src tag) s = .next t ∧ t.flash.activeSlot = s.kiln.slot ∧ t.kiln.trial = false ∧
      s.records t 867 s.kiln.slot ∧ s.answeredKiln t src 0x23 tag 0 [] := by
  refine ⟨_, rfl, ?_⟩
  have hconfirmed : ((trialConfirmed s).run s).route = s.route ∧ ((trialConfirmed s).run s).flash.activeSlot = s.kiln.slot ∧
      ((trialConfirmed s).run s).kiln.trial = false ∧ s.hasRaised ((trialConfirmed s).run s) [⟨0, 867, 0, s.kiln.slot, none⟩] :=
    ⟨rfl, rfl, rfl, rfl, rfl, rfl⟩
  obtain ⟨hroute, hactive, hended, hraised⟩ := hconfirmed
  obtain ⟨hroute', hflash, hkiln, l, hrest, habove⟩ := rollbackFollows_run s ((trialConfirmed s).run s)
  have hrun : (Eff.seq (kilnPowered (fwConfirmAct src tag)) flushEvents).run s = flushEvents.run ((kilnAnswer src 0x23 tag 0 []).run
      ((rollbackFollows s).run ((trialConfirmed s).run s))) := by
    rw [fwConfirmAct, exec_served hup hstops, Eff.run_look, hstage, htrial]
    rfl
  rw [hrun]
  generalize (rollbackFollows s).run ((trialConfirmed s).run s) = u at *
  obtain ⟨hanswered, hcore, hflash', -⟩ := answered_stands (hroute'.trans hroute) hreach 0x23 tag 0 []
  obtain ⟨-, m, hlate, habove'⟩ := kilnAnswer_run_answered (hroute'.trans hroute) hreach 0x23 tag 0 []
  refine ⟨by rw [hflash', hflash, hactive], ?_, ?_, hanswered⟩
  · rw [trial_of_core hcore, hkiln, hended]
  · refine records_least hraised ⟨l ++ m, hrest.trans hlate, fun x hx => ?_⟩ hroom (by decide) (by decide) (by omega)
    rcases List.mem_append.1 hx with hx | hx
    · exact habove x hx
    · exact Nat.le_trans (by decide) (habove' x hx)

/-- Settles O50. -/
theorem firmwareIsWrittenAndConfirmed : Obligations.FirmwareIsWrittenAndConfirmed := by
  unfold Obligations.FirmwareIsWrittenAndConfirmed
  refine ⟨?_, ?_, ?_, ?_, ?_⟩
  · intro s src tag slot len hoff hdormant hstage hreach hstops hslot hlen hstate
    exact exec_fwBegin tag ⟨hoff, hdormant, hstage⟩ hreach hstops hslot hlen hstate
  · intro s src tag off data slot len hoff hdormant hstage hreach hstops hwrite _ hlow hhigh hfits
    exact exec_fwWrite tag ⟨hoff, hdormant, hstage⟩ hreach hstops hwrite hlow hhigh hfits
  · intro s src tag slot len hoff hdormant hstage hreach hstops hwrite _
    exact exec_fwCommit tag ⟨hoff, hdormant, hstage⟩ hreach hstops hwrite
  · intro s src tag hoff hdormant hup hreach hstops hstage htrial hslot hroom
    exact exec_fwConfirm tag ⟨hoff, hdormant, hup⟩ hreach hstops hstage htrial hslot hroom
  · intro s src tag hoff hdormant hstage hreach hstops hwrite
    exact exec_fwAbort tag ⟨hoff, hdormant, hstage⟩ hreach hstops hwrite

end Sys2Proof.Machine

/-! # The owner (R331 to R334, R349) -/

namespace Sys2Proof.Machine

/-! ## A command is checked -/

/-- The mask of the count of verifications. -/
def checksMask : Mask := ⟨0x0, 0x0, 0x600000000000000000000000000000000000000000000000000⟩

/-- The verifications that a command's status has come to are counted. -/
def countOwnerChecks (s : State) (c : OwnerCommand) : Eff :=
  .when (s.ownerStatus c == 0 || s.ownerStatus c == 0x20) (.ofOption (s.ownerChecks c) countChecks)

theorem countOwnerChecks_within (s : State) (c : OwnerCommand) : (countOwnerChecks s c).Within tables checksMask := by
  refine Within.when ?_
  cases s.ownerChecks c with
  | none => exact Within.skip
  | some l => exact countChecks_within (Mask.Le.refl _)

/-- The state in which an accepted command runs: its verifications are counted, and OwnerSequence has taken its Sequence. -/
def State.sequenced (s : State) (c : OwnerCommand) : State :=
  (flashSet fun f => { f with ownerSequence := c.sequence }).run ((countOwnerChecks s c).run s)

theorem sequenced_parts (s : State) (c : OwnerCommand) : (s.sequenced c).route = s.route ∧
    (s.sequenced c).flash = { s.flash with ownerSequence := c.sequence } ∧ (s.sequenced c).otp = s.otp ∧
    (s.sequenced c).kiln = s.kiln ∧ (s.sequenced c).clock = s.clock := by
  have hwithin := countOwnerChecks_within s c
  have hset (u : State) : ((flashSet fun f => { f with ownerSequence := c.sequence }).run u).flash =
      { u.flash with ownerSequence := c.sequence } := rfl
  rw [State.sequenced, hset, hwithin.flash_run s rfl]
  exact ⟨hwithin.route_run s rfl rfl rfl rfl rfl, rfl, hwithin.otp_run s rfl, hwithin.kiln_run s rfl, hwithin.clock_run rfl s⟩

/-- The measurement of the security configuration follows. -/
def securityMeasured : Eff := .look fun s => .upd (.kiln fun k => { k with securityDigest := digest32 s.securityBytes })

theorem securityMeasured_run (s : State) : (securityMeasured.run s).route = s.route ∧ (securityMeasured.run s).flash = s.flash ∧
    (securityMeasured.run s).otp = s.otp ∧ (securityMeasured.run s).pins = s.pins ∧
    (securityMeasured.run s).kiln.state = s.kiln.state ∧ (securityMeasured.run s).kiln.mka = s.kiln.mka :=
  ⟨rfl, rfl, rfl, rfl, rfl, rfl⟩

/-- The state that an owner command has made before its answer. -/
def State.afterOwner (s : State) (c : OwnerCommand) : State :=
  if s.ownerStatus c = 0 then securityMeasured.run ((ownerRun c).run (s.sequenced c))
  else (raise 870 (c.op + 256 * s.ownerStatus c)).run ((countOwnerChecks s c).run s)

theorem exec_owner_run {s : State} {src : KilnSource} {b : Bytes} {c : OwnerCommand} (hup : s.kilnUp)
    (hstops : s.kilnStops src 0x30 = none) (hread : readOwner b = some c) (tag : Nat) :
    (Eff.seq (kilnPowered (ownerAct src tag b)) flushEvents).run s =
      flushEvents.run ((kilnAnswer src 0x30 tag (s.ownerStatus c) []).run (s.afterOwner c)) := by
  rw [ownerAct, exec_served hup hstops, Eff.run_look, hread]
  dsimp only
  rw [Eff.run_seq, State.afterOwner]
  by_cases h : s.ownerStatus c = 0
  · simp only [State.sequenced, countOwnerChecks, securityMeasured, h, if_true, Eff.run_all_cons, Eff.run_all_nil]
  · rw [if_neg h, if_neg h]
    rfl

theorem readOwner_op {b : Bytes} {c : OwnerCommand} (h : readOwner b = some c) : c.op = beAt b 4 1 := by
  simp only [readOwner, Option.ite_none_left_eq_some, Option.map_eq_some_iff] at h
  obtain ⟨-, bs, -, rfl⟩ := h
  rfl

theorem ownerOnly_of_op {b : Bytes} {op : Nat} (h : beAt b 4 1 = op) (src : KilnSource) (tag : Nat) :
    ownerOnly op src tag b = ownerAct src tag b := by
  rw [ownerOnly, h, beq_self_eq_true]
  rfl

/-- A refused command leaves flash and OTP as they were. -/
theorem afterOwner_of_refused {s : State} {c : OwnerCommand} (h : s.ownerStatus c ≠ 0) : (s.afterOwner c).route = s.route ∧
    (s.afterOwner c).flash = s.flash ∧ (s.afterOwner c).otp = s.otp := by
  have hwithin := countOwnerChecks_within s c
  rw [State.afterOwner, if_neg h]
  exact ⟨hwithin.route_run s rfl rfl rfl rfl rfl, hwithin.flash_run s rfl, hwithin.otp_run s rfl⟩

theorem afterOwner_of_accepted {s : State} {c : OwnerCommand} (h : s.ownerStatus c = 0) :
    (s.afterOwner c).route = ((ownerRun c).run (s.sequenced c)).route ∧
    (s.afterOwner c).flash = ((ownerRun c).run (s.sequenced c)).flash ∧
    (s.afterOwner c).otp = ((ownerRun c).run (s.sequenced c)).otp ∧
    (s.afterOwner c).pins = ((ownerRun c).run (s.sequenced c)).pins ∧
    (s.afterOwner c).kiln.state = ((ownerRun c).run (s.sequenced c)).kiln.state ∧
    (s.afterOwner c).kiln.mka = ((ownerRun c).run (s.sequenced c)).kiln.mka := by
  rw [State.afterOwner, if_pos h]
  exact securityMeasured_run _

/-! ## The answer -/

/-- An answer in the mailbox does not rest on anything that the command has done. -/
theorem answered_in_mailbox (s u : State) (command tag status : Nat) (body : Bytes) :
    s.answeredKiln (flushEvents.run ((kilnAnswer .mailbox command tag status body).run u)) .mailbox command tag status body := by
  refine answeredKiln_flush ?_
  rw [kilnAnswer_mailbox, Eff.run_seq]
  exact (answerInMailbox_run (kilnResponse command tag status body) status _).1

/-- What a command does to flash and OTP, where it is accepted and where it is refused. -/
def State.ownerDid (s t : State) (c : OwnerCommand) (P : Flash → Otp → Prop) : Prop :=
  (s.ownerStatus c = 0 → P t.flash t.otp) ∧ (s.ownerStatus c ≠ 0 → t.flash = s.flash ∧ t.otp = s.otp)

section Commands

variable {s : State} {src : KilnSource} {b : Bytes} {c : OwnerCommand} (tag : Nat) {P : Flash → Otp → Prop}

/-- What an owner command does, told by what its operation does. -/
theorem exec_owner_did (hup : s.kilnUp) (hstops : s.kilnStops src 0x30 = none) (hread : readOwner b = some c)
    (hdone : s.ownerStatus c = 0 → P ((ownerRun c).run (s.sequenced c)).flash ((ownerRun c).run (s.sequenced c)).otp) :
    s.ownerDid ((Eff.seq (kilnPowered (ownerAct src tag b)) flushEvents).run s) c P := by
  have hwithin := kilnAnswer_within (Mask.Le.refl _) (src := src) (command := 0x30) (tag := tag) (status := s.ownerStatus c) (body := [])
  rw [State.ownerDid, exec_owner_run hup hstops hread, flush_within.flash_run _ rfl, hwithin.flash_run _ rfl,
    flush_within.otp_run _ rfl, hwithin.otp_run _ rfl]
  refine ⟨fun h => ?_, fun h => ?_⟩
  · obtain ⟨-, hflash, hotp, -⟩ := afterOwner_of_accepted h
    rw [hflash, hotp]
    exact hdone h
  · obtain ⟨-, hflash, hotp⟩ := afterOwner_of_refused h
    exact ⟨hflash, hotp⟩

/-- In the mailbox an owner command is always answered with its status. -/
theorem exec_owner_mailbox (hup : s.kilnUp) (hstops : s.kilnStops src 0x30 = none) (hread : readOwner b = some c)
    (hmailbox : src = .mailbox) :
    s.answeredKiln ((Eff.seq (kilnPowered (ownerAct src tag b)) flushEvents).run s) src 0x30 tag (s.ownerStatus c) [] := by
  rw [exec_owner_run hup hstops hread]
  subst hmailbox
  exact answered_in_mailbox _ _ _ _ _ _

/-- On a port it is answered with its status where its operation leaves the way of the answer. -/
theorem exec_owner_answered (hup : s.kilnUp) (hreach : s.answersOn src = true) (hstops : s.kilnStops src 0x30 = none)
    (hread : readOwner b = some c) (hroute : ((ownerRun c).run (s.sequenced c)).route = (s.sequenced c).route) :
    s.answeredKiln ((Eff.seq (kilnPowered (ownerAct src tag b)) flushEvents).run s) src 0x30 tag (s.ownerStatus c) [] := by
  rw [exec_owner_run hup hstops hread]
  refine (answered_stands ?_ hreach 0x30 tag _ []).1
  by_cases h : s.ownerStatus c = 0
  · obtain ⟨hsame, -⟩ := sequenced_parts s c
    rw [(afterOwner_of_accepted h).1, hroute, hsame]
  · exact (afterOwner_of_refused h).1

end Commands

/-! ## What the operations do -/

/-- An operation that only sets flash. -/
theorem flashSet_run (f : Flash → Flash) (s : State) : ((flashSet f).run s).route = s.route ∧
    ((flashSet f).run s).flash = f s.flash ∧ ((flashSet f).run s).otp = s.otp := ⟨rfl, rfl, rfl⟩

/-- A new owner key: its slot is burned, and its record kept. -/
theorem takeOwnerKey_run {s : State} (op : Nat) (a : Bytes) (hroom : s.otp.ownerSlots.length < 16) :
    let t := (takeOwnerKey op a).run s
    t.route = s.route ∧ t.flash = { s.flash with ownerKey := some (argumentKey a) } ∧
      t.otp.ownerSlots = s.otp.ownerSlots ++ [((argumentKey a).1, digest32 (argumentKey a).2)] := by
  have hburned : ((Upd.burnOwnerSlot (argumentKey a).1 (digest32 (argumentKey a).2)).apply s).otp.ownerSlots =
      s.otp.ownerSlots ++ [((argumentKey a).1, digest32 (argumentKey a).2)] := by
    rw [Upd.apply, if_pos hroom]
  have hwithin := takeOwnerKey_within (Mask.Le.refl _) (op := op) (a := a)
  refine ⟨hwithin.route_run s rfl rfl rfl rfl rfl, ?_, hburned⟩
  have hkept : ((Upd.burnOwnerSlot (argumentKey a).1 (digest32 (argumentKey a).2)).apply s).flash = s.flash := by
    rw [Upd.apply, if_pos hroom]
  exact congrArg (fun f => { f with ownerKey := some (argumentKey a) }) hkept

theorem advanceRollbackTo_run (n : Nat) (s : State) : let t := (advanceRollbackTo n).run s
    t.route = s.route ∧ t.flash = s.flash ∧ t.otp.rollback = max s.otp.rollback (min n 64) ∧ t.otp.locks = s.otp.locks := by
  have hwithin := advanceRollbackTo_within (Mask.Le.refl _) (n := n)
  refine ⟨hwithin.route_run s rfl rfl rfl rfl rfl, hwithin.flash_run s rfl, ?_⟩
  rw [advanceRollbackTo, Eff.run_whenS]
  split
  case isTrue h => exact ⟨rfl, rfl⟩
  case isFalse h =>
    rw [decide_eq_true_iff] at h
    exact ⟨by omega, rfl⟩

/-- Lock bits are burned: what runs under a pre-shared CAK ends, and flash and OTP else stay. -/
theorem burnLocksRun_run (m : Nat) (s : State) :
    let t := (Eff.all [.upd (.burnLocks m), raise 871 (m % 128), .when (m.testBit 3) presharedEnds]).run s
    t.flash = s.flash ∧ t.otp = { s.otp with locks := s.otp.locks ||| (m % 128) } := by
  have hends := Within.when (c := m.testBit 3) (presharedEnds_within (Mask.Le.refl _))
  exact ⟨hends.flash_run _ rfl, hends.otp_run _ rfl⟩

theorem setKilnState_run (k : KilnState) (s : State) : let t := (setKilnState k).run s
    t.route = s.route ∧ t.flash = s.flash ∧ t.otp = s.otp ∧ t.kiln.state = k ∧ t.kiln.mka = s.kiln.mka ∧ t.pins = s.pins := by
  dsimp only
  rw [setKilnState, Eff.run_whenS]
  split
  case isTrue h => exact ⟨rfl, rfl, rfl, rfl, rfl, rfl⟩
  case isFalse h =>
    rw [bne_iff_ne, not_not] at h
    exact ⟨rfl, rfl, rfl, h, rfl, rfl⟩

/-- What debug unlock has done before its event. -/
def debugBurned : Eff := .all [
  .upd .burnDebug, .upd (.kiln fun k => { k with challenge := none, mka := [], pairings := [] }),
  flashSet fun f => { f with caks := [] }, .upd (.kiln fun k => { k with waiting := [] })]

theorem debugBurned_run (s : State) : let t := debugBurned.run s
    t.route = s.route ∧ t.flash = { s.flash with caks := [] } ∧ t.otp.debugOpened = true ∧ t.kiln.mka = [] :=
  ⟨rfl, rfl, rfl, rfl⟩

theorem unlockDebug_run_eq {s : State} (hwaiting : s.kiln.waiting = []) : unlockDebug.run s =
    (Eff.upd (.pins fun q => { q with jtagOpen := true })).run
      ((setKilnState .debugOpened).run ((raise 886).run (debugBurned.run s))) := by
  rw [unlockDebug, Eff.run_look, hwaiting, List.filter_nil]
  simp only [debugBurned, Eff.run_all_cons, Eff.run_all_nil, Eff.run_forEach_nil]

/-- Debug is unlocked: no operation waits, so that nothing is answered with STATE. -/
theorem unlockDebug_run {s : State} (hwaiting : s.kiln.waiting = []) : let t := unlockDebug.run s
    t.route = s.route ∧ t.flash = { s.flash with caks := [] } ∧ t.otp.debugOpened = true ∧ t.kiln.state = .debugOpened ∧
      t.kiln.mka = [] ∧ t.pins.jtagOpen = true := by
  have hraise := raise_within (Mask.Le.refl _) (source := 886) (arg := 0)
  dsimp only
  rw [unlockDebug_run_eq hwaiting]
  obtain ⟨hroute, hflash, hotp, hmka⟩ := debugBurned_run s
  generalize debugBurned.run s = u at *
  obtain ⟨hroute', hflash', hotp', hstate, hmka', -⟩ := setKilnState_run .debugOpened ((raise 886).run u)
  rw [hraise.route_run u rfl rfl rfl rfl rfl, hroute] at hroute'
  rw [hraise.flash_run u rfl, hflash] at hflash'
  rw [hraise.otp_run u rfl] at hotp'
  rw [hraise.kiln_run u rfl, hmka] at hmka'
  generalize (setKilnState .debugOpened).run ((raise 886).run u) = v at *
  exact ⟨hroute', hflash', (congrArg Otp.debugOpened hotp').trans hotp, hstate, hmka', rfl⟩

/-- What an installed CAK stands as. -/
def installed (s : State) (a cak : Bytes) : Flash → Flash :=
  fun f => { f with caks := f.caks.set (beAt a 0 1) (slice a 8 16, cak, s.now) }

/-- The sessions that start under a CAK leave flash and OTP as they are. -/
theorem startPreshared_forEach (l : List Nat) (s : State) :
    ((Eff.forEach l startPreshared).run s).flash = s.flash ∧ ((Eff.forEach l startPreshared).run s).otp = s.otp := by
  have hwithin := Within.forEach (l := l) fun p => startPreshared_within (Mask.Le.refl _) (p := p)
  exact ⟨hwithin.flash_run s rfl, hwithin.otp_run s rfl⟩

/-- A CAK is installed. -/
theorem installCak_run {s : State} {c : OwnerCommand} {cak : Bytes} (hop : c.op = 8) (h : s.wrappedCak c.argument = some cak) :
    let t := (ownerRun c).run s
    t.flash = installed s c.argument cak s.flash ∧ t.otp = s.otp := by
  have hrun : ∃ l, (ownerRun c).run s = (Eff.forEach l startPreshared).run ((flashSet (installed s c.argument cak)).run s) := by
    simp only [ownerRun, hop, Eff.run_look, h]
    exact ⟨_, rfl⟩
  obtain ⟨l, hrun⟩ := hrun
  obtain ⟨hflash, hotp⟩ := startPreshared_forEach l ((flashSet (installed s c.argument cak)).run s)
  dsimp only
  rw [hrun, hflash, hotp]
  exact ⟨rfl, rfl⟩

/-! ## OwnerSequence stands through every operation -/

/-- The Sequence of the last accepted command. -/
def State.ownerSequence (s : State) : Nat := s.flash.ownerSequence

theorem Eff.Within.sparesSequence {m : Mask} {e : Eff} (he : e.Within tables m) (h : m.parts.testBit Part.flash.bit = false) :
    e.Spares State.ownerSequence := fun s => congrArg Flash.ownerSequence (he.flash_run s h)

theorem burnOwnerSlot_spares_sequence (a : Nat) (x : Bytes) : (Eff.upd (.burnOwnerSlot a x)).Spares State.ownerSequence := fun s => by
  rw [Eff.run_upd, Upd.apply]
  split
  · rfl
  · rfl

theorem takeOwnerKey_spares_sequence (op : Nat) (a : Bytes) : (takeOwnerKey op a).Spares State.ownerSequence :=
  .look fun _ => .cons (burnOwnerSlot_spares_sequence _ _) (.cons (fun _ => rfl) (.cons (fun _ => rfl) .nil))

theorem unlockDebug_spares_sequence : unlockDebug.Spares State.ownerSequence := by
  have hanswers (l : List KilnOp) := Within.forEach (l := l) fun o => kilnAnswer_within (Mask.Le.refl _) (src := o.source)
    (command := beAt o.message 2 2) (tag := beAt o.message 4 2) (status := 0x15) (body := [])
  have hstate := setKilnState_within (Mask.Le.refl _) (new := .debugOpened)
  exact .look fun _ => .cons (fun _ => rfl) (.cons (fun _ => rfl) (.cons (fun _ => rfl) (.cons ((hanswers _).sparesSequence rfl)
    (.cons (fun _ => rfl) (.cons (fun _ => rfl) (.cons (hstate.sparesSequence rfl) (.cons (fun _ => rfl) .nil)))))))

/-- No operation of the owner takes a Sequence itself. -/
theorem ownerRun_spares_sequence (c : OwnerCommand) : (ownerRun c).Spares State.ownerSequence := by
  have hset {f : Flash → Flash} (h : ∀ x, (f x).ownerSequence = x.ownerSequence) : (flashSet f).Spares State.ownerSequence :=
    fun s => h s.flash
  rw [ownerRun]
  split
  · exact takeOwnerKey_spares_sequence _ _
  · exact takeOwnerKey_spares_sequence _ _
  · exact hset fun _ => rfl
  · exact hset fun _ => rfl
  · exact fun s => congrArg Flash.ownerSequence (burnLocksRun_run _ s).1
  · exact hset fun _ => rfl
  · exact hset fun _ => rfl
  · refine .look fun s => ?_
    split
    · exact .seq (hset fun _ => rfl) fun u => congrArg Flash.ownerSequence (startPreshared_forEach _ u).1
    · exact .skip
  · exact fun s => congrArg Flash.ownerSequence (advanceRollbackTo_run _ s).2.1
  · exact unlockDebug_spares_sequence
  · exact .skip

/-! ## The owner's commands -/

/-- The argument's length fits its operation, and its magic and blocks are read: the operation is the byte of Table 10.7. -/
theorem ownerRun_of_op {b : Bytes} {c : OwnerCommand} {op : Nat} (hread : readOwner b = some c) (h : beAt b 4 1 = op) : c.op = op :=
  (readOwner_op hread).trans h

section Served

variable {s : State} {src : KilnSource} {b : Bytes} {c : OwnerCommand} (tag : Nat)

/-- A command whose operation only sets flash. -/
theorem flashSet_served (hup : s.kilnUp) (hreach : s.answersOn src = true) (hstops : s.kilnStops src 0x30 = none)
    (hread : readOwner b = some c) {f : Flash → Flash} (hrun : ownerRun c = flashSet f) :
    let t := (Eff.seq (kilnPowered (ownerAct src tag b)) flushEvents).run s
    s.answeredKiln t src 0x30 tag (s.ownerStatus c) [] ∧
      s.ownerDid t c fun x y => x = f { s.flash with ownerSequence := c.sequence } ∧ y = s.otp := by
  obtain ⟨hroute, hflash, hotp⟩ := flashSet_run f (s.sequenced c)
  obtain ⟨-, hflash', hotp', -⟩ := sequenced_parts s c
  rw [← hrun] at hroute hflash hotp
  rw [hflash'] at hflash
  rw [hotp'] at hotp
  exact ⟨exec_owner_answered tag hup hreach hstops hread hroute, exec_owner_did tag hup hstops hread fun _ => ⟨hflash, hotp⟩⟩

/-- A new owner key is taken into the next slot. -/
theorem takeOwnerKey_served (hup : s.kilnUp) (hreach : s.answersOn src = true) (hstops : s.kilnStops src 0x30 = none)
    (hread : readOwner b = some c) (hrun : ownerRun c = takeOwnerKey c.op c.argument) (hslots : s.otp.ownerSlots.length < 16) :
    let t := (Eff.seq (kilnPowered (ownerAct src tag b)) flushEvents).run s
    s.answeredKiln t src 0x30 tag (s.ownerStatus c) [] ∧
      s.ownerDid t c fun x y => x.ownerSequence = c.sequence ∧
        y.ownerSlots = s.otp.ownerSlots ++ [((argumentKey c.argument).1, digest32 (argumentKey c.argument).2)] ∧
        x.ownerKey = some (argumentKey c.argument) := by
  obtain ⟨-, hflash', hotp', -⟩ := sequenced_parts s c
  have hroom : (s.sequenced c).otp.ownerSlots.length < 16 := by rw [hotp']; exact hslots
  obtain ⟨hroute, hflash, hburned⟩ := takeOwnerKey_run c.op c.argument hroom
  rw [← hrun] at hroute hflash hburned
  rw [hflash'] at hflash
  rw [hotp'] at hburned
  refine ⟨exec_owner_answered tag hup hreach hstops hread hroute, exec_owner_did tag hup hstops hread fun _ => ?_⟩
  rw [hflash]
  exact ⟨rfl, hburned, rfl⟩

/-- The CAK of an accepted command opens. -/
theorem wrappedCak_of_accepted (h : s.ownerStatus c = 0) (hop : c.op = 8) : ∃ cak, s.wrappedCak c.argument = some cak := by
  rw [← Option.isSome_iff_exists, ← Option.not_isNone, Bool.not_eq_true']
  by_contra hnone
  rw [Bool.not_eq_false] at hnone
  simp only [State.ownerStatus, hop, hnone, beq_self_eq_true, Bool.and_self, if_true] at h
  split at h
  · cases h
  split at h
  · cases h
  split at h
  · cases h
  split at h
  · cases h
  · cases h

/-- A CAK is installed under its number. -/
theorem installCak_did (hup : s.kilnUp) (hstops : s.kilnStops src 0x30 = none) (hread : readOwner b = some c) (hop : c.op = 8) :
    s.ownerDid ((Eff.seq (kilnPowered (ownerAct src tag b)) flushEvents).run s) c fun x y => x.ownerSequence = c.sequence ∧
      (x.caks.get? (beAt c.argument 0 1)).map (fun k => (k.1, k.2.2)) = some (slice c.argument 8 16, s.now) ∧ y = s.otp := by
  refine exec_owner_did tag hup hstops hread fun h => ?_
  obtain ⟨-, hflash', hotp', -, hclock⟩ := sequenced_parts s c
  have hopens : (s.sequenced c).wrappedCak c.argument = s.wrappedCak c.argument := by
    simp only [State.wrappedCak, State.kemSeed, hotp']
  have hgiven := wrappedCak_of_accepted h hop
  obtain ⟨cak, hcak⟩ := hgiven
  obtain ⟨hflash, hotp⟩ := installCak_run hop (hopens.trans hcak)
  rw [hflash, hotp, hflash', hotp', installed, State.now, hclock]
  exact ⟨rfl, congrArg (Option.map fun k : Bytes × Bytes × Nat => (k.1, k.2.2)) (PMap.get_set_same _ _ _), rfl⟩

/-- The rollback counter advances. -/
theorem advanceRollback_served (hup : s.kilnUp) (hreach : s.answersOn src = true) (hstops : s.kilnStops src 0x30 = none)
    (hread : readOwner b = some c) (hop : c.op = 9) :
    let t := (Eff.seq (kilnPowered (ownerAct src tag b)) flushEvents).run s
    s.answeredKiln t src 0x30 tag (s.ownerStatus c) [] ∧
      s.ownerDid t c fun x y => x.ownerSequence = c.sequence ∧
        y.rollback = max s.otp.rollback (min (beAt c.argument 0 1) 64) ∧ y.locks = s.otp.locks := by
  have hrun : ownerRun c = advanceRollbackTo (beAt c.argument 0 1) := by simp only [ownerRun, hop]
  obtain ⟨-, hflash', hotp', -⟩ := sequenced_parts s c
  obtain ⟨hroute, hflash, hrollback, hlocks⟩ := advanceRollbackTo_run (beAt c.argument 0 1) (s.sequenced c)
  rw [← hrun] at hroute hflash hrollback hlocks
  rw [hotp'] at hrollback hlocks
  refine ⟨exec_owner_answered tag hup hreach hstops hread hroute, exec_owner_did tag hup hstops hread fun _ => ?_⟩
  rw [hflash, hflash']
  exact ⟨rfl, hrollback, hlocks⟩

/-- Lock bits are burned. -/
theorem burnLocks_did (hup : s.kilnUp) (hstops : s.kilnStops src 0x30 = none) (hread : readOwner b = some c) (hop : c.op = 5) :
    s.ownerDid ((Eff.seq (kilnPowered (ownerAct src tag b)) flushEvents).run s) c fun x y => x.ownerSequence = c.sequence ∧
      y.locks = s.otp.locks ||| (beAt c.argument 0 2 % 128) ∧ y.ownerSlots = s.otp.ownerSlots := by
  refine exec_owner_did tag hup hstops hread fun _ => ?_
  have hrun : ownerRun c = .all [.upd (.burnLocks (beAt c.argument 0 2)), raise 871 (beAt c.argument 0 2 % 128),
      .when ((beAt c.argument 0 2).testBit 3) presharedEnds] := by simp only [ownerRun, hop]
  obtain ⟨-, hflash', hotp', -⟩ := sequenced_parts s c
  obtain ⟨hflash, hotp⟩ := burnLocksRun_run (beAt c.argument 0 2) (s.sequenced c)
  rw [hrun, hflash, hotp, hflash', hotp']
  exact ⟨rfl, rfl, rfl⟩

/-- Whatever an accepted command does, OwnerSequence takes its Sequence. -/
theorem owner_did (hup : s.kilnUp) (hstops : s.kilnStops src 0x30 = none) (hread : readOwner b = some c) :
    s.ownerDid ((Eff.seq (kilnPowered (ownerAct src tag b)) flushEvents).run s) c fun x _ => x.ownerSequence = c.sequence := by
  refine exec_owner_did tag hup hstops hread fun _ => ?_
  obtain ⟨-, hflash', -⟩ := sequenced_parts s c
  have hkept : ((ownerRun c).run (s.sequenced c)).flash.ownerSequence = (s.sequenced c).flash.ownerSequence :=
    ownerRun_spares_sequence c (s.sequenced c)
  rw [hkept, hflash']

/-- With no session, no packet number is used, and no session comes. -/
theorem usePacketNumber_run_without {s : State} (p : Nat) (h : s.kiln.mka = []) : ((usePacketNumber p).run s).kiln.mka = [] := by
  have hnone : s.kiln.mka.get? p = none := by
    rw [h]
    rfl
  rw [usePacketNumber, Eff.run_look, hnone]
  exact h

/-- A frame of the Kiln starts no session. -/
theorem sendFromKiln_run_without {s : State} (p : Nat) (d : Bytes) (h : s.kiln.mka = []) :
    ((sendFromKiln p .kiln d).run s).kiln.mka = [] := by
  unfold sendFromKiln
  rw [Eff.run_look]
  split
  · rw [Eff.run_when]
    split
    · rw [Eff.run_seq, Eff.run_seq]
      exact usePacketNumber_run_without p h
    · exact h
  · rw [Eff.run_when]
    split
    · rw [(sendUrgent_within (Mask.Le.refl _)).kiln_run s rfl]
      exact h
    · exact h

/-- An answer starts no session. -/
theorem kilnAnswer_run_without {s : State} (h : s.kiln.mka = []) (src : KilnSource) (command tag status : Nat) (body : Bytes) :
    ((kilnAnswer src command tag status body).run s).kiln.mka = [] := by
  have hframes (p : Nat) (l : List Bytes) {u : State} (hu : u.kiln.mka = []) :
      ((Eff.forEach l fun b => sendFromKiln p .kiln b).run u).kiln.mka = [] := by
    induction l generalizing u with
    | nil => exact hu
    | cons d l ih =>
      rw [Eff.run_forEach_cons]
      exact ih (sendFromKiln_run_without p d hu)
  cases src with
  | mailbox => exact h
  | port p prot mac => exact hframes p _ (u := (count (kilnItem (if status = 0 then 0 else 1))).run s) h

/-- Debug is unlocked. -/
theorem debugUnlock_served (hup : s.kilnUp) (hreach : s.answersOn src = true) (hstops : s.kilnStops src 0x30 = none)
    (hread : readOwner b = some c) (hop : c.op = 10) (hwaiting : s.kiln.waiting = []) :
    let t := (Eff.seq (kilnPowered (ownerAct src tag b)) flushEvents).run s
    s.answeredKiln t src 0x30 tag (s.ownerStatus c) [] ∧
      s.ownerDid t c (fun x y => x.ownerSequence = c.sequence ∧ y.debugOpened = true ∧ x.caks = []) ∧
      (s.ownerStatus c = 0 → t.kiln.state = .debugOpened ∧ t.kiln.mka = [] ∧ t.pins.jtagOpen = true) := by
  have hrun : ownerRun c = unlockDebug := by simp only [ownerRun, hop]
  obtain ⟨-, hflash', hotp', hkiln', -⟩ := sequenced_parts s c
  have hnone : (s.sequenced c).kiln.waiting = [] := by rw [hkiln']; exact hwaiting
  obtain ⟨hroute, hflash, hopened, hstate, hmka, hpins⟩ := unlockDebug_run hnone
  rw [← hrun] at hroute hflash hopened hstate hmka hpins
  refine ⟨exec_owner_answered tag hup hreach hstops hread hroute, exec_owner_did tag hup hstops hread fun _ => ?_, fun h => ?_⟩
  · rw [hflash, hflash']
    exact ⟨rfl, hopened, rfl⟩
  obtain ⟨-, -, -, hpins', hstate', hmka'⟩ := afterOwner_of_accepted h
  have hanswer := kilnAnswer_within (Mask.Le.refl _) (src := src) (command := 0x30) (tag := tag) (status := s.ownerStatus c) (body := [])
  rw [exec_owner_run hup hstops hread]
  refine ⟨?_, ?_, ?_⟩
  · have hcore := kilnAnswer_spares_core src 0x30 tag (s.ownerStatus c) [] (s.afterOwner c)
    rw [flush_within.kiln_run _ rfl]
    exact (congrArg Kiln.state hcore).trans (hstate'.trans hstate)
  · rw [flush_within.kiln_run _ rfl]
    exact kilnAnswer_run_without (hmka'.trans hmka) _ _ _ _ _
  · have hflushed := flush_within.keeps_part ((kilnAnswer src 0x30 tag (s.ownerStatus c) []).run (s.afterOwner c)) .pins rfl
    have hkept := hanswer.keeps_part (s.afterOwner c) .pins rfl
    exact congrArg Pins.jtagOpen (hflushed.symm.trans (hkept.symm.trans hpins')) |>.trans hpins

theorem ofLe_lt (b : Bytes) : ofLe b < 256 ^ b.length := by
  induction b with
  | nil => exact Nat.one_pos
  | cons x b ih =>
    have hx := x.isLt
    rw [ofLe, List.length_cons, Nat.pow_succ]
    omega

theorem slice_length (b : Bytes) (off len : Nat) : (slice b off len).length = len := by
  have hpart : ((b.drop off).take len).length ≤ len := List.length_take_le _ _
  simp only [slice, List.length_append, List.length_replicate]
  omega

theorem beAt_byte_lt (b : Bytes) (off : Nat) : beAt b off 1 < 256 := by
  have h := ofLe_lt (slice b off 1).reverse
  rw [List.length_reverse, slice_length] at h
  exact h

/-- A command that is not well formed is refused. -/
theorem malformed_refused (hup : s.kilnUp) (hreach : s.answersOn src = true) (hstops : s.kilnStops src 0x30 = none)
    (hread : readOwner b = none) (hroom : s.room 1) :
    let t := (Eff.seq (kilnPowered (ownerAct src tag b)) flushEvents).run s
    s.answeredKiln t src 0x30 tag 0x14 [] ∧ s.records t 870 (beAt b 4 1 + 5120) ∧ t.flash = s.flash ∧ t.otp = s.otp := by
  have hraise := raise_within (Mask.Le.refl _) (source := 870) (arg := beAt b 4 1 + 5120)
  dsimp only
  rw [ownerAct, exec_served hup hstops, Eff.run_look, hread]
  dsimp only
  rw [Eff.run_seq]
  have hroute : ((raise 870 (beAt b 4 1 + 5120)).run s).route = s.route := hraise.route_run s rfl rfl rfl rfl rfl
  obtain ⟨hanswered, -, hflash, hotp⟩ := answered_stands hroute hreach 0x30 tag 0x14 []
  obtain ⟨-, hlate⟩ := kilnAnswer_run_answered hroute hreach 0x30 tag 0x14 []
  have harg := beAt_byte_lt b 4
  exact ⟨hanswered, records_before_late (raise_hasRaised 870 _ s) hlate hroom (Nat.le_refl _) (by decide) (by omega),
    hflash.trans (hraise.flash_run s rfl), hotp.trans (hraise.otp_run s rfl)⟩

end Served

/-- Settles O51: each operation leaves the way of the answer as it is, and OTP and flash as its row of Table 10.8 says. -/
theorem ownerKeysAndUnlock : Obligations.OwnerKeysAndUnlock := by
  unfold Obligations.OwnerKeysAndUnlock
  refine ⟨?_, ?_, ?_, ?_, ?_, ?_⟩
  · intro s src tag b c hoff hdormant hstage hreach hstops hread hop hslots
    refine ⟨_, rfl, ?_⟩
    have hrun : ownerRun c = takeOwnerKey c.op c.argument := by simp only [ownerRun, ownerRun_of_op hread hop]
    rw [ownerOnly_of_op hop]
    exact takeOwnerKey_served tag ⟨hoff, hdormant, hstage⟩ hreach hstops hread hrun hslots
  · intro s src tag b c hoff hdormant hstage hreach hstops hread hop hslots
    refine ⟨_, rfl, ?_⟩
    have hrun : ownerRun c = takeOwnerKey c.op c.argument := by simp only [ownerRun, ownerRun_of_op hread hop]
    rw [ownerOnly_of_op hop]
    exact takeOwnerKey_served tag ⟨hoff, hdormant, hstage⟩ hreach hstops hread hrun hslots
  · intro s src tag b c hoff hdormant hstage hreach hstops hread hop
    refine ⟨_, rfl, ?_⟩
    have hrun : ownerRun c = flashSet fun f => { f with ownerKey := some (argumentKey c.argument) } := by
      simp only [ownerRun, ownerRun_of_op hread hop]
    rw [ownerOnly_of_op hop]
    obtain ⟨hanswered, hdone, hsame⟩ := flashSet_served tag ⟨hoff, hdormant, hstage⟩ hreach hstops hread hrun
    refine ⟨hanswered, fun h => ?_, hsame⟩
    obtain ⟨hflash, hotp⟩ := hdone h
    rw [hflash]
    exact ⟨rfl, hotp, rfl⟩
  · intro s src tag b c hoff hdormant hstage hreach hstops hread hop
    refine ⟨_, rfl, ?_⟩
    rw [ownerOnly_of_op hop]
    exact ⟨exec_owner_mailbox tag ⟨hoff, hdormant, hstage⟩ hstops hread,
      installCak_did tag ⟨hoff, hdormant, hstage⟩ hstops hread (ownerRun_of_op hread hop)⟩
  · intro s src tag b c hoff hdormant hstage hreach hstops hread hop
    refine ⟨_, rfl, ?_⟩
    rw [ownerOnly_of_op hop]
    exact advanceRollback_served tag ⟨hoff, hdormant, hstage⟩ hreach hstops hread (ownerRun_of_op hread hop)
  · intro s src tag b c hoff hdormant hstage hreach hstops hread hop hwaiting
    refine ⟨_, rfl, ?_⟩
    rw [ownerOnly_of_op hop]
    obtain ⟨hanswered, ⟨hdone, hsame⟩, hopened⟩ :=
      debugUnlock_served tag ⟨hoff, hdormant, hstage⟩ hreach hstops hread (ownerRun_of_op hread hop) hwaiting
    refine ⟨hanswered, fun h => ?_, hsame⟩
    obtain ⟨hsequence, hotp, hcaks⟩ := hdone h
    obtain ⟨hstate, hmka, hpins⟩ := hopened h
    exact ⟨hsequence, hotp, hstate, hmka, hcaks, hpins⟩

/-- Settles O52: likewise; a command that cannot be read is refused before anything is looked at. -/
theorem ownerSettings : Obligations.OwnerSettings := by
  unfold Obligations.OwnerSettings
  refine ⟨?_, ?_, ?_, ?_, ?_, ?_⟩
  · intro s src tag b c hoff hdormant hstage _ hstops hread _
    exact ⟨_, rfl, exec_owner_mailbox tag ⟨hoff, hdormant, hstage⟩ hstops hread, owner_did tag ⟨hoff, hdormant, hstage⟩ hstops hread⟩
  · intro s src tag b hoff hdormant hstage hreach hstops hread hroom
    exact ⟨_, rfl, malformed_refused tag ⟨hoff, hdormant, hstage⟩ hreach hstops (Option.isNone_iff_eq_none.1 hread) hroom⟩
  · intro s src tag b c hoff hdormant hstage hreach hstops hread hop
    refine ⟨_, rfl, ?_⟩
    have hrun : ownerRun c = flashSet fun f =>
        { f with
            requireSigned := beAt c.argument 0 1 != 0, advanceOnConfirm := beAt c.argument 1 1 != 0
            pairingMode := min 2 (beAt c.argument 2 1), cakLifetime := cakLifetimeOf (beAt c.argument 8 8) } := by
      simp only [ownerRun, ownerRun_of_op hread hop]
    rw [ownerOnly_of_op hop]
    obtain ⟨hanswered, hdone, hsame⟩ := flashSet_served tag ⟨hoff, hdormant, hstage⟩ hreach hstops hread hrun
    refine ⟨hanswered, fun h => ?_, hsame⟩
    rw [(hdone h).1]
    exact ⟨rfl, rfl, rfl, rfl, rfl⟩
  · intro s src tag b c hoff hdormant hstage hreach hstops hread hop
    refine ⟨_, rfl, ?_⟩
    rw [ownerOnly_of_op hop]
    exact ⟨exec_owner_mailbox tag ⟨hoff, hdormant, hstage⟩ hstops hread,
      burnLocks_did tag ⟨hoff, hdormant, hstage⟩ hstops hread (ownerRun_of_op hread hop)⟩
  · intro s src tag b c hoff hdormant hstage hreach hstops hread hop
    refine ⟨_, rfl, ?_⟩
    have hrun : ownerRun c = flashSet fun f =>
        { f with lockedRanges := (List.range (beAt c.argument 0 1)).map fun i => (beAt c.argument (8 + 8 * i) 2, beAt c.argument (10 + 8 * i) 2) } := by
      simp only [ownerRun, ownerRun_of_op hread hop]
    rw [ownerOnly_of_op hop]
    obtain ⟨hanswered, hdone, hsame⟩ := flashSet_served tag ⟨hoff, hdormant, hstage⟩ hreach hstops hread hrun
    refine ⟨hanswered, fun h => ?_, hsame⟩
    rw [(hdone h).1]
    exact ⟨rfl, rfl⟩
  · intro s src tag b c hoff hdormant hstage hreach hstops hread hop
    refine ⟨_, rfl, ?_⟩
    have hrun : ownerRun c = flashSet fun f =>
        { f with allowList := (List.range (beAt c.argument 0 2)).map fun i => beAt c.argument (8 + 8 * i) 8 } := by
      simp only [ownerRun, ownerRun_of_op hread hop]
    rw [ownerOnly_of_op hop]
    obtain ⟨hanswered, hdone, hsame⟩ := flashSet_served tag ⟨hoff, hdormant, hstage⟩ hreach hstops hread hrun
    refine ⟨hanswered, fun h => ?_, hsame⟩
    rw [(hdone h).1]
    exact ⟨rfl, rfl⟩

end Sys2Proof.Machine

/-! # Kiln messages (R321, R330, R336 to R339, R349, R350) -/

namespace Sys2Proof.Machine

/-! ## What is counted, and what stands -/

/-- The mask of a message of the Kiln that leaves. -/
def kilnSendMask : Mask :=
  ⟨0x3880b280, 0x3000000000000000000000004000e002000000000000000000000000, 0x16002000000000000000000000000000000100000000200000065000080000000⟩

/-- An answer of the Kiln counts itself among the Kiln's counters, and nothing else. -/
theorem kilnAnswer_run_counter {i : Nat} (hfree : freeCtr tables kilnSendMask (counterClass i) = true) (src : KilnSource)
    (command tag status : Nat) (body : Bytes) (s : State) : ((kilnAnswer src command tag status body).run s).counter i =
      ((count (kilnItem (if status = 0 then 0 else 1))).run s).counter i := by
  cases src with
  | mailbox => rfl
  | port p prot mac =>
    have hwithin := sendKiln_within (Mask.Le.refl kilnSendMask) (p := p) (dest := mac) (kind := 2) (command := command) (tag := tag)
      (status := status) (body := body)
    exact hwithin.keeps_ctr _ rfl hfree

/-- A served command is counted. -/
theorem served_counts (src : KilnSource) (command tag : Nat) (body : Bytes) (s : State) :
    (flushEvents.run ((kilnAnswer src command tag 0 body).run s)).counter (kilnItem 0) =
      (s.counter (kilnItem 0) + 1) % 18446744073709551616 := by
  rw [flush_counter _ _ (by decide +kernel), kilnAnswer_run_counter (by decide +kernel)]
  exact counter_count_same s _ 1

/-- An answer counts nothing of the other items of the Kiln. -/
theorem answered_counter {i : Nat} (hi : 1 < i ∧ i < 16) (hfree : freeCtr tables kilnSendMask (counterClass (kilnItem i)) = true)
    (hflush : counterClass (kilnItem i) ≠ 10823) (src : KilnSource) (command tag : Nat) (body : Bytes) (s : State) :
    (flushEvents.run ((kilnAnswer src command tag 0 body).run s)).counter (kilnItem i) = s.counter (kilnItem i) := by
  rw [flush_counter _ _ hflush, kilnAnswer_run_counter hfree]
  exact counter_count_other s _ _ 1 (by rw [if_pos rfl, kilnItem, kilnItem]; omega)

/-! ## Requests that only read -/

theorem exec_getStatus {s : State} {src : KilnSource} (tag : Nat) (hup : s.kilnUp) (hreach : s.answersOn src = true)
    (hstops : s.kilnStops src 1 = none) :
    ∃ t, exec (.getStatus src tag) s = .next t ∧ s.answeredKiln t src 1 tag 0 s.statusBytes ∧
      t.counter (kilnItem 0) = (s.counter (kilnItem 0) + 1) % 18446744073709551616 ∧ t.kiln.waiting = s.kiln.waiting := by
  refine ⟨_, rfl, ?_⟩
  obtain ⟨hanswered, hcore, -⟩ := answered_stands (u := s) rfl hreach 1 tag 0 s.statusBytes
  rw [getStatusAct, exec_served hup hstops, Eff.run_look]
  have hwaiting := congrArg Kiln.waiting hcore
  exact ⟨hanswered, served_counts _ _ _ _ _, hwaiting⟩

theorem exec_getCertificate {s : State} {src : KilnSource} {i : Nat} (tag : Nat) (hup : s.kilnUp) (hreach : s.answersOn src = true)
    (hstops : s.kilnStops src 2 = none) (hi : i < 3) :
    ∃ t, exec (.getCertificate src tag i) s = .next t ∧ s.answeredKiln t src 2 tag 0 (s.certificate i) ∧
      t.counter (kilnItem 0) = (s.counter (kilnItem 0) + 1) % 18446744073709551616 := by
  refine ⟨_, rfl, ?_⟩
  obtain ⟨hanswered, -⟩ := answered_stands (u := s) rfl hreach 2 tag 0 (s.certificate i)
  rw [getCertificateAct, exec_served hup hstops, Eff.run_look, if_pos hi]
  exact ⟨hanswered, served_counts _ _ _ _ _⟩

theorem exec_getKemKey {s : State} {src : KilnSource} {key : Bytes} (tag : Nat) (hup : s.kilnUp) (hreach : s.answersOn src = true)
    (hstops : s.kilnStops src 2 = none) (hkey : key = (List.range 1184).map fun j => Config.kemPublicByte s.kemSeed j) :
    ∃ t, exec (.getCertificate src tag 3) s = .next t ∧
      s.answeredKiln t src 2 tag 0 (key ++ s.deviceBlock [0x4B, 0x45, 0x4D] key) ∧
      t.counter (kilnItem 4) = (s.counter (kilnItem 4) + 1) % 18446744073709551616 := by
  refine ⟨_, rfl, ?_⟩
  obtain ⟨hanswered, -⟩ := answered_stands (u := (count (kilnItem 4)).run s) rfl hreach 2 tag 0 (key ++ s.deviceBlock [0x4B, 0x45, 0x4D] key)
  rw [getCertificateAct, exec_served hup hstops, Eff.run_look, if_neg (by decide), if_pos rfl, ← hkey, Eff.run_seq]
  refine ⟨hanswered, ?_⟩
  rw [answered_counter (by decide) (by decide +kernel) (by decide +kernel)]
  exact counter_count_same s _ 1

/-! ## The challenge and attestation -/

/-- A challenge is kept, with its time, and the bytes of the random source are used. -/
def challengeKept (s : State) : Eff :=
  .seq (.upd (.kiln fun k => { k with randomUsed := k.randomUsed + 32 }))
    (.upd (.kiln fun k => { k with challenge := some ((List.range 32).map fun i => Config.randomByte (s.kiln.randomUsed + i), s.elapsed) }))

theorem exec_getChallenge {s : State} {src : KilnSource} (tag : Nat) (hup : s.kilnUp) (hreach : s.answersOn src = true)
    (hstops : s.kilnStops src 3 = none) :
    ∃ t, exec (.getChallenge src tag) s = .next t ∧
      t.kiln.challenge = some ((List.range 32).map fun i => Config.randomByte (s.kiln.randomUsed + i), s.elapsed) ∧
      t.kiln.randomUsed = s.kiln.randomUsed + 32 ∧
      s.answeredKiln t src 3 tag 0 ((List.range 32).map fun i => Config.randomByte (s.kiln.randomUsed + i)) := by
  refine ⟨_, rfl, ?_⟩
  obtain ⟨hanswered, hcore, -⟩ := answered_stands (u := (challengeKept s).run s) rfl hreach 3 tag 0
    ((List.range 32).map fun i => Config.randomByte (s.kiln.randomUsed + i))
  have hrun : (Eff.seq (kilnPowered (getChallengeAct src tag)) flushEvents).run s = flushEvents.run ((kilnAnswer src 3 tag 0
      ((List.range 32).map fun i => Config.randomByte (s.kiln.randomUsed + i))).run ((challengeKept s).run s)) := by
    rw [getChallengeAct, exec_served hup hstops]
    rfl
  have hchallenge := congrArg Kiln.challenge hcore
  have hrandom := congrArg Kiln.randomUsed hcore
  rw [hrun]
  exact ⟨hchallenge, hrandom, hanswered⟩

theorem exec_challengeExpiry {s : State} {r : Bytes} {a : Nat} (hchallenge : s.kiln.challenge = some (r, a))
    (hover : s.after a (nsUnits 600000000000) = true) :
    ∃ t, exec .challengeExpiry s = .next t ∧ t.kiln = { s.kiln with challenge := none } := by
  refine ⟨_, rfl, ?_⟩
  rw [Eff.run_seq, flush_within.kiln_run _ rfl, challengeExpires, Eff.run_look, hchallenge]
  dsimp only
  rw [hover]
  rfl

theorem exec_attest {s : State} {src : KilnSource} {nonce : Bytes} (tag : Nat) (hup : s.kilnUp) (hreach : s.answersOn src = true)
    (hstops : s.kilnStops src 0x10 = none) (hruns : s.kilnRuns = true) (hlength : nonce.length = 32) (hroom : s.room 1) :
    ∃ t, exec (.attest src tag nonce) s = .next t ∧
      s.answeredKiln t src 0x10 tag 0 (s.report nonce ++ s.deviceBlock [0x41, 0x54, 0x54] (s.report nonce)) ∧
      s.records t 872 (sourceCode src) ∧
      t.counter (kilnItem 5) = (s.counter (kilnItem 5) + 1) % 18446744073709551616 := by
  refine ⟨_, rfl, ?_⟩
  have hrun : (Eff.seq (kilnPowered (attestAct src tag nonce)) flushEvents).run s = flushEvents.run ((kilnAnswer src 0x10 tag 0
      (s.report nonce ++ s.deviceBlock [0x41, 0x54, 0x54] (s.report nonce))).run ((raise 872 (sourceCode src)).run
        ((count (kilnItem 5)).run ((count (kilnItem 4)).run s)))) := by
    rw [attestAct, exec_served hup hstops, Eff.run_look, hruns, hlength]
    rfl
  have hnoted : ∃ u, (raise 872 (sourceCode src)).run ((count (kilnItem 5)).run ((count (kilnItem 4)).run s)) = u ∧ u.route = s.route ∧
      s.hasRaised u [⟨0, 872, 0, sourceCode src, none⟩] ∧
      u.counter (kilnItem 5) = (s.counter (kilnItem 5) + 1) % 18446744073709551616 := by
    refine ⟨_, rfl, rfl, ⟨rfl, rfl, rfl⟩, ?_⟩
    rw [(raise_within (Mask.Le.refl _)).keeps_ctr _ rfl (by decide +kernel)]
    refine (counter_count_same _ _ 1).trans ?_
    exact congrArg (fun n => (n + 1) % 18446744073709551616) (counter_count_other s (kilnItem 4) (kilnItem 5) 1 (by decide))
  obtain ⟨u, hu, hroute, hraised, hcounted⟩ := hnoted
  rw [hrun, hu]
  obtain ⟨hanswered, -⟩ := answered_stands hroute hreach 0x10 tag 0 (s.report nonce ++ s.deviceBlock [0x41, 0x54, 0x54] (s.report nonce))
  obtain ⟨-, hlate⟩ := kilnAnswer_run_answered hroute hreach 0x10 tag 0
    (s.report nonce ++ s.deviceBlock [0x41, 0x54, 0x54] (s.report nonce))
  have hcode : sourceCode src ≤ 3 := by
    cases src with
    | mailbox => exact Nat.le_of_ble_eq_true rfl
    | port p prot mac => exact Nat.le_refl _
  refine ⟨hanswered, records_before_late hraised hlate hroom (Nat.le_refl _) (by decide) (by omega), ?_⟩
  rw [answered_counter (by decide) (by decide +kernel) (by decide +kernel)]
  exact hcounted

/-! ## A Kiln fault -/

/-- Event 899, where the class of an occurrence reports every one. -/
def everyReported (s : State) (cls inst : Nat) : List Raised :=
  let i := s.faults.instances.getD (faultKey cls inst) FaultInstance.init
  if s.on 0xB000 5 cls then [⟨if i.lasting then 2 else 1, 899, 0, faultArg cls inst, none⟩] else []

/-- An occurrence that makes nothing lasting raises its event, then event 899 where its class asks for it. -/
theorem faultEvent_raises {s : State} {cls inst : Nat} (h : s.staysAsItIs cls inst = true) (source arg : Nat) :
    ∃ sev, s.hasRaised ((faultEvent cls inst source arg).run s) (⟨sev, source, 0, arg, none⟩ :: everyReported s cls inst) := by
  have hstays : (!(s.faults.instances.getD (faultKey cls inst) FaultInstance.init).lasting &&
      decide (s.n 0xB000 1 cls ≤ windowCount (bumpBucket (s.faults.instances.getD (faultKey cls inst)
        FaultInstance.init).buckets (s.bucketAt cls)) (s.bucketAt cls))) = false := by
    simp only [State.staysAsItIs, Bool.or_eq_true, decide_eq_true_eq] at h
    rcases h with h | h
    · simp [h]
    · simp [Nat.not_le_of_lt h]
  refine ⟨if (s.faults.instances.getD (faultKey cls inst) FaultInstance.init).lasting then 2 else 1, ?_⟩
  unfold faultEvent faultOccur faultOccurBy everyReported
  rw [Eff.run_look]
  dsimp only
  rw [hstays]
  cases hreports : s.on 0xB000 5 cls
  · constructor <;> simp [raiseSev, raiseFull, count, bumpObj, setN, setObj, Upd.touches]
  · constructor <;> simp [raiseSev, raiseFull, count, bumpObj, setN, setObj, Upd.touches]

theorem setKilnState_hasRaised (k : KilnState) (s : State) : ∃ l, s.hasRaised ((setKilnState k).run s) l ∧
    (l = [] ∨ l = [⟨0, 864, 0, kstateCode k, none⟩]) := by
  rw [setKilnState, Eff.run_whenS]
  split
  · exact ⟨_, ⟨rfl, rfl, rfl⟩, .inr rfl⟩
  · exact ⟨[], .refl s, .inl rfl⟩

/-- An event below 899 comes before it, and after one of a lower source. -/
theorem sortRaised_fault {sev source arg code : Nat} (h : 864 < source ∧ source < 899) {s : State} {cls inst : Nat} {l : List Raised}
    (hl : l = [] ∨ l = [⟨0, 864, 0, code, none⟩]) :
    sortRaised ((⟨sev, source, 0, arg, none⟩ :: everyReported s cls inst) ++ l) =
      (l ++ [⟨sev, source, 0, arg, none⟩]) ++ everyReported s cls inst := by
  obtain ⟨hlow, hhigh⟩ := h
  have h1 : ¬source ≤ 864 := Nat.not_le_of_lt hlow
  have h2 : source ≤ 899 := Nat.le_of_lt hhigh
  rcases hl with rfl | rfl
  · rw [everyReported]
    split
    · simp [sortRaised, insertRaised, h2]
    · simp [sortRaised, insertRaised]
  · rw [everyReported]
    split
    · simp [sortRaised, insertRaised, h1, h2]
    · simp [sortRaised, insertRaised, h1]

theorem exec_kilnFault {s : State} {cause : Nat} (hup : s.kilnUp) (hstays : s.staysAsItIs 22 0 = true) (hcause : cause < 2147483648)
    (hroom : s.room 2) : ∃ t, exec (.kilnFault cause) s = .next t ∧ t.kiln.state = .fault ∧ s.records t 885 cause := by
  refine ⟨_, rfl, ?_⟩
  have hcounted : ∃ u, (Eff.when (cause == 1) (count (kilnItem 15))).run s = u ∧ u.staysAsItIs 22 0 = true ∧ u.events = s.events := by
    rw [Eff.run_when]
    split
    · exact ⟨_, rfl, hstays, rfl⟩
    · exact ⟨_, rfl, hstays, rfl⟩
  obtain ⟨u, hu, hstays', hevents⟩ := hcounted
  obtain ⟨sev, hfault⟩ := faultEvent_raises hstays' 885 cause
  obtain ⟨-, -, -, hstate, -⟩ := setKilnState_run .fault ((faultEvent 22 0 885 cause).run u)
  obtain ⟨l, hraised, hl⟩ := setKilnState_hasRaised .fault ((faultEvent 22 0 885 cause).run u)
  have hall := (State.hasRaised.of_events_eq hevents).quiet_trans (hfault.trans hraised)
  rw [Eff.run_seq, kilnPowered_run hup, kilnFails, Eff.run_all_cons, Eff.run_all_cons, Eff.run_all_cons, Eff.run_all_nil, hu]
  refine ⟨?_, hall.records_first hroom (sortRaised_fault (by decide) hl) ?_ ⟨_, List.mem_append_right _ (List.mem_singleton_self _), rfl, rfl⟩
    (by decide) hcause⟩
  · rw [flush_within.kiln_run _ rfl]
    exact hstate
  · rcases hl with rfl | rfl
    · exact Nat.le_of_ble_eq_true rfl
    · exact Nat.le_refl _

/-! ## The mailbox, and what runs -/

/-- The only operation that waits starts where none runs. -/
theorem queueOp_run {s : State} (o : KilnOp) (hrunning : s.kiln.running = none) (hwaiting : s.kiln.waiting = []) :
    (queueOp o).run s = (Eff.upd (.kiln fun k => { k with running := some o, waiting := k.waiting.erase o })).run
      ((Eff.upd (.kiln fun k => { k with waiting := k.waiting ++ [o] })).run s) := by
  have hnone : ((Eff.upd (.kiln fun k => { k with waiting := k.waiting ++ [o] })).run s).kiln.running = none := hrunning
  have hnext : nextOp ((Eff.upd (.kiln fun k => { k with waiting := k.waiting ++ [o] })).run s).kiln.waiting = some o := by
    change nextOp (s.kiln.waiting ++ [o]) = some o
    rw [hwaiting]
    rfl
  rw [queueOp, Eff.run_seq, startOp, Eff.run_look, hnone, hnext]

/-- What it then runs, and that nothing waits. -/
theorem queueOp_run_kiln {s : State} (o : KilnOp) (hrunning : s.kiln.running = none) (hwaiting : s.kiln.waiting = []) :
    ((queueOp o).run s).kiln = { s.kiln with running := some o } := by
  have herase : (s.kiln.waiting ++ [o]).erase o = s.kiln.waiting := by rw [hwaiting, List.nil_append, List.erase_cons_head]
  rw [queueOp_run o hrunning hwaiting]
  change { s.kiln with running := some o, waiting := (s.kiln.waiting ++ [o]).erase o } = _
  rw [herase]

/-- GO reaches the Kiln. -/
theorem kilnGo_run {s : State} (hup : s.kilnUp) (htakes : s.takesMemory (some 0) = true) :
    ∃ u, (Eff.seq (.seq (powered tlpReceived) (kilnPowered (inD0 (fun _ => some 0) kilnGoAct))) flushEvents).run s =
      flushEvents.run (kilnGoAct.run u) ∧ u.kiln = s.kiln ∧ u.buffers = s.buffers := by
  have harrives : ∃ u, (powered tlpReceived).run s = u ∧ u.kiln = s.kiln ∧ u.buffers = s.buffers ∧ u.kilnUp ∧
      (!(some 0 : Option Nat).any fun k => (u.function k).d3hot) = true := by
    rw [powered, Eff.run_whenS]
    split
    · exact ⟨_, rfl, rfl, rfl, hup, htakes⟩
    · exact ⟨_, rfl, rfl, rfl, hup, htakes⟩
  obtain ⟨u, hu, hkiln, hbuffers, hup', hd0⟩ := harrives
  refine ⟨u, ?_, hkiln, hbuffers⟩
  rw [Eff.run_seq, Eff.run_seq, hu, kilnPowered_run hup', inD0, Eff.run_whenS, if_pos hd0]

theorem exec_kilnGo {s : State} (hup : s.kilnUp) (htakes : s.takesMemory (some 0) = true) (hbusy : s.kiln.busy = false)
    (hrunning : s.kiln.running = none) (hwaiting : s.kiln.waiting = []) :
    ∃ t, exec .kilnGo s = .next t ∧ t.kiln.busy = true ∧ t.kiln.done = false ∧ t.kiln.running = some ⟨1, 0,
      s.buffers.kilnRequest.readBytes 0 (16 + min 12272 (beAt (s.buffers.kilnRequest.readBytes 8 4) 0 4)), 0, false⟩ := by
  refine ⟨_, rfl, ?_⟩
  obtain ⟨u, hrun, hkiln, hbuffers⟩ := kilnGo_run hup htakes
  have hqueued : (kilnGoAct.run u).kiln = { s.kiln with
      busy := true, done := false
      running := some ⟨1, 0, s.buffers.kilnRequest.readBytes 0 (16 + min 12272 (beAt (s.buffers.kilnRequest.readBytes 8 4) 0 4)), 0, false⟩ } := by
    rw [kilnGoAct, Eff.run_look, hkiln, hbusy, if_neg (by decide), Eff.run_seq, queueOp_run_kiln, hbuffers]
    · rw [← hkiln]
      rfl
    · change u.kiln.running = none
      rw [hkiln, hrunning]
    · change u.kiln.waiting = []
      rw [hkiln, hwaiting]
  rw [hrun, flush_within.kiln_run _ rfl, hqueued]
  exact ⟨rfl, rfl, rfl⟩

theorem exec_kilnGo_busy {s : State} (hup : s.kilnUp) (htakes : s.takesMemory (some 0) = true) (hbusy : s.kiln.busy = true) :
    ∃ t, exec .kilnGo s = .next t ∧ t.kiln = { s.kiln with overrun := true } := by
  refine ⟨_, rfl, ?_⟩
  obtain ⟨u, hrun, hkiln, -⟩ := kilnGo_run hup htakes
  rw [hrun, flush_within.kiln_run _ rfl, kilnGoAct, Eff.run_look, hkiln, hbusy, if_pos rfl, ← hkiln]
  rfl

theorem exec_kilnOperationDone {s : State} {o : KilnOp} (hup : s.kilnUp) (hrunning : s.kiln.running = some o)
    (hwaiting : s.kiln.waiting = []) (hrank : o.rank = 1) (hversion : beAt o.message 0 1 = 1) (hkind : beAt o.message 1 1 = 1)
    (hcommand : beAt o.message 2 2 = 1) (hwhole : beAt o.message 12 4 = 1) (hlength : 16 + beAt o.message 8 4 ≤ o.message.length)
    (hstops : s.kilnStops .mailbox 1 = none) :
    ∃ t, exec .kilnOperationDone s = .next t ∧ t.kiln.running = none ∧
      s.answeredKiln t .mailbox 1 (beAt o.message 4 2) 0 s.statusBytes ∧
      t.counter (kilnItem 0) = (s.counter (kilnItem 0) + 1) % 18446744073709551616 := by
  refine ⟨_, rfl, ?_⟩
  have hended : ∃ u, (Eff.upd (.kiln fun k => { k with running := none })).run s = u ∧ u.kiln.running = none ∧ u.kiln.waiting = [] ∧
      u.kilnStops .mailbox 1 = none ∧ u.statusBytes = s.statusBytes ∧ u.counters = s.counters ∧ u.route = s.route :=
    ⟨_, rfl, rfl, hwaiting, hstops, rfl, rfl, rfl⟩
  obtain ⟨u, hu, hnone, hwaits, hstops', hstatus, hcounters, hroute⟩ := hended
  have hmessage : (runMessage o).run u = (kilnAnswer .mailbox 1 (beAt o.message 4 2) 0 s.statusBytes).run u := by
    have hsource : o.source = .mailbox := by rw [KilnOp.source, if_pos hrank]
    have hmatch : runMessage o = getStatusAct .mailbox (beAt o.message 4 2) := by
      simp [runMessage, hsource, hversion, hkind, hcommand, hwhole, hlength]
    rw [hmatch, getStatusAct, kilnServe_run hstops', Eff.run_look, hstatus]
  obtain ⟨hanswered, hcore, -⟩ := answered_stands hroute (src := .mailbox) rfl 1 (beAt o.message 4 2) 0 s.statusBytes
  have hcounted := served_counts .mailbox 1 (beAt o.message 4 2) s.statusBytes u
  rw [flush_kilnCore] at hcore
  have hstill : ∀ v : State, v.kilnCore = u.kilnCore → startOp.run v = v := fun v hv => by
    have hidle := congrArg Kiln.running hv
    have hempty := congrArg Kiln.waiting hv
    replace hidle : v.kiln.running = none := hidle.trans hnone
    replace hempty : v.kiln.waiting = [] := hempty.trans hwaits
    rw [startOp, Eff.run_look, hidle, hempty]
    rfl
  rw [Eff.run_seq, kilnPowered_run hup, operationEnds, Eff.run_look, hrunning]
  dsimp only
  rw [Eff.run_all_cons, Eff.run_all_cons, Eff.run_all_cons, Eff.run_all_nil, hu, hmessage, hstill _ hcore]
  refine ⟨?_, hanswered, hcounted.trans ?_⟩
  · rw [flush_within.kiln_run _ rfl]
    have hidle := congrArg Kiln.running hcore
    exact hidle.trans hnone
  · rw [State.counter, hcounters]
    rfl

/-! ## Fragments (R336) -/

/-- What a fragment of the Kiln must be to be assembled: sound, of protocol 0x0005, and of a first share whose message is not begun. -/
structure State.firstFragment (s : State) (p : Nat) (f : Frame) : Prop where
  sound : frameSound f = true
  protocol : isProtocol f.data 5 = true
  header : 16 ≤ (protocolBody f.data).length
  version : beAt (protocolBody f.data) 0 1 = 1
  index : beAt (protocolBody f.data) 12 2 = 0
  fresh : (s.kiln.assemblies.any fun a => a.port == p && a.sourceMac == beAt f.data 6 6 && a.header == (protocolBody f.data).take 6) = false

/-- The assembly that a first fragment begins. -/
def State.begun (s : State) (p : Nat) (f : Frame) : Assembly :=
  ⟨p, beAt f.data 6 6, (protocolBody f.data).take 6, f.icv == .verified, s.elapsed, [(0, (protocolBody f.data).drop 16)]⟩

/-- A first fragment: the message is whole, or its assembly begins. -/
theorem fragmentArrives_run {s : State} {p : Nat} {f : Frame} (h : s.firstFragment p f)
    (hcount : 1 ≤ beAt (protocolBody f.data) 14 2 ∧ beAt (protocolBody f.data) 14 2 ≤ 64) : (fragmentArrives p f).run s =
      Eff.run (match joinPieces (beAt (protocolBody f.data) 14 2) [(0, (protocolBody f.data).drop 16)] with
        | some body => .seq (.upd (.kiln fun k => { k with assemblies := s.kiln.assemblies }))
            (portMessage p (s.begun p f) ((protocolBody f.data).take 16 ++ body.take (beAt (protocolBody f.data) 8 4)))
        | none => .upd (.kiln fun k => { k with assemblies := s.begun p f :: s.kiln.assemblies })) s := by
  obtain ⟨hsound, hprotocol, hheader, hversion, hindex, hfresh⟩ := h
  have hnone : s.kiln.assemblies.find? (fun a => a.port == p && a.sourceMac == beAt f.data 6 6 && a.header == (protocolBody f.data).take 6) = none := by
    rw [List.find?_eq_none]
    intro a ha
    rw [List.any_eq_false] at hfresh
    exact hfresh a ha
  have hall : s.kiln.assemblies.filter (fun a => !(a.port == p && a.sourceMac == beAt f.data 6 6 && a.header == (protocolBody f.data).take 6)) =
      s.kiln.assemblies := by
    rw [List.filter_eq_self]
    intro a ha
    rw [List.any_eq_false] at hfresh
    rw [Bool.not_eq_true', Bool.eq_false_iff]
    exact hfresh a ha
  have hform : (frameSound f && isProtocol f.data 5 && decide (16 ≤ (protocolBody f.data).length) && beAt (protocolBody f.data) 0 1 == 1 &&
      beAt (protocolBody f.data) 14 2 != 0 && decide (beAt (protocolBody f.data) 14 2 ≤ 64)) = true := by
    rw [hsound, hprotocol, decide_eq_true hheader, hversion, decide_eq_true hcount.2, bne_iff_ne.2 (by omega)]
    rfl
  rw [fragmentArrives, Eff.run_look]
  dsimp only
  rw [hform, hnone, hall, hindex, Eff.run_when_true]
  rfl

/-- The only share of a message is the message. -/
theorem joinPieces_single (b : Bytes) : joinPieces 1 [(0, b)] = some b := by
  simp [joinPieces, List.range_succ]

/-- The first of several shares is not yet one. -/
theorem joinPieces_first {n : Nat} (hn : 2 ≤ n) (b : Bytes) : joinPieces n [(0, b)] = none := by
  rw [joinPieces, if_neg]
  rw [List.all_eq_true]
  intro h
  exact absurd (h 1 (List.mem_range.2 hn)) (by simp)

/-- The operation code of a message stands in its header. -/
theorem messageRank_take {b c : Bytes} (h : 16 ≤ b.length) : messageRank (b.take 16 ++ c) = messageRank (b.take 16) := by
  have hslice : slice (b.take 16 ++ c) 2 2 = slice (b.take 16) 2 2 := by
    have hlength : (b.take 16).length = 16 := List.length_take_of_le h
    have hpart : ((b.take 16 ++ c).drop 2).take 2 = ((b.take 16).drop 2).take 2 := by
      rw [List.drop_append_of_le_length (by omega), List.take_append_of_le_length (by rw [List.length_drop]; omega)]
    simp only [slice, hpart]
  have hword : beAt (b.take 16 ++ c) 2 2 = beAt (b.take 16) 2 2 := congrArg ofBe hslice
  rw [messageRank, messageRank, hword]

/-- A message in one fragment runs where nothing else does. -/
theorem fragmentArrives_run_whole {s : State} {p : Nat} {f : Frame} (h : s.firstFragment p f)
    (hcount : beAt (protocolBody f.data) 14 2 = 1) (hrunning : s.kiln.running = none) (hwaiting : s.kiln.waiting = []) :
    ((fragmentArrives p f).run s).kiln = { s.kiln with
      running := some ⟨messageRank ((protocolBody f.data).take 16), p,
        (protocolBody f.data).take 16 ++ ((protocolBody f.data).drop 16).take (beAt (protocolBody f.data) 8 4), beAt f.data 6 6,
        f.icv == .verified⟩ } := by
  have hempty : ((Eff.upd (.kiln fun k => { k with assemblies := s.kiln.assemblies })).run s).kiln = s.kiln := rfl
  have hbusy (m : Bytes) (l : List KilnOp) (hl : l = []) : (beAt m 1 1 == 1 &&
      decide (4 ≤ (l.filter fun x => x.rank != 1 && x.port == p && beAt x.message 1 1 == 1).length)) = false := by
    rw [hl, List.filter_nil, List.length_nil, decide_eq_false (by decide), Bool.and_false]
  rw [fragmentArrives_run h (by rw [hcount]; decide), hcount, joinPieces_single]
  dsimp only
  rw [Eff.run_seq]
  generalize (Eff.upd (.kiln fun k => { k with assemblies := s.kiln.assemblies })).run s = u at *
  have hrunning' : u.kiln.running = none := by rw [hempty, hrunning]
  have hwaiting' : u.kiln.waiting = [] := by rw [hempty, hwaiting]
  rw [portMessage, Eff.run_look]
  dsimp only
  rw [hbusy _ _ hwaiting', if_neg (by decide), queueOp_run_kiln _ hrunning' hwaiting', hempty, messageRank_take h.header]
  rfl

/-- The first of several fragments begins an assembly. -/
theorem fragmentArrives_run_first {s : State} {p : Nat} {f : Frame} (h : s.firstFragment p f)
    (hcount : 2 ≤ beAt (protocolBody f.data) 14 2) (hmost : beAt (protocolBody f.data) 14 2 ≤ 64) :
    ((fragmentArrives p f).run s).kiln = { s.kiln with assemblies := s.begun p f :: s.kiln.assemblies } := by
  rw [fragmentArrives_run h ⟨by omega, hmost⟩, joinPieces_first hcount]
  rfl

/-- On a stack port in use a fragment reaches the Kiln. -/
theorem stackFragment_run {s : State} {p : Nat} {f : Frame} (hoperating : s.operating = true) (hp : 256 ≤ p)
    (husable : s.stackUsable (p - 256) = true) (hbarred : s.stackBarred (p - 256) = false) (hsound : frameSound f = true)
    (hprotocol : isProtocol f.data 5 = true) : ∃ u, exec (.kilnMessageFragment p f) s = .next (flushEvents.run ((fragmentArrives p f).run u)) ∧
      u.kiln = s.kiln ∧ u.elapsed = s.elapsed := by
  have hgood : (frameSound f && isProtocol f.data 5) = true := by rw [hsound, hprotocol]; rfl
  have hrun : (Eff.seq (operating (stackOpen (p - 256) (frameSound f && isProtocol f.data 5) (fragmentArrives p f))) flushEvents).run s =
      flushEvents.run ((fragmentArrives p f).run ((count (twinItem 27)).run s)) := by
    rw [Eff.run_seq, operating_run hoperating, stackOpen, Eff.run_whenS, husable, hbarred, hgood]
    rfl
  refine ⟨(count (twinItem 27)).run s, ?_, rfl, rfl⟩
  rw [← hrun]
  simp only [exec, execKilnMessageFragment, if_neg (Nat.not_lt_of_le hp)]
  rfl

/-- What a port does with a frame that it hears, before anything takes it, leaves the Kiln, the time and its own address. -/
theorem heardFrame_run_within {s : State} {p : Nat} {frame : Frame} (h : s.hears p frame = true) :
    ∃ e : Eff, e.Within tables heardMask ∧ (heardFrame p (s.atPlane p frame)).run s = e.run s := by
  obtain ⟨-, -, hpasses, hlength, -⟩ := State.passes_of_hears h
  have hm := Mask.Le.refl heardMask
  refine ⟨.seq (countGood p (s.wireBytes p (s.atPlane p frame))) (.all [opportunityOf p (s.atPlane p frame).node,
      .when (isSG p) (nodeHeard p (s.atPlane p frame).node)]), Within.seq (countGood_within p _) (Within.cons
        (opportunityOf_within (hm.via rfl rfl rfl)) (Within.cons (Within.when (nodeHeard_within (hm.via rfl rfl rfl))) Within.nil)), ?_⟩
  rw [heardFrame, Eff.run_all_cons, countReceived_run_of_passes (f := s.atPlane p frame) hpasses hlength, Eff.run_seq]

theorem heardFrame_run_kiln {s : State} {p : Nat} {frame : Frame} (h : s.hears p frame = true) :
    let t := (heardFrame p (s.atPlane p frame)).run s
    t.kiln = s.kiln ∧ t.elapsed = s.elapsed := by
  obtain ⟨e, he, hrun⟩ := heardFrame_run_within h
  dsimp only
  rw [hrun, State.elapsed, State.elapsed, he.kiln_run _ rfl, he.canopy_run _ rfl]
  exact ⟨rfl, rfl⟩

/-- A frame that a port hears is sound. -/
theorem sound_of_hears {s : State} {p : Nat} {f : Frame} (h : s.hears p f = true) : frameSound f = true := by
  simp only [State.hears, Bool.and_eq_true] at h
  obtain ⟨⟨⟨⟨⟨⟨⟨-, -⟩, hfcs⟩, hicv⟩, -⟩, -⟩, -⟩, -⟩ := h
  rw [frameSound, hfcs, hicv]
  rfl

/-- What the Kiln assembles and runs. -/
def State.kilnWork (s : State) : List Assembly × List KilnOp × Option KilnOp := (s.kiln.assemblies, s.kiln.waiting, s.kiln.running)

theorem noteNumber_spares_work (p : Nat) (f : Frame) : (noteNumber p f).Spares State.kilnWork := fun s => by
  rw [noteNumber, Eff.run_look]
  split
  · rw [Eff.run_when]
    split
    · rfl
    · rfl
  · rfl

/-- On a port that hears it a fragment reaches the Kiln. -/
theorem portFragment_run {s : State} {p : Nat} {f : Frame} (hoperating : s.operating = true) (hp : p < 256)
    (hhears : s.hears p f = true) (hplain : s.unscheduled p = true) : ∃ u t, exec (.kilnMessageFragment p f) s = .next t ∧
      t.kilnWork = ((fragmentArrives p (s.atPlane p f)).run u).kilnWork ∧ u.kiln = s.kiln ∧ u.elapsed = s.elapsed := by
  obtain ⟨hkiln, helapsed⟩ := heardFrame_run_kiln hhears
  have hrun : exec (.kilnMessageFragment p f) s = .next (flushEvents.run ((noteNumber p (s.atPlane p f)).run
      ((fragmentArrives p (s.atPlane p f)).run ((heardFrame p (s.atPlane p f)).run s)))) := by
    rw [← received_run_of_hears hhears hplain, ← operating_run hoperating]
    simp only [exec, execKilnMessageFragment, if_pos hp]
    rfl
  refine ⟨(heardFrame p (s.atPlane p f)).run s, _, hrun, ?_, hkiln, helapsed⟩
  rw [State.kilnWork, flush_within.kiln_run _ rfl]
  exact noteNumber_spares_work p _ _

theorem State.firstFragment.of_kiln {s u : State} {p : Nat} {f : Frame} (h : s.firstFragment p f) (hkiln : u.kiln = s.kiln) :
    u.firstFragment p f := by
  refine ⟨h.sound, h.protocol, h.header, h.version, h.index, ?_⟩
  rw [hkiln]
  exact h.fresh

theorem State.begun_congr {s u : State} (h : u.elapsed = s.elapsed) (p : Nat) (f : Frame) : u.begun p f = s.begun p f := by
  rw [State.begun, h]
  rfl

/-- The operation that a message in one fragment asks for. -/
def fragmentOp (p : Nat) (f : Frame) : KilnOp :=
  ⟨messageRank ((protocolBody f.data).take 16), p,
    (protocolBody f.data).take 16 ++ ((protocolBody f.data).drop 16).take (beAt (protocolBody f.data) 8 4), beAt f.data 6 6, f.icv == .verified⟩

/-- A message in one fragment runs, whichever way it reaches the Kiln. -/
theorem whole_of_fragment {s u t : State} {p : Nat} {f : Frame} (h : s.firstFragment p f) (hkiln : u.kiln = s.kiln)
    (hcount : beAt (protocolBody f.data) 14 2 = 1) (hrunning : s.kiln.running = none) (hwaiting : s.kiln.waiting = [])
    (hwork : t.kilnWork = ((fragmentArrives p f).run u).kilnWork) :
    t.kiln.running = some (fragmentOp p f) ∧ t.kiln.waiting = [] ∧ t.kiln.assemblies = s.kiln.assemblies := by
  rw [State.kilnWork, State.kilnWork, fragmentArrives_run_whole (h.of_kiln hkiln) hcount (by rw [hkiln, hrunning]) (by rw [hkiln, hwaiting]),
    hkiln, Prod.mk.injEq, Prod.mk.injEq] at hwork
  obtain ⟨hassemblies, hwaits, hruns⟩ := hwork
  exact ⟨hruns, hwaits.trans hwaiting, hassemblies⟩

/-- A first fragment of several begins its assembly, whichever way it reaches the Kiln. -/
theorem first_of_fragment {s u t : State} {p : Nat} {f : Frame} (h : s.firstFragment p f) (hkiln : u.kiln = s.kiln)
    (helapsed : u.elapsed = s.elapsed) (hcount : 2 ≤ beAt (protocolBody f.data) 14 2) (hmost : beAt (protocolBody f.data) 14 2 ≤ 64)
    (hwork : t.kilnWork = ((fragmentArrives p f).run u).kilnWork) :
    t.kiln.assemblies = s.begun p f :: s.kiln.assemblies ∧ t.kiln.waiting = s.kiln.waiting ∧ t.kiln.running = s.kiln.running := by
  rw [State.kilnWork, State.kilnWork, fragmentArrives_run_first (h.of_kiln hkiln) hcount hmost, hkiln, State.begun_congr helapsed,
    Prod.mk.injEq, Prod.mk.injEq] at hwork
  exact hwork

/-- PairTimeout since its first fragment an incomplete message is discarded. -/
theorem exec_fragmentTimeout {s : State} {p : Nat} {a : Assembly} (hport : a.port = p)
    (hover : s.after a.since (nsUnits (s.n 0xA033 0)) = true) :
    ∃ t, exec (.kilnFragmentTimeout p) s = .next t ∧ a ∉ t.kiln.assemblies ∧
      { t.kiln with assemblies := [] } = { s.kiln with assemblies := [] } ∧ t.out = s.out := by
  refine ⟨_, rfl, ?_⟩
  rw [Eff.run_seq, flush_out, flush_within.kiln_run _ rfl]
  refine ⟨fun hmem => ?_, rfl, rfl⟩
  have hkept := (List.mem_filter.1 hmem).2
  rw [hport, hover, beq_self_eq_true] at hkept
  cases hkept

/-! ## An answer on a port whose grove sleeps (R403) -/

/-- A port whose grove does not run sends nothing, whatever has changed on it. -/
theorem kick_run_asleep {s : State} {p : Nat} (h : s.groveOn (groveOf p) = false) :
    (((kick p).run s).seg p).overflow = (s.seg p).overflow ∧ ((kick p).run s).power = s.power := by
  have hpick (u : State) (hu : u.groveOn (groveOf p) = false) : (pickFrame p).run u = u := by
    rw [pickFrame, Eff.run_whenS, if_neg]
    rw [State.mayTransmit, hu, Bool.false_and, Bool.false_and, Bool.and_false, Bool.false_and]
    decide
  rw [kick, Eff.run_look]
  split
  case h_1 =>
    rw [whereIdle, Eff.run_look]
    split
    · rw [withFree, Eff.run_look, Eff.run_seq, Eff.run_when]
      split
      · rw [hpick ((Eff.upd .useFree).run s) h]
        exact ⟨rfl, rfl⟩
      · exact ⟨rfl, rfl⟩
    · rw [hpick s h]
      exact ⟨rfl, rfl⟩
  case h_2 c _ _ =>
    have hcut := Within.when (c := s.wantsCut p c) (cutFrame_within (Mask.Le.refl _) (p := p))
    exact ⟨congrArg Segment.overflow (hcut.seg_run s rfl p), hcut.power_run s rfl⟩

/-- A grove that sleeps is waking after a wake, and does not run yet. -/
theorem wakeGrove_run_asleep {s : State} {g : Nat} (h : s.groveOn g = false) : ((wakeGrove g).run s).groveOn g = false := by
  rw [State.groveOn, wakeGrove, Eff.run_whenS]
  split
  · rw [Eff.run_seq, setGrove_run_state]
    rfl
  · exact h

/-- On a port of a sleeping grove a frame of the Kiln only comes to wait. -/
theorem sendUrgent_run_asleep {s : State} {p : Nat} (h : s.groveOn (groveOf p) = false) (o : Origin) (d : Bytes) :
    let t := (sendUrgent p o d).run s
    (t.seg p).overflow = (s.seg p).overflow ++ [(15, s.ownFrame o d)] ∧ t.groveOn (groveOf p) = false := by
  dsimp only
  rw [sendUrgent, Eff.run_look, Eff.run_all_cons, Eff.run_all_cons, Eff.run_all_cons, Eff.run_all_nil]
  have hjoined : ∃ u, (segSet p fun g => { g with overflow := g.overflow ++ [(15, s.ownFrame o d)] }).run s = u ∧
      (u.seg p).overflow = (s.seg p).overflow ++ [(15, s.ownFrame o d)] ∧ u.groveOn (groveOf p) = false :=
    ⟨_, rfl, by rw [segSet_run_seg], h⟩
  obtain ⟨u, hu, hover, hasleep⟩ := hjoined
  rw [hu]
  have hseg : ((wakeGrove (groveOf p)).run u).seg p = u.seg p := (wakeGrove_within (Mask.Le.refl _)).seg_run u rfl p
  have hasleep' := wakeGrove_run_asleep hasleep
  obtain ⟨hkept, hpower⟩ := kick_run_asleep hasleep'
  refine ⟨?_, ?_⟩
  · rw [hkept, hseg, hover]
  · rw [State.groveOn, State.grove, hpower]
    exact hasleep'

/-- What a message of the Kiln on a port of a sleeping grove rests on. -/
def State.asleepBut (s : State) (p : Nat) : Prop :=
  s.portOn p 1 1 = true ∧ s.groveOn (groveOf p) = false ∧ (s.grove (groveOf p)).state ≠ 3

/-- A frame of the Kiln stands with the port, and nothing leaves. -/
theorem sendFromKiln_run_asleep {s : State} {p : Nat} (hp : p < 256) (h : s.asleepBut p) (d : Bytes) :
    let t := (sendFromKiln p .kiln d).run s
    (t.seg p).overflow = (s.seg p).overflow ++ [(15, s.ownFrame .kiln d)] ∧ t.asleepBut p ∧ t.clock = s.clock ∧ t.out = s.out := by
  obtain ⟨hlink, hasleep, hpowered⟩ := h
  have hrun : (sendFromKiln p .kiln d).run s = (sendUrgent p .kiln d).run s := by
    unfold sendFromKiln
    rw [Eff.run_look, if_neg (Nat.not_le_of_lt hp), hlink, bne_iff_ne.2 hpowered]
    rfl
  have hwithin := sendUrgent_within (Mask.Le.refl _) (p := p) (o := .kiln) (data := d)
  have hport : ((sendUrgent p .kiln d).run s).portOn p 1 1 = s.portOn p 1 1 := by
    rw [State.portOn, State.on, hwithin.keeps_port s (by decide +kernel)]
    rfl
  obtain ⟨-, -, hpowered'⟩ := sendUrgent_run_kiln (p := p) (o := .kiln) rfl d s
  obtain ⟨hline, hasleep'⟩ := sendUrgent_run_asleep hasleep .kiln d
  dsimp only
  rw [hrun]
  exact ⟨hline, ⟨hport.trans hlink, hasleep', hpowered' hpowered⟩, hwithin.clock_run rfl s, hwithin.out_run s rfl⟩

/-- The frames of a message stand with the port one behind the other. -/
theorem sendFrames_run_asleep {p : Nat} (hp : p < 256) (l : List Bytes) {s : State} (h : s.asleepBut p) :
    let t := (Eff.forEach l fun b => sendFromKiln p .kiln b).run s
    (t.seg p).overflow = (s.seg p).overflow ++ l.map (fun b => (15, s.ownFrame .kiln b)) ∧ t.out = s.out := by
  induction l generalizing s with
  | nil => exact ⟨(List.append_nil _).symm, rfl⟩
  | cons d l ih =>
    dsimp only
    rw [Eff.run_forEach_cons]
    obtain ⟨hline, hasleep, hclock, hout⟩ := sendFromKiln_run_asleep hp h d
    obtain ⟨hlines, hout'⟩ := ih hasleep
    have hframe (b : Bytes) : ((sendFromKiln p .kiln d).run s).ownFrame .kiln b = s.ownFrame .kiln b := by
      rw [State.ownFrame, State.now, hclock]
      rfl
    simp only [hframe] at hlines
    rw [hlines, hline, hout', hout, List.append_assoc]
    exact ⟨rfl, rfl⟩

theorem exec_getStatus_asleep {s : State} {p mac : Nat} {verified : Bool} (tag : Nat) (hup : s.kilnUp) (hp : p < 256)
    (hstops : s.kilnStops (.port p verified mac) 1 = none) (h : s.asleepBut p) :
    ∃ t, exec (.getStatus (.port p verified mac) tag) s = .next t ∧ (t.seg p).overflow = (s.seg p).overflow ++
      (s.kilnFrames p mac 2 1 tag 0 s.statusBytes).map (fun b => (15, s.ownFrame .kiln b)) ∧ t.out = s.out := by
  refine ⟨_, rfl, ?_⟩
  have hrun : (kilnAnswer (.port p verified mac) 1 tag 0 s.statusBytes).run s =
      (Eff.forEach (s.kilnFrames p mac 2 1 tag 0 s.statusBytes) fun b => sendFromKiln p .kiln b).run ((count (kilnItem 0)).run s) := by
    rw [← kilnFrames_congr (s := s) (t := (count (kilnItem 0)).run s) rfl]
    rfl
  obtain ⟨hline, hout⟩ := sendFrames_run_asleep hp (s.kilnFrames p mac 2 1 tag 0 s.statusBytes) (s := (count (kilnItem 0)).run s) h
  rw [getStatusAct, exec_served hup hstops, Eff.run_look, hrun, flush_seg, flush_out]
  exact ⟨hline, hout⟩

/-- Settles O49: a request is served where nothing stops it, its answer leaves on its channel, and nothing else counts it. -/
theorem kilnTakesAndAnswersMessages : Obligations.KilnTakesAndAnswersMessages := by
  unfold Obligations.KilnTakesAndAnswersMessages
  refine ⟨?_, ?_, ?_, ?_, ?_, ?_, ?_, ?_, ?_, ?_, ?_, ?_, ?_, ?_, ?_, ?_⟩
  · intro s hoff hdormant hstage htakes hbusy hrunning hwaiting
    exact exec_kilnGo ⟨hoff, hdormant, hstage⟩ htakes hbusy hrunning hwaiting
  · intro s hoff hdormant hstage htakes hbusy
    exact exec_kilnGo_busy ⟨hoff, hdormant, hstage⟩ htakes hbusy
  · intro s o hoff hdormant hstage hrunning hwaiting hrank hversion hkind hcommand hwhole hlength hstops
    exact exec_kilnOperationDone ⟨hoff, hdormant, hstage⟩ hrunning hwaiting hrank hversion hkind hcommand hwhole hlength hstops
  · intro s p f hoperating hp husable hbarred hsound hprotocol hheader hversion hindex hfresh hcount hrunning hwaiting
    obtain ⟨u, hrun, hkiln, -⟩ := stackFragment_run hoperating hp husable hbarred hsound hprotocol
    refine ⟨_, hrun, whole_of_fragment ⟨hsound, hprotocol, hheader, hversion, hindex, hfresh⟩ hkiln hcount hrunning hwaiting ?_⟩
    rw [State.kilnWork, flush_within.kiln_run _ rfl]
    rfl
  · intro s p f hoperating hp hhears hplain hprotocol hheader hversion hindex hfresh hcount hrunning hwaiting
    obtain ⟨u, t, hrun, hwork, hkiln, -⟩ := portFragment_run hoperating hp hhears hplain
    exact ⟨t, hrun, whole_of_fragment (f := s.atPlane p f) ⟨sound_of_hears hhears, hprotocol, hheader, hversion, hindex, hfresh⟩ hkiln hcount
      hrunning hwaiting hwork⟩
  · intro s p f hoperating hp husable hbarred hsound hprotocol hheader hversion hindex hfresh hcount hmost
    obtain ⟨u, hrun, hkiln, helapsed⟩ := stackFragment_run hoperating hp husable hbarred hsound hprotocol
    refine ⟨_, hrun, first_of_fragment ⟨hsound, hprotocol, hheader, hversion, hindex, hfresh⟩ hkiln helapsed hcount hmost ?_⟩
    rw [State.kilnWork, flush_within.kiln_run _ rfl]
    rfl
  · intro s p f hoperating hp hhears hplain hprotocol hheader hversion hindex hfresh hcount hmost
    obtain ⟨u, t, hrun, hwork, hkiln, helapsed⟩ := portFragment_run hoperating hp hhears hplain
    exact ⟨t, hrun, first_of_fragment (f := s.atPlane p f) ⟨sound_of_hears hhears, hprotocol, hheader, hversion, hindex, hfresh⟩ hkiln
      helapsed hcount hmost hwork⟩
  · intro s p a _ hport hover
    exact exec_fragmentTimeout hport hover
  · intro s src tag hoff hdormant hstage hreach hstops
    exact exec_getStatus tag ⟨hoff, hdormant, hstage⟩ hreach hstops
  · intro s p verified mac tag hoff hdormant hstage hp hlink hstops hasleep hpowered
    exact exec_getStatus_asleep tag ⟨hoff, hdormant, hstage⟩ hp hstops ⟨hlink, hasleep, hpowered⟩
  · intro s src tag i hoff hdormant hstage hreach hstops hi
    exact exec_getCertificate tag ⟨hoff, hdormant, hstage⟩ hreach hstops hi
  · intro s src tag key hoff hdormant hstage hreach hstops hkey
    exact exec_getKemKey tag ⟨hoff, hdormant, hstage⟩ hreach hstops hkey
  · intro s src tag hoff hdormant hstage hreach hstops
    exact exec_getChallenge tag ⟨hoff, hdormant, hstage⟩ hreach hstops
  · intro s r a hchallenge hover
    exact exec_challengeExpiry hchallenge hover
  · intro s src tag nonce hoff hdormant hstage hreach hstops hruns hlength hroom
    obtain ⟨t, hrun, hanswered, hrecorded, hcounted⟩ := exec_attest tag ⟨hoff, hdormant, hstage⟩ hreach hstops hruns hlength hroom
    refine ⟨t, hrun, hanswered, ?_, hcounted⟩
    cases src with
    | mailbox => exact hrecorded
    | port p prot mac => exact hrecorded
  · intro s cause hoff hdormant hstage hstays hcause hroom
    exact exec_kilnFault ⟨hoff, hdormant, hstage⟩ hstays hcause hroom

end Sys2Proof.Machine

/-! # MKA and the key path (R341 to R344) -/

namespace Sys2Proof.Machine

/-! ## The MKA side of a port -/

theorem mkaSet_run_port (p : Nat) (f : MkaPort → MkaPort) (s : State) : ((mkaSet p f).run s).mkaPort p = f (s.mkaPort p) :=
  PMap.getD_set_same _ _ _ _

theorem State.mkaPort_congr {s t : State} (h : t.kiln = s.kiln) (p : Nat) : t.mkaPort p = s.mkaPort p := by
  rw [State.mkaPort, h]
  rfl

/-- The sessions of a port, with those under a CKN changed. -/
def MkaPort.onSession (m : MkaPort) (ckn : Bytes) (f : MkaSession → MkaSession) : MkaPort :=
  { m with sessions := m.sessions.map fun x => if x.ckn == ckn then f x else x }

/-- The session under a CKN. -/
def MkaPort.session? (m : MkaPort) (ckn : Bytes) : Option MkaSession := m.sessions.find? fun x => x.ckn == ckn

theorem State.session?_port (s : State) (p : Nat) (ckn : Bytes) : s.session? p ckn = (s.mkaPort p).session? ckn := rfl

theorem sessionSet_run_port (p : Nat) (ckn : Bytes) (f : MkaSession → MkaSession) (s : State) :
    ((sessionSet p ckn f).run s).mkaPort p = (s.mkaPort p).onSession ckn f := mkaSet_run_port _ _ _

/-- A change of a session that keeps its CKN changes the session that is found under it. -/
theorem MkaPort.session?_onSession {f : MkaSession → MkaSession} (hf : ∀ x, (f x).ckn = x.ckn) (m : MkaPort) (ckn : Bytes) :
    (m.onSession ckn f).session? ckn = (m.session? ckn).map f := by
  rw [MkaPort.session?, MkaPort.session?, MkaPort.onSession]
  dsimp only
  induction m.sessions with
  | nil => rfl
  | cons x l ih =>
    rw [List.map_cons]
    by_cases hx : (x.ckn == ckn) = true
    · have hx' : ((f x).ckn == ckn) = true := by rw [hf]; exact hx
      rw [if_pos hx, List.find?_cons_of_pos (p := fun y : MkaSession => y.ckn == ckn) hx',
        List.find?_cons_of_pos (p := fun y : MkaSession => y.ckn == ckn) hx]
      rfl
    · rw [if_neg hx, List.find?_cons_of_neg (p := fun y : MkaSession => y.ckn == ckn) hx,
        List.find?_cons_of_neg (p := fun y : MkaSession => y.ckn == ckn) hx, ih]

/-- A session that is found under a CKN has it. -/
theorem MkaPort.ckn_of_session? {m : MkaPort} {ckn : Bytes} {x : MkaSession} (h : m.session? ckn = some x) : x.ckn = ckn :=
  eq_of_beq (List.find?_some (p := fun y : MkaSession => y.ckn == ckn) h)

/-- A change of the only session. -/
theorem MkaPort.onSession_single {m : MkaPort} {x : MkaSession} (h : m.sessions = [x]) (f : MkaSession → MkaSession) :
    (m.onSession x.ckn f).sessions = [f x] := by
  rw [MkaPort.onSession, h, List.map_singleton, if_pos (beq_self_eq_true _)]

theorem MkaPort.session?_single {m : MkaPort} {x : MkaSession} (h : m.sessions = [x]) : m.session? x.ckn = some x := by
  rw [MkaPort.session?, h, List.find?_cons_of_pos (p := fun y : MkaSession => y.ckn == x.ckn) (beq_self_eq_true _)]

/-! ## An MKPDU leaves -/

/-- A session once an MKPDU of it has been sent. -/
def MkaSession.said (x : MkaSession) (now : Nat) : MkaSession := { x with number := x.number + 1, helloAt := now, rekey := false }

/-- A session with a new SAK. -/
def MkaSession.keyed (x : MkaSession) (an : Nat) (key : Bytes) : MkaSession :=
  { x with keyNumber := x.keyNumber + 1, saks := ⟨an, x.keyNumber + 1, key⟩ :: x.saks }

theorem mkaOut_of_kilnLine (s : State) (p : Nat) :
    s.mkaOut p = (s.kilnLine p).filterMap fun y => match y.1 with
      | .mkpdu m => some m
      | _ => none := by
  rw [State.mkaOut, State.kilnLine]
  induction ((s.mac p).current.map Prod.snd).toList ++ (s.seg p).overflow.map Prod.snd with
  | nil => rfl
  | cons f l ih => cases ho : f.origin <;> simp [ho, Origin.ofKiln, QueuedFrame.asKiln, ih]

/-- What an MKPDU that leaves does not touch: MKA, and what waits for its number. -/
theorem sendFromKiln_run_mkpdu (p : Nat) (m : MkpduOut) (d : Bytes) (s : State) : let t := (sendFromKiln p (.mkpdu m) d).run s
    t.kiln = s.kiln ∧ t.events = s.events ∧ (s.kilnReaches p = true → s.mkpduSent t p m) := by
  dsimp only
  by_cases hp : 256 ≤ p
  · unfold sendFromKiln
    rw [Eff.run_look, if_pos hp, State.kilnReaches, if_pos hp, State.mkpduSent, if_pos hp, Eff.run_when]
    split
    · exact ⟨rfl, rfl, fun _ => rfl⟩
    · next husable => exact ⟨rfl, rfl, fun h => absurd h husable⟩
  · obtain ⟨hline, hevents, -⟩ := sendUrgent_run_kiln (p := p) (o := .mkpdu m) rfl d s
    have hkiln := (sendUrgent_within (Mask.Le.refl _) (p := p) (o := .mkpdu m) (data := d)).kiln_run s rfl
    unfold sendFromKiln
    rw [Eff.run_look, if_neg hp, State.kilnReaches, if_neg hp, State.mkpduSent, if_neg hp, Eff.run_when]
    split
    · refine ⟨hkiln, hevents, fun _ => ?_⟩
      rw [mkaOut_of_kilnLine, mkaOut_of_kilnLine, hline, List.filterMap_append]
      rfl
    · next hreach => exact ⟨rfl, rfl, fun h => absurd h hreach⟩

theorem keyServer_congr {s t : State} (h : t.od = s.od) (p : Nat) (x : MkaSession) : t.keyServer p x = s.keyServer p x := by
  simp only [State.keyServer, State.sci, State.macBytes, State.n, State.obj, State.key, h]

/-- What an MKPDU says rests on the dictionary and on the session alone. -/
theorem mkpduOut_congr {s t : State} (h : t.od = s.od) (p : Nat) (x : MkaSession) : t.mkpduOut p x = s.mkpduOut p x := by
  rw [State.mkpduOut, keyServer_congr h]
  rfl

/-- What has left is told by what a message rests on. -/
theorem mkpduSent_congr {s t u : State} (h : u.route = s.route) {p : Nat} {m : MkpduOut} (hsent : u.mkpduSent t p m) : s.mkpduSent t p m := by
  have hsegments : u.segments = s.segments := congrArg (fun x => x.2.1) h
  have htraffic : u.traffic = s.traffic := congrArg (fun x => x.2.2.1) h
  have hout : u.out = s.out := congrArg (fun x => x.2.2.2.2) h
  have hline : u.mkaOut p = s.mkaOut p := by
    rw [mkaOut_of_kilnLine, mkaOut_of_kilnLine, kilnLine_congr (s := s)]
    · rw [State.mac, htraffic]
      rfl
    · rw [State.seg, hsegments]
      rfl
  rw [State.mkpduSent] at hsent ⊢
  rw [← hout, ← hline]
  exact hsent

/-- Numbering the events leaves what has left as it is. -/
theorem mkpduSent_flush {s t : State} {p : Nat} {m : MkpduOut} (h : s.mkpduSent t p m) : s.mkpduSent (flushEvents.run t) p m := by
  have hline : (flushEvents.run t).mkaOut p = t.mkaOut p := by
    rw [mkaOut_of_kilnLine, mkaOut_of_kilnLine, kilnLine_congr (s := t)]
    · rw [flush_mac]
    · rw [flush_seg]
  rw [State.mkpduSent, flush_out, hline]
  exact h

/-- What sending an MKPDU does: the session counts its number on, and the MKPDU leaves. -/
theorem sendMkpdu_run {s : State} {p : Nat} {ckn : Bytes} {x : MkaSession} (h : s.session? p ckn = some x) :
    let t := (sendMkpdu p ckn).run s
    t.mkaPort p = (s.mkaPort p).onSession ckn (fun y => y.said s.elapsed) ∧ t.events = s.events ∧
      (s.kilnReaches p = true → s.mkpduSent t p (s.mkpduOut p { x with number := x.number + 1 })) ∧
      ∀ i, freeCtr tables kilnSendMask (counterClass i) = true → t.counter i = ((count (kilnItem 8)).run s).counter i := by
  have hset : ∃ u, (sessionSet p ckn fun y => y.said s.elapsed).run s = u ∧
      u.mkaPort p = (s.mkaPort p).onSession ckn (fun y => y.said s.elapsed) ∧ u.session? p ckn = some (x.said s.elapsed) ∧
      u.events = s.events ∧ u.route = s.route ∧ u.counters = s.counters := by
    have hport := sessionSet_run_port p ckn (fun y => y.said s.elapsed) s
    refine ⟨_, rfl, hport, ?_, rfl, rfl, rfl⟩
    rw [State.session?_port, hport, MkaPort.session?_onSession (f := fun y => y.said s.elapsed) (fun _ => rfl), ← State.session?_port, h]
    rfl
  obtain ⟨u, hu, hport, hsession, hevents, hroute, hcounters⟩ := hset
  have hrun : ∃ v n, (sendMkpdu p ckn).run s =
      (sendFromKiln p (.mkpdu (v.mkpduOut p (x.said s.elapsed))) (List.replicate (n % 1500) 0)).run v ∧
      v.kiln = u.kiln ∧ v.events = u.events ∧ v.route = u.route ∧ v.counters = ((count (kilnItem 8)).run u).counters := by
    have hsend : (sendMkpdu p ckn).run s = (Eff.ofOption (u.session? p ckn) fun x => .seq (count (kilnItem 8))
        (withFree fun v => sendFromKiln p (.mkpdu (u.mkpduOut p x)) (List.replicate (v % 1500) 0))).run u := by
      rw [← hu]
      rfl
    rw [hsend, hsession]
    exact ⟨_, _, rfl, rfl, rfl, rfl, rfl⟩
  obtain ⟨v, n, hrun, hkiln, hevents', hroute', hcounted⟩ := hrun
  have hsame : v.route = s.route := hroute'.trans hroute
  rw [mkpduOut_congr (congrArg Prod.fst hsame)] at hrun
  obtain ⟨hkept, hquiet, hsent⟩ := sendFromKiln_run_mkpdu p (s.mkpduOut p (x.said s.elapsed)) (List.replicate (n % 1500) 0) v
  dsimp only
  rw [hrun]
  refine ⟨?_, hquiet.trans (hevents'.trans hevents), fun hreach => ?_, fun i hfree => ?_⟩
  · rw [State.mkaPort_congr (hkept.trans hkiln), hport]
  · exact mkpduSent_congr hsame (hsent (by rw [kilnReaches_congr hsame]; exact hreach))
  · have hcount : ((count (kilnItem 8)).run u).counter i = ((count (kilnItem 8)).run s).counter i := by
      simp only [State.counter, count, Eff.run_upd, Upd.apply, hcounters]
    rw [(sendFromKiln_within (Mask.Le.refl kilnSendMask)).keeps_ctr v rfl hfree, State.counter, hcounted]
    exact hcount

/-- Two changes of a session, one after the other. -/
theorem MkaPort.onSession_onSession {f : MkaSession → MkaSession} (hf : ∀ x, (f x).ckn = x.ckn) (g : MkaSession → MkaSession) (m : MkaPort)
    (ckn : Bytes) : (m.onSession ckn f).onSession ckn g = m.onSession ckn fun x => g (f x) := by
  have hboth (x : MkaSession) : (if ((if x.ckn == ckn then f x else x).ckn == ckn) = true then g (if x.ckn == ckn then f x else x)
      else if x.ckn == ckn then f x else x) = if x.ckn == ckn then g (f x) else x := by
    by_cases hx : (x.ckn == ckn) = true
    · rw [if_pos hx, if_pos hx, if_pos (by rw [hf]; exact hx)]
    · rw [if_neg hx, if_neg hx, if_neg hx]
  simp only [MkaPort.onSession, List.map_map, Function.comp_def, hboth]

/-- A new SAK: it stands first among those of the session, which counts its keys on, and an MKPDU distributes it. -/
theorem newSak_run {s : State} {p : Nat} {ckn : Bytes} {x : MkaSession} (h : s.session? p ckn = some x) :
    let key := (List.range 32).map fun i => Config.randomByte (s.kiln.randomUsed + i)
    let an := ((s.mkaPort p).nextAn + 1) % 4
    let t := (newSak p ckn).run s
    t.mkaPort p = { (s.mkaPort p).onSession ckn (fun y => (y.keyed an key).said s.elapsed) with nextAn := an } ∧ t.events = s.events ∧
      (s.kilnReaches p = true → s.mkpduSent t p (s.mkpduOut p { x.keyed an key with number := x.number + 1 })) ∧
      ∀ i, freeCtr tables kilnSendMask (counterClass i) = true →
        t.counter i = ((count (kilnItem 8)).run ((count (kilnItem 11)).run s)).counter i := by
  intro key an
  have hmade : ∃ u, (newSak p ckn).run s = (sendMkpdu p ckn).run u ∧
      u.mkaPort p = { (s.mkaPort p).onSession ckn (fun y => y.keyed an key) with nextAn := an } ∧
      u.events = s.events ∧ u.route = s.route ∧ u.elapsed = s.elapsed ∧ u.counters = ((count (kilnItem 11)).run s).counters := by
    have hnext : ∃ v, (mkaSet p fun m => { m with nextAn := (m.nextAn + 1) % 4 }).run
        ((Eff.upd (.kiln fun k => { k with randomUsed := k.randomUsed + 32 })).run s) = v ∧
        v.mkaPort p = { s.mkaPort p with nextAn := an } ∧ v.events = s.events ∧ v.route = s.route ∧ v.elapsed = s.elapsed ∧
        v.counters = s.counters := ⟨_, rfl, mkaSet_run_port _ _ _, rfl, rfl, rfl, rfl⟩
    obtain ⟨v, hv, hport, hevents, hroute, helapsed, hcounters⟩ := hnext
    have hset := sessionSet_run_port p ckn (fun y => y.keyed (v.mkaPort p).nextAn key) v
    have hcount : ((count (kilnItem 11)).run ((sessionSet p ckn fun y => y.keyed (v.mkaPort p).nextAn key).run v)).counters =
        ((count (kilnItem 11)).run s).counters := by
      simp only [count, Eff.run_upd, Upd.apply, ← hcounters]
      rfl
    refine ⟨(count (kilnItem 11)).run ((sessionSet p ckn fun y => y.keyed (v.mkaPort p).nextAn key).run v), ?_, ?_, hevents, hroute,
      helapsed, hcount⟩
    · rw [← hv]
      rfl
    · refine hset.trans ?_
      rw [hport]
      rfl
  obtain ⟨u, hrun, hport, hevents, hroute, helapsed, hcounters⟩ := hmade
  have hsession : u.session? p ckn = some (x.keyed an key) := by
    have hfound := MkaPort.session?_onSession (f := fun y => y.keyed an key) (fun _ => rfl) (s.mkaPort p) ckn
    rw [← State.session?_port, h] at hfound
    rw [State.session?_port, hport]
    exact hfound
  obtain ⟨hport', hquiet, hsent, hcounted⟩ := sendMkpdu_run hsession
  rw [hrun]
  refine ⟨?_, hquiet.trans hevents, fun hreach => ?_, fun i hfree => ?_⟩
  · rw [hport', hport, helapsed]
    have hboth := MkaPort.onSession_onSession (f := fun y => y.keyed an key) (fun _ => rfl) (fun y => y.said s.elapsed) (s.mkaPort p) ckn
    exact congrArg (fun m : MkaPort => { m with nextAn := an }) hboth
  · have hout := mkpduSent_congr hroute (hsent (by rw [kilnReaches_congr hroute]; exact hreach))
    rw [mkpduOut_congr (congrArg Prod.fst hroute)] at hout
    exact hout
  · rw [hcounted i hfree]
    simp only [State.counter, count, Eff.run_upd, Upd.apply, hcounters]

/-! ## The MKA Hello Time -/

/-- The Hello Time has come for the only session, whichever of the two it is. -/
theorem mkaHello_run {s : State} {p : Nat} {x : MkaSession} (hon : s.macsecOn p = true) (hsessions : (s.mkaPort p).sessions = [x])
    (hover : s.after x.helloAt (nsUnits 2000000000) = true) : (mkaHello p).run s =
      (if x.rekey && s.keyServer p x && !x.peers.isEmpty then newSak p x.ckn else sendMkpdu p x.ckn).run ((Eff.upd .useFree).run s) := by
  have hdue (v : Nat) : s.after x.helloAt (nsUnits (if v % 2 = 0 then 2000000000 else 500000000)) = true := by
    split
    · exact hover
    · rw [State.after, decide_eq_true_eq] at hover ⊢
      have hless : nsUnits 500000000 ≤ nsUnits 2000000000 := by decide
      omega
  rw [mkaHello, Eff.run_look, hon, Eff.run_when_true, withFree, Eff.run_look, Eff.run_seq, hsessions]
  simp only [List.filter_cons, hdue, if_true, List.filter_nil, Eff.run_forEach_cons, Eff.run_forEach_nil]

theorem exec_mkaHello {s : State} {p : Nat} {x : MkaSession} (hoperating : s.operating = true) (hreach : s.kilnReaches p = true)
    (hon : s.macsecOn p = true) (hsessions : (s.mkaPort p).sessions = [x]) (hover : s.after x.helloAt (nsUnits 2000000000) = true)
    (hplain : x.rekey = false ∨ s.keyServer p x = false ∨ x.peers = []) :
    ∃ t, exec (.mkaHelloTimer p) s = .next t ∧
      ((t.mkaPort p).sessions.map fun y => (y.number, y.helloAt)) = [(x.number + 1, s.elapsed)] ∧
      s.mkpduSent t p (s.mkpduOut p { x with number := x.number + 1 }) ∧
      t.counter (kilnItem 8) = (s.counter (kilnItem 8) + 1) % 18446744073709551616 := by
  refine ⟨_, rfl, ?_⟩
  have hno : (x.rekey && s.keyServer p x && !x.peers.isEmpty) = false := by
    rcases hplain with h | h | h
    · rw [h, Bool.false_and, Bool.false_and]
    · rw [h, Bool.and_false, Bool.false_and]
    · rw [h]
      exact Bool.and_false _
  have hsession : ((Eff.upd .useFree).run s).session? p x.ckn = some x := MkaPort.session?_single hsessions
  obtain ⟨hport, -, hsent, hcounted⟩ := sendMkpdu_run hsession
  rw [Eff.run_seq, operating_run hoperating, mkaHello_run hon hsessions hover, hno, if_neg (by decide)]
  generalize (sendMkpdu p x.ckn).run ((Eff.upd .useFree).run s) = t at *
  refine ⟨?_, mkpduSent_flush (hsent hreach), ?_⟩
  · have hsessions' : (t.mkaPort p).sessions = [x.said s.elapsed] := by
      rw [hport]
      exact MkaPort.onSession_single hsessions _
    rw [State.mkaPort_congr (flush_within.kiln_run t rfl), hsessions']
    rfl
  · rw [flush_counter _ _ (by decide +kernel), hcounted _ (by decide +kernel)]
    exact counter_count_same s _ 1

theorem exec_mkaHello_rekey {s : State} {p : Nat} {x : MkaSession} (hoperating : s.operating = true) (hreach : s.kilnReaches p = true)
    (hon : s.macsecOn p = true) (hsessions : (s.mkaPort p).sessions = [x]) (hover : s.after x.helloAt (nsUnits 2000000000) = true)
    (hrekey : x.rekey = true) (hserver : s.keyServer p x = true) (hpeers : x.peers ≠ []) :
    ∃ t, exec (.mkaHelloTimer p) s = .next t ∧
      ((t.mkaPort p).sessions.map fun y => (y.keyNumber, y.saks)) = [(x.keyNumber + 1, ⟨((s.mkaPort p).nextAn + 1) % 4, x.keyNumber + 1,
        (List.range 32).map fun i => Config.randomByte (s.kiln.randomUsed + i)⟩ :: x.saks)] ∧
      s.mkpduSent t p (s.mkpduOut p { x with
        number := x.number + 1
        saks := ⟨((s.mkaPort p).nextAn + 1) % 4, x.keyNumber + 1,
          (List.range 32).map fun i => Config.randomByte (s.kiln.randomUsed + i)⟩ :: x.saks }) ∧
      t.counter (kilnItem 11) = (s.counter (kilnItem 11) + 1) % 18446744073709551616 := by
  refine ⟨_, rfl, ?_⟩
  have hyes : (x.rekey && s.keyServer p x && !x.peers.isEmpty) = true := by
    rw [hrekey, hserver, List.isEmpty_eq_false_iff.2 hpeers]
    rfl
  have hsession : ((Eff.upd .useFree).run s).session? p x.ckn = some x := MkaPort.session?_single hsessions
  obtain ⟨hport, -, hsent, hcounted⟩ := newSak_run hsession
  rw [Eff.run_seq, operating_run hoperating, mkaHello_run hon hsessions hover, hyes, if_pos rfl]
  generalize (newSak p x.ckn).run ((Eff.upd .useFree).run s) = t at *
  refine ⟨?_, mkpduSent_flush (hsent hreach), ?_⟩
  · have hsessions' : (t.mkaPort p).sessions = [(x.keyed (((s.mkaPort p).nextAn + 1) % 4)
        ((List.range 32).map fun i => Config.randomByte (s.kiln.randomUsed + i))).said s.elapsed] := by
      rw [hport]
      exact MkaPort.onSession_single hsessions _
    rw [State.mkaPort_congr (flush_within.kiln_run t rfl), hsessions']
    rfl
  · rw [flush_counter _ _ (by decide +kernel), hcounted _ (by decide +kernel)]
    have hother := counter_count_other ((count (kilnItem 11)).run ((Eff.upd .useFree).run s)) (kilnItem 8) (kilnItem 11) 1 (by decide)
    exact hother.trans (counter_count_same s _ 1)

end Sys2Proof.Machine

/-! # Peers and keys that go (R341 to R344) -/

namespace Sys2Proof.Machine

/-! ## A silent peer -/

/-- A session without a peer. -/
def MkaSession.without (x : MkaSession) (sci : Nat) : MkaSession := { x with peers := x.peers.filter fun y => y.sci != sci }

/-- The MKA side of a port whose only session has lost a peer. -/
def MkaPort.lost (m : MkaPort) (x : MkaSession) (sci : Nat) : MkaPort :=
  { m with
      sessions := [x.without sci]
      rxSas := m.rxSas.filter fun y => y.1 != sci
      txSa := if x.peers.all (fun y => y.sci == sci) = true then none else m.txSa }

/-- The peer leaves its session, and its SAs go. -/
def peerLeaves (p sci : Nat) (x : MkaSession) : Eff := .seq (mkaSet p fun m => m.lost x sci) (raise 877 p)

/-- A new SAK for those that stay, where this end makes it. -/
def keysAnew (p : Nat) (y : MkaSession) : Eff := .look fun s => .when (!y.peers.isEmpty && s.keyServer p y) (newSak p y.ckn)

theorem mkaSet_run_congr {s : State} {p : Nat} {f g : MkaPort → MkaPort} (h : f (s.mkaPort p) = g (s.mkaPort p)) :
    (mkaSet p f).run s = (mkaSet p g).run s := by
  have hset : s.kiln.mka.set p (f (s.mkaPort p)) = s.kiln.mka.set p (g (s.mkaPort p)) := congrArg _ h
  exact congrArg (fun m => { s with kiln := { s.kiln with mka := m } }) hset

/-- No peer of a session without one is left exactly where all were that one. -/
theorem MkaSession.without_isEmpty (x : MkaSession) (sci : Nat) :
    (x.without sci).peers.isEmpty = x.peers.all fun y => y.sci == sci := by
  rw [MkaSession.without]
  dsimp only
  induction x.peers with
  | nil => rfl
  | cons q l ih =>
    rw [List.filter_cons, List.all_cons, bne]
    cases q.sci == sci
    · rfl
    · exact ih

theorem MkaSession.without_gone (x : MkaSession) (sci : Nat) : ((x.without sci).peers.any fun q => q.sci == sci) = false := by
  rw [List.any_eq_false]
  intro q hq
  have hother := (List.mem_filter.1 hq).2
  rw [bne_iff_ne] at hother
  rw [beq_iff_eq]
  exact hother

/-- A peer of this SCI of a session has been silent for the MKA Life Time. -/
def State.silent (s : State) (sci : Nat) (x : MkaSession) : Bool :=
  x.peers.any fun q => q.sci == sci && s.after q.heardAt (nsUnits 6000000000)

/-- The MKA side of a port once the silent peers of an SCI have gone. -/
def State.silenced (s : State) (sci : Nat) (m : MkaPort) : MkaPort :=
  let left := m.sessions.map fun x => if s.silent sci x then x.without sci else x
  { m with
      sessions := left
      rxSas := if left.any fun x => x.peers.any fun q => q.sci == sci then m.rxSas else m.rxSas.filter fun x => x.1 != sci
      txSa := if left.all fun x => x.peers.isEmpty then none else m.txSa }

theorem silenced_single {s : State} {m : MkaPort} {sci : Nat} {x : MkaSession} (hsessions : m.sessions = [x])
    (hsilent : s.silent sci x = true) : s.silenced sci m = m.lost x sci := by
  simp only [State.silenced, hsessions, List.map_cons, List.map_nil, hsilent, if_true, List.any_cons, List.any_nil, Bool.or_false,
    MkaSession.without_gone, Bool.false_eq_true, if_false, List.all_cons, List.all_nil, Bool.and_true, MkaSession.without_isEmpty]
  rfl

theorem peerLost_run {s : State} {p sci : Nat} {x : MkaSession} (hon : s.macsecOn p = true) (hsessions : (s.mkaPort p).sessions = [x])
    (hsilent : s.silent sci x = true) :
    (peerLost p sci).run s = (keysAnew p (x.without sci)).run ((peerLeaves p sci x).run s) := by
  have hset : (mkaSet p (s.silenced sci)).run s = (mkaSet p fun m => m.lost x sci).run s :=
    mkaSet_run_congr (silenced_single hsessions hsilent)
  have hfound : ((peerLeaves p sci x).run s).session? p x.ckn = some (x.without sci) := by
    have hport : ((peerLeaves p sci x).run s).mkaPort p = (s.mkaPort p).lost x sci := mkaSet_run_port p (fun m => m.lost x sci) s
    rw [State.session?_port, hport]
    exact MkaPort.session?_single (m := (s.mkaPort p).lost x sci) (x := x.without sci) rfl
  have hhit : (s.mkaPort p).sessions.filter (s.silent sci) = [x] := by
    rw [hsessions, List.filter_cons_of_pos hsilent, List.filter_nil]
  have hrun : (peerLost p sci).run s = (Eff.when (s.macsecOn p && !((s.mkaPort p).sessions.filter (s.silent sci)).isEmpty) (.all [
      mkaSet p (s.silenced sci), raise 877 p, .forEach ((s.mkaPort p).sessions.filter (s.silent sci)) fun x =>
        .look fun s => .ofOption (s.session? p x.ckn) fun y => .when (!y.peers.isEmpty && s.keyServer p y) (newSak p y.ckn)])).run s := rfl
  rw [hrun, hhit, hon]
  simp only [List.isEmpty_cons, Bool.not_false, Bool.and_true, Eff.run_when_true, Eff.run_all_cons, Eff.run_all_nil,
    Eff.run_forEach_cons, Eff.run_forEach_nil, hset]
  have hleaves : (raise 877 p).run ((mkaSet p fun m => m.lost x sci).run s) = (peerLeaves p sci x).run s := rfl
  rw [hleaves, Eff.run_look, hfound]
  rfl

/-- New keys leave the peers, the receive SAs and the transmit SA as they are, and raise nothing. -/
theorem keysAnew_run {s : State} {p : Nat} {y : MkaSession} (h : (s.mkaPort p).sessions = [y]) : let t := (keysAnew p y).run s
    (t.mkaPort p).sessions.map MkaSession.peers = [y.peers] ∧ (t.mkaPort p).rxSas = (s.mkaPort p).rxSas ∧
      (t.mkaPort p).txSa = (s.mkaPort p).txSa ∧ t.events = s.events := by
  dsimp only
  rw [keysAnew, Eff.run_look, Eff.run_when]
  split
  · obtain ⟨hport, hevents, -⟩ := newSak_run (MkaPort.session?_single h)
    rw [hport]
    refine ⟨?_, rfl, rfl, hevents⟩
    exact congrArg (List.map MkaSession.peers) (MkaPort.onSession_single h _)
  · exact ⟨by rw [h]; rfl, rfl, rfl, rfl⟩

theorem exec_mkaLifeTimeExpiry {s : State} {p sci : Nat} {x : MkaSession} (hoperating : s.operating = true) (hon : s.macsecOn p = true)
    (hsessions : (s.mkaPort p).sessions = [x]) (hsilent : s.silent sci x = true) (hp : p < 258) (hroom : s.room 1) :
    ∃ t, exec (.mkaLifeTimeExpiry p sci) s = .next t ∧
      (t.mkaPort p).sessions.map MkaSession.peers = [x.peers.filter fun y => y.sci != sci] ∧
      (t.mkaPort p).rxSas = ((s.mkaPort p).rxSas.filter fun y => y.1 != sci) ∧
      (t.mkaPort p).txSa = (if x.peers.all (fun y => y.sci == sci) = true then none else (s.mkaPort p).txSa) ∧ s.records t 877 p := by
  refine ⟨_, rfl, ?_⟩
  have hleft : ∃ u, (peerLeaves p sci x).run s = u ∧ u.mkaPort p = (s.mkaPort p).lost x sci ∧
      s.hasRaised u [⟨0, 877, 0, p, none⟩] := ⟨_, rfl, mkaSet_run_port p (fun m => m.lost x sci) s, ⟨rfl, rfl, rfl⟩⟩
  obtain ⟨u, hu, hport, hraised⟩ := hleft
  obtain ⟨hpeers, hrx, htx, hevents⟩ := keysAnew_run (s := u) (p := p) (y := x.without sci) (by rw [hport]; rfl)
  rw [Eff.run_seq, operating_run hoperating, peerLost_run hon hsessions hsilent, hu]
  generalize (keysAnew p (x.without sci)).run u = t at *
  rw [State.mkaPort_congr (flush_within.kiln_run t rfl)]
  rw [hport] at hrx htx
  exact ⟨hpeers, hrx, htx, (hraised.trans_quiet (.of_events_eq hevents)).records hroom (Nat.le_refl _)
    ⟨_, List.mem_singleton_self _, rfl, rfl⟩ (by decide) (by omega)⟩

/-! ## The key path -/

theorem operating_exec {s : State} (h : s.operating = true) (e : Eff) : (Eff.seq (operating e) flushEvents).run s = flushEvents.run (e.run s) := by
  rw [Eff.run_seq, operating_run h]

/-- A write on the key path is counted, and its time is kept. -/
def writeCounted (p : Nat) (now : Nat) : Eff := .all [count (kilnItem 13), count (kilnItem 12), mkaSet p fun m => { m with lastWrite := now }]

theorem writeCounted_run (p now : Nat) (s : State) : let t := (writeCounted p now).run s
    t.mkaPort p = { s.mkaPort p with lastWrite := now } ∧ t.od = s.od ∧ t.events = s.events :=
  ⟨mkaSet_run_port p (fun m => { m with lastWrite := now }) _, rfl, rfl⟩

theorem keyWritten_run {s : State} {p an key sci : Nat} {transmit : Bool} (hon : s.macsecOn p = true)
    (hmay : (s.mkaPort p).mayWrite an key sci transmit = true) : (keyWritten p an key sci transmit).run s =
      (if transmit then
        (if s.isLane p && p < 256 && (s.ringState == ringSapling || s.ringState == ringFollower || s.ringState == ringMaster)
         then mkaSet p fun m => { m with pendingTx := some (an, key), pendingIn := s.cycle }
         else useTxSa p an key)
      else mkaSet p fun m =>
        { m with rxSas := (sci, an, key) :: m.rxSas.filter fun x => !(x.1 == sci && (x.2.1 == an || x.2.2 + 1 < key)) }).run
        ((writeCounted p s.elapsed).run s) := by
  rw [keyWritten, Eff.run_look, hon, hmay]
  rfl

theorem exec_receiveKey {s : State} {p an key sci : Nat} (hoperating : s.operating = true) (hon : s.macsecOn p = true)
    (hmay : (s.mkaPort p).mayWrite an key sci false = true) :
    ∃ t, exec (.keyPathWrite p an key sci false) s = .next t ∧
      (t.mkaPort p).rxSas = ((sci, an, key) :: (s.mkaPort p).rxSas.filter fun x => !(x.1 == sci && (x.2.1 == an || x.2.2 + 1 < key))) ∧
      (t.mkaPort p).lastWrite = s.elapsed ∧ (t.mkaPort p).txSa = (s.mkaPort p).txSa := by
  refine ⟨_, rfl, ?_⟩
  obtain ⟨hport, -⟩ := writeCounted_run p s.elapsed s
  rw [operating_exec hoperating, State.mkaPort_congr (flush_within.kiln_run _ rfl), keyWritten_run hon hmay, if_neg (by decide),
    mkaSet_run_port, hport]
  exact ⟨rfl, rfl, rfl⟩

theorem exec_keyPathWrite_refused {s : State} {p an key sci : Nat} (hoperating : s.operating = true) 
    (hmay : (s.mkaPort p).mayWrite an key sci false = false) :
    ∃ t, exec (.keyPathWrite p an key sci false) s = .next t ∧ t.kiln = s.kiln := by
  refine ⟨_, rfl, ?_⟩
  rw [operating_exec hoperating, flush_within.kiln_run _ rfl, keyWritten, Eff.run_look, hmay, Bool.and_false]
  rfl

/-- A transmit SA takes effect at once. -/
theorem useTxSa_run (p an key : Nat) (s : State) : let t := (useTxSa p an key).run s
    (t.mkaPort p).txSa = some (an, key) ∧ (t.mkaPort p).txPn = 0 ∧ (t.mkaPort p).pendingTx = none ∧
      s.hasRaised t [⟨0, 878, 0, p + 1024 * an, none⟩] := by
  have hset : ∃ u, (useTxSa p an key).run s = (raise 878 (p + 1024 * an)).run u ∧ (u.mkaPort p).txSa = some (an, key) ∧
      (u.mkaPort p).txPn = 0 ∧ (u.mkaPort p).pendingTx = none ∧ u.events = s.events := by
    refine ⟨_, rfl, ?_⟩
    rw [mkaSet_run_port]
    exact ⟨rfl, rfl, rfl, rfl⟩
  obtain ⟨u, hrun, htx, hpn, hpending, hevents⟩ := hset
  have hkiln : ((raise 878 (p + 1024 * an)).run u).kiln = u.kiln := rfl
  dsimp only
  rw [hrun, State.mkaPort_congr hkiln]
  exact ⟨htx, hpn, hpending, (State.hasRaised.of_events_eq hevents).quiet_trans (raise_hasRaised _ _ u)⟩

theorem exec_transmitKey {s : State} {p an key sci : Nat} (hoperating : s.operating = true) (hon : s.macsecOn p = true)
    (hmay : (s.mkaPort p).mayWrite an key sci true = true) (hlane : s.isLane p = false) (hp : p < 258) (han : an < 4) (hroom : s.room 1) :
    ∃ t, exec (.keyPathWrite p an key sci true) s = .next t ∧ (t.mkaPort p).txSa = some (an, key) ∧ (t.mkaPort p).txPn = 0 ∧
      s.records t 878 (p + 1024 * an) := by
  refine ⟨_, rfl, ?_⟩
  obtain ⟨-, -, hevents⟩ := writeCounted_run p s.elapsed s
  obtain ⟨htx, hpn, -, hraised⟩ := useTxSa_run p an key ((writeCounted p s.elapsed).run s)
  rw [operating_exec hoperating, State.mkaPort_congr (flush_within.kiln_run _ rfl), keyWritten_run hon hmay, if_pos rfl, hlane,
    Bool.false_and, Bool.false_and, if_neg (by decide)]
  exact ⟨htx, hpn, ((State.hasRaised.of_events_eq hevents).quiet_trans hraised).records hroom (Nat.le_refl _)
    ⟨_, List.mem_singleton_self _, rfl, rfl⟩ (by decide) (by omega)⟩

theorem exec_laneKey {s : State} {p an key sci : Nat} (hoperating : s.operating = true) (hon : s.macsecOn p = true)
    (hmay : (s.mkaPort p).mayWrite an key sci true = true) (hlane : s.isLane p = true) (hp : p < 256)
    (hring : s.ringState = ringMaster ∨ s.ringState = ringFollower ∨ s.ringState = ringSapling) :
    ∃ t, exec (.keyPathWrite p an key sci true) s = .next t ∧ (t.mkaPort p).pendingTx = some (an, key) ∧
      (t.mkaPort p).pendingIn = s.cycle ∧ (t.mkaPort p).txSa = (s.mkaPort p).txSa := by
  refine ⟨_, rfl, ?_⟩
  obtain ⟨hport, -⟩ := writeCounted_run p s.elapsed s
  have hruns : (s.isLane p && decide (p < 256) &&
      (s.ringState == ringSapling || s.ringState == ringFollower || s.ringState == ringMaster)) = true := by
    rw [hlane, decide_eq_true hp]
    rcases hring with h | h | h
    · rw [h]
      rfl
    · rw [h]
      rfl
    · rw [h]
      rfl
  rw [operating_exec hoperating, State.mkaPort_congr (flush_within.kiln_run _ rfl), keyWritten_run hon hmay, if_pos rfl, hruns, if_pos rfl,
    mkaSet_run_port, hport]
  exact ⟨rfl, rfl, rfl⟩

theorem exec_txSaSwitch {s : State} {p an key : Nat} (hoperating : s.operating = true) (hpending : (s.mkaPort p).pendingTx = some (an, key))
    (hcycle : (s.mkaPort p).pendingIn ≠ s.cycle) (hp : p < 258) (han : an < 4) (hroom : s.room 1) :
    ∃ t, exec (.txSaSwitch p) s = .next t ∧ (t.mkaPort p).txSa = some (an, key) ∧ (t.mkaPort p).pendingTx = none ∧
      s.records t 878 (p + 1024 * an) := by
  refine ⟨_, rfl, ?_⟩
  obtain ⟨htx, -, hnone, hraised⟩ := useTxSa_run p an key s
  rw [operating_exec hoperating, State.mkaPort_congr (flush_within.kiln_run _ rfl), txSaSwitches, Eff.run_look, hpending]
  dsimp only
  rw [bne_iff_ne.2 hcycle, Eff.run_when_true]
  exact ⟨htx, hnone, hraised.records hroom (Nat.le_refl _) ⟨_, List.mem_singleton_self _, rfl, rfl⟩ (by decide) (by omega)⟩

theorem exec_sakHoldoverExpiry {s : State} {p : Nat} (hoperating : s.operating = true) (hheld : (s.kiln.mka.get? p).isSome = true)
    (hover : s.after (s.mkaPort p).lastWrite (nsUnits (s.n 0xA032 0)) = true) :
    ∃ t, exec (.sakHoldoverExpiry p) s = .next t ∧
      t.mkaPort p = { s.mkaPort p with txSa := none, pendingTx := none, rxSas := [], oldRxSas := [] } := by
  refine ⟨_, rfl, ?_⟩
  rw [operating_exec hoperating, State.mkaPort_congr (flush_within.kiln_run _ rfl), holdoverExpires, Eff.run_whenS, hheld, hover,
    if_pos (by decide), mkaSet_run_port]

end Sys2Proof.Machine

/-! # MKPDUs that arrive (R344) -/

namespace Sys2Proof.Machine

/-! ## Sessions of a port -/

/-- The sessions of a port. -/
def State.sessions (s : State) (p : Nat) : List MkaSession := (s.mkaPort p).sessions

theorem session?_of_sessions {s t : State} {p : Nat} (h : t.sessions p = s.sessions p) (ckn : Bytes) : t.session? p ckn = s.session? p ckn := by
  rw [State.session?, State.session?]
  exact congrArg _ h

theorem sessionSet_run_session {s : State} {p : Nat} {ckn : Bytes} {x : MkaSession} {f : MkaSession → MkaSession}
    (hf : ∀ x, (f x).ckn = x.ckn) (h : s.session? p ckn = some x) : ((sessionSet p ckn f).run s).session? p ckn = some (f x) := by
  have hfound := MkaPort.session?_onSession hf (s.mkaPort p) ckn
  rw [← State.session?_port, h] at hfound
  rw [State.session?_port, sessionSet_run_port]
  exact hfound

/-- A SAK that is taken stands before those that the session has. -/
theorem takeSak_run {s : State} {p : Nat} {x y : MkaSession} (d : Mkpdu) (h : s.session? p x.ckn = some y) :
    let t := (takeSak p x d).run s
    t.events = s.events ∧ ∃ taken, t.session? p x.ckn = some { y with saks := taken ++ y.saks } ∧
      ∀ an number, d.sak = some (an, number) → s.serverIs p x d = true → (x.saks.any fun z => z.an == an && z.number == number) = false →
        taken = match Config.unwrapSak x.kek d.wrappedSak with
          | some key => [⟨an, number, key⟩]
          | none => [] := by
  dsimp only
  rw [takeSak, Eff.run_look]
  cases hsak : d.sak with
  | none => exact ⟨rfl, [], h, fun _ _ hk => absurd hk (by simp)⟩
  | some k =>
    rw [Eff.ofOption]
    cases hkey : Config.unwrapSak x.kek d.wrappedSak with
    | none => exact ⟨rfl, [], h, fun _ _ _ _ _ => rfl⟩
    | some key =>
      rw [Eff.ofOption, Eff.run_when]
      split
      case isTrue =>
        have hset := sessionSet_run_session (f := fun z => { z with saks := ⟨k.1, k.2, key⟩ :: z.saks }) (fun _ => rfl) h
        refine ⟨rfl, [⟨k.1, k.2, key⟩], ?_, fun an number hk _ _ => ?_⟩
        · rw [Eff.run_seq, State.session?_port, mkaSet_run_port]
          exact hset
        · cases hk
          rfl
      case isFalse hno =>
        refine ⟨rfl, [], h, fun an number hk hserver hfresh => absurd ?_ hno⟩
        cases hk
        rw [hserver, hfresh]
        rfl

/-! ## A peer that is known, or becomes known -/

/-- A session whose peer has been heard. -/
def MkaSession.heard (x : MkaSession) (d : Mkpdu) (now : Nat) : MkaSession :=
  { x with peers := x.peers.map fun q => if q.member == d.member then { q with number := d.number, priority := d.priority, heardAt := now } else q }

/-- A session with a new live peer. -/
def MkaSession.joined (x : MkaSession) (d : Mkpdu) (now : Nat) (sc : Bool) : MkaSession :=
  { x with peers := x.peers ++ [⟨d.sci, d.member, d.number, d.priority, now, sc⟩], potential := x.potential.erase d.member }

/-- A session with a new potential peer. -/
def MkaSession.listed (x : MkaSession) (d : Mkpdu) : MkaSession := { x with potential := d.member :: x.potential.erase d.member }

/-- The events of a peer that becomes live. -/
def livesEvents (p : Nat) (sc : Bool) : List Raised := (if sc then [] else [⟨0, 881, 0, p, none⟩]) ++ [⟨0, 876, 0, p, none⟩]

/-- A new peer stands with its session, and its events are raised. -/
def peerJoins (p : Nat) (x : MkaSession) (d : Mkpdu) (now : Nat) (sc : Bool) : Eff :=
  .all [sessionSet p x.ckn fun y => y.joined d now sc, .when (!sc) (raise 881 p), raise 876 p]

theorem peerJoins_run {s : State} {p : Nat} {x : MkaSession} (d : Mkpdu) (h : s.session? p x.ckn = some x) (now : Nat) (sc : Bool) :
    let t := (peerJoins p x d now sc).run s
    t.session? p x.ckn = some (x.joined d now sc) ∧ s.hasRaised t (livesEvents p sc) := by
  have hset := sessionSet_run_session (f := fun y => y.joined d now sc) (fun _ => rfl) h
  cases sc
  · exact ⟨hset, ⟨List.append_assoc _ _ _, rfl, rfl⟩⟩
  · exact ⟨hset, ⟨rfl, rfl, rfl⟩⟩

theorem peerLives_run_eq {s : State} {p : Nat} {x : MkaSession} (d : Mkpdu) (h : s.session? p x.ckn = some x)
    (hroom : x.peers.length < 32 ∨ 256 ≤ p ∨ isSG p = false) : ∃ u, (peerJoins p x d s.elapsed (decide (s.receiveScs < 1024))).run s = u ∧
      (peerLives p x d).run s = (Eff.when (u.keyServer p (x.joined d s.elapsed (decide (s.receiveScs < 1024)))) (newSak p x.ckn)).run u := by
  have hfull : (isSG p && decide (p < 256) && decide (32 ≤ x.peers.length)) = false := by
    rcases hroom with h | h | h
    · rw [decide_eq_false (Nat.not_le_of_lt h), Bool.and_false]
    · rw [decide_eq_false (Nat.not_lt_of_le h), Bool.and_false, Bool.false_and]
    · rw [h, Bool.false_and, Bool.false_and]
  obtain ⟨hsession, -⟩ := peerJoins_run d h s.elapsed (decide (s.receiveScs < 1024))
  have hrun : (peerLives p x d).run s = (Eff.look fun s => .ofOption (s.session? p x.ckn) fun x =>
      .when (s.keyServer p x) (newSak p x.ckn)).run ((peerJoins p x d s.elapsed (decide (s.receiveScs < 1024))).run s) := by
    rw [peerLives, Eff.run_look]
    dsimp only
    rw [hfull]
    rfl
  refine ⟨_, rfl, ?_⟩
  rw [hrun, Eff.run_look, hsession]
  rfl

/-- A peer becomes live: it stands with the peers of its session, and its events are raised. -/
theorem peerLives_run {s : State} {p : Nat} {x : MkaSession} (d : Mkpdu) (h : s.session? p x.ckn = some x)
    (hroom : x.peers.length < 32 ∨ 256 ≤ p ∨ isSG p = false) :
    let t := (peerLives p x d).run s
    (∃ y, t.session? p x.ckn = some y ∧ y.peers = (x.joined d s.elapsed (decide (s.receiveScs < 1024))).peers) ∧
      s.hasRaised t (livesEvents p (decide (s.receiveScs < 1024))) := by
  obtain ⟨hsession, hraised⟩ := peerJoins_run d h s.elapsed (decide (s.receiveScs < 1024))
  obtain ⟨u, hu, hrun⟩ := peerLives_run_eq d h hroom
  rw [hu] at hsession hraised
  dsimp only
  rw [hrun, Eff.run_when]
  split
  · obtain ⟨hport, hevents, -⟩ := newSak_run hsession
    refine ⟨?_, hraised.trans_quiet (.of_events_eq hevents)⟩
    rw [State.session?_port, hport]
    have hfound := MkaPort.session?_onSession (f := fun y => (y.keyed (((u.mkaPort p).nextAn + 1) % 4)
      ((List.range 32).map fun i => Config.randomByte (u.kiln.randomUsed + i))).said u.elapsed) (fun _ => rfl) (u.mkaPort p) x.ckn
    rw [← State.session?_port, hsession] at hfound
    exact ⟨_, hfound, rfl⟩
  · exact ⟨⟨_, hsession, rfl⟩, hraised⟩

/-! ## The MKPDU itself -/

/-- An MKPDU of a session that MKA takes: counted, and what its sender is now. -/
def mkpduTaken (p : Nat) (x : MkaSession) (d : Mkpdu) : Eff :=
  .look fun s =>
    if (x.peers.find? fun q => q.member == d.member).isSome then sessionSet p x.ckn fun y => y.heard d s.elapsed
    else if d.live.contains x.member || d.potential.contains x.member then peerLives p x d
    else sessionSet p x.ckn fun y => y.listed d

/-- What an MKPDU does whose session runs on the port, and whose message number is new. -/
theorem mkpduArrives_run {s : State} {p : Nat} {d : Mkpdu} {x : MkaSession} (hon : s.macsecOn p = true)
    (hsession : s.session? p d.ckn = some x) (hmember : d.member ≠ x.member)
    (hnew : ∀ q, (x.peers.find? fun y => y.member == d.member) = some q → q.number < d.number) :
    (mkpduArrives p d).run s = (if Config.mkaIcvGood x.ick d.raw then .seq (mkpduTaken p x d) (takeSak p x d)
      else count (kilnItem 10)).run ((count (kilnItem 9)).run s) := by
  have hlate : ((x.peers.find? fun q => q.member == d.member).any fun q => decide (d.number ≤ q.number)) = false := by
    cases hfind : x.peers.find? fun q => q.member == d.member with
    | none => rfl
    | some q => exact decide_eq_false (Nat.not_le_of_lt (hnew q hfind))
  rw [mkpduArrives, Eff.run_look, hon, Eff.run_when_true, Eff.run_seq, hsession]
  dsimp only
  rw [hlate, beq_eq_false_iff_ne.2 hmember]
  cases Config.mkaIcvGood x.ick d.raw
  · rfl
  · rfl

/-- The counted state, of which all that MKA looks at is as it was. -/
theorem count_run_mka (i : Nat) (s : State) : ((count i).run s).kiln = s.kiln ∧ ((count i).run s).elapsed = s.elapsed ∧
    ((count i).run s).od = s.od ∧ ((count i).run s).events = s.events := ⟨rfl, rfl, rfl, rfl⟩

/-- What an MKPDU brings counts no MKPDU received. -/
theorem mkpduTaken_counter (p : Nat) (x : MkaSession) (d : Mkpdu) (s : State) :
    ((Eff.seq (mkpduTaken p x d) (takeSak p x d)).run s).counter (kilnItem 9) = s.counter (kilnItem 9) := by
  have hsak (u : State) : ((takeSak p x d).run u).counter (kilnItem 9) = u.counter (kilnItem 9) :=
    (takeSak_within (Mask.Le.refl _)).keeps_ctr u rfl (by decide +kernel)
  have hlives (u : State) : ((peerLives p x d).run u).counter (kilnItem 9) = u.counter (kilnItem 9) :=
    (peerLives_within (Mask.Le.refl _)).keeps_ctr u rfl (by decide +kernel)
  rw [Eff.run_seq, hsak, mkpduTaken, Eff.run_look]
  split
  · rfl
  · split
    · exact hlives s
    · rfl

/-- Every MKPDU of a port is counted once, whatever it brings. -/
theorem mkpduArrives_run_counter {s : State} {p : Nat} {d : Mkpdu} {x : MkaSession} (hon : s.macsecOn p = true)
    (hsession : s.session? p d.ckn = some x) (hmember : d.member ≠ x.member)
    (hnew : ∀ q, (x.peers.find? fun y => y.member == d.member) = some q → q.number < d.number) :
    ((mkpduArrives p d).run s).counter (kilnItem 9) = (s.counter (kilnItem 9) + 1) % 18446744073709551616 := by
  rw [mkpduArrives_run hon hsession hmember hnew]
  split
  · rw [mkpduTaken_counter]
    exact counter_count_same s _ 1
  · refine (counter_count_other _ _ _ 1 (by decide)).trans ?_
    exact counter_count_same s _ 1

/-! ## What it brings, where its ICV is good -/

section Good

variable {s : State} {p : Nat} {d : Mkpdu} {x : MkaSession} (hon : s.macsecOn p = true) (hsession : s.session? p d.ckn = some x)
  (hmember : d.member ≠ x.member) (hgood : Config.mkaIcvGood x.ick d.raw = true)

include hon hsession hmember

/-- Where its ICV is bad it is counted as such, and the sessions stand. -/
theorem mkpduArrives_run_bad (hnew : ∀ q, (x.peers.find? fun y => y.member == d.member) = some q → q.number < d.number)
    (hbad : Config.mkaIcvGood x.ick d.raw = false) : let t := (mkpduArrives p d).run s
    t.session? p d.ckn = some x ∧ t.counter (kilnItem 10) = (s.counter (kilnItem 10) + 1) % 18446744073709551616 := by
  dsimp only
  rw [mkpduArrives_run hon hsession hmember hnew, hbad, if_neg (by decide)]
  refine ⟨hsession, (counter_count_same _ _ 1).trans ?_⟩
  exact congrArg (fun n => (n + 1) % 18446744073709551616) (counter_count_other s (kilnItem 9) (kilnItem 10) 1 (by decide))

include hgood

/-- A live peer is heard again; the SAK that its MKPDU distributes is taken. -/
theorem mkpduArrives_run_known {q : MkaPeer} (hknown : (x.peers.find? fun y => y.member == d.member) = some q) (hnumber : q.number < d.number) :
    ∃ taken, ((mkpduArrives p d).run s).session? p d.ckn = some { x.heard d s.elapsed with saks := taken ++ x.saks } ∧
      ∀ an number, d.sak = some (an, number) → s.serverIs p x d = true → (x.saks.any fun z => z.an == an && z.number == number) = false →
        taken = match Config.unwrapSak x.kek d.wrappedSak with
          | some key => [⟨an, number, key⟩]
          | none => [] := by
  have hckn : x.ckn = d.ckn := MkaPort.ckn_of_session? hsession
  have hrun : (mkpduArrives p d).run s = (takeSak p x d).run ((sessionSet p x.ckn fun y => y.heard d s.elapsed).run ((count (kilnItem 9)).run s)) := by
    rw [mkpduArrives_run hon hsession hmember (fun r hr => by rw [hknown] at hr; cases hr; exact hnumber), hgood, if_pos rfl, Eff.run_seq,
      mkpduTaken, Eff.run_look, hknown]
    rfl
  have hheard : ((sessionSet p x.ckn fun y => y.heard d s.elapsed).run ((count (kilnItem 9)).run s)).session? p x.ckn =
      some (x.heard d s.elapsed) :=
    sessionSet_run_session (f := fun y => y.heard d s.elapsed) (fun _ => rfl) (by rw [hckn]; exact hsession)
  obtain ⟨-, taken, hfound, htaken⟩ := takeSak_run d hheard
  rw [hrun, ← hckn]
  exact ⟨taken, hfound, htaken⟩

/-- An MKPDU of a new sender that lists the own member identifier makes it a live peer. -/
theorem mkpduArrives_run_live (hunknown : (x.peers.find? fun y => y.member == d.member) = none)
    (hlists : d.live.contains x.member = true ∨ d.potential.contains x.member = true)
    (hroom : x.peers.length < 32 ∨ 256 ≤ p ∨ isSG p = false) : let t := (mkpduArrives p d).run s
    (t.session? p d.ckn).map MkaSession.peers =
        some (x.peers ++ [⟨d.sci, d.member, d.number, d.priority, s.elapsed, decide (s.receiveScs < 1024)⟩]) ∧
      s.hasRaised t (livesEvents p (decide (s.receiveScs < 1024))) := by
  have hckn : x.ckn = d.ckn := MkaPort.ckn_of_session? hsession
  have hboth : (d.live.contains x.member || d.potential.contains x.member) = true := by
    rw [Bool.or_eq_true]
    exact hlists
  have hrun : (mkpduArrives p d).run s = (takeSak p x d).run ((peerLives p x d).run ((count (kilnItem 9)).run s)) := by
    rw [mkpduArrives_run hon hsession hmember (fun r hr => by rw [hunknown] at hr; cases hr), hgood, if_pos rfl, Eff.run_seq,
      mkpduTaken, Eff.run_look, hunknown, hboth]
    rfl
  have hstands : ((count (kilnItem 9)).run s).session? p x.ckn = some x := by
    rw [hckn]
    exact hsession
  obtain ⟨⟨y, hfound, hpeers⟩, hraised⟩ := peerLives_run d hstands hroom
  obtain ⟨hevents, taken, hsaks, -⟩ := takeSak_run d hfound
  have hcounted : s.hasRaised ((count (kilnItem 9)).run s) [] := .of_events_eq rfl
  dsimp only
  rw [hrun, ← hckn, hsaks]
  exact ⟨congrArg some hpeers, (hcounted.quiet_trans hraised).trans_quiet (.of_events_eq hevents)⟩

/-- One that does not list it makes its sender a potential peer. -/
theorem mkpduArrives_run_potential (hunknown : (x.peers.find? fun y => y.member == d.member) = none)
    (hlive : d.live.contains x.member = false) (hpotential : d.potential.contains x.member = false) :
    (((mkpduArrives p d).run s).session? p d.ckn).map (fun y => (y.peers, y.potential)) =
      some (x.peers, d.member :: x.potential.erase d.member) := by
  have hckn : x.ckn = d.ckn := MkaPort.ckn_of_session? hsession
  have hrun : (mkpduArrives p d).run s = (takeSak p x d).run ((sessionSet p x.ckn fun y => y.listed d).run ((count (kilnItem 9)).run s)) := by
    rw [mkpduArrives_run hon hsession hmember (fun r hr => by rw [hunknown] at hr; cases hr), hgood, if_pos rfl, Eff.run_seq,
      mkpduTaken, Eff.run_look, hunknown, hlive, hpotential]
    rfl
  have hlisted : ((sessionSet p x.ckn fun y => y.listed d).run ((count (kilnItem 9)).run s)).session? p x.ckn = some (x.listed d) :=
    sessionSet_run_session (f := fun y => y.listed d) (fun _ => rfl) (by rw [hckn]; exact hsession)
  obtain ⟨-, taken, hfound, -⟩ := takeSak_run d hlisted
  rw [hrun, ← hckn, hfound]
  rfl

end Good

end Sys2Proof.Machine

/-! # MKPDUs reach MKA (R22, R279, R344) -/

namespace Sys2Proof.Machine

/-- From `s` an MKPDU comes to MKA in `u`, which stands as it did but for at most `n` events, and what MKA makes of it stands in `v`. -/
structure State.hands (s u v : State) (p : Nat) (d : Mkpdu) (n : Nat) : Prop where
  kiln : u.kiln = s.kiln
  elapsed : u.elapsed = s.elapsed
  macsec : u.macsecOn p = s.macsecOn p
  server : ∀ x, u.serverIs p x d = s.serverIs p x d
  counters : ∀ i, 8 < i → i < 11 → u.counter (kilnItem i) = s.counter (kilnItem i)
  raised : ∃ l, s.hasRaised u l ∧ l.length ≤ n
  sessions : v.sessions p = ((mkpduArrives p d).run u).sessions p
  counted : v.counters = ((mkpduArrives p d).run u).counters
  events : v.events = ((mkpduArrives p d).run u).events

theorem mkpdu_run_stack {s : State} {p : Nat} {d : Mkpdu} (hoperating : s.operating = true) (hp : 256 ≤ p)
    (husable : s.stackUsable (p - 256) = true) (hbarred : s.stackBarred (p - 256) = false) (hsound : frameSound d.frame = true)
    (htype : beAt d.frame.data 12 2 = 0x888E) : ∃ u v, exec (.mkpdu p d) s = .next (flushEvents.run v) ∧ s.hands u v p d 0 := by
  have hgood : (frameSound d.frame && beAt d.frame.data 12 2 == 0x888E) = true := by rw [hsound, htype]; rfl
  have hrun : exec (.mkpdu p d) s = .next (flushEvents.run ((mkpduArrives p d).run ((count (twinItem 27)).run s))) := by
    have hopen : (stackOpen (p - 256) (frameSound d.frame && beAt d.frame.data 12 2 == 0x888E) (mkpduArrives p d)).run s =
        (mkpduArrives p d).run ((count (twinItem 27)).run s) := by
      rw [stackOpen, Eff.run_whenS, husable, hbarred, hgood]
      rfl
    rw [← hopen, ← operating_run hoperating]
    simp only [exec, execMkpdu, mkpduReceived, if_neg (Nat.not_lt_of_le hp)]
    rfl
  refine ⟨(count (twinItem 27)).run s, _, hrun, rfl, rfl, rfl, fun _ => rfl, fun i hlow hhigh => ?_, ⟨[], .of_events_eq rfl, Nat.le_refl _⟩,
    rfl, rfl, rfl⟩
  exact counter_count_other s _ _ 1 (by rw [kilnItem, twinItem]; omega)

theorem noteNumber_run_mka (p : Nat) (f : Frame) (s : State) : let t := (noteNumber p f).run s
    t.sessions p = s.sessions p ∧ t.counters = s.counters ∧ t.events = s.events := by
  dsimp only
  rw [noteNumber, Eff.run_look]
  split
  case h_1 sci pn k _ hk =>
    rw [Eff.run_when]
    split
    · refine ⟨?_, rfl, rfl⟩
      have hport : s.mkaPort p = k := by rw [State.mkaPort, PMap.getD, hk]; rfl
      have hset := PMap.getD_set_same s.kiln.mka p { k with windows := k.windows.set sci (max pn (k.windows.getD sci 0)) } MkaPort.init
      have hkept := congrArg MkaPort.sessions hset
      rw [State.sessions, State.sessions, hport]
      exact hkept
    · exact ⟨rfl, rfl, rfl⟩
  case h_2 => exact ⟨rfl, rfl, rfl⟩

/-- A frame that a port hears raises at most the event of a node that becomes present. -/
theorem nodeHeard_hasRaised (p node : Nat) (s : State) : ∃ l, s.hasRaised ((nodeHeard p node).run s) l ∧ l.length ≤ 1 := by
  rw [nodeHeard, Eff.run_look]
  dsimp only
  generalize (if s.portMode p == 1 then 0 else s.port p 2 1) = own
  split
  · exact ⟨[], .refl s, Nat.zero_le _⟩
  · rw [Eff.run_all_cons, Eff.run_all_cons, Eff.run_all_cons, Eff.run_all_cons, Eff.run_all_nil, Eff.run_when]
    split
    · exact ⟨_, ⟨rfl, rfl, rfl⟩, Nat.le_refl _⟩
    · exact ⟨[], .of_events_eq rfl, Nat.zero_le _⟩

theorem heardFrame_hasRaised {s : State} {p : Nat} {frame : Frame} (h : s.hears p frame = true) :
    ∃ l, s.hasRaised ((heardFrame p (s.atPlane p frame)).run s) l ∧ l.length ≤ 1 := by
  obtain ⟨-, -, hpasses, hlength, -⟩ := State.passes_of_hears h
  have hopens := opportunityOf_within (Mask.Le.refl _) (p := p) (sender := (s.atPlane p frame).node)
  rw [heardFrame, Eff.run_all_cons, Eff.run_all_cons, Eff.run_all_cons, Eff.run_all_nil,
    countReceived_run_of_passes (f := s.atPlane p frame) hpasses hlength]
  have hquiet : s.hasRaised ((opportunityOf p (s.atPlane p frame).node).run ((countGood p (s.wireBytes p (s.atPlane p frame))).run s)) [] :=
    .of_events_eq (hopens.events_run _ rfl)
  generalize (opportunityOf p (s.atPlane p frame).node).run ((countGood p (s.wireBytes p (s.atPlane p frame))).run s) = u at *
  rw [Eff.run_when]
  split
  · obtain ⟨l, hraised, hlength'⟩ := nodeHeard_hasRaised p (s.atPlane p frame).node u
    exact ⟨l, hquiet.quiet_trans hraised, hlength'⟩
  · exact ⟨[], hquiet, Nat.zero_le _⟩

theorem mkpdu_run_port {s : State} {p : Nat} {d : Mkpdu} (hoperating : s.operating = true) (hp : p < 256)
    (hhears : s.hears p d.frame = true) (hplain : s.unscheduled p = true) :
    ∃ u v, exec (.mkpdu p d) s = .next (flushEvents.run v) ∧ s.hands u v p d 1 := by
  have hrun : exec (.mkpdu p d) s = .next (flushEvents.run ((noteNumber p (s.atPlane p d.frame)).run
      ((mkpduArrives p d).run ((heardFrame p (s.atPlane p d.frame)).run s)))) := by
    rw [← received_run_of_hears hhears hplain (some d) (fun _ => mkpduArrives p d), ← operating_run hoperating]
    simp only [exec, execMkpdu, mkpduReceived, if_pos hp]
    rfl
  obtain ⟨e, he, hheard⟩ := heardFrame_run_within hhears
  have hraised := heardFrame_hasRaised hhears
  rw [hheard] at hrun hraised
  obtain ⟨hsessions, hcounted, hevents⟩ := noteNumber_run_mka p (s.atPlane p d.frame) ((mkpduArrives p d).run (e.run s))
  have hchecks := he.sameChecks p s
  have haddress : (e.run s).macBytes p = s.macBytes p := by
    rw [State.macBytes, if_pos hp, State.macBytes, if_pos hp, he.keeps_port s (by decide +kernel)]
  refine ⟨_, _, hrun, hchecks.kiln, ?_, ?_, fun x => ?_, fun i hlow hhigh => ?_, hraised, hsessions, hcounted, hevents⟩
  · rw [State.elapsed, he.canopy_run s rfl]
    rfl
  · rw [State.macsecOn, State.macsecOn, hchecks.macsecOn, State.kilnRuns, hchecks.kiln]
    rfl
  · rw [State.serverIs, State.serverIs, hchecks.macsecNat, State.sci, State.sci, haddress]
  · have hi : i = 9 ∨ i = 10 := by omega
    rcases hi with rfl | rfl
    · exact he.keeps_ctr s rfl (by decide +kernel)
    · exact he.keeps_ctr s rfl (by decide +kernel)

/-- With room for `n` more, `n + 8` events are on record: eight leave before they are numbered (R367). -/
theorem State.hasRaised.records_spare {s u : State} {l : List Raised} {n source arg : Nat} (h : s.hasRaised u l) (hroom : s.room n)
    (hlength : l.length ≤ n + 8) (hfew : l.length ≤ 1032) (hmem : ∃ x ∈ l, x.source = source ∧ x.arg = arg) (hsource : source < 1024)
    (harg : arg < 2147483648) : s.records (flushEvents.run u) source arg := by
  obtain ⟨hnone, hbacklog⟩ := hroom
  have hraised : u.events.raised = l := by rw [h.raised, hnone, List.nil_append]
  have hsame : (sortRaised l).length = l.length := length_sortRaised l
  have htaken : (Upd.apply .takeRaised u).events.backlog + (sortRaised l).length ≤ 1032 := by
    change u.events.backlog - 8 + (sortRaised l).length ≤ 1032
    rw [h.backlog]
    omega
  obtain ⟨new, hfifo, hall⟩ := forEach_stamp_room (sortRaised l) (Upd.apply .takeRaised u) htaken
  have hstart : (Upd.apply .takeRaised u).events.fifo = s.events.fifo := h.fifo
  have hrun : (flushEvents.run u).events.fifo = s.events.fifo ++ new := by
    rw [flushEvents, Eff.run_look, Eff.run_seq, Eff.run_upd, hraised, hfifo, hstart]
  obtain ⟨x, hx, rfl, rfl⟩ := hmem
  obtain ⟨r, hr, -, hrs, -, hra, -⟩ := forall2_mem hall ((mem_sortRaised x l).2 hx)
  exact ⟨new, hrun, r, hr, hrs.trans (Nat.mod_eq_of_lt hsource), hra.trans (Nat.mod_eq_of_lt harg)⟩

/-! ## What an MKPDU has done -/

section Handed

variable {s u v : State} {p n : Nat} {d : Mkpdu} {x : MkaSession} (hhands : s.hands u v p d n) (hon : s.macsecOn p = true)
  (hsession : s.session? p d.ckn = some x) (hmember : d.member ≠ x.member)

include hhands

theorem State.hands.session : (flushEvents.run v).session? p d.ckn = ((mkpduArrives p d).run u).session? p d.ckn := by
  refine session?_of_sessions (Eq.trans ?_ hhands.sessions) d.ckn
  rw [State.sessions, State.sessions, State.mkaPort_congr (flush_within.kiln_run v rfl)]

theorem State.hands.counter {i : Nat} (h : counterClass i ≠ 10823) : (flushEvents.run v).counter i = ((mkpduArrives p d).run u).counter i := by
  rw [flush_counter _ _ h, State.counter, hhands.counted]
  rfl

include hon in
theorem State.hands.macsecOn : u.macsecOn p = true := hhands.macsec.trans hon

include hsession in
theorem State.hands.session? : u.session? p d.ckn = some x := by
  rw [State.session?_port, State.mkaPort_congr hhands.kiln, ← State.session?_port, hsession]

include hon hsession hmember

/-- It is counted. -/
theorem handed_counted (hnew : ∀ q, (x.peers.find? fun y => y.member == d.member) = some q → q.number < d.number) :
    (flushEvents.run v).counter (kilnItem 9) = (s.counter (kilnItem 9) + 1) % 18446744073709551616 := by
  rw [hhands.counter (by decide +kernel), mkpduArrives_run_counter (hhands.macsecOn hon) (hhands.session? hsession) hmember hnew,
    hhands.counters 9 (by decide) (by decide)]

/-- Of a known peer: taken where its ICV is good, or else counted as bad. -/
theorem handed_known {q : MkaPeer} (hknown : (x.peers.find? fun y => y.member == d.member) = some q) (hnumber : q.number < d.number) :
    (flushEvents.run v).counter (kilnItem 9) = (s.counter (kilnItem 9) + 1) % 18446744073709551616 ∧
      (Config.mkaIcvGood x.ick d.raw = true → ((flushEvents.run v).session? p d.ckn).map MkaSession.peers = some (x.heard d s.elapsed).peers) ∧
      (Config.mkaIcvGood x.ick d.raw = false → (flushEvents.run v).session? p d.ckn = some x ∧
        (flushEvents.run v).counter (kilnItem 10) = (s.counter (kilnItem 10) + 1) % 18446744073709551616) := by
  have hnew : ∀ r, (x.peers.find? fun y => y.member == d.member) = some r → r.number < d.number := fun r hr => by
    rw [hknown] at hr
    cases hr
    exact hnumber
  refine ⟨handed_counted hhands hon hsession hmember hnew, fun hgood => ?_, fun hbad => ?_⟩
  · obtain ⟨taken, hfound, -⟩ :=
      mkpduArrives_run_known (hhands.macsecOn hon) (hhands.session? hsession) hmember hgood hknown hnumber
    rw [hhands.session, hfound, hhands.elapsed]
    rfl
  · obtain ⟨hstands, hcounted⟩ := mkpduArrives_run_bad (hhands.macsecOn hon) (hhands.session? hsession) hmember hnew hbad
    rw [hhands.session, hhands.counter (by decide +kernel), hcounted, hhands.counters 10 (by decide) (by decide)]
    exact ⟨hstands, rfl⟩

/-- With the SAK that its sender distributes as key server. -/
theorem handed_sak {q : MkaPeer} {an number : Nat} (hknown : (x.peers.find? fun y => y.member == d.member) = some q)
    (hnumber : q.number < d.number) (hsak : d.sak = some (an, number)) (hserver : s.serverIs p x d = true)
    (hfresh : (x.saks.any fun y => y.an == an && y.number == number) = false) :
    (flushEvents.run v).counter (kilnItem 9) = (s.counter (kilnItem 9) + 1) % 18446744073709551616 ∧
      (Config.mkaIcvGood x.ick d.raw = true → ((flushEvents.run v).session? p d.ckn).map MkaSession.saks =
        some ((match Config.unwrapSak x.kek d.wrappedSak with
          | some key => [⟨an, number, key⟩]
          | none => []) ++ x.saks)) := by
  refine ⟨(handed_known hhands hon hsession hmember hknown hnumber).1, fun hgood => ?_⟩
  obtain ⟨taken, hfound, htaken⟩ :=
    mkpduArrives_run_known (hhands.macsecOn hon) (hhands.session? hsession) hmember hgood hknown hnumber
  rw [hhands.session, hfound, htaken an number hsak ((hhands.server x).trans hserver) hfresh]
  rfl

/-- Of a new peer that lists the own member identifier. -/
theorem handed_live (hunknown : (x.peers.find? fun y => y.member == d.member) = none)
    (hlists : d.live.contains x.member = true ∨ d.potential.contains x.member = true)
    (hplace : x.peers.length < 32 ∨ 256 ≤ p ∨ isSG p = false) (hgood : Config.mkaIcvGood x.ick d.raw = true) :
    ((flushEvents.run v).session? p d.ckn).map MkaSession.peers =
        some (x.peers ++ [⟨d.sci, d.member, d.number, d.priority, s.elapsed, decide (s.receiveScs < 1024)⟩]) ∧
      ∃ l, s.hasRaised v (l ++ livesEvents p (decide (s.receiveScs < 1024))) ∧ l.length ≤ n := by
  obtain ⟨hpeers, hraised⟩ :=
    mkpduArrives_run_live (hhands.macsecOn hon) (hhands.session? hsession) hmember hgood hunknown hlists hplace
  have hscs : u.receiveScs = s.receiveScs := by
    rw [State.receiveScs, hhands.kiln]
    rfl
  rw [hhands.elapsed, hscs] at hpeers
  rw [hscs] at hraised
  obtain ⟨l, hbefore, hlength⟩ := hhands.raised
  rw [hhands.session]
  exact ⟨hpeers, l, (hbefore.trans hraised).trans_quiet (.of_events_eq hhands.events), hlength⟩

/-- Where a receive SC is free: its event is on record, whatever a frame on a port has raised before it. -/
theorem handed_live_free (hn : n ≤ 1) (hunknown : (x.peers.find? fun y => y.member == d.member) = none)
    (hlists : d.live.contains x.member = true ∨ d.potential.contains x.member = true) (hscs : s.receiveScs < 1024)
    (hplace : x.peers.length < 32 ∨ 256 ≤ p ∨ isSG p = false) (hlow : p < 258) (hroom : s.room 1) :
    (flushEvents.run v).counter (kilnItem 9) = (s.counter (kilnItem 9) + 1) % 18446744073709551616 ∧
      (Config.mkaIcvGood x.ick d.raw = true → ((flushEvents.run v).session? p d.ckn).map MkaSession.peers =
        some (x.peers ++ [⟨d.sci, d.member, d.number, d.priority, s.elapsed, true⟩]) ∧ s.records (flushEvents.run v) 876 p) := by
  refine ⟨handed_counted hhands hon hsession hmember (fun r hr => by rw [hunknown] at hr; cases hr), fun hgood => ?_⟩
  obtain ⟨hpeers, l, hraised, hlength⟩ := handed_live hhands hon hsession hmember hunknown hlists hplace hgood
  rw [decide_eq_true hscs] at hpeers hraised
  have hcount : (l ++ livesEvents p true).length ≤ 2 := by
    rw [List.length_append]
    exact Nat.add_le_add_right (Nat.le_trans hlength hn) 1
  exact ⟨hpeers, hraised.records_spare hroom (by omega) (by omega)
    ⟨_, List.mem_append_right _ (List.mem_singleton_self _), rfl, rfl⟩ (by decide) (by omega)⟩

/-- Of a new peer that does not. -/
theorem handed_potential (hunknown : (x.peers.find? fun y => y.member == d.member) = none)
    (hlive : d.live.contains x.member = false) (hpotential : d.potential.contains x.member = false) :
    (flushEvents.run v).counter (kilnItem 9) = (s.counter (kilnItem 9) + 1) % 18446744073709551616 ∧
      (Config.mkaIcvGood x.ick d.raw = true → ((flushEvents.run v).session? p d.ckn).map (fun y => (y.peers, y.potential)) =
        some (x.peers, d.member :: x.potential.erase d.member)) := by
  refine ⟨handed_counted hhands hon hsession hmember (fun r hr => by rw [hunknown] at hr; cases hr), fun hgood => ?_⟩
  rw [hhands.session]
  exact mkpduArrives_run_potential (hhands.macsecOn hon) (hhands.session? hsession) hmember hgood hunknown hlive hpotential

end Handed

/-- Settles O54: an MKPDU changes the session of its CKN alone, what leaves on a port stands among the frames of the Kiln, and the events
that come before MKA's own leave room for them (R367). -/
theorem macsecKeysComeAndGo : Obligations.MacsecKeysComeAndGo := by
  unfold Obligations.MacsecKeysComeAndGo
  refine ⟨?_, ?_, ?_, ?_, ?_, ?_, ?_, ?_, ?_, ?_, ?_, ?_, ?_, ?_, ?_, ?_, ?_, ?_⟩
  · intro s p d x q hoperating hp husable hbarred hsound htype hon hsession hmember hknown hnumber
    obtain ⟨u, v, hrun, hhands⟩ := mkpdu_run_stack hoperating hp husable hbarred hsound htype
    exact ⟨_, hrun, handed_known hhands hon hsession hmember hknown hnumber⟩
  · intro s p d x q hoperating hp hhears hplain hon hsession hmember hknown hnumber
    obtain ⟨u, v, hrun, hhands⟩ := mkpdu_run_port hoperating hp hhears hplain
    exact ⟨_, hrun, handed_known hhands hon hsession hmember hknown hnumber⟩
  · intro s p d x an number q hoperating hp husable hbarred hsound htype hon hsession hmember hknown hnumber hsak hserver hfresh
    obtain ⟨u, v, hrun, hhands⟩ := mkpdu_run_stack hoperating hp husable hbarred hsound htype
    exact ⟨_, hrun, handed_sak hhands hon hsession hmember hknown hnumber hsak hserver hfresh⟩
  · intro s p d x an number q hoperating hp hhears hplain hon hsession hmember hknown hnumber hsak hserver hfresh
    obtain ⟨u, v, hrun, hhands⟩ := mkpdu_run_port hoperating hp hhears hplain
    exact ⟨_, hrun, handed_sak hhands hon hsession hmember hknown hnumber hsak hserver hfresh⟩
  · intro s p d x hoperating hp husable hbarred hsound htype hon hsession hmember hunknown hlists hscs hplace hlow hroom
    obtain ⟨u, v, hrun, hhands⟩ := mkpdu_run_stack hoperating hp husable hbarred hsound htype
    exact ⟨_, hrun, handed_live_free hhands hon hsession hmember (by decide) hunknown hlists hscs hplace hlow hroom⟩
  · intro s p d x hoperating hp hhears hplain hon hsession hmember hunknown hlists hscs hplace hlow hroom
    obtain ⟨u, v, hrun, hhands⟩ := mkpdu_run_port hoperating hp hhears hplain
    exact ⟨_, hrun, handed_live_free hhands hon hsession hmember (by decide) hunknown hlists hscs hplace hlow hroom⟩
  · intro s p d x hoperating hp husable hbarred hsound htype hon hsession hmember hunknown hlists hscs hlow hroom
    obtain ⟨u, v, hrun, hhands⟩ := mkpdu_run_stack hoperating hp husable hbarred hsound htype
    refine ⟨_, hrun, fun hgood => ?_⟩
    obtain ⟨hpeers, l, hraised, hlength⟩ := handed_live hhands hon hsession hmember hunknown hlists (.inr (.inl hp)) hgood
    rw [decide_eq_false (Nat.not_lt_of_le hscs)] at hpeers hraised
    rw [List.eq_nil_of_length_eq_zero (Nat.le_zero.1 hlength)] at hraised
    exact ⟨hpeers, hraised.records hroom (Nat.le_refl _) ⟨_, List.mem_cons_self, rfl, rfl⟩ (by decide) (by omega),
      hraised.records hroom (Nat.le_refl _) ⟨_, List.mem_cons_of_mem _ (List.mem_singleton_self _), rfl, rfl⟩ (by decide) (by omega)⟩
  · intro s p d x hoperating hp husable hbarred hsound htype hon hsession hmember hunknown hlive hpotential
    obtain ⟨u, v, hrun, hhands⟩ := mkpdu_run_stack hoperating hp husable hbarred hsound htype
    exact ⟨_, hrun, handed_potential hhands hon hsession hmember hunknown hlive hpotential⟩
  · intro s p d x hoperating hp hhears hplain hon hsession hmember hunknown hlive hpotential
    obtain ⟨u, v, hrun, hhands⟩ := mkpdu_run_port hoperating hp hhears hplain
    exact ⟨_, hrun, handed_potential hhands hon hsession hmember hunknown hlive hpotential⟩
  · intro s p x hoperating hreach hon hsessions hover hplain
    exact exec_mkaHello hoperating hreach hon hsessions hover hplain
  · intro s p x hoperating hreach hon hsessions hover hrekey hserver hpeers
    exact exec_mkaHello_rekey hoperating hreach hon hsessions hover hrekey hserver hpeers
  · intro s p sci x hoperating hon hsessions hsilent hp hroom
    exact exec_mkaLifeTimeExpiry hoperating hon hsessions hsilent hp hroom
  · intro s p an key sci hoperating hon hmay
    exact exec_receiveKey hoperating hon hmay
  · intro s p an key sci hoperating _ hmay
    exact exec_keyPathWrite_refused hoperating hmay
  · intro s p an key sci hoperating hon hmay hlane hp han hroom
    exact exec_transmitKey hoperating hon hmay hlane hp han hroom
  · intro s p an key sci hoperating hon hmay hlane hp hring
    exact exec_laneKey hoperating hon hmay hlane hp hring
  · intro s p an key hoperating hpending hcycle hp han hroom
    exact exec_txSaSwitch hoperating hpending hcycle hp han hroom
  · intro s p hoperating hheld hover
    exact exec_sakHoldoverExpiry hoperating hheld hover

end Sys2Proof.Machine

/-! # Faults clear and are diagnosed (R354 to R360) -/

namespace Sys2Proof.Machine

theorem powered_run {s : State} (h : s.power.state = .active ∨ s.power.state = .idle) (e : Eff) : (powered e).run s = e.run s := by
  rw [powered, Eff.run_whenS, if_pos]
  rcases h with h | h
  · rw [h]
    rfl
  · rw [h]
    rfl

/-! ## An occurrence is on record -/

/-- An occurrence that makes nothing lasting puts its event on record, whatever little came before it. -/
theorem records_of_fault {s u : State} {cls inst source arg n : Nat} (hquiet : s.hasRaised u []) (hstays : u.staysAsItIs cls inst = true)
    (hroom : s.room n) (hn : 2 ≤ n) (hsource : source < 1024) (harg : arg < 2147483648) :
    s.records (flushEvents.run ((faultEvent cls inst source arg).run u)) source arg := by
  obtain ⟨sev, extra, hlength, hraised⟩ := faultEvent_hasRaised hstays source arg
  exact (hquiet.quiet_trans hraised).records hroom (by rw [List.length_cons]; omega) ⟨_, List.mem_cons_self, rfl, rfl⟩ hsource harg

/-- The mask of an occurrence that makes nothing lasting. -/
def notedMask : Mask := ⟨0x21000480, 0x1e0000000000000000000000000000000000000000000000000, 0x3100000000000000000000000000000⟩

/-- It leaves what its mask leaves. -/
theorem faultEvent_run_within {s : State} {cls inst : Nat} (h : s.staysAsItIs cls inst = true) (source arg : Nat) :
    ∃ e : Eff, e.Within tables notedMask ∧ (faultEvent cls inst source arg).run s = e.run s :=
  ⟨_, faultNoted_within, faultEvent_run_of_stays h source arg⟩

/-- The class configuration on which an occurrence rests is read from one object. -/
theorem staysAsItIs_setObj {idx : Nat} (h : idx ≠ 0xB000) (sub : Nat) (v : Int) (row : Nat) (s : State) (cls inst : Nat) :
    ((setObj idx sub v row).run s).staysAsItIs cls inst = s.staysAsItIs cls inst := by
  refine staysAsItIs_congr (s := s) (t := (setObj idx sub v row).run s) rfl rfl (fun row' sub' => ?_) cls inst
  rw [setObj, Eff.run_upd, key_obj, if_neg]
  intro heq
  cases heq
  exact h rfl

theorem setObj_run_obj (idx sub : Nat) (v : Int) (row : Nat) (s : State) : ((setObj idx sub v row).run s).obj idx sub row = v := by
  rw [State.obj, setObj, Eff.run_upd, key_obj, if_pos rfl]

/-- An object is left by a write of another. -/
theorem setObj_run_other {idx sub row idx' sub' row' : Nat} (h : (idx, sub, row) ≠ (idx', sub', row')) (v : Int) (s : State) :
    ((setObj idx' sub' v row').run s).obj idx sub row = s.obj idx sub row := by
  rw [State.obj, setObj, Eff.run_upd, key_obj, if_neg, State.obj]
  intro heq
  cases heq
  exact h rfl

/-! ## What lasts is cleared -/

/-- A fault is no longer lasting, one less of its class is, and event 898 is raised. -/
def cleared (cls inst : Nat) : Eff :=
  .look fun s => .all [.upd (.faultInstance (faultKey cls inst) fun i => { i with lasting := false, buckets := [], clearFrom := 0 }),
    setN 0xB001 2 (s.n 0xB001 2 cls - 1) cls, raiseSev 3 898 (faultArg cls inst)]

theorem cleared_run (cls inst : Nat) (s : State) : let t := (cleared cls inst).run s
    (t.faults.instances.getD (faultKey cls inst) FaultInstance.init).lasting = false ∧ t.n 0xB001 2 cls = s.n 0xB001 2 cls - 1 ∧
      s.hasRaised t [⟨3, 898, 0, faultArg cls inst, none⟩] := by
  refine ⟨?_, ?_, ⟨rfl, rfl, rfl⟩⟩
  · exact congrArg FaultInstance.lasting (PMap.getD_set_same _ _ _ _)
  · exact setN_run_n 0xB001 2 _ cls _

/-- The FAULT pin raises at most the event of its change. -/
theorem updateFaultPin_hasRaised (s : State) : ∃ l, s.hasRaised (updateFaultPin.run s) l ∧ l.length ≤ 1 := by
  rw [updateFaultPin, Eff.run_look, Eff.run_when]
  split
  · exact ⟨_, ⟨rfl, rfl, rfl⟩, Nat.le_refl _⟩
  · exact ⟨[], .refl s, Nat.zero_le _⟩

theorem faultArg_lt (cls inst : Nat) : faultArg cls inst < 2147483648 := by
  rw [faultArg]
  omega

theorem exec_faultBucketBoundary {s : State} {cls inst : Nat} (hpowered : s.power.state = .active ∨ s.power.state = .idle)
    (hclearable : s.clearable cls = [inst]) (hroom : s.room 2) :
    ∃ t, exec (.faultBucketBoundary cls) s = .next t ∧
      (t.faults.instances.getD (faultKey cls inst) FaultInstance.init).lasting = false ∧ t.n 0xB001 2 cls = s.n 0xB001 2 cls - 1 ∧
      s.records t 898 (faultArg cls inst) := by
  refine ⟨_, rfl, ?_⟩
  obtain ⟨hlasting, hcount, hraised⟩ := cleared_run cls inst s
  have hrun : ∃ c, (bucketBoundary cls).run s = (Eff.when c (.upd (.faults fun f => { f with
      listenOnlyPorts := f.listenOnlyPorts.erase inst }))).run (updateFaultPin.run ((cleared cls inst).run s)) := by
    rw [bucketBoundary, Eff.run_look, hclearable]
    exact ⟨_, rfl⟩
  obtain ⟨c, hrun⟩ := hrun
  have hpin := updateFaultPin_within (Mask.Le.refl _)
  obtain ⟨l, hpinned, hlength⟩ := updateFaultPin_hasRaised ((cleared cls inst).run s)
  rw [Eff.run_seq, powered_run hpowered, hrun]
  generalize (cleared cls inst).run s = u at *
  have hlasting' : ((updateFaultPin.run u).faults.instances.getD (faultKey cls inst) FaultInstance.init).lasting = false := by
    rw [hpin.faults_run u rfl]
    exact hlasting
  have hcount' : (updateFaultPin.run u).n 0xB001 2 cls = s.n 0xB001 2 cls - 1 := by
    rw [hpin.n_run u (by decide +kernel)]
    exact hcount
  generalize updateFaultPin.run u = v at *
  have hkept : ∃ w, (Eff.when c (.upd (.faults fun f => { f with listenOnlyPorts := f.listenOnlyPorts.erase inst }))).run v = w ∧
      w.faults.instances = v.faults.instances ∧ w.od = v.od ∧ w.events = v.events := by
    cases c
    · exact ⟨_, rfl, rfl, rfl, rfl⟩
    · exact ⟨_, rfl, rfl, rfl, rfl⟩
  obtain ⟨w, hw, hinstances, hod, hevents⟩ := hkept
  rw [hw, flush_within.faults_run w rfl, hinstances, flush_n]
  refine ⟨hlasting', ?_, ((hraised.trans hpinned).trans_quiet (.of_events_eq hevents)).records hroom ?_ ⟨_, List.mem_cons_self, rfl, rfl⟩
    (by decide) (faultArg_lt cls inst)⟩
  · rw [← hcount']
    simp only [State.n, State.obj, State.key, hod]
  · rw [List.length_append]
    exact Nat.add_le_add_left hlength 1

/-! ## Polarity and TDR -/

theorem exec_polarity {s : State} {p : Nat} (hoperating : s.operating = true) (hport : isPort p = true) (hbb : isBB p = false)
    (hauto : s.on 0xB040 2 p = true) (hstays : s.staysAsItIs 7 p = true) (hroom : s.room 2) :
    ∃ t, exec (.polarityCorrected p) s = .next t ∧ t.on 0xB041 6 p = !s.on 0xB041 6 p ∧
      t.counter (portItem p 30) = (s.counter (portItem p 30) + 1) % 18446744073709551616 ∧ s.records t 904 p := by
  refine ⟨_, rfl, ?_⟩
  have hlow : p < 256 := of_decide_eq_true hport
  have hnoted : ∃ u, (count (portItem p 30)).run ((setB 0xB041 6 (!s.on 0xB041 6 p) p).run s) = u ∧
      u.on 0xB041 6 p = !s.on 0xB041 6 p ∧ u.counter (portItem p 30) = (s.counter (portItem p 30) + 1) % 18446744073709551616 ∧
      u.staysAsItIs 7 p = true ∧ u.events = s.events := by
    refine ⟨_, rfl, ?_, counter_count_same _ _ 1, ?_, rfl⟩
    · rw [State.on]
      have hset : ((count (portItem p 30)).run ((setB 0xB041 6 (!s.on 0xB041 6 p) p).run s)).obj 0xB041 6 p =
          if (!s.on 0xB041 6 p) then 1 else 0 := setObj_run_obj _ _ _ _ _
      rw [hset]
      cases s.on 0xB041 6 p
      · rfl
      · rfl
    · exact (staysAsItIs_setObj (by decide) 6 _ p s 7 p).trans hstays
  obtain ⟨u, hu, hon, hcount, hstays', hevents⟩ := hnoted
  have hrun : (polarity p).run s = (faultEvent 7 p 904 p).run u := by
    rw [polarity, Eff.run_look, hport, hbb, hauto, ← hu]
    rfl
  have hrecord := records_of_fault (source := 904) (arg := p) (.of_events_eq hevents) hstays' hroom (Nat.le_refl _) (by decide) (by omega)
  obtain ⟨e, he, hfault⟩ := faultEvent_run_within hstays' 904 p
  rw [operating_exec hoperating, hrun]
  refine ⟨?_, ?_, hrecord⟩
  · have hfree : freeObj tables notedMask (objClass 0xB041) 6 = true := by decide +kernel
    have hkept : (e.run u).obj 0xB041 6 p = u.obj 0xB041 6 p := he.keeps_class u ⟨0xB041, p, 6⟩ rfl hfree
    rw [flush_on, hfault, State.on, hkept]
    exact hon
  · rw [flush_portItem, hfault, he.keeps_portItem u p (by decide +kernel), hcount]

theorem exec_polarity_reported {s : State} {p : Nat} (hoperating : s.operating = true) (hport : isPort p = true) (hbb : isBB p = false)
    (hmanual : s.on 0xB040 2 p = false) (hroom : s.room 1) :
    ∃ t, exec (.polarityCorrected p) s = .next t ∧ t.od = s.od ∧ s.records t 904 p := by
  refine ⟨_, rfl, ?_⟩
  have hlow : p < 256 := of_decide_eq_true hport
  have hrun : (polarity p).run s = (raise 904 p).run s := by
    rw [polarity, Eff.run_look, hport, hbb, hmanual]
    rfl
  rw [operating_exec hoperating, hrun, flush_od]
  exact ⟨rfl, (raise_hasRaised 904 p s).records hroom (Nat.le_refl _) ⟨_, List.mem_singleton_self _, rfl, rfl⟩ (by decide) (by omega)⟩

/-- The argument of event 905. -/
def tdrArg (p kind distance : Nat) : Nat := p % 1024 + 1024 * (kind % 256) + 262144 * (distance % 8192)

theorem tdrArg_eq {p kind : Nat} (hp : p < 384) (hkind : kind < 256) (distance : Nat) :
    (p + 1024 * kind + 262144 * (distance % 8192)) % 2147483648 = tdrArg p kind distance ∧ tdrArg p kind distance < 2147483648 := by
  rw [tdrArg]
  omega

/-- The result of a TDR. -/
def tdrResult (p kind distance now : Nat) : Eff :=
  .all [.upd (.faults fun f => { f with tdr := none }), setN 0xB051 1 (kind % 256) p, setN 0xB051 2 (distance % 65536) p, setN 0xB051 3 now p]

theorem tdrEnds_run {s : State} {p : Nat} (htdr : s.faults.tdr = some p) (hcool : s.power.throttled = false) (kind distance : Nat) :
    (tdrEnds kind distance).run s = (raise 905 (tdrArg p kind distance)).run ((tdrResult p kind distance s.now).run s) := by
  have hends : (if s.power.throttled then none else s.faults.tdr) = some p := by
    rw [hcool, htdr]
    rfl
  unfold tdrEnds
  rw [Eff.run_look, hends]
  dsimp only
  rw [tdrArg, tdrResult, Eff.run_all_cons, Eff.run_all_cons, Eff.run_all_cons, Eff.run_all_cons, Eff.run_all_cons, Eff.run_all_nil,
    Eff.run_all_cons, Eff.run_all_cons, Eff.run_all_cons, Eff.run_all_cons, Eff.run_all_nil]

theorem tdrResult_run {kind distance : Nat} (hkind : kind < 256) (hdistance : distance < 65536) (p now : Nat) (s : State) :
    let t := (tdrResult p kind distance now).run s
    t.faults.tdr = none ∧ t.n 0xB051 1 p = kind ∧ t.n 0xB051 2 p = distance ∧ t.n 0xB051 3 p = now ∧ t.events = s.events := by
  rw [tdrResult, Nat.mod_eq_of_lt hkind, Nat.mod_eq_of_lt hdistance]
  simp only [Eff.run_all_cons, Eff.run_all_nil]
  refine ⟨rfl, ?_, ?_, setN_run_n _ _ _ _ _, rfl⟩
  · rw [State.n, setN, setObj_run_other (by simp), setN, setObj_run_other (by simp), ← State.n, setN_run_n]
  · rw [State.n, setN, setObj_run_other (by simp), ← State.n, setN_run_n]

theorem exec_tdrComplete {s : State} {p kind distance : Nat} (hoperating : s.operating = true) (hp : p < 384) (hkind : kind < 256)
    (hdistance : distance < 65536) (htdr : s.faults.tdr = some p) (hcool : s.power.throttled = false) (hroom : s.room 1) :
    ∃ t, exec (.tdrComplete kind distance) s = .next t ∧ t.faults.tdr = none ∧ t.n 0xB051 1 p = kind ∧ t.n 0xB051 2 p = distance ∧
      t.n 0xB051 3 p = s.now ∧ s.records t 905 ((p + 1024 * kind + 262144 * (distance % 8192)) % 2147483648) := by
  refine ⟨_, rfl, ?_⟩
  obtain ⟨htdr', hkind', hdistance', hwhen, hevents⟩ := tdrResult_run hkind hdistance p s.now s
  obtain ⟨harg, hsmall⟩ := tdrArg_eq hp hkind distance
  have hraise := raise_within (Mask.Le.refl _) (source := 905) (arg := tdrArg p kind distance)
  have hraised := (State.hasRaised.of_events_eq hevents).quiet_trans (raise_hasRaised 905 (tdrArg p kind distance) _)
  have hrecord := hraised.records (source := 905) hroom (Nat.le_refl _) ⟨_, List.mem_singleton_self _, rfl, rfl⟩ (by decide) hsmall
  rw [operating_exec hoperating, tdrEnds_run htdr hcool, harg]
  generalize (tdrResult p kind distance s.now).run s = u at *
  rw [flush_within.faults_run _ rfl, flush_n, flush_n, flush_n, hraise.faults_run u rfl,
    hraise.n_run u (by decide +kernel), hraise.n_run u (by decide +kernel), hraise.n_run u (by decide +kernel)]
  exact ⟨htdr', hkind', hdistance', hwhen, hrecord⟩

/-! ## Memory errors -/

theorem Eff.Within.keeps_groveItem {m : Mask} {e : Eff} (he : e.Within tables m) (s : State) (g : Nat) {i : Nat}
    (h : freeCtr tables m (200 + i % 64) = true) : (e.run s).counter (groveItem g i) = s.counter (groveItem g i) :=
  he.keeps_ctr s (counterClass_groveItem g i) h

/-- The counters of corrected errors of a grove are none that an occurrence counts. -/
theorem freeCtr_corrected (m : Nat) : freeCtr tables notedMask (200 + (24 + m % 4) % 64) = true := by
  have hcases : m % 4 = 0 ∨ m % 4 = 1 ∨ m % 4 = 2 ∨ m % 4 = 3 := by omega
  rcases hcases with h | h | h | h
  · rw [h]
    decide +kernel
  · rw [h]
    decide +kernel
  · rw [h]
    decide +kernel
  · rw [h]
    decide +kernel

theorem staysAsItIs_of_same {s u : State} {cls inst : Nat} (h : s.staysAsItIs cls inst = true) (hfaults : u.faults = s.faults)
    (hclock : u.clock = s.clock) (hod : u.od = s.od) : u.staysAsItIs cls inst = true := by
  rw [← h]
  exact staysAsItIs_congr hfaults hclock (fun row sub => by rw [State.key, hod]; rfl) cls inst

/-- A fault of the twin function raises at most the event of a change of the twin's state. -/
theorem twinFunctionFails_hasRaised (s : State) : ∃ l, s.hasRaised (twinFunctionFails.run s) l ∧ l.length ≤ 1 := by
  have hstate (u : State) : ∃ l, u.hasRaised ((setTwinState twFailed).run u) l ∧ l.length ≤ 1 := by
    rw [setTwinState, Eff.run_whenS]
    split
    · exact ⟨_, ⟨rfl, rfl, rfl⟩, Nat.le_refl _⟩
    · exact ⟨[], .refl u, Nat.zero_le _⟩
  have hfails (u : State) : ∃ l, u.hasRaised (failOver.run u) l ∧ l.length ≤ 1 := by
    rw [failOver, Eff.run_look]
    split
    · exact ⟨[], .refl u, Nat.zero_le _⟩
    · split
      · exact ⟨[], .of_events_eq rfl, Nat.zero_le _⟩
      · exact hstate u
  rw [twinFunctionFails, Eff.run_whenS]
  split
  · rw [withFree, Eff.run_look, Eff.run_seq, Eff.run_when]
    split
    · obtain ⟨l, hraised, hlength⟩ := hfails ((Eff.upd .useFree).run s)
      have hfree : s.hasRaised ((Eff.upd .useFree).run s) [] := .of_events_eq rfl
      exact ⟨l, hfree.quiet_trans hraised, hlength⟩
    · exact ⟨[], .of_events_eq rfl, Nat.zero_le _⟩
  · exact ⟨[], .refl s, Nat.zero_le _⟩

section Memory

variable {s : State} (hpowered : s.power.state = .active ∨ s.power.state = .idle) (hroom : s.room 2)

include hpowered hroom

theorem exec_groveCorrected {g : Nat} (m : Nat) (hg : g < 8) (hstays : s.staysAsItIs 14 g = true) :
    ∃ t, exec (.memoryError (.grove g m) true) s = .next t ∧
      t.counter (groveItem g (24 + m % 4)) = (s.counter (groveItem g (24 + m % 4)) + 1) % 18446744073709551616 ∧
      t.canopy.scrubCorrected = s.canopy.scrubCorrected + 1 ∧ s.records t (386 + 8 * g) (m % 256) := by
  refine ⟨_, rfl, ?_⟩
  have hnoted : ∃ u, corrected.run ((count (groveItem g (24 + m % 4))).run s) = u ∧
      u.counter (groveItem g (24 + m % 4)) = (s.counter (groveItem g (24 + m % 4)) + 1) % 18446744073709551616 ∧
      u.canopy.scrubCorrected = s.canopy.scrubCorrected + 1 ∧ u.staysAsItIs 14 g = true ∧ u.events = s.events :=
    ⟨_, rfl, counter_count_same s _ 1, rfl, staysAsItIs_of_same hstays rfl rfl rfl, rfl⟩
  obtain ⟨u, hu, hcount, hcanopy, hstays', hevents⟩ := hnoted
  have hrun : (memoryFails (.grove g m) true).run s = (faultEvent 14 g (386 + 8 * g) (m % 256)).run u := by
    have hsource : 384 + 8 * g + 2 = 386 + 8 * g := by omega
    rw [memoryFails, decide_eq_true hg, Eff.run_when_true, if_pos rfl, hsource, ← hu]
    rfl
  obtain ⟨e, he, hfault⟩ := faultEvent_run_within hstays' (386 + 8 * g) (m % 256)
  have hrecord := records_of_fault (source := 386 + 8 * g) (arg := m % 256) (.of_events_eq hevents) hstays' hroom (Nat.le_refl _)
    (by omega) (by omega)
  rw [Eff.run_seq, powered_run hpowered, hrun]
  refine ⟨?_, ?_, hrecord⟩
  · rw [flush_groveItem, hfault, he.keeps_groveItem u g (freeCtr_corrected m), hcount]
  · rw [flush_within.canopy_run _ rfl, hfault, he.canopy_run u rfl, hcanopy]

theorem exec_groveUncorrectable {g : Nat} (m : Nat) (hg : g < 8) (hstays : s.staysAsItIs 15 g = true) :
    ∃ t, exec (.memoryError (.grove g m) false) s = .next t ∧
      t.counter (groveItem g 28) = (s.counter (groveItem g 28) + 1) % 18446744073709551616 ∧ s.records t (387 + 8 * g) (m % 256) := by
  refine ⟨_, rfl, ?_⟩
  have hnoted : ∃ u, (count (groveItem g 28)).run s = u ∧ u.counter (groveItem g 28) = (s.counter (groveItem g 28) + 1) % 18446744073709551616 ∧
      u.staysAsItIs 15 g = true ∧ u.events = s.events :=
    ⟨_, rfl, counter_count_same s _ 1, staysAsItIs_of_same hstays rfl rfl rfl, rfl⟩
  obtain ⟨u, hu, hcount, hstays', hevents⟩ := hnoted
  have hrun : (memoryFails (.grove g m) false).run s = (faultEvent 15 g (387 + 8 * g) (m % 256)).run u := by
    have hsource : 384 + 8 * g + 3 = 387 + 8 * g := by omega
    rw [memoryFails, decide_eq_true hg, Eff.run_when_true, if_neg (by decide), hsource, ← hu]
    rfl
  obtain ⟨e, he, hfault⟩ := faultEvent_run_within hstays' (387 + 8 * g) (m % 256)
  have hrecord := records_of_fault (source := 387 + 8 * g) (arg := m % 256) (.of_events_eq hevents) hstays' hroom (Nat.le_refl _)
    (by omega) (by omega)
  rw [Eff.run_seq, powered_run hpowered, hrun]
  refine ⟨?_, hrecord⟩
  rw [flush_groveItem, hfault, he.keeps_groveItem u g (by decide +kernel), hcount]

theorem exec_commonsCorrected (m : Nat) (hstays : s.staysAsItIs 14 8 = true) :
    ∃ t, exec (.memoryError (.commons m) true) s = .next t ∧ t.canopy.scrubCorrected = s.canopy.scrubCorrected + 1 ∧
      s.records t 916 (m % 256) := by
  refine ⟨_, rfl, ?_⟩
  have hnoted : ∃ u, corrected.run s = u ∧ u.canopy.scrubCorrected = s.canopy.scrubCorrected + 1 ∧ u.staysAsItIs 14 8 = true ∧
      u.events = s.events := ⟨_, rfl, rfl, staysAsItIs_of_same hstays rfl rfl rfl, rfl⟩
  obtain ⟨u, hu, hcanopy, hstays', hevents⟩ := hnoted
  have hrun : (memoryFails (.commons m) true).run s = (faultEvent 14 8 916 (m % 256)).run u := by
    rw [memoryFails, if_pos rfl, Eff.run_seq, hu]
  obtain ⟨e, he, hfault⟩ := faultEvent_run_within hstays' 916 (m % 256)
  have hrecord := records_of_fault (source := 916) (arg := m % 256) (.of_events_eq hevents) hstays' hroom (Nat.le_refl _)
    (by decide) (by omega)
  rw [Eff.run_seq, powered_run hpowered, hrun]
  refine ⟨?_, hrecord⟩
  rw [flush_within.canopy_run _ rfl, hfault, he.canopy_run u rfl, hcanopy]

theorem exec_commonsUncorrectable (m : Nat) (hstays : s.staysAsItIs 15 8 = true) :
    ∃ t, exec (.memoryError (.commons m) false) s = .next t ∧ s.records t 918 (m % 256) := by
  refine ⟨_, rfl, ?_⟩
  obtain ⟨sev, extra, hlength, hraised⟩ := faultEvent_hasRaised hstays 918 (m % 256)
  obtain ⟨l, hfails, hfew⟩ := twinFunctionFails_hasRaised ((faultEvent 15 8 918 (m % 256)).run s)
  rw [Eff.run_seq, powered_run hpowered, memoryFails, if_neg (by decide), Eff.run_seq]
  have htotal : ((⟨sev, 918, 0, m % 256, none⟩ :: extra) ++ l).length ≤ 3 := by
    rw [List.length_append, List.length_cons]
    omega
  exact (hraised.trans hfails).records_spare hroom (by omega) (by omega) ⟨_, List.mem_cons_self, rfl, rfl⟩ (by decide) (by omega)

end Memory

end Sys2Proof.Machine

/-! # MDI samples (R358) -/

namespace Sys2Proof.Machine

/-! ## A condition that neither comes nor goes -/

theorem mdiSet_run_mdi (p : Nat) (f : MdiMonitor → MdiMonitor) (s : State) : ((mdiSet p f).run s).mdi p = f (s.mdi p) :=
  PMap.getD_set_same _ _ _ _

theorem mdiSet_run_now (p : Nat) (f : MdiMonitor → MdiMonitor) (s : State) : ((mdiSet p f).run s).now = s.now := rfl

theorem setN_run_now (idx sub v row : Nat) (s : State) : ((setN idx sub v row).run s).now = s.now := rfl

/-- What idle conditions leave: all but the counts of their own samples. -/
structure State.sampled (s t : State) (p : Nat) (l : List Nat) : Prop where
  declared : (t.mdi p).declared = (s.mdi p).declared
  meet : ∀ d, 1 ≤ d → d ∉ l → (t.mdi p).meet.getD (d - 1) 0 = (s.mdi p).meet.getD (d - 1) 0
  miss : ∀ d, 1 ≤ d → d ∉ l → (t.mdi p).miss.getD (d - 1) 0 = (s.mdi p).miss.getD (d - 1) 0
  od : t.od = s.od
  clock : t.clock = s.clock
  events : t.events = s.events
  instances : t.faults.instances = s.faults.instances

theorem State.sampled.refl (s : State) (p : Nat) : s.sampled s p [] :=
  ⟨rfl, fun _ _ _ => rfl, fun _ _ _ => rfl, rfl, rfl, rfl, rfl⟩

theorem State.sampled.cons {s t u : State} {p c : Nat} {l : List Nat} (h : s.sampled t p [c]) (h' : t.sampled u p l) :
    s.sampled u p (c :: l) := by
  have hhead {d : Nat} (hd : d ∉ c :: l) : d ∉ [c] := fun hm => hd (List.mem_singleton.1 hm ▸ List.mem_cons_self)
  have htail {d : Nat} (hd : d ∉ c :: l) : d ∉ l := fun hm => hd (List.mem_cons_of_mem _ hm)
  exact ⟨h'.declared.trans h.declared, fun d hpos hd => (h'.meet d hpos (htail hd)).trans (h.meet d hpos (hhead hd)),
    fun d hpos hd => (h'.miss d hpos (htail hd)).trans (h.miss d hpos (hhead hd)),
    h'.od.trans h.od, h'.clock.trans h.clock, h'.events.trans h.events, h'.instances.trans h.instances⟩

/-- The counts of a condition's samples. -/
def mdiCounts (p c meet miss : Nat) : Eff :=
  mdiSet p fun x => { x with meet := x.meet.set (c - 1) (min 255 meet), miss := x.miss.set (c - 1) (min 255 miss) }

theorem getD_set_of_ne {l : List Nat} {c d v : Nat} (hc : 1 ≤ c) (hd : 1 ≤ d) (h : d ≠ c) :
    (l.set (c - 1) v).getD (d - 1) 0 = l.getD (d - 1) 0 := by
  rw [List.getD_eq_getElem?_getD, List.getD_eq_getElem?_getD, List.getElem?_set_ne (by omega)]

theorem mdiCounts_run {c : Nat} (hc : 1 ≤ c) (p meet miss : Nat) (s : State) : s.sampled ((mdiCounts p c meet miss).run s) p [c] := by
  have hmdi := mdiSet_run_mdi p (fun x => { x with meet := x.meet.set (c - 1) (min 255 meet), miss := x.miss.set (c - 1) (min 255 miss) }) s
  refine ⟨by rw [mdiCounts, hmdi], fun d hpos hd => ?_, fun d hpos hd => ?_, rfl, rfl, rfl, rfl⟩
  · rw [mdiCounts, hmdi]
    exact getD_set_of_ne hc hpos fun heq => hd (List.mem_singleton.2 heq)
  · rw [mdiCounts, hmdi]
    exact getD_set_of_ne hc hpos fun heq => hd (List.mem_singleton.2 heq)

/-- The samples in a row that met a condition, and those that missed it, with the one now taken. -/
def State.mdiMet (s : State) (p c : Nat) (met : Bool) : Nat := if met then (s.mdi p).meet.getD (c - 1) 0 + 1 else 0
def State.mdiMissed (s : State) (p c : Nat) (met : Bool) : Nat := if met then 0 else (s.mdi p).miss.getD (c - 1) 0 + 1

theorem mdiCondition_run (p c : Nat) (met : Bool) (s : State) : (mdiCondition p c met).run s =
    (if !(s.mdi p).declared.contains c && mdiSamples c ≤ s.mdiMet p c met then mdiDeclare p c
      else .when ((s.mdi p).declared.contains c && mdiClean ≤ s.mdiMissed p c met) (mdiClear p c)).run
        ((mdiCounts p c (s.mdiMet p c met) (s.mdiMissed p c met)).run s) := rfl

theorem mdiCondition_run_idle {s : State} {p c : Nat} (hc : 1 ≤ c) (hclear : c ∉ (s.mdi p).declared) :
    s.sampled ((mdiCondition p c false).run s) p [c] := by
  have hsamples : 0 < mdiSamples c := by
    rw [mdiSamples]
    split
    · decide
    · decide
  have hcontains : (s.mdi p).declared.contains c = false := by simpa using hclear
  have hnever : decide (mdiSamples c ≤ s.mdiMet p c false) = false := decide_eq_false (Nat.not_le_of_lt hsamples)
  rw [mdiCondition_run, hcontains, hnever, Bool.and_false, if_neg Bool.false_ne_true, Bool.false_and, Eff.run_when_false]
  exact mdiCounts_run hc p _ _ s

theorem mdiConditions_run_idle {p : Nat} {met : Nat → Bool} {l : List Nat} {s : State} (hl : ∀ d ∈ l, 1 ≤ d)
    (hmet : ∀ d ∈ l, met d = false) (hclear : ∀ d ∈ l, d ∉ (s.mdi p).declared) :
    s.sampled ((Eff.forEach l fun d => mdiCondition p d (met d)).run s) p l := by
  induction l generalizing s with
  | nil => exact .refl s p
  | cons c l ih =>
    rw [Eff.run_forEach_cons, hmet c List.mem_cons_self]
    have hfirst := mdiCondition_run_idle (hl c List.mem_cons_self) (hclear c List.mem_cons_self)
    refine hfirst.cons (ih (fun d hd => hl d (List.mem_cons_of_mem _ hd)) (fun d hd => hmet d (List.mem_cons_of_mem _ hd)) fun d hd => ?_)
    rw [hfirst.declared]
    exact hclear d (List.mem_cons_of_mem _ hd)

/-! ## A condition is declared -/

theorem setN_spares_monitors (idx sub v row : Nat) : (setN idx sub v row).Spares fun u => u.faults.mdi := fun _ => rfl

/-- An occurrence that makes nothing lasting leaves the monitors. -/
theorem faultEvent_run_monitors {s : State} {cls inst : Nat} (h : s.staysAsItIs cls inst = true) (source arg : Nat) :
    ((faultEvent cls inst source arg).run s).faults.mdi = s.faults.mdi := by
  have hlasting : (becomeLastingBy (fun _ _ _ => .skip) cls inst).Spares fun u => u.faults.mdi :=
    .look fun _ => .cons (fun _ => rfl) (.cons (fun _ => rfl) (.cons (fun _ => rfl) (.cons (fun _ => rfl) (.cons (fun _ => rfl)
      (.cons (.look fun _ => .when fun _ => rfl) (.cons .skip .nil))))))
  have hnoted : (faultNoted cls inst fun sev => raiseSev sev source arg).Spares fun u => u.faults.mdi :=
    .look fun _ => .cons (fun _ => rfl) (.cons (fun _ => rfl) (.cons (fun _ => rfl) (.cons (setN_spares_monitors _ _ _ _) (.cons (fun _ => rfl)
      (.cons (.when fun _ => rfl) (.cons (.when hlasting) .nil))))))
  rw [faultEvent_run_of_stays h]
  exact hnoted s

/-- A lane that fails raises at most the event of its loss. -/
theorem laneFails_hasRaised (lane : Nat) (s : State) : ∃ l, s.hasRaised ((laneFails lane).run s) l ∧ l.length ≤ 1 := by
  have hlock : s.hasRaised ((laneLock lane false).run s) [] :=
    .of_events_eq ((laneLock_within (Mask.Le.refl _)).events_run s rfl)
  have hlose (u : State) : ∃ l, u.hasRaised ((loseLane lane).run u) l ∧ l.length ≤ 1 := by
    rw [loseLane, Eff.run_look]
    dsimp only
    split
    · exact ⟨[], .refl u, Nat.zero_le _⟩
    · split
      · exact ⟨[], .of_events_eq rfl, Nat.zero_le _⟩
      · split
        · exact ⟨[], .of_events_eq rfl, Nat.zero_le _⟩
        · exact ⟨_, ⟨rfl, rfl, rfl⟩, Nat.le_refl 1⟩
  obtain ⟨l, hlost, hlength⟩ := hlose ((laneLock lane false).run s)
  rw [laneFails, Eff.run_seq]
  exact ⟨l, hlock.quiet_trans hlost, hlength⟩

/-- What a shorted port loses at once: its frame in progress, its link and what the link secures. -/
def mdiSilences (p : Nat) : Eff := .all [endTransmission p, linkDrops p, linkUnsecures p]

/-- The part of it that a port without a link runs. -/
def mdiSilencesDown (p : Nat) : Eff := .all [endTransmission p, laneFails p, linkUnsecures p]

theorem mdiSilencesDown_within {p : Nat} :
    (mdiSilencesDown p).Within tables ⟨0x2080aa80, 0x40000000000000, 0x1000000100000000000000000000000000000⟩ :=
  Within.cons (endTransmission_within ⟨rfl, rfl, rfl⟩) (Within.cons (laneFails_within ⟨rfl, rfl, rfl⟩)
    (Within.cons (linkUnsecures_within ⟨rfl, rfl, rfl⟩) Within.nil))

theorem mdiSilences_run {s : State} {p : Nat} (hdown : s.portOn p 1 1 = false) : (mdiSilences p).run s = (mdiSilencesDown p).run s := by
  have hended : ((endTransmission p).run s).portOn p 1 1 = false := by
    rw [← hdown, State.portOn, State.on, (endTransmission_within (Mask.Le.refl _)).keeps_port s (by decide +kernel)]
    rfl
  have hfailed : ((laneFails p).run ((endTransmission p).run s)).portOn p 1 1 = false := by
    rw [← hended, State.portOn, State.on, (laneFails_within (Mask.Le.refl _)).keeps_port _ (by decide +kernel)]
    rfl
  have hdrops : (linkDrops p).run ((endTransmission p).run s) = (laneFails p).run ((endTransmission p).run s) := by
    rw [linkDrops, Eff.run_seq, Eff.run_whenS, if_neg (by rw [hfailed]; exact Bool.false_ne_true)]
  simp only [mdiSilences, mdiSilencesDown, Eff.run_all_cons, Eff.run_all_nil, hdrops]

theorem mdiSilencesDown_hasRaised (p : Nat) (s : State) : ∃ l, s.hasRaised ((mdiSilencesDown p).run s) l ∧ l.length ≤ 1 := by
  obtain ⟨l, hfails, hlength⟩ := laneFails_hasRaised p ((endTransmission p).run s)
  refine ⟨l, ?_, hlength⟩
  have hended : s.hasRaised ((endTransmission p).run s) [] := .of_events_eq ((endTransmission_within (Mask.Le.refl _)).events_run s rfl)
  simp only [mdiSilencesDown, Eff.run_all_cons, Eff.run_all_nil]
  exact (hended.quiet_trans hfails).trans_quiet (.of_events_eq ((linkUnsecures_within (Mask.Le.refl _)).events_run _ rfl))

/-- What a sample shows is left by an occurrence and by what a short ends. -/
structure State.showsAs (s t : State) (p : Nat) : Prop where
  condition : t.n 0xB041 1 p = s.n 0xB041 1 p
  wireP : t.obj 0xB041 3 p = s.obj 0xB041 3 p
  wireN : t.obj 0xB041 4 p = s.obj 0xB041 4 p
  resistance : t.n 0xB041 5 p = s.n 0xB041 5 p

theorem State.showsAs.trans {s t u : State} {p : Nat} (h : s.showsAs t p) (h' : t.showsAs u p) : s.showsAs u p :=
  ⟨h'.condition.trans h.condition, h'.wireP.trans h.wireP, h'.wireN.trans h.wireN, h'.resistance.trans h.resistance⟩

theorem State.showsAs.of_within {e : Eff} {m : Mask} (he : e.Within tables m)
    (hfree : ([1, 3, 4, 5].all fun sub => freeObj tables m (objClass 0xB041) sub) = true) (s : State) (p : Nat) : s.showsAs (e.run s) p := by
  have hkept {sub : Nat} (hsub : sub ∈ [1, 3, 4, 5]) : (e.run s).obj 0xB041 sub p = s.obj 0xB041 sub p :=
    he.keeps_class s ⟨0xB041, p, sub⟩ rfl (List.all_eq_true.1 hfree sub hsub)
  exact ⟨congrArg Int.toNat (hkept (by decide)), hkept (by decide), hkept (by decide), congrArg Int.toNat (hkept (by decide))⟩

/-- A condition is marked declared, and shown with its time. -/
def mdiMarked (p c now : Nat) : Eff :=
  .all [mdiSet p fun m => { m with declared := c :: m.declared }, setN 0xB041 1 c p, setN 0xB041 2 now p]

theorem mdiMarked_run (p c now : Nat) (s : State) : let t := (mdiMarked p c now).run s
    (t.mdi p).declared = c :: (s.mdi p).declared ∧ t.n 0xB041 1 p = c ∧ t.obj 0xB041 3 p = s.obj 0xB041 3 p ∧
      t.obj 0xB041 4 p = s.obj 0xB041 4 p ∧ t.n 0xB041 5 p = s.n 0xB041 5 p ∧ t.events = s.events ∧
      t.faults.instances = s.faults.instances ∧ t.clock = s.clock ∧ t.portOn p 1 1 = s.portOn p 1 1 ∧
      ∀ row sub, t.key ⟨0xB000, row, sub⟩ = s.key ⟨0xB000, row, sub⟩ := by
  have hmdi := mdiSet_run_mdi p (fun m => { m with declared := c :: m.declared }) s
  have hmarked : (mdiMarked p c now).run s =
      (setN 0xB041 2 now p).run ((setN 0xB041 1 c p).run ((mdiSet p fun m => { m with declared := c :: m.declared }).run s)) := by
    simp only [mdiMarked, Eff.run_all_cons, Eff.run_all_nil]
  have hother {idx sub row : Nat} (h1 : (idx, sub, row) ≠ (0xB041, 1, p)) (h2 : (idx, sub, row) ≠ (0xB041, 2, p)) :
      ((mdiMarked p c now).run s).obj idx sub row = s.obj idx sub row := by
    rw [hmarked, setN, setObj_run_other h2, setN, setObj_run_other h1]
    rfl
  have hport : portIdx p 1 ≠ 0xB041 := by
    rw [portIdx]
    omega
  dsimp only
  refine ⟨congrArg MdiMonitor.declared hmdi, ?_, hother (by simp) (by simp), hother (by simp) (by simp), ?_, rfl, rfl, rfl, ?_, fun row sub => ?_⟩
  · rw [hmarked, setN, State.n, setObj_run_other (by simp), ← State.n, setN_run_n]
  · exact congrArg Int.toNat (hother (by simp) (by simp))
  · rw [State.portOn, State.on, hother (by simp [hport]) (by simp [hport])]
    rfl
  · exact hother (idx := 0xB000) (sub := sub) (row := row) (by simp) (by simp)

theorem mdiDeclare_run_marked (p c : Nat) (s : State) : (mdiDeclare p c).run s = (Eff.when (c != 4) (mdiSilences p)).run
    ((faultEvent (2 + c) p 902 (p % 1024 + 1024 * c)).run ((mdiMarked p c s.now).run s)) := by
  have hnow : ((setN 0xB041 1 c p).run ((mdiSet p fun m => { m with declared := c :: m.declared }).run s)).now = s.now :=
    (setN_run_now _ _ _ _ _).trans (mdiSet_run_now p _ s)
  unfold mdiDeclare
  rw [mdiMarked, ← mdiSilences, Eff.run_all_cons, Eff.run_all_cons, Eff.run_all_cons, Eff.run_look, hnow, Eff.run_all_cons, Eff.run_all_cons,
    Eff.run_all_nil, Eff.run_all_cons, Eff.run_all_cons, Eff.run_all_cons, Eff.run_all_nil]

/-- A condition that is declared where nothing lasts and the port has no link. -/
theorem mdiDeclare_run {s : State} {p c : Nat} (hstays : s.staysAsItIs (2 + c) p = true) (hdown : s.portOn p 1 1 = false) :
    ∃ t l, (mdiDeclare p c).run s = t ∧ (t.mdi p).declared = c :: (s.mdi p).declared ∧ t.n 0xB041 1 p = c ∧
      t.obj 0xB041 3 p = s.obj 0xB041 3 p ∧ t.obj 0xB041 4 p = s.obj 0xB041 4 p ∧ t.n 0xB041 5 p = s.n 0xB041 5 p ∧
      s.hasRaised t l ∧ l.length ≤ 3 ∧ ∃ x ∈ l, x.source = 902 ∧ x.arg = p % 1024 + 1024 * c := by
  obtain ⟨hdeclared, hcondition, hwireP, hwireN, hresistance, hevents, hinstances, hclock, hon, hkey⟩ := mdiMarked_run p c s.now s
  rw [mdiDeclare_run_marked]
  generalize (mdiMarked p c s.now).run s = u at *
  have hstays' : u.staysAsItIs (2 + c) p = true := by
    rw [← hstays]
    simp [State.staysAsItIs, State.bucketAt, State.now, State.n, State.obj, hinstances, hclock, hkey]
  obtain ⟨sev, extra, hlength, hraised⟩ := faultEvent_hasRaised hstays' 902 (p % 1024 + 1024 * c)
  obtain ⟨e, he, hfault⟩ := faultEvent_run_within hstays' 902 (p % 1024 + 1024 * c)
  have hmonitors := faultEvent_run_monitors hstays' 902 (p % 1024 + 1024 * c)
  have hshown : u.showsAs (e.run u) p := .of_within he (by decide +kernel) u p
  have hdown' : (e.run u).portOn p 1 1 = false := by
    rw [← hdown, ← hon, State.portOn, State.on, he.keeps_port u (by decide +kernel)]
    rfl
  rw [hfault] at hraised hmonitors ⊢
  generalize e.run u = v at *
  have hended : ∃ w l, (Eff.when (c != 4) (mdiSilences p)).run v = w ∧ w.faults.mdi = v.faults.mdi ∧ v.showsAs w p ∧
      v.hasRaised w l ∧ l.length ≤ 1 := by
    cases c != 4
    · rw [Eff.run_when_false]
      exact ⟨v, [], rfl, rfl, ⟨rfl, rfl, rfl, rfl⟩, .refl v, Nat.zero_le _⟩
    · obtain ⟨l, hsilent, hfew⟩ := mdiSilencesDown_hasRaised p v
      rw [Eff.run_when_true, mdiSilences_run hdown']
      exact ⟨_, l, rfl, congrArg Faults.mdi (mdiSilencesDown_within.faults_run v rfl), .of_within mdiSilencesDown_within (by decide +kernel) v p,
        hsilent, hfew⟩
  obtain ⟨w, l, hw, hmdi, hkept, hlast, hfew⟩ := hended
  have hshows := hshown.trans hkept
  refine ⟨w, _, hw, ?_, hshows.condition.trans hcondition, hshows.wireP.trans hwireP, hshows.wireN.trans hwireN,
    hshows.resistance.trans hresistance, (State.hasRaised.of_events_eq hevents).quiet_trans (hraised.trans hlast), ?_,
    ⟨_, List.mem_append_left _ List.mem_cons_self, rfl, rfl⟩⟩
  · rw [← hdeclared, State.mdi, hmdi, hmonitors]
    rfl
  · rw [List.length_append, List.length_cons]
    omega

/-- A condition is no longer declared. -/
def mdiUnset (p c : Nat) : Eff := mdiSet p fun m => { m with declared := m.declared.filter fun d => d != c }

theorem mdiUnset_run {s : State} {p c : Nat} (hdeclared : (s.mdi p).declared = [c]) : (((mdiUnset p c).run s).mdi p).declared = [] := by
  rw [mdiUnset, mdiSet_run_mdi]
  dsimp only
  rw [hdeclared, List.filter_cons_of_neg (by simp), List.filter_nil]

/-- No condition is shown. -/
def mdiShowsNone (p now : Nat) : Eff := .all [setN 0xB041 1 0 p, setN 0xB041 2 now p]

theorem mdiShowsNone_run (p now : Nat) (s : State) : let t := (mdiShowsNone p now).run s
    t.n 0xB041 1 p = 0 ∧ t.faults = s.faults ∧ t.events = s.events := by
  refine ⟨?_, rfl, rfl⟩
  rw [mdiShowsNone, Eff.run_all_cons, Eff.run_all_cons, Eff.run_all_nil, setN, State.n, setN, setObj_run_other (by simp), ← setN, ← State.n,
    setN_run_n]

theorem mdiClear_run_shown {s : State} {p : Nat} (hdeclared : (s.mdi p).declared = [4]) :
    (mdiClear p 4).run s = (raise 903 (p % 1024 + 1024 * 4)).run ((mdiShowsNone p s.now).run ((mdiUnset p 4).run s)) := by
  have hnow : ((mdiUnset p 4).run s).now = s.now := mdiSet_run_now p _ s
  have hnone := mdiUnset_run hdeclared
  unfold mdiClear
  rw [← mdiUnset, Eff.run_all_cons, Eff.run_all_cons, Eff.run_look, hnone, hnow, Eff.run_all_cons, bne_self_eq_false, Eff.run_all_cons,
    Eff.run_when_false, Eff.run_all_nil, mdiShowsNone, Eff.run_seq, Eff.run_all_cons, Eff.run_all_cons, Eff.run_all_nil]
  rfl

/-- A last declared bias condition clears. -/
theorem mdiClear_run {s : State} {p : Nat} (hdeclared : (s.mdi p).declared = [4]) :
    let t := (mdiClear p 4).run s
    (t.mdi p).declared = [] ∧ t.n 0xB041 1 p = 0 ∧ s.hasRaised t [⟨0, 903, 0, p % 1024 + 1024 * 4, none⟩] := by
  obtain ⟨hshown, hfaults, hevents⟩ := mdiShowsNone_run p s.now ((mdiUnset p 4).run s)
  have hnone := mdiUnset_run hdeclared
  have hquiet : s.hasRaised ((mdiUnset p 4).run s) [] := .of_events_eq rfl
  have hraise := raise_within (source := 903) (arg := p % 1024 + 1024 * 4) (Mask.Le.refl _)
  dsimp only
  rw [mdiClear_run_shown hdeclared]
  generalize (mdiUnset p 4).run s = u at *
  generalize (mdiShowsNone p s.now).run u = v at *
  refine ⟨?_, ?_, (hquiet.quiet_trans (.of_events_eq hevents)).quiet_trans (raise_hasRaised _ _ v)⟩
  · rw [← hnone, State.mdi, hraise.faults_run v rfl, hfaults]
    rfl
  · rw [hraise.n_run v (by decide +kernel), hshown]

/-! ## The sample -/

/-- What a sample shows. -/
def mdiShown (p : Nat) (wireP wireN : Int) (resistance : Nat) : Eff :=
  .all [setObj 0xB041 3 (clampInt (-32768) 32767 wireP) p, setObj 0xB041 4 (clampInt (-32768) 32767 wireN) p,
    setN 0xB041 5 (min 65535 resistance) p]

theorem mdiShown_run (p : Nat) (wireP wireN : Int) (resistance : Nat) (s : State) : let t := (mdiShown p wireP wireN resistance).run s
    t.obj 0xB041 3 p = clampInt (-32768) 32767 wireP ∧ t.obj 0xB041 4 p = clampInt (-32768) 32767 wireN ∧
      t.n 0xB041 5 p = min 65535 resistance ∧ t.mdi p = s.mdi p ∧ t.events = s.events ∧ t.faults = s.faults ∧ t.clock = s.clock ∧
      ∀ idx sub row, idx ≠ 0xB041 → t.obj idx sub row = s.obj idx sub row := by
  have hshown : (mdiShown p wireP wireN resistance).run s = (setN 0xB041 5 (min 65535 resistance) p).run
      ((setObj 0xB041 4 (clampInt (-32768) 32767 wireN) p).run ((setObj 0xB041 3 (clampInt (-32768) 32767 wireP) p).run s)) := by
    simp only [mdiShown, Eff.run_all_cons, Eff.run_all_nil]
  dsimp only
  refine ⟨?_, ?_, ?_, rfl, rfl, rfl, rfl, fun idx sub row hidx => ?_⟩
  · rw [hshown, setN, setObj_run_other (by simp), setObj_run_other (by simp), setObj_run_obj]
  · rw [hshown, setN, setObj_run_other (by simp), setObj_run_obj]
  · rw [hshown, setN_run_n]
  · rw [hshown, setN, setObj_run_other (by simp [hidx]), setObj_run_other (by simp [hidx]), setObj_run_other (by simp [hidx])]

/-- The conditions are judged where DiagEnable is 1. -/
theorem mdiSampled_run {s : State} {p : Nat} (hport : isPort p = true) (hbb : isBB p = false) (hon : s.on 0xB040 1 p = true)
    (wireP wireN : Int) (r cp cn : Nat) : (mdiSampled p wireP wireN r cp cn).run s =
      (Eff.forEach [1, 2, 3, 4] fun d => mdiCondition p d (mdiMeets d wireP wireN r cp cn)).run ((mdiShown p wireP wireN r).run s) := by
  have hshown : ((mdiShown p wireP wireN r).run s).on 0xB040 1 p = true := by
    obtain ⟨-, -, -, -, -, -, -, hother⟩ := mdiShown_run p wireP wireN r s
    rw [← hon, State.on, hother 0xB040 1 p (by decide)]
    rfl
  simp only [mdiShown, Eff.run_all_cons, Eff.run_all_nil] at hshown
  simp only [mdiSampled, mdiShown, hport, hbb, Bool.not_false, Bool.and_self, Eff.run_when_true, Eff.run_all_cons, Eff.run_all_nil,
    Eff.run_whenS, hshown, if_true]

/-- A condition met for long enough is declared. -/
theorem mdiCondition_run_declared {s : State} {p c : Nat} (hclear : (s.mdi p).declared = [])
    (hsamples : mdiSamples c ≤ (s.mdi p).meet.getD (c - 1) 0 + 1) :
    (mdiCondition p c true).run s = (mdiDeclare p c).run ((mdiCounts p c (s.mdiMet p c true) 0).run s) := by
  have hmet : decide (mdiSamples c ≤ s.mdiMet p c true) = true := decide_eq_true hsamples
  have hmissed : s.mdiMissed p c true = 0 := rfl
  rw [mdiCondition_run, hclear, List.contains_nil, Bool.not_false, hmet, Bool.and_self, if_pos rfl, hmissed]

/-- A declared condition missed for long enough clears. -/
theorem mdiCondition_run_cleared {s : State} {p c : Nat} (hset : (s.mdi p).declared = [c]) (hclean : 9 ≤ (s.mdi p).miss.getD (c - 1) 0) :
    (mdiCondition p c false).run s = (mdiClear p c).run ((mdiCounts p c 0 (s.mdiMissed p c false)).run s) := by
  have hmissed : decide (mdiClean ≤ s.mdiMissed p c false) = true := decide_eq_true (Nat.succ_le_succ hclean)
  have hmet : s.mdiMet p c false = 0 := rfl
  have hcontains : ((s.mdi p).declared.contains c) = true := by
    rw [hset]
    exact List.contains_iff_mem.2 (List.mem_singleton_self c)
  rw [mdiCondition_run, hcontains, Bool.not_true, Bool.false_and, if_neg Bool.false_ne_true, hmissed, Bool.and_self, Eff.run_when_true, hmet]

end Sys2Proof.Machine

/-! # What MDI samples, polarity, TDR and memory errors come to (R354 to R360) -/

namespace Sys2Proof.Machine

theorem State.sampled.obj {s t : State} {p : Nat} {l : List Nat} (h : s.sampled t p l) (idx sub row : Nat) : t.obj idx sub row = s.obj idx sub row := by
  simp only [State.obj, State.key, h.od]

theorem State.sampled.stays {s t : State} {p : Nat} {l : List Nat} (h : s.sampled t p l) (cls inst : Nat) :
    t.staysAsItIs cls inst = s.staysAsItIs cls inst := by
  simp [State.staysAsItIs, State.bucketAt, State.now, State.n, h.obj, h.instances, h.clock]

theorem mdiShown_stays (p : Nat) (wireP wireN : Int) (r : Nat) (s : State) (cls inst : Nat) :
    ((mdiShown p wireP wireN r).run s).staysAsItIs cls inst = s.staysAsItIs cls inst := by
  obtain ⟨-, -, -, -, -, hfaults, hclock, hother⟩ := mdiShown_run p wireP wireN r s
  exact staysAsItIs_congr hfaults hclock (fun row sub => hother 0xB000 sub row (by decide)) cls inst

/-- One of the four conditions stands between others. -/
theorem conditions_split {c : Nat} (hpos : 1 ≤ c) (hfour : c ≤ 4) : ∃ before after, [1, 2, 3, 4] = before ++ c :: after ∧
    (∀ d ∈ before, 1 ≤ d ∧ d ≠ c) ∧ ∀ d ∈ after, 1 ≤ d ∧ d ≠ c := by
  have hmem : c ∈ [1, 2, 3, 4] := by
    simp only [List.mem_cons, List.not_mem_nil, or_false]
    omega
  obtain ⟨before, after, hsplit⟩ := List.append_of_mem hmem
  have hall : ∀ d ∈ before ++ c :: after, 1 ≤ d := by
    rw [← hsplit]
    decide
  have hnodup : (before ++ c :: after).Nodup := by
    rw [← hsplit]
    decide
  obtain ⟨hnot, -⟩ := List.nodup_cons.1 (List.nodup_middle.1 hnodup)
  refine ⟨before, after, hsplit, fun d hd => ⟨hall d (List.mem_append_left _ hd), ?_⟩,
    fun d hd => ⟨hall d (List.mem_append_right _ (List.mem_cons_of_mem _ hd)), ?_⟩⟩
  · rintro rfl
    exact hnot (List.mem_append_left _ hd)
  · rintro rfl
    exact hnot (List.mem_append_right _ hd)

/-- The only condition met, for long enough, is declared. -/
theorem mdiConditions_run_declared {s : State} {p c : Nat} {met : Nat → Bool} (hpos : 1 ≤ c) (hfour : c ≤ 4)
    (hmet : ∀ d ∈ [1, 2, 3, 4], met d = decide (d = c)) (hclear : (s.mdi p).declared = [])
    (hsamples : mdiSamples c ≤ (s.mdi p).meet.getD (c - 1) 0 + 1) (hstays : s.staysAsItIs (2 + c) p = true) (hdown : s.portOn p 1 1 = false) :
    ∃ t l, (Eff.forEach [1, 2, 3, 4] fun d => mdiCondition p d (met d)).run s = t ∧ (t.mdi p).declared = [c] ∧ t.n 0xB041 1 p = c ∧
      t.obj 0xB041 3 p = s.obj 0xB041 3 p ∧ t.obj 0xB041 4 p = s.obj 0xB041 4 p ∧ t.n 0xB041 5 p = s.n 0xB041 5 p ∧
      s.hasRaised t l ∧ l.length ≤ 3 ∧ ∃ x ∈ l, x.source = 902 ∧ x.arg = p % 1024 + 1024 * c := by
  obtain ⟨before, after, hsplit, hbefore, hafter⟩ := conditions_split hpos hfour
  have hidle {d : Nat} (hd : d ∈ before ++ c :: after) (hne : d ≠ c) : met d = false := by
    rw [hmet d (hsplit ▸ hd)]
    exact decide_eq_false hne
  have hhit : met c = true := by
    rw [hmet c (hsplit ▸ List.mem_append_right _ List.mem_cons_self)]
    exact decide_eq_true rfl
  have hfirst := mdiConditions_run_idle (p := p) (met := met) (s := s) (fun d hd => (hbefore d hd).1)
    (fun d hd => hidle (List.mem_append_left _ hd) (hbefore d hd).2) fun d _ => by
      rw [hclear]
      exact List.not_mem_nil
  have hc : c ∉ before := fun hd => (hbefore c hd).2 rfl
  rw [hsplit, Eff.forEach_run_append, Eff.run_forEach_cons, hhit]
  generalize (Eff.forEach before fun d => mdiCondition p d (met d)).run s = u at *
  rw [mdiCondition_run_declared (hfirst.declared.trans hclear) ((hfirst.meet c hpos hc).symm ▸ hsamples)]
  have hcounts := mdiCounts_run hpos p (u.mdiMet p c true) 0 u
  generalize (mdiCounts p c (u.mdiMet p c true) 0).run u = v at *
  have hlevel (idx sub row : Nat) : v.obj idx sub row = s.obj idx sub row := (hcounts.obj idx sub row).trans (hfirst.obj idx sub row)
  have hquiet : s.hasRaised v [] := .of_events_eq (hcounts.events.trans hfirst.events)
  obtain ⟨w, l, hw, hdeclared, hcondition, hwireP, hwireN, hresistance, hraised, hlength, hmem⟩ := mdiDeclare_run (s := v) (p := p) (c := c)
    ((hcounts.stays _ _).trans ((hfirst.stays _ _).trans hstays)) (by rw [← hdown, State.portOn, State.on, hlevel]; rfl)
  have hmonitor : (w.mdi p).declared = [c] := by
    rw [hdeclared, hcounts.declared, hfirst.declared, hclear]
  have hlast := mdiConditions_run_idle (p := p) (met := met) (s := w) (fun d hd => (hafter d hd).1)
    (fun d hd => hidle (List.mem_append_right _ (List.mem_cons_of_mem _ hd)) (hafter d hd).2) fun d hd => by
      rw [hmonitor]
      exact fun hm => (hafter d hd).2 (List.mem_singleton.1 hm)
  rw [hw]
  refine ⟨_, l, rfl, hlast.declared.trans hmonitor, ?_, ?_, ?_, ?_, (hquiet.quiet_trans hraised).trans_quiet (.of_events_eq hlast.events),
    hlength, hmem⟩
  · rw [State.n, hlast.obj, ← State.n, hcondition]
  · rw [hlast.obj, hwireP, hlevel]
  · rw [hlast.obj, hwireN, hlevel]
  · rw [State.n, hlast.obj, ← State.n, hresistance, State.n, hlevel]
    rfl

theorem exec_mdiSample_declares {s : State} {p r cp cn c : Nat} {wireP wireN : Int} (hoperating : s.operating = true) (hport : isPort p = true)
    (hbb : isBB p = false) (hon : s.on 0xB040 1 p = true) (hpos : 1 ≤ c) (hfour : c ≤ 4)
    (hmet : [1, 2, 3, 4].map (fun d => mdiMeets d wireP wireN r cp cn) = [1, 2, 3, 4].map fun d => decide (d = c))
    (hclear : (s.mdi p).declared = []) (hsamples : mdiSamples c ≤ (s.mdi p).meet.getD (c - 1) 0 + 1) (hdown : s.portOn p 1 1 = false)
    (hstays : s.staysAsItIs (2 + c) p = true) (hroom : s.room 4) :
    ∃ t, exec (.mdiSample p wireP wireN r cp cn) s = .next t ∧ t.obj 0xB041 3 p = clampInt (-32768) 32767 wireP ∧
      t.obj 0xB041 4 p = clampInt (-32768) 32767 wireN ∧ t.n 0xB041 5 p = min 65535 r ∧ (t.mdi p).declared = [c] ∧ t.n 0xB041 1 p = c ∧
      s.records t 902 (p % 1024 + 1024 * c) := by
  refine ⟨_, rfl, ?_⟩
  obtain ⟨hwireP, hwireN, hresistance, hmonitor, hevents, -, -, hother⟩ := mdiShown_run p wireP wireN r s
  have hstays' := (mdiShown_stays p wireP wireN r s (2 + c) p).trans hstays
  have hport1 : portIdx p 1 ≠ 0xB041 := by
    rw [portIdx]
    omega
  rw [operating_exec hoperating, mdiSampled_run hport hbb hon]
  generalize (mdiShown p wireP wireN r).run s = u at *
  obtain ⟨t, l, ht, hdeclared, hcondition, hwireP', hwireN', hresistance', hraised, hlength, hmem⟩ :=
    mdiConditions_run_declared (s := u) (p := p) (met := fun d => mdiMeets d wireP wireN r cp cn) hpos hfour (List.map_inj_left.1 hmet)
      (by rw [hmonitor, hclear]) (by rw [hmonitor]; exact hsamples) hstays'
      (by rw [← hdown, State.portOn, State.on, hother _ _ _ hport1]; rfl)
  rw [ht, flush_obj, flush_obj, flush_n, flush_n, State.mdi, flush_within.faults_run t rfl, ← State.mdi]
  exact ⟨hwireP'.trans hwireP, hwireN'.trans hwireN, hresistance'.trans hresistance, hdeclared, hcondition,
    ((State.hasRaised.of_events_eq hevents).quiet_trans hraised).records hroom (by omega) hmem (by decide) (by omega)⟩

theorem exec_mdiSample_clears {s : State} {p r cp cn : Nat} {wireP wireN : Int} (hoperating : s.operating = true) (hport : isPort p = true)
    (hbb : isBB p = false) (hon : s.on 0xB040 1 p = true)
    (hmet : ([1, 2, 3, 4].any fun d => mdiMeets d wireP wireN r cp cn) = false) (hset : (s.mdi p).declared = [4])
    (hclean : 9 ≤ (s.mdi p).miss.getD 3 0) (hroom : s.room 1) :
    ∃ t, exec (.mdiSample p wireP wireN r cp cn) s = .next t ∧ (t.mdi p).declared = [] ∧ t.n 0xB041 1 p = 0 ∧
      s.records t 903 (p % 1024 + 1024 * 4) := by
  refine ⟨_, rfl, ?_⟩
  obtain ⟨-, -, -, hmonitor, hevents, -, -, -⟩ := mdiShown_run p wireP wireN r s
  have hidle : ∀ d ∈ [1, 2, 3, 4], mdiMeets d wireP wireN r cp cn = false := fun d hd => by
    simpa using List.any_eq_false.1 hmet d hd
  rw [operating_exec hoperating, mdiSampled_run hport hbb hon]
  generalize (mdiShown p wireP wireN r).run s = u at *
  have hfirst := mdiConditions_run_idle (p := p) (met := fun d => mdiMeets d wireP wireN r cp cn) (l := [1, 2, 3]) (s := u) (by decide)
    (fun d hd => hidle d (List.mem_append_left [4] hd)) (by rw [hmonitor, hset]; decide)
  have hsplit : [1, 2, 3, 4] = [1, 2, 3] ++ [4] := rfl
  rw [hsplit, Eff.forEach_run_append, Eff.run_forEach_cons, Eff.run_forEach_nil, hidle 4 (by decide)]
  generalize (Eff.forEach [1, 2, 3] fun d => mdiCondition p d (mdiMeets d wireP wireN r cp cn)).run u = v at *
  have hmiss : 9 ≤ (v.mdi p).miss.getD (4 - 1) 0 := by
    rw [hfirst.miss 4 (by decide) (by decide), hmonitor]
    exact hclean
  have hdeclared : (v.mdi p).declared = [4] := by
    rw [hfirst.declared, hmonitor, hset]
  have hcounts := mdiCounts_run (c := 4) (by decide) p 0 (v.mdiMissed p 4 false) v
  rw [mdiCondition_run_cleared hdeclared hmiss]
  generalize (mdiCounts p 4 0 (v.mdiMissed p 4 false)).run v = w at *
  obtain ⟨hnone, hcondition, hraised⟩ := mdiClear_run (s := w) (hcounts.declared.trans hdeclared)
  have hquiet : s.hasRaised w [] := .of_events_eq (hcounts.events.trans (hfirst.events.trans hevents))
  rw [flush_n, State.mdi, flush_within.faults_run _ rfl, ← State.mdi]
  exact ⟨hnone, hcondition, (hquiet.quiet_trans hraised).records hroom (Nat.le_refl _) ⟨_, List.mem_singleton_self _, rfl, rfl⟩ (by decide)
    (by omega)⟩

/-- Settles O55: a bucket boundary clears, an MDI sample declares or clears, and polarity, TDR and memory errors are noted and reported. -/
theorem faultsClearAndDiagnose : Obligations.FaultsClearAndDiagnose := by
  unfold Obligations.FaultsClearAndDiagnose
  refine ⟨fun s cls inst hpowered hclearable hroom => exec_faultBucketBoundary hpowered hclearable hroom,
    fun s p wireP wireN r cp cn c hoperating hport hbb hon hpos hfour hmet hclear hsamples hdown _ hstays hroom =>
      exec_mdiSample_declares hoperating hport hbb hon hpos hfour hmet hclear hsamples hdown hstays hroom,
    fun s p wireP wireN r cp cn hoperating hport hbb hon hmet hset hclean hroom =>
      exec_mdiSample_clears hoperating hport hbb hon hmet hset hclean hroom,
    fun s p hoperating hport hbb hauto hstays hroom => exec_polarity hoperating hport hbb hauto hstays hroom,
    fun s p hoperating hport hbb hmanual hroom => exec_polarity_reported hoperating hport hbb hmanual hroom,
    fun s p kind distance hoperating hp hkind hdistance htdr hcool hroom =>
      exec_tdrComplete hoperating hp hkind hdistance htdr hcool hroom,
    fun s g m hpowered hg hstays hroom => exec_groveCorrected hpowered hroom m hg hstays,
    fun s g m hpowered hg hstays hroom => exec_groveUncorrectable hpowered hroom m hg hstays,
    fun s m hpowered hstays hroom => exec_commonsCorrected hpowered hroom m hstays,
    fun s m hpowered hstays hroom => exec_commonsUncorrectable hpowered hroom m hstays⟩

end Sys2Proof.Machine

/-! # What taking a frame leaves of a segment (R137, R161)

A frame that a port has accepted in a slot goes to stream lookup. Whatever becomes of it there, the slots in which a frame has been
accepted stay as they are. -/

namespace Sys2Proof.Machine

/-- The slots of a port in which a frame has been accepted in this segment cycle. -/
def State.slotsFilled (p : Nat) (s : State) : List Nat := (s.seg p).slotsFilled

theorem Eff.Within.sparesSlots {m : Mask} {e : Eff} (he : e.Within tables m) (h : m.parts.testBit Part.segments.bit = false) (p : Nat) :
    e.Spares (State.slotsFilled p) := fun s => congrArg Segment.slotsFilled (he.seg_run s h p)

theorem segSet_spares {β : Type} {g : Segment → β} {f : Segment → Segment} (h : ∀ x, g (f x) = g x) (q p : Nat) :
    (segSet q f).Spares fun s => g (s.seg p) := fun s => by
  by_cases hpq : p = q
  · rw [hpq]
    exact (congrArg g (segSet_run_seg q f s)).trans (h _)
  · exact congrArg g (PMap.getD_set_other _ _ _ _ _ hpq)

theorem segSet_spares_slots {f : Segment → Segment} (h : ∀ g, (f g).slotsFilled = g.slotsFilled) (q p : Nat) :
    (segSet q f).Spares (State.slotsFilled p) := segSet_spares (g := Segment.slotsFilled) h q p

theorem plcaSet_spares_slots (q : Nat) (f : Plca → Plca) (p : Nat) : (plcaSet q f).Spares (State.slotsFilled p) :=
  segSet_spares_slots (by intro; rfl) q p

theorem Eff.Spares.whenS {β : Type} {g : State → β} {c : State → Bool} {e : Eff} (h : e.Spares g) : (Eff.whenS c e).Spares g :=
  .look fun _ => .ite h .skip

theorem withFree_spares_slots {f : Nat → Eff} {p : Nat} (h : ∀ v, (f v).Spares (State.slotsFilled p)) :
    (withFree f).Spares (State.slotsFilled p) := .look fun _ => .seq (fun _ => rfl) (h _)

theorem count_spares_slots (i p : Nat) : (count i).Spares (State.slotsFilled p) := fun _ => rfl
theorem bumpObj_spares_slots (idx sub row n p : Nat) : (bumpObj idx sub row n).Spares (State.slotsFilled p) := fun _ => rfl

/-! ## A MAC picks -/

theorem burstFrame_spares_slots (q p : Nat) : (burstFrame q).Spares (State.slotsFilled p) :=
  .whenS (.look fun _ => plcaSet_spares_slots q _ p)

theorem startFrame_spares_slots (q c : Nat) (f : QueuedFrame) (p : Nat) : (startFrame q c f).Spares (State.slotsFilled p) :=
  .look fun _ => .cons (burstFrame_spares_slots q p) (.cons (fun _ => rfl) (.cons (fun _ => rfl) (.cons (.ite
    (.cons ((raiseMark_within (Mask.Le.refl _)).sparesSlots rfl p) (.cons (count_spares_slots _ p)
      (.cons ((sampleFrame_within (Mask.Le.refl _)).sparesSlots rfl p) .nil))) (count_spares_slots _ p))
    (.cons ((inProgress_within (Mask.Le.refl _)).sparesSlots rfl p) .nil))))

theorem startMoved_spares_slots (q c : Nat) (f : QueuedFrame) (p : Nat) : (startMoved q c f).Spares (State.slotsFilled p) :=
  .look fun _ => .cons (burstFrame_spares_slots q p) (.cons (segSet_spares_slots (by intro; rfl) q p)
    (.cons (.when (.seq ((raiseMark_within (Mask.Le.refl _)).sparesSlots rfl p) ((sampleFrame_within (Mask.Le.refl _)).sparesSlots rfl p)))
      (.cons ((inProgress_within (Mask.Le.refl _)).sparesSlots rfl p) .nil)))

theorem schedule_spares_slots (s : State) (q p : Nat) : (schedule s q).Spares (State.slotsFilled p) := by
  have hnote (c : Nat) : (noteHeld q c).Spares (State.slotsFilled p) := (noteHeld_within (Mask.Le.refl _)).sparesSlots rfl p
  rw [schedule]
  split
  · refine .seq (.forEach hnote) ?_
    split
    · exact startFrame_spares_slots q _ _ p
    · exact .skip
  · exact .forEach hnote

theorem movedWithoutSa_spares_slots (q p : Nat) : (movedWithoutSa q).Spares (State.slotsFilled p) :=
  .whenS (.look fun _ => .seq (segSet_spares_slots (by intro; rfl) q p)
    (.forEach fun _ => (finishOrigin_within (Mask.Le.refl _)).sparesSlots rfl p))

theorem pickFrame_spares_slots (q p : Nat) : (pickFrame q).Spares (State.slotsFilled p) := by
  have hqueued : (pickQueued q).Spares (State.slotsFilled p) :=
    .cons ((queueFollowUps_within (Mask.Le.refl _)).sparesSlots rfl p)
      (.cons (.forEach fun c => (clearHeads_within (c := c) (Mask.Le.refl _)).sparesSlots rfl p)
        (.cons (.look fun s => schedule_spares_slots s q p) .nil))
  refine .whenS (.seq (movedWithoutSa_spares_slots q p) (.look fun s => ?_))
  split
  · exact .when (startMoved_spares_slots q _ _ p)
  · exact .when hqueued

theorem kick_spares_slots (q p : Nat) : (kick q).Spares (State.slotsFilled p) := by
  refine .look fun s => ?_
  split
  · exact .look fun _ => .ite (withFree_spares_slots fun _ => .when (pickFrame_spares_slots q p)) (pickFrame_spares_slots q p)
  · exact .when ((cutFrame_within (Mask.Le.refl _)).sparesSlots rfl p)

theorem enqueueFrame_spares_slots (q c handle : Nat) (f : QueuedFrame) (p : Nat) : (enqueueFrame q c handle f).Spares (State.slotsFilled p) :=
  .seq ((admitFrame_within (Mask.Le.refl _)).sparesSlots rfl p) (kick_spares_slots q p)

/-! ## A frame of a stream -/

section
variable {p : Nat}

theorem applyMeter_spares_slots {m len : Nat} {d : Bytes} {go : Bytes → Eff} {dropped : Eff} (hgo : ∀ x, (go x).Spares (State.slotsFilled p))
    (hdropped : dropped.Spares (State.slotsFilled p)) : (applyMeter m len d go dropped).Spares (State.slotsFilled p) := by
  refine .look fun s => .ite (.cons (count_spares_slots _ p) (.cons (bumpObj_spares_slots _ _ _ _ p) (.cons (hgo d) .nil))) ?_
  dsimp only
  refine .cons (fun _ => rfl) (.cons (count_spares_slots _ p) (.cons (bumpObj_spares_slots _ _ _ _ p) (.cons ?_ .nil)))
  split
  · exact hgo _
  · exact .cons (count_spares_slots _ p) (.cons (bumpObj_spares_slots _ _ _ _ p) (.cons hdropped .nil))

theorem generate_spares_slots {h : Nat} {d : Bytes} {carried : Option Nat} {go : Bytes → Eff} (hgo : ∀ x, (go x).Spares (State.slotsFilled p)) :
    (generate h d carried go).Spares (State.slotsFilled p) := by
  have hfresh (s : State) (seq : Nat) : (Eff.all [.upd (.traffic fun t => { t with generators := t.generators.set h ((seq + 1) % 65536) }),
      count (commonsItem 13), setN 0x6021 8 seq h, go (insertRtag seq d)]).Spares (State.slotsFilled p) :=
    .cons (fun _ => rfl) (.cons (count_spares_slots _ p) (.cons (fun _ => rfl) (.cons (hgo _) .nil)))
  refine .look fun s => .ite (hgo d) (.ite ?_ (hfresh s _))
  split
  · exact .seq (count_spares_slots _ p) (hgo _)
  · exact hfresh s _

theorem recover_spares_slots {fn handle : Nat} {d : Bytes} {go : Bytes → Option Nat → Eff} {discarded : Eff}
    (hgo : ∀ x n, (go x n).Spares (State.slotsFilled p)) (hdiscarded : discarded.Spares (State.slotsFilled p)) :
    (recover fn handle d go discarded).Spares (State.slotsFilled p) := by
  have hbump (idx sub row n : Nat) := bumpObj_spares_slots idx sub row n p
  have hcount (i : Nat) := count_spares_slots i p
  have hset (f : Recovery → Recovery) : (recoverySet fn f).Spares (State.slotsFilled p) := fun _ => rfl
  have hpasses (f : Recovery → Recovery) : (Eff.all [recoverySet fn f, bumpObj 0x6601 1 fn, count (commonsItem 14)]).Spares (State.slotsFilled p) :=
    .cons (hset f) (.cons (hbump _ _ _ _) (.cons (hcount _) .nil))
  have hdiscards : (Eff.all [bumpObj 0x6601 2 fn, count (commonsItem 15), bumpObj 0x6021 6 handle]).Spares (State.slotsFilled p) :=
    .cons (hbump _ _ _ _) (.cons (hcount _) (.cons (hbump _ _ _ _) .nil))
  refine .look fun s => ?_
  dsimp only
  split
  · exact .cons (hbump _ _ _ _) (.cons (hcount _) (.cons (.ite (.seq (hpasses _) (hgo _ _)) (.seq hdiscards hdiscarded)) .nil))
  · exact .cons (hset _) (.cons (fun _ => rfl) (.cons (fun _ => rfl) (.cons (.when (.seq (hbump _ _ _ _) (hcount _)))
      (.cons (.when (.seq (hbump _ _ _ _) (hcount _))) (.cons (.when (.seq (hbump _ _ _ _) fun _ => rfl))
        (.cons (.ite (.seq (hpasses _) (hgo _ _)) (.seq hdiscards hdiscarded)) .nil))))))

theorem streamFilter_spares_slots {h len : Nat} {d : Bytes} {host : Bool} {go : Bytes → Bool → Eff} {dropped duplicate : Eff}
    (hgo : ∀ x b, (go x b).Spares (State.slotsFilled p)) (hdropped : dropped.Spares (State.slotsFilled p))
    (hduplicate : duplicate.Spares (State.slotsFilled p)) : (streamFilter h d len host go dropped duplicate).Spares (State.slotsFilled p) := by
  have hbump (idx sub row n : Nat) := bumpObj_spares_slots idx sub row n p
  have hcount (i : Nat) := count_spares_slots i p
  have hcounted {n : Nat} {e : Eff} (he : e.Spares (State.slotsFilled p)) :
      (Eff.all [bumpObj 0x6021 1 h, bumpObj 0x6021 2 h n, e]).Spares (State.slotsFilled p) :=
    .cons (hbump _ _ _ _) (.cons (hbump _ _ _ _) (.cons he .nil))
  have hnext {c : Prop} [Decidable c] {fn n : Nat} (x : Bytes) : (if c then recover fn h x (fun d' seq => generate h d' seq fun d'' =>
      Eff.all [bumpObj 0x6021 1 h, bumpObj 0x6021 2 h n, go d'' ((parseFrame x).rtag.isSome && (parseFrame d'').rtag.isNone)]) duplicate
      else generate h x none fun d' => Eff.all [bumpObj 0x6021 1 h, bumpObj 0x6021 2 h n, go d' false]).Spares (State.slotsFilled p) :=
    .ite (recover_spares_slots (fun _ _ => generate_spares_slots fun _ => hcounted (hgo _ _)) hduplicate)
      (generate_spares_slots fun _ => hcounted (hgo _ _))
  refine .look fun s => .ite (.seq (hcount _) hdropped) (.ite (.seq (hcount _) hdropped) (.ite
    (.cons (hcount _) (.cons (hbump _ _ _ _) (.cons (.when (.seq (fun _ => rfl) (fun _ => rfl))) (.cons hdropped .nil))))
    (.ite (hnext d) (applyMeter_spares_slots (fun x => hnext x) (.seq (hbump _ _ _ _) hdropped)))))

/-- A frame that goes to stream lookup leaves the slots that are filled. -/
theorem ingressFrame_spares_slots (q : Nat) (f : Frame) : (ingressFrame q f).Spares (State.slotsFilled p) := by
  have hforward (h : Nat) (x : Bytes) (b : Bool) :
      (streamForward h q f.stamp (f.icv == .verified) x b).Spares (State.slotsFilled p) :=
    .look fun _ => .ite (count_spares_slots _ p) (.seq (.when ((deliver_within (Mask.Le.refl _)).sparesSlots rfl p))
      (.forEach fun _ => .look fun _ => enqueueFrame_spares_slots _ _ _ _ p))
  have hcopies (h : Nat) (x : Bytes) : (stackCopies h x (streamToMember h)).Spares (State.slotsFilled p) :=
    .look fun _ => .when (.forEach fun _ => (streamToMember_within (Mask.Le.refl _)).sparesSlots rfl p)
  have hstream (h : Nat) :
      (streamReceives h q f.stamp (f.icv == .verified) f.data (streamToMember h)).Spares (State.slotsFilled p) :=
    .look fun _ => streamFilter_spares_slots (fun x b => .seq (hcopies h x) (hforward h x b))
      ((writeAhead_within (Mask.Le.refl _)).sparesSlots rfl p) ((deliverDuplicate_within (Mask.Le.refl _)).sparesSlots rfl p)
  refine .look fun _ => .ite (.when (count_spares_slots _ p)) (.seq (count_spares_slots _ p) (.look fun s => ?_))
  split
  · exact (steer_within (Mask.Le.refl _)).sparesSlots rfl p
  · exact .cons (count_spares_slots _ p) (.cons (.when (.seq (count_spares_slots _ p)
      ((raiseOncePerCycle_within ⟨rfl, rfl, rfl⟩ (raise_within (Mask.Le.refl _))).sparesSlots rfl p))) (.cons (hstream _) .nil))

end

end Sys2Proof.Machine

/-! # Segment reception (R136, R142, R148) -/

namespace Sys2Proof.Machine

/-- The mask of a frame that goes to stream lookup. -/
def ingressMask : Mask :=
  ⟨0x3881b280, 0x3000000000001e000000000053fee007f80000000000000000000000, 0x1604a00000000000001c06003800000000010000000127ffff065000080000000⟩

/-! ## A frame arrives -/

/-- What places a frame in the segment cycle of a port is the same in two states. -/
structure State.SameView (s t : State) (p : Nat) : Prop where
  od : t.od = s.od
  kiln : t.kiln = s.kiln
  cycle : (t.seg p).cycle = (s.seg p).cycle
  offset48 : (t.seg p).offset48 = (s.seg p).offset48
  frozen : (t.seg p).frozen = (s.seg p).frozen

section
variable {s t u : State} {p : Nat}

theorem State.SameView.trans (h : s.SameView t p) (h' : t.SameView u p) : s.SameView u p :=
  ⟨h'.od.trans h.od, h'.kiln.trans h.kiln, h'.cycle.trans h.cycle, h'.offset48.trans h.offset48, h'.frozen.trans h.frozen⟩

theorem State.SameView.of_within {e : Eff} {m : Mask} (he : e.Within tables m) (hod : m.sparesOd = true)
    (hkiln : m.parts.testBit Part.kiln.bit = false) (hsegments : m.parts.testBit Part.segments.bit = false) (s : State) (p : Nat) :
    s.SameView (e.run s) p := by
  have hseg := he.seg_run s hsegments p
  exact ⟨he.od_run hod s, he.kiln_run s hkiln, by rw [hseg], by rw [hseg], by rw [hseg]⟩

theorem State.SameView.obj (h : s.SameView t p) (idx sub row : Nat) : t.obj idx sub row = s.obj idx sub row := by
  simp only [State.obj, State.key, h.od]

theorem State.SameView.on (h : s.SameView t p) (idx sub row : Nat) : t.on idx sub row = s.on idx sub row := by
  rw [State.on, State.on, h.obj]

theorem State.SameView.n (h : s.SameView t p) (idx sub row : Nat) : t.n idx sub row = s.n idx sub row := by
  rw [State.n, State.n, h.obj]

theorem State.SameView.port (h : s.SameView t p) (k sub row : Nat) : t.port p k sub row = s.port p k sub row := port_congr h.od p k sub row

theorem State.SameView.segCfg (h : s.SameView t p) (k sub row : Nat) : t.segCfg p k sub row = s.segCfg p k sub row :=
  segCfg_congr h.od h.frozen k sub row

theorem State.SameView.segState (h : s.SameView t p) : t.segState p = s.segState p := h.port 1 3 0

theorem State.SameView.segmentPort (h : s.SameView t p) : t.segmentPort p = s.segmentPort p := by
  simp only [State.segmentPort, State.portMode, h.port]

theorem State.SameView.hasView (h : s.SameView t p) : t.hasView p = s.hasView p := by
  simp only [State.hasView, h.segState]

theorem State.SameView.listenOnly (h : s.SameView t p) (node : Nat) : t.listenOnly p node = s.listenOnly p node :=
  h.on _ _ _

theorem State.SameView.bitTime (h : s.SameView t p) : t.bitTime p = s.bitTime p := by
  simp only [State.bitTime, h.port]

theorem State.SameView.slots (h : s.SameView t p) : t.slots p = s.slots p := by
  have hslot : t.slotOf p (t.segMode p) = s.slotOf p (s.segMode p) := by
    funext i
    rw [slotOf_congr h.od h.frozen, State.segMode, State.segMode, h.port]
  rw [State.slots, State.slots, hslot]

theorem State.SameView.inCycle (h : s.SameView t p) (stamp : Nat) :
    t.inCycle p (t.frameStart p stamp) = s.inCycle p (s.frameStart p stamp) := by
  simp only [State.inCycle, State.frameStart, State.leadUnits, Segment.offset, State.segLength, h.bitTime, h.segCfg, h.cycle, h.offset48]

theorem State.SameView.placement (h : s.SameView t p) (at' : Int) : t.placement p at' = s.placement p at' := by
  rw [State.placement, State.placement, State.staticEnd, State.staticEnd, h.bitTime, h.slots]

theorem State.SameView.inWindow (h : s.SameView t p) (x : Slot) (at' : Int) : t.inWindow p x at' = s.inWindow p x at' := by
  rw [State.inWindow, State.inWindow, State.actionPoint, State.actionPoint, State.actionOffset, State.actionOffset, State.precision,
    State.precision, h.segCfg, h.segCfg, h.bitTime]

theorem State.SameView.wireBytes (h : s.SameView t p) (f : Frame) : t.wireBytes p f = s.wireBytes p f := by
  rw [State.wireBytes, State.wireBytes, State.macsecBytes, State.macsecBytes, h.on, h.on]

theorem State.SameView.endsInSlot (h : s.SameView t p) (x : Slot) (at' : Int) (n : Nat) : t.endsInSlot p x at' n = s.endsInSlot p x at' n := by
  rw [State.endsInSlot, State.endsInSlot, h.bitTime]

theorem State.SameView.sound (h : s.SameView t p) (f : Frame) : t.sound p f = s.sound p f := by
  rw [State.sound, State.sound, State.replayed, State.replayed, h.on, h.n, h.kiln]

theorem State.SameView.segDigest (h : s.SameView t p) (m : Nat) : t.segDigest p m = s.segDigest p m := by
  simp only [State.segDigest, State.segLength, State.actionOffset, State.precision, h.segCfg]

end

/-- A frame that passes the port's checks is counted, in the transmit opportunity of its sender. -/
def arrival (p node bytes : Nat) : Eff := .seq (countGood p bytes) (opportunityOf p node)

theorem opportunityOf_run_view (p node : Nat) (s : State) : s.SameView ((opportunityOf p node).run s) p := by
  have hpart := opportunityOf_within (Mask.Le.refl _) (p := p) (sender := node)
  have hspares {β : Type} {g : Segment → β} (h : ∀ x a, g { x with plca := a } = g x) : (opportunityOf p node).Spares fun u => g (u.seg p) :=
    .whenS (.look fun _ => segSet_spares (fun x => h x _) p p)
  exact ⟨hpart.od_run rfl s, hpart.kiln_run s rfl, hspares (g := Segment.cycle) (fun _ _ => rfl) s,
    hspares (g := Segment.offset48) (fun _ _ => rfl) s, hspares (g := Segment.frozen) (fun _ _ => rfl) s⟩

theorem arrival_run (p node bytes : Nat) (s : State) : let u := (arrival p node bytes).run s
    s.SameView u p ∧ u.counter (portItem p 0) = (s.counter (portItem p 0) + 1) % 18446744073709551616 ∧
      u.counter (portItem p 12) = s.counter (portItem p 12) ∧ u.counter (portItem p 23) = s.counter (portItem p 23) := by
  have hcounted : s.SameView ((countGood p bytes).run s) p := ⟨rfl, rfl, rfl, rfl, rfl⟩
  have hopened := opportunityOf_within (Mask.Le.refl _) (p := p) (sender := node)
  have hcounter {i : Nat} (hi : freeCtr tables ⟨0x1000, 0x0, 0x0⟩ (i % 32) = true) : ((arrival p node bytes).run s).counter (portItem p i) =
      ((countGood p bytes).run s).counter (portItem p i) := hopened.keeps_portItem _ p hi
  have hother {i : Nat} (h0 : i % 32 ≠ 0) (h1 : i % 32 ≠ 1) :
      ((countGood p bytes).run s).counter (portItem p i) = s.counter (portItem p i) :=
    (counter_count_other _ _ _ _ (portItem_ne h1 p)).trans (count_run_other (portItem_ne h0 p) s)
  refine ⟨hcounted.trans (opportunityOf_run_view p node _), ?_, ?_, ?_⟩
  · exact (hcounter (by decide +kernel)).trans ((counter_count_other _ _ _ _ (portItem_ne (by decide) p)).trans (count_run_same _ s))
  · exact (hcounter (by decide +kernel)).trans (hother (by decide) (by decide))
  · exact (hcounter (by decide +kernel)).trans (hother (by decide) (by decide))

/-- A frame that passes its port's checks, up to where its place is judged. -/
theorem segmentFrameArrives_run {s : State} {p sender : Nat} {f : Frame} (h : s.hears p f = true) :
    ∃ g bytes, g = s.atPlane p { f with node := sender } ∧ (segmentFrameArrives p sender f).run s = (noteNumber p g).run
      ((segmentData p sender g (admitReceived p g (ingressFrame p g)) (writtenAhead p g)).run ((arrival p sender bytes).run s)) := by
  obtain ⟨henabled, hgrove, hpasses, hlength, -⟩ := State.passes_of_hears h
  refine ⟨_, s.wireBytes p f, rfl, ?_⟩
  have hcounted : (countReceived p (s.atPlane p { f with node := sender })).run s = (countGood p (s.wireBytes p f)).run s :=
    countReceived_run_of_passes (f := s.atPlane p { f with node := sender }) hpasses hlength
  rw [segmentFrameArrives, received, Eff.run_look, awake, Eff.run_whenS, if_pos henabled, Eff.run_look, if_pos hgrove, Eff.run_all_cons,
    Eff.run_all_cons, Eff.run_all_cons, Eff.run_all_cons, Eff.run_all_nil, hcounted, arrival, Eff.run_seq]
  rfl

/-! ## A node becomes present -/

/-- A node that is not present and is heard becomes present. -/
def presents (p node mask cycle : Nat) : Eff :=
  .all [segSet p fun g => { g with heard := if g.heard.contains node then g.heard else node :: g.heard },
    bumpObj (portIdx p 6) 3 node, setPort p 6 2 cycle node, setN (portIdx p 5) 0 (mask ||| 2 ^ node), setPort p 6 1 1 node,
    segSet p fun g => { g with silent := g.silent.erase node }, raisePort p 4 node, count (portItem p 23)]

theorem nodeHeard_run_presents {s : State} {p node : Nat} (hsg : isSG p = true) (hmode : s.portMode p = 0) (hnode : node ≤ 254)
    (hown : node ≠ s.port p 2 1) (habsent : maskBit (s.obj (portIdx p 5) 0) node = false) :
    (nodeHeard p node).run s = (presents p node (s.port p 5 0) (s.seg p).cycle).run s := by
  have hkeeps : s.keepsPresence p = true := by
    rw [State.keepsPresence, hsg, hmode]
    rfl
  have hother : (node == if (s.portMode p == 1) = true then 0 else s.port p 2 1) = false := by
    rw [hmode]
    exact beq_eq_false_iff_ne.2 hown
  unfold nodeHeard
  rw [Eff.run_look]
  dsimp only
  rw [hkeeps, hother, decide_eq_false (Nat.not_lt_of_le hnode), if_neg (by decide), habsent, presents]
  rfl

theorem maskBit_or (mask node : Nat) : maskBit ((mask ||| 2 ^ node : Nat) : Int) node = true := by
  rw [maskBit, Int.toNat_natCast, Nat.testBit_or, Nat.testBit_two_pow_self, Bool.or_true]

theorem presents_run (p node mask cycle : Nat) (s : State) : let t := (presents p node mask cycle).run s
    maskBit (t.obj (portIdx p 5) 0) node = true ∧ t.counter (portItem p 23) = (s.counter (portItem p 23) + 1) % 18446744073709551616 ∧
      t.counter (portItem p 0) = s.counter (portItem p 0) := by
  have hne : portIdx p 5 ≠ portIdx p 6 := by
    rw [portIdx, portIdx]
    omega
  have hraise := raisePort_within (Mask.Le.refl _) (p := p) (reason := 4) (arg := node)
  have hnoted : ∃ u v : State, (presents p node mask cycle).run s = (count (portItem p 23)).run ((raisePort p 4 node).run u) ∧
      u.obj (portIdx p 5) 0 = v.obj (portIdx p 5) 0 ∧ v.obj (portIdx p 5) 0 = (mask ||| 2 ^ node : Nat) ∧ u.counters = s.counters := by
    rw [presents, Eff.run_all_cons, Eff.run_all_cons, Eff.run_all_cons, Eff.run_all_cons, Eff.run_all_cons, Eff.run_all_cons,
      Eff.run_all_cons, Eff.run_all_cons, Eff.run_all_nil]
    exact ⟨_, _, rfl, setObj_run_other (by simp [hne]) _ _, setObj_run_obj _ _ _ _ _, rfl⟩
  obtain ⟨u, v, hrun, hkept, hset, hcounters⟩ := hnoted
  have hcounter (i : Nat) : u.counter i = s.counter i := by rw [State.counter, State.counter, hcounters]
  dsimp only
  rw [hrun]
  refine ⟨?_, ?_, ?_⟩
  · have hcount (w : State) (i : Nat) : ((count i).run w).obj (portIdx p 5) 0 = w.obj (portIdx p 5) 0 := rfl
    rw [hcount, hraise.keeps_port u (by decide +kernel), hkept, hset, maskBit_or]
  · rw [count_run_same, hraise.keeps_portItem u p (by decide +kernel), hcounter]
  · rw [count_run_other (portItem_ne (by decide) p), hraise.keeps_portItem u p (by decide +kernel), hcounter]

/-- A frame of a node not present makes it present, on a segment in standard PLCA. -/
theorem exec_segmentFrame_presents {s : State} {p sender : Nat} {f : Frame} (hoperating : s.operating = true) (hhears : s.hears p f = true)
    (hsg : isSG p = true) (hmode : s.portMode p = 0) (hsender : sender ≤ 254) (hown : sender ≠ s.port p 2 1)
    (habsent : maskBit (s.obj (portIdx p 5) 0) sender = false) :
    ∃ t, exec (.segmentFrame p sender f) s = .next t ∧ maskBit (t.obj (portIdx p 5) 0) sender = true ∧
      t.counter (portItem p 23) = (s.counter (portItem p 23) + 1) % 18446744073709551616 ∧
      t.counter (portItem p 0) = (s.counter (portItem p 0) + 1) % 18446744073709551616 := by
  refine ⟨_, rfl, ?_⟩
  obtain ⟨-, -, -, -, hfcs⟩ := State.passes_of_hears hhears
  obtain ⟨g, bytes, hg, hrun⟩ := segmentFrameArrives_run (sender := sender) hhears
  obtain ⟨hview, hreceived, -, hpresent⟩ := arrival_run p sender bytes s
  rw [operating_exec hoperating, hrun]
  generalize (arrival p sender bytes).run s = u at *
  have hplain : u.segmentPort p = false := by
    rw [hview.segmentPort, State.segmentPort, hmode]
    exact Bool.and_false _
  have hgood : (g.fcs == .good && isSG p) = true := by
    rw [hg, hsg]
    exact congrArg (fun x => (x == Fcs.good) && true) hfcs
  have hheard : (nodeHeard p sender).run u = (presents p sender (u.port p 5 0) (u.seg p).cycle).run u :=
    nodeHeard_run_presents hsg ((hview.port 0 2 0).trans hmode) hsender (by rw [hview.port]; exact hown) (by rw [hview.obj]; exact habsent)
  have htaken : (segmentData p sender g (admitReceived p g (ingressFrame p g)) (writtenAhead p g)).run u =
      (admitReceived p g (ingressFrame p g)).run ((presents p sender (u.port p 5 0) (u.seg p).cycle).run u) := by
    rw [segmentData, Eff.run_look, hplain, Bool.not_false, Bool.true_or, if_pos rfl, tailFrame, Eff.run_look, hplain, Bool.false_and, if_neg Bool.false_ne_true,
      Eff.run_seq, hgood, Eff.run_when_true, hheard]
  obtain ⟨hmask, hcounted, hkept⟩ := presents_run p sender (u.port p 5 0) (u.seg p).cycle u
  have hnoted := noteNumber_within (Mask.Le.refl _) (p := p) (f := g)
  have hadmits : (admitReceived p g (ingressFrame p g)).Within tables ingressMask :=
    admitReceived_within ⟨rfl, rfl, rfl⟩ (ingressFrame_within ⟨rfl, rfl, rfl⟩)
  rw [htaken, flush_obj, flush_portItem, flush_portItem, hnoted.keeps_port _ (by decide +kernel), hnoted.keeps_portItem _ p (by decide +kernel),
    hnoted.keeps_portItem _ p (by decide +kernel), hadmits.keeps_port _ (by decide +kernel), hadmits.keeps_portItem _ p (by decide +kernel),
    hadmits.keeps_portItem _ p (by decide +kernel)]
  exact ⟨hmask, hcounted.trans (by rw [hpresent]), hkept.trans hreceived⟩

end Sys2Proof.Machine

/-! # Slots and sync frames of a segment (R136, R142) -/

namespace Sys2Proof.Machine

/-! ## A frame is accepted in a slot -/

theorem setPort_run_n (p k sub v row : Nat) (s : State) : ((setPort p k sub v row).run s).n (portIdx p k) sub row = v :=
  setN_run_n (portIdx p k) sub v row s

theorem slotAccept_run (p : Nat) (x : Slot) (at' : Int) (s : State) : let t := (slotAccept p x at').run s
    t.counter (portItem p 12) = (s.counter (portItem p 12) + 1) % 18446744073709551616 ∧ x.row ∈ t.slotsFilled p ∧
      t.n (portIdx p 7) 6 x.row = (s.seg p).cycle := by
  refine ⟨count_run_same _ s, ?_, setPort_run_n p 7 6 _ x.row _⟩
  have hfilled : ((slotAccept p x at').run s).slotsFilled p =
      ((segSet p fun g => { g with slotsFilled := x.row :: g.slotsFilled }).run ((count (portItem p 12)).run s)).slotsFilled p := rfl
  rw [hfilled, State.slotsFilled, segSet_run_seg]
  exact List.mem_cons_self

theorem nodeHeard_spares {β : Type} {g : Segment → β} (hheard : ∀ x a, g { x with heard := a } = g x)
    (hsilent : ∀ x a, g { x with silent := a } = g x) (p node : Nat) : (nodeHeard p node).Spares fun s => g (s.seg p) :=
  .look fun _ => .ite .skip (.cons (segSet_spares (fun x => hheard x _) p p) (.cons (fun _ => rfl) (.cons (fun _ => rfl) (.cons (.when
    (.cons (fun _ => rfl) (.cons (fun _ => rfl) (.cons (segSet_spares (fun x => hsilent x _) p p) (.cons (fun _ => rfl)
      (.cons (fun _ => rfl) .nil)))))) .nil))))

/-- What follows the acceptance of a frame in a slot. -/
def slotTakes (p : Nat) (x : Slot) (f : Frame) : Eff :=
  .all [storeSlotFrame p x (framePayload f.data), admitReceived p f (ingressFrame p f), noteNumber p f]

theorem slotTakes_spares (p : Nat) (x : Slot) (f : Frame) : (slotTakes p x f).Spares (State.slotsFilled p) := by
  have hstored : (storeSlotFrame p x (framePayload f.data)).Spares (State.slotsFilled p) :=
    .look fun _ => .seq (fun _ => rfl) (.look fun _ => segSet_spares_slots (by intro; rfl) p p)
  have hwritten : (writtenAhead p f).Spares (State.slotsFilled p) := (writtenAhead_within (Mask.Le.refl _)).sparesSlots rfl p
  exact .cons hstored (.cons (.look fun _ => .ite (.ite (ingressFrame_spares_slots p f) hwritten)
    (.seq hwritten ((errorRing_within (Mask.Le.refl _)).sparesSlots rfl p)))
    (.cons ((noteNumber_within (Mask.Le.refl _)).sparesSlots rfl p) .nil))

/-- The mask of what follows the acceptance of a frame in a slot. -/
def takenMask : Mask :=
  ⟨0x3881f280, 0x3000000000001e000000000053fee007f80000000000000000000000, 0x1604a00000000000001c06003800000000010000000127ffff065000080000000⟩

theorem slotTakes_within (p : Nat) (x : Slot) (f : Frame) : (slotTakes p x f).Within tables takenMask :=
  Within.cons (storeSlotFrame_within ⟨rfl, rfl, rfl⟩) (Within.cons (admitReceived_within ⟨rfl, rfl, rfl⟩ (ingressFrame_within ⟨rfl, rfl, rfl⟩))
    (Within.cons (noteNumber_within ⟨rfl, rfl, rfl⟩) Within.nil))

/-- A sound frame that a port judges to lie in the receive window of another's slot, and to end before the slot, is accepted. -/
theorem segmentData_run_accepted {s : State} {p sender : Nat} {f : Frame} {x : Slot} (hsegment : s.segmentPort p = true)
    (hview : s.hasView p = true) (hplace : s.placement p (s.inCycle p (s.frameStart p f.stamp)) = .slot x)
    (hlisten : s.listenOnly p x.owner = false) (hwindow : s.inWindow p x (s.inCycle p (s.frameStart p f.stamp)) = true)
    (hends : s.endsInSlot p x (s.inCycle p (s.frameStart p f.stamp)) (s.wireBytes p f) = true) (hsound : s.sound p f = true)
    (hgood : f.fcs = .good) : ∃ at', (noteNumber p f).run
      ((segmentData p sender f (admitReceived p f (ingressFrame p f)) (writtenAhead p f)).run s) =
        (slotTakes p x f).run ((slotAccept p x at').run ((nodeHeard p x.owner).run s)) := by
  refine ⟨s.inCycle p (s.frameStart p f.stamp), ?_⟩
  rw [segmentData, Eff.run_look, hsegment, hview, Bool.not_true, Bool.or_self, if_neg Bool.false_ne_true, hplace]
  dsimp only
  rw [judgeSlot, Eff.run_look]
  dsimp only
  rw [hlisten, if_neg Bool.false_ne_true, hwindow, hends, hsound, hgood, Bool.not_true, if_neg Bool.false_ne_true, if_neg Bool.false_ne_true,
    if_neg Bool.false_ne_true, slotTakes, Eff.run_seq, Eff.run_seq, Eff.run_seq, Eff.run_all_cons, Eff.run_all_cons, Eff.run_all_cons,
    Eff.run_all_nil]
  rfl

theorem atPlane_of_noLatency {s : State} {p : Nat} (hbb : isBB p = false) (hlatency : Config.phyReceiveLatency p = 0) (f : Frame) :
    s.atPlane p f = f := by
  rw [State.atPlane, State.rxPlane, hbb, hlatency]
  rfl

/-- Where the PHY takes no time, a frame is judged at its timestamp. -/
theorem exec_segmentFrame_accepted {s : State} {p sender : Nat} {f : Frame} {x : Slot} (hlatency : Config.phyReceiveLatency p = 0)
    (hoperating : s.operating = true) (hhears : s.hears p f = true) (hsound : s.sound p f = true) (hsegment : s.segmentPort p = true)
    (hview : s.hasView p = true) (hplace : s.placement p (s.inCycle p (s.frameStart p f.stamp)) = .slot x)
    (hlisten : s.listenOnly p x.owner = false) (hwindow : s.inWindow p x (s.inCycle p (s.frameStart p f.stamp)) = true)
    (hends : s.endsInSlot p x (s.inCycle p (s.frameStart p f.stamp)) (s.wireBytes p f) = true) :
    ∃ t, exec (.segmentFrame p sender f) s = .next t ∧ t.counter (portItem p 12) = (s.counter (portItem p 12) + 1) % 18446744073709551616 ∧
      x.row ∈ (t.seg p).slotsFilled ∧ t.n (portIdx p 7) 6 x.row = (s.seg p).cycle := by
  refine ⟨_, rfl, ?_⟩
  have hbb : isBB p = false := by
    rw [State.segmentPort, Bool.and_eq_true, Bool.not_eq_true'] at hsegment
    exact hsegment.1
  obtain ⟨-, -, -, -, hfcs⟩ := State.passes_of_hears hhears
  obtain ⟨g, bytes, hg, hrun⟩ := segmentFrameArrives_run (sender := sender) hhears
  rw [atPlane_of_noLatency hbb hlatency] at hg
  obtain ⟨hsame, -, hfree, -⟩ := arrival_run p sender bytes s
  rw [operating_exec hoperating, hrun]
  generalize (arrival p sender bytes).run s = u at *
  have hstamp : g.stamp = f.stamp := by rw [hg]
  obtain ⟨at', haccepted⟩ := segmentData_run_accepted (s := u) (p := p) (sender := sender) (f := g) (x := x) (hsame.segmentPort.trans hsegment)
    (hsame.hasView.trans hview) (by rw [hsame.inCycle, hsame.placement, hstamp, hplace]) ((hsame.listenOnly _).trans hlisten)
    (by rw [hsame.inCycle, hsame.inWindow, hstamp, hwindow])
    (by rw [hsame.inCycle, hsame.endsInSlot, hsame.wireBytes, hstamp, hg]; exact hends)
    (by rw [hsame.sound, hg]; exact hsound) (by rw [hg]; exact hfcs)
  rw [haccepted]
  have hheard := nodeHeard_within (Mask.Le.refl _) (p := p) (node := x.owner)
  have hcycle : (((nodeHeard p x.owner).run u).seg p).cycle = (u.seg p).cycle :=
    nodeHeard_spares (g := Segment.cycle) (fun _ _ => rfl) (fun _ _ => rfl) p x.owner u
  have hcount := hheard.keeps_portItem u p (i := 12) (by decide +kernel)
  generalize (nodeHeard p x.owner).run u = v at *
  obtain ⟨hcounted, hfilled, hshown⟩ := slotAccept_run p x at' v
  generalize (slotAccept p x at').run v = w at *
  have htakes := slotTakes_within p x g
  rw [flush_portItem, flush_seg, flush_n, htakes.keeps_portItem w p (by decide +kernel)]
  have hrow : ((slotTakes p x g).run w).n (portIdx p 7) 6 x.row = w.n (portIdx p 7) 6 x.row :=
    congrArg Int.toNat (htakes.keeps_port w (by decide +kernel))
  refine ⟨hcounted.trans (by rw [hcount, hfree]), ?_, hrow.trans (hshown.trans (hcycle.trans hsame.cycle))⟩
  have hspared := slotTakes_spares p x g w
  exact (congrArg (x.row ∈ ·) hspared).mpr hfilled

/-! ## A sync frame takes a listening port into the segment -/

/-- The change to a segment state reaches no other object, and no segment's record. -/
theorem setSegState_run (p new : Nat) (s : State) : let t := (setSegState p new).run s
    t.segState p = new ∧ t.n 0x3400 1 p = s.n 0x3400 1 p ∧ t.seg p = s.seg p := by
  have hmask := setSegState_within (Mask.Le.refl _) (p := p) (new := new)
  refine ⟨?_, hmask.n_run s (by decide +kernel), hmask.seg_run s rfl p⟩
  rw [setSegState, Eff.run_whenS]
  split
  next =>
    have hrest : (Eff.all [raisePort p 8 new, .forEach ((List.range 16).map fun i => 16 * (p / 32) + i) fun e => .whenS (fun s =>
        s.timeBase e (s.messages.engines.getD e Engine.init).mode == p) (baseWatch e)]).Within tables
          ⟨0x4080, 0x0, 0x100000000000000000000000000000⟩ :=
      Within.cons (raisePort_within ⟨rfl, rfl, rfl⟩) (Within.cons (Within.forEach fun _ => Within.whenS (baseWatch_within (Mask.Le.refl _))) Within.nil)
    have hkept := hrest.keeps_port ((setPort p 1 3 new).run s) (p := p) (k := 1) (sub := 3) (row := 0) (by decide +kernel)
    rw [Eff.run_all_cons, State.segState, State.port, State.n, hkept, ← State.n, setPort_run_n]
  next h => simpa using h

theorem adoptSegment_run (p : Nat) (x : Slot) (j stamp : Nat) (s : State) : let t := (adoptSegment p x j stamp).run s
    t.segState p = 4 ∧ (t.seg p).cycle = j ∧ t.n 0x3400 1 p = 1 := by
  have hadopted : ∃ (u : State) (f : Segment → Segment), (∀ g, (f g).cycle = j) ∧ (adoptSegment p x j stamp).run s = (setSegState p 4).run
      ((setN 0x3400 1 1 p).run ((setPort p 1 5 j).run ((segSet p f).run u))) := by
    unfold adoptSegment
    rw [Eff.run_look, Eff.run_all_cons, Eff.run_all_cons, Eff.run_all_cons, Eff.run_all_cons, Eff.run_all_nil]
    exact ⟨s, _, fun _ => rfl, rfl⟩
  obtain ⟨u, f, hf, hrun⟩ := hadopted
  have hseg : ((setN 0x3400 1 1 p).run ((setPort p 1 5 j).run ((segSet p f).run u))).seg p = ((segSet p f).run u).seg p := rfl
  have hsync := setN_run_n 0x3400 1 1 p ((setPort p 1 5 j).run ((segSet p f).run u))
  dsimp only
  rw [hrun]
  generalize (setN 0x3400 1 1 p).run ((setPort p 1 5 j).run ((segSet p f).run u)) = v at *
  obtain ⟨hstate, hkept, hrecord⟩ := setSegState_run p 4 v
  refine ⟨hstate, ?_, hkept.trans hsync⟩
  rw [hrecord, hseg, segSet_run_seg, hf]

/-- A sound sync frame of a sync slot's owner, of the segment that the port is to join. -/
theorem syncTaken_run_adopts {s : State} {p : Nat} {f : Frame} {x : Slot} (hstate : s.segState p = 1) (hsound : s.sound p f = true)
    (hfind : ((s.slots p).find? fun y => y.sync && y.owner == (SyncBody.decode (protocolBody f.data)).sender && y.owner != 0) = some x)
    (hversion : (SyncBody.decode (protocolBody f.data)).version = 1) (hmode : (SyncBody.decode (protocolBody f.data)).mode = s.segMode p)
    (hdigest : (SyncBody.decode (protocolBody f.data)).digest = s.segDigest p (s.segMode p)) (hlisten : s.listenOnly p x.owner = false) :
    (syncTaken p f).run s = (adoptSegment p x (SyncBody.decode (protocolBody f.data)).cycle f.stamp).run s := by
  have hview : s.hasView p = false := by
    rw [State.hasView, hstate]
    rfl
  have howner : x.owner = (SyncBody.decode (protocolBody f.data)).sender := by
    have hsome := List.find?_some hfind
    rw [Bool.and_eq_true, Bool.and_eq_true] at hsome
    obtain ⟨⟨-, howner⟩, -⟩ := hsome
    exact beq_iff_eq.1 howner
  rw [howner] at hlisten
  unfold syncTaken
  rw [Eff.run_look]
  dsimp only
  rw [hview, hsound, hlisten, hfind, hversion, hmode, hdigest, Bool.not_false, if_pos rfl, Bool.not_true, if_neg Bool.false_ne_true,
    if_neg Bool.false_ne_true]
  simp only [beq_self_eq_true, bne_self_eq_false, Bool.not_false, Bool.and_self, if_true]

theorem countReceived_run_view {s : State} {p : Nat} {f : Frame} (h : s.sound p f = true) : s.SameView ((countReceived p f).run s) p := by
  have hpasses : s.passes p f = true := by
    simp only [State.sound, Bool.and_eq_true, Bool.or_eq_true, Bool.not_eq_true'] at h
    obtain ⟨⟨hgood, hsecured⟩, hreplay⟩ := h
    rw [State.passes, hgood, hreplay, State.macsecAdmits]
    rcases hsecured with hsecured | hsecured
    · simp [hsecured]
    · simp [hsecured]
  rw [countReceived, Eff.run_look, if_pos hpasses, Eff.run_all_cons, Eff.run_all_cons, Eff.run_all_cons, Eff.run_all_nil, Eff.run_when]
  split
  · exact ⟨rfl, rfl, rfl, rfl, rfl⟩
  · exact ⟨rfl, rfl, rfl, rfl, rfl⟩

theorem exec_syncFrame_adopts {s : State} {p : Nat} {f : Frame} {x : Slot} (hoperating : s.operating = true) (henabled : s.portEnabled p = true)
    (hgrove : s.groveOn (groveOf p) = true) (hsegment : s.segmentPort p = true) (hstate : s.segState p = 1) (hsound : s.sound p f = true)
    (hfind : ((s.slots p).find? fun y => y.sync && y.owner == (SyncBody.decode (protocolBody f.data)).sender && y.owner != 0) = some x)
    (hversion : (SyncBody.decode (protocolBody f.data)).version = 1) (hmode : (SyncBody.decode (protocolBody f.data)).mode = s.segMode p)
    (hdigest : (SyncBody.decode (protocolBody f.data)).digest = s.segDigest p (s.segMode p)) (hlisten : s.listenOnly p x.owner = false) :
    ∃ t, exec (.syncFrame p f) s = .next t ∧ t.segState p = 4 ∧ (t.seg p).cycle = (SyncBody.decode (protocolBody f.data)).cycle ∧
      t.n 0x3400 1 p = 1 := by
  refine ⟨_, rfl, ?_⟩
  obtain ⟨g, hg⟩ : ∃ g, g = s.atPlane p f := ⟨_, rfl⟩
  have hdata : g.data = f.data := by rw [hg]; rfl
  have hsound' : s.sound p g = true := by rw [hg]; exact hsound
  have hshapers : (Eff.when (!isSG p) (touchShapers p)).Within tables ⟨0x2000, 0x0, 0x0⟩ := Within.when (touchShapers_within (Mask.Le.refl _))
  have hsame := (countReceived_run_view hsound').trans (.of_within hshapers rfl rfl rfl ((countReceived p g).run s) p)
  have hrun : (syncFrameArrives p f).run s = (noteNumber p g).run ((syncTaken p g).run
      ((Eff.when (!isSG p) (touchShapers p)).run ((countReceived p g).run s))) := by
    rw [syncFrameArrives, Eff.run_look, ← hg, awake, Eff.run_whenS, if_pos henabled, Eff.run_look, if_pos hgrove, syncReceived, Eff.run_whenS,
      hsegment, hstate, if_pos (by decide), segmentMoves, Eff.run_all_cons, Eff.run_all_cons, Eff.run_all_cons, Eff.run_all_nil, Eff.run_seq]
  rw [operating_exec hoperating, hrun]
  generalize (Eff.when (!isSG p) (touchShapers p)).run ((countReceived p g).run s) = u at *
  have hmode' : u.segMode p = s.segMode p := hsame.port 1 4 0
  rw [syncTaken_run_adopts (hsame.segState.trans hstate) ((hsame.sound g).trans hsound') (by rw [hsame.slots, hdata]; exact hfind)
    (by rw [hdata, hversion]) (by rw [hdata, hmode, hmode']) (by rw [hdata, hdigest, hsame.segDigest, hmode'])
    ((hsame.listenOnly _).trans hlisten)]
  obtain ⟨hadopted, hcycle, hsync⟩ := adoptSegment_run p x (SyncBody.decode (protocolBody g.data)).cycle g.stamp u
  have hnoted := noteNumber_within (Mask.Le.refl _) (p := p) (f := g)
  generalize (adoptSegment p x (SyncBody.decode (protocolBody g.data)).cycle g.stamp).run u = v at *
  have hod : ((noteNumber p g).run v).od = v.od := hnoted.od_run rfl v
  rw [flush_seg, flush_n, State.segState, State.port, flush_n, hnoted.seg_run v rfl]
  have hshown (idx sub row : Nat) : ((noteNumber p g).run v).n idx sub row = v.n idx sub row := by
    simp only [State.n, State.obj, State.key, hod]
  rw [hshown, hshown]
  exact ⟨hadopted, by rw [hcycle, hdata], hsync⟩

end Sys2Proof.Machine

/-! # Segment reception stands or falls with the PHY's receive latency (R59, R136)

O26 stays open. Its first clause judges a frame at its stamp, the instant at which its last bit passes the MAC point; a port judges it at
the instant at which it crossed the reference plane (R59), earlier by `Config.phyReceiveLatency`, a constant without a value (log entry
5). Where that constant is 0 the statement holds; where it is not, a frame at the very beginning of its slot lies before the slot. So it
can be neither proved nor refuted of a constant without a value. -/

namespace Sys2Proof.Machine

/-- Where no PHY takes time, the statement of O26 holds. -/
theorem segmentReception_of_noLatency (hlatency : ∀ p, Config.phyReceiveLatency p = 0) : Obligations.SegmentReception := by
  unfold Obligations.SegmentReception
  exact ⟨fun s p sender f x hoperating _ hhears hsound hsegment hview hplace hlisten hwindow hends =>
      exec_segmentFrame_accepted (hlatency p) hoperating hhears hsound hsegment hview hplace hlisten hwindow hends,
    fun s p sender f hoperating _ hhears hsg hmode hsender hown habsent =>
      exec_segmentFrame_presents hoperating hhears hsg hmode hsender hown habsent,
    fun s p f x hoperating _ henabled hgrove hsegment hstate hsound hfind hversion hmode hdigest hlisten =>
      exec_syncFrame_adopts hoperating henabled hgrove hsegment hstate hsound hfind hversion hmode hdigest hlisten⟩

/-! ## A frame judged before its slot -/

/-- A frame that starts before the segment cycle lies in the tail. -/
theorem placement_of_neg {s : State} {p : Nat} {at' : Int} (h : at' < 0) : s.placement p at' = .tail := by
  have hnone : ((s.slots p).filter fun x => isSG p || x.owner != 0).find? (fun x =>
      decide ((x.start : Int) * (nsUnits (s.bitTime p) : Nat) ≤ at') &&
        decide (at' < (x.start + x.length : Nat) * ((nsUnits (s.bitTime p) : Nat) : Int))) = none := by
    refine List.find?_eq_none.2 fun x _ => ?_
    have hbegin : ¬ ((x.start : Int) * (nsUnits (s.bitTime p) : Nat) ≤ at') := by
      have hnat : (0 : Int) ≤ ((x.start * nsUnits (s.bitTime p) : Nat) : Int) := Int.natCast_nonneg _
      push_cast at hnat
      omega
    rw [decide_eq_false hbegin, Bool.false_and]
    exact Bool.false_ne_true
  have hbefore : (isSG p && decide (0 ≤ at') && decide (at' < s.staticEnd p * ((nsUnits (s.bitTime p) : Nat) : Int))) = false := by
    rw [decide_eq_false (Int.not_le.2 h), Bool.and_false, Bool.false_and]
  unfold State.placement
  dsimp only
  rw [hnone]
  dsimp only
  rw [if_neg]
  simpa using hbefore

theorem inCycle_of_latency (s : State) (p stamp latency : Nat) : s.inCycle p (s.frameStart p (stamp - latency)) =
    s.inCycle p (s.frameStart p stamp) - ((stamp - (stamp - latency) : Nat) : Int) := by
  rw [State.inCycle, State.inCycle, State.frameStart, State.frameStart]
  omega

/-- The mask of a frame in the tail. -/
def tailMask : Mask := ⟨0x3881b280, 0x3000000000001e000000000053fee007f8011e000000000000000000,
  0x1604a00000000000001c06003800000000010000000127ffff065000080800000⟩

/-- A frame that a port judges to lie in the tail is no slot's. -/
theorem exec_segmentFrame_tail {s : State} {p sender : Nat} {f : Frame} (hoperating : s.operating = true) (hhears : s.hears p f = true)
    (hearly : s.inCycle p (s.frameStart p (s.atPlane p { f with node := sender }).stamp) < 0) :
    ∃ t, exec (.segmentFrame p sender f) s = .next t ∧ t.counter (portItem p 12) = s.counter (portItem p 12) := by
  refine ⟨_, rfl, ?_⟩
  obtain ⟨g, bytes, hg, hrun⟩ := segmentFrameArrives_run (sender := sender) hhears
  obtain ⟨hsame, -, hfree, -⟩ := arrival_run p sender bytes s
  rw [← hg] at hearly
  rw [operating_exec hoperating, hrun]
  generalize (arrival p sender bytes).run s = u at *
  have htail : (segmentData p sender g (admitReceived p g (ingressFrame p g)) (writtenAhead p g)).run u =
      (tailFrame p sender g (admitReceived p g (ingressFrame p g))).run u := by
    unfold segmentData
    rw [Eff.run_look, hsame.inCycle, placement_of_neg hearly]
    split
    · rfl
    · rfl
  have htaken : (tailFrame p sender g (admitReceived p g (ingressFrame p g))).Within tables tailMask :=
    tailFrame_within ⟨rfl, rfl, rfl⟩ (admitReceived_within ⟨rfl, rfl, rfl⟩ (ingressFrame_within ⟨rfl, rfl, rfl⟩))
  rw [htail, flush_portItem, (noteNumber_within (Mask.Le.refl _)).keeps_portItem _ p (by decide +kernel),
    htaken.keeps_portItem u p (by decide +kernel), hfree]

/-- A module with node 9's slot at the very beginning of the segment cycle of port 4, without action offset and precision bound. -/
def boundSegment : State :=
  runningModule.withPort 4 0 1 1 |>.withPort 4 0 2 1 |>.withPort 4 1 3 5 |>.withPort 4 3 2 0 |>.withPort 4 3 3 0 |>.withPort 4 4 1 1
    |>.withPort 4 4 2 9 |>.withPort 4 4 3 0 |>.withPort 4 4 4 10000

/-- A frame that starts with that slot. -/
def firstFrame : Frame := { data := List.replicate 60 0, fcs := .good, icv := .unprotected, stamp := boundSegment.leadUnits 4 }

/-- Where the PHY of a port takes time, the statement of O26 fails. -/
theorem phyReceiveLatency_of_segmentReception (h : Obligations.SegmentReception) : Config.phyReceiveLatency 4 = 0 := by
  by_contra hlatency
  obtain ⟨hslot, -⟩ := h
  obtain ⟨t, hexec, hcounted, -⟩ := hslot boundSegment 4 9 firstFrame ⟨0, 9, 0, 10000, false, false, 0⟩ (by decide +kernel) (by decide)
    (by decide +kernel) (by decide +kernel) (by decide +kernel) (by decide +kernel) (by decide +kernel) (by decide +kernel)
    (by decide +kernel) (by decide +kernel)
  have hplane : (boundSegment.atPlane 4 { firstFrame with node := 9 }).stamp = 471859200 - Config.phyReceiveLatency 4 := by
    have hstamp : firstFrame.stamp = 471859200 := by decide +kernel
    rw [← hstamp]
    rfl
  have hstart : boundSegment.inCycle 4 (boundSegment.frameStart 4 471859200) = 0 := by decide +kernel
  have hearly : boundSegment.inCycle 4 (boundSegment.frameStart 4 (boundSegment.atPlane 4 { firstFrame with node := 9 }).stamp) < 0 := by
    rw [hplane, inCycle_of_latency, hstart]
    omega
  obtain ⟨u, hnext, hkept⟩ := exec_segmentFrame_tail (sender := 9) (by decide +kernel) (by decide +kernel) hearly
  have hsame : t = u := by
    rw [hexec] at hnext
    exact Host.Outcome.next.inj hnext
  have hnone : boundSegment.counter (portItem 4 12) = 0 := by decide +kernel
  rw [hsame, hkept, hnone] at hcounted
  exact absurd hcounted (by decide)

end Sys2Proof.Machine

end
